-- ==== Sys2Proof/Word.lean ====
section
/-! DEFINITION. The words of control space and of hub memory, and the sparse table most of the state is held in. -/

namespace Sys2Proof

/-- A byte, of a message, a flit, a page or a bus transfer. -/
abbrev Byte := BitVec 8

/-- A 32-bit word of control space (R100). -/
abbrev Word := BitVec 32

/-- A 64-bit word, of a command, a node-map entry, a buoy or a store page. -/
abbrev DWord := BitVec 64

/-- A sparse table: keys strictly rising, a value for each key that does not hold the table's default. -/
abbrev Tab (α : Type) := List (Nat × α)

/-- The value at key `k`, or the default `d` where the table lists none. -/
def Tab.read {α : Type} (d : α) : Tab α → Nat → α
  | [], _ => d
  | (j, v) :: rest, k => if k = j then v else Tab.read d rest k

/-- The table without key `k`. -/
def Tab.erase {α : Type} (t : Tab α) (k : Nat) : Tab α := t.filter fun e => e.1 != k

/-- The table with `v` listed at key `k`, before the first key above it. -/
def Tab.insert {α : Type} : Tab α → Nat → α → Tab α
  | [], k, v => [(k, v)]
  | (j, w) :: rest, k, v => if k < j then (k, v) :: (j, w) :: rest else (j, w) :: Tab.insert rest k v

/-- The table with `v` at key `k`; a value equal to the default is not listed. -/
def Tab.write {α : Type} [DecidableEq α] (d : α) (t : Tab α) (k : Nat) (v : α) : Tab α :=
  if v = d then t.erase k else (t.erase k).insert k v

/-- Every listed key lies above `b`, the keys rise strictly, and no listed value is the default. -/
def Tab.canonFrom {α : Type} [DecidableEq α] (d : α) : Tab α → Option Nat → Bool
  | [], _ => true
  | (j, v) :: rest, b =>
    (match b with | none => true | some x => decide (x < j)) && !decide (v = d) && Tab.canonFrom d rest (some j)

/-- The canonical form: equal tables are equal lists. -/
def Tab.canon {α : Type} [DecidableEq α] (d : α) (t : Tab α) : Bool := Tab.canonFrom d t none

end Sys2Proof
end

