-- ==== Sys2Proof/Syntax.lean ====
section
/-! DEFINITION. The commands: one constructor of `Instr` per row of spec/opcode_table.json, with the operands the row's
rule needs. What the environment supplies (a sample, a flit, a shell, a bus transfer, a register write) is an operand. -/

namespace Sys2Proof

/-- The class of an event (R428). -/
inductive EvClass where
  | corr | cont | fatal
  deriving DecidableEq, Repr

/-- The access paths into control space (R119): the management port and the eight culvert sidebands. -/
inductive Path where
  | mgmt
  | sb (c : Fin 8)
  deriving DecidableEq, Repr

/-- The side of a port a seat is on. -/
inductive Side where
  | tx | rx
  deriving DecidableEq, Repr

/-- A seat: its port, its side, and S00 to S17 (R155). -/
structure SeatId where
  port : Fin 16
  side : Side
  seat : Fin 18
  deriving DecidableEq, Repr

/-- What a monitor sample is of: a port's 40 channels (Table 5.5) or the Flume's 240 (R372). -/
inductive MonUnit where
  | port (p : Fin 16)
  | flume
  deriving DecidableEq, Repr

/-- An entry of a delta list (R258): a position and its new Q2.14 value. -/
structure DeltaEntry where
  row : Nat
  col : Nat
  value : Int
  deriving DecidableEq, Repr

/-- What the Leveller store's ECC reports during a solve or a refactor (R260). -/
inductive SolveFault where
  | none
  | storeCe (block : Nat)
  | factorUe (block : Nat)
  | matrixUe
  deriving DecidableEq, Repr

/-- What an interrupted store word reads as (R239). -/
inductive WordFate where
  | old | new | uncorrectable
  deriving DecidableEq, Repr

/-- The header of a received flit (Table 3.2) and whether its CRC is good. -/
structure FlitHdr where
  crcOk : Bool
  seq : BitVec 12
  ack : BitVec 12
  poison : Bool
  deriving DecidableEq, Repr

/-- The header of a received shell (Table 9.2), what each active lane's decoder reports (corrected symbols, or `none` for an
uncorrectable codeword), whether the CRC of the shell, or of the block taken (R278), matches, and whether a reserved header bit is set. -/
structure ShellHdr where
  lanes : List (Option Nat)
  crcOk : Bool
  reservedSet : Bool
  ack : BitVec 24
  seq : BitVec 24
  crHdr : BitVec 16
  crData : BitVec 24
  crTc : BitVec 2
  msgCount : Nat
  first : Nat
  fan : Bool
  kind : BitVec 2
  width : BitVec 4
  replay : Bool
  deriving DecidableEq, Repr

/-- The form of a bus transfer (R130). -/
inductive BusForm where
  | i3c | i2c
  deriving DecidableEq, Repr

/-- What starts a full reset: the pin, or a due software reset (R455, R456). -/
inductive ResetCause where
  | rstN | software
  deriving DecidableEq, Repr

/-- Where a command is taken in from: an intake queue, or the regatta (R319, R403). -/
inductive Source where
  | iq (k : Fin 64)
  | regatta
  deriving DecidableEq, Repr

/-- The pools of Table 10.7. -/
inductive Pool where
  | rpl | rxs | sts | tly
  deriving DecidableEq, Repr

/-- Why a sideband packet is discarded (R126). -/
inductive DiscardWhy where
  | crc | truncated | overflow | reservedKind | outside
  deriving DecidableEq, Repr

/-- What ECC reports of a context-cache line (R352) or of a Reservoir page (R360) read in a step. -/
inductive MemFault where
  | none
  | cacheCe | cacheUe
  | pageCe (page : Nat)
  | pageUe (page : Nat)
  deriving DecidableEq, Repr

/-- A port whose received message is taken, with what ECC reports of the page that it lies in (R360). -/
structure RxRead where
  port : Fin 16
  fault : MemFault
  deriving DecidableEq, Repr

/-- A job, with the pages whose read for it is uncorrectable: each by its number in the extent and in the Reservoir (R360). -/
structure JobRead where
  job : Nat
  lost : List (Nat × Nat)
  deriving DecidableEq, Repr

/-- What one step of a seat visit gives (Table 7.2). -/
inductive StepResult where
  | sweep
  | scanned (member : Fin 3) (hbias : Option (BitVec 16))
  | lockPoint (p : BitVec 12)
  | modBias (b : Byte)
  | capUnits (n : BitVec 5)
  | cells (c : BitVec 6)
  | checks
  | discarded
  deriving DecidableEq, Repr

/-- The commands of the block: the operations and events of spec/opcode_table.json. -/
inductive Instr where
  /-- STROKE_BOUNDARY (R38). At cycle 0 of each stroke the counter increments, control tables switch and seat state changes take effect. -/
  | strokeBoundary
  /-- ACTUATOR_SET_LIVE (R36). At cycle 960 all committed actuator values go live together. -/
  | actuatorSetLive
  /-- MONITOR_SAMPLE (R162). Monitor channels finish integration and convert to 12-bit codes by cycle 159, with bank reference, taint and over-range handling. -/
  | monitorSample (m : MonUnit) (codes : List Nat) (refBad : List Nat) (dim : BitVec 18)
  /-- SAMPLE_OVERRUN (R49). Monitor conversion not done by cycle 159 discards the sample and Rowlock holds its code. -/
  | sampleOverrun (m : MonUnit) (ch : Nat)
  /-- DEMOD_OVERRUN (R49). Lock-in demodulation not done by cycle 319 discards that seat's sample. -/
  | demodOverrun (u : SeatId)
  /-- CALSTEP_OVERRUN (R49). A calibration step not done by cycle 959 is recomputed next stroke. -/
  | calstepOverrun (u : SeatId)
  /-- ROWLOCK_DEMOD (R181). In cycles 160-319 each running seat loop computes its error sample and moves its target, or coasts. -/
  | rowlockDemod (u : SeatId)
  /-- SEAT_LOCK (R183). Four consecutive in-threshold error samples bring a seat into lock, to LOCKED or HOT_SPARE. -/
  | seatLock (u : SeatId)
  /-- LOSS_OF_LOCK (R196). Four consecutive error samples over LOL_THRESH declare loss of lock on a seat and trigger the lane drop or request. -/
  | lossOfLock (u : SeatId)
  /-- SEARCH_MEMBER_TIMEOUT (R190). SEARCH.STROKES elapsing on a member moves the seat to the next member in preference order. -/
  | searchMemberTimeout (u : SeatId) (delta : List DeltaEntry)
  /-- SEAT_WITHDRAW (R167). A seat channel over-ranging for 64 strokes withdraws the seat and moves its lane. -/
  | seatWithdraw (u : SeatId)
  /-- BANK_REF_WITHDRAW (R163). A bank reference failing for 64 consecutive strokes withdraws every seat in the bank. -/
  | bankRefWithdraw (p : Fin 16) (bank : Nat)
  /-- WITHDRAWN_SEAT_RETRY (R189). After RETRY_WD strokes a withdrawn seat leaves isolation and enters SEARCH. -/
  | withdrawnSeatRetry (u : SeatId)
  /-- LANE_OPERATIONS_ISSUE (R296). At the first shell boundary at or after cycle 960, Tolfa sends the due lane drops, adds, swaps and requests in one CTRL shell, or rewrites the map while the link is down. -/
  | laneOperationsIssue (p : Fin 16)
  /-- LANE_ADD_DEADLINE (R196). LANE_ADD not issued within 8 strokes of the LANE_DROP leaves the port narrower with LOL_NARROW. -/
  | laneAddDeadline (p : Fin 16) (lane : Nat)
  /-- DRIVER_START (R186). A locked transmit seat's modulator driver starts at the first cycle 960 that the 8-stroke gap allows. -/
  | driverStart (p : Fin 16)
  /-- DARK_IDLE_STEP (R187). Every fourth cycle 960 the dark level of a dark-idle port rises by one sixteenth. -/
  | darkIdleStep
  /-- IDLE_DARK_WRITE (R187). A write to WEI.IDLE_DARK starts the dark ramp on a port, or returns its level to 0 at the next cycle 960. -/
  | idleDarkWrite (via : Path) (data : Word)
  /-- RESTORE (R199). Writing RWL CTRL.RESTORE returns lanes to home seats in HOT_SPARE by LANE_SWAP, one per Finish. -/
  | restore (via : Path) (p : Fin 16)
  /-- SEAT_RETRY (R189). Writing a bit of RETRY_TX or RETRY_RX sends a FAILED seat back to SEARCH from its calibrated member. -/
  | seatRetry (via : Path) (p : Fin 16) (side : Side) (seats : BitVec 18)
  /-- THERMAL_SOLVE (R251). In cycles 320-959 the Leveller performs two block-Jacobi sweeps and converts the solution to drive codes. -/
  | thermalSolve (endCycle : Nat) (fault : SolveFault)
  /-- SOLVE_MISS (R255). A solve not ended by cycle 959 is abandoned and extrapolated or held according to the miss run. -/
  | solveMiss
  /-- DELTA_LIST_APPLY (R258). At cycle 1040 queued delta lists are applied to the shadow matrix and checked, and rejected lists are removed. -/
  | deltaListApply
  /-- BLOCK_REFACTOR (R259). In Recovery dirty blocks are refactored in ascending order, and finished lists are marked to go live. -/
  | blockRefactor (fault : SolveFault)
  /-- REFACTOR_CARRY (R259). A refactor not finished by cycle 1279 continues in the next Recovery. -/
  | refactorCarry
  /-- BA_WINDOW_END (R261). The end of a bundle-adjustment measurement window starts the Gauss-Newton iterations. -/
  | baWindowEnd (discarded total : Nat)
  /-- BA_ITERATION (R262). An iteration slice runs in the cycles after the thermal solve, and the run converges, is accepted or is rejected. -/
  | baIteration (pivotOk : Bool) (update : List Int)
  /-- BA_DEADLINE (R263). An iteration not ended within DEADLINE strokes ends the run with DEADLINE. -/
  | baDeadline
  /-- MARKER_START_PULSE (R42). A follower samples a start pulse and aligns its cycle 0 to it. -/
  | markerStartPulse (time : Nat)
  /-- MARKER_DECISION (R494). At cycle 464 the follower decides the stroke's marker: match, miss, CRC failure or count mismatch. -/
  | markerDecision (pulse : Bool) (count : BitVec 48) (crc : BitVec 8)
  /-- FREEWHEEL (R45). The 16th consecutive marker miss moves the follower to FREEWHEEL as a contained event. -/
  | freewheel
  /-- FWD_CLK_LOSS (R47). Loss of the forwarded reference raises FWD_CLK_LOSS and switches the follower to the backup oscillator. -/
  | fwdClkLoss
  /-- REFCLK_LOSS (R48). Loss of REFCLK on T0 raises REFCLK_LOSS and holds the PLL in holdover. -/
  | refclkLoss
  /-- REFCLK_RETURN (R48). Return of REFCLK starts re-acquisition by frequency slewing. -/
  | refclkReturn
  /-- REFCLK_REACQUIRED (R48). Completion of re-acquisition starts the 16-stroke holdover exit count. -/
  | refclkReacquired
  /-- HOLDOVER_EXIT (R48). After 16 strokes of present and re-acquired REFCLK, CKM leaves holdover. -/
  | holdoverExit
  /-- PLL_LOCK (R51). The control-clock PLL locks, and on T0 the first stroke with count 0 begins. -/
  | pllLock (refCycles : Nat)
  /-- OVR_CLR (R49). A write to STK.OVR_CLR clears the selected overrun counters. -/
  | ovrClr (via : Path) (data : Word)
  /-- HEADGATE_ENABLE (R151). Writing HG_CTRL ENABLE = 1 to a closed headgate opens it under the ramp. -/
  | headgateEnable (via : Path) (x : Fin 4) (data : Word)
  /-- HEADGATE_DISABLE (R151). Writing HG_CTRL ENABLE = 0 ramps the attenuation to 30 dB, then closes the shutter. -/
  | headgateDisable (via : Path) (x : Fin 4) (data : Word)
  /-- HEADGATE_ATTEN_WRITE (R150). A new ATTEN on an open headgate starts a ramp toward it. -/
  | headgateAttenWrite (via : Path) (x : Fin 4) (data : Word)
  /-- HEADGATE_RAMP_STEP (R150). At each cycle 960 a ramping headgate moves by STEP, and opens or closes its shutter at the ends. -/
  | headgateRampStep (x : Fin 4)
  /-- INPUT_POWER_CHECK (R153). At cycle 159 each headgate tap is checked against IN_LOW and IN_HIGH. -/
  | inputPowerCheck (x : Fin 4) (pwr leak : Int)
  /-- INPUT_LOST (R153). Four consecutive strokes below +10 dBm set the contained INPUT_LOST. -/
  | inputLost (x : Fin 4)
  /-- SHUT_FAIL (R154). A closed shutter leaking over -20 dBm for 4 strokes raises the fatal SHUT_FAIL. -/
  | shutFail (x : Fin 4)
  /-- SYN_RECAL (R158). Writing OPT CTRL.SYN_RECAL starts a synthesiser relock, or a new one from FAILED. -/
  | synRecal (via : Path) (p : Fin 16)
  /-- SYN_TUNING_OUT_OF_RANGE (R158). The tuning voltage leaving its central 80 % starts a relock. -/
  | synTuningOutOfRange (p : Fin 16)
  /-- SYN_LOCK (R159). A relocking synthesiser locks and the port resumes modulation. -/
  | synLock (p : Fin 16)
  /-- SYN_RELOCK_TIMEOUT (R159). A relock without lock after 16 strokes retries once, then goes to FAILED with SYN_FAIL. -/
  | synRelockTimeout (p : Fin 16)
  /-- DATUM_MEASURE (R207). DTM measures datum power each Catch and tracks the power scale while TRACED. -/
  | datumMeasure (pwr : Int) (locked : Bool) (scale : BitVec 16)
  /-- DATUM_DETECTED (R207). Sixteen strokes at or above -13 dBm in ABSENT start the reference-ring search. -/
  | datumDetected
  /-- DATUM_ACQUIRE_END (R207). ACQUIRE ends in TRACED when lock, power and the grid check pass, or in REJECTED on failure or after 64 strokes. -/
  | datumAcquireEnd (pwr : Int) (locked : Bool) (scale ringCode : BitVec 16) (ofs : List (Option Int))
  /-- DATUM_LOST (R207). Sixteen strokes below -13 dBm in TRACED move the datum to ABSENT. -/
  | datumLost
  /-- DATUM_REJECTED (R207). Sixteen strokes out of range or out of lock in TRACED move the datum to REJECTED. -/
  | datumRejected
  /-- DATUM_ABSENT (R207). Sixteen strokes below -13 dBm in REJECTED move the datum to ABSENT. -/
  | datumAbsent
  /-- REACQUIRE (R207). Writing DTM CTRL.REACQUIRE restarts the datum search. -/
  | reacquire (via : Path)
  /-- THERMAL_READ (R211). THM reads its 20 sensors each Catch and updates the port temperatures. -/
  | thermalRead (temps : List Int)
  /-- THM_HOT (R213). A sensor above 105 °C for 16 strokes sets the contained HOT. -/
  | thmHot (n : Nat)
  /-- THM_COLD (R213). A sensor below 0 °C for 16 strokes sets the contained COLD. -/
  | thmCold (n : Nat)
  /-- THM_TRIP (R213). A sensor at or above 115 °C for 4 strokes raises the fatal TRIP. -/
  | thmTrip (n : Nat)
  /-- VISIT_START (R220). Every BG_GAP strokes, or in a pass, a seat visit starts with its lane moved off the seat. -/
  | visitStart (u : SeatId)
  /-- VISIT_END (R224). At stroke v+47 a visit's plausible result goes live, or it fails and keeps the old values. -/
  | visitEnd (u : SeatId)
  /-- PASS_REQ (R221). Writing a CAL.PASS_REQ bit requests a full pass on a port. -/
  | passReq (via : Path) (ports : BitVec 16)
  /-- PASS_TRIGGER (R221). A port temperature moving beyond DT_TRIG from its reference requests a full pass. -/
  | passTrigger (p : Fin 16)
  /-- PASS_START (R223). A queued full pass starts when fewer than PASS_MAX passes run. -/
  | passStart (p : Fin 16)
  /-- NVS_RECORD_WRITE_START (R235). A due Tolfa record write begins into the unused slot once its spacing and the store allow. -/
  | nvsRecordWriteStart (rec : Nat)
  /-- NVS_WORD_WRITE (R235). In a Recovery slot one page word is written, with page read-back and retry at the page end. -/
  | nvsWordWrite (bad : Option (Fin 32))
  /-- NVS_WORD_DEFER (R235). A record word due while your command holds the store waits for a later Recovery. -/
  | nvsWordDefer
  /-- NVS_CMD_READ (R240). Writing NVS.CMD with OP read queues a page read into WIN. -/
  | nvsCmdRead (via : Path) (page : Nat)
  /-- NVS_CMD_WRITE (R241). Writing NVS.CMD with OP write copies BUF and writes a user page, or is refused. -/
  | nvsCmdWrite (via : Path) (page : Nat)
  /-- NVS_READ_COMPLETE (R242). A page read of yours completes and fills WIN and WIN_ECC. -/
  | nvsReadComplete (ce ue : BitVec 32)
  /-- POWER_LOSS (R239). Power fails, leaving any page write cut at one word. -/
  | powerLoss (fate : WordFate)
  /-- IDLE_FLIT (R62). An IDLE flit arrives and its ACK is taken when its CRC is good. -/
  | idleFlit (c : Fin 8) (h : FlitHdr)
  /-- TRAIN_FLIT (R89). A TRAIN flit in VERIFY is checked and counted toward 4,096 good flits. -/
  | trainFlit (c : Fin 8) (h : FlitHdr)
  /-- RDATA (R70). An RDATA flit delivers the next 120 bytes of the culvert read stream. -/
  | rdata (c : Fin 8) (h : FlitHdr) (bytes : List Byte)
  /-- WDONE (R73). A WDONE flit reports the next COUNT writes complete, releasing completions and answers. -/
  | wdone (c : Fin 8) (h : FlitHdr) (count : Nat)
  /-- RERR (R74). An RERR flit fails the next COUNT reads or writes, and their commands get a status. -/
  | rerr (c : Fin 8) (h : FlitHdr) (isWrite : Bool) (reason count : Nat)
  /-- INVAL (R86). An INVAL flit drops the named lines from the context cache, or is a protocol error. -/
  | inval (c : Fin 8) (h : FlitHdr) (lines : List Nat)
  /-- CULVERT_REPLAY_TIMEOUT (R64). Replay-timer expiry resends every unacknowledged flit from the oldest. -/
  | culvertReplayTimeout (c : Fin 8) (bufUe : Bool)
  /-- CULVERT_NO_PROGRESS (R65). Eight expiries without ACK advancing take the culvert OFFLINE and trigger remap. -/
  | culvertNoProgress (c : Fin 8)
  /-- STEER_TABLE_LIVE (R79). At the cycle 0 after a culvert loss the reassigned steering table goes live and outstanding requests are reissued. -/
  | steerTableLive
  /-- STEER_ENTRY_RETURN (R82). A steering entry returns to its reset culvert at the first cycle 0 with nothing outstanding for it. -/
  | steerEntryReturn (e : Fin 64)
  /-- CULVERT_ENABLE (R89). Changing CLV CTRL.ENABLE from 0 to 1 starts training at CLOCK. -/
  | culvertEnable (via : Path) (c : Fin 8) (data : Word)
  /-- CULVERT_DISABLE (R89). Writing ENABLE = 0 quiesces an ACTIVE culvert or aborts training to OFF. -/
  | culvertDisable (via : Path) (c : Fin 8) (data : Word)
  /-- CULVERT_RETRAIN (R89). Writing CLV CTRL.RETRAIN quiesces an ACTIVE culvert or restarts an OFF or OFFLINE one. -/
  | culvertRetrain (via : Path) (c : Fin 8) (data : Word)
  /-- CULVERT_LOOP_START (R96). Changing LOOP from 0 to 1 on an OFF disabled culvert starts near-end loopback. -/
  | culvertLoopStart (via : Path) (c : Fin 8) (data : Word)
  /-- LOOPBACK_END (R96). After LOOP_STROKES loopback ends, results go to LOOP_STAT and the culvert returns to OFF. -/
  | loopbackEnd (c : Fin 8) (fails : DWord) (sbFail : Bool)
  /-- RETURN_CLOCK_LOCK (R89). The hub return clock locks and the sideband starts for IDENT. -/
  | returnClockLock (c : Fin 8)
  /-- RETURN_CLOCK_LOSS (R89). Loss of the hub return clock in ACTIVE takes the culvert OFFLINE with CLK_LOSS. -/
  | returnClockLoss (c : Fin 8)
  /-- IDENT (R93). An IDENT sideband packet is checked in order and the culvert proceeds to DESKEW or goes OFFLINE. -/
  | ident (c : Fin 8) (cap : Word) (set : BitVec 24) (role pos : Byte)
  /-- DESKEW_RESULT (R95). A DESKEW_RESULT packet with all lanes passing moves the culvert to VERIFY, and otherwise fails it. -/
  | deskewResult (c : Fin 8) (own hub : DWord) (rate : Nat)
  /-- CULVERT_VERIFY_DONE (R89). 4,096 consecutive good TRAIN flits each way bring the culvert to ACTIVE. -/
  | culvertVerifyDone (c : Fin 8)
  /-- CULVERT_QUIESCE_DONE (R89). With nothing outstanding, a quiescing culvert goes to DESKEW or OFF. -/
  | culvertQuiesceDone (c : Fin 8)
  /-- CULVERT_TRAINING_TIMEOUT (R90). A training state exceeding its timeout sends the culvert OFFLINE. -/
  | culvertTrainingTimeout (c : Fin 8)
  /-- RD_REQ (R125). A sideband RD_REQ is performed and answered with RD_RSP. -/
  | rdReq (c : Fin 8) (tag : Byte) (addr : Nat)
  /-- WR_REQ (R125). A sideband WR_REQ is performed, or refused as LOCKED, and answered with WR_RSP. -/
  | wrReq (c : Fin 8) (tag : Byte) (addr : Nat) (data : Word)
  /-- PRIVATE_WRITE (R131). An I3C or I2C private write sets the pointer and commits each whole data word. -/
  | privateWrite (form : BusForm) (target : BitVec 7) (bytes : List Byte) (parityBad : Option Nat)
  /-- PRIVATE_READ (R133). An I3C or I2C private read returns words from the pointer upward. -/
  | privateRead (form : BusForm) (target : BitVec 7) (count : Nat)
  /-- SETDASA (R129). SETDASA assigns a dynamic address from the static address. -/
  | setdasa (target da : BitVec 7)
  /-- ENTDAA (R129). ENTDAA assigns a dynamic address by arbitration on the provisioned ID. -/
  | entdaa (da : BitVec 7)
  /-- SETNEWDA (R129). SETNEWDA changes the dynamic address. -/
  | setnewda (target da : BitVec 7)
  /-- RSTDAA (R130). RSTDAA removes the dynamic address and returns Tolfa to its static address. -/
  | rstdaa
  /-- GETPID (R129). GETPID returns the provisioned ID. -/
  | getpid (target : BitVec 7)
  /-- GETBCR (R129). GETBCR returns BCR 0x00. -/
  | getbcr (target : BitVec 7)
  /-- GETDCR (R129). GETDCR returns DCR 0x00. -/
  | getdcr (target : BitVec 7)
  /-- GETSTATUS (R129). GETSTATUS returns 0x0000. -/
  | getstatus (target : BitVec 7)
  /-- RSTACT (R137). RSTACT sets the reset action applied by the next Target Reset pattern. -/
  | rstact (target : Option (BitVec 7)) (action : Byte)
  /-- ENEC (R129). ENEC is acknowledged and has no effect. -/
  | enec (target : Option (BitVec 7))
  /-- DISEC (R129). DISEC is acknowledged and has no effect. -/
  | disec (target : Option (BitVec 7))
  /-- UNSUPPORTED_CCC (R129). A CCC not supported is NACKed when direct and ignored when broadcast. -/
  | unsupportedCcc (target : Option (BitVec 7))
  /-- TRANSFER_END (R136). A STOP or repeated START ends a transfer, discarding partial words. -/
  | transferEnd (repeated : Bool)
  /-- TARGET_RESET (R137). A Target Reset pattern applies the current reset action and returns it to 0x01. -/
  | targetReset
  /-- SCL_LOW_TIMEOUT (R136). SCL held low for 1 ms during a transfer ends it and releases SDA. -/
  | sclLowTimeout
  /-- SAMPLE_READ (R104). A read of a _LO register or of a record's first word samples the whole into the path's latch. -/
  | sampleRead (via : Path) (addr : Nat)
  /-- PAIR_LO_WRITE (R105). A write to the _LO of a writable pair is held for the path. -/
  | pairLoWrite (via : Path) (addr : Nat) (data : Word)
  /-- PAIR_HI_WRITE (R105). A write to a pair's _HI commits both halves, with a low half of 0 when none is held. -/
  | pairHiWrite (via : Path) (addr : Nat) (data : Word)
  /-- LOCK_WRITE (R116). A write to LOCK sets protection bits or, with the key, clears them. -/
  | lockWrite (via : Path) (page : Nat) (data : Word)
  /-- ERR_W1C_WRITE (R112). Writing 1 to ERR_CORR or ERR_CONT bits clears them, emptying the first-error record when all read 0. -/
  | errW1cWrite (via : Path) (page : Nat) (cls : EvClass) (data : Word)
  /-- ERR_FATAL_CLEAR (R113). Writing 1 to an ERR_FATAL bit clears it and its Umpire mirror. -/
  | errFatalClear (via : Path) (page : Nat) (data : Word)
  /-- CNT_CLR (R108). Writing CTRL.CNT_CLR sets the page's ERR_CNT to 0. -/
  | cntClr (via : Path) (page : Nat) (data : Word)
  /-- REGISTER_WRITE (R120). A write to any register without its own row is performed atomically, or refused under LOCK. -/
  | registerWrite (via : Path) (addr : Nat) (data : Word)
  /-- PEND_SAMPLE (R141). At cycle 1040 every page's PEND is sampled into GLB.PEND and the summaries at cycle 1041. -/
  | pendSample
  /-- GLB_RESET (R142). Writing GLB.RESET with the key and FULL = 1 schedules a full reset. -/
  | glbReset (via : Path) (data : Word)
  /-- FULL_RESET (R455). RST_N low for 1 µs or a due software reset puts every field at its reset value and stops light and clocks. -/
  | fullReset (cause : ResetCause)
  /-- RESET_RELEASE (R457). Release of full reset samples the straps and starts bring-up on the backup oscillator. -/
  | resetRelease (position : BitVec 2) (mode : Bool) (i3cAddr : BitVec 3)
  /-- BRINGUP_STEP_BEGIN (R459). At the first cycle 0 after a bring-up step ends, the next step begins. -/
  | bringupStepBegin
  /-- DATA_SHELL (R288). A DATA shell is accepted in sequence or discarded, with ACK and credits taken and its messages parsed. -/
  | dataShell (p : Fin 16) (h : ShellHdr) (body : List Byte)
  /-- NULL_SHELL (R282). A NULL shell supplies ACK and credits, or a dark slot is ignored. -/
  | nullShell (p : Fin 16) (h : ShellHdr) (dark : Bool)
  /-- TRAIN_SHELL (R303). A TRAIN shell drives ALIGN and VERIFY, or in ACTIVE counts toward PEER_RESET. -/
  | trainShell (p : Fin 16) (h : ShellHdr)
  /-- SHELL_BOUNDARY (R346). At each shell boundary the sender sends a DATA, NULL or CTRL shell, scheduling messages by class and padding. -/
  | shellBoundary (p : Fin 16)
  /-- ACK_POINT (R289). After 32 accepted shells or 120 cycles the receiver advances its sent ACK. -/
  | ackPoint (p : Fin 16)
  /-- SHELL_REPLAY_TIMEOUT (R291). Replay-timer expiry resends all unacknowledged DATA shells from the oldest. -/
  | shellReplayTimeout (p : Fin 16)
  /-- LINK_NO_PROGRESS (R293). Eight expiries without ACK advancing take the link down with NO_PROGRESS. -/
  | linkNoProgress (p : Fin 16)
  /-- OP_REPEAT (R280). An unanswered operation is repeated in a CTRL shell at least 8 shells after its last copy. -/
  | opRepeat (p : Fin 16)
  /-- CTRL_TIMEOUT (R281). An answered operation without RESPONSE after 16 strokes takes the link down. -/
  | ctrlTimeout (p : Fin 16)
  /-- PARAM0 (R305). The peer's PARAM0 word gives rate, FEC, MIN_LANES and identity, and is answered. -/
  | param0 (p : Fin 16) (tag : BitVec 4) (arg : BitVec 48)
  /-- PARAM_MAP (R305). The peer's PARAM_MAP word sets the receive lane map. -/
  | paramMap (p : Fin 16) (tag : BitVec 4) (arg : BitVec 48)
  /-- PARAM_CRED (R294). The peer's PARAM_CRED word gives its credit advertisement for a class. -/
  | paramCred (p : Fin 16) (tag : BitVec 4) (arg : BitVec 48)
  /-- LANE_DROP (R296). A received LANE_DROP narrows the receive width from the next shell and is answered. -/
  | laneDrop (p : Fin 16) (tag : BitVec 4) (arg : BitVec 48)
  /-- LANE_ADD (R296). A received LANE_ADD widens the receive width, or is refused when the line is not a free spare. -/
  | laneAdd (p : Fin 16) (tag : BitVec 4) (arg : BitVec 48)
  /-- LANE_SWAP (R298). A received LANE_SWAP takes the lane from the new line, or is refused. -/
  | laneSwap (p : Fin 16) (tag : BitVec 4) (arg : BitVec 48)
  /-- DROP_REQ (R299). A peer's DROP_REQ makes Tolfa drop that transmit lane. -/
  | dropReq (p : Fin 16) (tag : BitVec 4) (arg : BitVec 48)
  /-- SWAP_REQ (R299). A peer's SWAP_REQ makes Tolfa swap or drop that transmit lane at its next Finish. -/
  | swapReq (p : Fin 16) (tag : BitVec 4) (arg : BitVec 48)
  /-- RX_SEATS (R193). A peer's RX_SEATS word updates which lines are free spares. -/
  | rxSeats (p : Fin 16) (tag : BitVec 4) (arg : BitVec 48)
  /-- RESPONSE (R297). A RESPONSE completes an operation, re-forming after width changes or handling refusals. -/
  | response (p : Fin 16) (tag : BitVec 4) (arg : BitVec 48)
  /-- PAUSE (R302). A received PAUSE stops the receiver's timers against the peer. -/
  | pause (p : Fin 16) (tag : BitVec 4) (arg : BitVec 48)
  /-- RESUME (R302). A received RESUME restarts the receiver's timers against the peer. -/
  | resume (p : Fin 16) (tag : BitVec 4) (arg : BitVec 48)
  /-- PAUSE_LONG (R302). A peer pause lasting 64 strokes resumes the timers and sets PAUSE_LONG. -/
  | pauseLong (p : Fin 16)
  /-- DRAIN_REQ (R306). A received DRAIN_REQ in ACTIVE is answered and the link enters DRAIN. -/
  | drainReq (p : Fin 16) (tag : BitVec 4) (arg : BitVec 48)
  /-- DRAINED (R306). Receiving DRAINED after sending it sends RESET and returns the link to WAIT. -/
  | drained (p : Fin 16) (tag : BitVec 4) (arg : BitVec 48)
  /-- DRAINED_SEND (R306). Once every sent DATA shell is acknowledged in DRAIN, Tolfa sends DRAINED. -/
  | drainedSend (p : Fin 16)
  /-- RESET (R303). A received RESET control word returns a training link to WAIT or takes an ACTIVE one down. -/
  | reset (p : Fin 16) (tag : BitVec 4) (arg : BitVec 48)
  /-- FAN_ENTER (R384). A member receives FAN_ENTER and reserves fan receive space or refuses. -/
  | fanEnter (p : Fin 16) (tag : BitVec 4) (arg : BitVec 48)
  /-- FAN_EXIT (R384). A member receives FAN_EXIT, frees the fan space and answers. -/
  | fanExit (p : Fin 16) (tag : BitVec 4) (arg : BitVec 48)
  /-- FAN_ACK (R311). A FAN_ACK word gives the ACK for this port's unicast receive during a fan. -/
  | fanAck (p : Fin 16) (tag : BitVec 4) (arg : BitVec 48)
  /-- FAN_CRED (R311). A FAN_CRED word returns this port's unicast credits during a fan. -/
  | fanCred (p : Fin 16) (tag : BitVec 4) (arg : BitVec 48)
  /-- LINK_WAIT_DONE (R303). With the synthesiser locked and MIN_LANES seats ready, a WAIT link starts TRAIN shells in ALIGN. -/
  | linkWaitDone (p : Fin 16)
  /-- LINK_VERIFY_DONE (R303). 256 good TRAIN shells each way bring the link to ACTIVE with counts reset. -/
  | linkVerifyDone (p : Fin 16)
  /-- LINK_TRAINING_TIMEOUT (R304). A training state exceeding its timeout sends the link DOWN with TRAIN_FAIL. -/
  | linkTrainingTimeout (p : Fin 16)
  /-- DRAIN_TIMEOUT (R304). DRAIN exceeding 2,048 strokes takes the link down with reason DRAIN. -/
  | drainTimeout (p : Fin 16)
  /-- LINK_LOS (R307). Loss of signal on every receive lane for 16 strokes is a link-down condition. -/
  | linkLos (p : Fin 16)
  /-- LINK_DOWN (R307). At the cycle 0 after a link-down condition, traffic is dropped, commands complete LINK_DOWN, and the port enters DOWN. -/
  | linkDown (p : Fin 16)
  /-- LINK_RETRAIN (R303). Writing LNK CTRL.RETRAIN moves an OFF or DOWN link to WAIT. -/
  | linkRetrain (via : Path) (p : Fin 16) (data : Word)
  /-- LINK_RESET (R306). Writing LNK CTRL.RESET starts an orderly reset through DRAIN. -/
  | linkReset (via : Path) (p : Fin 16) (data : Word)
  /-- LINK_DISABLE (R303). Writing DISABLE = 1 takes the link to OFF, with link-down actions from ACTIVE or DRAIN. -/
  | linkDisable (via : Path) (p : Fin 16) (data : Word)
  /-- AUTO_RETRAIN (R303). With AUTO_RETRAIN = 1, after 64 strokes in DOWN the link enters WAIT. -/
  | autoRetrain (p : Fin 16)
  /-- FAN_MEMBER_LOST (R312). A fan member without ACK progress over 8 expiries, or whose link goes down, is removed. -/
  | fanMemberLost (k : Fin 8) (p : Fin 16)
  /-- IQ_DOORBELL (R317). Writing IQk_TAIL announces new commands, or keeps the old TAIL with DOORBELL. -/
  | iqDoorbell (via : Path) (k : Fin 64) (data : Word)
  /-- IQ_ENABLE (R318). Changing IQk ENABLE from 0 to 1 zeroes HEAD and TAIL and restarts a stopped queue. -/
  | iqEnable (via : Path) (k : Fin 64) (data : Word)
  /-- IQ_DISABLE (R325). Writing IQk ENABLE = 0 stops intake and removes the wait-slot command. -/
  | iqDisable (via : Path) (k : Fin 64) (data : Word)
  /-- OQ_ENABLE (R321). Enabling an outfall queue starts a new enablement period with PHASE 1. -/
  | oqEnable (via : Path) (k : Fin 64) (data : Word)
  /-- OQ_DISABLE (R326). Disabling an outfall queue makes its outstanding completions discarded when due. -/
  | oqDisable (via : Path) (k : Fin 64) (data : Word)
  /-- NOP (R328). A NOP command completes, after any buoy wait. -/
  | nop (q : Source)
  /-- SEND (R337). A SEND reads local data, cuts it into SEND_DATA messages and completes on XFER_DONE. -/
  | send (q : Source) (fault : MemFault)
  /-- FETCH (R340). A FETCH sends a FETCH_REQ and writes the returned data at LOCAL. -/
  | fetch (q : Source)
  /-- SCATTER (R329). A SCATTER runs each list entry as a send transfer in order. -/
  | scatter (q : Source)
  /-- GATHER (R329). A GATHER runs each list entry as a fetch transfer in order. -/
  | gather (q : Source)
  /-- BUOY (R362). A BUOY command sets or adds to a local buoy, or sends a BUOY_OP to DEST. -/
  | buoy (q : Source)
  /-- FENCE (R332). A FENCE occupies the wait slot until earlier commands of its queue complete. -/
  | fence (q : Source)
  /-- FENCE_COMPLETE (R332). Once every earlier command of its queue has completed, a FENCE completes with DONE. -/
  | fenceComplete (k : Fin 64)
  /-- WAIT_RELEASE (R365). A command waiting on a buoy is released when the buoy reaches WTHRESH. -/
  | waitRelease (q : Source)
  /-- BACKWATER_RELEASE (R348). At cycle 0 held commands whose port is TX_READY are released in entry order. -/
  | backwaterRelease
  /-- HELD_EXPIRED (R348). A held command reaching its HOLD limit completes with HELD_EXPIRED. -/
  | heldExpired
  /-- SEND_DATA (R338). A SEND_DATA message lands in the sender's window at the transfer cursor, or is denied. -/
  | sendData (rx : RxRead)
  /-- FETCH_REQ (R340). A FETCH_REQ is checked against the window and answered with FETCH_DATA or XFER_DONE. -/
  | fetchReq (p : Fin 16)
  /-- FETCH_DATA (R340). FETCH_DATA is written at LOCAL in order for the requesting FETCH. -/
  | fetchData (rx : RxRead)
  /-- XFER_DONE (R339). An XFER_DONE answers the oldest unanswered transfer and completes its command. -/
  | xferDone (p : Fin 16)
  /-- BUOY_OP (R341). A received BUOY_OP sets or adds to a local buoy when the window allows it. -/
  | buoyOp (p : Fin 16)
  /-- CC_INVALIDATE_LINES (R351). Writing CC_INVAL_CMD with COUNT drops those context-cache lines. -/
  | ccInvalidateLines (via : Path) (data : Word)
  /-- CC_INVALIDATE_ALL (R351). Writing CC_INVAL_CMD with ALL = 1 drops every context-cache line. -/
  | ccInvalidateAll (via : Path) (data : Word)
  /-- CC_INVALIDATE_DONE (R351). An invalidation finishes and CC_STAT.BUSY falls. -/
  | ccInvalidateDone
  /-- POOL_LIMIT_WRITE (R355). A pool floor or ceiling write is taken or kept, and a lowered STS ceiling starts spilling. -/
  | poolLimitWrite (via : Path) (pool : Pool) (data : Word)
  /-- PAGE_OUT (R358). Headroom below PRESSURE pages out resident STS pages, oldest first, to their targets. -/
  | pageOut (fault : MemFault)
  /-- POOL_EXHAUSTED (R359). A stash or reduction without a page after WAIT_MAX strokes completes with POOL_EXHAUSTED. -/
  | poolExhausted (job : Nat)
  /-- BUOY_SET_WRITE (R363). A write to BUO.VALk_HI sets buoy k to the pair value. -/
  | buoySetWrite (via : Path) (k : Fin 64) (hi : Word)
  /-- BUOY_ADD_WRITE (R363). A write to BUO.ADD_HI adds the pair to buoy ADD_SEL. -/
  | buoyAddWrite (via : Path) (hi : Word)
  /-- FLUME_APPLY (R378). Writing FLM CTRL.APPLY requests the XBAR base map, or refuses it. -/
  | flumeApply (via : Path) (data : Word)
  /-- FLUME_CHANGE_START (R374). A queued configuration change starts when none runs and no window is open. -/
  | flumeChangeStart
  /-- FLUME_CHANGE_END (R376). At c+32 a change completes after verification, or rolls back. -/
  | flumeChangeEnd (tapsOk : Bool)
  /-- MZI_DITHER (R391). Each unheld MZI dither loop corrects its internal phase each stroke. -/
  | mziDither (z : Nat) (err : Int)
  /-- FLUME_DRIFT (R391). A dither error over DRIFT_THRESH for 4 strokes sets DRIFT and requests an early run. -/
  | flumeDrift (z : Nat)
  /-- MZI_HELD (R393). A Flume channel over-ranging for 64 strokes holds its MZI and isolates the channel. -/
  | mziHeld (ch : Nat)
  /-- REEST_WINDOW_OPEN (R392). Every REEST_INTERVAL strokes an in-service measurement window opens. -/
  | reestWindowOpen
  /-- FAN_ENTER_WRITE (R380). Writing FANk_CTRL.ENTER requests fan entry for the slot. -/
  | fanEnterWrite (via : Path) (k : Fin 8)
  /-- FAN_ENTRY_CHECK (R380). At the next cycle 0 the fan request is checked and the slot enters QUIESCE or returns to IDLE. -/
  | fanEntryCheck
  /-- FAN_QUIESCE_DONE (R382). Once member unicast is acknowledged, FAN_ENTER is sent on every member. -/
  | fanQuiesceDone (k : Fin 8)
  /-- FAN_QUIESCE_TIMEOUT (R382). A quiesce not finished in 64 strokes returns the slot to IDLE with QUIESCE. -/
  | fanQuiesceTimeout (k : Fin 8)
  /-- FAN_EXIT_WRITE (R388). Writing FANk_CTRL.EXIT puts an ACTIVE slot in DRAIN. -/
  | fanExitWrite (via : Path) (k : Fin 8)
  /-- FAN_DRAIN_DONE (R388). Once every fan shell is acknowledged, FAN_EXIT is sent and the fibres return to the base map. -/
  | fanDrainDone (k : Fin 8)
  /-- FAN_DRAIN_TIMEOUT (R388). A member not acknowledging within 2,048 strokes of DRAIN is removed. -/
  | fanDrainTimeout (k : Fin 8) (p : Fin 16)
  /-- REDUCE (R414). A REDUCE adds exact squares of local elements into the round's accumulator. -/
  | reduce (q : Source)
  /-- STASH (R410). A STASH encodes hub data with a Sieve codec into STS pages of an extent. -/
  | stash (q : Source)
  /-- STASH_ENCODE_END (R410). Encoding ends and the STASH completes, or writes through to the target when PERSIST = 1. -/
  | stashEncodeEnd (read : JobRead)
  /-- UNSTASH (R412). An UNSTASH reads an extent from STS or its target. -/
  | unstash (q : Source)
  /-- UNSTASH_VERIFY (R412). The restored extent is checked and the UNSTASH completes DONE, BAD_COMMAND or STASH_CORRUPT. -/
  | unstashVerify (read : JobRead)
  /-- EXTENT_RETIRE (R413). Writing STH.RETIRE with an ID retires that extent and frees its pages. -/
  | extentRetire (via : Path) (id : Nat)
  /-- EXTENT_RETIRE_ALL (R413). Writing STH.RETIRE.ALL retires every extent. -/
  | extentRetireAll (via : Path)
  /-- TALLY_IMG (R417). A child's TALLY_IMG is added to the round's accumulator, or discarded as stray. -/
  | tallyImg (p : Fin 16)
  /-- TALLY_IMG_SEND (R417). Once local parts and all child images are added, the node sends its image, or the root rounds. -/
  | tallyImgSend (round : Nat)
  /-- TALLY_RES (R419). A TALLY_RES sets the result buoys, is forwarded to children and completes local REDUCEs. -/
  | tallyRes (p : Fin 16)
  /-- TALLY_ABORT (R420). Writing TLY.ABORT fails the round and completes its REDUCEs. -/
  | tallyAbort (via : Path) (round : Nat)
  /-- RGT_START (R400). RGT_START reads the program and starts a regatta run. -/
  | rgtStart (q : Source)
  /-- RGT_ISSUE (R403). After transfer i leaves the wait slot the regatta issues transfer i+1 from its template. -/
  | rgtIssue
  /-- RGT_STOP (R404). RGT_STOP ends a run, discarding its waiting transfer. -/
  | rgtStop (q : Source)
  /-- SWAP (R424). SWAP writes the failed node's entry with the spare's ports and a new epoch. -/
  | swap (q : Source)
  /-- SWAP_LIVE (R424). After both entry writes are reported, the swap goes live at cycle 0 and stale commands complete. -/
  | swapLive
  /-- SAFE_STATE_ENTRY (R433). The Umpire declares the safe state in the cycle after a rail pair is asserted. -/
  | safeStateEntry
  /-- RAIL_MISMATCH (R432). A rail pair equal in two consecutive cycles raises RAIL_MISMATCH. -/
  | railMismatch (page : Nat) (cycles : Nat)
  /-- SELF_PARITY (R434). A parity fault in the Umpire seals it and enters the safe state. -/
  | selfParity
  /-- FATAL_RERAISE (R430). A cleared fatal bit whose condition is still present is raised again in the next cycle. -/
  | fatalReraise (page bit : Nat)
  /-- UMP_EXIT (R438). Writing UMP.CTRL.EXIT requests an exit decided at the next cycle 0. -/
  | umpExit (via : Path)
  /-- SAFE_STATE_EXIT (R435). At cycle 0 the Umpire leaves SAFE when SRC reads 0, or sets EXIT_DENIED. -/
  | safeStateExit
  /-- FIRST_CLR (R444). Writing UMP.CTRL.FIRST_CLR empties UMP.FIRST. -/
  | firstClr (via : Path)
  /-- STAT_CLR (R447). Writing UMP.CTRL.STAT_CLR zeroes FATAL_CNT and GLITCH_CNT. -/
  | statClr (via : Path)
  /-- LVL_STAT_CLR (R254). Writing LVL CTRL.STAT_CLR zeroes the Leveller statistics counters. -/
  | lvlStatClr (via : Path)
  /-- LOGBOOK_WRITE (R442). In Recovery slots queued events are written to the logbook in order of acceptance. -/
  | logbookWrite
  /-- LOG_CARRY (R49). A logbook queue not drained by cycle 1279 carries over to the next Recovery. -/
  | logCarry
  /-- TAP_RESET (R490). TRST_N, five TMS-high clocks or VDD_IO rising reset the TAP to IDCODE. -/
  | tapReset
  /-- EXTEST (R486). EXTEST drives ALIVE and SDA from the boundary register and detaches the management port. -/
  | extest (cells : BitVec 14)
  /-- SAMPLE_PRELOAD (R485). SAMPLE/PRELOAD captures and loads the boundary register. -/
  | samplePreload (captured loaded : BitVec 14)
  /-- IDCODE (R484). IDCODE selects the 32-bit identification register. -/
  | idcode
  /-- CLAMP (R486). CLAMP drives outputs from the boundary register with bypass selected. -/
  | clamp
  /-- HIGHZ (R486). HIGHZ releases ALIVE and SDA with bypass selected. -/
  | highz
  /-- CULVERT_LOOP (R487). CULVERT_LOOP starts loopback on every culvert when MODE = 0, PLL locked and none ACTIVE, or is refused. -/
  | culvertLoop
  /-- SCAN_STAT (R488). SCAN_STAT captures the die's status word at Capture-DR. -/
  | scanStat
  /-- BYPASS (R484). BYPASS and any unlisted code select the one-bit bypass register. -/
  | bypass
  /-- RESERVED_OPCODE (R330). A command taken in with a reserved opcode completes at once with BAD_COMMAND, reason 1. -/
  | reservedOpcode (q : Source)
  /-- DISCARDED_SIDEBAND_PACKET (R126). A sideband packet with a failed CRC, truncated, of reserved or disallowed KIND, outside R118 or over the 16-request limit is discarded whole and counted. -/
  | discardedSidebandPacket (c : Fin 8) (why : DiscardWhy)
  /-- RESERVED_FLIT_TYPE (R59). A good-CRC flit of reserved type, or of a type not permitted from the hub, is a protocol error that takes the culvert OFFLINE. -/
  | reservedFlitType (c : Fin 8) (h : FlitHdr) (type : BitVec 4)
  /-- RESERVED_CONTROL_OP (R279). A control word in an accepted CTRL shell with an OP absent from Table 9.3 is a protocol error that takes the link down with PROTOCOL. -/
  | reservedControlOp (p : Fin 16) (op : Byte)
  /-- CALIBRATION_STEP (R224). In cycles 320-959 of each stroke of a seat visit the calibration sequencer computes the visit's step, including member scans, lock point, ICAP, HCELL and the plausibility checks, and sends the delta list at stroke v+46. -/
  | calibrationStep (u : SeatId) (r : StepResult) (delta : List DeltaEntry)
  deriving DecidableEq, Repr

end Sys2Proof
end

