-- ==== Sys2Proof/Machine/Bits.lean ====
section
/-! DEFINITION. Bit fields, signed values, byte order and the CRCs of the spec. -/

namespace Sys2Proof.Machine

/-- Bits `hi:lo` of a number. -/
def bits (v hi lo : Nat) : Nat := v / 2 ^ lo % 2 ^ (hi - lo + 1)

/-- Whether bit `i` is 1. -/
def bitAt (v i : Nat) : Bool := v / 2 ^ i % 2 == 1

/-- 1 or 0. -/
def ofBool (b : Bool) : Nat := if b then 1 else 0

/-- The number with bit `i` set. -/
def setBit (v i : Nat) : Nat := if bitAt v i then v else v + 2 ^ i

/-- The number with bit `i` clear. -/
def clearBit (v i : Nat) : Nat := if bitAt v i then v - 2 ^ i else v

/-- The number with the bits of `m` cleared (W1C, Table 0.4), as 32-bit words. -/
def clearMask (v m : Nat) : Nat := ((BitVec.ofNat 32 v) &&& ~~~(BitVec.ofNat 32 m)).toNat

/-- The bits of a list of bit numbers. -/
def maskOf (l : List Nat) : Nat := l.foldl setBit 0

/-- The numbers below `n` whose bit is set. -/
def setBits (n v : Nat) : List Nat := (List.range n).filter (bitAt v)

/-- How many of the low `n` bits are set. -/
def countBits (n v : Nat) : Nat := (setBits n v).length

/-- A field value of `w` bits as two's complement. -/
def signedOf (w v : Nat) : Int := if v < 2 ^ (w - 1) then (v : Int) else (v : Int) - 2 ^ w

/-- The `w` bits of an integer in two's complement. -/
def bitsOfInt (w : Nat) (v : Int) : Nat := (v % (2 : Int) ^ w).toNat

/-- An integer held within two bounds. -/
def clampInt (lo hi v : Int) : Int := if v < lo then lo else if hi < v then hi else v

/-- The low byte of a number. -/
def byteOf (v : Nat) : Byte := BitVec.ofNat 8 v

/-- `n` bytes of a number, least significant first (R4). -/
def toBytes : Nat → Nat → List Byte
  | 0, _ => []
  | n + 1, v => byteOf v :: toBytes n (v / 256)

/-- The number of a byte list, least significant first (R4). -/
def ofBytes : List Byte → Nat
  | [] => 0
  | b :: rest => b.toNat + 256 * ofBytes rest

/-- 64-bit little-endian words of a byte list; a rest shorter than 8 bytes is dropped. -/
def wordsOf (n : Nat) (bs : List Byte) : List DWord :=
  (List.range n).map fun i => BitVec.ofNat 64 (ofBytes ((bs.drop (8 * i)).take 8))

/-- The bytes of 64-bit words, little-endian. -/
def bytesOfWords (ws : List DWord) : List Byte := ws.flatMap fun w => toBytes 8 w.toNat

/-- Word `i` of a command or an entry, 0 where the list is shorter. -/
def wordAt (ws : List DWord) (i : Nat) : Nat := (ws.getD i 0).toNat

/-- The list with element `i` replaced. -/
def setAt {α : Type} (l : List α) (i : Nat) (a : α) : List α := l.set i a

/-- One step of the marker's CRC-8 register (R493). -/
def crc8Step (r : BitVec 8) (b : Bool) : BitVec 8 :=
  if xor (r.getLsbD 0) b then (r >>> 1) ^^^ 0xE0#8 else r >>> 1

/-- The CRC-8 of a stroke count, bit 0 first (R493). -/
def crc8 (count : BitVec 48) : BitVec 8 :=
  (List.range 48).foldl (fun r i => crc8Step r (count.getLsbD i)) 0#8

/-- One byte of the sideband CRC-16: polynomial 0x1021, no reflection (R123). -/
def crc16Byte (r : BitVec 16) (b : Byte) : BitVec 16 :=
  (List.range 8).foldl (fun x _ => if x.getLsbD 15 then (x <<< 1) ^^^ 0x1021#16 else x <<< 1)
    (r ^^^ ((b.setWidth 16) <<< 8))

/-- The CRC-16 of a byte list, initial value 0xFFFF, no final XOR (R123). -/
def crc16 (bs : List Byte) : BitVec 16 := bs.foldl crc16Byte 0xFFFF#16

/-- One byte of the CRC-32, reflected (R58). -/
def crc32Byte (r : Word) (b : Byte) : Word :=
  (List.range 8).foldl (fun x _ => if x.getLsbD 0 then (x >>> 1) ^^^ 0xEDB88320#32 else x >>> 1) (r ^^^ b.setWidth 32)

/-- The CRC-32 register after a byte list, without the final XOR. -/
def crc32From (r : Word) (bs : List Byte) : Word := bs.foldl crc32Byte r

/-- The CRC-32 of a byte list (R58). -/
def crc32 (bs : List Byte) : Word := crc32From 0xFFFFFFFF#32 bs ^^^ 0xFFFFFFFF#32

end Sys2Proof.Machine
end

