-- ==== Sys2Proof/Machine/RegMap.lean ====
section
/-! DEFINITION. The register map of control space, row by row as the register tables of spec/ give it
(Tables 2.7, 2.8, 3.11, 4.2, 4.3, 4.4, 4.10, 4.11, 5.9, 5.10, 6.5, 6.6, 7.9 to 7.12, 8.8, 9.11, 10.11 to 10.13, 11.9,
12.11 to 12.14, 13.8, 13.9): named fields for the meanings, and per block the rows a generic access works from. -/

namespace Sys2Proof.Machine

/-- One field of one register: its page, its offset in the page, its bits, and its reset value (R12). -/
structure Field where
  page : Nat
  off : Nat
  hi : Nat
  lo : Nat
  reset : Nat
  deriving DecidableEq, Repr

/-- The key a field is stored under: its byte address, with its lowest bit beside it. -/
def Field.key (f : Field) : Nat := (f.page * 0x1000 + f.off) * 32 + f.lo

/-- How many bits the field has. -/
def Field.width (f : Field) : Nat := f.hi - f.lo + 1

/-- An access type of Table 0.4 (W1S occurs in no table of the spec). -/
inductive Acc where
  | ro | rw | w1c | wo
  deriving DecidableEq, Repr

/-- A field as a generic access sees it: bits, access type, reset value, and the values R11 lets it take. -/
structure FieldRow where
  hi : Nat
  lo : Nat
  acc : Acc
  reset : Nat
  min : Nat
  max : Nat
  deriving DecidableEq, Repr

/-- A register, or `count` like registers `stride` bytes apart. -/
structure RegRow where
  off : Nat
  count : Nat
  stride : Nat
  fields : List FieldRow
  deriving DecidableEq, Repr

/-- The blocks of Table 4.1. -/
inductive Block where
  | glb | stk | ckm | ump | log | nvs | cal | lvl | flm | rsv | cox | buo | rgt | sth | tly | bth | mgt | thm
  | hgt | wei | dtm | clv | lnk | opt | rwl
  deriving DecidableEq, Repr

/-- An event kind: its page, its class, and its bit in the page's ERR register of that class (Table 13.1). -/
structure ErrCode where
  page : Nat
  cls : EvClass
  bit : Nat
  deriving DecidableEq, Repr

/-- The block a page belongs to, or none where Table 4.1 has no such page (R101, R102). -/
def blockOf (page : Nat) : Option Block :=
  match page with
  | 0 => some .glb
  | 1 => some .stk
  | 2 => some .ckm
  | 3 => some .ump
  | 4 => some .log
  | 5 => some .nvs
  | 6 => some .cal
  | 7 => some .lvl
  | 8 => some .flm
  | 9 => some .rsv
  | 10 => some .cox
  | 11 => some .buo
  | 12 => some .rgt
  | 13 => some .sth
  | 14 => some .tly
  | 15 => some .bth
  | 16 => some .mgt
  | 17 => some .thm
  | 18 => some .hgt
  | 19 => some .wei
  | 20 => some .dtm
  | _ =>
    if 0x020 ≤ page ∧ page ≤ 0x027 then some .clv
    else if 0x040 ≤ page ∧ page ≤ 0x04F then some .lnk
    else if 0x060 ≤ page ∧ page ≤ 0x06F then some .opt
    else if 0x080 ≤ page ∧ page ≤ 0x08F then some .rwl
    else none

/-- The page of a block's first instance, which is also its block type (R101). -/
def Block.type : Block → Nat
  | .glb => 0x000
  | .stk => 0x001
  | .ckm => 0x002
  | .ump => 0x003
  | .log => 0x004
  | .nvs => 0x005
  | .cal => 0x006
  | .lvl => 0x007
  | .flm => 0x008
  | .rsv => 0x009
  | .cox => 0x00a
  | .buo => 0x00b
  | .rgt => 0x00c
  | .sth => 0x00d
  | .tly => 0x00e
  | .bth => 0x00f
  | .mgt => 0x010
  | .thm => 0x011
  | .hgt => 0x012
  | .wei => 0x013
  | .dtm => 0x014
  | .clv => 0x020
  | .lnk => 0x040
  | .opt => 0x060
  | .rwl => 0x080

/-- Every page of Table 4.1, in ascending order. -/
def allPages : List Nat :=
  (List.range 0x15) ++ (List.range 8).map (0x020 + ·) ++ (List.range 16).map (0x040 + ·) ++
    (List.range 16).map (0x060 + ·) ++ (List.range 16).map (0x080 + ·)

/-! ## Named fields -/

/-- CTRL.MASK_ATTN of page `pg` (Table 4.3). -/
def Reg.CTRL_MASK_ATTN (pg : Nat) : Field := ⟨pg, 0x004, 1, 1, 0⟩
/-- CTRL.MASK_CORR of page `pg` (Table 4.3). -/
def Reg.CTRL_MASK_CORR (pg : Nat) : Field := ⟨pg, 0x004, 0, 0, 0⟩
/-- SCRATCH of page `pg` (Tables 4.2, 4.4). -/
def Reg.SCRATCH (pg : Nat) : Field := ⟨pg, 0x030, 31, 0, 0⟩
/-- ERR_CORR of page `pg` (Tables 4.2, 4.4). -/
def Reg.ERR_CORR (pg : Nat) : Field := ⟨pg, 0x010, 31, 0, 0⟩
/-- ERR_CONT of page `pg` (Tables 4.2, 4.4). -/
def Reg.ERR_CONT (pg : Nat) : Field := ⟨pg, 0x014, 31, 0, 0⟩
/-- ERR_FATAL of page `pg` (Tables 4.2, 4.4). -/
def Reg.ERR_FATAL (pg : Nat) : Field := ⟨pg, 0x018, 31, 0, 0⟩
/-- CNT_MERGED of page `pg` (Tables 4.2, 4.4). -/
def Reg.CNT_MERGED (pg : Nat) : Field := ⟨pg, 0x01c, 31, 24, 0⟩
/-- CNT_CONT of page `pg` (Tables 4.2, 4.4). -/
def Reg.CNT_CONT (pg : Nat) : Field := ⟨pg, 0x01c, 23, 16, 0⟩
/-- CNT_CORR of page `pg` (Tables 4.2, 4.4). -/
def Reg.CNT_CORR (pg : Nat) : Field := ⟨pg, 0x01c, 15, 0, 0⟩
/-- LOCK_DENIED of page `pg` (Tables 4.2, 4.4). -/
def Reg.LOCK_DENIED (pg : Nat) : Field := ⟨pg, 0x034, 15, 8, 0⟩
/-- LOCK_HUB_ONLY of page `pg` (Tables 4.2, 4.4). -/
def Reg.LOCK_HUB_ONLY (pg : Nat) : Field := ⟨pg, 0x034, 1, 1, 0⟩
/-- LOCK_WP of page `pg` (Tables 4.2, 4.4). -/
def Reg.LOCK_WP (pg : Nat) : Field := ⟨pg, 0x034, 0, 0, 0⟩
def Reg.STK.STAT_BACKUP : Field := ⟨0x001, 0x008, 5, 5, 0⟩
def Reg.STK.STAT_HOLDOVER : Field := ⟨0x001, 0x008, 4, 4, 0⟩
def Reg.STK.STAT_SYNC : Field := ⟨0x001, 0x008, 3, 2, 0⟩
def Reg.STK.STAT_MASTER : Field := ⟨0x001, 0x008, 1, 1, 0⟩
def Reg.STK.STAT_RUNNING : Field := ⟨0x001, 0x008, 0, 0, 0⟩
def Reg.STK.COUNT_LO : Field := ⟨0x001, 0x040, 31, 0, 0⟩
def Reg.STK.COUNT_HI : Field := ⟨0x001, 0x044, 15, 0, 0⟩
def Reg.STK.CYCLE_PHASE : Field := ⟨0x001, 0x048, 17, 16, 0⟩
def Reg.STK.CYCLE_CYCLE : Field := ⟨0x001, 0x048, 10, 0, 0⟩
def Reg.STK.OVR0_CALSTEP : Field := ⟨0x001, 0x050, 31, 24, 0⟩
def Reg.STK.OVR0_SOLVE : Field := ⟨0x001, 0x050, 23, 16, 0⟩
def Reg.STK.OVR0_DEMOD : Field := ⟨0x001, 0x050, 15, 8, 0⟩
def Reg.STK.OVR0_SAMPLE : Field := ⟨0x001, 0x050, 7, 0, 0⟩
def Reg.STK.OVR1_LOG : Field := ⟨0x001, 0x054, 31, 24, 0⟩
def Reg.STK.OVR1_NVS : Field := ⟨0x001, 0x054, 23, 16, 0⟩
def Reg.STK.OVR1_REFACTOR : Field := ⟨0x001, 0x054, 15, 8, 0⟩
def Reg.STK.OVR1_MESH : Field := ⟨0x001, 0x054, 7, 0, 0⟩
def Reg.STK.OVR_CLR : Field := ⟨0x001, 0x058, 7, 0, 0⟩
def Reg.STK.MISS_CNT_CONSEC : Field := ⟨0x001, 0x05c, 23, 16, 0⟩
def Reg.STK.MISS_CNT_TOTAL : Field := ⟨0x001, 0x05c, 15, 0, 0⟩
def Reg.CKM.STAT_OUT_ACTIVE : Field := ⟨0x002, 0x008, 8, 4, 0⟩
def Reg.CKM.STAT_BACKUP_OSC : Field := ⟨0x002, 0x008, 3, 3, 0⟩
def Reg.CKM.STAT_HOLDOVER : Field := ⟨0x002, 0x008, 2, 2, 0⟩
def Reg.CKM.STAT_PLL_LOCK : Field := ⟨0x002, 0x008, 1, 1, 0⟩
def Reg.CKM.STAT_REF_PRESENT : Field := ⟨0x002, 0x008, 0, 0, 0⟩
def Reg.CKM.LOCK_TIME : Field := ⟨0x002, 0x040, 15, 0, 0⟩
def Reg.CKM.HOLD_CNT : Field := ⟨0x002, 0x044, 31, 0, 0⟩
def Reg.CLV.CTRL_LOOP (n : Nat) : Field := ⟨(0x020 + n), 0x004, 12, 12, 0⟩
def Reg.CLV.CTRL_MAX_RATE (n : Nat) : Field := ⟨(0x020 + n), 0x004, 11, 10, 2⟩
def Reg.CLV.CTRL_RETRAIN (n : Nat) : Field := ⟨(0x020 + n), 0x004, 9, 9, 0⟩
def Reg.CLV.CTRL_ENABLE (n : Nat) : Field := ⟨(0x020 + n), 0x004, 8, 8, 1⟩
def Reg.CLV.STAT_REASON (n : Nat) : Field := ⟨(0x020 + n), 0x008, 15, 12, 0⟩
def Reg.CLV.STAT_INVAL_ON (n : Nat) : Field := ⟨(0x020 + n), 0x008, 9, 9, 0⟩
def Reg.CLV.STAT_REMAP_ON (n : Nat) : Field := ⟨(0x020 + n), 0x008, 8, 8, 0⟩
def Reg.CLV.STAT_MATCHED (n : Nat) : Field := ⟨(0x020 + n), 0x008, 7, 7, 0⟩
def Reg.CLV.STAT_RATE (n : Nat) : Field := ⟨(0x020 + n), 0x008, 5, 4, 2⟩
def Reg.CLV.STAT_STATE (n : Nat) : Field := ⟨(0x020 + n), 0x008, 3, 0, 0⟩
def Reg.CLV.OWN_CAP (n : Nat) : Field := ⟨(0x020 + n), 0x040, 31, 0, 4255⟩
def Reg.CLV.PEER_CAP (n : Nat) : Field := ⟨(0x020 + n), 0x044, 31, 0, 0⟩
def Reg.CLV.PEER_SET_ROLE (n : Nat) : Field := ⟨(0x020 + n), 0x048, 31, 24, 0⟩
def Reg.CLV.PEER_SET_SET (n : Nat) : Field := ⟨(0x020 + n), 0x048, 23, 0, 0⟩
def Reg.CLV.TIMEOUT (n : Nat) : Field := ⟨(0x020 + n), 0x04c, 10, 0, 200⟩
def Reg.CLV.SEQ_TX_ACKED (n : Nat) : Field := ⟨(0x020 + n), 0x050, 23, 12, 4095⟩
def Reg.CLV.SEQ_TX_NEXT (n : Nat) : Field := ⟨(0x020 + n), 0x050, 11, 0, 0⟩
def Reg.CLV.OUTSTANDING_READS (n : Nat) : Field := ⟨(0x020 + n), 0x054, 25, 16, 0⟩
def Reg.CLV.OUTSTANDING_FLITS (n : Nat) : Field := ⟨(0x020 + n), 0x054, 9, 0, 0⟩
def Reg.CLV.CRC_CNT (n : Nat) : Field := ⟨(0x020 + n), 0x058, 31, 0, 0⟩
def Reg.CLV.REPLAY_CNT (n : Nat) : Field := ⟨(0x020 + n), 0x05c, 31, 0, 0⟩
def Reg.CLV.TRAIN_CNT_FAIL (n : Nat) : Field := ⟨(0x020 + n), 0x060, 31, 16, 0⟩
def Reg.CLV.TRAIN_CNT_DONE (n : Nat) : Field := ⟨(0x020 + n), 0x060, 15, 0, 0⟩
def Reg.CLV.UNREACH_CNT (n : Nat) : Field := ⟨(0x020 + n), 0x064, 31, 0, 0⟩
def Reg.CLV.LOOP_STROKES (n : Nat) : Field := ⟨(0x020 + n), 0x068, 15, 0, 1024⟩
def Reg.CLV.LOOP_FAIL_LO (n : Nat) : Field := ⟨(0x020 + n), 0x06c, 31, 0, 0⟩
def Reg.CLV.LOOP_FAIL_HI (n : Nat) : Field := ⟨(0x020 + n), 0x070, 31, 0, 0⟩
def Reg.CLV.LOOP_STAT_SB_FAIL (n : Nat) : Field := ⟨(0x020 + n), 0x074, 2, 2, 0⟩
def Reg.CLV.LOOP_STAT_PASS (n : Nat) : Field := ⟨(0x020 + n), 0x074, 1, 1, 0⟩
def Reg.CLV.LOOP_STAT_DONE (n : Nat) : Field := ⟨(0x020 + n), 0x074, 0, 0, 0⟩
def Reg.CLV.STEER (n : Nat) (k : Nat) : Field := ⟨(0x020 + n), 0x080 + 0x4 * k, 31, 0, 1985229328⟩
def Reg.GLB.STAT_STEP : Field := ⟨0x000, 0x008, 11, 8, 0⟩
def Reg.GLB.STAT_UNTRACED : Field := ⟨0x000, 0x008, 2, 2, 1⟩
def Reg.GLB.STAT_SAFE : Field := ⟨0x000, 0x008, 1, 1, 0⟩
def Reg.GLB.STAT_READY : Field := ⟨0x000, 0x008, 0, 0, 0⟩
def Reg.GLB.STRAPS_I3C_ADDR : Field := ⟨0x000, 0x040, 6, 4, 0⟩
def Reg.GLB.STRAPS_MODE : Field := ⟨0x000, 0x040, 2, 2, 0⟩
def Reg.GLB.STRAPS_POSITION : Field := ⟨0x000, 0x040, 1, 0, 0⟩
def Reg.GLB.SET_CODE : Field := ⟨0x000, 0x044, 23, 0, 0⟩
def Reg.GLB.IDCODE : Field := ⟨0x000, 0x048, 31, 0, 396694927⟩
def Reg.GLB.SERIAL_LO : Field := ⟨0x000, 0x04c, 31, 0, 0⟩
def Reg.GLB.SERIAL_HI : Field := ⟨0x000, 0x050, 31, 0, 0⟩
def Reg.GLB.PEND_SUMMARY_RWL : Field := ⟨0x000, 0x060, 27, 27, 0⟩
def Reg.GLB.PEND_SUMMARY_OPT : Field := ⟨0x000, 0x060, 26, 26, 0⟩
def Reg.GLB.PEND_SUMMARY_LNK : Field := ⟨0x000, 0x060, 25, 25, 0⟩
def Reg.GLB.PEND_SUMMARY_CLV : Field := ⟨0x000, 0x060, 24, 24, 0⟩
def Reg.GLB.PEND_SUMMARY_PAGE : Field := ⟨0x000, 0x060, 20, 0, 0⟩
def Reg.GLB.PEND_CLV : Field := ⟨0x000, 0x064, 7, 0, 0⟩
def Reg.GLB.PEND_LNK : Field := ⟨0x000, 0x068, 15, 0, 0⟩
def Reg.GLB.PEND_OPT : Field := ⟨0x000, 0x06c, 15, 0, 0⟩
def Reg.GLB.PEND_RWL : Field := ⟨0x000, 0x070, 15, 0, 0⟩
def Reg.GLB.RESET_KEY : Field := ⟨0x000, 0x080, 31, 16, 0⟩
def Reg.GLB.RESET_FULL : Field := ⟨0x000, 0x080, 0, 0, 0⟩
def Reg.GLB.SB_REQ_CNT : Field := ⟨0x000, 0x0a0, 31, 0, 0⟩
def Reg.GLB.SB_DISCARD_CNT : Field := ⟨0x000, 0x0a4, 31, 0, 0⟩
def Reg.MGT.CTRL : Field := ⟨0x010, 0x004, 8, 8, 0⟩
def Reg.MGT.STAT_LAST_RESET : Field := ⟨0x010, 0x008, 21, 20, 0⟩
def Reg.MGT.STAT_RSTACT : Field := ⟨0x010, 0x008, 18, 16, 1⟩
def Reg.MGT.STAT_DA : Field := ⟨0x010, 0x008, 14, 8, 0⟩
def Reg.MGT.STAT_DA_VALID : Field := ⟨0x010, 0x008, 3, 3, 0⟩
def Reg.MGT.STAT_CHIP_RESET_DENIED : Field := ⟨0x010, 0x008, 2, 2, 0⟩
def Reg.MGT.STAT_DENIED : Field := ⟨0x010, 0x008, 1, 1, 0⟩
def Reg.MGT.STAT_ABORTED : Field := ⟨0x010, 0x008, 0, 0, 0⟩
def Reg.MGT.STATIC : Field := ⟨0x010, 0x040, 6, 0, 0⟩
def Reg.MGT.PID_LO : Field := ⟨0x010, 0x044, 31, 0, 0⟩
def Reg.MGT.PID_HI : Field := ⟨0x010, 0x048, 15, 0, 13526⟩
def Reg.MGT.POINTER : Field := ⟨0x010, 0x04c, 21, 0, 0⟩
def Reg.MGT.ABORT_CNT_RESETS : Field := ⟨0x010, 0x050, 31, 16, 0⟩
def Reg.MGT.ABORT_CNT_ABORTS : Field := ⟨0x010, 0x050, 15, 0, 0⟩
def Reg.OPT.CTRL (n : Nat) : Field := ⟨(0x060 + n), 0x004, 8, 8, 0⟩
def Reg.OPT.STAT_ACTIVE_LANES (n : Nat) : Field := ⟨(0x060 + n), 0x008, 20, 16, 0⟩
def Reg.OPT.STAT_SPARES (n : Nat) : Field := ⟨(0x060 + n), 0x008, 13, 12, 0⟩
def Reg.OPT.STAT_RATE (n : Nat) : Field := ⟨(0x060 + n), 0x008, 9, 8, 0⟩
def Reg.OPT.STAT_SYN (n : Nat) : Field := ⟨(0x060 + n), 0x008, 2, 0, 0⟩
def Reg.OPT.TX_LMAP (n : Nat) (k : Nat) : Field := ⟨(0x060 + n), 0x040 + 0x4 * k, 31, 0, (if k = 0 then 50462976 else if k = 1 then 117835012 else if k = 2 then 185207048 else 252579084)⟩
def Reg.OPT.RX_LMAP (n : Nat) (k : Nat) : Field := ⟨(0x060 + n), 0x050 + 0x4 * k, 31, 0, (if k = 0 then 50462976 else if k = 1 then 117835012 else if k = 2 then 185207048 else 252579084)⟩
def Reg.OPT.MON_OVR0 (n : Nat) : Field := ⟨(0x060 + n), 0x060, 31, 0, 0⟩
def Reg.OPT.MON_OVR1 (n : Nat) : Field := ⟨(0x060 + n), 0x064, 7, 0, 0⟩
def Reg.OPT.TAINT0 (n : Nat) : Field := ⟨(0x060 + n), 0x068, 31, 0, 0⟩
def Reg.OPT.TAINT1 (n : Nat) : Field := ⟨(0x060 + n), 0x06c, 7, 0, 0⟩
def Reg.OPT.ISOLATE0 (n : Nat) : Field := ⟨(0x060 + n), 0x070, 31, 0, 0⟩
def Reg.OPT.ISOLATE1 (n : Nat) : Field := ⟨(0x060 + n), 0x074, 7, 0, 0⟩
def Reg.OPT.LOS (n : Nat) : Field := ⟨(0x060 + n), 0x078, 17, 0, 262143⟩
def Reg.OPT.SYN_CNT_FAIL (n : Nat) : Field := ⟨(0x060 + n), 0x07c, 31, 16, 0⟩
def Reg.OPT.SYN_CNT_RELOCK (n : Nat) : Field := ⟨(0x060 + n), 0x07c, 15, 0, 0⟩
def Reg.OPT.OVR_CNT (n : Nat) : Field := ⟨(0x060 + n), 0x080, 31, 0, 0⟩
def Reg.OPT.MON_CODE_STROKE (n : Nat) (k : Nat) : Field := ⟨(0x060 + n), 0x100 + 0x4 * k, 31, 16, 0⟩
def Reg.OPT.MON_CODE_VALID (n : Nat) (k : Nat) : Field := ⟨(0x060 + n), 0x100 + 0x4 * k, 15, 15, 0⟩
def Reg.OPT.MON_CODE_TAINT (n : Nat) (k : Nat) : Field := ⟨(0x060 + n), 0x100 + 0x4 * k, 14, 14, 0⟩
def Reg.OPT.MON_CODE_OVR (n : Nat) (k : Nat) : Field := ⟨(0x060 + n), 0x100 + 0x4 * k, 13, 13, 0⟩
def Reg.OPT.MON_CODE_ISOLATED (n : Nat) (k : Nat) : Field := ⟨(0x060 + n), 0x100 + 0x4 * k, 12, 12, 0⟩
def Reg.OPT.MON_CODE_CODE (n : Nat) (k : Nat) : Field := ⟨(0x060 + n), 0x100 + 0x4 * k, 11, 0, 0⟩
def Reg.HGT.HG_CTRL_ATTEN (k : Nat) : Field := ⟨0x012, 0x040 + 0x4 * k, 15, 8, 0⟩
def Reg.HGT.HG_CTRL_ENABLE (k : Nat) : Field := ⟨0x012, 0x040 + 0x4 * k, 0, 0, 1⟩
def Reg.HGT.RAMP : Field := ⟨0x012, 0x050, 3, 0, 2⟩
def Reg.HGT.IN_LOW : Field := ⟨0x012, 0x054, 15, 0, 2600⟩
def Reg.HGT.IN_HIGH : Field := ⟨0x012, 0x058, 15, 0, 3000⟩
def Reg.HGT.HG_STAT_IN_PWR (k : Nat) : Field := ⟨0x012, 0x060 + 0x4 * k, 31, 16, 32768⟩
def Reg.HGT.HG_STAT_ATTEN (k : Nat) : Field := ⟨0x012, 0x060 + 0x4 * k, 15, 8, 240⟩
def Reg.HGT.HG_STAT_RAMPING (k : Nat) : Field := ⟨0x012, 0x060 + 0x4 * k, 1, 1, 0⟩
def Reg.HGT.HG_STAT_OPEN (k : Nat) : Field := ⟨0x012, 0x060 + 0x4 * k, 0, 0, 0⟩
def Reg.RWL.CTRL_AUTO_RESTORE (n : Nat) : Field := ⟨(0x080 + n), 0x004, 9, 9, 0⟩
def Reg.RWL.CTRL_RESTORE (n : Nat) : Field := ⟨(0x080 + n), 0x004, 8, 8, 0⟩
def Reg.RWL.STAT_RESTORING (n : Nat) : Field := ⟨(0x080 + n), 0x008, 25, 25, 0⟩
def Reg.RWL.STAT_COAST (n : Nat) : Field := ⟨(0x080 + n), 0x008, 24, 24, 0⟩
def Reg.RWL.STAT_FAILED (n : Nat) : Field := ⟨(0x080 + n), 0x008, 21, 16, 0⟩
def Reg.RWL.STAT_TX_SPARES (n : Nat) : Field := ⟨(0x080 + n), 0x008, 9, 8, 0⟩
def Reg.RWL.STAT_TX_LANES (n : Nat) : Field := ⟨(0x080 + n), 0x008, 4, 0, 0⟩
def Reg.RWL.LOL_THRESH (n : Nat) : Field := ⟨(0x080 + n), 0x040, 11, 0, 64⟩
def Reg.RWL.LOOP_GAIN (n : Nat) : Field := ⟨(0x080 + n), 0x044, 3, 0, 4⟩
def Reg.RWL.DITHER (n : Nat) : Field := ⟨(0x080 + n), 0x048, 11, 0, 64⟩
def Reg.RWL.SEARCH (n : Nat) : Field := ⟨(0x080 + n), 0x04c, 15, 0, 160⟩
def Reg.RWL.RETRY_WD (n : Nat) : Field := ⟨(0x080 + n), 0x050, 15, 0, 4096⟩
def Reg.RWL.RETRY_TX (n : Nat) : Field := ⟨(0x080 + n), 0x054, 17, 0, 0⟩
def Reg.RWL.RETRY_RX (n : Nat) : Field := ⟨(0x080 + n), 0x058, 17, 0, 0⟩
def Reg.RWL.LOL_CNT (n : Nat) : Field := ⟨(0x080 + n), 0x060, 31, 0, 0⟩
def Reg.RWL.MOVE_CNT_MOVES (n : Nat) : Field := ⟨(0x080 + n), 0x064, 31, 16, 0⟩
def Reg.RWL.MOVE_CNT_DROPS (n : Nat) : Field := ⟨(0x080 + n), 0x064, 15, 0, 0⟩
def Reg.RWL.NARROW_STROKES (n : Nat) : Field := ⟨(0x080 + n), 0x068, 31, 0, 0⟩
def Reg.RWL.SEAT_TX_ERROR (n : Nat) (k : Nat) : Field := ⟨(0x080 + n), 0x100 + 0x4 * k, 31, 20, 0⟩
def Reg.RWL.SEAT_TX_LOL_RUN (n : Nat) (k : Nat) : Field := ⟨(0x080 + n), 0x100 + 0x4 * k, 19, 16, 0⟩
def Reg.RWL.SEAT_TX_LANE (n : Nat) (k : Nat) : Field := ⟨(0x080 + n), 0x100 + 0x4 * k, 12, 8, 0⟩
def Reg.RWL.SEAT_TX_MEMBER (n : Nat) (k : Nat) : Field := ⟨(0x080 + n), 0x100 + 0x4 * k, 5, 4, 0⟩
def Reg.RWL.SEAT_TX_STATE (n : Nat) (k : Nat) : Field := ⟨(0x080 + n), 0x100 + 0x4 * k, 2, 0, 0⟩
def Reg.RWL.SEAT_RX (n : Nat) (k : Nat) : Field := ⟨(0x080 + n), 0x180 + 0x4 * k, 31, 0, 0⟩
def Reg.RWL.HTR_TX_CLIP (n : Nat) (k : Nat) : Field := ⟨(0x080 + n), 0x200 + 0x4 * k, 31, 31, 0⟩
def Reg.RWL.HTR_TX_CODE (n : Nat) (k : Nat) : Field := ⟨(0x080 + n), 0x200 + 0x4 * k, 15, 0, 0⟩
def Reg.RWL.HTR_RX (n : Nat) (k : Nat) : Field := ⟨(0x080 + n), 0x280 + 0x4 * k, 31, 0, 0⟩
def Reg.WEI.HTR_STEP_OOS : Field := ⟨0x013, 0x040, 31, 16, 8192⟩
def Reg.WEI.HTR_STEP_STEP : Field := ⟨0x013, 0x040, 15, 0, 1024⟩
def Reg.WEI.PWRUP_GAP : Field := ⟨0x013, 0x044, 7, 0, 8⟩
def Reg.WEI.DARK_RAMP_STROKES : Field := ⟨0x013, 0x048, 15, 8, 4⟩
def Reg.WEI.DARK_RAMP_SIXTEENTHS : Field := ⟨0x013, 0x048, 7, 0, 1⟩
def Reg.WEI.IDLE_DARK : Field := ⟨0x013, 0x050, 15, 0, 0⟩
def Reg.WEI.DARK_LEVEL (k : Nat) : Field := ⟨0x013, 0x060 + 0x4 * k, 31, 0, 0⟩
def Reg.WEI.PWRUP_PEND : Field := ⟨0x013, 0x070, 15, 0, 0⟩
def Reg.WEI.CLIP_CNT : Field := ⟨0x013, 0x074, 31, 0, 0⟩
def Reg.WEI.CLIP_LAST : Field := ⟨0x013, 0x078, 9, 0, 0⟩
def Reg.CAL.CTRL : Field := ⟨0x006, 0x004, 8, 8, 1⟩
def Reg.CAL.STAT : Field := ⟨0x006, 0x008, 4, 0, 0⟩
def Reg.CAL.DT_TRIG : Field := ⟨0x006, 0x040, 6, 0, 16⟩
def Reg.CAL.BG_GAP : Field := ⟨0x006, 0x044, 15, 0, 1024⟩
def Reg.CAL.PASS_MAX : Field := ⟨0x006, 0x048, 4, 0, 4⟩
def Reg.CAL.PASS_REQ : Field := ⟨0x006, 0x04c, 15, 0, 0⟩
def Reg.CAL.PASS_ACTIVE : Field := ⟨0x006, 0x050, 15, 0, 0⟩
def Reg.CAL.PASS_QUEUED : Field := ⟨0x006, 0x054, 15, 0, 0⟩
def Reg.CAL.CLAMP_HIGH : Field := ⟨0x006, 0x058, 31, 16, 0⟩
def Reg.CAL.CLAMP_LOW : Field := ⟨0x006, 0x058, 15, 0, 0⟩
def Reg.CAL.WEIGHT (k : Nat) : Field := ⟨0x006, 0x060 + 0x4 * k, 31, 0, 0⟩
def Reg.CAL.REF_TEMP (k : Nat) : Field := ⟨0x006, 0x080 + 0x4 * k, 31, 0, 0⟩
def Reg.CAL.VISIT_CNT : Field := ⟨0x006, 0x0a0, 31, 0, 0⟩
def Reg.CAL.FAIL_CNT : Field := ⟨0x006, 0x0a4, 31, 0, 0⟩
def Reg.CAL.PASS_CNT : Field := ⟨0x006, 0x0a8, 31, 0, 0⟩
def Reg.CAL.SEAT_SEL_PORT : Field := ⟨0x006, 0x0c0, 9, 6, 0⟩
def Reg.CAL.SEAT_SEL_SIDE : Field := ⟨0x006, 0x0c0, 5, 5, 0⟩
def Reg.CAL.SEAT_SEL_SEAT : Field := ⟨0x006, 0x0c0, 4, 0, 0⟩
def Reg.CAL.SEAT_LIVE_LO : Field := ⟨0x006, 0x0c4, 31, 0, 0⟩
def Reg.CAL.SEAT_LIVE_HI : Field := ⟨0x006, 0x0c8, 31, 0, 0⟩
def Reg.DTM.CTRL : Field := ⟨0x014, 0x004, 8, 8, 0⟩
def Reg.DTM.STAT_REASON : Field := ⟨0x014, 0x008, 7, 4, 0⟩
def Reg.DTM.STAT_STATE : Field := ⟨0x014, 0x008, 1, 0, 0⟩
def Reg.DTM.PWR : Field := ⟨0x014, 0x040, 15, 0, 32768⟩
def Reg.DTM.LINE_OFS (k : Nat) : Field := ⟨0x014, 0x044 + 0x4 * k, 15, 0, 32768⟩
def Reg.DTM.TRACE_STAMP_LO : Field := ⟨0x014, 0x058, 31, 0, 0⟩
def Reg.DTM.TRACE_STAMP_HI : Field := ⟨0x014, 0x05c, 31, 0, 0⟩
def Reg.THM.SENS_FAULT (k : Nat) : Field := ⟨0x011, 0x040 + 0x4 * k, 31, 31, 0⟩
def Reg.THM.SENS_TEMP (k : Nat) : Field := ⟨0x011, 0x040 + 0x4 * k, 15, 0, 0⟩
def Reg.THM.PORT_T (k : Nat) : Field := ⟨0x011, 0x0a0 + 0x4 * k, 15, 0, 0⟩
def Reg.NVS.STAT_OWN_WRITE : Field := ⟨0x005, 0x008, 8, 8, 0⟩
def Reg.NVS.STAT_RESULT : Field := ⟨0x005, 0x008, 4, 2, 0⟩
def Reg.NVS.STAT_CMD_LOST : Field := ⟨0x005, 0x008, 1, 1, 0⟩
def Reg.NVS.STAT_BUSY : Field := ⟨0x005, 0x008, 0, 0, 0⟩
def Reg.NVS.CMD_OP : Field := ⟨0x005, 0x040, 31, 30, 0⟩
def Reg.NVS.CMD_PAGE : Field := ⟨0x005, 0x040, 13, 0, 0⟩
def Reg.NVS.REC_IN_USE (k : Nat) : Field := ⟨0x005, 0x060 + 0x4 * k, 31, 31, 0⟩
def Reg.NVS.REC_A_VALID (k : Nat) : Field := ⟨0x005, 0x060 + 0x4 * k, 30, 30, 0⟩
def Reg.NVS.REC_B_VALID (k : Nat) : Field := ⟨0x005, 0x060 + 0x4 * k, 29, 29, 0⟩
def Reg.NVS.REC_SEQ (k : Nat) : Field := ⟨0x005, 0x060 + 0x4 * k, 23, 0, 0⟩
def Reg.NVS.WRITE_CNT : Field := ⟨0x005, 0x0a0, 31, 0, 0⟩
def Reg.NVS.CE_CNT : Field := ⟨0x005, 0x0a4, 31, 0, 0⟩
def Reg.NVS.WIN (k : Nat) : Field := ⟨0x005, 0x100 + 0x4 * k, 31, 0, 0⟩
def Reg.NVS.WIN_ECC0 : Field := ⟨0x005, 0x200, 31, 0, 0⟩
def Reg.NVS.WIN_ECC1 : Field := ⟨0x005, 0x204, 31, 0, 0⟩
def Reg.NVS.WIN_PAGE : Field := ⟨0x005, 0x208, 13, 0, 0⟩
def Reg.NVS.BUF (k : Nat) : Field := ⟨0x005, 0x300 + 0x4 * k, 31, 0, 0⟩
def Reg.LVL.CTRL : Field := ⟨0x007, 0x004, 8, 8, 0⟩
def Reg.LVL.STAT_DIRTY : Field := ⟨0x007, 0x008, 28, 24, 0⟩
def Reg.LVL.STAT_BA_ITER : Field := ⟨0x007, 0x008, 23, 20, 0⟩
def Reg.LVL.STAT_BA_COLD : Field := ⟨0x007, 0x008, 17, 17, 0⟩
def Reg.LVL.STAT_BA_STATE : Field := ⟨0x007, 0x008, 15, 14, 0⟩
def Reg.LVL.STAT_MISS_RUN : Field := ⟨0x007, 0x008, 9, 8, 0⟩
def Reg.LVL.STAT_THERMAL : Field := ⟨0x007, 0x008, 2, 0, 0⟩
def Reg.LVL.SCHED_ID : Field := ⟨0x007, 0x040, 31, 16, 3166⟩
def Reg.LVL.SCHED_VERSION : Field := ⟨0x007, 0x040, 15, 0, 2⟩
def Reg.LVL.PATTERN : Field := ⟨0x007, 0x044, 11, 0, 1984⟩
def Reg.LVL.SOLVE_TIME_MAX : Field := ⟨0x007, 0x048, 26, 16, 0⟩
def Reg.LVL.SOLVE_TIME_LAST : Field := ⟨0x007, 0x048, 10, 0, 0⟩
def Reg.LVL.MISS_CNT_HOLDS : Field := ⟨0x007, 0x04c, 31, 16, 0⟩
def Reg.LVL.MISS_CNT_MISSES : Field := ⟨0x007, 0x04c, 15, 0, 0⟩
def Reg.LVL.REFACTOR : Field := ⟨0x007, 0x050, 23, 0, 0⟩
def Reg.LVL.REFACTOR_CNT : Field := ⟨0x007, 0x054, 31, 0, 0⟩
def Reg.LVL.DELTA_CNT_REJECTED : Field := ⟨0x007, 0x058, 31, 16, 0⟩
def Reg.LVL.DELTA_CNT_ACCEPTED : Field := ⟨0x007, 0x058, 15, 0, 0⟩
def Reg.LVL.BA_CFG_TOL : Field := ⟨0x007, 0x060, 27, 24, 4⟩
def Reg.LVL.BA_CFG_ITER_MAX : Field := ⟨0x007, 0x060, 19, 16, 4⟩
def Reg.LVL.BA_CFG_DEADLINE : Field := ⟨0x007, 0x060, 15, 0, 128⟩
def Reg.LVL.BA_RUN_ABANDONED : Field := ⟨0x007, 0x064, 31, 16, 0⟩
def Reg.LVL.BA_RUN_ACCEPTED : Field := ⟨0x007, 0x064, 15, 0, 0⟩
def Reg.LVL.BA_LAST_COLD : Field := ⟨0x007, 0x068, 8, 8, 0⟩
def Reg.LVL.BA_LAST_ITERS : Field := ⟨0x007, 0x068, 7, 4, 0⟩
def Reg.LVL.BA_LAST_RESULT : Field := ⟨0x007, 0x068, 3, 0, 0⟩
def Reg.LVL.BA_STAMP_LO : Field := ⟨0x007, 0x06c, 31, 0, 0⟩
def Reg.LVL.BA_STAMP_HI : Field := ⟨0x007, 0x070, 31, 0, 0⟩
def Reg.LVL.BA_UPDATE : Field := ⟨0x007, 0x074, 15, 0, 0⟩
def Reg.LVL.MAT_SEL_COL : Field := ⟨0x007, 0x080, 25, 16, 0⟩
def Reg.LVL.MAT_SEL_ROW : Field := ⟨0x007, 0x080, 9, 0, 0⟩
def Reg.LVL.MAT_LIVE_IN_PATTERN : Field := ⟨0x007, 0x084, 16, 16, 0⟩
def Reg.LVL.MAT_LIVE_VALUE : Field := ⟨0x007, 0x084, 15, 0, 0⟩
def Reg.LVL.RATIO_MIN_ROW : Field := ⟨0x007, 0x088, 25, 16, 0⟩
def Reg.LVL.RATIO_MIN_RATIO : Field := ⟨0x007, 0x088, 15, 0, 0⟩
def Reg.LVL.TGT_CLAMP_CNT : Field := ⟨0x007, 0x090, 31, 0, 0⟩
def Reg.LVL.SAT_CNT : Field := ⟨0x007, 0x094, 31, 0, 0⟩
def Reg.LNK.CTRL_MAX_RATE (n : Nat) : Field := ⟨(0x040 + n), 0x004, 14, 13, 0⟩
def Reg.LNK.CTRL_FEC_OFF (n : Nat) : Field := ⟨(0x040 + n), 0x004, 12, 12, 0⟩
def Reg.LNK.CTRL_AUTO_RETRAIN (n : Nat) : Field := ⟨(0x040 + n), 0x004, 11, 11, 0⟩
def Reg.LNK.CTRL_RESET (n : Nat) : Field := ⟨(0x040 + n), 0x004, 10, 10, 0⟩
def Reg.LNK.CTRL_RETRAIN (n : Nat) : Field := ⟨(0x040 + n), 0x004, 9, 9, 0⟩
def Reg.LNK.CTRL_DISABLE (n : Nat) : Field := ⟨(0x040 + n), 0x004, 8, 8, 0⟩
def Reg.LNK.STAT_REASON (n : Nat) : Field := ⟨(0x040 + n), 0x008, 31, 28, 0⟩
def Reg.LNK.STAT_FAN_ROLE (n : Nat) : Field := ⟨(0x040 + n), 0x008, 27, 26, 0⟩
def Reg.LNK.STAT_PAUSE (n : Nat) : Field := ⟨(0x040 + n), 0x008, 23, 21, 0⟩
def Reg.LNK.STAT_RX_WIDTH (n : Nat) : Field := ⟨(0x040 + n), 0x008, 20, 16, 0⟩
def Reg.LNK.STAT_TX_WIDTH (n : Nat) : Field := ⟨(0x040 + n), 0x008, 12, 8, 0⟩
def Reg.LNK.STAT_TX_READY (n : Nat) : Field := ⟨(0x040 + n), 0x008, 7, 7, 0⟩
def Reg.LNK.STAT_FEC (n : Nat) : Field := ⟨(0x040 + n), 0x008, 6, 6, 1⟩
def Reg.LNK.STAT_RATE (n : Nat) : Field := ⟨(0x040 + n), 0x008, 5, 4, 0⟩
def Reg.LNK.STAT_STATE (n : Nat) : Field := ⟨(0x040 + n), 0x008, 3, 0, 0⟩
def Reg.LNK.LINK_CFG (n : Nat) : Field := ⟨(0x040 + n), 0x040, 4, 0, 8⟩
def Reg.LNK.TIMEOUT (n : Nat) : Field := ⟨(0x040 + n), 0x044, 14, 0, 5000⟩
def Reg.LNK.RPL_QUOTA (n : Nat) : Field := ⟨(0x040 + n), 0x048, 12, 0, 512⟩
def Reg.LNK.CRED_ADV_HDR (n : Nat) (k : Nat) : Field := ⟨(0x040 + n), 0x050 + 0x4 * k, 31, 20, (if k = 0 then 64 else if k = 1 then 512 else if k = 2 then 256 else 256)⟩
def Reg.LNK.CRED_ADV_DATA (n : Nat) (k : Nat) : Field := ⟨(0x040 + n), 0x050 + 0x4 * k, 19, 0, (if k = 0 then 64 else if k = 1 then 4096 else if k = 2 then 8192 else 4096)⟩
def Reg.LNK.CRED_PEER (n : Nat) (k : Nat) : Field := ⟨(0x040 + n), 0x060 + 0x4 * k, 31, 0, 0⟩
def Reg.LNK.CRED_AVAIL (n : Nat) (k : Nat) : Field := ⟨(0x040 + n), 0x070 + 0x4 * k, 31, 0, 0⟩
def Reg.LNK.TX_SEQ (n : Nat) : Field := ⟨(0x040 + n), 0x080, 23, 0, 0⟩
def Reg.LNK.TX_ACKED (n : Nat) : Field := ⟨(0x040 + n), 0x084, 23, 0, 16777215⟩
def Reg.LNK.RX_SEQ (n : Nat) : Field := ⟨(0x040 + n), 0x088, 23, 0, 0⟩
def Reg.LNK.RPL_USED (n : Nat) : Field := ⟨(0x040 + n), 0x08c, 12, 0, 0⟩
def Reg.LNK.PEER_ID (n : Nat) : Field := ⟨(0x040 + n), 0x090, 31, 0, 0⟩
def Reg.LNK.PEER_INFO_VALID (n : Nat) : Field := ⟨(0x040 + n), 0x094, 8, 8, 0⟩
def Reg.LNK.PEER_INFO_POSITION (n : Nat) : Field := ⟨(0x040 + n), 0x094, 5, 4, 0⟩
def Reg.LNK.PEER_INFO_PORT (n : Nat) : Field := ⟨(0x040 + n), 0x094, 3, 0, 0⟩
def Reg.LNK.SHELL_BAD_CNT (n : Nat) : Field := ⟨(0x040 + n), 0x098, 31, 0, 0⟩
def Reg.LNK.REPLAY_CNT (n : Nat) : Field := ⟨(0x040 + n), 0x09c, 31, 0, 0⟩
def Reg.LNK.LINK_CNT_DOWN (n : Nat) : Field := ⟨(0x040 + n), 0x0a0, 31, 16, 0⟩
def Reg.LNK.LINK_CNT_UP (n : Nat) : Field := ⟨(0x040 + n), 0x0a0, 15, 0, 0⟩
def Reg.LNK.STALL_STROKES (n : Nat) : Field := ⟨(0x040 + n), 0x0a4, 31, 0, 0⟩
def Reg.LNK.FAN_STAT_MEMBERS (n : Nat) : Field := ⟨(0x040 + n), 0x0b0, 31, 16, 0⟩
def Reg.LNK.FAN_STAT_GROUP (n : Nat) : Field := ⟨(0x040 + n), 0x0b0, 15, 8, 0⟩
def Reg.LNK.FAN_STAT_ROLE (n : Nat) : Field := ⟨(0x040 + n), 0x0b0, 1, 0, 0⟩
def Reg.LNK.FAN_SEQ (n : Nat) : Field := ⟨(0x040 + n), 0x0b4, 23, 0, 0⟩
def Reg.LNK.FAN_ACKED (n : Nat) : Field := ⟨(0x040 + n), 0x0b8, 23, 0, 16777215⟩
def Reg.LNK.LANE_FEC_UNCORR (n : Nat) (k : Nat) : Field := ⟨(0x040 + n), 0x100 + 0x4 * k, 31, 16, 0⟩
def Reg.LNK.LANE_FEC_CORR_SYM (n : Nat) (k : Nat) : Field := ⟨(0x040 + n), 0x100 + 0x4 * k, 15, 0, 0⟩
def Reg.COX.STAT_INFLIGHT : Field := ⟨0x00a, 0x008, 28, 16, 0⟩
def Reg.COX.STAT_BW_USED : Field := ⟨0x00a, 0x008, 8, 0, 0⟩
def Reg.COX.TC_WEIGHT_TC3 : Field := ⟨0x00a, 0x040, 23, 16, 4⟩
def Reg.COX.TC_WEIGHT_TC2 : Field := ⟨0x00a, 0x040, 15, 8, 2⟩
def Reg.COX.TC_WEIGHT_TC1 : Field := ⟨0x00a, 0x040, 7, 0, 8⟩
def Reg.COX.CMD_CNT : Field := ⟨0x00a, 0x044, 31, 0, 0⟩
def Reg.COX.FAIL_CNT : Field := ⟨0x00a, 0x048, 31, 0, 0⟩
def Reg.COX.EXPIRED_CNT : Field := ⟨0x00a, 0x04c, 31, 0, 0⟩
def Reg.COX.BW_PORT : Field := ⟨0x00a, 0x050, 15, 0, 0⟩
def Reg.COX.CC_INVAL_LO : Field := ⟨0x00a, 0x060, 31, 6, 0⟩
def Reg.COX.CC_INVAL_HI : Field := ⟨0x00a, 0x064, 19, 0, 0⟩
def Reg.COX.CC_INVAL_CMD_ALL : Field := ⟨0x00a, 0x068, 31, 31, 0⟩
def Reg.COX.CC_INVAL_CMD_COUNT : Field := ⟨0x00a, 0x068, 15, 0, 0⟩
def Reg.COX.CC_STAT : Field := ⟨0x00a, 0x06c, 0, 0, 0⟩
def Reg.COX.CC_HIT_CNT : Field := ⟨0x00a, 0x070, 31, 0, 0⟩
def Reg.COX.CC_MISS_CNT : Field := ⟨0x00a, 0x074, 31, 0, 0⟩
def Reg.COX.IQ_BASE_LO (k : Nat) : Field := ⟨0x00a, 0x400 + 0x20 * k, 31, 6, 0⟩
def Reg.COX.IQ_BASE_HI (k : Nat) : Field := ⟨0x00a, 0x404 + 0x20 * k, 19, 0, 0⟩
def Reg.COX.IQ_CFG_SIZE_LOG2 (k : Nat) : Field := ⟨0x00a, 0x408 + 0x20 * k, 12, 8, 4⟩
def Reg.COX.IQ_CFG_PRIO (k : Nat) : Field := ⟨0x00a, 0x408 + 0x20 * k, 5, 4, 0⟩
def Reg.COX.IQ_CFG_ENABLE (k : Nat) : Field := ⟨0x00a, 0x408 + 0x20 * k, 0, 0, 0⟩
def Reg.COX.IQ_TAIL (k : Nat) : Field := ⟨0x00a, 0x40c + 0x20 * k, 15, 0, 0⟩
def Reg.COX.IQ_HEAD (k : Nat) : Field := ⟨0x00a, 0x410 + 0x20 * k, 15, 0, 0⟩
def Reg.COX.IQ_STAT_STOPPED (k : Nat) : Field := ⟨0x00a, 0x414 + 0x20 * k, 4, 4, 0⟩
def Reg.COX.IQ_STAT_OQ_WAIT (k : Nat) : Field := ⟨0x00a, 0x414 + 0x20 * k, 3, 3, 0⟩
def Reg.COX.IQ_STAT_BW_WAIT (k : Nat) : Field := ⟨0x00a, 0x414 + 0x20 * k, 2, 2, 0⟩
def Reg.COX.IQ_STAT_FENCE (k : Nat) : Field := ⟨0x00a, 0x414 + 0x20 * k, 1, 1, 0⟩
def Reg.COX.IQ_STAT_WAITING (k : Nat) : Field := ⟨0x00a, 0x414 + 0x20 * k, 0, 0, 0⟩
def Reg.COX.OQ_BASE_LO (k : Nat) : Field := ⟨0x00a, 0xc00 + 0x10 * k, 31, 4, 0⟩
def Reg.COX.OQ_BASE_HI (k : Nat) : Field := ⟨0x00a, 0xc04 + 0x10 * k, 19, 0, 0⟩
def Reg.COX.OQ_CFG_PHASE (k : Nat) : Field := ⟨0x00a, 0xc08 + 0x10 * k, 16, 16, 1⟩
def Reg.COX.OQ_CFG_SIZE_LOG2 (k : Nat) : Field := ⟨0x00a, 0xc08 + 0x10 * k, 12, 8, 4⟩
def Reg.COX.OQ_CFG_ENABLE (k : Nat) : Field := ⟨0x00a, 0xc08 + 0x10 * k, 0, 0, 0⟩
def Reg.COX.OQ_PTR_TAIL (k : Nat) : Field := ⟨0x00a, 0xc0c + 0x10 * k, 31, 16, 0⟩
def Reg.COX.OQ_PTR_HEAD (k : Nat) : Field := ⟨0x00a, 0xc0c + 0x10 * k, 15, 0, 0⟩
def Reg.RSV.STAT_PAGING : Field := ⟨0x009, 0x008, 31, 31, 0⟩
def Reg.RSV.STAT_FREE : Field := ⟨0x009, 0x008, 16, 0, 65536⟩
def Reg.RSV.POOL_CEIL (k : Nat) : Field := ⟨0x009, 0x040 + 0x4 * k, 28, 16, (if k = 0 then 1024 else if k = 1 then 1024 else if k = 2 then 2048 else 256)⟩
def Reg.RSV.POOL_FLOOR (k : Nat) : Field := ⟨0x009, 0x040 + 0x4 * k, 12, 0, (if k = 0 then 128 else if k = 1 then 256 else if k = 2 then 0 else 16)⟩
def Reg.RSV.USED (k : Nat) : Field := ⟨0x009, 0x050 + 0x4 * k, 16, 0, 0⟩
def Reg.RSV.PRESSURE : Field := ⟨0x009, 0x060, 16, 0, 1024⟩
def Reg.RSV.WAIT_MAX : Field := ⟨0x009, 0x064, 15, 0, 4096⟩
def Reg.RSV.RETIRED : Field := ⟨0x009, 0x068, 15, 0, 0⟩
def Reg.RSV.PAGEOUT_CNT : Field := ⟨0x009, 0x06c, 31, 0, 0⟩
def Reg.RSV.PEEK_ADDR : Field := ⟨0x009, 0x080, 27, 6, 0⟩
def Reg.RSV.PEEK (k : Nat) : Field := ⟨0x009, 0x0c0 + 0x4 * k, 31, 0, 0⟩
def Reg.BUO.ADD_SEL : Field := ⟨0x00b, 0x040, 5, 0, 0⟩
def Reg.BUO.ADD_LO : Field := ⟨0x00b, 0x048, 31, 0, 0⟩
def Reg.BUO.ADD_HI : Field := ⟨0x00b, 0x04c, 31, 0, 0⟩
def Reg.BUO.WAITERS : Field := ⟨0x00b, 0x050, 6, 0, 0⟩
def Reg.BUO.DENIED_CNT : Field := ⟨0x00b, 0x054, 31, 0, 0⟩
def Reg.BUO.VAL_LO (k : Nat) : Field := ⟨0x00b, 0x100 + 0x8 * k, 31, 0, 0⟩
def Reg.BUO.VAL_HI (k : Nat) : Field := ⟨0x00b, 0x104 + 0x8 * k, 31, 0, 0⟩
def Reg.FLM.CTRL_REEST_EN : Field := ⟨0x008, 0x004, 10, 10, 1⟩
def Reg.FLM.CTRL_AUTO_CROSS : Field := ⟨0x008, 0x004, 9, 9, 0⟩
def Reg.FLM.CTRL_APPLY : Field := ⟨0x008, 0x004, 8, 8, 0⟩
def Reg.FLM.STAT_CHG_LEFT : Field := ⟨0x008, 0x008, 21, 16, 0⟩
def Reg.FLM.STAT_FAN_AVAIL : Field := ⟨0x008, 0x008, 9, 9, 0⟩
def Reg.FLM.STAT_CROSS_AVAIL : Field := ⟨0x008, 0x008, 8, 8, 0⟩
def Reg.FLM.STAT_BASE : Field := ⟨0x008, 0x008, 4, 4, 0⟩
def Reg.FLM.STAT_STATE : Field := ⟨0x008, 0x008, 2, 0, 0⟩
def Reg.FLM.XBAR (k : Nat) : Field := ⟨0x008, 0x040 + 0x4 * k, 31, 0, (if k = 0 then 1985229328 else 4275878552)⟩
def Reg.FLM.LIVE_MAP (k : Nat) : Field := ⟨0x008, 0x048 + 0x4 * k, 31, 0, (if k = 0 then 1985229328 else 4275878552)⟩
def Reg.FLM.SPARE_BANK : Field := ⟨0x008, 0x050, 4, 0, 31⟩
def Reg.FLM.CHG_PORTS : Field := ⟨0x008, 0x054, 15, 0, 0⟩
def Reg.FLM.CHG_RESULT : Field := ⟨0x008, 0x058, 3, 0, 0⟩
def Reg.FLM.DITHER : Field := ⟨0x008, 0x05c, 11, 0, 32⟩
def Reg.FLM.REEST_INTERVAL : Field := ⟨0x008, 0x060, 31, 0, 1048576⟩
def Reg.FLM.REEST_WINDOW : Field := ⟨0x008, 0x064, 15, 0, 256⟩
def Reg.FLM.DRIFT_THRESH : Field := ⟨0x008, 0x068, 11, 0, 128⟩
def Reg.FLM.HELD (k : Nat) : Field := ⟨0x008, 0x070 + 0x4 * k, 31, 0, 0⟩
def Reg.FLM.MON_OVR (k : Nat) : Field := ⟨0x008, 0x080 + 0x4 * k, 31, 0, 0⟩
def Reg.FLM.ISOLATE (k : Nat) : Field := ⟨0x008, 0x0a0 + 0x4 * k, 31, 0, 0⟩
def Reg.FLM.EST_SEL : Field := ⟨0x008, 0x0c0, 8, 0, 0⟩
def Reg.FLM.EST_VALUE : Field := ⟨0x008, 0x0c4, 15, 0, 0⟩
def Reg.FLM.CHG_CNT_ROLLBACKS : Field := ⟨0x008, 0x0c8, 31, 16, 0⟩
def Reg.FLM.CHG_CNT_CHANGES : Field := ⟨0x008, 0x0c8, 15, 0, 0⟩
def Reg.FLM.FAN_CFG_MASK (k : Nat) : Field := ⟨0x008, 0x100 + 0x10 * k, 31, 16, 0⟩
def Reg.FLM.FAN_CFG_SOURCE (k : Nat) : Field := ⟨0x008, 0x100 + 0x10 * k, 15, 12, 0⟩
def Reg.FLM.FAN_CFG_RATE (k : Nat) : Field := ⟨0x008, 0x100 + 0x10 * k, 11, 10, 0⟩
def Reg.FLM.FAN_CFG_DEGREE (k : Nat) : Field := ⟨0x008, 0x100 + 0x10 * k, 9, 8, 0⟩
def Reg.FLM.FAN_CFG_ID (k : Nat) : Field := ⟨0x008, 0x100 + 0x10 * k, 7, 0, 0⟩
def Reg.FLM.FAN_CTRL_EXIT (k : Nat) : Field := ⟨0x008, 0x104 + 0x10 * k, 1, 1, 0⟩
def Reg.FLM.FAN_CTRL_ENTER (k : Nat) : Field := ⟨0x008, 0x104 + 0x10 * k, 0, 0, 0⟩
def Reg.FLM.FAN_STAT_MEMBERS (k : Nat) : Field := ⟨0x008, 0x108 + 0x10 * k, 31, 16, 0⟩
def Reg.FLM.FAN_STAT_RESULT (k : Nat) : Field := ⟨0x008, 0x108 + 0x10 * k, 11, 8, 0⟩
def Reg.FLM.FAN_STAT_STATE (k : Nat) : Field := ⟨0x008, 0x108 + 0x10 * k, 2, 0, 0⟩
def Reg.FLM.FAN_REFUSE (k : Nat) : Field := ⟨0x008, 0x10c + 0x10 * k, 15, 0, 0⟩
def Reg.FLM.MON_CODE (k : Nat) : Field := ⟨0x008, 0x400 + 0x4 * k, 31, 0, 0⟩
def Reg.RGT.STAT_ISSUED : Field := ⟨0x00c, 0x008, 29, 16, 0⟩
def Reg.RGT.STAT_STATE : Field := ⟨0x00c, 0x008, 2, 0, 0⟩
def Reg.RGT.CFG : Field := ⟨0x00c, 0x040, 1, 0, 0⟩
def Reg.RGT.PROG_LO : Field := ⟨0x00c, 0x044, 31, 6, 0⟩
def Reg.RGT.PROG_HI : Field := ⟨0x00c, 0x048, 19, 0, 0⟩
def Reg.RGT.DONE : Field := ⟨0x00c, 0x04c, 13, 0, 0⟩
def Reg.RGT.RUN_CNT : Field := ⟨0x00c, 0x050, 31, 0, 0⟩
def Reg.STH.STAT : Field := ⟨0x00d, 0x008, 12, 0, 0⟩
def Reg.STH.EXT_SEL : Field := ⟨0x00d, 0x040, 11, 0, 0⟩
def Reg.STH.EXT_STAT_DEST : Field := ⟨0x00d, 0x044, 27, 16, 0⟩
def Reg.STH.EXT_STAT_PERSIST : Field := ⟨0x00d, 0x044, 13, 13, 0⟩
def Reg.STH.EXT_STAT_REMOTE : Field := ⟨0x00d, 0x044, 12, 12, 0⟩
def Reg.STH.EXT_STAT_DTYPE : Field := ⟨0x00d, 0x044, 11, 8, 0⟩
def Reg.STH.EXT_STAT_CODEC : Field := ⟨0x00d, 0x044, 7, 4, 0⟩
def Reg.STH.EXT_STAT_STATE : Field := ⟨0x00d, 0x044, 2, 0, 0⟩
def Reg.STH.EXT_LEN : Field := ⟨0x00d, 0x048, 31, 0, 0⟩
def Reg.STH.EXT_CLEN : Field := ⟨0x00d, 0x04c, 31, 0, 0⟩
def Reg.STH.EXT_CRC : Field := ⟨0x00d, 0x050, 31, 0, 0⟩
def Reg.STH.EXT_PAGES : Field := ⟨0x00d, 0x054, 16, 0, 0⟩
def Reg.STH.RETIRE_ALL : Field := ⟨0x00d, 0x058, 12, 12, 0⟩
def Reg.STH.RETIRE_ID : Field := ⟨0x00d, 0x058, 11, 0, 0⟩
def Reg.STH.CORRUPT_CNT : Field := ⟨0x00d, 0x05c, 31, 0, 0⟩
def Reg.STH.RAW_CNT : Field := ⟨0x00d, 0x060, 31, 0, 0⟩
def Reg.TLY.STAT : Field := ⟨0x00e, 0x008, 6, 0, 0⟩
def Reg.TLY.ABORT_GO : Field := ⟨0x00e, 0x040, 16, 16, 0⟩
def Reg.TLY.ABORT_ROUND : Field := ⟨0x00e, 0x040, 15, 0, 0⟩
def Reg.TLY.LAST_ROUND : Field := ⟨0x00e, 0x044, 15, 0, 0⟩
def Reg.TLY.LAST_NORM_LO : Field := ⟨0x00e, 0x048, 31, 0, 0⟩
def Reg.TLY.LAST_NORM_HI : Field := ⟨0x00e, 0x04c, 31, 0, 0⟩
def Reg.TLY.ROUND_CNT_FAILED : Field := ⟨0x00e, 0x050, 31, 16, 0⟩
def Reg.TLY.ROUND_CNT_DONE : Field := ⟨0x00e, 0x050, 15, 0, 0⟩
def Reg.BTH.MAP_BASE_LO : Field := ⟨0x00f, 0x040, 31, 12, 0⟩
def Reg.BTH.MAP_BASE_HI : Field := ⟨0x00f, 0x044, 19, 0, 0⟩
def Reg.BTH.SELF_EPOCH : Field := ⟨0x00f, 0x048, 27, 20, 0⟩
def Reg.BTH.SELF_NODE : Field := ⟨0x00f, 0x048, 11, 0, 4095⟩
def Reg.BTH.STALE_CNT : Field := ⟨0x00f, 0x04c, 31, 0, 0⟩
def Reg.BTH.UNMAPPED_CNT : Field := ⟨0x00f, 0x050, 31, 0, 0⟩
def Reg.BTH.LAST_SWAP_EPOCH : Field := ⟨0x00f, 0x054, 31, 24, 0⟩
def Reg.BTH.LAST_SWAP_SPARE : Field := ⟨0x00f, 0x054, 23, 12, 0⟩
def Reg.BTH.LAST_SWAP_FAILED : Field := ⟨0x00f, 0x054, 11, 0, 0⟩
def Reg.BTH.SWAP_CNT : Field := ⟨0x00f, 0x058, 31, 0, 0⟩
def Reg.UMP.CTRL_EXIT : Field := ⟨0x003, 0x004, 10, 10, 0⟩
def Reg.UMP.CTRL_STAT_CLR : Field := ⟨0x003, 0x004, 9, 9, 0⟩
def Reg.UMP.CTRL_FIRST_CLR : Field := ⟨0x003, 0x004, 8, 8, 0⟩
def Reg.UMP.STAT_EXIT_DENIED : Field := ⟨0x003, 0x008, 9, 9, 0⟩
def Reg.UMP.STAT_SAFE : Field := ⟨0x003, 0x008, 8, 8, 0⟩
def Reg.UMP.STAT_STATE : Field := ⟨0x003, 0x008, 1, 0, 0⟩
def Reg.UMP.SRC : Field := ⟨0x003, 0x040, 31, 0, 0⟩
def Reg.UMP.SAFE_STAMP_LO : Field := ⟨0x003, 0x044, 31, 0, 0⟩
def Reg.UMP.SAFE_STAMP_HI : Field := ⟨0x003, 0x048, 31, 0, 0⟩
def Reg.UMP.EXIT_STAMP_LO : Field := ⟨0x003, 0x04c, 31, 0, 0⟩
def Reg.UMP.EXIT_STAMP_HI : Field := ⟨0x003, 0x050, 31, 0, 0⟩
def Reg.UMP.FATAL_CNT_ENTRIES : Field := ⟨0x003, 0x054, 31, 16, 0⟩
def Reg.UMP.FATAL_CNT_EVENTS : Field := ⟨0x003, 0x054, 15, 0, 0⟩
def Reg.UMP.GLITCH_CNT : Field := ⟨0x003, 0x058, 31, 0, 0⟩
def Reg.UMP.FIRST (k : Nat) : Field := ⟨0x003, 0x060 + 0x4 * k, 31, 0, 0⟩
def Reg.LOG.STAT_COUNT : Field := ⟨0x004, 0x008, 21, 16, 0⟩
def Reg.LOG.STAT_NEXT_SEQ : Field := ⟨0x004, 0x008, 15, 0, 0⟩
def Reg.LOG.TOTAL : Field := ⟨0x004, 0x040, 31, 0, 0⟩
def Reg.LOG.DROP_CNT : Field := ⟨0x004, 0x044, 31, 0, 0⟩
def Reg.LOG.QUEUE : Field := ⟨0x004, 0x048, 6, 0, 0⟩
def Reg.LOG.ENT_A (k : Nat) : Field := ⟨0x004, 0x100 + 0x10 * k, 31, 0, 0⟩
def Reg.LOG.ENT_B (k : Nat) : Field := ⟨0x004, 0x104 + 0x10 * k, 31, 0, 0⟩
def Reg.LOG.ENT_C (k : Nat) : Field := ⟨0x004, 0x108 + 0x10 * k, 31, 0, 0⟩
def Reg.LOG.ENT_D (k : Nat) : Field := ⟨0x004, 0x10c + 0x10 * k, 31, 0, 0⟩

/-! ## Event codes (Table 13.1) -/

def Err.STK.FREEWHEEL_END : ErrCode := ⟨0x001, .corr, 1⟩
def Err.STK.MARKER_MISS : ErrCode := ⟨0x001, .corr, 0⟩
def Err.STK.COUNT_RESYNC : ErrCode := ⟨0x001, .cont, 1⟩
def Err.STK.FREEWHEEL : ErrCode := ⟨0x001, .cont, 0⟩
def Err.STK.MARKER_PHASE : ErrCode := ⟨0x001, .fatal, 0⟩
def Err.CKM.FWD_CLK_LOSS : ErrCode := ⟨0x002, .fatal, 1⟩
def Err.CKM.REFCLK_LOSS : ErrCode := ⟨0x002, .fatal, 0⟩
def Err.CLV.FILL_STALE (n : Nat) : ErrCode := ⟨(0x020 + n), .corr, 2⟩
def Err.CLV.REPLAY (n : Nat) : ErrCode := ⟨(0x020 + n), .corr, 1⟩
def Err.CLV.CRC_BAD (n : Nat) : ErrCode := ⟨(0x020 + n), .corr, 0⟩
def Err.CLV.UNREACHABLE (n : Nat) : ErrCode := ⟨(0x020 + n), .cont, 5⟩
def Err.CLV.BUF_UE (n : Nat) : ErrCode := ⟨(0x020 + n), .cont, 4⟩
def Err.CLV.CLK_LOSS (n : Nat) : ErrCode := ⟨(0x020 + n), .cont, 3⟩
def Err.CLV.PROTOCOL (n : Nat) : ErrCode := ⟨(0x020 + n), .cont, 2⟩
def Err.CLV.NO_PROGRESS (n : Nat) : ErrCode := ⟨(0x020 + n), .cont, 1⟩
def Err.CLV.TRAIN_FAIL (n : Nat) : ErrCode := ⟨(0x020 + n), .cont, 0⟩
def Err.GLB.SB_KIND : ErrCode := ⟨0x000, .corr, 1⟩
def Err.GLB.SB_DISCARD : ErrCode := ⟨0x000, .corr, 0⟩
def Err.MGT.PARITY : ErrCode := ⟨0x010, .corr, 0⟩
def Err.OPT.SYN_RETRY (n : Nat) : ErrCode := ⟨(0x060 + n), .corr, 3⟩
def Err.OPT.BANK_REF (n : Nat) : ErrCode := ⟨(0x060 + n), .corr, 2⟩
def Err.OPT.WITHDRAW_SPARED (n : Nat) : ErrCode := ⟨(0x060 + n), .corr, 1⟩
def Err.OPT.MON_OVR (n : Nat) : ErrCode := ⟨(0x060 + n), .corr, 0⟩
def Err.OPT.SYN_FAIL (n : Nat) : ErrCode := ⟨(0x060 + n), .cont, 1⟩
def Err.OPT.WITHDRAW_NARROW (n : Nat) : ErrCode := ⟨(0x060 + n), .cont, 0⟩
def Err.HGT.INPUT_HIGH (x : Nat) : ErrCode := ⟨0x012, .corr, 4 + x⟩
def Err.HGT.INPUT_LOW (x : Nat) : ErrCode := ⟨0x012, .corr, 0 + x⟩
def Err.HGT.INPUT_LOST (x : Nat) : ErrCode := ⟨0x012, .cont, 0 + x⟩
def Err.HGT.SHUT_FAIL (x : Nat) : ErrCode := ⟨0x012, .fatal, 0 + x⟩
def Err.RWL.SPARE_LOST (n : Nat) : ErrCode := ⟨(0x080 + n), .corr, 4⟩
def Err.RWL.ADD_RETRY (n : Nat) : ErrCode := ⟨(0x080 + n), .corr, 3⟩
def Err.RWL.FAIL_SPARED (n : Nat) : ErrCode := ⟨(0x080 + n), .corr, 2⟩
def Err.RWL.MEMBER_CHANGE (n : Nat) : ErrCode := ⟨(0x080 + n), .corr, 1⟩
def Err.RWL.LOL_SPARED (n : Nat) : ErrCode := ⟨(0x080 + n), .corr, 0⟩
def Err.RWL.FAIL_NARROW (n : Nat) : ErrCode := ⟨(0x080 + n), .cont, 1⟩
def Err.RWL.LOL_NARROW (n : Nat) : ErrCode := ⟨(0x080 + n), .cont, 0⟩
def Err.CAL.VISIT_FAIL : ErrCode := ⟨0x006, .corr, 1⟩
def Err.CAL.IMPLAUSIBLE : ErrCode := ⟨0x006, .corr, 0⟩
def Err.CAL.NO_SETS : ErrCode := ⟨0x006, .cont, 0⟩
def Err.DTM.LINE_OFFSET : ErrCode := ⟨0x014, .corr, 2⟩
def Err.DTM.DATUM_REJECTED : ErrCode := ⟨0x014, .corr, 1⟩
def Err.DTM.DATUM_LOST : ErrCode := ⟨0x014, .corr, 0⟩
def Err.THM.SENSOR : ErrCode := ⟨0x011, .corr, 0⟩
def Err.THM.COLD : ErrCode := ⟨0x011, .cont, 1⟩
def Err.THM.HOT : ErrCode := ⟨0x011, .cont, 0⟩
def Err.THM.TRIP : ErrCode := ⟨0x011, .fatal, 0⟩
def Err.NVS.SEQ_TIE : ErrCode := ⟨0x005, .corr, 2⟩
def Err.NVS.SLOT_INVALID : ErrCode := ⟨0x005, .corr, 1⟩
def Err.NVS.ECC_CE : ErrCode := ⟨0x005, .corr, 0⟩
def Err.NVS.RECORD_LOST : ErrCode := ⟨0x005, .cont, 1⟩
def Err.NVS.WRITE_FAIL : ErrCode := ⟨0x005, .cont, 0⟩
def Err.LVL.BA_REJECT : ErrCode := ⟨0x007, .corr, 7⟩
def Err.LVL.BA_ABANDON : ErrCode := ⟨0x007, .corr, 6⟩
def Err.LVL.FACTOR_UE : ErrCode := ⟨0x007, .corr, 5⟩
def Err.LVL.STORE_CE : ErrCode := ⟨0x007, .corr, 4⟩
def Err.LVL.DELTA_REJECT : ErrCode := ⟨0x007, .corr, 3⟩
def Err.LVL.OUT_SAT : ErrCode := ⟨0x007, .corr, 2⟩
def Err.LVL.TGT_CLAMP : ErrCode := ⟨0x007, .corr, 1⟩
def Err.LVL.SOLVE_MISS : ErrCode := ⟨0x007, .corr, 0⟩
def Err.LVL.MATRIX_UE : ErrCode := ⟨0x007, .cont, 1⟩
def Err.LVL.THERMAL_HOLD : ErrCode := ⟨0x007, .cont, 0⟩
def Err.LNK.PAUSE_LONG (n : Nat) : ErrCode := ⟨(0x040 + n), .corr, 4⟩
def Err.LNK.CTRL_RETRY (n : Nat) : ErrCode := ⟨(0x040 + n), .corr, 3⟩
def Err.LNK.RPL_STALL (n : Nat) : ErrCode := ⟨(0x040 + n), .corr, 2⟩
def Err.LNK.REPLAY (n : Nat) : ErrCode := ⟨(0x040 + n), .corr, 1⟩
def Err.LNK.SHELL_BAD (n : Nat) : ErrCode := ⟨(0x040 + n), .corr, 0⟩
def Err.LNK.FAN_MEMBER_LOST (n : Nat) : ErrCode := ⟨(0x040 + n), .cont, 2⟩
def Err.LNK.TRAIN_FAIL (n : Nat) : ErrCode := ⟨(0x040 + n), .cont, 1⟩
def Err.LNK.LINK_DOWN (n : Nat) : ErrCode := ⟨(0x040 + n), .cont, 0⟩
def Err.COX.CC_UE : ErrCode := ⟨0x00a, .corr, 3⟩
def Err.COX.CC_CE : ErrCode := ⟨0x00a, .corr, 2⟩
def Err.COX.OQ_DISABLED : ErrCode := ⟨0x00a, .corr, 1⟩
def Err.COX.DOORBELL : ErrCode := ⟨0x00a, .corr, 0⟩
def Err.COX.OQ_WRITE_FAIL : ErrCode := ⟨0x00a, .cont, 1⟩
def Err.COX.IQ_STOPPED : ErrCode := ⟨0x00a, .cont, 0⟩
def Err.RSV.WAIT_EXPIRED : ErrCode := ⟨0x009, .corr, 2⟩
def Err.RSV.PAGEOUT : ErrCode := ⟨0x009, .corr, 1⟩
def Err.RSV.ECC_CE : ErrCode := ⟨0x009, .corr, 0⟩
def Err.RSV.PAGE_UE : ErrCode := ⟨0x009, .cont, 0⟩
def Err.FLM.AUTO_CROSS : ErrCode := ⟨0x008, .corr, 4⟩
def Err.FLM.DRIFT : ErrCode := ⟨0x008, .corr, 3⟩
def Err.FLM.MZI_HELD : ErrCode := ⟨0x008, .corr, 2⟩
def Err.FLM.MON_OVR : ErrCode := ⟨0x008, .corr, 1⟩
def Err.FLM.ROLLBACK : ErrCode := ⟨0x008, .corr, 0⟩
def Err.FLM.FAN_ABORT : ErrCode := ⟨0x008, .cont, 2⟩
def Err.FLM.NO_ESTIMATE : ErrCode := ⟨0x008, .cont, 1⟩
def Err.FLM.CONFIG_FAIL : ErrCode := ⟨0x008, .cont, 0⟩
def Err.STH.PAGEOUT_RETRY : ErrCode := ⟨0x00d, .corr, 0⟩
def Err.STH.CORRUPT : ErrCode := ⟨0x00d, .cont, 1⟩
def Err.STH.EXTENT_BAD : ErrCode := ⟨0x00d, .cont, 0⟩
def Err.TLY.STRAY : ErrCode := ⟨0x00e, .corr, 0⟩
def Err.TLY.ROUND_FAIL : ErrCode := ⟨0x00e, .cont, 0⟩
def Err.BTH.UNMAPPED_SRC : ErrCode := ⟨0x00f, .corr, 1⟩
def Err.BTH.STALE : ErrCode := ⟨0x00f, .corr, 0⟩
def Err.BTH.SWAP_FAIL : ErrCode := ⟨0x00f, .cont, 0⟩
def Err.UMP.SELF_PARITY : ErrCode := ⟨0x003, .fatal, 1⟩
def Err.UMP.RAIL_MISMATCH : ErrCode := ⟨0x003, .fatal, 0⟩

/-- The bits a page's ERR register of a class has (Table 13.1); its other bits are reserved and read 0. -/
def Block.errMask : Block → EvClass → Nat
  | .stk, .corr => 0x3
  | .stk, .cont => 0x3
  | .stk, .fatal => 0x1
  | .ckm, .fatal => 0x3
  | .clv, .corr => 0x7
  | .clv, .cont => 0x3f
  | .glb, .corr => 0x3
  | .mgt, .corr => 0x1
  | .opt, .corr => 0xf
  | .opt, .cont => 0x3
  | .hgt, .corr => 0xff
  | .hgt, .cont => 0xf
  | .hgt, .fatal => 0xf
  | .rwl, .corr => 0x1f
  | .rwl, .cont => 0x3
  | .cal, .corr => 0x3
  | .cal, .cont => 0x1
  | .dtm, .corr => 0x7
  | .thm, .corr => 0x1
  | .thm, .cont => 0x3
  | .thm, .fatal => 0x1
  | .nvs, .corr => 0x7
  | .nvs, .cont => 0x3
  | .lvl, .corr => 0xff
  | .lvl, .cont => 0x3
  | .lnk, .corr => 0x1f
  | .lnk, .cont => 0x7
  | .cox, .corr => 0xf
  | .cox, .cont => 0x3
  | .rsv, .corr => 0x7
  | .rsv, .cont => 0x1
  | .flm, .corr => 0x1f
  | .flm, .cont => 0x7
  | .sth, .corr => 0x1
  | .sth, .cont => 0x3
  | .tly, .corr => 0x1
  | .tly, .cont => 0x1
  | .bth, .corr => 0x3
  | .bth, .cont => 0x1
  | .ump, .fatal => 0x3
  | _, _ => 0

/-! ## Rows for generic access -/

/-- The header registers every page has (Table 4.2). CTRL bits 7:0 are the common bits of Table 4.3. -/
def headerRows : List RegRow :=
  [⟨0x004, 1, 0, [⟨4, 4, .wo, 0, 0, 1⟩, ⟨1, 1, .rw, 0, 0, 1⟩, ⟨0, 0, .rw, 0, 0, 1⟩]⟩,
   ⟨0x01C, 1, 0, [⟨31, 24, .ro, 0, 0, 255⟩, ⟨23, 16, .ro, 0, 0, 255⟩, ⟨15, 0, .ro, 0, 0, 65535⟩]⟩,
   ⟨0x030, 1, 0, [⟨31, 0, .rw, 0, 0, 0xFFFFFFFF⟩]⟩,
   ⟨0x034, 1, 0, [⟨31, 16, .wo, 0, 0, 0xFFFF⟩, ⟨15, 8, .ro, 0, 0, 255⟩, ⟨1, 1, .rw, 0, 0, 1⟩, ⟨0, 0, .rw, 0, 0, 1⟩]⟩]

/-- The block registers of the STK page. -/
def rowsSTK : List RegRow :=
  [⟨0x008, 1, 0, [⟨5, 5, .ro, 0, 0, 1⟩, ⟨4, 4, .ro, 0, 0, 1⟩, ⟨3, 2, .ro, 0, 0, 3⟩, ⟨1, 1, .ro, 0, 0, 1⟩, ⟨0, 0, .ro, 0, 0, 1⟩]⟩,
   ⟨0x040, 1, 0, [⟨31, 0, .ro, 0, 0, 4294967295⟩]⟩,
   ⟨0x044, 1, 0, [⟨15, 0, .ro, 0, 0, 65535⟩]⟩,
   ⟨0x048, 1, 0, [⟨17, 16, .ro, 0, 0, 3⟩, ⟨10, 0, .ro, 0, 0, 2047⟩]⟩,
   ⟨0x050, 1, 0, [⟨31, 24, .ro, 0, 0, 255⟩, ⟨23, 16, .ro, 0, 0, 255⟩, ⟨15, 8, .ro, 0, 0, 255⟩, ⟨7, 0, .ro, 0, 0, 255⟩]⟩,
   ⟨0x054, 1, 0, [⟨31, 24, .ro, 0, 0, 255⟩, ⟨23, 16, .ro, 0, 0, 255⟩, ⟨15, 8, .ro, 0, 0, 255⟩, ⟨7, 0, .ro, 0, 0, 255⟩]⟩,
   ⟨0x058, 1, 0, [⟨7, 0, .wo, 0, 0, 255⟩]⟩,
   ⟨0x05c, 1, 0, [⟨23, 16, .ro, 0, 0, 255⟩, ⟨15, 0, .ro, 0, 0, 65535⟩]⟩]

/-- The block registers of the CKM page. -/
def rowsCKM : List RegRow :=
  [⟨0x008, 1, 0, [⟨8, 4, .ro, 0, 0, 31⟩, ⟨3, 3, .ro, 0, 0, 1⟩, ⟨2, 2, .ro, 0, 0, 1⟩, ⟨1, 1, .ro, 0, 0, 1⟩, ⟨0, 0, .ro, 0, 0, 1⟩]⟩,
   ⟨0x040, 1, 0, [⟨15, 0, .ro, 0, 0, 65535⟩]⟩,
   ⟨0x044, 1, 0, [⟨31, 0, .ro, 0, 0, 4294967295⟩]⟩]

/-- The block registers of the CLV pages. -/
def rowsCLV : List RegRow :=
  [⟨0x004, 1, 0, [⟨12, 12, .rw, 0, 0, 1⟩, ⟨11, 10, .rw, 2, 0, 2⟩, ⟨9, 9, .wo, 0, 0, 1⟩, ⟨8, 8, .rw, 1, 0, 1⟩]⟩,
   ⟨0x008, 1, 0, [⟨15, 12, .ro, 0, 0, 15⟩, ⟨9, 9, .ro, 0, 0, 1⟩, ⟨8, 8, .ro, 0, 0, 1⟩, ⟨7, 7, .ro, 0, 0, 1⟩, ⟨5, 4, .ro, 2, 0, 3⟩, ⟨3, 0, .ro, 0, 0, 15⟩]⟩,
   ⟨0x040, 1, 0, [⟨31, 0, .ro, 4255, 0, 4294967295⟩]⟩,
   ⟨0x044, 1, 0, [⟨31, 0, .ro, 0, 0, 4294967295⟩]⟩,
   ⟨0x048, 1, 0, [⟨31, 24, .ro, 0, 0, 255⟩, ⟨23, 0, .ro, 0, 0, 16777215⟩]⟩,
   ⟨0x04c, 1, 0, [⟨10, 0, .rw, 200, 100, 1280⟩]⟩,
   ⟨0x050, 1, 0, [⟨23, 12, .ro, 4095, 0, 4095⟩, ⟨11, 0, .ro, 0, 0, 4095⟩]⟩,
   ⟨0x054, 1, 0, [⟨25, 16, .ro, 0, 0, 1023⟩, ⟨9, 0, .ro, 0, 0, 1023⟩]⟩,
   ⟨0x058, 1, 0, [⟨31, 0, .ro, 0, 0, 4294967295⟩]⟩,
   ⟨0x05c, 1, 0, [⟨31, 0, .ro, 0, 0, 4294967295⟩]⟩,
   ⟨0x060, 1, 0, [⟨31, 16, .ro, 0, 0, 65535⟩, ⟨15, 0, .ro, 0, 0, 65535⟩]⟩,
   ⟨0x064, 1, 0, [⟨31, 0, .ro, 0, 0, 4294967295⟩]⟩,
   ⟨0x068, 1, 0, [⟨15, 0, .rw, 1024, 1, 65535⟩]⟩,
   ⟨0x06c, 1, 0, [⟨31, 0, .ro, 0, 0, 4294967295⟩]⟩,
   ⟨0x070, 1, 0, [⟨31, 0, .ro, 0, 0, 4294967295⟩]⟩,
   ⟨0x074, 1, 0, [⟨2, 2, .ro, 0, 0, 1⟩, ⟨1, 1, .ro, 0, 0, 1⟩, ⟨0, 0, .ro, 0, 0, 1⟩]⟩,
   ⟨0x080, 8, 4, [⟨31, 0, .ro, 1985229328, 0, 4294967295⟩]⟩]

/-- The block registers of the GLB page. -/
def rowsGLB : List RegRow :=
  [⟨0x008, 1, 0, [⟨11, 8, .ro, 0, 0, 15⟩, ⟨2, 2, .ro, 1, 0, 1⟩, ⟨1, 1, .ro, 0, 0, 1⟩, ⟨0, 0, .ro, 0, 0, 1⟩]⟩,
   ⟨0x040, 1, 0, [⟨6, 4, .ro, 0, 0, 7⟩, ⟨2, 2, .ro, 0, 0, 1⟩, ⟨1, 0, .ro, 0, 0, 3⟩]⟩,
   ⟨0x044, 1, 0, [⟨23, 0, .ro, 0, 0, 16777215⟩]⟩,
   ⟨0x048, 1, 0, [⟨31, 0, .ro, 396694927, 0, 4294967295⟩]⟩,
   ⟨0x04c, 1, 0, [⟨31, 0, .ro, 0, 0, 4294967295⟩]⟩,
   ⟨0x050, 1, 0, [⟨31, 0, .ro, 0, 0, 4294967295⟩]⟩,
   ⟨0x060, 1, 0, [⟨27, 27, .ro, 0, 0, 1⟩, ⟨26, 26, .ro, 0, 0, 1⟩, ⟨25, 25, .ro, 0, 0, 1⟩, ⟨24, 24, .ro, 0, 0, 1⟩, ⟨20, 0, .ro, 0, 0, 2097151⟩]⟩,
   ⟨0x064, 1, 0, [⟨7, 0, .ro, 0, 0, 255⟩]⟩,
   ⟨0x068, 1, 0, [⟨15, 0, .ro, 0, 0, 65535⟩]⟩,
   ⟨0x06c, 1, 0, [⟨15, 0, .ro, 0, 0, 65535⟩]⟩,
   ⟨0x070, 1, 0, [⟨15, 0, .ro, 0, 0, 65535⟩]⟩,
   ⟨0x080, 1, 0, [⟨31, 16, .wo, 0, 0, 65535⟩, ⟨0, 0, .wo, 0, 0, 1⟩]⟩,
   ⟨0x0a0, 1, 0, [⟨31, 0, .ro, 0, 0, 4294967295⟩]⟩,
   ⟨0x0a4, 1, 0, [⟨31, 0, .ro, 0, 0, 4294967295⟩]⟩]

/-- The block registers of the MGT page. -/
def rowsMGT : List RegRow :=
  [⟨0x004, 1, 0, [⟨8, 8, .rw, 0, 0, 1⟩]⟩,
   ⟨0x008, 1, 0, [⟨21, 20, .ro, 0, 0, 3⟩, ⟨18, 16, .ro, 1, 0, 7⟩, ⟨14, 8, .ro, 0, 0, 127⟩, ⟨3, 3, .ro, 0, 0, 1⟩, ⟨2, 2, .w1c, 0, 0, 1⟩, ⟨1, 1, .w1c, 0, 0, 1⟩, ⟨0, 0, .w1c, 0, 0, 1⟩]⟩,
   ⟨0x040, 1, 0, [⟨6, 0, .ro, 0, 0, 127⟩]⟩,
   ⟨0x044, 1, 0, [⟨31, 0, .ro, 0, 0, 4294967295⟩]⟩,
   ⟨0x048, 1, 0, [⟨15, 0, .ro, 13526, 0, 65535⟩]⟩,
   ⟨0x04c, 1, 0, [⟨21, 0, .ro, 0, 0, 4194303⟩]⟩,
   ⟨0x050, 1, 0, [⟨31, 16, .ro, 0, 0, 65535⟩, ⟨15, 0, .ro, 0, 0, 65535⟩]⟩]

/-- The block registers of the OPT pages. -/
def rowsOPT : List RegRow :=
  [⟨0x004, 1, 0, [⟨8, 8, .wo, 0, 0, 1⟩]⟩,
   ⟨0x008, 1, 0, [⟨20, 16, .ro, 0, 0, 31⟩, ⟨13, 12, .ro, 0, 0, 3⟩, ⟨9, 8, .ro, 0, 0, 3⟩, ⟨2, 0, .ro, 0, 0, 7⟩]⟩,
   ⟨0x040, 1, 0, [⟨31, 0, .ro, 50462976, 0, 4294967295⟩]⟩,
   ⟨0x044, 1, 0, [⟨31, 0, .ro, 117835012, 0, 4294967295⟩]⟩,
   ⟨0x048, 1, 0, [⟨31, 0, .ro, 185207048, 0, 4294967295⟩]⟩,
   ⟨0x04c, 1, 0, [⟨31, 0, .ro, 252579084, 0, 4294967295⟩]⟩,
   ⟨0x050, 1, 0, [⟨31, 0, .ro, 50462976, 0, 4294967295⟩]⟩,
   ⟨0x054, 1, 0, [⟨31, 0, .ro, 117835012, 0, 4294967295⟩]⟩,
   ⟨0x058, 1, 0, [⟨31, 0, .ro, 185207048, 0, 4294967295⟩]⟩,
   ⟨0x05c, 1, 0, [⟨31, 0, .ro, 252579084, 0, 4294967295⟩]⟩,
   ⟨0x060, 1, 0, [⟨31, 0, .w1c, 0, 0, 4294967295⟩]⟩,
   ⟨0x064, 1, 0, [⟨7, 0, .w1c, 0, 0, 255⟩]⟩,
   ⟨0x068, 1, 0, [⟨31, 0, .ro, 0, 0, 4294967295⟩]⟩,
   ⟨0x06c, 1, 0, [⟨7, 0, .ro, 0, 0, 255⟩]⟩,
   ⟨0x070, 1, 0, [⟨31, 0, .ro, 0, 0, 4294967295⟩]⟩,
   ⟨0x074, 1, 0, [⟨7, 0, .ro, 0, 0, 255⟩]⟩,
   ⟨0x078, 1, 0, [⟨17, 0, .ro, 262143, 0, 262143⟩]⟩,
   ⟨0x07c, 1, 0, [⟨31, 16, .ro, 0, 0, 65535⟩, ⟨15, 0, .ro, 0, 0, 65535⟩]⟩,
   ⟨0x080, 1, 0, [⟨31, 0, .ro, 0, 0, 4294967295⟩]⟩,
   ⟨0x100, 40, 4, [⟨31, 16, .ro, 0, 0, 65535⟩, ⟨15, 15, .ro, 0, 0, 1⟩, ⟨14, 14, .ro, 0, 0, 1⟩, ⟨13, 13, .ro, 0, 0, 1⟩, ⟨12, 12, .ro, 0, 0, 1⟩, ⟨11, 0, .ro, 0, 0, 4095⟩]⟩]

/-- The block registers of the HGT page. -/
def rowsHGT : List RegRow :=
  [⟨0x040, 4, 4, [⟨15, 8, .rw, 0, 0, 240⟩, ⟨0, 0, .rw, 1, 0, 1⟩]⟩,
   ⟨0x050, 1, 0, [⟨3, 0, .rw, 2, 1, 8⟩]⟩,
   ⟨0x054, 1, 0, [⟨15, 0, .rw, 2600, 0, 65535⟩]⟩,
   ⟨0x058, 1, 0, [⟨15, 0, .rw, 3000, 0, 65535⟩]⟩,
   ⟨0x060, 4, 4, [⟨31, 16, .ro, 32768, 0, 65535⟩, ⟨15, 8, .ro, 240, 0, 255⟩, ⟨1, 1, .ro, 0, 0, 1⟩, ⟨0, 0, .ro, 0, 0, 1⟩]⟩]

/-- The block registers of the RWL pages. -/
def rowsRWL : List RegRow :=
  [⟨0x004, 1, 0, [⟨9, 9, .rw, 0, 0, 1⟩, ⟨8, 8, .wo, 0, 0, 1⟩]⟩,
   ⟨0x008, 1, 0, [⟨25, 25, .ro, 0, 0, 1⟩, ⟨24, 24, .ro, 0, 0, 1⟩, ⟨21, 16, .ro, 0, 0, 63⟩, ⟨9, 8, .ro, 0, 0, 3⟩, ⟨4, 0, .ro, 0, 0, 31⟩]⟩,
   ⟨0x040, 1, 0, [⟨11, 0, .rw, 64, 16, 2047⟩]⟩,
   ⟨0x044, 1, 0, [⟨3, 0, .rw, 4, 1, 10⟩]⟩,
   ⟨0x048, 1, 0, [⟨11, 0, .rw, 64, 16, 512⟩]⟩,
   ⟨0x04c, 1, 0, [⟨15, 0, .rw, 160, 96, 1024⟩]⟩,
   ⟨0x050, 1, 0, [⟨15, 0, .rw, 4096, 0, 65535⟩]⟩,
   ⟨0x054, 1, 0, [⟨17, 0, .wo, 0, 0, 262143⟩]⟩,
   ⟨0x058, 1, 0, [⟨17, 0, .wo, 0, 0, 262143⟩]⟩,
   ⟨0x060, 1, 0, [⟨31, 0, .ro, 0, 0, 4294967295⟩]⟩,
   ⟨0x064, 1, 0, [⟨31, 16, .ro, 0, 0, 65535⟩, ⟨15, 0, .ro, 0, 0, 65535⟩]⟩,
   ⟨0x068, 1, 0, [⟨31, 0, .ro, 0, 0, 4294967295⟩]⟩,
   ⟨0x100, 18, 4, [⟨31, 20, .ro, 0, 0, 4095⟩, ⟨19, 16, .ro, 0, 0, 15⟩, ⟨12, 8, .ro, 0, 0, 31⟩, ⟨5, 4, .ro, 0, 0, 3⟩, ⟨2, 0, .ro, 0, 0, 7⟩]⟩,
   ⟨0x180, 18, 4, [⟨31, 0, .ro, 0, 0, 4294967295⟩]⟩,
   ⟨0x200, 18, 4, [⟨31, 31, .ro, 0, 0, 1⟩, ⟨15, 0, .ro, 0, 0, 65535⟩]⟩,
   ⟨0x280, 18, 4, [⟨31, 0, .ro, 0, 0, 4294967295⟩]⟩]

/-- The block registers of the WEI page. -/
def rowsWEI : List RegRow :=
  [⟨0x040, 1, 0, [⟨31, 16, .ro, 8192, 0, 65535⟩, ⟨15, 0, .ro, 1024, 0, 65535⟩]⟩,
   ⟨0x044, 1, 0, [⟨7, 0, .ro, 8, 0, 255⟩]⟩,
   ⟨0x048, 1, 0, [⟨15, 8, .ro, 4, 0, 255⟩, ⟨7, 0, .ro, 1, 0, 255⟩]⟩,
   ⟨0x050, 1, 0, [⟨15, 0, .rw, 0, 0, 65535⟩]⟩,
   ⟨0x060, 4, 4, [⟨31, 0, .ro, 0, 0, 4294967295⟩]⟩,
   ⟨0x070, 1, 0, [⟨15, 0, .ro, 0, 0, 65535⟩]⟩,
   ⟨0x074, 1, 0, [⟨31, 0, .ro, 0, 0, 4294967295⟩]⟩,
   ⟨0x078, 1, 0, [⟨9, 0, .ro, 0, 0, 1023⟩]⟩]

/-- The block registers of the CAL page. -/
def rowsCAL : List RegRow :=
  [⟨0x004, 1, 0, [⟨8, 8, .rw, 1, 0, 1⟩]⟩,
   ⟨0x008, 1, 0, [⟨4, 0, .ro, 0, 0, 31⟩]⟩,
   ⟨0x040, 1, 0, [⟨6, 0, .rw, 16, 4, 64⟩]⟩,
   ⟨0x044, 1, 0, [⟨15, 0, .rw, 1024, 64, 65535⟩]⟩,
   ⟨0x048, 1, 0, [⟨4, 0, .rw, 4, 1, 16⟩]⟩,
   ⟨0x04c, 1, 0, [⟨15, 0, .wo, 0, 0, 65535⟩]⟩,
   ⟨0x050, 1, 0, [⟨15, 0, .ro, 0, 0, 65535⟩]⟩,
   ⟨0x054, 1, 0, [⟨15, 0, .ro, 0, 0, 65535⟩]⟩,
   ⟨0x058, 1, 0, [⟨31, 16, .ro, 0, 0, 65535⟩, ⟨15, 0, .ro, 0, 0, 65535⟩]⟩,
   ⟨0x060, 8, 4, [⟨31, 0, .ro, 0, 0, 4294967295⟩]⟩,
   ⟨0x080, 8, 4, [⟨31, 0, .ro, 0, 0, 4294967295⟩]⟩,
   ⟨0x0a0, 1, 0, [⟨31, 0, .ro, 0, 0, 4294967295⟩]⟩,
   ⟨0x0a4, 1, 0, [⟨31, 0, .ro, 0, 0, 4294967295⟩]⟩,
   ⟨0x0a8, 1, 0, [⟨31, 0, .ro, 0, 0, 4294967295⟩]⟩,
   ⟨0x0c0, 1, 0, [⟨9, 6, .rw, 0, 0, 15⟩, ⟨5, 5, .rw, 0, 0, 1⟩, ⟨4, 0, .rw, 0, 0, 17⟩]⟩,
   ⟨0x0c4, 1, 0, [⟨31, 0, .ro, 0, 0, 4294967295⟩]⟩,
   ⟨0x0c8, 1, 0, [⟨31, 0, .ro, 0, 0, 4294967295⟩]⟩]

/-- The block registers of the DTM page. -/
def rowsDTM : List RegRow :=
  [⟨0x004, 1, 0, [⟨8, 8, .wo, 0, 0, 1⟩]⟩,
   ⟨0x008, 1, 0, [⟨7, 4, .ro, 0, 0, 15⟩, ⟨1, 0, .ro, 0, 0, 3⟩]⟩,
   ⟨0x040, 1, 0, [⟨15, 0, .ro, 32768, 0, 65535⟩]⟩,
   ⟨0x044, 4, 4, [⟨15, 0, .ro, 32768, 0, 65535⟩]⟩,
   ⟨0x058, 1, 0, [⟨31, 0, .ro, 0, 0, 4294967295⟩]⟩,
   ⟨0x05c, 1, 0, [⟨31, 0, .ro, 0, 0, 4294967295⟩]⟩]

/-- The block registers of the THM page. -/
def rowsTHM : List RegRow :=
  [⟨0x040, 20, 4, [⟨31, 31, .ro, 0, 0, 1⟩, ⟨15, 0, .ro, 0, 0, 65535⟩]⟩,
   ⟨0x0a0, 16, 4, [⟨15, 0, .ro, 0, 0, 65535⟩]⟩]

/-- The block registers of the NVS page. -/
def rowsNVS : List RegRow :=
  [⟨0x008, 1, 0, [⟨8, 8, .ro, 0, 0, 1⟩, ⟨4, 2, .ro, 0, 0, 7⟩, ⟨1, 1, .w1c, 0, 0, 1⟩, ⟨0, 0, .ro, 0, 0, 1⟩]⟩,
   ⟨0x040, 1, 0, [⟨31, 30, .wo, 0, 0, 3⟩, ⟨13, 0, .wo, 0, 0, 16383⟩]⟩,
   ⟨0x060, 7, 4, [⟨31, 31, .ro, 0, 0, 1⟩, ⟨30, 30, .ro, 0, 0, 1⟩, ⟨29, 29, .ro, 0, 0, 1⟩, ⟨23, 0, .ro, 0, 0, 16777215⟩]⟩,
   ⟨0x0a0, 1, 0, [⟨31, 0, .ro, 0, 0, 4294967295⟩]⟩,
   ⟨0x0a4, 1, 0, [⟨31, 0, .ro, 0, 0, 4294967295⟩]⟩,
   ⟨0x100, 64, 4, [⟨31, 0, .ro, 0, 0, 4294967295⟩]⟩,
   ⟨0x200, 1, 0, [⟨31, 0, .ro, 0, 0, 4294967295⟩]⟩,
   ⟨0x204, 1, 0, [⟨31, 0, .ro, 0, 0, 4294967295⟩]⟩,
   ⟨0x208, 1, 0, [⟨13, 0, .ro, 0, 0, 16383⟩]⟩,
   ⟨0x300, 62, 4, [⟨31, 0, .rw, 0, 0, 4294967295⟩]⟩]

/-- The block registers of the LVL page. -/
def rowsLVL : List RegRow :=
  [⟨0x004, 1, 0, [⟨8, 8, .wo, 0, 0, 1⟩]⟩,
   ⟨0x008, 1, 0, [⟨28, 24, .ro, 0, 0, 31⟩, ⟨23, 20, .ro, 0, 0, 15⟩, ⟨17, 17, .ro, 0, 0, 1⟩, ⟨15, 14, .ro, 0, 0, 3⟩, ⟨9, 8, .ro, 0, 0, 3⟩, ⟨2, 0, .ro, 0, 0, 7⟩]⟩,
   ⟨0x040, 1, 0, [⟨31, 16, .ro, 3166, 0, 65535⟩, ⟨15, 0, .ro, 2, 0, 65535⟩]⟩,
   ⟨0x044, 1, 0, [⟨11, 0, .ro, 1984, 0, 4095⟩]⟩,
   ⟨0x048, 1, 0, [⟨26, 16, .ro, 0, 0, 2047⟩, ⟨10, 0, .ro, 0, 0, 2047⟩]⟩,
   ⟨0x04c, 1, 0, [⟨31, 16, .ro, 0, 0, 65535⟩, ⟨15, 0, .ro, 0, 0, 65535⟩]⟩,
   ⟨0x050, 1, 0, [⟨23, 0, .ro, 0, 0, 16777215⟩]⟩,
   ⟨0x054, 1, 0, [⟨31, 0, .ro, 0, 0, 4294967295⟩]⟩,
   ⟨0x058, 1, 0, [⟨31, 16, .ro, 0, 0, 65535⟩, ⟨15, 0, .ro, 0, 0, 65535⟩]⟩,
   ⟨0x060, 1, 0, [⟨27, 24, .rw, 4, 1, 15⟩, ⟨19, 16, .rw, 4, 1, 8⟩, ⟨15, 0, .rw, 128, 32, 1024⟩]⟩,
   ⟨0x064, 1, 0, [⟨31, 16, .ro, 0, 0, 65535⟩, ⟨15, 0, .ro, 0, 0, 65535⟩]⟩,
   ⟨0x068, 1, 0, [⟨8, 8, .ro, 0, 0, 1⟩, ⟨7, 4, .ro, 0, 0, 15⟩, ⟨3, 0, .ro, 0, 0, 15⟩]⟩,
   ⟨0x06c, 1, 0, [⟨31, 0, .ro, 0, 0, 4294967295⟩]⟩,
   ⟨0x070, 1, 0, [⟨31, 0, .ro, 0, 0, 4294967295⟩]⟩,
   ⟨0x074, 1, 0, [⟨15, 0, .ro, 0, 0, 65535⟩]⟩,
   ⟨0x080, 1, 0, [⟨25, 16, .rw, 0, 0, 815⟩, ⟨9, 0, .rw, 0, 0, 815⟩]⟩,
   ⟨0x084, 1, 0, [⟨16, 16, .ro, 0, 0, 1⟩, ⟨15, 0, .ro, 0, 0, 65535⟩]⟩,
   ⟨0x088, 1, 0, [⟨25, 16, .ro, 0, 0, 1023⟩, ⟨15, 0, .ro, 0, 0, 65535⟩]⟩,
   ⟨0x090, 1, 0, [⟨31, 0, .ro, 0, 0, 4294967295⟩]⟩,
   ⟨0x094, 1, 0, [⟨31, 0, .ro, 0, 0, 4294967295⟩]⟩]

/-- The block registers of the LNK pages. -/
def rowsLNK : List RegRow :=
  [⟨0x004, 1, 0, [⟨14, 13, .rw, 0, 0, 2⟩, ⟨12, 12, .rw, 0, 0, 1⟩, ⟨11, 11, .rw, 0, 0, 1⟩, ⟨10, 10, .wo, 0, 0, 1⟩, ⟨9, 9, .wo, 0, 0, 1⟩, ⟨8, 8, .rw, 0, 0, 1⟩]⟩,
   ⟨0x008, 1, 0, [⟨31, 28, .ro, 0, 0, 15⟩, ⟨27, 26, .ro, 0, 0, 3⟩, ⟨23, 21, .ro, 0, 0, 7⟩, ⟨20, 16, .ro, 0, 0, 31⟩, ⟨12, 8, .ro, 0, 0, 31⟩, ⟨7, 7, .ro, 0, 0, 1⟩, ⟨6, 6, .ro, 1, 0, 1⟩, ⟨5, 4, .ro, 0, 0, 3⟩, ⟨3, 0, .ro, 0, 0, 15⟩]⟩,
   ⟨0x040, 1, 0, [⟨4, 0, .rw, 8, 1, 16⟩]⟩,
   ⟨0x044, 1, 0, [⟨14, 0, .rw, 5000, 1000, 20000⟩]⟩,
   ⟨0x048, 1, 0, [⟨12, 0, .rw, 512, 64, 4096⟩]⟩,
   ⟨0x050, 1, 0, [⟨31, 20, .rw, 64, 1, 4095⟩, ⟨19, 0, .rw, 64, 1, 1048575⟩]⟩,
   ⟨0x054, 1, 0, [⟨31, 20, .rw, 512, 1, 4095⟩, ⟨19, 0, .rw, 4096, 1, 1048575⟩]⟩,
   ⟨0x058, 1, 0, [⟨31, 20, .rw, 256, 1, 4095⟩, ⟨19, 0, .rw, 8192, 1, 1048575⟩]⟩,
   ⟨0x05c, 1, 0, [⟨31, 20, .rw, 256, 1, 4095⟩, ⟨19, 0, .rw, 4096, 1, 1048575⟩]⟩,
   ⟨0x060, 4, 4, [⟨31, 0, .ro, 0, 0, 4294967295⟩]⟩,
   ⟨0x070, 4, 4, [⟨31, 0, .ro, 0, 0, 4294967295⟩]⟩,
   ⟨0x080, 1, 0, [⟨23, 0, .ro, 0, 0, 16777215⟩]⟩,
   ⟨0x084, 1, 0, [⟨23, 0, .ro, 16777215, 0, 16777215⟩]⟩,
   ⟨0x088, 1, 0, [⟨23, 0, .ro, 0, 0, 16777215⟩]⟩,
   ⟨0x08c, 1, 0, [⟨12, 0, .ro, 0, 0, 8191⟩]⟩,
   ⟨0x090, 1, 0, [⟨31, 0, .ro, 0, 0, 4294967295⟩]⟩,
   ⟨0x094, 1, 0, [⟨8, 8, .ro, 0, 0, 1⟩, ⟨5, 4, .ro, 0, 0, 3⟩, ⟨3, 0, .ro, 0, 0, 15⟩]⟩,
   ⟨0x098, 1, 0, [⟨31, 0, .ro, 0, 0, 4294967295⟩]⟩,
   ⟨0x09c, 1, 0, [⟨31, 0, .ro, 0, 0, 4294967295⟩]⟩,
   ⟨0x0a0, 1, 0, [⟨31, 16, .ro, 0, 0, 65535⟩, ⟨15, 0, .ro, 0, 0, 65535⟩]⟩,
   ⟨0x0a4, 1, 0, [⟨31, 0, .ro, 0, 0, 4294967295⟩]⟩,
   ⟨0x0b0, 1, 0, [⟨31, 16, .ro, 0, 0, 65535⟩, ⟨15, 8, .ro, 0, 0, 255⟩, ⟨1, 0, .ro, 0, 0, 3⟩]⟩,
   ⟨0x0b4, 1, 0, [⟨23, 0, .ro, 0, 0, 16777215⟩]⟩,
   ⟨0x0b8, 1, 0, [⟨23, 0, .ro, 16777215, 0, 16777215⟩]⟩,
   ⟨0x100, 16, 4, [⟨31, 16, .ro, 0, 0, 65535⟩, ⟨15, 0, .ro, 0, 0, 65535⟩]⟩]

/-- The block registers of the COX page. -/
def rowsCOX : List RegRow :=
  [⟨0x008, 1, 0, [⟨28, 16, .ro, 0, 0, 8191⟩, ⟨8, 0, .ro, 0, 0, 511⟩]⟩,
   ⟨0x040, 1, 0, [⟨23, 16, .rw, 4, 1, 255⟩, ⟨15, 8, .rw, 2, 1, 255⟩, ⟨7, 0, .rw, 8, 1, 255⟩]⟩,
   ⟨0x044, 1, 0, [⟨31, 0, .ro, 0, 0, 4294967295⟩]⟩,
   ⟨0x048, 1, 0, [⟨31, 0, .ro, 0, 0, 4294967295⟩]⟩,
   ⟨0x04c, 1, 0, [⟨31, 0, .ro, 0, 0, 4294967295⟩]⟩,
   ⟨0x050, 1, 0, [⟨15, 0, .ro, 0, 0, 65535⟩]⟩,
   ⟨0x060, 1, 0, [⟨31, 6, .rw, 0, 0, 67108863⟩]⟩,
   ⟨0x064, 1, 0, [⟨19, 0, .rw, 0, 0, 1048575⟩]⟩,
   ⟨0x068, 1, 0, [⟨31, 31, .wo, 0, 0, 1⟩, ⟨15, 0, .wo, 0, 0, 65535⟩]⟩,
   ⟨0x06c, 1, 0, [⟨0, 0, .ro, 0, 0, 1⟩]⟩,
   ⟨0x070, 1, 0, [⟨31, 0, .ro, 0, 0, 4294967295⟩]⟩,
   ⟨0x074, 1, 0, [⟨31, 0, .ro, 0, 0, 4294967295⟩]⟩,
   ⟨0x400, 64, 32, [⟨31, 6, .rw, 0, 0, 67108863⟩]⟩,
   ⟨0x404, 64, 32, [⟨19, 0, .rw, 0, 0, 1048575⟩]⟩,
   ⟨0x408, 64, 32, [⟨12, 8, .rw, 4, 4, 16⟩, ⟨5, 4, .rw, 0, 0, 3⟩, ⟨0, 0, .rw, 0, 0, 1⟩]⟩,
   ⟨0x40c, 64, 32, [⟨15, 0, .rw, 0, 0, 65535⟩]⟩,
   ⟨0x410, 64, 32, [⟨15, 0, .ro, 0, 0, 65535⟩]⟩,
   ⟨0x414, 64, 32, [⟨4, 4, .ro, 0, 0, 1⟩, ⟨3, 3, .ro, 0, 0, 1⟩, ⟨2, 2, .ro, 0, 0, 1⟩, ⟨1, 1, .ro, 0, 0, 1⟩, ⟨0, 0, .ro, 0, 0, 1⟩]⟩,
   ⟨0xc00, 64, 16, [⟨31, 4, .rw, 0, 0, 268435455⟩]⟩,
   ⟨0xc04, 64, 16, [⟨19, 0, .rw, 0, 0, 1048575⟩]⟩,
   ⟨0xc08, 64, 16, [⟨16, 16, .ro, 1, 0, 1⟩, ⟨12, 8, .rw, 4, 4, 16⟩, ⟨0, 0, .rw, 0, 0, 1⟩]⟩,
   ⟨0xc0c, 64, 16, [⟨31, 16, .ro, 0, 0, 65535⟩, ⟨15, 0, .rw, 0, 0, 65535⟩]⟩]

/-- The block registers of the RSV page. -/
def rowsRSV : List RegRow :=
  [⟨0x008, 1, 0, [⟨31, 31, .ro, 0, 0, 1⟩, ⟨16, 0, .ro, 65536, 0, 131071⟩]⟩,
   ⟨0x040, 1, 0, [⟨28, 16, .rw, 1024, 0, 4096⟩, ⟨12, 0, .rw, 128, 0, 4096⟩]⟩,
   ⟨0x044, 1, 0, [⟨28, 16, .rw, 1024, 0, 4096⟩, ⟨12, 0, .rw, 256, 0, 4096⟩]⟩,
   ⟨0x048, 1, 0, [⟨28, 16, .rw, 2048, 0, 4096⟩, ⟨12, 0, .rw, 0, 0, 4096⟩]⟩,
   ⟨0x04c, 1, 0, [⟨28, 16, .rw, 256, 0, 4096⟩, ⟨12, 0, .rw, 16, 0, 4096⟩]⟩,
   ⟨0x050, 4, 4, [⟨16, 0, .ro, 0, 0, 131071⟩]⟩,
   ⟨0x060, 1, 0, [⟨16, 0, .rw, 1024, 0, 32768⟩]⟩,
   ⟨0x064, 1, 0, [⟨15, 0, .rw, 4096, 1, 65535⟩]⟩,
   ⟨0x068, 1, 0, [⟨15, 0, .ro, 0, 0, 65535⟩]⟩,
   ⟨0x06c, 1, 0, [⟨31, 0, .ro, 0, 0, 4294967295⟩]⟩,
   ⟨0x080, 1, 0, [⟨27, 6, .rw, 0, 0, 4194303⟩]⟩,
   ⟨0x0c0, 16, 4, [⟨31, 0, .ro, 0, 0, 4294967295⟩]⟩]

/-- The block registers of the BUO page. -/
def rowsBUO : List RegRow :=
  [⟨0x040, 1, 0, [⟨5, 0, .rw, 0, 0, 63⟩]⟩,
   ⟨0x048, 1, 0, [⟨31, 0, .rw, 0, 0, 4294967295⟩]⟩,
   ⟨0x04c, 1, 0, [⟨31, 0, .rw, 0, 0, 4294967295⟩]⟩,
   ⟨0x050, 1, 0, [⟨6, 0, .ro, 0, 0, 127⟩]⟩,
   ⟨0x054, 1, 0, [⟨31, 0, .ro, 0, 0, 4294967295⟩]⟩,
   ⟨0x100, 64, 8, [⟨31, 0, .rw, 0, 0, 4294967295⟩]⟩,
   ⟨0x104, 64, 8, [⟨31, 0, .rw, 0, 0, 4294967295⟩]⟩]

/-- The block registers of the FLM page. -/
def rowsFLM : List RegRow :=
  [⟨0x004, 1, 0, [⟨10, 10, .rw, 1, 0, 1⟩, ⟨9, 9, .rw, 0, 0, 1⟩, ⟨8, 8, .wo, 0, 0, 1⟩]⟩,
   ⟨0x008, 1, 0, [⟨21, 16, .ro, 0, 0, 63⟩, ⟨9, 9, .ro, 0, 0, 1⟩, ⟨8, 8, .ro, 0, 0, 1⟩, ⟨4, 4, .ro, 0, 0, 1⟩, ⟨2, 0, .ro, 0, 0, 7⟩]⟩,
   ⟨0x040, 1, 0, [⟨31, 0, .rw, 1985229328, 0, 4294967295⟩]⟩,
   ⟨0x044, 1, 0, [⟨31, 0, .rw, 4275878552, 0, 4294967295⟩]⟩,
   ⟨0x048, 1, 0, [⟨31, 0, .ro, 1985229328, 0, 4294967295⟩]⟩,
   ⟨0x04c, 1, 0, [⟨31, 0, .ro, 4275878552, 0, 4294967295⟩]⟩,
   ⟨0x050, 1, 0, [⟨4, 0, .rw, 31, 0, 31⟩]⟩,
   ⟨0x054, 1, 0, [⟨15, 0, .ro, 0, 0, 65535⟩]⟩,
   ⟨0x058, 1, 0, [⟨3, 0, .ro, 0, 0, 15⟩]⟩,
   ⟨0x05c, 1, 0, [⟨11, 0, .rw, 32, 8, 256⟩]⟩,
   ⟨0x060, 1, 0, [⟨31, 0, .rw, 1048576, 65536, 4294967295⟩]⟩,
   ⟨0x064, 1, 0, [⟨15, 0, .rw, 256, 64, 4096⟩]⟩,
   ⟨0x068, 1, 0, [⟨11, 0, .rw, 128, 16, 2047⟩]⟩,
   ⟨0x070, 4, 4, [⟨31, 0, .ro, 0, 0, 4294967295⟩]⟩,
   ⟨0x080, 8, 4, [⟨31, 0, .w1c, 0, 0, 4294967295⟩]⟩,
   ⟨0x0a0, 8, 4, [⟨31, 0, .ro, 0, 0, 4294967295⟩]⟩,
   ⟨0x0c0, 1, 0, [⟨8, 0, .rw, 0, 0, 479⟩]⟩,
   ⟨0x0c4, 1, 0, [⟨15, 0, .ro, 0, 0, 65535⟩]⟩,
   ⟨0x0c8, 1, 0, [⟨31, 16, .ro, 0, 0, 65535⟩, ⟨15, 0, .ro, 0, 0, 65535⟩]⟩,
   ⟨0x100, 8, 16, [⟨31, 16, .rw, 0, 0, 65535⟩, ⟨15, 12, .rw, 0, 0, 15⟩, ⟨11, 10, .rw, 0, 0, 3⟩, ⟨9, 8, .rw, 0, 0, 3⟩, ⟨7, 0, .rw, 0, 0, 255⟩]⟩,
   ⟨0x104, 8, 16, [⟨1, 1, .wo, 0, 0, 1⟩, ⟨0, 0, .wo, 0, 0, 1⟩]⟩,
   ⟨0x108, 8, 16, [⟨31, 16, .ro, 0, 0, 65535⟩, ⟨11, 8, .ro, 0, 0, 15⟩, ⟨2, 0, .ro, 0, 0, 7⟩]⟩,
   ⟨0x10c, 8, 16, [⟨15, 0, .ro, 0, 0, 65535⟩]⟩,
   ⟨0x400, 240, 4, [⟨31, 0, .ro, 0, 0, 4294967295⟩]⟩]

/-- The block registers of the RGT page. -/
def rowsRGT : List RegRow :=
  [⟨0x008, 1, 0, [⟨29, 16, .ro, 0, 0, 16383⟩, ⟨2, 0, .ro, 0, 0, 7⟩]⟩,
   ⟨0x040, 1, 0, [⟨1, 0, .rw, 0, 0, 3⟩]⟩,
   ⟨0x044, 1, 0, [⟨31, 6, .ro, 0, 0, 67108863⟩]⟩,
   ⟨0x048, 1, 0, [⟨19, 0, .ro, 0, 0, 1048575⟩]⟩,
   ⟨0x04c, 1, 0, [⟨13, 0, .ro, 0, 0, 16383⟩]⟩,
   ⟨0x050, 1, 0, [⟨31, 0, .ro, 0, 0, 4294967295⟩]⟩]

/-- The block registers of the STH page. -/
def rowsSTH : List RegRow :=
  [⟨0x008, 1, 0, [⟨12, 0, .ro, 0, 0, 8191⟩]⟩,
   ⟨0x040, 1, 0, [⟨11, 0, .rw, 0, 0, 4095⟩]⟩,
   ⟨0x044, 1, 0, [⟨27, 16, .ro, 0, 0, 4095⟩, ⟨13, 13, .ro, 0, 0, 1⟩, ⟨12, 12, .ro, 0, 0, 1⟩, ⟨11, 8, .ro, 0, 0, 15⟩, ⟨7, 4, .ro, 0, 0, 15⟩, ⟨2, 0, .ro, 0, 0, 7⟩]⟩,
   ⟨0x048, 1, 0, [⟨31, 0, .ro, 0, 0, 4294967295⟩]⟩,
   ⟨0x04c, 1, 0, [⟨31, 0, .ro, 0, 0, 4294967295⟩]⟩,
   ⟨0x050, 1, 0, [⟨31, 0, .ro, 0, 0, 4294967295⟩]⟩,
   ⟨0x054, 1, 0, [⟨16, 0, .ro, 0, 0, 131071⟩]⟩,
   ⟨0x058, 1, 0, [⟨12, 12, .wo, 0, 0, 1⟩, ⟨11, 0, .wo, 0, 0, 4095⟩]⟩,
   ⟨0x05c, 1, 0, [⟨31, 0, .ro, 0, 0, 4294967295⟩]⟩,
   ⟨0x060, 1, 0, [⟨31, 0, .ro, 0, 0, 4294967295⟩]⟩]

/-- The block registers of the TLY page. -/
def rowsTLY : List RegRow :=
  [⟨0x008, 1, 0, [⟨6, 0, .ro, 0, 0, 127⟩]⟩,
   ⟨0x040, 1, 0, [⟨16, 16, .wo, 0, 0, 1⟩, ⟨15, 0, .wo, 0, 0, 65535⟩]⟩,
   ⟨0x044, 1, 0, [⟨15, 0, .ro, 0, 0, 65535⟩]⟩,
   ⟨0x048, 1, 0, [⟨31, 0, .ro, 0, 0, 4294967295⟩]⟩,
   ⟨0x04c, 1, 0, [⟨31, 0, .ro, 0, 0, 4294967295⟩]⟩,
   ⟨0x050, 1, 0, [⟨31, 16, .ro, 0, 0, 65535⟩, ⟨15, 0, .ro, 0, 0, 65535⟩]⟩]

/-- The block registers of the BTH page. -/
def rowsBTH : List RegRow :=
  [⟨0x040, 1, 0, [⟨31, 12, .rw, 0, 0, 1048575⟩]⟩,
   ⟨0x044, 1, 0, [⟨19, 0, .rw, 0, 0, 1048575⟩]⟩,
   ⟨0x048, 1, 0, [⟨27, 20, .rw, 0, 0, 255⟩, ⟨11, 0, .rw, 4095, 0, 4095⟩]⟩,
   ⟨0x04c, 1, 0, [⟨31, 0, .ro, 0, 0, 4294967295⟩]⟩,
   ⟨0x050, 1, 0, [⟨31, 0, .ro, 0, 0, 4294967295⟩]⟩,
   ⟨0x054, 1, 0, [⟨31, 24, .ro, 0, 0, 255⟩, ⟨23, 12, .ro, 0, 0, 4095⟩, ⟨11, 0, .ro, 0, 0, 4095⟩]⟩,
   ⟨0x058, 1, 0, [⟨31, 0, .ro, 0, 0, 4294967295⟩]⟩]

/-- The block registers of the UMP page. -/
def rowsUMP : List RegRow :=
  [⟨0x004, 1, 0, [⟨10, 10, .wo, 0, 0, 1⟩, ⟨9, 9, .wo, 0, 0, 1⟩, ⟨8, 8, .wo, 0, 0, 1⟩]⟩,
   ⟨0x008, 1, 0, [⟨9, 9, .w1c, 0, 0, 1⟩, ⟨8, 8, .ro, 0, 0, 1⟩, ⟨1, 0, .ro, 0, 0, 3⟩]⟩,
   ⟨0x040, 1, 0, [⟨31, 0, .ro, 0, 0, 4294967295⟩]⟩,
   ⟨0x044, 1, 0, [⟨31, 0, .ro, 0, 0, 4294967295⟩]⟩,
   ⟨0x048, 1, 0, [⟨31, 0, .ro, 0, 0, 4294967295⟩]⟩,
   ⟨0x04c, 1, 0, [⟨31, 0, .ro, 0, 0, 4294967295⟩]⟩,
   ⟨0x050, 1, 0, [⟨31, 0, .ro, 0, 0, 4294967295⟩]⟩,
   ⟨0x054, 1, 0, [⟨31, 16, .ro, 0, 0, 65535⟩, ⟨15, 0, .ro, 0, 0, 65535⟩]⟩,
   ⟨0x058, 1, 0, [⟨31, 0, .ro, 0, 0, 4294967295⟩]⟩,
   ⟨0x060, 4, 4, [⟨31, 0, .ro, 0, 0, 4294967295⟩]⟩]

/-- The block registers of the LOG page. -/
def rowsLOG : List RegRow :=
  [⟨0x008, 1, 0, [⟨21, 16, .ro, 0, 0, 63⟩, ⟨15, 0, .ro, 0, 0, 65535⟩]⟩,
   ⟨0x040, 1, 0, [⟨31, 0, .ro, 0, 0, 4294967295⟩]⟩,
   ⟨0x044, 1, 0, [⟨31, 0, .ro, 0, 0, 4294967295⟩]⟩,
   ⟨0x048, 1, 0, [⟨6, 0, .ro, 0, 0, 127⟩]⟩,
   ⟨0x100, 32, 16, [⟨31, 0, .ro, 0, 0, 4294967295⟩]⟩,
   ⟨0x104, 32, 16, [⟨31, 0, .ro, 0, 0, 4294967295⟩]⟩,
   ⟨0x108, 32, 16, [⟨31, 0, .ro, 0, 0, 4294967295⟩]⟩,
   ⟨0x10c, 32, 16, [⟨31, 0, .ro, 0, 0, 4294967295⟩]⟩]

/-- The rows of a block. -/
def Block.rows : Block → List RegRow
  | .stk => rowsSTK
  | .ckm => rowsCKM
  | .clv => rowsCLV
  | .glb => rowsGLB
  | .mgt => rowsMGT
  | .opt => rowsOPT
  | .hgt => rowsHGT
  | .rwl => rowsRWL
  | .wei => rowsWEI
  | .cal => rowsCAL
  | .dtm => rowsDTM
  | .thm => rowsTHM
  | .nvs => rowsNVS
  | .lvl => rowsLVL
  | .lnk => rowsLNK
  | .cox => rowsCOX
  | .rsv => rowsRSV
  | .buo => rowsBUO
  | .flm => rowsFLM
  | .rgt => rowsRGT
  | .sth => rowsSTH
  | .tly => rowsTLY
  | .bth => rowsBTH
  | .ump => rowsUMP
  | .log => rowsLOG

/-- The row an offset falls in, among `rs`. -/
def findRow (rs : List RegRow) (off : Nat) : List FieldRow :=
  match rs with
  | [] => []
  | r :: rest =>
    (if r.count = 1 then (if off = r.off then r.fields else [])
     else if r.off ≤ off ∧ (off - r.off) % r.stride = 0 ∧ (off - r.off) / r.stride < r.count then r.fields else [])
      ++ findRow rest off

/-- The fields a register table gives at `off` of page `page`, header fields first. -/
def fieldsAt (page off : Nat) : List FieldRow :=
  match blockOf page with
  | none => []
  | some b => findRow headerRows off ++ findRow b.rows off

/-- Whether a register table or the common header defines the offset (R102, R115). Offsets up to 0x037 are the header. -/
def implemented (page off : Nat) : Bool :=
  match blockOf page with
  | none => false
  | some b => off < 0x038 || (findRow b.rows off).length != 0

end Sys2Proof.Machine
end

