-- ==== Sys2Proof/Config.lean ====
section
/-! DEFINITION. What the spec leaves open, as constants without a body: nothing can be proved of a value of theirs.
Each is applied to what it may depend on: its operands, and, where two uses are unrelated, the plain counter `State.freeCount`, which every use
advances. -/

namespace Sys2Proof.Config

/-- Whether a quotient that is no whole number of LSB is rounded up: the rounding of the Leveller's factors and sweeps is not published (R251).
Log entry 1. -/
opaque roundUp : Int → Int → Bool

/-- The target of a seat's heater in a stroke with a calibration step, in heater codes: the codes of a scan are not stated (Table 7.2). Log entry 1. -/
opaque scanTarget : Nat → Nat → Int

/-- The target of a Flume phase under a base map, fans and an estimate, as codes: how a configuration sets the MZIs is not published (R370).
Log entry 16. -/
opaque phaseTarget : Nat → List Nat → List Nat → List Int → Int

/-- What the dither patterns of a measurement window add to a phase's target: they are not published (R261, R392). Log entry 16. -/
opaque windowDither : Nat → Nat → Int

/-- The delta list that the calibration sequencer sends for an actuator from its live entry (R258, R260, R266): how member and cells set the entries is
not published. Log entry 186. -/
opaque actuatorList : Nat → DWord → List (Nat × Nat × Int)

/-- The data of a Reservoir word read through PEEK in a control cycle, by PEEK_ADDR: which page holds what is not stated (R361). Log entry 2. -/
opaque peek : Nat → Nat → Nat → Word

/-- An entry of the base matrix in Q2.14, which is ROM; the model reads it at positions in the form (lower, higher) index alone, so the matrix is
symmetric (R249). Log entry 3. -/
opaque baseEntry : Nat → Nat → BitVec 16

/-- Positions between blocks that lie in the compiled pattern (R249). Log entry 3. -/
opaque patternPair : Nat → Nat × Nat

/-- The raw bits of an uncorrectable store word (R240). Log entry 4. -/
opaque rawBits : Nat → Nat → DWord

/-- The words of the factory region, whose content is not published (R497). Log entry 5. -/
opaque factoryWord : Nat → DWord

/-- The self-heating feedforward added to a seat's target when a dark slot is filled (R188): its size is not stated. Log entry 6. -/
opaque feedforward : Nat → Int

/-- The correction a Flume dither loop adds for an error: R391 gives no gain. Log entry 7. -/
opaque ditherStep : Nat → Int → Int

/-- The line of the cache set that a new line replaces is by least recent use, and the set a line belongs to is not stated
(R350): the set of a line. Log entry 8. -/
opaque cacheSet : Nat → Nat

/-- The bytes an UNSTASH leaves at LOCAL when its extent fails a check (R412). Log entry 9. -/
opaque corruptByte : Nat → Nat → Byte

/-- Whether a Flume change moves an MZI's target: how a configuration sets the MZIs is not published (R370, R375). Log entry 16. -/
opaque mziChanged : Nat → Nat → Bool

/-- Whether a Flume change affects a port whose own bank it does not change (R375). Log entry 16. -/
opaque affected : Nat → Nat → Bool

/-- The quotient of R181 when both samples are 0. Log entry 13. -/
opaque zeroQuotient : Nat → Int

/-- A port's temperature where neither a port sensor of its group nor a core sensor is valid (R212). Log entry 14. -/
opaque noSensor : Nat → Int

/-- Whether a mean of `n` readings with a sum that is no multiple of `n` is rounded up (R212). Log entry 15. -/
opaque meanUp : Int → Nat → Bool

/-- What the word whose writing a full reset cut short reads as: old, new, or uncorrectable (R239). Log entry 4. -/
opaque cutWord : Nat → Option Bool

/-- The PRBS31 register from which a culvert's TRAIN flits begin (Table 3.3): its seed is not stated. Log entry 168. -/
opaque trainSeed : Nat → BitVec 31

end Sys2Proof.Config
end

