-- ==== Sys2Proof/Machine/State.lean ====
section
/-! DEFINITION. The state of the die, as plain data: every register field that is no view of something below is in `regs`;
the rest is what the spec gives each block beyond its registers. Lists and tables only, no function-typed field. -/

namespace Sys2Proof.Machine

/-- Why a step stops with a fault. -/
inductive Fault where
  /-- Raised by no meaning of this model: every command of the block goes on, so it is safe. The interface asks for a type of
  faults, and no spec rule names an address or an operand on which the block stops. -/
  | noSuchFault
  deriving DecidableEq, Repr

/-- Why a step is refused. -/
inductive Refusal where
  /-- Raised only by an arm of `exec` whose command has no meaning yet: the machine stops, which is safe. -/
  | notModelled (mnemonic : String)
  deriving DecidableEq, Repr

/-! ## Stamps, events and the access paths -/

/-- A stamp (R39): stroke counter and control cycle; cycle 0x7FF before strokes run (R492). -/
structure Stamp where
  stroke : BitVec 48
  cycle : Nat
  deriving DecidableEq, Repr

/-- A logbook entry (Table 13.5). -/
structure LogEntry where
  stamp : Stamp
  page : Nat
  cls : EvClass
  code : Nat
  info : Nat
  shared : Bool
  first : Bool
  safe : Bool
  merged : Bool
  lost : Bool
  seq : BitVec 16
  deriving DecidableEq, Repr

/-- A page's first-error record (R110). -/
structure ErrRec where
  cls : EvClass
  bit : Nat
  info0 : Nat
  info1 : Nat
  stamp : Stamp
  deriving DecidableEq, Repr

/-- The logbook and UMP.FIRST (R442 to R446): the queue of accepted events, oldest first, the 32 slots, the record UMP.FIRST holds,
whether an event was dropped since the last one accepted, the next SEQ, the ERR bits that a write cleared in the control
cycle at hand and those that an event set in it (R112), as page, class and bit, the records that such writes emptied, ERR bits that events stamped in the
stroke's Recovery set (R141), and the next write slot of the Recovery at hand, 61 once a carry-over is counted (R442, R49). -/
structure LogState where
  queue : List LogEntry
  book : Tab (Option LogEntry)
  first : Option LogEntry
  lostPending : Bool
  nextSeq : BitVec 16
  cleared : List (Nat × EvClass × Nat)
  raised : List (Nat × EvClass × Nat)
  emptied : List (Nat × ErrRec)
  late : List (Nat × EvClass × Nat)
  slot : Nat
  deriving DecidableEq, Repr

/-- An access path (R104 to R106): its sample latch, the first words it has read since reset, its held _LO write with
the register it belongs to, and what its last read gave. -/
structure PathState where
  latch : List Word
  seen : List Nat
  held : Option (Nat × Word)
  out : Word
  deriving DecidableEq, Repr

/-- The Umpire beyond its registers: pages whose rails are at fault now (R432), an exit request, as the first elapsed stroke whose cycle 0
decides it (R438), and the stamp of the cycle in which a pair was first asserted (R433). -/
structure UmpState where
  railFault : List Nat
  exitReq : Option Nat
  assertedAt : Option Stamp
  deriving DecidableEq, Repr

/-- A transfer on the management bus (R131 to R136): whether it reads, bytes of an unfinished address or word, and whether the rest
is ignored after a parity error. -/
structure BusXfer where
  read : Bool
  addrBytes : Nat
  wordBytes : Nat
  ignored : Bool
  deriving DecidableEq, Repr

/-- A word access of a management-port transfer that is ready and not yet performed (R132, R134): a write of a word, or a read of which so
many bytes are sent. -/
inductive BusWord where
  | write (addr : Nat) (data : Nat)
  | read (addr : Nat) (bytes : Nat)
  deriving DecidableEq, Repr

/-- The management port beyond its registers: the transfer under way, whether Tolfa acknowledged, the bytes it drove, the armed
second Target Reset pattern (R138), the transfer's word accesses that wait for the control-space port, whether a byte of wrong parity follows them
(R135), and whether Tolfa drives SDA (Table 4.8). -/
structure MgmtState where
  xfer : Option BusXfer
  ack : Bool
  out : List Byte
  armed : Bool
  todo : List BusWord
  parityAfter : Bool
  sda : Bool
  deriving DecidableEq, Repr

/-- The control-space port (R119): the control cycle, counted from reset release, of its last word access, and the culvert it served last. -/
structure PortState where
  usedAt : Option Nat
  served : Nat
  deriving DecidableEq, Repr

/-- What fuses hold: the matched-set code, the die serial and the design power scale (Table 4.10, R210). -/
structure Fuses where
  setCode : BitVec 24
  serial : DWord
  designScale : BitVec 16
  deriving DecidableEq, Repr

/-! ## Clocks and the stroke -/

/-- The clock manager and the stroke engine beyond their registers: counter and cycle; strokes run, for timers, across a count
resynchronisation (chapter 2, Edges); control cycles passed before the first stroke; a count to adopt (R494); in ACQUIRE the last start
pulse's time and the last two valid words, with their pulses' times and counts (R44); the reference cycles to the first PLL lock; re-acquisition and the strokes since (R48); ALIVE and
whether it follows bit 6 (R53, R439); T0's marker word, its count and CRC (R41); and the stroke in which the
bring-up step at hand began (R459). -/
structure ClkState where
  stroke : BitVec 48
  cycle : Nat
  elapsed : Nat
  idle : Nat
  adopt : Option (BitVec 48)
  pulseAt : Option Nat
  word1 : Option (Nat × BitVec 48)
  word2 : Option (Nat × BitVec 48)
  lockAt : Nat
  reacquired : Bool
  holdCount : Nat
  alive : Bool
  aliveFollows : Bool
  marker : Option (BitVec 48 × BitVec 8)
  stepAt : Nat
  deriving DecidableEq, Repr

/-! ## Light path -/

/-- What a headgate is doing (R150, R151). -/
inductive HgMode where
  | still | opening | closing
  deriving DecidableEq, Repr

/-- A headgate beyond HG_STAT: its motion, the runs of R153 and R154, and the run that ends a SHUT_FAIL condition (Table 13.2). -/
structure Headgate where
  mode : HgMode
  lowRun : Nat
  leakRun : Nat
  leakOkRun : Nat
  leaking : Bool
  deriving DecidableEq, Repr

/-- A port's synthesiser beyond OPT.STAT (R158, R159): the attempt under way, when it began, and a relock that waits for its PAUSE shells. -/
structure Synth where
  attempt : Nat
  began : Nat
  pending : Bool
  deriving DecidableEq, Repr

/-- A monitor channel: its run of over-ranges (R167, R393), whether it over-ranged in the last sample (its integrator is then dumped at
the next cycle 0, R164), whether its last sample is clean, its code, and its run of strokes with a bad bank reference (R163). -/
structure Chan where
  run : Nat
  ovr : Bool
  clean : Bool
  code : Nat
  refRun : Nat
  deriving DecidableEq, Repr

/-! ## Seats -/

/-- The seat states of Table 6.1. -/
inductive SeatState where
  | idle | search | locked | lost | outOfService | hotSpare | failed
  deriving DecidableEq, Repr

/-- A seat and its Rowlock loop (R179 to R202): state and the state that takes effect at the next cycle 0, active member, target and
heater codes, the latest error sample, the runs of R183, the clean samples by dither sign with the strokes they are of, the search
of R190, the driver of R186 and whether it holds bias with zero swing, withdrawal and its stroke, the member that goes live at the next cycle 960
(R36), and the dither in the live code (R180). -/
structure Seat where
  state : SeatState
  next : Option SeatState
  member : Nat
  firstMember : Nat
  tried : Nat
  target : Int
  code : Nat
  shadow : Option Nat
  clip : Bool
  error : Int
  hasError : Bool
  coast : Bool
  lolRun : Nat
  lockRun : Nat
  plus : Option (Nat × Nat)
  minus : Option (Nat × Nat)
  count : Nat
  swept : Bool
  sweeping : Bool
  sweepError : Option Int
  driver : Bool
  driverDue : Bool
  withdrawn : Bool
  since : Nat
  zeroSwing : Bool
  nextMember : Option Nat
  dither : Int
  deriving DecidableEq, Repr

/-- Why a lane is waiting without a seat, or is about to move (R194 to R200). -/
inductive LaneWhy where
  | lossOfLock | failed | visit | withdrawn | peer | restore
  deriving DecidableEq, Repr

/-- Why a lane moves, and the event that its outcome decides (R192, R196, R197, R200): its stamp and detail, and whether a withdrawal of
the seat in the same stroke takes its class from the same outcome. -/
structure LaneCause where
  why : LaneWhy
  stamp : Stamp
  info0 : Nat
  info1 : Nat
  withdraw : Bool
  deriving DecidableEq, Repr

/-- A lane operation that waits for the Finish: leave the seat by a drop; leave it by a swap to a spare or, with none free, a drop;
swap home; or one of the two requests to the peer. -/
inductive LaneAct where
  | drop | move | home | dropReq | swapReq
  deriving DecidableEq, Repr

/-- A lane operation to issue. -/
structure LaneOp where
  lane : Nat
  act : LaneAct
  cause : LaneCause
  deriving DecidableEq, Repr

/-- A lane that has left its seat and awaits LANE_ADD (R195, R196): when it was dropped, whether the peer has answered the drop, the
line chosen for it, whether LANE_ADD is issued and unanswered, whether its outcome is decided, and whether a LANE_ADD was refused, which the next
Finish tries again (R300). -/
structure Missing where
  lane : Nat
  droppedAt : Nat
  acked : Bool
  chosen : Option Nat
  adding : Bool
  judged : Bool
  retry : Bool
  cause : LaneCause
  deriving DecidableEq, Repr

/-- A LANE_SWAP under way (R298): the lane goes out on its old and on its new line until the peer has answered, and at the shell boundary after
that on one of them: the new one where the peer has moved (`ended = some true`), the old one where it refused. -/
structure LaneSwap where
  lane : Nat
  line : Nat
  ended : Option Bool
  deriving DecidableEq, Repr

/-- A receive lane that the peer was asked to drop or to move (R197, R496): its seat, whether it was SWAP_REQ, and when the peer
dropped it. -/
structure RxWait where
  lane : Nat
  seat : Nat
  swap : Bool
  droppedAt : Option Nat
  cause : LaneCause
  deriving DecidableEq, Repr

/-- A port's lanes: the two lane maps of R156 (seat of each lane, 0x1F none), the map that goes live at the next cycle 0 (R495), the
peer's HOT_SPARE receive seats (R193), operations due, missing lanes, swaps under way (R298), lanes still to restore (R199), receive lanes that wait on the
peer (R197, R496), when a driver last started (R186), the dark level and the stroke of its next step (R187), and whether a message has filled a dark slot since the last
cycle 960 (R188). -/
structure Lanes where
  txMap : List Nat
  rxMap : List Nat
  nextMap : Option (List Nat)
  peerSpare : BitVec 18
  due : List LaneOp
  missing : List Missing
  swaps : List LaneSwap
  restore : List Nat
  rxWait : List RxWait
  driverAt : Option Nat
  dark : Nat
  darkNext : Nat
  filled : Bool
  deriving DecidableEq, Repr

/-! ## Calibration, datum, temperature and the store -/

/-- What a visit or a calibration entry makes live for a seat (R218, R219): member and preferences, UNUSABLE marks, the marks of members that timed
out in SEARCH since the last visit, cells, and the offsets of HBIAS, MBIAS, LOCKPT and ICAP from the interpolated values. -/
structure LiveCal where
  pref2 : Nat
  pref3 : Nat
  member : Nat
  unusable : Nat
  timedOut : Nat
  hcell : Option (BitVec 6)
  dHbias : Int
  dMbias : Int
  dLockpt : Int
  dIcap : Int
  deriving DecidableEq, Repr

/-- A seat visit (R224): its seat, stroke v (none until the peer has moved the lane, R496), the steps its scans have given, its outcome so far, the last
stroke in which it computed a step and the last in which it was to and did not, and whether the datum has been TRACED since it began (R229). -/
structure Visit where
  seat : SeatId
  start : Option Nat
  narrow : Bool
  pass : Bool
  scans : List (Nat × Option Nat)
  lockpt : Option Int
  mbias : Option Nat
  icap : Option Nat
  hcell : Option (BitVec 6)
  checked : Option Nat
  stepAt : Option Nat
  skipAt : Option Nat
  traced : Bool
  ended : Bool
  deriving DecidableEq, Repr

/-- What the calibrated actuator outputs come from: modulator bias, heater cells and capacitor units change only at cycle 960 (R33, R36), so the sets,
live results, interpolation words, nearer sets and present sets as they stood at the last one. -/
structure CalOut where
  sets : Tab DWord
  live : Tab LiveCal
  weights : List Nat
  near : Tab Nat
  present : Nat
  loaded : Bool
  deriving DecidableEq, Repr

/-- Calibration (R215 to R230): the working image of each set entry (key set × 576 + seat), live results, visits under way, the
background cursor and next visit time of each port, the pass pair each passing port is at, the nearer set of each port, sets whose image has changed,
and what the outputs rest on. -/
structure CalState where
  sets : Tab DWord
  live : Tab LiveCal
  visits : List Visit
  cursor : Tab Nat
  nextVisit : Tab Nat
  passAt : Tab Nat
  near : Tab Nat
  dirty : List Nat
  out : CalOut
  deriving DecidableEq, Repr

/-- A thermal sensor: its last readings, newest first, and the runs of R213 and Table 13.2. -/
structure Sensor where
  hist : List Int
  hot : Nat
  cold : Nat
  trip : Nat
  cool : Nat
  deriving DecidableEq, Repr

/-- The datum (R207 to R210) beyond DTM's registers: runs, lock, when ACQUIRE began, the scale in use and the traced one last written. -/
structure Datum where
  presentRun : Nat
  lowRun : Nat
  badRun : Nat
  badReason : Nat
  acquireAt : Nat
  scale : BitVec 16
  ringCode : BitVec 16
  written : Option (BitVec 16)
  due : Bool
  deriving DecidableEq, Repr

/-- The ECC status of a store word (R240). -/
inductive Ecc where
  | clean | corrected | uncorrectable
  deriving DecidableEq, Repr

/-- A command of yours on the store (R240, R241). -/
structure NvsCmd where
  write : Bool
  page : Nat
  words : List DWord
  word : Nat
  started : Bool
  deriving DecidableEq, Repr

/-- A Tolfa record write under way (R235): record 0 to 6, slot, SEQ, the page of the write's order at hand, the next word, whether the
page is being rewritten, and the pages' words. -/
structure OwnWrite where
  record : Nat
  slotB : Bool
  seq : BitVec 32
  page : Nat
  word : Nat
  retried : Bool
  waitSafe : Bool
  pages : List (List DWord)
  deriving DecidableEq, Repr

/-- The store (R231 to R242): its words and their ECC, commands and writes under way, per record its SEQ and last write time, the next word slot of the
Recovery at hand, whether a Flume record is due, and whether a deferral was counted in this Recovery (R49). -/
structure NvsState where
  words : Tab DWord
  ecc : Tab Ecc
  cmd : Option NvsCmd
  own : Option OwnWrite
  seq : Tab (BitVec 32)
  lastWrite : Tab (Option Nat)
  slot : Nat
  flumeDue : Bool
  deferred : Bool
  deriving DecidableEq, Repr

/-! ## The Leveller and the Flume -/

/-- A delta list in the Leveller (R258, R259): its entries, the blocks it dirtied that are not refactored, and whether it was applied. -/
structure DeltaList where
  entries : List DeltaEntry
  waiting : List Nat
  applied : Bool
  deriving DecidableEq, Repr

/-- A bundle-adjustment run (R261 to R265), with the mesh-output samples of its window: by stroke, each channel's code, none where it was discarded. -/
structure BaRun where
  cold : Bool
  began : Nat
  windowEnd : Nat
  iter : Nat
  iterBegan : Nat
  maxIter : Nat
  deadline : Nat
  estimate : List Int
  hasPrevious : Bool
  result : Option Nat
  samples : List (Nat × List (Nat × Option Nat))
  deriving DecidableEq, Repr

/-- The Leveller beyond its registers: shadow and live entries set by delta lists (key row × 816 + column), lists queued and applied,
the vector committed for the next cycle 960, the applied vectors of the last two strokes in Q8.24, whether this stroke's solve is done, whether the base
matrix is loaded, seats whose member or cells change at this Finish, the block whose refactor is carried over and whether one was in this Recovery, lists
whose senders wait for room in the queue (R258), and the actuators whose lists the calibration sequencer is to send again (R260, R266). -/
structure LvlState where
  shadow : Tab (Option Int)
  live : Tab (Option Int)
  queue : List DeltaList
  applied : List DeltaList
  vec : Option (Tab Int)
  hist1 : Tab Int
  hist2 : Tab Int
  depth : Nat
  solved : Bool
  loaded : Bool
  memberChanged : List Nat
  refactoring : Option Nat
  carried : Bool
  senders : List DeltaList
  resend : List Nat
  deriving DecidableEq, Repr

/-- What a Flume configuration change is for (R374). -/
inductive ChangeKind where
  | base | autoCross (f : Nat) (b : Nat) | fanEnter (k : Nat) | fanExit (k : Nat) | restore
  deriving DecidableEq, Repr

/-- A change requested and not complete (R374 to R376): its kind, the base map it leads to, and, once it has started, stroke c, the
map before it, the ports it affects, whether it is the rollback, and the index of its free values. -/
structure Change where
  kind : ChangeKind
  target : List Nat
  start : Option Nat
  prev : List Nat
  ports : List Nat
  rollback : Bool
  pick : Nat
  deriving DecidableEq, Repr

/-- An MZI's dither loop (R391): run over the threshold and its correction. -/
structure MziLoop where
  run : Nat
  corr : Int
  deriving DecidableEq, Repr

/-- A fan slot beyond its registers (R379 to R389): an entry request, an exit asked for before ACTIVE, when its state began, whether its
FAN_ENTER or FAN_EXIT words have gone out, members that accepted or refused, the RESULT it will end with, what each member has
acknowledged and returned, each member's run of expiries, and the members' answers to an operation on the instance (R386): OP, TAG, member,
next expected SEQ, REFUSED. -/
structure FanSlot where
  request : Bool
  exitAsked : Bool
  since : Nat
  asked : Bool
  accepted : List Nat
  refused : List Nat
  endResult : Nat
  acks : Tab (BitVec 24)
  backs : Tab (List Nat)
  expiries : Tab Nat
  answers : List (Nat × Nat × Nat × Nat × Bool)
  deriving DecidableEq, Repr

/-- The Flume: the live base map (fibre of each bank), changes waiting and under way in request order, the estimate, loops, phase codes,
fan slots, the measurement window's end, when the last window opened, whether an early run is asked for, whether an estimate is held, an
accepted estimate that goes live at the next cycle 0, and the bundle adjustment under way. -/
structure FlmState where
  map : List Nat
  changes : List Change
  estimate : Tab Int
  loops : Tab MziLoop
  phase : Tab Nat
  fans : Tab FanSlot
  window : Option Nat
  lastWindow : Nat
  runAsked : Bool
  estLoaded : Bool
  nextEstimate : Option (List Int)
  ba : Option BaRun
  deriving DecidableEq, Repr

/-! ## Culverts -/

/-- What a hub access is for: a context-cache fill; a list entry of a command; a piece of a job's data at an offset; a write of a job,
with the received message whose space it frees, if any; a received message's data; a completion with its queue, its entry and period of enablement, and the detail of its events; a node-map entry of a SWAP. -/
inductive Purpose where
  | fill
  | list (cmd : Nat)
  | job (id : Nat) (off : Nat)
  | jobWrite (id : Nat) (space : Option (Nat × Nat))
  | land (stream xfer msg : Nat)
  | completion (q key info0 info1 : Nat)
  | swapEntry (second : Bool)
  deriving DecidableEq, Repr

/-- A hub read or write on its way (R66 to R76): address, length, what it is for, bytes received so far or to be written, whether the
data is poisoned or an invalidation made the fill stale (R87), and the stretch of a write's bytes that a page lost (R75). -/
structure HubReq where
  write : Bool
  addr : Nat
  len : Nat
  purpose : Purpose
  data : List Byte
  poison : Bool
  stale : Bool
  lost : Nat × Nat
  deriving DecidableEq, Repr

/-- A sequenced flit in the replay buffer (R63): a REQ flit's descriptors (write, address, length), at most 15, or the bytes of a WDATA flit. -/
structure TxFlit where
  seq : BitVec 12
  req : List (Bool × Nat × Nat)
  bytes : List Byte
  replay : Bool
  poison : Bool
  deriving DecidableEq, Repr

/-- A flit as Tolfa puts it on a culvert's lanes (Tables 3.1, 3.2). -/
structure LineFlit where
  type : Nat
  seq : BitVec 12
  ack : BitVec 12
  replay : Bool
  poison : Bool
  payload : List Byte
  deriving DecidableEq, Repr

/-- A register request accepted on a culvert's sideband and not yet performed (R127). -/
structure SbReq where
  write : Bool
  tag : Byte
  addr : Nat
  data : Word
  deriving DecidableEq, Repr

/-- A sideband response Tolfa sent (Table 4.6). -/
structure SbRsp where
  write : Bool
  tag : Byte
  addr : Nat
  data : Word
  status : Nat
  deriving DecidableEq, Repr

/-- A culvert beyond its CLV page: when its state began, what the hub declared, sequence numbers, the replay buffer and the flits that
wait for room in it, requests in order, those not yet in a REQ flit, the replay timer and its expiries, consecutive good TRAIN flits, the sideband
response sent last, and whether IDENT was accepted since it left OFF and its return clock is locked (R118).

Its lanes: flits to put on them, fifths of a flit time left over from the last control cycle, the flits sent in it (R60), and the PRBS31 fill of TRAIN
flits. Its loss: since which stroke, until its entries are dealt with (R79), and entries that came back to it while it was not ACTIVE (R84). Its
sideband: requests held, answers not yet sent, when the lane is free again, and the 16-byte packet sent last (R122, R127). -/
structure Culv where
  since : Nat
  remapCap : Option Bool
  invalCap : Bool
  txNext : BitVec 12
  txAcked : BitVec 12
  rxNext : BitVec 12
  replay : List TxFlit
  unsent : List TxFlit
  reqs : List HubReq
  timer : Nat
  expiries : Nat
  goodRx : Nat
  rsp : Option SbRsp
  identOk : Bool
  clockOk : Bool
  forming : List HubReq
  line : List TxFlit
  fifths : Nat
  sent : List LineFlit
  prbs : BitVec 31
  lostAt : Option Nat
  failing : List Nat
  held : List SbReq
  answers : List SbRsp
  sbFree : Nat
  packet : List Byte
  deriving DecidableEq, Repr

/-! ## Links -/

/-- A message (Table 9.4) with its payload. -/
structure Msg where
  kind : Nat
  tc : Nat
  tag : BitVec 16
  src : BitVec 12
  epoch : BitVec 8
  poison : Bool
  last : Bool
  data : List Byte
  deriving DecidableEq, Repr

/-- A DATA shell held for replay (R290): its body, and the body offsets at which message headers begin. -/
structure TxShell where
  seq : BitVec 24
  width : Nat
  body : List Byte
  heads : List Nat
  replay : Bool
  deriving DecidableEq, Repr

/-- The header of a shell Tolfa sends (Table 9.2). -/
structure TxHdr where
  kind : Nat
  width : Nat
  replay : Bool
  fan : Bool
  ack : BitVec 24
  seq : BitVec 24
  crTc : Nat
  crHdr : Nat
  crData : Nat
  msgCount : Nat
  first : Nat
  deriving DecidableEq, Repr

/-- What a shell carries: a DATA body, nothing (dark or lit), or control words. -/
inductive TxBody where
  | data (body : List Byte)
  | null (dark : Bool)
  | words (ws : List DWord)
  deriving DecidableEq, Repr

/-- An answered operation outstanding (R280): OP, TAG (16 while 16 others have theirs), ARG, the control cycle of its first copy, shells since its
last copy, whether it was sent, and why. -/
structure CtrlOp where
  op : Nat
  tag : Nat
  arg : BitVec 48
  first : Nat
  shells : Nat
  sent : Bool
  cause : LaneCause
  deriving DecidableEq, Repr

/-- A landing cursor of a stream and class (R338): whether a transfer is open, its next address, its window's end, why its rest is
discarded, and the number its record has. -/
structure Landing where
  isOpen : Bool
  addr : Nat
  limit : Nat
  failed : Option (Nat × Nat)
  xfer : Nat
  deriving DecidableEq, Repr

/-- A received SEND transfer that is not answered (R339): its class, writes not reported, whether its LAST has arrived, status and
detail so far, and the BUOY_OP that follows it. -/
structure RxXfer where
  id : Nat
  cls : Nat
  writes : Nat
  complete : Bool
  status : Nat
  detail : Nat
  buoy : Option (Nat × Nat × DWord)
  deriving DecidableEq, Repr

/-- How the last shell slot went out (R270 to R272, R298): the slot's number since ALIGN began, whether FEC was on, and for each active position the
lines that carried it, two for a lane that moves; no line at all where nothing was sent. -/
structure LineSlot where
  slot : Nat
  fec : Bool
  lines : List (List Nat)
  deriving DecidableEq, Repr

/-- A link-down condition detected and not yet acted on (R307). -/
structure LinkFault where
  reason : Nat
  at_ : Nat
  stamp : Stamp
  info0 : Nat
  info1 : Nat
  deriving DecidableEq, Repr

/-- A stream of a port: its link beyond its LNK page (keys 0 to 15), a fan instance's sender (16 + slot), or the receive side of a fan at
a member port (32 + port). `space` is the receive space that messages hold until their hub writes are reported: message, writes left,
class and data units (R295); `staleHdr` and `staleData` are the space that messages of an earlier training still hold, whose freeing returns no
credit of the present one; `newsAt` is the stroke in which receive-seat states changed, until the CTRL shell that R280 asks for has gone; `padded`
says that what is left in `stream` is the end of a PAD (R284); `advData` is what the last PARAM_CRED words advertised for TC1 to TC3 (R294); `slots`
counts the port's shell slots since ALIGN began (R271); `before` is the lanes' lines before a LANE_DROP or LANE_ADD that no CTRL shell has carried yet
(R296); `sent` and `onLines` are the last shell and how it went out. -/
structure Link where
  since : Nat
  txNext : BitVec 24
  txAcked : BitVec 24
  rxNext : BitVec 24
  ackSent : BitVec 24
  ackPending : Nat
  ackFirst : Nat
  timer : Nat
  expiries : Nat
  frozenAt : Option Nat
  replay : List TxShell
  resend : Nat
  stream : List Byte
  heads : List Nat
  queues : List (List Msg)
  quantum : List Nat
  turn : Nat
  visited : Bool
  usedHdr : List Nat
  usedData : List Nat
  backHdr : List Nat
  backData : List Nat
  freedHdr : List Nat
  freedData : List Nat
  staleHdr : List Nat
  staleData : List Nat
  partialBytes : List Byte
  rxMsgs : List Msg
  landing : List Landing
  rxXfers : List RxXfer
  nextXfer : Nat
  space : List (Nat × Nat × Nat × Nat)
  unanswered : List (Nat × Nat × Nat)
  ops : List CtrlOp
  nextTag : Nat
  answered : List (Nat × Nat × Bool)
  words : List DWord
  pauseLeft : Nat
  pauseWhy : Nat
  peerPausedAt : Option Nat
  resetLeft : Nat
  shells : Nat
  trainTx : Nat
  trainRx : Nat
  peerParams : Nat
  peerRate : Nat
  peerFecOff : Bool
  peerMin : Nat
  peerMap : List Nat
  ownRate : Nat
  ownFecOff : Bool
  ownMin : Nat
  paramsSent : Bool
  minLanes : Nat
  down : Option LinkFault
  losRun : Nat
  drainedTx : Bool
  drainedRx : Bool
  stalled : Bool
  rxReserved : Nat
  newsAt : Option Nat
  padded : Bool
  advData : List Nat
  slots : Nat
  before : Option (List (List Nat))
  sent : Option (TxHdr × TxBody)
  onLines : LineSlot
  deriving DecidableEq, Repr

/-! ## Cox, the Reservoir and the training runs -/

/-- Where a command taken in stands: waiting on a buoy, as a FENCE, or for a node-map line; held in the Backwater for a port until a
stroke; running; or ended by the safe state, its completion due at the next cycle 0 (R307, R368). -/
inductive CmdPhase where
  | waitBuoy | fence | held (port : Nat) (deadline : Nat) | running | ended
  deriving DecidableEq, Repr

/-- A command taken in and not completed (R320): where it came from, its words, its outfall queue's period, its phase, whether a value of
its buoy met its threshold, DEST's port mask, the port used, the list entry it is at and its words once read, transfers open, whether every transfer has
begun, its first failing transfer, and a regatta transfer's issue index. -/
structure Cmd where
  id : Nat
  src : Source
  slot : Nat
  words : List DWord
  period : Nat
  phase : CmdPhase
  met : Bool
  mask : Nat
  port : Option Nat
  item : Nat
  entry : List DWord
  opened : Nat
  begun : Bool
  failed : Option (Nat × Nat × Nat)
  issue : Nat
  deriving DecidableEq, Repr

/-- What a job does with its data (R337, R340, R406, R410 to R412, R414): sends hub data or bytes at hand, sends a remote BUOY_OP, fetches
to hub memory or for another job, answers a FETCH_REQ, adds to a round, stashes, persists, restores, writes a page out. -/
inductive JobKind where
  | send
  | bytes
  | buoyOp
  | fetch
  | fetchFor (job : Nat) (off : Nat)
  | answer (id : Nat)
  | reduce (round : Nat)
  | stash (ext : Nat)
  | unstash
  deriving DecidableEq, Repr

/-- A stream of data of a command, of an answer, or of a page-out. `pos` bytes are dealt with and `chunk` more are asked for; `got` are
the pieces that have come; `writes` hub writes are not reported; `queued` while it is in its port's class queue. -/
structure Job where
  id : Nat
  cmd : Nat
  item : Nat
  kind : JobKind
  port : Nat
  tc : Nat
  addr : Nat
  remote : Nat
  len : Nat
  pos : Nat
  chunk : Nat
  got : List (Nat × List Byte)
  bytes : List Byte
  rbuoy : Option (Nat × Nat × DWord)
  fetchId : Option Nat
  status : Option (Nat × Nat)
  writes : Nat
  queued : Bool
  lastIn : Bool
  page : Option (Nat × Nat)
  waitSince : Option Nat
  deriving DecidableEq, Repr

/-- An outfall queue beyond its registers (R321 to R326): entries reserved, its period of enablement, the next entry to write with its
PHASE, and entries written and not passed by TAIL, with whether each is reported. -/
structure Oq where
  reserved : Nat
  period : Nat
  next : Nat
  phase : Bool
  flight : List (Nat × Bool)
  deriving DecidableEq, Repr

/-- Cox: outfall queues, the command in each wait slot (0 to 63 the intake queues, 64 the regatta), commands in the order they were taken
in, the Backwater in entry order, jobs, the next number, the source last served at each PRIO, the context cache (line address and
words, newest use first), lines whose fill failed, an invalidation under way (all lines, or a first line and a count), hub requests that
wait, requests that failed and are not dealt with, the fetch identifiers in use on each port, and the control cycle, counted from reset release,
in which a command was last taken in (R319). -/
structure CoxState where
  oqs : Tab Oq
  slots : Tab (Option Nat)
  cmds : List Cmd
  bw : List Nat
  jobs : List Job
  nextId : Nat
  served : Tab Nat
  cache : List (Nat × List DWord)
  badLines : List (Nat × Nat)
  invalidating : Option (Option (Nat × Nat))
  waiting : List HubReq
  failed : List (HubReq × Nat)
  fetchIds : Tab (List Nat)
  takenAt : Option Nat
  deriving DecidableEq, Repr

/-- An extent (R405, Table 12.3): its state, codec and data type, target, lengths and CRC, the pages held and the clean ones, and its
age. -/
structure Extent where
  state : Nat
  codec : Nat
  dtype : Nat
  remote : Bool
  persist : Bool
  dest : Nat
  tc : Nat
  psel : Nat
  tgt : Nat
  len : Nat
  clen : Nat
  crc : Word
  pages : List (Nat × List Byte)
  clean : List Nat
  writing : List Nat
  age : Nat
  retire : Bool
  deriving DecidableEq, Repr

/-- A tally round (R414 to R420): whether it holds a slot and its page, whether its tree entry is read, its tree, REDUCEs taken in and added, children whose image is in, images
that came before the tree, the accumulator, BR, its commands, ports that carried its messages, and whether its image is sent. -/
structure Round where
  round : Nat
  isOpen : Bool
  hasTree : Bool
  root : Bool
  parent : Nat
  children : List Nat
  parts : Nat
  partsIn : Nat
  taken : Nat
  images : List Nat
  early : List (Nat × Nat × Bool × Bool)
  sum : Nat
  inf : Bool
  nan : Bool
  br : Nat
  cmds : List Nat
  ports : List Nat
  sent : Bool
  deriving DecidableEq, Repr

/-- A regatta run (R400 to R404): its RGT_START, its program's 24 words, the next issue index, transfers completed and still open, the
first failing transfer (index, status, detail), and the RGT_STOP that ends it. -/
structure Run where
  cmd : Nat
  prog : List DWord
  next : Nat
  done : Nat
  opened : Nat
  failed : Option (Nat × Nat × Nat)
  stop : Option Nat
  deriving DecidableEq, Repr

/-- A SWAP under way (R424): its command, the nodes, the new epoch, both new entries, entry writes reported, the first error, and the stroke
in which both were reported. -/
structure SwapRun where
  cmd : Nat
  failed : Nat
  spare : Nat
  epoch : Nat
  entryF : List DWord
  entryS : List DWord
  reported : Nat
  error : Option (Nat × Nat)
  ready : Option Nat
  deriving DecidableEq, Repr

/-- Stash, tally, regatta and boathouse beyond their registers; the node and epoch in force (R422); whether paging goes on for
headroom (R358) and not for the STS ceiling alone; and whether the Reservoir has given a page since full reset. -/
structure RunState where
  extents : Tab Extent
  rounds : List Round
  failedRounds : List Nat
  run : Option Run
  swap : Option SwapRun
  selfNode : Nat
  selfEpoch : Nat
  nextAge : Nat
  pressing : Bool
  paged : Bool
  deriving DecidableEq, Repr

/-- The boundary-scan TAP (R484 to R490): current instruction, boundary update latch, what the last Capture-DR gave, and LOOP_DR.REFUSED. -/
structure Tap where
  ir : BitVec 6
  boundary : BitVec 14
  capture : Word
  refused : Bool
  deriving DecidableEq, Repr

/-! ## The die -/

/-- The state of the die, with the queue of commands that wait, first in, first out. -/
structure State where
  regs : Tab Nat
  recs : Tab (Option ErrRec)
  log : LogState
  ump : UmpState
  held : Bool
  resetAt : Option Nat
  fuses : Fuses
  paths : Tab PathState
  mgmt : MgmtState
  port : PortState
  clk : ClkState
  hgs : Tab Headgate
  synths : Tab Synth
  chans : Tab Chan
  refRuns : Tab Nat
  seats : Tab Seat
  lanes : Tab Lanes
  cal : CalState
  sensors : Tab Sensor
  datum : Datum
  nvs : NvsState
  lvl : LvlState
  flm : FlmState
  culvs : Tab Culv
  links : Tab Link
  cox : CoxState
  buoys : Tab DWord
  runs : RunState
  tap : Tap
  freeCount : Nat
  pending : List Instr
  deriving DecidableEq, Repr

/-! ## Defaults of the tables, which are the reset values of their entries -/

/-- A stamp taken before strokes run (R492). -/
def Stamp.none : Stamp := ⟨0, 0x7FF⟩

def PathState.reset : PathState := ⟨[], [], .none, 0⟩
def Headgate.reset : Headgate := ⟨.still, 0, 0, 0, false⟩
def Synth.reset : Synth := ⟨0, 0, false⟩
def Chan.reset : Chan := ⟨0, false, false, 0, 0⟩
/-- A seat after full reset: IDLE, heater code 0 (R201). -/
def Seat.reset : Seat :=
  ⟨.idle, .none, 0, 0, 0, 0, 0, .none, false, 0, false, false, 0, 0, .none, .none, 0, false, false, .none, false, false, false, 0, false, .none, 0⟩
/-- The lane map of R156: lane k on Sk. -/
def resetMap : List Nat := List.range 16
/-- No lane map entry. -/
def noSeat : Nat := 0x1F
def Lanes.reset : Lanes := ⟨resetMap, resetMap, .none, 0, [], [], [], [], [], .none, 0, 0, false⟩
def LiveCal.reset : LiveCal := ⟨1, 2, 0, 0, 0, .none, 0, 0, 0, 0⟩
def CalOut.reset : CalOut := ⟨[], [], [], [], 0, false⟩
def Sensor.reset : Sensor := ⟨[], 0, 0, 0, 0⟩
def MziLoop.reset : MziLoop := ⟨0, 0⟩
def FanSlot.reset : FanSlot := ⟨false, false, 0, false, [], [], 0, [], [], [], []⟩
def MgmtState.reset : MgmtState := ⟨.none, false, [], false, [], false, false⟩
/-- The control-space port at reset: with C7 served last, C0 comes first (log entry 167). -/
def PortState.reset : PortState := ⟨.none, 7⟩
def Culv.reset : Culv :=
  { since := 0, remapCap := .none, invalCap := false, txNext := 0, txAcked := 0xFFF, rxNext := 0, replay := [], unsent := [], reqs := [],
    timer := 0, expiries := 0, goodRx := 0, rsp := .none, identOk := false, clockOk := false, forming := [], line := [], fifths := 0,
    sent := [], prbs := 0, lostAt := .none, failing := [], held := [], answers := [], sbFree := 0, packet := [] }
def Landing.reset : Landing := ⟨false, 0, 0, .none, 0⟩
def Link.reset : Link :=
  { since := 0, txNext := 0, txAcked := 0xFFFFFF, rxNext := 0, ackSent := 0xFFFFFF, ackPending := 0, ackFirst := 0, timer := 0,
    expiries := 0, frozenAt := .none, replay := [], resend := 0, stream := [], heads := [], queues := [[], [], [], []],
    quantum := [0, 0, 0, 0], turn := 1, visited := false, usedHdr := [0, 0, 0, 0], usedData := [0, 0, 0, 0],
    backHdr := [0, 0, 0, 0], backData := [0, 0, 0, 0], freedHdr := [0, 0, 0, 0], freedData := [0, 0, 0, 0],
    staleHdr := [0, 0, 0, 0], staleData := [0, 0, 0, 0], partialBytes := [],
    rxMsgs := [], landing := [Landing.reset, Landing.reset, Landing.reset, Landing.reset], rxXfers := [], nextXfer := 0, space := [],
    unanswered := [], ops := [], nextTag := 0, answered := [], words := [], pauseLeft := 0, pauseWhy := 0, peerPausedAt := .none,
    resetLeft := 0, shells := 0, trainTx := 0, trainRx := 0, peerParams := 0, peerRate := 0, peerFecOff := false, peerMin := 1,
    peerMap := List.replicate 16 0x1F, ownRate := 0, ownFecOff := false, ownMin := 1, paramsSent := false, minLanes := 8, down := .none, losRun := 0, drainedTx := false,
    drainedRx := false, stalled := false, rxReserved := 0, newsAt := .none, padded := false, advData := [0, 0, 0],
    slots := 0, before := .none, sent := .none, onLines := ⟨0, true, []⟩ }
def Oq.reset : Oq := ⟨0, 0, 0, true, []⟩
def Extent.reset : Extent := ⟨0, 0, 0, false, false, 0, 0, 0, 0, 0, 0, 0, [], [], [], 0, false⟩

/-- The fuses of a die as this model starts it: unfused set code, serial 0, design scale 1.0 (log entry 10). -/
def Fuses.start : Fuses := ⟨0, 0, 0x4000⟩

/-- The state a full reset leaves, with the given fuses and store (R12, R455): `held` while the reset lasts. -/
def State.fullReset (fuses : Fuses) (words : Tab DWord) (ecc : Tab Ecc) (tap : Tap) (held : Bool) (pending : List Instr) : State :=
  { regs := [], recs := [], log := ⟨[], [], .none, false, 0, [], [], [], [], 0⟩, ump := ⟨[], .none, .none⟩, held := held, resetAt := .none,
    fuses := fuses, paths := [], mgmt := MgmtState.reset, port := PortState.reset,
    clk := ⟨0, 0, 0, 0, .none, .none, .none, .none, 0, false, 0, false, true, .none, 0⟩,
    hgs := [], synths := [], chans := [], refRuns := [], seats := [], lanes := [], cal := ⟨[], [], [], [], [], [], [], [], CalOut.reset⟩,
    sensors := [], datum := ⟨0, 0, 0, 0, 0, fuses.designScale, 0, .none, false⟩,
    nvs := ⟨words, ecc, .none, .none, [], [], 0, false, false⟩,
    lvl := ⟨[], [], [], [], .none, [], [], 0, false, false, [], .none, false, [], []⟩,
    flm := ⟨List.range 16, [], [], [], [], [], .none, 0, false, false, .none, .none⟩,
    culvs := [], links := [],
    cox := ⟨[], [], [], [], [], 1, [], [], [], .none, [], [], [], .none⟩, buoys := [],
    runs := ⟨[], [], [], .none, .none, 0xFFF, 0, 0, false, false⟩, tap := tap, freeCount := 0, pending := pending }

/-- The TAP in Test-Logic-Reset (R484): IDCODE selected. -/
def Tap.reset : Tap := ⟨0x02, 0, 0, false⟩

/-- The die right after the release of a full reset, straps read as 0, with a blank store (log entries 10 to 12). -/
def State.reset : State := State.fullReset Fuses.start [] [] Tap.reset false []

end Sys2Proof.Machine
end

