-- ==== Sys2Proof/Machine/Ops.lean ====
section
/-! DEFINITION. The named operations over the state: register fields, time and stamps, and the entries of the tables. -/

namespace Sys2Proof.Machine

/-! ## Register fields -/

/-- The value a field holds. -/
def State.rd (s : State) (f : Field) : Nat := Tab.read f.reset s.regs f.key

/-- The state with a field set to the low bits of a value. -/
def State.wr (s : State) (f : Field) (v : Nat) : State :=
  { s with regs := Tab.write f.reset s.regs f.key (v % 2 ^ f.width) }

/-- A field as a Boolean. -/
def State.flag (s : State) (f : Field) : Bool := s.rd f != 0

/-- The state with a one-bit field set from a Boolean. -/
def State.wrB (s : State) (f : Field) (b : Bool) : State := s.wr f (ofBool b)

/-- A two's-complement field. -/
def State.rdI (s : State) (f : Field) : Int := signedOf f.width (s.rd f)

/-- The state with a two's-complement field set. -/
def State.wrI (s : State) (f : Field) (v : Int) : State := s.wr f (bitsOfInt f.width v)

/-- The state with `n` added to a saturating counter. -/
def State.addTo (s : State) (f : Field) (n : Nat) : State := s.wr f (min (s.rd f + n) (2 ^ f.width - 1))

/-- The state with a saturating counter one up. -/
def State.bump (s : State) (f : Field) : State := s.addTo f 1

/-- The state with bit `i` of a field set or cleared. -/
def State.wrBit (s : State) (f : Field) (i : Nat) (b : Bool) : State :=
  s.wr f (if b then setBit (s.rd f) i else clearBit (s.rd f) i)

/-- A 64-bit value held in a pair of fields. -/
def State.rdPair (s : State) (lo hi : Field) : Nat := s.rd lo + 2 ^ 32 * s.rd hi

/-- The state with a pair of fields set to a 64-bit value. -/
def State.wrPair (s : State) (lo hi : Field) (v : Nat) : State := (s.wr lo (v % 2 ^ 32)).wr hi (v / 2 ^ 32)

/-! ## Time -/

/-- Whether the die's strokes run (Table 2.7, RUNNING). -/
def State.running (s : State) : Bool := s.flag Reg.STK.STAT_RUNNING

/-- Whether the die is at T0 (R46). -/
def State.isT0 (s : State) : Bool := s.rd Reg.GLB.STRAPS_POSITION == 0

/-- The stamp of the cycle at hand (R39), stroke 0 and cycle 0x7FF before strokes run (R492). -/
def State.stamp (s : State) : Stamp := if s.running then ⟨s.clk.stroke, s.clk.cycle⟩ else Stamp.none

/-- A stamp as the 64 bits of Table 2.3. -/
def Stamp.word (t : Stamp) : Nat := t.stroke.toNat * 2 ^ 16 + t.cycle

/-- The logbook's notes of a control cycle end with it (R112). -/
def LogState.newCycle (l : LogState) : LogState := { l with cleared := [], raised := [], emptied := [] }

/-- The state with another control cycle of the stroke at hand; clears and events of R112 are of one cycle only. -/
def State.atCycle (s : State) (n : Nat) : State :=
  { s with clk := { s.clk with cycle := n }, log := if s.clk.cycle = n then s.log else s.log.newCycle }

/-- Control cycles run so far, by which the replay timers are measured. -/
def State.absCycle (s : State) : Nat := s.clk.elapsed * 1280 + s.clk.cycle

/-- Control cycles since reset release, those before the first stroke among them (R142). -/
def State.time (s : State) : Nat := s.clk.idle + s.absCycle

/-- Strokes run so far, by which timers are measured (chapter 2, Edges). -/
def State.now (s : State) : Nat := s.clk.elapsed

/-- The Umpire in SAFE or SEALED (R436). -/
def State.safe (s : State) : Bool := s.rd Reg.UMP.STAT_STATE != 0

/-- The bring-up step (Table 14.2). -/
def State.stepNo (s : State) : Nat := s.rd Reg.GLB.STAT_STEP

/-- The bring-up step as it begins, with the stroke it begins in (R458, R459). -/
def State.toStep (s : State) (n : Nat) : State :=
  let t := s.wr Reg.GLB.STAT_STEP n
  { t with clk := { t.clk with stepAt := t.now } }

/-- The next free value's index, and the state in which it is used up. -/
def State.fresh (s : State) : Nat × State := (s.freeCount, { s with freeCount := s.freeCount + 1 })

/-! ## Entries of the tables -/

/-- Headgate `x`. -/
def State.hg (s : State) (x : Nat) : Headgate := Tab.read Headgate.reset s.hgs x
/-- The state with headgate `x` set. -/
def State.setHg (s : State) (x : Nat) (h : Headgate) : State := { s with hgs := Tab.write Headgate.reset s.hgs x h }
/-- The synthesiser of port `p`. -/
def State.synth (s : State) (p : Nat) : Synth := Tab.read Synth.reset s.synths p
/-- The state with the synthesiser of port `p` set. -/
def State.setSynth (s : State) (p : Nat) (y : Synth) : State := { s with synths := Tab.write Synth.reset s.synths p y }
/-- The key of a port's monitor channel. -/
def chanKey (p ch : Nat) : Nat := p * 64 + ch
/-- The key of a Flume monitor channel. -/
def flumeChanKey (ch : Nat) : Nat := 1024 + ch
/-- The monitor channel with a key. -/
def State.chan (s : State) (k : Nat) : Chan := Tab.read Chan.reset s.chans k
/-- The state with a monitor channel set. -/
def State.setChan (s : State) (k : Nat) (c : Chan) : State := { s with chans := Tab.write Chan.reset s.chans k c }
/-- The run of bad references of a bank, five to a port (Table 5.5). -/
def State.refRun (s : State) (k : Nat) : Nat := Tab.read 0 s.refRuns k
/-- The state with a run of bad references set. -/
def State.setRefRun (s : State) (k n : Nat) : State := { s with refRuns := Tab.write 0 s.refRuns k n }

/-- 0 for transmit, 1 for receive (CAL.SEAT_SEL). -/
def sideNo : Side → Nat
  | .tx => 0
  | .rx => 1

/-- The key of a seat: 36 to a port, the transmit seats first. -/
def seatKey (p : Nat) (side : Side) (k : Nat) : Nat := p * 36 + sideNo side * 18 + k
/-- The key of a seat of the commands. -/
def idKey (u : SeatId) : Nat := seatKey u.port.val u.side u.seat.val
/-- The port a seat's key belongs to. -/
def portOfSeat (k : Nat) : Nat := k / 36
/-- The side of a seat's key. -/
def sideOfSeat (k : Nat) : Side := if k % 36 < 18 then .tx else .rx
/-- The line of a seat's key. -/
def lineOfSeat (k : Nat) : Nat := k % 18
/-- A seat by its key. -/
def State.seat (s : State) (k : Nat) : Seat := Tab.read Seat.reset s.seats k
/-- The state with a seat set. -/
def State.setSeat (s : State) (k : Nat) (u : Seat) : State := { s with seats := Tab.write Seat.reset s.seats k u }
/-- A port's lanes. -/
def State.laneSt (s : State) (p : Nat) : Lanes := Tab.read Lanes.reset s.lanes p
/-- The state with a port's lanes set. -/
def State.setLaneSt (s : State) (p : Nat) (l : Lanes) : State := { s with lanes := Tab.write Lanes.reset s.lanes p l }
/-- A seat's live calibration. -/
def State.liveCal (s : State) (k : Nat) : LiveCal := Tab.read LiveCal.reset s.cal.live k
/-- The state with a seat's live calibration set. -/
def State.setLiveCal (s : State) (k : Nat) (c : LiveCal) : State :=
  { s with cal := { s.cal with live := Tab.write LiveCal.reset s.cal.live k c } }
/-- A thermal sensor. -/
def State.sensor (s : State) (n : Nat) : Sensor := Tab.read Sensor.reset s.sensors n
/-- The state with a thermal sensor set. -/
def State.setSensor (s : State) (n : Nat) (x : Sensor) : State := { s with sensors := Tab.write Sensor.reset s.sensors n x }
/-- A culvert. -/
def State.culv (s : State) (c : Nat) : Culv := Tab.read Culv.reset s.culvs c
/-- The state with a culvert set. -/
def State.setCulv (s : State) (c : Nat) (x : Culv) : State := { s with culvs := Tab.write Culv.reset s.culvs c x }
/-- A link, or a fan instance's sender. -/
def State.link (s : State) (n : Nat) : Link := Tab.read Link.reset s.links n
/-- The state with a link set. -/
def State.setLink (s : State) (n : Nat) (x : Link) : State := { s with links := Tab.write Link.reset s.links n x }
/-- An outfall queue. -/
def State.oq (s : State) (k : Nat) : Oq := Tab.read Oq.reset s.cox.oqs k
/-- The state with an outfall queue set. -/
def State.setOq (s : State) (k : Nat) (q : Oq) : State := { s with cox := { s.cox with oqs := Tab.write Oq.reset s.cox.oqs k q } }
/-- A buoy's value. -/
def State.buoyVal (s : State) (k : Nat) : DWord := Tab.read 0 s.buoys k
/-- The state with a buoy set. -/
def State.setBuoyVal (s : State) (k : Nat) (v : DWord) : State := { s with buoys := Tab.write 0 s.buoys k v }
/-- An extent. -/
def State.extent (s : State) (k : Nat) : Extent := Tab.read Extent.reset s.runs.extents k
/-- The state with an extent set. -/
def State.setExtent (s : State) (k : Nat) (x : Extent) : State :=
  { s with runs := { s.runs with extents := Tab.write Extent.reset s.runs.extents k x } }
/-- A fan slot. -/
def State.fan (s : State) (k : Nat) : FanSlot := Tab.read FanSlot.reset s.flm.fans k
/-- The state with a fan slot set. -/
def State.setFan (s : State) (k : Nat) (x : FanSlot) : State := { s with flm := { s.flm with fans := Tab.write FanSlot.reset s.flm.fans k x } }
/-- The number of an access path: 0 for the management port, `c + 1` for culvert `c`. -/
def pathNo : Path → Nat
  | .mgmt => 0
  | .sb c => c.val + 1
/-- An access path's latch and held write. -/
def State.path (s : State) (v : Path) : PathState := Tab.read PathState.reset s.paths (pathNo v)
/-- The state with an access path set. -/
def State.setPath (s : State) (v : Path) (x : PathState) : State := { s with paths := Tab.write PathState.reset s.paths (pathNo v) x }
/-- A word of the store. -/
def State.nvsWord (s : State) (a : Nat) : DWord := Tab.read 0 s.nvs.words a

end Sys2Proof.Machine
end

