-- ==== Sys2Proof/Machine/Flags.lean ====
section
/-! DEFINITION. Events: the ERR registers, first-error records, counts, the logbook queue and UMP.FIRST (R109 to R112, R442 to R446). -/

namespace Sys2Proof.Machine

/-- An event to raise: its kind and the detail its page's ERR_INFO0 and ERR_INFO1 show. -/
structure Event where
  code : ErrCode
  info0 : Nat
  info1 : Nat
  deriving DecidableEq, Repr

/-- An event with no detail. -/
def plain (c : ErrCode) : Event := ⟨c, 0, 0⟩

/-- An event with a detail in ERR_INFO0. -/
def detail (c : ErrCode) (i : Nat) : Event := ⟨c, i, 0⟩

/-- How severe a class is. -/
def severity : EvClass → Nat
  | .corr => 1
  | .cont => 2
  | .fatal => 3

/-- The ERR register of a class on a page. -/
def errField (cls : EvClass) (pg : Nat) : Field :=
  match cls with
  | .corr => Reg.ERR_CORR pg
  | .cont => Reg.ERR_CONT pg
  | .fatal => Reg.ERR_FATAL pg

/-- The order of events of one cycle (R445): fatal first; within a class by page, then by code. -/
def codeBefore (c1 : EvClass) (p1 b1 : Nat) (c2 : EvClass) (p2 b2 : Nat) : Bool :=
  if severity c1 ≠ severity c2 then decide (severity c2 < severity c1)
  else if p1 ≠ p2 then decide (p1 < p2) else decide (b1 < b2)

/-- An event put in its place in the order of R445. -/
def insertEvent (e : Event) : List Event → List Event
  | [] => [e]
  | f :: rest =>
    if codeBefore e.code.cls e.code.page e.code.bit f.code.cls f.code.page f.code.bit then e :: f :: rest
    else f :: insertEvent e rest

/-- Events in the order of R445. -/
def sortEvents (es : List Event) : List Event := es.foldl (fun acc e => insertEvent e acc) []

/-- Two entries are one and the same. -/
def sameEntry (a b : LogEntry) : Bool := a.seq == b.seq && a.stamp == b.stamp && a.page == b.page && a.cls == b.cls && a.code == b.code

/-- The entries in the queue and in the book. -/
def LogState.entries (l : LogState) : List LogEntry := l.queue ++ l.book.filterMap (·.2)

/-- A change made to every entry that answers to a test, in the queue, in the book, and in UMP.FIRST while its entry exists (R444). -/
def LogState.update (l : LogState) (p : LogEntry → Bool) (f : LogEntry → LogEntry) : LogState :=
  let g := fun e => if p e then f e else e
  { l with
    queue := l.queue.map g
    book := l.book.map fun kv => (kv.1, kv.2.map g)
    first := l.first.map fun e => if p e && l.entries.any (sameEntry e) then f e else e }

/-- How long ago an entry was accepted, in events. -/
def LogState.age (l : LogState) (e : LogEntry) : Nat := (l.nextSeq - e.seq - 1).toNat

/-- The newest entry of a page, class and code, if the queue or the book holds one. -/
def LogState.newest (l : LogState) (page : Nat) (cls : EvClass) (code : Nat) : Option LogEntry :=
  (l.entries.filter fun e => e.page == page && e.cls == cls && e.code == code).foldl
    (fun acc e => match acc with
      | .none => some e
      | some a => if l.age e < l.age a then some e else some a) .none

/-- A merged event marks the newest entry of its kind (R446). -/
def LogState.merge (l : LogState) (c : ErrCode) : LogState :=
  match l.newest c.page c.cls c.bit with
  | .none => l
  | some e => l.update (sameEntry e) fun x => { x with merged := true }

/-- Entries numbered from a SEQ upward. -/
def renumber : BitVec 16 → List LogEntry → List LogEntry
  | _, [] => []
  | n, e :: rest => { e with seq := n } :: renumber (n + 1) rest

/-- An entry put before the entries of its own cycle that R445 orders behind it. -/
def insertEntry (e : LogEntry) : List LogEntry → List LogEntry
  | [] => [e]
  | f :: rest => if codeBefore e.cls e.page e.code f.cls f.page f.code then e :: f :: rest else f :: insertEntry e rest

/-- Whether an event fills or replaces UMP.FIRST (R444): it is empty, or holds a less severe event, or one of the same cycle that
R445 orders behind it. -/
def takesFirst (l : LogState) (e : LogEntry) : Bool :=
  match l.first with
  | .none => true
  | some f =>
    decide (severity f.cls < severity e.cls) ||
      (f.stamp == e.stamp && e.stamp.cycle != 0x7FF && codeBefore e.cls e.page e.code f.cls f.page f.code)

/-- The logbook's part of an event that is not merged (R442, R444). Events of one cycle stand in the order of R445: entries of this
cycle at the queue's end keep that order, and their SEQ with it. -/
def LogState.accept (l : LogState) (e : LogEntry) : LogState :=
  if 64 ≤ l.queue.length then
    let first := takesFirst l e
    { l with lostPending := true,
             first := if first then some { e with seq := 0, lost := true, first := true } else l.first }
  else
    let same := fun (x : LogEntry) => x.stamp == e.stamp
    let takes := takesFirst l e
    let shared := l.entries.any same
    let e1 := { e with shared := shared, first := takes, lost := l.lostPending }
    let l1 := l.update same fun x => { x with shared := true }
    let older := (l1.queue.reverse.dropWhile fun x => same x && e.stamp.cycle != 0x7FF).reverse
    let recent := (l1.queue.reverse.takeWhile fun x => same x && e.stamp.cycle != 0x7FF).reverse
    let recent0 := if takes then recent.map fun x => if same x then { x with first := false } else x else recent
    let base := l.nextSeq - BitVec.ofNat 16 recent.length
    let recent1 := renumber base (insertEntry e1 recent0)
    let first1 : Option LogEntry :=
      if takes then recent1.find? (fun x => x.first) else
        match l1.first with
        | .none => .none
        | some f => some ((recent1.find? fun x => x.page == f.page && x.cls == f.cls && x.code == f.code && x.first).getD f)
    { l1 with queue := older ++ recent1, first := first1, lostPending := false, nextSeq := l.nextSeq + 1 }

/-- A page's first-error record after an event that is not merged (R110); events of one cycle count in the order of R445. -/
def recordAfter (r : Option ErrRec) (e : Event) (t : Stamp) : Option ErrRec :=
  let new : ErrRec := ⟨e.code.cls, e.code.bit, e.info0, e.info1, t⟩
  match r with
  | .none => some new
  | some x =>
    if severity x.cls < severity e.code.cls then some new
    else if x.stamp = t ∧ t.cycle ≠ 0x7FF ∧ x.cls = e.code.cls ∧ e.code.bit < x.bit then some new
    else r

/-- The class count of an event (R111). -/
def classCount (cls : EvClass) (pg : Nat) : Option Field :=
  match cls with
  | .corr => some (Reg.CNT_CORR pg)
  | .cont => some (Reg.CNT_CONT pg)
  | .fatal => .none

/-- The Umpire's part of a fatal event: its count, and the cycle in which a pair is first asserted (R431, R433). -/
def State.assertPair (s : State) : State :=
  let s := s.bump Reg.UMP.FATAL_CNT_EVENTS
  if s.rd Reg.UMP.STAT_STATE = 0 ∧ s.ump.assertedAt = .none then { s with ump := { s.ump with assertedAt := some s.stamp } } else s

/-- Whether an event is merged: its bit is 1, or a write cleared it in the cycle at hand (R111, R112). -/
def State.merges (s : State) (c : ErrCode) : Bool :=
  bitAt (s.rd (errField c.cls c.page)) c.bit || s.log.cleared.contains (c.page, c.cls, c.bit)

/-- The ERR bit of an event set. -/
def State.setErrBit (s : State) (c : ErrCode) : State := s.wrBit (errField c.cls c.page) c.bit true

/-- The logbook entry of an event. -/
def entryOf (e : Event) (t : Stamp) : LogEntry :=
  { stamp := t, page := e.code.page, cls := e.code.cls, code := e.code.bit, info := e.info0, shared := false, first := false,
    safe := false, merged := false, lost := false, seq := 0 }

/-- The pair that a fatal event asserts. -/
def State.pairFor (s : State) (c : ErrCode) : State := if c.cls = .fatal then s.assertPair else s

/-- The first-error records after an event whose bit a write cleared in the same cycle: the bit stays 1, so that a record which that write
emptied was not to be emptied, unless a more severe event has filled it since (R110, R112). -/
def State.recsAfterMerge (s : State) (c : ErrCode) : Tab (Option ErrRec) :=
  if bitAt (s.rd (errField c.cls c.page)) c.bit then s.recs
  else
    match s.log.emptied.find? (·.1 == c.page) with
    | .none => s.recs
    | some p =>
      match Tab.read .none s.recs c.page with
      | .none => Tab.write .none s.recs c.page (some p.2)
      | some x => if severity p.2.cls < severity x.cls then s.recs else Tab.write .none s.recs c.page (some p.2)

/-- A merged event (R111, R112, R446). -/
def State.mergeEvent (s : State) (c : ErrCode) : State :=
  { (s.setErrBit c).bump (Reg.CNT_MERGED c.page) with log := s.log.merge c, recs := s.recsAfterMerge c }

/-- The bit of an event kept in mind for the cycle at hand (R112), and for the sample of PEND when a new one comes at cycle 1040 or later
(R141). -/
def State.noteEvent (s : State) (c : ErrCode) (t : Stamp) (new : Bool) : State :=
  let k := (c.page, c.cls, c.bit)
  { s with log := { s.log with
      raised := if t = s.stamp then k :: s.log.raised else s.log.raised
      late := if new && decide (1040 ≤ t.cycle) && decide (t.cycle < 1280) then k :: s.log.late else s.log.late } }

/-- An event in its class count. -/
def State.countEvent (s : State) (c : ErrCode) : State :=
  match classCount c.cls c.page with
  | some f => s.bump f
  | .none => s

/-- An event in its page's first-error record. -/
def State.recordEvent (s : State) (e : Event) (t : Stamp) : State :=
  { s with recs := Tab.write .none s.recs e.code.page (recordAfter (Tab.read .none s.recs e.code.page) e t) }

/-- An entry for the logbook's queue, which holds 64 (R442). -/
def State.logEvent (s : State) (x : LogEntry) : State :=
  let s := if 64 ≤ s.log.queue.length then s.bump Reg.LOG.DROP_CNT else s
  { s with log := s.log.accept x }

/-- One event with a given stamp (R109 to R111, R442, R446). -/
def State.raiseAt (s : State) (t : Stamp) (e : Event) : State :=
  let s := s.pairFor e.code
  if s.merges e.code then (s.mergeEvent e.code).noteEvent e.code t false
  else ((((s.setErrBit e.code).countEvent e.code).recordEvent e t).logEvent (entryOf e t)).noteEvent e.code t true

/-- One event of the cycle at hand. -/
def State.raise1 (s : State) (e : Event) : State := s.raiseAt s.stamp e

/-- Events of one cycle, in the order of R445. -/
def State.raise (s : State) (es : List Event) : State := (sortEvents es).foldl State.raise1 s

/-- One event. -/
def State.event (s : State) (e : Event) : State := s.raise1 e

/-- The register fields that raising an event may change: its ERR register, its page's counters, the Umpire's count of fatal events, and the
logbook's count of drops. -/
def eventFields (c : ErrCode) : List Field :=
  [errField c.cls c.page, Reg.CNT_CORR c.page, Reg.CNT_CONT c.page, Reg.CNT_MERGED c.page, Reg.UMP.FATAL_CNT_EVENTS, Reg.LOG.DROP_CNT]

/-- A page's record empties when its three ERR registers read 0 (R110); it is kept in mind for the cycle at hand (R112). -/
def State.emptyRecord (s : State) (pg : Nat) : State :=
  if s.rd (Reg.ERR_CORR pg) = 0 ∧ s.rd (Reg.ERR_CONT pg) = 0 ∧ s.rd (Reg.ERR_FATAL pg) = 0 then
    match Tab.read .none s.recs pg with
    | .none => s
    | some r => { s with recs := Tab.write .none s.recs pg .none, log := { s.log with emptied := (pg, r) :: s.log.emptied } }
  else s

/-- Ones written to an ERR register (Table 0.4, R112, R113): bits clear but those of an event of the same cycle, and the record empties when
nothing is left. -/
def State.clearErr (s : State) (cls : EvClass) (pg m : Nat) : State :=
  let f := errField cls pg
  let keep := if cls = .fatal ∧ pg = 3 then clearBit m 1 else m
  let gone := ((setBits 32 keep).filter (bitAt (s.rd f))).filter fun b => !s.log.raised.contains (pg, cls, b)
  let s := s.wr f (clearMask (s.rd f) (maskOf gone))
  let s := { s with log := { s.log with cleared := gone.map (fun b => (pg, cls, b)) ++ s.log.cleared } }
  s.emptyRecord pg

end Sys2Proof.Machine
end

