-- ==== Sys2Proof/Machine/Operands.lean ====
section
/-! DEFINITION. A register write as an operand of a command: its access path, LOCK, and the access types of Table 0.4. -/

namespace Sys2Proof.Machine

/-- A path of a culvert sideband. -/
def isSideband : Path → Bool
  | .mgmt => false
  | .sb _ => true

/-- Whether writes of a path to the protected registers of a page are refused (R115). -/
def State.locked (s : State) (v : Path) (pg : Nat) : Bool :=
  s.flag (Reg.LOCK_WP pg) && (!s.flag (Reg.LOCK_HUB_ONLY pg) || isSideband v)

/-- A refused write (R117). -/
def State.refuse (s : State) (v : Path) (pg : Nat) : State :=
  let s := s.bump (Reg.LOCK_DENIED pg)
  match v with
  | .mgmt => s.wr Reg.MGT.STAT_DENIED 1
  | .sb _ => s

/-- A field of a register by its row. -/
def fieldOf (pg off : Nat) (r : FieldRow) : Field := ⟨pg, off, r.hi, r.lo, r.reset⟩

/-- The fields of a register as they are stored, WO fields 0 (Table 0.4). -/
def State.stored (s : State) (pg off : Nat) : Nat :=
  (fieldsAt pg off).foldl (fun a r => if r.acc = .wo then a else a + s.rd (fieldOf pg off r) * 2 ^ r.lo) 0

/-- Whether LOCK refuses a write, wholly or in part (R115). -/
def State.refuses (s : State) (v : Path) (pg off data : Nat) : Bool :=
  implemented pg off && s.locked v pg &&
    ((off == 0x004 && data / 256 != s.stored pg 0x004 / 256) || decide (0x040 ≤ off))

/-- EXTEST, CLAMP or HIGHZ is the current instruction: the management port ignores the bus (R486). -/
def State.busBlind (s : State) : Bool := s.tap.ir == 0x00 || s.tap.ir == 0x03 || s.tap.ir == 0x04

/-- Whether the management port hears nothing: the die is held in full reset (R455), or its pins are scanned (R486). -/
def State.busDeaf (s : State) : Bool := s.held || s.busBlind

/-- Whether nothing reaches control space on a path. -/
def State.deaf (s : State) : Path → Bool
  | .mgmt => s.busDeaf
  | .sb _ => s.held

/-- A write that arrives on a path: not performed while the path hears nothing, of no effect at an unimplemented offset (R102),
refused under LOCK (R115, R117), and otherwise performed as `eff` says of the data. A write to a protected CTRL keeps bits 31:8. -/
def State.access (s : State) (v : Path) (pg off data : Nat) (eff : Nat → State → State) : State :=
  if s.deaf v || !implemented pg off then s
  else if s.refuses v pg off data then
    if off = 0x004 then (eff (s.stored pg 0x004 / 256 * 256 + data % 256) s).refuse v pg else s.refuse v pg
  else eff data s

/-- A write to one field of a register; a value R11 excludes leaves the field. -/
def State.writeField (s : State) (pg off data : Nat) (r : FieldRow) : State :=
  let f := fieldOf pg off r
  let v := bits data r.hi r.lo
  match r.acc with
  | .rw => if r.min ≤ v ∧ v ≤ r.max then s.wr f v else s
  | .w1c => s.wr f (clearMask (s.rd f) v)
  | .ro => s
  | .wo => s

/-- ERR_CNT becomes 0 (Table 4.3). -/
def State.clearCounts (s : State) (pg : Nat) : State :=
  ((s.wr (Reg.CNT_CORR pg) 0).wr (Reg.CNT_CONT pg) 0).wr (Reg.CNT_MERGED pg) 0

/-- A write to every field of a register by its access type; in CTRL, CNT_CLR acts too (R108). -/
def State.writeFields (s : State) (pg off data : Nat) : State :=
  let s := (fieldsAt pg off).foldl (fun s r => s.writeField pg off data r) s
  if off = 0x004 ∧ bitAt data 4 then s.clearCounts pg else s

/-! ## Pairs (R105) -/

/-- The lower half that a write to the _HI of a pair commits, and the path without it: the path's held write if it is of that pair, else 0
(R105). -/
def State.pairLow (s : State) (v : Path) (loAddr : Nat) : Nat × State :=
  let x := s.path v
  match x.held with
  | .none => (0, s)
  | some h => if h.1 = loAddr then (h.2.toNat, s.setPath v { x with held := .none }) else (0, s)

/-- A write to the _LO of a pair, held for the path (R105). -/
def State.holdLow (s : State) (v : Path) (loAddr : Nat) (data : Word) : State :=
  s.setPath v { s.path v with held := some (loAddr, data) }

end Sys2Proof.Machine
end

