-- ==== Sys2Proof/Machine/CalOps.lean ====
section
/-! DEFINITION. Calibration entries, the interpolation between sets, and port temperatures (R212, R215 to R219, R244). -/

namespace Sys2Proof.Machine

/-- A seat entry by its fields (Table 7.6). -/
structure CalEntry where
  hbias : Int
  mbias : Int
  icap : Int
  hcell : Nat
  member : Nat
  pref2 : Nat
  pref3 : Nat
  unusable : Nat
  lockpt : Int
  deriving DecidableEq, Repr

/-- The fields of a seat entry (Table 7.6). -/
def entryFields (w : DWord) : CalEntry :=
  let n := w.toNat
  { hbias := bits n 63 48, mbias := bits n 47 40, icap := bits n 39 35, hcell := bits n 34 29, member := bits n 28 27,
    pref2 := bits n 26 25, pref3 := bits n 24 23, unusable := bits n 22 20, lockpt := signedOf 12 (bits n 19 8) }

/-- A seat entry as a word, VALID set (Table 7.6). -/
def entryWord (e : CalEntry) : DWord :=
  BitVec.ofNat 64 (bitsOfInt 16 e.hbias * 2 ^ 48 + bitsOfInt 8 e.mbias * 2 ^ 40 + bitsOfInt 5 e.icap * 2 ^ 35 +
    e.hcell % 64 * 2 ^ 29 + e.member % 4 * 2 ^ 27 + e.pref2 % 4 * 2 ^ 25 + e.pref3 % 4 * 2 ^ 23 + e.unusable % 8 * 2 ^ 20 +
    bitsOfInt 12 e.lockpt * 2 ^ 8 + 1)

/-- The design entry of R244; its modulator bias is of transmit seats only (Table 7.6). -/
def designEntry (side : Side) : CalEntry :=
  { hbias := 0x4000, mbias := if side = .tx then 0x80 else 0, icap := 16, hcell := 0x0F, member := 0, pref2 := 1, pref3 := 2,
    unusable := 0, lockpt := 0 }

/-- Half `j` of a word field that holds two halfwords. -/
def State.rdHalf (s : State) (f : Field) (j : Nat) : Nat := if j = 0 then s.rd f % 2 ^ 16 else s.rd f / 2 ^ 16

/-- The state with one halfword of a field set. -/
def State.wrHalf (s : State) (f : Field) (j v : Nat) : State :=
  let old := s.rd f
  s.wr f (if j = 0 then old / 2 ^ 16 * 2 ^ 16 + v % 2 ^ 16 else v % 2 ^ 16 * 2 ^ 16 + old % 2 ^ 16)

/-- The temperature of a set, in 1/64 °C (R215). -/
def setTemp (k : Nat) : Int := (20 + 20 * (k : Int)) * 64

/-- A port's temperature, in 1/64 °C (R212). -/
def State.portTemp (s : State) (p : Nat) : Int := s.rdI (Reg.THM.PORT_T p)

/-- The sets present, ascending. -/
def State.presentSets (s : State) : List Nat := setBits 5 (s.rd Reg.CAL.STAT)

/-- How a temperature lies among the sets (R216, R217): the lower set, the weight × 256, the nearer set, and a clamp low or high. -/
structure Bracket where
  lo : Nat
  weight : Nat
  near : Nat
  low : Bool
  high : Bool
  deriving DecidableEq, Repr

/-- The bracket of a temperature among present sets; none where no set is present (R216, R217). -/
def bracketOf (present : List Nat) (t : Int) : Option Bracket :=
  match (present.filter fun k => setTemp k ≤ t).getLast?, (present.filter fun k => t < setTemp k).head? with
  | .none, .none => .none
  | .none, some h => some ⟨h, 0, h, true, false⟩
  | some l, .none => some ⟨l, 0, l, false, decide (setTemp l < t)⟩
  | some l, some h =>
    some ⟨l, (256 * (t - setTemp l) / (setTemp h - setTemp l)).toNat,
      if 2 * (t - setTemp l) ≤ setTemp h - setTemp l then l else h, false, false⟩

/-- A port's interpolation weights, clamps and nearer set for the stroke that begins (R34, R216). -/
def State.portWeights (s : State) (p : Nat) : State :=
  match bracketOf s.presentSets (s.portTemp p) with
  | .none => s
  | some b =>
    let s := s.wrHalf (Reg.CAL.WEIGHT (p / 2)) (p % 2) (b.lo * 256 + b.weight)
    let s := (s.wrBit Reg.CAL.CLAMP_LOW p b.low).wrBit Reg.CAL.CLAMP_HIGH p b.high
    { s with cal := { s.cal with near := Tab.write 0 s.cal.near p b.near } }

/-- A value between two sets' values, truncated toward zero (R217). -/
def interpolate (w : Nat) (lo hi : Int) : Int := Int.tdiv (256 * lo + w * (hi - lo)) 256

/-- What a set's word for a seat gives: its fields, or, where it says that nothing was measured, the design entry (Table 7.6; log entry 31). -/
def setEntry (side : Side) (w : DWord) : CalEntry := if w.getLsbD 0 then entryFields w else designEntry side

/-- The interpolated entry of a seat from the sets present, the interpolation word of its port, set entries and nearer sets (R217, R244). -/
def interpAt (present : List Nat) (word : Nat → Nat) (sets : Tab DWord) (near : Tab Nat) (key : Nat) : CalEntry :=
  match present with
  | [] => designEntry (sideOfSeat key)
  | _ =>
    let p := portOfSeat key
    let entry := fun set => setEntry (sideOfSeat key) (Tab.read 0 sets (set * 576 + key))
    let lo := word p / 256 % 8
    let w := word p % 256
    let a := entry lo
    let b := match (present.filter fun k => lo < k).head? with
      | .none => a
      | some h => entry h
    let n := entry (Tab.read 0 near p)
    { n with hbias := interpolate w a.hbias b.hbias, mbias := interpolate w a.mbias b.mbias, lockpt := interpolate w a.lockpt b.lockpt }

/-- A port's interpolation word: lower set and weight (Table 7.9). -/
def State.weightWord (s : State) (p : Nat) : Nat := s.rdHalf (Reg.CAL.WEIGHT (p / 2)) (p % 2)

/-- The interpolated entry of a seat in this stroke (R217, R244). -/
def State.interpEntry (s : State) (key : Nat) : CalEntry := interpAt s.presentSets s.weightWord s.cal.sets s.cal.near key

/-- An interpolated entry with a seat's live offsets and choices (R218, R219). -/
def liveOf (e : CalEntry) (l : LiveCal) : CalEntry :=
  { hbias := clampInt 0 0xFFFF (e.hbias + l.dHbias), mbias := clampInt 0 0xFF (e.mbias + l.dMbias),
    icap := clampInt 0 31 (e.icap + l.dIcap), hcell := (l.hcell.map (·.toNat)).getD e.hcell, member := l.member, pref2 := l.pref2,
    pref3 := l.pref3, unusable := l.unusable ||| l.timedOut, lockpt := clampInt (-2048) 2047 (e.lockpt + l.dLockpt) }

/-- The entry a seat runs on: interpolated values plus live offsets, live choices (R218, R219). -/
def State.liveEntry (s : State) (key : Nat) : CalEntry := liveOf (s.interpEntry key) (s.liveCal key)

/-- A seat's live entry with the member in use (Table 7.6): SEARCH may have changed it since calibration (R191). -/
def State.activeEntry (s : State) (key : Nat) : CalEntry := { s.liveEntry key with member := (s.seat key).member }

/-- Whether calibration is loaded, or stands on the design values (R243, R244). -/
def State.calLoaded (s : State) : Bool := decide (2 ≤ s.stepNo)

/-- At cycle 960, modulator biases, heater cells and capacitor units follow calibration as it stands (R33, R36, R217). -/
def State.latchOutputs (s : State) : State :=
  { s with cal := { s.cal with out :=
    { sets := s.cal.sets, live := s.cal.live, weights := (List.range 16).map s.weightWord, near := s.cal.near,
      present := s.rd Reg.CAL.STAT, loaded := s.calLoaded } } }

/-- The actuator outputs of a seat that come from calibration, as they are live now: MBIAS, HCELL and ICAP, with the member in use; all 0 before
calibration is loaded (R33, R201). -/
def State.outEntry (s : State) (key : Nat) : CalEntry :=
  let o := s.cal.out
  if o.loaded then
    { liveOf (interpAt (setBits 5 o.present) (fun p => o.weights.getD p 0) o.sets o.near key) (Tab.read LiveCal.reset o.live key) with
      member := (s.seat key).member }
  else ⟨0, 0, 0, 0, 0, 0, 0, 0, 0⟩

/-- A seat's choices taken from the nearer set, as when it leaves IDLE (R218). -/
def State.loadChoices (s : State) (key : Nat) : State :=
  let e := s.interpEntry key
  s.setLiveCal key { s.liveCal key with member := e.member, pref2 := e.pref2, pref3 := e.pref3, unusable := e.unusable }

/-- The seats of a port whose heaters follow their calibrated bias: those that run a loop which does not sweep (R217). -/
def State.biasSeats (s : State) (p : Nat) : List Nat :=
  ((List.range 36).map (36 * p + ·)).filter fun k =>
    match (s.seat k).state with
    | .locked | .lost | .hotSpare => true
    | .search => !(s.seat k).sweeping
    | .idle | .outOfService | .failed => false

/-- At cycle 0 a port's weights switch, and what that moves a calibrated heater bias by moves the seat's target too (R34, R217; log entry 187). -/
def State.switchWeights (s : State) (p : Nat) : State :=
  let t := s.portWeights p
  (s.biasSeats p).foldl (fun t k =>
    let d := (t.liveEntry k).hbias - (s.liveEntry k).hbias
    if d = 0 then t else t.setSeat k { t.seat k with target := (t.seat k).target + d }) t

/-! ## What a visit measured (R224, R225) -/

/-- The member with the lowest heater bias among those whose scan passed, the earliest scanned of equals. -/
def bestScan (scans : List (Nat × Option Nat)) : Option (Nat × Nat) :=
  scans.foldl (fun acc x => match x.2 with
    | .none => acc
    | some h => match acc with
      | .none => some (x.1, h)
      | some b => if h < b.2 then some (x.1, h) else acc) .none

/-- The marks of unusable members after a visit's scans (R225). -/
def unusableAfter (old : Nat) (scans : List (Nat × Option Nat)) : Nat :=
  scans.foldl (fun m x => if x.2.isNone then setBit m x.1 else clearBit m x.1) old

/-- A visit's entry: what it measured; the seat's live values where it measured nothing; and the choices of the set nearer in temperature with the
member it chose first (R218, R225; log entry 188). -/
def visitResult (v : Visit) (live near : CalEntry) : CalEntry :=
  let b := bestScan v.scans
  let m := (b.map (·.1)).getD near.member
  let others := [near.member, near.pref2, near.pref3].filter (· != m)
  { hbias := (b.map fun x => (x.2 : Int)).getD live.hbias, member := m,
    mbias := (v.mbias.map fun x => (x : Int)).getD live.mbias, icap := (v.icap.map fun x => (x : Int)).getD live.icap,
    hcell := (v.hcell.map (·.toNat)).getD live.hcell, lockpt := v.lockpt.getD live.lockpt, pref2 := others.getD 0 near.pref2,
    pref3 := others.getD 1 near.pref3, unusable := unusableAfter near.unusable v.scans }

end Sys2Proof.Machine
end

