-- ==== Sys2Proof/Machine/RsvOps.lean ====
section
/-! DEFINITION. The Reservoir's pools: pages taken and freed, headroom and pressure (R354 to R360). -/

namespace Sys2Proof.Machine

/-- The number of a pool (Table 10.7). -/
def poolNo : Pool → Nat
  | .rpl => 0
  | .rxs => 1
  | .sts => 2
  | .tly => 3

/-- All pages of the Reservoir (R354). -/
def allRsvPages : Nat := 65536

/-- Pages a pool holds. -/
def State.poolUsed (s : State) (k : Pool) : Nat := s.rd (Reg.RSV.USED (poolNo k))

/-- A pool's floor, in pages. -/
def State.poolFloor (s : State) (k : Pool) : Nat := 16 * s.rd (Reg.RSV.POOL_FLOOR (poolNo k))

/-- A pool's ceiling, in pages. -/
def State.poolCeil (s : State) (k : Pool) : Nat := 16 * s.rd (Reg.RSV.POOL_CEIL (poolNo k))

/-- The pools in the order of Table 10.7. -/
def pools : List Pool := [.rpl, .rxs, .sts, .tly]

/-- The pages in FRE. -/
def State.freePages (s : State) : Nat := allRsvPages - (pools.map s.poolUsed).sum - s.rd Reg.RSV.RETIRED

/-- Headroom (R356): the free pages that no floor still needs. -/
def State.headroom (s : State) : Int := s.freePages - ((pools.map fun k => s.poolFloor k - s.poolUsed k).sum : Nat)

/-- How many of `n` pages a pool may take now (R356). In the safe state the Reservoir allocates none (R368). -/
def State.grantable (s : State) (k : Pool) (n : Nat) : Nat :=
  if s.safe then 0
  else
    let used := s.poolUsed k
    let below := min (min n (s.poolFloor k - used)) s.freePages
    below + min (n - below) (min (s.poolCeil k - (used + below)) s.headroom.toNat)

/-- Pages taken by a pool, if it may take all of them (R356). -/
def State.takePages (s : State) (k : Pool) (n : Nat) : Option State :=
  if s.grantable k n = n then
    some { s.wr (Reg.RSV.USED (poolNo k)) (s.poolUsed k + n) with runs := { s.runs with paged := true } }
  else .none

/-- Pages returned by a pool to FRE. -/
def State.returnPages (s : State) (k : Pool) (n : Nat) : State := s.wr (Reg.RSV.USED (poolNo k)) (s.poolUsed k - n)

/-- Whether any extent holds a page in STS. -/
def State.stsResident (s : State) : Bool := s.runs.extents.any fun kv => !kv.2.pages.isEmpty

/-- Whether headroom calls for paging (R358). -/
def State.pressed (s : State) : Bool := decide (s.headroom < (s.rd Reg.RSV.PRESSURE : Int))

/-- Whether STS holds more than its ceiling (R357). -/
def State.stsOver (s : State) : Bool := decide (s.poolCeil .sts < s.poolUsed .sts)

/-- Paging begins (R357, R358), for headroom or for the STS ceiling alone: PAGING reads 1 and PAGEOUT is raised. Nothing is paged out in the
safe state (R368). -/
def State.startPaging (s : State) (headroom : Bool) : State :=
  if s.safe || !s.stsResident then s
  else
    let s := { s with runs := { s.runs with pressing := s.runs.pressing || headroom } }
    if s.flag Reg.RSV.STAT_PAGING then s else (s.wr Reg.RSV.STAT_PAGING 1).raise1 ⟨Err.RSV.PAGEOUT, 2 * 2 ^ 16, 0⟩

/-- Paging that is due begins. -/
def State.pageIfDue (s : State) : State :=
  if s.pressed then s.startPaging true else if s.stsOver then s.startPaging false else s

/-- Paging ends when headroom has reached twice PRESSURE and STS its ceiling, or no STS page is resident (R357, R358). -/
def State.pageEnough (s : State) : State :=
  let headroomDone := !s.runs.pressing || decide (2 * (s.rd Reg.RSV.PRESSURE : Int) ≤ s.headroom)
  if !s.stsResident || (headroomDone && !s.stsOver) then
    { s.wr Reg.RSV.STAT_PAGING 0 with runs := { s.runs with pressing := false } }
  else s

/-- An allocation, and the paging that a refusal for lack of headroom, or too little headroom left, starts (R358). -/
def State.allocate (s : State) (k : Pool) (n : Nat) : Bool × State :=
  match s.takePages k n with
  | some t => (true, t.pageIfDue)
  | .none => (false, if s.poolUsed k + n ≤ s.poolCeil k then s.startPaging true else s)

/-- A page whose read is uncorrectable leaves service until full reset (R360): its pool holds one fewer. -/
def State.pageUe (s : State) (k : Pool) (page : Nat) : State :=
  let s := (s.returnPages k 1).bump Reg.RSV.RETIRED
  s.raise1 ⟨Err.RSV.PAGE_UE, (poolNo k) * 2 ^ 16 + page % 2 ^ 16, 0⟩

/-- A corrected error in a page (R360). -/
def State.pageCe (s : State) (k : Pool) (page : Nat) : State := s.raise1 ⟨Err.RSV.ECC_CE, (poolNo k) * 2 ^ 16 + page % 2 ^ 16, 0⟩

end Sys2Proof.Machine
end

