-- ==== Sys2Proof/Machine/LinkOps.lean ====
section
/-! DEFINITION. What a stream of shells does: banks and fibres, messages into shells, acknowledgement and replay, credits, control words,
pauses, and the detection of link-down conditions (R274 to R302, R310, R373). -/

namespace Sys2Proof.Machine

/-! ## Banks, fibres and streams (R373, R310) -/

/-- The fibre that the live base map gives a bank. -/
def State.fibreOf (s : State) (b : Nat) : Nat := s.flm.map.getD b b

/-- The bank whose light a port's fibre carries under the base map: the transmitter of the port's link. -/
def State.bankOf (s : State) (p : Nat) : Nat := ((List.range 16).find? fun b => s.fibreOf b == p).getD p

/-- The port whose link a seat serves: a transmit seat's bank may feed another fibre. -/
def State.linkOfSeat (s : State) (k : Nat) : Nat :=
  match sideOfSeat k with
  | .tx => s.fibreOf (portOfSeat k)
  | .rx => portOfSeat k

/-- The transmit seat of a line of a port's link. -/
def State.txSeat (s : State) (p line : Nat) : Nat := seatKey (s.bankOf p) .tx line

/-- The key of a fan slot's sending stream. -/
def fanTx (k : Nat) : Nat := 16 + k

/-- The key of the stream on which a member port receives a fan. -/
def fanRx (p : Nat) : Nat := 32 + p

/-- The state of a fan slot (Table 11.9). -/
def State.fanState (s : State) (k : Nat) : Nat := s.rd (Reg.FLM.FAN_STAT_STATE k)

/-- A slot's members, source and degree, as its copy of FANk_CFG and FANk_STAT.MEMBERS hold them. -/
def State.fanMembers (s : State) (k : Nat) : List Nat := setBits 16 (s.rd (Reg.FLM.FAN_STAT_MEMBERS k))

/-- The slot, not IDLE, whose mask holds a fibre. -/
def State.slotOfFibre (s : State) (p : Nat) : Option Nat :=
  (List.range 8).find? fun k => s.fanState k != 0 && bitAt (s.rd (Reg.FLM.FAN_CFG_MASK k)) p

/-- Whether a slot's light is in the fan configuration: from stroke c of its entry to the end of its exit (R385). -/
def State.fanLit (s : State) (k : Nat) : Bool :=
  match s.fanState k with
  | 3 => s.flm.changes.any fun c => c.kind == .fanEnter k && !c.rollback && (match c.start with | .none => false | some t => decide (t ≤ s.now))
  | 4 | 5 => true
  | 6 => (s.fan k).asked
  | _ => false

/-- Whether a transmit bank is lent to a fan, its rings quenched (R385). -/
def State.lentBank (s : State) (b : Nat) : Bool :=
  (List.range 8).any fun k =>
    s.fanLit k && bitAt (s.rd (Reg.FLM.FAN_CFG_MASK k)) (s.fibreOf b) && s.fibreOf b != s.rd (Reg.FLM.FAN_CFG_SOURCE k)

/-- Whether a seat is a quenched transmit seat of a lent bank (R385). -/
def State.quenchedSeat (s : State) (k : Nat) : Bool := sideOfSeat k == .tx && s.lentBank (portOfSeat k)

/-- The port whose lanes carry a stream. -/
def State.streamPort (s : State) (n : Nat) : Nat :=
  if n < 16 then n else if n < 32 then s.rd (Reg.FLM.FAN_CFG_SOURCE (n - 16)) else n - 32

/-! ## Link state, widths -/

/-- The link state of a port (Table 9.6). -/
def State.linkState (s : State) (p : Nat) : Nat := s.rd (Reg.LNK.STAT_STATE p)

/-- ACTIVE or DRAIN, in which lanes move by in-band operations (R495). -/
def State.linkUp (s : State) (p : Nat) : Bool := s.linkState p == 6 || s.linkState p == 8

/-- A link in a new state of Table 9.6. -/
def State.linkTo (s : State) (p st : Nat) : State :=
  (s.setLink p { s.link p with since := s.now, trainRx := 0, trainTx := 0 }).wr (Reg.LNK.STAT_STATE p) st

/-- The lanes of a map that have a seat, ascending. -/
def activeLanes (m : List Nat) : List Nat := (List.range 16).filter fun l => decide (m.getD l noSeat < 18)

/-- How many lanes of a map have a seat. -/
def widthOf (m : List Nat) : Nat := (activeLanes m).length

/-- The lane a map puts on a seat, if any. -/
def laneOn (m : List Nat) (k : Nat) : Option Nat := (List.range 16).find? fun l => m.getD l noSeat == k

/-- A port's map of a direction. -/
def Lanes.map (l : Lanes) : Side → List Nat
  | .tx => l.txMap
  | .rx => l.rxMap

/-- The width a port sends at: a lane whose LANE_ADD is issued and unanswered is sent on (R296, R300). -/
def State.sendWidth (s : State) (p : Nat) : Nat :=
  widthOf (s.laneSt p).txMap + ((s.laneSt p).missing.filter (·.adding)).length

/-- The line that a lane's LANE_ADD names. -/
def State.addLineOf (s : State) (p lane : Nat) : List Nat :=
  (((s.link p).ops.filter fun o => o.op == 0x11 && bits o.arg.toNat 4 0 == lane).map fun o => bits o.arg.toNat 12 8).take 1

/-- The lines of each active position of a port's transmitter, in ascending order of lane (R275, R296, R298): both of a lane that moves, while the
peer has not answered, then the one that stays. -/
def State.txLines (s : State) (p : Nat) : List (List Nat) :=
  let l := s.laneSt p
  (List.range 16).filterMap fun k =>
    let seat := l.txMap.getD k noSeat
    if seat < 18 then
      some (match l.swaps.find? (·.lane == k) with
        | .none => [seat]
        | some w => match w.ended with
          | .none => [seat, w.line]
          | some moved => [if moved then w.line else seat])
    else if l.missing.any fun m => m.lane == k && m.adding then some (s.addLineOf p k)
    else .none

/-- The lines that the next shell goes out on: those before a LANE_DROP or LANE_ADD that no CTRL shell has carried yet (R296). -/
def State.outLines (s : State) (p : Nat) : List (List Nat) := (s.link p).before.getD (s.txLines p)

/-- The width of the next shell, as its header gives it (R296). -/
def State.outWidth (s : State) (p : Nat) : Nat := ((s.link p).before.map (·.length)).getD (s.sendWidth p)

/-- The lit lines of a port's transmitter, on which TRAIN shells go out (Table 9.6). -/
def State.litLines (s : State) (p : Nat) : List (List Nat) :=
  ((List.range 18).filter fun k => (s.seat (s.txSeat p k)).driver).map fun k => [k]

/-- The own causes of a pause (STAT.PAUSE bits 21 and 22): the port's modulation is stopped, or will be after its PAUSE shells. -/
def State.ownPaused (s : State) (p : Nat) : Bool := s.rd (Reg.LNK.STAT_PAUSE p) % 4 != 0

/-- Whether either end pauses the port. -/
def State.paused (s : State) (p : Nat) : Bool := s.rd (Reg.LNK.STAT_PAUSE p) != 0

/-- TX_READY: ACTIVE and not paused, whichever end pauses (Table 9.11). -/
def State.txReady (s : State) (p : Nat) : Bool := s.linkState p == 6 && !s.paused p

/-- Detail of a LNK event: lane, state and reason (Table 9.11). -/
def State.linkInfo (s : State) (p lane reason : Nat) : Nat := lane * 2 ^ 8 + s.linkState p * 16 + reason

/-- No lane, or a lane not known. -/
def noLane : Nat := 0x1F

/-- The oldest unacknowledged SEQ of a stream. -/
def Link.oldest (l : Link) : Nat := (l.txAcked + 1).toNat

/-- A link-down condition of an ACTIVE or draining link, stamped when it is detected (R307). Of two in one stroke the lowest-numbered
counts (Table 9.10). -/
def State.linkFault (s : State) (p reason lane seq : Nat) : State :=
  if !s.linkUp p then s
  else
    let l := s.link p
    let new : LinkFault := ⟨reason, s.now, s.stamp, s.linkInfo p lane reason, seq⟩
    match l.down with
    | .none => s.setLink p { l with down := some new }
    | some f => if f.at_ = s.now ∧ reason < f.reason then s.setLink p { l with down := some new } else s

/-- NARROW: a width below the agreed MIN_LANES (Table 9.8). -/
def State.checkNarrow (s : State) (p : Nat) : State :=
  let l := s.laneSt p
  if min (s.sendWidth p) (widthOf l.rxMap) < (s.link p).minLanes then s.linkFault p 4 noLane (s.link p).oldest else s

/-! ## Control words (R279, R280) -/

/-- A control word (R279). -/
def ctrlWord (op tag arg : Nat) : DWord := BitVec.ofNat 64 (op % 256 * 2 ^ 56 + tag % 16 * 2 ^ 52 + arg % 2 ^ 48)

/-- No event hangs on the operation. -/
def noCause (why : LaneWhy) : LaneCause := ⟨why, Stamp.none, 0, 0, false⟩

/-- No TAG: 16 operations are outstanding (R280). -/
def noTag : Nat := 16

/-- The TAG of a port's next answered operation: the next one in turn that no operation outstanding has, if there is one (R280). -/
def Link.freeTag (l : Link) : Nat :=
  (((List.range 16).map fun i => (l.nextTag + i) % 16).find? fun t => l.ops.all fun o => o.tag != t).getD noTag

/-- The TAG counter after a TAG was given. -/
def Link.tagGiven (l : Link) (t : Nat) : Nat := if t < noTag then (t + 1) % 16 else l.nextTag

/-- An answered operation put in line for the next CTRL shell, with a TAG of its own, or, behind 16 others, until one of them is answered (R280). -/
def State.queueOp (s : State) (p op arg : Nat) (cause : LaneCause) : State :=
  let l := s.link p
  s.setLink p { l with
    ops := l.ops ++ [⟨op, l.freeTag, BitVec.ofNat 48 arg, s.absCycle, 0, false, cause⟩]
    nextTag := l.tagGiven l.freeTag }

/-- The first operation that waits for a TAG gets one that has become free (R280). -/
def Link.tagNext (l : Link) : Link :=
  match l.ops.find? fun o => o.tag == noTag with
  | .none => l
  | some o =>
    let t := l.freeTag
    { l with ops := setAt l.ops (l.ops.findIdx fun x => x.tag == noTag) { o with tag := t }, nextTag := l.tagGiven t }

/-- Words that need no answer, put in line for the next CTRL shell. -/
def State.queueWords (s : State) (p : Nat) (ws : List DWord) : State :=
  let l := s.link p
  s.setLink p { l with words := l.words ++ ws }

/-- Whether a port receives a fan, and returns its acknowledgement and credits (R310). -/
def State.returnsFan (s : State) (n : Nat) : Bool := decide (n < 16) && s.rd (Reg.LNK.STAT_FAN_ROLE n) == 3

/-- The stream a port receives DATA shells of now: the fan's, where it receives one. -/
def State.rxStream (s : State) (p : Nat) : Nat := if s.returnsFan p then fanRx p else p

/-- A RESPONSE put in line (Table 9.3): the operation answered, its TAG, the next expected SEQ, and REFUSED. -/
def State.respond (s : State) (p op tag : Nat) (refused : Bool) : State :=
  let e := (s.link (s.rxStream p)).rxNext.toNat
  s.queueWords p [ctrlWord 0x18 0 (op + tag * 2 ^ 8 + e * 2 ^ 16 + ofBool refused * 2 ^ 40)]

/-- The receive seats of a port in HOT_SPARE, the argument of RX_SEATS (Table 9.3). -/
def State.rxSpares (s : State) (p : Nat) : Nat :=
  maskOf ((List.range 18).filter fun k => (s.seat (seatKey p .rx k)).state == .hotSpare)

/-- Whether an outstanding operation goes into the next CTRL shell: it has a TAG and has not been sent, or that shell is the eighth or a later one
after its previous copy (R280). -/
def opDue (o : CtrlOp) : Bool := o.tag != noTag && (!o.sent || decide (7 ≤ o.shells))

/-- A LANE_DROP or a LANE_ADD, which changes the width (R296). -/
def widthOp (o : CtrlOp) : Bool := o.op == 0x10 || o.op == 0x11

/-- Whether a port owes a CTRL shell for a change of its receive-seat states: from cycle 960 of the stroke of the change (R280). -/
def State.newsDue (s : State) (p : Nat) : Bool :=
  match (s.link p).newsAt with
  | .none => false
  | some t => decide (960 ≤ s.clk.cycle) || decide (t < s.now)

/-- A change of a seat's state noted on its port, if the seat is a receive seat (R280). -/
def State.noteSeat (s : State) (k : Nat) : State :=
  let p := k / 36
  if sideOfSeat k == .rx then s.setLink p { s.link p with newsAt := some ((s.link p).newsAt.getD s.now) } else s

/-- Control words of a shell (R278). -/
def shellWords : Nat := 22

/-- A stream's shell sent and counted: the class of R277, the shells since the last copy of its port's operations (R280), and the slot with the lines
that carry it (R271, R275). -/
def State.shellSent (s : State) (n : Nat) (hdr : TxHdr) (body : TxBody) : State :=
  let p := s.streamPort n
  let out : LineSlot := ⟨(s.link p).slots, s.flag (Reg.LNK.STAT_FEC p), if hdr.kind = 3 then s.litLines p else s.outLines p⟩
  let s := s.setLink n { s.link n with shells := (s.link n).shells + 1, sent := some (hdr, body), onLines := out }
  s.setLink p { s.link p with
    slots := (s.link p).slots + 1, ops := (s.link p).ops.map fun (o : CtrlOp) => { o with shells := o.shells + 1 } }

/-- The header of a shell that a stream sends now (R276, R277, R310, R385): a fan shell's ACK and credits are 0, and a fan receiver's
refer to the fan. -/
def State.shellHdr (s : State) (n kind : Nat) (seq : BitVec 24) (replay : Bool) (heads : List Nat) : TxHdr :=
  let l := s.link n
  let fanShell := decide (16 ≤ n)
  let r := if s.returnsFan n then s.link (fanRx n) else l
  let c := l.shells % 4
  { kind := kind, width := s.outWidth (s.streamPort n) - 1, replay := replay, fan := fanShell || s.returnsFan n,
    ack := if fanShell then 0 else r.ackSent, seq := seq, crTc := c, crHdr := if fanShell then 0 else r.freedHdr.getD c 0,
    crData := if fanShell then 0 else r.freedData.getD c 0, msgCount := heads.length, first := heads.headD 0xFFF }

/-- A CTRL (2) or TRAIN (3) shell of a stream: RX_SEATS, the port's waiting words, and its operations due, as far as 22 words go (R278,
R280). Repeats set CTRL_RETRY (Table 9.9). -/
def State.sendWords (s : State) (n kind : Nat) : State :=
  let p := s.streamPort n
  let l := s.link p
  let ws := l.words.take (shellWords - 1)
  let room := shellWords - 1 - ws.length
  let due := ((l.ops.take 16).filter opDue).take room
  let goes := fun (o : CtrlOp) => due.any fun d => d.tag == o.tag && d.op == o.op
  let repeats := due.any (·.sent)
  let words := ctrlWord 0x14 0 (s.rxSpares p) :: (ws ++ due.map fun o => ctrlWord o.op o.tag o.arg.toNat)
  let hdr := s.shellHdr n kind (s.link n).txNext false []
  let s1 := s.shellSent n hdr (.words words)
  let l1 := s1.link p
  let mark := fun (o : CtrlOp) =>
    if goes o then { o with sent := true, shells := 0, first := if o.sent then o.first else s.absCycle } else o
  let ops := l1.ops.map mark
  let s2 := s1.setLink p { l1 with
    ops := ops, before := if ops.any fun o => widthOp o && !o.sent then l1.before else .none, words := l1.words.drop (shellWords - 1), newsAt := if s.newsDue p then .none else l1.newsAt }
  if repeats then s2.raise1 ⟨Err.LNK.CTRL_RETRY p, s2.linkInfo p noLane 0, (s.link n).oldest⟩ else s2

/-- A CTRL shell of a stream. -/
def State.sendCtrl (s : State) (n : Nat) : State := s.sendWords n 2

/-- The stream whose shells a port sends (R385): none on a lent bank's fibre, a fan's on its source port, else the port's own. -/
def State.txStream (s : State) (p : Nat) : Option Nat :=
  match s.slotOfFibre p with
  | .none => some p
  | some k => if !s.fanLit k then some p else if s.rd (Reg.FLM.FAN_CFG_SOURCE k) = p then some (fanTx k) else .none

/-! ## Messages and credits (R283 to R285, R294, R295, R345) -/

/-- Stream bytes of a message with a payload of `len` bytes (R283). -/
def msgSize (len : Nat) : Nat := 8 + 8 * ((len + 7) / 8)

/-- Data credits of a payload (R295). -/
def dataUnits (len : Nat) : Nat := (len + 63) / 64

/-- A message as stream bytes (Table 9.4, R283). -/
def Msg.toBytes (m : Msg) : List Byte :=
  let len := m.data.length
  Machine.toBytes 8 (m.epoch.toNat * 2 ^ 56 + m.src.toNat * 2 ^ 44 + m.tag.toNat * 2 ^ 28 + m.kind * 2 ^ 22 + m.tc * 2 ^ 20 +
    len * 2 ^ 8 + ofBool m.poison * 2 + ofBool m.last) ++ m.data ++ List.replicate (msgSize len - 8 - len) 0

/-- A message of this node (R422). -/
def State.mkMsg (s : State) (kind tc tag : Nat) (last poison : Bool) (data : List Byte) : Msg :=
  { kind := kind, tc := tc, tag := BitVec.ofNat 16 tag, src := BitVec.ofNat 12 s.runs.selfNode,
    epoch := BitVec.ofNat 8 s.runs.selfEpoch, poison := poison, last := last, data := data }

/-- A message put in a class queue of a stream. -/
def State.pushMsg (s : State) (n : Nat) (m : Msg) : State :=
  let l := s.link n
  s.setLink n { l with queues := setAt l.queues m.tc (l.queues.getD m.tc [] ++ [m]) }

/-- Credit left: the amount advertised, plus that returned, minus that used, modulo the counter width (R295). -/
def creditLeft (w advertised back used : Nat) : Nat := (advertised + back + 2 ^ w - used % 2 ^ w) % 2 ^ w

/-- Credits a member port's receiver offers a stream for a class, as headers and data units: of the port's own link, or of a fan (R310,
R384). -/
def State.creditAt (s : State) (n m c : Nat) : Nat × Nat :=
  let l := s.link n
  let adv := s.rd (Reg.LNK.CRED_PEER m c)
  let back := if n < 16 then (l.backHdr.getD c 0, l.backData.getD c 0) else
    let b := Tab.read [] (s.fan (n - 16)).backs m
    (b.getD (2 * c) 0, b.getD (2 * c + 1) 0)
  (creditLeft 16 (bits adv 31 20) back.1 (l.usedHdr.getD c 0), creditLeft 24 (bits adv 19 0) back.2 (l.usedData.getD c 0))

/-- Credits available to a stream for a class: for a fan, the least over its members (R295, R310). -/
def State.credit (s : State) (n c : Nat) : Nat × Nat :=
  if n < 16 then s.creditAt n n c
  else
    match (s.fanMembers (n - 16)).map fun m => s.creditAt n m c with
    | [] => (0, 0)
    | x :: rest => rest.foldl (fun a b => (min a.1 b.1, min a.2 b.2)) x

/-- The next message of a class that is ready and has credits. -/
def State.readyMsg (s : State) (n c : Nat) : Option Msg :=
  match (s.link n).queues.getD c [] with
  | [] => .none
  | m :: _ =>
    let a := s.credit n c
    if 1 ≤ a.1 ∧ dataUnits m.data.length ≤ a.2 then some m else .none

/-- A class's quantum for a visit, in bytes (R345). -/
def State.quantumOf (s : State) (c : Nat) : Nat :=
  256 * (match c with
    | 1 => s.rd Reg.COX.TC_WEIGHT_TC1
    | 2 => s.rd Reg.COX.TC_WEIGHT_TC2
    | _ => s.rd Reg.COX.TC_WEIGHT_TC3)

/-- Deficit round-robin over TC1 to TC3 (R345): the class to serve, and the stream with its quanta moved on. -/
def State.drr (s : State) (n : Nat) : Nat → Link → Option Nat × Link
  | 0, l => (.none, l)
  | fuel + 1, l =>
    let c := l.turn
    let l := if l.visited then l else { l with quantum := setAt l.quantum c (l.quantum.getD c 0 + s.quantumOf c), visited := true }
    let next := fun (l : Link) => { l with turn := if c = 3 then 1 else c + 1, visited := false }
    match s.readyMsg n c with
    | .none => s.drr n fuel (next { l with quantum := setAt l.quantum c 0 })
    | some m =>
      let size := msgSize m.data.length
      if size ≤ l.quantum.getD c 0 then (some c, { l with quantum := setAt l.quantum c (l.quantum.getD c 0 - size) })
      else s.drr n fuel (next l)

/-- Whether a stream may start a new message: not in DRAIN (R306, R388), nor unicast of a fan's member (R382, R385). -/
def State.mayStart (s : State) (n : Nat) : Bool :=
  if n < 16 then s.linkState n == 6 && (s.slotOfFibre n).isNone else s.fanState (n - 16) == 4

/-- The class of the next message at a message boundary: TC0 first, then deficit round-robin (R285, R345). -/
def State.pickClass (s : State) (n : Nat) : Option Nat × State :=
  if !s.mayStart n then (.none, s)
  else if (s.readyMsg n 0).isSome then (some 0, s)
  else if (List.range 3).any fun i => (s.readyMsg n (i + 1)).isSome then
    let r := s.drr n 96 (s.link n)
    (r.1, s.setLink n r.2)
  else (.none, s.setLink n { s.link n with quantum := [0, 0, 0, 0] })

/-- The next message of a class moved into the byte stream, its credits used (R283, R295). -/
def State.startMsg (s : State) (n c : Nat) : State :=
  let l := s.link n
  match l.queues.getD c [] with
  | [] => s
  | m :: rest =>
    s.setLink n { l with
      queues := setAt l.queues c rest
      heads := l.heads ++ [l.stream.length]
      stream := l.stream ++ m.toBytes
      padded := false
      usedHdr := setAt l.usedHdr c ((l.usedHdr.getD c 0 + 1) % 2 ^ 16)
      usedData := setAt l.usedData c ((l.usedData.getD c 0 + dataUnits m.data.length) % 2 ^ 24) }

/-- Messages moved into the stream until it fills a body, or none is ready. -/
def State.fillStream (s : State) (n body : Nat) : Nat → State
  | 0 => s
  | fuel + 1 =>
    if body ≤ (s.link n).stream.length then s
    else
      match s.pickClass n with
      | (.none, t) => t
      | (some c, t) => (t.startMsg n c).fillStream n body fuel

/-- PAD messages that carry a stream of `have_` bytes to or past the end of a body (R284). -/
def padTo (epoch : BitVec 8) (src : BitVec 12) (body : Nat) : Nat → Nat → List Msg
  | 0, _ => []
  | fuel + 1, have_ =>
    if body ≤ have_ then []
    else
      let len := min 2048 ((body - have_ - 8 + 7) / 8 * 8)
      ⟨0, 0, 0, src, epoch, false, false, List.replicate len 0⟩ :: padTo epoch src body fuel (have_ + 8 + len)

/-- The stream padded to a body's end. -/
def State.padStream (s : State) (n body : Nat) : State :=
  let l := s.link n
  (padTo (BitVec.ofNat 8 s.runs.selfEpoch) (BitVec.ofNat 12 s.runs.selfNode) body 4 l.stream.length).foldl (fun s m =>
    let l := s.link n
    s.setLink n { l with heads := l.heads ++ [l.stream.length], stream := l.stream ++ m.toBytes, padded := true }) s

/-! ## DATA shells, replay (R287 to R291, R297) -/

/-- The body bytes of a shell of a width (R274). -/
def bodyBytes (width : Nat) : Nat := 200 * width - 20

/-- The slots, not IDLE, whose source a port is. -/
def State.fansFrom (s : State) (p : Nat) : List Nat :=
  (List.range 8).filter fun k => s.fanState k != 0 && s.rd (Reg.FLM.FAN_CFG_SOURCE k) == p

/-- RPL pages that a port's streams hold (R290, R310). -/
def State.rplUsed (s : State) (p : Nat) : Nat :=
  (s.link p).replay.length + ((s.fansFrom p).map fun k => (s.link (fanTx k)).replay.length).sum

/-- A shell cut from the front of a stream. -/
def cutShell (seq : BitVec 24) (width : Nat) (replay : Bool) (stream : List Byte) (heads : List Nat) : TxShell × List Byte × List Nat :=
  let b := bodyBytes width
  (⟨seq, width, stream.take b, heads.filter (· < b), replay⟩, stream.drop b, (heads.filter (b ≤ ·)).map (· - b))

/-- A stream whose sender stalls on replay space (R290). -/
def State.stall (s : State) (n : Nat) : State :=
  let p := s.streamPort n
  (s.setLink n { s.link n with stalled := true }).raise1 ⟨Err.LNK.RPL_STALL p, s.linkInfo p noLane 0, (s.link n).oldest⟩

/-- Whether a stream's next idle slot is a dark one (R187): as many of every 16 as the port's dark level says. -/
def State.darkSlot (s : State) (n : Nat) : Bool := decide ((s.link n).shells % 16 < (s.laneSt (s.streamPort n)).dark)

/-- A NULL shell (R274), which may be sent dark (R187, R282). -/
def State.sendNull (s : State) (n : Nat) : State :=
  s.shellSent n (s.shellHdr n 0 (s.link n).txNext false []) (.null (s.darkSlot n))

/-- A shell put on the lanes; a message in a slot that would have been dark is noted (R188). -/
def State.sendShell (s : State) (n : Nat) (x : TxShell) : State :=
  let p := s.streamPort n
  let t := s.shellSent n (s.shellHdr n 1 x.seq x.replay x.heads) (.data x.body)
  if s.darkSlot n then t.setLaneSt p { t.laneSt p with filled := true } else t

/-- Whether a message of a stream is ready, has credits and may start. -/
def State.msgReady (s : State) (n : Nat) : Bool := s.mayStart n && (List.range 4).any fun c => (s.readyMsg n c).isSome

/-- Whether a stream has something to send in a new DATA shell: a message in progress or a ready one, and not only the end of a PAD (R284). -/
def State.hasWork (s : State) (n : Nat) : Bool := (!(s.link n).stream.isEmpty && !(s.link n).padded) || s.msgReady n

/-- A new DATA shell cut from a stream that fills a body, its page taken. -/
def State.cutNew (s : State) (n w : Nat) : State :=
  let l := s.link n
  let c := cutShell l.txNext w false l.stream l.heads
  (s.setLink n { l with
    replay := l.replay ++ [c.1]
    txNext := l.txNext + 1
    stream := c.2.1
    heads := c.2.2
    timer := if l.replay.isEmpty then s.absCycle else l.timer }).sendShell n c.1

/-- A new DATA shell, or NULL where there is nothing to send, or no quota or page to hold it (R284, R285, R290, R346): what is ready then joins the
stream, and what is short of a body is padded. -/
def State.sendNew (s : State) (n : Nat) : State :=
  let p := s.streamPort n
  let w := s.sendWidth p
  let body := bodyBytes w
  if !s.hasWork n || w = 0 then (s.pickClass n).2.sendNull n
  else if s.rd (Reg.LNK.RPL_QUOTA p) ≤ s.rplUsed p then (s.stall n).sendNull n
  else if s.grantable .rpl 1 = 0 then ((s.allocate .rpl 1).2.stall n).sendNull n
  else
    let t := s.fillStream n body 1024
    if (t.link n).stream.isEmpty then t.sendNull n else ((t.allocate .rpl 1).2.padStream n body).cutNew n w

/-- The next shell of a stream that has nothing to say in control words: a replayed one, or a new one (R291). Shells of another width wait while a
width change is unanswered, and lie below its answer's SEQ, so that the peer has them, once it is (R296, R297; log entry 195). -/
def State.sendData (s : State) (n : Nat) : State :=
  let l := s.link n
  let p := s.streamPort n
  let w := s.sendWidth p
  let back := l.replay.drop (l.replay.length - l.resend)
  if back.any (fun x => x.width != w) && (s.link p).ops.any widthOp then s.sendNull n
  else
    match back.dropWhile fun x => x.width != w with
    | [] => (s.setLink n { l with resend := 0 }).sendNew n
    | x :: rest => (s.setLink n { l with resend := rest.length }).sendShell n x

/-- How far a SEQ lies behind another, modulo 2^24. -/
def seqBehind (a b : BitVec 24) : Nat := (a - b).toNat

/-- Shells up to an ACK leave a stream's replay, and their pages return (R290, R291). -/
def State.retire (s : State) (n : Nat) (ack : BitVec 24) : State :=
  let l := s.link n
  let k := seqBehind ack l.txAcked
  if 0 < k ∧ k ≤ l.replay.length then
    (s.setLink n { l with
      replay := l.replay.drop k, txAcked := ack, resend := min l.resend (l.replay.length - k), timer := s.absCycle,
      expiries := 0 }).returnPages .rpl k
  else s

/-- A member's ACK for a fan instance (R310): shells that every member has acknowledged are retired. -/
def State.fanAck (s : State) (k m : Nat) (ack : BitVec 24) : State :=
  let x := s.fan k
  let l := s.link (fanTx k)
  let old := Tab.read 0xFFFFFF x.acks m
  let d := seqBehind ack old
  if 0 < d ∧ d ≤ seqBehind (l.txNext - 1) old then
    let s := s.setFan k { x with acks := Tab.write 0xFFFFFF x.acks m ack, expiries := Tab.write 0 x.expiries m 0 }
    let lag := (s.fanMembers k).foldl (fun a j => max a (seqBehind (l.txNext - 1) (Tab.read 0xFFFFFF (s.fan k).acks j))) 0
    s.retire (fanTx k) (l.txNext - 1 - BitVec.ofNat 24 lag)
  else s

/-- Every unacknowledged shell is to be sent again, oldest first, with REPLAY = 1 (R291). -/
def Link.replayAll (l : Link) : Link :=
  { l with replay := l.replay.map fun x => { x with replay := true }, resend := l.replay.length }

/-- Content cut into shells of a width, numbered from a SEQ, with REPLAY = 1. -/
def cutAll : Nat → BitVec 24 → Nat → List Byte → List Nat → List TxShell
  | 0, _, _, _, _ => []
  | fuel + 1, seq, width, bs, heads =>
    if bs.isEmpty then []
    else
      let c := cutShell seq width true bs heads
      c.1 :: cutAll fuel (seq + 1) width c.2.1 c.2.2

/-- The heads of consecutive shell bodies, as offsets in their concatenation. -/
def joinHeads : Nat → List TxShell → List Nat
  | _, [] => []
  | at_, x :: rest => x.heads.map (at_ + ·) ++ joinHeads (at_ + x.body.length) rest

/-- A stream's content cut into so many shells of a width from a SEQ on, in place of the replayed shells from the `k`-th on (R297). -/
def Link.recut (l : Link) (k count w : Nat) (e : BitVec 24) : Link :=
  let n := count * bodyBytes w
  let new := cutAll count e w (l.stream.take n) (l.heads.filter (· < n))
  { l with
    replay := l.replay.take k ++ new
    resend := new.length
    txNext := e + BitVec.ofNat 24 new.length
    stream := l.stream.drop n
    heads := (l.heads.filter (n ≤ ·)).map (· - n) }

/-- The pages of a pool changed from `old` to `new`. -/
def State.movePages (s : State) (k : Pool) (old new : Nat) : State :=
  if new ≤ old then s.returnPages k (old - new) else (s.allocate k (new - old)).2

/-- The stream content of shells E onward re-formed at the current width, when E lies below the next SEQ (R297). The last shell takes messages that
are ready before it is padded; shells beyond the quota or the pool stay in the stream (R284, R290; log entry 194). -/
def State.reform (s : State) (n : Nat) (e : BitVec 24) : State :=
  let l := s.link n
  let k := seqBehind e (l.txAcked + 1)
  let p := s.streamPort n
  let w := s.sendWidth p
  if l.replay.length ≤ k ∨ w = 0 then s
  else
    let old := l.replay.drop k
    let bytes := old.flatMap (·.body)
    let count := (bytes.length + bodyBytes w - 1) / bodyBytes w
    let room := min (s.rd (Reg.LNK.RPL_QUOTA p) - s.rplUsed p) (s.grantable .rpl count)
    let most := min count (old.length + room)
    let joined := s.setLink n { l with stream := bytes ++ l.stream, heads := joinHeads 0 old ++ l.heads.map (bytes.length + ·) }
    let full := if most = count then (joined.fillStream n (count * bodyBytes w) 1024).padStream n (count * bodyBytes w) else joined
    let l1 := (full.link n).recut k most w e
    let done := full.setLink n { l1 with padded := l1.padded && most = count, timer := s.absCycle }
    (done.movePages .rpl old.length most).bump (Reg.LNK.REPLAY_CNT p)

/-! ## Pauses (R301, R302) -/

/-- A port's replay and operation timers stop (R301, R302). -/
def State.freeze (s : State) (p : Nat) : State :=
  let l := s.link p
  if l.frozenAt.isSome then s else s.setLink p { l with frozenAt := some s.absCycle }

/-- A port's timers run on when neither end pauses, less the part of the pause that each of them met. -/
def State.thaw (s : State) (p : Nat) : State :=
  let l := s.link p
  match l.frozenAt with
  | .none => s
  | some t =>
    if s.paused p then s
    else
      let later := fun (x : Nat) => x + (s.absCycle - max t x)
      let s := s.setLink p { l with
        frozenAt := .none, timer := later l.timer, ops := l.ops.map fun o => { o with first := later o.first } }
      (s.fansFrom p).foldl (fun s k => s.setLink (fanTx k) { s.link (fanTx k) with timer := later (s.link (fanTx k)).timer }) s

/-- A pause for one of the own causes begins (R301): PAUSE in 4 consecutive CTRL shells, then no modulation; the timers stop. -/
def State.startPause (s : State) (p bit reason : Nat) : State :=
  let already := s.ownPaused p
  let s := s.wrBit (Reg.LNK.STAT_PAUSE p) bit true
  if already then s else (s.setLink p { s.link p with pauseLeft := 4, pauseWhy := reason }).freeze p

/-- The end of an own cause: RESUME when no own cause is left (R301). -/
def State.endPause (s : State) (p bit : Nat) : State :=
  if !bitAt (s.rd (Reg.LNK.STAT_PAUSE p)) bit then s
  else
    let s := s.wrBit (Reg.LNK.STAT_PAUSE p) bit false
    if s.ownPaused p then s
    else
      let s := s.setLink p { s.link p with pauseLeft := 0 }
      (if s.linkUp p then s.queueWords p [ctrlWord 0x21 0 0] else s).thaw p

/-- The peer's pause ends (R302). -/
def State.peerResumes (s : State) (p : Nat) : State :=
  ((s.setLink p { s.link p with peerPausedAt := .none }).wrBit (Reg.LNK.STAT_PAUSE p) 2 false).thaw p

end Sys2Proof.Machine
end

