-- ==== Sys2Proof/Machine/SeatOps.lean ====
section
/-! DEFINITION. Seats and lanes: state changes at cycle 0, free spares, and the moves a lane makes (R186, R189 to R204, R495). -/

namespace Sys2Proof.Machine

/-- The states in which a seat runs its loop (R179). -/
def SeatState.runs : SeatState → Bool
  | .search | .locked | .lost | .hotSpare => true
  | .idle | .outOfService | .failed => false

/-- The code of a seat state (Table 6.1). -/
def SeatState.code : SeatState → Nat
  | .idle => 0
  | .search => 1
  | .locked => 2
  | .lost => 3
  | .outOfService => 4
  | .hotSpare => 5
  | .failed => 6

/-- The state with a seat's next state decided; it takes effect at cycle 0 (R189). -/
def State.pend (s : State) (k : Nat) (st : SeatState) : State := s.setSeat k { s.seat k with next := some st }

/-- The lane a seat carries. -/
def State.laneOfSeat (s : State) (k : Nat) : Option Nat :=
  laneOn ((s.laneSt (s.linkOfSeat k)).map (sideOfSeat k)) (lineOfSeat k)

/-- A seat's lane as its records show it: 0x1F none. -/
def laneCode (l : Option Nat) : Nat := l.getD noSeat

/-- ERR_INFO0 of a seat event (Table 6.5). -/
def State.seatInfo (s : State) (k reason : Nat) : Nat :=
  laneCode (s.laneOfSeat k) * 2 ^ 16 + reason * 2 ^ 12 + (s.seat k).state.code * 2 ^ 8 + sideNo (sideOfSeat k) * 2 ^ 5 + lineOfSeat k

/-- ERR_INFO1 of a seat event: the error sample as 12 bits. -/
def State.seatInfo1 (s : State) (k : Nat) : Nat := bitsOfInt 12 (s.seat k).error

/-- The monitor channel of a seat (Table 5.5). -/
def chanOfSeat (side : Side) (k : Nat) : Nat :=
  match side with
  | .tx => if k < 16 then k else 16 + k
  | .rx => if k < 16 then 16 + k else 18 + k

/-- The key of a seat's monitor channel. -/
def seatChanKey (k : Nat) : Nat := chanKey (portOfSeat k) (chanOfSeat (sideOfSeat k) (lineOfSeat k))

/-! ## State changes at cycle 0 -/

/-- Whether a seat's channel is isolated (R168): from the cycle 0 that makes the seat's withdrawal take effect until it enters SEARCH. -/
def State.seatIsolated (s : State) (k : Nat) : Bool :=
  let u := s.seat k
  u.withdrawn && u.next != some .outOfService

/-- A seat as it enters SEARCH on a member, which goes live at the next cycle 960 (R33, R191): from the calibrated bias, or by a sweep on any
other member (R190). -/
def State.startMember (s : State) (k m : Nat) (tried : Nat) : State :=
  let u := s.seat k
  let sweep := m != (s.liveCal k).member
  s.setSeat k { u with
    nextMember := some m, tried := tried, count := 0, swept := sweep, sweeping := sweep, sweepError := .none, lockRun := 0, lolRun := 0,
    target := if sweep then 0 else (s.liveEntry k).hbias }

/-- A seat that takes its next state at cycle 0 (R189): leaving IDLE loads the choices and the bias (R218), FAILED starts again from
the calibrated member with its choices as they are (R219), and SEARCH otherwise tries the current member first (R191). -/
def State.applyNext (s : State) (k : Nat) : State :=
  let u := s.seat k
  match u.next with
  | .none => s
  | some st =>
    let s := (s.setSeat k { u with state := st, next := .none, since := s.now }).noteSeat k
    match st with
    | .search =>
      let fresh := u.state == .idle || u.state == .failed
      let s := if u.state = .idle then s.loadChoices k else s
      let m := if fresh then (s.liveCal k).member else u.member
      let s := s.setSeat k { s.seat k with withdrawn := false, firstMember := m }
      s.startMember k m 0
    | .locked | .hotSpare =>
      let on := u.state == .locked || u.state == .hotSpare
      s.setSeat k { s.seat k with lolRun := if on then u.lolRun else 0, lockRun := 0, zeroSwing := false }
    | .idle | .failed => s.setSeat k { s.seat k with driver := false, driverDue := false, lolRun := 0, lockRun := 0, zeroSwing := false }
    | .lost => s.setSeat k { s.seat k with lockRun := 0 }
    | .outOfService => s.setSeat k { s.seat k with lockRun := 0, zeroSwing := true }

/-- What a transmit seat's modulator does when its slot carries no message (R158, R186): nothing without its driver; bias with zero swing out of
service, until the seat is back, during a relock of its port's synthesiser, and while its bank is lent to a fan (R385); lit-idle swing otherwise. -/
inductive Swing where
  | stopped | bias | lit
  deriving DecidableEq, Repr

/-- The swing of a transmit seat now. -/
def State.swing (s : State) (k : Nat) : Swing :=
  let u := s.seat k
  if !u.driver then .stopped
  else if u.zeroSwing || s.quenchedSeat k || s.rd (Reg.OPT.STAT_SYN (portOfSeat k)) == 1 then .bias
  else .lit

/-- A LOCKED seat whose lane has moved away is a hot spare, a hot spare that a lane has come to is LOCKED, and a LOST seat without a
lane relocks (Table 6.1). -/
def State.followLane (s : State) (k : Nat) : State :=
  let u := s.seat k
  if u.next.isSome then s
  else
    match u.state, s.laneOfSeat k with
    | .locked, .none => s.pend k .hotSpare
    | .hotSpare, some _ => s.pend k .locked
    | .lost, .none => if u.since < s.now then s.pend k .search else s
    | _, _ => s

/-- The seat-service map at cycle 0 (R34, R189, R495). -/
def State.seatBoundary (s : State) : State :=
  let s := s.lanes.foldl (fun s (kv : Nat × Lanes) =>
    match kv.2.nextMap with
    | .none => s
    | some m => s.setLaneSt kv.1 { kv.2 with txMap := m, nextMap := .none }) s
  let keys := s.seats.map (·.1)
  let s := keys.foldl (fun s k => s.followLane k) s
  keys.foldl (fun s k => s.applyNext k) s

/-! ## Spares -/

/-- A transmit seat that counts as HOT_SPARE: its driver runs (R193). -/
def State.spareSeat (s : State) (p k : Nat) : Bool :=
  let u := s.seat (s.txSeat p k)
  u.state == .hotSpare && u.driver && u.next.isNone

/-- The lines that an unanswered LANE_ADD or LANE_SWAP names, or onto which a swap is ending. -/
def State.linesAsked (s : State) (p : Nat) : List Nat :=
  ((s.link p).ops.filter fun o => o.op == 0x11 || o.op == 0x12).map (fun o => bits o.arg.toNat 12 8) ++ (s.laneSt p).swaps.map (·.line)

/-- The ports whose peers must have a line free for a lane of a port: the port, or every member of a fan it is the source of (R386). -/
def State.peersOf (s : State) (p : Nat) : List Nat :=
  match s.txStream p with
  | .none => [p]
  | some n => if n < 16 then [p] else s.fanMembers (n - 16)

/-- The free spares for transmit, ascending (R193, R194); with the link down, the transmit seat alone decides (R495). -/
def State.freeSpares (s : State) (p : Nat) : List Nat :=
  let l := s.laneSt p
  let m := l.nextMap.getD l.txMap
  (List.range 18).filter fun k =>
    s.spareSeat p k && (laneOn m k).isNone && !(s.linesAsked p).contains k &&
      (!s.linkUp p || (s.peersOf p).all fun q => (s.laneSt q).peerSpare.getLsbD k)

/-- The free spares that no missing lane has been promised (R194, R195). -/
def State.openSpares (s : State) (p : Nat) : List Nat :=
  (s.freeSpares p).filter fun k => !(s.laneSt p).missing.any fun m => m.chosen == some k

/-- Whether another receive seat of the port is in HOT_SPARE (R495). -/
def State.rxSpareLeft (s : State) (p k : Nat) : Bool :=
  (List.range 18).any fun j => j != k && (s.seat (seatKey p .rx j)).state == .hotSpare

/-! ## Outcomes -/

/-- The events an outcome decides (R192, R196, R200): with the width kept, or narrower. -/
def outcomeEvents (p : Nat) (c : LaneCause) (spared : Bool) : List Event :=
  let wd (info : Nat) : Event := ⟨if spared then Err.OPT.WITHDRAW_SPARED p else Err.OPT.WITHDRAW_NARROW p, info, 0⟩
  let chan := chanOfSeat (if bitAt c.info0 5 then .rx else .tx) (c.info0 % 32)
  match c.why with
  | .lossOfLock =>
    ⟨if spared then Err.RWL.LOL_SPARED p else Err.RWL.LOL_NARROW p, c.info0, c.info1⟩ :: (if c.withdraw then [wd chan] else [])
  | .failed => [⟨if spared then Err.RWL.FAIL_SPARED p else Err.RWL.FAIL_NARROW p, c.info0, c.info1⟩]
  | .withdrawn => [wd chan]
  | .visit | .peer | .restore => []

/-- The events of an outcome, with the stamp of the event that began it. -/
def State.outcome (s : State) (p : Nat) (c : LaneCause) (spared : Bool) : State :=
  let page := if bitAt c.info0 5 then p else s.bankOf p
  (sortEvents (outcomeEvents page c spared)).foldl (fun s e => s.raiseAt c.stamp e) s

/-! ## Moves of a transmit lane -/

/-- The state with a lane of a port assigned to a seat, or to none (0x1F), in the map of a direction. -/
def State.assign (s : State) (p : Nat) (side : Side) (lane seat : Nat) : State :=
  let l := s.laneSt p
  match side with
  | .tx => s.setLaneSt p { l with txMap := setAt l.txMap lane seat }
  | .rx => s.setLaneSt p { l with rxMap := setAt l.rxMap lane seat }

/-- The state with a lane assigned in the map that goes live at the next cycle 0 (R495). -/
def State.assignNext (s : State) (p lane seat : Nat) : State :=
  let l := s.laneSt p
  s.setLaneSt p { l with nextMap := some (setAt (l.nextMap.getD l.txMap) lane seat) }

/-- A lane added to those that await LANE_ADD. -/
def State.addMissing (s : State) (p : Nat) (m : Missing) : State :=
  let l := s.laneSt p
  s.setLaneSt p { l with missing := l.missing.filter (·.lane != m.lane) ++ [m] }

/-- The visit of a seat, if one is under way. -/
def State.visitOf (s : State) (k : Nat) : Option Visit := s.cal.visits.find? fun v => idKey v.seat == k

/-- A visit whose lane is dropped for want of a spare (R198) is marked, for the class of a withdrawal during it (R167). -/
def State.markNarrow (s : State) (k : Nat) : State :=
  { s with cal := { s.cal with visits := s.cal.visits.map fun v => if idKey v.seat = k then { v with narrow := true } else v } }

/-- A width change begins: the CTRL shell with its word still goes out on the lines of now (R296). -/
def State.keepLines (s : State) (p : Nat) : State :=
  s.setLink p { s.link p with before := some (s.outLines p) }

/-- LANE_DROP of a lane (R296): the port is narrower after the CTRL shell with its word, and the lane awaits LANE_ADD (R195); a swap of the lane
ends. A width below MIN_LANES is a link-down condition (Table 9.8). -/
def State.dropLane (s : State) (p lane : Nat) (c : LaneCause) (judged : Bool) : State :=
  let seat := (s.laneSt p).txMap.getD lane noSeat
  let s := if c.why = .visit ∧ seat < 18 then s.markNarrow (s.txSeat p seat) else s
  let s := ((s.keepLines p).assign p .tx lane noSeat).bump (Reg.RWL.MOVE_CNT_DROPS p)
  let s := s.setLaneSt p { s.laneSt p with swaps := (s.laneSt p).swaps.filter (·.lane != lane) }
  let s := s.addMissing p ⟨lane, s.now, false, .none, false, judged, false, c⟩
  (s.queueOp p 0x10 lane c).checkNarrow p

/-- LANE_SWAP of a lane onto a line (R298): both of its lines carry it until the peer has answered. -/
def State.swapLane (s : State) (p lane line : Nat) (c : LaneCause) : State :=
  let l := s.laneSt p
  let s := s.setLaneSt p { l with swaps := l.swaps.filter (·.lane != lane) ++ [⟨lane, line, .none⟩] }
  (s.bump (Reg.RWL.MOVE_CNT_MOVES p)).queueOp p 0x12 (line * 256 + lane) c

/-- At a shell boundary, the swaps that the peer has answered end (R298, R300): the old line stops where the peer moved, the new one where it
refused. -/
def State.swapsEnd (s : State) (p : Nat) : State :=
  let l := s.laneSt p
  let s := s.setLaneSt p { l with swaps := l.swaps.filter (·.ended.isNone) }
  (l.swaps.filter (·.ended == some true)).foldl (fun s w => s.assign p .tx w.lane w.line) s

/-- LANE_ADD of a lane onto a line (R296). -/
def State.addLane (s : State) (p lane line : Nat) (c : LaneCause) : State :=
  let l := s.laneSt p
  let s := (s.keepLines p).setLaneSt p { l with missing := l.missing.map fun m =>
    if m.lane = lane then { m with adding := true, chosen := .none, retry := false } else m }
  (s.bump (Reg.RWL.MOVE_CNT_MOVES p)).queueOp p 0x11 (line * 256 + lane) c

/-- Whether a cause's class waits for LANE_ADD (R192, R196): a lane lost to its seat's own failure. -/
def waitsForAdd (why : LaneWhy) : Bool :=
  match why with
  | .lossOfLock | .failed => true
  | .visit | .withdrawn | .peer | .restore => false

/-- One due operation of a transmit lane at a Finish with the link up (R194, R196, R198, R199, R299, R300). -/
def State.issueUp (s : State) (p : Nat) (o : LaneOp) : State :=
  let l := s.laneSt p
  let carried := l.txMap.getD o.lane noSeat < 18
  match o.act with
  | .drop =>
    if carried then
      let s := s.dropLane p o.lane o.cause (!waitsForAdd o.cause.why)
      if o.cause.why = .withdrawn then s.outcome p o.cause false else s
    else s
  | .move =>
    if carried then
      match s.openSpares p with
      | line :: _ => s.swapLane p o.lane line o.cause
      | [] =>
        let s := s.dropLane p o.lane o.cause true
        s.outcome p o.cause false
    else s
  | .home =>
    if carried && (s.openSpares p).contains o.lane then s.swapLane p o.lane o.lane o.cause else s
  | .dropReq => s.queueOp p 0x13 o.lane o.cause
  | .swapReq => s.queueOp p 0x15 o.lane o.cause

/-- One due operation with the link neither ACTIVE nor DRAIN (R495): the map is rewritten, and the class is decided at once. -/
def State.issueDown (s : State) (p : Nat) (o : LaneOp) : State :=
  let l := s.laneSt p
  let m := l.nextMap.getD l.txMap
  match o.act with
  | .drop | .move =>
    if m.getD o.lane noSeat < 18 then
      match s.freeSpares p with
      | line :: _ => (s.assignNext p o.lane line).outcome p o.cause true
      | [] =>
        let seat := m.getD o.lane noSeat
        let s := if o.cause.why = .visit then s.markNarrow (s.txSeat p seat) else s
        let s := s.assignNext p o.lane noSeat
        let s := s.addMissing p ⟨o.lane, s.now, true, .none, false, true, false, o.cause⟩
        s.outcome p o.cause false
    else s
  | .home => if (s.freeSpares p).contains o.lane then s.assignNext p o.lane o.lane else s
  | .dropReq | .swapReq =>
    let seat := l.rxMap.getD o.lane noSeat
    if seat < 18 then (s.assign p .rx o.lane noSeat).outcome p o.cause (s.rxSpareLeft p seat) else s

/-- LANE_ADD of the lanes whose line was chosen at the Finish before (R195, R200): on that line, or, where it is no free spare any more or the peer has
refused it, on the next free one, with ADD_RETRY (R300, Table 6.3). -/
def State.issueAdd (s : State) (p : Nat) (m : Missing) : State :=
  match m.chosen with
  | .none => s
  | some line =>
    let free := s.freeSpares p
    if free.contains line && !m.retry then s.addLane p m.lane line m.cause
    else
      let s := s.raise1 ⟨Err.RWL.ADD_RETRY p, m.lane * 2 ^ 16 + 3 * 2 ^ 12 + (s.seat (s.txSeat p line)).state.code * 2 ^ 8 + line, 0⟩
      match free with
      | next :: _ => s.addLane p m.lane next m.cause
      | [] =>
        let l := s.laneSt p
        s.setLaneSt p { l with missing := l.missing.map fun x =>
          if x.lane = m.lane then { x with chosen := .none, retry := false } else x }

/-- The lowest missing lane that the peer has answered and that has no line yet (R195). -/
def State.nextMissing (s : State) (p : Nat) : Option Missing :=
  let l := s.laneSt p
  ((List.range 16).filterMap fun k => l.missing.find? fun m => m.lane == k && m.acked && m.chosen.isNone && !m.adding).head?

/-- A spare chosen at this Finish for a missing lane (R194, R195). With the link down the lane is assigned at once (R495). -/
def State.chooseSpare (s : State) (p : Nat) (m : Missing) : State :=
  let l := s.laneSt p
  match s.openSpares p with
  | line :: _ =>
    if s.linkUp p then
      s.setLaneSt p { l with missing := l.missing.map fun x => if x.lane = m.lane then { x with chosen := some line } else x }
    else
      let s := (s.setLaneSt p { l with missing := l.missing.filter (·.lane != m.lane) }).assignNext p m.lane line
      if m.judged then s else s.outcome p m.cause true
  | [] => s

/-- What needs the line of a free spare at a Finish, in ascending order of lane (R194): the due operations of each lane, and the choice for the lowest missing
one. -/
def State.serveLanes (s : State) (p : Nat) (issue : State → LaneOp → State) (due : List LaneOp) : State :=
  let next := s.nextMissing p
  (List.range 16).foldl (fun s k =>
    let s := (due.filter (·.lane == k)).foldl issue s
    match next with
    | some m => if m.lane = k then s.chooseSpare p m else s
    | .none => s) s

/-- The lane that RESTORE or AUTO_RESTORE takes home at this Finish (R199): the lowest whose home line is free and which is elsewhere. -/
def State.restoreLane (s : State) (p : Nat) : Option Nat :=
  let l := s.laneSt p
  let asked := (s.link p).ops.filterMap fun o => if o.op == 0x12 then some (bits o.arg.toNat 4 0) else .none
  let wanted := fun k => l.restore.contains k || s.flag (Reg.RWL.CTRL_AUTO_RESTORE p)
  (List.range 16).find? fun k =>
    wanted k && l.txMap.getD k noSeat != k && decide (l.txMap.getD k noSeat < 18) && (s.openSpares p).contains k && !asked.contains k

/-- The lanes of RESTORE that are still on their way home: their home seat is in HOT_SPARE (R199). -/
def State.pruneRestore (s : State) (p : Nat) : State :=
  let l := s.laneSt p
  let keep := l.restore.filter fun k => l.txMap.getD k noSeat != k && (s.seat (s.txSeat p k)).state == .hotSpare
  (s.setLaneSt p { l with restore := keep }).wrB (Reg.RWL.STAT_RESTORING p) (!keep.isEmpty)

/-- A receive lane recorded as waiting on the peer (R197, R496). -/
def State.awaitPeer (s : State) (p : Nat) (w : RxWait) : State :=
  let l := s.laneSt p
  s.setLaneSt p { l with rxWait := l.rxWait.filter (·.lane != w.lane) ++ [w] }

/-- An operation put in line for the next Finish. -/
def State.laneDue (s : State) (p : Nat) (o : LaneOp) : State :=
  let l := s.laneSt p
  s.setLaneSt p { l with due := l.due ++ [o] }

/-! ## Events of a seat -/

/-- The cause that an event of a seat gives its lane. -/
def State.causeOf (s : State) (k : Nat) (why : LaneWhy) (reason : Nat) : LaneCause :=
  ⟨why, s.stamp, s.seatInfo k reason, s.seatInfo1 k, false⟩

/-- A lane that must leave its seat: a transmit lane by `act`, a receive lane by a request to the peer (R196 to R198, R496). -/
def State.laneLeaves (s : State) (k : Nat) (lane : Nat) (act req : LaneAct) (c : LaneCause) : State :=
  let p := s.linkOfSeat k
  match sideOfSeat k with
  | .tx => s.laneDue p ⟨lane, act, c⟩
  | .rx =>
    let s := s.laneDue p ⟨lane, req, c⟩
    if s.linkUp p then s.awaitPeer p ⟨lane, lineOfSeat k, req == .swapReq, .none, c⟩ else s

/-- A seat goes IDLE, its heater code held and its lane kept (R203, R204); FAILED stays. An isolated channel stays so until SEARCH (R168). -/
def State.seatToIdle (s : State) (k : Nat) : State :=
  let u := s.seat k
  if u.state = .failed then s.setSeat k { u with next := .none }
  else
    let s := if u.state = .idle then s else s.noteSeat k
    s.setSeat k { u with
      state := .idle, next := .none, lolRun := 0, lockRun := 0, driver := false, driverDue := false, zeroSwing := false,
      withdrawn := s.seatIsolated k, sweeping := false, hasError := false, plus := .none, minus := .none }

/-- The keys of all seats of a headgate's four ports. -/
def headgateSeats (x : Nat) : List Nat := (List.range 144).map (144 * x + ·)

end Sys2Proof.Machine
end

