-- ==== Sys2Proof/Machine/Light.lean ====
section
/-! DEFINITION. The light path: headgates, input taps, monitors (chapter 5). -/

namespace Sys2Proof.Machine

/-! ## Headgates (R148 to R154) -/

/-- The attenuation of 30 dB, in steps of 0.125 dB. -/
def fullAtten : Nat := 240

/-- Whether a headgate may open now: bring-up has reached its step (R177), and the safe state is not in force (R152). -/
def State.mayOpen (s : State) : Bool := decide (4 ≤ s.stepNo) && !s.safe

/-- A headgate set in motion. -/
def State.moveHg (s : State) (x : Nat) (m : HgMode) : State :=
  (s.setHg x { s.hg x with mode := m }).wrB (Reg.HGT.HG_STAT_RAMPING x) (m != .still)

/-- A headgate made to follow its HG_CTRL: it opens, closes or ramps to ATTEN (R150, R151). -/
def State.followHgCtrl (s : State) (x : Nat) : State :=
  let isOpen := s.flag (Reg.HGT.HG_STAT_OPEN x)
  if s.flag (Reg.HGT.HG_CTRL_ENABLE x) && s.mayOpen then
    if isOpen && s.rd (Reg.HGT.HG_STAT_ATTEN x) == s.rd (Reg.HGT.HG_CTRL_ATTEN x) then s.moveHg x .still else s.moveHg x .opening
  else if isOpen then s.moveHg x .closing
  else s.moveHg x .still

/-- A write to HG_CTRLx (Table 5.10). -/
def State.wrHgCtrl (x data : Nat) (s : State) : State := (s.writeFields 0x012 (0x040 + 4 * x) data).followHgCtrl x

/-- The attenuation one ramp step nearer its target (R150). -/
def rampToward (step cur target : Nat) : Nat := if cur < target then min (cur + step) target else max (cur - step) target

/-- Seats of a headgate's ports that leave IDLE as it reaches its target (R189, R202, R203). -/
def State.lightSeats (s : State) (x : Nat) : State :=
  if 5 ≤ s.stepNo then
    (headgateSeats x).foldl (fun s k => if (s.seat k).state = .idle then s.pend k .search else s) s
  else s

/-- Seats of a headgate's ports as its shutter closes (R204). -/
def State.darkenSeats (s : State) (x : Nat) : State := (headgateSeats x).foldl State.seatToIdle s

/-- A ramp step at cycle 960 (R150, R151): the shutter opens at 30 dB, the attenuation moves by STEP, and after 30 dB the shutter
closes. -/
def State.rampStep (s : State) (x : Nat) : State :=
  let isOpen := s.flag (Reg.HGT.HG_STAT_OPEN x)
  let cur := s.rd (Reg.HGT.HG_STAT_ATTEN x)
  let step := s.rd Reg.HGT.RAMP
  match (s.hg x).mode with
  | .still => s
  | .opening =>
    if !isOpen then (s.wr (Reg.HGT.HG_STAT_ATTEN x) fullAtten).wr (Reg.HGT.HG_STAT_OPEN x) 1
    else
      let target := s.rd (Reg.HGT.HG_CTRL_ATTEN x)
      let next := rampToward step cur target
      let s := s.wr (Reg.HGT.HG_STAT_ATTEN x) next
      if next = target then (s.moveHg x .still).lightSeats x else s
  | .closing =>
    if cur = fullAtten then ((s.wr (Reg.HGT.HG_STAT_OPEN x) 0).moveHg x .still).darkenSeats x
    else s.wr (Reg.HGT.HG_STAT_ATTEN x) (rampToward step cur fullAtten)

/-- Every shutter closes and every attenuator goes to 30 dB in the cycle of declaration (R152). -/
def State.shutAll (s : State) : State :=
  (List.range 4).foldl (fun s x =>
    ((s.wr (Reg.HGT.HG_STAT_OPEN x) 0).wr (Reg.HGT.HG_STAT_ATTEN x) fullAtten).moveHg x .still) s

/-- Every headgate with ENABLE = 1 opens (R152, R177). -/
def State.openAll (s : State) : State := (List.range 4).foldl State.followHgCtrl s

/-- Whether every headgate with ENABLE = 1 is open at its ATTEN (Table 14.2, R398). -/
def State.headgatesLit (s : State) : Bool :=
  (List.range 4).all fun x => !s.flag (Reg.HGT.HG_CTRL_ENABLE x) ||
    (s.flag (Reg.HGT.HG_STAT_OPEN x) && s.rd (Reg.HGT.HG_STAT_ATTEN x) == s.rd (Reg.HGT.HG_CTRL_ATTEN x))

/-- HEADGATE_ENABLE (R151). -/
def execHeadgateEnable (via : Path) (x : Fin 4) (data : Word) (s : State) : Host.Outcome State Fault Refusal :=
  .next (s.access via 0x012 (0x040 + 4 * x.val) data.toNat (State.wrHgCtrl x.val))

/-- HEADGATE_DISABLE (R151). -/
def execHeadgateDisable (via : Path) (x : Fin 4) (data : Word) (s : State) : Host.Outcome State Fault Refusal :=
  .next (s.access via 0x012 (0x040 + 4 * x.val) data.toNat (State.wrHgCtrl x.val))

/-- HEADGATE_ATTEN_WRITE (R150). -/
def execHeadgateAttenWrite (via : Path) (x : Fin 4) (data : Word) (s : State) : Host.Outcome State Fault Refusal :=
  .next (s.access via 0x012 (0x040 + 4 * x.val) data.toNat (State.wrHgCtrl x.val))

/-- HEADGATE_RAMP_STEP (R150, R151): actuators change only while strokes run and outside the safe state. -/
def execHeadgateRampStep (x : Fin 4) (s : State) : Host.Outcome State Fault Refusal :=
  .next (if s.running && !s.safe then (s.atCycle 960).rampStep x.val else s)

/-- The level below which an input counts as lost, +10.00 dBm (R153). -/
def inputLostLevel : Int := 1000
/-- The leakage above which a closed shutter counts as failed, −20.00 dBm (R154). -/
def leakLevel : Int := -2000

/-- A run that counts up to 4, and stays at 5 once its event has been detected (R153). -/
def runUp (n : Nat) : Nat := if n < 4 then n + 1 else n

/-- INPUT_POWER_CHECK (R153, R154) with the tap's power and the leakage of the port taps, in 0.01 dBm. -/
def execInputPowerCheck (x : Fin 4) (pwr leak : Int) (s : State) : Host.Outcome State Fault Refusal :=
  .next (
    if s.running then
      let s := (s.atCycle 159).wrI (Reg.HGT.HG_STAT_IN_PWR x.val) pwr
      let h := s.hg x.val
      let closed := !s.flag (Reg.HGT.HG_STAT_OPEN x.val)
      let leaks := closed && decide (leakLevel < leak)
      let okRun := if closed && decide (leak ≤ leakLevel) then min (h.leakOkRun + 1) 4 else if closed then 0 else h.leakOkRun
      let s := s.setHg x.val { h with
        lowRun := if pwr < inputLostLevel then runUp h.lowRun else 0
        leakRun := if leaks then min (h.leakRun + 1) 4 else 0
        leakOkRun := okRun
        leaking := h.leaking && decide (okRun < 4) }
      let low := if pwr < s.rdI Reg.HGT.IN_LOW then [detail (Err.HGT.INPUT_LOW x.val) x.val] else []
      let high := if s.rdI Reg.HGT.IN_HIGH < pwr then [detail (Err.HGT.INPUT_HIGH x.val) x.val] else []
      s.raise (low ++ high)
    else s)

/-- INPUT_LOST (R153): detected once, in the stroke that completes the run of 4. -/
def execInputLost (x : Fin 4) (s : State) : Host.Outcome State Fault Refusal :=
  .next (
    if s.running && (s.hg x.val).lowRun == 4 then
      ((s.atCycle 159).setHg x.val { s.hg x.val with lowRun := 5 }).raise1 (detail (Err.HGT.INPUT_LOST x.val) x.val)
    else s)

/-- SHUT_FAIL (R154, R430). -/
def execShutFail (x : Fin 4) (s : State) : Host.Outcome State Fault Refusal :=
  .next (
    if s.running && (s.hg x.val).leakRun == 4 && !(s.hg x.val).leaking then
      ((s.atCycle 159).setHg x.val { s.hg x.val with leaking := true, leakOkRun := 0 }).raise1
        (detail (Err.HGT.SHUT_FAIL x.val) x.val)
    else s)

/-! ## Monitors (R161 to R171) -/

/-- The seat of a port's monitor channel, if it is a seat channel (Table 5.5). -/
def seatOfChan (ch : Nat) : Option (Side × Nat) :=
  if ch < 16 then some (.tx, ch)
  else if ch < 32 then some (.rx, ch - 16)
  else if ch < 34 then some (.tx, ch - 16)
  else if ch < 36 then some (.rx, ch - 18)
  else .none


/-- Whether a port's channel is isolated. -/
def State.chanIsolated (s : State) (p ch : Nat) : Bool :=
  match seatOfChan ch with
  | .none => false
  | some (side, k) => s.seatIsolated (seatKey p side k)

/-- The unit a sample is of: its number of channels, the key of its first channel and of its first bank's reference run, and which of
its channels are isolated. -/
structure MonShape where
  count : Nat
  base : Nat
  refBase : Nat
  isolated : Nat

/-- The shape of a port, or of the Flume (R170, R372). -/
def State.monShape (s : State) : MonUnit → MonShape
  | .port p => ⟨40, chanKey p.val 0, p.val * 5, maskOf ((List.range 40).filter (s.chanIsolated p.val))⟩
  | .flume => ⟨240, flumeChanKey 0, 80, maskOf ((List.range 240).filter fun c => bitAt (s.rd (Reg.FLM.ISOLATE (c / 32))) (c % 32))⟩

/-- The full-scale code (R164). -/
def fullScale : Nat := 0x0FFF

/-- Channel `i` of a sample as it comes out (R163 to R165, R168): a channel over-ranges when its code reaches full scale, and is tainted
by its bank's reference or by another channel of its bank that over-ranges now or did in the last stroke. -/
def sampleChan (m : MonShape) (codes refBad : List Nat) (old : Nat → Chan) (i : Nat) : Chan × Bool :=
  let iso := bitAt m.isolated i
  let high := fun j => !bitAt m.isolated j && decide (fullScale ≤ codes.getD j 0)
  let bank := i / 8
  let others := (List.range 8).map (bank * 8 + ·)
  let taint := !iso && (refBad.contains bank || others.any fun j => j != i && decide (j < m.count) && (high j || (old j).ovr))
  let ov := high i
  let run := if ov then (old i).run + 1 else 0
  let refRun := if !iso && refBad.contains bank then (old i).refRun + 1 else 0
  (⟨run, ov, !iso && !ov && !taint, if iso then 0 else min (codes.getD i 0) fullScale, refRun⟩, taint)

/-- A port channel's MON_CODE set (Table 5.9); whether the channel is isolated is seen where it is read (R168). -/
def State.wrPortCode (s : State) (p i : Nat) (c : Chan) (taint : Bool) : State :=
  ((((s.wr (Reg.OPT.MON_CODE_STROKE p i) (s.clk.stroke.toNat % 2 ^ 16)).wrB (Reg.OPT.MON_CODE_VALID p i) c.clean).wrB
    (Reg.OPT.MON_CODE_TAINT p i) taint).wrB (Reg.OPT.MON_CODE_OVR p i) c.ovr).wr (Reg.OPT.MON_CODE_CODE p i) c.code

/-- A Flume channel's MON_CODE set, in the same layout (R170). -/
def State.wrFlumeCode (s : State) (i : Nat) (c : Chan) (taint iso : Bool) : State :=
  s.wr (Reg.FLM.MON_CODE i) (s.clk.stroke.toNat % 2 ^ 16 * 2 ^ 16 + ofBool c.clean * 2 ^ 15 + ofBool taint * 2 ^ 14 +
    ofBool c.ovr * 2 ^ 13 + ofBool iso * 2 ^ 12 + c.code)

/-- The bits of a mask that fall in word `k`. -/
def maskWord (m k : Nat) : Nat := m / 2 ^ (32 * k) % 2 ^ 32

/-- The masks of a port's sample in OPT: over-ranges kept until cleared, taints, and the over-range count. -/
def State.wrPortMasks (s : State) (p ovr taint : Nat) : State :=
  let s := s.wr (Reg.OPT.MON_OVR0 p) ((setBits 32 (maskWord ovr 0)).foldl setBit (s.rd (Reg.OPT.MON_OVR0 p)))
  let s := s.wr (Reg.OPT.MON_OVR1 p) ((setBits 8 (maskWord ovr 1)).foldl setBit (s.rd (Reg.OPT.MON_OVR1 p)))
  let s := (s.wr (Reg.OPT.TAINT0 p) (maskWord taint 0)).wr (Reg.OPT.TAINT1 p) (maskWord taint 1)
  s.addTo (Reg.OPT.OVR_CNT p) (countBits 40 ovr)

/-- The loss-of-signal bits after a port's sample: a clean receive channel sets its line's bit by its power, any other keeps it
(R166, R171). Whether its power is below −15 dBm comes as an operand, since the conversion of a code is not given (log entry 184). -/
def State.wrLos (s : State) (p : Nat) (clean : Nat → Bool) (dim : BitVec 18) : State :=
  s.wr (Reg.OPT.LOS p) ((List.range 18).foldl (fun v k =>
    if clean (chanOfSeat .rx k) then (if dim.getLsbD k then setBit v k else clearBit v k) else v) (s.rd (Reg.OPT.LOS p)))

/-- A sample taken and reported; `dim` says which receive lines a clean sample shows below −15 dBm (R171). -/
def State.sampleUnit (s : State) (u : MonUnit) (codes refBad : List Nat) (dim : BitVec 18) : State :=
  let m := s.monShape u
  let old := fun i => s.chan (m.base + i)
  let res := (List.range m.count).map fun i => (i, sampleChan m codes refBad old i)
  let ovr := maskOf ((res.filter (·.2.1.ovr)).map (·.1))
  let taint := maskOf ((res.filter (·.2.2)).map (·.1))
  let s := res.foldl (fun s r =>
    let s := s.setChan (m.base + r.1) r.2.1
    match u with
    | .port p => s.wrPortCode p.val r.1 r.2.1 r.2.2
    | .flume => s.wrFlumeCode r.1 r.2.1 r.2.2 (bitAt m.isolated r.1)) s
  let s := (List.range (m.count / 8)).foldl (fun s b =>
    s.setRefRun (m.refBase + b) (if refBad.contains b then s.refRun (m.refBase + b) + 1 else 0)) s
  match u with
  | .port p =>
    let s := s.wrPortMasks p.val ovr taint
    let s := s.wrLos p.val (fun c => (s.chan (m.base + c)).clean) dim
    s.raise ((setBits 40 ovr).map (fun c => detail (Err.OPT.MON_OVR p.val) c) ++
      ((List.range 5).filter refBad.contains).map fun b => detail (Err.OPT.BANK_REF p.val) (8 * b))
  | .flume =>
    let s := (List.range 8).foldl (fun s k =>
      s.wr (Reg.FLM.MON_OVR k) ((setBits 32 (maskWord ovr k)).foldl setBit (s.rd (Reg.FLM.MON_OVR k)))) s
    s.raise ((setBits 240 ovr).map fun c => detail Err.FLM.MON_OVR (c * 2 ^ 24 + 0xFF * 2 ^ 16))

/-- The mesh-output samples of the stroke at hand: the code of each channel that is not isolated, none where its sample is discarded (R163 to R166). -/
def State.meshRow (s : State) : List (Nat × Option Nat) :=
  ((List.range 240).filter fun i => !bitAt (s.rd (Reg.FLM.ISOLATE (i / 32))) (i % 32)).map fun i =>
    (i, if (s.chan (flumeChanKey i)).clean then some (s.chan (flumeChanKey i)).code else .none)

/-- In a bundle-adjustment run's window, the mesh-output samples of a stroke collected (R261). -/
def State.collectMesh (s : State) : State :=
  match s.flm.ba with
  | .none => s
  | some r =>
    if s.rd Reg.LVL.STAT_BA_STATE = 1 ∧ s.now < r.windowEnd then
      { s with flm := { s.flm with ba := some { r with samples := r.samples.filter (·.1 != s.now) ++ [(s.now, s.meshRow)] } } }
    else s

/-- MONITOR_SAMPLE (R162 to R171, R261). -/
def execMonitorSample (m : MonUnit) (codes refBad : List Nat) (dim : BitVec 18) (s : State) : Host.Outcome State Fault Refusal :=
  .next (
    if s.running then
      let s := (s.atCycle 159).sampleUnit m codes refBad dim
      match m with
      | .port _ => s
      | .flume => s.collectMesh
    else s)

/-- A channel whose sample of this stroke is discarded for an overrun (R49, R166). -/
def State.discardSample (s : State) (key : Nat) : State := s.setChan key { s.chan key with clean := false }

/-- SAMPLE_OVERRUN (R49). -/
def execSampleOverrun (m : MonUnit) (ch : Nat) (s : State) : Host.Outcome State Fault Refusal :=
  .next (
    if s.running then
      let s := (s.atCycle 159).bump Reg.STK.OVR0_SAMPLE
      match m with
      | .port p => if ch < 40 then (s.discardSample (chanKey p.val ch)).wr (Reg.OPT.MON_CODE_VALID p.val ch) 0 else s
      | .flume => if ch < 240 then ((s.discardSample (flumeChanKey ch)).wrBit (Reg.FLM.MON_CODE ch) 15 false).collectMesh else s
    else s)

end Sys2Proof.Machine
end

