-- ==== Sys2Proof/Machine/Rowlock.lean ====
section
/-! DEFINITION. Rowlock and the seats (chapter 6): the loop, lock and loss of lock, SEARCH, withdrawals, drivers, dark idle. -/

namespace Sys2Proof.Machine

/-! ## The loop (R179 to R183, R190) -/

/-- The dither sign of a stroke: + in an even count (R180). -/
def ditherSign (count : Nat) : Int := if count % 2 = 0 then 1 else -1

/-- Whether the Leveller is in a contained thermal-miss state (R257). -/
def State.thermalMiss (s : State) : Bool := s.rd Reg.LVL.STAT_THERMAL == 3 || s.rd Reg.LVL.STAT_THERMAL == 4

/-- Whether a receive seat's line is in loss of signal (R171, R182). -/
def State.seatDark (s : State) (k : Nat) : Bool :=
  match sideOfSeat k with
  | .tx => false
  | .rx => bitAt (s.rd (Reg.OPT.LOS (portOfSeat k))) (lineOfSeat k)

/-- Coasting for a reason that stops SEARCH's count too (R182, R190). -/
def State.mustCoast (s : State) (k : Nat) : Bool := s.thermalMiss || s.seatDark k

/-- The error sample of R181 from the two samples; where both are 0 the quotient is not stated (log entry 13). -/
def errorSample (free : Nat) (d sn sm lock : Int) : Int :=
  let q := if sn + sm = 0 then Config.zeroQuotient free else Int.tdiv (2048 * d * (sn - sm)) (sn + sm)
  clampInt (-2048) 2047 (q - lock)

/-- `e / 2 ^ n` to the nearest whole number, ties toward zero (R182). -/
def roundShift (e : Int) (n : Nat) : Int :=
  let m : Nat := 2 ^ n
  let a := e.natAbs
  let r := (a + (m - 1) / 2) / m
  if e < 0 then -(r : Int) else r

/-- The most recent clean sample of a sign taken within the previous 8 strokes (R181). -/
def recentSample (now : Nat) : Option (Nat × Nat) → Option Nat
  | .none => .none
  | some (t, c) => if now ≤ t + 8 then some c else .none

/-- A seat's runs after an error sample (R183): toward lock in SEARCH, toward loss of lock in LOCKED and HOT_SPARE. -/
def runsAfter (u : Seat) (e : Int) (thresh : Nat) : Seat :=
  { u with
    lockRun := if u.state = .search then (if 2 * e.natAbs ≤ thresh then min (u.lockRun + 1) 4 else 0) else u.lockRun
    lolRun := if u.state = .locked ∨ u.state = .hotSpare then (if thresh < e.natAbs then min (u.lolRun + 1) 4 else 0) else u.lolRun }

/-- A sweep's step in a stroke (R190): it stops where the error sample changes sign, and otherwise rises by the Weir's limit. -/
def sweepStep (u : Seat) (e : Option Int) : Seat :=
  match e, u.sweepError with
  | some x, some y =>
    if (x < 0 ∧ 0 < y) ∨ (0 < x ∧ y < 0) then { u with sweeping := false, sweepError := .none }
    else { u with sweepError := some x, target := min (u.target + 1024) 0xFFFF }
  | some x, .none => { u with sweepError := some x, target := min (u.target + 1024) 0xFFFF }
  | .none, _ => { u with target := min (u.target + 1024) 0xFFFF }

/-- A seat of SEARCH at the end of its 16 strokes on the calibrated bias, if it has not entered lock by then, begins the sweep from code 0
(R190). -/
def beginSweep (u : Seat) : Seat :=
  if u.state = SeatState.search ∧ 16 ≤ u.count ∧ u.lockRun < 4 ∧ u.swept = false ∧ u.next = .none then
    { u with swept := true, sweeping := true, sweepError := .none, target := 0 }
  else u

/-- The loop of a seat in one stroke (R181, R182). -/
def State.demod (s : State) (k : Nat) : State :=
  let u := s.seat k
  if s.mustCoast k then s.setSeat k { u with coast := true, hasError := false }
  else
    let c := s.chan (seatChanKey k)
    let count := s.clk.stroke.toNat
    let now := s.now
    let u := { u with count := if u.state = SeatState.search then u.count + 1 else u.count }
    if !c.clean then s.setSeat k (beginSweep { u with coast := true, hasError := false })
    else
      let d := ditherSign count
      let other := recentSample now (if d = 1 then u.minus else u.plus)
      let u := if d = 1 then { u with plus := some (now, c.code) } else { u with minus := some (now, c.code) }
      match other with
      | .none =>
        let u := if u.sweeping then sweepStep u .none else u
        s.setSeat k (beginSweep { u with coast := false, hasError := false })
      | some sm =>
        let e := errorSample s.freeCount d c.code sm (if s.quenchedSeat k then 0 else (s.outEntry k).lockpt)
        let p := portOfSeat k
        let u := runsAfter { u with error := e, hasError := true, coast := false } e (s.rd (Reg.RWL.LOL_THRESH p))
        let u := if u.sweeping then sweepStep u (some e)
          else { u with target := u.target + roundShift e (s.rd (Reg.RWL.LOOP_GAIN p)) }
        s.fresh.2.setSeat k (beginSweep u)

/-- ROWLOCK_DEMOD (R179, R181, R182). -/
def execRowlockDemod (u : SeatId) (s : State) : Host.Outcome State Fault Refusal :=
  .next (if s.running && (s.seat (idKey u)).state.runs then (s.atCycle 319).demod (idKey u) else s)

/-- DEMOD_OVERRUN (R49): the seat's sample of this stroke is discarded, and the seat coasts; a SEARCH's count of strokes goes on (R190). -/
def execDemodOverrun (u : SeatId) (s : State) : Host.Outcome State Fault Refusal :=
  .next (
    if s.running then
      let k := idKey u
      let s := ((s.atCycle 319).bump Reg.STK.OVR0_DEMOD).discardSample (seatChanKey k)
      if (s.seat k).state.runs then s.demod k else s
    else s)

/-! ## Lock and loss of lock (R183, R189, R196, R197) -/

/-- SEAT_LOCK (R183, R189): the seat's next state follows its assignment, and a transmit driver that is stopped becomes due (R186). -/
def execSeatLock (u : SeatId) (s : State) : Host.Outcome State Fault Refusal :=
  .next (
    let k := idKey u
    let x := s.seat k
    if s.running && x.state == .search && x.next.isNone && decide (4 ≤ x.lockRun) then
      let st := if (s.laneOfSeat k).isSome then SeatState.locked else .hotSpare
      let due := u.side == .tx && !x.driver
      (s.atCycle 319).setSeat k { x with next := some st, driverDue := x.driverDue || due, sweeping := false }
    else s)

/-- The state without a seat's visit. -/
def State.dropVisit (s : State) (k : Nat) : State :=
  { s with cal := { s.cal with visits := s.cal.visits.filter fun v => idKey v.seat != k } }

/-- A loss of lock in the stroke in which the seat is withdrawn (Table 6.3): the lane follows R196 or R197 in place of its withdrawal, whose class
it takes along. -/
def State.lossAfterWithdraw (s : State) (k lane : Nat) : State :=
  let p := s.linkOfSeat k
  let l := s.laneSt p
  let s := s.setLaneSt p { l with
    due := l.due.filter fun o => !(o.lane == lane && o.cause.why == .withdrawn)
    rxWait := l.rxWait.filter fun w => !(w.lane == lane && w.cause.why == .withdrawn) }
  s.laneLeaves k lane .drop .dropReq { s.causeOf k .lossOfLock 0 with withdraw := true }

/-- LOSS_OF_LOCK (R183, R196, R197): a hot spare is lost, a lane leaves its seat at the Finish, and the class follows the outcome. A visit that
still waits for the peer is deferred, and a seat withdrawn in the same stroke goes out of service (Table 6.3). -/
def execLossOfLock (u : SeatId) (s : State) : Host.Outcome State Fault Refusal :=
  .next (
    let k := idKey u
    let x := s.seat k
    let p := u.port.val
    if s.running && (x.state == .locked || x.state == .hotSpare) && decide (4 ≤ x.lolRun) then
      if x.next.isNone then
        let s := ((s.atCycle 319).bump (Reg.RWL.LOL_CNT p)).dropVisit k
        match s.laneOfSeat k with
        | .none =>
          (s.raise1 ⟨Err.RWL.SPARE_LOST p, s.seatInfo k 2, s.seatInfo1 k⟩).pend k .lost
        | some lane =>
          (s.laneLeaves k lane .drop .dropReq (s.causeOf k .lossOfLock 0)).pend k .lost
      else if x.next == some .outOfService && x.withdrawn then
        let s := ((s.atCycle 319).bump (Reg.RWL.LOL_CNT p)).setSeat k { x with lolRun := 0 }
        match s.laneOfSeat k with
        | .none => s.raise1 ⟨Err.RWL.SPARE_LOST p, s.seatInfo k 2, s.seatInfo1 k⟩
        | some lane => s.lossAfterWithdraw k lane
      else s
    else s)

/-! ## SEARCH (R190 to R192) -/

/-- The members of a search in order: the one it began on, then the calibrated order of the others (R191). -/
def searchOrder (first : Nat) (e : CalEntry) : List Nat :=
  first :: ([e.member, e.pref2, e.pref3].filter (· != first))

/-- Whether entries make a delta list (R258): 1 to 64 of them. -/
def isDelta (d : List DeltaEntry) : Bool := decide (1 ≤ d.length) && decide (d.length ≤ 64)

/-- A delta list sent to the Leveller, which queues up to 8; its sender waits while the queue is full (R258). -/
def State.queueDelta (s : State) (d : List DeltaEntry) : State :=
  let l : DeltaList := ⟨d, [], false⟩
  if !isDelta d then s
  else if s.lvl.queue.length < 8 ∧ s.lvl.senders = [] then { s with lvl := { s.lvl with queue := s.lvl.queue ++ [l] } }
  else { s with lvl := { s.lvl with senders := s.lvl.senders ++ [l] } }

/-- A member that timed out marked unusable in a seat's live entry, until the next visit (R219). -/
def State.markUnusable (s : State) (k m : Nat) : State :=
  let l := s.liveCal k
  s.setLiveCal k { l with timedOut := setBit l.timedOut m }

/-- A seat that has tried all three members (R192). -/
def State.seatFails (s : State) (k : Nat) : State :=
  let p := portOfSeat k
  let s := s.pend k .failed
  match s.laneOfSeat k with
  | .none => s.raise1 ⟨Err.RWL.FAIL_SPARED p, s.seatInfo k 1, s.seatInfo1 k⟩
  | some lane => s.laneLeaves k lane .drop .dropReq (s.causeOf k .failed 1)

/-- The member that a SEARCH tries next, if it has not tried three (R191, R192). -/
def State.nextTry (s : State) (k : Nat) : Option Nat :=
  let x := s.seat k
  if 2 ≤ x.tried then .none else (searchOrder x.firstMember (s.interpEntry k))[x.tried + 1]?

/-- A SEARCH goes on with another member, whose delta list is sent and which goes live at cycle 960 (R191). -/
def State.tryMember (s : State) (k m : Nat) (delta : List DeltaEntry) : State :=
  let p := portOfSeat k
  let s := s.startMember k m ((s.seat k).tried + 1)
  let s := { s with lvl := { s.lvl with memberChanged := s.lvl.memberChanged ++ [k] } }
  (s.queueDelta delta).raise1 ⟨Err.RWL.MEMBER_CHANGE p, s.seatInfo k 1, s.seatInfo1 k⟩

/-- SEARCH_MEMBER_TIMEOUT (R190 to R192): the next member with its delta list, or, after the third, the seat fails. -/
def execSearchMemberTimeout (u : SeatId) (delta : List DeltaEntry) (s : State) : Host.Outcome State Fault Refusal :=
  .next (
    let k := idKey u
    let x := s.seat k
    if s.running && x.state == .search && x.next.isNone && decide (s.rd (Reg.RWL.SEARCH u.port.val) ≤ x.count) then
      let t := s.markUnusable k x.member
      match s.nextTry k with
      | .none => t.seatFails k
      | some m => t.tryMember k m delta
    else s)

/-- Seats of a RETRY write that are FAILED go back to SEARCH (Table 6.1). -/
def State.retrySeats (p : Nat) (side : Side) (data : Nat) (s : State) : State :=
  (setBits 18 data).foldl (fun s j =>
    let k := seatKey p side j
    if (s.seat k).state = .failed then s.pend k .search else s) s

/-- SEAT_RETRY (R189). -/
def execSeatRetry (via : Path) (p : Fin 16) (side : Side) (seats : BitVec 18) (s : State) : Host.Outcome State Fault Refusal :=
  .next (s.access via (0x080 + p.val) (if side = .tx then 0x054 else 0x058) seats.toNat (State.retrySeats p.val side))

/-! ## Withdrawal (R163, R167, R200) -/

/-- ERR_INFO0 of a withdrawal: the seat's channel (Table 5.9). -/
def withdrawChan (k : Nat) : Nat := chanOfSeat (sideOfSeat k) (lineOfSeat k)

/-- ERR_INFO0 of a visit's event (Table 7.9). -/
def visitInfo (k check : Nat) : Nat := check * 2 ^ 12 + portOfSeat k * 2 ^ 8 + sideNo (sideOfSeat k) * 2 ^ 5 + lineOfSeat k

/-- Whether a seat may be withdrawn now (R167): it is in SEARCH, LOCKED, LOST or HOT_SPARE, or out for a visit. -/
def State.mayWithdraw (s : State) (k : Nat) : Bool :=
  let u := s.seat k
  !s.safe && !u.withdrawn && (u.state.runs || (u.state == .outOfService && (s.visitOf k).isSome))

/-- A seat's lane operation of this stroke takes the withdrawal's class along (R200). -/
def markWithdraw (lane : Nat) (l : Lanes) : Lanes :=
  { l with
    due := l.due.map fun o => if o.lane = lane then { o with cause := { o.cause with withdraw := true } } else o
    rxWait := l.rxWait.map fun w => if w.lane = lane then { w with cause := { w.cause with withdraw := true } } else w }

/-- Whether a lane operation of a port already answers for a lane that its seat lost (R196, R197). -/
def lostLane (lane : Nat) (l : Lanes) : Bool :=
  let lost := fun (c : LaneCause) => c.why == .lossOfLock || c.why == .failed
  l.due.any (fun o => o.lane == lane && lost o.cause) || l.rxWait.any fun w => w.lane == lane && lost w.cause

/-- A request that the peer move a lane out for a visit becomes one for a withdrawal (R167, R496). -/
def visitToWithdraw (lane : Nat) (c : LaneCause) (l : Lanes) : Lanes :=
  { l with
    due := l.due.map fun o => if o.lane = lane ∧ o.cause.why = .visit then { o with cause := c } else o
    rxWait := l.rxWait.map fun w => if w.lane = lane ∧ w.cause.why = .visit then { w with cause := c } else w }

/-- A seat is withdrawn (R167): it enters OUT_OF_SERVICE at the next cycle 0, and its lane, if any, is moved at the Finish. One whose lane was lost takes
that outcome's class (Table 6.3; log entry 185), and one whose visit waits for the peer loses the visit, which has not begun. -/
def State.withdraw (s : State) (k : Nat) : State :=
  let p := portOfSeat k
  let n := s.linkOfSeat k
  let u := s.seat k
  let spared : Event := ⟨Err.OPT.WITHDRAW_SPARED p, withdrawChan k, 0⟩
  let s1 := (s.setSeat k { u with next := some .outOfService, withdrawn := true }).setChan (seatChanKey k)
    { s.chan (seatChanKey k) with run := 0, refRun := 0 }
  match s.visitOf k, u.state == .outOfService with
  | some v, true =>
    let s2 := ((s1.dropVisit k).bump Reg.CAL.FAIL_CNT).raise1 ⟨Err.CAL.VISIT_FAIL, visitInfo k 0, 0⟩
    s2.raise1 (if v.narrow then ⟨Err.OPT.WITHDRAW_NARROW p, withdrawChan k, 0⟩ else spared)
  | _, _ =>
    let waits := (s.visitOf k).isSome
    let s2 := s1.dropVisit k
    match s.laneOfSeat k with
    | .none => s2.raise1 spared
    | some lane =>
      if lostLane lane (s.laneSt n) then s2.setLaneSt n (markWithdraw lane (s2.laneSt n))
      else if waits then s2.setLaneSt n (visitToWithdraw lane (s.causeOf k .withdrawn 0) (s2.laneSt n))
      else s2.laneLeaves k lane .move .swapReq (s.causeOf k .withdrawn 0)

/-- SEAT_WITHDRAW (R167): decided in a stroke in which the run of over-ranges is 64 or longer. -/
def execSeatWithdraw (u : SeatId) (s : State) : Host.Outcome State Fault Refusal :=
  .next (
    let k := idKey u
    if s.running && s.mayWithdraw k && decide (64 ≤ (s.chan (seatChanKey k)).run) then (s.atCycle 159).withdraw k else s)

/-- The seats of a port's bank (Table 5.5). -/
def bankSeats (p bank : Nat) : List Nat :=
  ((List.range 8).map (bank * 8 + ·)).filterMap fun c => (seatOfChan c).map fun x => seatKey p x.1 x.2

/-- BANK_REF_WITHDRAW (R163): every seat of the bank that may be withdrawn is, once its own run of bad references, which a withdrawal ends
(R167), is 64 strokes long. -/
def execBankRefWithdraw (p : Fin 16) (bank : Nat) (s : State) : Host.Outcome State Fault Refusal :=
  .next (
    if s.running && decide (bank < 5) && decide (64 ≤ s.refRun (p.val * 5 + bank)) then
      (bankSeats p.val bank).foldl (fun s k =>
        if s.mayWithdraw k && decide (64 ≤ (s.chan (seatChanKey k)).refRun) then s.withdraw k else s) (s.atCycle 159)
    else s)

/-- WITHDRAWN_SEAT_RETRY (R189): in SEARCH from cycle 0 of stroke w + RETRY_WD; isolation ends there (R168). -/
def execWithdrawnSeatRetry (u : SeatId) (s : State) : Host.Outcome State Fault Refusal :=
  .next (
    let k := idKey u
    let x := s.seat k
    let n := s.rd (Reg.RWL.RETRY_WD u.port.val)
    if s.running && s.seatIsolated k && x.state == .outOfService && x.next.isNone && n != 0 && decide (x.since + n ≤ s.now + 1) then s.pend k .search else s)

/-! ## Drivers, dark idle, restore (R186, R187, R199) -/

/-- The transmit seats of a port whose driver waits to start. -/
def State.driversDue (s : State) (p : Nat) : List Nat :=
  (List.range 18).filter fun k => (s.seat (seatKey p .tx k)).driverDue

/-- DRIVER_START (R186): the lowest waiting seat's driver, 8 strokes after the port's last start. -/
def execDriverStart (p : Fin 16) (s : State) : Host.Outcome State Fault Refusal :=
  .next (
    let l := s.laneSt p.val
    let gap := match l.driverAt with
      | .none => true
      | some t => decide (t + s.rd Reg.WEI.PWRUP_GAP ≤ s.now)
    match s.driversDue p.val with
    | [] => s
    | k :: _ =>
      if s.running && !s.safe && gap then
        let key := seatKey p.val .tx k
        let s := (s.atCycle 960).setSeat key { s.seat key with driver := true, driverDue := false }
        s.setLaneSt p.val { l with driverAt := some s.now }
      else s)

/-- The dark levels' ramp on every port in dark idle whose fourth cycle 960 this is: one sixteenth, to 16 (R187). -/
def State.darkStep (s : State) : State :=
  (setBits 16 (s.rd Reg.WEI.IDLE_DARK)).foldl (fun s p =>
    let l := s.laneSt p
    if l.darkNext ≤ s.now then
      s.setLaneSt p { l with
        dark := min (l.dark + s.rd Reg.WEI.DARK_RAMP_SIXTEENTHS) 16, darkNext := s.now + s.rd Reg.WEI.DARK_RAMP_STROKES }
    else s) s

/-- DARK_IDLE_STEP (R187). -/
def execDarkIdleStep (s : State) : Host.Outcome State Fault Refusal :=
  .next (if s.running then (s.atCycle 960).darkStep else s)

/-- At a cycle 960, the level of every port that is not in dark idle is 0 (R187). -/
def State.darkFinish (s : State) : State :=
  ((List.range 16).filter fun p => !bitAt (s.rd Reg.WEI.IDLE_DARK) p).foldl (fun s p =>
    s.setLaneSt p { s.laneSt p with dark := 0 }) s

/-- A write to WEI.IDLE_DARK (R187): the ramp of a port whose bit becomes 1 has its first step at the fourth cycle 960 from here. -/
def State.wrIdleDark (data : Nat) (s : State) : State :=
  let was := s.rd Reg.WEI.IDLE_DARK
  let s := s.writeFields 0x013 0x050 data
  let first := if s.clk.cycle < 960 then s.now else s.now + 1
  ((setBits 16 (s.rd Reg.WEI.IDLE_DARK)).filter fun p => !bitAt was p).foldl (fun s p =>
    s.setLaneSt p { s.laneSt p with darkNext := first + s.rd Reg.WEI.DARK_RAMP_STROKES - 1 }) s

/-- IDLE_DARK_WRITE (R187): a port's ramp starts, or its level returns to 0 at the next cycle 960. -/
def execIdleDarkWrite (via : Path) (data : Word) (s : State) : Host.Outcome State Fault Refusal :=
  .next (s.access via 0x013 0x050 data.toNat State.wrIdleDark)

/-- A write to RWL[Pnn].CTRL (R199): RESTORE acts on lanes whose home seat is in HOT_SPARE now. -/
def State.wrRwlCtrl (p data : Nat) (s : State) : State :=
  let s := s.writeFields (0x080 + p) 0x004 data
  if bitAt data 8 then
    let l := s.laneSt p
    let home := (List.range 16).filter fun k =>
      l.txMap.getD k noSeat != k && (s.seat (s.txSeat p k)).state == .hotSpare
    (s.setLaneSt p { l with restore := home }).wrB (Reg.RWL.STAT_RESTORING p) (!home.isEmpty)
  else s

/-- RESTORE (R199): a write of RWL CTRL with RESTORE = 1 and the rest as it reads. -/
def execRestore (via : Path) (p : Fin 16) (s : State) : Host.Outcome State Fault Refusal :=
  .next (s.access via (0x080 + p.val) 0x004 (setBit (s.stored (0x080 + p.val) 0x004) 8) (State.wrRwlCtrl p.val))

/-! ## Lane operations (R195, R196, R296, R495) -/

/-- The restore that is due once the other lane operations have their lines, if any (R200). -/
def State.serveRestore (s : State) (p : Nat) (issue : State → LaneOp → State) : State :=
  match s.restoreLane p with
  | .none => s
  | some k => issue s ⟨k, .home, noCause .restore⟩

/-- LANE_OPERATIONS_ISSUE (R32, R194, R195, R200, R296, R495): adds chosen at the last Finish; due operations and the choice for the next Finish in
order of lane; then restores, on what remains. With the link up they share one CTRL shell, unless the port is paused, which holds them until
RESUME. -/
def State.issueLaneOps (s : State) (p : Nat) : State :=
  let l := s.laneSt p
  if s.linkUp p then
    match s.txStream p with
    | .none => s
    | some n =>
      if s.ownPaused p then s
      else
        let s := (s.setLaneSt p { l with due := [] }).swapsEnd p
        let s := (l.missing.filter (·.chosen.isSome)).foldl (fun s m => s.issueAdd p m) s
        let s := s.serveLanes p (fun s o => s.issueUp p o) l.due
        ((s.serveRestore p fun s o => s.issueUp p o).pruneRestore p).sendCtrl n
  else
    let s := s.setLaneSt p { l with due := [] }
    let s := s.serveLanes p (fun s o => s.issueDown p o) l.due
    (s.serveRestore p fun s o => s.issueDown p o).pruneRestore p

/-- LANE_OPERATIONS_ISSUE (R296). -/
def execLaneOperationsIssue (p : Fin 16) (s : State) : Host.Outcome State Fault Refusal :=
  .next (if s.running && !s.safe then (s.atCycle (max 960 s.clk.cycle)).issueLaneOps p.val else s)

/-- LANE_ADD_DEADLINE (R192, R196, R197): once the Finish of the eighth stroke after the drop has passed without LANE_ADD (Table 6.2), the class is
contained. -/
def execLaneAddDeadline (p : Fin 16) (lane : Nat) (s : State) : Host.Outcome State Fault Refusal :=
  .next (
    let l := s.laneSt p.val
    let late := fun (t : Nat) => decide (t + 8 < s.now)
    match l.missing.find? (fun m => m.lane == lane && !m.judged && !m.adding && late m.droppedAt) with
    | some m =>
      (s.setLaneSt p.val { l with missing := l.missing.map fun x => if x.lane = lane then { x with judged := true } else x }).outcome
        p.val m.cause false
    | .none =>
      match l.rxWait.find? (fun w => w.lane == lane && !w.swap && (match w.droppedAt with | .none => false | some t => late t)) with
      | some w => (s.setLaneSt p.val { l with rxWait := l.rxWait.filter (·.lane != lane) }).outcome p.val w.cause false
      | .none => s)

end Sys2Proof.Machine
end

