-- ==== Sys2Proof/Machine/Leveller.lean ====
section
/-! DEFINITION. The Leveller (chapter 8): the thermal solve and its misses, the Weir, delta lists, refactoring, bundle adjustment. -/

namespace Sys2Proof.Machine

/-! ## Blocks, held actuators, codes (R247, R252, R253) -/

/-- The block of an actuator (Table 8.1). -/
def blockOfAct (i : Nat) : Nat := if i < 576 then i / 36 else 16 + (i - 576) / 30

/-- ERR_INFO0 of the Leveller: block (31 none), reason, actuator (0x3FF none) (Table 8.8). -/
def lvlInfo (block reason act : Nat) : Nat := block * 2 ^ 24 + reason * 2 ^ 20 + act

/-- Whether a seat's calibration visit computes a step in this stroke (R252): it is in strokes v to v + 46, and its step was neither discarded nor
overran. -/
def State.stepsNow (s : State) (k : Nat) : Bool :=
  match s.visitOf k with
  | .none => false
  | some v => match v.start with
    | .none => false
    | some st => decide (st ≤ s.now) && decide (s.now ≤ st + 46) && v.skipAt != some s.now

/-- Whether an actuator is held (R252): a seat that coasts, is IDLE or FAILED, or is out of service without a step; a held Flume phase, and in the
safe state every phase (R398). -/
def State.actHeld (s : State) (i : Nat) : Bool :=
  if i < 576 then
    let u := s.seat i
    match u.state with
    | .idle | .failed => true
    | .outOfService => !s.stepsNow i
    | .search | .locked | .lost | .hotSpare => u.coast
  else s.safe || bitAt (s.rd (Reg.FLM.HELD ((i - 576) / 64))) ((i - 576) / 2 % 32)

/-- The drive code an actuator has committed. -/
def State.actCode (s : State) (i : Nat) : Nat := if i < 576 then (s.seat i).code else Tab.read 0 s.flm.phase (i - 576)

/-- The drive value, in Q8.24, that a code is (R253). -/
def valueOfCode (c : Nat) : Int := (c : Int) * 256

/-- The exact code of a solution in Q8.24, before the clamp: ⌊x × 65,536 + 0.5⌋ (R253). -/
def rawCode (x : Int) : Int := (x + 128) / 256

/-- The drive code of a solution (R253). -/
def codeOf (x : Int) : Nat := (clampInt 0 0xFFFF (rawCode x)).toNat

/-- The largest solution, 80 in Q8.24 (R250). -/
def solutionBound : Int := 80 * 2 ^ 24

/-- The largest target, 8.0 as heater codes (R250, R253). -/
def targetBound : Int := 8 * 65536

/-! ## The matrix (R247 to R249, R260, R266) -/

/-- The key of a matrix position. -/
def matKey (i j : Nat) : Nat := i * 816 + j

/-- A position between two blocks, above the diagonal. -/
def crossBlock (x : Nat × Nat) : Bool := decide (x.1 < x.2) && decide (x.2 < 816) && blockOfAct x.1 != blockOfAct x.2

/-- The 992 positions above the diagonal which, with their mirrors, are the 1,984 of LVL.PATTERN.ENTRIES (R249; log entry 3). -/
@[irreducible] def patternPairs : List (Nat × Nat) :=
  let all := (List.range 816).flatMap fun i => (List.range 816).map fun j => (i, j)
  (((all ++ (List.range 992).map Config.patternPair).filter crossBlock).dedup.reverse).take 992

/-- Whether a position is one of the compiled pattern, which lies between blocks and is symmetric (R249). -/
def inPattern (i j : Nat) : Bool := patternPairs.contains (min i j, max i j)

/-- Whether a position may be non-zero (R249). -/
def mayBeNonzero (i j : Nat) : Bool := blockOfAct i == blockOfAct j || inPattern i j

/-- An entry of an image of the matrix: what a delta list set, or the base matrix, which is symmetric and 0 off the pattern (R249; log entry 3). -/
def matEntry (t : Tab (Option Int)) (i j : Nat) : Int :=
  (Tab.read .none t (matKey i j)).getD (if mayBeNonzero i j then (Config.baseEntry (min i j) (max i j)).toInt else 0)

/-- An entry of the live matrix, which is empty until the base matrix is loaded (R266). -/
def State.liveMat (s : State) (i j : Nat) : Int := if s.lvl.loaded then matEntry s.lvl.live i j else 0

/-- The off-diagonal magnitudes of a row. -/
def rowSum (t : Tab (Option Int)) (i : Nat) : Nat :=
  (((List.range 816).filter (· != i)).map fun j => (matEntry t i j).natAbs).sum

/-- A row's dominance ratio as unsigned Q4.12, 0xFFFF saturated (Table 8.8). -/
def rowRatio (t : Tab (Option Int)) (i : Nat) : Nat :=
  if rowSum t i = 0 then 0xFFFF else min 0xFFFF ((matEntry t i i).natAbs * 4096 / rowSum t i)

/-- LVL.RATIO_MIN: the lowest dominance ratio of the live matrix and its row, the first of equals; 0 before the matrix is loaded (Table 8.8). -/
def State.ratioMin (s : State) : Nat :=
  if s.lvl.loaded then
    let low := (List.range 816).foldl (fun (m : Nat × Nat) i =>
      let r := rowRatio s.lvl.live i
      if r < m.2 then (i, r) else m) (0, rowRatio s.lvl.live 0)
    low.1 * 2 ^ 16 + low.2
  else 0

/-! ## Targets (R180, R182, R250, R252, R391) -/

/-- The dither in a seat's target in this stroke, 0 while it coasts (R180). -/
def State.ditherNow (s : State) (k : Nat) : Int :=
  let u := s.seat k
  if u.state.runs && !u.coast then ditherSign s.clk.stroke.toNat * s.rd (Reg.RWL.DITHER (portOfSeat k)) else 0

/-- The code that an actuator keeps whatever the solve gives: a held one its own (R252), a seat with a clean sample and no error sample its own with
this stroke's dither in place of the last one (R182). -/
def State.fixedCode (s : State) (i : Nat) : Option Int :=
  if s.actHeld i then some (s.actCode i)
  else if i < 576 then
    let u := s.seat i
    if u.state.runs && !u.hasError && !u.sweeping then some (u.code - u.dither + s.ditherNow i) else .none
  else .none

/-- How far a mesh phase of an MZI may move in this stroke (R375, R377): 4,096 codes while a change moves its targets, else 1,024. -/
def State.phaseLimit (s : State) (z : Nat) : Nat :=
  match s.flm.changes.head? with
  | .none => 1024
  | some c => match c.start with
    | .none => 1024
    | some t => if t ≤ s.now ∧ s.now < t + 16 ∧ Config.mziChanged c.pick z = true then 4096 else 1024

/-- Whether an MZI is held. -/
def State.mziHeld (s : State) (z : Nat) : Bool := bitAt (s.rd (Reg.FLM.HELD (z / 32))) (z % 32)

/-- Whether a change occupies its strokes now. -/
def State.changing (s : State) : Bool := s.rd Reg.FLM.STAT_STATE == 3 || s.rd Reg.FLM.STAT_STATE == 4

/-- Whether an MZI's dither pauses: a change moves it and has not reached its sixteenth stroke (Table 11.1). -/
def State.ditherPaused (s : State) (z : Nat) : Bool :=
  s.changing && (match s.flm.changes with
    | [] => false
    | c :: _ => match c.start with
      | .none => false
      | some t => decide (s.now < t + 16) && Config.mziChanged c.pick z)

/-- A phase's target as a code: what the configuration gives it (log entry 16), on an internal phase the correction and the dither of its MZI's loop
(R391), and a window's patterns (R392). -/
def State.phaseTarget (s : State) (k : Nat) : Int :=
  let z := k / 2
  let fans := (List.range 8).map fun j => if s.rd (Reg.FLM.FAN_STAT_STATE j) = 0 then 0 else s.rd (Reg.FLM.FAN_CFG_MASK j)
  let est := (List.range 480).map fun i => Tab.read 0 s.flm.estimate i
  let loop : Int :=
    if k % 2 = 0 then
      (Tab.read MziLoop.reset s.flm.loops z).corr +
        (if s.mziHeld z || s.ditherPaused z then 0 else ditherSign s.clk.stroke.toNat * s.rd Reg.FLM.DITHER)
    else 0
  Config.phaseTarget k s.flm.map fans est + loop + (if s.flm.window.isSome then Config.windowDither s.freeCount k else 0)

/-- An actuator's target as a code, before the check of R250: a seat's with its dither, or a free one in a stroke of its calibration visit; a
phase's. -/
def State.rawTarget (s : State) (i : Nat) : Int :=
  if i < 576 then
    if (s.seat i).state = .outOfService then Config.scanTarget s.freeCount i else (s.seat i).target + s.ditherNow i
  else s.phaseTarget (i - 576)

/-- The target that the solve takes, in Q8.24 (R250). -/
def State.target (s : State) (i : Nat) : Int := clampInt (-targetBound) targetBound (s.rawTarget i) * 256

/-- Targets beyond ±8.0 are clamped, in every stroke (R250). -/
def State.clampTargets (s : State) : State :=
  let big := (List.range 816).filter fun i => !s.actHeld i && (targetBound < s.rawTarget i || s.rawTarget i < -targetBound)
  let s := (big.filter (· < 576)).foldl (fun s i =>
    let u := s.seat i
    s.setSeat i { u with target := clampInt (-targetBound) targetBound u.target }) s
  (s.addTo Reg.LVL.TGT_CLAMP_CNT big.length).raise (big.map fun i => detail Err.LVL.TGT_CLAMP (lvlInfo 31 0 i))

/-! ## The sweeps (R248, R250 to R252)

Values are exact until they are narrowed to their format of Table 8.2: entries and factors Q2.14, vectors Q8.24, sums of products Q10.38. -/

/-- A quotient narrowed to whole LSB; which way it is rounded is not published (log entry 1). -/
def quotient (n d : Int) : Int :=
  let q := n / d
  if n % d = 0 then q else if Config.roundUp n d then q + 1 else q

/-- The whole root of a number below 2^32. -/
def wholeRoot (n : Nat) : Nat := (List.range 16).foldl (fun r i => let t := r + 2 ^ (15 - i); if t * t ≤ n then t else r) 0

/-- The next row of a Cholesky factor, from the rows above it and the block's row. -/
def factorRow (a : Nat → Int) (rows : List (List Int)) : List Int :=
  let i := rows.length
  let off := (List.range i).foldl (fun row j =>
    let l := rows.getD j []
    let dot := ((List.range j).map fun k => row.getD k 0 * l.getD k 0).sum
    row ++ [quotient (a j * 2 ^ 14 - dot) (l.getD j 0)]) []
  let rest := (a i * 2 ^ 14 - (off.map fun x => x * x).sum).toNat
  let root := wholeRoot rest
  off ++ [(root : Int) + (if root * root = rest then 0 else if Config.roundUp rest root then 1 else 0)]

/-- The Cholesky factor of a block of `n` rows. -/
def factorOf (a : Nat → Nat → Int) (n : Nat) : List (List Int) := (List.range n).foldl (fun rows i => rows ++ [factorRow (a i) rows]) []

/-- The forward substitution against a factor. -/
def forwardSub (l : List (List Int)) (r : List Int) : List Int :=
  (List.range r.length).foldl (fun ys i =>
    let row := l.getD i []
    let dot := ((List.range i).map fun j => row.getD j 0 * ys.getD j 0).sum
    ys ++ [quotient (r.getD i 0 * 2 ^ 14 - dot) (row.getD i 0)]) []

/-- The backward substitution against a factor's transpose. -/
def backwardSub (l : List (List Int)) (y : List Int) : List Int :=
  (List.range y.length).reverse.foldl (fun xs i =>
    let dot := ((List.range xs.length).map fun m => (l.getD (i + 1 + m) []).getD i 0 * xs.getD m 0).sum
    quotient (y.getD i 0 * 2 ^ 14 - dot) ((l.getD i []).getD i 0) :: xs) []

/-- The actuators of a block, ascending (Table 8.1). -/
def blockActs (b : Nat) : List Nat := if b < 16 then (List.range 36).map (36 * b + ·) else (List.range 30).map (576 + 30 * (b - 16) + ·)

/-- The resident factor of a block: that of the live matrix, since the two switch together (R259). -/
def State.factor (s : State) (b : Nat) : List (List Int) :=
  let acts := blockActs b
  factorOf (fun i j => s.liveMat (acts.getD i 0) (acts.getD j 0)) acts.length

/-- A sum of products of a row of the live matrix with a vector, over some columns, in Q10.38. -/
def State.rowDot (s : State) (i : Nat) (x : List Int) (cols : List Nat) : Int := (cols.map fun j => s.liveMat i j * x.getD j 0).sum

/-- The right-hand side of an actuator's row in a sweep (R251); an actuator that keeps its value has the target of R252. -/
def State.rhs (s : State) (x : List Int) (b i : Nat) : Int :=
  let t := match s.fixedCode i with
    | some c => quotient (s.liveMat i i * (c * 256) + s.rowDot i x ((List.range 816).filter (· != i))) (2 ^ 14)
    | .none => s.target i
  quotient (t * 2 ^ 14 - s.rowDot i x ((List.range 816).filter fun j => blockOfAct j != b)) (2 ^ 14)

/-- One block-Jacobi sweep from a vector (R251, R252): every block solved against its factor, what is held overwritten, within the bound of R250. -/
def State.sweep (s : State) (x : List Int) : List Int :=
  (List.range 24).flatMap fun b =>
    let acts := blockActs b
    let l := s.factor b
    let sol := backwardSub l (forwardSub l (acts.map (s.rhs x b)))
    (List.range acts.length).map fun n => match s.fixedCode (acts.getD n 0) with
      | some c => c * 256
      | .none => clampInt (-solutionBound) solutionBound (sol.getD n 0)

/-- The solution of a stroke: exactly two sweeps from the vector applied in the stroke before (R251). -/
def State.solution (s : State) : List Int := s.sweep (s.sweep ((List.range 816).map fun i => Tab.read 0 s.lvl.hist1 i))

/-- A vector as a table. -/
def vecOf (f : Nat → Int) : Tab Int := (List.range 816).filterMap fun i => if f i = 0 then .none else some (i, f i)

/-! ## The Weir (R185) -/

/-- A code held to the Weir's limit from the last committed one. -/
def weir (limit old new : Nat) : Nat := if old < new then min new (old + limit) else max new (old - limit)

/-- Whether a seat's visit has a plausible result that goes live at this stroke's Finish (Table 7.2). -/
def State.resultNow (s : State) (k : Nat) : Option Visit :=
  (s.visitOf k).filter fun v => v.checked == some 0 && (match v.start with | .none => false | some st => st + 47 == s.now)

/-- Whether an actuator's member or cells change at this Finish (R256). -/
def State.changesNow (s : State) (i : Nat) : Bool := decide (i < 576) && (s.lvl.memberChanged.contains i || (s.resultNow i).isSome)

/-- Whether an actuator's code is not to move in this stroke: it is held, and no change of its member or cells gives it a new one (R252, R256). -/
def State.staysPut (s : State) (i : Nat) : Bool := s.actHeld i && !s.changesNow i

/-- A vector committed for cycle 960 (R36, R37, R185, R253): codes clamped, ring codes limited by the Weir; held actuators keep their
codes. -/
def State.commit (s : State) (x : Tab Int) : State :=
  let seats := (List.range 576).filter fun i => !s.staysPut i
  let s1 := seats.foldl (fun s i =>
    let u := s.seat i
    let c := codeOf (Tab.read 0 x i)
    let limit := s.rd (if u.state = SeatState.outOfService then Reg.WEI.HTR_STEP_OOS else Reg.WEI.HTR_STEP_STEP)
    let w := weir limit u.code c
    s.setSeat i { u with shadow := some w, clip := w != c, dither := s.ditherNow i }) s
  let clipped := (seats.filter fun i => (s1.seat i).clip).length
  let s2 := (s1.wr Reg.WEI.CLIP_LAST clipped).addTo Reg.WEI.CLIP_CNT (if clipped = 0 then 0 else 1)
  { s2 with lvl := { s2.lvl with vec := some x } }

/-- Codes of a vector that the conversion clamps (R253), of actuators that are not held. -/
def State.saturated (s : State) (x : Tab Int) : List Nat :=
  (List.range 816).filter fun i => !s.staysPut i && (rawCode (Tab.read 0 x i) < 0 || 0xFFFF < rawCode (Tab.read 0 x i))

/-- OUT_SAT for the clamped codes of a vector (R253). -/
def State.reportSat (s : State) (x : Tab Int) : State :=
  let sat := s.saturated x
  (s.addTo Reg.LVL.SAT_CNT sat.length).raise (sat.map fun i => detail Err.LVL.OUT_SAT (lvlInfo 31 0 i))

/-! ## Dirty blocks and REBUILD (R255, R259, R260) -/

/-- A block marked dirty. -/
def State.markDirty (s : State) (b : Nat) : State := s.wrBit Reg.LVL.REFACTOR b true

/-- The end of a bundle-adjustment run without a result (R263). -/
def State.baAbandon (s : State) (result : Nat) : State :=
  match s.flm.ba with
  | .none => s
  | some r =>
    let s := (((s.wr Reg.LVL.BA_LAST_RESULT result).wr Reg.LVL.BA_LAST_ITERS r.iter).wrB Reg.LVL.BA_LAST_COLD r.cold).bump
      Reg.LVL.BA_RUN_ABANDONED
    let s := s.wrPair Reg.LVL.BA_STAMP_LO Reg.LVL.BA_STAMP_HI s.stamp.word
    let s := (s.wr Reg.LVL.STAT_BA_STATE 0).wr Reg.LVL.STAT_BA_ITER 0
    let s := { s with flm := { s.flm with ba := if r.cold then some { r with result := some result } else .none, window := .none } }
    let info := lvlInfo 31 result 0x3FF
    match result with
    | 2 | 3 | 6 | 7 => s.raise1 ⟨Err.LVL.BA_ABANDON, info, r.iter * 2 ^ 16⟩
    | 4 | 5 => s.raise1 ⟨Err.LVL.BA_REJECT, info, r.iter * 2 ^ 16⟩
    | _ => s

/-- The running bundle adjustment, if one measures or iterates. -/
def State.baRunning (s : State) : Bool := s.rd Reg.LVL.STAT_BA_STATE != 0

/-- A contained thermal-miss state ends a bundle-adjustment run (R263). -/
def State.holdEndsBa (s : State) : State := if s.baRunning then s.baAbandon 7 else s

/-- The Leveller takes its base matrix from ROM: every block awaits its factor, and the calibration sequencer is to send every actuator's list again
(R260, R266). -/
def State.loadBase (s : State) : State :=
  let s := s.wr Reg.LVL.REFACTOR (2 ^ 24 - 1)
  { s with lvl := { s.lvl with
      loaded := true, shadow := [], live := [], applied := [], refactoring := .none, resend := List.range 576 } }

/-- REBUILD (R260). -/
def State.enterRebuild (s : State) : State :=
  let s := (s.wr Reg.LVL.STAT_THERMAL 4).loadBase
  let s := { s with lvl := { s.lvl with vec := .none } }
  (s.raise1 (detail Err.LVL.MATRIX_UE (lvlInfo 31 0 0x3FF))).holdEndsBa

/-- The Leveller at bring-up's load of calibration (R266). -/
def State.loadLeveller (s : State) : State := s.loadBase

/-! ## Solve and miss (R251 to R256) -/

/-- The code that a member or cells which change at this Finish give: the calibration entry's bias, interpolated plus offset (R256). -/
def State.changedCode (s : State) (i : Nat) : Int :=
  match s.resultNow i with
  | some v => (visitResult v (s.liveEntry i) (s.interpEntry i)).hbias
  | .none => (s.liveEntry i).hbias

/-- An actuator's value in a missed stroke (R256): its calibration code where its member or cells change, its own code where that is fixed, and
otherwise extrapolated from the last two vectors, or the last one where there is no other. -/
def State.missValue (s : State) (i : Nat) : Int :=
  if s.changesNow i then s.changedCode i * 256
  else match s.fixedCode i with
    | some c => c * 256
    | .none =>
      if s.lvl.depth < 2 then Tab.read 0 s.lvl.hist1 i else 2 * Tab.read 0 s.lvl.hist1 i - Tab.read 0 s.lvl.hist2 i

/-- A stroke's miss (Table 8.4): two of them apply the extrapolated vector, the third holds every actuator. -/
def State.solveMiss (s : State) : State :=
  let s := ((s.clampTargets).bump Reg.STK.OVR0_SOLVE).bump Reg.LVL.MISS_CNT_MISSES
  let s := s.wr Reg.LVL.SOLVE_TIME_LAST 0
  let s := { s with lvl := { s.lvl with solved := true } }
  let state := s.rd Reg.LVL.STAT_THERMAL
  let run := s.rd Reg.LVL.STAT_MISS_RUN
  if state = 3 then s
  else if state = 2 ∧ 2 ≤ run then
    let s := ((s.wr Reg.LVL.STAT_THERMAL 3).wr Reg.LVL.STAT_MISS_RUN 3).bump Reg.LVL.MISS_CNT_HOLDS
    (s.raise1 (detail Err.LVL.THERMAL_HOLD (lvlInfo 31 0 0x3FF))).holdEndsBa
  else
    let s := (s.wr Reg.LVL.STAT_THERMAL 2).wr Reg.LVL.STAT_MISS_RUN (run + 1)
    let x := vecOf s.missValue
    (((s.reportSat x).commit x)).raise1 (detail Err.LVL.SOLVE_MISS (lvlInfo 31 0 0x3FF))

/-- A solve that ended in time (R251 to R254). -/
def State.solveDone (s : State) (endCycle : Nat) : State :=
  let s := s.clampTargets
  let sol := s.solution
  let s := s.fresh.2
  let x := vecOf fun i => sol.getD i 0
  let s := (s.reportSat x).commit x
  let s := (s.wr Reg.LVL.SOLVE_TIME_LAST endCycle).wr Reg.LVL.SOLVE_TIME_MAX (max (s.rd Reg.LVL.SOLVE_TIME_MAX) endCycle)
  let s := (s.wr Reg.LVL.STAT_THERMAL 1).wr Reg.LVL.STAT_MISS_RUN 0
  { s with lvl := { s.lvl with solved := true } }

/-- Whether the Leveller solves in this stroke and has not ended yet. -/
def State.solveDue (s : State) : Bool :=
  let t := s.rd Reg.LVL.STAT_THERMAL
  s.running && (t == 1 || t == 2 || t == 3) && !s.lvl.solved

/-- THERMAL_SOLVE (R32, R251 to R255, R260): ends at `endCycle`, or is a miss where that lies after cycle 959; none ends before cycle 320. -/
def execThermalSolve (endCycle : Nat) (fault : SolveFault) (s : State) : Host.Outcome State Fault Refusal :=
  .next (
    if s.solveDue && decide (320 ≤ endCycle) then
      let ends := fun (s : State) => if endCycle ≤ 959 then s.solveDone endCycle else (s.atCycle 960).solveMiss
      let s := s.atCycle (min endCycle 959)
      match fault with
      | .none => ends s
      | .storeCe b => ends (s.raise1 (detail Err.LVL.STORE_CE (lvlInfo b 0 0x3FF)))
      | .factorUe b => (((s.markDirty b).raise1 (detail Err.LVL.FACTOR_UE (lvlInfo b 0 0x3FF))).atCycle 960).solveMiss
      | .matrixUe => { s.enterRebuild with lvl := { s.enterRebuild.lvl with solved := true } }
    else s)

/-- SOLVE_MISS (R255, R256). -/
def execSolveMiss (s : State) : Host.Outcome State Fault Refusal :=
  .next (if s.solveDue then (s.atCycle 960).solveMiss else s)

/-- The codes committed go live at cycle 960 (R33, R36, R256): ring heaters with the member choices, then Flume phases; the applied vectors move up. -/
def State.lvlFinish (s : State) : State :=
  let s := (s.seats.map (·.1)).foldl (fun s k =>
    let u := s.seat k
    s.setSeat k { u with
      code := u.shadow.getD u.code, shadow := .none, member := u.nextMember.getD u.member, nextMember := .none }) s
  match s.lvl.vec with
  | .none => { s with lvl := { s.lvl with memberChanged := [] } }
  | some x =>
    let held := s.actHeld
    let phases := (List.range 240).foldl (fun t k =>
      if held (576 + k) then t
      else Tab.write 0 t k (weir (s.phaseLimit (k / 2)) (Tab.read 0 t k) (codeOf (Tab.read 0 x (576 + k))))) s.flm.phase
    { s with
      flm := { s.flm with phase := phases }
      lvl := { s.lvl with vec := .none, hist1 := x, hist2 := s.lvl.hist1, depth := min (s.lvl.depth + 1) 2, memberChanged := [] } }

/-! ## Delta lists (R250, R258, R259) -/

/-- A list's entries set in an image, with their mirror positions (R258). -/
def applyDelta (t : Tab (Option Int)) (d : List DeltaEntry) : Tab (Option Int) :=
  d.foldl (fun t e => Tab.write .none (Tab.write .none t (matKey e.row e.col) (some e.value)) (matKey e.col e.row) (some e.value)) t

/-- The row on which a list fails Table 8.3, in the order of the checks. -/
def failingRow (t : Tab (Option Int)) (d : List DeltaEntry) : Option Nat :=
  let diag := d.find? fun e => e.row == e.col && !(decide (0x2000 ≤ e.value) && decide (e.value ≤ 0x7FFF))
  let off := d.find? fun e => e.row != e.col && decide (0x1000 < e.value.natAbs)
  let pat := d.find? fun e => blockOfAct e.row != blockOfAct e.col && !inPattern e.row e.col
  let rows := d.flatMap fun e => [e.row, e.col]
  let dom := rows.find? fun i => decide (4 * (matEntry t i i).natAbs < 5 * rowSum t i)
  (((diag.map (·.row)).orElse fun _ => off.map (·.row)).orElse fun _ => pat.map (·.row)).orElse fun _ => dom

/-- The diagonal blocks that a list touches inside a block. -/
def touchedBlocks (d : List DeltaEntry) : List Nat :=
  ((List.range 24).filter fun b => d.any fun e => blockOfAct e.row == b && blockOfAct e.col == b)

/-- Whether two lists must go live together (R259): they share a block that they touch, or a position. -/
def linked (a b : List DeltaEntry) : Bool :=
  (touchedBlocks a).any (touchedBlocks b).contains ||
    a.any fun x => b.any fun y => (x.row == y.row && x.col == y.col) || (x.row == y.col && x.col == y.row)

/-- An accepted list beside those that are not live yet: with each that it is linked to it makes one list, which goes live whole (R259). -/
def addApplied (old : List DeltaList) (d : List DeltaEntry) : List DeltaList :=
  let same := old.filter fun l => linked l.entries d
  old.filter (fun l => !linked l.entries d) ++
    [{ entries := same.flatMap (·.entries) ++ d, waiting := (same.flatMap (·.waiting) ++ touchedBlocks d).dedup, applied := true }]

/-- One list applied and checked at cycle 1040 (R258). A refactor in progress of a block that it dirties starts again (R259). -/
def State.applyList (s : State) (l : DeltaList) : State :=
  let t := applyDelta s.lvl.shadow l.entries
  match failingRow t l.entries with
  | some row =>
    (s.bump Reg.LVL.DELTA_CNT_REJECTED).raise1 ⟨Err.LVL.DELTA_REJECT, lvlInfo 31 0 row, rowRatio t row⟩
  | .none =>
    let blocks := touchedBlocks l.entries
    let s := blocks.foldl State.markDirty (s.bump Reg.LVL.DELTA_CNT_ACCEPTED)
    { s with lvl := { s.lvl with
        shadow := t
        applied := addApplied s.lvl.applied l.entries
        refactoring := s.lvl.refactoring.filter fun b => !blocks.contains b } }

/-- The list that the calibration sequencer sends again for an actuator from its live entry (R260, R266; log entry 186). -/
def State.resentList (s : State) (i : Nat) : List DeltaEntry :=
  (Config.actuatorList i (entryWord (s.activeEntry i))).map fun e => ⟨e.1, e.2.1, e.2.2⟩

/-- DELTA_LIST_APPLY (R258, R260, R266, Table 8.7): lists sent again first, then the queued ones in arrival order; senders that waited then fill the
queue. -/
def execDeltaListApply (s : State) : Host.Outcome State Fault Refusal :=
  .next (
    if s.running then
      let s := s.atCycle 1040
      if s.lvl.loaded then
        let again := ((s.lvl.resend.map s.resentList).filter isDelta).map fun d => (⟨d, [], false⟩ : DeltaList)
        let lists := again ++ s.lvl.queue
        lists.foldl State.applyList { s with lvl := { s.lvl with
          resend := [], queue := s.lvl.senders.take 8, senders := s.lvl.senders.drop 8 } }
      else s
    else s)

/-- The lowest dirty block. -/
def State.lowestDirty (s : State) : Option Nat := (setBits 24 (s.rd Reg.LVL.REFACTOR)).head?

/-- The block that the next refactor is of: one carried over from the last Recovery, else the lowest dirty one (R259). -/
def State.nextBlock (s : State) : Option Nat := s.lvl.refactoring.orElse fun _ => s.lowestDirty

/-- A block refactored: the lists that waited on it wait no longer (R259). -/
def State.refactorDone (s : State) (b : Nat) : State :=
  let s := (s.wrBit Reg.LVL.REFACTOR b false).bump Reg.LVL.REFACTOR_CNT
  { s with lvl := { s.lvl with
      refactoring := .none
      applied := s.lvl.applied.map fun l => { l with waiting := l.waiting.filter (· != b) } } }

/-- BLOCK_REFACTOR (R259, R260): the next dirty block, in Recovery. -/
def execBlockRefactor (fault : SolveFault) (s : State) : Host.Outcome State Fault Refusal :=
  .next (
    match s.running && s.lvl.loaded, s.nextBlock with
    | true, some b =>
      let s := s.atCycle (max 1040 s.clk.cycle)
      match fault with
      | .none => s.refactorDone b
      | .storeCe c => (s.raise1 (detail Err.LVL.STORE_CE (lvlInfo c 0 0x3FF))).refactorDone b
      | .factorUe c => (s.raise1 (detail Err.LVL.FACTOR_UE (lvlInfo c 0 0x3FF))).markDirty c
      | .matrixUe => s.enterRebuild
    | _, _ => s)

/-- REFACTOR_CARRY (R49, R259): the block in hand continues in the next Recovery; one count a Recovery. -/
def execRefactorCarry (s : State) : Host.Outcome State Fault Refusal :=
  .next (
    match s.running && !s.lvl.carried, s.nextBlock with
    | true, some b =>
      let s := (s.atCycle 1279).bump Reg.STK.OVR1_REFACTOR
      { s with lvl := { s.lvl with refactoring := some b, carried := true } }
    | _, _ => s)

/-- At cycle 0: lists whose blocks are all refactored go live whole (R259); a Leveller with every block factored starts or resumes
solving (Table 8.4); a new stroke's solve is to come. -/
def State.lvlBoundary (s : State) : State :=
  let ready := s.lvl.applied.filter (·.waiting.isEmpty)
  let live := ready.foldl (fun t l => applyDelta t l.entries) s.lvl.live
  let s := { s with lvl := { s.lvl with live := live, applied := s.lvl.applied.filter fun l => !l.waiting.isEmpty, solved := false, carried := false } }
  let t := s.rd Reg.LVL.STAT_THERMAL
  if s.lvl.loaded && (t == 0 || t == 4) && s.lvl.resend.isEmpty && s.rd Reg.LVL.REFACTOR == 0 then
    (s.wr Reg.LVL.STAT_THERMAL 1).wr Reg.LVL.STAT_MISS_RUN 0
  else s

/-- A write to LVL.CTRL: STAT_CLR zeroes the statistics (Table 8.8). -/
def State.wrLvlCtrl (data : Nat) (s : State) : State :=
  let s := s.writeFields 0x007 0x004 data
  if bitAt data 8 then
    [Reg.LVL.SOLVE_TIME_MAX, Reg.LVL.MISS_CNT_HOLDS, Reg.LVL.MISS_CNT_MISSES, Reg.LVL.DELTA_CNT_REJECTED,
      Reg.LVL.DELTA_CNT_ACCEPTED, Reg.LVL.BA_RUN_ABANDONED, Reg.LVL.BA_RUN_ACCEPTED, Reg.LVL.SAT_CNT,
      Reg.LVL.TGT_CLAMP_CNT].foldl (fun s f => s.wr f 0) s
  else s

/-- LVL_STAT_CLR (R254, Table 8.8). -/
def execLvlStatClr (via : Path) (s : State) : Host.Outcome State Fault Refusal :=
  .next (s.access via 0x007 0x004 (setBit (s.stored 0x007 0x004) 8) State.wrLvlCtrl)

/-! ## Bundle adjustment (R261 to R265) -/

/-- How many iterations and strokes a run may use (R265). -/
def State.baLimits (s : State) (cold : Bool) : Nat × Nat :=
  if cold then (8, 128) else (s.rd Reg.LVL.BA_CFG_ITER_MAX, s.rd Reg.LVL.BA_CFG_DEADLINE)

/-- The estimate as it stands: phase offsets, then coupler ratios (R237). -/
def State.estimateList (s : State) : List Int := (List.range 480).map fun i => Tab.read 0 s.flm.estimate i

/-- A run begins with its measurement window (R261). -/
def State.baStart (s : State) (cold : Bool) (window : Nat) : State :=
  let lim := s.baLimits cold
  let s := ((s.wr Reg.LVL.STAT_BA_STATE 1).wrB Reg.LVL.STAT_BA_COLD cold).wr Reg.LVL.STAT_BA_ITER 0
  let run : BaRun :=
    { cold := cold, began := s.now, windowEnd := s.now + window, iter := 0, iterBegan := 0, maxIter := lim.1, deadline := lim.2,
      estimate := s.estimateList, hasPrevious := s.flm.estLoaded, result := .none, samples := [] }
  { s with flm := { s.flm with ba := some run } }

/-- How many samples a window has taken. -/
def BaRun.taken (r : BaRun) : Nat := (r.samples.map (·.2.length)).sum

/-- How many of them were discarded. -/
def BaRun.discarded (r : BaRun) : Nat := (r.samples.map fun x => (x.2.filter (·.2.isNone)).length).sum

/-- BA_WINDOW_END (R261, R263): the window's samples are enough, or, with more than one eighth of them discarded, the run ends with SAMPLES. The operands
count those of strokes for which no MONITOR_SAMPLE of the Flume was placed (log entry 200). -/
def execBaWindowEnd (discarded total : Nat) (s : State) : Host.Outcome State Fault Refusal :=
  .next (
    match s.flm.ba with
    | .none => s
    | some r =>
      if s.rd Reg.LVL.STAT_BA_STATE = 1 ∧ r.windowEnd ≤ s.now then
        let s := { s with flm := { s.flm with window := .none } }
        if r.taken + total < 8 * (r.discarded + discarded) then s.baAbandon 6
        else
          let s := (s.wr Reg.LVL.STAT_BA_STATE 2).wr Reg.LVL.STAT_BA_ITER 1
          { s with flm := { s.flm with ba := some { r with iter := 1, iterBegan := if r.cold then r.windowEnd else s.now } } }
      else s)

/-- An estimate with an update added, in the 16-bit formats of Table 8.2. -/
def addUpdate (est upd : List Int) : List Int := (List.range 480).map fun i => signedOf 16 (bitsOfInt 16 (est.getD i 0 + upd.getD i 0))

/-- The largest magnitude of an update. -/
def maxMagnitude (upd : List Int) : Nat := upd.foldl (fun m x => max m x.natAbs) 0

/-- Whether an estimate is plausible (Table 8.5, IMPLAUSIBLE): ratios, and phase moves from the previous estimate, which a cold run without one
skips (R263). -/
def plausible (est prev : List Int) (skipMoves : Bool) : Bool :=
  let ratios := (List.range 240).all fun i => decide ((est.getD (240 + i) 0).natAbs ≤ 0x2666)
  let moves := (List.range 240).all fun i => decide ((signedOf 16 (bitsOfInt 16 (est.getD i 0 - prev.getD i 0))).natAbs ≤ 0x2000)
  ratios && (skipMoves || moves)

/-- An accepted run (R263, R264): its estimate goes live at the next cycle 0, or, for a cold run, at the end of its 1,536 strokes. -/
def State.baAccept (s : State) (r : BaRun) (est : List Int) : State :=
  let s := (((s.wr Reg.LVL.BA_LAST_RESULT 1).wr Reg.LVL.BA_LAST_ITERS r.iter).wrB Reg.LVL.BA_LAST_COLD r.cold).bump
    Reg.LVL.BA_RUN_ACCEPTED
  let s := s.wrPair Reg.LVL.BA_STAMP_LO Reg.LVL.BA_STAMP_HI s.stamp.word
  let s := (s.wr Reg.LVL.STAT_BA_STATE 0).wr Reg.LVL.STAT_BA_ITER 0
  { s with
    flm := { s.flm with
      ba := if r.cold then some { r with estimate := est, result := some 1 } else .none
      nextEstimate := if r.cold then s.flm.nextEstimate else some est } }

/-- When the iteration after iteration `i` of a run begins: at the end of the one before, or, in a cold run, with the next of its eight slots of 128
strokes (R265). -/
def State.nextSlot (s : State) (r : BaRun) : Nat := if r.cold then r.windowEnd + 128 * r.iter else s.now

/-- BA_ITERATION (R262, R263, R265): the slice that ends an iteration, in a stroke whose thermal solve did not miss. -/
def execBaIteration (pivotOk : Bool) (update : List Int) (s : State) : Host.Outcome State Fault Refusal :=
  .next (
    match s.flm.ba with
    | .none => s
    | some r =>
      if s.rd Reg.LVL.STAT_BA_STATE = 2 ∧ s.rd Reg.LVL.STAT_THERMAL = 1 ∧ s.lvl.solved ∧ r.iterBegan ≤ s.now ∧
          s.now < r.iterBegan + r.deadline then
        let s := s.atCycle 959
        if !pivotOk then s.baAbandon 3
        else
          let est := addUpdate r.estimate update
          let m := maxMagnitude update
          let s := s.wr Reg.LVL.BA_UPDATE (min m 0xFFFF)
          if m ≤ s.rd Reg.LVL.BA_CFG_TOL then
            if plausible est s.estimateList (r.cold && !r.hasPrevious) then s.baAccept r est else s.baAbandon 5
          else if r.maxIter ≤ r.iter then s.baAbandon 4
          else
            let s := s.wr Reg.LVL.STAT_BA_ITER (r.iter + 1)
            { s with flm := { s.flm with ba := some { r with estimate := est, iter := r.iter + 1, iterBegan := s.nextSlot r } } }
      else s)

/-- BA_DEADLINE (R49, R263). -/
def execBaDeadline (s : State) : Host.Outcome State Fault Refusal :=
  .next (
    match s.flm.ba with
    | .none => s
    | some r =>
      if s.rd Reg.LVL.STAT_BA_STATE = 2 ∧ r.iterBegan + r.deadline ≤ s.now then (s.bump Reg.STK.OVR1_MESH).baAbandon 2 else s)

end Sys2Proof.Machine
end

