-- ==== Sys2Proof/Machine/Datum.lean ====
section
/-! DEFINITION. The thermal sensors and the datum (R205 to R213). -/

namespace Sys2Proof.Machine

/-! ## Temperature (R211 to R213) -/

/-- The key under which the die-wide part of THM's runs is held: `trip` tells that the TRIP condition is present, `cool` counts the
strokes with every valid sensor below 110 °C (Table 13.2). -/
def dieSensor : Nat := 20

/-- A reading within −40 to 150 °C (R212). -/
def sensorValid (t : Int) : Bool := decide (-2560 ≤ t) && decide (t ≤ 9600)

/-- A mean, whose rounding the spec does not give (log entry 15). -/
def meanOf (l : List Int) : Int :=
  let t := l.foldl (· + ·) 0
  let n := l.length
  let q := t / (n : Int)
  if t % (n : Int) = 0 then q else if Config.meanUp t n then q + 1 else q

/-- A run that stops at `n`, and stays at `n + 1` once its event has been detected. -/
def runTo (n run : Nat) (holds : Bool) : Nat := if holds then (if run < n then run + 1 else run) else 0

/-- A sensor after a reading (R212, R213). -/
def sensorAfter (x : Sensor) (t : Int) : Sensor :=
  let ok := sensorValid t
  { x with
    hist := (t :: x.hist).take 16
    hot := runTo 16 x.hot (ok && decide (6720 < t))
    cold := runTo 16 x.cold (ok && decide (t < 0))
    trip := runTo 4 x.trip (ok && decide (7360 ≤ t)) }

/-- The sensor that stands in for a faulted port sensor: the nearest valid one of its group of four ports, lowest number first. -/
def substitute (valid : Nat → Bool) (p : Nat) : Option Nat :=
  let group := (List.range 4).map (p / 4 * 4 + ·)
  ([1, 2, 3].flatMap fun d => group.filter fun q => q + d == p || p + d == q).find? valid

/-- A port's temperature (R212). -/
def State.portMean (s : State) (valid : Nat → Bool) (p : Nat) : Int :=
  if valid p then meanOf (s.sensor p).hist
  else
    match substitute valid p with
    | some q => meanOf (s.sensor q).hist
    | .none =>
      match ([16, 17, 18, 19].filter valid).map fun n => meanOf (s.sensor n).hist with
      | [] => Config.noSensor s.freeCount
      | l => meanOf l

/-- ERR_INFO0 of a thermal event (Table 7.11). -/
def thmInfo (n : Nat) (t : Int) : Nat := bitsOfInt 16 t * 2 ^ 16 + n

/-- The 20 sensors read (R211, R212). -/
def State.readSensors (s : State) (temps : List Int) : State :=
  let t := fun n => temps.getD n 0
  let valid := fun n => sensorValid (t n)
  let s := (List.range 20).foldl (fun s n =>
    ((s.setSensor n (sensorAfter (s.sensor n) (t n))).wrI (Reg.THM.SENS_TEMP n) (t n)).wrB (Reg.THM.SENS_FAULT n) (!valid n)) s
  let cool := ((List.range 20).filter valid).all fun n => decide (t n < 7040)
  let d := s.sensor dieSensor
  let run := if cool then min (d.cool + 1) 16 else 0
  let s := s.setSensor dieSensor { d with cool := run, trip := if 16 ≤ run then 0 else d.trip }
  let s := ((List.range 16).foldl (fun s p => s.wrI (Reg.THM.PORT_T p) (s.portMean valid p)) s).fresh.2
  s.raise (((List.range 20).filter fun n => !valid n).map fun n => detail Err.THM.SENSOR (thmInfo n (t n)))

/-- THERMAL_READ (R211, R212), in 1/64 °C. -/
def execThermalRead (temps : List Int) (s : State) : Host.Outcome State Fault Refusal :=
  .next (if s.running then (s.atCycle 159).readSensors temps else s)

/-- THM_HOT (R213): detected once, in the stroke that completes the sensor's run of 16. -/
def execThmHot (n : Nat) (s : State) : Host.Outcome State Fault Refusal :=
  .next (
    let x := s.sensor n
    if s.running && decide (n < 20) && x.hot == 16 then
      ((s.atCycle 159).setSensor n { x with hot := 17 }).raise1 (detail Err.THM.HOT (thmInfo n (x.hist.headD 0)))
    else s)

/-- THM_COLD (R213). -/
def execThmCold (n : Nat) (s : State) : Host.Outcome State Fault Refusal :=
  .next (
    let x := s.sensor n
    if s.running && decide (n < 20) && x.cold == 16 then
      ((s.atCycle 159).setSensor n { x with cold := 17 }).raise1 (detail Err.THM.COLD (thmInfo n (x.hist.headD 0)))
    else s)

/-- THM_TRIP (R213): the fatal event, whose condition is present from here (Table 13.2). -/
def execThmTrip (n : Nat) (s : State) : Host.Outcome State Fault Refusal :=
  .next (
    let x := s.sensor n
    if s.running && decide (n < 20) && x.trip == 4 then
      let s := (s.atCycle 159).setSensor n { x with trip := 5 }
      let s := s.setSensor dieSensor { s.sensor dieSensor with trip := 1, cool := 0 }
      s.raise1 (detail Err.THM.TRIP (thmInfo n (x.hist.headD 0)))
    else s)

/-! ## The datum (R207 to R210) -/

/-- A datum power within −11.0 to −9.0 dBm. -/
def datumInRange (pwr : Int) : Bool := decide (-1100 ≤ pwr) && decide (pwr ≤ -900)

/-- Whether a scale has moved by more than 0.05 dB, that is by more than the 200th root of 10 (R209). -/
def scaleMoved (a b : BitVec 16) : Bool := decide (10 * b.toNat ^ 200 < a.toNat ^ 200) || decide (10 * a.toNat ^ 200 < b.toNat ^ 200)

/-- The datum in a state, its runs begun afresh; GLB.STAT.UNTRACED is 0 only in TRACED (R207), and a visit under way outside it renews no set (R229). -/
def State.datumTo (s : State) (st : Nat) : State :=
  let s := (s.wr Reg.DTM.STAT_STATE st).wrB Reg.GLB.STAT_UNTRACED (st != 2)
  { s with
    datum := { s.datum with presentRun := 0, lowRun := 0, badRun := 0, acquireAt := if st = 1 then s.now else s.datum.acquireAt }
    cal := { s.cal with visits := if st = 2 then s.cal.visits else s.cal.visits.map fun v => { v with traced := false } } }

/-- DATUM_MEASURE (R207, R209): power in 0.01 dBm, whether the reference ring is in lock, and the scale that makes the datum read
−10.00 dBm, which is tracked while TRACED. -/
def execDatumMeasure (pwr : Int) (locked : Bool) (scale : BitVec 16) (s : State) : Host.Outcome State Fault Refusal :=
  .next (
    if s.running then
      let s := (s.atCycle 159).wrI Reg.DTM.PWR pwr
      let st := s.rd Reg.DTM.STAT_STATE
      let d := s.datum
      let bad := !datumInRange pwr || !locked
      let traced := st == 2
      let sc := if traced then scale else d.scale
      { s with datum := { d with
          presentRun := runTo 16 d.presentRun (decide (-1300 ≤ pwr) && st == 0)
          lowRun := runTo 16 d.lowRun (decide (pwr < -1300) && (st == 2 || st == 3))
          badRun := runTo 16 d.badRun (bad && traced)
          badReason := if bad then (if datumInRange pwr then 2 else 1) else d.badReason
          scale := sc
          due := d.due || (traced && (match d.written with | .none => true | some w => scaleMoved sc w)) } }
    else s)

/-- DATUM_DETECTED (R207): the reference-ring search starts. -/
def execDatumDetected (s : State) : Host.Outcome State Fault Refusal :=
  .next (if s.rd Reg.DTM.STAT_STATE = 0 ∧ 16 ≤ s.datum.presentRun then s.datumTo 1 else s)

/-- The datum rejected for a reason (Table 7.1). -/
def State.datumReject (s : State) (reason : Nat) : State := ((s.datumTo 3).wr Reg.DTM.STAT_REASON reason).raise1 (plain Err.DTM.DATUM_REJECTED)

/-- The inputs with an open headgate and their measured offset of L08, in 0.1 GHz (R208). -/
def State.gridOffsets (s : State) (ofs : List (Option Int)) : List (Nat × Int) :=
  (List.range 4).filterMap fun x =>
    if s.flag (Reg.HGT.HG_STAT_OPEN x) then (ofs.getD x .none).map fun o => (x, o) else .none

/-- DATUM_ACQUIRE_END (R207, R208). -/
def execDatumAcquireEnd (pwr : Int) (locked : Bool) (scale ringCode : BitVec 16) (ofs : List (Option Int)) (s : State) :
    Host.Outcome State Fault Refusal :=
  .next (
    if s.rd Reg.DTM.STAT_STATE = 1 then
      let g := s.gridOffsets ofs
      let s := g.foldl (fun s x => s.wrI (Reg.DTM.LINE_OFS x.1) x.2) s
      let s := if g.any fun x => decide (150 < x.2.natAbs) then s.raise1 (plain Err.DTM.LINE_OFFSET) else s
      let gridFails := !g.isEmpty && g.all fun x => decide (200 < x.2.natAbs)
      if !locked || decide (s.datum.acquireAt + 64 < s.now) then s.datumReject 2
      else if !datumInRange pwr then s.datumReject 1
      else if gridFails then s.datumReject 3
      else
        let s := s.datumTo 2
        let s := s.wrPair Reg.DTM.TRACE_STAMP_LO Reg.DTM.TRACE_STAMP_HI s.stamp.word
        { s with datum := { s.datum with scale := scale, ringCode := ringCode, due := true } }
    else s)

/-- DATUM_LOST (R207, R210): the last traced scale is kept. -/
def execDatumLost (s : State) : Host.Outcome State Fault Refusal :=
  .next (
    if s.rd Reg.DTM.STAT_STATE = 2 ∧ 16 ≤ s.datum.lowRun then (s.datumTo 0).raise1 (plain Err.DTM.DATUM_LOST) else s)

/-- DATUM_REJECTED (R207). -/
def execDatumRejected (s : State) : Host.Outcome State Fault Refusal :=
  .next (if s.rd Reg.DTM.STAT_STATE = 2 ∧ 16 ≤ s.datum.badRun then s.datumReject s.datum.badReason else s)

/-- DATUM_ABSENT (R207). -/
def execDatumAbsent (s : State) : Host.Outcome State Fault Refusal :=
  .next (if s.rd Reg.DTM.STAT_STATE = 3 ∧ 16 ≤ s.datum.lowRun then s.datumTo 0 else s)

/-- A write to DTM.CTRL: REACQUIRE restarts the search outside ABSENT (Table 7.1). -/
def State.wrDtmCtrl (data : Nat) (s : State) : State :=
  let s := s.writeFields 0x014 0x004 data
  if bitAt data 8 && s.rd Reg.DTM.STAT_STATE != 0 then s.datumTo 1 else s

/-- REACQUIRE (R207). -/
def execReacquire (via : Path) (s : State) : Host.Outcome State Fault Refusal :=
  .next (s.access via 0x014 0x004 (setBit (s.stored 0x014 0x004) 8) State.wrDtmCtrl)

end Sys2Proof.Machine
end

