-- ==== Sys2Proof/Machine/Calib.lean ====
section
/-! DEFINITION. Seat visits and full passes (R218 to R230). -/

namespace Sys2Proof.Machine

/-- A seat a visit may start on (R220): LOCKED or HOT_SPARE, with no change of state under way, and not in loss of signal. -/
def State.visitable (s : State) (k : Nat) : Bool :=
  let u := s.seat k
  (u.state == .locked || u.state == .hotSpare) && u.next.isNone && !s.seatDark k && (s.visitOf k).isNone && !s.quenchedSeat k

/-- The visits on a port. -/
def State.portVisits (s : State) (p : Nat) : List Visit := s.cal.visits.filter fun v => v.seat.port.val == p

/-- Whether a port is in a full pass. -/
def State.passing (s : State) (p : Nat) : Bool := bitAt (s.rd Reg.CAL.PASS_ACTIVE) p

/-- The pair a pass is at. -/
def State.passPair (s : State) (p : Nat) : Nat := Tab.read 0 s.cal.passAt p

/-- The state with a pass at a pair. -/
def State.setPassPair (s : State) (p k : Nat) : State := { s with cal := { s.cal with passAt := Tab.write 0 s.cal.passAt p k } }

/-- The key of a seat at a place of the background cursor (R220): TX S00, RX S00, TX S01 and so on. -/
def cursorSeat (p i : Nat) : Nat := seatKey p (if i % 2 = 0 then .tx else .rx) (i / 2)

/-- The place that a background visit takes next: from the cursor on, past seats it skips (R220). -/
def State.nextCursor (s : State) (p : Nat) : Option Nat :=
  let c := Tab.read 0 s.cal.cursor p
  ((List.range 36).map fun d => (c + d) % 36).find? fun i => s.visitable (cursorSeat p i)

/-- Whether a visit of the pass may start on a seat now (R222): at its pair, a transmit seat together with its receive partner. -/
def State.passTurn (s : State) (p : Nat) (side : Side) (k : Nat) : Bool :=
  let partner := seatKey p .rx k
  s.passing p && k == s.passPair p && s.visitable (seatKey p side k) &&
    (match side with
     | .rx => true
     | .tx =>
       match s.visitOf partner with
       | some v => v.start == some (s.now + 1)
       | .none => !s.visitable partner)

/-- A visit that starts: its seat leaves at the next cycle 0, its lane at the Finish; a receive seat with a lane first waits for the
peer's move (R224, R496). -/
def State.startVisit (s : State) (u : SeatId) (pass : Bool) : State :=
  let k := idKey u
  let p := u.port.val
  let lane := s.laneOfSeat k
  let waits := u.side == .rx && lane.isSome && s.linkUp p
  let v : Visit :=
    { seat := u, start := if waits then .none else some (s.now + 1), narrow := false, pass := pass, scans := [], lockpt := .none,
      mbias := .none, icap := .none, hcell := .none, checked := .none, stepAt := .none, skipAt := .none,
      traced := s.rd Reg.DTM.STAT_STATE == 2, ended := false }
  let s1 := { s with cal := { s.cal with visits := s.cal.visits ++ [v] } }
  let s2 := match lane with
    | .none => s1
    | some l => s1.laneLeaves k l .move .swapReq (s.causeOf k .visit 0)
  if waits then s2 else s2.pend k .outOfService

/-- VISIT_START (R220, R222, R224, R245): the seat whose turn it is, in the background or in a pass. -/
def execVisitStart (u : SeatId) (s : State) : Host.Outcome State Fault Refusal :=
  .next (
    let p := u.port.val
    if s.running && !s.safe then
      if s.passTurn p u.side u.seat.val then s.startVisit u true
      else
        match s.nextCursor p with
        | .none => s
        | some i =>
          if cursorSeat p i = idKey u ∧ s.flag Reg.CAL.CTRL ∧ 7 ≤ s.stepNo ∧ !s.passing p ∧
              Tab.read 0 s.cal.nextVisit p ≤ s.now then
            let s := s.startVisit u false
            { s with cal := { s.cal with
                cursor := Tab.write 0 s.cal.cursor p ((i + 1) % 36)
                nextVisit := Tab.write 0 s.cal.nextVisit p (s.now + s.rd Reg.CAL.BG_GAP) } }
          else s
    else s)

/-- The first check of Table 7.3 that a result fails, 0 where it passes all. -/
def firstFailing (v : Visit) (r interp : CalEntry) : Nat :=
  if (bestScan v.scans).isNone then 1
  else if r.hbias < 0x0400 ∨ 0xF000 < r.hbias then 2
  else if 0x2000 < (r.hbias - interp.hbias).natAbs then 3
  else if countBits 6 r.hcell ≠ 4 then 4
  else if r.icap < 8 ∨ 31 < r.icap ∨ 4 < (r.icap - interp.icap).natAbs then 5
  else if v.seat.side = .tx ∧ (r.mbias < 0x20 ∨ 0xE0 < r.mbias) then 6
  else if r.lockpt < -1536 ∨ 1535 < r.lockpt then 7
  else 0

/-- Whether a visit has finished every step before its checks (Table 7.2). -/
def stepsDone (v : Visit) : Bool :=
  v.scans.length == 3 && v.lockpt.isSome && v.icap.isSome && v.hcell.isSome && (v.seat.side == .rx || v.mbias.isSome)

/-- Whether a visit's scans are over with no usable member, so that nothing further is measured (R225). -/
def noMember (v : Visit) : Bool := v.scans.length == 3 && (bestScan v.scans).isNone

/-- Whether a step rests on a sample of the seat's channel, so that a discarded one defers it (R166; log entry 188). -/
def needsSample : StepResult → Bool
  | .sweep | .scanned _ _ | .lockPoint _ | .modBias _ | .capUnits _ => true
  | .discarded | .cells _ | .checks => false

/-- A visit after one step's result in its stroke v + n (Table 7.2, R225): three scans of 12 strokes, the active member's last; then, from v + 36, lock
point, modulator bias of a transmit seat and capacitor units, on the best member; from v + 44 the cells; and in v + 46 the checks, with which a
visit's steps are over. A step out of its place changes nothing. -/
def visitStep (v : Visit) (n active : Nat) (r : StepResult) (live near : CalEntry) : Visit :=
  let k := v.scans.length
  let tx := v.seat.side == .tx
  if v.checked.isSome then v
  else
    match r with
    | .sweep | .discarded => v
    | .scanned m h =>
      if k < 3 ∧ 12 * k + 11 ≤ n ∧ (k = 2 ↔ m.val = active) ∧ !(v.scans.any fun x => x.1 == m.val) then
        { v with scans := v.scans ++ [(m.val, h.map (·.toNat))] }
      else v
    | .lockPoint x => if k = 3 ∧ 36 ≤ n then { v with lockpt := some (signedOf 12 x.toNat) } else v
    | .modBias b => if tx ∧ v.lockpt.isSome ∧ 36 ≤ n then { v with mbias := some b.toNat } else v
    | .capUnits u => if v.lockpt.isSome ∧ (!tx || v.mbias.isSome) ∧ 36 ≤ n then { v with icap := some u.toNat } else v
    | .cells c => if v.icap.isSome ∧ 44 ≤ n then { v with hcell := some c } else v
    | .checks => if n = 46 ∧ (stepsDone v || noMember v) then { v with checked := some (firstFailing v (visitResult v live near) near) } else v

/-- The state with a seat's visit changed. -/
def State.setVisit (s : State) (k : Nat) (v : Visit) : State :=
  { s with cal := { s.cal with visits := s.cal.visits.map fun x => if idKey x.seat = k then v else x } }

/-- A visit's step that was not computed in this stroke (R49, R166, R252). -/
def State.skipStep (s : State) (k : Nat) (v : Visit) : State := s.setVisit k { v with skipAt := some s.now }

/-- CALIBRATION_STEP (R166, R224, R225, R258): a step of strokes v to v + 46; the checks of a plausible result send the delta list. A step whose
sample was discarded, or that overran, is computed in the next stroke. -/
def execCalibrationStep (u : SeatId) (r : StepResult) (delta : List DeltaEntry) (s : State) : Host.Outcome State Fault Refusal :=
  .next (
    let k := idKey u
    match s.visitOf k with
    | .none => s
    | some v =>
      match v.start with
      | .none => s
      | some st =>
        if s.running && !s.safe && decide (st ≤ s.now) && decide (s.now ≤ st + 46) && v.skipAt != some s.now then
          let s := s.atCycle 959
          if r == .discarded || (needsSample r && !(s.chan (seatChanKey k)).clean) then s.skipStep k v
          else
            let v1 := visitStep v (s.now - st) (s.seat k).member r (s.liveEntry k) (s.interpEntry k)
            let s := s.setVisit k { v1 with stepAt := some s.now }
            if v.checked.isNone && v1.checked == some 0 then s.queueDelta delta else s
        else s)

/-- CALSTEP_OVERRUN (R49): the step is recomputed in the next stroke. -/
def execCalstepOverrun (u : SeatId) (s : State) : Host.Outcome State Fault Refusal :=
  .next (
    match s.running, s.visitOf (idKey u) with
    | true, some v => ((s.atCycle 959).bump Reg.STK.OVR0_CALSTEP).skipStep (idKey u) v
    | _, _ => s)

/-- A plausible result goes live (R219): offsets from the interpolated values, choices, and the seat's member; the marks of timed-out members end. -/
def State.visitLive (s : State) (k : Nat) (r interp : CalEntry) : State :=
  let s := s.setLiveCal k
    { pref2 := r.pref2, pref3 := r.pref3, member := r.member, unusable := r.unusable, timedOut := 0,
      hcell := some (BitVec.ofNat 6 r.hcell), dHbias := r.hbias - interp.hbias, dMbias := r.mbias - interp.mbias,
      dLockpt := r.lockpt - interp.lockpt, dIcap := r.icap - interp.icap }
  let s := s.setSeat k { s.seat k with member := r.member, nextMember := .none, target := r.hbias }
  { s with lvl := { s.lvl with memberChanged := s.lvl.memberChanged ++ [k] } }

/-- The set whose temperature lies within 1.0 °C of a port's (R229). -/
def nearSet (t : Int) : Option Nat := (List.range 5).find? fun k => decide ((t - setTemp k).natAbs ≤ 64)

/-- The renewal of a set's entry by a visit made while TRACED, and the offsets against the renewed set (R229, Table 7.8). -/
def State.renewSet (s : State) (k : Nat) (v : Visit) (r : CalEntry) : State :=
  match v.traced && s.rd Reg.DTM.STAT_STATE == 2, nearSet (s.portTemp (portOfSeat k)) with
  | true, some set =>
    let s := { s with cal := { s.cal with
      sets := Tab.write 0 s.cal.sets (set * 576 + k) (entryWord r)
      dirty := if s.cal.dirty.contains set then s.cal.dirty else s.cal.dirty ++ [set] } }
    s.visitLive k r (s.interpEntry k)
  | _, _ => s

/-- The end of a port's full pass (R221): its count, and its new reference temperature. -/
def State.endPass (s : State) (p : Nat) : State :=
  let s := (s.wrBit Reg.CAL.PASS_ACTIVE p false).bump Reg.CAL.PASS_CNT
  (s.wrHalf (Reg.CAL.REF_TEMP (p / 2)) (p % 2) (s.rd (Reg.THM.PORT_T p))).setPassPair p 0

/-- A pass with no visit under way goes on to the next pair that has a seat to visit, or ends (R222). -/
def State.advancePass (s : State) (p from' : Nat) : State :=
  if s.passing p && (s.portVisits p).isEmpty then
    match ((List.range 18).filter (from' ≤ ·)).find? fun k => s.visitable (seatKey p .tx k) || s.visitable (seatKey p .rx k) with
    | some k => s.setPassPair p k
    | .none => s.endPass p
  else s

/-- VISIT_END (R224, R225, R228, R229), at cycle 960 of stroke v + 47. -/
def execVisitEnd (u : SeatId) (s : State) : Host.Outcome State Fault Refusal :=
  .next (
    let k := idKey u
    let p := u.port.val
    match s.visitOf k with
    | .none => s
    | some v =>
      match v.start with
      | .none => s
      | some st =>
        if s.running && !s.safe && st + 47 == s.now then
          let s := (s.atCycle 960).dropVisit k
          let interp := s.interpEntry k
          let r := visitResult v (s.liveEntry k) interp
          let s := match v.checked with
            | some 0 => ((((s.visitLive k r interp).renewSet k v r).latchOutputs).bump Reg.CAL.VISIT_CNT).pend k .hotSpare
            | some n => ((s.raise1 (detail Err.CAL.IMPLAUSIBLE (visitInfo k n))).bump Reg.CAL.FAIL_CNT).pend k .search
            | .none => ((s.raise1 (detail Err.CAL.VISIT_FAIL (visitInfo k 0))).bump Reg.CAL.FAIL_CNT).pend k .search
          if v.pass then s.advancePass p (u.seat.val + 1) else s
        else s)

/-- A full pass asked of a port that neither passes nor waits (R221, Table 7.8). -/
def State.queuePass (s : State) (p : Nat) : State :=
  if s.passing p || bitAt (s.rd Reg.CAL.PASS_QUEUED) p then s else s.wrBit Reg.CAL.PASS_QUEUED p true

/-- A write to CAL.PASS_REQ. -/
def State.wrPassReq (data : Nat) (s : State) : State := (setBits 16 data).foldl State.queuePass s

/-- PASS_REQ (R221). -/
def execPassReq (via : Path) (ports : BitVec 16) (s : State) : Host.Outcome State Fault Refusal :=
  .next (s.access via 0x006 0x04C ports.toNat State.wrPassReq)

/-- A port's reference temperature. -/
def State.refTemp (s : State) (p : Nat) : Int := signedOf 16 (s.rdHalf (Reg.CAL.REF_TEMP (p / 2)) (p % 2))

/-- PASS_TRIGGER (R221, R461). -/
def execPassTrigger (p : Fin 16) (s : State) : Host.Outcome State Fault Refusal :=
  .next (
    if s.running && decide (7 ≤ s.stepNo) && decide (s.rd Reg.CAL.DT_TRIG * 8 < (s.portTemp p.val - s.refTemp p.val).natAbs) then
      s.queuePass p.val
    else s)

/-- Whether a seat has come to rest after lock (Table 14.2, step 5). -/
def SeatState.settled : SeatState → Bool
  | .locked | .hotSpare | .failed => true
  | .idle | .search | .lost | .outOfService => false

/-- Whether every seat of a port is LOCKED, HOT_SPARE or FAILED. -/
def State.portSettled (s : State) (p : Nat) : Bool :=
  (List.range 36).all fun i => (s.seat (36 * p + i)).state.settled && (s.seat (36 * p + i)).next.isNone

/-- Whether a port has a seat that a pass could visit, and, before the link step, has all its seats settled (R222, R244). -/
def State.passable (s : State) (p : Nat) : Bool :=
  ((List.range 36).any fun i => s.visitable (36 * p + i)) && (decide (7 ≤ s.stepNo) || s.portSettled p)

/-- The waiting port whose pass comes next (R223): the lowest that has a seat to visit, or a visit under way, which its pass then waits for. -/
def State.nextPass (s : State) : Option Nat :=
  (setBits 16 (s.rd Reg.CAL.PASS_QUEUED)).find? fun q => !(s.portVisits q).isEmpty || s.passable q

/-- PASS_START (R223, Table 7.8): the next waiting port, with no visit under way, while fewer than PASS_MAX pass. -/
def execPassStart (p : Fin 16) (s : State) : Host.Outcome State Fault Refusal :=
  .next (
    if s.running && !s.safe && s.nextPass == some p.val && (s.portVisits p.val).isEmpty &&
        decide (countBits 16 (s.rd Reg.CAL.PASS_ACTIVE) < s.rd Reg.CAL.PASS_MAX) then
      ((s.wrBit Reg.CAL.PASS_QUEUED p.val false).wrBit Reg.CAL.PASS_ACTIVE p.val true).advancePass p.val 0
    else s)

/-- A passing port with no visit under way keeps looking for its next pair, as seats come and go (R222). -/
def State.passBoundary (s : State) : State :=
  (setBits 16 (s.rd Reg.CAL.PASS_ACTIVE)).foldl (fun s p => s.advancePass p (s.passPair p)) s

/-- A receive seat's visit whose lane the peer has moved or dropped (R496): stroke v is the next one. -/
def State.visitMoved (s : State) (k : Nat) (narrow : Bool) : State :=
  match s.visitOf k with
  | .none => s
  | some v =>
    if v.start.isSome then s
    else (s.setVisit k { v with start := some (s.now + 1), narrow := narrow, traced := s.rd Reg.DTM.STAT_STATE == 2 }).pend k .outOfService

end Sys2Proof.Machine
end

