-- ==== Sys2Proof/Machine/Wire.lean ====
section
/-! DEFINITION. The bits on the culverts: flits, request descriptors and sideband packets, as Tolfa sends them and as it reads what
arrives (R56 to R58, R68, R86, R122 to R124). -/

namespace Sys2Proof.Machine

/-- A list of bytes filled up with zeros, or cut, to a length. -/
def fitBytes (n : Nat) (bs : List Byte) : List Byte := (bs ++ List.replicate (n - bs.length) 0).take n

/-- Bit `i` of a byte list: bit `i mod 8` of byte `i / 8`. -/
def bitOfBytes (bs : List Byte) (i : Nat) : Bool := (bs.getD (i / 8) 0).getLsbD (i % 8)

/-! ## PRBS31 -/

/-- A PRBS31 register after one bit, and that bit: x^31 + x^28 + 1 (R271; for TRAIN flits log entry 168). -/
def prbs31Step (r : BitVec 31) : Bool × BitVec 31 :=
  let b := xor (r.getLsbD 30) (r.getLsbD 27)
  (b, (r <<< 1) ||| (if b then 1 else 0))

/-- The next `n` bits of a PRBS31 register as a number, the first bit in bit 0, and the register after them. -/
def prbs31Bits : Nat → BitVec 31 → Nat × BitVec 31
  | 0, r => (0, r)
  | n + 1, r =>
    let a := prbs31Step r
    let rest := prbs31Bits n a.2
    (ofBool a.1 + 2 * rest.1, rest.2)

/-- The next `n` bytes of a PRBS31 register, bit 0 of each first. -/
def prbs31Bytes : Nat → BitVec 31 → List Byte × BitVec 31
  | 0, r => ([], r)
  | n + 1, r =>
    let a := prbs31Bits 8 r
    let rest := prbs31Bytes n a.2
    (byteOf a.1 :: rest.1, rest.2)

/-! ## Flits (Tables 3.1 to 3.6) -/

/-- A flit's header word (Table 3.2). -/
def LineFlit.header (f : LineFlit) : Nat :=
  f.type % 16 + f.seq.toNat * 2 ^ 4 + f.ack.toNat * 2 ^ 16 + ofBool f.replay * 2 ^ 28 + ofBool f.poison * 2 ^ 29

/-- A flit's bytes 0 to 123, which its CRC covers (R58). -/
def LineFlit.body (f : LineFlit) : List Byte := toBytes 4 f.header ++ fitBytes 120 f.payload

/-- A flit's 128 bytes (Table 3.1). -/
def LineFlit.bytes (f : LineFlit) : List Byte := f.body ++ toBytes 4 (crc32 f.body).toNat

/-- The bit that a lane carries in a unit interval of a flit (R56). -/
def LineFlit.laneBit (f : LineFlit) (lane ui : Nat) : Bool := bitOfBytes f.bytes (64 * ui + lane)

/-- A request descriptor (Table 3.4): write, address and length. -/
def descriptor (write : Bool) (addr len : Nat) : Nat := addr % 2 ^ 52 + (len - 1) % 256 * 2 ^ 52 + (if write then 2 else 1) * 2 ^ 60

/-- The payload of a REQ flit: slots 0 to 14, unused ones 0 (R68). -/
def reqPayload (ds : List (Bool × Nat × Nat)) : List Byte :=
  fitBytes 120 ((ds.take 15).flatMap fun d => toBytes 8 (descriptor d.1 d.2.1 d.2.2))

/-- A flit of the replay buffer as it goes on the lanes, with the acknowledge of the moment (R57, R61). -/
def TxFlit.onLine (f : TxFlit) (ack : BitVec 12) : LineFlit :=
  { type := if f.req.isEmpty then 2 else 1, seq := f.seq, ack := ack, replay := f.replay, poison := f.poison
    payload := if f.req.isEmpty then f.bytes else reqPayload f.req }

/-- The lines that an INVAL flit names: its entries up to the first with VALID = 0 (Table 3.6). -/
def invalLines : Nat → List Byte → List Nat
  | 0, _ => []
  | n + 1, bs =>
    let e := ofBytes (bs.take 8)
    if bitAt e 0 then bits e 51 6 :: invalLines n (bs.drop 8) else []

/-- The header of a received flit. -/
def flitHdrOf (bs : List Byte) : FlitHdr :=
  let w := ofBytes (bs.take 4)
  { crcOk := crc32 (bs.take 124) == BitVec.ofNat 32 (ofBytes ((bs.drop 124).take 4))
    seq := BitVec.ofNat 12 (bits w 15 4), ack := BitVec.ofNat 12 (bits w 27 16), poison := bitAt w 29 }

/-! ## Sideband packets (R122 to R124, Tables 4.5, 4.6) -/

/-- A packet of a kind and a tag, with its 12 data bytes and its CRC-16. -/
def sbPacket (kind tag : Byte) (data : List Byte) : List Byte :=
  let body := kind :: tag :: fitBytes 12 data
  body ++ toBytes 2 (crc16 body).toNat

/-- What a packet occupies on the lane: two start bytes, the packet, and the two idle bytes that follow at least (R122). -/
def sbFrame (packet : List Byte) : List Byte := [0xF0, 0x0F] ++ packet ++ [0x55, 0x55]

/-- The bit that the sideband lane carries at a bit time of a frame: each byte least significant bit first (R122). -/
def sbBit (packet : List Byte) (i : Nat) : Bool := bitOfBytes (sbFrame packet) i

/-- The response packet of a request (Table 4.6). -/
def rspPacket (r : SbRsp) : List Byte :=
  sbPacket (if r.write then 0x19 else 0x18) r.tag (toBytes 4 (if r.write then 0 else r.data.toNat) ++ toBytes 3 r.addr ++ [byteOf r.status])

/-- Tolfa's IDENT packet (Tables 3.9, 3.10a): its capability word, its matched-set code, ROLE 0x01 and its POSITION. -/
def identPacket (cap : Nat) (set : BitVec 24) (pos : Nat) : List Byte :=
  sbPacket 0x01 0 (toBytes 4 cap ++ toBytes 3 set.toNat ++ [0x01, byteOf pos])

/-- Tolfa's DESKEW_RESULT packet: the pass bitmap of its receiver and the rate code (R95). -/
def deskewPacket (own : DWord) (rate : Nat) : List Byte := sbPacket 0x02 0 (toBytes 8 own.toNat ++ [byteOf rate])

end Sys2Proof.Machine
end

