-- ==== Sys2Proof/Machine/HubOps.lean ====
section
/-! DEFINITION. Requests to hub memory: steering, the flits that carry them, and where they wait or fail (R60 to R84). -/

namespace Sys2Proof.Machine

/-- The state of a culvert (Table 3.7). -/
def State.culvState (s : State) (c : Nat) : Nat := s.rd (Reg.CLV.STAT_STATE c)

/-- Whether any culvert is ACTIVE. -/
def State.anyActive (s : State) : Bool := (List.range 8).any fun c => s.culvState c == 5

/-- The steering index of a hub address (R77). -/
def steerIndex (a : Nat) : Nat :=
  Nat.xor (bits a 13 8) (Nat.xor (bits a 19 14) (Nat.xor (bits a 25 20) (Nat.xor (bits a 31 26)
    (Nat.xor (bits a 37 32) (Nat.xor (bits a 43 38) (Nat.xor (bits a 49 44) (bits a 51 50)))))))

/-- The culvert that an entry of the steering table names, as STEER0 to STEER7 hold it (Table 3.11). -/
def State.steer (s : State) (e : Nat) : Nat := bits (s.rd (Reg.CLV.STEER 0 (e / 8))) (4 * (e % 8) + 2) (4 * (e % 8))

/-- The state with an entry of the steering table set. -/
def State.setSteer (s : State) (e c : Nat) : State :=
  let f := Reg.CLV.STEER 0 (e / 8)
  let v := s.rd f
  s.wr f (v - bits v (4 * (e % 8) + 2) (4 * (e % 8)) * 2 ^ (4 * (e % 8)) + c % 8 * 2 ^ (4 * (e % 8)))

/-- Whether remap is enabled, as STAT.REMAP_ON shows it on every culvert (R78). -/
def State.remapOn (s : State) : Bool := s.flag (Reg.CLV.STAT_REMAP_ON 0)

/-- Remap as the modes and the declarations so far give it: in Open mode every culvert that has completed IDENT declared it (R78). -/
def State.remapDue (s : State) : Bool :=
  let caps := (List.range 8).filterMap fun c => (s.culv c).remapCap
  s.flag Reg.GLB.STRAPS_MODE || (!caps.isEmpty && caps.all id)

/-- An entry that has moved from the culvert its reset value names. -/
def State.moved (s : State) (e : Nat) : Bool := s.steer e != e % 8

/-- Whether an entry's requests wait for its return (R82, R84). -/
def State.returning (s : State) (e : Nat) : Bool := s.moved e && (!s.remapOn || s.culvState (e % 8) == 5)

/-- What becomes of a new request for an entry of the steering table (R79, R82 to R84): it is sent on a culvert, waits, or fails. -/
inductive Route where
  | send (c : Nat) | wait | fail (c : Nat)
  deriving DecidableEq, Repr

/-- The route of a hub address now. R83 names QUIESCE, DESKEW, VERIFY, OFFLINE and OFF: CLOCK and IDENT wait, LOOP fails (log entry 169). An
entry that came back to a culvert that is not ACTIVE fails until it is (R84). -/
def State.route (s : State) (a : Nat) : Route :=
  let e := steerIndex a
  let c := s.steer e
  if s.returning e then .wait
  else if (s.culv c).failing.contains e && s.culvState c != 5 then .fail c
  else
    match s.culvState c with
    | 5 => .send c
    | 0 | 7 | 8 => if s.remapOn then .wait else .fail c
    | _ => .wait

/-! ## Flits -/

/-- The replay buffer's size (R63). -/
def replayFlits : Nat := 512

/-- Flits that wait move into the replay buffer while it has room, each with the next sequence number, and go on the lanes (R61, R63). -/
def Culv.fill (x : Culv) : Culv :=
  let n := replayFlits - x.replay.length
  let go := x.unsent.take n
  let numbered := (List.range go.length).zip go |>.map fun p => { p.2 with seq := x.txNext + BitVec.ofNat 12 p.1 }
  { x with
    replay := x.replay ++ numbered
    line := x.line ++ numbered
    unsent := x.unsent.drop n
    txNext := x.txNext + BitVec.ofNat 12 go.length }

/-- REQ flits of the descriptors of requests, 15 to a flit (R68). -/
def reqFlits : Nat → List HubReq → List TxFlit
  | 0, _ => []
  | n + 1, rs =>
    if rs.isEmpty then []
    else ⟨0, (rs.take 15).map fun r => (r.write, r.addr, r.len), [], false, false⟩ :: reqFlits n (rs.drop 15)

/-- The bytes of a write, each with whether it is bad: a poisoned write's all are, another's those that a page lost (R75). -/
def HubReq.marked (r : HubReq) : List (Byte × Bool) :=
  r.data.zipIdx.map fun b => (b.1, r.poison || (decide (r.lost.1 ≤ b.2) && decide (b.2 < r.lost.2)))

/-- The data of writes as one stream, each byte with whether it is bad (R71). -/
def writeStream (rs : List HubReq) : List (Byte × Bool) := (rs.filter (·.write)).flatMap HubReq.marked

/-- A write stream cut into WDATA flits of 120 bytes; zeros follow its end (log entry 170). A flit that holds a bad byte is poisoned (R75). -/
def dataFlits : Nat → List (Byte × Bool) → List TxFlit
  | 0, _ => []
  | n + 1, bs =>
    if bs.isEmpty then []
    else ⟨0, [], fitBytes 120 ((bs.take 120).map (·.1)), false, (bs.take 120).any (·.2)⟩ :: dataFlits n (bs.drop 120)

/-- The flits of requests: their descriptors, then the data of the writes among them (R68, R71, R75). -/
def flitsOf (rs : List HubReq) : List TxFlit := reqFlits rs.length rs ++ dataFlits (3 * rs.length) (writeStream rs)

/-- A request put on a culvert, its flits still to be formed. -/
def State.sendReq (s : State) (c : Nat) (r : HubReq) : State :=
  let x := s.culv c
  s.setCulv c { x with reqs := x.reqs ++ [r], forming := x.forming ++ [r] }

/-- The flits of the requests put on a culvert; the replay timer starts with the first unacknowledged flit (R64). -/
def State.formOne (s : State) (c : Nat) : State :=
  let x := s.culv c
  if x.forming.isEmpty then s
  else
    let t := { x with forming := [], unsent := x.unsent ++ flitsOf x.forming }.fill
    s.setCulv c { t with timer := if x.replay.isEmpty then s.absCycle else t.timer }

/-- The flits of the requests put on every culvert. -/
def State.form (s : State) : State := (List.range 8).foldl State.formOne s

/-- Reads that a culvert's read buffer has reservations for: as many as OUTSTANDING.READS counts, of 256 bytes each (R66; log entry 171). -/
def readRoom : Nat := 1023

/-- Whether a request may be issued on a culvert: a read has its reservation (R66), and no earlier request waits for one there. -/
def State.mayIssue (s : State) (c : Nat) (r : HubReq) : Bool :=
  (r.write || decide (((s.culv c).reqs.filter (!·.write)).length < readRoom)) &&
    !s.cox.waiting.any fun w => s.route w.addr == .send c

/-- An outfall completion or a received message, which R83 discards. -/
def Purpose.discards : Purpose → Bool
  | .completion _ _ _ _ => true
  | .land _ _ _ => true
  | .fill => false
  | .list _ => false
  | .job _ _ => false
  | .jobWrite _ _ => false
  | .swapEntry _ => false

/-- A request that fails because its culvert is lost and remap is disabled (R83): PEER_ERROR, marked with 0x100. -/
def State.unreachable (s : State) (c : Nat) (r : HubReq) : State :=
  let s := s.bump (Reg.CLV.UNREACH_CNT c)
  let s := s.raise1 ⟨Err.CLV.UNREACHABLE c, s.rd (Reg.CLV.STAT_REASON c), r.addr % 2 ^ 32⟩
  { s with cox := { s.cox with failed := s.cox.failed ++ [(r, 0x123)] } }

/-- A request that waits, behind those that already do. -/
def State.keepWaiting (s : State) (r : HubReq) : State := { s with cox := { s.cox with waiting := s.cox.waiting ++ [r] } }

/-- A request issued: sent, kept waiting, or failed. A failed one is dealt with by the caller's end (`State.settle`). -/
def State.issue (s : State) (r : HubReq) : State :=
  match s.route r.addr with
  | .send c => if s.mayIssue c r then s.sendReq c r else s.keepWaiting r
  | .wait => s.keepWaiting r
  | .fail c => s.unreachable c r

/-- An access cut at 256-byte boundaries (R69). -/
def cutAccess : Nat → Nat → Nat → List (Nat × Nat)
  | 0, _, _ => []
  | n + 1, a, len =>
    if len = 0 then []
    else
      let k := min len (256 - a % 256)
      (a, k) :: cutAccess n (a + k) (len - k)

/-- A read of hub memory. -/
def State.hubRead (s : State) (a len : Nat) (purpose : Nat → Purpose) : State :=
  ((cutAccess (len / 256 + 2) a len).foldl (fun s p => s.issue ⟨false, p.1, p.2, purpose (p.1 - a), [], false, false, (0, 0)⟩) s).form

/-- The stretch of `len` bytes from an offset on that lies in lost pages, as offsets among them. -/
def lostPart (pages : List Nat) (off len : Nat) : Nat × Nat :=
  let hit := (List.range len).filter fun i => pages.contains ((off + i) / 4096)
  (hit.headD 0, (hit.getLast?.map (· + 1)).getD 0)

/-- A write of pages to hub memory, some of which, counted from the first byte, are lost (R75). -/
def State.hubWriteLost (s : State) (a : Nat) (bs : List Byte) (pages : List Nat) (purpose : Purpose) : State :=
  ((cutAccess (bs.length / 256 + 2) a bs.length).foldl (fun s p =>
    s.issue ⟨true, p.1, p.2, purpose, (bs.drop (p.1 - a)).take p.2, false, false, lostPart pages (p.1 - a) p.2⟩) s).form

/-- A write of hub memory, through to the hub whatever the context cache holds; a cached copy of it stays as it is (R85; log entry 172). -/
def State.hubWrite (s : State) (a : Nat) (bs : List Byte) (poison : Bool) (purpose : Purpose) : State :=
  ((cutAccess (bs.length / 256 + 2) a bs.length).foldl (fun s p =>
    s.issue ⟨true, p.1, p.2, purpose, (bs.drop (p.1 - a)).take p.2, poison, false, (0, 0)⟩) s).form

/-- How many requests a write takes. -/
def writeCount (a len : Nat) : Nat := (cutAccess (len / 256 + 2) a len).length

/-- The hub address space is 52 bits wide (Table 3.4). -/
def hubTop : Nat := 2 ^ 52

/-- Requests that wait, tried again in order. -/
def State.flushWaiting (s : State) : State :=
  let w := s.cox.waiting
  (w.foldl State.issue { s with cox := { s.cox with waiting := [] } }).form

/-! ## Acknowledgement -/

/-- How far a sequence number lies behind another, modulo 4,096. -/
def seqDist (a b : BitVec 12) : Nat := (a - b).toNat

/-- An ACK taken on a culvert (R62, R64): covered flits leave the replay buffer, and the timer restarts. -/
def State.takeAck (s : State) (c : Nat) (ack : BitVec 12) : State :=
  let x := s.culv c
  let n := seqDist ack x.txAcked
  if 0 < n ∧ n ≤ x.replay.length then
    let rest := x.replay.drop n
    s.setCulv c { x with
      replay := rest, txAcked := ack, timer := s.absCycle, expiries := 0
      line := x.line.filter fun f => rest.any fun g => g.seq == f.seq }.fill
  else s

/-! ## Culvert state changes -/

/-- A culvert in a new state of Table 3.7: one that enters OFFLINE or OFF is lost to its entries (R79), one that enters ACTIVE takes them
again, and VERIFY begins its PRBS31 fill (log entry 168). -/
def State.culvTo (s : State) (c st : Nat) : State :=
  let x := s.culv c
  let gone := (st == 0 || st == 7) && s.culvState c != 0
  (s.setCulv c { x with
    since := s.now, goodRx := 0
    lostAt := if st = 5 then .none else if gone && x.lostAt.isNone then some s.now else x.lostAt
    failing := if st = 5 then [] else x.failing
    prbs := if st = 4 then Config.trainSeed c else x.prbs
    line := if st = 5 ∨ st = 6 then x.line else [] }).wr (Reg.CLV.STAT_STATE c) st

/-- The oldest unacknowledged sequence number, as ERR_INFO0 shows it of an event in ACTIVE (Table 3.11). -/
def State.culvInfo (s : State) (c reason : Nat) : Nat :=
  (if s.culvState c = 5 then ((s.culv c).txAcked + 1).toNat * 2 ^ 16 else 0) + reason

/-- A culvert goes OFFLINE with a reason and its contained event (Table 3.7). -/
def State.culvOffline (s : State) (c reason : Nat) (code : ErrCode) (extra : Nat) : State :=
  let s := s.raise1 ⟨code, s.culvInfo c reason + extra, 0⟩
  (s.culvTo c 7).wr (Reg.CLV.STAT_REASON c) reason

/-- A failed training (Table 3.11). -/
def State.trainFail (s : State) (c reason extra : Nat) : State :=
  (s.culvOffline c reason (Err.CLV.TRAIN_FAIL c) extra).bump (Reg.CLV.TRAIN_CNT_FAIL c)

/-- A protocol error (R59). -/
def State.culvProtocol (s : State) (c : Nat) : State := s.culvOffline c 12 (Err.CLV.PROTOCOL c) 0

end Sys2Proof.Machine
end

