-- ==== Sys2Proof/Machine/CoxCore.lean ====
section
/-! DEFINITION. The context cache, the node map, buoys, command fields and their checks, the choice of a port, and completions
(R316 to R335, R343, R347, R350, R362, R421, R422). -/

namespace Sys2Proof.Machine

/-! ## The context cache (R350 to R352) -/

/-- What a lookup of a line gives: its words, a failed fill's status, or nothing yet. -/
inductive LineRes where
  | hit (words : List DWord) | bad (status : Nat) | missing
  deriving DecidableEq, Repr

/-- Whether a fill of a line is on its way. -/
def State.filling (s : State) (line : Nat) : Bool :=
  let is := fun (r : HubReq) => r.purpose == .fill && r.addr == line * 64
  s.cox.waiting.any is || s.culvs.any fun kv => kv.2.reqs.any is

/-- Lines dropped from the cache. -/
def State.dropLines (s : State) (p : Nat → Bool) : State :=
  { s with cox := { s.cox with cache := s.cox.cache.filter fun e => !p e.1 } }

/-- Lines that a set of the cache holds: 16 ways (R350). -/
def cacheWays : Nat := 16

/-- A line put in the cache, in place of its set's least recently used line when the set is full (R350). -/
def State.cacheInsert (s : State) (line : Nat) (ws : List DWord) : State :=
  let old := s.cox.cache.filter (·.1 != line)
  let same := fun (e : Nat × List DWord) => Config.cacheSet e.1 == Config.cacheSet line
  let old :=
    if old.length < cacheWays then old
    else if (old.filter same).length < cacheWays then old
    else
      match (old.filter same).getLast? with
      | .none => old
      | some v => old.filter (·.1 != v.1)
  { s with cox := { s.cox with cache := (line, ws) :: old } }

/-- A lookup of the line of an address: a hit is its most recent use, a miss asks for the line (R350). -/
def State.look (s : State) (a : Nat) : LineRes × State :=
  let line := a / 64
  match s.cox.cache.find? (·.1 == line) with
  | some e =>
    (.hit e.2, { s with cox := { s.cox with cache := e :: s.cox.cache.filter (·.1 != line) } }.bump Reg.COX.CC_HIT_CNT)
  | .none =>
    match s.cox.badLines.find? (·.1 == line) with
    | some b => (.bad b.2, { s with cox := { s.cox with badLines := s.cox.badLines.filter (·.1 != line) } })
    | .none =>
      if s.filling line then (.missing, s)
      else (.missing, (s.bump Reg.COX.CC_MISS_CNT).hubRead (line * 64) 64 fun _ => .fill)

/-! ## The node map (R421, R422) -/

/-- A node-map entry (Table 12.8). -/
structure NodeEntry where
  phys : Nat
  ports : Nat
  epoch : Nat
  state : Nat
  base : Nat
  rd : Bool
  wr : Bool
  pages : Nat
  deriving DecidableEq, Repr

/-- An entry from its four words. -/
def nodeEntry (ws : List DWord) : NodeEntry :=
  let w0 := wordAt ws 0
  let w1 := wordAt ws 1
  { phys := bits w0 63 32, ports := bits w0 31 16, epoch := bits w0 15 8, state := bits w0 1 0, base := bits w1 51 12 * 2 ^ 12,
    rd := bitAt w1 1, wr := bitAt w1 0, pages := bits (wordAt ws 2) 16 0 }

/-- Whether a command may name an entry as DEST (R422). -/
def NodeEntry.destOk (e : NodeEntry) : Bool := e.state == 1 || e.state == 2

/-- The hub address of a node's entry (R421). -/
def State.nodeAddr (s : State) (k : Nat) : Nat :=
  s.rd Reg.BTH.MAP_BASE_HI * 2 ^ 32 + s.rd Reg.BTH.MAP_BASE_LO * 2 ^ 12 + 32 * k

/-- What a lookup of a node's entry gives. -/
inductive NodeRes where
  | entry (e : NodeEntry) (words : List DWord) | bad (status : Nat) | missing
  deriving DecidableEq, Repr

/-- A lookup of a node's entry in the context cache. -/
def State.lookNode (s : State) (k : Nat) : NodeRes × State :=
  match s.look (s.nodeAddr k) with
  | (.hit ws, t) => let e := (ws.drop (k % 2 * 4)).take 4; (.entry (nodeEntry e) e, t)
  | (.bad st, t) => (.bad st, t)
  | (.missing, t) => (.missing, t)

/-! ## Buoys (R331, R362 to R365) -/

/-- Field of a command's words. -/
def Cmd.w (c : Cmd) (i : Nat) : Nat := wordAt c.words i

/-- A waiting command's threshold compared with its buoy's value (R331). -/
def Cmd.reached (c : Cmd) (v : DWord) : Bool := decide (c.w 1 ≤ v.toNat)

/-- A buoy's new value, seen by every command that waits on it (R365, Table 10.10). -/
def State.buoySet (s : State) (k : Nat) (v : DWord) : State :=
  let s := s.setBuoyVal k v
  let see := fun (c : Cmd) =>
    if c.phase == .waitBuoy && bits (c.w 0) 29 24 == k && c.reached v then { c with met := true } else c
  { s with cox := { s.cox with cmds := s.cox.cmds.map see } }

/-- A SET (0) or ADD (1) on a buoy (R362). -/
def State.buoyOp (s : State) (k op : Nat) (v : DWord) : State := s.buoySet k (if op = 0 then v else s.buoyVal k + v)

/-! ## Command fields and checks (R327 to R330, R387, R399) -/

/-- The opcodes of Tables 10.2 and 12.1. -/
def opcodes : List Nat := [0x00, 0x01, 0x02, 0x03, 0x04, 0x05, 0x06, 0x07, 0x08, 0x09, 0x10, 0x11, 0x18]

def cOp (ws : List DWord) : Nat := bits (wordAt ws 0) 7 0
def cOq (ws : List DWord) : Nat := bits (wordAt ws 0) 13 8
def cTc (ws : List DWord) : Nat := bits (wordAt ws 0) 17 16
def cPsel (ws : List DWord) : Nat := bits (wordAt ws 0) 22 18
def cWait (ws : List DWord) : Bool := bitAt (wordAt ws 0) 23
def cDest (ws : List DWord) : Nat := bits (wordAt ws 0) 43 32
def cTag (ws : List DWord) : Nat := bits (wordAt ws 0) 63 48
def cLen (ws : List DWord) : Nat := bits (wordAt ws 2) 63 32
def cGroup (ws : List DWord) : Nat := bits (wordAt ws 2) 31 24
/-- HOLD in strokes; 0 means 2,048 (Table 10.1). -/
def cHold (ws : List DWord) : Nat := if bits (wordAt ws 2) 15 0 = 0 then 2048 else bits (wordAt ws 2) 15 0
/-- REMOTE of a BUOY, a STASH or an UNSTASH. -/
def cRemote (ws : List DWord) : Bool := if cOp ws = 8 then bitAt (wordAt ws 3) 9 else bitAt (wordAt ws 5) 20

/-- Whether a command's DEST is looked up: a transfer, or an extent with a remote target (R330). SCATTER and GATHER name nodes in their
entries, and a fan command's DEST is 0 (R387). -/
def needsDest (ws : List DWord) : Bool :=
  match cOp ws with
  | 1 | 2 => cPsel ws != 17
  | 6 | 7 => cRemote ws
  | 8 => cRemote ws && cPsel ws != 17
  | _ => false

/-- Bits of a number outside a mask. -/
def outside (v mask : Nat) : Bool := v - Nat.land v mask != 0

/-- A mask of bits `hi:lo`. -/
def span (hi lo : Nat) : Nat := 2 ^ (hi + 1) - 2 ^ lo

/-- Words from `i` on that are not 0. -/
def anyFrom (ws : List DWord) (i : Nat) : Bool := (ws.drop i).any (· != 0)

/-- The word of a local buoy addition (LBUOY), in which the other bits are reserved. -/
def badLocal (w : Nat) : Bool := outside w (span 6 0 + span 63 32)

/-- An element's size (Tables 12.1, 12.6): REDUCE's DTYPE. -/
def reduceSize (ws : List DWord) : Nat := if bits (wordAt ws 5) 23 20 = 0 then 2 else 4

/-- A reserved field that is not 0, in the words common to all commands (Table 10.1). -/
def badCommon (ws : List DWord) : Bool :=
  outside (wordAt ws 0) (2 ^ 64 - 1 - span 47 44 - span 31 30 - span 15 15) ||
    bits (wordAt ws 2) 23 16 != 0 || (cPsel ws != 17 && cGroup ws != 0)

/-- DEST, TC and PORT_SEL all 0 (R328, Table 12.1). -/
def noTarget (ws : List DWord) : Bool := cDest ws == 0 && cTc ws == 0 && cPsel ws == 0

/-- A reserved field of an opcode's own words that is not 0, or a reserved value (Tables 10.2, 12.1). -/
def badOwn (ws : List DWord) : Bool :=
  let w := wordAt ws
  match cOp ws with
  | 0 | 9 => anyFrom ws 3 || !noTarget ws
  | 1 => decide (2 ^ 28 ≤ w 4) || outside (w 5) (span 6 0 + span 63 32) || badLocal (w 6) || anyFrom ws 7
  | 2 => w 5 != 0 || badLocal (w 6) || anyFrom ws 7
  | 3 | 4 => w 4 != 0 || w 5 != 0 || badLocal (w 6) || anyFrom ws 7
  | 5 => bits (w 5) 19 16 != 1 || decide (1 < bits (w 5) 23 20) || w 5 / 2 ^ 24 % 2 != 0 || outside (w 5) (span 29 0) || badLocal (w 6) ||
      anyFrom ws 7 || cDest ws != 0
  | 6 => outside (w 5) (span 21 0) || decide (2 < bits (w 5) 15 12) || decide (3 < bits (w 5) 19 16) ||
      (bits (w 5) 15 12 == 1 && decide (2 ≤ bits (w 5) 19 16)) || (cRemote ws && decide (2 ^ 28 ≤ w 4)) ||
      (!cRemote ws && !noTarget ws) || badLocal (w 6) || anyFrom ws 7
  | 7 => outside (w 5) (span 11 0 + span 20 20 + span 23 22) || (cRemote ws && bitAt (w 5) 22 && decide (2 ^ 28 ≤ w 3)) ||
      (!cRemote ws && !noTarget ws) || badLocal (w 6) || anyFrom ws 7
  | 8 => outside (w 3) (span 5 0 + span 9 8) || anyFrom ws 5 || (!cRemote ws && !noTarget ws)
  | 0x10 => anyFrom ws 4 || !noTarget ws
  | 0x11 => anyFrom ws 3 || !noTarget ws
  | 0x18 => outside (w 3) (span 11 0 + span 27 16) || anyFrom ws 4 || !noTarget ws
  | _ => false

/-- LEN out of range (Tables 10.2, 12.1). -/
def badLen (ws : List DWord) : Bool :=
  let n := cLen ws
  match cOp ws with
  | 1 => n == 0 || (cTc ws == 0 && decide (64 < n))
  | 2 => n == 0
  | 3 | 4 => n == 0 || decide (4096 < n)
  | 5 => n % reduceSize ws != 0
  | 6 => n == 0 || n % 64 != 0
  | 7 => n == 0 || n % 64 != 0
  | _ => n != 0

/-- A slot, not IDLE, with a group ID. -/
def State.slotOfGroup (s : State) (g : Nat) : Option Nat :=
  (List.range 8).find? fun k => s.fanState k != 0 && s.rd (Reg.FLM.FAN_CFG_ID k) == g

/-- PORT_SEL reserved, or FAN where R387 does not allow it. -/
def State.badPort (s : State) (ws : List DWord) : Bool :=
  decide (17 < cPsel ws) || (cOp ws == 5 && cPsel ws != 16) ||
    (cPsel ws == 17 && !((cOp ws == 1 || (cOp ws == 8 && cRemote ws)) && cDest ws == 0 && (s.slotOfGroup (cGroup ws)).isSome))

/-- A misaligned address (Tables 10.2, 12.1). -/
def badAlign (ws : List DWord) : Bool :=
  let w := wordAt ws
  match cOp ws with
  | 1 => w 4 % 4096 != 0
  | 3 | 4 => w 3 % 32 != 0
  | 5 => w 3 % reduceSize ws != 0 || w 4 % 64 != 0
  | 6 => w 3 % 64 != 0 || w 4 % 4096 != 0
  | 7 => w 4 % 64 != 0 || (bitAt (w 5) 22 && w 3 % 4096 != 0)
  | 0x10 => w 3 % 64 != 0
  | _ => false

/-- A TC that an opcode does not allow (Tables 10.2, 10.6, 12.1). -/
def badTc (ws : List DWord) : Bool :=
  match cOp ws with
  | 2 | 4 => cTc ws == 0
  | 5 => cTc ws != 3
  | 6 | 7 => cRemote ws && cTc ws == 0
  | 8 => cRemote ws && cTc ws != 0
  | _ => false

/-- The reason of BAD_COMMAND by a command's words alone, the lowest that applies (R330, R387, R399). -/
def State.badWords (s : State) (ws : List DWord) : Option Nat :=
  if !opcodes.contains (cOp ws) then some 1
  else if badCommon ws || badOwn ws then some 2
  else if badLen ws then some 3
  else if s.badPort ws then some 4
  else if badAlign ws then some 5
  else if badTc ws then some 6
  else .none

/-! ## The choice of a port (R309, R343, R347, R387) -/

/-- Where a new command for a stream goes: it is scheduled, held in the Backwater, or completes with LINK_DOWN on a port. -/
inductive Choice where
  | send (n : Nat) | hold (n : Nat) | fail (p : Nat)
  deriving DecidableEq, Repr

/-- Whether the Backwater holds an entry for a stream. -/
def State.hasHeld (s : State) (n : Nat) : Bool :=
  s.cox.cmds.any fun c => match c.phase with
    | .held m _ => m == n
    | .waitBuoy => false
    | .fence => false
    | .running => false
    | .ended => false

/-- Whether the synthesiser that a port's transmitter uses relocks (R160). -/
def State.relocking (s : State) (p : Nat) : Bool := s.rd (Reg.OPT.STAT_SYN (s.bankOf p)) == 1

/-- What R309 does with a command for a port; a port in a fan, or with a synthesiser in RELOCK, holds it (R160, R385). -/
def State.portChoice (s : State) (p : Nat) : Choice :=
  if (s.slotOfFibre p).isSome then .hold p
  else
    match s.linkState p with
    | 0 => .fail p
    | 7 => if s.flag (Reg.LNK.CTRL_AUTO_RETRAIN p) then .hold p else .fail p
    | 6 => if s.paused p || s.relocking p || s.hasHeld p then .hold p else .send p
    | _ => .hold p

/-- What R387 does with a fan command of a group. -/
def State.fanChoice (s : State) (g : Nat) : Choice :=
  match s.slotOfGroup g with
  | .none => .fail 0
  | some k =>
    match s.fanState k with
    | 1 | 2 | 3 => .hold (fanTx k)
    | 4 => if s.hasHeld (fanTx k) then .hold (fanTx k) else .send (fanTx k)
    | _ => .fail (s.rd (Reg.FLM.FAN_CFG_SOURCE k))

/-- Under ANY: the lowest port of the mask with TX_READY, else the lowest that holds commands, else LINK_DOWN (R343). -/
def State.anyChoice (s : State) (mask : Nat) : Choice :=
  let ports := setBits 16 mask
  match ports.find? s.txReady with
  | some p => s.portChoice p
  | .none =>
    match ports.find? fun p => match s.portChoice p with
      | .hold _ => true
      | .send _ => true
      | .fail _ => false with
    | some p => s.portChoice p
    | .none => .fail (ports.headD 0)

/-- The choice for a PORT_SEL. -/
def State.choose (s : State) (psel group mask : Nat) : Choice :=
  if psel < 16 then s.portChoice psel else if psel = 16 then s.anyChoice mask else s.fanChoice group

/-! ## Completions (R322 to R326, R333 to R335) -/

/-- The number of a source: 64 for the regatta. -/
def srcNo : Source → Nat
  | .iq k => k.val
  | .regatta => 64

/-- A command by its number. -/
def State.cmd (s : State) (id : Nat) : Option Cmd := s.cox.cmds.find? (·.id == id)

/-- The state with a command changed. -/
def State.setCmd (s : State) (c : Cmd) : State :=
  { s with cox := { s.cox with cmds := s.cox.cmds.map fun x => if x.id = c.id then c else x } }

/-- Entries of an outfall queue (R321). -/
def State.oqSize (s : State) (q : Nat) : Nat := 2 ^ s.rd (Reg.COX.OQ_CFG_SIZE_LOG2 q)

/-- Entries free and not reserved (R322): one entry stays free, as in an intake queue (R316). -/
def State.oqFree (s : State) (q : Nat) : Nat :=
  let n := s.oqSize q
  n - 1 - (s.oq q).reserved - ((s.oq q).next + n - s.rd (Reg.COX.OQ_PTR_HEAD q) % n) % n

/-- The opcodes whose word 6 makes a local buoy addition (Tables 10.2, 12.1). -/
def hasLocal (op : Nat) : Bool := decide (1 ≤ op) && decide (op ≤ 7)

/-- A command's intake queue and slot, as completions and events show them; a regatta transfer shows its RGT_START's. -/
def State.cmdOrigin (s : State) (c : Cmd) : Nat × Nat :=
  match c.src with
  | .iq k => (k.val, c.slot)
  | .regatta =>
    match s.runs.run with
    | .none => (0, c.slot)
    | some r =>
      match s.cmd r.cmd with
      | .none => (0, c.slot)
      | some m => (srcNo m.src % 64, m.slot)

/-- A completion written at the outfall queue's next entry (R321, R323, Table 10.4). -/
def State.writeCompletion (s : State) (c : Cmd) (status detail : Nat) : State :=
  let q := cOq c.words
  let o := s.oq q
  let n := s.oqSize q
  let src := s.cmdOrigin c
  let w0 := s.streamPort (c.port.getD 0) % 16 * 2 ^ 48 + src.2 % 2 ^ 16 * 2 ^ 32 + cTag c.words * 2 ^ 16 + ofBool o.phase * 2 ^ 15 + src.1 * 2 ^ 8 + status
  let a := s.rd (Reg.COX.OQ_BASE_HI q) * 2 ^ 32 + s.rd (Reg.COX.OQ_BASE_LO q) * 16 + 16 * o.next
  let key := o.period * 2 ^ 16 + o.next
  let s := s.setOq q { o with
    next := (o.next + 1) % n, phase := if o.next + 1 = n then !o.phase else o.phase, flight := o.flight ++ [(key, false)] }
  s.hubWrite a (toBytes 8 w0 ++ toBytes 8 (detail % 2 ^ 64)) false (.completion q key (q * 2 ^ 8 + src.1) src.2)

/-- TAIL passes the entries that are reported, in order (R323). -/
def passTail : List (Nat × Bool) → List (Nat × Bool) × Nat
  | [] => ([], 0)
  | (_, true) :: rest => let r := passTail rest; (r.1, r.2 + 1)
  | (i, false) :: rest => ((i, false) :: rest, 0)

/-- The lap of TAIL after `n` steps of one entry (R321). -/
def State.stepTail (s : State) (q : Nat) : Nat → State
  | 0 => s
  | n + 1 =>
    let t := s.rd (Reg.COX.OQ_PTR_TAIL q) + 1
    let s := if t = s.oqSize q then
        (s.wr (Reg.COX.OQ_PTR_TAIL q) 0).wr (Reg.COX.OQ_CFG_PHASE q) (1 - s.rd (Reg.COX.OQ_CFG_PHASE q))
      else s.wr (Reg.COX.OQ_PTR_TAIL q) t
    s.stepTail q n

/-- The report of a completion's write (R323), by the entry and its period of enablement: an earlier period's is forgotten. -/
def State.completionDone (s : State) (q key : Nat) : State :=
  let o := s.oq q
  let r := passTail (o.flight.map fun e => if e.1 = key then (e.1, true) else e)
  (s.setOq q { o with flight := r.1 }).stepTail q r.2

/-- The end of a command but for a regatta's bookkeeping (R322, R326, R333): its buoy addition, its reservation, its completion. -/
def State.finish (s : State) (c : Cmd) (status detail : Nat) : State :=
  let q := cOq c.words
  let src := s.cmdOrigin c
  let s := { s with cox := { s.cox with
    cmds := s.cox.cmds.filter (·.id != c.id)
    bw := s.cox.bw.filter (· != c.id)
    slots := s.cox.slots.filter fun kv => kv.2 != some c.id } }
  let w6 := c.w 6
  let s := if status = 0 ∧ hasLocal (cOp c.words) ∧ bitAt w6 6 then s.buoyOp (bits w6 5 0) 1 (BitVec.ofNat 64 (bits w6 63 32)) else s
  let s := if status = 0 then s else s.bump Reg.COX.FAIL_CNT
  let s := if status = 0x20 then s.bump Reg.COX.EXPIRED_CNT else s
  let live := s.flag (Reg.COX.OQ_CFG_ENABLE q) && (s.oq q).period == c.period
  let s := if live then s.setOq q { s.oq q with reserved := (s.oq q).reserved - 1 } else s
  if status = 0 ∧ bitAt (c.w 0) 14 then s
  else if live then s.writeCompletion c status detail
  else s.raise1 ⟨Err.COX.OQ_DISABLED, q * 2 ^ 8 + src.1, src.2⟩

/-- Statuses of Table 10.5. -/
def stDone : Nat := 0x00
def stBad : Nat := 0x10
def stDenied : Nat := 0x12
def stExpired : Nat := 0x20
def stLinkDown : Nat := 0x21
def stUnmapped : Nat := 0x22
def stPeer : Nat := 0x23
def stStale : Nat := 0x24
def stPool : Nat := 0x30
def stCorrupt : Nat := 0x31
def stSafe : Nat := 0x50

/-- A run that stops issuing, once no transfer of it is open: RGT_START completes, and RGT_STOP after it (R404). -/
def State.endRun (s : State) : State :=
  match s.runs.run with
  | .none => s
  | some r =>
    let all := r.opened == 0
    let total := (if bitAt (wordAt r.prog 0) 32 then 2 else 1) * bits (wordAt r.prog 0) 12 0
    let over_ := all && (r.failed.isSome || r.stop.isSome || r.next == total)
    if !over_ then s
    else
      let t := { s.wr Reg.RGT.STAT_STATE 0 with runs := { s.runs with run := .none } }
      let t := match s.cmd r.cmd with
        | .none => t
        | some c =>
          match r.failed with
          | some f => t.finish c f.2.1 (f.1 * 2 ^ 48 + f.2.2 % 2 ^ 32)
          | .none => t.finish c stDone r.done
      match r.stop.bind s.cmd with
      | .none => t
      | some c => t.finish c stDone 0

/-- A regatta transfer's end: the count of DONE ones, or the first failing one, which stops the run (R404). -/
def State.transferEnds (s : State) (c : Cmd) (status detail : Nat) : State :=
  match c.src, s.runs.run with
  | .regatta, some r =>
    let failing := status != 0
    let r := { r with
      opened := r.opened - 1
      done := if failing then r.done else r.done + 1
      failed := if failing && r.failed.isNone then some (c.issue, status, detail % 2 ^ 32) else r.failed }
    let s := { s with runs := { s.runs with run := some r } }
    let s := s.wr Reg.RGT.DONE r.done
    if failing then s.wr Reg.RGT.STAT_STATE 3 else s
  | _, _ => s

/-- The regatta's transfer in its wait slot is discarded: it completes nothing and releases its reservation (R404). -/
def State.discardWaiting (s : State) (slot : Nat) : State :=
  match Tab.read .none s.cox.slots slot with
  | .none => s
  | some id =>
    match s.cmd id with
    | .none => s
    | some c =>
      let q := cOq c.words
      let s := { s with cox := { s.cox with
        cmds := s.cox.cmds.filter (·.id != id), slots := Tab.write .none s.cox.slots slot .none } }
      let s := if s.flag (Reg.COX.OQ_CFG_ENABLE q) && (s.oq q).period == c.period then
        s.setOq q { s.oq q with reserved := (s.oq q).reserved - 1 } else s
      match slot, s.runs.run with
      | 64, some r => { s with runs := { s.runs with run := some { r with opened := r.opened - 1 } } }
      | _, _ => s

/-- A command completes with a status and a detail; one that the safe state has ended completes at the cycle 0 after it only (R368). -/
def State.complete (s : State) (id status detail : Nat) : State :=
  match s.cmd id with
  | .none => s
  | some c =>
    if c.phase = .ended then s
    else
    let s := (s.finish c status detail).transferEnds c status detail
    match c.src with
    | .iq _ => s
    | .regatta => (if status = 0 then s else s.discardWaiting 64).endRun

end Sys2Proof.Machine
end

