-- ==== Sys2Proof/Machine/Jobs.lean ====
section
/-! DEFINITION. Transfers: what Cox reads, cuts into messages and awaits an answer to (R336 to R344), and the entries of SCATTER and
GATHER lists (R329). -/

namespace Sys2Proof.Machine

/-! ## Jobs -/

/-- A job by its number. -/
def State.job (s : State) (id : Nat) : Option Job := s.cox.jobs.find? (·.id == id)

/-- The state with a job changed. -/
def State.setJob (s : State) (j : Job) : State :=
  { s with cox := { s.cox with jobs := s.cox.jobs.map fun x => if x.id = j.id then j else x } }

/-- The state without a job. -/
def State.dropJob (s : State) (id : Nat) : State :=
  { s with cox := { s.cox with jobs := s.cox.jobs.filter (·.id != id) } }

/-- A job with nothing to do. -/
def blankJob : Job :=
  { id := 0, cmd := 0, item := 0, kind := .send, port := 0, tc := 0, addr := 0, remote := 0, len := 0, pos := 0, chunk := 0, got := [],
    bytes := [], rbuoy := .none, fetchId := .none, status := .none, writes := 0, queued := true, lastIn := false, page := .none,
    waitSince := .none }

/-- A list with an element put behind the last one that answers to a test, or at the end where none does. -/
def insertAfter {α : Type} (p : α → Bool) (x : α) (l : List α) : List α :=
  if l.any p then (l.reverse.dropWhile (!p ·)).reverse ++ x :: (l.reverse.takeWhile (!p ·)).reverse else l ++ [x]

/-- A new job, behind the last queued job of its command in its class queue if there is one, else last (R344). -/
def State.addJob (s : State) (j : Job) : State :=
  let j := { j with id := s.cox.nextId }
  let mate := fun (x : Job) => x.queued && x.cmd == j.cmd && x.port == j.port && x.tc == j.tc && j.cmd != 0
  { s with cox := { s.cox with jobs := insertAfter mate j s.cox.jobs, nextId := s.cox.nextId + 1 } }

/-- The job at the head of a stream's class queue. -/
def State.headJob (s : State) (n c : Nat) : Option Job := s.cox.jobs.find? fun j => j.queued && j.port == n && j.tc == c

/-- The largest piece a job reads at once: a message's payload (R337), or an input block (R407). -/
def Job.pieceMax (j : Job) : Nat :=
  match j.kind with
  | .reduce _ => 4096
  | .stash _ => 4096
  | _ => if j.tc = 0 then 64 else 2048

/-- A read of a job's next piece. -/
def State.readMore (s : State) (j : Job) : State :=
  let n := min j.pieceMax (j.len - j.pos)
  (s.setJob { j with chunk := n, got := [] }).hubRead (j.addr + j.pos) n fun off => .job j.id (j.pos + off)

/-- The bytes of pieces that have come, by offset. -/
def joinPieces : Nat → Nat → List (Nat × List Byte) → List Byte
  | 0, _, _ => []
  | n + 1, at_, ps =>
    match ps.find? (·.1 == at_) with
    | .none => []
    | some p => p.2 ++ joinPieces n (at_ + p.2.length) ps

/-- A job with a piece of its read; a piece of nothing it asks for is ignored. -/
def Job.take (j : Job) (off : Nat) (bs : List Byte) : Job :=
  if j.pos ≤ off ∧ off + bs.length ≤ j.pos + j.chunk then { j with got := j.got ++ [(off, bs)] } else j

/-- Whether all a job asked for has come. -/
def Job.full (j : Job) : Bool := decide (0 < j.chunk) && (j.got.map (·.2.length)).sum == j.chunk

/-- What a job asked for, once it is full. -/
def Job.data (j : Job) : List Byte := joinPieces (j.got.length + 1) j.pos j.got

/-- The member ports that answer a stream's transfers: the port, or a fan's members. -/
def State.answerers (s : State) (n : Nat) : List Nat := if n < 16 then [n] else s.fanMembers (n - 16)

/-- A transfer put in line for the answers of its stream and class (R339). -/
def State.awaitAnswer (s : State) (j : Job) (answers cls : Nat) : State :=
  let ps := s.answerers j.port
  ps.foldl (fun s p => let l := s.link p; s.setLink p { l with unanswered := l.unanswered ++ [(answers, cls, j.id)] })
    (s.setJob { j with writes := ps.length })

/-! ## Transfers of commands -/

/-- Whether a command runs a list (R329). -/
def Cmd.isList (c : Cmd) : Bool := cOp c.words == 3 || cOp c.words == 4

/-- A command with a failing transfer noted, the first in list order (R335). -/
def Cmd.noteFailure (c : Cmd) (idx st det : Nat) : Cmd :=
  match c.failed with
  | .none => { c with failed := some (idx, st, det) }
  | some f => if idx < f.1 then { c with failed := some (idx, st, det) } else c

/-- A command completes once every transfer of its has begun and ended (R335). -/
def State.tryEnd (s : State) (id : Nat) : State :=
  match s.cmd id with
  | .none => s
  | some c =>
    if c.begun ∧ c.opened = 0 then
      match c.failed with
      | .none => s.complete id stDone 0
      | some f => s.complete id f.2.1 (f.1 * 2 ^ 48 + f.2.2 % 2 ^ 32)
    else s

/-- A transfer of a command ends. -/
def State.transferDone (s : State) (id item st det : Nat) : State :=
  match s.cmd id with
  | .none => s
  | some c =>
    let c := { c with opened := c.opened - 1 }
    (s.setCmd (if st = 0 then c else c.noteFailure item st det)).tryEnd id

/-- A list command's jobs that are built leave their class queues. -/
def State.leaveQueues (s : State) (id : Nat) : State :=
  { s with cox := { s.cox with jobs := s.cox.jobs.map fun j =>
      if j.cmd = id ∧ (j.len ≤ j.pos ∨ j.fetchId.isSome) then { j with queued := false } else j } }

/-- A list command ends at an entry that fails (R330). -/
def State.entryFails (s : State) (c : Cmd) (st det : Nat) : State :=
  ((s.setCmd { (c.noteFailure c.item st det) with begun := true }).leaveQueues c.id).tryEnd c.id

/-- A read of a list command's entry (Table 10.3). -/
def State.readEntry (s : State) (c : Cmd) : State := s.hubRead (c.w 3 + 32 * c.item) 32 fun _ => .list c.id

/-- A list command's next entry, once the messages of the one before are built (R344). -/
def State.nextEntry (s : State) (c : Cmd) : State :=
  if c.item + 1 < cLen c.words then
    let c := { c with item := c.item + 1, entry := [] }
    (s.setCmd c).readEntry c
  else ((s.setCmd { c with begun := true }).leaveQueues c.id).tryEnd c.id

/-- A job whose messages are all built leaves its class queue; a list command's stays at the head until its next entry is at hand
(R344). -/
def State.built (s : State) (j : Job) : State :=
  match s.cmd j.cmd with
  | .none => s.setJob { j with queued := false }
  | some c =>
    if c.isList && !c.begun && c.item == j.item then (s.setJob j).nextEntry c else s.setJob { j with queued := false }

/-! ## Messages out (R336, R337) -/

/-- A BUOY_OP's payload (Table 10.6). -/
def buoyPayload (k op : Nat) (v : DWord) : List Byte :=
  byteOf k :: byteOf op :: (List.replicate 6 0 ++ Machine.toBytes 8 v.toNat)

/-- An XFER_DONE on a port (Table 10.6). -/
def State.xferDone (s : State) (p status answers cls fetch det : Nat) : State :=
  s.pushMsg p (s.mkMsg 4 0 0 true false
    (byteOf status :: byteOf answers :: byteOf cls :: byteOf fetch :: Machine.toBytes 4 det))

/-- A SEND whose last message is built: the BUOY_OP that follows it in its class (R341), and the wait for its answer. -/
def State.sentAll (s : State) (j : Job) : State :=
  let s := match j.rbuoy with
    | .none => s
    | some b => s.pushMsg j.port (s.mkMsg 5 j.tc 0 false false (buoyPayload b.1 b.2.1 b.2.2))
  let s := s.awaitAnswer j 0 j.tc
  match s.job j.id with
  | .none => s
  | some j => s.built j

/-- A SEND_DATA message of a job from bytes at hand, and its end after the last (R337). A job whose data is known to be bad poisons it
(R360). -/
def State.emitSend (s : State) (j : Job) (bs : List Byte) : State :=
  let last := decide (j.len ≤ j.pos + bs.length)
  let s := s.pushMsg j.port (s.mkMsg 1 j.tc j.remote last j.status.isSome bs)
  let j := { j with pos := j.pos + bs.length, chunk := 0, got := [] }
  let s := s.setJob j
  if last then s.sentAll j else s

/-- A FETCH_DATA message of an answer (R340). -/
def State.emitAnswer (s : State) (j : Job) (id : Nat) (bs : List Byte) : State :=
  let last := decide (j.len ≤ j.pos + bs.length)
  let s := s.pushMsg j.port (s.mkMsg 3 j.tc id last false bs)
  if last then s.dropJob j.id else s.setJob { j with pos := j.pos + bs.length, chunk := 0, got := [] }

/-- Bytes at hand cut into messages of a SEND (R406). -/
def State.emitBytes (s : State) (id : Nat) : Nat → State
  | 0 => s
  | fuel + 1 =>
    match s.job id with
    | .none => s
    | some j => if j.len ≤ j.pos then s else (s.emitSend j ((j.bytes.drop j.pos).take (min j.pieceMax (j.len - j.pos)))).emitBytes id fuel

/-- The fetch identifiers in use on a port. -/
def State.fetchesOn (s : State) (p : Nat) : List Nat := Tab.read [] s.cox.fetchIds p

/-- The state with the fetch identifiers of a port set. -/
def State.setFetches (s : State) (p : Nat) (l : List Nat) : State :=
  { s with cox := { s.cox with fetchIds := Tab.write [] s.cox.fetchIds p l } }

/-- A FETCH_REQ under the lowest free of 256 identifiers; with none free the job waits in its queue (R340). -/
def State.emitFetch (s : State) (j : Job) : State :=
  match (List.range 256).find? fun i => !(s.fetchesOn j.port).contains i with
  | .none => s
  | some i =>
    let s := s.setFetches j.port (s.fetchesOn j.port ++ [i])
    let s := s.pushMsg j.port (s.mkMsg 2 0 i true false
      (Machine.toBytes 8 j.remote ++ Machine.toBytes 8 j.len ++ byteOf j.tc :: List.replicate 7 0))
    s.built { j with fetchId := some i }

/-- A fetch's identifier is free again. -/
def State.endFetch (s : State) (j : Job) : State :=
  match j.fetchId with
  | .none => s
  | some i => s.setFetches j.port ((s.fetchesOn j.port).filter (· != i))

/-- A remote BUOY_OP, which its BUOY command's XFER_DONE answers (R341). -/
def State.emitBuoy (s : State) (j : Job) : State :=
  match j.rbuoy with
  | .none => s.dropJob j.id
  | some b =>
    (s.pushMsg j.port (s.mkMsg 5 0 0 true false (buoyPayload b.1 b.2.1 b.2.2))).awaitAnswer { j with queued := false, pos := 1 } 2 0

/-- Work on a stream's class queue: the job at its head asks for its next piece, or is dealt with whole and makes room for the next. -/
def State.pump (s : State) (n c : Nat) : Nat → State
  | 0 => s
  | fuel + 1 =>
    match s.headJob n c with
    | .none => s
    | some j =>
      match j.kind with
      | .send => if j.pos < j.len ∧ j.chunk = 0 then s.readMore j else s
      | .answer _ => if j.pos < j.len ∧ j.chunk = 0 then s.readMore j else s
      | .bytes => if j.pos < j.len then (s.emitBytes j.id (j.len / 64 + 2)).pump n c fuel else s
      | .buoyOp => (s.emitBuoy j).pump n c fuel
      | .fetch => if j.fetchId.isSome then s else
          let t := s.emitFetch j
          if (s.fetchesOn n).length < 256 then t.pump n c fuel else t
      | .fetchFor _ _ => if j.fetchId.isSome then s else
          let t := s.emitFetch j
          if (s.fetchesOn n).length < 256 then t.pump n c fuel else t
      | .reduce _ => s
      | .stash _ => s
      | .unstash => s

/-- Every stream that a queued job names, with its class. -/
def State.busyQueues (s : State) : List (Nat × Nat) := ((s.cox.jobs.filter (·.queued)).map fun j => (j.port, j.tc)).dedup

/-- Work on every class queue. -/
def State.pumpAll (s : State) : State := s.busyQueues.foldl (fun s q => s.pump q.1 q.2 (s.cox.jobs.length + 1)) s

/-- A SEND whose data cannot be read: with nothing sent its transfer does not take place; else a last, poisoned message closes it, and its
own failure counts before the answer's. -/
def State.sendFails (s : State) (j : Job) (st det : Nat) : Bool × State :=
  if j.pos = 0 then (true, s.dropJob j.id)
  else
    let s := s.pushMsg j.port (s.mkMsg 1 j.tc j.remote true true [])
    let j := { j with pos := j.len, chunk := 0, got := [], status := some (st, det) }
    let s := (s.setJob j).awaitAnswer j 0 j.tc
    (false, match s.job j.id with
      | .none => s
      | some j => s.built j)

/-! ## Routing a command (R309, R343, R347) -/

/-- The Backwater has no free entry (R349). -/
def State.bwFull (s : State) : Bool := decide (256 ≤ s.cox.bw.length)

/-- A command enters the Backwater for a stream (R347). -/
def State.enterBackwater (s : State) (c : Cmd) (n : Nat) : State :=
  let s := s.setCmd { c with phase := .held n (s.now + cHold c.words) }
  { s with cox := { s.cox with bw := s.cox.bw ++ [c.id] } }

/-- A list entry's words (Table 10.3). -/
def entryReason (scatter : Bool) (tc : Nat) (ws : List DWord) : Option Nat :=
  let w := wordAt ws
  let len := bits (w 0) 63 32
  if bits (w 0) 31 24 != 0 || bits (w 3) 31 0 != 0 || (scatter && decide (2 ^ 28 ≤ w 2)) ||
      (!scatter && (bits (w 0) 23 17 != 0 || w 3 != 0)) then some 2
  else if len == 0 || (tc == 0 && decide (64 < len)) then some 3
  else if 16 < bits (w 0) 16 12 then some 4
  else if scatter && w 2 % 4096 != 0 then some 5
  else .none

/-- The transfer of a list entry on a stream. -/
def State.startEntry (s : State) (c : Cmd) (n : Nat) : State :=
  let w := wordAt c.entry
  let c := { c with port := some n, opened := c.opened + 1, phase := .running }
  let s := s.setCmd c
  let len := bits (w 0) 63 32
  let j := { blankJob with cmd := c.id, item := c.item, port := n, tc := cTc c.words, len := len }
  let s :=
    if cOp c.words = 3 then
      s.addJob { j with
        kind := .send, addr := w 1, remote := bits (w 2) 27 12
        rbuoy := if bitAt (w 0) 17 then some (bits (w 0) 23 18, 1, BitVec.ofNat 64 (bits (w 3) 63 32)) else .none }
    else s.addJob { j with kind := .fetch, remote := w 1, addr := w 2 }
  s.leaveQueues c.id

/-- A list command at an entry at hand: checked, its node looked up, its port chosen (R329, R330). -/
def State.entryGo (s : State) (c : Cmd) : State :=
  let w0 := wordAt c.entry 0
  match entryReason (cOp c.words == 3) (cTc c.words) c.entry with
  | some r => s.entryFails c stBad r
  | .none =>
    let psel := bits w0 16 12
    match s.lookNode (bits w0 11 0) with
    | (.missing, t) => t
    | (.bad st, t) => t.entryFails c st 0
    | (.entry e _, t) =>
      if !e.destOk then t.entryFails c stUnmapped (bits w0 11 0)
      else if psel < 16 && !bitAt e.ports psel then t.entryFails c stBad 4
      else
        match t.choose psel 0 e.ports with
        | .send n => t.startEntry c n
        | .hold n => if t.bwFull then t else (t.enterBackwater c n).leaveQueues c.id
        | .fail p => t.entryFails c stLinkDown p

/-- A SEND, FETCH or remote BUOY on its stream. -/
def State.startSimple (s : State) (c : Cmd) (n : Nat) : State :=
  let c := { c with port := some n, opened := 1, begun := true, phase := .running }
  let s := s.setCmd c
  let j := { blankJob with cmd := c.id, port := n, tc := cTc c.words, len := cLen c.words }
  match cOp c.words with
  | 1 => s.addJob { j with
      kind := .send, addr := c.w 3, remote := bits (c.w 4) 27 12
      rbuoy := if bitAt (c.w 5) 6 then some (bits (c.w 5) 5 0, 1, BitVec.ofNat 64 (bits (c.w 5) 63 32)) else .none }
  | 2 => s.addJob { j with kind := .fetch, remote := c.w 3, addr := c.w 4 }
  | _ => s.addJob { j with
      kind := .buoyOp, len := 1, rbuoy := some (bits (c.w 3) 5 0, bits (c.w 3) 8 8, BitVec.ofNat 64 (c.w 4)) }

end Sys2Proof.Machine
end

