-- ==== Sys2Proof/Machine/Sieve.lean ====
section
/-! DEFINITION. Arithmetic of the training-run blocks: binary floating-point formats, the Sieve codecs (R407 to R409), the NORM2
accumulator and its rounding (R414, R418). -/

namespace Sys2Proof.Machine

/-! ## Formats -/

/-- A binary format: exponent bits, mantissa bits and element bytes. -/
structure Fmt where
  ebits : Nat
  mbits : Nat
  size : Nat
  deriving DecidableEq, Repr

/-- bf16, fp16, fp8 E4M3 and fp8 E5M2, by DTYPE (R399). -/
def fmtOf (dtype : Nat) : Fmt :=
  match dtype with
  | 0 => ⟨8, 7, 2⟩
  | 1 => ⟨5, 10, 2⟩
  | 2 => ⟨4, 3, 1⟩
  | _ => ⟨5, 2, 1⟩

/-- bf16 and fp32, by REDUCE's DTYPE (Table 12.1). -/
def reduceFmt (dtype : Nat) : Fmt := if dtype = 0 then ⟨8, 7, 2⟩ else ⟨8, 23, 4⟩

/-- Sign, exponent field and mantissa field of an element. -/
def Fmt.sign (f : Fmt) (x : Nat) : Nat := x / 2 ^ (f.ebits + f.mbits) % 2
def Fmt.expo (f : Fmt) (x : Nat) : Nat := x / 2 ^ f.mbits % 2 ^ f.ebits
def Fmt.mant (f : Fmt) (x : Nat) : Nat := x % 2 ^ f.mbits

/-- Whether an element is infinite or NaN. -/
def Fmt.special (f : Fmt) (x : Nat) : Bool := f.expo x + 1 == 2 ^ f.ebits

/-- A finite element's magnitude: an integer, and the power of two it is scaled by. -/
def Fmt.magnitude (f : Fmt) (x : Nat) : Nat × Int :=
  let low : Int := 2 - 2 ^ (f.ebits - 1) - f.mbits
  if f.expo x = 0 then (f.mant x, low) else (2 ^ f.mbits + f.mant x, low + f.expo x - 1)

/-- `n / 2^k` rounded to nearest, ties to even. -/
def roundShr (n k : Nat) : Nat :=
  let q := n / 2 ^ k
  let r := n % 2 ^ k
  if 2 ^ k < 2 * r ∨ (2 * r = 2 ^ k ∧ q % 2 = 1) then q + 1 else q

/-- `m * 2^e` as an integer, rounded to nearest even. -/
def scaled (m : Nat) (e : Int) : Nat := if 0 ≤ e then m * 2 ^ e.toNat else roundShr m (-e).toNat

/-- `m * 2^e` rounded to nearest even in a format, without its sign; infinity when it is too large. -/
def Fmt.round (f : Fmt) (m : Nat) (e : Int) : Nat :=
  if m = 0 then 0
  else
    let low : Int := 2 - 2 ^ (f.ebits - 1) - f.mbits
    let q := max (e + Nat.log2 m - f.mbits) low
    let code := (q - low).toNat * 2 ^ f.mbits + scaled m (e - q)
    min code ((2 ^ f.ebits - 1) * 2 ^ f.mbits)

/-! ## Bit packing -/

/-- Bits of a number, least significant first. -/
def bitList (w v : Nat) : List Bool := (List.range w).map (bitAt v)

/-- The number of a bit list, least significant first. -/
def ofBits : List Bool → Nat
  | [] => 0
  | b :: rest => ofBool b + 2 * ofBits rest

/-- Bits packed into bytes, least significant first. -/
def packBits : Nat → List Bool → List Byte
  | 0, _ => []
  | n + 1, bs => if bs.isEmpty then [] else byteOf (ofBits (bs.take 8)) :: packBits n (bs.drop 8)

/-- Bits of a byte list. -/
def unpackBits (bs : List Byte) : List Bool := bs.flatMap fun b => bitList 8 b.toNat

/-- A list cut in groups. -/
def groupsOf {α : Type} (k : Nat) : Nat → List α → List (List α)
  | 0, _ => []
  | n + 1, l => if l.isEmpty then [] else l.take k :: groupsOf k n (l.drop k)

/-- Elements of a format from bytes. -/
def Fmt.elements (f : Fmt) (bs : List Byte) : List Nat := (groupsOf f.size bs.length bs).map ofBytes

/-- Elements of a format as bytes. -/
def Fmt.bytes (f : Fmt) (xs : List Nat) : List Byte := xs.flatMap (toBytes f.size)

/-! ## Blocks (Tables 12.4, 12.5) -/

/-- A coded block: its header's fields and its payload. -/
structure SieveBlock where
  mode : Nat
  ewidth : Nat
  ebase : Nat
  data : List Byte
  deriving DecidableEq, Repr

/-- Zeros to a multiple of 8 bytes. -/
def padding (n : Nat) : List Byte := List.replicate ((8 - n % 8) % 8) 0

/-- A block as stream bytes (R407). -/
def SieveBlock.toBytes (b : SieveBlock) : List Byte :=
  Machine.toBytes 8 (b.ewidth * 2 ^ 36 + b.ebase * 2 ^ 28 + b.mode * 2 ^ 26 + b.data.length) ++ b.data ++ padding b.data.length

/-- A block stored raw. -/
def rawBlock (bs : List Byte) : SieveBlock := ⟨0, 0, 0, bs⟩

/-- A Sieve-L block (R408). -/
def sieveL (f : Fmt) (bs : List Byte) : SieveBlock :=
  let xs := f.elements bs
  let ys := xs.filter (· != 0)
  let es := ys.map f.expo
  let base := es.foldl min (es.headD 0)
  let top := es.foldl max 0
  let width := if top = base then 0 else Nat.log2 (top - base) + 1
  let zmap := xs.map (· != 0)
  let plane := es.flatMap fun e => bitList width (e - base)
  let signs := ys.flatMap fun x => bitAt (f.sign x) 0 :: bitList f.mbits (f.mant x)
  ⟨1, width, base, packBits zmap.length zmap ++ packBits plane.length plane ++ packBits signs.length signs⟩

/-- The exponent of the largest magnitude of a group, at least -126 (R409). -/
def groupExp (f : Fmt) (xs : List Nat) : Int :=
  xs.foldl (fun a x => let m := f.magnitude x; if m.1 = 0 then a else max a (m.2 + Nat.log2 m.1)) (-126)

/-- A group of a Sieve-8 block (R409). -/
def sieveGroup (f : Fmt) (xs : List Nat) : List Byte :=
  let e := groupExp f xs
  byteOf (e + 127).toNat :: xs.map fun x =>
    let m := f.magnitude x
    let q := min 127 (scaled m.1 (m.2 - (e - 6)))
    if f.sign x = 1 then byteOf ((256 - q) % 256) else byteOf q

/-- A Sieve-8 block (R409). -/
def sieve8 (f : Fmt) (bs : List Byte) : SieveBlock := ⟨2, 0, 0, (groupsOf 32 bs.length (f.elements bs)).flatMap (sieveGroup f)⟩

/-- An input block coded with a codec: raw where R407 says so. -/
def encodeBlock (codec dtype : Nat) (bs : List Byte) : SieveBlock :=
  let f := fmtOf dtype
  let b := if codec = 0 then sieveL f bs else sieve8 f bs
  if codec = 2 ∨ bs.length ≤ b.data.length ∨ (codec = 1 ∧ (f.elements bs).any f.special) then rawBlock bs else b

/-- Bits taken in equal pieces. -/
def fieldsFrom (w : Nat) : Nat → List Bool → List Nat
  | 0, _ => []
  | n + 1, bs => ofBits (bs.take w) :: fieldsFrom w n (bs.drop w)

/-- Elements put back where a map has 1. -/
def spread : List Bool → List Nat → List Nat
  | [], _ => []
  | false :: m, ys => 0 :: spread m ys
  | true :: m, [] => 0 :: spread m []
  | true :: m, y :: ys => y :: spread m ys

/-- A Sieve-L block of `n` elements decoded (R408). -/
def unsieveL (f : Fmt) (b : SieveBlock) (n : Nat) : List Nat :=
  let mapBytes := (n + 7) / 8
  let zmap := (unpackBits (b.data.take mapBytes)).take n
  let k := (zmap.filter id).length
  let planeBytes := (k * b.ewidth + 7) / 8
  let es := fieldsFrom b.ewidth k (unpackBits ((b.data.drop mapBytes).take planeBytes))
  let sm := fieldsFrom (1 + f.mbits) k (unpackBits (b.data.drop (mapBytes + planeBytes)))
  spread zmap ((es.zip sm).map fun p => p.2 % 2 * 2 ^ (f.ebits + f.mbits) + (p.1 + b.ebase) % 2 ^ f.ebits * 2 ^ f.mbits + p.2 / 2)

/-- A group of a Sieve-8 block decoded (R409). -/
def unsieveGroup (f : Fmt) (g : List Byte) : List Nat :=
  let e : Int := ((g.headD 0).toNat : Int) - 127
  (g.drop 1).map fun q =>
    let v := q.toInt
    (if v < 0 then 2 ^ (f.ebits + f.mbits) else 0) + f.round v.natAbs (e - 6)

/-- A block of `n` input bytes decoded. -/
def decodeBlock (dtype n : Nat) (b : SieveBlock) : List Byte :=
  let f := fmtOf dtype
  (match b.mode with
   | 0 => b.data
   | 1 => f.bytes (unsieveL f b (n / f.size))
   | _ => f.bytes ((groupsOf 33 b.data.length b.data).flatMap (unsieveGroup f))).take n

/-- The coded blocks of a stream decoded: `len` original bytes in blocks of 4,096 (R407). -/
def decodeStream (dtype : Nat) : Nat → Nat → List Byte → List Byte
  | 0, _, _ => []
  | fuel + 1, len, bs =>
    if len = 0 then []
    else
      let h := ofBytes (bs.take 8)
      let n := bits h 12 0
      let k := min len 4096
      decodeBlock dtype k ⟨bits h 27 26, bits h 39 36, bits h 35 28, (bs.drop 8).take n⟩ ++
        decodeStream dtype fuel (len - k) (bs.drop (8 + n + (8 - n % 8) % 8))

/-- An extent's header (Table 12.4). -/
structure ExtHeader where
  id : Nat
  codec : Nat
  len : Nat
  clen : Nat
  crc : Nat
  stamp : Nat
  node : Nat
  epoch : Nat
  dtype : Nat
  deriving DecidableEq, Repr

/-- A header as its 64 bytes. -/
def ExtHeader.toBytes (h : ExtHeader) : List Byte :=
  let front := Machine.toBytes 8 (0x51E5 * 2 ^ 48 + h.id * 2 ^ 36 + h.codec * 2 ^ 32 + h.len) ++
    Machine.toBytes 8 (h.clen * 2 ^ 32 + h.crc) ++ Machine.toBytes 8 h.stamp ++
    Machine.toBytes 8 (h.dtype * 2 ^ 20 + h.epoch * 2 ^ 12 + h.node) ++ List.replicate 24 0
  front ++ Machine.toBytes 8 ((crc32 front).toNat * 2 ^ 32)

/-- A header read from 64 bytes, if its MAGIC and CRC are right (R412, check 1). -/
def readHeader (bs : List Byte) : Option ExtHeader :=
  let w := fun i => ofBytes ((bs.drop (8 * i)).take 8)
  if bits (w 0) 63 48 = 0x51E5 ∧ bits (w 7) 63 32 = (crc32 (bs.take 56)).toNat then
    some ⟨bits (w 0) 47 36, bits (w 0) 35 32, bits (w 0) 31 0, bits (w 1) 63 32, bits (w 1) 31 0, w 2, bits (w 3) 11 0,
      bits (w 3) 19 12, bits (w 3) 23 20⟩
  else .none

/-! ## NORM2 (R414, R418) -/

/-- An accumulator: the value in units of 2^-298, INF and NAN. -/
structure Accum where
  sum : Nat
  inf : Bool
  nan : Bool
  deriving DecidableEq, Repr

/-- The accumulator of nothing. -/
def Accum.zero : Accum := ⟨0, false, false⟩

/-- An element's exact square added. -/
def Accum.square (f : Fmt) (a : Accum) (x : Nat) : Accum :=
  if f.special x then
    if f.mant x = 0 then { a with inf := true } else { a with nan := true }
  else
    let m := f.magnitude x
    { a with sum := a.sum + m.1 * m.1 * 2 ^ (2 * m.2 + 298).toNat }

/-- The squares of the elements of a byte list added. -/
def Accum.squares (f : Fmt) (a : Accum) (bs : List Byte) : Accum := (f.elements bs).foldl (Accum.square f) a

/-- Two accumulators combined (R414). -/
def Accum.add (a b : Accum) : Accum := ⟨a.sum + b.sum, a.inf || b.inf, a.nan || b.nan⟩

/-- An accumulator's image of 80 bytes. -/
def Accum.image (a : Accum) : List Byte := toBytes 80 (a.sum % 2 ^ 638 + ofBool a.inf * 2 ^ 638 + ofBool a.nan * 2 ^ 639)

/-- The accumulator of an image. -/
def accOf (bs : List Byte) : Accum := let v := ofBytes (bs.take 80); ⟨v % 2 ^ 638, bitAt v 638, bitAt v 639⟩

/-- The integer square root, found bit by bit from bit `n - 1` down. -/
def rootFrom (v : Nat) : Nat → Nat → Nat
  | 0, r => r
  | n + 1, r => if (r + 2 ^ n) * (r + 2 ^ n) ≤ v then rootFrom v n (r + 2 ^ n) else rootFrom v n r

/-- The square root of the value field, rounded once to nearest even in a format (R418): the integer root of the field scaled by 2^128, with
a sticky bit below it. -/
def rootIn (f : Fmt) (sum : Nat) : Nat :=
  let v := sum * 2 ^ 128
  let r := rootFrom v 400 0
  f.round (2 * r + ofBool (decide (r * r < v))) (-149 - 64 - 1)

/-- fp64 and fp32. -/
def fp64 : Fmt := ⟨11, 52, 8⟩
def fp32 : Fmt := ⟨8, 23, 4⟩

/-- The result of a round in fp64 and fp32 (R418). -/
def Accum.norm (a : Accum) : Nat × Nat :=
  if a.nan then (0x7FF8000000000000, 0x7FC00000)
  else if a.inf then (0x7FF0000000000000, 0x7F800000)
  else (rootIn fp64 a.sum, rootIn fp32 a.sum)

end Sys2Proof.Machine
end

