-- ==== Sys2Proof/Machine/RunOps.lean ====
section
/-! DEFINITION. What the training-run commands do: extents, page-out and restore (R405 to R413), tally rounds (R414 to R420), the
regatta (R400 to R404), SWAP (R424); and the end of any job. -/

namespace Sys2Proof.Machine

/-! ## Extents -/

/-- Bytes of an extent's stream (R406). -/
def Extent.streamLen (x : Extent) : Nat := 64 + x.clen

/-- A page of an extent put in place. -/
def Extent.putPage (x : Extent) (k : Nat) (bs : List Byte) : Extent := { x with pages := x.pages.filter (·.1 != k) ++ [(k, bs)] }

/-- An extent becomes FREE, its pages freed (R413). -/
def State.freeExtent (s : State) (id : Nat) : State :=
  (s.returnPages .sts (s.extent id).pages.length).setExtent id Extent.reset

/-- Whether an UNSTASH of an extent is under way. -/
def State.restoring (s : State) (id : Nat) : Bool :=
  s.cox.jobs.any fun j => j.kind == .unstash && j.lastIn && (match j.page with | some p => p.1 == id | .none => false)

/-- Whether a STASH is encoding an extent (R410). -/
def State.stashing (s : State) (id : Nat) : Bool := s.cox.jobs.any fun j => j.kind == .stash id

/-- Whether an extent that is to be retired can become FREE now (R405, R413). -/
def State.canFree (s : State) (id : Nat) : Bool :=
  !((s.extent id).state == 1 && s.stashing id) && (s.extent id).writing.isEmpty && !s.restoring id

/-- An extent retired, now or as soon as its page writes and restores have ended (R405, R413). -/
def State.retireExtent (s : State) (id : Nat) : State :=
  if (s.extent id).state = 0 then s
  else if s.canFree id then s.freeExtent id
  else s.setExtent id { s.extent id with retire := true }

/-- Extents that wait to be retired. -/
def State.retireWaiting (s : State) : State :=
  s.runs.extents.foldl (fun s kv => if kv.2.retire && s.canFree kv.1 then s.freeExtent kv.1 else s) s

/-- A stash that has encoded everything into pages. -/
def Job.encoded (j : Job) : Bool := j.lastIn && j.pos == j.len && j.bytes.isEmpty

/-- A page of a stash that is full, or the last, goes to STS, or waits for a page (R356, R359). -/
def State.stashPage (s : State) (j : Job) (id : Nat) : Bool × State :=
  if j.bytes.isEmpty || (decide (j.bytes.length < 4096) && decide (j.pos < j.len)) then (true, s)
  else
    match s.allocate .sts 1 with
    | (false, t) => (false, t.setJob { j with waitSince := if j.waitSince.isSome then j.waitSince else some s.now })
    | (true, t) =>
      let x := t.extent id
      let t := t.setExtent id (x.putPage x.pages.length (j.bytes.take 4096))
      (true, t.setJob { j with bytes := j.bytes.drop 4096, waitSince := .none })

/-- Work on a stash (R405, R410): once the extent is FREE it is STAGING; pages fill; the next block is read. -/
def State.stashGo (s : State) (jid : Nat) : Nat → State
  | 0 => s
  | fuel + 1 =>
    match s.job jid with
    | .none => s
    | some j =>
      match j.kind with
      | .stash id =>
        if !j.lastIn then
          match s.cmd j.cmd with
          | .none => s.dropJob jid
          | some c =>
            let s := s.retireExtent id
            if (s.extent id).state != 0 then s
            else
              let w5 := c.w 5
              let x := { Extent.reset with
                state := 1, codec := bits w5 15 12, dtype := bits w5 19 16, remote := bitAt w5 20, persist := bitAt w5 21,
                dest := cDest c.words, tc := cTc c.words, psel := cPsel c.words, tgt := c.w 4, len := cLen c.words,
                crc := 0xFFFFFFFF#32 }
              ((s.setExtent id x).setJob { j with lastIn := true, bytes := List.replicate 64 0 }).stashGo jid fuel
        else if j.chunk != 0 then s
        else if j.encoded then s
        else
          match s.stashPage j id with
          | (false, t) => t
          | (true, t) =>
            match t.job jid with
            | .none => t
            | some j1 =>
              if j1.pos < j1.len ∧ j1.bytes.length < 4096 then t.readMore j1
              else if j1.bytes.isEmpty then t else t.stashGo jid fuel
      | _ => s

/-- A block of a stash at hand: coded, counted, its CRC taken on (R407, R410). -/
def State.stashChunk (s : State) (j : Job) (id : Nat) (bs : List Byte) : State :=
  let x := s.extent id
  let b := encodeBlock x.codec x.dtype bs
  let out := b.toBytes
  let s := if b.mode = 0 then s.bump Reg.STH.RAW_CNT else s
  let s := s.setExtent id { x with clen := x.clen + out.length, crc := crc32From x.crc out }
  (s.setJob { j with pos := j.pos + bs.length, chunk := 0, got := [], bytes := j.bytes ++ out }).stashGo j.id 4

/-- The header of an extent (Table 12.4). -/
def State.extHeader (s : State) (id : Nat) : ExtHeader :=
  let x := s.extent id
  { id := id, codec := x.codec, len := x.len, clen := x.clen, crc := (x.crc ^^^ 0xFFFFFFFF#32).toNat, stamp := s.stamp.word,
    node := s.runs.selfNode, epoch := s.runs.selfEpoch, dtype := x.dtype }

/-- An extent whose STASH has ended: RESIDENT unless BAD, the newest (R410, R411). -/
def State.extentDone (s : State) (id : Nat) (clean : Bool) : State :=
  let x := s.extent id
  let s := s.setExtent id { x with
    state := if x.state = 5 then 5 else 2, age := s.runs.nextAge, clean := if clean then x.pages.map (·.1) else [], writing := [] }
  { s with runs := { s.runs with nextAge := s.runs.nextAge + 1 } }.retireWaiting

/-- The bytes of an extent's resident pages in order. -/
def Extent.stream (x : Extent) : List Byte :=
  (List.range x.pages.length).flatMap fun k => ((x.pages.find? (·.1 == k)).map (·.2)).getD []

/-- The choice of a port, settled already for a command that the Backwater releases (R348). -/
def forcedChoice (forced : Option Nat) (c : Choice) : Choice :=
  match forced with
  | .none => c
  | some n => .send n

/-- A staged page, given with its number in the Reservoir, whose read is uncorrectable before the target has it (R360, R410): it is lost and the extent
is BAD. -/
def State.stagedUe (s : State) (id : Nat) (l : Nat × Nat) : State :=
  let x := s.extent id
  if x.pages.any (·.1 == l.1) then
    ((s.setExtent id { x with pages := x.pages.filter (·.1 != l.1), state := 5 }).pageUe .sts l.2).raise1 ⟨Err.STH.EXTENT_BAD, id, 0⟩
  else s

/-- The pages of an extent among those that are lost. -/
def Extent.hits (x : Extent) (lost : List (Nat × Nat)) : List Nat := (lost.map (·.1)).filter fun k => x.pages.any (·.1 == k)

/-- A PERSIST stash written through to its target (R410): by hub writes, or as one SEND transfer on a stream. What lost pages held goes out
poisoned (R75, R360; log entry 197). -/
def State.persistTo (s : State) (j : Job) (id : Nat) (n : Option Nat) (lost : List (Nat × Nat)) : State :=
  let x := s.extent id
  let bs := x.stream
  let hits := x.hits lost
  let s := lost.foldl (fun s l => s.stagedUe id l) s
  let status := if hits.isEmpty then j.status else some (stPeer, 0)
  let j := { j with kind := .bytes, page := some (id, 0), len := bs.length, pos := 0, chunk := 0, got := [], status := status }
  match n with
  | .none =>
    (s.setJob { j with writes := writeCount x.tgt bs.length, queued := false }).hubWriteLost x.tgt bs hits (.jobWrite j.id .none)
  | some n =>
    s.setJob { j with port := n, tc := x.tc, remote := bits x.tgt 27 12, bytes := bs, queued := true }

/-- Encoding has ended (R410): the header is put in front; a PERSIST = 0 stash is done, another goes on to its target, on the stream that
released it from the Backwater if it was held; `lost` are pages whose read for the target is uncorrectable. -/
def State.encodeEnd (s : State) (j : Job) (id : Nat) (c : Cmd) (forced : Option Nat) (lost : List (Nat × Nat)) : State :=
  let x := s.extent id
  let head := (s.extHeader id).toBytes
  let first := ((x.pages.find? (·.1 == 0)).map (·.2)).getD []
  let y := { x with pages := (0, head ++ first.drop 64) :: x.pages.filter (·.1 != 0) }
  if !x.persist then (((s.setExtent id y).extentDone id false).dropJob j.id).complete c.id stDone x.clen
  else if !x.remote then (s.setExtent id y).persistTo j id .none lost
  else
    match forcedChoice forced (s.choose x.psel 0 c.mask) with
    | .send n => ((s.setExtent id y).setCmd { c with port := some n, phase := .running }).persistTo j id (some n) lost
    | .hold n => if s.bwFull then s else s.enterBackwater c n
    | .fail p => (((s.setExtent id y).extentDone id false).dropJob j.id).complete c.id stLinkDown p

/-- The end of a PERSIST write-through. -/
def State.persistEnd (s : State) (j : Job) (id st det : Nat) : State :=
  let clen := (s.extent id).clen
  ((s.extentDone id (decide (st = 0))).dropJob j.id).complete j.cmd st (if st = 0 then clen else det)

/-! ## Page-out (R357, R358, R411) -/

/-- The next page to page out: of the oldest extent RESIDENT or PARTIAL, its lowest page whose write is not under way (R411). -/
def State.nextPageOut (s : State) : Option (Nat × Nat) :=
  let free := fun (x : Extent) => x.pages.filter fun p => !x.writing.contains p.1
  let ok := s.runs.extents.filter fun kv => (kv.2.state == 2 || kv.2.state == 3) && !(free kv.2).isEmpty
  match ok with
  | [] => .none
  | kv :: rest =>
    let o := rest.foldl (fun a b => if b.2.age < a.2.age then b else a) kv
    let ks := (free o.2).map (·.1)
    some (o.1, ks.foldl min (ks.headD 0))

/-- A page of an extent leaves STS (R358). -/
def State.pageGone (s : State) (id k : Nat) : State :=
  let x := s.extent id
  let left := x.pages.filter (·.1 != k)
  let st := if x.state = 5 then 5 else if left.isEmpty then 4 else 3
  let s := s.setExtent id { x with pages := left, clean := x.clean.filter (· != k), writing := x.writing.filter (· != k), state := st }
  ((s.returnPages .sts 1).bump Reg.RSV.PAGEOUT_CNT).retireWaiting.pageEnough

/-- The end of a page's write (R411). -/
def State.pageOutEnd (s : State) (j : Job) (st : Nat) : State :=
  let s := s.dropJob j.id
  match j.page with
  | .none => s
  | some p =>
    if st = 0 then s.pageGone p.1 p.2
    else
      let x := s.extent p.1
      let s := s.setExtent p.1 { x with writing := x.writing.filter (· != p.2) }
      (s.raise1 ⟨Err.STH.PAGEOUT_RETRY, p.1, 0⟩).retireWaiting

/-- A page written to its target (R411): hub writes, or a SEND transfer on a port that may take it now. A page beyond every window is refused
as R338 refuses it. -/
def State.pageWrite (s : State) (id k : Nat) (poison : Bool) : State :=
  let x := s.extent id
  let bs := ((x.pages.find? (·.1 == k)).map (·.2)).getD []
  let a := x.tgt + 4096 * k
  let j := { blankJob with kind := .bytes, page := some (id, k), len := bs.length, status := if poison then some (stPeer, 0) else .none }
  let busy := fun (s : State) => s.setExtent id { s.extent id with writing := (s.extent id).writing ++ [k] }
  if !x.remote then
    let jid := s.cox.nextId
    ((busy s).addJob { j with writes := writeCount a bs.length, queued := false, status := .none }).hubWrite a bs poison (.jobWrite jid .none)
  else
    match s.lookNode x.dest with
    | (.missing, t) => t
    | (.bad _, t) => t.raise1 ⟨Err.STH.PAGEOUT_RETRY, id, 0⟩
    | (.entry e _, t) =>
      if !e.destOk || decide (2 ^ 28 ≤ a) || (decide (x.psel < 16) && !bitAt e.ports x.psel) then t.raise1 ⟨Err.STH.PAGEOUT_RETRY, id, 0⟩
      else
        match t.choose x.psel 0 e.ports with
        | .send n => (busy t).addJob { j with port := n, tc := x.tc, remote := bits a 27 12, bytes := bs }
        | .hold _ => t
        | .fail _ => t.raise1 ⟨Err.STH.PAGEOUT_RETRY, id, 0⟩

/-! ## Restore (R412) -/

/-- A failed restore (R412): STASH_CORRUPT. -/
def State.corrupt (s : State) (c : Cmd) : State :=
  let id := if bitAt (c.w 5) 22 then 0xFFF else bits (c.w 5) 11 0
  ((s.raise1 ⟨Err.STH.CORRUPT, id, 0⟩).bump Reg.STH.CORRUPT_CNT).complete c.id stCorrupt id

/-- An UNSTASH that ends without writing. -/
def State.unstashEnd (s : State) (j : Job) (st det : Nat) : State :=
  let by_id := match s.cmd j.cmd with
    | .none => .none
    | some c => if bitAt (c.w 5) 22 then Option.none else some (bits (c.w 5) 11 0, bitAt (c.w 5) 23)
  let s := ((s.dropJob j.id).complete j.cmd st det).retireWaiting
  match by_id with
  | some (id, true) => if st = 0 then s.retireExtent id else s
  | some (_, false) => s
  | .none => s

/-- Runs of pages that are not resident, as first page and count. -/
def missingRuns (x : Extent) (n : Nat) : List (Nat × Nat) :=
  (List.range n).foldl (fun acc k =>
    if x.pages.any (·.1 == k) then acc
    else match acc.getLast? with
      | some r => if r.1 + r.2 = k then acc.dropLast ++ [(r.1, r.2 + 1)] else acc ++ [(k, 1)]
      | .none => [(k, 1)]) []

/-- A read of a target range for a restore: from local hub memory, or by FETCH on a stream (R406). -/
def State.restoreRead (s : State) (j : Job) (remote : Bool) (tgt off len tc n : Nat) : State :=
  if len = 0 then s
  else if remote then
    s.addJob { blankJob with cmd := j.cmd, kind := .fetchFor j.id off, port := n, tc := tc, remote := tgt + off, len := len }
  else s.hubRead (tgt + off) len fun k => .job j.id (off + k)

/-- The reads of a restore by ID: resident pages at once, the others from the target (R412). -/
def State.restoreById (s : State) (j : Job) (id n : Nat) : State :=
  let x := s.extent id
  let total := x.streamLen
  let have_ := x.pages.map fun p => (4096 * p.1, p.2.take (total - 4096 * p.1))
  let s := s.setJob { j with len := total, chunk := total, got := have_, lastIn := true }
  (missingRuns x ((total + 4095) / 4096)).foldl (fun s r =>
    s.restoreRead j x.remote x.tgt (4096 * r.1) (min (4096 * r.2) (total - 4096 * r.1)) x.tc n) s

/-- Work on an UNSTASH that has not begun: it waits while its extent is STAGING, and chooses a port where it must fetch (R412, R343). -/
def State.unstashGo (s : State) (j : Job) (c : Cmd) (forced : Option Nat) : State :=
  if j.lastIn then s
  else
    let byTgt := bitAt (c.w 5) 22
    let id := bits (c.w 5) 11 0
    let x := s.extent id
    if !byTgt && x.state == 1 && s.stashing id then s
    else if !byTgt && (x.state == 0 || x.state == 1 || x.state == 5) then (s.dropJob j.id).corrupt c
    else
      let remote := if byTgt then cRemote c.words else
        x.remote && !(missingRuns x ((x.streamLen + 4095) / 4096)).isEmpty
      let begin_ := fun (s : State) (n : Nat) =>
        if byTgt then
          let s := s.setJob { j with len := 64, chunk := 64, lastIn := true }
          s.restoreRead j (cRemote c.words) (c.w 3) 0 64 (cTc c.words) n
        else s.restoreById { j with page := some (id, 0) } id n
      if !remote then begin_ s 0
      else
        let choice : Option Choice × State :=
          if byTgt then (some (forcedChoice forced (s.choose (cPsel c.words) 0 c.mask)), s)
          else match s.lookNode x.dest with
            | (.missing, t) => (.none, t)
            | (.bad _, t) => (some (.fail 0), t)
            | (.entry e _, t) => (some (forcedChoice forced (t.choose x.psel 0 e.ports)), t)
        match choice with
        | (.none, t) => t
        | (some (.send n), t) =>
          begin_ ((t.setCmd { c with port := some n, phase := .running }).setJob { j with port := n }) n
        | (some (.hold n), t) => if t.bwFull then t else t.enterBackwater c n
        | (some (.fail p), t) => (t.dropJob j.id).complete c.id stLinkDown p

/-- A restore by target with its header at hand reads the rest (R412). -/
def State.restoreRest (s : State) (j : Job) (c : Cmd) : State :=
  if bitAt (c.w 5) 22 && j.len == 64 && j.full then
    match readHeader j.data with
    | .none => s
    | some h =>
      if h.clen = 0 ∨ cLen c.words < h.len then s
      else
        let s := s.setJob { j with len := 64 + h.clen, chunk := 64 + h.clen }
        s.restoreRead j (cRemote c.words) (c.w 3) 64 h.clen (cTc c.words) j.port
  else s

/-- A piece of a restore's stream. -/
def State.restorePiece (s : State) (jid off : Nat) (bs : List Byte) : State :=
  match s.job jid with
  | .none => s
  | some j =>
    let j := j.take off bs
    let s := s.setJob j
    match s.cmd j.cmd with
    | .none => s
    | some c => s.restoreRest j c

/-- What the checks of R412 find of a restored stream: corrupt, its coded blocks corrupt with LEN, too long, or its original bytes. -/
inductive Restored where
  | badHeader | badBlocks (len : Nat) | tooLong | good (len : Nat) (data : List Byte)
  deriving DecidableEq, Repr

/-- The checks of R412, in their order. -/
def checkStream (x : Option (Nat × Nat)) (limit : Nat) (bs : List Byte) : Restored :=
  match readHeader (bs.take 64) with
  | .none => .badHeader
  | some h =>
    let blocks := (bs.drop 64).take h.clen
    if (match x with | some e => h.id != e.1 || h.len != e.2 | .none => false) then .badHeader
    else if limit < h.len then .tooLong
    else if blocks.length ≠ h.clen ∨ (crc32 blocks).toNat ≠ h.crc then .badBlocks h.len
    else .good h.len (decodeStream h.dtype (h.len / 4096 + 1) h.len blocks)

/-- A resident page of a restore whose read is uncorrectable (R360, R410): of a page that the target has, the data are read back from there; another
is lost, and what the restore writes is poisoned (R75; log entry 197). -/
def State.restoreUe (s : State) (jid id : Nat) (l : Nat × Nat) : State :=
  let x := s.extent id
  let lose := fun (s : State) => match s.job jid with
    | .none => s
    | some j => (s.setJob { j with status := some (stPeer, 0) }).stagedUe id l
  if !x.pages.any (·.1 == l.1) then s
  else if !x.clean.contains l.1 then lose s
  else
    match s.job jid with
    | .none => s
    | some j =>
      let again := fun (s : State) (n : Nat) =>
        let left := x.pages.filter (·.1 != l.1)
        let s := (s.setExtent id { x with
          pages := left, clean := x.clean.filter (· != l.1), state := if left.isEmpty then 4 else 3 }).pageUe .sts l.2
        let off := 4096 * l.1
        let j := { j with got := j.got.filter (·.1 != off), port := n }
        (s.setJob j).restoreRead j x.remote x.tgt off (min 4096 (j.len - off)) x.tc n
      if !x.remote then again s 0
      else match s.lookNode x.dest with
        | (.entry e _, t) => match t.choose x.psel 0 e.ports with
          | .send n => again t n
          | .hold _ => lose t
          | .fail _ => lose t
        | (.bad _, t) => lose t
        | (.missing, t) => lose t

/-- The restored extent checked (R412): its bytes are written at LOCAL, or the command ends. The bytes LOCAL holds after a failed CRC are free
values (log entry 9). -/
def State.unstashCheck (s : State) (j : Job) (c : Cmd) : State :=
  let id := bits (c.w 5) 11 0
  let table := if bitAt (c.w 5) 22 then Option.none else some (id, (s.extent id).len)
  let write := fun (s : State) (bs : List Byte) (len : Nat) =>
    (s.setJob { j with writes := writeCount (c.w 4) bs.length, pos := len, chunk := 0, got := [] }).hubWrite (c.w 4) bs j.status.isSome (.jobWrite j.id .none)
  match checkStream table (cLen c.words) j.data with
  | .badHeader => (s.dropJob j.id).corrupt c
  | .tooLong => s.unstashEnd j stBad 3
  | .good len bs => if bs.isEmpty then s.unstashEnd j stDone len else write s bs len
  | .badBlocks len =>
    let f := s.fresh
    let bs := (List.range len).map (Config.corruptByte f.1)
    if bs.isEmpty then (s.dropJob j.id).corrupt c
    else
      let t := write f.2 bs len
      match t.job j.id with
      | .none => t
      | some j => t.setJob { j with status := some (stCorrupt, 0) }

/-- An UNSTASH whose last write is reported. -/
def State.unstashWritten (s : State) (j : Job) (st det : Nat) : State :=
  match j.status with
  | .none => s.unstashEnd j st (if st = 0 then j.pos else det)
  | some f =>
    match s.cmd j.cmd with
    | .none => s.dropJob j.id
    | some c => if f.1 = stCorrupt then ((s.dropJob j.id).corrupt c).retireWaiting else s.unstashEnd j f.1 f.2

/-! ## Tally (R414 to R420) -/

/-- A round in the table. -/
def State.round (s : State) (r : Nat) : Option Round := s.runs.rounds.find? (·.round == r)

/-- The state with a round changed. -/
def State.setRound (s : State) (x : Round) : State :=
  { s with runs := { s.runs with rounds := s.runs.rounds.map fun y => if y.round = x.round then x else y } }

/-- A round with nothing in it. -/
def newRound (r : Nat) : Round :=
  { round := r, isOpen := false, hasTree := false, root := false, parent := 0, children := [], parts := 0, partsIn := 0, taken := 0,
    images := [], early := [], sum := 0, inf := false, nan := false, br := 0, cmds := [], ports := [], sent := false }

/-- A round's accumulator. -/
def Round.acc (x : Round) : Accum := ⟨x.sum, x.inf, x.nan⟩

/-- A round with its accumulator set. -/
def Round.withAcc (x : Round) (a : Accum) : Round := { x with sum := a.sum, inf := a.inf, nan := a.nan }

/-- Rounds in progress (R416). -/
def State.openRounds (s : State) : Nat := (s.runs.rounds.filter (·.isOpen)).length

/-- A round takes a slot and its TLY page, if there is one (R416, R359). -/
def State.openRound (s : State) (r : Nat) : Bool × State :=
  match s.round r with
  | .none => (false, s)
  | some x =>
    if x.isOpen then (true, s)
    else if 64 ≤ s.openRounds then (false, s)
    else match s.allocate .tly 1 with
      | (false, t) => (false, t)
      | (true, t) => (true, t.setRound { x with isOpen := true })

/-- A round leaves the table, with its page. -/
def State.closeRound (s : State) (r : Nat) : State :=
  match s.round r with
  | .none => s
  | some x =>
    let s := { s with runs := { s.runs with rounds := s.runs.rounds.filter (·.round != r) } }
    if x.isOpen then s.returnPages .tly 1 else s

/-- A stray image (R416, R417). -/
def State.stray (s : State) (r : Nat) : State := s.raise1 ⟨Err.TLY.STRAY, r % 2 ^ 16, 0⟩

/-- A child's image taken into a round whose tree is known, or a stray. -/
def State.addImage (s : State) (r node : Nat) (a : Accum) : State :=
  match s.round r with
  | .none => s
  | some x =>
    if x.children.contains node && !x.images.contains node then
      s.setRound ({ x with images := x.images ++ [node] }.withAcc (x.acc.add a))
    else s.stray r

/-- A round's tree from its entry (Table 12.6), and the images that came before it. -/
def State.setTree (s : State) (r : Nat) (ws : List DWord) : State :=
  match s.round r with
  | .none => s
  | some x =>
    let w0 := wordAt ws 0
    let kids := (List.range (min 16 (bits w0 20 16))).map fun k => bits (wordAt ws (1 + k / 4)) (16 * (k % 4) + 11) (16 * (k % 4))
    let s := s.setRound { x with
      hasTree := true, root := bitAt w0 12, parent := bits w0 11 0, children := kids, parts := bits w0 31 24, early := [] }
    x.early.foldl (fun s e => s.addImage r e.1 ⟨e.2.1, e.2.2.1, e.2.2.2⟩) s

/-- A REDUCE taken in (R415, R416): its round, its tree if it is the first local one. -/
def State.reduceTaken (s : State) (c : Cmd) : State :=
  let r := bits (c.w 5) 15 0
  let s := { s with runs := { s.runs with failedRounds := s.runs.failedRounds.filter (· != r) } }
  let s := if (s.round r).isSome then s else { s with runs := { s.runs with rounds := s.runs.rounds ++ [newRound r] } }
  let s := match s.round r with
    | .none => s
    | some x => if x.hasTree then s else (s.setTree r c.entry)
  match s.round r with
  | .none => s
  | some x => s.setRound { x with taken := x.taken + 1, cmds := x.cmds ++ [c.id], br := bits (c.w 5) 29 24 }

/-- Work on a REDUCE: its round takes a slot, or it waits; its data is read (R414, R359). -/
def State.reduceGo (s : State) (j : Job) (r : Nat) : State :=
  if j.chunk != 0 then s
  else
    match s.openRound r with
    | (false, t) => t.setJob { j with waitSince := if j.waitSince.isSome then j.waitSince else some s.now }
    | (true, t) =>
      let j := { j with waitSince := .none }
      if j.pos < j.len then t.readMore j
      else
        let t := t.dropJob j.id
        match t.round r with
        | .none => t
        | some x => t.setRound { x with partsIn := x.partsIn + 1 }

/-- A piece of a REDUCE's elements at hand. -/
def State.reduceChunk (s : State) (j : Job) (r : Nat) (bs : List Byte) : State :=
  match s.cmd j.cmd, s.round r with
  | some c, some x =>
    let s := s.setRound (x.withAcc (Accum.squares (reduceFmt (bits (c.w 5) 23 20)) x.acc bs))
    let j := { j with pos := j.pos + bs.length, chunk := 0, got := [] }
    (s.setJob j).reduceGo j r
  | _, _ => s.dropJob j.id

/-- Whether a node's sum is complete and not sent (R417). -/
def Round.due (x : Round) : Bool :=
  x.isOpen && x.hasTree && x.partsIn == x.parts && x.images.length == x.children.length && !x.sent

/-- A command that ends without its jobs: those that have sent nothing are dropped, a list's built ones leave their queues, the others go
on without it. -/
def State.cancelJobs (s : State) (id : Nat) : State :=
  let s := s.leaveQueues id
  { s with cox := { s.cox with jobs := s.cox.jobs.filter fun j =>
      !(j.cmd == id && ((j.queued && j.pos == 0 && j.fetchId.isNone) ||
        (match j.kind with | .reduce _ => true | .stash _ => true | .unstash => true | _ => false))) } }

/-- A round fails (R420). -/
def State.failRound (s : State) (r cause st det : Nat) : State :=
  match s.round r with
  | .none => s
  | some x =>
    let s := (s.closeRound r).raise1 ⟨Err.TLY.ROUND_FAIL, cause * 2 ^ 16 + r % 2 ^ 16, 0⟩
    let s := s.bump Reg.TLY.ROUND_CNT_FAILED
    let s := { s with runs := { s.runs with failedRounds := s.runs.failedRounds.filter (· != r) ++ [r] } }
    x.cmds.foldl (fun s id => (s.cancelJobs id).complete id st det) s

/-- A message of the tally for a node, on a port chosen under R343; a port that holds commands keeps it in its queue. -/
def State.tallyTo (s : State) (node kind r : Nat) (data : List Byte) : Option Nat × State :=
  match s.lookNode node with
  | (.entry e _, t) =>
    if !e.destOk then (.none, t)
    else
      let put := fun (n : Nat) => (some n, t.pushMsg n (t.mkMsg kind 3 r true false data))
      match t.anyChoice e.ports with
      | .send n => put n
      | .hold n => put n
      | .fail _ => (.none, t)
  | (.bad _, t) => (.none, t)
  | (.missing, t) => (.none, t)

/-- Whether every node's map entry is at hand; a missing one is asked for. -/
def State.nodesKnown (s : State) (ks : List Nat) : Bool × State :=
  ks.foldl (fun a k => match a.2.lookNode k with
    | (.missing, t) => (false, t)
    | (.entry _ _, t) => (a.1, t)
    | (.bad _, t) => (a.1, t)) (true, s)

/-- The result of a round at a node (R419). -/
def State.roundResult (s : State) (x : Round) (n64 n32 : Nat) : State :=
  let s := (s.buoySet x.br (BitVec.ofNat 64 n64)).buoySet ((x.br + 1) % 64) (BitVec.ofNat 64 n32)
  let s := s.closeRound x.round
  let s := (s.wr Reg.TLY.LAST_ROUND x.round).wrPair Reg.TLY.LAST_NORM_LO Reg.TLY.LAST_NORM_HI n64
  let s := s.bump Reg.TLY.ROUND_CNT_DONE
  let s := x.children.foldl (fun s k => (s.tallyTo k 0x11 x.round (toBytes 8 n64 ++ toBytes 8 n32)).2) s
  x.cmds.foldl (fun s id => s.complete id stDone n64) s

/-! ## The regatta (R400 to R404) -/

/-- A program's template: 1 forward, 2 backward. -/
def template (prog : List DWord) (k : Nat) : List DWord := (prog.drop (8 * k)).take 8

/-- A reserved field or value of a program header (Table 12.2). -/
def badProgram (prog : List DWord) : Bool :=
  let w := wordAt prog
  outside (w 0) (span 12 0 + span 21 16 + span 29 24 + span 33 32) || bits (w 0) 12 0 == 0 || decide (4096 < bits (w 0) 12 0) ||
    outside (w 4) (span 31 0) || w 6 != 0 || w 7 != 0

/-- Transfers of a run. -/
def runTotal (prog : List DWord) : Nat := (if bitAt (wordAt prog 0) 32 then 2 else 1) * bits (wordAt prog 0) 12 0

/-- The words of transfer `i` of a run (R402). -/
def transferWords (prog : List DWord) (i : Nat) : List DWord :=
  let w := wordAt prog
  let m := bits (w 0) 12 0
  let back := decide (m ≤ i)
  let mb := if !back then i else if bitAt (w 0) 33 then 2 * m - 1 - i else i - m
  let t := template prog (if back then 2 else 1)
  let w0 := wordAt t 0
  let buoy := if back then bits (w 0) 29 24 else bits (w 0) 21 16
  let tag := (bits w0 63 48 + mb) % 2 ^ 16
  let new0 := tag * 2 ^ 48 + bits w0 47 30 * 2 ^ 30 + buoy * 2 ^ 24 + 2 ^ 23 + bits w0 22 0
  let thresh := if back then w 2 + (i - m) + 1 else w 1 + i + 1
  let src := wordAt t 3 + mb * (if back then w 5 else w 3)
  let page := (bits (wordAt t 4) 27 12 + mb * (if back then bits (w 4) 31 16 else bits (w 4) 15 0)) % 2 ^ 16
  [BitVec.ofNat 64 new0, BitVec.ofNat 64 thresh, BitVec.ofNat 64 (wordAt t 2), BitVec.ofNat 64 src, BitVec.ofNat 64 (page * 2 ^ 12),
    BitVec.ofNat 64 (wordAt t 5), BitVec.ofNat 64 (wordAt t 6), BitVec.ofNat 64 (wordAt t 7)]

/-- A run starts (R400). -/
def State.startRun (s : State) (c : Cmd) : State :=
  if s.runs.run.isSome then s.complete c.id stBad 7
  else
    let run : Run := ⟨c.id, c.entry, 0, 0, 0, .none, .none⟩
    let s := { s with runs := { s.runs with run := some run } }
    let s := (s.wr Reg.RGT.STAT_STATE 1).wr Reg.RGT.STAT_ISSUED 0
    let s := (s.wr Reg.RGT.DONE 0).bump Reg.RGT.RUN_CNT
    (s.wr Reg.RGT.PROG_LO (bits (c.w 3) 31 6)).wr Reg.RGT.PROG_HI (bits (c.w 3) 51 32)

/-- RGT_STOP (R404): with a run active, it ends the run and completes after it. -/
def State.stopRun (s : State) (c : Cmd) : State :=
  match s.runs.run with
  | .none => s.complete c.id stDone 0
  | some r =>
    if r.stop.isSome then s.complete c.id stDone 0
    else
      let s := { s with runs := { s.runs with run := some { r with stop := some c.id } } }
      ((s.wr Reg.RGT.STAT_STATE 3).discardWaiting 64).endRun

/-! ## SWAP (R424) -/

/-- The new entries of a SWAP from the old ones: FAILED's, then SPARE's. -/
def swapWords (f sp : List DWord) : List DWord × List DWord :=
  let ef := nodeEntry f
  let es := nodeEntry sp
  let w0 := es.phys * 2 ^ 32 + es.ports * 2 ^ 16 + (ef.epoch + 1) % 256 * 2 ^ 8 + 1
  (BitVec.ofNat 64 w0 :: f.drop 1, BitVec.ofNat 64 (wordAt sp 0 / 4 * 4 + 3) :: sp.drop 1)

/-- A SWAP writes both entries through, once no other SWAP is under way. -/
def State.swapGo (s : State) (c : Cmd) : State :=
  if s.runs.swap.isSome || c.begun then s
  else
    let f := bits (c.w 3) 11 0
    let k := bits (c.w 3) 27 16
    let n := swapWords (c.entry.take 4) (c.entry.drop 4)
    let s := s.setCmd { c with begun := true }
    let run : SwapRun := ⟨c.id, f, k, (nodeEntry n.1).epoch, n.1, n.2, 0, .none, .none⟩
    let s := { s with runs := { s.runs with swap := some run } }
    (s.hubWrite (s.nodeAddr f) (bytesOfWords n.1) false (.swapEntry false)).hubWrite (s.nodeAddr k) (bytesOfWords n.2) false (.swapEntry true)

/-- An entry's write reported, or failed with a status. -/
def State.swapReported (s : State) (err : Option (Nat × Nat)) : State :=
  match s.runs.swap with
  | .none => s
  | some w =>
    let w := { w with reported := w.reported + 1, error := if w.error.isSome then w.error else err }
    if w.reported < 2 then { s with runs := { s.runs with swap := some w } }
    else
      match w.error with
      | .none => { s with runs := { s.runs with swap := some { w with ready := some s.now } } }
      | some e =>
        let lf := s.nodeAddr w.failed / 64
        let lk := s.nodeAddr w.spare / 64
        let s := { s with runs := { s.runs with swap := .none } }
        let s := (s.dropLines fun l => l == lf || l == lk).raise1 ⟨Err.BTH.SWAP_FAIL, w.epoch * 2 ^ 12 + w.failed, 0⟩
        s.complete w.cmd e.1 e.2

/-! ## The end of a job -/

/-- A job of any kind is done, or has failed with a status. -/
def State.jobEnds (s : State) (j : Job) (st det : Nat) : State :=
  match j.kind with
  | .send =>
    let r := j.status.getD (st, det)
    (s.dropJob j.id).transferDone j.cmd j.item r.1 r.2
  | .bytes =>
    let r := j.status.getD (st, det)
    if j.cmd = 0 then s.pageOutEnd j st
    else match j.page with
      | .none => s.dropJob j.id
      | some p => s.persistEnd j p.1 r.1 r.2
  | .buoyOp => (s.dropJob j.id).transferDone j.cmd j.item st det
  | .fetch =>
    let r := j.status.getD (st, det)
    ((s.endFetch j).dropJob j.id).transferDone j.cmd j.item r.1 r.2
  | .fetchFor parent _ =>
    let s := (s.endFetch j).dropJob j.id
    if st = 0 then s
    else match s.job parent with
      | .none => s
      | some p => s.unstashEnd p st det
  | .answer _ => s.dropJob j.id
  | .reduce _ => (s.dropJob j.id).complete j.cmd st det
  | .stash id => ((s.freeExtent id).dropJob j.id).complete j.cmd st det
  | .unstash => s.unstashWritten j st det

end Sys2Proof.Machine
end

