-- ==== Sys2Proof/Machine/HubIn.lean ====
section
/-! DEFINITION. What comes back from hub memory (R70 to R76, R83, R353), what a command does once it leaves its wait slot, and the work that
either sets free. -/

namespace Sys2Proof.Machine

/-! ## Receive space and landed transfers (R295, R338, R339) -/

/-- A message's receive space is freed: its credits are returned (R295), but for what an earlier training left. -/
def State.freeSpace (s : State) (n cls units : Nat) : State :=
  let l := s.link n
  let oldHdr := min 1 (l.staleHdr.getD cls 0)
  let oldData := min units (l.staleData.getD cls 0)
  s.setLink n { l with
    freedHdr := setAt l.freedHdr cls ((l.freedHdr.getD cls 0 + (1 - oldHdr)) % 2 ^ 16)
    freedData := setAt l.freedData cls ((l.freedData.getD cls 0 + (units - oldData)) % 2 ^ 24)
    staleHdr := setAt l.staleHdr cls (l.staleHdr.getD cls 0 - oldHdr)
    staleData := setAt l.staleData cls (l.staleData.getD cls 0 - oldData) }

/-- A write of a received message's data reported: after its last one the message's space is freed. -/
def State.spaceDone (s : State) (n msg : Nat) : State :=
  let l := s.link n
  match l.space.find? (·.1 == msg) with
  | .none => s
  | some e =>
    if 1 < e.2.1 then
      s.setLink n { l with space := l.space.map fun x => if x.1 = msg then (x.1, x.2.1 - 1, x.2.2) else x }
    else (s.setLink n { l with space := l.space.filter (·.1 != msg) }).freeSpace n e.2.2.1 e.2.2.2

/-- The port on which a stream's answers go: the member port of a fan's receive side. -/
def answerPort (n : Nat) : Nat := n % 16

/-- The oldest transfers of a stream and class that are complete and written are answered, in order (R339): the BUOY_OP that ended one is
applied first, if it succeeded. -/
def State.answerReady (s : State) (n cls : Nat) : Nat → State
  | 0 => s
  | fuel + 1 =>
    let l := s.link n
    match l.rxXfers.find? (·.cls == cls) with
    | .none => s
    | some x =>
      if !x.complete || x.writes != 0 then s
      else
        let s := s.setLink n { l with rxXfers := l.rxXfers.filter (·.id != x.id) }
        let s := match x.buoy with
          | .none => s
          | some b => if x.status = 0 then s.buoyOp b.1 b.2.1 b.2.2 else s
        (s.xferDone (answerPort n) x.status 0 cls 0 x.detail).answerReady n cls fuel

/-- A received transfer changed, and the answers that are then due. -/
def State.setRxXfer (s : State) (n : Nat) (x : RxXfer) : State :=
  let l := s.link n
  (s.setLink n { l with rxXfers := l.rxXfers.map fun y => if y.id = x.id then x else y }).answerReady n x.cls (l.rxXfers.length + 1)

/-- A write of a landing message reported, or failed with a status, remote for the sender (R342). -/
def State.landDone (s : State) (n xfer : Nat) (err : Option Nat) : State :=
  match (s.link n).rxXfers.find? (·.id == xfer) with
  | .none => s
  | some x =>
    let x := { x with writes := x.writes - 1 }
    s.setRxXfer n (match err with
      | .none => x
      | some st => if x.status = 0 then { x with status := st, detail := 1 } else x)

/-! ## Writes and reads of jobs -/

/-- A write of a job reported, or failed with a status. -/
def State.jobWritten (s : State) (id : Nat) (err : Option Nat) : State :=
  match s.job id with
  | .none => s
  | some j =>
    let j := { j with
      writes := j.writes - 1
      status := match err with
        | .none => j.status
        | some st => if j.status.isSome then j.status else some (st, 0) }
    let s := s.setJob j
    let r := j.status.getD (0, 0)
    match j.kind with
    | .fetch => if j.writes = 0 ∧ j.lastIn then s.jobEnds j r.1 r.2 else s
    | _ => if j.writes = 0 then s.jobEnds j r.1 r.2 else s

/-- A job's data at hand. -/
def State.jobData (s : State) (j : Job) (bs : List Byte) : State :=
  match j.kind with
  | .send => s.emitSend j bs
  | .answer id => s.emitAnswer j id bs
  | .reduce r => s.reduceChunk j r bs
  | .stash id => s.stashChunk j id bs
  | .bytes => s
  | .buoyOp => s
  | .fetch => s
  | .fetchFor _ _ => s
  | .unstash => s

/-- A piece of a job's read. -/
def State.jobPiece (s : State) (id off : Nat) (bs : List Byte) : State :=
  match s.job id with
  | .none => s
  | some j =>
    if j.kind = .unstash then s.restorePiece id off bs
    else
      let j := j.take off bs
      let s := s.setJob j
      if j.full then s.jobData j j.data else s

/-- A job whose read failed with a status (R74). -/
def State.jobReadFails (s : State) (id st : Nat) : State :=
  match s.job id with
  | .none => s
  | some j =>
    match j.kind with
    | .send =>
      let s := match s.cmd j.cmd with
        | .none => s
        | some c => if c.isList then s.setCmd { c with begun := true } else s
      let r := s.sendFails j st 0
      if r.1 then (r.2.transferDone j.cmd j.item st 0).leaveQueues j.cmd else r.2.leaveQueues j.cmd
    | .answer fid => (s.dropJob id).xferDone j.port st 1 j.tc fid 1
    | .unstash => s.unstashEnd j st 0
    | .reduce _ => s.jobEnds j st 0
    | .stash _ => s.jobEnds j st 0
    | .bytes => s
    | .buoyOp => s
    | .fetch => s
    | .fetchFor _ _ => s

/-! ## Commands that leave their wait slots -/

/-- A command leaves its wait slot. -/
def State.leaveSlot (s : State) (c : Cmd) : State :=
  { s with cox := { s.cox with slots := s.cox.slots.filter fun kv => kv.2 != some c.id } }

/-- A SEND, FETCH or remote BUOY finds its port (R309, R343, R347); with the Backwater full it stays where it is (R349). -/
def State.routeCmd (s : State) (c : Cmd) : State :=
  match s.choose (cPsel c.words) (cGroup c.words) c.mask with
  | .send n => (s.leaveSlot c).startSimple c n
  | .hold n => if s.bwFull then s else (s.leaveSlot c).enterBackwater c n
  | .fail p => s.complete c.id stLinkDown (s.streamPort p)

/-- The job of a command that has one of its own. -/
def State.ownJob (s : State) (id : Nat) : Option Job := s.cox.jobs.find? fun j => j.cmd == id && j.item == 0

/-- A command goes ahead: from its wait slot, at once, or from the Backwater. -/
def State.go (s : State) (c : Cmd) : State :=
  let running := { c with phase := .running }
  let start := fun (s : State) => (s.leaveSlot c).setCmd running
  match cOp c.words with
  | 0 => s.complete c.id stDone 0
  | 1 => s.routeCmd c
  | 2 => s.routeCmd c
  | 3 => if c.entry.isEmpty then (start s).readEntry running else (start s).entryGo running
  | 4 => if c.entry.isEmpty then (start s).readEntry running else (start s).entryGo running
  | 5 =>
    let s := start s
    let jid := s.cox.nextId
    let r := bits (c.w 5) 15 0
    let s := s.addJob { blankJob with cmd := c.id, kind := .reduce r, addr := c.w 3, len := cLen c.words, tc := 3, queued := false }
    match s.job jid with
    | .none => s
    | some j => s.reduceGo j r
  | 6 =>
    let s := start s
    let id := bits (c.w 5) 11 0
    match s.ownJob c.id with
    | some j => if j.encoded then s.encodeEnd j id running .none [] else s
    | .none =>
      let jid := s.cox.nextId
      (s.addJob { blankJob with cmd := c.id, kind := .stash id, addr := c.w 3, len := cLen c.words, queued := false }).stashGo jid 4
  | 7 =>
    let s := start s
    match s.ownJob c.id with
    | some j => s.unstashGo j running .none
    | .none =>
      let jid := s.cox.nextId
      let s := s.addJob { blankJob with cmd := c.id, kind := .unstash, queued := false }
      match s.job jid with
      | .none => s
      | some j => s.unstashGo j running .none
  | 8 =>
    if cRemote c.words then s.routeCmd c
    else (s.buoyOp (bits (c.w 3) 5 0) (bits (c.w 3) 8 8) (BitVec.ofNat 64 (c.w 4))).complete c.id stDone 0
  | 9 => s
  | 0x10 => (start s).startRun running
  | 0x11 => (start s).stopRun running
  | _ => (start s).swapGo running

/-! ## Failures and data of hub requests -/

/-- The status of a failed request (Table 3.5a); 0x100 marks one that reached no culvert (R83). -/
def hubStatus (reason : Nat) : Nat := if reason = 1 then 0x11 else if reason = 2 then stDenied else stPeer

/-- The intake queues, enabled and not stopped, whose next command lies in a line. -/
def State.queuesAt (s : State) (line : Nat) : List Nat :=
  (List.range 64).filter fun k =>
    s.flag (Reg.COX.IQ_CFG_ENABLE k) && !s.flag (Reg.COX.IQ_STAT_STOPPED k) &&
      s.rd (Reg.COX.IQ_HEAD k) != s.rd (Reg.COX.IQ_TAIL k) &&
      s.rd (Reg.COX.IQ_BASE_HI k) * 2 ^ 26 + s.rd (Reg.COX.IQ_BASE_LO k) + s.rd (Reg.COX.IQ_HEAD k) == line

/-- An intake queue stops: its next command could not be fetched (R353). -/
def State.stopQueue (s : State) (k : Nat) : State :=
  (s.wr (Reg.COX.IQ_STAT_STOPPED k) 1).raise1 ⟨Err.COX.IQ_STOPPED, k, s.rd (Reg.COX.IQ_HEAD k)⟩

/-- A request that failed with a status. -/
def State.hubFails (s : State) (r : HubReq) (code : Nat) : State :=
  let st := code % 256
  match r.purpose with
  | .fill =>
    let line := r.addr / 64
    match s.queuesAt line with
    | [] => { s with cox := { s.cox with badLines := s.cox.badLines ++ [(line, st)] } }
    | ks => ks.foldl State.stopQueue s
  | .list id => match s.cmd id with
    | .none => s
    | some c => s.entryFails c st 0
  | .job id _ => s.jobReadFails id st
  | .jobWrite id sp =>
    let s := match sp with
      | .none => s
      | some p => s.spaceDone p.1 p.2
    s.jobWritten id (some st)
  | .land n x m => (s.spaceDone n m).landDone n x (some st)
  | .completion q idx i0 i1 =>
    (if 256 ≤ code then s else s.raise1 ⟨Err.COX.OQ_WRITE_FAIL, i0, i1⟩).completionDone q idx
  | .swapEntry _ => s.swapReported (some (st, 0))

/-- A write reported by WDONE (R73, R76). -/
def State.hubWritten (s : State) (r : HubReq) : State :=
  match r.purpose with
  | .jobWrite id sp =>
    let s := match sp with
      | .none => s
      | some p => s.spaceDone p.1 p.2
    s.jobWritten id .none
  | .land n x m => (s.spaceDone n m).landDone n x .none
  | .completion q idx _ _ => s.completionDone q idx
  | .swapEntry _ => s.swapReported .none
  | .fill => s
  | .list _ => s
  | .job _ _ => s

/-- A read whose data has come (R70, R74). -/
def State.hubData (s : State) (r : HubReq) : State :=
  if r.poison then s.hubFails r stPeer
  else
    match r.purpose with
    | .fill => s.cacheInsert (r.addr / 64) (wordsOf 8 r.data)
    | .list id => match s.cmd id with
      | .none => s
      | some c => let c := { c with entry := wordsOf 4 r.data }; (s.setCmd c).entryGo c
    | .job id off => s.jobPiece id off r.data
    | .jobWrite _ _ => s
    | .land _ _ _ => s
    | .completion _ _ _ _ => s
    | .swapEntry _ => s

/-! ## Work set free -/

/-- Requests that failed are dealt with, in order. -/
def State.dealFailed (s : State) : State :=
  s.cox.failed.foldl (fun s p => s.hubFails p.1 p.2) { s with cox := { s.cox with failed := [] } }

/-- A running command that may go on: a list entry at hand whose transfer has not begun, an UNSTASH or a SWAP that has not. -/
def State.stepCmd (s : State) (id : Nat) : State :=
  match s.cmd id with
  | .none => s
  | some c =>
    if c.phase != .running then s
    else
      match cOp c.words with
      | 3 => if c.entry.isEmpty || c.begun || s.cox.jobs.any (fun j => j.cmd == id && j.item == c.item) then s else s.entryGo c
      | 4 => if c.entry.isEmpty || c.begun || s.cox.jobs.any (fun j => j.cmd == id && j.item == c.item) then s else s.entryGo c
      | 7 => match s.ownJob id with
        | .none => s
        | some j => if j.kind = .unstash then s.unstashGo j c .none else s
      | 0x18 => s.swapGo c
      | _ => s

/-- A job that waits for a page or an extent. -/
def State.stepJob (s : State) (id : Nat) : State :=
  match s.job id with
  | .none => s
  | some j =>
    match j.kind with
    | .stash _ => s.stashGo id 4
    | .reduce r => if j.waitSince.isSome then s.reduceGo j r else s
    | _ => s

/-- Every command and job that waited for something has another look, and every class queue is worked on. -/
def State.stepWork (s : State) : State :=
  let s := (s.cox.cmds.map (·.id)).foldl State.stepCmd s
  ((s.cox.jobs.map (·.id)).foldl State.stepJob s).pumpAll

/-- Work goes on until no request is left that failed. -/
def State.settleN (s : State) : Nat → State
  | 0 => s
  | n + 1 =>
    let t := s.dealFailed.stepWork
    if t.cox.failed.isEmpty then t else t.settleN n

/-- What a command or an event sets free takes place. -/
def State.settle (s : State) : State := s.settleN (s.cox.jobs.length + s.cox.cmds.length + 8)

end Sys2Proof.Machine
end

