-- ==== Sys2Proof/Machine/Intake.lean ====
section
/-! DEFINITION. How commands are taken in (R316 to R335, R347 to R349, R399 to R404), the wait slots, the Backwater, and the COX, RSV, BUO, STH
and TLY operations of chapters 10 and 12. -/

namespace Sys2Proof.Machine

/-! ## What a source offers -/

/-- The hub address of an intake queue's next command (R316). -/
def State.iqAddr (s : State) (k : Nat) : Nat :=
  64 * (s.rd (Reg.COX.IQ_BASE_HI k) * 2 ^ 26 + s.rd (Reg.COX.IQ_BASE_LO k) + s.rd (Reg.COX.IQ_HEAD k))

/-- Whether an intake queue holds a command it may give now: enabled, not stopped, its wait slot empty (R317, R325, R331, R353). -/
def State.iqOffers (s : State) (k : Nat) : Bool :=
  s.flag (Reg.COX.IQ_CFG_ENABLE k) && !s.flag (Reg.COX.IQ_STAT_STOPPED k) && s.rd (Reg.COX.IQ_HEAD k) != s.rd (Reg.COX.IQ_TAIL k) &&
    (Tab.read .none s.cox.slots k).isNone

/-- The regatta's next transfer, once the one before has left the wait slot (R403, R404). -/
def State.regattaNext (s : State) : Option (List DWord) :=
  match s.runs.run with
  | .none => .none
  | some r =>
    if r.failed.isSome || r.stop.isSome || decide (runTotal r.prog ≤ r.next) || (Tab.read .none s.cox.slots 64).isSome then .none
    else some (transferWords r.prog r.next)

/-- A line of the context cache, without counting a use. -/
def State.peek (s : State) (a : Nat) : Option (List DWord) := (s.cox.cache.find? (·.1 == a / 64)).map (·.2)

/-- The words of a source's next command, if they are at hand. -/
def State.nextCmd (s : State) (q : Source) : Option (List DWord) :=
  match q with
  | .iq k => if s.iqOffers k.val then s.peek (s.iqAddr k.val) else .none
  | .regatta => s.regattaNext

/-- A node's entry, if its line is at hand. -/
def State.peekNode (s : State) (k : Nat) : Option NodeEntry :=
  (s.peek (s.nodeAddr k)).map fun ws => nodeEntry ((ws.drop (k % 2 * 4)).take 4)

/-- A node's entry's words. -/
def State.peekNodeWords (s : State) (k : Nat) : List DWord := (((s.peek (s.nodeAddr k)).getD []).drop (k % 2 * 4)).take 4

/-- The three lines of a program, as far as they are at hand. -/
def State.peekProgram (s : State) (a : Nat) : List DWord := (List.range 3).flatMap fun i => (s.peek (a + 64 * i)).getD []

/-- The lines that the checks of a command read (R330, R400, R415, R424). -/
def State.neededLines (s : State) (ws : List DWord) : List Nat :=
  match s.badWords ws with
  | some r => if 5 ≤ r ∧ needsDest ws then [s.nodeAddr (cDest ws)] else []
  | .none =>
    let w := wordAt ws
    match cOp ws with
    | 5 => if (s.round (bits (w 5) 15 0)).any (·.hasTree) then [] else [w 4]
    | 0x10 =>
      let prog := s.peekProgram (w 3)
      [w 3, w 3 + 64, w 3 + 128] ++
        (if prog.length = 24 then [1, 2].flatMap fun i =>
          if needsDest (template prog i) then [s.nodeAddr (cDest (template prog i))] else [] else [])
    | 0x18 => [s.nodeAddr (bits (w 3) 11 0), s.nodeAddr (bits (w 3) 27 16)]
    | _ => if needsDest ws then [s.nodeAddr (cDest ws)] else []

/-- Whether a command names an outfall queue with no unreserved free entry (R322). -/
def State.oqWaits (s : State) (ws : List DWord) : Bool :=
  s.flag (Reg.COX.OQ_CFG_ENABLE (cOq ws)) && s.oqFree (cOq ws) == 0

/-- The opcodes that choose a port as they are taken in (R343): SEND, FETCH, a remote BUOY. -/
def routesAtOnce (ws : List DWord) : Bool := !cWait ws && (cOp ws == 1 || cOp ws == 2 || (cOp ws == 8 && cRemote ws))

/-- Whether a command needs a Backwater entry while all are in use (R349). -/
def State.bwWaits (s : State) (ws : List DWord) : Bool :=
  s.bwFull && routesAtOnce ws && (s.badWords ws).isNone &&
    (match s.choose (cPsel ws) (cGroup ws) ((s.peekNode (cDest ws)).map (·.ports) |>.getD 0) with
     | .hold _ => true
     | .send _ => false
     | .fail _ => false)

/-! ## Whose turn it is (R319, R403) -/

/-- The source with a number. -/
def sourceOf (n : Nat) : Source := if h : n < 64 then .iq ⟨n, h⟩ else .regatta

/-- A source's priority. -/
def State.prioOf (s : State) (q : Source) : Nat :=
  match q with
  | .iq k => s.rd (Reg.COX.IQ_CFG_PRIO k.val)
  | .regatta => s.rd Reg.RGT.CFG

/-- Whether a source's next command can be taken in now. -/
def State.ready (s : State) (q : Source) : Bool :=
  match s.nextCmd q with
  | .none => false
  | some ws => !s.oqWaits ws && !s.bwWaits ws && (s.neededLines ws).all fun a => (s.peek a).isSome

/-- The source served next: of the ready ones with the highest PRIO, the first after the one served last, round-robin (R319). -/
def State.turn (s : State) : Option Nat :=
  let ok := (List.range 65).filter fun n => s.ready (sourceOf n)
  let prio := fun n => s.prioOf (sourceOf n)
  let top := ok.foldl (fun a n => max a (prio n)) 0
  let best := ok.filter fun n => prio n == top
  let last := Tab.read 64 s.cox.served top
  match best.find? (last < ·) with
  | some n => some n
  | .none => best.head?

/-! ## Checks (R330, R387, R399, R401, R424) -/

/-- What the checks of a command say: it is in order, with DEST's port mask and the lines it keeps; or it completes with a status. -/
inductive Verdict where
  | take (mask : Nat) (entry : List DWord) | fail (status detail : Nat)
  deriving DecidableEq, Repr

/-- The checks of a command's DEST and explicit port (R330). -/
def State.destVerdict (s : State) (ws : List DWord) : Verdict :=
  let e := (s.peekNode (cDest ws)).getD ⟨0, 0, 0, 0, 0, false, false, 0⟩
  if !e.destOk then .fail stUnmapped (cDest ws)
  else if cPsel ws < 16 && !bitAt e.ports (cPsel ws) then .fail stBad 4
  else .take e.ports []

/-- The check of a template (R401). -/
def State.templateVerdict (s : State) (ws : List DWord) : Verdict :=
  if cOp ws ≠ 1 then .fail stBad 1
  else
    match s.badWords ws with
    | some r => .fail stBad r
    | .none => if cWait ws then .fail stBad 2 else if needsDest ws then s.destVerdict ws else .take 0 []

/-- The checks of a command whose lines are at hand. -/
def State.verdict (s : State) (ws : List DWord) : Verdict :=
  let w := wordAt ws
  match s.badWords ws with
  | some r =>
    if 5 ≤ r ∧ needsDest ws then
      match s.destVerdict ws with
      | .fail st d => if st = stBad then .fail st d else .fail stBad r
      | .take _ _ => .fail stBad r
    else .fail stBad r
  | .none =>
    match cOp ws with
    | 5 =>
      match s.round (bits (w 5) 15 0) with
      | some x =>
        let parts := if x.hasTree then x.parts else bits (wordAt ((s.peek (w 4)).getD []) 0) 31 24
        if parts ≤ x.taken then .fail stBad 8 else .take 0 ((s.peek (w 4)).getD [])
      | .none =>
        let tree := (s.peek (w 4)).getD []
        if bits (wordAt tree 0) 31 24 = 0 then .fail stBad 8 else .take 0 tree
    | 0x10 =>
      let prog := s.peekProgram (w 3)
      if s.runs.run.isSome then .fail stBad 7
      else if badProgram prog then .fail stBad 2
      else
        match s.templateVerdict (template prog 1), s.templateVerdict (template prog 2) with
        | .fail st d, _ => .fail st d
        | .take _ _, .fail st d => .fail st d
        | .take _ _, .take _ _ => .take 0 prog
    | 0x18 =>
      let f := bits (w 3) 11 0
      let k := bits (w 3) 27 16
      let state := fun n => ((s.peekNode n).map (·.state)).getD 0
      if state f ≠ 1 then .fail stUnmapped f
      else if state k ≠ 2 then .fail stUnmapped k
      else .take 0 (s.peekNodeWords f ++ s.peekNodeWords k)
    | _ => if needsDest ws then s.destVerdict ws else .take 0 []

/-! ## Taking in -/

/-- Lines asked for: whether all are at hand, and the first one's status whose fill failed. -/
def State.touch (s : State) (as : List Nat) : Bool × Option Nat × State :=
  as.foldl (fun r a => match r.2.2.look a with
    | (.hit _, t) => (r.1, r.2.1, t)
    | (.missing, t) => (false, r.2.1, t)
    | (.bad st, t) => (r.1, if r.2.1.isSome then r.2.1 else some st, t)) (true, .none, s)

/-- A command leaves its source (R318, R319, R85, R320): HEAD moves past it, its line leaves the cache, it is counted, and no other is taken in
within the control cycle. -/
def State.consume (s : State) (q : Source) (op : Nat) : State :=
  let s := s.bump Reg.COX.CMD_CNT
  let s := { s with cox := { s.cox with served := Tab.write 64 s.cox.served (s.prioOf q) (srcNo q), takenAt := some s.time } }
  match q with
  | .iq k =>
    let line := s.iqAddr k.val / 64
    let head := (s.rd (Reg.COX.IQ_HEAD k.val) + 1) % 2 ^ s.rd (Reg.COX.IQ_CFG_SIZE_LOG2 k.val)
    (s.wr (Reg.COX.IQ_HEAD k.val) head).dropLines (· == line)
  | .regatta =>
    match s.runs.run with
    | .none => s
    | some r =>
      let fwd := decide (r.next < bits (wordAt r.prog 0) 12 0)
      let s := { s with runs := { s.runs with run := some { r with next := r.next + 1 } } }
      (s.wr Reg.RGT.STAT_ISSUED (r.next + 1)).wr Reg.RGT.STAT_STATE (if fwd && op == 1 then 1 else 2)

/-- The slot a command comes from: the intake slot, or a transfer's issue index. -/
def State.slotNo (s : State) (q : Source) : Nat :=
  match q with
  | .iq k => s.rd (Reg.COX.IQ_HEAD k.val)
  | .regatta => match s.runs.run with
    | .none => 0
    | some r => r.next

/-- A command taken in: its place in the table, its outfall reservation (R320, R322), and with the regatta one more transfer open. -/
def State.enlist (s : State) (q : Source) (ws : List DWord) (mask : Nat) (entry : List DWord) : Cmd × State :=
  let slot := s.slotNo q
  let oq := cOq ws
  let c : Cmd :=
    { id := s.cox.nextId, src := q, slot := slot, words := ws, period := (s.oq oq).period, phase := .running, met := false, mask := mask,
      port := .none, item := 0, entry := entry, opened := 0, begun := false, failed := .none, issue := slot }
  let s := s.consume q (cOp ws)
  let s := { s with cox := { s.cox with cmds := s.cox.cmds ++ [c], nextId := s.cox.nextId + 1 } }
  let s := s.setOq oq { s.oq oq with reserved := (s.oq oq).reserved + 1 }
  match q, s.runs.run with
  | .regatta, some r => (c, { s with runs := { s.runs with run := some { r with opened := r.opened + 1 } } })
  | _, _ => (c, s)

/-- A command put in its source's wait slot. -/
def State.toSlot (s : State) (c : Cmd) (phase : CmdPhase) : State :=
  let met := c.reached (s.buoyVal (bits (c.w 0) 29 24))
  let s := { s with cox := { s.cox with cmds := s.cox.cmds.map fun (x : Cmd) => if x.id = c.id then { c with phase := phase, met := met } else x } }
  { s with cox := { s.cox with slots := Tab.write .none s.cox.slots (srcNo c.src) (some c.id) } }

/-- A command in order that is taken in: into the wait slot if it waits or fences, else on its way (R331, R332). -/
def State.begin (s : State) (c : Cmd) : State :=
  let s := if cOp c.words = 5 then s.reduceTaken c else s
  let c := if cOp c.words = 5 then { c with entry := [] } else c
  if cWait c.words then s.toSlot c .waitBuoy
  else if cOp c.words = 9 then s.toSlot c .fence
  else s.go c

/-- What ECC reports of a command's line or of a page its data is staged in (R352, R360). -/
def State.memFault (s : State) (c : Option Nat) (f : MemFault) : State :=
  match f with
  | .none => s
  | .cacheCe => s.raise1 (plain Err.COX.CC_CE)
  | .cacheUe => s.raise1 (plain Err.COX.CC_UE)
  | .pageCe p => s.pageCe .rpl p
  | .pageUe p =>
    match c with
    | .none => s
    | some id =>
      let s := s.pageUe .rpl p
      { s with cox := { s.cox with jobs := s.cox.jobs.map fun (j : Job) =>
          if j.cmd = id ∧ j.kind = .send then { j with status := some (stPeer, 0) } else j } }

/-- A command whose words and lines are at hand and whose turn it is (R324, R330, R368). -/
def State.takeNow (s : State) (q : Source) (ws : List DWord) (bad : Option Nat) (f : MemFault) : State :=
  let oq := cOq ws
  if !s.flag (Reg.COX.OQ_CFG_ENABLE oq) then
    let src := match q with
      | .iq k => k.val
      | .regatta => 0
    let slot := s.slotNo q
    ((s.consume q (cOp ws)).raise1 ⟨Err.COX.OQ_DISABLED, oq * 2 ^ 8 + src, slot⟩).endRun
  else
    match bad with
    | some st => let r := s.enlist q ws 0 []; r.2.complete r.1.id st 0
    | .none =>
      match s.verdict ws with
      | .fail st d => let r := s.enlist q ws 0 []; if s.safe then r.2.complete r.1.id stSafe 0 else r.2.complete r.1.id st d
      | .take mask entry =>
        let r := s.enlist q ws mask entry
        if s.safe then r.2.complete r.1.id stSafe 0
        else (r.2.begin r.1).memFault (some r.1.id) f

/-- Cox serves a source (R319, R320, R367): the command whose opcode is asked for is taken in if it is its turn and none was in this control
cycle; what it needs from hub memory is asked for. -/
def State.takeIn (s : State) (q : Source) (isOp : Nat → Bool) (f : MemFault) : State :=
  if s.held || !s.anyActive || decide (4096 ≤ s.cox.cmds.length) || s.cox.takenAt == some s.time then s
  else
    let r : LineRes × State := match q with
      | .iq k => if s.iqOffers k.val then s.look (s.iqAddr k.val) else (.missing, s)
      | .regatta => match s.regattaNext with
        | .none => (.missing, s)
        | some ws => (.hit ws, s)
    match r with
    | (.missing, t) => t.settle
    | (.bad _, t) => match q with
      | .iq k => t.stopQueue k.val
      | .regatta => t
    | (.hit ws, t) =>
      if !isOp (cOp ws) then s
      else if f = .cacheUe then
        let line := (match q with | .iq k => t.iqAddr k.val | .regatta => 0) / 64
        ((t.dropLines (· == line)).memFault .none f).look (64 * line) |>.2.settle
      else
        let n := t.touch (t.neededLines ws)
        let n := if n.1 then n.2.2.touch ((n.2.2.neededLines ws).drop (t.neededLines ws).length) else n
        match n.2.1 with
        | some st => (n.2.2.takeNow q ws (some st) f).settle
        | .none => if n.1 && n.2.2.turn == some (srcNo q) then (n.2.2.takeNow q ws .none f).settle else n.2.2.settle

/-- NOP (R328, R331). -/
def execNop (q : Source) (s : State) : Host.Outcome State Fault Refusal := .next (s.takeIn q (· == 0) .none)

/-- SEND (R337). A regatta's transfer is a SEND. -/
def execSend (q : Source) (fault : MemFault) (s : State) : Host.Outcome State Fault Refusal := .next (s.takeIn q (· == 1) fault)

/-- FETCH (R340). -/
def execFetch (q : Source) (s : State) : Host.Outcome State Fault Refusal := .next (s.takeIn q (· == 2) .none)

/-- SCATTER (R329). -/
def execScatter (q : Source) (s : State) : Host.Outcome State Fault Refusal := .next (s.takeIn q (· == 3) .none)

/-- GATHER (R329). -/
def execGather (q : Source) (s : State) : Host.Outcome State Fault Refusal := .next (s.takeIn q (· == 4) .none)

/-- REDUCE (R414, R415). -/
def execReduce (q : Source) (s : State) : Host.Outcome State Fault Refusal := .next (s.takeIn q (· == 5) .none)

/-- STASH (R405, R410). -/
def execStash (q : Source) (s : State) : Host.Outcome State Fault Refusal := .next (s.takeIn q (· == 6) .none)

/-- UNSTASH (R412). -/
def execUnstash (q : Source) (s : State) : Host.Outcome State Fault Refusal := .next (s.takeIn q (· == 7) .none)

/-- BUOY (R362, R341). -/
def execBuoy (q : Source) (s : State) : Host.Outcome State Fault Refusal := .next (s.takeIn q (· == 8) .none)

/-- FENCE (R332). -/
def execFence (q : Source) (s : State) : Host.Outcome State Fault Refusal := .next (s.takeIn q (· == 9) .none)

/-- RGT_START (R400, R401). -/
def execRgtStart (q : Source) (s : State) : Host.Outcome State Fault Refusal := .next (s.takeIn q (· == 0x10) .none)

/-- RGT_STOP (R404). -/
def execRgtStop (q : Source) (s : State) : Host.Outcome State Fault Refusal := .next (s.takeIn q (· == 0x11) .none)

/-- SWAP (R424). -/
def execSwap (q : Source) (s : State) : Host.Outcome State Fault Refusal := .next (s.takeIn q (· == 0x18) .none)

/-- RESERVED_OPCODE (R330). -/
def execReservedOpcode (q : Source) (s : State) : Host.Outcome State Fault Refusal :=
  .next (s.takeIn q (fun op => !opcodes.contains op) .none)

/-- RGT_ISSUE (R403): the regatta's next transfer is taken in. -/
def execRgtIssue (s : State) : Host.Outcome State Fault Refusal := .next (s.takeIn .regatta (fun _ => true) .none)

/-! ## Wait slots (R331, R332, R365) -/

/-- WAIT_RELEASE (R365): a FENCE that waited on a buoy goes on as a FENCE in the same slot. -/
def execWaitRelease (q : Source) (s : State) : Host.Outcome State Fault Refusal :=
  .next (
    match (Tab.read .none s.cox.slots (srcNo q)).bind s.cmd with
    | .none => s
    | some c =>
      if c.phase = .waitBuoy ∧ c.met then
        if cOp c.words = 9 then s.setCmd { c with phase := .fence } else (s.go c).settle
      else s)

/-- FENCE_COMPLETE (R332). -/
def execFenceComplete (k : Fin 64) (s : State) : Host.Outcome State Fault Refusal :=
  .next (
    match (Tab.read .none s.cox.slots k.val).bind s.cmd with
    | .none => s
    | some c =>
      if c.phase = .fence ∧ !(s.cox.cmds.any fun x => x.src == c.src && decide (x.id < c.id)) then (s.complete c.id stDone 0).settle
      else s)

/-! ## The Backwater (R347, R348) -/

/-- Whether a stream that holds entries takes commands now. -/
def State.streamReady (s : State) (n : Nat) : Bool :=
  if n < 16 then s.txReady n && !s.relocking n && (s.slotOfFibre n).isNone else s.fanState (n - 16) == 4

/-- A held command released on the stream it takes: under ANY, the lowest port of its mask with TX_READY (R343, R348). -/
def State.release (s : State) (c : Cmd) (n : Nat) : State :=
  let s := { s with cox := { s.cox with bw := s.cox.bw.filter (· != c.id) } }
  let c := { c with phase := .running }
  let s := s.setCmd c
  let psel := if c.isList then bits (wordAt c.entry 0) 16 12 else cPsel c.words
  let n := if psel = 16 then ((setBits 16 c.mask).find? s.streamReady).getD n else n
  match cOp c.words with
  | 3 => s.startEntry c n
  | 4 => s.startEntry c n
  | 6 => match s.ownJob c.id with
    | .none => s
    | some j => s.encodeEnd j (bits (c.w 5) 11 0) c (some n) []
  | 7 => match s.ownJob c.id with
    | .none => s
    | some j => s.unstashGo j c (some n)
  | _ => s.startSimple c n

/-- Held commands whose streams take them, in entry order. -/
def State.releaseAll (s : State) : State :=
  s.cox.bw.foldl (fun s id =>
    match s.cmd id with
    | .none => s
    | some c => match c.phase with
      | .held n _ => if s.streamReady n then s.release c n else s
      | .waitBuoy => s
      | .fence => s
      | .running => s
      | .ended => s) s

/-- A held command at its limit (R348): a list ends at its entry, others complete. -/
def State.expire (s : State) (id : Nat) : State :=
  match s.cmd id with
  | .none => s
  | some c => match c.phase with
    | .held n deadline =>
      if deadline ≤ s.now then
        let s := { s with cox := { s.cox with bw := s.cox.bw.filter (· != id) } }
        let p := s.streamPort n
        if c.isList then s.entryFails { c with phase := .running } stExpired p
        else if cOp c.words = 6 then
          let clean := false
          match s.ownJob id with
          | .none => s.complete id stExpired p
          | some j => ((s.extentDone (bits (c.w 5) 11 0) clean).dropJob j.id).complete id stExpired p
        else (s.cancelJobs id).complete id stExpired p
      else s
    | .waitBuoy => s
    | .fence => s
    | .running => s
    | .ended => s

/-- BACKWATER_RELEASE (R348), at cycle 0. -/
def execBackwaterRelease (s : State) : Host.Outcome State Fault Refusal :=
  .next (if s.running && s.clk.cycle == 0 then s.releaseAll.settle else s)

/-- HELD_EXPIRED (R348, Table 10.10): at cycle 0, after the releases. -/
def execHeldExpired (s : State) : Host.Outcome State Fault Refusal :=
  .next (
    if s.running && s.clk.cycle == 0 then
      let s := s.releaseAll
      (s.cox.bw.foldl State.expire s).settle
    else s)

/-! ## Queue registers (R317, R318, R321, R325, R326) -/

/-- A write to IQk_TAIL (R317, R318). -/
def State.wrIqTail (k data : Nat) (s : State) : State :=
  let v := data % 2 ^ 16
  if 2 ^ s.rd (Reg.COX.IQ_CFG_SIZE_LOG2 k) ≤ v then s.raise1 ⟨Err.COX.DOORBELL, k, 0⟩
  else s.wr (Reg.COX.IQ_TAIL k) v

/-- A write to IQk_CFG (R318, R325, R353). -/
def State.wrIqCfg (k data : Nat) (s : State) : State :=
  let was := s.flag (Reg.COX.IQ_CFG_ENABLE k)
  let s := s.writeFields 0x00A (0x408 + 0x20 * k) data
  let is := s.flag (Reg.COX.IQ_CFG_ENABLE k)
  if is && !was then ((s.wr (Reg.COX.IQ_HEAD k) 0).wr (Reg.COX.IQ_TAIL k) 0).wr (Reg.COX.IQ_STAT_STOPPED k) 0
  else if was && !is then s.discardWaiting k
  else s

/-- A write to OQk_CFG (R321, R326): a new period of enablement starts at entry 0 with PHASE 1. -/
def State.wrOqCfg (k data : Nat) (s : State) : State :=
  let was := s.flag (Reg.COX.OQ_CFG_ENABLE k)
  let s := s.writeFields 0x00A (0xC08 + 0x10 * k) data
  if s.flag (Reg.COX.OQ_CFG_ENABLE k) && !was then
    let s := s.setOq k ⟨0, (s.oq k).period + 1, 0, true, []⟩
    ((s.wr (Reg.COX.OQ_PTR_TAIL k) 0).wr (Reg.COX.OQ_PTR_HEAD k) 0).wr (Reg.COX.OQ_CFG_PHASE k) 1
  else s

/-- IQ_DOORBELL (R317). -/
def execIqDoorbell (via : Path) (k : Fin 64) (data : Word) (s : State) : Host.Outcome State Fault Refusal :=
  .next (s.access via 0x00A (0x40C + 0x20 * k.val) data.toNat (State.wrIqTail k.val))

/-- IQ_ENABLE (R318). -/
def execIqEnable (via : Path) (k : Fin 64) (data : Word) (s : State) : Host.Outcome State Fault Refusal :=
  .next (s.access via 0x00A (0x408 + 0x20 * k.val) data.toNat (State.wrIqCfg k.val))

/-- IQ_DISABLE (R325). -/
def execIqDisable (via : Path) (k : Fin 64) (data : Word) (s : State) : Host.Outcome State Fault Refusal :=
  .next (s.access via 0x00A (0x408 + 0x20 * k.val) data.toNat (State.wrIqCfg k.val))

/-- OQ_ENABLE (R321). -/
def execOqEnable (via : Path) (k : Fin 64) (data : Word) (s : State) : Host.Outcome State Fault Refusal :=
  .next (s.access via 0x00A (0xC08 + 0x10 * k.val) data.toNat (State.wrOqCfg k.val))

/-- OQ_DISABLE (R326). -/
def execOqDisable (via : Path) (k : Fin 64) (data : Word) (s : State) : Host.Outcome State Fault Refusal :=
  .next (s.access via 0x00A (0xC08 + 0x10 * k.val) data.toNat (State.wrOqCfg k.val))

/-! ## Context-cache invalidation (R351) -/

/-- Fills of lines that are on their way are marked stale: their data is discarded (R87, R351). -/
def State.staleFills (s : State) (p : Nat → Bool) : State :=
  let mark := fun (r : HubReq) => if r.purpose == .fill && p (r.addr / 64) then { r with stale := true } else r
  { s with culvs := s.culvs.map fun (kv : Nat × Culv) => (kv.1, { kv.2 with reqs := kv.2.reqs.map mark }) }

/-- A write to CC_INVAL_CMD (R351): ignored while BUSY; COUNT 0 names no line. -/
def State.wrCcInval (data : Nat) (s : State) : State :=
  if s.flag Reg.COX.CC_STAT then s
  else
    let first := s.rd Reg.COX.CC_INVAL_HI * 2 ^ 26 + s.rd Reg.COX.CC_INVAL_LO
    let what := if bitAt data 31 then Option.none else some (first, bits data 15 0)
    { s.wr Reg.COX.CC_STAT 1 with cox := { s.cox with invalidating := some what } }

/-- CC_INVALIDATE_LINES (R351). -/
def execCcInvalidateLines (via : Path) (data : Word) (s : State) : Host.Outcome State Fault Refusal :=
  .next (s.access via 0x00A 0x068 data.toNat State.wrCcInval)

/-- CC_INVALIDATE_ALL (R351). -/
def execCcInvalidateAll (via : Path) (data : Word) (s : State) : Host.Outcome State Fault Refusal :=
  .next (s.access via 0x00A 0x068 data.toNat State.wrCcInval)

/-- CC_INVALIDATE_DONE (R351). -/
def execCcInvalidateDone (s : State) : Host.Outcome State Fault Refusal :=
  .next (
    match s.cox.invalidating with
    | .none => s
    | some what =>
      let p := fun line => match what with
        | .none => true
        | some w => decide (w.1 ≤ line) && decide (line < w.1 + w.2)
      let s := (s.dropLines p).staleFills p
      { s.wr Reg.COX.CC_STAT 0 with cox := { s.cox with invalidating := .none } })

/-! ## The Reservoir (R355 to R360) -/

/-- A write to a pool's limits (R355, R357): taken only if the floor stays within the ceiling and the floors within 4,096. -/
def State.wrPool (k : Pool) (data : Nat) (s : State) : State :=
  let n := poolNo k
  let t := s.writeFields 0x009 (0x040 + 4 * n) data
  let floors := ((List.range 4).map fun i => t.rd (Reg.RSV.POOL_FLOOR i)).sum
  if t.rd (Reg.RSV.POOL_FLOOR n) ≤ t.rd (Reg.RSV.POOL_CEIL n) ∧ floors ≤ 4096 then t.pageIfDue else s

/-- POOL_LIMIT_WRITE (R355). -/
def execPoolLimitWrite (via : Path) (pool : Pool) (data : Word) (s : State) : Host.Outcome State Fault Refusal :=
  .next (s.access via 0x009 (0x040 + 4 * poolNo pool) data.toNat (State.wrPool pool))

/-- The next page goes out (R358, R411): a clean one is freed; another is written. One that reads uncorrectable is lost, or, of a PERSIST
extent, stands at the target alone (R410). -/
def State.pageOutNext (s : State) (f : MemFault) : State :=
  match s.nextPageOut with
  | .none => s
  | some (id, k) =>
    let x := s.extent id
    if x.clean.contains k then s.pageGone id k
    else
      match f with
      | .none => s.pageWrite id k false
      | .cacheCe => s.pageWrite id k false
      | .cacheUe => s.pageWrite id k false
      | .pageCe p => (s.pageCe .sts p).pageWrite id k false
      | .pageUe p =>
        let s := (s.raise1 ⟨Err.RSV.PAGE_UE, 2 * 2 ^ 16 + p % 2 ^ 16, 0⟩).bump Reg.RSV.RETIRED
        if x.persist then s.pageGone id k
        else ((s.setExtent id { x with state := 5 }).raise1 ⟨Err.STH.EXTENT_BAD, id, 0⟩).pageWrite id k true

/-- PAGE_OUT (R358). -/
def execPageOut (fault : MemFault) (s : State) : Host.Outcome State Fault Refusal :=
  .next (
    if s.safe then s
    else
      let s := s.pageIfDue
      if s.flag Reg.RSV.STAT_PAGING then (s.pageOutNext fault).pageEnough.settle else s)

/-- POOL_EXHAUSTED (R359): a stash or a reduction that has waited WAIT_MAX strokes for a page. -/
def execPoolExhausted (job : Nat) (s : State) : Host.Outcome State Fault Refusal :=
  .next (
    match s.job job with
    | .none => s
    | some j =>
      match j.waitSince with
      | .none => s
      | some t =>
        if s.now < t + s.rd Reg.RSV.WAIT_MAX then s
        else
          match j.kind with
          | .stash id =>
            let s := s.raise1 ⟨Err.RSV.WAIT_EXPIRED, 2 * 2 ^ 16, 0⟩
            (((s.freeExtent id).dropJob j.id).complete j.cmd stPool 2).settle
          | .reduce r =>
            let s := s.raise1 ⟨Err.RSV.WAIT_EXPIRED, 3 * 2 ^ 16, 0⟩
            let s := match s.round r with
              | .none => s
              | some x =>
                let left := x.cmds.filter (· != j.cmd)
                if left.isEmpty && !x.isOpen then s.closeRound r else s.setRound { x with cmds := left, taken := x.taken - 1 }
            ((s.dropJob j.id).complete j.cmd stPool 3).settle
          | _ => s)

/-! ## Buoys (R362, R363) -/

/-- A write to BUO.VALk_HI (R363). -/
def State.wrBuoyVal (v : Path) (k data : Nat) (s : State) : State :=
  let r := s.pairLow v (0x00B * 0x1000 + 0x100 + 8 * k)
  r.2.buoySet k (BitVec.ofNat 64 (data * 2 ^ 32 + r.1))

/-- BUOY_SET_WRITE (R363). -/
def execBuoySetWrite (via : Path) (k : Fin 64) (hi : Word) (s : State) : Host.Outcome State Fault Refusal :=
  .next (s.access via 0x00B (0x104 + 8 * k.val) hi.toNat (State.wrBuoyVal via k.val))

/-- A write to BUO.ADD_HI (R363). -/
def State.wrBuoyAdd (v : Path) (data : Nat) (s : State) : State :=
  let r := s.pairLow v (0x00B * 0x1000 + 0x048)
  let s := (r.2.wr Reg.BUO.ADD_LO r.1).wr Reg.BUO.ADD_HI data
  s.buoyOp (s.rd Reg.BUO.ADD_SEL) 1 (BitVec.ofNat 64 (data * 2 ^ 32 + r.1))

/-- BUOY_ADD_WRITE (R363). -/
def execBuoyAddWrite (via : Path) (hi : Word) (s : State) : Host.Outcome State Fault Refusal :=
  .next (s.access via 0x00B 0x04C hi.toNat (State.wrBuoyAdd via))

/-! ## Stash, restore and tally events -/

/-- STASH_ENCODE_END (R410): the lost pages are staged ones that a write-through reads uncorrectable. -/
def execStashEncodeEnd (read : JobRead) (s : State) : Host.Outcome State Fault Refusal :=
  .next (
    match s.job read.job with
    | .none => s
    | some j =>
      match j.kind, s.cmd j.cmd with
      | .stash id, some c => if j.encoded ∧ c.phase = .running then (s.encodeEnd j id c .none read.lost).settle else s
      | _, _ => s)

/-- UNSTASH_VERIFY (R412): the lost pages are resident ones that read uncorrectable; what they held may come from the target before the check. -/
def execUnstashVerify (read : JobRead) (s : State) : Host.Outcome State Fault Refusal :=
  .next (
    match s.job read.job with
    | .none => s
    | some j =>
      match s.cmd j.cmd with
      | .none => s
      | some c =>
        if j.kind = .unstash ∧ j.lastIn ∧ j.full then
          let t := match j.page with
            | .none => s
            | some pg => read.lost.foldl (fun s l => s.restoreUe read.job pg.1 l) s
          (match t.job read.job with
            | .none => t
            | some j => if j.full then t.unstashCheck j c else t).settle
        else s)

/-- A write to STH.RETIRE (R413). -/
def State.wrRetire (data : Nat) (s : State) : State :=
  if bitAt data 12 then (s.runs.extents.map (·.1)).foldl State.retireExtent s else s.retireExtent (bits data 11 0)

/-- EXTENT_RETIRE (R413). -/
def execExtentRetire (via : Path) (id : Nat) (s : State) : Host.Outcome State Fault Refusal :=
  .next ((s.access via 0x00D 0x058 (id % 2 ^ 12) State.wrRetire).settle)

/-- EXTENT_RETIRE_ALL (R413). -/
def execExtentRetireAll (via : Path) (s : State) : Host.Outcome State Fault Refusal :=
  .next ((s.access via 0x00D 0x058 (2 ^ 12) State.wrRetire).settle)

/-- TALLY_IMG_SEND (R417, R418): a node that is not the root sends its image; the root rounds. -/
def execTallyImgSend (round : Nat) (s : State) : Host.Outcome State Fault Refusal :=
  .next (
    match s.round round with
    | .none => s
    | some x =>
      if !x.due || s.safe then s
      else if x.root then
        match s.nodesKnown x.children with
        | (false, t) => t.settle
        | (true, t) => let n := x.acc.norm; (t.roundResult x n.1 n.2).settle
      else
        match s.nodesKnown [x.parent] with
        | (false, t) => t.settle
        | (true, t) =>
          match t.tallyTo x.parent 0x10 round x.acc.image with
          | (some n, u) => (u.setRound { x with sent := true, ports := x.ports ++ [n] }).settle
          | (.none, u) => u.settle)

/-- A write to TLY.ABORT (R420). -/
def State.wrAbort (data : Nat) (s : State) : State :=
  if bitAt data 16 then s.failRound (bits data 15 0) 3 stLinkDown 0xFFFF else s

/-- TALLY_ABORT (R420). -/
def execTallyAbort (via : Path) (round : Nat) (s : State) : Host.Outcome State Fault Refusal :=
  .next ((s.access via 0x00E 0x040 (2 ^ 16 + round % 2 ^ 16) State.wrAbort).settle)

/-! ## SWAP (R424) -/

/-- Whether a command's DEST is a node (R424). -/
def Cmd.names (c : Cmd) (node : Nat) : Bool := needsDest c.words && cDest c.words == node

/-- SWAP_LIVE (R424, R420): at the first cycle 0 after both entry writes are reported. -/
def execSwapLive (s : State) : Host.Outcome State Fault Refusal :=
  .next (
    match s.runs.swap with
    | .none => s
    | some w =>
      match w.ready with
      | .none => s
      | some t =>
        if s.running && s.clk.cycle == 0 && decide (t < s.now) then
          let put := fun (s : State) (k : Nat) (e : List DWord) =>
            let line := s.nodeAddr k / 64
            { s with cox := { s.cox with cache := s.cox.cache.map fun l =>
                if l.1 = line then (l.1, l.2.take (k % 2 * 4) ++ e ++ l.2.drop (k % 2 * 4 + 4)) else l } }
          let s := put (put { s with runs := { s.runs with swap := .none } } w.failed w.entryF) w.spare w.entryS
          let stale := (s.cox.cmds.filter fun c => decide (c.id < w.cmd) && c.names w.failed).map (·.id)
          let s := stale.foldl (fun s id => (s.cancelJobs id).complete id stStale w.epoch) s
          let hit := (s.runs.rounds.filter fun x => x.hasTree && ((!x.root && x.parent == w.failed) || x.children.contains w.failed)).map (·.round)
          let s := hit.foldl (fun s r => s.failRound r 2 stStale w.epoch) s
          let s := ((s.wr Reg.BTH.LAST_SWAP_EPOCH w.epoch).wr Reg.BTH.LAST_SWAP_SPARE w.spare).wr Reg.BTH.LAST_SWAP_FAILED w.failed
          ((s.bump Reg.BTH.SWAP_CNT).complete w.cmd stDone w.epoch).settle
        else s)

end Sys2Proof.Machine
end

