-- ==== Sys2Proof/Machine/Culvert.lean ====
section
/-! DEFINITION. The culverts: received flits, replay, remap, training and loopback (chapter 3). -/

namespace Sys2Proof.Machine

/-- Whether a culvert's data lanes carry sequenced flits: ACTIVE or QUIESCE. -/
def State.culvRuns (s : State) (c : Nat) : Bool := s.culvState c == 5 || s.culvState c == 6

/-- A flit with a bad CRC (R62); in VERIFY it ends the run of good TRAIN flits. -/
def State.crcBad (s : State) (c : Nat) : State :=
  if s.culvRuns c || s.culvState c == 4 then
    ((s.setCulv c { s.culv c with goodRx := 0 }).raise1 (plain (Err.CLV.CRC_BAD c))).bump (Reg.CLV.CRC_CNT c)
  else s

/-- What a culvert does with a flit's header (R62): a bad CRC discards it, a good one gives its ACK. -/
def State.flitHeader (s : State) (c : Nat) (h : FlitHdr) : State :=
  if !h.crcOk then s.crcBad c else if s.culvRuns c then (s.takeAck c h.ack) else s

/-- A sequenced flit from the hub (R61, R62): its payload counts when its SEQ is the next expected. -/
def State.sequenced (s : State) (c : Nat) (h : FlitHdr) (payload : State → State) : State :=
  let t := s.flitHeader c h
  if h.crcOk && s.culvRuns c && h.seq == (t.culv c).rxNext then
    (payload (t.setCulv c { t.culv c with rxNext := (t.culv c).rxNext + 1 })).settle
  else t

/-- Requests whose REQ flit the hub has not acknowledged: those that no read stream can answer yet. -/
def Culv.unackedReqs (x : Culv) : Nat := ((x.replay ++ x.unsent).map (·.req.length)).sum

/-- The oldest request of a kind that the hub has received. -/
def Culv.oldest (x : Culv) (write : Bool) : Option HubReq := (x.reqs.take (x.reqs.length - x.unackedReqs)).find? (·.write == write)

/-- The list without its first element that answers to a test. -/
def dropFirst {α : Type} (p : α → Bool) : List α → List α
  | [] => []
  | a :: rest => if p a then rest else a :: dropFirst p rest

/-- A culvert without its oldest request of a kind. -/
def Culv.popReq (x : Culv) (write : Bool) : Culv := { x with reqs := dropFirst (·.write == write) x.reqs }

/-- A culvert with its oldest request of a kind changed. -/
def Culv.setOldest (x : Culv) (r : HubReq) : Culv :=
  let before := x.reqs.takeWhile (·.write != r.write)
  { x with reqs := before ++ r :: x.reqs.drop (before.length + 1) }

/-- What answers a stale fill, its data or an RERR (log entry 175), is discarded, and the fill issued again (R87, R351). -/
def State.refill (s : State) (c : Nat) (r : HubReq) : State :=
  ((s.raise1 (plain (Err.CLV.FILL_STALE c))).issue { r with data := [], poison := false, stale := false }).form

/-- Bytes of the read stream (R70): each read in request order takes what it lacks; a flit's bytes beyond the reads that the hub has received
are ignored. -/
def State.readStream (s : State) (c : Nat) (poison : Bool) : Nat → List Byte → State
  | 0, _ => s
  | fuel + 1, bs =>
    if bs.isEmpty then s
    else
      let x := s.culv c
      match x.oldest false with
      | .none => s
      | some r =>
        let need := r.len - r.data.length
        let r := { r with data := r.data ++ bs.take need, poison := r.poison || poison }
        if bs.length < need then s.setCulv c (x.setOldest r)
        else
          let s := s.setCulv c (x.popReq false)
          (if r.stale then s.refill c r else s.hubData r).readStream c poison fuel (bs.drop need)

/-- The next writes of a culvert reported (R73). -/
def State.writesDone (s : State) (c : Nat) : Nat → State
  | 0 => s
  | n + 1 =>
    let x := s.culv c
    match x.oldest true with
    | .none => s
    | some r => ((s.setCulv c (x.popReq true)).hubWritten r).writesDone c n

/-- The next requests of a kind failed (R74). -/
def State.reqsFail (s : State) (c : Nat) (write : Bool) (reason : Nat) : Nat → State
  | 0 => s
  | n + 1 =>
    let x := s.culv c
    match x.oldest write with
    | .none => s
    | some r =>
      let s := s.setCulv c (x.popReq write)
      (if r.stale then s.refill c r else s.hubFails r (hubStatus reason)).reqsFail c write reason n

/-- IDLE_FLIT (R62). -/
def execIdleFlit (c : Fin 8) (h : FlitHdr) (s : State) : Host.Outcome State Fault Refusal := .next (s.flitHeader c.val h)

/-- TRAIN_FLIT (R89): counted in VERIFY. -/
def execTrainFlit (c : Fin 8) (h : FlitHdr) (s : State) : Host.Outcome State Fault Refusal :=
  .next (
    if !h.crcOk then s.crcBad c.val
    else if s.culvState c.val = 4 then s.setCulv c.val { s.culv c.val with goodRx := min ((s.culv c.val).goodRx + 1) 4096 }
    else s)

/-- RDATA (R70). Reads that waited for the read buffer go on (R66). -/
def execRdata (c : Fin 8) (h : FlitHdr) (bytes : List Byte) (s : State) : Host.Outcome State Fault Refusal :=
  .next (s.sequenced c.val h fun t => (t.readStream c.val h.poison 256 (bytes.take 120)).flushWaiting)

/-- WDONE (R73). -/
def execWdone (c : Fin 8) (h : FlitHdr) (count : Nat) (s : State) : Host.Outcome State Fault Refusal :=
  .next (s.sequenced c.val h fun t => t.writesDone c.val (min count (t.culv c.val).reqs.length))

/-- RERR (R74). -/
def execRerr (c : Fin 8) (h : FlitHdr) (isWrite : Bool) (reason count : Nat) (s : State) : Host.Outcome State Fault Refusal :=
  .next (s.sequenced c.val h fun t => (t.reqsFail c.val isWrite reason (min count (t.culv c.val).reqs.length)).flushWaiting)

/-- INVAL (R86, R87): lines named leave the cache, and fills of them on their way are stale. -/
def execInval (c : Fin 8) (h : FlitHdr) (lines : List Nat) (s : State) : Host.Outcome State Fault Refusal :=
  .next (s.sequenced c.val h fun t =>
    if t.flag (Reg.CLV.STAT_INVAL_ON c.val) then
      let p := fun l => lines.contains l
      (t.dropLines p).staleFills p
    else t.culvProtocol c.val)

/-- RESERVED_FLIT_TYPE (R59): a reserved type, or REQ or WDATA from the hub. -/
def execReservedFlitType (c : Fin 8) (h : FlitHdr) (type : BitVec 4) (s : State) : Host.Outcome State Fault Refusal :=
  .next (
    if !h.crcOk then s.crcBad c.val
    else if s.culvRuns c.val && (decide (8 ≤ type.toNat) || type == 1 || type == 2) then s.culvProtocol c.val
    else s)

/-! ## Replay (R64, R65) -/

/-- CULVERT_REPLAY_TIMEOUT (R64): after TIMEOUT cycles without ACK advancing, all unacknowledged flits are sent again; the eighth
expiry only counts (R65). -/
def execCulvertReplayTimeout (c : Fin 8) (bufUe : Bool) (s : State) : Host.Outcome State Fault Refusal :=
  .next (
    let x := s.culv c.val
    if s.culvRuns c.val && !x.replay.isEmpty && decide (x.timer + s.rd (Reg.CLV.TIMEOUT c.val) ≤ s.absCycle) && decide (x.expiries < 8) then
      if bufUe then s.culvOffline c.val 14 (Err.CLV.BUF_UE c.val) 0
      else
        let x := { x with timer := s.absCycle, expiries := x.expiries + 1 }
        if x.expiries = 8 then s.setCulv c.val x
        else
          let again := x.replay.map fun f => { f with replay := true }
          let s := s.setCulv c.val { x with replay := again, line := again }
          (s.raise1 (plain (Err.CLV.REPLAY c.val))).bump (Reg.CLV.REPLAY_CNT c.val)
    else s)

/-- CULVERT_NO_PROGRESS (R65). -/
def execCulvertNoProgress (c : Fin 8) (s : State) : Host.Outcome State Fault Refusal :=
  .next (
    if s.culvRuns c.val && (s.culv c.val).expiries == 8 then s.culvOffline c.val 11 (Err.CLV.NO_PROGRESS c.val) 0 else s)

/-! ## Remap (R79 to R84) -/

/-- Whether a culvert was lost before the cycle 0 at hand, once bring-up has reached the culvert step: it is OFFLINE, OFF, or in loopback, or,
with remap enabled, it was and trains again without having been ACTIVE since (R79). -/
def State.culvLost (s : State) (c : Nat) : Bool :=
  let x := s.culv c
  let st := s.culvState c
  decide (3 ≤ s.stepNo) &&
    (((st == 0 || st == 7 || st == 8) && decide (x.since < s.now)) || (s.remapOn && x.lostAt.any fun t => decide (t < s.now)))

/-- Entries of lost culverts given to the ACTIVE ones, in ascending order, round-robin (R79). -/
def State.reassign (s : State) : State :=
  let active := (List.range 8).filter fun c => s.culvState c == 5
  let lost := (List.range 64).filter fun e => s.culvLost (s.steer e)
  if active.isEmpty then s
  else ((List.range lost.length).zip lost).foldl (fun s p => s.setSteer p.2 (active.getD (p.1 % active.length) 0)) s

/-- A request to be sent again: a read begins anew, a write keeps its data (R80). -/
def HubReq.again (r : HubReq) : HubReq := if r.write then r else { r with data := [], poison := false }

/-- Requests that a culvert carried stand in front of those that wait, in their order, to be sent again (R80). -/
def State.recall (s : State) (c : Nat) : State :=
  let x := s.culv c
  let s := s.setCulv c { x with reqs := [], replay := [], unsent := [], line := [] }
  { s with cox := { s.cox with waiting := x.reqs.map HubReq.again ++ s.cox.waiting } }

/-- Requests that lost culverts carried, to be issued again in their order (R80), or failed (R83). -/
def State.reissueLost (s : State) : State :=
  ([7, 6, 5, 4, 3, 2, 1, 0]).foldl (fun s c =>
    let x := s.culv c
    if !s.culvLost c || x.reqs.isEmpty then s
    else if s.remapOn then s.recall c
    else x.reqs.foldl (fun s r => s.unreachable c r.again) (s.setCulv c { x with reqs := [], replay := [], unsent := [], line := [] })) s

/-- STEER_TABLE_LIVE (R79, R80, R83): at cycle 0. -/
def execSteerTableLive (s : State) : Host.Outcome State Fault Refusal :=
  .next (
    if s.running && s.clk.cycle == 0 then ((if s.remapOn then s.reassign else s).reissueLost.flushWaiting).settle else s)

/-- Whether a request of an entry is outstanding on any culvert (R82). -/
def State.entryBusy (s : State) (e : Nat) : Bool := s.culvs.any fun kv => kv.2.reqs.any fun r => steerIndex r.addr == e

/-- An entry that came back to its own culvert while that is not ACTIVE: its requests fail until it is (R84). -/
def State.markFailing (s : State) (e : Nat) : State :=
  let c := e % 8
  if s.culvState c = 5 then s else s.setCulv c { s.culv c with failing := e :: (s.culv c).failing }

/-- STEER_ENTRY_RETURN (R82, R84): at a cycle 0 at which nothing is outstanding for the entry. -/
def execSteerEntryReturn (e : Fin 64) (s : State) : Host.Outcome State Fault Refusal :=
  .next (
    if s.running && s.clk.cycle == 0 && s.returning e.val && !s.entryBusy e.val then
      (((s.setSteer e.val (e.val % 8)).markFailing e.val).flushWaiting).settle
    else s)

/-! ## Training (R89 to R96) -/

/-- A culvert starts training at CLOCK: until its return clock locks its sideband stands still, and responses not sent are lost (R128). -/
def State.culvStart (s : State) (c : Nat) : State :=
  let t := s.culvTo c 1
  t.setCulv c { t.culv c with clockOk := false, identOk := (s.culv c).identOk && s.culvState c != 0, answers := [] }

/-- A culvert stops its clock and is OFF. -/
def State.culvStop (s : State) (c : Nat) : State :=
  let t := s.culvTo c 0
  t.setCulv c { t.culv c with clockOk := false, identOk := false, answers := [] }

/-- Loopback starts (R96). LOOP_STAT and LOOP_FAIL keep an earlier loopback's results until this one ends (log entry 176). -/
def State.startLoop (s : State) (c : Nat) : State := s.culvTo c 8

/-- A write to CLV[Cn].CTRL (Table 3.7, R96). ENABLE is judged as the write leaves it, and loopback starts in OFF whatever step bring-up has
reached (log entry 176). -/
def State.wrClvCtrl (c data : Nat) (s : State) : State :=
  let was := s.flag (Reg.CLV.CTRL_ENABLE c)
  let loopWas := s.flag (Reg.CLV.CTRL_LOOP c)
  let s := s.writeFields (0x020 + c) 0x004 data
  let is := s.flag (Reg.CLV.CTRL_ENABLE c)
  let retrain := bitAt data 9 && is
  match s.culvState c with
  | 0 =>
    if is then (if (!was || retrain) && decide (3 ≤ s.stepNo) then s.culvStart c else s)
    else if !loopWas && s.flag (Reg.CLV.CTRL_LOOP c) then s.startLoop c
    else s
  | 5 => if retrain || !is then s.culvTo c 6 else s
  | 6 => s
  | 7 => if !is then s.culvStop c else if retrain then s.culvStart c else s
  | 8 => s
  | _ => if is then s else s.culvStop c

/-- CULVERT_ENABLE (R89). -/
def execCulvertEnable (via : Path) (c : Fin 8) (data : Word) (s : State) : Host.Outcome State Fault Refusal :=
  .next (s.access via (0x020 + c.val) 0x004 data.toNat (State.wrClvCtrl c.val))

/-- CULVERT_DISABLE (R89). -/
def execCulvertDisable (via : Path) (c : Fin 8) (data : Word) (s : State) : Host.Outcome State Fault Refusal :=
  .next (s.access via (0x020 + c.val) 0x004 data.toNat (State.wrClvCtrl c.val))

/-- CULVERT_RETRAIN (R89). -/
def execCulvertRetrain (via : Path) (c : Fin 8) (data : Word) (s : State) : Host.Outcome State Fault Refusal :=
  .next (s.access via (0x020 + c.val) 0x004 data.toNat (State.wrClvCtrl c.val))

/-- CULVERT_LOOP_START (R96). -/
def execCulvertLoopStart (via : Path) (c : Fin 8) (data : Word) (s : State) : Host.Outcome State Fault Refusal :=
  .next (s.access via (0x020 + c.val) 0x004 data.toNat (State.wrClvCtrl c.val))

/-- LOOPBACK_END (R96), with the failing data lanes and the sideband's result. -/
def execLoopbackEnd (c : Fin 8) (fails : DWord) (sbFail : Bool) (s : State) : Host.Outcome State Fault Refusal :=
  .next (
    if s.culvState c.val = 8 ∧ (s.culv c.val).since + s.rd (Reg.CLV.LOOP_STROKES c.val) ≤ s.now then
      let s := s.wrPair (Reg.CLV.LOOP_FAIL_LO c.val) (Reg.CLV.LOOP_FAIL_HI c.val) fails.toNat
      let s := (s.wr (Reg.CLV.LOOP_STAT_DONE c.val) 1).wrB (Reg.CLV.LOOP_STAT_SB_FAIL c.val) sbFail
      let s := s.wrB (Reg.CLV.LOOP_STAT_PASS c.val) (fails == 0 && !sbFail)
      (s.wr (Reg.CLV.CTRL_LOOP c.val) 0).culvTo c.val 0
    else s)

/-- Tolfa's capability word (R92). -/
def ownCap : Nat := 0x109F

/-- A sideband packet's bit times: 20 bytes, start and idle bytes among them, at one bit to a control cycle (R122). -/
def packetCycles : Nat := 160

/-- A packet sent on a culvert's sideband, which is then busy with it. -/
def State.sendPacket (s : State) (c : Nat) (packet : List Byte) : State :=
  s.setCulv c { s.culv c with packet := packet, sbFree := max s.time (s.culv c).sbFree + packetCycles }

/-- RETURN_CLOCK_LOCK (R89): in IDENT Tolfa sends its IDENT packet (R91, R92). -/
def execReturnClockLock (c : Fin 8) (s : State) : Host.Outcome State Fault Refusal :=
  .next (
    let st := s.culvState c.val
    if st = 0 ∨ st = 8 then s
    else
      let s := s.setCulv c.val { s.culv c.val with clockOk := true }
      if st = 1 then (s.culvTo c.val 2).sendPacket c.val (identPacket ownCap s.fuses.setCode (s.rd Reg.GLB.STRAPS_POSITION)) else s)

/-- RETURN_CLOCK_LOSS (R89): contained in ACTIVE, and in QUIESCE, whose lanes run on; responses not sent are lost (R128). -/
def execReturnClockLoss (c : Fin 8) (s : State) : Host.Outcome State Fault Refusal :=
  .next (
    let s := s.setCulv c.val { s.culv c.val with clockOk := false, answers := [] }
    if s.culvRuns c.val then s.culvOffline c.val 13 (Err.CLV.CLK_LOSS c.val) 0 else s)

/-- The highest rate code that both ends support, at or below a limit (R94). -/
def commonRate (cap limit : Nat) : Option Nat := [2, 1, 0].find? fun r => decide (r ≤ limit) && bitAt cap r && bitAt ownCap r

/-- The first check of Table 3.10 that fails, as its REASON. -/
def State.identReason (s : State) (c : Nat) (cap set : Nat) : Option Nat :=
  let matched := s.flag Reg.GLB.STRAPS_MODE
  let own := s.fuses.setCode.toNat
  if bits cap 15 12 != 1 then some 8
  else if !bitAt cap 6 then some 7
  else if matched && (set == 0 || own == 0) then some 4
  else if matched && set != own then some 3
  else if !bitAt cap 3 then some 6
  else if (commonRate cap (s.rd (Reg.CLV.CTRL_MAX_RATE c))).isNone then some 5
  else .none

/-- IDENT (R91 to R94, R78): recorded in any state, judged in IDENT. -/
def execIdent (c : Fin 8) (cap : Word) (set : BitVec 24) (role _pos : Byte) (s : State) : Host.Outcome State Fault Refusal :=
  .next (
    let k := c.val
    let s := (s.wr (Reg.CLV.PEER_CAP k) cap.toNat).wr (Reg.CLV.PEER_SET_SET k) set.toNat
    let s := s.wr (Reg.CLV.PEER_SET_ROLE k) role.toNat
    if s.culvState k != 2 then s
    else
      match s.identReason k cap.toNat set.toNat with
      | some r => s.trainFail k r 0
      | .none =>
        let s := s.setCulv k { s.culv k with remapCap := some (bitAt cap.toNat 4), invalCap := bitAt cap.toNat 5, identOk := true }
        let s := s.wrB (Reg.CLV.STAT_INVAL_ON k) (s.flag Reg.GLB.STRAPS_MODE || bitAt cap.toNat 5)
        (s.wr (Reg.CLV.STAT_RATE k) ((commonRate cap.toNat (s.rd (Reg.CLV.CTRL_MAX_RATE k))).getD 0)).culvTo k 3)

/-- DESKEW_RESULT (R95): the pass bitmaps of Tolfa's receiver, which Tolfa sends, and of the hub's. No rule judges the rate code. With lanes failing at
both ends ERR_INFO0 names the lower one, and on equal lanes Tolfa's receiver (log entry 177). -/
def execDeskewResult (c : Fin 8) (own hub : DWord) (_rate : Nat) (s : State) : Host.Outcome State Fault Refusal :=
  .next (
    if s.culvState c.val != 3 then s
    else
      let s := s.sendPacket c.val (deskewPacket own (s.rd (Reg.CLV.STAT_RATE c.val)))
      let badOwn := (List.range 64).find? fun i => !own.getLsbD i
      let badHub := (List.range 64).find? fun i => !hub.getLsbD i
      match badOwn, badHub with
      | .none, .none => s.culvTo c.val 4
      | some a, .none => s.trainFail c.val 9 (a * 2 ^ 8)
      | .none, some b => s.trainFail c.val 9 (b * 2 ^ 8 + 2 ^ 7)
      | some a, some b => s.trainFail c.val 9 (if a ≤ b then a * 2 ^ 8 else b * 2 ^ 8 + 2 ^ 7))

/-- CULVERT_VERIFY_DONE (R89, R61): sequence numbers start at 0, and what was sent on the culvert or waited for it goes on. -/
def execCulvertVerifyDone (c : Fin 8) (s : State) : Host.Outcome State Fault Refusal :=
  .next (
    if s.culvState c.val = 4 ∧ (s.culv c.val).goodRx = 4096 then
      let s := s.culvTo c.val 5
      let s := s.setCulv c.val { s.culv c.val with
        txNext := 0, txAcked := 0xFFF, rxNext := 0, replay := [], unsent := [], expiries := 0, timer := s.absCycle }
      let s := s.recall c.val
      (s.bump (Reg.CLV.TRAIN_CNT_DONE c.val)).flushWaiting.settle
    else s)

/-- CULVERT_QUIESCE_DONE (R89, R94). -/
def execCulvertQuiesceDone (c : Fin 8) (s : State) : Host.Outcome State Fault Refusal :=
  .next (
    let x := s.culv c.val
    if s.culvState c.val = 6 ∧ x.reqs.isEmpty ∧ x.replay.isEmpty ∧ x.unsent.isEmpty then
      if s.flag (Reg.CLV.CTRL_ENABLE c.val) then
        match commonRate (s.rd (Reg.CLV.PEER_CAP c.val)) (s.rd (Reg.CLV.CTRL_MAX_RATE c.val)) with
        | .none => s.trainFail c.val 5 0
        | some r => (s.wr (Reg.CLV.STAT_RATE c.val) r).culvTo c.val 3
      else s.culvStop c.val
    else s)

/-- The timeout of a training state and its REASON (Table 3.8). -/
def trainLimit (st : Nat) : Option (Nat × Nat) :=
  match st with
  | 1 => some (64, 1)
  | 2 => some (32, 2)
  | 3 => some (64, 9)
  | 4 => some (8, 10)
  | 6 => some (64, 11)
  | _ => .none

/-- CULVERT_TRAINING_TIMEOUT (R90). -/
def execCulvertTrainingTimeout (c : Fin 8) (s : State) : Host.Outcome State Fault Refusal :=
  .next (
    match trainLimit (s.culvState c.val) with
    | .none => s
    | some l =>
      if (s.culv c.val).since + l.1 ≤ s.now then
        if l.2 = 11 then s.culvOffline c.val 11 (Err.CLV.NO_PROGRESS c.val) 0 else s.trainFail c.val l.2 0
      else s)

/-! ## The lanes (R60, R63) -/

/-- Fifths of a flit that go out in one control cycle at a rate code: 16, 12 or 8 (R54). -/
def fifthsOf (rate : Nat) : Nat := if rate = 2 then 16 else if rate = 1 then 12 else 8

/-- A flit time in ACTIVE or QUIESCE: the next flit, or IDLE (R57, R60, R63). -/
def Culv.sendOne (x : Culv) : Culv :=
  let ack := x.rxNext - 1
  match x.line with
  | f :: rest => { x with line := rest, sent := x.sent ++ [f.onLine ack] }
  | [] => { x with sent := x.sent ++ [⟨0, x.txNext, ack, false, false, List.replicate 120 0⟩] }

/-- A flit time in VERIFY: a TRAIN flit (Table 3.3), whose SEQ is the 0 that follows (R57, R61). -/
def Culv.trainOne (x : Culv) : Culv :=
  let p := prbs31Bytes 120 x.prbs
  { x with prbs := p.2, sent := x.sent ++ [⟨7, 0, x.rxNext - 1, false, false, p.1⟩] }

/-- A number of flit times. -/
def Culv.sendN (one : Culv → Culv) : Nat → Culv → Culv
  | 0, x => x
  | n + 1, x => Culv.sendN one n (one x)

/-- A control cycle on a culvert's transmit lanes. -/
def State.lanesOne (s : State) (c : Nat) : State :=
  let st := s.culvState c
  if !s.culvRuns c && st != 4 then s
  else
    let x := s.culv c
    let n := x.fifths + fifthsOf (s.rd (Reg.CLV.STAT_RATE c))
    let x := { x with fifths := n % 5, sent := [] }
    s.setCulv c (Culv.sendN (if st = 4 then Culv.trainOne else Culv.sendOne) (n / 5) x)

/-- A control cycle on the lanes of every culvert. -/
def State.lanesCycle (s : State) : State := (List.range 8).foldl State.lanesOne s

/-- 128 bytes received on a culvert's data lanes: what their type makes of them (Tables 3.1 to 3.6). A RERR whose KIND is not 0x02 is of reads
(log entry 178). -/
def receiveFlit (c : Fin 8) (bs : List Byte) (s : State) : Host.Outcome State Fault Refusal :=
  let h := flitHdrOf bs
  let p := (bs.drop 4).take 120
  match bits (ofBytes (bs.take 4)) 3 0 with
  | 0 => execIdleFlit c h s
  | 3 => execRdata c h p s
  | 4 => execWdone c h (ofBytes (p.take 2)) s
  | 5 => execRerr c h (ofBytes (p.take 1) == 2) (ofBytes ((p.drop 1).take 1)) (ofBytes ((p.drop 2).take 2)) s
  | 6 => execInval c h (invalLines 15 p) s
  | 7 => execTrainFlit c h s
  | t => execReservedFlitType c h (BitVec.ofNat 4 t) s

/-- DISCARDED_SIDEBAND_PACKET (R126). A packet that is dropped while the die is held in full reset is counted nowhere. -/
def execDiscardedSidebandPacket (c : Fin 8) (why : DiscardWhy) (s : State) : Host.Outcome State Fault Refusal :=
  .next (
    if s.held || decide (8 ≤ c.val) then s
    else
      let e := match why with
        | .crc => Err.GLB.SB_DISCARD
        | .truncated => Err.GLB.SB_DISCARD
        | .overflow => Err.GLB.SB_DISCARD
        | .reservedKind => Err.GLB.SB_KIND
        | .outside => Err.GLB.SB_KIND
      (s.raise1 (plain e)).bump Reg.GLB.SB_DISCARD_CNT)

end Sys2Proof.Machine
end

