-- ==== Sys2Proof/Machine/CoxMsgs.lean ====
section
/-! DEFINITION. Received messages (R336 to R342, R364, R416 to R419, R423). -/

namespace Sys2Proof.Machine

/-- The first message of a class that a stream has received and not dealt with. -/
def Link.frontOf (l : Link) (c : Nat) : Option Msg := l.rxMsgs.find? (·.tc == c)

/-- The stream and the message that a row of a KIND deals with on a port: the port's link before a fan it receives, TC0 first; classes do not
wait for each other. -/
def State.frontMsg (s : State) (p kind : Nat) : Option (Nat × Msg) :=
  [p, fanRx p].findSome? fun n =>
    [0, 1, 2, 3].findSome? fun c => match (s.link n).frontOf c with
      | .none => .none
      | some m => if m.kind = kind then some (n, m) else .none

/-- The list without its first element equal to one. -/
def removeOne {α : Type} [DecidableEq α] (a : α) : List α → List α
  | [] => []
  | b :: rest => if a = b then rest else b :: removeOne a rest

/-- A message leaves a stream's receive list. -/
def State.popMsg (s : State) (n : Nat) (m : Msg) : State :=
  let l := s.link n
  s.setLink n { l with rxMsgs := removeOne m l.rxMsgs }

/-- A message is done with: its receive space is freed. -/
def State.consumeMsg (s : State) (n : Nat) (m : Msg) : State := (s.popMsg n m).freeSpace n m.tc (dataUnits m.data.length)

/-- What the receiver's entry for SRC says of a message (R342, R423): its entry; the status and detail of a discard; or nothing yet. -/
inductive Sender where
  | ok (e : NodeEntry) | discard (status detail : Nat) | missing
  deriving DecidableEq, Repr

/-- The check of a message's sender, with its counts and events. -/
def State.checkSender (s : State) (m : Msg) : Sender × State :=
  let src := m.src.toNat
  match s.lookNode src with
  | (.missing, t) => (.missing, t)
  | (.bad st, t) => (.discard st 1, t)
  | (.entry e _, t) =>
    let info := m.epoch.toNat * 2 ^ 12 + src
    if e.state = 0 ∨ e.state = 3 then
      (.discard stUnmapped src, (t.raise1 ⟨Err.BTH.UNMAPPED_SRC, info, 0⟩).bump Reg.BTH.UNMAPPED_CNT)
    else if e.epoch ≠ m.epoch.toNat then
      (.discard stStale e.epoch, (t.raise1 ⟨Err.BTH.STALE, info, 0⟩).bump Reg.BTH.STALE_CNT)
    else (.ok e, t)

/-- A message of a KIND on a port dealt with, once its sender's entry is at hand. -/
def State.onMsg (s : State) (p kind : Nat) (f : State → Nat → Msg → Sender → State) : State :=
  match s.frontMsg p kind with
  | .none => s
  | some (n, m) =>
    match s.checkSender m with
    | (.missing, t) => t.settle
    | (r, t) => (f t n m r).settle

/-! ## SEND_DATA (R338) -/

/-- The landing cursor of a stream and class. -/
def Link.cursor (l : Link) (c : Nat) : Landing := l.landing.getD c Landing.reset

/-- The cursor that a message of a transfer finds: open already, or opened by it at its window's base plus TAG pages (R338). -/
def openCursor (cur : Landing) (r : Sender) (m : Msg) (id : Nat) : Landing :=
  if cur.isOpen then cur
  else
    match r with
    | .ok e => ⟨true, e.base + 4096 * m.tag.toNat, e.base + 4096 * e.pages, if e.wr then .none else some (stDenied, 1), id⟩
    | .discard st d => ⟨true, 0, 0, some (st, d), id⟩
    | .missing => ⟨true, 0, 0, .none, id⟩

/-- Why the rest of a transfer is discarded from a message on: its sender, or the window's bounds. -/
def landingFailure (cur : Landing) (r : Sender) (m : Msg) : Option (Nat × Nat) :=
  if cur.failed.isSome then cur.failed
  else
    match r with
    | .discard st d => some (st, d)
    | .ok _ => if cur.limit < cur.addr + m.data.length then some (stDenied, 1) else .none
    | .missing => .none

/-- A SEND_DATA message landed or discarded (R338, R339). -/
def State.land (s : State) (n : Nat) (m : Msg) (r : Sender) : State :=
  let c := m.tc
  let l := s.link n
  let fresh := !(l.cursor c).isOpen
  let cur := openCursor (l.cursor c) r m l.nextXfer
  let l := if fresh then
      { l with nextXfer := l.nextXfer + 1, rxXfers := l.rxXfers ++ [⟨cur.xfer, c, 0, false, 0, 0, .none⟩] }
    else l
  let failed := landingFailure cur r m
  let count := if failed.isSome then 0 else writeCount cur.addr m.data.length
  let msg := l.nextXfer
  let bad := if failed.isSome then failed else if m.poison then some (stPeer, 1) else .none
  let see := fun (x : RxXfer) =>
    if x.id = cur.xfer then
      { x with
        writes := x.writes + count
        complete := m.last
        status := if x.status = 0 then (bad.getD (0, 0)).1 else x.status
        detail := if x.status = 0 then (bad.getD (0, 0)).2 else x.detail }
    else x
  let cur1 := if m.last then Landing.reset else { cur with addr := cur.addr + m.data.length, failed := failed }
  let l := { l with rxXfers := l.rxXfers.map see, landing := setAt l.landing c cur1 }
  if count = 0 then ((s.setLink n l).consumeMsg n m).answerReady n c ((s.link n).rxXfers.length + 2)
  else
    let l := { l with nextXfer := l.nextXfer + 1, space := l.space ++ [(msg, count, c, dataUnits m.data.length)] }
    ((s.setLink n l).popMsg n m).hubWrite cur.addr m.data m.poison (.land n cur.xfer msg)

/-- The list with its first element equal to one replaced. -/
def replaceOne {α : Type} [DecidableEq α] (a b : α) : List α → List α
  | [] => []
  | x :: rest => if a = x then b :: rest else x :: replaceOne a b rest

/-- What ECC reports of the context cache, or of the RXS page that a message of TC1 to TC3 lies in (R352, R356, R360): an uncorrectable page poisons the
message and leaves the port's reservation. -/
def State.rxFault (s : State) (n : Nat) (m : Msg) (f : MemFault) : Msg × State :=
  match f with
  | .pageCe p => (m, if m.tc = 0 then s else s.pageCe .rxs p)
  | .pageUe p =>
    if m.tc = 0 then (m, s)
    else
      let bad := { m with poison := true }
      let l := s.link n
      (bad, (s.setLink n { l with rxMsgs := replaceOne m bad l.rxMsgs, rxReserved := l.rxReserved - 1 }).pageUe .rxs p)
  | f => (m, s.memFault .none f)

/-- SEND_DATA (R338). -/
def execSendData (rx : RxRead) (s : State) : Host.Outcome State Fault Refusal :=
  .next (s.onMsg rx.port.val 1 fun t n m r => let x := t.rxFault n m rx.fault; x.2.land n x.1 r)

/-! ## FETCH_REQ and FETCH_DATA (R340) -/

/-- A FETCH_REQ answered: by FETCH_DATA from the window, or by an XFER_DONE. -/
def State.answerFetch (s : State) (n : Nat) (m : Msg) (r : Sender) : State :=
  let s := s.consumeMsg n m
  let p := answerPort n
  let remote := ofBytes (m.data.take 8)
  let len := ofBytes ((m.data.drop 8).take 8)
  let tc := (m.data.getD 16 0).toNat % 4
  let id := m.tag.toNat % 256
  match r with
  | .missing => s
  | .discard st d => s.xferDone p st 1 tc id d
  | .ok e =>
    if !e.rd || decide (4096 * e.pages < remote + len) then s.xferDone p stDenied 1 tc id 1
    else if len = 0 then s.pushMsg p (s.mkMsg 3 tc id true false [])
    else s.addJob { blankJob with kind := .answer id, port := p, tc := tc, addr := e.base + remote, len := len }

/-- FETCH_REQ (R340). -/
def execFetchReq (p : Fin 16) (s : State) : Host.Outcome State Fault Refusal :=
  .next (s.onMsg p.val 2 fun t n m r => t.answerFetch n m r)

/-- The fetch that an identifier stands for on a port. -/
def State.fetchJob (s : State) (p id : Nat) : Option Job :=
  s.cox.jobs.find? fun j => j.port == p && j.fetchId == some id &&
    (match j.kind with | .fetch => true | .fetchFor _ _ => true | _ => false)

/-- FETCH_DATA for a FETCH: written at LOCAL behind what came before (R340). -/
def State.fetched (s : State) (n : Nat) (m : Msg) (j : Job) : State :=
  let len := m.data.length
  let a := j.addr + j.pos
  let count := writeCount a len
  let j := { j with
    pos := j.pos + len
    writes := j.writes + count
    lastIn := m.last
    status := if m.poison && j.status.isNone then some (stPeer, 1) else j.status }
  let s := s.setJob j
  if count = 0 then
    let s := s.consumeMsg n m
    if m.last ∧ j.writes = 0 then s.jobEnds j stDone 0 else s
  else
    let l := s.link n
    let s := s.setLink n { l with nextXfer := l.nextXfer + 1, space := l.space ++ [(l.nextXfer, count, m.tc, dataUnits len)] }
    (s.popMsg n m).hubWrite a m.data m.poison (.jobWrite j.id (some (n, l.nextXfer)))

/-- FETCH_DATA for a restore (R406, R412). -/
def State.fetchedFor (s : State) (n : Nat) (m : Msg) (j : Job) (parent off : Nat) : State :=
  let s := s.consumeMsg n m
  if m.poison then s.jobEnds j stPeer 1
  else
    let s := (s.setJob { j with pos := j.pos + m.data.length }).restorePiece parent (off + j.pos) m.data
    if m.last then s.jobEnds j stDone 0 else s

/-- FETCH_DATA (R340): a stale answer, or one that nothing waits for, is discarded (R423). -/
def execFetchData (rx : RxRead) (s : State) : Host.Outcome State Fault Refusal :=
  .next (s.onMsg rx.port.val 3 fun t n m r =>
    let x := t.rxFault n m rx.fault
    let t := x.2
    let m := x.1
    match r, t.fetchJob rx.port.val (m.tag.toNat % 256) with
    | .ok _, some j => match j.kind with
      | .fetchFor parent off => t.fetchedFor n m j parent off
      | _ => t.fetched n m j
    | _, _ => t.consumeMsg n m)

/-! ## XFER_DONE (R339, R342) -/

/-- The detail of an answer as the command reports it: a remote hub failure sets bit 0 (Table 10.5). -/
def answerDetail (st det : Nat) : Nat := if st = 0x11 ∨ st = stDenied ∨ st = stPeer then 1 else det

/-- An answer taken by a transfer: the last one that was awaited ends it. -/
def State.answered (s : State) (id st det : Nat) : State :=
  match s.job id with
  | .none => s
  | some j =>
    let j := { j with
      writes := j.writes - 1
      status := if st ≠ 0 ∧ j.status.isNone then some (st, answerDetail st det) else j.status }
    let s := s.setJob j
    if j.writes = 0 then let r := j.status.getD (0, 0); s.jobEnds j r.1 r.2 else s

/-- A FETCH answered by a failure (R340): it ends once its writes so far are reported (R76). -/
def State.fetchFails (s : State) (j : Job) (st det : Nat) : State :=
  let j := { j with status := some (st, det), lastIn := true }
  if j.kind = .fetch ∧ j.writes ≠ 0 then s.setJob j else s.jobEnds j st det

/-- An XFER_DONE matched with what it answers (R339, R340, R341). -/
def State.takeAnswer (s : State) (p : Nat) (m : Msg) : State :=
  let b := fun i => (m.data.getD i 0).toNat
  let st := b 0
  let det := ofBytes ((m.data.drop 4).take 4)
  if b 1 = 1 then
    match s.fetchJob p (b 3) with
    | .none => s
    | some j => s.fetchFails j st (answerDetail st det)
  else
    let l := s.link p
    match l.unanswered.find? fun u => u.1 == b 1 && u.2.1 == b 2 with
    | .none => s
    | some u => (s.setLink p { l with unanswered := removeOne u l.unanswered }).answered u.2.2 st det

/-- XFER_DONE (R339). -/
def execXferDone (p : Fin 16) (s : State) : Host.Outcome State Fault Refusal :=
  .next (s.onMsg p.val 4 fun t n m r =>
    let t := t.consumeMsg n m
    match r with
    | .ok _ => t.takeAnswer p.val m
    | .discard _ _ => t
    | .missing => t)

/-! ## BUOY_OP (R341, R364) -/

/-- The transfer that a BUOY_OP of TC1 to TC3 ends: the class's newest complete one that is not answered. -/
def Link.lastXfer (l : Link) (c : Nat) : Option RxXfer := l.rxXfers.reverse.find? fun x => x.cls == c && x.complete && x.buoy.isNone

/-- A BUOY_OP taken: at once on TC0, with the answer a BUOY command awaits; with its transfer on TC1 to TC3. -/
def State.takeBuoyOp (s : State) (n : Nat) (m : Msg) (r : Sender) : State :=
  let s := s.consumeMsg n m
  let k := (m.data.getD 0 0).toNat % 64
  let op := (m.data.getD 1 0).toNat
  let v : DWord := BitVec.ofNat 64 (ofBytes ((m.data.drop 8).take 8))
  let answer := fun (s : State) (st det : Nat) =>
    if m.tc = 0 ∧ m.last then s.xferDone (answerPort n) st 2 0 0 det else s
  match r with
  | .missing => s
  | .discard st d => answer s st d
  | .ok e =>
    if !e.wr then answer (s.bump Reg.BUO.DENIED_CNT) stDenied 1
    else if m.tc = 0 then answer (s.buoyOp k op v) stDone 0
    else
      let l := s.link n
      match l.lastXfer m.tc with
      | .none => s.buoyOp k op v
      | some x => s.setLink n { l with rxXfers := l.rxXfers.map fun y => if y.id = x.id then { y with buoy := some (k, op, v) } else y }

/-- BUOY_OP (R341). -/
def execBuoyOp (p : Fin 16) (s : State) : Host.Outcome State Fault Refusal :=
  .next (s.onMsg p.val 5 fun t n m r => t.takeBuoyOp n m r)

/-! ## Tally (R416, R417, R419) -/

/-- An image of a round that holds a slot: added, or kept until the tree is known. -/
def State.roundImage (s : State) (r node : Nat) (a : Accum) (p : Nat) : State :=
  match s.round r with
  | .none => s
  | some x =>
    let s := s.setRound { x with ports := x.ports ++ [p] }
    if x.hasTree then s.addImage r node a
    else if x.early.any (·.1 == node) then s.stray r
    else s.setRound { x with ports := x.ports ++ [p], early := x.early ++ [(node, a.sum, a.inf, a.nan)] }

/-- A TALLY_IMG (R416, R417): with no slot for its round it stays where it is, and its space with it. -/
def State.takeImage (s : State) (n : Nat) (m : Msg) (r : Sender) : State :=
  let k := m.tag.toNat
  match r with
  | .missing => s
  | .discard _ _ => s.consumeMsg n m
  | .ok _ =>
    if s.runs.failedRounds.contains k || m.poison then (s.consumeMsg n m).stray k
    else
      let t := if (s.round k).isSome then s else { s with runs := { s.runs with rounds := s.runs.rounds ++ [newRound k] } }
      match t.openRound k with
      | (false, u) =>
        match s.round k with
        | some _ => u
        | .none => { u with runs := { u.runs with rounds := u.runs.rounds.filter (·.round != k) } }
      | (true, u) => (u.consumeMsg n m).roundImage k m.src.toNat (accOf m.data) (answerPort n)

/-- TALLY_IMG (R417). -/
def execTallyImg (p : Fin 16) (s : State) : Host.Outcome State Fault Refusal :=
  .next (s.onMsg p.val 0x10 fun t n m r => t.takeImage n m r)

/-- A TALLY_RES (R419): the children's map entries are read first; for a round that is not in progress it has no effect. -/
def State.takeResult (s : State) (n : Nat) (m : Msg) (r : Sender) : State :=
  match r, s.round m.tag.toNat with
  | .ok _, some x =>
    match s.nodesKnown x.children with
    | (false, t) => t
    | (true, t) => (t.consumeMsg n m).roundResult x (ofBytes (m.data.take 8)) (ofBytes ((m.data.drop 8).take 4))
  | _, _ => s.consumeMsg n m

/-- TALLY_RES (R419). -/
def execTallyRes (p : Fin 16) (s : State) : Host.Outcome State Fault Refusal :=
  .next (s.onMsg p.val 0x11 fun t n m r => t.takeResult n m r)

end Sys2Proof.Machine
end

