-- ==== Sys2Proof/Machine/LinkDown.lean ====
section
/-! DEFINITION. How a link leaves a state: traffic dropped, commands completed, WAIT and DOWN (R303 to R307, R312, R389, R395), and the
synthesiser's relocks (R158, R159). -/

namespace Sys2Proof.Machine

/-! ## Synthesisers (R158, R159) -/

/-- A relock of a bank's synthesiser begins, its attempt count given. -/
def State.beginRelock (s : State) (b attempt : Nat) : State :=
  ((s.setSynth b ⟨attempt, s.now, false⟩).wr (Reg.OPT.STAT_SYN b) 1).bump (Reg.OPT.SYN_CNT_RELOCK b)

/-- Whether a bank's synthesiser is LOCKED. -/
def State.synLocked (s : State) (b : Nat) : Bool := s.rd (Reg.OPT.STAT_SYN b) == 2

/-- A relock that waits for its port's PAUSE shells begins after the fourth (R301). -/
def State.relockAfterPause (s : State) (p : Nat) : State :=
  let b := s.bankOf p
  if (s.synth b).pending then s.beginRelock b 0 else s

/-- A relock asked for (R158): on a running link after 4 PAUSE shells, otherwise at once. -/
def State.askRelock (s : State) (b : Nat) : State :=
  let p := s.fibreOf b
  if (s.synth b).pending || s.rd (Reg.OPT.STAT_SYN b) == 1 then s
  else if s.linkUp p then
    let s := (s.setSynth b { s.synth b with pending := true }).startPause p 0 0
    if (s.link p).pauseLeft = 0 || (s.txStream p).isNone then s.relockAfterPause p else s
  else s.beginRelock b 0

/-- The synthesiser locked to a rate (R157, R158): a new rate restarts a relock in progress. -/
def State.setRate (s : State) (b rate : Nat) : State :=
  if s.rd (Reg.OPT.STAT_RATE b) = rate ∧ (s.rd (Reg.OPT.STAT_SYN b) = 1 ∨ (s.synth b).pending = true) then s
  else (s.wr (Reg.OPT.STAT_RATE b) rate).beginRelock b 0

/-- A FAILED synthesiser starts anew as its link enters WAIT (R159). -/
def State.leaveFailed (s : State) (b : Nat) : State := if s.rd (Reg.OPT.STAT_SYN b) = 3 then s.beginRelock b 0 else s

/-! ## The Flume's part (R374, R395) -/

/-- ERR_INFO0 of a FLM event (Table 11.9): channel, MZI, slot and result. -/
def flmInfo (chan mzi slot result : Nat) : Nat := chan * 2 ^ 24 + mzi * 2 ^ 16 + slot * 2 ^ 8 + result

/-- A configuration change put in line (R374). -/
def State.askChange (s : State) (kind : ChangeKind) (target ports : List Nat) : State :=
  let f := s.fresh
  let c : Change := { kind := kind, target := target, start := .none, prev := s.flm.map, ports := ports, rollback := false, pick := f.1 }
  { f.2 with flm := { f.2.flm with changes := f.2.flm.changes ++ [c] } }

/-- A map with the fibres of two banks exchanged. -/
def swapBanks (m : List Nat) (a b : Nat) : List Nat := setAt (setAt m a (m.getD b b)) b (m.getD a a)

/-- Automatic Cross for a fibre whose link went down or failed training (R395). -/
def State.autoCross (s : State) (f : Nat) : State :=
  let b := s.rd Reg.FLM.SPARE_BANK
  if s.flag Reg.FLM.CTRL_AUTO_CROSS && decide (b < 16) && s.flag (Reg.LNK.CTRL_DISABLE b) && (s.slotOfFibre f).isNone then
    let s := s.askChange (.autoCross f b) (swapBanks s.flm.map (s.bankOf f) b) []
    (s.wr Reg.FLM.SPARE_BANK 0x1F).raise1 ⟨Err.FLM.AUTO_CROSS, flmInfo 0xFF 0xFF 0 0, 0⟩
  else s

/-! ## Work on a stream that ends (R307) -/

/-- Whether a transfer of a stream waits for an answer. -/
def State.awaited (s : State) (j : Job) : Bool :=
  (s.answerers j.port).any fun p => (s.link p).unanswered.any fun e => e.2.2 == j.id

/-- Whether a job has unfinished work on a stream. -/
def State.jobOn (s : State) (n : Nat) (j : Job) : Bool :=
  j.port == n && (match j.kind with
    | .answer _ => true
    | .send => j.queued || s.awaited j
    | .bytes => j.queued || s.awaited j
    | .buoyOp => j.queued || s.awaited j
    | .fetch => (j.queued || j.fetchId.isSome) && !j.lastIn
    | .fetchFor _ _ => (j.queued || j.fetchId.isSome) && !j.lastIn
    | .reduce _ => false
    | .stash _ => false
    | .unstash => false)

/-- A job on a stream that has ended: page-outs, write-throughs and restores end by their own rules, others go. -/
def State.endJob (s : State) (st det : Nat) (j : Job) : State :=
  match j.kind with
  | .bytes => s.jobEnds j st det
  | .fetchFor _ _ => s.jobEnds j st det
  | _ => s.dropJob j.id

/-- Commands with unfinished work on a stream complete with a status; DETAIL names the port, and the entry of a list (R307, R335). -/
def State.endWork (s : State) (n st det : Nat) : State :=
  let hit := s.cox.jobs.filter (s.jobOn n)
  let s := hit.foldl (fun s j => s.endJob st det j) s
  ((hit.map (·.cmd)).dedup).foldl (fun s id =>
    match s.cmd id with
    | .none => s
    | some c =>
      let items := (hit.filter (·.cmd == id)).map (·.item)
      let at_ := if c.isList then items.foldl min (items.headD 0) * 2 ^ 48 else 0
      (s.cancelJobs id).complete id st (at_ + det)) s

/-- Backwater entries held for a stream complete with a status (R307). -/
def State.endHeld (s : State) (n st det : Nat) : State :=
  s.cox.bw.foldl (fun s id =>
    match s.cmd id with
    | .none => s
    | some c => match c.phase with
      | .held m _ =>
        if m != n then s
        else
          let s := { s with cox := { s.cox with bw := s.cox.bw.filter (· != id) } }
          if cOp c.words = 6 then
            match s.ownJob id with
            | .none => s.complete id st det
            | some j => ((s.extentDone (bits (c.w 5) 11 0) false).dropJob j.id).complete id st det
          else (s.cancelJobs id).complete id st (if c.isList then c.item * 2 ^ 48 + det else det)
      | .waitBuoy => s
      | .fence => s
      | .running => s
      | .ended => s) s

/-- A stream with nothing on its way: queues, replay, partly received messages and landings go, their pages return (R290, R307). -/
def State.clearStream (s : State) (n : Nat) : State :=
  let l := s.link n
  let s := (s.returnPages .rpl l.replay.length).returnPages .rxs l.rxReserved
  s.setLink n { l with
    replay := [], resend := 0, stream := [], heads := [], padded := false, queues := [[], [], [], []], quantum := [0, 0, 0, 0], visited := false,
    partialBytes := [], rxMsgs := [], landing := Link.reset.landing, rxXfers := [], space := [], staleHdr := [0, 0, 0, 0],
    staleData := [0, 0, 0, 0], unanswered := [], expiries := 0, rxReserved := 0, stalled := false, ackPending := 0 }

/-- A port's control words and operations, pauses and training forgotten; a relock that waited for the PAUSE shells begins (R158, R301). -/
def State.clearControl (s : State) (p resets : Nat) : State :=
  let l := s.link p
  ((s.setLink p { l with
    ops := [], before := .none, words := if resets = 0 then [] else l.words, answered := [], pauseLeft := 0, peerPausedAt := .none, frozenAt := .none,
    resetLeft := resets, drainedTx := false, drainedRx := false, paramsSent := false, peerParams := 0, losRun := 0, down := .none,
    newsAt := .none, sent := .none, onLines := ⟨l.onLines.slot, l.onLines.fec, []⟩ }).wr (Reg.LNK.STAT_PAUSE p) 0).relockAfterPause p

/-- Lane operations in flight as a link stops (R495): moves and requests that are not answered are made on the map instead; dropped lanes
no longer wait for the peer. -/
def State.laneOpsLost (s : State) (p : Nat) : State :=
  let s := s.swapsEnd p
  let l := s.laneSt p
  let swaps := ((s.link p).ops.filter fun o =>
    o.op == 0x12 && (o.cause.why == .withdrawn || o.cause.why == .visit)).map fun o => (⟨bits o.arg.toNat 4 0, .move, o.cause⟩ : LaneOp)
  let asks := (l.rxWait.filter fun w => w.cause.why != .visit).map fun w => (⟨w.lane, .dropReq, w.cause⟩ : LaneOp)
  let visits := l.rxWait.filter fun w => w.cause.why == .visit
  let s := s.setLaneSt p { l with
    swaps := []
    missing := l.missing.map fun (m : Missing) => { m with adding := false, acked := true, retry := false }
    due := (l.due.filter fun o => !(swaps ++ asks).any fun x => x.lane == o.lane && x.act == o.act) ++ swaps ++ asks
    rxWait := [] }
  visits.foldl (fun s w => (s.assign p .rx w.lane noSeat).visitMoved (seatKey p .rx w.seat) false) s

/-! ## WAIT and DOWN (Table 9.6) -/

/-- A port enters WAIT, with RESET in so many CTRL shells first. -/
def State.toWait (s : State) (p resets : Nat) : State :=
  let s := s.laneOpsLost p
  let s := s.returnPages .rxs (s.link p).rxReserved
  let s := s.setLink p { s.link p with rxReserved := 0 }
  ((s.clearControl p resets).linkTo p 1).leaveFailed (s.bankOf p)

/-- Training fails (Table 9.6, Table 9.7), and Cross spares the bank of a port without seats (R395). -/
def State.linkFail (s : State) (p reason : Nat) : State :=
  let s := (s.wr (Reg.LNK.STAT_REASON p) reason).raise1 ⟨Err.LNK.TRAIN_FAIL p, s.linkInfo p noLane reason, (s.link p).oldest⟩
  let s := s.returnPages .rxs (s.link p).rxReserved
  let s := s.setLink p { s.link p with rxReserved := 0 }
  let s := (s.clearControl p 0).linkTo p 7
  if reason = 9 then s.autoCross p else s

/-- A port stops receiving a fan (R384): its space is freed. -/
def State.leaveFanRx (s : State) (p : Nat) : State :=
  let n := fanRx p
  let s := s.returnPages .rxs (s.link n).rxReserved
  let s := s.setLink n { s.link n with rxReserved := 0, partialBytes := [] }
  ((s.wr (Reg.LNK.STAT_FAN_ROLE p) 0).wr (Reg.LNK.FAN_STAT_GROUP p) 0).wr (Reg.LNK.FAN_STAT_MEMBERS p) 0

/-- The rounds of which a port carries an image or a result fail (R420). -/
def State.failRounds (s : State) (p : Nat) : State :=
  ((s.runs.rounds.filter fun r => r.ports.contains p).map (·.round)).foldl (fun s r => s.failRound r 1 stLinkDown p) s

/-- The actions of R307 on one port, and DOWN, or OFF with DISABLE = 1. -/
def State.takeDownOne (s : State) (p : Nat) (f : LinkFault) : State :=
  let narrowTx := decide (widthOf (s.laneSt p).txMap < (s.link p).minLanes)
  let s := s.raiseAt f.stamp ⟨Err.LNK.LINK_DOWN p, f.info0, f.info1⟩
  let s := ((s.wr (Reg.LNK.STAT_REASON p) f.reason).bump (Reg.LNK.LINK_CNT_DOWN p)).laneOpsLost p
  let s := ((s.endWork p stLinkDown p).endHeld p stLinkDown p).failRounds p
  let s := (s.setFetches p []).clearStream p
  let s := if s.returnsFan p then (s.clearStream (fanRx p)).leaveFanRx p else s
  let can := s.synLocked (s.bankOf p) && !s.lentBank (s.bankOf p)
  let s := s.clearControl p (if can then 16 else 0)
  let s := s.linkTo p (if s.flag (Reg.LNK.CTRL_DISABLE p) then 0 else 7)
  if f.reason = 8 || (f.reason == 4 && narrowTx) then s.autoCross p else s

/-! ## Fans whose members go (R312, R382, R388, R389) -/

/-- A slot in a new state of Table 11.9. -/
def State.fanTo (s : State) (k st : Nat) : State := (s.setFan k { s.fan k with since := s.now }).wr (Reg.FLM.FAN_STAT_STATE k) st

/-- Fan commands with data that a member has not taken complete with LINK_DOWN; what is not begun goes on for the others (R312). -/
def State.memberWork (s : State) (k m : Nat) : State :=
  let n := fanTx k
  let waits := ((s.link m).unanswered.filter fun e => s.cox.jobs.any fun j => j.id == e.2.2 && j.port == n).map (·.2.2)
  let hit := s.cox.jobs.filter fun j => j.port == n && ((0 < j.pos && j.queued) || waits.contains j.id)
  let src := s.rd (Reg.FLM.FAN_CFG_SOURCE k)
  let s := s.setLink m { s.link m with unanswered := (s.link m).unanswered.filter fun e => !waits.contains e.2.2 }
  let s := ((hit.map (·.cmd)).dedup).foldl (fun s id => (s.cancelJobs id).complete id stLinkDown src) s
  waits.foldl (fun s id => s.answered id 0 0) s

/-- A member leaves a slot (R312). -/
def State.dropMember (s : State) (k m reason : Nat) : State :=
  let s := (s.memberWork k m).wrBit (Reg.FLM.FAN_STAT_MEMBERS k) m false
  s.raise1 ⟨Err.LNK.FAN_MEMBER_LOST m, s.linkInfo m noLane reason, (s.link (fanTx k)).oldest⟩

/-- A slot is IDLE with a result: fan commands still open or held complete with LINK_DOWN and the source's port, and a RETRAIN that waited for
its members acts (R388 to R390). -/
def State.fanIdle (s : State) (k result : Nat) : State :=
  let ports := setBits 16 (s.rd (Reg.FLM.FAN_CFG_MASK k))
  let src := s.rd (Reg.FLM.FAN_CFG_SOURCE k)
  let s := (s.endWork (fanTx k) stLinkDown src).endHeld (fanTx k) stLinkDown src
  let s := (s.clearStream (fanTx k)).setFan k FanSlot.reset
  let s := ((s.wr (Reg.FLM.FAN_STAT_STATE k) 0).wr (Reg.FLM.FAN_STAT_RESULT k) result).wr (Reg.FLM.FAN_STAT_MEMBERS k) 0
  ports.foldl (fun s p =>
    if s.flag (Reg.LNK.CTRL_RETRAIN p) then
      let s := s.wr (Reg.LNK.CTRL_RETRAIN p) 0
      if s.linkState p == 7 && !s.flag (Reg.LNK.CTRL_DISABLE p) then s.toWait p 0 else s
    else s) s

/-- Once every member has answered FAN_EXIT, the fibres go back to the base map by a change (R388); after a rolled-back entry the slot is
IDLE (R382). -/
def State.fanExitCheck (s : State) (k : Nat) : State :=
  if s.fanState k == 6 && (s.fan k).accepted.isEmpty && !s.flm.changes.any (fun c => c.kind == .fanExit k) then
    if (s.fan k).asked then s.askChange (.fanExit k) s.flm.map (setBits 16 (s.rd (Reg.FLM.FAN_CFG_MASK k)))
    else s.fanIdle k (s.fan k).endResult
  else s

/-- A handshake whose members have all answered, one of them by a refusal (R382): FAN_EXIT to those that accepted, and IDLE. -/
def State.fanJudge (s : State) (k : Nat) : State :=
  let x := s.fan k
  if s.fanState k == 2 && !x.refused.isEmpty &&
      (s.fanMembers k).all fun m => x.accepted.contains m || x.refused.contains m then
    (x.accepted.foldl (fun s m => s.queueOp m 0x31 (s.rd (Reg.FLM.FAN_CFG_ID k)) (noCause .peer)) s).fanIdle k 7
  else s

/-- A slot's fibres go back to the base map by a change, with a result at its end (R388, R389). -/
def State.fanLeave (s : State) (k result : Nat) : State :=
  let members := s.fanMembers k
  let s := s.fanTo k 6
  let s := s.setFan k { s.fan k with endResult := result, asked := true, accepted := members }
  let src := s.rd (Reg.FLM.FAN_CFG_SOURCE k)
  if members.isEmpty then s.fanExitCheck k
  else s.queueOp src 0x31 (s.rd (Reg.FLM.FAN_CFG_ID k)) (noCause .peer)

/-- What the loss of a member's link, or of the source's, does to its slot; other members that go with the source are taken down too. -/
def State.fanPortDown (s : State) (k p : Nat) (f : LinkFault) : State :=
  let st := s.fanState k
  let x := s.fan k
  if st = 1 ∨ st = 2 then
    ((s.setFan k { x with refused := x.refused ++ [p], accepted := x.accepted.filter (· != p) }).wrBit (Reg.FLM.FAN_REFUSE k) p
      true).fanJudge k
  else if st == 6 then
    let left := if p = s.rd (Reg.FLM.FAN_CFG_SOURCE k) then [] else x.accepted.filter (· != p)
    ((s.setFan k { x with accepted := left }).wrBit (Reg.FLM.FAN_STAT_MEMBERS k) p false).fanExitCheck k
  else if !(s.fanMembers k).contains p then s
  else if p = s.rd (Reg.FLM.FAN_CFG_SOURCE k) then
    let s := (s.fanMembers k).foldl (fun s m =>
      let s := s.dropMember k m f.reason
      if s.linkUp m then s.takeDownOne m { f with info0 := s.linkInfo m noLane f.reason, info1 := (s.link m).oldest } else s) s
    let s := (s.endWork (fanTx k) stLinkDown p).endHeld (fanTx k) stLinkDown p
    let s := (s.clearStream (fanTx k)).raise1 ⟨Err.FLM.FAN_ABORT, flmInfo 0xFF 0xFF k 10, 0⟩
    s.fanLeave k 10
  else
    let s := s.dropMember k p f.reason
    if (s.fanMembers k).isEmpty then s.fanLeave k 9 else s

/-- A link goes down (R307), and with it its place in a fan (R312, R389). -/
def State.takeDown (s : State) (p : Nat) (f : LinkFault) : State :=
  let slot := s.slotOfFibre p
  let s := s.takeDownOne p f
  match slot with
  | .none => s
  | some k => s.fanPortDown k p f

end Sys2Proof.Machine
end

