-- ==== Sys2Proof/Machine/Shells.lean ====
section
/-! DEFINITION. Shells received and sent (R274 to R295, R310, R311, R346), replay and its limits (R291, R293, R312), and operations repeated or not
answered (R280, R281). -/

namespace Sys2Proof.Machine

/-! ## The message stream (R283, R284, R286) -/

/-- Message KINDs that are not reserved (Tables 9.4, 10.6 and 12.7). -/
def msgKinds : List Nat := [0, 1, 2, 3, 4, 5, 0x10, 0x11]

/-- A message header that R286 excludes: a reserved KIND, a reserved bit, or LEN above its class's limit. A PAD is no message of its class. -/
def badHeader (w : Nat) : Bool :=
  let len := bits w 19 8
  !msgKinds.contains (bits w 27 22) || bits w 7 2 != 0 || decide (2048 < len) ||
    (bits w 27 22 != 0 && bits w 21 20 == 0 && decide (64 < len))

/-- A message from its header and the bytes behind it (Table 9.4). -/
def readMsg (w : Nat) (bs : List Byte) : Msg :=
  { kind := bits w 27 22, tc := bits w 21 20, tag := BitVec.ofNat 16 (bits w 43 28), src := BitVec.ofNat 12 (bits w 55 44),
    epoch := BitVec.ofNat 8 (bits w 63 56), poison := bitAt w 1, last := bitAt w 0, data := (bs.drop 8).take (bits w 19 8) }

/-- What a stretch of the message stream holds: whole messages, the offsets at which headers begin, the bytes of a message that goes on, and
whether a header was bad. -/
structure Parsed where
  msgs : List Msg
  heads : List Nat
  rest : List Byte
  bad : Bool
  deriving DecidableEq, Repr

/-- A stretch of the message stream taken apart from an offset on (R283). -/
def parseStream : Nat → Nat → List Byte → Parsed
  | 0, _, bs => ⟨[], [], bs, false⟩
  | fuel + 1, at_, bs =>
    if bs.isEmpty then ⟨[], [], [], false⟩
    else if bs.length < 8 then ⟨[], [at_], bs, false⟩
    else
      let w := ofBytes (bs.take 8)
      let size := msgSize (bits w 19 8)
      if badHeader w then ⟨[], [at_], [], true⟩
      else if bs.length < size then ⟨[], [at_], bs, false⟩
      else
        let r := parseStream fuel (at_ + size) (bs.drop size)
        ⟨readMsg w bs :: r.msgs, at_ :: r.heads, r.rest, r.bad⟩

/-! ## Receiving (R286, R288, R289, R294, R310, R311) -/

/-- What the lane decoders report of a shell (Table 9.11, LANE_FEC). -/
def State.laneFec (s : State) (p : Nat) (lanes : List (Option Nat)) : State :=
  ((activeLanes (s.laneSt p).rxMap).zip lanes).foldl (fun s x =>
    match x.2 with
    | .none => s.bump (Reg.LNK.LANE_FEC_UNCORR p x.1)
    | some n => s.addTo (Reg.LNK.LANE_FEC_CORR_SYM p x.1) n) s

/-- Whether every codeword of a shell decoded and its CRC matches (R288). -/
def shellGood (h : ShellHdr) : Bool := h.crcOk && h.lanes.all (·.isSome)

/-- Whether the block of a CTRL or TRAIN shell passes on some lane (R278). -/
def blockGood (h : ShellHdr) : Bool := h.crcOk && h.lanes.any (·.isSome)

/-- Whether a good shell's header has a malformed field (Table 9.8): a reserved bit, or, for a shell striped over the lanes, a WIDTH that is not that of the
receive lane map (log entry 193). -/
def State.malformedHdr (s : State) (p : Nat) (h : ShellHdr) : Bool :=
  h.reservedSet || (h.kind.toNat < 2 && h.width.toNat + 1 != widthOf (s.laneSt p).rxMap)

/-- The lane of a shell's first codeword that did not decode, if any. -/
def State.badLane (s : State) (p : Nat) (h : ShellHdr) : Nat :=
  (((activeLanes (s.laneSt p).rxMap).zip h.lanes).find? (·.2.isNone)).elim noLane (·.1)

/-- Credits returned for a class taken from a shell or a word (R295). -/
def State.takeCredit (s : State) (n c hdr data : Nat) : State :=
  let l := s.link n
  s.setLink n { l with backHdr := setAt l.backHdr c hdr, backData := setAt l.backData c data }

/-- The slot, lit and not IDLE, of whose members a port is one. -/
def State.litSlot (s : State) (p : Nat) : Option Nat :=
  match s.slotOfFibre p with
  | .none => .none
  | some k => if s.fanLit k then some k else .none

/-- ACK and credits of a shell taken (R288, R310): of the port's link, or of the fan its sender receives; a fan's own shells carry none
(R385). -/
def State.takeHeader (s : State) (p : Nat) (h : ShellHdr) : State :=
  let c := h.crTc.toNat
  if h.fan then
    if s.returnsFan p then s
    else match s.litSlot p with
      | .none => s
      | some k =>
        let s := s.fanAck k p h.ack
        let x := s.fan k
        let old := Tab.read [] x.backs p
        let b := (List.range 8).map fun i => old.getD i 0
        s.setFan k { x with backs := Tab.write [] x.backs p (setAt (setAt b (2 * c) h.crHdr.toNat) (2 * c + 1) h.crData.toNat) }
  else (s.retire p h.ack).takeCredit p c h.crHdr.toNat h.crData.toNat

/-- FAN_ACK and FAN_CRED words for a port whose fibre carries a fan, put in line on the fan's source port (R311). -/
def State.fanWords (s : State) (p : Nat) : State :=
  match s.litSlot p with
  | .none => s
  | some k =>
    let l := s.link p
    s.queueWords (s.rd (Reg.FLM.FAN_CFG_SOURCE k)) (ctrlWord 0x38 0 (p + l.ackSent.toNat * 2 ^ 4) ::
      (List.range 4).map fun c => ctrlWord 0x39 0 (p + c * 2 ^ 4 + l.freedHdr.getD c 0 * 2 ^ 6 + l.freedData.getD c 0 * 2 ^ 22))

/-- An acknowledgement point of a stream (R289). -/
def State.ackPoint (s : State) (n : Nat) : State :=
  let l := s.link n
  let s := s.setLink n { l with ackSent := l.rxNext - 1, ackPending := 0 }
  if n < 16 then s.fanWords n else s

/-- A DATA shell in sequence: counted, its messages taken from the stream, and the end of a pause of the peer (R288, R289, R302). -/
def State.acceptShell (s : State) (p n : Nat) (h : ShellHdr) (body : List Byte) : State :=
  let l := s.link n
  let have_ := l.partialBytes.length
  let r := parseStream (body.length / 8 + 4) 0 (l.partialBytes ++ body)
  let heads := (r.heads.filter (have_ ≤ ·)).map (· - have_)
  let bad := r.bad || heads.length != h.msgCount || heads.headD 0xFFF != h.first
  let s := s.setLink n { l with
    rxNext := l.rxNext + 1, ackPending := l.ackPending + 1, ackFirst := if l.ackPending = 0 then s.absCycle else l.ackFirst,
    partialBytes := r.rest, rxMsgs := l.rxMsgs ++ r.msgs.filter (·.kind != 0) }
  let s := if 32 ≤ (s.link n).ackPending then s.ackPoint n else s
  let s := if bitAt (s.rd (Reg.LNK.STAT_PAUSE p)) 2 then s.peerResumes p else s
  if bad then s.linkFault p 5 noLane (s.link n).rxNext.toNat else s

/-- A DATA shell discarded (Table 9.9). -/
def State.shellBad (s : State) (p n lane : Nat) : State :=
  (s.bump (Reg.LNK.SHELL_BAD_CNT p)).raise1 ⟨Err.LNK.SHELL_BAD p, s.linkInfo p lane 0, (s.link n).rxNext.toNat⟩

/-- Shells of a kind other than TRAIN end a run of TRAIN shells (Table 9.8). -/
def State.endTrainRun (s : State) (p : Nat) : State := s.setLink p { s.link p with trainRx := 0 }

/-- A DATA shell on a running link (R286, R288). -/
def State.takeDataShell (s : State) (p : Nat) (h : ShellHdr) (body : List Byte) : State :=
  let s := (s.laneFec p h.lanes).endTrainRun p
  let n := if h.fan then s.rxStream p else p
  if !shellGood h then s.shellBad p n (s.badLane p h)
  else
    let s := s.takeHeader p h
    let s := if s.malformedHdr p h then s.linkFault p 5 noLane (s.link n).rxNext.toNat else s
    if h.seq = (s.link n).rxNext then s.acceptShell p n h body else s.shellBad p n noLane

/-- DATA_SHELL (R288). -/
def execDataShell (p : Fin 16) (h : ShellHdr) (body : List Byte) (s : State) : Host.Outcome State Fault Refusal :=
  .next (if s.running && s.linkUp p.val then (s.takeDataShell p.val h body).settle else s)

/-- The header of a shell without messages on a running link (R288): ACK and credits, and its malformed fields. -/
def State.takeBare (s : State) (p : Nat) (h : ShellHdr) : State :=
  let s := s.takeHeader p h
  if s.malformedHdr p h || h.msgCount != 0 then s.linkFault p 5 noLane (s.link p).rxNext.toNat else s

/-- A NULL shell, which passes with every codeword, or the header of a CTRL shell, which passes with one (R278, R282, R288): a dark slot is nothing at
all. -/
def State.takeNullShell (s : State) (p : Nat) (h : ShellHdr) : State :=
  let s := (s.laneFec p h.lanes).endTrainRun p
  if if h.kind = 2 then blockGood h else shellGood h then s.takeBare p h else s

/-- NULL_SHELL (R282). -/
def execNullShell (p : Fin 16) (h : ShellHdr) (dark : Bool) (s : State) : Host.Outcome State Fault Refusal :=
  .next (if s.running && s.linkUp p.val && !dark then (s.takeNullShell p.val h).settle else s)

/-- ACK_POINT (R289): 120 control cycles after the first shell accepted since the last point. -/
def execAckPoint (p : Fin 16) (s : State) : Host.Outcome State Fault Refusal :=
  .next (
    [p.val, fanRx p.val].foldl (fun s n =>
      let l := s.link n
      if s.running && decide (0 < l.ackPending) && (decide (32 ≤ l.ackPending) || decide (l.ackFirst + 120 ≤ s.absCycle)) then s.ackPoint n
      else s) s)

/-! ## Sending (R277 to R280, R284, R301, R303, R307, R346) -/

/-- A silent slot of a port's transmitter, which its scramblers count like any other (R271). -/
def State.sendNothing (s : State) (p : Nat) : State :=
  let l := s.link p
  s.setLink p { l with sent := .none, slots := l.slots + 1, onLines := ⟨l.slots, s.flag (Reg.LNK.STAT_FEC p), []⟩ }

/-- A CTRL shell with one more word, of those sent in so many consecutive shells. -/
def State.sendExtra (s : State) (p n op arg : Nat) : State := (s.queueWords p [ctrlWord op 0 arg]).sendCtrl n

/-- A shell of a running link (R280, R301, R346): PAUSE shells, silence in a pause, a CTRL shell where words or operations are due, or
receive-seat states have changed, or messages. -/
def State.sendRunning (s : State) (p n : Nat) : State :=
  let l := s.link p
  if 0 < l.pauseLeft then
    let s := s.sendExtra p n 0x20 l.pauseWhy
    let s := s.setLink p { s.link p with pauseLeft := l.pauseLeft - 1 }
    if l.pauseLeft = 1 then s.relockAfterPause p else s
  else if s.ownPaused p || !s.synLocked (s.bankOf p) then s.sendNothing p
  else if !l.words.isEmpty || l.ops.any opDue || s.newsDue p then s.sendCtrl n
  else s.sendData n

/-- The shell a port sends at a boundary, where swaps that are answered end, by its link's state: TRAIN shells in training, RESET words after DRAIN or a link-down. -/
def State.sendNext (s : State) (p : Nat) : State :=
  let s := s.swapsEnd p
  let l := s.link p
  let lit := s.synLocked (s.bankOf p)
  match s.linkState p with
  | 2 | 3 | 5 =>
    if lit then
      let s := s.sendWords p 3
      s.setLink p { s.link p with trainTx := (s.link p).trainTx + 1 }
    else s.sendNothing p
  | 6 | 8 =>
    match s.txStream p with
    | .none => s.sendNothing p
    | some n => s.sendRunning p n
  | _ =>
    if 0 < l.resetLeft && lit then
      let s := s.sendExtra p p 0x2A 0
      s.setLink p { s.link p with resetLeft := l.resetLeft - 1 }
    else s.sendNothing p

/-- SHELL_BOUNDARY (R346). -/
def execShellBoundary (p : Fin 16) (s : State) : Host.Outcome State Fault Refusal :=
  .next (if s.running && !s.safe then (s.sendNext p.val).settle else s)

/-- OP_REPEAT (R280): a CTRL shell, or TRAIN shell in training, for an operation whose last copy then lies 8 shells back. -/
def execOpRepeat (p : Fin 16) (s : State) : Host.Outcome State Fault Refusal :=
  .next (if s.running && !s.safe && (s.link p.val).ops.any (fun o => o.sent && opDue o) then (s.sendNext p.val).settle else s)

/-! ## Replay (R291, R293, R312) -/

/-- Whether a stream's replay timer has run out. -/
def State.replayDue (s : State) (n : Nat) : Bool :=
  let l := s.link n
  let p := s.streamPort n
  s.linkUp p && !l.replay.isEmpty && (s.link p).frozenAt.isNone && decide (l.timer + s.rd (Reg.LNK.TIMEOUT p) ≤ s.absCycle)

/-- Members of a fan that have not acknowledged everything, and are not pausing, counted one expiry further (R312). -/
def State.countExpiries (s : State) (k : Nat) : State :=
  let x := s.fan k
  let late := (s.fanMembers k).filter fun m =>
    Tab.read 0xFFFFFF x.acks m != (s.link (fanTx k)).txNext - 1 && !bitAt (s.rd (Reg.LNK.STAT_PAUSE m)) 2
  s.setFan k { x with expiries := late.foldl (fun t m => Tab.write 0 t m (Tab.read 0 t m + 1)) x.expiries }

/-- A replay timer's expiry (R291): everything unacknowledged is sent again. -/
def State.replayExpires (s : State) (n : Nat) : State :=
  let l := s.link n
  let p := s.streamPort n
  let s := if 16 ≤ n then s.countExpiries (n - 16) else s
  let s := s.setLink n { l.replayAll with expiries := l.expiries + 1, timer := s.absCycle }
  (s.raise1 ⟨Err.LNK.REPLAY p, s.linkInfo p noLane 0, l.oldest⟩).bump (Reg.LNK.REPLAY_CNT p)

/-- SHELL_REPLAY_TIMEOUT (R291), of a port's link and of the fans it is the source of. -/
def execShellReplayTimeout (p : Fin 16) (s : State) : Host.Outcome State Fault Refusal :=
  .next (
    if s.running then
      (p.val :: (s.fansFrom p.val).map fanTx).foldl (fun s n => if s.replayDue n then s.replayExpires n else s) s
    else s)

/-- LINK_NO_PROGRESS (R293). -/
def execLinkNoProgress (p : Fin 16) (s : State) : Host.Outcome State Fault Refusal :=
  .next (if s.running && decide (8 ≤ (s.link p.val).expiries) then s.linkFault p.val 1 noLane (s.link p.val).oldest else s)

/-- FAN_MEMBER_LOST (R312): a member without progress over 8 expiries, detected now and removed at the next cycle 0 as its link goes down. -/
def execFanMemberLost (k : Fin 8) (p : Fin 16) (s : State) : Host.Outcome State Fault Refusal :=
  .next (
    if s.running && (s.fanMembers k.val).contains p.val && s.fanState k.val != 0 then
      match (s.link p.val).down with
      | some f => if s.clk.cycle == 0 && decide (f.at_ < s.now) && s.linkUp p.val then (s.takeDown p.val f).settle else s
      | .none =>
        if 8 ≤ Tab.read 0 (s.fan k.val).expiries p.val then s.linkFault p.val 1 noLane (s.link (fanTx k.val)).oldest else s
    else s)

/-- CTRL_TIMEOUT (R281): 16 strokes after an operation's first copy. -/
def execCtrlTimeout (p : Fin 16) (s : State) : Host.Outcome State Fault Refusal :=
  .next (
    let l := s.link p.val
    if s.running && l.frozenAt.isNone && l.ops.any (fun o => o.sent && decide (o.first + 16 * 1280 ≤ s.absCycle)) then
      s.linkFault p.val 6 noLane l.oldest
    else s)

end Sys2Proof.Machine
end

