-- ==== Sys2Proof/Machine/Train.lean ====
section
/-! DEFINITION. Control words received (R280, R294 to R300, R302, R305, R306, R311, R384, R386), training (R303 to R305), the end of a link
(R306, R307), the port's control register, and the synthesiser's rows (R158, R159). -/

namespace Sys2Proof.Machine

/-! ## Words and their answers (R280) -/

/-- Whether a port takes control words: in training from ALIGN on, and while its link runs. -/
def State.takesWords (s : State) (p : Nat) : Bool :=
  s.running && (s.linkUp p || s.linkState p == 2 || s.linkState p == 3 || s.linkState p == 5)

/-- An answered operation received (R280): acted on once, and answered at every copy. -/
def State.onOp (s : State) (p op tag : Nat) (act : State → Bool × State) : State :=
  match (s.link p).answered.find? fun a => a.1 == op && a.2.1 == tag with
  | some a => s.respond p op tag a.2.2
  | .none =>
    let r := act s
    let l := r.2.link p
    let all := l.answered ++ [(op, tag, r.1)]
    (r.2.setLink p { l with answered := all.drop (all.length - 15) }).respond p op tag r.1

/-- A malformed field of a word (Table 9.8, PROTOCOL). -/
def State.malformed (s : State) (p : Nat) : State := s.linkFault p 5 noLane (s.link p).rxNext.toNat

/-! ## PARAM (R294, R305) -/

/-- The PARAM words of a port (Table 9.3): its own, each answered under R280, with the lane map that R495 has made; what they advertise is what it
reserves and agrees on (R294, R305). -/
def State.sendParams (s : State) (p : Nat) : State :=
  let own := s.rd (Reg.LNK.CTRL_MAX_RATE p) + s.rd (Reg.LNK.CTRL_FEC_OFF p) * 2 ^ 2 + s.rd (Reg.LNK.LINK_CFG p) * 2 ^ 3 + p * 2 ^ 8 +
    s.rd Reg.GLB.STRAPS_POSITION * 2 ^ 12 + s.fuses.serial.toNat % 2 ^ 32 * 2 ^ 16
  let map := (s.laneSt p).nextMap.getD (s.laneSt p).txMap
  let half := fun (h : Nat) => h * 2 ^ 40 + ((List.range 8).map fun j => map.getD (8 * h + j) noSeat * 2 ^ (5 * j)).sum
  let cred := fun (c : Nat) => c * 2 ^ 40 + s.rd (Reg.LNK.CRED_ADV_HDR p c) * 2 ^ 24 + s.rd (Reg.LNK.CRED_ADV_DATA p c)
  let words := [(0x01, own), (0x02, half 0), (0x02, half 1), (0x03, cred 0), (0x03, cred 1), (0x03, cred 2), (0x03, cred 3)]
  let s := words.foldl (fun s w => s.queueOp p w.1 w.2 (noCause .peer)) s
  s.setLink p { s.link p with
    paramsSent := true, ownRate := bits own 1 0, ownFecOff := bitAt own 2, ownMin := bits own 7 3, advData := (List.range 3).map fun c => s.rd (Reg.LNK.CRED_ADV_DATA p (c + 1)) }

/-- RXS pages for so many 64-byte units of receive space (R294). -/
def pagesFor (units : Nat) : Nat := (units * 64 + 4095) / 4096

/-- RXS pages for the receive space of TC1 to TC3 that CRED_ADV asks for now, of which a fan's is taken (R384). -/
def State.rxPages (s : State) (p : Nat) : Nat := pagesFor ((List.range 3).map fun c => s.rd (Reg.LNK.CRED_ADV_DATA p (c + 1))).sum

/-- The agreed rate (R305): codes rise as rates fall. -/
def State.agreedRate (s : State) (p : Nat) : Nat := max (s.link p).ownRate (s.link p).peerRate

/-- VERIFY with the receive space advertised, at the agreed maps (R294, R305), or NO_BUFFER. -/
def State.toVerify (s : State) (p : Nat) : State :=
  let n := pagesFor (s.link p).advData.sum
  match s.allocate .rxs n with
  | (false, t) => t.linkFail p 12
  | (true, t) =>
    let l := t.link p
    let t := t.setLink p { l with rxReserved := n, minLanes := max l.ownMin l.peerMin }
    let t := t.setLaneSt p { t.laneSt p with rxMap := l.peerMap }
    let t := t.wrB (Reg.LNK.STAT_FEC p) (!(l.ownFecOff && l.peerFecOff))
    t.linkTo p 5

/-- Whether a lane map puts two lanes on one seat (R156). -/
def mapClashes (m : List Nat) : Bool :=
  let used := m.filter (· < 18)
  used.length != used.dedup.length

/-- PARAM ends once both ends have every PARAM word answered (Table 9.6): at the agreed rate, or by a relock to it. While the synthesiser is FAILED
no relock begins (R159). -/
def State.paramCheck (s : State) (p : Nat) : State :=
  let l := s.link p
  let open_ := l.ops.any fun o => o.op == 1 || o.op == 2 || o.op == 3
  if s.linkState p != 3 || !l.paramsSent || open_ || l.peerParams != 127 then s
  else if mapClashes l.peerMap then s.linkFail p 11
  else if s.rd (Reg.OPT.STAT_SYN (s.bankOf p)) = 3 then s
  else
    let rate := s.agreedRate p
    let b := s.bankOf p
    let s := s.wr (Reg.LNK.STAT_RATE p) rate
    if s.rd (Reg.OPT.STAT_RATE b) = rate ∧ s.synLocked b = true then s.toVerify p else (s.linkTo p 4).setRate b rate

/-- A PARAM word of the peer (R305): in training it is acted on once and answered; a reserved value fails training. -/
def State.onParam (s : State) (p op tag mark : Nat) (ok : Bool) (act : State → State) : State :=
  if !s.takesWords p then s
  else if s.linkState p == 2 || s.linkState p == 3 then
    if !ok then s.linkFail p 11
    else
      (s.onOp p op tag fun t =>
        let t := act t
        (false, t.setLink p { t.link p with peerParams := setBit (t.link p).peerParams mark })).paramCheck p
  else
    match (s.link p).answered.find? fun a => a.1 == op && a.2.1 == tag with
    | some a => s.respond p op tag a.2.2
    | .none => s

/-- PARAM0 (R305). -/
def execParam0 (p : Fin 16) (tag : BitVec 4) (arg : BitVec 48) (s : State) : Host.Outcome State Fault Refusal :=
  .next (
    let a := arg.toNat
    let min_ := bits a 7 3
    s.onParam p.val 0x01 tag.toNat 0 (bits a 1 0 != 3 && decide (1 ≤ min_) && decide (min_ ≤ 16)) fun t =>
      let t := t.setLink p.val { t.link p.val with peerRate := bits a 1 0, peerFecOff := bitAt a 2, peerMin := min_ }
      let t := (t.wr (Reg.LNK.PEER_ID p.val) (bits a 47 16)).wr (Reg.LNK.PEER_INFO_VALID p.val) 1
      (t.wr (Reg.LNK.PEER_INFO_POSITION p.val) (bits a 13 12)).wr (Reg.LNK.PEER_INFO_PORT p.val) (bits a 11 8))

/-- PARAM_MAP (R305). -/
def execParamMap (p : Fin 16) (tag : BitVec 4) (arg : BitVec 48) (s : State) : Host.Outcome State Fault Refusal :=
  .next (
    let a := arg.toNat
    let half := bits a 40 40
    let seats := (List.range 8).map fun j => bits a (5 * j + 4) (5 * j)
    s.onParam p.val 0x02 tag.toNat (1 + half) (bits a 47 41 == 0 && seats.all fun k => k == noSeat || decide (k < 18)) fun t =>
      let l := t.link p.val
      let m := (List.range 16).map fun i => if i / 8 = half then seats.getD (i % 8) noSeat else l.peerMap.getD i noSeat
      t.setLink p.val { l with peerMap := m })

/-- PARAM_CRED (R294). -/
def execParamCred (p : Fin 16) (tag : BitVec 4) (arg : BitVec 48) (s : State) : Host.Outcome State Fault Refusal :=
  .next (
    let a := arg.toNat
    let c := bits a 41 40
    let hdr := bits a 39 24
    let data := bits a 23 0
    let most := if c = 0 then (256, 256) else (4095, 1048575)
    let ok := bits a 47 42 == 0 && decide (1 ≤ hdr) && decide (hdr ≤ most.1) && decide (1 ≤ data) && decide (data ≤ most.2)
    s.onParam p.val 0x03 tag.toNat (3 + c) ok fun t => t.wr (Reg.LNK.CRED_PEER p.val c) (hdr * 2 ^ 20 + data))

/-! ## Width changes received (R296 to R299) -/

/-- Whether a receive line is a free spare (R193). -/
def State.rxFree (s : State) (p line : Nat) : Bool :=
  decide (line < 18) && (s.seat (seatKey p .rx line)).state == .hotSpare && (s.seat (seatKey p .rx line)).next.isNone &&
    (laneOn (s.laneSt p).rxMap line).isNone

/-- A receive lane that waited on the peer has moved to another line, or been dropped (R197, R496). -/
def State.peerMoved (s : State) (p lane : Nat) (dropped : Bool) : State :=
  let l := s.laneSt p
  match l.rxWait.find? (·.lane == lane) with
  | .none => s
  | some w =>
    let gone := s.setLaneSt p { l with rxWait := l.rxWait.filter (·.lane != lane) }
    if w.cause.why = .visit then gone.visitMoved (seatKey p .rx w.seat) dropped
    else if dropped && !w.swap then
      s.setLaneSt p { l with rxWait := l.rxWait.map fun x => if x.lane = lane then { x with droppedAt := some s.now } else x }
    else gone.outcome p w.cause (!dropped)

/-- A word that names a lane, on a running link: a lane that does not exist is malformed. -/
def State.onLane (s : State) (p : Nat) (arg : BitVec 48) (f : State → Nat → Nat → State) : State :=
  if !(s.running && s.linkUp p) then s
  else if 16 ≤ bits arg.toNat 4 0 then s.malformed p
  else f s (bits arg.toNat 4 0) (bits arg.toNat 12 8)

/-- LANE_DROP (R296). -/
def execLaneDrop (p : Fin 16) (tag : BitVec 4) (arg : BitVec 48) (s : State) : Host.Outcome State Fault Refusal :=
  .next (s.onLane p.val arg fun s lane _ =>
    s.onOp p.val 0x10 tag.toNat fun t => (false, ((t.peerMoved p.val lane true).assign p.val .rx lane noSeat).checkNarrow p.val))

/-- LANE_ADD (R296, R300). -/
def execLaneAdd (p : Fin 16) (tag : BitVec 4) (arg : BitVec 48) (s : State) : Host.Outcome State Fault Refusal :=
  .next (s.onLane p.val arg fun s lane line =>
    s.onOp p.val 0x11 tag.toNat fun t =>
      if t.rxFree p.val line then (false, (t.assign p.val .rx lane line).peerMoved p.val lane false) else (true, t))

/-- LANE_SWAP (R298, R300). -/
def execLaneSwap (p : Fin 16) (tag : BitVec 4) (arg : BitVec 48) (s : State) : Host.Outcome State Fault Refusal :=
  .next (s.onLane p.val arg fun s lane line =>
    s.onOp p.val 0x12 tag.toNat fun t =>
      if t.rxFree p.val line then (false, (t.peerMoved p.val lane false).assign p.val .rx lane line) else (true, t))

/-- The port that moves the lanes of a port's transmitter: the source, while its fibre carries a fan (R386). -/
def State.lanePort (s : State) (p : Nat) : Nat :=
  match s.litSlot p with
  | .none => p
  | some k => s.rd (Reg.FLM.FAN_CFG_SOURCE k)

/-- A peer's request for a transmit lane, carried out at the next Finish (R299); one already on its way is not repeated (Table 9.10). -/
def State.peerAsks (s : State) (p lane : Nat) (act : LaneAct) : State :=
  let q := s.lanePort p
  if (s.laneSt q).due.any fun o => o.lane == lane && (o.act == act || o.act == .drop) then s
  else s.laneDue q ⟨lane, act, noCause .peer⟩

/-- DROP_REQ (R299, R386). -/
def execDropReq (p : Fin 16) (tag : BitVec 4) (arg : BitVec 48) (s : State) : Host.Outcome State Fault Refusal :=
  .next (s.onLane p.val arg fun s lane _ => s.onOp p.val 0x13 tag.toNat fun t => (false, t.peerAsks p.val lane .drop))

/-- SWAP_REQ (R299, R386). -/
def execSwapReq (p : Fin 16) (tag : BitVec 4) (arg : BitVec 48) (s : State) : Host.Outcome State Fault Refusal :=
  .next (s.onLane p.val arg fun s lane _ => s.onOp p.val 0x15 tag.toNat fun t => (false, t.peerAsks p.val lane .move))

/-- RX_SEATS (R193). -/
def execRxSeats (p : Fin 16) (_tag : BitVec 4) (arg : BitVec 48) (s : State) : Host.Outcome State Fault Refusal :=
  .next (if s.takesWords p.val then s.setLaneSt p.val { s.laneSt p.val with peerSpare := BitVec.ofNat 18 arg.toNat } else s)

/-! ## RESPONSE (R297, R298, R300, R382, R386, R388) -/

/-- A line that a peer has refused is no free spare until the peer announces it again. -/
def State.lineRefused (s : State) (p line : Nat) : State :=
  let l := s.laneSt p
  s.setLaneSt p { l with peerSpare := BitVec.ofNat 18 (clearBit l.peerSpare.toNat line) }

/-- LANE_ADD answered (R300): the lane is on its line, or the next Finish tries again, with ADD_RETRY. -/
def State.addAnswered (s : State) (p n lane line : Nat) (c : LaneCause) (e : BitVec 24) (refused : Bool) : State :=
  let l := s.laneSt p
  if refused then
    let s := s.setLaneSt p { l with missing := l.missing.map fun (m : Missing) =>
      if m.lane = lane then { m with adding := false, chosen := some line, retry := true } else m }
    (s.lineRefused p line).reform n e
  else
    let judged := l.missing.any fun m => m.lane == lane && m.judged
    let s := (s.setLaneSt p { l with missing := l.missing.filter (·.lane != lane) }).assign p .tx lane line
    (if judged then s else s.outcome p c true).reform n e

/-- LANE_SWAP answered (R298, R300): one of the lane's two lines stops at the next shell boundary; a refused lane that was not on its way home is
dropped. A lane dropped since does not move. -/
def State.swapAnswered (s : State) (p lane line : Nat) (c : LaneCause) (refused : Bool) : State :=
  let l := s.laneSt p
  let mine := fun (w : LaneSwap) => w.lane == lane && w.line == line && w.ended.isNone
  let ended := s.setLaneSt p { l with swaps := l.swaps.map fun w => if mine w then { w with ended := some (!refused) } else w }
  if !l.swaps.any mine then s
  else if !refused then (if c.why = .withdrawn then ended.outcome p c true else ended)
  else
    let t := ended.lineRefused p line
    if c.why = .restore then t
    else
      let u := t.dropLane p lane c true
      if c.why = .withdrawn then u.outcome p c false else u

/-- FAN_ENTER answered (R382): with every answer in and one refusal, the members that accepted get FAN_EXIT and the slot is IDLE. -/
def State.fanAnswer (s : State) (p : Nat) (refused : Bool) : State :=
  match s.slotOfFibre p with
  | .none => s
  | some k =>
    if s.fanState k != 2 then s
    else
      let x := s.fan k
      let s := if refused then
          (s.setFan k { x with refused := x.refused ++ [p] }).wrBit (Reg.FLM.FAN_REFUSE k) p true
        else s.setFan k { x with accepted := x.accepted ++ [p] }
      s.fanJudge k

/-- An operation answered, by the port whose operation it is, the stream it re-forms, and the answer. -/
def State.opAnswered (s : State) (p n : Nat) (o : CtrlOp) (e : BitVec 24) (refused : Bool) : State :=
  let lane := bits o.arg.toNat 4 0
  let line := bits o.arg.toNat 12 8
  match o.op with
  | 0x10 =>
    let l := s.laneSt p
    (s.setLaneSt p { l with missing := l.missing.map fun (m : Missing) => if m.lane = lane then { m with acked := true } else m }).reform n e
  | 0x11 => s.addAnswered p n lane line o.cause e refused
  | 0x12 => s.swapAnswered p lane line o.cause refused
  | 0x30 => s.fanAnswer p refused
  | _ => s.paramCheck p

/-- The state with an operation of a port answered and gone, and its TAG given to the next that waits for one. -/
def State.dropOp (s : State) (p : Nat) (o : CtrlOp) : State :=
  let l := s.link p
  s.setLink p { l with ops := l.ops.filter fun x => !(x.op == o.op && x.tag == o.tag) }.tagNext

/-- The lowest of the members' next expected SEQs (R386). -/
def lowestSeq (next : BitVec 24) (es : List (BitVec 24)) : BitVec 24 :=
  es.foldl (fun a e => if seqBehind next a < seqBehind next e then e else a) (es.headD next)

/-- A member's answer to an operation on a fan (R386, R388): acted on once every member has answered. -/
def State.fanOpAnswer (s : State) (k m : Nat) (o : CtrlOp) (e : Nat) (refused : Bool) : State :=
  let q := s.rd (Reg.FLM.FAN_CFG_SOURCE k)
  let x := s.fan k
  if o.op = 0x31 then
    let left := x.accepted.filter (· != m)
    let s := s.setFan k { x with accepted := left }
    (if left.isEmpty then s.dropOp q o else s).fanExitCheck k
  else
    let mine := fun (a : Nat × Nat × Nat × Nat × Bool) => a.1 == o.op && a.2.1 == o.tag
    let all := x.answers.filter (fun a => !(mine a && a.2.2.1 == m)) ++ [(o.op, o.tag, m, e, refused)]
    let got := all.filter mine
    if (s.fanMembers k).all fun j => got.any fun a => a.2.2.1 == j then
      let s := (s.setFan k { x with answers := all.filter fun a => !mine a }).dropOp q o
      s.opAnswered q (fanTx k) o (lowestSeq (s.link (fanTx k)).txNext (got.map fun a => BitVec.ofNat 24 a.2.2.2.1))
        (got.any fun a => a.2.2.2.2)
    else s.setFan k { x with answers := all }

/-- A RESPONSE on a port matched with the operation it answers. -/
def State.onResponse (s : State) (p op tag e : Nat) (refused : Bool) : State :=
  let sentOp := fun (q : Nat) => (s.link q).ops.find? fun o => o.op == op && o.tag == tag && o.sent
  match s.litSlot p with
  | some k => match sentOp (s.rd (Reg.FLM.FAN_CFG_SOURCE k)) with
    | .none => s
    | some o => s.fanOpAnswer k p o e refused
  | .none => match sentOp p with
    | .none => s
    | some o =>
      let s := s.dropOp p o
      if o.op = 0x31 then
        match s.slotOfFibre p with
        | .none => s
        | some k => (s.setFan k { s.fan k with accepted := (s.fan k).accepted.filter (· != p) }).fanExitCheck k
      else s.opAnswered p p o (BitVec.ofNat 24 e) refused

/-- RESPONSE (R297). -/
def execResponse (p : Fin 16) (_tag : BitVec 4) (arg : BitVec 48) (s : State) : Host.Outcome State Fault Refusal :=
  .next (
    let a := arg.toNat
    if s.takesWords p.val then (s.onResponse p.val (bits a 7 0) (bits a 11 8) (bits a 39 16) (bitAt a 40)).settle else s)

/-! ## Pauses of the peer (R302) -/

/-- PAUSE (R302). -/
def execPause (p : Fin 16) (_tag : BitVec 4) (_arg : BitVec 48) (s : State) : Host.Outcome State Fault Refusal :=
  .next (
    if s.running && s.linkUp p.val then
      let l := s.link p.val
      let s := s.setLink p.val { l with peerPausedAt := some (l.peerPausedAt.getD s.now) }
      (s.wrBit (Reg.LNK.STAT_PAUSE p.val) 2 true).freeze p.val
    else s)

/-- RESUME (R302). -/
def execResume (p : Fin 16) (_tag : BitVec 4) (_arg : BitVec 48) (s : State) : Host.Outcome State Fault Refusal :=
  .next (if s.running && s.linkUp p.val then s.peerResumes p.val else s)

/-- PAUSE_LONG (R302). -/
def execPauseLong (p : Fin 16) (s : State) : Host.Outcome State Fault Refusal :=
  .next (
    match (s.link p.val).peerPausedAt with
    | .none => s
    | some t =>
      if s.running && decide (t + 64 ≤ s.now) then
        (s.peerResumes p.val).raise1 ⟨Err.LNK.PAUSE_LONG p.val, s.linkInfo p.val noLane 0, (s.link p.val).rxNext.toNat⟩
      else s)

/-! ## DRAIN and RESET (R303, R306) -/

/-- DRAIN ends: RESET in 4 CTRL shells, and WAIT (Table 9.6). -/
def State.drainEnds (s : State) (p : Nat) : State :=
  let l := s.link p
  if s.linkState p == 8 && l.drainedTx && l.drainedRx then s.toWait p 4 else s

/-- DRAIN_REQ (R306). -/
def execDrainReq (p : Fin 16) (tag : BitVec 4) (_arg : BitVec 48) (s : State) : Host.Outcome State Fault Refusal :=
  .next (
    if s.running && s.linkUp p.val then
      s.onOp p.val 0x28 tag.toNat fun t => (false, if t.linkState p.val == 6 then t.linkTo p.val 8 else t)
    else s)

/-- DRAINED (R306). -/
def execDrained (p : Fin 16) (_tag : BitVec 4) (_arg : BitVec 48) (s : State) : Host.Outcome State Fault Refusal :=
  .next (
    if s.running && s.linkUp p.val then (s.setLink p.val { s.link p.val with drainedRx := true }).drainEnds p.val else s)

/-- Whether a stream has sent everything it began, and all of it is acknowledged. -/
def State.allAcked (s : State) (n : Nat) : Bool := (s.link n).replay.isEmpty && ((s.link n).stream.isEmpty || (s.link n).padded)

/-- DRAINED_SEND (R306). -/
def execDrainedSend (p : Fin 16) (s : State) : Host.Outcome State Fault Refusal :=
  .next (
    if s.running && s.linkState p.val == 8 && s.allAcked p.val && !(s.link p.val).drainedTx then
      let s := s.queueWords p.val [ctrlWord 0x29 0 0]
      (s.setLink p.val { s.link p.val with drainedTx := true }).drainEnds p.val
    else s)

/-- RESET (R303, Table 9.8). -/
def execReset (p : Fin 16) (_tag : BitVec 4) (_arg : BitVec 48) (s : State) : Host.Outcome State Fault Refusal :=
  .next (
    if !s.running then s
    else
      match s.linkState p.val with
      | 2 | 3 | 4 | 5 => s.toWait p.val 0
      | 6 => s.linkFault p.val 3 noLane (s.link p.val).oldest
      | _ => s)

/-- DRAIN_TIMEOUT (R304). -/
def execDrainTimeout (p : Fin 16) (s : State) : Host.Outcome State Fault Refusal :=
  .next (
    if s.running && s.linkState p.val == 8 && decide ((s.link p.val).since + 2048 ≤ s.now) then
      s.linkFault p.val 14 noLane (s.link p.val).oldest
    else s)

/-- RESERVED_CONTROL_OP (R279). -/
def execReservedControlOp (p : Fin 16) (op : Byte) (s : State) : Host.Outcome State Fault Refusal :=
  .next (
    let known := [0x00, 0x01, 0x02, 0x03, 0x10, 0x11, 0x12, 0x13, 0x14, 0x15, 0x18, 0x20, 0x21, 0x28, 0x29, 0x2A, 0x30, 0x31, 0x38, 0x39]
    if s.running && !known.contains op.toNat then s.malformed p.val else s)

/-! ## A fan received (R311, R384) -/

/-- A fan's receive side begun: its sequence space starts at 0, with receive space of its own (R310, R384). -/
def State.enterFanRx (s : State) (p pages : Nat) : State :=
  let n := fanRx p
  let l := s.link n
  s.setLink n { Link.reset with
    since := s.now, rxMsgs := l.rxMsgs, rxXfers := l.rxXfers, nextXfer := l.nextXfer, space := l.space, rxReserved := pages }

/-- FAN_ENTER (R384). -/
def execFanEnter (p : Fin 16) (tag : BitVec 4) (arg : BitVec 48) (s : State) : Host.Outcome State Fault Refusal :=
  .next (
    let a := arg.toNat
    if s.running && s.linkUp p.val then
      s.onOp p.val 0x30 tag.toNat fun t =>
        if t.rd (Reg.LNK.STAT_RATE p.val) ≠ bits a 11 10 ∨ t.flag (Reg.LNK.STAT_FEC p.val) = false ∨ t.returnsFan p.val = true then (true, t)
        else
          match t.allocate .rxs (t.rxPages p.val) with
          | (false, u) => (true, u)
          | (true, u) =>
            let u := (u.enterFanRx p.val (u.rxPages p.val)).wr (Reg.LNK.STAT_FAN_ROLE p.val) 3
            (false, (u.wr (Reg.LNK.FAN_STAT_GROUP p.val) (bits a 7 0)).wr (Reg.LNK.FAN_STAT_MEMBERS p.val) (bits a 31 16))
    else s)

/-- FAN_EXIT (R384). -/
def execFanExit (p : Fin 16) (tag : BitVec 4) (_arg : BitVec 48) (s : State) : Host.Outcome State Fault Refusal :=
  .next (
    if s.running && s.linkUp p.val then
      s.onOp p.val 0x31 tag.toNat fun t => (false, if t.returnsFan p.val then t.leaveFanRx p.val else t)
    else s)

/-- Whether a word of a fan names a member port: by the source die's port number, which PARAM0 gave (R305, R311). -/
def State.namesPort (s : State) (p port : Nat) : Bool := s.returnsFan p && s.rd (Reg.LNK.PEER_INFO_PORT p) == port

/-- FAN_ACK (R311). -/
def execFanAck (p : Fin 16) (_tag : BitVec 4) (arg : BitVec 48) (s : State) : Host.Outcome State Fault Refusal :=
  .next (
    let a := arg.toNat
    if s.running && s.linkUp p.val && s.namesPort p.val (bits a 3 0) then (s.retire p.val (BitVec.ofNat 24 (bits a 27 4))).settle else s)

/-- FAN_CRED (R311). -/
def execFanCred (p : Fin 16) (_tag : BitVec 4) (arg : BitVec 48) (s : State) : Host.Outcome State Fault Refusal :=
  .next (
    let a := arg.toNat
    if s.running && s.linkUp p.val && s.namesPort p.val (bits a 3 0) then
      s.takeCredit p.val (bits a 5 4) (bits a 21 6) (bits a 45 22)
    else s)

/-! ## Training (R303, R304) -/

/-- ALIGN begins: nothing of an earlier exchange counts, and the scramblers are seeded (R271). -/
def State.toAlign (s : State) (p : Nat) : State :=
  (s.setLink p { s.link p with ops := [], answered := [], peerParams := 0, paramsSent := false, slots := 0 }).linkTo p 2

/-- Transmit seats of a port that are LOCKED or HOT_SPARE. -/
def State.seatsReady (s : State) (p : Nat) : Nat :=
  ((List.range 18).filter fun k =>
    let st := (s.seat (s.txSeat p k)).state
    st == .locked || st == .hotSpare).length

/-- Whether a port waits for the Flume to restore its map after the safe state (R398). -/
def State.awaitsRestore (s : State) (p : Nat) : Bool := s.flm.changes.any fun c => c.kind == .restore && c.ports.contains p

/-- Whether a port's first full pass, which a die without a set runs before its links train, is still to end (R244). -/
def State.awaitsPass (s : State) (p : Nat) : Bool :=
  s.rd Reg.CAL.STAT == 0 && (bitAt (s.rd Reg.CAL.PASS_QUEUED) p || s.passing p)

/-- LINK_WAIT_DONE (R244, R303, R395, R398). -/
def execLinkWaitDone (p : Fin 16) (s : State) : Host.Outcome State Fault Refusal :=
  .next (
    if s.running && !s.safe && s.linkState p.val == 1 && s.synLocked (s.bankOf p.val) && !s.awaitsRestore p.val &&
        !s.awaitsPass p.val && decide (s.rd (Reg.LNK.LINK_CFG p.val) ≤ s.seatsReady p.val) then s.toAlign p.val
    else s)

/-- A TRAIN shell by the link's state (Table 9.6, Table 9.8): ALIGN ends when it decodes on enough lines; VERIFY counts good ones in a row, and
so does an ACTIVE link, for PEER_RESET, which takes ACK and credits from each (R288). -/
def State.takeTrain (s : State) (p : Nat) (h : ShellHdr) : State :=
  let l := s.link p
  match s.linkState p with
  | 2 =>
    if h.crcOk && decide (s.rd (Reg.LNK.LINK_CFG p) ≤ (h.lanes.filter (·.isSome)).length) then (s.linkTo p 3).sendParams p |>.paramCheck p
    else s
  | 5 =>
    let s := s.laneFec p h.lanes
    s.setLink p { s.link p with trainRx := if shellGood h then l.trainRx + 1 else 0 }
  | 6 =>
    let t := s.laneFec p h.lanes
    if blockGood h then
      let t := (t.setLink p { t.link p with trainRx := l.trainRx + 1 }).takeBare p h
      if 16 ≤ l.trainRx + 1 then t.linkFault p 3 noLane l.oldest else t
    else t
  | 8 =>
    let t := s.laneFec p h.lanes
    if blockGood h then t.takeBare p h else t
  | _ => s

/-- TRAIN_SHELL (R303). -/
def execTrainShell (p : Fin 16) (h : ShellHdr) (s : State) : Host.Outcome State Fault Refusal :=
  .next (if s.running then (if s.linkUp p.val then (s.takeTrain p.val h).settle else s.takeTrain p.val h) else s)

/-- Receive space that messages of an earlier training hold, by class: messages, or data units. -/
def Link.heldSpace (l : Link) (f : Nat → Nat) : List Nat :=
  (List.range 4).map fun c =>
    ((l.rxMsgs.filter (·.tc == c)).map fun m => f (dataUnits m.data.length)).sum + ((l.space.filter (·.2.2.1 == c)).map fun e => f e.2.2.2).sum

/-- ACTIVE begins with sequence and credit counts at 0 and ACK at 0xFF_FFFF (Table 9.6), and lanes on receive seats that cannot carry them are
asked for (R495). -/
def State.toActive (s : State) (p : Nat) : State :=
  let l := s.link p
  let s := s.setLink p { l with
    txNext := 0, txAcked := 0xFFFFFF, rxNext := 0, ackSent := 0xFFFFFF, ackPending := 0, replay := [], resend := 0, expiries := 0,
    usedHdr := [0, 0, 0, 0], usedData := [0, 0, 0, 0], backHdr := [0, 0, 0, 0], backData := [0, 0, 0, 0], freedHdr := [0, 0, 0, 0],
    freedData := [0, 0, 0, 0], staleHdr := l.heldSpace (fun _ => 1), staleData := l.heldSpace id, partialBytes := [], shells := 0,
    losRun := 0, stalled := false, drainedTx := false, drainedRx := false, down := .none, stream := [], heads := [], padded := false }
  let s := (s.linkTo p 6).bump (Reg.LNK.LINK_CNT_UP p)
  let bad := (List.range 16).filter fun lane =>
    let seat := (s.laneSt p).rxMap.getD lane noSeat
    decide (seat < 18) && ((s.seat (seatKey p .rx seat)).state == .failed || (s.seat (seatKey p .rx seat)).state == .outOfService)
  let s := bad.foldl (fun s lane => s.laneDue p ⟨lane, .dropReq, noCause .peer⟩) s
  let m := s.laneSt p
  let lost := (List.range 16).filter fun lane => !decide (m.txMap.getD lane noSeat < 18) && !m.missing.any (·.lane == lane)
  let back := lost.map fun lane => (⟨lane, s.now, true, .none, false, true, false, noCause .lossOfLock⟩ : Missing)
  (s.setLaneSt p { m with missing := m.missing ++ back }).checkNarrow p

/-- LINK_VERIFY_DONE (R303). -/
def execLinkVerifyDone (p : Fin 16) (s : State) : Host.Outcome State Fault Refusal :=
  .next (
    let l := s.link p.val
    if s.running && s.linkState p.val == 5 && decide (256 ≤ l.trainRx) && decide (256 ≤ l.trainTx) then (s.toActive p.val).settle else s)

/-- The timeout and REASON of a training state (Table 9.7). -/
def linkLimit (st : Nat) : Option (Nat × Nat) :=
  match st with
  | 1 => some (4096, 9)
  | 2 => some (256, 10)
  | 3 => some (64, 11)
  | 5 => some (16, 13)
  | _ => .none

/-- LINK_TRAINING_TIMEOUT (R304). -/
def execLinkTrainingTimeout (p : Fin 16) (s : State) : Host.Outcome State Fault Refusal :=
  .next (
    match linkLimit (s.linkState p.val) with
    | .none => s
    | some t => if s.running && decide ((s.link p.val).since + t.1 ≤ s.now) then (s.linkFail p.val t.2).settle else s)

/-- LINK_LOS (R307). -/
def execLinkLos (p : Fin 16) (s : State) : Host.Outcome State Fault Refusal :=
  .next (if s.running && decide (16 ≤ (s.link p.val).losRun) then s.linkFault p.val 2 noLane (s.link p.val).oldest else s)

/-- The run of strokes in which every receive lane of a running link is in loss of signal (Table 9.8). -/
def State.countLos (s : State) (p : Nat) : State :=
  let lines := ((s.laneSt p).rxMap).filter (· < 18)
  let dark := s.linkUp p && lines.all fun k => bitAt (s.rd (Reg.OPT.LOS p)) k
  let l := s.link p
  s.setLink p { l with losRun := if dark then l.losRun + 1 else 0 }

/-- LINK_DOWN (R307): at the cycle 0 after the condition; the safe state's own is part of the stroke boundary (R315). -/
def execLinkDown (p : Fin 16) (s : State) : Host.Outcome State Fault Refusal :=
  .next (
    match (s.link p.val).down with
    | .none => s
    | some f =>
      if s.running && s.clk.cycle == 0 && s.linkUp p.val && f.reason != 15 && decide (f.at_ < s.now) then (s.takeDown p.val f).settle else s)

/-! ## LNK.CTRL (Table 9.6) -/

/-- DISABLE = 1 on a port (R303): a running link goes down for it, any other is OFF at once. -/
def State.disableLink (s : State) (p : Nat) : State :=
  if s.linkUp p then s.linkFault p 7 noLane (s.link p).oldest
  else if s.linkState p = 0 then s
  else
    let s := s.returnPages .rxs (s.link p).rxReserved
    ((s.setLink p { s.link p with rxReserved := 0 }).clearControl p 0).linkTo p 0

/-- A write to LNK[Pnn].CTRL: DISABLE, RESET from ACTIVE, RETRAIN from OFF or DOWN; a port of a fan leaves DOWN once its slot is IDLE (R303,
R306, R390). -/
def State.wrLnkCtrl (p data : Nat) (s : State) : State :=
  let s := s.writeFields (0x040 + p) 0x004 data
  if s.flag (Reg.LNK.CTRL_DISABLE p) then s.disableLink p
  else if bitAt data 10 && s.linkState p == 6 then (s.queueOp p 0x28 0 (noCause .peer)).linkTo p 8
  else if bitAt data 9 && (s.linkState p == 0 || s.linkState p == 7) then
    if (s.slotOfFibre p).isSome then s.wr (Reg.LNK.CTRL_RETRAIN p) 1 else s.toWait p 0
  else s

/-- LINK_RETRAIN (R303). -/
def execLinkRetrain (via : Path) (p : Fin 16) (data : Word) (s : State) : Host.Outcome State Fault Refusal :=
  .next (s.access via (0x040 + p.val) 0x004 data.toNat (State.wrLnkCtrl p.val))

/-- LINK_RESET (R306). -/
def execLinkReset (via : Path) (p : Fin 16) (data : Word) (s : State) : Host.Outcome State Fault Refusal :=
  .next (s.access via (0x040 + p.val) 0x004 data.toNat (State.wrLnkCtrl p.val))

/-- LINK_DISABLE (R303). -/
def execLinkDisable (via : Path) (p : Fin 16) (data : Word) (s : State) : Host.Outcome State Fault Refusal :=
  .next (s.access via (0x040 + p.val) 0x004 data.toNat (State.wrLnkCtrl p.val))

/-- AUTO_RETRAIN (R303, R390). -/
def execAutoRetrain (p : Fin 16) (s : State) : Host.Outcome State Fault Refusal :=
  .next (
    if s.running && !s.safe && s.linkState p.val == 7 && s.flag (Reg.LNK.CTRL_AUTO_RETRAIN p.val) && !s.flag (Reg.LNK.CTRL_DISABLE p.val) &&
        (s.slotOfFibre p.val).isNone && decide ((s.link p.val).since + 64 ≤ s.now) then s.toWait p.val 0
    else s)

/-! ## Synthesisers (R158, R159) -/

/-- A write to OPT[Pnn].CTRL (R158, R159). -/
def State.wrOptCtrl (b data : Nat) (s : State) : State :=
  let s := s.writeFields (0x060 + b) 0x004 data
  if bitAt data 8 then (if s.rd (Reg.OPT.STAT_SYN b) = 3 then s.beginRelock b 0 else s.askRelock b) else s

/-- SYN_RECAL (R158). -/
def execSynRecal (via : Path) (p : Fin 16) (s : State) : Host.Outcome State Fault Refusal :=
  .next (s.access via (0x060 + p.val) 0x004 (setBit (s.stored (0x060 + p.val) 0x004) 8) (State.wrOptCtrl p.val))

/-- SYN_TUNING_OUT_OF_RANGE (R158). -/
def execSynTuningOutOfRange (p : Fin 16) (s : State) : Host.Outcome State Fault Refusal :=
  .next (if s.running && s.synLocked p.val then s.askRelock p.val else s)

/-- SYN_LOCK (R159, R301, R303). -/
def execSynLock (p : Fin 16) (s : State) : Host.Outcome State Fault Refusal :=
  .next (
    if s.running && s.rd (Reg.OPT.STAT_SYN p.val) == 1 then
      let q := s.fibreOf p.val
      let s := (s.wr (Reg.OPT.STAT_SYN p.val) 2).endPause q 0
      if s.linkState q == 4 then s.toAlign q else s.paramCheck q
    else s)

/-- SYN_RELOCK_TIMEOUT (R159, R304, R307). -/
def execSynRelockTimeout (p : Fin 16) (s : State) : Host.Outcome State Fault Refusal :=
  .next (
    let y := s.synth p.val
    if s.running && s.rd (Reg.OPT.STAT_SYN p.val) == 1 && decide (y.began + 16 ≤ s.now) then
      let s := s.bump (Reg.OPT.SYN_CNT_FAIL p.val)
      if y.attempt = 0 then (s.raise1 (plain (Err.OPT.SYN_RETRY p.val))).beginRelock p.val 1
      else
        let s := (s.raise1 (plain (Err.OPT.SYN_FAIL p.val))).wr (Reg.OPT.STAT_SYN p.val) 3
        let q := s.fibreOf p.val
        if s.linkUp q then s.linkFault q 8 noLane (s.link q).oldest
        else if s.linkState q = 1 ∨ s.linkState q = 4 then (s.linkFail q 8).settle
        else s
    else s)

end Sys2Proof.Machine
end

