-- ==== Sys2Proof/Machine/Flume.lean ====
section
/-! DEFINITION. The Flume: configuration changes, dither loops, in-service windows and fan groups (chapter 11). -/

namespace Sys2Proof.Machine

/-! ## The mesh (R370) -/

/-- The column of an MZI (R370): 8 in an even column, 7 in an odd one. -/
def mziColumn (z : Nat) : Nat := 2 * (z / 15) + (if z % 15 < 8 then 0 else 1)

/-- The lower of the two waveguides that an MZI joins (R370). -/
def mziWaveguide (z : Nat) : Nat := if z % 15 < 8 then 2 * (z % 15) else 2 * (z % 15 - 8) + 1

/-- The waveguides `lo` to `hi` that light on such a range may leave a column on: an even column joins 2j with 2j + 1, an odd one 2j + 1 with 2j + 2. -/
def throughColumn (column : Nat) (r : Nat × Nat) : Nat × Nat :=
  if column % 2 = 0 then (r.1 - r.1 % 2, r.2 + (1 - r.2 % 2))
  else (if r.1 % 2 = 0 then r.1 - 1 else r.1, if r.2 % 2 = 1 then min 15 (r.2 + 1) else r.2)

/-- The fibres that light which passes an MZI may reach, from the lowest to the highest (R370). -/
def mziFibres (z : Nat) : Nat × Nat :=
  ((List.range 16).drop (mziColumn z + 1)).foldl (fun r c => throughColumn c r) (mziWaveguide z, mziWaveguide z + 1)

/-- Whether a fibre may receive light through an MZI. -/
def mziReaches (z f : Nat) : Bool := decide ((mziFibres z).1 ≤ f) && decide (f ≤ (mziFibres z).2)

/-! ## Base map (R373, R378) -/

/-- The map that XBAR0 and XBAR1 hold: the fibre of each bank. -/
def State.xbar (s : State) : List Nat :=
  (List.range 16).map fun b => bits (s.rd (Reg.FLM.XBAR (b / 8))) (4 * (b % 8) + 3) (4 * (b % 8))

/-- Straight (R373). -/
def straight : List Nat := List.range 16

/-- Whether a fan not IDLE has a member whose bank a new map would change (R378). -/
def State.fanMoved (s : State) (m : List Nat) : Bool :=
  (List.range 16).any fun b =>
    let f := s.flm.map.getD b b
    f != m.getD b b && ((s.slotOfFibre f).isSome || (s.slotOfFibre (m.getD b b)).isSome)

/-- A base-map request (R378): refused with its result, or put in line. -/
def State.applyMap (s : State) : State :=
  let m := s.xbar
  if m.dedup.length ≠ 16 then s.wr Reg.FLM.CHG_RESULT 2
  else if m ≠ straight ∧ s.flag Reg.FLM.STAT_CROSS_AVAIL = false then s.wr Reg.FLM.CHG_RESULT 3
  else if s.fanMoved m then s.wr Reg.FLM.CHG_RESULT 4
  else s.askChange .base m []

/-- A write to FLM.CTRL. -/
def State.wrFlmCtrl (data : Nat) (s : State) : State :=
  let s := s.writeFields 0x008 0x004 data
  if bitAt data 8 then s.applyMap else s

/-- FLUME_APPLY (R378). -/
def execFlumeApply (via : Path) (data : Word) (s : State) : Host.Outcome State Fault Refusal :=
  .next (s.access via 0x008 0x004 data.toNat State.wrFlmCtrl)

/-! ## Changes (R374 to R376, R382, R388) -/

/-- The fan slot a change is of. -/
def ChangeKind.slot : ChangeKind → Option Nat
  | .fanEnter k => some k
  | .fanExit k => some k
  | .base => .none
  | .autoCross _ _ => .none
  | .restore => .none

/-- The ports a change affects (R375): those whose bank changes, a fan's members, and those that light reaches through an MZI whose target
changes (log entry 16), of which one lies in the mesh before them (R370). -/
def State.affectedPorts (s : State) (c : Change) : List Nat :=
  (List.range 16).filter fun p =>
    s.bankOf p != ((List.range 16).find? fun b => c.target.getD b b == p).getD p || c.ports.contains p ||
      (Config.affected c.pick p && (List.range 120).any fun z => Config.mziChanged c.pick z && mziReaches z p)

/-- A change announced at the Finish before its stroke c (R375): its affected ports pause, a fan's members with reason 2. -/
def State.announce (s : State) (c : Change) (rest : List Change) : State :=
  let ports := s.affectedPorts c
  let members := match c.kind.slot with
    | .none => []
    | some k => setBits 16 (s.rd (Reg.FLM.FAN_CFG_MASK k))
  let s := { s with flm := { s.flm with changes := { c with start := some (s.now + 1), prev := s.flm.map, ports := ports } :: rest } }
  ports.foldl (fun s p => if s.linkUp p then s.startPause p 1 (if members.contains p then 2 else 1) else s) s

/-- Slots whose members have all accepted FAN_ENTER pause their members and ask for their change (R382, Table 11.4). -/
def State.enterFans (s : State) : State :=
  (List.range 8).foldl (fun s k =>
    let ms := s.fanMembers k
    if s.fanState k == 2 && ms.all fun m => (s.fan k).accepted.contains m then
      let s := ms.foldl (fun s m => if s.linkUp m then s.startPause m 1 2 else s) (s.fanTo k 3)
      s.askChange (.fanEnter k) s.flm.map ms
    else s) s

/-- The Flume at a cycle 960 (R374, R375): fans enter, and the change at the head of the line is announced, unless a window is open; the
restore after the safe state waits for the headgates (R398, Table 13.11). -/
def State.flumeFinish (s : State) : State :=
  if s.safe then s
  else
    let s := s.enterFans
    match s.flm.changes with
    | [] => s
    | c :: rest => if c.start.isNone && s.flm.window.isNone && (c.kind != .restore || s.headgatesLit) then s.announce c rest else s

/-- MZIs released by a test: their phases are no longer held, nor their channels isolated (R393). -/
def State.releaseMzis (s : State) (p : Nat → Bool) : State :=
  ((List.range 120).filter p).foldl (fun s z =>
    let s := if bitAt (s.rd (Reg.FLM.HELD (z / 32))) (z % 32) then s.wrBit (Reg.FLM.HELD (z / 32)) (z % 32) false else s
    [2 * z, 2 * z + 1].foldl (fun s c =>
      if bitAt (s.rd (Reg.FLM.ISOLATE (c / 32))) (c % 32) then s.wrBit (Reg.FLM.ISOLATE (c / 32)) (c % 32) false else s) s) s

/-- FLUME_CHANGE_START (R374, Table 11.1): at cycle 0 of stroke c the new configuration is live. -/
def execFlumeChangeStart (s : State) : Host.Outcome State Fault Refusal :=
  .next (
    match s.flm.changes with
    | [] => s
    | c :: _ => match c.start with
      | .none => s
      | some t =>
        if s.running && !s.safe && s.clk.cycle == 0 && decide (t ≤ s.now) && !s.changing then
          let s := (s.wr Reg.FLM.STAT_STATE 3).wr Reg.FLM.CHG_PORTS (maskOf c.ports)
          let s := { s with flm := { s.flm with map := c.target } }
          s.releaseMzis (Config.mziChanged c.pick)
        else s)

/-- A fan's stream at its start, SEQ 0 (R310, R382). -/
def State.startFan (s : State) (k : Nat) : State :=
  let s := (s.clearStream (fanTx k)).setLink (fanTx k) Link.reset
  let s := (s.fanTo k 4).wr (Reg.FLM.FAN_STAT_RESULT k) 1
  let s := s.setFan k { s.fan k with acks := [], backs := [], expiries := [], answers := [], accepted := [] }
  if (s.fan k).exitAsked then s.fanTo k 5 else s

/-- A fan's entry that was rolled back (R382): FAN_EXIT on every member, with result VERIFY. -/
def State.fanRolledBack (s : State) (k : Nat) : State :=
  let ms := s.fanMembers k
  let s := s.fanTo k 6
  let s := s.setFan k { s.fan k with endResult := 8, asked := false, accepted := ms }
  (ms.foldl (fun s m => s.queueOp m 0x31 (s.rd (Reg.FLM.FAN_CFG_ID k)) (noCause .peer)) s).fanExitCheck k

/-- What the end of a change does to what it was for: with its configuration in force, or with the previous one (R376, R382, R388). -/
def State.changeDone (s : State) (c : Change) : State :=
  match c.kind with
  | .fanEnter k => if c.rollback then s.fanRolledBack k else if s.fanState k = 3 then s.startFan k else s
  | .fanExit k => if c.rollback then s.askChange c.kind c.target (setBits 16 (s.rd (Reg.FLM.FAN_CFG_MASK k))) else s.fanIdle k (s.fan k).endResult
  | .base => s
  | .autoCross _ _ => s
  | .restore => s

/-- FLUME_CHANGE_END (R376): at c + 32 the change completes, or is rolled back by a second one; a rollback that fails too is kept. -/
def execFlumeChangeEnd (tapsOk : Bool) (s : State) : Host.Outcome State Fault Refusal :=
  .next (
    match s.flm.changes with
    | [] => s
    | c :: rest => match c.start with
      | .none => s
      | some t =>
        if s.running && !s.safe && s.clk.cycle == 0 && s.changing && decide (t + 32 ≤ s.now) then
          if !tapsOk && !c.rollback then
            let s := (s.raise1 ⟨Err.FLM.ROLLBACK, flmInfo 0xFF 0xFF (c.kind.slot.getD 0) 8, 0⟩).bump Reg.FLM.CHG_CNT_ROLLBACKS
            let s := s.wr Reg.FLM.STAT_STATE 4
            { s with flm := { s.flm with map := c.prev, changes := { c with start := some s.now, rollback := true } :: rest } }
          else
            let s := if tapsOk then s else s.raise1 ⟨Err.FLM.CONFIG_FAIL, flmInfo 0xFF 0xFF (c.kind.slot.getD 0) 8, 0⟩
            let s := (s.wr Reg.FLM.STAT_STATE 2).wr Reg.FLM.CHG_RESULT (if c.rollback then 8 else 1)
            let s := s.bump Reg.FLM.CHG_CNT_CHANGES
            let s := { s with flm := { s.flm with changes := rest } }
            ((c.ports.foldl (fun s p => s.endPause p 1) s).changeDone c).settle
        else s)

/-! ## Dither loops, holds and windows (R391 to R393) -/

/-- Whether both output-arm samples of an MZI are clean (R166, R170). -/
def State.mziClean (s : State) (z : Nat) : Bool := (s.chan (flumeChanKey (2 * z))).clean && (s.chan (flumeChanKey (2 * z + 1))).clean

/-- MZI_DITHER (R391): the correction that an error adds is not given (log entry 7); without two clean samples there is no error (R166, R170). -/
def execMziDither (z : Nat) (err : Int) (s : State) : Host.Outcome State Fault Refusal :=
  .next (
    if s.running && !s.safe && decide (z < 120) && !s.mziHeld z && !s.ditherPaused z && s.mziClean z then
      let s := s.atCycle 319
      let x := Tab.read MziLoop.reset s.flm.loops z
      let isOver := decide (s.rd Reg.FLM.DRIFT_THRESH < err.natAbs)
      let f := s.fresh
      let y : MziLoop := ⟨if isOver then runUp x.run else 0, x.corr + Config.ditherStep f.1 err⟩
      { f.2 with flm := { f.2.flm with loops := Tab.write MziLoop.reset f.2.flm.loops z y } }
    else s)

/-- FLUME_DRIFT (R391): an early in-service run is asked for. -/
def execFlumeDrift (z : Nat) (s : State) : Host.Outcome State Fault Refusal :=
  .next (
    let x := Tab.read MziLoop.reset s.flm.loops z
    if s.running && x.run == 4 then
      let s := { s with flm := { s.flm with loops := Tab.write MziLoop.reset s.flm.loops z { x with run := 5 }, runAsked := true } }
      s.raise1 ⟨Err.FLM.DRIFT, flmInfo 0xFF z 0 0, 0⟩
    else s)

/-- MZI_HELD (R393). -/
def execMziHeld (ch : Nat) (s : State) : Host.Outcome State Fault Refusal :=
  .next (
    if s.running && decide (ch < 240) && decide (64 ≤ (s.chan (flumeChanKey ch)).run) &&
        !bitAt (s.rd (Reg.FLM.ISOLATE (ch / 32))) (ch % 32) then
      let z := ch / 2
      let s := (s.atCycle 159).wrBit (Reg.FLM.HELD (z / 32)) (z % 32) true
      let s := s.wrBit (Reg.FLM.ISOLATE (ch / 32)) (ch % 32) true
      s.raise1 ⟨Err.FLM.MZI_HELD, flmInfo ch z 0 0, 0⟩
    else s)

/-- Whether an in-service window may open (R392). -/
def State.mayOpenWindow (s : State) : Bool :=
  s.running && !s.safe && s.flag Reg.FLM.CTRL_REEST_EN && (s.flag Reg.FLM.STAT_FAN_AVAIL || s.flag Reg.FLM.STAT_CROSS_AVAIL) &&
    s.rd Reg.FLM.STAT_STATE == 2 && s.flm.changes.isEmpty && s.flm.window.isNone && s.flm.ba.isNone &&
    ((List.range 8).all fun k => s.fanState k != 1 && s.fanState k != 2) &&
    (s.flm.runAsked || decide (s.flm.lastWindow + s.rd Reg.FLM.REEST_INTERVAL ≤ s.now))

/-- REEST_WINDOW_OPEN (R391, R392). -/
def execReestWindowOpen (s : State) : Host.Outcome State Fault Refusal :=
  .next (
    if s.mayOpenWindow then
      let w := s.rd Reg.FLM.REEST_WINDOW
      let s := { s with flm := { s.flm with window := some (s.now + w), lastWindow := s.now, runAsked := false } }
      s.baStart false w
    else s)

/-! ## Fan groups (R379 to R390) -/

/-- A write to FANk_CTRL (R380, R388): ENTER asks for entry of an IDLE slot; EXIT drains an ACTIVE one, or one that becomes so (Table 11.8). -/
def State.wrFanCtrl (k data : Nat) (s : State) : State :=
  let x := s.fan k
  let s := if bitAt data 0 ∧ s.fanState k = 0 ∧ x.request = false then s.setFan k { x with request := true, since := s.now } else s
  if !bitAt data 1 then s
  else
    match s.fanState k with
    | 4 => s.fanTo k 5
    | 1 | 2 | 3 => s.setFan k { s.fan k with exitAsked := true }
    | _ => s

/-- FAN_ENTER_WRITE (R380). -/
def execFanEnterWrite (via : Path) (k : Fin 8) (s : State) : Host.Outcome State Fault Refusal :=
  .next (s.access via 0x008 (0x104 + 0x10 * k.val) 1 (State.wrFanCtrl k.val))

/-- FAN_EXIT_WRITE (R388). -/
def execFanExitWrite (via : Path) (k : Fin 8) (s : State) : Host.Outcome State Fault Refusal :=
  .next (s.access via 0x008 (0x104 + 0x10 * k.val) 2 (State.wrFanCtrl k.val))

/-- Whether a slot's configuration is bad (Table 11.3, check 1; Table 11.2). -/
def State.badFanCfg (s : State) (k : Nat) : Bool :=
  let d := s.rd (Reg.FLM.FAN_CFG_DEGREE k)
  let rate := s.rd (Reg.FLM.FAN_CFG_RATE k)
  let mask := s.rd (Reg.FLM.FAN_CFG_MASK k)
  let id := s.rd (Reg.FLM.FAN_CFG_ID k)
  d == 0 || countBits 16 mask != 2 ^ d || !bitAt mask (s.rd (Reg.FLM.FAN_CFG_SOURCE k)) || id == 0 || rate == 3 || decide (rate + 1 < d) ||
    (List.range 8).any fun j => j != k && s.fanState j != 0 && s.rd (Reg.FLM.FAN_CFG_ID j) == id

/-- A member port that fails check 4 of Table 11.3. -/
def State.badMember (s : State) (k p : Nat) : Bool :=
  s.linkState p != 6 || s.rd (Reg.LNK.STAT_RATE p) != s.rd (Reg.FLM.FAN_CFG_RATE k) || !s.flag (Reg.LNK.STAT_FEC p)

/-- A slot's request checked (R380, Table 11.3): QUIESCE, or IDLE with the result of the first check that fails. -/
def State.checkFan (s : State) (k : Nat) : State :=
  let x := s.fan k
  if !x.request || decide (s.now ≤ x.since) then s
  else
    let s := s.setFan k { FanSlot.reset with since := s.now }
    let members := setBits 16 (s.rd (Reg.FLM.FAN_CFG_MASK k))
    let bad := members.filter (s.badMember k)
    let refuse := fun (s : State) (r : Nat) => s.wr (Reg.FLM.FAN_STAT_RESULT k) r
    if s.badFanCfg k then refuse s 2
    else if !s.flag Reg.FLM.STAT_FAN_AVAIL then refuse s 3
    else if members.any fun p => (s.slotOfFibre p).isSome then refuse s 4
    else if !bad.isEmpty then refuse (s.wr (Reg.FLM.FAN_REFUSE k) (maskOf bad)) 5
    else ((s.wr (Reg.FLM.FAN_REFUSE k) 0).wr (Reg.FLM.FAN_STAT_MEMBERS k) (maskOf members)).fanTo k 1

/-- FAN_ENTRY_CHECK (R380): slots in order, at the cycle 0 after the write (Table 11.8). -/
def execFanEntryCheck (s : State) : Host.Outcome State Fault Refusal :=
  .next (if s.running && s.clk.cycle == 0 then (List.range 8).foldl State.checkFan s else s)

/-- The ARG of FAN_ENTER (Table 11.5). -/
def State.fanArg (s : State) (k : Nat) : Nat :=
  s.rd (Reg.FLM.FAN_CFG_MASK k) * 2 ^ 16 + s.rd (Reg.FLM.FAN_CFG_SOURCE k) * 2 ^ 12 + s.rd (Reg.FLM.FAN_CFG_RATE k) * 2 ^ 10 +
    s.rd (Reg.FLM.FAN_CFG_DEGREE k) * 2 ^ 8 + s.rd (Reg.FLM.FAN_CFG_ID k)

/-- FAN_QUIESCE_DONE (R382, R383, Table 11.4): FAN_ENTER on every member whose link is up, at a Finish. -/
def execFanQuiesceDone (k : Fin 8) (s : State) : Host.Outcome State Fault Refusal :=
  .next (
    let ms := s.fanMembers k.val
    if s.running && s.fanState k.val == 1 && decide (960 ≤ s.clk.cycle) && ms.all fun m => s.allAcked m then
      let s := s.fanTo k.val 2
      ((ms.foldl (fun s m => if s.linkUp m then s.queueOp m 0x30 (s.fanArg k.val) (noCause .peer) else s) s).fanJudge k.val).settle
    else s)

/-- FAN_QUIESCE_TIMEOUT (R382). -/
def execFanQuiesceTimeout (k : Fin 8) (s : State) : Host.Outcome State Fault Refusal :=
  .next (
    if s.running && s.fanState k.val == 1 && decide ((s.fan k.val).since + 64 ≤ s.now) then (s.fanIdle k.val 6).settle else s)

/-- FAN_DRAIN_DONE (R388). -/
def execFanDrainDone (k : Fin 8) (s : State) : Host.Outcome State Fault Refusal :=
  .next (if s.running && s.fanState k.val == 5 && s.allAcked (fanTx k.val) then (s.fanLeave k.val 1).settle else s)

/-- FAN_DRAIN_TIMEOUT (R388): a member that has not acknowledged goes, with the actions of R312 at the next cycle 0. -/
def execFanDrainTimeout (k : Fin 8) (p : Fin 16) (s : State) : Host.Outcome State Fault Refusal :=
  .next (
    let x := s.fan k.val
    let late := Tab.read 0xFFFFFF x.acks p.val != (s.link (fanTx k.val)).txNext - 1
    if s.running && s.fanState k.val == 5 && (s.fanMembers k.val).contains p.val && late && decide (x.since + 2048 ≤ s.now) then
      s.linkFault p.val 1 noLane (s.link (fanTx k.val)).oldest
    else s)

end Sys2Proof.Machine
end

