-- ==== Sys2Proof/Machine/Nvs.lean ====
section
/-! DEFINITION. The store: records and slots, your commands, and a page write cut short (R231 to R242, R245, R498). -/

namespace Sys2Proof.Machine

/-! ## Layout (R231, R232, R236, R237) -/

/-- How many member pages a record has: sets CS0 to CS4, Flume, datum. -/
def recMembers (r : Nat) : Nat := if r < 5 then 32 else if r = 5 then 4 else 0

/-- The first page of a record's slot (Table 7.4). -/
def recBase (r : Nat) (slotB : Bool) : Nat :=
  (if r < 5 then 0x100 + 0x80 * r else if r = 5 then 0x400 else 0x480) + (if slotB then 0x40 else 0)

/-- RECORD of word 0 (Table 7.5). -/
def recId (r : Nat) : Nat := if r < 5 then 0x100 + r else if r = 5 then 0x200 else 0x300

/-- PAGE of the `i`-th page of a record write: the members ascending, then the directory (R235). -/
def writeOrder (r i : Nat) : Nat := if i < recMembers r then i + 1 else 0

/-- The commit word of a page: the CRC-32 of words 0 to 30, and word 0's SEQ (Table 7.5). -/
def commitWord (ws : List DWord) : DWord :=
  BitVec.ofNat 64 ((crc32 (bytesOfWords ws)).toNat * 2 ^ 32 + wordAt ws 0 % 2 ^ 32)

/-- A list of words filled up with zeros to `n`. -/
def padWords (n : Nat) (ws : List DWord) : List DWord := (List.range n).map fun i => ws.getD i 0

/-- A page with its commit word. -/
def sealPage (ws : List DWord) : List DWord := let w := padWords 31 ws; w ++ [commitWord w]

/-- A record's page from its content, words 1 to 30 (Table 7.5). -/
def recordPage (r j : Nat) (slotB : Bool) (seq : BitVec 32) (content : List DWord) : List DWord :=
  sealPage (BitVec.ofNat 64 (recId r * 2 ^ 48 + j * 2 ^ 40 + ofBool slotB * 2 ^ 32 + seq.toNat) :: content)

/-- The key of seat `k` of a set's member page `m` in the working images: port m/2, transmit when m is even (R236). -/
def memberKey (set m k : Nat) : Nat := set * 576 + m * 18 + k

/-- Four signed 16-bit values as a word, least significant first (R237). -/
def packFour (f : Nat → Int) (i : Nat) : DWord :=
  BitVec.ofNat 64 (bitsOfInt 16 (f (4 * i)) + bitsOfInt 16 (f (4 * i + 1)) * 2 ^ 16 + bitsOfInt 16 (f (4 * i + 2)) * 2 ^ 32 +
    bitsOfInt 16 (f (4 * i + 3)) * 2 ^ 48)

/-- Words 1 to 30 of a record's page from its working image (R236, R237). -/
def State.pageContent (s : State) (r j : Nat) : List DWord :=
  if 0 < j then
    if r < 5 then (List.range 18).map fun k => Tab.read 0 s.cal.sets (memberKey r (j - 1) k)
    else (List.range 30).map fun i => packFour (fun n => Tab.read 0 s.flm.estimate n) (30 * (j - 1) + i)
  else if r = 6 then
    [BitVec.ofNat 64 s.datum.scale.toNat, BitVec.ofNat 64 s.datum.ringCode.toNat, BitVec.ofNat 64 s.stamp.word]
  else
    [BitVec.ofNat 64 (if r < 5 then (setTemp r).toNat else 0), BitVec.ofNat 64 s.stamp.word,
      BitVec.ofNat 64 (s.fuses.serial.toNat % 2 ^ 32 * 2 ^ 32 + ofBool (s.rd Reg.DTM.STAT_STATE == 2)),
      BitVec.ofNat 64 (recMembers r)]

/-! ## Validity of pages and slots (R233, R234, R498) -/

/-- The ECC status of a store word. -/
def State.nvsEcc (s : State) (a : Nat) : Ecc := Tab.read .clean s.nvs.ecc a

/-- The words of a page. -/
def State.pageWords (s : State) (pg : Nat) : List DWord := (List.range 32).map fun i => s.nvsWord (pg * 32 + i)

/-- The first word by which a page fails, if it does: a word that reads uncorrectable, or word 31 (R233, R498). -/
def State.pageFault (s : State) (pg : Nat) : Option Nat :=
  match (List.range 32).find? fun i => s.nvsEcc (pg * 32 + i) == .uncorrectable with
  | some i => some i
  | .none =>
    let ws := s.pageWords pg
    if ws.getD 31 0 = commitWord (ws.take 31) then .none else some 31

/-- SEQ of a page's word 0. -/
def State.pageSeq (s : State) (pg : Nat) : BitVec 32 := (s.nvsWord (pg * 32)).setWidth 32

/-- The first failing page of a slot with its word, if the slot is invalid (R233, R498). -/
def State.slotFault (s : State) (r : Nat) (slotB : Bool) : Option (Nat × Nat) :=
  let base := recBase r slotB
  match s.pageFault base with
  | some w => some (base, w)
  | .none =>
    (List.range (recMembers r)).findSome? fun m =>
      match s.pageFault (base + m + 1) with
      | some w => some (base + m + 1, w)
      | .none => if s.pageSeq (base + m + 1) = s.pageSeq base then .none else some (base + m + 1, 0)

/-- ERR_INFO0 of the NVS page. -/
def nvsInfo (a : Nat × Nat) : Nat := a.1 * 32 + a.2

/-- Whether one SEQ is later than another (R234). -/
def laterSeq (a b : BitVec 32) : Bool := (a - b).toInt > 0

/-- Corrected words that a judgement of a record reads. -/
def State.correctedIn (s : State) (r : Nat) : List Nat :=
  let inSlot := fun (a : Nat) (b : Bool) => decide (recBase r b * 32 ≤ a) && decide (a < (recBase r b + recMembers r + 1) * 32)
  (s.nvs.ecc.filter fun kv => kv.2 == .corrected && (inSlot kv.1 false || inSlot kv.1 true)).map (·.1)

/-- Corrected ECC on read of words of the store. -/
def State.correctedRead (s : State) (words : List Nat) : State :=
  (s.addTo Reg.NVS.CE_CNT words.length).raise (words.map fun a => detail Err.NVS.ECC_CE (nvsInfo (a / 32, a % 32)))

/-- RECk as a judgement leaves it, with the presence of a calibration set (R215), and the SEQ of the slot in use. -/
def State.setRec (s : State) (r : Nat) (useB aOk bOk : Bool) (seq : BitVec 32) : State :=
  let s := ((s.wrB (Reg.NVS.REC_IN_USE r) useB).wrB (Reg.NVS.REC_A_VALID r) aOk).wrB (Reg.NVS.REC_B_VALID r) bOk
  let s := s.wr (Reg.NVS.REC_SEQ r) (seq.toNat % 2 ^ 24)
  let s := if r < 5 then s.wrBit Reg.CAL.STAT r (aOk || bOk) else s
  { s with nvs := { s.nvs with seq := Tab.write 0 s.nvs.seq r seq } }

/-- The slots of a record judged, and the one in use chosen (R234, R498). -/
def State.judgeRecord (s : State) (r : Nat) : State :=
  let s := s.correctedRead (s.correctedIn r)
  let a := s.pageSeq (recBase r false)
  let b := s.pageSeq (recBase r true)
  match s.slotFault r false, s.slotFault r true with
  | .none, .none =>
    if laterSeq b a && !laterSeq a b then s.setRec r true true true b
    else if laterSeq a b && !laterSeq b a then s.setRec r false true true a
    else (s.setRec r false true true a).raise1 (detail Err.NVS.SEQ_TIE (nvsInfo (recBase r false, 0)))
  | .none, some f => (s.setRec r false true false a).raise1 (detail Err.NVS.SLOT_INVALID (nvsInfo f))
  | some f, .none => (s.setRec r true false true b).raise1 (detail Err.NVS.SLOT_INVALID (nvsInfo f))
  | some f, some _ => (s.setRec r false false false 0).raise1 (detail Err.NVS.RECORD_LOST (nvsInfo f))

/-- Whether a record has a slot in use. -/
def State.recordHeld (s : State) (r : Nat) : Bool := s.flag (Reg.NVS.REC_A_VALID r) || s.flag (Reg.NVS.REC_B_VALID r)

/-- Word `i` of page PAGE `j` of a record's slot in use. -/
def State.recWord (s : State) (r j i : Nat) : DWord := s.nvsWord ((recBase r (s.flag (Reg.NVS.REC_IN_USE r)) + j) * 32 + i)

/-- A set's working image loaded from its slot in use (R236, R243). -/
def State.loadSet (s : State) (r : Nat) : Tab DWord :=
  (List.range 576).filterMap fun i =>
    let w := s.recWord r (i / 18 + 1) (i % 18 + 1)
    if w = 0 then .none else some (r * 576 + i, w)

/-- Every record loaded that has a slot in use (R234, R237, R243, R463); with no set present NO_SETS is raised. -/
def State.loadStore (s : State) : State :=
  let s := (List.range 7).foldl (fun s r => s.judgeRecord r) s
  let present := (List.range 5).filter s.recordHeld
  let s := { s with cal := { s.cal with sets := present.flatMap s.loadSet } }
  let value := fun i => signedOf 16 (bits (s.recWord 5 (i / 120 + 1) (i % 120 / 4 + 1)).toNat (16 * (i % 4) + 15) (16 * (i % 4)))
  let s :=
    if s.recordHeld 5 then
      let est := (List.range 480).filterMap fun i => if value i = 0 then .none else some (i, value i)
      { s with flm := { s.flm with estimate := est, estLoaded := true } }
    else s
  let s :=
    if s.recordHeld 6 then
      let scale := (s.recWord 6 0 1).setWidth 16
      { s with datum := { s.datum with scale := scale, ringCode := (s.recWord 6 0 2).setWidth 16, written := some scale } }
    else s
  if present.isEmpty then s.raise1 (plain Err.CAL.NO_SETS) else s

/-! ## Tolfa's record writes (R209, R210, R230, R235, R238, R264) -/

/-- Two writes of one record begin at least this many strokes apart (R209, R230). -/
def recordGap : Nat := 1048576

/-- Whether a record is due to be written now. -/
def State.recordDue (s : State) (r : Nat) : Bool :=
  let spaced := match Tab.read .none s.nvs.lastWrite r with
    | .none => true
    | some t => decide (recordGap ≤ s.now - t)
  let traced := s.rd Reg.DTM.STAT_STATE == 2
  if r < 5 then s.cal.dirty.contains r && spaced && traced
  else if r = 5 then s.nvs.flumeDue
  else s.datum.due && spaced && traced

/-- The records that wait, in ascending RECORD order (R242). -/
def State.recordsDue (s : State) : List Nat := (List.range 7).filter s.recordDue

/-- A record no longer due, as its write begins. -/
def State.recordBegun (s : State) (r : Nat) : State :=
  let s := { s with nvs := { s.nvs with lastWrite := Tab.write .none s.nvs.lastWrite r (some s.now) } }
  if r < 5 then { s with cal := { s.cal with dirty := s.cal.dirty.filter (· != r) } }
  else if r = 5 then { s with nvs := { s.nvs with flumeDue := false } }
  else { s with datum := { s.datum with due := false, written := some s.datum.scale } }

/-- The pages of a record write in the order of R235, from the working image. -/
def State.recordPages (s : State) (r : Nat) (slotB : Bool) (seq : BitVec 32) : List (List DWord) :=
  (List.range (recMembers r + 1)).map fun i => recordPage r (writeOrder r i) slotB seq (s.pageContent r (writeOrder r i))

/-- A record write into the slot not in use, SEQ one greater; into slot A with SEQ 1 where neither is valid (R235). Its pages are filled as the first
begins. -/
def State.beginRecord (s : State) (r : Nat) : State :=
  let held := s.recordHeld r
  let slotB := held && !s.flag (Reg.NVS.REC_IN_USE r)
  let seq := if held then Tab.read 0 s.nvs.seq r + 1 else 1
  let s := (s.recordBegun r).wr Reg.NVS.STAT_OWN_WRITE 1
  let w : OwnWrite :=
    { record := r, slotB := slotB, seq := seq, page := 0, word := 0, retried := false, waitSafe := false, pages := [] }
  { s with nvs := { s.nvs with own := some w } }

/-- A write that waited out the safe state begins again from its first member page, with the same slot and SEQ (Table 7.8). -/
def State.resumeRecord (s : State) (w : OwnWrite) : State :=
  let s := (s.recordBegun w.record).wr Reg.NVS.STAT_OWN_WRITE 1
  let w := { w with page := 0, word := 0, retried := false, waitSafe := false, pages := [] }
  { s with nvs := { s.nvs with own := some w } }

/-- Whether a record may be written now: sets and the datum only while TRACED (R210). -/
def State.mayWriteRecord (s : State) (r : Nat) : Bool := r == 5 || s.rd Reg.DTM.STAT_STATE == 2

/-- NVS_RECORD_WRITE_START (R210, R230, R235, R242): the lowest due record, or one that the safe state interrupted, once no command of yours holds the
store or waits for it. -/
def execNvsRecordWriteStart (rec : Nat) (s : State) : Host.Outcome State Fault Refusal :=
  .next (
    if s.running && !s.safe && s.nvs.cmd.isNone then
      match s.nvs.own with
      | some w => if w.waitSafe && w.record == rec && s.mayWriteRecord rec then s.resumeRecord w else s
      | .none => if s.recordsDue.head? = some rec then s.beginRecord rec else s
    else s)

/-- A word of the store written, its ECC clean. -/
def State.writeStore (s : State) (a : Nat) (w : DWord) : State :=
  { s with nvs := { s.nvs with words := Tab.write 0 s.nvs.words a w, ecc := Tab.write .clean s.nvs.ecc a .clean } }

/-- A word that reads back wrong. -/
def State.spoilWord (s : State) (a : Nat) : State :=
  { s with nvs := { s.nvs with ecc := Tab.write .clean s.nvs.ecc a .uncorrectable } }

/-- The page of a record write at hand. -/
def OwnWrite.pageNo (w : OwnWrite) : Nat := recBase w.record w.slotB + writeOrder w.record w.page

/-- The end of a page of a record write (R238, Table 7.8): its read-back, one rewrite, and the next page. -/
def State.endOwnPage (s : State) (w : OwnWrite) (bad : Option (Fin 32)) : State :=
  let s := s.bump Reg.NVS.WRITE_CNT
  match bad with
  | some b =>
    let s := s.spoilWord (w.pageNo * 32 + b.val)
    if w.retried then
      let s := ({ s with nvs := { s.nvs with own := .none } }.wr Reg.NVS.STAT_OWN_WRITE 0).raise1
        (detail Err.NVS.WRITE_FAIL (nvsInfo (w.pageNo, b.val)))
      s.judgeRecord w.record
    else { s with nvs := { s.nvs with own := some { w with word := 0, retried := true } } }
  | .none =>
    if w.page = recMembers w.record then
      ({ s with nvs := { s.nvs with own := .none } }.wr Reg.NVS.STAT_OWN_WRITE 0).judgeRecord w.record
    else if s.safe then
      { s with nvs := { s.nvs with own := some { w with page := 0, word := 0, retried := false, waitSafe := true } } }.wr
        Reg.NVS.STAT_OWN_WRITE 0
    else { s with nvs := { s.nvs with own := some { w with page := w.page + 1, word := 0, retried := false } } }

/-- A record write with its pages: the working image as it stands when the first page begins (R235). -/
def State.filled (s : State) (w : OwnWrite) : OwnWrite :=
  if w.page = 0 ∧ w.word = 0 ∧ !w.retried then { w with pages := s.recordPages w.record w.slotB w.seq } else w

/-- The word that a record write is at: its address and its new value. -/
def OwnWrite.at (w : OwnWrite) : Nat × DWord := (w.pageNo * 32 + w.word, (w.pages.getD w.page []).getD w.word 0)

/-- The next word of a record write. -/
def State.ownWord (s : State) (w : OwnWrite) (bad : Option (Fin 32)) : State :=
  let w := s.filled w
  let s := s.writeStore w.at.1 w.at.2
  if w.word = 31 then s.endOwnPage w bad else { s with nvs := { s.nvs with own := some { w with word := w.word + 1 } } }

/-- The next word of a page write of yours (R241): verified by read-back once, with no retry. -/
def State.cmdWord (s : State) (c : NvsCmd) (bad : Option (Fin 32)) : State :=
  let s := s.writeStore (c.page * 32 + c.word) (c.words.getD c.word 0)
  if c.word = 31 then
    let s := match bad with
      | .none => s
      | some b => s.spoilWord (c.page * 32 + b.val)
    let s := ((s.bump Reg.NVS.WRITE_CNT).wr Reg.NVS.STAT_BUSY 0).wr Reg.NVS.STAT_RESULT (if bad.isSome then 2 else 0)
    { s with nvs := { s.nvs with cmd := .none } }
  else { s with nvs := { s.nvs with cmd := some { c with word := c.word + 1, started := true } } }

/-- Whether a page of a record write has begun and not ended. -/
def NvsState.midPage (n : NvsState) : Bool :=
  match n.own with
  | some w => decide (0 < w.word) || w.retried
  | .none => false

/-- Whether a record write may put its next word in the store now: within a page always; between pages not in the safe state, nor, for a set or the
datum, while untraced (R210, Table 7.8; log entry 189). -/
def State.ownMayGo (s : State) (w : OwnWrite) : Bool :=
  !w.waitSafe && (s.nvs.midPage || (!s.safe && s.mayWriteRecord w.record))

/-- NVS_WORD_WRITE (R235, R241, R242): one of the four words of a Recovery. A page in progress goes on; else your command goes first;
else the record's next page. `bad` is a word that the page's read-back finds uncorrectable. -/
def execNvsWordWrite (bad : Option (Fin 32)) (s : State) : Host.Outcome State Fault Refusal :=
  .next (
    if s.running && decide (s.nvs.slot < 4) then
      let go := fun (f : State → State) =>
        let t := s.atCycle (1040 + 56 * s.nvs.slot)
        f { t with nvs := { t.nvs with slot := t.nvs.slot + 1 } }
      match s.nvs.own, s.nvs.cmd with
      | some w, .none => if s.ownMayGo w then go fun t => t.ownWord w bad else s
      | some w, some c =>
        if s.nvs.midPage && !c.started then go fun t => t.ownWord w bad
        else if c.write then go fun t => t.cmdWord c bad else s
      | .none, some c => if c.write then go fun t => t.cmdWord c bad else s
      | .none, .none => s
    else s)

/-- NVS_WORD_DEFER (R49, R235): a record's word is due in a Recovery in which your command holds the store; one count a Recovery. -/
def execNvsWordDefer (s : State) : Host.Outcome State Fault Refusal :=
  .next (
    let due := match s.nvs.own with
      | some w => s.ownMayGo w && !s.nvs.midPage
      | .none => !s.safe && !s.recordsDue.isEmpty
    if s.running && s.nvs.cmd.isSome && due && !s.nvs.deferred then
      let s := (s.atCycle 1040).bump Reg.STK.OVR1_NVS
      { s with nvs := { s.nvs with deferred := true } }
    else s)

/-! ## Your commands (R240 to R242, R245) -/

/-- A command that ends at once with a result. -/
def State.nvsResult (s : State) (r : Nat) : State := s.wr Reg.NVS.STAT_RESULT r

/-- The words that NVS.BUF holds, and their commit word (R241). -/
def State.bufPage (s : State) : List DWord :=
  sealPage ((List.range 31).map fun k => BitVec.ofNat 64 (s.rdPair (Reg.NVS.BUF (2 * k)) (Reg.NVS.BUF (2 * k + 1))))

/-- A write to NVS.CMD: a command while busy is discarded; a write outside the user region or in the safe state is refused. A reserved
OP does nothing (R11). -/
def State.wrNvsCmd (data : Nat) (s : State) : State :=
  let op := bits data 31 30
  let page := bits data 13 0
  if op = 0 ∨ op = 3 then s
  else if s.flag Reg.NVS.STAT_BUSY then s.wr Reg.NVS.STAT_CMD_LOST 1
  else if op = 1 then
    { s.wr Reg.NVS.STAT_BUSY 1 with nvs := { s.nvs with cmd := some ⟨false, page, [], 0, false⟩ } }
  else if page < 0x3000 then s.nvsResult 1
  else if s.safe then s.nvsResult 3
  else { s.wr Reg.NVS.STAT_BUSY 1 with nvs := { s.nvs with cmd := some ⟨true, page, s.bufPage, 0, false⟩ } }

/-- NVS_CMD_READ (R240, R242). -/
def execNvsCmdRead (via : Path) (page : Nat) (s : State) : Host.Outcome State Fault Refusal :=
  .next (s.access via 0x005 0x040 (2 ^ 30 + page % 2 ^ 14) State.wrNvsCmd)

/-- NVS_CMD_WRITE (R241, R242, R245). -/
def execNvsCmdWrite (via : Path) (page : Nat) (s : State) : Host.Outcome State Fault Refusal :=
  .next (s.access via 0x005 0x040 (2 ^ 31 + page % 2 ^ 14) State.wrNvsCmd)

/-- What a read shows of a store word: the factory region's content is not published, and the raw bits of an uncorrectable word are not
stated (R240, R497). -/
def State.rawWord (s : State) (n a : Nat) (ue : Bool) : DWord :=
  if ue then Config.rawBits n a else if a < 0x100 * 32 then Config.factoryWord a else s.nvsWord a

/-- NVS_READ_COMPLETE (R240, R242), with the words that ECC corrects or finds uncorrectable as they are read. -/
def execNvsReadComplete (ce ue : BitVec 32) (s : State) : Host.Outcome State Fault Refusal :=
  .next (
    match s.nvs.cmd with
    | .none => s
    | some c =>
      if c.write || s.nvs.midPage then s
      else
        let (n, s) := s.fresh
        let bad := fun i => ue.getLsbD i || s.nvsEcc (c.page * 32 + i) == .uncorrectable
        let fixed := fun i => !bad i && (ce.getLsbD i || s.nvsEcc (c.page * 32 + i) == .corrected)
        let status := fun i => if bad i then 2 else if fixed i then 1 else 0
        let eccOf := fun k => ((List.range 16).map fun i => status (16 * k + i) * 4 ^ i).sum
        let s := (List.range 32).foldl (fun s i =>
          s.wrPair (Reg.NVS.WIN (2 * i)) (Reg.NVS.WIN (2 * i + 1)) (s.rawWord n (c.page * 32 + i) (bad i)).toNat) s
        let s := ((s.wr Reg.NVS.WIN_ECC0 (eccOf 0)).wr Reg.NVS.WIN_ECC1 (eccOf 1)).wr Reg.NVS.WIN_PAGE c.page
        let s := { (s.wr Reg.NVS.STAT_BUSY 0).wr Reg.NVS.STAT_RESULT 0 with nvs := { s.nvs with cmd := .none } }
        s.correctedRead (((List.range 32).filter fixed).map (c.page * 32 + ·)))

/-- The safe state's effect on the store (R245, Table 7.8): a write of yours that has not begun is refused, and a record write between
two pages waits. -/
def State.nvsSafe (s : State) : State :=
  let s := match s.nvs.cmd with
    | some c =>
      if c.write && !c.started then
        { (s.wr Reg.NVS.STAT_BUSY 0).nvsResult 3 with nvs := { s.nvs with cmd := .none } }
      else s
    | .none => s
  match s.nvs.own with
  | some w =>
    if s.nvs.midPage then s
    else { s with nvs := { s.nvs with own := some { w with page := 0, word := 0, retried := false, waitSafe := true } } }.wr
      Reg.NVS.STAT_OWN_WRITE 0
  | .none => s

/-! ## A page write cut short (R239) -/

/-- The address and the new value of the word that a page write is at, word 0 of a page that is to begin among them. -/
def State.wordAtHand (s : State) : Option (Nat × DWord) :=
  let own := match s.nvs.own with
    | some w => if s.ownMayGo w then some (s.filled w).at else .none
    | .none => .none
  match s.nvs.cmd with
  | some c => if c.write && (c.started || !s.nvs.midPage) then some (c.page * 32 + c.word, c.words.getD c.word 0) else own
  | .none => own

/-- The store with the word at hand cut: old, new, or uncorrectable. -/
def State.cutStore (s : State) (fate : WordFate) : State :=
  match s.wordAtHand, fate with
  | some a, .new => s.writeStore a.1 a.2
  | some a, .uncorrectable => s.spoilWord a.1
  | _, _ => s

/-- The die with its power gone, or held in full reset: fuses and store stay (R12, R239, R455); the count of free values runs on. -/
def State.reborn (s : State) (fate : WordFate) (tap : Tap) : State :=
  let t := s.cutStore fate
  { State.fullReset s.fuses t.nvs.words t.nvs.ecc tap true s.pending with freeCount := s.freeCount }

/-- POWER_LOSS (R239, R246). -/
def execPowerLoss (fate : WordFate) (s : State) : Host.Outcome State Fault Refusal := .next (s.reborn fate Tap.reset)

end Sys2Proof.Machine
end

