-- ==== Sys2Proof/Machine/Umpire.lean ====
section
/-! DEFINITION. The Umpire, the safe state and the logbook's writing (chapter 13; R152, R203, R245, R315, R368, R398, R427). -/

namespace Sys2Proof.Machine

/-! ## Fatal pages and rails (R431 to R433) -/

/-- The bit of GLB.PEND_SUMMARY that covers a page (Table 4.10). -/
def groupBit (pg : Nat) : Nat :=
  if pg < 0x15 then pg
  else if pg < 0x40 then 24
  else if pg < 0x60 then 25
  else if pg < 0x80 then 26
  else 27

/-- UMP.SRC (Table 13.8): the groups with a page whose ERR_FATAL is not 0. -/
def State.umpSrc (s : State) : Nat :=
  maskOf ((allPages.filter fun pg => s.rd (Reg.ERR_FATAL pg) != 0).map groupBit)

/-- RAIL_MISMATCH (R432): how many cycles in a row the two rails of a page's pair have been equal; 0 when they differ again. -/
def execRailMismatch (page cycles : Nat) (s : State) : Host.Outcome State Fault Refusal :=
  .next (
    if s.held || (blockOf page).isNone then s
    else
      let rest := s.ump.railFault.filter (· != page)
      let known := s.ump.railFault.contains page
      match cycles with
      | 0 => { s with ump := { s.ump with railFault := rest } }
      | 1 => if known then s else s.bump Reg.UMP.GLITCH_CNT
      | _ =>
        if known then s
        else { s with ump := { s.ump with railFault := rest ++ [page] } }.raise1 (detail Err.UMP.RAIL_MISMATCH page))

/-! ## Entry into the safe state (R436, Table 13.4) -/

/-- Every seat not in FAILED goes IDLE, and lane operations are abandoned (R203); an interrupted visit is dropped, and an interrupted
pass waits to start again (log entry 40). -/
def State.seatsSafe (s : State) : State :=
  let s := (List.range 576).foldl State.seatToIdle s
  let s := (List.range 16).foldl (fun s p =>
    let s := s.setLaneSt p { s.laneSt p with due := [], missing := [], swaps := [], restore := [], rxWait := [] }
    let s := s.setLink p { s.link p with ops := [], before := .none, words := [] }
    let s := s.wr (Reg.RWL.STAT_RESTORING p) 0
    if s.passing p then ((s.wrBit Reg.CAL.PASS_ACTIVE p false).wrBit Reg.CAL.PASS_QUEUED p true).setPassPair p 0 else s) s
  { s with cal := { s.cal with visits := [] } }

/-- Every slot not IDLE is IDLE with result SAFE, and the base map is to be restored by a change once the die has a live configuration
(R398). -/
def State.flumeSafe (s : State) : State :=
  let slots := (List.range 8).filter fun k => s.fanState k != 0
  let members := slots.flatMap s.fanMembers
  let s := slots.foldl (fun s k =>
    let s := (s.clearStream (fanTx k)).setFan k FanSlot.reset
    ((s.wr (Reg.FLM.FAN_STAT_STATE k) 0).wr (Reg.FLM.FAN_STAT_RESULT k) 11).wr (Reg.FLM.FAN_STAT_MEMBERS k) 0) s
  let live := decide (2 ≤ s.rd Reg.FLM.STAT_STATE)
  let s := { s with flm := { s.flm with window := .none, runAsked := false, changes := [] } }
  if live then (s.wr Reg.FLM.STAT_STATE 2).askChange .restore s.flm.map members else s

/-- Every command taken in and not completed ends; its completion is due at the next cycle 0 (R307, R368, R427). Only completions and
context-cache fills are still issued (R437). -/
def State.coxSafe (s : State) : State :=
  let kept := fun (r : HubReq) => match r.purpose with
    | .fill | .completion _ _ _ _ => true
    | .list _ | .job _ _ | .jobWrite _ _ | .land _ _ _ | .swapEntry _ => false
  let open_ := (s.runs.rounds.filter (·.isOpen)).length
  let s := s.returnPages .tly open_
  let s := (s.wr Reg.RGT.STAT_STATE 0).wr Reg.RSV.STAT_PAGING 0
  let s := s.runs.extents.foldl (fun s kv => s.setExtent kv.1 { s.extent kv.1 with writing := [] }) s
  { s with
    cox := { s.cox with
      cmds := s.cox.cmds.map fun (c : Cmd) => { c with phase := .ended }
      slots := [], bw := [], jobs := []
      waiting := s.cox.waiting.filter kept
      failed := s.cox.failed.filter fun f => kept f.1 }
    runs := { s.runs with rounds := [], run := .none, swap := .none, pressing := false } }

/-- The stamp of the control cycle after one (R433). -/
def Stamp.after (t : Stamp) : Stamp :=
  if t.cycle = 0x7FF then t else if t.cycle = 1279 then ⟨t.stroke + 1, 0⟩ else ⟨t.stroke, t.cycle + 1⟩

/-- Every port not in OFF raises LINK_DOWN with reason SAFE in the cycle of declaration; its link goes down at the next cycle 0 (R315,
Table 13.10). -/
def State.linksSafe (s : State) (at_ : Stamp) : State :=
  (List.range 16).foldl (fun s p =>
    if s.linkState p = 0 then s
    else
      let f : LinkFault := ⟨15, s.now, at_, s.linkInfo p noLane 15, (s.link p).oldest⟩
      (s.setLink p { s.link p with down := some f }).raiseAt at_ ⟨Err.LNK.LINK_DOWN p, f.info0, f.info1⟩) s

/-- The safe state declared, as SAFE or SEALED (Table 13.3), in the cycle with the given stamp; `cause` is the cycle whose fatal events caused
it (Table 13.5, SAFE). -/
def State.enterSafe (s : State) (st : Nat) (cause at_ : Stamp) : State :=
  let s := if at_.cycle = 0x7FF ∨ at_.stroke ≠ s.clk.stroke then s else s.atCycle (max s.clk.cycle (min at_.cycle 1279))
  let s := ((s.wr Reg.UMP.STAT_STATE st).wr Reg.UMP.STAT_SAFE 1).wr Reg.GLB.STAT_SAFE 1
  let s := (s.wrPair Reg.UMP.SAFE_STAMP_LO Reg.UMP.SAFE_STAMP_HI at_.word).bump Reg.UMP.FATAL_CNT_ENTRIES
  let s := { s with
    log := s.log.update (fun (e : LogEntry) => e.cls == EvClass.fatal && e.stamp == cause) fun e => { e with safe := true }
    ump := { s.ump with assertedAt := .none }
    clk := { s.clk with aliveFollows := false } }
  let s := (s.shutAll.seatsSafe).nvsSafe
  let s := if s.baRunning then s.baAbandon 8 else s
  ((s.flumeSafe.coxSafe).retireWaiting).linksSafe at_

/-- SAFE_STATE_ENTRY (R433, R435): in the cycle after the first one in which a pair was asserted. -/
def execSafeStateEntry (s : State) : Host.Outcome State Fault Refusal :=
  .next (
    match s.ump.assertedAt with
    | .none => s
    | some t => if s.rd Reg.UMP.STAT_STATE = 0 then s.enterSafe 1 t t.after else s)

/-- SELF_PARITY (R434): SEALED in the cycle of detection, and the safe state if it is not in force. -/
def execSelfParity (s : State) : Host.Outcome State Fault Refusal :=
  .next (
    if s.held then s
    else
      let wasSafe := s.safe
      let s := s.raise1 (plain Err.UMP.SELF_PARITY)
      if wasSafe then s.wr Reg.UMP.STAT_STATE 2 else s.enterSafe 2 s.stamp s.stamp)

/-- The actions of R307 on one port, with reason SAFE, at the cycle 0 after the declaration (R315). -/
def State.portSafe (s : State) (p : Nat) : State :=
  match (s.link p).down with
  | .none => s
  | some f =>
    if f.reason != 15 then s
    else
      let s := (((s.wr (Reg.LNK.STAT_REASON p) 15).bump (Reg.LNK.LINK_CNT_DOWN p)).setFetches p []).clearStream p
      let s := if s.returnsFan p then (s.clearStream (fanRx p)).leaveFanRx p else s
      (s.clearControl p 0).linkTo p 7

/-- The cycle 0 after the declaration: links go down, and the commands that the safe state ended complete with SAFE_STATE (R315, R368). -/
def State.safeBoundary (s : State) : State :=
  let s := (List.range 16).foldl State.portSafe s
  (s.cox.cmds.filter fun c => c.phase == .ended).foldl (fun s c => s.finish c stSafe 0) s

/-! ## Persistent conditions (R430, Table 13.2) -/

/-- The condition of a fatal source that is present, with its event's detail. -/
def State.fatalPresent (s : State) (page bit : Nat) : Option Event :=
  if page = 0x002 ∧ bit = 0 ∧ s.flag Reg.CKM.STAT_HOLDOVER then some (plain Err.CKM.REFCLK_LOSS)
  else if page = 0x002 ∧ bit = 1 ∧ s.flag Reg.CKM.STAT_BACKUP_OSC then some (plain Err.CKM.FWD_CLK_LOSS)
  else if page = 0x012 ∧ bit < 4 ∧ (s.hg bit).leaking then some ⟨⟨0x012, .fatal, bit⟩, bit, 0⟩
  else if page = 0x011 ∧ bit = 0 ∧ (s.sensor dieSensor).trip = 1 then
    let n := ((List.range 20).find? fun n => (s.sensor n).trip == 5).getD 0
    some (detail Err.THM.TRIP (thmInfo n ((s.sensor n).hist.headD 0)))
  else if page = 0x003 ∧ bit = 0 then (s.ump.railFault.head?).map fun pg => detail Err.UMP.RAIL_MISMATCH pg
  else .none

/-- FATAL_RERAISE (R430): a cleared bit whose condition is present is raised again. -/
def execFatalReraise (page bit : Nat) (s : State) : Host.Outcome State Fault Refusal :=
  .next (
    if bitAt (s.rd (Reg.ERR_FATAL page)) bit then s
    else match s.fatalPresent page bit with
      | .none => s
      | some e => s.raise1 e)

/-! ## Leaving the safe state (R438, R439) -/

/-- A write to UMP.CTRL: an exit request, which the next cycle 0 decides, or STAT_CLR or FIRST_CLR (Table 13.8). -/
def State.wrUmpCtrl (data : Nat) (s : State) : State :=
  let s := s.writeFields 0x003 0x004 data
  let s := if bitAt data 8 then { s with log := { s.log with first := .none } } else s
  let s := if bitAt data 9 then ((s.wr Reg.UMP.FATAL_CNT_ENTRIES 0).wr Reg.UMP.FATAL_CNT_EVENTS 0).wr Reg.UMP.GLITCH_CNT 0 else s
  if !bitAt data 10 then s
  else match s.rd Reg.UMP.STAT_STATE with
    | 1 => if s.ump.exitReq.isSome then s else
        { s with ump := { s.ump with exitReq := some (if s.running then s.now + 1 else 0) } }
    | 2 => s.wr Reg.UMP.STAT_EXIT_DENIED 1
    | _ => s

/-- UMP_EXIT (R438). -/
def execUmpExit (via : Path) (s : State) : Host.Outcome State Fault Refusal :=
  .next (s.access via 0x003 0x004 (s.stored 0x003 0x004 % 2 ^ 8 + 2 ^ 10) State.wrUmpCtrl)

/-- STAT_CLR (Table 13.6). -/
def execStatClr (via : Path) (s : State) : Host.Outcome State Fault Refusal :=
  .next (s.access via 0x003 0x004 (s.stored 0x003 0x004 % 2 ^ 8 + 2 ^ 9) State.wrUmpCtrl)

/-- FIRST_CLR (R444, Table 13.6). -/
def execFirstClr (via : Path) (s : State) : Host.Outcome State Fault Refusal :=
  .next (s.access via 0x003 0x004 (s.stored 0x003 0x004 % 2 ^ 8 + 2 ^ 8) State.wrUmpCtrl)

/-- The die back in RUN (Table 13.3, last column of Table 13.4): headgates reopen, ports enter WAIT, intake and paging resume; bring-up that was
under way goes on from the headgate step (R466). -/
def State.exitSafe (s : State) : State :=
  let s := ((s.wr Reg.UMP.STAT_STATE 0).wr Reg.UMP.STAT_SAFE 0).wr Reg.GLB.STAT_SAFE 0
  let s := s.wrPair Reg.UMP.EXIT_STAMP_LO Reg.UMP.EXIT_STAMP_HI s.stamp.word
  let ready := s.flag Reg.GLB.STAT_READY
  let s := if decide (4 ≤ s.stepNo) && !ready then s.toStep 4 else s
  let s := s.openAll
  let s := if ready then
      (List.range 16).foldl (fun s p => if s.flag (Reg.LNK.CTRL_DISABLE p) then s else s.toWait p 0) s
    else s
  s.pageIfDue.settle

/-- SAFE_STATE_EXIT (R438): the Umpire's decision at cycle 0. -/
def execSafeStateExit (s : State) : Host.Outcome State Fault Refusal :=
  .next (
    match s.ump.exitReq with
    | .none => s
    | some r =>
      if s.running && s.clk.cycle == 0 && decide (r ≤ s.now) then
        let s := { s with ump := { s.ump with exitReq := .none } }
        if s.umpSrc = 0 ∧ s.rd Reg.UMP.STAT_STATE = 1 then s.exitSafe else s.wr Reg.UMP.STAT_EXIT_DENIED 1
      else s)

/-! ## Writing the logbook (R442) -/

/-- The first write slot that an entry may use: not used up in this Recovery, not past, and after the entry's cycle of detection. -/
def State.logSlot (s : State) (e : LogEntry) : Nat :=
  let own := if e.stamp.stroke = s.clk.stroke ∧ e.stamp.cycle ≠ 0x7FF then e.stamp.cycle + 1 else 0
  let from_ := max own s.clk.cycle
  max s.log.slot ((from_ - 1040 + 3) / 4)

/-- LOGBOOK_WRITE (R442): the oldest queued entry, at its slot. -/
def execLogbookWrite (s : State) : Host.Outcome State Fault Refusal :=
  .next (
    match s.log.queue with
    | [] => s
    | e :: rest =>
      let k := s.logSlot e
      if s.running && decide (k < 60) then
        let s := (s.atCycle (1040 + 4 * k)).bump Reg.LOG.TOTAL
        { s with log := { s.log with
            queue := rest, book := Tab.write .none s.log.book (e.seq.toNat % 32) (some e), slot := k + 1 } }
      else s)

/-- LOG_CARRY (R49): a Recovery that leaves events queued. -/
def execLogCarry (s : State) : Host.Outcome State Fault Refusal :=
  .next (
    if s.running && !s.log.queue.isEmpty && decide (s.log.slot ≤ 60) then
      let s := (s.atCycle 1279).bump Reg.STK.OVR1_LOG
      { s with log := { s.log with slot := 61 } }
    else s)

end Sys2Proof.Machine
end

