-- ==== Sys2Proof/Machine/Stroke.lean ====
section
/-! DEFINITION. The stroke engine and the clocks: boundaries, the Finish, the marker and the references (chapter 2). -/

namespace Sys2Proof.Machine

/-! ## The boundary (R34, R38) -/

/-- The count of the next stroke: one more, or the one adopted from T0 (R38, R494). -/
def State.nextCount (s : State) : BitVec 48 := s.clk.adopt.getD (s.clk.stroke + 1)

/-- ALIVE at a cycle 0 that begins a count, and whether it follows bit 6 from there (R53, R439). -/
def State.aliveAt (s : State) (count : BitVec 48) : Bool × Bool :=
  if s.safe then (s.clk.alive, false)
  else if s.clk.aliveFollows || count.getLsbD 6 != s.clk.stroke.getLsbD 6 then (count.getLsbD 6, true)
  else (s.clk.alive, false)

/-- The marker word of a stroke, which T0 alone sends (R41). -/
def State.markerOf (s : State) (count : BitVec 48) : Option (BitVec 48 × BitVec 8) :=
  if s.isT0 then some (count, crc8 count) else .none

/-- The level of the marker in a reference cycle of a stroke (Table 2.4): the start pulse, a 0, the 48 bits of the count, the 8 of its CRC,
bit 0 of each first, and 0 to the end. -/
def markerLevel (count : BitVec 48) (crc : BitVec 8) (ref : Nat) : Bool :=
  if ref = 0 then true
  else if ref < 2 then false
  else if ref < 50 then count.getLsbD (ref - 2)
  else if ref < 58 then crc.getLsbD (ref - 50)
  else false

/-- What T0's marker outputs carry in the cycle at hand, eight control cycles to a reference cycle, and nothing on a follower (R41). -/
def State.markerOut (s : State) : Option Bool := s.clk.marker.map fun m => markerLevel m.1 m.2 (s.clk.cycle / 8)

/-- Cycle 0 of the next stroke, its work not done. -/
def State.nextStroke (s : State) : State :=
  let count := s.nextCount
  let alive := s.aliveAt count
  { s with
    clk := { s.clk with
      stroke := count, cycle := 0, elapsed := s.clk.elapsed + 1, adopt := .none, alive := alive.1, aliveFollows := alive.2,
      marker := s.markerOf count }
    nvs := { s.nvs with slot := 0, deferred := false }
    log := { s.log.newCycle with slot := 0, late := [] } }

/-- Remap switches at a stroke boundary, on every culvert (R78). -/
def State.remapBoundary (s : State) : State :=
  ((List.range 8).foldl (fun s c => s.wrB (Reg.CLV.STAT_REMAP_ON c) s.remapDue) s).flushWaiting

/-- An estimate as a table (R237). -/
def estimateTab (est : List Int) : Tab Int := (List.range 480).foldl (fun t i => Tab.write 0 t i (est.getD i 0)) []

/-- An accepted estimate goes live (R264, R393, R394): every MZI is released, fans and Cross are available, and a Flume record is due unless
one was written within the last 1,048,576 strokes (R230). -/
def State.estimateBoundary (s : State) : State :=
  match s.flm.nextEstimate with
  | .none => s
  | some est =>
    let recent := match Tab.read .none s.nvs.lastWrite 5 with
      | .none => false
      | some t => decide (s.now - t < recordGap)
    let s := { s with
      flm := { s.flm with estimate := estimateTab est, estLoaded := true, nextEstimate := .none }
      nvs := { s.nvs with flumeDue := s.nvs.flumeDue || !recent } }
    ((s.wr Reg.FLM.STAT_FAN_AVAIL 1).wr Reg.FLM.STAT_CROSS_AVAIL 1).releaseMzis fun _ => true

/-- BTH.SELF takes effect (R422). -/
def State.selfBoundary (s : State) : State :=
  { s with runs := { s.runs with selfNode := s.rd Reg.BTH.SELF_NODE, selfEpoch := s.rd Reg.BTH.SELF_EPOCH } }

/-- Strokes in which a running link was narrower than 16 lanes (Table 6.5). -/
def State.narrowBoundary (s : State) : State :=
  (List.range 16).foldl (fun s p =>
    let l := s.laneSt p
    if s.linkUp p && (decide (widthOf l.txMap < 16) || decide (widthOf l.rxMap < 16)) then s.bump (Reg.RWL.NARROW_STROKES p) else s) s

/-- Strokes with a replay stall on a port's streams (R290). -/
def State.stallBoundary (s : State) : State :=
  let stalled := (List.range 24).filter fun n => (s.link n).stalled
  let s := (stalled.map s.streamPort).dedup.foldl (fun s p => s.bump (Reg.LNK.STALL_STROKES p)) s
  stalled.foldl (fun s n => s.setLink n { s.link n with stalled := false }) s

/-- The strokes of holdover, of the backup oscillator, and since re-acquisition (R48, Table 2.8). -/
def State.holdBoundary (s : State) : State :=
  let s := if s.flag Reg.CKM.STAT_HOLDOVER || s.flag Reg.CKM.STAT_BACKUP_OSC then s.bump Reg.CKM.HOLD_CNT else s
  if s.clk.reacquired then { s with clk := { s.clk with holdCount := s.clk.holdCount + 1 } } else s

/-- What every cycle 0 does in each part of the die. -/
def State.boundaryWork (s : State) : State :=
  let s := if s.safe then s.safeBoundary else s
  let s := s.remapBoundary.seatBoundary
  let s := (List.range 16).foldl State.switchWeights s
  let s := if s.safe then s.lvlBoundary else s.lvlBoundary.passBoundary
  let s := s.estimateBoundary.selfBoundary
  let s := (List.range 16).foldl State.countLos s
  s.narrowBoundary.stallBoundary.holdBoundary.settle

/-- STROKE_BOUNDARY (R34, R38). -/
def execStrokeBoundary (s : State) : Host.Outcome State Fault Refusal :=
  .next (if s.running && !s.held then s.nextStroke.boundaryWork else s)

/-! ## The Finish (R33, R36, R188) -/

/-- The self-heating feedforward of seats whose dark slot a message filled (R188): its size is open (log entry 6). -/
def State.addFeedforward (s : State) (p : Nat) : State :=
  let l := s.laneSt p
  if !l.filled then s
  else
    let keys := (l.txMap.filter (· < 18)).map (s.txSeat p)
    let s := keys.foldl (fun s k =>
      let n := s.freeCount
      let t := s.fresh.2
      t.setSeat k { t.seat k with target := (t.seat k).target + Config.feedforward n }) s
    s.setLaneSt p { s.laneSt p with filled := false }

/-- ACTUATOR_SET_LIVE (R36). -/
def execActuatorSetLive (s : State) : Host.Outcome State Fault Refusal :=
  .next (
    if s.running then
      let s := (s.atCycle 960).lvlFinish.latchOutputs.darkFinish
      ((List.range 16).foldl State.addFeedforward s).flumeFinish
    else s)

/-! ## The first stroke (R44, R51) -/

/-- The first stroke begins with a count (R44, R51). -/
def State.startStrokes (s : State) (count : BitVec 48) : State :=
  let s := s.wr Reg.STK.STAT_RUNNING 1
  { s with clk := { s.clk with
      stroke := count, cycle := 0, elapsed := 0, alive := if s.safe then s.clk.alive else count.getLsbD 6,
      aliveFollows := !s.safe, marker := s.markerOf count } }

/-- The value of CKM.LOCK_TIME: it has 16 bits, and holds its last value beyond them (log entry 173). -/
def lockTime (refCycles : Nat) : Nat := min refCycles 0xFFFF

/-- PLL_LOCK (R51): on T0 the first stroke begins with it, and the package outputs (Table 14.2). -/
def execPllLock (refCycles : Nat) (s : State) : Host.Outcome State Fault Refusal :=
  .next (
    if s.held || s.flag Reg.CKM.STAT_PLL_LOCK || s.stepNo != 0 then s
    else
      let s := ((s.wr Reg.CKM.STAT_PLL_LOCK 1).wr Reg.CKM.STAT_REF_PRESENT 1).wr Reg.CKM.LOCK_TIME (lockTime refCycles)
      let s := { s.wr Reg.GLB.STAT_STEP 1 with clk := { s.clk with lockAt := refCycles } }
      if s.isT0 then (s.wr Reg.CKM.STAT_OUT_ACTIVE 0x1F).startStrokes 0 else s)

/-! ## The marker on a follower (R42, R44, R45, R494) -/

/-- Whether a follower heeds its marker input (R46, R47). -/
def State.heeds (s : State) : Bool := !s.held && !s.isT0 && s.flag Reg.CKM.STAT_PLL_LOCK

/-- MARKER_START_PULSE (R42, R44, R45): `time` counts control cycles, in ACQUIRE from any point, from then on from a cycle 0. -/
def execMarkerStartPulse (time : Nat) (s : State) : Host.Outcome State Fault Refusal :=
  .next (
    if !s.heeds then s
    else if s.running then
      if time % 1280 = 0 then s else (s.atCycle (time % 1280)).raise1 (plain Err.STK.MARKER_PHASE)
    else
      match s.clk.word2 with
      | some w =>
        if time = w.1 + 1280 then
          ({ s.wr Reg.STK.STAT_SYNC 1 with clk := { s.clk with pulseAt := .none, word1 := .none, word2 := .none } }).startStrokes (w.2 + 1)
        else { s with clk := { s.clk with pulseAt := some time, word2 := .none } }
      | .none => { s with clk := { s.clk with pulseAt := some time } })

/-- A word at its CRC's end in ACQUIRE (R44): the last valid word, and the second of two that belong together. -/
def State.acquireWord (s : State) (count : BitVec 48) (crc : BitVec 8) : State :=
  match s.clk.pulseAt with
  | .none => s
  | some t =>
    if crc8 count = crc then
      let second := s.clk.word1 == some (t - 1280, count - 1) && decide (1280 ≤ t)
      { s with clk := { s.clk with
          pulseAt := .none, word1 := some (t, count), word2 := if second then some (t, count) else .none } }
    else { s with clk := { s.clk with pulseAt := .none, word1 := .none, word2 := .none } }

/-- A missed marker (Table 2.5): the 16th in a row is left to FREEWHEEL. -/
def State.markerMiss (s : State) : State :=
  let s := (s.bump Reg.STK.MISS_CNT_TOTAL).bump Reg.STK.MISS_CNT_CONSEC
  if s.rd Reg.STK.STAT_SYNC = 1 ∧ s.rd Reg.STK.MISS_CNT_CONSEC < 16 then s.raise1 (plain Err.STK.MARKER_MISS) else s

/-- A valid word in LOCKED or FREEWHEEL (Table 2.5, R494). -/
def State.markerWord (s : State) (count : BitVec 48) : State :=
  let wasFree := s.rd Reg.STK.STAT_SYNC == 2
  let own := s.clk.stroke
  let s := (s.wr Reg.STK.MISS_CNT_CONSEC 0).wr Reg.STK.STAT_SYNC 1
  if count = own then if wasFree then s.raise1 (plain Err.STK.FREEWHEEL_END) else s
  else
    { s with clk := { s.clk with adopt := some (count + 1) } }.raise1
      ⟨Err.STK.COUNT_RESYNC, own.toNat % 2 ^ 32, (count + 1).toNat % 2 ^ 32⟩

/-- MARKER_DECISION (R44, R45, R494): the marker of a stroke, decided at cycle 464. -/
def execMarkerDecision (pulse : Bool) (count : BitVec 48) (crc : BitVec 8) (s : State) : Host.Outcome State Fault Refusal :=
  .next (
    if !s.heeds then s
    else if !s.running then s.acquireWord count crc
    else
      let s := s.atCycle 464
      if pulse && crc8 count == crc then s.markerWord count else s.markerMiss)

/-- FREEWHEEL (R45): the 16th consecutive miss. -/
def execFreewheel (s : State) : Host.Outcome State Fault Refusal :=
  .next (
    if s.heeds && s.running && s.rd Reg.STK.STAT_SYNC == 1 && decide (16 ≤ s.rd Reg.STK.MISS_CNT_CONSEC) then
      ((s.atCycle 464).wr Reg.STK.STAT_SYNC 2).raise1 (plain Err.STK.FREEWHEEL)
    else s)

/-! ## References (R47, R48) -/

/-- FWD_CLK_LOSS (R47): from the first PLL lock on, the follower goes over to the backup oscillator for good; its PLL then reads unlocked and
its reference absent (log entry 174). -/
def execFwdClkLoss (s : State) : Host.Outcome State Fault Refusal :=
  .next (
    if s.held || s.isT0 || s.flag Reg.CKM.STAT_BACKUP_OSC then s
    else if !s.flag Reg.CKM.STAT_PLL_LOCK then s.wr Reg.CKM.STAT_REF_PRESENT 0
    else
      let s := ((s.wr Reg.CKM.STAT_PLL_LOCK 0).wr Reg.CKM.STAT_REF_PRESENT 0).wr Reg.CKM.STAT_BACKUP_OSC 1
      let s := (s.wr Reg.STK.STAT_BACKUP 1).wr Reg.STK.STAT_SYNC 2
      s.raise1 (plain Err.CKM.FWD_CLK_LOSS))

/-- REFCLK_LOSS (R48): from the first PLL lock on, T0 goes into holdover; a loss in holdover starts the way out again. -/
def execRefclkLoss (s : State) : Host.Outcome State Fault Refusal :=
  .next (
    if s.held || !s.isT0 then s
    else if !s.running || !s.flag Reg.CKM.STAT_REF_PRESENT then s.wr Reg.CKM.STAT_REF_PRESENT 0
    else
      let s := ((s.wr Reg.CKM.STAT_REF_PRESENT 0).wr Reg.CKM.STAT_PLL_LOCK 0).wr Reg.CKM.STAT_HOLDOVER 1
      let s := { s.wr Reg.STK.STAT_HOLDOVER 1 with clk := { s.clk with reacquired := false, holdCount := 0 } }
      s.raise1 (plain Err.CKM.REFCLK_LOSS))

/-- REFCLK_RETURN (R48): T0's reference is present, and re-acquisition begins. A follower's forwarded reference that returns changes nothing,
REF_PRESENT not either (R47; log entry 174). -/
def execRefclkReturn (s : State) : Host.Outcome State Fault Refusal :=
  .next (if s.held || !s.isT0 then s else s.wr Reg.CKM.STAT_REF_PRESENT 1)

/-- REFCLK_REACQUIRED (R48): the count of 16 strokes begins with the next one. -/
def execRefclkReacquired (s : State) : Host.Outcome State Fault Refusal :=
  .next (
    if s.flag Reg.CKM.STAT_HOLDOVER && s.flag Reg.CKM.STAT_REF_PRESENT && !s.clk.reacquired then
      { s with clk := { s.clk with reacquired := true, holdCount := 0 } }
    else s)

/-- HOLDOVER_EXIT (R48): 16 whole strokes after re-acquisition; LOCK_TIME is of this lock (Table 2.8). -/
def execHoldoverExit (s : State) : Host.Outcome State Fault Refusal :=
  .next (
    if s.flag Reg.CKM.STAT_HOLDOVER && s.clk.reacquired && decide (17 ≤ s.clk.holdCount) then
      let s := ((s.wr Reg.CKM.STAT_HOLDOVER 0).wr Reg.STK.STAT_HOLDOVER 0).wr Reg.CKM.STAT_PLL_LOCK 1
      let s := s.wr Reg.CKM.LOCK_TIME (lockTime (s.clk.lockAt + s.absCycle / 8))
      { s with clk := { s.clk with reacquired := false, holdCount := 0 } }
    else s)

/-- A write to STK.OVR_CLR (Table 2.7). -/
def State.wrOvrClr (data : Nat) (s : State) : State :=
  ((List.range 8).filter (bitAt data)).foldl (fun s i =>
    s.wr ([Reg.STK.OVR0_SAMPLE, Reg.STK.OVR0_DEMOD, Reg.STK.OVR0_SOLVE, Reg.STK.OVR0_CALSTEP, Reg.STK.OVR1_MESH,
      Reg.STK.OVR1_REFACTOR, Reg.STK.OVR1_NVS, Reg.STK.OVR1_LOG].getD i Reg.STK.OVR0_SAMPLE) 0) s

/-- OVR_CLR (R49, Table 2.7). -/
def execOvrClr (via : Path) (data : Word) (s : State) : Host.Outcome State Fault Refusal :=
  .next (s.access via 0x001 0x058 data.toNat State.wrOvrClr)

end Sys2Proof.Machine
end

