-- ==== Sys2Proof/Machine/Views.lean ====
section
/-! DEFINITION. What a read of control space returns: stored fields, and the registers that show something held elsewhere (R102 to R110,
R140, R443, and the register tables of each chapter). -/

namespace Sys2Proof.Machine

/-! ## Shared pieces -/

/-- Four values packed into the bytes of a word. -/
def fourBytes (f : Nat → Nat) : Nat := f 0 + f 1 * 2 ^ 8 + f 2 * 2 ^ 16 + f 3 * 2 ^ 24

/-- Eight values packed into the nibbles of a word. -/
def eightNibbles (f : Nat → Nat) : Nat := (List.range 8).foldl (fun a i => a + f i % 16 * 2 ^ (4 * i)) 0

/-- A class as the logbook codes it (Table 13.5). -/
def classCode (c : EvClass) : Nat := severity c

/-- A logbook entry as its four words (Table 13.5, R443). -/
def entryWords (e : LogEntry) : List Word :=
  let w0 := e.stamp.stroke.toNat % 2 ^ 40 + e.stamp.cycle * 2 ^ 40 + e.page * 2 ^ 51 + classCode e.cls * 2 ^ 61
  let w1 := e.info % 2 ^ 32 + e.code * 2 ^ 32 + ofBool e.shared * 2 ^ 40 + ofBool e.first * 2 ^ 41 + ofBool e.safe * 2 ^ 42 +
    ofBool e.merged * 2 ^ 43 + ofBool e.lost * 2 ^ 44 + e.seq.toNat * 2 ^ 48
  [BitVec.ofNat 32 w0, BitVec.ofNat 32 (w0 / 2 ^ 32), BitVec.ofNat 32 w1, BitVec.ofNat 32 (w1 / 2 ^ 32)]

/-- A word of an optional entry, 0 where there is none. -/
def entryWordAt (e : Option LogEntry) (i : Nat) : Nat := (((e.map entryWords).getD []).getD i 0).toNat

/-- A page's first-error record, if it is not empty. -/
def State.record (s : State) (pg : Nat) : Option ErrRec := Tab.read .none s.recs pg

/-- A register of a page read as a number with one field set aside and given a value. -/
def State.withField (s : State) (pg off hi lo v : Nat) : Nat :=
  let w := s.stored pg off
  w - bits w hi lo * 2 ^ lo + v % 2 ^ (hi - lo + 1) * 2 ^ lo

/-! ## PEND (R109, R140, R141) -/

/-- Whether an operation of a page's block is in progress (Table 4.2; log entry 41 says which operation each page shows). -/
def State.busy (s : State) (pg : Nat) : Bool :=
  match blockOf pg with
  | some .nvs => s.flag Reg.NVS.STAT_BUSY || s.flag Reg.NVS.STAT_OWN_WRITE
  | some .cox => s.flag Reg.COX.CC_STAT
  | some .cal => !s.cal.visits.isEmpty || s.rd Reg.CAL.PASS_ACTIVE != 0
  | some .lvl => s.rd Reg.LVL.REFACTOR != 0 || s.rd Reg.LVL.STAT_THERMAL == 4 || s.baRunning
  | some .flm => s.changing
  | some .clv => let st := s.culvState (pg - 0x020); (decide (1 ≤ st) && decide (st ≤ 4)) || st == 6 || st == 8
  | _ => false

/-- PEND of a page but GLB's own, whose bits 3:0 here are of its own errors (Table 4.2). -/
def State.pendOf (s : State) (pg : Nat) : Nat :=
  ofBool (s.rd (Reg.ERR_CORR pg) != 0) + ofBool (s.rd (Reg.ERR_CONT pg) != 0) * 2 + ofBool (s.rd (Reg.ERR_FATAL pg) != 0) * 4 +
    ofBool (pg == 0x003 && s.safe) * 8 + ofBool (s.busy pg) * 16

/-- The ERR bits of a class on a page but for those set at cycle 1040 or later of the stroke at hand (R141). -/
def State.errSampled (s : State) (cls : EvClass) (pg : Nat) : Nat :=
  maskOf ((setBits 32 (s.rd (errField cls pg))).filter fun b => !s.log.late.contains (pg, cls, b))

/-- PEND bits 3:0 of a page as cycle 1040 finds them, after its masks (Table 4.3, R141). -/
def State.pendMasked (s : State) (pg : Nat) : Nat :=
  let v := ofBool (s.errSampled .corr pg != 0) + ofBool (s.errSampled .cont pg != 0) * 2 + ofBool (s.errSampled .fatal pg != 0) * 4 +
    ofBool (pg == 0x003 && s.safe) * 8
  let v := if s.flag (Reg.CTRL_MASK_CORR pg) then clearBit v 0 else v
  if s.flag (Reg.CTRL_MASK_ATTN pg) then clearBit v 3 else v

/-- GLB.PEND as sampled last (R140, R141). -/
def Reg.GLB_PEND : Field := ⟨0x000, 0x00C, 4, 0, 0⟩

/-- The bits of pages from `base` on that report something after masking. -/
def State.pendBits (s : State) (base n : Nat) : Nat := maskOf ((List.range n).filter fun i => s.pendMasked (base + i) != 0)

/-- GLB.PEND and the summaries take the values of cycle 1040 (R140, R141). -/
def State.samplePend (s : State) : State :=
  let masked := allPages.map s.pendMasked
  let any := fun i => masked.any fun v => bitAt v i
  let pend := ofBool (any 0) + ofBool (any 1) * 2 + ofBool (any 2) * 4 + ofBool (any 3) * 8 + ofBool (allPages.any s.busy) * 16
  let clv := s.pendBits 0x020 8
  let lnk := s.pendBits 0x040 16
  let opt := s.pendBits 0x060 16
  let rwl := s.pendBits 0x080 16
  let page := s.pendBits 0 0x15
  let s := ((s.wr Reg.GLB_PEND pend).wr Reg.GLB.PEND_SUMMARY_PAGE page).wrB Reg.GLB.PEND_SUMMARY_CLV (clv != 0)
  let s := ((s.wrB Reg.GLB.PEND_SUMMARY_LNK (lnk != 0)).wrB Reg.GLB.PEND_SUMMARY_OPT (opt != 0)).wrB Reg.GLB.PEND_SUMMARY_RWL (rwl != 0)
  (((s.wr Reg.GLB.PEND_CLV clv).wr Reg.GLB.PEND_LNK lnk).wr Reg.GLB.PEND_OPT opt).wr Reg.GLB.PEND_RWL rwl

/-- PEND_SAMPLE (R141). -/
def execPendSample (s : State) : Host.Outcome State Fault Refusal :=
  .next (if s.running then (s.atCycle 1041).samplePend else s)

/-! ## Computed registers, block by block -/

/-- The common header (Table 4.2). -/
def State.viewHeader (s : State) (pg off : Nat) (b : Block) : Option Nat :=
  match off with
  | 0x000 => some (b.type * 2 ^ 16 + (pg - b.type) * 2 ^ 8 + 1)
  | 0x00C => some (if pg = 0 then s.rd Reg.GLB_PEND else s.pendOf pg)
  | 0x010 => some (s.rd (Reg.ERR_CORR pg))
  | 0x014 => some (s.rd (Reg.ERR_CONT pg))
  | 0x018 => some (s.rd (Reg.ERR_FATAL pg))
  | 0x020 => some (((s.record pg).map (·.info0)).getD 0 % 2 ^ 32)
  | 0x024 => some (((s.record pg).map (·.info1)).getD 0 % 2 ^ 32)
  | 0x028 => some (((s.record pg).map (·.stamp.word)).getD 0 % 2 ^ 32)
  | 0x02C => some (((s.record pg).map (·.stamp.word)).getD 0 / 2 ^ 32)
  | _ => .none

/-- GLB and MGT: fuses and straps (Tables 4.10, 4.11). -/
def State.viewGlb (s : State) (off : Nat) : Option Nat :=
  match off with
  | 0x044 => some s.fuses.setCode.toNat
  | 0x04C => some (s.fuses.serial.toNat % 2 ^ 32)
  | 0x050 => some (s.fuses.serial.toNat / 2 ^ 32)
  | _ => .none

/-- The static address of the management port (Table 4.7). -/
def State.staticAddr (s : State) : Nat := 0x30 + s.rd Reg.GLB.STRAPS_I3C_ADDR

/-- The provisioned ID's low word (Table 4.7). -/
def State.pidLo (s : State) : Nat := 0x7A51 * 2 ^ 16 + s.rd Reg.GLB.STRAPS_I3C_ADDR * 2 ^ 12 + 0x0B0

/-- MGT (Table 4.11). -/
def State.viewMgt (s : State) (off : Nat) : Option Nat :=
  match off with
  | 0x040 => some s.staticAddr
  | 0x044 => some s.pidLo
  | _ => .none

/-- The phase of a cycle (Table 2.1). -/
def phaseOf (c : Nat) : Nat := if c < 160 then 0 else if c < 960 then 1 else if c < 1040 then 2 else 3

/-- STK (Table 2.7, R46, R51): SYNC and MASTER of T0 read MASTER from reset on (log entry 179). -/
def State.viewStk (s : State) (off : Nat) : Option Nat :=
  match off with
  | 0x008 => some (if s.isT0 then s.stored 0x001 0x008 - s.rd Reg.STK.STAT_SYNC * 4 + 0xE else s.stored 0x001 0x008)
  | 0x040 => some (s.clk.stroke.toNat % 2 ^ 32)
  | 0x044 => some (s.clk.stroke.toNat / 2 ^ 32)
  | 0x048 => some (if s.running then phaseOf s.clk.cycle * 2 ^ 16 + s.clk.cycle else 0)
  | _ => .none

/-- UMP (Table 13.8). -/
def State.viewUmp (s : State) (off : Nat) : Option Nat :=
  match off with
  | 0x040 => some s.umpSrc
  | 0x060 => some (entryWordAt s.log.first 0)
  | 0x064 => some (entryWordAt s.log.first 1)
  | 0x068 => some (entryWordAt s.log.first 2)
  | 0x06C => some (entryWordAt s.log.first 3)
  | _ => .none

/-- LOG (Table 13.9). -/
def State.viewLog (s : State) (off : Nat) : Option Nat :=
  if off = 0x008 then some (s.log.book.length * 2 ^ 16 + s.log.nextSeq.toNat)
  else if off = 0x048 then some s.log.queue.length
  else if 0x100 ≤ off ∧ off < 0x300 then
    some (entryWordAt (Tab.read .none s.log.book ((off - 0x100) / 16)) ((off - 0x100) % 16 / 4))
  else .none

/-- CLV (Table 3.11): STEER0 to STEER7 read 0 but on C0. -/
def State.viewClv (s : State) (c off : Nat) : Option Nat :=
  let x := s.culv c
  if off = 0x008 then some (s.withField (0x020 + c) 0x008 7 7 (s.rd Reg.GLB.STRAPS_MODE))
  else if off = 0x050 then some (x.txAcked.toNat * 2 ^ 12 + x.txNext.toNat)
  else if off = 0x054 then some (min ((x.reqs.filter (!·.write)).length) 0x3FF * 2 ^ 16 + x.replay.length)
  else if 0x080 ≤ off ∧ off < 0x0A0 ∧ c ≠ 0 then some 0
  else .none

/-- Lanes of the transmit map whose seat is LOCKED (Table 5.9). -/
def State.lockedLanes (s : State) (p : Nat) : Nat :=
  (((s.laneSt p).txMap.filter (· < 18)).filter fun k => (s.seat (s.txSeat p k)).state == .locked).length

/-- OPT (Table 5.9, R156, R168): an isolated channel's MON_CODE shows its STROKE and ISOLATED alone. -/
def State.viewOpt (s : State) (p off : Nat) : Option Nat :=
  let l := s.laneSt p
  if off = 0x008 then
    let spares := if s.linkUp p then min (s.freeSpares p).length 3 else 0
    some (s.stored (0x060 + p) 0x008 % 2 ^ 12 + spares * 2 ^ 12 + s.lockedLanes p * 2 ^ 16)
  else if off = 0x070 then some (maskOf ((List.range 32).filter (s.chanIsolated p)))
  else if off = 0x074 then some (maskOf ((List.range 8).filter fun i => s.chanIsolated p (32 + i)))
  else if 0x100 ≤ off ∧ off < 0x1A0 then
    let w := s.stored (0x060 + p) off
    some (if s.chanIsolated p ((off - 0x100) / 4) then w / 2 ^ 16 * 2 ^ 16 + 2 ^ 12 else w)
  else if 0x040 ≤ off ∧ off < 0x050 then some (fourBytes fun j => l.txMap.getD ((off - 0x040) + j) noSeat)
  else if 0x050 ≤ off ∧ off < 0x060 then some (fourBytes fun j => l.rxMap.getD ((off - 0x050) + j) noSeat)
  else .none

/-- A seat's status word (Table 6.5). -/
def State.seatWord (s : State) (k : Nat) : Nat :=
  let u := s.seat k
  bitsOfInt 12 u.error * 2 ^ 20 + u.lolRun % 16 * 2 ^ 16 + laneCode (s.laneOfSeat k) * 2 ^ 8 + u.member % 4 * 2 ^ 4 + u.state.code

/-- A seat's heater word (Table 6.5). -/
def State.heaterWord (s : State) (k : Nat) : Nat := ofBool (s.seat k).clip * 2 ^ 31 + (s.seat k).code % 2 ^ 16

/-- Seats of a port in a state, among some lines of one side. -/
def State.seatsIn (s : State) (p : Nat) (side : Side) (st : SeatState) : Nat :=
  ((List.range 18).filter fun k => (s.seat (seatKey p side k)).state == st).length

/-- RWL (Table 6.5). -/
def State.viewRwl (s : State) (p off : Nat) : Option Nat :=
  if off = 0x008 then
    let failed := s.seatsIn p .tx .failed + s.seatsIn p .rx .failed
    some (s.rd (Reg.RWL.STAT_RESTORING p) * 2 ^ 25 + ofBool s.thermalMiss * 2 ^ 24 + failed * 2 ^ 16 +
      min (s.seatsIn p .tx .hotSpare) 3 * 2 ^ 8 + s.lockedLanes p)
  else if 0x100 ≤ off ∧ off < 0x148 then some (s.seatWord (seatKey p .tx ((off - 0x100) / 4)))
  else if 0x180 ≤ off ∧ off < 0x1C8 then some (s.seatWord (seatKey p .rx ((off - 0x180) / 4)))
  else if 0x200 ≤ off ∧ off < 0x248 then some (s.heaterWord (seatKey p .tx ((off - 0x200) / 4)))
  else if 0x280 ≤ off ∧ off < 0x2C8 then some (s.heaterWord (seatKey p .rx ((off - 0x280) / 4)))
  else .none

/-- WEI (Table 6.6): the dark levels, and the ports with driver starts waiting. -/
def State.viewWei (s : State) (off : Nat) : Option Nat :=
  if 0x060 ≤ off ∧ off < 0x070 then some (fourBytes fun j => (s.laneSt ((off - 0x060) + j)).dark % 32)
  else if off = 0x070 then some (maskOf ((List.range 16).filter fun p => !(s.driversDue p).isEmpty))
  else .none

/-- The live entry of the seat that CAL.SEAT_SEL selects (Table 7.9), 0 before calibration is loaded; VALID is 0 while it rests on no measurement
(R244). -/
def State.selectedEntry (s : State) : Nat :=
  let side := if s.flag Reg.CAL.SEAT_SEL_SIDE then Side.rx else Side.tx
  let k := seatKey (s.rd Reg.CAL.SEAT_SEL_PORT) side (s.rd Reg.CAL.SEAT_SEL_SEAT)
  let w := (entryWord (s.activeEntry k)).toNat
  if !s.calLoaded then 0
  else if s.presentSets.isEmpty && (s.liveCal k).hcell.isNone then clearBit w 0 else w

/-- CAL (Table 7.9). -/
def State.viewCal (s : State) (off : Nat) : Option Nat :=
  match off with
  | 0x0C4 => some (s.selectedEntry % 2 ^ 32)
  | 0x0C8 => some (s.selectedEntry / 2 ^ 32)
  | _ => .none

/-- LVL (Table 8.8): BA_COLD is of the current run, and IN_PATTERN of positions between blocks (R249, Table 8.9). -/
def State.viewLvl (s : State) (off : Nat) : Option Nat :=
  match off with
  | 0x008 =>
    let w := s.withField 0x007 0x008 28 24 (countBits 24 (s.rd Reg.LVL.REFACTOR))
    some (if s.baRunning then w else clearBit w 17)
  | 0x084 =>
    let i := s.rd Reg.LVL.MAT_SEL_ROW
    let j := s.rd Reg.LVL.MAT_SEL_COL
    some (ofBool (inPattern i j) * 2 ^ 16 + bitsOfInt 16 (s.liveMat i j))
  | 0x088 => some s.ratioMin
  | _ => .none

/-- The fan slot whose source or member a port is, with its role: 1 source, 2 lent (Table 9.11). -/
def State.fanRole (s : State) (p : Nat) : Nat × Option Nat :=
  match s.slotOfFibre p with
  | some k => (if s.rd (Reg.FLM.FAN_CFG_SOURCE k) = p then 1 else 2, some k)
  | .none => (s.rd (Reg.LNK.STAT_FAN_ROLE p), .none)

/-- The lowest SEQ that the members of a slot have all acknowledged (Table 9.11). -/
def State.fanAcked (s : State) (k : Nat) : Nat := (s.link (fanTx k)).txAcked.toNat

/-- LNK (Table 9.11). -/
def State.viewLnk (s : State) (p off : Nat) : Option Nat :=
  let l := s.link p
  let role := s.fanRole p
  let up := s.linkUp p
  match off with
  | 0x008 =>
    let w := s.stored (0x040 + p) 0x008
    let m := s.laneSt p
    some (bits w 31 28 * 2 ^ 28 + role.1 * 2 ^ 26 + bits w 23 21 * 2 ^ 21 + (if up then widthOf m.rxMap else 0) * 2 ^ 16 +
      (if up then widthOf m.txMap else 0) * 2 ^ 8 + ofBool (s.txReady p) * 2 ^ 7 + w % 2 ^ 7)
  | 0x080 => some l.txNext.toNat
  | 0x084 => some l.txAcked.toNat
  | 0x088 => some l.rxNext.toNat
  | 0x08C => some (s.rplUsed p)
  | 0x0B0 =>
    match role.2 with
    | some k => some (s.rd (Reg.FLM.FAN_STAT_MEMBERS k) * 2 ^ 16 + s.rd (Reg.FLM.FAN_CFG_ID k) * 2 ^ 8 + role.1)
    | .none => some (s.stored (0x040 + p) 0x0B0 / 4 * 4 + role.1)
  | 0x0B4 => some (match role.1, role.2 with
    | 1, some k => (s.link (fanTx k)).txNext.toNat
    | _, _ => 0)
  | 0x0B8 => some (match role.1, role.2 with
    | 1, some k => s.fanAcked k
    | _, _ => 0xFFFFFF)
  | _ =>
    if 0x070 ≤ off ∧ off < 0x080 then
      let c := s.credit p ((off - 0x070) / 4)
      some (if up then min c.1 0xFFF * 2 ^ 20 + min c.2 0xFFFFF else 0)
    else .none

/-- An intake queue's status (Table 10.11). -/
def State.iqStat (s : State) (k : Nat) : Nat :=
  let waiting := match (Tab.read .none s.cox.slots k).bind s.cmd with
    | some c => if c.phase = .waitBuoy then 1 else if c.phase = .fence then 2 else 0
    | .none => 0
  let next := s.nextCmd (sourceOf k)
  let oq := match next with
    | some ws => s.oqWaits ws
    | .none => false
  let bw := match next with
    | some ws => s.bwWaits ws
    | .none => false
  waiting + ofBool bw * 4 + ofBool oq * 8 + s.rd (Reg.COX.IQ_STAT_STOPPED k) * 16

/-- Ports with entries in the Backwater (Table 10.11). -/
def State.bwPorts (s : State) : Nat :=
  maskOf ((s.cox.cmds.filterMap fun c => match c.phase with
    | .held n _ => some (s.streamPort n)
    | .waitBuoy => .none
    | .fence => .none
    | .running => .none
    | .ended => .none).dedup)

/-- COX (Table 10.11). -/
def State.viewCox (s : State) (off : Nat) : Option Nat :=
  if off = 0x008 then some (min s.cox.cmds.length 0x1FFF * 2 ^ 16 + s.cox.bw.length)
  else if off = 0x050 then some s.bwPorts
  else if 0x400 ≤ off ∧ off < 0xC00 ∧ off % 0x20 = 0x14 then some (s.iqStat ((off - 0x400) / 0x20))
  else .none

/-- RSV (Table 10.12): PEEK's data are 0 until a page has been given, then open (R361, log entry 2). -/
def State.viewRsv (s : State) (off : Nat) : Option Nat :=
  if off = 0x008 then some (s.rd Reg.RSV.STAT_PAGING * 2 ^ 31 + s.freePages)
  else if 0x0C0 ≤ off ∧ off < 0x100 then 
    some (if s.runs.paged then (Config.peek s.absCycle (s.rd Reg.RSV.PEEK_ADDR) ((off - 0x0C0) / 4)).toNat else 0)
  else .none

/-- BUO (Table 10.13). -/
def State.viewBuo (s : State) (off : Nat) : Option Nat :=
  if off = 0x050 then some s.cox.slots.length
  else if 0x100 ≤ off ∧ off < 0x300 then
    let v := (s.buoyVal ((off - 0x100) / 8)).toNat
    some (if off % 8 = 0 then v % 2 ^ 32 else v / 2 ^ 32)
  else .none

/-- FLM (Table 11.9). -/
def State.viewFlm (s : State) (off : Nat) : Option Nat :=
  match off with
  | 0x008 =>
    let left := match s.flm.changes with
      | [] => 0
      | c :: _ => if s.changing then (c.start.getD 0 + 32) - s.now else 0
    some (s.stored 0x008 0x008 % 2 ^ 4 + ofBool (s.flm.map != straight) * 2 ^ 4 + s.rd Reg.FLM.STAT_CROSS_AVAIL * 2 ^ 8 +
      s.rd Reg.FLM.STAT_FAN_AVAIL * 2 ^ 9 + min left 32 * 2 ^ 16)
  | 0x048 => some (eightNibbles fun j => s.flm.map.getD j j)
  | 0x04C => some (eightNibbles fun j => s.flm.map.getD (8 + j) (8 + j))
  | 0x0C4 => some (bitsOfInt 16 (Tab.read 0 s.flm.estimate (s.rd Reg.FLM.EST_SEL)))
  | _ => .none

/-- STH (Table 12.12). -/
def State.viewSth (s : State) (off : Nat) : Option Nat :=
  let x := s.extent (s.rd Reg.STH.EXT_SEL)
  match off with
  | 0x008 => some (s.runs.extents.filter fun kv => kv.2.state != 0).length
  | 0x044 => some (x.dest * 2 ^ 16 + ofBool x.persist * 2 ^ 13 + ofBool x.remote * 2 ^ 12 + x.dtype * 2 ^ 8 + x.codec * 2 ^ 4 + x.state)
  | 0x048 => some x.len
  | 0x04C => some x.clen
  | 0x050 => some (if x.state = 0 then 0 else (x.crc ^^^ 0xFFFFFFFF#32).toNat)
  | 0x054 => some x.pages.length
  | _ => .none

/-- The value of a register that shows something held elsewhere; none where its fields are stored. -/
def State.view (s : State) (pg off : Nat) : Option Nat :=
  match blockOf pg with
  | .none => .none
  | some b =>
    match s.viewHeader pg off b with
    | some v => some v
    | .none =>
      match b with
      | .glb => s.viewGlb off
      | .mgt => s.viewMgt off
      | .stk => s.viewStk off
      | .ump => s.viewUmp off
      | .log => s.viewLog off
      | .clv => s.viewClv (pg - 0x020) off
      | .opt => s.viewOpt (pg - 0x060) off
      | .rwl => s.viewRwl (pg - 0x080) off
      | .wei => s.viewWei off
      | .cal => s.viewCal off
      | .lvl => s.viewLvl off
      | .lnk => s.viewLnk (pg - 0x040) off
      | .cox => s.viewCox off
      | .rsv => s.viewRsv off
      | .buo => s.viewBuo off
      | .flm => s.viewFlm off
      | .sth => s.viewSth off
      | .tly => if off = 0x008 then some s.openRounds else .none
      | .ckm | .nvs | .rgt | .bth | .thm | .hgt | .dtm => .none

/-- What a register reads as, apart from the latches (R102, R110). -/
def State.regValue (s : State) (pg off : Nat) : Word := BitVec.ofNat 32 ((s.view pg off).getD (s.stored pg off))

/-! ## Pairs and records (R104 to R106, R443) -/

/-- A pair or record: its first offset, the word at hand, and how many words it has. -/
structure Group where
  first : Nat
  index : Nat
  words : Nat
  deriving DecidableEq, Repr

/-- The pair of `n` at `base`, `stride` bytes apart, that an offset is of. -/
def pairAt (base n stride off : Nat) : Option Group :=
  if base ≤ off ∧ off < base + n * stride ∧ (off - base) % stride < 8 then
    some ⟨off - (off - base) % stride, (off - base) % stride / 4, 2⟩
  else .none

/-- The record of four words, `n` of them at `base`, that an offset is of. -/
def recordAt (base n off : Nat) : Option Group :=
  if base ≤ off ∧ off < base + n * 16 then some ⟨off - (off - base) % 16, (off - base) % 16 / 4, 4⟩ else .none

/-- The pair or record of a block that an offset belongs to (R104, R443). -/
def groupOf (b : Block) (off : Nat) : Option Group :=
  if off = 0x028 ∨ off = 0x02C then pairAt 0x028 1 8 off
  else
    match b with
    | .stk => pairAt 0x040 1 8 off
    | .clv => pairAt 0x06C 1 8 off
    | .glb => pairAt 0x04C 1 8 off
    | .mgt => pairAt 0x044 1 8 off
    | .cal => pairAt 0x0C4 1 8 off
    | .dtm => pairAt 0x058 1 8 off
    | .lvl => pairAt 0x06C 1 8 off
    | .cox => (pairAt 0x060 1 8 off <|> pairAt 0x400 64 0x20 off) <|> pairAt 0xC00 64 0x10 off
    | .buo => pairAt 0x048 1 8 off <|> pairAt 0x100 64 8 off
    | .rgt => pairAt 0x044 1 8 off
    | .tly => pairAt 0x048 1 8 off
    | .bth => pairAt 0x040 1 8 off
    | .ump => pairAt 0x044 2 8 off <|> recordAt 0x060 1 off
    | .log => recordAt 0x100 32 off
    | .nvs => pairAt 0x100 32 8 off <|> pairAt 0x300 31 8 off
    | .ckm | .flm | .rsv | .sth | .thm | .hgt | .wei | .lnk | .opt | .rwl => .none

/-- The words of a group as they stand. -/
def State.sample (s : State) (pg : Nat) (g : Group) : List Word := (List.range g.words).map fun i => s.regValue pg (g.first + 4 * i)

/-- A read of a word on a path, and what it leaves: the first word of a pair or record samples it whole, and a later word is of the sample
(R103, R104, R443). -/
def State.readWord (s : State) (v : Path) (addr : Nat) : Word × State :=
  let pg := addr / 0x1000 % 1024
  let off := addr % 0x1000 / 4 * 4
  match blockOf pg with
  | .none => (0, s)
  | some b =>
    let x := s.path v
    match groupOf b off with
    | .none => (s.regValue pg off, s)
    | some g =>
      let key := pg * 0x1000 + g.first
      if g.index = 0 then
        let ws := s.sample pg g
        (ws.getD 0 0, s.setPath v { x with latch := ws, seen := if x.seen.contains key then x.seen else key :: x.seen })
      else if x.seen.contains key then (x.latch.getD g.index 0, s)
      else (0, s)

/-- SAMPLE_READ (R103, R104, R443): a word access on a path, with the word it returns. -/
def execSampleRead (via : Path) (addr : Nat) (s : State) : Host.Outcome State Fault Refusal :=
  .next (
    if s.deaf via then s
    else
      let r := s.readWord via addr
      r.2.setPath via { r.2.path via with out := r.1 })

end Sys2Proof.Machine
end

