-- ==== Sys2Proof/Machine/Access.lean ====
section
/-! DEFINITION. Register writes: what a write to each register does, LOCK, the ERR registers and writable pairs (R102 to R121). -/

namespace Sys2Proof.Machine

/-! ## Writes with a rule of their own -/

/-- The words of a writable pair, both committed in one cycle (R105). -/
def State.commitPair (v : Path) (pg first data : Nat) (s : State) : State :=
  let r := s.pairLow v (pg * 0x1000 + first)
  (r.2.writeFields pg first r.1).writeFields pg (first + 4) data

/-- A write to the _LO of a writable pair is held (R105). -/
def State.holdPair (v : Path) (pg off data : Nat) (s : State) : State := s.holdLow v (pg * 0x1000 + off) (BitVec.ofNat 32 data)

/-- A write to one CRED_ADV register (Table 9.11): TC0's amounts are at most 256. -/
def State.wrCredAdv (pg off data : Nat) (s : State) : State :=
  if off = 0x050 then
    let hdr := if 256 < bits data 31 20 then 0 else bits data 31 20
    let dat := if 256 < bits data 19 0 then 0 else bits data 19 0
    s.writeFields pg off (hdr * 2 ^ 20 + dat)
  else s.writeFields pg off data

/-- A write to FLM.SPARE_BANK (Table 11.9): 16 to 30 are reserved. -/
def State.wrSpareBank (data : Nat) (s : State) : State :=
  if 16 ≤ data % 32 ∧ data % 32 < 31 then s else s.writeFields 0x008 0x050 data

/-- A write to FANk_CFG, held while the slot is not IDLE (R381). -/
def State.wrFanCfg (k data : Nat) (s : State) : State :=
  if s.fanState k = 0 then s.writeFields 0x008 (0x100 + 0x10 * k) data else s

/-- A write to GLB.RESET (R142): the full reset starts at the second cycle 0 from here, or 2,560 cycles on before strokes run; an earlier
request stands. -/
def State.wrReset (data : Nat) (s : State) : State :=
  if bits data 31 16 = 0x7F1A ∧ bitAt data 0 then
    let due := if s.running then s.clk.idle + (s.now + 2) * 1280 else s.time + 2560
    { s with resetAt := some (match s.resetAt with
        | .none => due
        | some t => min t due) }
  else s

/-- Whether a LOCK write takes effect (R116): clearing a bit needs the key, and the management port while HUB_ONLY = 1. -/
def State.mayLock (s : State) (v : Path) (pg data : Nat) : Bool :=
  let clears := (s.flag (Reg.LOCK_WP pg) && !bitAt data 0) || (s.flag (Reg.LOCK_HUB_ONLY pg) && !bitAt data 1)
  !clears || (bits data 31 16 == 0x5A17 && (!s.flag (Reg.LOCK_HUB_ONLY pg) || !isSideband v))

/-- A write to LOCK (R116, R117). -/
def State.wrLock (s : State) (v : Path) (pg data : Nat) : State :=
  if s.mayLock v pg data then (s.wr (Reg.LOCK_WP pg) (bits data 0 0)).wr (Reg.LOCK_HUB_ONLY pg) (bits data 1 1)
  else s.refuse v pg

/-! ## What a write does, block by block -/

/-- The header's registers but LOCK (Table 4.2). -/
def headerEffect (pg off : Nat) : Option (Nat → State → State) :=
  match off with
  | 0x010 => some fun d s => s.clearErr .corr pg d
  | 0x014 => some fun d s => s.clearErr .cont pg d
  | 0x018 => some fun d s => s.clearErr .fatal pg d
  | _ => .none

/-- COX (Table 10.11). -/
def coxEffect (v : Path) (off : Nat) : Option (Nat → State → State) :=
  if off = 0x060 then some (State.holdPair v 0x00A off)
  else if off = 0x064 then some (State.commitPair v 0x00A 0x060)
  else if off = 0x068 then some State.wrCcInval
  else if 0x400 ≤ off ∧ off < 0xC00 then
    let k := (off - 0x400) / 0x20
    match off % 0x20 with
    | 0x00 => some (State.holdPair v 0x00A off)
    | 0x04 => some (State.commitPair v 0x00A (off - 4))
    | 0x08 => some (State.wrIqCfg k)
    | 0x0C => some (State.wrIqTail k)
    | _ => .none
  else if 0xC00 ≤ off then
    let k := (off - 0xC00) / 0x10
    match off % 0x10 with
    | 0x00 => some (State.holdPair v 0x00A off)
    | 0x04 => some (State.commitPair v 0x00A (off - 4))
    | 0x08 => some (State.wrOqCfg k)
    | _ => .none
  else .none

/-- BUO (Table 10.13). -/
def buoEffect (v : Path) (off : Nat) : Option (Nat → State → State) :=
  if off = 0x048 then some (State.holdPair v 0x00B off)
  else if off = 0x04C then some (State.wrBuoyAdd v)
  else if 0x100 ≤ off ∧ off < 0x300 then
    if off % 8 = 0 then some (State.holdPair v 0x00B off) else some (State.wrBuoyVal v ((off - 0x100) / 8))
  else .none

/-- FLM (Table 11.9). -/
def flmEffect (off : Nat) : Option (Nat → State → State) :=
  if off = 0x004 then some State.wrFlmCtrl
  else if off = 0x050 then some State.wrSpareBank
  else if 0x100 ≤ off ∧ off < 0x180 then
    match off % 0x10 with
    | 0x00 => some (State.wrFanCfg ((off - 0x100) / 0x10))
    | 0x04 => some (State.wrFanCtrl ((off - 0x100) / 0x10))
    | _ => .none
  else .none

/-- RSV (Table 10.12). -/
def rsvEffect (off : Nat) : Option (Nat → State → State) :=
  match off with
  | 0x040 => some (State.wrPool .rpl)
  | 0x044 => some (State.wrPool .rxs)
  | 0x048 => some (State.wrPool .sts)
  | 0x04C => some (State.wrPool .tly)
  | 0x060 => some fun d s => (s.writeFields 0x009 0x060 d).pageIfDue
  | _ => .none

/-- A writable pair of NVS.BUF or BTH.MAP_BASE. -/
def pairEffect (v : Path) (pg off : Nat) : Option (Nat → State → State) :=
  if off % 8 = 0 then some (State.holdPair v pg off) else some (State.commitPair v pg (off - 4))

/-- What a write to a register of a block does, where it is more than a write to its fields. -/
def blockEffect (v : Path) (b : Block) (pg off : Nat) : Option (Nat → State → State) :=
  match b with
  | .glb => if off = 0x080 then some State.wrReset else .none
  | .stk => if off = 0x058 then some State.wrOvrClr else .none
  | .ump => if off = 0x004 then some State.wrUmpCtrl else .none
  | .nvs =>
    if off = 0x040 then some State.wrNvsCmd else if 0x300 ≤ off ∧ off < 0x3F8 then pairEffect v pg off else .none
  | .cal => if off = 0x04C then some State.wrPassReq else .none
  | .dtm => if off = 0x004 then some State.wrDtmCtrl else .none
  | .lvl => if off = 0x004 then some State.wrLvlCtrl else .none
  | .flm => flmEffect off
  | .rsv => rsvEffect off
  | .cox => coxEffect v off
  | .buo => buoEffect v off
  | .sth => if off = 0x058 then some State.wrRetire else .none
  | .tly => if off = 0x040 then some State.wrAbort else .none
  | .bth => if off = 0x040 ∨ off = 0x044 then pairEffect v pg off else .none
  | .hgt => if 0x040 ≤ off ∧ off < 0x050 then some (State.wrHgCtrl ((off - 0x040) / 4)) else .none
  | .clv => if off = 0x004 then some (State.wrClvCtrl (pg - 0x020)) else .none
  | .lnk =>
    if off = 0x004 then some (State.wrLnkCtrl (pg - 0x040))
    else if 0x050 ≤ off ∧ off < 0x060 then some (State.wrCredAdv pg off) else .none
  | .opt => if off = 0x004 then some (State.wrOptCtrl (pg - 0x060)) else .none
  | .rwl =>
    if off = 0x004 then some (State.wrRwlCtrl (pg - 0x080))
    else if off = 0x054 then some (State.retrySeats (pg - 0x080) .tx)
    else if off = 0x058 then some (State.retrySeats (pg - 0x080) .rx) else .none
  | .wei => if off = 0x050 then some State.wrIdleDark else .none
  | .ckm | .log | .rgt | .mgt | .thm => .none

/-- What a write to a register does: CTRL's CNT_CLR besides its block's part (R108). -/
def effectOf (v : Path) (pg off : Nat) : Nat → State → State :=
  match blockOf pg with
  | .none => fun _ s => s
  | some b =>
    match headerEffect pg off with
    | some f => f
    | .none =>
      match blockEffect v b pg off with
      | some f => f
      | .none => fun d s => s.writeFields pg off d

/-! ## A write on a path (R102, R103, R120) -/

/-- The page of a control-space address (R100). -/
def pageOfAddr (a : Nat) : Nat := a / 0x1000 % 1024

/-- The offset of a control-space address, its bits 1:0 taken as 0 (R100, R103). -/
def offOfAddr (a : Nat) : Nat := a % 0x1000 / 4 * 4

/-- A write to a register on a path. -/
def State.writeReg (s : State) (v : Path) (pg off data : Nat) : State :=
  if s.deaf v || (blockOf pg).isNone then s
  else if off = 0x034 then s.wrLock v pg data
  else s.access v pg off data (effectOf v pg off)

/-- A write to an address on a path. -/
def State.writeAddr (s : State) (v : Path) (addr data : Nat) : State := s.writeReg v (pageOfAddr addr) (offOfAddr addr) data

/-- Whether LOCK refuses a write, wholly or in part (R115, R116). -/
def State.writeRefused (s : State) (v : Path) (addr data : Nat) : Bool :=
  let pg := pageOfAddr addr
  let off := offOfAddr addr
  if off = 0x034 then (blockOf pg).isSome && !s.mayLock v pg data else s.refuses v pg off data

/-- REGISTER_WRITE (R120). -/
def execRegisterWrite (via : Path) (addr : Nat) (data : Word) (s : State) : Host.Outcome State Fault Refusal :=
  .next (s.writeAddr via addr data.toNat)

/-- PAIR_LO_WRITE (R105). -/
def execPairLoWrite (via : Path) (addr : Nat) (data : Word) (s : State) : Host.Outcome State Fault Refusal :=
  .next (s.writeAddr via addr data.toNat)

/-- PAIR_HI_WRITE (R105). -/
def execPairHiWrite (via : Path) (addr : Nat) (data : Word) (s : State) : Host.Outcome State Fault Refusal :=
  .next (s.writeAddr via addr data.toNat)

/-- LOCK_WRITE (R116). -/
def execLockWrite (via : Path) (page : Nat) (data : Word) (s : State) : Host.Outcome State Fault Refusal :=
  .next (s.writeReg via page 0x034 data.toNat)

/-- The offset of a class's ERR register (Table 4.2). -/
def errOffset (cls : EvClass) : Nat :=
  match cls with
  | .corr => 0x010
  | .cont => 0x014
  | .fatal => 0x018

/-- ERR_W1C_WRITE (R110, R112). -/
def execErrW1cWrite (via : Path) (page : Nat) (cls : EvClass) (data : Word) (s : State) : Host.Outcome State Fault Refusal :=
  .next (s.writeReg via page (errOffset cls) data.toNat)

/-- ERR_FATAL_CLEAR (R113). -/
def execErrFatalClear (via : Path) (page : Nat) (data : Word) (s : State) : Host.Outcome State Fault Refusal :=
  .next (s.writeReg via page 0x018 data.toNat)

/-- CNT_CLR (R108): a write to CTRL with bit 4 set. -/
def execCntClr (via : Path) (page : Nat) (data : Word) (s : State) : Host.Outcome State Fault Refusal :=
  .next (s.writeReg via page 0x004 (setBit data.toNat 4))

/-- GLB_RESET (R142). -/
def execGlbReset (via : Path) (data : Word) (s : State) : Host.Outcome State Fault Refusal :=
  .next (s.writeReg via 0x000 0x080 data.toNat)

end Sys2Proof.Machine
end

