-- ==== Sys2Proof/Machine/Mgmt.lean ====
section
/-! DEFINITION. The two ways into control space: register requests on a culvert's sideband, and the management port (R118 to R139). -/

namespace Sys2Proof.Machine

/-! ## The sideband (R118, R122 to R128) -/

/-- Whether a culvert's sideband takes register requests (R118). -/
def State.sidebandOpen (s : State) (c : Nat) : Bool := (s.culv c).identOk && (s.culv c).clockOk

/-- A request outside R118: discarded whole, without a response (R126). -/
def State.outsideRequest (s : State) : State := (s.raise1 (plain Err.GLB.SB_KIND)).bump Reg.GLB.SB_DISCARD_CNT

/-- STATUS of a request to an address (R125). -/
def sbStatus (addr : Nat) (refused : Bool) : Nat := if (blockOf (pageOfAddr addr)).isNone then 2 else ofBool refused

/-- A culvert's next response sent, if its sideband is free and runs (R122, R127). -/
def State.sbSend (s : State) (c : Nat) : State :=
  let x := s.culv c
  match x.answers with
  | [] => s
  | r :: rest =>
    if s.sidebandOpen c && decide (x.sbFree ≤ s.time) then
      s.setCulv c { x with answers := rest, rsp := some r, packet := rspPacket r, sbFree := s.time + packetCycles }
    else s

/-- A request performed: it is counted (Table 4.10), and its response is sent or waits its turn, or is lost with the sideband (R127, R128). -/
def State.sbAnswer (s : State) (c : Nat) (r : SbRsp) : State :=
  let s := s.bump Reg.GLB.SB_REQ_CNT
  if s.sidebandOpen c then (s.setCulv c { s.culv c with answers := (s.culv c).answers ++ [r] }).sbSend c else s

/-! ## The control-space port (R119, R120) -/

/-- A register request of a sideband performed (R104, R115 to R117, R125). -/
def State.performSb (s : State) (c : Fin 8) (q : SbReq) : State :=
  if q.write then
    let status := sbStatus q.addr (s.writeRefused (.sb c) q.addr q.data.toNat)
    (s.writeAddr (.sb c) q.addr q.data.toNat).sbAnswer c.val ⟨true, q.tag, q.addr % 2 ^ 22, 0, status⟩
  else
    let r := s.readWord (.sb c) q.addr
    r.2.sbAnswer c.val ⟨false, q.tag, q.addr % 2 ^ 22, r.1, sbStatus q.addr false⟩

/-- A word access of the management port performed: a word partly sent has no effect (R132, R134). -/
def State.performBus (s : State) (w : BusWord) : State :=
  match w with
  | .write a d => s.writeAddr .mgmt a d
  | .read a n =>
    let r := s.readWord .mgmt a
    let t := if n < 4 then s else r.2
    { t with mgmt := { t.mgmt with out := t.mgmt.out ++ (toBytes 4 r.1.toNat).take n } }

/-- After the last word of a transfer its byte of wrong parity, if it had one (R135). -/
def State.parityDue (s : State) : State :=
  if s.mgmt.parityAfter && s.mgmt.todo.isEmpty then
    let t := s.raise1 (plain Err.MGT.PARITY)
    { t with mgmt := { t.mgmt with parityAfter := false } }
  else s

/-- The management port's next word access, if it has one. -/
def State.busNext (s : State) : State :=
  match s.mgmt.todo with
  | [] => s
  | w :: rest => (State.performBus { s with mgmt := { s.mgmt with todo := rest } } w).parityDue

/-- The word accesses of a transfer that have not been performed. -/
def State.drainBus (s : State) : State := (List.range s.mgmt.todo.length).foldl (fun s _ => s.busNext) s

/-- The culvert whose request is next, in round-robin order after the one served last (R119). -/
def State.nextSb (s : State) : Option (Fin 8) :=
  ((List.range 8).map fun i => Fin.ofNat 8 (s.port.served + 1 + i)).find? fun c => !(s.culv c.val).held.isEmpty

/-- A culvert's oldest held request performed. -/
def State.serveSb (s : State) (c : Fin 8) : State :=
  let x := s.culv c.val
  match x.held with
  | [] => s
  | q :: rest => ((s.setCulv c.val { x with held := rest }).performSb c q)

/-- The port's access of the control cycle at hand, if any path has one ready: the management port first, then the culverts (R119). -/
def State.servePort (s : State) : State :=
  if s.port.usedAt == some s.time then s
  else if !s.mgmt.todo.isEmpty then
    let t := s.busNext
    { t with port := { t.port with usedAt := some s.time } }
  else
    match s.nextSb with
    | .none => s
    | some c =>
      let t := s.serveSb c
      { t with port := { usedAt := some s.time, served := c.val } }

/-- Whether the port is free in the cycle at hand and nothing waits for it. -/
def State.portIdle (s : State) : Bool :=
  s.port.usedAt != some s.time && s.mgmt.todo.isEmpty && (List.range 8).all fun c => (s.culv c).held.isEmpty

/-- Whether a culvert's sideband can send a response at once. -/
def State.sbIdle (s : State) (c : Nat) : Bool := (s.culv c).answers.isEmpty && decide ((s.culv c).sbFree ≤ s.time)

/-- A control cycle on the control-space port and on the sidebands. -/
def State.portCycle (s : State) : State := (List.range 8).foldl State.sbSend s.servePort

/-- A register request that arrives on a sideband: with 16 unanswered it is discarded, else it is held until the port takes it, at once where the port
is free (R118, R119, R126, R127). -/
def State.takeRequest (s : State) (c : Fin 8) (q : SbReq) : State :=
  if s.held then s
  else if !s.sidebandOpen c.val then s.outsideRequest
  else
    let x := s.culv c.val
    if 16 ≤ x.held.length + x.answers.length then (s.raise1 (plain Err.GLB.SB_DISCARD)).bump Reg.GLB.SB_DISCARD_CNT
    else if s.portIdle then { s.performSb c q with port := { usedAt := some s.time, served := c.val } }
    else (s.setCulv c.val { x with held := x.held ++ [q] }).servePort

/-- RD_REQ (R104, R125). -/
def execRdReq (c : Fin 8) (tag : Byte) (addr : Nat) (s : State) : Host.Outcome State Fault Refusal :=
  .next (s.takeRequest c ⟨false, tag, addr, 0⟩)

/-- WR_REQ (R115 to R117, R125). -/
def execWrReq (c : Fin 8) (tag : Byte) (addr : Nat) (data : Word) (s : State) : Host.Outcome State Fault Refusal :=
  .next (s.takeRequest c ⟨true, tag, addr, data⟩)

/-- Whether a received packet's CRC is good (R123). -/
def packetGood (bs : List Byte) : Bool := crc16 (bs.take 14) == BitVec.ofNat 16 (ofBytes ((bs.drop 14).take 2))

/-- A packet received on a sideband, cut short or whole (Tables 4.5, 4.6): the command it is, with the pass bitmap of Tolfa's own receiver for a
DESKEW_RESULT, or one of the discards of R126. -/
def receivePacket (c : Fin 8) (own : DWord) (bs : List Byte) (s : State) : Host.Outcome State Fault Refusal :=
  let d := (bs.drop 2).take 12
  let tag := bs.getD 1 0
  if bs.length < 16 then execDiscardedSidebandPacket c .truncated s
  else if !packetGood bs then execDiscardedSidebandPacket c .crc s
  else
    match (bs.headD 0).toNat with
    | 0x01 => execIdent c (BitVec.ofNat 32 (ofBytes (d.take 4))) (BitVec.ofNat 24 (ofBytes ((d.drop 4).take 3))) (d.getD 7 0) (d.getD 8 0) s
    | 0x02 => execDeskewResult c own (BitVec.ofNat 64 (ofBytes (d.take 8))) (d.getD 8 0).toNat s
    | 0x10 => execRdReq c tag (ofBytes (d.take 3)) s
    | 0x11 => execWrReq c tag (ofBytes (d.take 3)) (BitVec.ofNat 32 (ofBytes ((d.drop 4).take 4))) s
    | _ => execDiscardedSidebandPacket c .reservedKind s

/-! ## Transfers on the management bus (R130 to R136) -/

/-- Whether a private transfer is to Tolfa (R130). -/
def State.addressed (s : State) (form : BusForm) (target : BitVec 7) : Bool :=
  if s.flag Reg.MGT.STAT_DA_VALID then form == .i3c && target.toNat == s.rd Reg.MGT.STAT_DA else target.toNat == s.staticAddr

/-- Whether a transfer ends within a word or an address of a write (Table 4.8). -/
def BusXfer.cut (x : BusXfer) : Bool := !x.read && !x.ignored && (x.addrBytes != 0 || x.wordBytes != 0)

/-- A transfer to Tolfa, its words all performed, ended by a bus reset of a kind: whatever ends it, Tolfa no longer drives SDA (R136, Table 4.8).
Only a STOP or a repeated START completes it and disarms the second pattern of R138, be it cut short or not (log entry 180). -/
def State.closeXfer (s : State) (kind : Nat) : State :=
  match s.mgmt.xfer with
  | .none => s
  | some x =>
    let s := s.wr Reg.MGT.STAT_LAST_RESET kind
    let s := if x.cut then (s.wr Reg.MGT.STAT_ABORTED 1).bump Reg.MGT.ABORT_CNT_ABORTS else s
    { s with mgmt := { s.mgmt with xfer := .none, armed := if kind = 1 then false else s.mgmt.armed, sda := false } }

/-- The end of a transfer to Tolfa, whose words received before it are committed (R132, Table 4.8). -/
def State.endXfer (s : State) (kind : Nat) : State := s.drainBus.closeXfer kind

/-- The answer on the bus: ACK, and the bytes that Tolfa drives. -/
def State.busAnswer (s : State) (ack : Bool) (out : List Byte) : State := { s with mgmt := { s.mgmt with ack := ack, out := out } }

/-- The words of a private write from the pointer on (R131). -/
def busWrites (addr : Nat) : List Byte → List BusWord
  | b0 :: b1 :: b2 :: b3 :: rest => .write addr (ofBytes [b0, b1, b2, b3]) :: busWrites ((addr + 4) % 2 ^ 22) rest
  | _ => []

/-- The bytes of a private write up to the first parity error (R131, R135). Each word is committed in a cycle of its own (R132). -/
def State.takeWrite (s : State) (bytes : List Byte) (bad : Bool) : State :=
  let n := bytes.length
  let ptr := ofBytes (bytes.take 3) % 2 ^ 22
  let s := if n < 3 then s else s.wr Reg.MGT.POINTER ptr
  let x : BusXfer := { read := false, addrBytes := if n < 3 then n else 0, wordBytes := if n < 3 then 0 else (n - 3) % 4, ignored := bad }
  let words := if n < 3 then [] else busWrites (ptr / 4 * 4) (bytes.drop 3)
  let s := { s with mgmt := { s.mgmt with xfer := some x, todo := words, parityAfter := bad } }
  if words.isEmpty then s.parityDue else s.servePort

/-- PRIVATE_WRITE (R130 to R132, R135): `parityBad` is the first byte whose I3C parity bit is wrong. -/
def execPrivateWrite (form : BusForm) (target : BitVec 7) (bytes : List Byte) (parityBad : Option Nat) (s : State) :
    Host.Outcome State Fault Refusal :=
  .next (
    if s.busDeaf then s.busAnswer false []
    else
      let s := s.endXfer 1
      if !s.addressed form target then s.busAnswer false []
      else
        let bad := match form, parityBad with
          | .i3c, some i => decide (i < bytes.length)
          | _, _ => false
        (s.busAnswer true []).takeWrite (if bad then bytes.take (parityBad.getD 0) else bytes) bad)

/-- The words of a private read of so many bytes from an address on (R133). -/
def busReads (addr : Nat) : Nat → Nat → List BusWord
  | 0, _ => []
  | fuel + 1, count =>
    if count = 0 then [] else .read addr (min count 4) :: busReads ((addr + 4) % 2 ^ 22) fuel (count - 4)

/-- PRIVATE_READ (R130, R133, R134): `count` bytes are sent, each word sampled in a cycle of its own. -/
def execPrivateRead (form : BusForm) (target : BitVec 7) (count : Nat) (s : State) : Host.Outcome State Fault Refusal :=
  .next (
    if s.busDeaf then s.busAnswer false []
    else
      let s := s.endXfer 1
      if !s.addressed form target then s.busAnswer false []
      else
        let s := s.busAnswer true []
        let x : BusXfer := { read := true, addrBytes := 0, wordBytes := count % 4, ignored := false }
        (State.servePort { s with mgmt := { s.mgmt with
          xfer := some x, sda := true, todo := busReads (s.rd Reg.MGT.POINTER / 4 * 4) (count / 4 + 1) count } }))

/-- TRANSFER_END (R136): a STOP, or a repeated START. -/
def execTransferEnd (_repeated : Bool) (s : State) : Host.Outcome State Fault Refusal := .next (s.endXfer 1)

/-- SCL_LOW_TIMEOUT (R136). -/
def execSclLowTimeout (s : State) : Host.Outcome State Fault Refusal := .next (s.endXfer 3)

/-! ## Target reset (R137, R138) -/

/-- Action 0x01: pointer to 0 and latch cleared, the dynamic address kept (Table 4.9). -/
def State.portReset (s : State) : State := (s.wr Reg.MGT.POINTER 0).setPath .mgmt PathState.reset

/-- What the word cut by a full reset that Tolfa starts reads as is open (R239; log entry 4). -/
def fateOf (b : Option Bool) : WordFate :=
  match b with
  | .none => .uncorrectable
  | some true => .new
  | some false => .old

/-- A full reset that starts now, the die held in it (R455, R456). -/
def State.chipReset (s : State) : State := let n := s.freeCount; (s.fresh.2).reborn (fateOf (Config.cutWord n)) s.tap

/-- How long Tolfa holds itself in a software full reset, in backup-oscillator cycles (R456), each as long as a control cycle. -/
def softHold : Nat := 2048

/-- A software full reset that starts now (R456). -/
def State.softReset (s : State) : State := { s.chipReset with resetAt := some softHold }

/-- A Target Reset action (Table 4.9). -/
def State.targetAction (s : State) (a : Nat) : State :=
  match a with
  | 0 => s
  | 2 => if s.flag Reg.MGT.CTRL then s.softReset else (s.portReset).wr Reg.MGT.STAT_CHIP_RESET_DENIED 1
  | _ => s.portReset

/-- TARGET_RESET (R136 to R138): the current action, or 0x02 for a second pattern with no transfer completed since the first. -/
def execTargetReset (s : State) : Host.Outcome State Fault Refusal :=
  .next (
    if s.busDeaf then s
    else
      let s := ((s.endXfer 2).wr Reg.MGT.STAT_LAST_RESET 2).bump Reg.MGT.ABORT_CNT_RESETS
      let a := if s.mgmt.armed then 2 else s.rd Reg.MGT.STAT_RSTACT
      let s := { s.wr Reg.MGT.STAT_RSTACT 1 with mgmt := { s.mgmt with armed := true } }
      s.targetAction a)

/-! ## Common command codes (R129, R130) -/

/-- A CCC that Tolfa takes or refuses: it ends an open transfer, and one addressed to Tolfa and acknowledged is a completed transfer. -/
def State.ccc (s : State) (ok : State → Bool) (act : State → State) (out : List Byte) : State :=
  if s.busDeaf then s.busAnswer false []
  else
    let s := s.endXfer 1
    if ok s then
      let t := (act s).busAnswer true out
      { t with mgmt := { t.mgmt with armed := false } }
    else s.busAnswer false []

/-- SETDASA (R129). -/
def execSetdasa (target da : BitVec 7) (s : State) : Host.Outcome State Fault Refusal :=
  .next (s.ccc (fun s => !s.flag Reg.MGT.STAT_DA_VALID && target.toNat == s.staticAddr)
    (fun s => (s.wr Reg.MGT.STAT_DA da.toNat).wr Reg.MGT.STAT_DA_VALID 1) [])

/-- ENTDAA (R129). -/
def execEntdaa (da : BitVec 7) (s : State) : Host.Outcome State Fault Refusal :=
  .next (s.ccc (fun s => !s.flag Reg.MGT.STAT_DA_VALID)
    (fun s => (s.wr Reg.MGT.STAT_DA da.toNat).wr Reg.MGT.STAT_DA_VALID 1) [])

/-- SETNEWDA (R129). -/
def execSetnewda (target da : BitVec 7) (s : State) : Host.Outcome State Fault Refusal :=
  .next (s.ccc (fun s => s.flag Reg.MGT.STAT_DA_VALID && target.toNat == s.rd Reg.MGT.STAT_DA)
    (fun s => s.wr Reg.MGT.STAT_DA da.toNat) [])

/-- RSTDAA (R130). -/
def execRstdaa (s : State) : Host.Outcome State Fault Refusal :=
  .next (
    if s.busDeaf then s.busAnswer false []
    else (((s.endXfer 1).wr Reg.MGT.STAT_DA 0).wr Reg.MGT.STAT_DA_VALID 0).busAnswer true [])

/-- The provisioned ID, most significant byte first (Table 4.7; log entry 42). -/
def State.pidBytes (s : State) : List Byte := (toBytes 6 (s.rd Reg.MGT.PID_HI * 2 ^ 32 + s.pidLo)).reverse

/-- GETPID (R129). -/
def execGetpid (target : BitVec 7) (s : State) : Host.Outcome State Fault Refusal :=
  .next (s.ccc (fun s => s.addressed .i3c target) id s.pidBytes)

/-- GETBCR (R129). -/
def execGetbcr (target : BitVec 7) (s : State) : Host.Outcome State Fault Refusal :=
  .next (s.ccc (fun s => s.addressed .i3c target) id [0x00])

/-- GETDCR (R129). -/
def execGetdcr (target : BitVec 7) (s : State) : Host.Outcome State Fault Refusal :=
  .next (s.ccc (fun s => s.addressed .i3c target) id [0x00])

/-- GETSTATUS (R129). -/
def execGetstatus (target : BitVec 7) (s : State) : Host.Outcome State Fault Refusal :=
  .next (s.ccc (fun s => s.addressed .i3c target) id [0x00, 0x00])

/-- RSTACT (R137, Table 4.9): direct to a target, or broadcast; other defining bytes are not acknowledged, or ignored. -/
def execRstact (target : Option (BitVec 7)) (action : Byte) (s : State) : Host.Outcome State Fault Refusal :=
  .next (
    match target with
    | some t => s.ccc (fun s => s.addressed .i3c t && decide (action.toNat ≤ 2)) (fun s => s.wr Reg.MGT.STAT_RSTACT action.toNat) []
    | .none =>
      if s.busDeaf then s.busAnswer false []
      else
        let s := s.endXfer 1
        if action.toNat ≤ 2 then (s.wr Reg.MGT.STAT_RSTACT action.toNat).busAnswer true [] else s)

/-- A CCC that is acknowledged and has no effect, or a broadcast one (R129). -/
def State.idleCcc (s : State) (target : Option (BitVec 7)) : State :=
  match target with
  | some t => s.ccc (fun s => s.addressed .i3c t) id []
  | .none => if s.busDeaf then s.busAnswer false [] else (s.endXfer 1).busAnswer true []

/-- ENEC (R129). -/
def execEnec (target : Option (BitVec 7)) (s : State) : Host.Outcome State Fault Refusal := .next (s.idleCcc target)

/-- DISEC (R129). -/
def execDisec (target : Option (BitVec 7)) (s : State) : Host.Outcome State Fault Refusal := .next (s.idleCcc target)

/-- UNSUPPORTED_CCC (R129): NACKed when direct, ignored when broadcast. -/
def execUnsupportedCcc (target : Option (BitVec 7)) (s : State) : Host.Outcome State Fault Refusal :=
  .next (
    match target with
    | some _ => (s.endXfer 1).busAnswer false []
    | .none => s.endXfer 1)

end Sys2Proof.Machine
end

