-- ==== Sys2Proof/Machine/Bringup.lean ====
section
/-! DEFINITION. Full reset, its release, and the bring-up steps (chapter 14). -/

namespace Sys2Proof.Machine

/-! ## Full reset (R454 to R457) -/

/-- FULL_RESET (R142, R454, R455, R456): RST_N low at any time, or a software full reset that is due. -/
def execFullReset (cause : ResetCause) (s : State) : Host.Outcome State Fault Refusal :=
  .next (
    match cause, s.resetAt with
    | .rstN, _ => s.chipReset
    | .software, some t => if !s.held && decide (t ≤ s.time) then s.softReset else s
    | .software, .none => s)

/-- Whether a full reset may be released: RST_N governs, or a software reset has been held long enough (R456). -/
def State.mayRelease (s : State) : Bool :=
  s.held && (match s.resetAt with
    | .none => true
    | some t => decide (t ≤ s.time))

/-- RESET_RELEASE (R456 to R458): the straps are sampled, and step 0 waits for the clock. -/
def execResetRelease (position : BitVec 2) (mode : Bool) (i3cAddr : BitVec 3) (s : State) : Host.Outcome State Fault Refusal :=
  .next (
    if !s.mayRelease then s
    else
      let t := { State.fullReset s.fuses s.nvs.words s.nvs.ecc s.tap false s.pending with freeCount := s.freeCount }
      ((t.wr Reg.GLB.STRAPS_POSITION position.toNat).wrB Reg.GLB.STRAPS_MODE mode).wr Reg.GLB.STRAPS_I3C_ADDR i3cAddr.toNat)

/-! ## What ends each step (Table 14.2) -/

/-- Step 3: every culvert is ACTIVE, OFFLINE or OFF, and the Leveller is NORMAL. -/
def State.culvertsResolved (s : State) : Bool :=
  s.rd Reg.LVL.STAT_THERMAL == 1 &&
    (List.range 8).all fun c => s.culvState c == 5 || s.culvState c == 7 || s.culvState c == 0

/-- Whether step 5 waits on a port: its headgate is open and has no INPUT_LOST. -/
def State.ringWaits (s : State) (p : Nat) : Bool :=
  s.flag (Reg.HGT.HG_STAT_OPEN (p / 4)) && decide ((s.hg (p / 4)).lowRun < 4)

/-- Whether a port has a full pass that R244 requires still to run. -/
def State.passRequired (s : State) (p : Nat) : Bool :=
  s.rd Reg.CAL.STAT == 0 && (s.passing p || bitAt (s.rd Reg.CAL.PASS_QUEUED) p)

/-- Step 5 on one port: seats settled, drivers started, the synthesiser LOCKED or FAILED, and a required pass complete. -/
def State.ringDone (s : State) (p : Nat) : Bool :=
  s.portSettled p && (List.range 18).all (fun k => !(s.seat (seatKey p .tx k)).driverDue) &&
    decide (2 ≤ s.rd (Reg.OPT.STAT_SYN p)) && !s.passRequired p

/-- Step 6: the 1,536 strokes of the cold run have passed (R265). -/
def State.coldOver (s : State) : Bool :=
  match s.flm.ba with
  | .none => true
  | some r => r.cold && decide (r.began + 1536 ≤ s.now)

/-- Whether the bring-up step at hand has ended. -/
def State.stepEnded (s : State) : Bool :=
  match s.stepNo with
  | 1 => true
  | 2 => decide (s.clk.stepAt < s.now)
  | 3 => decide (s.clk.stepAt < s.now) && !s.safe && s.culvertsResolved
  | 4 => decide (s.clk.stepAt < s.now) && !s.safe && s.headgatesLit
  | 5 => decide (s.clk.stepAt < s.now) && !s.safe && (List.range 16).all fun p => !s.ringWaits p || s.ringDone p
  | 6 => decide (s.clk.stepAt < s.now) && !s.safe && s.coldOver
  | _ => false

/-! ## What each step begins with -/

/-- Step 3 (R89, R266): enabled culverts start training, and the Leveller loads its matrix. -/
def State.beginCulverts (s : State) : State :=
  ((List.range 8).foldl (fun s c =>
    if s.flag (Reg.CLV.CTRL_ENABLE c) && s.culvState c == 0 then s.culvStart c else s) s).loadLeveller

/-- Step 5 on one port (R177): a synthesiser that is OFF starts its lock at 128 Gb/s. -/
def State.startSynth (s : State) (p : Nat) : State :=
  if s.rd (Reg.OPT.STAT_SYN p) = 0 then (s.wr (Reg.OPT.STAT_RATE p) 0).beginRelock p 0 else s

/-- The seats of an open headgate at its target are in SEARCH from this cycle 0 (R202). -/
def State.lightNow (s : State) (x : Nat) : State :=
  if s.flag (Reg.HGT.HG_STAT_OPEN x) && s.rd (Reg.HGT.HG_STAT_ATTEN x) == s.rd (Reg.HGT.HG_CTRL_ATTEN x) then
    (headgateSeats x).foldl State.applyNext (s.lightSeats x)
  else s

/-- Step 5 (R177, R202, R244): seats leave IDLE, synthesisers start, and with no set present every port awaits a full pass. -/
def State.beginRing (s : State) : State :=
  let s := (List.range 4).foldl State.lightNow s
  let s := (List.range 16).foldl State.startSynth s
  if s.rd Reg.CAL.STAT = 0 then (List.range 16).foldl State.queuePass s else s

/-- Step 6 (R226, R265, R394, R397): Straight, and the cold run. -/
def State.beginCold (s : State) : State :=
  let s := ((s.wr Reg.FLM.STAT_STATE 1).wr Reg.FLM.STAT_BASE 0).wr Reg.FLM.STAT_FAN_AVAIL 0
  let s := s.wr Reg.FLM.STAT_CROSS_AVAIL 0
  { s with flm := { s.flm with map := List.range 16, window := some (s.now + 512) } }.baStart true 512

/-- The end of the cold run (R226, R265, R394): an accepted estimate goes live and is to be written to the store; without one, and with no valid
record, NO_ESTIMATE. -/
def State.endCold (s : State) : State :=
  let s := match s.flm.ba with
    | some r => if r.result.isNone then (s.bump Reg.STK.OVR1_MESH).baAbandon 2 else s
    | .none => s
  let s := match s.flm.ba with
    | some r =>
      let s := { s with flm := { s.flm with ba := .none, window := .none } }
      if r.result = some 1 then
        { s with flm := { s.flm with estimate := estimateTab r.estimate, estLoaded := true }, nvs := { s.nvs with flumeDue := true } }
      else s
    | .none => s
  let s := (s.wr Reg.FLM.STAT_STATE 2).wr Reg.FLM.STAT_CROSS_AVAIL 1
  if s.flm.estLoaded then s.wr Reg.FLM.STAT_FAN_AVAIL 1 else s.raise1 ⟨Err.FLM.NO_ESTIMATE, flmInfo 0xFF 0xFF 0 0, 0⟩

/-- Step 7 (R314, R460, R461): READY, the reference temperatures, and every enabled port in WAIT. -/
def State.beginLinks (s : State) : State :=
  let s := s.endCold.wr Reg.GLB.STAT_READY 1
  let s := (List.range 16).foldl (fun s p => s.wrHalf (Reg.CAL.REF_TEMP (p / 2)) (p % 2) (bitsOfInt 16 (s.portTemp p))) s
  ((List.range 16).foldl (fun s p => if s.flag (Reg.LNK.CTRL_DISABLE p) then s else s.toWait p 0) s).settle

/-- What a bring-up step does as it begins. -/
def State.beginStep (s : State) (n : Nat) : State :=
  let s := s.toStep n
  match n with
  | 2 => s.loadStore
  | 3 => s.beginCulverts
  | 4 => s.openAll
  | 5 => s.beginRing
  | 6 => s.beginCold
  | 7 => s.beginLinks
  | _ => s

/-- BRINGUP_STEP_BEGIN (R459, R466): at a cycle 0 at which the step at hand has ended, the next one begins. -/
def execBringupStepBegin (s : State) : Host.Outcome State Fault Refusal :=
  .next (
    if !s.held && s.running && s.clk.cycle == 0 && s.stepEnded then s.beginStep (s.stepNo + 1) else s)

end Sys2Proof.Machine
end

