-- ==== Sys2Proof/Machine/Scan.lean ====
section
/-! DEFINITION. The boundary-scan TAP (R484 to R490): each command is an instruction made current, with what its data register captures. -/

namespace Sys2Proof.Machine

/-! ## Data registers -/

/-- IDCODE (Table 15.15). -/
def idcodeWord : Word := 0x17A5158F

/-- STK.STAT.SYNC as it reads: MASTER at T0 once released (Table 2.7). -/
def State.syncCode (s : State) : Nat := if s.held then 0 else if s.isT0 then 3 else s.rd Reg.STK.STAT_SYNC

/-- SCAN_STAT at Capture-DR (Table 15.16). -/
def State.scanWord (s : State) : Word :=
  let r := fun (f : Field) => s.rd f % 2 ^ f.width
  BitVec.ofNat 32 (0x5C * 2 ^ 24 + r Reg.GLB.STAT_STEP * 2 ^ 20 + r Reg.GLB.STAT_READY * 2 ^ 19 + r Reg.GLB.STAT_SAFE * 2 ^ 18 +
    r Reg.UMP.STAT_STATE * 2 ^ 16 + r Reg.CKM.STAT_PLL_LOCK * 2 ^ 15 + r Reg.CKM.STAT_REF_PRESENT * 2 ^ 14 + s.syncCode % 4 * 2 ^ 12 +
    r Reg.STK.STAT_BACKUP * 2 ^ 11 + r Reg.GLB.STAT_UNTRACED * 2 ^ 10 + r Reg.GLB.STRAPS_POSITION * 2 ^ 8 +
    r Reg.GLB.STRAPS_MODE * 2 ^ 7 + r Reg.GLB.STRAPS_I3C_ADDR * 2 ^ 4 + 1)

/-- A bit for each culvert. -/
def culvertBits (f : Nat → Bool) : Nat := maskOf ((List.range 8).filter f)

/-- LOOP_DR at Capture-DR (Table 15.17). -/
def State.loopWord (s : State) : Word :=
  BitVec.ofNat 32 (ofBool s.tap.refused * 2 ^ 25 + ofBool ((List.range 8).any fun c => s.culvState c == 8) * 2 ^ 24 +
    culvertBits (fun c => s.flag (Reg.CLV.LOOP_STAT_SB_FAIL c)) * 2 ^ 16 +
    culvertBits (fun c => s.flag (Reg.CLV.LOOP_STAT_PASS c)) * 2 ^ 8 + culvertBits fun c => s.flag (Reg.CLV.LOOP_STAT_DONE c))

/-- What the instruction register captures (R484). -/
def irCapture : BitVec 6 := 1

/-- The length of an instruction's data register (Table 15.12): a code that the table does not have acts as BYPASS. -/
def drLength (ir : BitVec 6) : Nat :=
  match ir.toNat with
  | 0x00 | 0x01 => 14
  | 0x02 | 0x10 | 0x11 => 32
  | _ => 1

/-- The bits that a scan of the data register shifts out at TDO, bit 0 first, ahead of those shifted in (R484, R488). -/
def State.tdoBits (s : State) : List Bool := (List.range (drLength s.tap.ir)).map s.tap.capture.getLsbD

/-! ## The pins (R53, R485, R486) -/

/-- ALIVE as the die's ball shows it, `none` where nothing drives it: the core's level, or what EXTEST, CLAMP or HIGHZ makes of it
(Table 15.12, Table 15.13). -/
def State.aliveBall (s : State) : Option Bool :=
  if s.tap.ir = 0x04 then .none
  else if s.busBlind then (if s.tap.boundary.getLsbD 13 then some (s.tap.boundary.getLsbD 12) else .none)
  else some s.clk.alive

/-- What a scan instruction drives on SDA in place of the management port, `none` where it is released. -/
def State.sdaScan (s : State) : Option Bool :=
  if s.tap.ir ≠ 0x04 ∧ s.busBlind ∧ s.tap.boundary.getLsbD 11 then some (s.tap.boundary.getLsbD 10) else .none

/-! ## Instructions -/

/-- The TAP with an instruction current and what its data register captures. -/
def State.tapTo (s : State) (ir : BitVec 6) (capture : Word) : State := { s with tap := { s.tap with ir := ir, capture := capture } }

/-- An instruction that takes the pins from the core: a transfer on the bus ends as at a STOP (R486). -/
def State.tapTakesPins (s : State) (ir : BitVec 6) (capture : Word) : State :=
  (if s.busBlind then s else s.endXfer 1).tapTo ir capture

/-- TAP_RESET (R484, R490). -/
def execTapReset (s : State) : Host.Outcome State Fault Refusal := .next (s.tapTo 0x02 s.tap.capture)

/-- EXTEST (R485, R486), with the cells that Update-DR has loaded. -/
def execExtest (cells : BitVec 14) (s : State) : Host.Outcome State Fault Refusal :=
  .next (
    let t := s.tapTakesPins 0x00 s.tap.capture
    { t with tap := { t.tap with boundary := cells } })

/-- SAMPLE_PRELOAD (R485): the cells captured from the pins, and those loaded at Update-DR. -/
def execSamplePreload (captured loaded : BitVec 14) (s : State) : Host.Outcome State Fault Refusal :=
  .next (
    let t := s.tapTo 0x01 (captured.setWidth 32)
    { t with tap := { t.tap with boundary := loaded } })

/-- IDCODE (R484, Table 15.15). -/
def execIdcode (s : State) : Host.Outcome State Fault Refusal := .next (s.tapTo 0x02 idcodeWord)

/-- CLAMP (R486). -/
def execClamp (s : State) : Host.Outcome State Fault Refusal := .next (s.tapTakesPins 0x03 0)

/-- HIGHZ (R486). -/
def execHighz (s : State) : Host.Outcome State Fault Refusal := .next (s.tapTakesPins 0x04 0)

/-- The two writes of CULVERT_LOOP on one culvert: ENABLE = 0, then LOOP = 1 (R96, R487). -/
def State.scanLoop (s : State) (c : Nat) : State :=
  let s := s.wrClvCtrl c (clearBit (s.stored (0x020 + c) 0x004) 8)
  s.wrClvCtrl c (s.stored (0x020 + c) 0x004 + (1 - s.rd (Reg.CLV.CTRL_LOOP c)) * 2 ^ (Reg.CLV.CTRL_LOOP c).lo)

/-- Whether CULVERT_LOOP is granted (R487). -/
def State.loopGranted (s : State) : Bool :=
  !s.flag Reg.GLB.STRAPS_MODE && s.flag Reg.CKM.STAT_PLL_LOCK && (List.range 8).all fun c => s.culvState c != 5

/-- CULVERT_LOOP (R487, R488): loopback on every culvert, or refused; LOOP_DR is captured. -/
def execCulvertLoop (s : State) : Host.Outcome State Fault Refusal :=
  .next (
    let ok := s.loopGranted
    let s := if ok then (List.range 8).foldl State.scanLoop s else s
    let t := { s with tap := { s.tap with refused := !ok } }
    t.tapTo 0x10 t.loopWord)

/-- SCAN_STAT (R488). -/
def execScanStat (s : State) : Host.Outcome State Fault Refusal := .next (s.tapTo 0x11 s.scanWord)

/-- BYPASS (R484): one bit, captured as 0. -/
def execBypass (s : State) : Host.Outcome State Fault Refusal := .next (s.tapTo 0x3F 0)

end Sys2Proof.Machine
end

