-- ==== Sys2Proof/Machine/Dispatch.lean ====
section
/-! DEFINITION. One arm per command, each one call of that command's meaning. -/

namespace Sys2Proof.Machine

/-- What a command does to everything but the queue, which no meaning changes. -/
def exec (i : Instr) (s : State) : Host.Outcome State Fault Refusal :=
  match i with
  | .strokeBoundary => Sys2Proof.Machine.execStrokeBoundary s
  | .actuatorSetLive => Sys2Proof.Machine.execActuatorSetLive s
  | .monitorSample m codes refBad dim => Sys2Proof.Machine.execMonitorSample m codes refBad dim s
  | .sampleOverrun m ch => Sys2Proof.Machine.execSampleOverrun m ch s
  | .demodOverrun u => Sys2Proof.Machine.execDemodOverrun u s
  | .calstepOverrun u => Sys2Proof.Machine.execCalstepOverrun u s
  | .rowlockDemod u => Sys2Proof.Machine.execRowlockDemod u s
  | .seatLock u => Sys2Proof.Machine.execSeatLock u s
  | .lossOfLock u => Sys2Proof.Machine.execLossOfLock u s
  | .searchMemberTimeout u delta => Sys2Proof.Machine.execSearchMemberTimeout u delta s
  | .seatWithdraw u => Sys2Proof.Machine.execSeatWithdraw u s
  | .bankRefWithdraw p bank => Sys2Proof.Machine.execBankRefWithdraw p bank s
  | .withdrawnSeatRetry u => Sys2Proof.Machine.execWithdrawnSeatRetry u s
  | .laneOperationsIssue p => Sys2Proof.Machine.execLaneOperationsIssue p s
  | .laneAddDeadline p lane => Sys2Proof.Machine.execLaneAddDeadline p lane s
  | .driverStart p => Sys2Proof.Machine.execDriverStart p s
  | .darkIdleStep => Sys2Proof.Machine.execDarkIdleStep s
  | .idleDarkWrite via data => Sys2Proof.Machine.execIdleDarkWrite via data s
  | .restore via p => Sys2Proof.Machine.execRestore via p s
  | .seatRetry via p side seats => Sys2Proof.Machine.execSeatRetry via p side seats s
  | .thermalSolve endCycle fault => Sys2Proof.Machine.execThermalSolve endCycle fault s
  | .solveMiss => Sys2Proof.Machine.execSolveMiss s
  | .deltaListApply => Sys2Proof.Machine.execDeltaListApply s
  | .blockRefactor fault => Sys2Proof.Machine.execBlockRefactor fault s
  | .refactorCarry => Sys2Proof.Machine.execRefactorCarry s
  | .baWindowEnd discarded total => Sys2Proof.Machine.execBaWindowEnd discarded total s
  | .baIteration pivotOk update => Sys2Proof.Machine.execBaIteration pivotOk update s
  | .baDeadline => Sys2Proof.Machine.execBaDeadline s
  | .markerStartPulse time => Sys2Proof.Machine.execMarkerStartPulse time s
  | .markerDecision pulse count crc => Sys2Proof.Machine.execMarkerDecision pulse count crc s
  | .freewheel => Sys2Proof.Machine.execFreewheel s
  | .fwdClkLoss => Sys2Proof.Machine.execFwdClkLoss s
  | .refclkLoss => Sys2Proof.Machine.execRefclkLoss s
  | .refclkReturn => Sys2Proof.Machine.execRefclkReturn s
  | .refclkReacquired => Sys2Proof.Machine.execRefclkReacquired s
  | .holdoverExit => Sys2Proof.Machine.execHoldoverExit s
  | .pllLock refCycles => Sys2Proof.Machine.execPllLock refCycles s
  | .ovrClr via data => Sys2Proof.Machine.execOvrClr via data s
  | .headgateEnable via x data => Sys2Proof.Machine.execHeadgateEnable via x data s
  | .headgateDisable via x data => Sys2Proof.Machine.execHeadgateDisable via x data s
  | .headgateAttenWrite via x data => Sys2Proof.Machine.execHeadgateAttenWrite via x data s
  | .headgateRampStep x => Sys2Proof.Machine.execHeadgateRampStep x s
  | .inputPowerCheck x pwr leak => Sys2Proof.Machine.execInputPowerCheck x pwr leak s
  | .inputLost x => Sys2Proof.Machine.execInputLost x s
  | .shutFail x => Sys2Proof.Machine.execShutFail x s
  | .synRecal via p => Sys2Proof.Machine.execSynRecal via p s
  | .synTuningOutOfRange p => Sys2Proof.Machine.execSynTuningOutOfRange p s
  | .synLock p => Sys2Proof.Machine.execSynLock p s
  | .synRelockTimeout p => Sys2Proof.Machine.execSynRelockTimeout p s
  | .datumMeasure pwr locked scale => Sys2Proof.Machine.execDatumMeasure pwr locked scale s
  | .datumDetected => Sys2Proof.Machine.execDatumDetected s
  | .datumAcquireEnd pwr locked scale ringCode ofs => Sys2Proof.Machine.execDatumAcquireEnd pwr locked scale ringCode ofs s
  | .datumLost => Sys2Proof.Machine.execDatumLost s
  | .datumRejected => Sys2Proof.Machine.execDatumRejected s
  | .datumAbsent => Sys2Proof.Machine.execDatumAbsent s
  | .reacquire via => Sys2Proof.Machine.execReacquire via s
  | .thermalRead temps => Sys2Proof.Machine.execThermalRead temps s
  | .thmHot n => Sys2Proof.Machine.execThmHot n s
  | .thmCold n => Sys2Proof.Machine.execThmCold n s
  | .thmTrip n => Sys2Proof.Machine.execThmTrip n s
  | .visitStart u => Sys2Proof.Machine.execVisitStart u s
  | .visitEnd u => Sys2Proof.Machine.execVisitEnd u s
  | .passReq via ports => Sys2Proof.Machine.execPassReq via ports s
  | .passTrigger p => Sys2Proof.Machine.execPassTrigger p s
  | .passStart p => Sys2Proof.Machine.execPassStart p s
  | .nvsRecordWriteStart rec => Sys2Proof.Machine.execNvsRecordWriteStart rec s
  | .nvsWordWrite bad => Sys2Proof.Machine.execNvsWordWrite bad s
  | .nvsWordDefer => Sys2Proof.Machine.execNvsWordDefer s
  | .nvsCmdRead via page => Sys2Proof.Machine.execNvsCmdRead via page s
  | .nvsCmdWrite via page => Sys2Proof.Machine.execNvsCmdWrite via page s
  | .nvsReadComplete ce ue => Sys2Proof.Machine.execNvsReadComplete ce ue s
  | .powerLoss fate => Sys2Proof.Machine.execPowerLoss fate s
  | .idleFlit c h => Sys2Proof.Machine.execIdleFlit c h s
  | .trainFlit c h => Sys2Proof.Machine.execTrainFlit c h s
  | .rdata c h bytes => Sys2Proof.Machine.execRdata c h bytes s
  | .wdone c h count => Sys2Proof.Machine.execWdone c h count s
  | .rerr c h isWrite reason count => Sys2Proof.Machine.execRerr c h isWrite reason count s
  | .inval c h lines => Sys2Proof.Machine.execInval c h lines s
  | .culvertReplayTimeout c bufUe => Sys2Proof.Machine.execCulvertReplayTimeout c bufUe s
  | .culvertNoProgress c => Sys2Proof.Machine.execCulvertNoProgress c s
  | .steerTableLive => Sys2Proof.Machine.execSteerTableLive s
  | .steerEntryReturn e => Sys2Proof.Machine.execSteerEntryReturn e s
  | .culvertEnable via c data => Sys2Proof.Machine.execCulvertEnable via c data s
  | .culvertDisable via c data => Sys2Proof.Machine.execCulvertDisable via c data s
  | .culvertRetrain via c data => Sys2Proof.Machine.execCulvertRetrain via c data s
  | .culvertLoopStart via c data => Sys2Proof.Machine.execCulvertLoopStart via c data s
  | .loopbackEnd c fails sbFail => Sys2Proof.Machine.execLoopbackEnd c fails sbFail s
  | .returnClockLock c => Sys2Proof.Machine.execReturnClockLock c s
  | .returnClockLoss c => Sys2Proof.Machine.execReturnClockLoss c s
  | .ident c cap set role pos => Sys2Proof.Machine.execIdent c cap set role pos s
  | .deskewResult c own hub rate => Sys2Proof.Machine.execDeskewResult c own hub rate s
  | .culvertVerifyDone c => Sys2Proof.Machine.execCulvertVerifyDone c s
  | .culvertQuiesceDone c => Sys2Proof.Machine.execCulvertQuiesceDone c s
  | .culvertTrainingTimeout c => Sys2Proof.Machine.execCulvertTrainingTimeout c s
  | .rdReq c tag addr => Sys2Proof.Machine.execRdReq c tag addr s
  | .wrReq c tag addr data => Sys2Proof.Machine.execWrReq c tag addr data s
  | .privateWrite form target bytes parityBad => Sys2Proof.Machine.execPrivateWrite form target bytes parityBad s
  | .privateRead form target count => Sys2Proof.Machine.execPrivateRead form target count s
  | .setdasa target da => Sys2Proof.Machine.execSetdasa target da s
  | .entdaa da => Sys2Proof.Machine.execEntdaa da s
  | .setnewda target da => Sys2Proof.Machine.execSetnewda target da s
  | .rstdaa => Sys2Proof.Machine.execRstdaa s
  | .getpid target => Sys2Proof.Machine.execGetpid target s
  | .getbcr target => Sys2Proof.Machine.execGetbcr target s
  | .getdcr target => Sys2Proof.Machine.execGetdcr target s
  | .getstatus target => Sys2Proof.Machine.execGetstatus target s
  | .rstact target action => Sys2Proof.Machine.execRstact target action s
  | .enec target => Sys2Proof.Machine.execEnec target s
  | .disec target => Sys2Proof.Machine.execDisec target s
  | .unsupportedCcc target => Sys2Proof.Machine.execUnsupportedCcc target s
  | .transferEnd repeated => Sys2Proof.Machine.execTransferEnd repeated s
  | .targetReset => Sys2Proof.Machine.execTargetReset s
  | .sclLowTimeout => Sys2Proof.Machine.execSclLowTimeout s
  | .sampleRead via addr => Sys2Proof.Machine.execSampleRead via addr s
  | .pairLoWrite via addr data => Sys2Proof.Machine.execPairLoWrite via addr data s
  | .pairHiWrite via addr data => Sys2Proof.Machine.execPairHiWrite via addr data s
  | .lockWrite via page data => Sys2Proof.Machine.execLockWrite via page data s
  | .errW1cWrite via page cls data => Sys2Proof.Machine.execErrW1cWrite via page cls data s
  | .errFatalClear via page data => Sys2Proof.Machine.execErrFatalClear via page data s
  | .cntClr via page data => Sys2Proof.Machine.execCntClr via page data s
  | .registerWrite via addr data => Sys2Proof.Machine.execRegisterWrite via addr data s
  | .pendSample => Sys2Proof.Machine.execPendSample s
  | .glbReset via data => Sys2Proof.Machine.execGlbReset via data s
  | .fullReset cause => Sys2Proof.Machine.execFullReset cause s
  | .resetRelease position mode i3cAddr => Sys2Proof.Machine.execResetRelease position mode i3cAddr s
  | .bringupStepBegin => Sys2Proof.Machine.execBringupStepBegin s
  | .dataShell p h body => Sys2Proof.Machine.execDataShell p h body s
  | .nullShell p h dark => Sys2Proof.Machine.execNullShell p h dark s
  | .trainShell p h => Sys2Proof.Machine.execTrainShell p h s
  | .shellBoundary p => Sys2Proof.Machine.execShellBoundary p s
  | .ackPoint p => Sys2Proof.Machine.execAckPoint p s
  | .shellReplayTimeout p => Sys2Proof.Machine.execShellReplayTimeout p s
  | .linkNoProgress p => Sys2Proof.Machine.execLinkNoProgress p s
  | .opRepeat p => Sys2Proof.Machine.execOpRepeat p s
  | .ctrlTimeout p => Sys2Proof.Machine.execCtrlTimeout p s
  | .param0 p tag arg => Sys2Proof.Machine.execParam0 p tag arg s
  | .paramMap p tag arg => Sys2Proof.Machine.execParamMap p tag arg s
  | .paramCred p tag arg => Sys2Proof.Machine.execParamCred p tag arg s
  | .laneDrop p tag arg => Sys2Proof.Machine.execLaneDrop p tag arg s
  | .laneAdd p tag arg => Sys2Proof.Machine.execLaneAdd p tag arg s
  | .laneSwap p tag arg => Sys2Proof.Machine.execLaneSwap p tag arg s
  | .dropReq p tag arg => Sys2Proof.Machine.execDropReq p tag arg s
  | .swapReq p tag arg => Sys2Proof.Machine.execSwapReq p tag arg s
  | .rxSeats p tag arg => Sys2Proof.Machine.execRxSeats p tag arg s
  | .response p tag arg => Sys2Proof.Machine.execResponse p tag arg s
  | .pause p tag arg => Sys2Proof.Machine.execPause p tag arg s
  | .resume p tag arg => Sys2Proof.Machine.execResume p tag arg s
  | .pauseLong p => Sys2Proof.Machine.execPauseLong p s
  | .drainReq p tag arg => Sys2Proof.Machine.execDrainReq p tag arg s
  | .drained p tag arg => Sys2Proof.Machine.execDrained p tag arg s
  | .drainedSend p => Sys2Proof.Machine.execDrainedSend p s
  | .reset p tag arg => Sys2Proof.Machine.execReset p tag arg s
  | .fanEnter p tag arg => Sys2Proof.Machine.execFanEnter p tag arg s
  | .fanExit p tag arg => Sys2Proof.Machine.execFanExit p tag arg s
  | .fanAck p tag arg => Sys2Proof.Machine.execFanAck p tag arg s
  | .fanCred p tag arg => Sys2Proof.Machine.execFanCred p tag arg s
  | .linkWaitDone p => Sys2Proof.Machine.execLinkWaitDone p s
  | .linkVerifyDone p => Sys2Proof.Machine.execLinkVerifyDone p s
  | .linkTrainingTimeout p => Sys2Proof.Machine.execLinkTrainingTimeout p s
  | .drainTimeout p => Sys2Proof.Machine.execDrainTimeout p s
  | .linkLos p => Sys2Proof.Machine.execLinkLos p s
  | .linkDown p => Sys2Proof.Machine.execLinkDown p s
  | .linkRetrain via p data => Sys2Proof.Machine.execLinkRetrain via p data s
  | .linkReset via p data => Sys2Proof.Machine.execLinkReset via p data s
  | .linkDisable via p data => Sys2Proof.Machine.execLinkDisable via p data s
  | .autoRetrain p => Sys2Proof.Machine.execAutoRetrain p s
  | .fanMemberLost k p => Sys2Proof.Machine.execFanMemberLost k p s
  | .iqDoorbell via k data => Sys2Proof.Machine.execIqDoorbell via k data s
  | .iqEnable via k data => Sys2Proof.Machine.execIqEnable via k data s
  | .iqDisable via k data => Sys2Proof.Machine.execIqDisable via k data s
  | .oqEnable via k data => Sys2Proof.Machine.execOqEnable via k data s
  | .oqDisable via k data => Sys2Proof.Machine.execOqDisable via k data s
  | .nop q => Sys2Proof.Machine.execNop q s
  | .send q fault => Sys2Proof.Machine.execSend q fault s
  | .fetch q => Sys2Proof.Machine.execFetch q s
  | .scatter q => Sys2Proof.Machine.execScatter q s
  | .gather q => Sys2Proof.Machine.execGather q s
  | .buoy q => Sys2Proof.Machine.execBuoy q s
  | .fence q => Sys2Proof.Machine.execFence q s
  | .fenceComplete k => Sys2Proof.Machine.execFenceComplete k s
  | .waitRelease q => Sys2Proof.Machine.execWaitRelease q s
  | .backwaterRelease => Sys2Proof.Machine.execBackwaterRelease s
  | .heldExpired => Sys2Proof.Machine.execHeldExpired s
  | .sendData rx => Sys2Proof.Machine.execSendData rx s
  | .fetchReq p => Sys2Proof.Machine.execFetchReq p s
  | .fetchData rx => Sys2Proof.Machine.execFetchData rx s
  | .xferDone p => Sys2Proof.Machine.execXferDone p s
  | .buoyOp p => Sys2Proof.Machine.execBuoyOp p s
  | .ccInvalidateLines via data => Sys2Proof.Machine.execCcInvalidateLines via data s
  | .ccInvalidateAll via data => Sys2Proof.Machine.execCcInvalidateAll via data s
  | .ccInvalidateDone => Sys2Proof.Machine.execCcInvalidateDone s
  | .poolLimitWrite via pool data => Sys2Proof.Machine.execPoolLimitWrite via pool data s
  | .pageOut fault => Sys2Proof.Machine.execPageOut fault s
  | .poolExhausted job => Sys2Proof.Machine.execPoolExhausted job s
  | .buoySetWrite via k hi => Sys2Proof.Machine.execBuoySetWrite via k hi s
  | .buoyAddWrite via hi => Sys2Proof.Machine.execBuoyAddWrite via hi s
  | .flumeApply via data => Sys2Proof.Machine.execFlumeApply via data s
  | .flumeChangeStart => Sys2Proof.Machine.execFlumeChangeStart s
  | .flumeChangeEnd tapsOk => Sys2Proof.Machine.execFlumeChangeEnd tapsOk s
  | .mziDither z err => Sys2Proof.Machine.execMziDither z err s
  | .flumeDrift z => Sys2Proof.Machine.execFlumeDrift z s
  | .mziHeld ch => Sys2Proof.Machine.execMziHeld ch s
  | .reestWindowOpen => Sys2Proof.Machine.execReestWindowOpen s
  | .fanEnterWrite via k => Sys2Proof.Machine.execFanEnterWrite via k s
  | .fanEntryCheck => Sys2Proof.Machine.execFanEntryCheck s
  | .fanQuiesceDone k => Sys2Proof.Machine.execFanQuiesceDone k s
  | .fanQuiesceTimeout k => Sys2Proof.Machine.execFanQuiesceTimeout k s
  | .fanExitWrite via k => Sys2Proof.Machine.execFanExitWrite via k s
  | .fanDrainDone k => Sys2Proof.Machine.execFanDrainDone k s
  | .fanDrainTimeout k p => Sys2Proof.Machine.execFanDrainTimeout k p s
  | .reduce q => Sys2Proof.Machine.execReduce q s
  | .stash q => Sys2Proof.Machine.execStash q s
  | .stashEncodeEnd read => Sys2Proof.Machine.execStashEncodeEnd read s
  | .unstash q => Sys2Proof.Machine.execUnstash q s
  | .unstashVerify read => Sys2Proof.Machine.execUnstashVerify read s
  | .extentRetire via id => Sys2Proof.Machine.execExtentRetire via id s
  | .extentRetireAll via => Sys2Proof.Machine.execExtentRetireAll via s
  | .tallyImg p => Sys2Proof.Machine.execTallyImg p s
  | .tallyImgSend round => Sys2Proof.Machine.execTallyImgSend round s
  | .tallyRes p => Sys2Proof.Machine.execTallyRes p s
  | .tallyAbort via round => Sys2Proof.Machine.execTallyAbort via round s
  | .rgtStart q => Sys2Proof.Machine.execRgtStart q s
  | .rgtIssue => Sys2Proof.Machine.execRgtIssue s
  | .rgtStop q => Sys2Proof.Machine.execRgtStop q s
  | .swap q => Sys2Proof.Machine.execSwap q s
  | .swapLive => Sys2Proof.Machine.execSwapLive s
  | .safeStateEntry => Sys2Proof.Machine.execSafeStateEntry s
  | .railMismatch page cycles => Sys2Proof.Machine.execRailMismatch page cycles s
  | .selfParity => Sys2Proof.Machine.execSelfParity s
  | .fatalReraise page bit => Sys2Proof.Machine.execFatalReraise page bit s
  | .umpExit via => Sys2Proof.Machine.execUmpExit via s
  | .safeStateExit => Sys2Proof.Machine.execSafeStateExit s
  | .firstClr via => Sys2Proof.Machine.execFirstClr via s
  | .statClr via => Sys2Proof.Machine.execStatClr via s
  | .lvlStatClr via => Sys2Proof.Machine.execLvlStatClr via s
  | .logbookWrite => Sys2Proof.Machine.execLogbookWrite s
  | .logCarry => Sys2Proof.Machine.execLogCarry s
  | .tapReset => Sys2Proof.Machine.execTapReset s
  | .extest cells => Sys2Proof.Machine.execExtest cells s
  | .samplePreload captured loaded => Sys2Proof.Machine.execSamplePreload captured loaded s
  | .idcode => Sys2Proof.Machine.execIdcode s
  | .clamp => Sys2Proof.Machine.execClamp s
  | .highz => Sys2Proof.Machine.execHighz s
  | .culvertLoop => Sys2Proof.Machine.execCulvertLoop s
  | .scanStat => Sys2Proof.Machine.execScanStat s
  | .bypass => Sys2Proof.Machine.execBypass s
  | .reservedOpcode q => Sys2Proof.Machine.execReservedOpcode q s
  | .discardedSidebandPacket c why => Sys2Proof.Machine.execDiscardedSidebandPacket c why s
  | .reservedFlitType c h type => Sys2Proof.Machine.execReservedFlitType c h type s
  | .reservedControlOp p op => Sys2Proof.Machine.execReservedControlOp p op s
  | .calibrationStep u r delta => Sys2Proof.Machine.execCalibrationStep u r delta s

end Sys2Proof.Machine
end

