-- ==== Sys2Proof/Machine/Step.lean ====
section
/-! DEFINITION. One step: the command at the front of the queue, or, with none waiting, one control cycle. -/

namespace Sys2Proof.Machine

/-- The passing of a control cycle with nothing commanded (R33, R142): the last cycle of a stroke stands until STROKE_BOUNDARY begins the
next (log entry 18). -/
def State.nextCycle (s : State) : State :=
  if s.running then s.atCycle (min (s.clk.cycle + 1) 1279)
  else { s with clk := { s.clk with idle := s.clk.idle + 1 }, log := s.log.newCycle }

/-- A control cycle passes: the control-space port performs an access that waits, and the culverts' lanes go on (R60, R119, R127). A die held
in full reset does neither. -/
def State.passCycle (s : State) : State := if s.held then s.nextCycle else s.nextCycle.portCycle.lanesCycle

/-- One step. -/
def step (s : State) : Host.Outcome State Fault Refusal :=
  match s.pending with
  | [] => .next s.passCycle
  | c :: rest => exec c { s with pending := rest }

/-- The state with the command that a word spells put at the front of its queue; a word that spells none leaves it. -/
def State.withFetchWord (s : State) (nbits w : Nat) : State :=
  match decodeTableWord nbits w with
  | none => s
  | some c => { s with pending := c :: s.pending }

end Sys2Proof.Machine
end

