-- ==== Sys2Proof/Machine/LaneCode.lean ====
section
/-! DEFINITION. The bits on the fibres: shells as bytes, their stripes over the lanes, codewords with Reed-Solomon parity or a lane tag, the
scramblers and the levels (R269 to R276, R278). -/

namespace Sys2Proof.Machine

/-! ## GF(2^10) (R269) -/

/-- `a * α` for the root α of x^10 + x^3 + 1. -/
def gfTimesX (a : BitVec 10) : BitVec 10 := (a <<< 1) ^^^ (if a.getLsbD 9 then 9#10 else 0#10)

/-- The product of two field elements: `b`'s bits from the highest down. -/
def gfMul (a b : BitVec 10) : BitVec 10 :=
  (List.range 10).foldl (fun r i => gfTimesX r ^^^ (if b.getLsbD (9 - i) then a else 0#10)) 0#10

/-- A power of a field element. -/
def gfPow (a : BitVec 10) : Nat → BitVec 10
  | 0 => 1#10
  | n + 1 => gfMul a (gfPow a n)

/-- The inverse of a field element other than 0: its 1,022nd power, by squares. -/
def gfInv (a : BitVec 10) : BitVec 10 :=
  ((List.range 9).foldl (fun (x : BitVec 10 × BitVec 10) _ =>
    let sq := gfMul x.1 x.1
    (sq, gfMul x.2 sq)) (a, 1#10)).2

/-- The value of a polynomial, given from its highest coefficient down. -/
def gfEval (p : List (BitVec 10)) (x : BitVec 10) : BitVec 10 := p.foldl (fun r c => gfMul r x ^^^ c) 0#10

/-- The eight roots α^0 to α^7 of the generator polynomial. -/
def rsRoots : List (BitVec 10) := (List.range 8).map (gfPow 2#10)

/-- The generator polynomial without its leading 1, from x^7 down: the product of x − α^i. -/
def rsGenerator : List (BitVec 10) :=
  (rsRoots.foldl (fun p r => List.zipWith (· ^^^ ·) (p ++ [0#10]) (0#10 :: p.map (gfMul r))) [1#10]).drop 1

/-- The parity symbols of 160 data symbols: the rest of their polynomial times x^8 by the generator, symbol 0 being the highest coefficient (log entry
191). -/
def rsParity (data : List (BitVec 10)) : List (BitVec 10) :=
  data.foldl (fun r d =>
    let lead := r.headD 0#10 ^^^ d
    List.zipWith (· ^^^ ·) (r.drop 1 ++ [0#10]) (rsGenerator.map (gfMul lead))) (List.replicate 8 0#10)

/-- The syndromes of 168 received symbols: all 0 for a codeword. -/
def rsSyndromes (word : List (BitVec 10)) : List (BitVec 10) := rsRoots.map (gfEval word)

/-- A codeword, data and parity. -/
def isCodeword (word : List (BitVec 10)) : Bool := (rsSyndromes word).all (· == 0#10)

/-- The sum of two polynomials given from the lowest coefficient up. -/
def gfAdd : List (BitVec 10) → List (BitVec 10) → List (BitVec 10)
  | [], q => q
  | p, [] => p
  | a :: p, b :: q => (a ^^^ b) :: gfAdd p q

/-- The value of a polynomial given from its lowest coefficient up. -/
def gfValue (p : List (BitVec 10)) (x : BitVec 10) : BitVec 10 := gfEval p.reverse x

/-- What the search for the error locator carries: the locator, the earlier one, the number of errors so far, the shift, and the earlier discrepancy. -/
structure Locator where
  now : List (BitVec 10)
  before : List (BitVec 10)
  errors : Nat
  shift : Nat
  last : BitVec 10
  deriving DecidableEq, Repr

/-- One step of the search (Berlekamp and Massey) at syndrome `n`. -/
def Locator.step (syn : List (BitVec 10)) (x : Locator) (n : Nat) : Locator :=
  let d := (List.range (x.errors + 1)).foldl (fun r i => r ^^^ gfMul (x.now.getD i 0#10) (if i ≤ n then syn.getD (n - i) 0#10 else 0#10)) 0#10
  if d = 0#10 then { x with shift := x.shift + 1 }
  else
    let f := gfMul d (gfInv x.last)
    let next := gfAdd x.now (List.replicate x.shift 0#10 ++ x.before.map (gfMul f))
    if 2 * x.errors ≤ n then ⟨next, x.now, n + 1 - x.errors, 1, d⟩ else { x with now := next, shift := x.shift + 1 }

/-- The error locator of a received word, and how many errors it says there are. -/
def rsLocate (syn : List (BitVec 10)) : Locator := (List.range 8).foldl (Locator.step syn) ⟨[1#10], [1#10], 0, 1, 1#10⟩

/-- The value of an error at a place `x` of the locator: the evaluator there over the locator's derivative. -/
def rsMagnitude (syn loc : List (BitVec 10)) (x : BitVec 10) : BitVec 10 :=
  let inv := gfInv x
  let omega := (List.range 8).map fun n =>
    (List.range (n + 1)).foldl (fun r i => r ^^^ gfMul (loc.getD i 0#10) (syn.getD (n - i) 0#10)) 0#10
  let slope := (List.range loc.length).map fun i => if i % 2 = 0 then loc.getD (i + 1) 0#10 else 0#10
  gfMul (gfMul x (gfValue omega inv)) (gfInv (gfValue slope inv))

/-- A received word decoded (R269): the codeword that differs from it in at most 4 symbols, and in how many; none where there is no such codeword. -/
def rsDecode (word : List (BitVec 10)) : Option (Nat × List (BitVec 10)) :=
  let syn := rsSyndromes word
  if syn.all (· == 0#10) then some (0, word)
  else
    let loc := (rsLocate syn).now
    let fixed := (List.range 168).map fun j =>
      let x := gfPow 2#10 (167 - j)
      if gfValue loc (gfInv x) = 0#10 then word.getD j 0#10 ^^^ rsMagnitude syn loc x else word.getD j 0#10
    let wrong := ((fixed.zip word).filter fun c => c.1 != c.2).length
    if isCodeword fixed && decide (wrong ≤ 4) then some (wrong, fixed) else .none

/-! ## Codewords (R269, R270, R272) -/

/-- The 160 data symbols of 200 bytes: symbol j is bits 10j to 10j + 9 (R270). -/
def dataSymbols (block : List Byte) : List (BitVec 10) :=
  let v := ofBytes (fitBytes 200 block)
  (List.range 160).map fun j => BitVec.ofNat 10 (v >>> (10 * j))

/-- The bytes of 160 data symbols. -/
def symbolBytes (syms : List (BitVec 10)) : List Byte :=
  toBytes 200 ((syms.take 160).foldr (fun x v => x.toNat + v * 2 ^ 10) 0)

/-- The lane tag of a line (R272): the CRC-16 of the codeword's bytes, the line number, and zeros. -/
def laneTag (line : Nat) (block : List Byte) : Nat := (crc16 (fitBytes 200 block)).toNat + line % 32 * 2 ^ 16

/-- The 168 symbols of a line's codeword: parity with FEC on, the lane tag with FEC off. -/
def codeword (fec : Bool) (line : Nat) (block : List Byte) : List (BitVec 10) :=
  let data := dataSymbols block
  data ++ (if fec then rsParity data else (List.range 8).map fun j => BitVec.ofNat 10 (laneTag line block >>> (10 * j)))

/-- A line's received codeword: the symbols corrected and the bytes, or none where it is uncorrectable or its tag fails. -/
def decodeWord (fec : Bool) (line : Nat) (word : List (BitVec 10)) : Option (Nat × List Byte) :=
  if fec then (rsDecode word).map fun r => (r.1, symbolBytes r.2)
  else if word = codeword false line (symbolBytes word) then some (0, symbolBytes word)
  else .none

/-! ## The line (R270, R271) -/

/-- The 1,680 bits of a codeword as a number, the first bit on the line in bit 0 (R270). -/
def wordBits (word : List (BitVec 10)) : Nat := word.foldr (fun x v => x.toNat + v * 2 ^ 10) 0

/-- The 168 symbols of 1,680 bits. -/
def bitsWord (v : Nat) : List (BitVec 10) := (List.range 168).map fun j => BitVec.ofNat 10 (v >>> (10 * j))

/-- A scrambler after so many bits. -/
def prbs31After : Nat → BitVec 31 → BitVec 31
  | 0, r => r
  | n + 1, r => prbs31After n (prbs31Step r).2

/-- What a line's scrambler XORs with in a slot (R271): seeded with 0x7FFF_FFE0 + the line number as ALIGN begins, it runs on across the slots (the
order of its bits as in log entry 168). -/
def scramble (line slot : Nat) : Nat := (prbs31Bits 1680 (prbs31After (1680 * slot) (BitVec.ofNat 31 (0x7FFFFFE0 + line)))).1

/-- The PAM4 level of two bits of the line (R270). -/
def pamLevel (low high : Bool) : Nat := [0, 1, 3, 2].getD (2 * ofBool high + ofBool low) 0

/-- The symbols that a line sends for 1,680 bits: levels with PAM4, bits with NRZ (R157, R270). -/
def lineSymbols (pam : Bool) (v : Nat) : List Nat :=
  if pam then (List.range 840).map fun i => pamLevel (bitAt v (2 * i)) (bitAt v (2 * i + 1))
  else (List.range 1680).map fun i => ofBool (bitAt v i)

/-! ## Shells as bytes (R274 to R276, R278) -/

/-- The header of a shell as its 128-bit value (Table 9.2). -/
def TxHdr.value (h : TxHdr) : Nat :=
  h.ack.toNat * 2 ^ 104 + h.seq.toNat * 2 ^ 80 + h.crHdr % 2 ^ 16 * 2 ^ 64 + h.crData % 2 ^ 24 * 2 ^ 40 + h.crTc % 4 * 2 ^ 38 +
    h.msgCount % 2 ^ 9 * 2 ^ 29 + h.first % 2 ^ 12 * 2 ^ 17 + h.width % 2 ^ 4 * 2 ^ 13 + h.kind % 4 * 2 ^ 11 + ofBool h.replay * 2 ^ 10 +
    ofBool h.fan * 2 ^ 9

/-- A received header (Table 9.2), with what the lanes and the CRC report. -/
def readHdr (v : Nat) (lanes : List (Option Nat)) (crcOk : Bool) : ShellHdr :=
  { lanes := lanes, crcOk := crcOk, reservedSet := bits v 8 0 != 0, ack := BitVec.ofNat 24 (bits v 127 104), seq := BitVec.ofNat 24 (bits v 103 80)
    crHdr := BitVec.ofNat 16 (bits v 79 64), crData := BitVec.ofNat 24 (bits v 63 40), crTc := BitVec.ofNat 2 (bits v 39 38)
    msgCount := bits v 37 29, first := bits v 28 17, fan := bitAt v 9, kind := BitVec.ofNat 2 (bits v 12 11), width := BitVec.ofNat 4 (bits v 16 13)
    replay := bitAt v 10 }

/-- The bytes of a DATA or NULL shell of a width: header, body, CRC-32 (R274). -/
def shellBytes (h : TxHdr) (body : List Byte) : List Byte :=
  let front := toBytes 16 h.value ++ fitBytes (200 * (h.width + 1) - 20) body
  front ++ toBytes 4 (crc32 front).toNat

/-- The 200-byte block of a CTRL or TRAIN shell: header, 22 words, CRC-32, zeros (R278). -/
def ctrlBlock (h : TxHdr) (ws : List DWord) : List Byte :=
  let front := toBytes 16 h.value ++ fitBytes 176 (bytesOfWords ws)
  front ++ toBytes 4 (crc32 front).toNat ++ List.replicate 4 0

/-- The codeword bytes of an active position: every W-th granule of 8 bytes of the shell (R275). -/
def stripe (width pos : Nat) (bs : List Byte) : List Byte := (List.range 25).flatMap fun r => (bs.drop (8 * (r * width + pos))).take 8

/-- The shell that the blocks of all active positions make (R275). -/
def unstripe (blocks : List (List Byte)) : List Byte := (List.range 25).flatMap fun r => blocks.flatMap fun b => (b.drop (8 * r)).take 8

/-- The 200 bytes that an active position carries of a shell; none in a slot sent dark (R282). -/
def shareOf (h : TxHdr) (pos : Nat) : TxBody → Option (List Byte)
  | .data body => some (stripe (h.width + 1) pos (shellBytes h body))
  | .null dark => if dark then .none else some (stripe (h.width + 1) pos (shellBytes h []))
  | .words ws => some (ctrlBlock h ws)

/-- What a line of a port's transmitter carried in the last slot: 1,680 scrambled bits, or no modulation. -/
def State.lineOut (s : State) (n line : Nat) : Option Nat :=
  let out := (s.link n).onLines
  match (s.link n).sent, out.lines.findIdx? (·.contains line) with
  | some (h, body), some pos =>
    (shareOf h pos body).map fun block => wordBits (codeword out.fec line block) ^^^ scramble line out.slot
  | _, _ => .none

/-- The levels or bits that a line of a port's transmitter sent in the last slot, by the modulation of its rate (Table 5.4). -/
def State.lineSent (s : State) (n line : Nat) : Option (List Nat) :=
  (s.lineOut n line).map (lineSymbols (s.rd (Reg.OPT.STAT_RATE (s.bankOf (s.streamPort n))) != 2))

end Sys2Proof.Machine
end

