-- ==== Sys2Proof/Machine/LineIn.lean ====
section
/-! DEFINITION. A received shell slot taken apart: which row its bits are (R270, R275, R278, R279, R282). -/

namespace Sys2Proof.Machine

/-- A control word of an accepted block (R279): its operation, nothing for an empty word, a malformed field where a reserved bit is set (log entry 192). -/
def receiveWord (p : Fin 16) (w : Nat) (s : State) : Host.Outcome State Fault Refusal :=
  let tag := BitVec.ofNat 4 (bits w 55 52)
  let arg := BitVec.ofNat 48 (bits w 47 0)
  if bits w 51 48 ≠ 0 then .next (if s.running then s.malformed p.val else s)
  else
    match bits w 63 56 with
    | 0x00 => .next s
    | 0x01 => execParam0 p tag arg s
    | 0x02 => execParamMap p tag arg s
    | 0x03 => execParamCred p tag arg s
    | 0x10 => execLaneDrop p tag arg s
    | 0x11 => execLaneAdd p tag arg s
    | 0x12 => execLaneSwap p tag arg s
    | 0x13 => execDropReq p tag arg s
    | 0x14 => execRxSeats p tag arg s
    | 0x15 => execSwapReq p tag arg s
    | 0x18 => execResponse p tag arg s
    | 0x20 => execPause p tag arg s
    | 0x21 => execResume p tag arg s
    | 0x28 => execDrainReq p tag arg s
    | 0x29 => execDrained p tag arg s
    | 0x2A => execReset p tag arg s
    | 0x30 => execFanEnter p tag arg s
    | 0x31 => execFanExit p tag arg s
    | 0x38 => execFanAck p tag arg s
    | 0x39 => execFanCred p tag arg s
    | op => execReservedControlOp p (BitVec.ofNat 8 op) s

/-- The words of a block, one after the other. -/
def receiveWords (p : Fin 16) (ws : List Nat) (s : State) : Host.Outcome State Fault Refusal :=
  ws.foldl (fun o w => match o with
    | .next t => receiveWord p w t
    | .fault f => .fault f
    | .refused r => .refused r) (.next s)

/-- The lowest block that passes the CRC of R278 and is of a CTRL or TRAIN shell. -/
def passingBlock (blocks : List (Option (Nat × List Byte))) : Option (List Byte) :=
  (blocks.filterMap fun b => b.map (·.2)).find? fun b =>
    crc32 (b.take 192) == BitVec.ofNat 32 (ofBytes ((b.drop 192).take 4)) && decide (2 ≤ bits (ofBytes (b.take 16)) 12 11)

/-- The 22 control words of a block. -/
def blockWords (block : List Byte) : List Nat := (List.range 22).map fun i => ofBytes ((block.drop (16 + 8 * i)).take 8)

/-- The lines on which a port takes a shell slot: those of its receive lanes, in order; while it aligns, every line (Table 9.6). -/
def State.rxLines (s : State) (p : Nat) : List Nat :=
  if s.linkState p == 2 then List.range 18 else (activeLanes (s.laneSt p).rxMap).map fun k => (s.laneSt p).rxMap.getD k noSeat

/-- A shell slot received: for each line of `rxLines`, its 1,680 bits as the peer's scrambler sent them in a slot, or no modulation. It is a dark slot, a
block of R278 with its words, or a striped shell; one whose KIND cannot be read counts as DATA (log entry 196). -/
def receiveSlot (p : Fin 16) (slot : Nat) (rx : List (Option Nat)) (s : State) : Host.Outcome State Fault Refusal :=
  let fec := s.flag (Reg.LNK.STAT_FEC p.val)
  let blocks := ((s.rxLines p.val).zip rx).map fun x =>
    x.2.bind fun v => decodeWord fec x.1 (bitsWord (v ^^^ scramble x.1 slot))
  let lanes := blocks.map fun b => b.map (·.1)
  if rx.all (·.isNone) then execNullShell p (readHdr 0 lanes false) true s
  else
    match passingBlock blocks with
    | some b =>
      let h := readHdr (ofBytes (b.take 16)) lanes true
      if h.kind = 3 then
        match execTrainShell p h s with
        | .next t => receiveWords p (blockWords b) t
        | o => o
      else
        match execNullShell p h false s with
        | .next t => receiveWords p (blockWords b) t
        | o => o
    | .none =>
      let bs := unstripe (blocks.map fun b => (b.map (·.2)).getD (List.replicate 200 0))
      let l := bs.length
      let crcOk := blocks.all (·.isSome) && crc32 (bs.take (l - 4)) == BitVec.ofNat 32 (ofBytes (bs.drop (l - 4)))
      let h := readHdr (ofBytes (bs.take 16)) lanes crcOk
      let known := (blocks.take 2).all (·.isSome)
      if known && h.kind == 0 then execNullShell p h false s else execDataShell p { h with kind := 1 } ((bs.drop 16).take (l - 20)) s

end Sys2Proof.Machine
end

