-- ==== Sys2Proof/WellFormed.lean ====
section
/-! DEFINITION. Well-formed commands: operands within the ranges that the spec's rules give them. A meaning is total on every term of the
syntax; what is ill-formed names no channel, lane, page or record of this die. -/

namespace Sys2Proof

/-- Channels of a monitor unit: 40 of a port (Table 5.5), 240 of the Flume (R372). -/
def MonUnit.channels : MonUnit → Nat
  | .port _ => 40
  | .flume => 240

/-- Banks of a monitor unit, eight channels to each (Table 5.5, R372). -/
def MonUnit.banks (m : MonUnit) : Nat := m.channels / 8

/-- One 12-bit code for every channel (R162). -/
def MonUnit.codesOk (m : MonUnit) (codes : List Nat) : Bool :=
  decide (codes.length = m.channels) && codes.all fun c => decide (c < 4096)

/-- A position of the matrix with a Q2.14 value (R258). -/
def DeltaEntry.wf (d : DeltaEntry) : Bool :=
  decide (d.row < 816) && decide (d.col < 816) && decide (-2 ^ 15 ≤ d.value) && decide (d.value < 2 ^ 15)

/-- A fault names one of the 24 blocks (R249). -/
def SolveFault.wf : SolveFault → Bool
  | .none => true
  | .storeCe b => decide (b < 24)
  | .factorUe b => decide (b < 24)
  | .matrixUe => true

/-- A page is one of the Reservoir's 65,536 (R354). -/
def MemFault.wf : MemFault → Bool
  | .none => true
  | .cacheCe => true
  | .cacheUe => true
  | .pageCe page => decide (page < 65536)
  | .pageUe page => decide (page < 65536)

/-- The fields of a header in their widths (Table 9.2), and at most `most` lanes that report, none with more than 4 symbols corrected (R269). -/
def ShellHdr.wf (h : ShellHdr) (most : Nat) : Bool :=
  decide (h.lanes.length ≤ most) && h.lanes.all (fun l => decide (l.getD 0 ≤ 4)) && decide (h.msgCount < 512) && decide (h.first < 4096)

/-- The bytes of a shell's body: what its lanes hold beside the header and the CRC (R274). -/
def ShellHdr.bodyLength (h : ShellHdr) : Nat := 200 * (h.width.toNat + 1) - 20

/-- Whether a command's operands lie in their ranges. -/
def Instr.wf : Instr → Bool
  | .strokeBoundary => true
  | .actuatorSetLive => true
  | .monitorSample m codes refBad _ => m.codesOk codes && refBad.all fun b => decide (b < m.banks)
  | .sampleOverrun m ch => decide (ch < m.channels)
  | .demodOverrun _ => true
  | .calstepOverrun _ => true
  | .rowlockDemod _ => true
  | .seatLock _ => true
  | .lossOfLock _ => true
  | .searchMemberTimeout _ delta => delta.all DeltaEntry.wf
  | .seatWithdraw _ => true
  | .bankRefWithdraw _ bank => decide (bank < 5)
  | .withdrawnSeatRetry _ => true
  | .laneOperationsIssue _ => true
  | .laneAddDeadline _ lane => decide (lane < 16)
  | .driverStart _ => true
  | .darkIdleStep => true
  | .idleDarkWrite _ _ => true
  | .restore _ _ => true
  | .seatRetry _ _ _ _ => true
  | .thermalSolve endCycle fault => decide (endCycle ≤ 1279) && fault.wf
  | .solveMiss => true
  | .deltaListApply => true
  | .blockRefactor fault => fault.wf
  | .refactorCarry => true
  | .baWindowEnd discarded total => decide (discarded ≤ total)
  | .baIteration _ update => decide (update.length = 480) && update.all fun x => decide (x.natAbs < 2 ^ 16)
  | .baDeadline => true
  | .markerStartPulse _ => true
  | .markerDecision _ _ _ => true
  | .freewheel => true
  | .fwdClkLoss => true
  | .refclkLoss => true
  | .refclkReturn => true
  | .refclkReacquired => true
  | .holdoverExit => true
  | .pllLock _ => true
  | .ovrClr _ _ => true
  | .headgateEnable _ _ _ => true
  | .headgateDisable _ _ _ => true
  | .headgateAttenWrite _ _ _ => true
  | .headgateRampStep _ => true
  | .inputPowerCheck _ _ _ => true
  | .inputLost _ => true
  | .shutFail _ => true
  | .synRecal _ _ => true
  | .synTuningOutOfRange _ => true
  | .synLock _ => true
  | .synRelockTimeout _ => true
  | .datumMeasure _ _ _ => true
  | .datumDetected => true
  | .datumAcquireEnd _ _ _ _ ofs => decide (ofs.length = 4)
  | .datumLost => true
  | .datumRejected => true
  | .datumAbsent => true
  | .reacquire _ => true
  | .thermalRead temps => decide (temps.length = 20)
  | .thmHot n => decide (n < 20)
  | .thmCold n => decide (n < 20)
  | .thmTrip n => decide (n < 20)
  | .visitStart _ => true
  | .visitEnd _ => true
  | .passReq _ _ => true
  | .passTrigger _ => true
  | .passStart _ => true
  | .nvsRecordWriteStart rec => decide (rec < 7)
  | .nvsWordWrite _ => true
  | .nvsWordDefer => true
  | .nvsCmdRead _ page => decide (page < 2 ^ 14)
  | .nvsCmdWrite _ page => decide (page < 2 ^ 14)
  | .nvsReadComplete _ _ => true
  | .powerLoss _ => true
  | .idleFlit _ _ => true
  | .trainFlit _ _ => true
  | .rdata _ _ bytes => decide (bytes.length = 120)
  | .wdone _ _ count => decide (count < 2 ^ 16)
  | .rerr _ _ _ reason count => decide (reason < 256) && decide (count < 2 ^ 16)
  | .inval _ _ lines => lines.all fun a => decide (a < 2 ^ 52)
  | .culvertReplayTimeout _ _ => true
  | .culvertNoProgress _ => true
  | .steerTableLive => true
  | .steerEntryReturn _ => true
  | .culvertEnable _ _ _ => true
  | .culvertDisable _ _ _ => true
  | .culvertRetrain _ _ _ => true
  | .culvertLoopStart _ _ _ => true
  | .loopbackEnd _ _ _ => true
  | .returnClockLock _ => true
  | .returnClockLoss _ => true
  | .ident _ _ _ _ _ => true
  | .deskewResult _ _ _ rate => decide (rate < 3)
  | .culvertVerifyDone _ => true
  | .culvertQuiesceDone _ => true
  | .culvertTrainingTimeout _ => true
  | .rdReq _ _ addr => decide (addr < 2 ^ 22)
  | .wrReq _ _ addr _ => decide (addr < 2 ^ 22)
  | .privateWrite _ _ bytes parityBad =>
    match parityBad with
    | .none => true
    | some i => decide (i < bytes.length)
  | .privateRead _ _ _ => true
  | .setdasa _ _ => true
  | .entdaa _ => true
  | .setnewda _ _ => true
  | .rstdaa => true
  | .getpid _ => true
  | .getbcr _ => true
  | .getdcr _ => true
  | .getstatus _ => true
  | .rstact _ _ => true
  | .enec _ => true
  | .disec _ => true
  | .unsupportedCcc _ => true
  | .transferEnd _ => true
  | .targetReset => true
  | .sclLowTimeout => true
  | .sampleRead _ addr => decide (addr < 2 ^ 22)
  | .pairLoWrite _ addr _ => decide (addr < 2 ^ 22)
  | .pairHiWrite _ addr _ => decide (addr < 2 ^ 22)
  | .lockWrite _ page _ => decide (page < 2 ^ 10)
  | .errW1cWrite _ page cls _ => decide (page < 2 ^ 10) && cls != .fatal
  | .errFatalClear _ page _ => decide (page < 2 ^ 10)
  | .cntClr _ page _ => decide (page < 2 ^ 10)
  | .registerWrite _ addr _ => decide (addr < 2 ^ 22)
  | .pendSample => true
  | .glbReset _ _ => true
  | .fullReset _ => true
  | .resetRelease _ _ _ => true
  | .bringupStepBegin => true
  | .dataShell _ h body => h.wf 16 && h.kind == 1 && (!h.crcOk || decide (body.length = h.bodyLength))
  | .nullShell _ h _ => h.wf 16 && (h.kind == 0 || h.kind == 2)
  | .trainShell _ h => h.wf 18 && h.kind == 3
  | .shellBoundary _ => true
  | .ackPoint _ => true
  | .shellReplayTimeout _ => true
  | .linkNoProgress _ => true
  | .opRepeat _ => true
  | .ctrlTimeout _ => true
  | .param0 _ _ _ => true
  | .paramMap _ _ _ => true
  | .paramCred _ _ _ => true
  | .laneDrop _ _ _ => true
  | .laneAdd _ _ _ => true
  | .laneSwap _ _ _ => true
  | .dropReq _ _ _ => true
  | .swapReq _ _ _ => true
  | .rxSeats _ _ _ => true
  | .response _ _ _ => true
  | .pause _ _ _ => true
  | .resume _ _ _ => true
  | .pauseLong _ => true
  | .drainReq _ _ _ => true
  | .drained _ _ _ => true
  | .drainedSend _ => true
  | .reset _ _ _ => true
  | .fanEnter _ _ _ => true
  | .fanExit _ _ _ => true
  | .fanAck _ _ _ => true
  | .fanCred _ _ _ => true
  | .linkWaitDone _ => true
  | .linkVerifyDone _ => true
  | .linkTrainingTimeout _ => true
  | .drainTimeout _ => true
  | .linkLos _ => true
  | .linkDown _ => true
  | .linkRetrain _ _ _ => true
  | .linkReset _ _ _ => true
  | .linkDisable _ _ _ => true
  | .autoRetrain _ => true
  | .fanMemberLost _ _ => true
  | .iqDoorbell _ _ _ => true
  | .iqEnable _ _ _ => true
  | .iqDisable _ _ _ => true
  | .oqEnable _ _ _ => true
  | .oqDisable _ _ _ => true
  | .nop _ => true
  | .send _ fault => fault.wf
  | .fetch _ => true
  | .scatter _ => true
  | .gather _ => true
  | .buoy _ => true
  | .fence _ => true
  | .fenceComplete _ => true
  | .waitRelease _ => true
  | .backwaterRelease => true
  | .heldExpired => true
  | .sendData rx => rx.fault.wf
  | .fetchReq _ => true
  | .fetchData rx => rx.fault.wf
  | .xferDone _ => true
  | .buoyOp _ => true
  | .ccInvalidateLines _ _ => true
  | .ccInvalidateAll _ _ => true
  | .ccInvalidateDone => true
  | .poolLimitWrite _ _ _ => true
  | .pageOut fault => fault.wf
  | .poolExhausted _ => true
  | .buoySetWrite _ _ _ => true
  | .buoyAddWrite _ _ => true
  | .flumeApply _ _ => true
  | .flumeChangeStart => true
  | .flumeChangeEnd _ => true
  | .mziDither z _ => decide (z < 120)
  | .flumeDrift z => decide (z < 120)
  | .mziHeld ch => decide (ch < 240)
  | .reestWindowOpen => true
  | .fanEnterWrite _ _ => true
  | .fanEntryCheck => true
  | .fanQuiesceDone _ => true
  | .fanQuiesceTimeout _ => true
  | .fanExitWrite _ _ => true
  | .fanDrainDone _ => true
  | .fanDrainTimeout _ _ => true
  | .reduce _ => true
  | .stash _ => true
  | .stashEncodeEnd read => read.lost.all fun l => decide (l.2 < 65536)
  | .unstash _ => true
  | .unstashVerify read => read.lost.all fun l => decide (l.2 < 65536)
  | .extentRetire _ id => decide (id < 2 ^ 12)
  | .extentRetireAll _ => true
  | .tallyImg _ => true
  | .tallyImgSend _ => true
  | .tallyRes _ => true
  | .tallyAbort _ _ => true
  | .rgtStart _ => true
  | .rgtIssue => true
  | .rgtStop _ => true
  | .swap _ => true
  | .swapLive => true
  | .safeStateEntry => true
  | .railMismatch page _ => decide (page < 2 ^ 10)
  | .selfParity => true
  | .fatalReraise page bit => decide (page < 2 ^ 10) && decide (bit < 32)
  | .umpExit _ => true
  | .safeStateExit => true
  | .firstClr _ => true
  | .statClr _ => true
  | .lvlStatClr _ => true
  | .logbookWrite => true
  | .logCarry => true
  | .tapReset => true
  | .extest _ => true
  | .samplePreload _ _ => true
  | .idcode => true
  | .clamp => true
  | .highz => true
  | .culvertLoop => true
  | .scanStat => true
  | .bypass => true
  | .reservedOpcode _ => true
  | .discardedSidebandPacket _ _ => true
  | .reservedFlitType _ _ _ => true
  | .reservedControlOp _ _ => true
  | .calibrationStep _ _ delta => delta.all DeltaEntry.wf

end Sys2Proof
end

