-- ==== Sys2Proof/Safety.lean ====
section
/-! DEFINITION. What counts as a sound state and a sound run, and what a statement says stays as it was. -/

namespace Sys2Proof.Machine

/-- Every command that waits is well-formed. -/
def State.queueWf (s : State) : Bool := s.pending.all Instr.wf

/-- The control cycle lies within a stroke of 1,280 cycles (R33). -/
def State.cycleOk (s : State) : Bool := decide (s.clk.cycle < 1280)

/-- A step that goes on. -/
def goesOn (s : State) : Prop := ∃ t, step s = .next t

/-- Every register field reads as before, but for those of a list. -/
def sameFields (fs : List Field) (s t : State) : Prop := ∀ g : Field, (∀ f ∈ fs, f.key ≠ g.key) → t.rd g = s.rd g

/-- The ERR bit of an event kind is 1 (R109). -/
def State.shows (s : State) (c : ErrCode) : Bool := bitAt (s.rd (errField c.cls c.page)) c.bit

/-- The register fields that the end of a transfer on the management bus may change (Table 4.8, R136). -/
def endFields : List Field := [Reg.MGT.STAT_LAST_RESET, Reg.MGT.STAT_ABORTED, Reg.MGT.ABORT_CNT_ABORTS]

/-- A command that is one of the boundary-scan TAP's. -/
def isScan : Instr → Bool
  | .tapReset | .extest _ | .samplePreload _ _ | .idcode | .clamp | .highz | .culvertLoop | .scanStat | .bypass => true
  | _ => false

/-- A command that can begin a stroke or a full reset, or end one. -/
def movesStroke : Instr → Bool
  | .strokeBoundary | .markerStartPulse _ | .pllLock _ | .fullReset _ | .resetRelease _ _ _ | .powerLoss _ | .targetReset => true
  | _ => false

/-- The state with a link-down condition on a port, detected now, with no lane known (R307, Table 9.10). -/
def State.downFor (s : State) (p reason seq : Nat) : State :=
  s.setLink p { s.link p with down := some ⟨reason, s.now, s.stamp, s.linkInfo p noLane reason, seq⟩ }

/-- The RESPONSE word of an operation that a port answers (Table 9.3). -/
def State.answerWord (s : State) (p op tag : Nat) (refused : Bool) : DWord :=
  ctrlWord 0x18 0 (op + tag * 2 ^ 8 + (s.link (s.rxStream p)).rxNext.toNat * 2 ^ 16 + ofBool refused * 2 ^ 40)

/-- Whether a port has not answered an operation with this code and TAG before (R280). -/
def State.freshOp (s : State) (p op tag : Nat) : Bool := (s.link p).answered.all fun a => !(a.1 == op && a.2.1 == tag)

/-- An intake queue whose turn it is, in a control cycle in which nothing was taken in, gives a command whose lines are all in the context cache; the
last state is the one after the lookups (R317, R319, R350). -/
def State.gives (s : State) (k : Fin 64) (ws : List DWord) (t : State) : Prop :=
  s.held = false ∧ s.anyActive = true ∧ s.cox.cmds.length < 4096 ∧ s.cox.takenAt ≠ some s.time ∧ s.iqOffers k.val = true ∧
    (∃ a b : State, s.look (s.iqAddr k.val) = (.hit ws, a) ∧ a.touch (a.neededLines ws) = (true, .none, b) ∧
      b.touch ((b.neededLines ws).drop (a.neededLines ws).length) = (true, .none, t)) ∧ t.turn = some k.val

/-- What taking in a command does to its queue: HEAD moves past it and it is counted (R318, R320). -/
def State.tookFrom (k : Fin 64) (t u : State) : Prop :=
  u.rd (Reg.COX.IQ_HEAD k.val) = (t.rd (Reg.COX.IQ_HEAD k.val) + 1) % 2 ^ t.rd (Reg.COX.IQ_CFG_SIZE_LOG2 k.val) % 2 ^ 16 ∧
    u.rd Reg.COX.CMD_CNT = (t.bump Reg.COX.CMD_CNT).rd Reg.COX.CMD_CNT

/-- The rows that take a command from an intake queue, each with its opcode (Tables 10.2, 12.1). -/
def intakeRows (k : Fin 64) : List (Instr × Nat) :=
  [(.nop (.iq k), 0), (.send (.iq k) .none, 1), (.fetch (.iq k), 2), (.scatter (.iq k), 3), (.gather (.iq k), 4), (.reduce (.iq k), 5),
    (.stash (.iq k), 6), (.unstash (.iq k), 7), (.buoy (.iq k), 8), (.fence (.iq k), 9), (.rgtStart (.iq k), 0x10), (.rgtStop (.iq k), 0x11),
    (.swap (.iq k), 0x18)]

/-- A completion is on its way to an outfall queue, and the command that it is of is gone (R323). -/
def State.completes (q : Nat) (t u : State) : Prop :=
  u.cox.cmds = [] ∧ (u.oq q).flight.length = (t.oq q).flight.length + 1

end Sys2Proof.Machine
end

