-- ==== Sys2Proof/Certificates/Slice0/Obligations.lean ====
section
/-! DEFINITION. The statements for the provers. A statement of several commands is the conjunction of its clauses, each for every state and every
operands that meet its premises. -/

open Sys2Proof Sys2Proof.Machine

/-! ## The step -/

/-- The block's interface: a step takes the command at the front of the queue and runs it with the queue's rest.

Log entry 18 (DESIGN CHOICE): on an empty queue one control cycle passes and the last cycle of a stroke stands, so that no command's
work happens by itself; but the control-space port performs one access that waits for it, and the culverts' sidebands and lanes go on. Where
nothing waits for the port and no culvert has anything to send, nothing but the clock moves, and the logbook's notes of the cycle that ended go.

Every command completes, whatever the state: the block has no fault and no refusal, and no command touches the queue of the commands
that wait behind it, nor the fuses. -/
def Obligations.StepRunsFrontCommand : Prop :=
  (∀ (c : Instr) (rest : List Instr) (s : State), s.pending = c :: rest → step s = exec c { s with pending := rest }) ∧
  (∀ s : State, s.pending = [] → ∃ t, step s = .next t ∧
    (s.running = true → s.clk.cycle < 1279 → t.clk.cycle = s.clk.cycle + 1) ∧
    (s.running = true → s.clk.cycle = 1279 → t.clk.cycle = 1279) ∧
    (s.running = false → t.clk.idle = s.clk.idle + 1 ∧ t.clk.cycle = s.clk.cycle) ∧
    t.clk.stroke = s.clk.stroke ∧ t.clk.elapsed = s.clk.elapsed ∧ t.pending = [] ∧ t.fuses = s.fuses ∧ t.held = s.held ∧ t.tap = s.tap) ∧
  (∀ s : State, s.pending = [] → s.mgmt.todo = [] →
    (∀ c < 8, (s.culv c).held = [] ∧ (s.culv c).answers = [] ∧ (s.culvState c < 4 ∨ 6 < s.culvState c)) → ∃ t, step s = .next t ∧
    t = { s with clk := t.clk, log := { s.log with cleared := t.log.cleared, raised := t.log.raised, emptied := t.log.emptied } }) ∧
  (∀ (c : Instr) (s : State), ∃ t, exec c s = .next t ∧ t.pending = s.pending ∧ t.fuses = s.fuses)

/-- The control cycle stays below 1,280 (R33), from every state in which it is.

Commands leave the queue one by one, first in, first out, so that a queue of well-formed commands stays one. -/
def Obligations.EveryStepKeepsItsPlace : Prop :=
  (∀ s t : State, s.cycleOk = true → step s = .next t → t.cycleOk = true) ∧
  (∀ s t : State, s.queueWf = true → step s = .next t → t.queueWf = true ∧ t.pending = s.pending.tail)

/-- Only the commands that begin a stroke, or begin or end a full reset, change the stroke count, the strokes run, and whether the die is held
in reset (R38, R51, R44, R138, R455, R457): every other command happens within a stroke. -/
def Obligations.OnlyTimeCommandsMoveTheStroke : Prop :=
  ∀ (c : Instr) (s t : State), movesStroke c = false → exec c s = .next t →
    t.clk.stroke = s.clk.stroke ∧ t.clk.elapsed = s.clk.elapsed ∧ t.held = s.held

/-- The TAP stands apart from the die (R484, R490): a command that is none of the nine TAP commands changes nothing of it, a full reset
neither; a loss of power resets it. -/
def Obligations.TapStandsApart : Prop :=
  (∀ (c : Instr) (s t : State), isScan c = false → (∀ f, c ≠ .powerLoss f) → exec c s = .next t → t.tap = s.tap) ∧
  (∀ (s : State) (f : WordFate), ∃ t, exec (.powerLoss f) s = .next t ∧ t.tap = Tap.reset)

/-- The state after reset: the values of the spec for the registers named, which are the reset values of their tables, and nothing under
way. The fuses, the straps and the blank store are the model's choice (log entries 10 to 12), and nothing here rests on them. -/
def Obligations.ResetValues : Prop :=
  let s := State.reset
  s.cycleOk = true ∧ s.queueWf = true ∧ s.pending = [] ∧ s.held = false ∧ s.running = false ∧
  s.safe = false ∧ s.stepNo = 0 ∧ s.flag Reg.GLB.STAT_READY = false ∧ s.flag Reg.CKM.STAT_PLL_LOCK = false ∧
  s.clk.alive = false ∧ s.stamp.cycle = 0x7FF ∧ s.tap = ⟨0x02, 0, 0, false⟩ ∧
  (∀ p < 16, s.linkState p = 0 ∧ (s.laneSt p).txMap = List.range 16 ∧ (s.laneSt p).rxMap = List.range 16) ∧
  (∀ k < 576, (s.seat k).state = .idle ∧ (s.seat k).code = 0) ∧
  (∀ c < 8, s.culvState c = 0) ∧ (∀ k < 64, s.buoyVal k = 0) ∧
  (∀ x < 4, s.flag (Reg.HGT.HG_STAT_OPEN x) = false ∧ s.rd (Reg.HGT.HG_STAT_ATTEN x) = 240)

/-! ## Boundary scan -/

/-- R484, R488 and Table 15.15: each of these instructions becomes current, its data register captures what the spec says, and nothing
but the TAP changes.

R485, R486: EXTEST, CLAMP and HIGHZ take ALIVE and SDA from the core and turn the management port from the bus; a transfer under way
ends as at a STOP; nothing else of the die changes. -/
def Obligations.ScanInstructions : Prop :=
  (∀ s : State, exec .tapReset s = .next { s with tap := { s.tap with ir := 0x02 } }) ∧
  (∀ s : State, exec .idcode s = .next { s with tap := { s.tap with ir := 0x02, capture := 0x17A5158F } }) ∧
  (∀ s : State, exec .bypass s = .next { s with tap := { s.tap with ir := 0x3F, capture := 0 } }) ∧
  (∀ (s : State) (a b : BitVec 14), ∃ t, exec (.samplePreload a b) s = .next t ∧ t.tap.ir = 0x01 ∧ t.tap.boundary = b ∧
    (∀ i < 14, t.tap.capture.getLsbD i = a.getLsbD i) ∧ t.tap.refused = s.tap.refused ∧ t = { s with tap := t.tap }) ∧
  (∀ s : State, ∃ t, exec .scanStat s = .next t ∧ t.tap.ir = 0x11 ∧
    t.tap.capture.toNat / 2 ^ 24 = 0x5C ∧ t.tap.capture.toNat / 2 ^ 20 % 16 = s.rd Reg.GLB.STAT_STEP % 16 ∧
    t.tap.capture.toNat / 2 ^ 19 % 2 = s.rd Reg.GLB.STAT_READY % 2 ∧ t.tap.capture.toNat / 2 ^ 18 % 2 = s.rd Reg.GLB.STAT_SAFE % 2 ∧
    t.tap.capture.toNat / 2 ^ 16 % 4 = s.rd Reg.UMP.STAT_STATE % 4 ∧ t.tap.capture.toNat / 2 ^ 15 % 2 = s.rd Reg.CKM.STAT_PLL_LOCK % 2 ∧
    t.tap.capture.toNat / 2 ^ 14 % 2 = s.rd Reg.CKM.STAT_REF_PRESENT % 2 ∧ t.tap.capture.toNat / 2 ^ 11 % 2 = s.rd Reg.STK.STAT_BACKUP % 2 ∧
    t.tap.capture.toNat / 2 ^ 10 % 2 = s.rd Reg.GLB.STAT_UNTRACED % 2 ∧
    t.tap.capture.toNat / 2 ^ 8 % 4 = s.rd Reg.GLB.STRAPS_POSITION % 4 ∧ t.tap.capture.toNat / 2 ^ 7 % 2 = s.rd Reg.GLB.STRAPS_MODE % 2 ∧
    t.tap.capture.toNat / 2 ^ 4 % 8 = s.rd Reg.GLB.STRAPS_I3C_ADDR % 8 ∧ t.tap.capture.toNat % 16 = 1 ∧
    t = { s with tap := { s.tap with ir := 0x11, capture := t.tap.capture } }) ∧
  (∀ (s : State) (cells : BitVec 14), s.mgmt.todo = [] → ∃ t, exec (.extest cells) s = .next t ∧ t.tap.ir = 0x00 ∧ t.tap.boundary = cells ∧
    t.aliveBall = (if cells.getLsbD 13 then some (cells.getLsbD 12) else .none) ∧ t.deaf .mgmt = true ∧
    sameFields [Reg.MGT.STAT_LAST_RESET, Reg.MGT.STAT_ABORTED, Reg.MGT.ABORT_CNT_ABORTS] s t ∧
    t = { s with regs := t.regs, mgmt := t.mgmt, tap := t.tap }) ∧
  (∀ s : State, s.mgmt.todo = [] → ∃ t, exec .clamp s = .next t ∧ t.tap.ir = 0x03 ∧ t.tap.boundary = s.tap.boundary ∧
    t.aliveBall = (if s.tap.boundary.getLsbD 13 then some (s.tap.boundary.getLsbD 12) else .none) ∧ t.deaf .mgmt = true ∧
    sameFields [Reg.MGT.STAT_LAST_RESET, Reg.MGT.STAT_ABORTED, Reg.MGT.ABORT_CNT_ABORTS] s t ∧
    t = { s with regs := t.regs, mgmt := t.mgmt, tap := t.tap }) ∧
  (∀ s : State, s.mgmt.todo = [] → ∃ t, exec .highz s = .next t ∧ t.tap.ir = 0x04 ∧ t.tap.boundary = s.tap.boundary ∧ t.aliveBall = .none ∧
    t.deaf .mgmt = true ∧ sameFields [Reg.MGT.STAT_LAST_RESET, Reg.MGT.STAT_ABORTED, Reg.MGT.ABORT_CNT_ABORTS] s t ∧
    t = { s with regs := t.regs, mgmt := t.mgmt, tap := t.tap }) ∧
  (∀ (s : State) (x : BusXfer) (c : Instr), (c = .clamp ∨ c = .highz ∨ c = .extest 0) → s.busBlind = false → s.mgmt.todo = [] → s.mgmt.xfer = some x →
    ∃ t, exec c s = .next t ∧ t.mgmt.xfer = .none ∧ t.mgmt.sda = false ∧ t.rd Reg.MGT.STAT_LAST_RESET = 1 ∧
      t.rd Reg.MGT.STAT_ABORTED = (if x.cut then 1 else s.rd Reg.MGT.STAT_ABORTED))

/-! ## The management port -/

/-- Table 4.7, R130: the dynamic address. SETDASA takes Tolfa at its static address and ENTDAA while it holds no dynamic one, SETNEWDA at its
dynamic address; otherwise they are not acknowledged and change no address; RSTDAA removes the address. -/
def Obligations.DynamicAddress : Prop :=
  (∀ (s : State) (target da : BitVec 7), s.busDeaf = false → s.mgmt.todo = [] → s.flag Reg.MGT.STAT_DA_VALID = false → target.toNat = s.staticAddr →
    ∃ t, exec (.setdasa target da) s = .next t ∧ t.mgmt.ack = true ∧ t.mgmt.xfer = .none ∧ t.rd Reg.MGT.STAT_DA = da.toNat ∧
      t.rd Reg.MGT.STAT_DA_VALID = 1 ∧ sameFields ([Reg.MGT.STAT_DA, Reg.MGT.STAT_DA_VALID] ++ endFields) s t ∧
      t = { s with regs := t.regs, mgmt := t.mgmt }) ∧
  (∀ (s : State) (target da : BitVec 7), s.busDeaf = false → s.mgmt.todo = [] → s.flag Reg.MGT.STAT_DA_VALID = true ∨ target.toNat ≠ s.staticAddr →
    ∃ t, exec (.setdasa target da) s = .next t ∧ t.mgmt.ack = false ∧ sameFields endFields s t ∧
      t = { s with regs := t.regs, mgmt := t.mgmt }) ∧
  (∀ (s : State) (da : BitVec 7), s.busDeaf = false → s.mgmt.todo = [] → s.flag Reg.MGT.STAT_DA_VALID = false →
    ∃ t, exec (.entdaa da) s = .next t ∧ t.mgmt.ack = true ∧ t.rd Reg.MGT.STAT_DA = da.toNat ∧ t.rd Reg.MGT.STAT_DA_VALID = 1 ∧
      sameFields ([Reg.MGT.STAT_DA, Reg.MGT.STAT_DA_VALID] ++ endFields) s t ∧ t = { s with regs := t.regs, mgmt := t.mgmt }) ∧
  (∀ (s : State) (target da : BitVec 7), s.busDeaf = false → s.mgmt.todo = [] → s.flag Reg.MGT.STAT_DA_VALID = true → target.toNat = s.rd Reg.MGT.STAT_DA →
    ∃ t, exec (.setnewda target da) s = .next t ∧ t.mgmt.ack = true ∧ t.rd Reg.MGT.STAT_DA = da.toNat ∧
      sameFields (Reg.MGT.STAT_DA :: endFields) s t ∧ t = { s with regs := t.regs, mgmt := t.mgmt }) ∧
  (∀ s : State, s.busDeaf = false → s.mgmt.todo = [] → ∃ t, exec .rstdaa s = .next t ∧ t.flag Reg.MGT.STAT_DA_VALID = false ∧
      (∀ form (target : BitVec 7), t.addressed form target = decide (target.toNat = t.staticAddr)) ∧
      sameFields ([Reg.MGT.STAT_DA, Reg.MGT.STAT_DA_VALID] ++ endFields) s t ∧ t = { s with regs := t.regs, mgmt := t.mgmt })

/-- Table 4.7 and Table 4.9: what Tolfa answers to the CCCs that read its identity, to ENEC and DISEC, to RSTACT, and to any other CCC.
Log entry 42 (DESIGN CHOICE): the order of the bytes of the provisioned ID. -/
def Obligations.CommonCommandCodes : Prop :=
  (∀ (s : State) (a : BitVec 7), s.busDeaf = false → s.mgmt.todo = [] → s.addressed .i3c a = true → ∃ t, exec (.getpid a) s = .next t ∧
    t.mgmt.ack = true ∧ t.mgmt.out = s.pidBytes ∧ t.mgmt.out.length = 6 ∧ sameFields endFields s t ∧ t = { s with regs := t.regs, mgmt := t.mgmt }) ∧
  (∀ (c : Instr) (s : State) (a : BitVec 7), c = .getbcr a ∨ c = .getdcr a → s.busDeaf = false → s.mgmt.todo = [] → s.addressed .i3c a = true →
    ∃ t, exec c s = .next t ∧ t.mgmt.ack = true ∧ t.mgmt.out = [0] ∧ sameFields endFields s t ∧ t = { s with regs := t.regs, mgmt := t.mgmt }) ∧
  (∀ (s : State) (a : BitVec 7), s.busDeaf = false → s.mgmt.todo = [] → s.addressed .i3c a = true → ∃ t, exec (.getstatus a) s = .next t ∧
    t.mgmt.ack = true ∧ t.mgmt.out = [0, 0] ∧ sameFields endFields s t ∧ t = { s with regs := t.regs, mgmt := t.mgmt }) ∧
  (∀ (c : Instr) (s : State) (a : BitVec 7), c = .getpid a ∨ c = .getbcr a ∨ c = .getdcr a ∨ c = .getstatus a ∨
    c = .enec (some a) ∨ c = .disec (some a) → s.busDeaf = false → s.mgmt.todo = [] → s.addressed .i3c a = false →
    ∃ t, exec c s = .next t ∧ t.mgmt.ack = false ∧ t.mgmt.out = [] ∧ sameFields endFields s t) ∧
  (∀ (c : Instr) (s : State) (a : BitVec 7), c = .enec (some a) ∨ c = .disec (some a) ∨ c = .enec .none ∨ c = .disec .none →
    s.busDeaf = false → s.mgmt.todo = [] → s.addressed .i3c a = true → ∃ t, exec c s = .next t ∧ t.mgmt.ack = true ∧ t.mgmt.out = [] ∧
    sameFields endFields s t ∧ t = { s with regs := t.regs, mgmt := t.mgmt }) ∧
  (∀ (s : State) (a : BitVec 7) (n : Byte), s.busDeaf = false → s.mgmt.todo = [] → s.addressed .i3c a = true → n.toNat ≤ 2 →
    ∃ t, exec (.rstact (some a) n) s = .next t ∧ t.mgmt.ack = true ∧ t.rd Reg.MGT.STAT_RSTACT = n.toNat ∧
    sameFields (Reg.MGT.STAT_RSTACT :: endFields) s t ∧ t = { s with regs := t.regs, mgmt := t.mgmt }) ∧
  (∀ (s : State) (a : BitVec 7) (n : Byte), s.busDeaf = false → s.mgmt.todo = [] → 2 < n.toNat →
    ∃ t, exec (.rstact (some a) n) s = .next t ∧ t.mgmt.ack = false ∧ sameFields endFields s t) ∧
  (∀ (s : State) (n : Byte), s.busDeaf = false → s.mgmt.todo = [] → n.toNat ≤ 2 →
    ∃ t, exec (.rstact .none n) s = .next t ∧ t.rd Reg.MGT.STAT_RSTACT = n.toNat ∧ sameFields (Reg.MGT.STAT_RSTACT :: endFields) s t) ∧
  (∀ (s : State) (n : Byte), s.busDeaf = false → s.mgmt.todo = [] → 2 < n.toNat → ∃ t, exec (.rstact .none n) s = .next t ∧ sameFields endFields s t) ∧
  (∀ (s : State) (a : BitVec 7), s.mgmt.todo = [] → ∃ t, exec (.unsupportedCcc (some a)) s = .next t ∧ t.mgmt.ack = false ∧ t.mgmt.out = [] ∧
    sameFields endFields s t ∧ t = { s with regs := t.regs, mgmt := t.mgmt }) ∧
  (∀ s : State, s.mgmt.todo = [] → ∃ t, exec (.unsupportedCcc .none) s = .next t ∧ t.mgmt.ack = s.mgmt.ack ∧ t.mgmt.out = s.mgmt.out ∧
    sameFields endFields s t ∧ t = { s with regs := t.regs, mgmt := t.mgmt })

/-- Table 4.8, R136: how a transfer ends: LAST_RESET tells a STOP or repeated START (1) from SCL held low (3), and ABORTED with its count
tells that bytes of a word or an address were discarded. With no transfer under way nothing changes.

Table 4.9: what a Target Reset pattern does under each action, and that the action is 0x01 again afterwards, unless the die went into full
reset.

R132: a word received whole before the transfer ends is committed, though it waited for its turn at the control-space port. The other clauses are
of a port at which no word of the management bus waits.

R138: a second pattern with no completed transfer to Tolfa since the first applies action 0x02, whatever the first one applied. -/
def Obligations.TransfersEndAndReset : Prop :=
  (∀ (s : State) (x : BusXfer) (r : Bool), s.mgmt.todo = [] → s.mgmt.xfer = some x → s.rd Reg.MGT.ABORT_CNT_ABORTS < 0xFFFF →
    ∃ t, exec (.transferEnd r) s = .next t ∧ t.mgmt.xfer = .none ∧ t.mgmt.sda = false ∧ t.rd Reg.MGT.STAT_LAST_RESET = 1 ∧
      (x.cut = true → t.rd Reg.MGT.STAT_ABORTED = 1 ∧ t.rd Reg.MGT.ABORT_CNT_ABORTS = s.rd Reg.MGT.ABORT_CNT_ABORTS + 1) ∧
      (x.cut = false → sameFields [Reg.MGT.STAT_LAST_RESET] s t) ∧
      sameFields endFields s t ∧ t = { s with regs := t.regs, mgmt := t.mgmt }) ∧
  (∀ (s : State) (x : BusXfer), s.mgmt.todo = [] → s.mgmt.xfer = some x → s.rd Reg.MGT.ABORT_CNT_ABORTS < 0xFFFF →
    ∃ t, exec .sclLowTimeout s = .next t ∧ t.mgmt.xfer = .none ∧ t.mgmt.sda = false ∧ t.rd Reg.MGT.STAT_LAST_RESET = 3 ∧
      (x.cut = true → t.rd Reg.MGT.STAT_ABORTED = 1 ∧ t.rd Reg.MGT.ABORT_CNT_ABORTS = s.rd Reg.MGT.ABORT_CNT_ABORTS + 1) ∧
      (x.cut = false → sameFields [Reg.MGT.STAT_LAST_RESET] s t) ∧
      sameFields endFields s t ∧ t = { s with regs := t.regs, mgmt := t.mgmt }) ∧
  (∀ (s : State) (r : Bool), s.mgmt.todo = [] → s.mgmt.xfer = .none → exec (.transferEnd r) s = .next s ∧ exec .sclLowTimeout s = .next s) ∧
  (∀ (s : State) (c : Instr) (r : Bool) (a d : Nat), c = .transferEnd r ∨ c = .sclLowTimeout → s.mgmt.todo = [.write a d] →
    s.mgmt.parityAfter = false →
    exec c s = exec c (State.writeAddr { s with mgmt := { s.mgmt with todo := [] } } .mgmt a d)) ∧
  (∀ s : State, s.busDeaf = false → s.mgmt.todo = [] → s.mgmt.armed = false → s.rd Reg.MGT.STAT_RSTACT = 0 → ∃ t, exec .targetReset s = .next t ∧
    t.mgmt.xfer = .none ∧ t.rd Reg.MGT.STAT_LAST_RESET = 2 ∧ t.rd Reg.MGT.STAT_RSTACT = 1 ∧ t.rd Reg.MGT.POINTER = s.rd Reg.MGT.POINTER ∧
    t.path .mgmt = s.path .mgmt ∧ t = { s with regs := t.regs, mgmt := t.mgmt }) ∧
  (∀ s : State, s.busDeaf = false → s.mgmt.todo = [] → s.mgmt.armed = false → s.rd Reg.MGT.STAT_RSTACT = 1 → ∃ t, exec .targetReset s = .next t ∧
    t.mgmt.xfer = .none ∧ t.rd Reg.MGT.STAT_LAST_RESET = 2 ∧ t.rd Reg.MGT.STAT_RSTACT = 1 ∧ t.rd Reg.MGT.POINTER = 0 ∧
    t.path .mgmt = PathState.reset ∧ t.rd Reg.MGT.STAT_DA = s.rd Reg.MGT.STAT_DA ∧
    t.rd Reg.MGT.STAT_DA_VALID = s.rd Reg.MGT.STAT_DA_VALID ∧ t = { s with regs := t.regs, mgmt := t.mgmt, paths := t.paths }) ∧
  (∀ s : State, s.busDeaf = false → s.mgmt.todo = [] → s.rd Reg.MGT.STAT_RSTACT = 2 → s.flag Reg.MGT.CTRL = true → ∃ t, exec .targetReset s = .next t ∧
    t.held = true ∧ t.running = false ∧ t.tap = s.tap ∧ t.fuses = s.fuses) ∧
  (∀ s : State, s.busDeaf = false → s.mgmt.todo = [] → s.rd Reg.MGT.STAT_RSTACT = 2 → s.flag Reg.MGT.CTRL = false → ∃ t, exec .targetReset s = .next t ∧
    t.held = s.held ∧ t.rd Reg.MGT.STAT_CHIP_RESET_DENIED = 1 ∧ t.rd Reg.MGT.POINTER = 0 ∧ t.rd Reg.MGT.STAT_RSTACT = 1) ∧
  (∀ s : State, s.busDeaf = false → s.mgmt.todo = [] → s.flag Reg.MGT.CTRL = true → ∃ t, exec .targetReset s = .next t ∧
    (t.held = false → ∃ u, exec .targetReset t = .next u ∧ u.held = true)) ∧
  (∀ s : State, s.busDeaf = false → s.mgmt.todo = [] → s.flag Reg.MGT.CTRL = false → ∃ t, exec .targetReset s = .next t ∧
    ∃ u, exec .targetReset t = .next u ∧ u.rd Reg.MGT.STAT_CHIP_RESET_DENIED = 1 ∧ u.rd Reg.MGT.POINTER = 0 ∧ u.held = s.held)

/-- R130 to R135: a private write of three bytes sets the pointer; a fourth to seventh byte are a word, least significant first, written there; a parity
error discards the rest; a private read gives words from the pointer on and leaves it; a target that is not Tolfa's is not acknowledged.
The transfer starts from the state in which the one before it has ended.

R119, R132, R134: each word takes a control cycle of the control-space port; one that finds the port used in this cycle waits, and a read's next word
is sampled in a later cycle. -/
def Obligations.PrivateTransfers : Prop :=
  (∀ (s : State) (f : BusForm) (a : BitVec 7) (b0 b1 b2 : Byte), s.busDeaf = false → s.mgmt.todo = [] → s.addressed f a = true →
    ∃ t, exec (.privateWrite f a [b0, b1, b2] .none) s = .next t ∧ t.mgmt.ack = true ∧
      t.rd Reg.MGT.POINTER = (b0.toNat + 256 * b1.toNat + 65536 * b2.toNat) % 2 ^ 22 ∧
      t.mgmt.xfer = some ⟨false, 0, 0, false⟩ ∧ sameFields (Reg.MGT.POINTER :: endFields) s t ∧
      t = { s with regs := t.regs, mgmt := t.mgmt }) ∧
  (∀ (s : State) (f : BusForm) (a : BitVec 7) (b0 b1 b2 d0 d1 d2 d3 : Byte), s.busDeaf = false → s.mgmt.todo = [] →
    s.port.usedAt ≠ some s.time → s.addressed f a = true →
    let ptr := (b0.toNat + 256 * b1.toNat + 65536 * b2.toNat) % 2 ^ 22
    let data := d0.toNat + 256 * d1.toNat + 65536 * d2.toNat + 16777216 * d3.toNat
    let v := ((s.endXfer 1).busAnswer true []).wr Reg.MGT.POINTER ptr
    let u := State.writeAddr { v with mgmt := { v.mgmt with xfer := some ⟨false, 0, 0, false⟩, todo := [], parityAfter := false } } .mgmt
      (ptr / 4 * 4) data
    exec (.privateWrite f a [b0, b1, b2, d0, d1, d2, d3] .none) s = .next { u with port := { u.port with usedAt := some s.time } }) ∧
  (∀ (s : State) (f : BusForm) (a : BitVec 7) (b0 b1 b2 d0 d1 d2 d3 : Byte), s.busDeaf = false → s.mgmt.todo = [] →
    s.port.usedAt = some s.time → s.addressed f a = true →
    let ptr := (b0.toNat + 256 * b1.toNat + 65536 * b2.toNat) % 2 ^ 22
    let data := d0.toNat + 256 * d1.toNat + 65536 * d2.toNat + 16777216 * d3.toNat
    ∃ t, exec (.privateWrite f a [b0, b1, b2, d0, d1, d2, d3] .none) s = .next t ∧ t.rd Reg.MGT.POINTER = ptr ∧
      t.mgmt.todo = [.write (ptr / 4 * 4) data] ∧ sameFields (Reg.MGT.POINTER :: endFields) s t ∧
      t = { s with regs := t.regs, mgmt := t.mgmt }) ∧
  (∀ (s : State) (a : BitVec 7) (bytes : List Byte) (i : Nat), i < 3 → 3 ≤ bytes.length → s.busDeaf = false → s.mgmt.todo = [] →
    s.addressed .i3c a = true → ∃ t, exec (.privateWrite .i3c a bytes (some i)) s = .next t ∧ t.shows Err.MGT.PARITY = true ∧
      t.rd Reg.MGT.POINTER = s.rd Reg.MGT.POINTER ∧ sameFields (endFields ++ eventFields Err.MGT.PARITY) s t) ∧
  (∀ (s : State) (f : BusForm) (a : BitVec 7) (n : Nat), s.busDeaf = false → s.portIdle = true → s.addressed f a = true → n < 4 →
    let r := (s.endXfer 1).readWord .mgmt (s.rd Reg.MGT.POINTER / 4 * 4)
    ∃ t, exec (.privateRead f a n) s = .next t ∧ t.mgmt.ack = true ∧ t.mgmt.out = (toBytes 4 r.1.toNat).take n ∧
      sameFields endFields s t ∧ t = { s with regs := t.regs, mgmt := t.mgmt, port := t.port }) ∧
  (∀ (s : State) (f : BusForm) (a : BitVec 7), s.busDeaf = false → s.portIdle = true → s.addressed f a = true →
    let r := (s.endXfer 1).readWord .mgmt (s.rd Reg.MGT.POINTER / 4 * 4)
    ∃ t, exec (.privateRead f a 4) s = .next t ∧ t.mgmt.ack = true ∧ t.mgmt.out = toBytes 4 r.1.toNat ∧ t.regs = r.2.regs) ∧
  (∀ (s : State) (f : BusForm) (a : BitVec 7), s.busDeaf = false → s.portIdle = true → s.addressed f a = true →
    let r := (s.endXfer 1).readWord .mgmt (s.rd Reg.MGT.POINTER / 4 * 4)
    ∃ t, exec (.privateRead f a 8) s = .next t ∧ t.mgmt.out = toBytes 4 r.1.toNat ∧ t.mgmt.sda = true ∧
      t.mgmt.todo = [.read ((s.rd Reg.MGT.POINTER / 4 * 4 + 4) % 2 ^ 22) 4] ∧ t.port.usedAt = some s.time) ∧
  (∀ (c : Instr) (s : State) (f : BusForm) (a : BitVec 7) (bytes : List Byte) (n : Nat),
    c = .privateWrite f a bytes .none ∨ c = .privateRead f a n → s.busDeaf = false → s.mgmt.todo = [] → s.addressed f a = false →
    ∃ t, exec c s = .next t ∧ t.mgmt.ack = false ∧ t.mgmt.out = [] ∧ sameFields endFields s t ∧
      t = { s with regs := t.regs, mgmt := t.mgmt }) ∧
  (∀ (c : Instr) (s : State) (f : BusForm) (a : BitVec 7) (bytes : List Byte) (n : Nat),
    c = .privateWrite f a bytes .none ∨ c = .privateRead f a n → s.busDeaf = true →
    exec c s = .next { s with mgmt := { s.mgmt with ack := false, out := [] } })

/-! ## Control space -/

/-- R103: bits 1:0 of an address are ignored, on every path and in both directions.

R102: a write to an unmapped page or an unimplemented offset changes nothing, and a write to SCRATCH, which every mapped page has and LOCK never
protects (R115), stores the word and nothing else.

R115, R117, R125: a write that LOCK refuses at an offset from 0x040 up leaves every register but the counts of the refusal as it is, raises no
event, and is answered LOCKED over the sideband; the management port shows DENIED. -/
def Obligations.RegisterWrites : Prop :=
  (∀ (s : State) (via : Path) (a : Nat) (d : Word), exec (.registerWrite via a d) s = exec (.registerWrite via (a / 4 * 4) d) s) ∧
  (∀ (s : State) (via : Path) (a : Nat), exec (.sampleRead via a) s = exec (.sampleRead via (a / 4 * 4)) s) ∧
  (∀ (s : State) (c : Fin 8) (tag : Byte) (a : Nat), s.held = false → s.sidebandOpen c.val = true →
    ∃ t u, exec (.rdReq c tag a) s = .next t ∧ exec (.rdReq c tag (a / 4 * 4)) s = .next u ∧
      ((t.culv c.val).rsp.map fun r => (r.data, r.status)) = (u.culv c.val).rsp.map fun r => (r.data, r.status)) ∧
  (∀ (s : State) (via : Path) (a : Nat) (d : Word), implemented (pageOfAddr a) (offOfAddr a) = false →
    exec (.registerWrite via a d) s = .next s) ∧
  (∀ (s : State) (via : Path) (pg : Nat) (d : Word), s.deaf via = false → (blockOf pg).isSome = true → pg < 1024 →
    ∃ t, exec (.registerWrite via (pg * 0x1000 + 0x030) d) s = .next t ∧ t.rd (Reg.SCRATCH pg) = d.toNat ∧
      sameFields [Reg.SCRATCH pg] s t ∧ t = { s with regs := t.regs }) ∧
  (∀ (s : State) (via : Path) (a : Nat) (d : Word), s.deaf via = true → exec (.registerWrite via a d) s = .next s ∧
    exec (.sampleRead via a) s = .next s) ∧
  (∀ (s : State) (via : Path) (a : Nat) (d : Word), s.deaf via = false → implemented (pageOfAddr a) (offOfAddr a) = true →
    0x040 ≤ offOfAddr a → s.locked via (pageOfAddr a) = true → ∃ t, exec (.registerWrite via a d) s = .next t ∧
      t.rd (Reg.LOCK_DENIED (pageOfAddr a)) = min (s.rd (Reg.LOCK_DENIED (pageOfAddr a)) + 1) 255 ∧
      (via = .mgmt → t.rd Reg.MGT.STAT_DENIED = 1) ∧ (via ≠ .mgmt → sameFields [Reg.LOCK_DENIED (pageOfAddr a)] s t) ∧
      sameFields [Reg.LOCK_DENIED (pageOfAddr a), Reg.MGT.STAT_DENIED] s t ∧ t = { s with regs := t.regs }) ∧
  (∀ (s : State) (c : Fin 8) (tag : Byte) (a : Nat) (d : Word), s.held = false → s.sidebandOpen c.val = true →
    s.portIdle = true → s.sbIdle c.val = true →
    implemented (pageOfAddr a) (offOfAddr a) = true → 0x040 ≤ offOfAddr a → s.locked (.sb c) (pageOfAddr a) = true →
    ∃ t, exec (.wrReq c tag a d) s = .next t ∧ (t.culv c.val).rsp = some ⟨true, tag, a % 2 ^ 22, 0, 1⟩ ∧
      sameFields [Reg.LOCK_DENIED (pageOfAddr a), Reg.GLB.SB_REQ_CNT] s t ∧ t = { s with regs := t.regs, culvs := t.culvs, port := t.port })

/-- R118, R125 to R127: a register request on the sideband gets one response, with its tag and address, on the culvert it came on; a request outside
R118 gets none, is counted and shows SB_KIND.

R119: a request that finds the control-space port taken waits, and of the culverts whose requests wait the next in round-robin order is served.
R126, R127: the seventeenth unanswered request is discarded, counted, and shows SB_DISCARD. R128: a request that stops its own sideband is performed and
its response lost.

R122 to R124, Tables 4.5 and 4.6: a packet of 16 bytes with a good CRC-16 is the request it spells, one with a bad CRC or cut short is discarded, and what Tolfa
answers is 16 bytes with a good CRC-16. -/
def Obligations.SidebandRequests : Prop :=
  (∀ (s : State) (c : Fin 8) (tag : Byte) (a : Nat), s.held = false → s.sidebandOpen c.val = true → s.portIdle = true → s.sbIdle c.val = true →
    (blockOf (pageOfAddr a)).isSome = true →
    let r : SbRsp := ⟨false, tag, a % 2 ^ 22, (s.readWord (.sb c) a).1, 0⟩
    ∃ t, exec (.rdReq c tag a) s = .next t ∧ (t.culv c.val).rsp = some r ∧ (t.culv c.val).packet = rspPacket r ∧
      t.rd Reg.GLB.SB_REQ_CNT = (s.bump Reg.GLB.SB_REQ_CNT).rd Reg.GLB.SB_REQ_CNT ∧ (∀ k, k ≠ c.val → t.culv k = s.culv k) ∧
      sameFields [Reg.GLB.SB_REQ_CNT] s t ∧ t = { s with regs := t.regs, culvs := t.culvs, paths := t.paths, port := t.port }) ∧
  (∀ (s : State) (c : Fin 8) (tag : Byte) (a : Nat), s.held = false → s.sidebandOpen c.val = true → s.portIdle = true → s.sbIdle c.val = true →
    (blockOf (pageOfAddr a)).isNone = true →
    ∃ t, exec (.rdReq c tag a) s = .next t ∧ (t.culv c.val).rsp = some ⟨false, tag, a % 2 ^ 22, 0, 2⟩ ∧
      sameFields [Reg.GLB.SB_REQ_CNT] s t ∧ t = { s with regs := t.regs, culvs := t.culvs, port := t.port }) ∧
  (∀ (s : State) (c : Fin 8) (tag : Byte) (a : Nat) (d : Word), s.held = false → s.sidebandOpen c.val = true → s.portIdle = true →
    s.sbIdle c.val = true → (blockOf (pageOfAddr a)).isNone = true → ∃ t, exec (.wrReq c tag a d) s = .next t ∧
      (t.culv c.val).rsp = some ⟨true, tag, a % 2 ^ 22, 0, 2⟩ ∧ sameFields [Reg.GLB.SB_REQ_CNT] s t ∧
      t = { s with regs := t.regs, culvs := t.culvs, port := t.port }) ∧
  (∀ (s : State) (c : Fin 8) (tag : Byte) (a : Nat) (d : Word), s.held = false → s.sidebandOpen c.val = true → s.portIdle = true →
    (blockOf (pageOfAddr a)).isSome = true → s.locked (.sb c) (pageOfAddr a) = false → offOfAddr a ≠ 0x034 →
    let u := s.writeAddr (.sb c) a d.toNat
    exec (.registerWrite (.sb c) a d) s = .next u ∧
    ∃ t, exec (.wrReq c tag a d) s = .next t ∧ sameFields [Reg.GLB.SB_REQ_CNT] u t ∧
      (u.sidebandOpen c.val = true → u.sbIdle c.val = true → (t.culv c.val).rsp = some ⟨true, tag, a % 2 ^ 22, 0, 0⟩) ∧
      (u.sidebandOpen c.val = false → t.culv c.val = u.culv c.val)) ∧
  (∀ (q : Instr) (s : State) (c : Fin 8) (tag : Byte) (a : Nat) (d : Word), q = .rdReq c tag a ∨ q = .wrReq c tag a d → s.held = false →
    s.sidebandOpen c.val = false → ∃ t, exec q s = .next t ∧ t.shows Err.GLB.SB_KIND = true ∧ t.culvs = s.culvs ∧
      t.rd Reg.GLB.SB_DISCARD_CNT = (s.bump Reg.GLB.SB_DISCARD_CNT).rd Reg.GLB.SB_DISCARD_CNT ∧
      sameFields (Reg.GLB.SB_DISCARD_CNT :: eventFields Err.GLB.SB_KIND) s t ∧
      t = { s with regs := t.regs, recs := t.recs, log := t.log }) ∧
  (∀ (q : Instr) (s : State) (c : Fin 8) (tag : Byte) (a : Nat) (d : Word), q = .rdReq c tag a ∨ q = .wrReq c tag a d → s.held = false →
    s.sidebandOpen c.val = true → 16 ≤ (s.culv c.val).held.length + (s.culv c.val).answers.length →
    ∃ t, exec q s = .next t ∧ t.shows Err.GLB.SB_DISCARD = true ∧ t.culvs = s.culvs ∧
      t.rd Reg.GLB.SB_DISCARD_CNT = (s.bump Reg.GLB.SB_DISCARD_CNT).rd Reg.GLB.SB_DISCARD_CNT ∧
      t = { s with regs := t.regs, recs := t.recs, log := t.log }) ∧
  (∀ (s : State) (c : Fin 8) (tag : Byte) (a : Nat) (d : Word), s.held = false → s.sidebandOpen c.val = true → s.port.usedAt = some s.time →
    (s.culv c.val).held.length + (s.culv c.val).answers.length < 16 →
    ∃ t u, exec (.rdReq c tag a) s = .next t ∧ (t.culv c.val).held = (s.culv c.val).held ++ [⟨false, tag, a, 0⟩] ∧ t = { s with culvs := t.culvs } ∧
      exec (.wrReq c tag a d) s = .next u ∧ (u.culv c.val).held = (s.culv c.val).held ++ [⟨true, tag, a, d⟩] ∧ u = { s with culvs := u.culvs }) ∧
  (∀ (s : State) (w : BusWord) (rest : List BusWord), s.port.usedAt ≠ some s.time → s.mgmt.todo = w :: rest →
    s.servePort.mgmt.todo = rest ∧ s.servePort.port = ⟨some s.time, s.port.served⟩) ∧
  (∀ (s : State) (i : Nat), s.port.usedAt ≠ some s.time → s.mgmt.todo = [] → i < 8 →
    (∀ j < i, (s.culv ((s.port.served + 1 + j) % 8)).held = []) → (s.culv ((s.port.served + 1 + i) % 8)).held ≠ [] →
    s.servePort.port = ⟨some s.time, (s.port.served + 1 + i) % 8⟩ ∧
      (s.servePort.culv ((s.port.served + 1 + i) % 8)).held = (s.culv ((s.port.served + 1 + i) % 8)).held.tail) ∧
  (∀ (s : State) (c : Fin 8) (w : DiscardWhy), s.held = false → ∃ t, exec (.discardedSidebandPacket c w) s = .next t ∧
      t.shows (if w = .reservedKind ∨ w = .outside then Err.GLB.SB_KIND else Err.GLB.SB_DISCARD) = true ∧ t.culvs = s.culvs ∧
      t.rd Reg.GLB.SB_DISCARD_CNT = (s.bump Reg.GLB.SB_DISCARD_CNT).rd Reg.GLB.SB_DISCARD_CNT ∧
      t = { s with regs := t.regs, recs := t.recs, log := t.log }) ∧
  (∀ (s : State) (c : Fin 8) (own : DWord) (tag : Byte) (a : Nat) (d : Word), a < 2 ^ 24 →
    receivePacket c own (sbPacket 0x10 tag (toBytes 3 a)) s = exec (.rdReq c tag a) s ∧
    receivePacket c own (sbPacket 0x11 tag (toBytes 3 a ++ [0] ++ toBytes 4 d.toNat)) s = exec (.wrReq c tag a d) s) ∧
  (∀ (s : State) (c : Fin 8) (own : DWord) (bs : List Byte), bs.length = 16 → packetGood bs = false →
    receivePacket c own bs s = exec (.discardedSidebandPacket c .crc) s) ∧
  (∀ (s : State) (c : Fin 8) (own : DWord) (bs : List Byte), bs.length < 16 →
    receivePacket c own bs s = exec (.discardedSidebandPacket c .truncated) s) ∧
  (∀ r : SbRsp, (rspPacket r).length = 16 ∧ packetGood (rspPacket r) = true ∧ (rspPacket r).getD 1 0 = r.tag ∧
    (rspPacket r).getD 0 0 = if r.write then 0x19 else 0x18)

/-- R104: a read of the _LO of STK.COUNT samples the whole value; a read of the _HI on the same path returns the sampled upper half, whatever has
happened to the counter since; before any read of the _LO it returns 0. Other paths keep their latches.

R105 on the pair BTH.MAP_BASE: the four cases of a path's held write. -/
def Obligations.PairsAreReadAndWrittenWhole : Prop :=
  (∀ (s : State) (via : Path), s.deaf via = false → ∃ t, exec (.sampleRead via 0x1040) s = .next t ∧
    (t.path via).out = s.regValue 0x001 0x040 ∧ (∀ v, pathNo v ≠ pathNo via → t.path v = s.path v) ∧ t = { s with paths := t.paths } ∧
    (∀ u : State, u.paths = t.paths → u.deaf via = false → ∃ w, exec (.sampleRead via 0x1044) u = .next w ∧
      (w.path via).out = s.regValue 0x001 0x044)) ∧
  (∀ (s : State) (via : Path), s.deaf via = false → 0x1040 ∉ (s.path via).seen →
    ∃ t, exec (.sampleRead via 0x1044) s = .next t ∧ (t.path via).out = 0 ∧ t = { s with paths := t.paths }) ∧
  (∀ (s : State) (via : Path) (d : Word), s.deaf via = false → s.locked via 0x00F = false →
    ∃ t, exec (.pairLoWrite via 0xF040 d) s = .next t ∧ (t.path via).held = some (0xF040, d) ∧ t = { s with paths := t.paths }) ∧
  (∀ (s : State) (via : Path) (lo hi : Word), s.deaf via = false → s.locked via 0x00F = false →
    (s.path via).held = some (0xF040, lo) → ∃ t, exec (.pairHiWrite via 0xF044 hi) s = .next t ∧
      t.rd Reg.BTH.MAP_BASE_LO = lo.toNat / 2 ^ 12 ∧ t.rd Reg.BTH.MAP_BASE_HI = hi.toNat % 2 ^ 20 ∧ (t.path via).held = .none ∧
      sameFields [Reg.BTH.MAP_BASE_LO, Reg.BTH.MAP_BASE_HI] s t ∧ t = { s with regs := t.regs, paths := t.paths }) ∧
  (∀ (s : State) (via : Path) (hi : Word), s.deaf via = false → s.locked via 0x00F = false →
    (∀ d, (s.path via).held ≠ some (0xF040, d)) → ∃ t, exec (.pairHiWrite via 0xF044 hi) s = .next t ∧
      t.rd Reg.BTH.MAP_BASE_LO = 0 ∧ t.rd Reg.BTH.MAP_BASE_HI = hi.toNat % 2 ^ 20 ∧ (t.path via).held = (s.path via).held ∧
      sameFields [Reg.BTH.MAP_BASE_LO, Reg.BTH.MAP_BASE_HI] s t ∧ t = { s with regs := t.regs })

/-- R116: when a write to LOCK takes effect, and when it is refused whole. -/
def Obligations.LockWrites : Prop :=
  (∀ (s : State) (via : Path) (pg : Nat) (d : Word), s.deaf via = false → (blockOf pg).isSome = true →
    (s.flag (Reg.LOCK_WP pg) = true → d.toNat % 2 = 1) → (s.flag (Reg.LOCK_HUB_ONLY pg) = true → d.toNat / 2 % 2 = 1) →
    ∃ t, exec (.lockWrite via pg d) s = .next t ∧ t.rd (Reg.LOCK_WP pg) = d.toNat % 2 ∧ t.rd (Reg.LOCK_HUB_ONLY pg) = d.toNat / 2 % 2 ∧
      sameFields [Reg.LOCK_WP pg, Reg.LOCK_HUB_ONLY pg] s t ∧ t = { s with regs := t.regs }) ∧
  (∀ (s : State) (via : Path) (pg : Nat) (d : Word), s.deaf via = false → (blockOf pg).isSome = true → d.toNat / 2 ^ 16 = 0x5A17 →
    (s.flag (Reg.LOCK_HUB_ONLY pg) = true → via = .mgmt) →
    ∃ t, exec (.lockWrite via pg d) s = .next t ∧ t.rd (Reg.LOCK_WP pg) = d.toNat % 2 ∧ t.rd (Reg.LOCK_HUB_ONLY pg) = d.toNat / 2 % 2 ∧
      sameFields [Reg.LOCK_WP pg, Reg.LOCK_HUB_ONLY pg] s t ∧ t = { s with regs := t.regs }) ∧
  (∀ (s : State) (via : Path) (pg : Nat) (d : Word), s.deaf via = false → (blockOf pg).isSome = true →
    (s.flag (Reg.LOCK_WP pg) = true ∧ d.toNat % 2 = 0 ∨ s.flag (Reg.LOCK_HUB_ONLY pg) = true ∧ d.toNat / 2 % 2 = 0) →
    (d.toNat / 2 ^ 16 ≠ 0x5A17 ∨ s.flag (Reg.LOCK_HUB_ONLY pg) = true ∧ via ≠ .mgmt) →
    ∃ t, exec (.lockWrite via pg d) s = .next t ∧ t.rd (Reg.LOCK_WP pg) = s.rd (Reg.LOCK_WP pg) ∧
      t.rd (Reg.LOCK_HUB_ONLY pg) = s.rd (Reg.LOCK_HUB_ONLY pg) ∧
      t.rd (Reg.LOCK_DENIED pg) = min (s.rd (Reg.LOCK_DENIED pg) + 1) 255 ∧
      sameFields [Reg.LOCK_DENIED pg, Reg.MGT.STAT_DENIED] s t ∧ t = { s with regs := t.regs })

/-- R110, R113, Table 0.4: ones written to an ERR register clear its bits and no others; UMP's SELF_PARITY alone stays until full reset; the record
empties when all three registers of the page read 0. A bit whose event came in the same control cycle stays 1 (R112).

R109 to R111: an event sets its bit; one whose bit is already 1 is merged and counts as such only; any other counts in its class, a fatal one in
none, and fills an empty first-error record. -/
def Obligations.ErrorsAreRaisedAndCleared : Prop :=
  (∀ (s : State) (via : Path) (pg : Nat) (cls : EvClass) (d : Word), s.deaf via = false → (blockOf pg).isSome = true →
    ¬ (cls = .fatal ∧ pg = 0x003) → ∃ t, exec (.errW1cWrite via pg cls d) s = .next t ∧
      (∀ b < 32, bitAt (t.rd (errField cls pg)) b =
        (bitAt (s.rd (errField cls pg)) b && (!d.getLsbD b || s.log.raised.contains (pg, cls, b)))) ∧
      (t.rd (Reg.ERR_CORR pg) = 0 → t.rd (Reg.ERR_CONT pg) = 0 → t.rd (Reg.ERR_FATAL pg) = 0 → t.record pg = .none) ∧
      sameFields [errField cls pg] s t ∧
      t = { s with regs := t.regs, recs := t.recs, log := { s.log with cleared := t.log.cleared, emptied := t.log.emptied } }) ∧
  (∀ (s : State) (via : Path) (pg : Nat) (d : Word), s.deaf via = false → (blockOf pg).isSome = true → pg ≠ 0x003 →
    ∃ t, exec (.errFatalClear via pg d) s = .next t ∧
      (∀ b < 32, bitAt (t.rd (Reg.ERR_FATAL pg)) b =
        (bitAt (s.rd (Reg.ERR_FATAL pg)) b && (!d.getLsbD b || s.log.raised.contains (pg, .fatal, b)))) ∧
      sameFields [Reg.ERR_FATAL pg] s t ∧
      t = { s with regs := t.regs, recs := t.recs, log := { s.log with cleared := t.log.cleared, emptied := t.log.emptied } }) ∧
  (∀ (s : State) (via : Path) (d : Word), s.deaf via = false → ∃ t, exec (.errFatalClear via 0x003 d) s = .next t ∧
      (∀ b < 32, b ≠ 1 → bitAt (t.rd (Reg.ERR_FATAL 0x003)) b =
        (bitAt (s.rd (Reg.ERR_FATAL 0x003)) b && (!d.getLsbD b || s.log.raised.contains (0x003, .fatal, b)))) ∧
      bitAt (t.rd (Reg.ERR_FATAL 0x003)) 1 = bitAt (s.rd (Reg.ERR_FATAL 0x003)) 1 ∧ sameFields [Reg.ERR_FATAL 0x003] s t) ∧
  (∀ (s : State) (e : Event), e.code.bit < 32 → (s.raise1 e).shows e.code = true) ∧
  (∀ (s : State) (e : Event), s.shows e.code = true →
    (s.raise1 e).rd (Reg.CNT_MERGED e.code.page) = min (s.rd (Reg.CNT_MERGED e.code.page) + 1) 255 ∧
    (s.raise1 e).rd (Reg.CNT_CORR e.code.page) = s.rd (Reg.CNT_CORR e.code.page) ∧
    (s.raise1 e).rd (Reg.CNT_CONT e.code.page) = s.rd (Reg.CNT_CONT e.code.page) ∧ (s.raise1 e).recs = s.recs) ∧
  (∀ (s : State) (e : Event), s.merges e.code = false →
    (s.raise1 e).rd (Reg.CNT_MERGED e.code.page) = s.rd (Reg.CNT_MERGED e.code.page) ∧
    (s.raise1 e).rd (Reg.CNT_CORR e.code.page) =
      (if e.code.cls = .corr then min (s.rd (Reg.CNT_CORR e.code.page) + 1) 65535 else s.rd (Reg.CNT_CORR e.code.page)) ∧
    (s.raise1 e).rd (Reg.CNT_CONT e.code.page) =
      (if e.code.cls = .cont then min (s.rd (Reg.CNT_CONT e.code.page) + 1) 255 else s.rd (Reg.CNT_CONT e.code.page))) ∧
  (∀ (s : State) (e : Event), s.merges e.code = false → s.record e.code.page = .none →
    (s.raise1 e).record e.code.page = some ⟨e.code.cls, e.code.bit, e.info0, e.info1, s.stamp⟩) ∧
  (∀ (s : State) (e : Event) (r : ErrRec), s.merges e.code = false → s.record e.code.page = some r → severity r.cls < severity e.code.cls →
    (s.raise1 e).record e.code.page = some ⟨e.code.cls, e.code.bit, e.info0, e.info1, s.stamp⟩) ∧
  (∀ (s : State) (e : Event) (r : ErrRec), s.record e.code.page = some r → severity e.code.cls < severity r.cls →
    (∀ x ∈ s.log.emptied, x.1 ≠ e.code.page) → (s.raise1 e).record e.code.page = some r)

/-- R112: a clear and a new event of one bit in one control cycle leave the bit 1, and the event is merged, whichever of the two comes first. -/
def Obligations.ClearAndEventInOneCycle : Prop :=
  (∀ (s : State) (via : Path) (e : Event) (d : Word), s.deaf via = false → (blockOf e.code.page).isSome = true → e.code.bit < 32 →
    s.shows e.code = true → d.getLsbD e.code.bit = true → s.log.raised.contains (e.code.page, e.code.cls, e.code.bit) = false →
    ∃ t, exec (.errW1cWrite via e.code.page e.code.cls d) s = .next t ∧ (e.code.cls ≠ .fatal → t.shows e.code = false) ∧
      (t.raise1 e).shows e.code = true ∧
      (t.raise1 e).rd (Reg.CNT_MERGED e.code.page) = min (s.rd (Reg.CNT_MERGED e.code.page) + 1) 255 ∧
      (t.raise1 e).rd (Reg.CNT_CORR e.code.page) = s.rd (Reg.CNT_CORR e.code.page) ∧
      (t.raise1 e).rd (Reg.CNT_CONT e.code.page) = s.rd (Reg.CNT_CONT e.code.page) ∧
      ((∀ x ∈ s.log.emptied, x.1 ≠ e.code.page) → (t.raise1 e).record e.code.page = s.record e.code.page)) ∧
  (∀ (s : State) (via : Path) (e : Event) (d : Word), s.deaf via = false → (blockOf e.code.page).isSome = true → e.code.bit < 32 →
    s.shows e.code = true → d.getLsbD e.code.bit = true →
    ∃ t, exec (.errW1cWrite via e.code.page e.code.cls d) (s.raise1 e) = .next t ∧ t.shows e.code = true ∧
      t.rd (Reg.CNT_MERGED e.code.page) = min (s.rd (Reg.CNT_MERGED e.code.page) + 1) 255 ∧
      t.rd (Reg.CNT_CORR e.code.page) = s.rd (Reg.CNT_CORR e.code.page) ∧ t.rd (Reg.CNT_CONT e.code.page) = s.rd (Reg.CNT_CONT e.code.page) ∧
      t.record e.code.page = s.record e.code.page)

/-- Table 4.3, R140, R141, R142: CNT_CLR on a page whose CTRL has no other action, the sample of PEND after cycle 1,040, and the request for a full
reset, which is due at the second cycle 0 from the write and without the key does nothing. -/
def Obligations.CommonControl : Prop :=
  (∀ (s : State) (via : Path) (b : Block) (pg : Nat) (d : Word), s.deaf via = false → blockOf pg = some b → s.locked via pg = false →
    (∀ v, blockEffect v b pg 0x004 = .none) → ∃ t, exec (.cntClr via pg d) s = .next t ∧
      t.rd (Reg.CNT_CORR pg) = 0 ∧ t.rd (Reg.CNT_CONT pg) = 0 ∧ t.rd (Reg.CNT_MERGED pg) = 0 ∧
      t.rd (Reg.ERR_CORR pg) = s.rd (Reg.ERR_CORR pg) ∧ t.rd (Reg.ERR_CONT pg) = s.rd (Reg.ERR_CONT pg) ∧ t = { s with regs := t.regs }) ∧
  (∀ (s : State) (via : Path) (pg : Nat) (d : Word), s.deaf via = false → s.locked via pg = false → d.toNat < 32 →
    pg = 0x003 ∨ pg = 0x007 ∨ pg = 0x008 ∨ pg = 0x014 ∨ (0x060 ≤ pg ∧ pg < 0x070) ∨ (0x080 ≤ pg ∧ pg < 0x090) →
    ∃ t, exec (.cntClr via pg d) s = .next t ∧ t.rd (Reg.CNT_CORR pg) = 0 ∧ t.rd (Reg.CNT_CONT pg) = 0 ∧
      t.rd (Reg.CNT_MERGED pg) = 0 ∧ t = { s with regs := t.regs }) ∧
  (∀ s : State, s.running = true → ∃ t, exec .pendSample s = .next t ∧ t.clk.cycle = 1041 ∧
    (∀ c < 8, bitAt (t.rd Reg.GLB.PEND_CLV) c = (s.pendMasked (0x020 + c) != 0)) ∧
    t = { s with
      regs := t.regs
      clk := { s.clk with cycle := 1041 }
      log := { s.log with cleared := t.log.cleared, raised := t.log.raised, emptied := t.log.emptied } }) ∧
  (∀ (s : State) (via : Path) (d : Word), s.deaf via = false → s.locked via 0x000 = false → s.running = true → s.resetAt = .none →
    d.toNat / 2 ^ 16 = 0x7F1A → d.toNat % 2 = 1 →
    exec (.glbReset via d) s = .next { s with resetAt := some (s.clk.idle + (s.now + 2) * 1280) }) ∧
  (∀ (s : State) (via : Path) (d : Word), s.deaf via = false → s.locked via 0x000 = false → s.running = false → s.resetAt = .none →
    d.toNat / 2 ^ 16 = 0x7F1A → d.toNat % 2 = 1 →
    exec (.glbReset via d) s = .next { s with resetAt := some (s.time + 2560) }) ∧
  (∀ (s : State) (via : Path) (d : Word), s.deaf via = false → s.locked via 0x000 = false → d.toNat / 2 ^ 16 ≠ 0x7F1A ∨ d.toNat % 2 = 0 →
    exec (.glbReset via d) s = .next s)

/-! ## Reset, bring-up and faults -/

/-- R12, R455, R456, R490: a full reset holds the die with every register at its reset value; fuses, the store and the TAP stay. A software full
reset happens when it is due and not before.

R456: a software full reset holds the die for 2,048 cycles; RST_N low governs, and is released when it rises.

R457, R458: at the release the straps are sampled, every other register has its reset value, and step 0 waits for the clock. -/
def Obligations.FullResetAndRelease : Prop :=
  (∀ s : State, s.wordAtHand = .none → ∃ t, exec (.fullReset .rstN) s = .next t ∧ t.held = true ∧ (∀ f : Field, t.rd f = f.reset) ∧
    t.nvs.words = s.nvs.words ∧ t.fuses = s.fuses ∧ t.tap = s.tap ∧ t.cal.visits = [] ∧ t.cox.cmds = [] ∧ t.buoys = []) ∧
  (∀ s : State, ∃ t, exec (.fullReset .rstN) s = .next t ∧ t.held = true ∧ (∀ f : Field, t.rd f = f.reset) ∧ t.tap = s.tap) ∧
  (∀ s : State, ∃ t, exec (.fullReset .rstN) s = .next t ∧ t.mayRelease = true) ∧
  (∀ (s : State) (n : Nat), s.held = false → s.resetAt = some n → n ≤ s.time → ∃ t, exec (.fullReset .rstN) s = .next t ∧ t.time = 0 ∧
    exec (.fullReset .software) s = .next { t with resetAt := some 2048 }) ∧
  (∀ (s : State) (n : Nat), s.resetAt = some n → s.time < n → exec (.fullReset .software) s = .next s) ∧
  (∀ s : State, s.resetAt = .none ∨ s.held = true → exec (.fullReset .software) s = .next s) ∧
  (∀ (s : State) (f : WordFate), ∃ t, exec (.powerLoss f) s = .next t ∧ t.held = true ∧ (∀ g : Field, t.rd g = g.reset) ∧ t.fuses = s.fuses) ∧
  (∀ (s : State) (pos : BitVec 2) (mode : Bool) (a : BitVec 3), s.mayRelease = true → ∃ t, exec (.resetRelease pos mode a) s = .next t ∧
    t.held = false ∧ t.rd Reg.GLB.STRAPS_POSITION = pos.toNat ∧ t.flag Reg.GLB.STRAPS_MODE = mode ∧
    t.rd Reg.GLB.STRAPS_I3C_ADDR = a.toNat ∧ t.stepNo = 0 ∧ t.running = false ∧
    (∀ g : Field, (∀ f ∈ [Reg.GLB.STRAPS_POSITION, Reg.GLB.STRAPS_MODE, Reg.GLB.STRAPS_I3C_ADDR], f.key ≠ g.key) → t.rd g = g.reset) ∧
    t.nvs.words = s.nvs.words ∧ t.fuses = s.fuses ∧ t.tap = s.tap) ∧
  (∀ (s : State) (pos : BitVec 2) (mode : Bool) (a : BitVec 3), s.held = false ∨ (∃ n, s.resetAt = some n ∧ s.time < n) →
    exec (.resetRelease pos mode a) s = .next s)

/-- R459: a step begins at a cycle 0 at which the one before has ended, and at no other time; step 4 opens the headgates whose ENABLE is 1 and
leaves everything else. -/
def Obligations.BringupStepsInTurn : Prop :=
  (∀ s : State, s.held = false → s.running = true → s.clk.cycle = 0 → s.stepEnded = true →
    exec .bringupStepBegin s = .next (s.beginStep (s.stepNo + 1))) ∧
  (∀ s : State, s.held = false → s.running = true → s.clk.cycle = 0 → s.stepNo = 3 → s.stepEnded = true →
    ∃ t, exec .bringupStepBegin s = .next t ∧ t.stepNo = 4 ∧ t.clk.stepAt = s.now ∧
      (∀ x < 4, s.flag (Reg.HGT.HG_CTRL_ENABLE x) = true → s.flag (Reg.HGT.HG_STAT_OPEN x) = false → (t.hg x).mode = .opening) ∧
      (∀ x < 4, t.rd (Reg.HGT.HG_STAT_OPEN x) = s.rd (Reg.HGT.HG_STAT_OPEN x)) ∧
      t = { s with regs := t.regs, hgs := t.hgs, clk := { s.clk with stepAt := s.now } }) ∧
  (∀ s : State, s.held = true ∨ s.running = false ∨ s.clk.cycle ≠ 0 ∨ s.stepEnded = false → exec .bringupStepBegin s = .next s)

/-- R152, R203, R433, R436, R439: the cycle after a fatal pair is asserted, the safe state is declared: every headgate is shut, every seat but a
FAILED one is IDLE, no visit is under way, ALIVE holds its level, and the logbook's queue keeps its events. -/
def Obligations.SafeStateEntered : Prop :=
  ∀ (s : State) (a : Stamp), s.ump.assertedAt = some a → s.rd Reg.UMP.STAT_STATE = 0 → ∃ t, exec .safeStateEntry s = .next t ∧
    t.rd Reg.UMP.STAT_STATE = 1 ∧ t.rd Reg.GLB.STAT_SAFE = 1 ∧
    (∀ x < 4, t.rd (Reg.HGT.HG_STAT_OPEN x) = 0 ∧ t.rd (Reg.HGT.HG_STAT_ATTEN x) = 240 ∧ (t.hg x).mode = .still) ∧
    (∀ k < 576, (t.seat k).state = .idle ∨ (t.seat k).state = .failed) ∧ t.cal.visits = [] ∧ t.clk.alive = s.clk.alive ∧
    t.clk.aliveFollows = false ∧ t.ump.assertedAt = .none ∧ t.cox.jobs = [] ∧ t.held = s.held ∧ t.tap = s.tap

/-- R433, R434: without an asserted pair nothing is declared; a parity error of the Umpire's own seals it, in or out of the safe state, and shows
SELF_PARITY.

R430, R432: one cycle of equal rails is a glitch, two raise RAIL_MISMATCH once until the rails differ again; a fatal condition still present
raises its cleared bit again. -/
def Obligations.UmpireJudges : Prop :=
  (∀ s : State, s.ump.assertedAt = .none → exec .safeStateEntry s = .next s) ∧
  (∀ (s : State) (a : Stamp), s.ump.assertedAt = some a → s.rd Reg.UMP.STAT_STATE ≠ 0 → exec .safeStateEntry s = .next s) ∧
  (∀ s : State, s.held = false → s.safe = true → ∃ t, exec .selfParity s = .next t ∧ t.rd Reg.UMP.STAT_STATE = 2 ∧
    t.shows Err.UMP.SELF_PARITY = true ∧ sameFields (Reg.UMP.STAT_STATE :: eventFields Err.UMP.SELF_PARITY) s t ∧
    t = { s with regs := t.regs, recs := t.recs, log := t.log, ump := t.ump }) ∧
  (∀ s : State, s.held = false → s.safe = false → ∃ t, exec .selfParity s = .next t ∧ t.rd Reg.UMP.STAT_STATE = 2 ∧
    (∀ x < 4, t.rd (Reg.HGT.HG_STAT_OPEN x) = 0)) ∧
  (∀ (s : State) (pg : Nat), s.held = false → (blockOf pg).isSome = true → s.ump.railFault.contains pg = false →
    ∃ t, exec (.railMismatch pg 1) s = .next t ∧ t.rd Reg.UMP.GLITCH_CNT = (s.bump Reg.UMP.GLITCH_CNT).rd Reg.UMP.GLITCH_CNT ∧
      sameFields [Reg.UMP.GLITCH_CNT] s t ∧ t = { s with regs := t.regs }) ∧
  (∀ (s : State) (pg n : Nat), s.held = false → (blockOf pg).isSome = true → s.ump.railFault.contains pg = false → 2 ≤ n →
    ∃ t, exec (.railMismatch pg n) s = .next t ∧ t.shows Err.UMP.RAIL_MISMATCH = true ∧ t.ump.railFault.contains pg = true ∧
      sameFields (eventFields Err.UMP.RAIL_MISMATCH) s t ∧ t = { s with regs := t.regs, recs := t.recs, log := t.log, ump := t.ump }) ∧
  (∀ (s : State) (pg n : Nat), s.held = false → (blockOf pg).isSome = true → s.ump.railFault.contains pg = true → 1 ≤ n →
    exec (.railMismatch pg n) s = .next s) ∧
  (∀ (s : State) (pg : Nat), s.held = false → (blockOf pg).isSome = true → ∃ t, exec (.railMismatch pg 0) s = .next t ∧
    t.ump.railFault.contains pg = false ∧ t = { s with ump := { s.ump with railFault := t.ump.railFault } }) ∧
  (∀ (s : State) (pg b : Nat) (e : Event), bitAt (s.rd (Reg.ERR_FATAL pg)) b = false → s.fatalPresent pg b = some e →
    ∃ t, exec (.fatalReraise pg b) s = .next t ∧ bitAt (t.rd (Reg.ERR_FATAL pg)) b = true ∧
      sameFields (eventFields e.code) s t ∧ t = { s with regs := t.regs, recs := t.recs, log := t.log, ump := t.ump }) ∧
  (∀ (s : State) (pg b : Nat), bitAt (s.rd (Reg.ERR_FATAL pg)) b = true ∨ s.fatalPresent pg b = .none →
    exec (.fatalReraise pg b) s = .next s)

/-- R438 and Table 13.3: an exit asked for in SAFE is decided at the next cycle 0: it ends the safe state if no fatal bit is left, and is denied
otherwise; in SEALED it is denied at once. -/
def Obligations.LeavingTheSafeState : Prop :=
  (∀ (s : State) (via : Path), s.deaf via = false → s.locked via 0x003 = false → s.rd Reg.UMP.STAT_STATE = 1 → s.ump.exitReq = .none →
    s.running = true → ∃ t, exec (.umpExit via) s = .next t ∧ t.ump = { s.ump with exitReq := some (s.now + 1) } ∧
      t.rd Reg.UMP.STAT_STATE = 1 ∧ t.rd Reg.UMP.STAT_EXIT_DENIED = s.rd Reg.UMP.STAT_EXIT_DENIED ∧ t = { s with regs := t.regs, ump := t.ump }) ∧
  (∀ (s : State) (via : Path), s.deaf via = false → s.locked via 0x003 = false → s.rd Reg.UMP.STAT_STATE = 2 →
    ∃ t, exec (.umpExit via) s = .next t ∧ t.rd Reg.UMP.STAT_EXIT_DENIED = 1 ∧ t.rd Reg.UMP.STAT_STATE = 2 ∧ t = { s with regs := t.regs }) ∧
  (∀ (s : State) (r : Nat), s.ump.exitReq = some r → r ≤ s.now → s.running = true → s.clk.cycle = 0 → s.umpSrc ≠ 0 →
    ∃ t, exec .safeStateExit s = .next t ∧ t.rd Reg.UMP.STAT_EXIT_DENIED = 1 ∧ t.ump.exitReq = .none ∧
      sameFields [Reg.UMP.STAT_EXIT_DENIED] s t ∧ t = { s with regs := t.regs, ump := { s.ump with exitReq := .none } }) ∧
  (∀ (s : State) (r : Nat), s.ump.exitReq = some r → r ≤ s.now → s.running = true → s.clk.cycle = 0 → s.umpSrc = 0 →
    s.rd Reg.UMP.STAT_STATE = 1 → exec .safeStateExit s = .next ({ s with ump := { s.ump with exitReq := .none } }).exitSafe) ∧
  (∀ s : State, s.ump.exitReq = .none ∨ s.clk.cycle ≠ 0 → exec .safeStateExit s = .next s)

/-- Table 13.6, Table 13.8, Table 8.8: the writes that empty UMP.FIRST, the Umpire's counts and the Leveller's statistics.

R442, R49: the oldest queued event is written at its slot of the Recovery, four cycles to an entry; what a Recovery leaves is carried over, and
counted once. -/
def Obligations.StatisticsAndLogbook : Prop :=
  (∀ (s : State) (via : Path), s.deaf via = false → s.locked via 0x003 = false → ∃ t, exec (.firstClr via) s = .next t ∧
    t.log = { s.log with first := .none } ∧ t.rd Reg.UMP.STAT_STATE = s.rd Reg.UMP.STAT_STATE ∧ t.ump = s.ump ∧
    t = { s with regs := t.regs, log := t.log }) ∧
  (∀ (s : State) (via : Path), s.deaf via = false → s.locked via 0x003 = false → ∃ t, exec (.statClr via) s = .next t ∧
    t.rd Reg.UMP.FATAL_CNT_ENTRIES = 0 ∧ t.rd Reg.UMP.FATAL_CNT_EVENTS = 0 ∧ t.rd Reg.UMP.GLITCH_CNT = 0 ∧
    t.rd Reg.UMP.STAT_STATE = s.rd Reg.UMP.STAT_STATE ∧ t.log = s.log ∧ t = { s with regs := t.regs }) ∧
  (∀ (s : State) (via : Path), s.deaf via = false → s.locked via 0x007 = false → ∃ t, exec (.lvlStatClr via) s = .next t ∧
    t.rd Reg.LVL.SOLVE_TIME_MAX = 0 ∧ t.rd Reg.LVL.MISS_CNT_MISSES = 0 ∧ t.rd Reg.LVL.MISS_CNT_HOLDS = 0 ∧ t.rd Reg.LVL.SAT_CNT = 0 ∧
    t.rd Reg.LVL.TGT_CLAMP_CNT = 0 ∧ t.rd Reg.LVL.DELTA_CNT_ACCEPTED = 0 ∧ t.rd Reg.LVL.DELTA_CNT_REJECTED = 0 ∧
    t.rd Reg.LVL.STAT_THERMAL = s.rd Reg.LVL.STAT_THERMAL ∧ t = { s with regs := t.regs }) ∧
  (∀ (s : State) (e : LogEntry) (rest : List LogEntry), s.log.queue = e :: rest → s.running = true → s.logSlot e < 60 →
    ∃ t, exec .logbookWrite s = .next t ∧ t.clk.cycle = 1040 + 4 * s.logSlot e ∧ t.log.queue = rest ∧
      Tab.read .none t.log.book (e.seq.toNat % 32) = some e ∧
      (∀ k, k ≠ e.seq.toNat % 32 → Tab.read .none t.log.book k = Tab.read .none s.log.book k) ∧ t.log.first = s.log.first ∧
      t.rd Reg.LOG.TOTAL = (s.bump Reg.LOG.TOTAL).rd Reg.LOG.TOTAL ∧ sameFields [Reg.LOG.TOTAL] s t ∧
      t = { s with regs := t.regs, log := t.log, clk := { s.clk with cycle := t.clk.cycle } }) ∧
  (∀ s : State, s.log.queue = [] → exec .logbookWrite s = .next s ∧ exec .logCarry s = .next s) ∧
  (∀ s : State, s.log.queue ≠ [] → s.running = true → s.log.slot ≤ 60 → ∃ t, exec .logCarry s = .next t ∧
    t.rd Reg.STK.OVR1_LOG = (s.bump Reg.STK.OVR1_LOG).rd Reg.STK.OVR1_LOG ∧ t.log.queue = s.log.queue ∧ t.log.slot = 61 ∧
    sameFields [Reg.STK.OVR1_LOG] s t ∧ t = { s with regs := t.regs, log := t.log, clk := { s.clk with cycle := 1279 } }) ∧
  (∀ s : State, s.log.slot = 61 → exec .logCarry s = .next s)

/-! ## Strokes, clocks and markers -/

/-- R38: at cycle 0 of every stroke the 48-bit counter is one more, and wraps to 0 after all ones.

R53: while Tolfa runs, ALIVE drives bit 6 of the stroke counter; in the safe state it holds its last level. -/
def Obligations.StrokesAreCounted : Prop :=
  (∀ s : State, s.running = true → s.held = false → s.clk.adopt = .none → ∃ t, exec .strokeBoundary s = .next t ∧
    t.clk.stroke = s.clk.stroke + 1 ∧ t.clk.cycle = 0 ∧ t.clk.elapsed = s.clk.elapsed + 1 ∧ t.held = false ∧ t.pending = s.pending) ∧
  (∀ (s : State) (n : BitVec 48), s.running = true → s.held = false → s.clk.adopt = some n → ∃ t, exec .strokeBoundary s = .next t ∧
    t.clk.stroke = n ∧ t.clk.cycle = 0 ∧ t.clk.elapsed = s.clk.elapsed + 1) ∧
  (∀ s : State, s.running = false ∨ s.held = true → exec .strokeBoundary s = .next s) ∧
  (∀ s : State, s.running = true → s.held = false → s.safe = false → s.clk.aliveFollows = true →
    ∃ t, exec .strokeBoundary s = .next t ∧ t.clk.alive = t.clk.stroke.getLsbD 6) ∧
  (∀ s : State, s.running = true → s.held = false → s.safe = true →
    ∃ t, exec .strokeBoundary s = .next t ∧ t.clk.alive = s.clk.alive)

/-- R51, R41, Table 2.8: the first lock of the control PLL; on T0 strokes begin with count 0 and the package outputs start, a follower waits for its
marker.

R47, R48: the loss of a reference, its return, re-acquisition, and the way out of holdover after 16 strokes. -/
def Obligations.ClocksAreLocked : Prop :=
  (∀ (s : State) (n : Nat), s.held = false → s.flag Reg.CKM.STAT_PLL_LOCK = false → s.stepNo = 0 → s.isT0 = true →
    ∃ t, exec (.pllLock n) s = .next t ∧ t.running = true ∧ t.clk.stroke = 0 ∧ t.clk.cycle = 0 ∧ t.stepNo = 1 ∧
      t.flag Reg.CKM.STAT_PLL_LOCK = true ∧ t.rd Reg.CKM.LOCK_TIME = min n 65535 ∧ t.rd Reg.CKM.STAT_OUT_ACTIVE = 0x1F ∧
      t.clk.marker = some (0, crc8 0) ∧
      sameFields [Reg.CKM.STAT_PLL_LOCK, Reg.CKM.STAT_REF_PRESENT, Reg.CKM.LOCK_TIME, Reg.GLB.STAT_STEP, Reg.CKM.STAT_OUT_ACTIVE,
        Reg.STK.STAT_RUNNING] s t ∧ t = { s with regs := t.regs, clk := t.clk }) ∧
  (∀ (s : State) (n : Nat), s.held = false → s.flag Reg.CKM.STAT_PLL_LOCK = false → s.stepNo = 0 → s.isT0 = false →
    ∃ t, exec (.pllLock n) s = .next t ∧ t.running = s.running ∧ t.stepNo = 1 ∧ t.flag Reg.CKM.STAT_PLL_LOCK = true ∧
      t.rd Reg.CKM.LOCK_TIME = min n 65535 ∧ t = { s with regs := t.regs, clk := { s.clk with lockAt := n } }) ∧
  (∀ s : State, s.held = false → s.isT0 = false → s.flag Reg.CKM.STAT_BACKUP_OSC = false → s.flag Reg.CKM.STAT_PLL_LOCK = true →
    ∃ t, exec .fwdClkLoss s = .next t ∧ t.rd Reg.CKM.STAT_BACKUP_OSC = 1 ∧ t.rd Reg.STK.STAT_BACKUP = 1 ∧ t.rd Reg.STK.STAT_SYNC = 2 ∧
      t.rd Reg.CKM.STAT_REF_PRESENT = 0 ∧ t.shows Err.CKM.FWD_CLK_LOSS = true ∧ exec .fwdClkLoss t = .next t) ∧
  (∀ s : State, s.held = false → s.isT0 = true → s.running = true → s.flag Reg.CKM.STAT_REF_PRESENT = true →
    ∃ t, exec .refclkLoss s = .next t ∧ t.rd Reg.CKM.STAT_HOLDOVER = 1 ∧ t.rd Reg.STK.STAT_HOLDOVER = 1 ∧
      t.rd Reg.CKM.STAT_REF_PRESENT = 0 ∧ t.shows Err.CKM.REFCLK_LOSS = true ∧ t.clk.reacquired = false ∧ t.running = true) ∧
  (∀ s : State, s.held = false → s.isT0 = true → ∃ t, exec .refclkReturn s = .next t ∧ t.rd Reg.CKM.STAT_REF_PRESENT = 1 ∧
      sameFields [Reg.CKM.STAT_REF_PRESENT] s t ∧ t = { s with regs := t.regs }) ∧
  (∀ s : State, s.flag Reg.CKM.STAT_HOLDOVER = true → s.flag Reg.CKM.STAT_REF_PRESENT = true → s.clk.reacquired = false →
    exec .refclkReacquired s = .next { s with clk := { s.clk with reacquired := true, holdCount := 0 } }) ∧
  (∀ s : State, s.flag Reg.CKM.STAT_HOLDOVER = true → s.clk.reacquired = true → 17 ≤ s.clk.holdCount →
    ∃ t, exec .holdoverExit s = .next t ∧ t.rd Reg.CKM.STAT_HOLDOVER = 0 ∧ t.rd Reg.STK.STAT_HOLDOVER = 0 ∧
      t.rd Reg.CKM.STAT_PLL_LOCK = 1 ∧ t.clk.reacquired = false ∧
      sameFields [Reg.CKM.STAT_HOLDOVER, Reg.STK.STAT_HOLDOVER, Reg.CKM.STAT_PLL_LOCK, Reg.CKM.LOCK_TIME] s t ∧
      t = { s with regs := t.regs, clk := t.clk }) ∧
  (∀ s : State, s.flag Reg.CKM.STAT_HOLDOVER = true → s.clk.holdCount < 17 → exec .holdoverExit s = .next s)

/-- R42, R44, R45, R494: a follower's marker. A match ends a run of misses; a miss counts; a valid word with another count is adopted at the next
cycle 0 with COUNT_RESYNC; a pulse away from cycle 0 is MARKER_PHASE; the 16th miss in a row is FREEWHEEL. -/
def Obligations.MarkersAreFollowed : Prop :=
  (∀ (s : State), s.heeds = true → s.running = true → s.rd Reg.STK.STAT_SYNC = 1 →
    ∃ t, exec (.markerDecision true s.clk.stroke (crc8 s.clk.stroke)) s = .next t ∧ t.rd Reg.STK.MISS_CNT_CONSEC = 0 ∧
      t.rd Reg.STK.STAT_SYNC = 1 ∧ t.clk.adopt = s.clk.adopt ∧ t.clk.cycle = 464 ∧ t.recs = s.recs ∧
      sameFields [Reg.STK.MISS_CNT_CONSEC, Reg.STK.STAT_SYNC] s t) ∧
  (∀ (s : State) (n : BitVec 48), s.heeds = true → s.running = true → n ≠ s.clk.stroke →
    ∃ t, exec (.markerDecision true n (crc8 n)) s = .next t ∧ t.clk.adopt = some (n + 1) ∧ t.shows Err.STK.COUNT_RESYNC = true ∧
      t.rd Reg.STK.MISS_CNT_CONSEC = 0 ∧ t.rd Reg.STK.STAT_SYNC = 1 ∧ t.clk.stroke = s.clk.stroke) ∧
  (∀ (s : State) (pulse : Bool) (n : BitVec 48) (c : BitVec 8), s.heeds = true → s.running = true → pulse = false ∨ crc8 n ≠ c →
    ∃ t, exec (.markerDecision pulse n c) s = .next t ∧
      t.rd Reg.STK.MISS_CNT_CONSEC = (s.bump Reg.STK.MISS_CNT_CONSEC).rd Reg.STK.MISS_CNT_CONSEC ∧
      t.rd Reg.STK.MISS_CNT_TOTAL = (s.bump Reg.STK.MISS_CNT_TOTAL).rd Reg.STK.MISS_CNT_TOTAL ∧
      t.rd Reg.STK.STAT_SYNC = s.rd Reg.STK.STAT_SYNC ∧ t.clk.adopt = s.clk.adopt) ∧
  (∀ (s : State) (n : Nat), s.heeds = true → s.running = true → n % 1280 ≠ 0 → ∃ t, exec (.markerStartPulse n) s = .next t ∧
      t.clk.cycle = n % 1280 ∧ t.shows Err.STK.MARKER_PHASE = true ∧ sameFields (eventFields Err.STK.MARKER_PHASE) s t) ∧
  (∀ (s : State) (n : Nat), s.heeds = true → s.running = true → n % 1280 = 0 → exec (.markerStartPulse n) s = .next s) ∧
  (∀ (s : State) (n : BitVec 48) (a : Nat), s.heeds = true → s.running = false → s.clk.word2 = some (a, n) → s.safe = false →
    ∃ t, exec (.markerStartPulse (a + 1280)) s = .next t ∧ t.running = true ∧ t.clk.stroke = n + 1 ∧ t.clk.cycle = 0 ∧
      t.rd Reg.STK.STAT_SYNC = 1 ∧ t.clk.alive = (n + 1).getLsbD 6) ∧
  (∀ (s : State), s.heeds = true → s.running = true → s.rd Reg.STK.STAT_SYNC = 1 → 16 ≤ s.rd Reg.STK.MISS_CNT_CONSEC →
    ∃ t, exec .freewheel s = .next t ∧ t.rd Reg.STK.STAT_SYNC = 2 ∧ t.shows Err.STK.FREEWHEEL = true ∧ t.clk.cycle = 464 ∧
      sameFields (Reg.STK.STAT_SYNC :: eventFields Err.STK.FREEWHEEL) s t)

/-- R49: what an overrun of each piece of work costs, one count to a stroke or Recovery, and that OVR_CLR clears the counters it names and no others. -/
def Obligations.OverrunsAreCounted : Prop :=
  (∀ (s : State) (p : Fin 16) (ch : Nat), s.running = true → ch < 40 → ∃ t, exec (.sampleOverrun (.port p) ch) s = .next t ∧
    t.rd Reg.STK.OVR0_SAMPLE = (s.bump Reg.STK.OVR0_SAMPLE).rd Reg.STK.OVR0_SAMPLE ∧ (t.chan (chanKey p.val ch)).clean = false ∧
    t.rd (Reg.OPT.MON_CODE_VALID p.val ch) = 0 ∧ t.clk.cycle = 159 ∧ t.seats = s.seats) ∧
  (∀ (s : State) (u : SeatId), s.running = true → (s.seat (idKey u)).state.runs = true → ∃ t, exec (.demodOverrun u) s = .next t ∧
    t.rd Reg.STK.OVR0_DEMOD = (s.bump Reg.STK.OVR0_DEMOD).rd Reg.STK.OVR0_DEMOD ∧ (t.seat (idKey u)).coast = true ∧
    (t.seat (idKey u)).code = (s.seat (idKey u)).code ∧ t.clk.cycle = 319 ∧ sameFields [Reg.STK.OVR0_DEMOD] s t) ∧
  (∀ (s : State) (u : SeatId), s.running = true → (s.visitOf (idKey u)).isSome = true → ∃ t, exec (.calstepOverrun u) s = .next t ∧
    t.rd Reg.STK.OVR0_CALSTEP = (s.bump Reg.STK.OVR0_CALSTEP).rd Reg.STK.OVR0_CALSTEP ∧ t.clk.cycle = 959 ∧
    t.visitOf (idKey u) = (s.visitOf (idKey u)).map (fun v => { v with skipAt := some s.now }) ∧ t.cal.live = s.cal.live ∧
    t.cal.sets = s.cal.sets ∧ sameFields [Reg.STK.OVR0_CALSTEP] s t) ∧
  (∀ (s : State) (b : Nat), s.running = true → s.nextBlock = some b → s.lvl.carried = false → ∃ t, exec .refactorCarry s = .next t ∧
    t.rd Reg.STK.OVR1_REFACTOR = (s.bump Reg.STK.OVR1_REFACTOR).rd Reg.STK.OVR1_REFACTOR ∧ t.lvl = { s.lvl with refactoring := some b, carried := true } ∧
    t.clk.cycle = 1279 ∧ sameFields [Reg.STK.OVR1_REFACTOR] s t) ∧
  (∀ s : State, s.lvl.carried = true → exec .refactorCarry s = .next s) ∧
  (∀ (s : State) (via : Path) (d : Word), s.deaf via = false → s.locked via 0x001 = false → ∃ t, exec (.ovrClr via d) s = .next t ∧
    (d.getLsbD 0 = true → t.rd Reg.STK.OVR0_SAMPLE = 0) ∧ (d.getLsbD 0 = false → t.rd Reg.STK.OVR0_SAMPLE = s.rd Reg.STK.OVR0_SAMPLE) ∧
    (d.getLsbD 1 = true → t.rd Reg.STK.OVR0_DEMOD = 0) ∧ (d.getLsbD 1 = false → t.rd Reg.STK.OVR0_DEMOD = s.rd Reg.STK.OVR0_DEMOD) ∧
    (d.getLsbD 2 = true → t.rd Reg.STK.OVR0_SOLVE = 0) ∧ (d.getLsbD 2 = false → t.rd Reg.STK.OVR0_SOLVE = s.rd Reg.STK.OVR0_SOLVE) ∧
    (d.getLsbD 7 = true → t.rd Reg.STK.OVR1_LOG = 0) ∧ (d.getLsbD 7 = false → t.rd Reg.STK.OVR1_LOG = s.rd Reg.STK.OVR1_LOG) ∧
    sameFields [Reg.STK.OVR0_SAMPLE, Reg.STK.OVR0_DEMOD, Reg.STK.OVR0_SOLVE, Reg.STK.OVR0_CALSTEP, Reg.STK.OVR1_MESH,
      Reg.STK.OVR1_REFACTOR, Reg.STK.OVR1_NVS, Reg.STK.OVR1_LOG] s t ∧ t = { s with regs := t.regs })

/-! ## Light -/

/-- R150, R151: what a write to HG_CTRLx does to a headgate that may move: it opens, closes, or ramps to its new ATTEN, from the next cycle 960 on;
nothing jumps.

R150, R151, R152: one ramp step at cycle 960. A closed headgate opens at 30 dB; an open one moves by STEP toward its target and never past it; a closing
one shuts after 30 dB; in the safe state nothing moves. -/
def Obligations.HeadgatesRamp : Prop :=
  (∀ (s : State) (via : Path) (x : Fin 4) (d : Word), s.deaf via = false → s.locked via 0x012 = false → s.mayOpen = true →
    s.flag (Reg.HGT.HG_STAT_OPEN x.val) = false → d.getLsbD 0 = true → d.toNat / 2 ^ 8 % 2 ^ 8 ≤ 240 →
    ∃ t, exec (.headgateEnable via x d) s = .next t ∧ (t.hg x.val).mode = .opening ∧ t.rd (Reg.HGT.HG_STAT_RAMPING x.val) = 1 ∧
      t.rd (Reg.HGT.HG_CTRL_ENABLE x.val) = 1 ∧ t.rd (Reg.HGT.HG_CTRL_ATTEN x.val) = d.toNat / 2 ^ 8 % 2 ^ 8 ∧
      sameFields [Reg.HGT.HG_CTRL_ENABLE x.val, Reg.HGT.HG_CTRL_ATTEN x.val, Reg.HGT.HG_STAT_RAMPING x.val] s t ∧
      t = { s with regs := t.regs, hgs := t.hgs }) ∧
  (∀ (s : State) (via : Path) (x : Fin 4) (d : Word), s.deaf via = false → s.locked via 0x012 = false →
    s.flag (Reg.HGT.HG_STAT_OPEN x.val) = true → d.getLsbD 0 = false →
    ∃ t, exec (.headgateDisable via x d) s = .next t ∧ (t.hg x.val).mode = .closing ∧ t.rd (Reg.HGT.HG_STAT_RAMPING x.val) = 1 ∧
      t.rd (Reg.HGT.HG_CTRL_ENABLE x.val) = 0 ∧ t.rd (Reg.HGT.HG_STAT_ATTEN x.val) = s.rd (Reg.HGT.HG_STAT_ATTEN x.val) ∧
      t.rd (Reg.HGT.HG_STAT_OPEN x.val) = s.rd (Reg.HGT.HG_STAT_OPEN x.val) ∧ t = { s with regs := t.regs, hgs := t.hgs }) ∧
  (∀ (s : State) (via : Path) (x : Fin 4) (d : Word), s.deaf via = false → s.locked via 0x012 = false → s.mayOpen = true →
    s.flag (Reg.HGT.HG_STAT_OPEN x.val) = true → d.getLsbD 0 = true → d.toNat / 2 ^ 8 % 2 ^ 8 ≤ 240 →
    d.toNat / 2 ^ 8 % 2 ^ 8 ≠ s.rd (Reg.HGT.HG_STAT_ATTEN x.val) →
    ∃ t, exec (.headgateAttenWrite via x d) s = .next t ∧ (t.hg x.val).mode = .opening ∧
      t.rd (Reg.HGT.HG_CTRL_ATTEN x.val) = d.toNat / 2 ^ 8 % 2 ^ 8 ∧
      t.rd (Reg.HGT.HG_STAT_ATTEN x.val) = s.rd (Reg.HGT.HG_STAT_ATTEN x.val) ∧ t = { s with regs := t.regs, hgs := t.hgs }) ∧
  (∀ (s : State) (x : Fin 4), s.running = true → s.safe = false → (s.hg x.val).mode = .opening → s.flag (Reg.HGT.HG_STAT_OPEN x.val) = false →
    ∃ t, exec (.headgateRampStep x) s = .next t ∧ t.rd (Reg.HGT.HG_STAT_OPEN x.val) = 1 ∧ t.rd (Reg.HGT.HG_STAT_ATTEN x.val) = 240 ∧
      t.hgs = s.hgs ∧ t.seats = s.seats ∧ t.clk.cycle = 960 ∧
      sameFields [Reg.HGT.HG_STAT_OPEN x.val, Reg.HGT.HG_STAT_ATTEN x.val] s t) ∧
  (∀ (s : State) (x : Fin 4), s.running = true → s.safe = false → (s.hg x.val).mode = .opening → s.flag (Reg.HGT.HG_STAT_OPEN x.val) = true →
    s.rd (Reg.HGT.HG_STAT_ATTEN x.val) + s.rd Reg.HGT.RAMP < s.rd (Reg.HGT.HG_CTRL_ATTEN x.val) → s.rd (Reg.HGT.HG_CTRL_ATTEN x.val) ≤ 240 →
    ∃ t, exec (.headgateRampStep x) s = .next t ∧
      t.rd (Reg.HGT.HG_STAT_ATTEN x.val) = s.rd (Reg.HGT.HG_STAT_ATTEN x.val) + s.rd Reg.HGT.RAMP ∧ t.hgs = s.hgs ∧ t.seats = s.seats ∧
      sameFields [Reg.HGT.HG_STAT_ATTEN x.val] s t) ∧
  (∀ (s : State) (x : Fin 4), s.running = true → s.safe = false → (s.hg x.val).mode = .opening → s.flag (Reg.HGT.HG_STAT_OPEN x.val) = true →
    s.rd (Reg.HGT.HG_CTRL_ATTEN x.val) < s.rd (Reg.HGT.HG_STAT_ATTEN x.val) →
    s.rd (Reg.HGT.HG_STAT_ATTEN x.val) ≤ s.rd (Reg.HGT.HG_CTRL_ATTEN x.val) + s.rd Reg.HGT.RAMP → s.rd (Reg.HGT.HG_CTRL_ATTEN x.val) ≤ 240 →
    ∃ t, exec (.headgateRampStep x) s = .next t ∧ t.rd (Reg.HGT.HG_STAT_ATTEN x.val) = s.rd (Reg.HGT.HG_CTRL_ATTEN x.val) ∧
      (t.hg x.val).mode = .still ∧ t.rd (Reg.HGT.HG_STAT_RAMPING x.val) = 0 ∧ t.flag (Reg.HGT.HG_STAT_OPEN x.val) = true) ∧
  (∀ (s : State) (x : Fin 4), s.running = true → s.safe = false → (s.hg x.val).mode = .closing →
    s.rd (Reg.HGT.HG_STAT_ATTEN x.val) = 240 → ∃ t, exec (.headgateRampStep x) s = .next t ∧
      t.rd (Reg.HGT.HG_STAT_OPEN x.val) = 0 ∧ (t.hg x.val).mode = .still ∧
      (∀ k ∈ headgateSeats x.val, (t.seat k).state = .idle ∨ (t.seat k).state = .failed) ∧
      (∀ k, k ∉ headgateSeats x.val → t.seat k = s.seat k)) ∧
  (∀ (s : State) (x : Fin 4), s.running = false ∨ s.safe = true → exec (.headgateRampStep x) s = .next s)

/-- R153, R154: the input tap of each stroke, the input lost after four low strokes in a row, and the shutter that leaks. -/
def Obligations.InputsAreWatched : Prop :=
  (∀ (s : State) (x : Fin 4) (pwr leak : Int), s.running = true → -32768 ≤ pwr → pwr < 32768 →
    ∃ t, exec (.inputPowerCheck x pwr leak) s = .next t ∧ t.rdI (Reg.HGT.HG_STAT_IN_PWR x.val) = pwr ∧ t.clk.cycle = 159 ∧
      (t.hg x.val).lowRun = (if pwr < 1000 then (if (s.hg x.val).lowRun < 4 then (s.hg x.val).lowRun + 1 else (s.hg x.val).lowRun) else 0) ∧
      (pwr < s.rdI Reg.HGT.IN_LOW → t.shows (Err.HGT.INPUT_LOW x.val) = true) ∧
      (s.rdI Reg.HGT.IN_HIGH < pwr → t.shows (Err.HGT.INPUT_HIGH x.val) = true) ∧
      (∀ y, y ≠ x.val → t.hg y = s.hg y) ∧ t.seats = s.seats) ∧
  (∀ (s : State) (x : Fin 4), s.running = true → (s.hg x.val).lowRun = 4 → ∃ t, exec (.inputLost x) s = .next t ∧
      t.shows (Err.HGT.INPUT_LOST x.val) = true ∧ (t.hg x.val).lowRun = 5 ∧ exec (.inputLost x) t = .next t ∧
      sameFields (eventFields (Err.HGT.INPUT_LOST x.val)) s t) ∧
  (∀ (s : State) (x : Fin 4), s.running = true → (s.hg x.val).leakRun = 4 → (s.hg x.val).leaking = false →
    ∃ t, exec (.shutFail x) s = .next t ∧ t.shows (Err.HGT.SHUT_FAIL x.val) = true ∧ (t.hg x.val).leaking = true ∧
      sameFields (eventFields (Err.HGT.SHUT_FAIL x.val)) s t)

/-- R158, R159: a synthesiser relocks when asked, or when its tuning voltage leaves its range, at once while no link runs on its port; a first relock without
lock after 16 strokes is retried, the second fails; a lock ends the pause of its port. -/
def Obligations.SynthesisersRelock : Prop :=
  (∀ (s : State) (via : Path) (p : Fin 16), s.deaf via = false → s.locked via (0x060 + p.val) = false → s.rd (Reg.OPT.STAT_SYN p.val) = 3 →
    ∃ t, exec (.synRecal via p) s = .next t ∧ t.rd (Reg.OPT.STAT_SYN p.val) = 1 ∧ t.synth p.val = ⟨0, s.now, false⟩ ∧
      t.rd (Reg.OPT.SYN_CNT_RELOCK p.val) = (s.bump (Reg.OPT.SYN_CNT_RELOCK p.val)).rd (Reg.OPT.SYN_CNT_RELOCK p.val) ∧
      t = { s with regs := t.regs, synths := t.synths }) ∧
  (∀ (s : State) (p : Fin 16), s.running = true → s.rd (Reg.OPT.STAT_SYN p.val) = 2 → (s.synth p.val).pending = false →
    s.linkUp (s.fibreOf p.val) = false → ∃ t, exec (.synTuningOutOfRange p) s = .next t ∧ t.rd (Reg.OPT.STAT_SYN p.val) = 1 ∧
      t.synth p.val = ⟨0, s.now, false⟩ ∧ sameFields [Reg.OPT.STAT_SYN p.val, Reg.OPT.SYN_CNT_RELOCK p.val] s t ∧
      t = { s with regs := t.regs, synths := t.synths }) ∧
  (∀ (s : State) (p : Fin 16), s.running = true → s.rd (Reg.OPT.STAT_SYN p.val) = 1 → s.linkState (s.fibreOf p.val) ≠ 4 →
    bitAt (s.rd (Reg.LNK.STAT_PAUSE (s.fibreOf p.val))) 0 = false → s.fibreOf p.val < 16 → ∃ t, exec (.synLock p) s = .next t ∧
      t.rd (Reg.OPT.STAT_SYN p.val) = 2 ∧ sameFields [Reg.OPT.STAT_SYN p.val] s t ∧ t = { s with regs := t.regs }) ∧
  (∀ (s : State) (p : Fin 16), s.running = true → s.rd (Reg.OPT.STAT_SYN p.val) = 1 → (s.synth p.val).attempt = 0 →
    (s.synth p.val).began + 16 ≤ s.now → ∃ t, exec (.synRelockTimeout p) s = .next t ∧ t.rd (Reg.OPT.STAT_SYN p.val) = 1 ∧
      t.synth p.val = ⟨1, s.now, false⟩ ∧ t.shows (Err.OPT.SYN_RETRY p.val) = true) ∧
  (∀ (s : State) (p : Fin 16), s.running = true → s.rd (Reg.OPT.STAT_SYN p.val) = 1 → (s.synth p.val).attempt ≠ 0 →
    (s.synth p.val).began + 16 ≤ s.now → s.linkState (s.fibreOf p.val) = 0 → s.fibreOf p.val < 16 →
    ∃ t, exec (.synRelockTimeout p) s = .next t ∧ t.rd (Reg.OPT.STAT_SYN p.val) = 3 ∧ t.shows (Err.OPT.SYN_FAIL p.val) = true ∧
      t.links = s.links) ∧
  (∀ (s : State) (p : Fin 16), s.now < (s.synth p.val).began + 16 → exec (.synRelockTimeout p) s = .next s)

/-- R162 to R168, R261: a sample. A port's isolated channel comes out as 0, one at full scale as over-ranging and not clean, another with its code, and not clean
in a bank whose reference fails; runs are counted. A sample of the Flume's monitors leaves the ports' as they are, and in a bundle-adjustment window it is
collected. -/
def Obligations.MonitorsSample : Prop :=
  (∀ (s : State) (p : Fin 16) (codes bad : List Nat) (dim : BitVec 18), s.running = true →
    ∃ t, exec (.monitorSample (.port p) codes bad dim) s = .next t ∧ t.clk.cycle = 159 ∧ t.seats = s.seats ∧
      (∀ ch < 40, s.chanIsolated p.val ch = true → t.chan (chanKey p.val ch) = ⟨0, false, false, 0, 0⟩) ∧
      (∀ ch < 40, s.chanIsolated p.val ch = false → (t.chan (chanKey p.val ch)).refRun =
        if bad.contains (ch / 8) then (s.chan (chanKey p.val ch)).refRun + 1 else 0) ∧
      (∀ ch < 40, s.chanIsolated p.val ch = false → 0xFFF ≤ codes.getD ch 0 →
        (t.chan (chanKey p.val ch)).ovr = true ∧ (t.chan (chanKey p.val ch)).clean = false ∧
        (t.chan (chanKey p.val ch)).code = 0xFFF ∧ (t.chan (chanKey p.val ch)).run = (s.chan (chanKey p.val ch)).run + 1) ∧
      (∀ ch < 40, s.chanIsolated p.val ch = false → codes.getD ch 0 < 0xFFF → (t.chan (chanKey p.val ch)).ovr = false ∧
        (t.chan (chanKey p.val ch)).code = codes.getD ch 0 ∧ (t.chan (chanKey p.val ch)).run = 0 ∧
        (bad.contains (ch / 8) = true → (t.chan (chanKey p.val ch)).clean = false)) ∧
      (∀ b < 5, t.refRun (p.val * 5 + b) = if bad.contains b then s.refRun (p.val * 5 + b) + 1 else 0) ∧
      (∀ k, k < chanKey p.val 0 ∨ chanKey p.val 40 ≤ k → t.chan k = s.chan k)) ∧
  (∀ (s : State) (codes bad : List Nat) (dim : BitVec 18), s.running = true → ∃ t, exec (.monitorSample .flume codes bad dim) s = .next t ∧
      t.clk.cycle = 159 ∧ (∀ k, k < 1024 → t.chan k = s.chan k) ∧ t.seats = s.seats) ∧
  (∀ (s : State) (r : BaRun) (codes bad : List Nat) (dim : BitVec 18), s.running = true → s.flm.ba = some r → s.rd Reg.LVL.STAT_BA_STATE = 1 →
    s.now < r.windowEnd → ∃ t, exec (.monitorSample .flume codes bad dim) s = .next t ∧
      t.flm.ba = some { r with samples := r.samples.filter (fun x => x.1 != s.now) ++ [(s.now, t.meshRow)] })

/-! ## Seats -/

/-- R179, R181 to R183: one stroke of a seat's loop. In LOCKED with a clean pair of samples the target moves by the error scaled by the gain and the run toward
loss of lock is counted; without a clean sample the seat coasts. -/
def Obligations.RowlockLoop : Prop :=
  (∀ (s : State) (u : SeatId) (c : Nat), s.running = true → (s.seat (idKey u)).state = .locked → s.mustCoast (idKey u) = false →
    (s.chan (seatChanKey (idKey u))).clean = true → (s.seat (idKey u)).sweeping = false → s.quenchedSeat (idKey u) = false →
    recentSample s.now (if s.clk.stroke.toNat % 2 = 0 then (s.seat (idKey u)).minus else (s.seat (idKey u)).plus) = some c →
    let e := errorSample s.freeCount (ditherSign s.clk.stroke.toNat) (s.chan (seatChanKey (idKey u))).code c (s.outEntry (idKey u)).lockpt
    ∃ t, exec (.rowlockDemod u) s = .next t ∧ t.clk.cycle = 319 ∧ (t.seat (idKey u)).error = e ∧
      (t.seat (idKey u)).target = (s.seat (idKey u)).target + roundShift e (s.rd (Reg.RWL.LOOP_GAIN u.port.val)) ∧
      (t.seat (idKey u)).lolRun = (if s.rd (Reg.RWL.LOL_THRESH u.port.val) < e.natAbs then min ((s.seat (idKey u)).lolRun + 1) 4 else 0) ∧
      (t.seat (idKey u)).coast = false ∧ (t.seat (idKey u)).state = .locked ∧ (∀ k, k ≠ idKey u → t.seat k = s.seat k) ∧ t.regs = s.regs) ∧
  (∀ (s : State) (u : SeatId), s.running = true → (s.seat (idKey u)).state = .locked → s.mustCoast (idKey u) = true ∨
      (s.chan (seatChanKey (idKey u))).clean = false → ∃ t, exec (.rowlockDemod u) s = .next t ∧ (t.seat (idKey u)).coast = true ∧
      (t.seat (idKey u)).target = (s.seat (idKey u)).target ∧ (t.seat (idKey u)).lolRun = (s.seat (idKey u)).lolRun ∧ t.regs = s.regs) ∧
  (∀ (s : State) (u : SeatId), (s.seat (idKey u)).state = .idle ∨ (s.seat (idKey u)).state = .failed ∨
      (s.seat (idKey u)).state = .outOfService → exec (.rowlockDemod u) s = .next s) ∧
  (∀ (s : State) (u : SeatId) (lane : Nat), s.running = true → (s.seat (idKey u)).state = .search → (s.seat (idKey u)).next = .none →
    4 ≤ (s.seat (idKey u)).lockRun → s.laneOfSeat (idKey u) = some lane → ∃ t, exec (.seatLock u) s = .next t ∧
      (t.seat (idKey u)).next = some .locked ∧ (t.seat (idKey u)).state = .search ∧
      (t.seat (idKey u)).driverDue = ((s.seat (idKey u)).driverDue || (u.side == .tx && !(s.seat (idKey u)).driver)) ∧
      (∀ k, k ≠ idKey u → t.seat k = s.seat k) ∧ t.regs = s.regs) ∧
  (∀ (s : State) (u : SeatId), s.running = true → (s.seat (idKey u)).state = .search → (s.seat (idKey u)).next = .none →
    4 ≤ (s.seat (idKey u)).lockRun → s.laneOfSeat (idKey u) = .none → ∃ t, exec (.seatLock u) s = .next t ∧
      (t.seat (idKey u)).next = some .hotSpare ∧ t.regs = s.regs)

/-- R183, R196, R197: loss of lock. A spare is lost with SPARE_LOST; a transmit seat's lane is to be dropped at the Finish, and the class waits for the outcome.

R190 to R192: SEARCH on the members of a ring. When its time on a member is up, the member is marked unusable; the next one in the order starts with its
delta list on the way to the Leveller, or waiting behind eight others (R258), and goes live at cycle 960 (R33); after the third the seat fails. -/
def Obligations.LockIsLostAndSought : Prop :=
  (∀ (s : State) (u : SeatId), s.running = true → (s.seat (idKey u)).state = .hotSpare → (s.seat (idKey u)).next = .none →
    4 ≤ (s.seat (idKey u)).lolRun → s.laneOfSeat (idKey u) = .none → ∃ t, exec (.lossOfLock u) s = .next t ∧
      (t.seat (idKey u)).next = some .lost ∧ t.shows (Err.RWL.SPARE_LOST u.port.val) = true ∧ t.lanes = s.lanes ∧
      t.rd (Reg.RWL.LOL_CNT u.port.val) = (s.bump (Reg.RWL.LOL_CNT u.port.val)).rd (Reg.RWL.LOL_CNT u.port.val) ∧ t.clk.cycle = 319) ∧
  (∀ (s : State) (u : SeatId) (lane : Nat), s.running = true → (s.seat (idKey u)).state = .locked → (s.seat (idKey u)).next = .none →
    4 ≤ (s.seat (idKey u)).lolRun → u.side = .tx → s.laneOfSeat (idKey u) = some lane → ∃ t, exec (.lossOfLock u) s = .next t ∧
      (t.seat (idKey u)).next = some .lost ∧ t.recs = s.recs ∧
      (∃ c, (t.laneSt (s.linkOfSeat (idKey u))).due = (s.laneSt (s.linkOfSeat (idKey u))).due ++ [⟨lane, .drop, c⟩] ∧ c.why = .lossOfLock) ∧
      sameFields [Reg.RWL.LOL_CNT u.port.val] s t) ∧
  (∀ (s : State) (u : SeatId), (s.seat (idKey u)).lolRun < 4 → exec (.lossOfLock u) s = .next s) ∧
  (∀ (s : State) (u : SeatId) (d : List DeltaEntry), s.running = true → (s.seat (idKey u)).state = .search → (s.seat (idKey u)).next = .none →
    s.rd (Reg.RWL.SEARCH u.port.val) ≤ (s.seat (idKey u)).count → 2 ≤ (s.seat (idKey u)).tried →
    s.laneOfSeat (idKey u) = .none → ∃ t, exec (.searchMemberTimeout u d) s = .next t ∧ (t.seat (idKey u)).next = some .failed ∧
      t.shows (Err.RWL.FAIL_SPARED u.port.val) = true ∧ (t.liveCal (idKey u)).timedOut =
        setBit (s.liveCal (idKey u)).timedOut (s.seat (idKey u)).member ∧ t.lvl = s.lvl) ∧
  (∀ (s : State) (u : SeatId) (m : Nat) (d : List DeltaEntry), s.running = true → (s.seat (idKey u)).state = .search →
    (s.seat (idKey u)).next = .none → s.rd (Reg.RWL.SEARCH u.port.val) ≤ (s.seat (idKey u)).count → isDelta d = true →
    (s.seat (idKey u)).tried < 2 →
    (searchOrder (s.seat (idKey u)).firstMember (s.interpEntry (idKey u)))[(s.seat (idKey u)).tried + 1]? = some m →
    ∃ t, exec (.searchMemberTimeout u d) s = .next t ∧ (t.seat (idKey u)).nextMember = some m ∧
      (t.seat (idKey u)).member = (s.seat (idKey u)).member ∧ (t.seat (idKey u)).tried = (s.seat (idKey u)).tried + 1 ∧
      (t.seat (idKey u)).state = .search ∧ t.shows (Err.RWL.MEMBER_CHANGE u.port.val) = true ∧ idKey u ∈ t.lvl.memberChanged ∧
      (s.lvl.queue.length < 8 → s.lvl.senders = [] → t.lvl.queue = s.lvl.queue ++ [⟨d, [], false⟩] ∧ t.lvl.senders = []) ∧
      (8 ≤ s.lvl.queue.length → t.lvl.queue = s.lvl.queue ∧ t.lvl.senders = s.lvl.senders ++ [⟨d, [], false⟩])) ∧
  (∀ (s : State) (u : SeatId) (d : List DeltaEntry), (s.seat (idKey u)).count < s.rd (Reg.RWL.SEARCH u.port.val) →
    exec (.searchMemberTimeout u d) s = .next s) ∧
  (∀ (s : State) (via : Path) (p : Fin 16) (m : BitVec 18), s.deaf via = false → s.locked via (0x080 + p.val) = false →
    ∃ t, exec (.seatRetry via p .tx m) s = .next t ∧
      (∀ j < 18, (t.seat (seatKey p.val .tx j)).next =
        if m.getLsbD j && (s.seat (seatKey p.val .tx j)).state == .failed then some .search else (s.seat (seatKey p.val .tx j)).next) ∧
      t = { s with seats := t.seats }) ∧
  (∀ (s : State) (via : Path) (p : Fin 16) (m : BitVec 18), s.deaf via = false → s.locked via (0x080 + p.val) = false →
    ∃ t, exec (.seatRetry via p .rx m) s = .next t ∧
      (∀ j < 18, (t.seat (seatKey p.val .rx j)).next =
        if m.getLsbD j && (s.seat (seatKey p.val .rx j)).state == .failed then some .search else (s.seat (seatKey p.val .rx j)).next) ∧
      t = { s with seats := t.seats })

/-- R163, R167, R189: withdrawal after 64 strokes of over-range, or of a bad bank reference, and the seat's return to SEARCH after RETRY_WD strokes.
A withdrawal of a seat whose visit has not begun ends that visit, and the lane's move decides the class (R167). -/
def Obligations.SeatsAreWithdrawn : Prop :=
  (∀ (s : State) (u : SeatId), s.running = true → s.mayWithdraw (idKey u) = true → 64 ≤ (s.chan (seatChanKey (idKey u))).run →
    s.visitOf (idKey u) = .none → s.laneOfSeat (idKey u) = .none → ∃ t, exec (.seatWithdraw u) s = .next t ∧
      (t.seat (idKey u)).next = some .outOfService ∧ (t.seat (idKey u)).withdrawn = true ∧
      (t.chan (seatChanKey (idKey u))).run = 0 ∧ (t.chan (seatChanKey (idKey u))).refRun = 0 ∧
      t.shows (Err.OPT.WITHDRAW_SPARED u.port.val) = true ∧ t.lanes = s.lanes ∧
      sameFields (eventFields (Err.OPT.WITHDRAW_SPARED u.port.val)) s t) ∧
  (∀ (s : State) (u : SeatId) (v : Visit) (lane : Nat), s.running = true → s.mayWithdraw (idKey u) = true →
    64 ≤ (s.chan (seatChanKey (idKey u))).run → s.visitOf (idKey u) = some v → (s.seat (idKey u)).state ≠ .outOfService →
    s.laneOfSeat (idKey u) = some lane → ∃ t, exec (.seatWithdraw u) s = .next t ∧ t.visitOf (idKey u) = .none ∧
      (t.seat (idKey u)).next = some .outOfService ∧ (t.seat (idKey u)).withdrawn = true ∧ t.regs = s.regs ∧ t.recs = s.recs) ∧
  (∀ (s : State) (u : SeatId), (s.chan (seatChanKey (idKey u))).run < 64 → exec (.seatWithdraw u) s = .next s) ∧
  (∀ (s : State) (p : Fin 16) (b : Nat), s.running = true → b < 5 → 64 ≤ s.refRun (p.val * 5 + b) →
    ∃ t, exec (.bankRefWithdraw p b) s = .next t ∧ t.clk.cycle = 159 ∧
      (∀ k ∈ bankSeats p.val b, s.mayWithdraw k = true → 64 ≤ (s.chan (seatChanKey k)).refRun →
        (t.seat k).withdrawn = true ∧ (t.seat k).next = some .outOfService) ∧
      (∀ k ∈ bankSeats p.val b, (s.chan (seatChanKey k)).refRun < 64 → t.seat k = s.seat k) ∧
      (∀ k, k ∉ bankSeats p.val b → t.seat k = s.seat k)) ∧
  (∀ (s : State) (u : SeatId), s.running = true → s.seatIsolated (idKey u) = true → (s.seat (idKey u)).state = .outOfService →
    (s.seat (idKey u)).next = .none → s.rd (Reg.RWL.RETRY_WD u.port.val) ≠ 0 →
    (s.seat (idKey u)).since + s.rd (Reg.RWL.RETRY_WD u.port.val) ≤ s.now + 1 → ∃ t, exec (.withdrawnSeatRetry u) s = .next t ∧
      (t.seat (idKey u)).next = some .search ∧ (∀ k, k ≠ idKey u → t.seat k = s.seat k) ∧ t = { s with seats := t.seats }) ∧
  (∀ (s : State) (u : SeatId), s.rd (Reg.RWL.RETRY_WD u.port.val) = 0 → exec (.withdrawnSeatRetry u) s = .next s)

/-- R186, R187: drivers start one by one, PWRUP_GAP strokes apart, the lowest waiting seat first (DESIGN CHOICE); the dark level of a port in dark idle rises by a
sixteenth, to 16, at every fourth cycle 960.

R36, R187, R199, R296, R495: at the Finish the codes committed go live and the dark levels of ports out of dark idle fall to 0; lane operations leave their list; a
RESTORE write lists the lanes whose home seats are free; a lane not added within 8 strokes leaves the port narrower. -/
def Obligations.LanesAreServed : Prop :=
  (∀ (s : State) (p : Fin 16) (k : Nat) (rest : List Nat), s.running = true → s.safe = false → s.driversDue p.val = k :: rest →
    (∀ n, (s.laneSt p.val).driverAt = some n → n + s.rd Reg.WEI.PWRUP_GAP ≤ s.now) → ∃ t, exec (.driverStart p) s = .next t ∧
      (t.seat (seatKey p.val .tx k)).driver = true ∧ (t.seat (seatKey p.val .tx k)).driverDue = false ∧
      (t.laneSt p.val).driverAt = some s.now ∧ (∀ j, j ≠ seatKey p.val .tx k → t.seat j = s.seat j) ∧ t.clk.cycle = 960 ∧
      t.regs = s.regs) ∧
  (∀ (s : State) (p : Fin 16) (n : Nat), (s.laneSt p.val).driverAt = some n → s.now < n + s.rd Reg.WEI.PWRUP_GAP →
    exec (.driverStart p) s = .next s) ∧
  (∀ s : State, s.running = true → ∃ t, exec .darkIdleStep s = .next t ∧ t.clk.cycle = 960 ∧ t.regs = s.regs ∧
    (∀ p < 16, bitAt (s.rd Reg.WEI.IDLE_DARK) p = true → (s.laneSt p).darkNext ≤ s.now →
      (t.laneSt p).dark = min ((s.laneSt p).dark + s.rd Reg.WEI.DARK_RAMP_SIXTEENTHS) 16 ∧
      (t.laneSt p).darkNext = s.now + s.rd Reg.WEI.DARK_RAMP_STROKES) ∧
    (∀ p < 16, s.now < (s.laneSt p).darkNext → t.laneSt p = s.laneSt p) ∧
    (∀ p, p < 16 → bitAt (s.rd Reg.WEI.IDLE_DARK) p = false → t.laneSt p = s.laneSt p)) ∧
  (∀ (s : State) (via : Path) (d : Word), s.deaf via = false → s.locked via 0x013 = false → ∃ t, exec (.idleDarkWrite via d) s = .next t ∧
    t.rd Reg.WEI.IDLE_DARK = d.toNat % 2 ^ 16 ∧ sameFields [Reg.WEI.IDLE_DARK] s t ∧
    (∀ p < 16, bitAt (s.rd Reg.WEI.IDLE_DARK) p = false → d.getLsbD p = true → (t.laneSt p).darkNext =
      (if s.clk.cycle < 960 then s.now else s.now + 1) + s.rd Reg.WEI.DARK_RAMP_STROKES - 1) ∧
    (∀ p < 16, bitAt (s.rd Reg.WEI.IDLE_DARK) p = true ∨ d.getLsbD p = false → t.laneSt p = s.laneSt p) ∧
    (∀ p < 16, (t.laneSt p).dark = (s.laneSt p).dark) ∧ t = { s with regs := t.regs, lanes := t.lanes }) ∧
  (∀ s : State, s.running = true → ∃ t, exec .actuatorSetLive s = .next t ∧ t.clk.cycle = 960 ∧
    (∀ k c, (s.seat k).shadow = some c → (t.seat k).code = c ∧ (t.seat k).shadow = .none) ∧
    (∀ k, (s.seat k).shadow = .none → (t.seat k).code = (s.seat k).code) ∧
    (∀ k m, (s.seat k).nextMember = some m → (t.seat k).member = m ∧ (t.seat k).nextMember = .none) ∧
    (∀ p < 16, bitAt (s.rd Reg.WEI.IDLE_DARK) p = false → (t.laneSt p).dark = 0)) ∧
  (∀ (s : State) (p : Fin 16), s.running = true → s.safe = false → s.linkUp p.val = false → ∃ t, exec (.laneOperationsIssue p) s = .next t ∧
    (t.laneSt p.val).due = [] ∧ t.clk.cycle = max 960 s.clk.cycle) ∧
  (∀ (s : State) (p : Fin 16), s.safe = true → exec (.laneOperationsIssue p) s = .next s) ∧
  (∀ (s : State) (via : Path) (p : Fin 16), s.deaf via = false → s.locked via (0x080 + p.val) = false → ∃ t, exec (.restore via p) s = .next t ∧
    (∀ k < 16, k ∈ (t.laneSt p.val).restore ↔
      (s.laneSt p.val).txMap.getD k noSeat ≠ k ∧ (s.seat (s.txSeat p.val k)).state = .hotSpare) ∧
    (t.laneSt p.val).txMap = (s.laneSt p.val).txMap ∧ t = { s with regs := t.regs, lanes := t.lanes }) ∧
  (∀ (s : State) (p : Fin 16) (m : Missing), s.bankOf p.val = p.val → (s.laneSt p.val).missing = [m] → m.judged = false → m.adding = false →
    m.droppedAt + 8 < s.now → m.cause.why = .lossOfLock → m.cause.withdraw = false → bitAt m.cause.info0 5 = false →
    ∃ t, exec (.laneAddDeadline p m.lane) s = .next t ∧ t.shows (Err.RWL.LOL_NARROW p.val) = true ∧
      (t.laneSt p.val).missing = [{ m with judged := true }] ∧ sameFields (eventFields (Err.RWL.LOL_NARROW p.val)) s t) ∧
  (∀ (s : State) (p : Fin 16) (m : Missing), (s.laneSt p.val).missing = [m] → (s.laneSt p.val).rxWait = [] → s.now ≤ m.droppedAt + 8 →
    exec (.laneAddDeadline p m.lane) s = .next s)

/-! ## The Leveller and calibration -/

/-- R251 to R256, R260: a thermal solve that ends in time commits a code for every actuator that is not held, within the Weir's limit; one miss, and a second,
apply the extrapolated vector, a third holds every actuator; a fault in a factor is a miss, one in the matrix begins a rebuild from the base matrix, whose
actuators' lists are to be sent again (log entry 186). No solve ends before cycle 320 (R32). -/
def Obligations.ThermalSolves : Prop :=
  (∀ (s : State) (n : Nat), s.solveDue = true → 320 ≤ n → n ≤ 959 → ∃ t, exec (.thermalSolve n .none) s = .next t ∧
    t.rd Reg.LVL.STAT_THERMAL = 1 ∧ t.rd Reg.LVL.STAT_MISS_RUN = 0 ∧ t.rd Reg.LVL.SOLVE_TIME_LAST = n ∧ t.clk.cycle = n ∧ t.lvl.solved = true ∧
    (∀ k < 576, s.staysPut k = true → (t.seat k).shadow = (s.seat k).shadow) ∧
    (∀ k < 576, s.staysPut k = false → ∃ c, (t.seat k).shadow = some c ∧
      c ≤ (s.seat k).code + s.rd (if (s.seat k).state = .outOfService then Reg.WEI.HTR_STEP_OOS else Reg.WEI.HTR_STEP_STEP) ∧
      (s.seat k).code ≤ c + s.rd (if (s.seat k).state = .outOfService then Reg.WEI.HTR_STEP_OOS else Reg.WEI.HTR_STEP_STEP)) ∧
    (∀ k, (t.seat k).code = (s.seat k).code)) ∧
  (∀ s : State, s.solveDue = true → s.rd Reg.LVL.STAT_THERMAL = 1 → s.rd Reg.LVL.STAT_MISS_RUN = 0 → ∃ t, exec .solveMiss s = .next t ∧
    t.rd Reg.LVL.STAT_THERMAL = 2 ∧ t.rd Reg.LVL.STAT_MISS_RUN = 1 ∧ t.rd Reg.LVL.SOLVE_TIME_LAST = 0 ∧ t.clk.cycle = 960 ∧
    t.rd Reg.LVL.MISS_CNT_MISSES = (s.bump Reg.LVL.MISS_CNT_MISSES).rd Reg.LVL.MISS_CNT_MISSES ∧ t.lvl.solved = true ∧
    t.shows Err.LVL.SOLVE_MISS = true ∧ (∀ k < 576, s.staysPut k = true → (t.seat k).shadow = (s.seat k).shadow) ∧
    (∀ k < 576, s.changesNow k = true → (t.seat k).shadow = some (weir
      (s.rd (if (s.seat k).state = .outOfService then Reg.WEI.HTR_STEP_OOS else Reg.WEI.HTR_STEP_STEP)) (s.seat k).code
      (codeOf (s.changedCode k * 256)))) ∧
    (∀ k < 576, s.actHeld k = false → s.fixedCode k = .none → s.changesNow k = false → 2 ≤ s.lvl.depth → (t.seat k).shadow = some (weir
      (s.rd (if (s.seat k).state = .outOfService then Reg.WEI.HTR_STEP_OOS else Reg.WEI.HTR_STEP_STEP)) (s.seat k).code
      (codeOf (2 * Tab.read 0 s.lvl.hist1 k - Tab.read 0 s.lvl.hist2 k))))) ∧
  (∀ s : State, s.solveDue = true → s.rd Reg.LVL.STAT_THERMAL = 2 → 2 ≤ s.rd Reg.LVL.STAT_MISS_RUN → ∃ t, exec .solveMiss s = .next t ∧
    t.rd Reg.LVL.STAT_THERMAL = 3 ∧ t.rd Reg.LVL.STAT_MISS_RUN = 3 ∧ t.shows Err.LVL.THERMAL_HOLD = true ∧
    (∀ k, (t.seat k).code = (s.seat k).code ∧ (t.seat k).shadow = (s.seat k).shadow) ∧
    t.rd Reg.LVL.MISS_CNT_HOLDS = (s.bump Reg.LVL.MISS_CNT_HOLDS).rd Reg.LVL.MISS_CNT_HOLDS ∧
    (s.flm.ba.isSome = true → t.rd Reg.LVL.STAT_BA_STATE = 0)) ∧
  (∀ s : State, s.solveDue = true → s.rd Reg.LVL.STAT_THERMAL = 3 → ∃ t, exec .solveMiss s = .next t ∧
    (∀ k, (t.seat k).code = (s.seat k).code ∧ (t.seat k).shadow = (s.seat k).shadow) ∧ t.lvl.vec = s.lvl.vec ∧
    sameFields ([Reg.STK.OVR0_SOLVE, Reg.LVL.MISS_CNT_MISSES, Reg.LVL.SOLVE_TIME_LAST, Reg.LVL.TGT_CLAMP_CNT] ++
      eventFields Err.LVL.TGT_CLAMP) s t) ∧
  (∀ (s : State) (n : Nat), s.clk.cycle < 959 → 959 < n → exec (.thermalSolve n .none) s = exec .solveMiss s) ∧
  (∀ (s : State) (n b : Nat), s.solveDue = true → 320 ≤ n → b < 24 → ∃ t, exec (.thermalSolve n (.factorUe b)) s = .next t ∧
    bitAt (t.rd Reg.LVL.REFACTOR) b = true ∧ t.shows Err.LVL.FACTOR_UE = true ∧ t.lvl.solved = true ∧
    t.rd Reg.LVL.MISS_CNT_MISSES = (s.bump Reg.LVL.MISS_CNT_MISSES).rd Reg.LVL.MISS_CNT_MISSES) ∧
  (∀ (s : State) (n : Nat), s.solveDue = true → 320 ≤ n → ∃ t, exec (.thermalSolve n .matrixUe) s = .next t ∧
    t.rd Reg.LVL.STAT_THERMAL = 4 ∧ t.rd Reg.LVL.REFACTOR = 2 ^ 24 - 1 ∧ t.shows Err.LVL.MATRIX_UE = true ∧ t.seats = s.seats ∧
    t.lvl.shadow = [] ∧ t.lvl.live = [] ∧ t.lvl.resend = List.range 576) ∧
  (∀ (s : State) (n : Nat) (f : SolveFault), s.solveDue = false → exec (.thermalSolve n f) s = .next s ∧ exec .solveMiss s = .next s) ∧
  (∀ (s : State) (n : Nat) (f : SolveFault), n < 320 → exec (.thermalSolve n f) s = .next s)

/-- R250, R258, R259: a queued delta list is applied to the shadow matrix at cycle 1,040, or rejected whole, with DELTA_REJECT, where a row fails its check; the
live matrix does not change. Refactoring goes on with a block carried over or takes the lowest dirty one, and lists wait for it no longer. Senders that waited
fill the queue. -/
def Obligations.DeltaListsAndRefactoring : Prop :=
  (∀ (s : State) (l : DeltaList) (row : Nat), s.running = true → s.lvl.loaded = true → s.lvl.resend = [] →
    s.lvl.senders = [] → s.lvl.queue = [l] →
    failingRow (applyDelta s.lvl.shadow l.entries) l.entries = some row → ∃ t, exec .deltaListApply s = .next t ∧ t.lvl.queue = [] ∧
      t.lvl.shadow = s.lvl.shadow ∧ t.lvl.live = s.lvl.live ∧ t.lvl.applied = s.lvl.applied ∧ t.shows Err.LVL.DELTA_REJECT = true ∧
      t.rd Reg.LVL.DELTA_CNT_REJECTED = (s.bump Reg.LVL.DELTA_CNT_REJECTED).rd Reg.LVL.DELTA_CNT_REJECTED ∧
      t.rd Reg.LVL.REFACTOR = s.rd Reg.LVL.REFACTOR ∧ t.clk.cycle = 1040) ∧
  (∀ (s : State) (l : DeltaList) (i j : Nat) (v : Int), s.running = true → s.lvl.loaded = true → s.lvl.resend = [] →
    s.lvl.senders = [] → s.lvl.queue = [l] → l.entries = [⟨i, j, v⟩] → i ≠ j →
    0x1000 < v.natAbs → ∃ t, exec .deltaListApply s = .next t ∧ t.lvl.shadow = s.lvl.shadow ∧ t.shows Err.LVL.DELTA_REJECT = true) ∧
  (∀ (s : State) (l : DeltaList), s.running = true → s.lvl.loaded = true → s.lvl.resend = [] →
    s.lvl.senders = [] → s.lvl.queue = [l] →
    failingRow (applyDelta s.lvl.shadow l.entries) l.entries = .none → ∃ t, exec .deltaListApply s = .next t ∧ t.lvl.queue = [] ∧
      t.lvl.shadow = applyDelta s.lvl.shadow l.entries ∧ t.lvl.live = s.lvl.live ∧ t.recs = s.recs ∧
      t.rd Reg.LVL.DELTA_CNT_ACCEPTED = (s.bump Reg.LVL.DELTA_CNT_ACCEPTED).rd Reg.LVL.DELTA_CNT_ACCEPTED ∧
      (∀ b < 24, bitAt (t.rd Reg.LVL.REFACTOR) b = (bitAt (s.rd Reg.LVL.REFACTOR) b || (touchedBlocks l.entries).contains b)) ∧
      sameFields [Reg.LVL.DELTA_CNT_ACCEPTED, Reg.LVL.REFACTOR] s t) ∧
  (∀ (s : State) (b : Nat), s.running = true → s.lvl.loaded = true → s.nextBlock = some b → ∃ t, exec (.blockRefactor .none) s = .next t ∧
      (∀ c < 24, bitAt (t.rd Reg.LVL.REFACTOR) c = (bitAt (s.rd Reg.LVL.REFACTOR) c && c != b)) ∧
      t.rd Reg.LVL.REFACTOR_CNT = (s.bump Reg.LVL.REFACTOR_CNT).rd Reg.LVL.REFACTOR_CNT ∧ t.clk.cycle = max 1040 s.clk.cycle ∧
      (∀ l ∈ t.lvl.applied, b ∉ l.waiting) ∧ t.lvl.live = s.lvl.live ∧ t.lvl.shadow = s.lvl.shadow ∧
      sameFields [Reg.LVL.REFACTOR, Reg.LVL.REFACTOR_CNT] s t) ∧
  (∀ (s : State) (b c : Nat), s.running = true → s.lvl.loaded = true → s.nextBlock = some b → c < 24 →
    ∃ t, exec (.blockRefactor (.factorUe c)) s = .next t ∧ bitAt (t.rd Reg.LVL.REFACTOR) c = true ∧ t.shows Err.LVL.FACTOR_UE = true ∧
      t.lvl = s.lvl) ∧
  (∀ (s : State) (f : SolveFault), s.running = false ∨ s.lvl.loaded = false ∨ s.nextBlock = .none → exec (.blockRefactor f) s = .next s) ∧
  (∀ s : State, s.running = true → s.lvl.loaded = true → s.lvl.resend = [] → s.lvl.queue = [] → ∃ t, exec .deltaListApply s = .next t ∧
      t.lvl = { s.lvl with queue := s.lvl.senders.take 8, senders := s.lvl.senders.drop 8 } ∧ t.regs = s.regs ∧ t.clk.cycle = 1040) ∧
  (∀ s : State, s.lvl.loaded = false → s.running = true → ∃ t, exec .deltaListApply s = .next t ∧ t.lvl = s.lvl ∧ t.regs = s.regs)

/-- R261 to R263, R391, R392: an in-service window opens and its run measures; its end begins the iterations or ends the run with SAMPLES; an iteration within
TOL with a plausible estimate accepts it; a bad pivot, a late iteration, or an implausible estimate ends the run without it. -/
def Obligations.BundleAdjustment : Prop :=
  (∀ s : State, s.mayOpenWindow = true → ∃ t, exec .reestWindowOpen s = .next t ∧
    t.flm.window = some (s.now + s.rd Reg.FLM.REEST_WINDOW) ∧ t.flm.lastWindow = s.now ∧ t.flm.runAsked = false ∧
    (∃ r, t.flm.ba = some r ∧ r.cold = false ∧ r.windowEnd = s.now + s.rd Reg.FLM.REEST_WINDOW ∧ r.maxIter = s.rd Reg.LVL.BA_CFG_ITER_MAX ∧
      r.deadline = s.rd Reg.LVL.BA_CFG_DEADLINE) ∧ t.rd Reg.LVL.STAT_BA_STATE = 1 ∧ t.rd Reg.LVL.STAT_BA_ITER = 0 ∧
    sameFields [Reg.LVL.STAT_BA_STATE, Reg.LVL.STAT_BA_COLD, Reg.LVL.STAT_BA_ITER] s t ∧ t = { s with regs := t.regs, flm := t.flm }) ∧
  (∀ s : State, s.mayOpenWindow = false → exec .reestWindowOpen s = .next s) ∧
  (∀ (s : State) (r : BaRun) (d n : Nat), s.flm.ba = some r → s.rd Reg.LVL.STAT_BA_STATE = 1 → r.windowEnd ≤ s.now →
    8 * (r.discarded + d) ≤ r.taken + n → ∃ t, exec (.baWindowEnd d n) s = .next t ∧ t.rd Reg.LVL.STAT_BA_STATE = 2 ∧ t.rd Reg.LVL.STAT_BA_ITER = 1 ∧ t.flm.window = .none ∧
      t.flm.ba = some { r with iter := 1, iterBegan := if r.cold then r.windowEnd else s.now } ∧ sameFields [Reg.LVL.STAT_BA_STATE, Reg.LVL.STAT_BA_ITER] s t) ∧
  (∀ (s : State) (r : BaRun) (d n : Nat), s.flm.ba = some r → s.rd Reg.LVL.STAT_BA_STATE = 1 → r.windowEnd ≤ s.now →
    r.taken + n < 8 * (r.discarded + d) → ∃ t, exec (.baWindowEnd d n) s = .next t ∧ t.rd Reg.LVL.STAT_BA_STATE = 0 ∧ t.rd Reg.LVL.BA_LAST_RESULT = 6 ∧ t.flm.window = .none ∧
      t.rd Reg.LVL.BA_RUN_ABANDONED = (s.bump Reg.LVL.BA_RUN_ABANDONED).rd Reg.LVL.BA_RUN_ABANDONED ∧ t.shows Err.LVL.BA_ABANDON = true) ∧
  (∀ (s : State) (r : BaRun) (u : List Int), s.flm.ba = some r → s.rd Reg.LVL.STAT_BA_STATE = 2 → s.rd Reg.LVL.STAT_THERMAL = 1 →
    s.lvl.solved = true → r.iterBegan ≤ s.now → s.now < r.iterBegan + r.deadline → ∃ t, exec (.baIteration false u) s = .next t ∧
      t.rd Reg.LVL.BA_LAST_RESULT = 3 ∧ t.rd Reg.LVL.STAT_BA_STATE = 0 ∧ t.shows Err.LVL.BA_ABANDON = true ∧
      t.flm.estimate = s.flm.estimate ∧ t.flm.nextEstimate = s.flm.nextEstimate) ∧
  (∀ (s : State) (r : BaRun) (u : List Int), s.flm.ba = some r → r.cold = false → s.rd Reg.LVL.STAT_BA_STATE = 2 →
    s.rd Reg.LVL.STAT_THERMAL = 1 → s.lvl.solved = true → r.iterBegan ≤ s.now → s.now < r.iterBegan + r.deadline →
    maxMagnitude u ≤ s.rd Reg.LVL.BA_CFG_TOL → plausible (addUpdate r.estimate u) s.estimateList (r.cold && !r.hasPrevious) = true →
    ∃ t, exec (.baIteration true u) s = .next t ∧ t.rd Reg.LVL.BA_LAST_RESULT = 1 ∧ t.rd Reg.LVL.STAT_BA_STATE = 0 ∧
      t.flm.nextEstimate = some (addUpdate r.estimate u) ∧ t.flm.estimate = s.flm.estimate ∧ t.flm.ba = .none ∧ t.clk.cycle = 959 ∧
      t.rd Reg.LVL.BA_RUN_ACCEPTED = (s.bump Reg.LVL.BA_RUN_ACCEPTED).rd Reg.LVL.BA_RUN_ACCEPTED ∧ t.recs = s.recs) ∧
  (∀ (s : State) (r : BaRun) (u : List Int), s.flm.ba = some r → s.rd Reg.LVL.STAT_BA_STATE = 2 → s.rd Reg.LVL.STAT_THERMAL = 1 →
    s.lvl.solved = true → r.iterBegan ≤ s.now → s.now < r.iterBegan + r.deadline → maxMagnitude u ≤ s.rd Reg.LVL.BA_CFG_TOL →
    plausible (addUpdate r.estimate u) s.estimateList (r.cold && !r.hasPrevious) = false → ∃ t, exec (.baIteration true u) s = .next t ∧
      t.rd Reg.LVL.BA_LAST_RESULT = 5 ∧ t.rd Reg.LVL.STAT_BA_STATE = 0 ∧ t.shows Err.LVL.BA_REJECT = true ∧
      t.flm.nextEstimate = s.flm.nextEstimate) ∧
  (∀ (s : State) (r : BaRun), s.flm.ba = some r → s.rd Reg.LVL.STAT_BA_STATE = 2 → r.iterBegan + r.deadline ≤ s.now →
    ∃ t, exec .baDeadline s = .next t ∧ t.rd Reg.LVL.BA_LAST_RESULT = 2 ∧ t.rd Reg.LVL.STAT_BA_STATE = 0 ∧
      t.rd Reg.STK.OVR1_MESH = (s.bump Reg.STK.OVR1_MESH).rd Reg.STK.OVR1_MESH ∧ t.shows Err.LVL.BA_ABANDON = true) ∧
  (∀ (s : State) (r : BaRun), s.flm.ba = some r → s.now < r.iterBegan + r.deadline → exec .baDeadline s = .next s)

/-- R207 to R210: the states of the datum. A datum found is searched for, traced when its power, its lock and the grid pass, rejected with a reason otherwise, and
lost, or absent, after sixteen low strokes; the last traced scale stays. A visit under way while the datum is not traced renews no set (R229). -/
def Obligations.DatumStates : Prop :=
  (∀ (s : State) (pwr : Int) (lk : Bool) (sc : BitVec 16), s.running = true → -32768 ≤ pwr → pwr < 32768 →
    ∃ t, exec (.datumMeasure pwr lk sc) s = .next t ∧ t.rdI Reg.DTM.PWR = pwr ∧ t.clk.cycle = 159 ∧
      t.datum.scale = (if s.rd Reg.DTM.STAT_STATE = 2 then sc else s.datum.scale) ∧
      (s.rd Reg.DTM.STAT_STATE = 0 → s.datum.presentRun < 16 → t.datum.presentRun = if -1300 ≤ pwr then s.datum.presentRun + 1 else 0) ∧
      (s.rd Reg.DTM.STAT_STATE = 2 → s.datum.lowRun < 16 → t.datum.lowRun = if pwr < -1300 then s.datum.lowRun + 1 else 0) ∧
      (s.rd Reg.DTM.STAT_STATE = 2 → s.datum.badRun < 16 →
        t.datum.badRun = if -1100 ≤ pwr ∧ pwr ≤ -900 ∧ lk = true then 0 else s.datum.badRun + 1) ∧ sameFields [Reg.DTM.PWR] s t) ∧
  (∀ s : State, s.rd Reg.DTM.STAT_STATE = 0 → 16 ≤ s.datum.presentRun → ∃ t, exec .datumDetected s = .next t ∧
    t.rd Reg.DTM.STAT_STATE = 1 ∧ t.rd Reg.GLB.STAT_UNTRACED = 1 ∧ t.datum.acquireAt = s.now ∧
    sameFields [Reg.DTM.STAT_STATE, Reg.GLB.STAT_UNTRACED] s t ∧ (∀ v ∈ t.cal.visits, v.traced = false) ∧
      t = { s with regs := t.regs, datum := t.datum, cal := { s.cal with visits := t.cal.visits } }) ∧
  (∀ (s : State) (pwr : Int) (sc rc : BitVec 16) (ofs : List (Option Int)), s.rd Reg.DTM.STAT_STATE = 1 → s.now ≤ s.datum.acquireAt + 64 →
    -1100 ≤ pwr → pwr ≤ -900 → s.gridOffsets ofs = [] → ∃ t, exec (.datumAcquireEnd pwr true sc rc ofs) s = .next t ∧
      t.rd Reg.DTM.STAT_STATE = 2 ∧ t.rd Reg.GLB.STAT_UNTRACED = 0 ∧ t.datum.scale = sc ∧ t.datum.ringCode = rc ∧ t.datum.due = true ∧
      sameFields [Reg.DTM.STAT_STATE, Reg.GLB.STAT_UNTRACED, Reg.DTM.TRACE_STAMP_LO, Reg.DTM.TRACE_STAMP_HI] s t) ∧
  (∀ (s : State) (pwr : Int) (sc rc : BitVec 16) (ofs : List (Option Int)), s.rd Reg.DTM.STAT_STATE = 1 →
    ∃ t, exec (.datumAcquireEnd pwr false sc rc ofs) s = .next t ∧ t.rd Reg.DTM.STAT_STATE = 3 ∧ t.rd Reg.DTM.STAT_REASON = 2 ∧
      t.rd Reg.GLB.STAT_UNTRACED = 1 ∧ t.datum.scale = s.datum.scale ∧ t.shows Err.DTM.DATUM_REJECTED = true) ∧
  (∀ (s : State) (pwr : Int) (sc rc : BitVec 16) (ofs : List (Option Int)), s.rd Reg.DTM.STAT_STATE = 1 → s.now ≤ s.datum.acquireAt + 64 →
    pwr < -1100 ∨ -900 < pwr → ∃ t, exec (.datumAcquireEnd pwr true sc rc ofs) s = .next t ∧ t.rd Reg.DTM.STAT_STATE = 3 ∧
      t.rd Reg.DTM.STAT_REASON = 1 ∧ t.datum.scale = s.datum.scale ∧ t.shows Err.DTM.DATUM_REJECTED = true) ∧
  (∀ (s : State) (pwr o : Int) (x : Nat) (sc rc : BitVec 16) (ofs : List (Option Int)), s.rd Reg.DTM.STAT_STATE = 1 →
    s.now ≤ s.datum.acquireAt + 64 → -1100 ≤ pwr → pwr ≤ -900 → s.gridOffsets ofs = [(x, o)] → 200 < o.natAbs →
    ∃ t, exec (.datumAcquireEnd pwr true sc rc ofs) s = .next t ∧ t.rd Reg.DTM.STAT_STATE = 3 ∧ t.rd Reg.DTM.STAT_REASON = 3 ∧
      t.shows Err.DTM.LINE_OFFSET = true ∧ t.shows Err.DTM.DATUM_REJECTED = true) ∧
  (∀ s : State, s.rd Reg.DTM.STAT_STATE = 2 → 16 ≤ s.datum.lowRun → ∃ t, exec .datumLost s = .next t ∧ t.rd Reg.DTM.STAT_STATE = 0 ∧
    t.rd Reg.GLB.STAT_UNTRACED = 1 ∧ t.datum.scale = s.datum.scale ∧ t.shows Err.DTM.DATUM_LOST = true ∧
    sameFields ([Reg.DTM.STAT_STATE, Reg.GLB.STAT_UNTRACED] ++ eventFields Err.DTM.DATUM_LOST) s t) ∧
  (∀ s : State, s.rd Reg.DTM.STAT_STATE = 2 → 16 ≤ s.datum.badRun → s.datum.badReason < 4 → ∃ t, exec .datumRejected s = .next t ∧
    t.rd Reg.DTM.STAT_STATE = 3 ∧ t.rd Reg.DTM.STAT_REASON = s.datum.badReason ∧ t.rd Reg.GLB.STAT_UNTRACED = 1 ∧
    t.datum.scale = s.datum.scale ∧ t.shows Err.DTM.DATUM_REJECTED = true) ∧
  (∀ s : State, s.rd Reg.DTM.STAT_STATE = 3 → 16 ≤ s.datum.lowRun → ∃ t, exec .datumAbsent s = .next t ∧ t.rd Reg.DTM.STAT_STATE = 0 ∧
    t.rd Reg.GLB.STAT_UNTRACED = 1 ∧ (∀ v ∈ t.cal.visits, v.traced = false) ∧
      t = { s with regs := t.regs, datum := t.datum, cal := { s.cal with visits := t.cal.visits } }) ∧
  (∀ (s : State) (via : Path), s.deaf via = false → s.locked via 0x014 = false → s.rd Reg.DTM.STAT_STATE ≠ 0 →
    ∃ t, exec (.reacquire via) s = .next t ∧ t.rd Reg.DTM.STAT_STATE = 1 ∧ t.rd Reg.GLB.STAT_UNTRACED = 1 ∧ t.datum.acquireAt = s.now ∧
      (∀ v ∈ t.cal.visits, v.traced = false) ∧
      t = { s with regs := t.regs, datum := t.datum, cal := { s.cal with visits := t.cal.visits } }) ∧
  (∀ (s : State) (via : Path), s.deaf via = false → s.locked via 0x014 = false → s.rd Reg.DTM.STAT_STATE = 0 →
    ∃ t, exec (.reacquire via) s = .next t ∧ t.rd Reg.DTM.STAT_STATE = 0 ∧ t.datum = s.datum)

/-- R211 to R213: the sensors' readings, and the events of a sensor that has been hot, cold or past its trip for its run of strokes, each detected once. -/
def Obligations.TemperatureIsWatched : Prop :=
  (∀ (s : State) (ts : List Int), s.running = true → ∃ t, exec (.thermalRead ts) s = .next t ∧ t.clk.cycle = 159 ∧ t.seats = s.seats ∧
    (∀ n < 20, -32768 ≤ ts.getD n 0 → ts.getD n 0 < 32768 → t.rdI (Reg.THM.SENS_TEMP n) = ts.getD n 0) ∧
    (∀ n < 20, t.flag (Reg.THM.SENS_FAULT n) = !(decide (-2560 ≤ ts.getD n 0) && decide (ts.getD n 0 ≤ 9600))) ∧
    (∀ n < 20, ts.getD n 0 < -2560 ∨ 9600 < ts.getD n 0 → t.shows Err.THM.SENSOR = true) ∧
    (∀ n < 20, (t.sensor n).hist = (ts.getD n 0 :: (s.sensor n).hist).take 16) ∧
    (∀ n < 20, (s.sensor n).trip < 4 → ts.getD n 0 ≤ 9600 → (t.sensor n).trip = if 7360 ≤ ts.getD n 0 then (s.sensor n).trip + 1 else 0) ∧
    (∀ p < 16, -2560 ≤ ts.getD p 0 → ts.getD p 0 ≤ 9600 →
      t.rd (Reg.THM.PORT_T p) = bitsOfInt 16 (meanOf ((ts.getD p 0 :: (s.sensor p).hist).take 16)))) ∧
  (∀ (s : State) (n : Nat), s.running = true → n < 20 → (s.sensor n).hot = 16 → ∃ t, exec (.thmHot n) s = .next t ∧
    t.shows Err.THM.HOT = true ∧ t.clk.cycle = 159 ∧ exec (.thmHot n) t = .next t ∧ (∀ m, m ≠ n → t.sensor m = s.sensor m) ∧
    sameFields (eventFields Err.THM.HOT) s t) ∧
  (∀ (s : State) (n : Nat), s.running = true → n < 20 → (s.sensor n).cold = 16 → ∃ t, exec (.thmCold n) s = .next t ∧
    t.shows Err.THM.COLD = true ∧ t.clk.cycle = 159 ∧ exec (.thmCold n) t = .next t ∧ (∀ m, m ≠ n → t.sensor m = s.sensor m) ∧
    sameFields (eventFields Err.THM.COLD) s t) ∧
  (∀ (s : State) (n : Nat), s.running = true → n < 20 → (s.sensor n).trip = 4 → s.rd Reg.UMP.STAT_STATE = 0 → s.ump.assertedAt = .none →
    ∃ t, exec (.thmTrip n) s = .next t ∧ t.shows Err.THM.TRIP = true ∧ t.ump.assertedAt.isSome = true ∧ exec (.thmTrip n) t = .next t ∧
      sameFields (eventFields Err.THM.TRIP) s t)

/-- R219 to R225, R228: visits start in the background or in a pass, take one step a stroke, each in its window of Table 7.2, repeat a step whose sample
was discarded in the next stroke (R166), and end at cycle 960 of their 47th stroke: with a plausible result live,
or with none and the seat back in SEARCH; a queued pass starts as PASS_MAX allows. -/
def Obligations.SeatsAreVisited : Prop :=
  (∀ (s : State) (u : SeatId) (i : Nat), s.running = true → s.safe = false → s.passTurn u.port.val u.side u.seat.val = false →
    s.nextCursor u.port.val = some i → cursorSeat u.port.val i = idKey u → s.flag Reg.CAL.CTRL = true → 7 ≤ s.stepNo →
    s.passing u.port.val = false → Tab.read 0 s.cal.nextVisit u.port.val ≤ s.now → s.laneOfSeat (idKey u) = .none →
    ∃ t, exec (.visitStart u) s = .next t ∧
      (∃ v, t.cal.visits = s.cal.visits ++ [v] ∧ v.seat = u ∧ v.start = some (s.now + 1) ∧ v.pass = false) ∧
      (t.seat (idKey u)).next = some .outOfService ∧ (∀ k, k ≠ idKey u → t.seat k = s.seat k) ∧
      Tab.read 0 t.cal.cursor u.port.val = (i + 1) % 36 ∧ Tab.read 0 t.cal.nextVisit u.port.val = s.now + s.rd Reg.CAL.BG_GAP ∧
      t = { s with seats := t.seats, cal := t.cal }) ∧
  (∀ (s : State) (u : SeatId), s.running = true → s.safe = false → s.passTurn u.port.val u.side u.seat.val = true →
    s.laneOfSeat (idKey u) = .none → ∃ t, exec (.visitStart u) s = .next t ∧
      (∃ v, t.cal.visits = s.cal.visits ++ [v] ∧ v.seat = u ∧ v.start = some (s.now + 1) ∧ v.pass = true) ∧
      (t.seat (idKey u)).next = some .outOfService ∧ t = { s with seats := t.seats, cal := t.cal }) ∧
  (∀ (s : State) (u : SeatId), s.safe = true → exec (.visitStart u) s = .next s) ∧
  (∀ (s : State) (u : SeatId) (v : Visit) (st : Nat) (b : Byte) (d : List DeltaEntry), s.running = true → s.safe = false →
    s.visitOf (idKey u) = some v → v.start = some st → st + 36 ≤ s.now → s.now ≤ st + 46 → v.seat.side = .tx → v.lockpt.isSome = true →
    v.checked = .none → v.skipAt ≠ some s.now → (s.chan (seatChanKey (idKey u))).clean = true →
    ∃ t, exec (.calibrationStep u (.modBias b) d) s = .next t ∧
      t.visitOf (idKey u) = some { v with mbias := some b.toNat, stepAt := some s.now } ∧ t.clk.cycle = 959 ∧ t.seats = s.seats ∧
      t.lvl = s.lvl ∧ t.regs = s.regs) ∧
  (∀ (s : State) (u : SeatId) (v : Visit) (st : Nat) (d : List DeltaEntry), s.running = true → s.safe = false →
    s.visitOf (idKey u) = some v → v.start = some st → s.now = st + 46 → stepsDone v = true → isDelta d = true → v.checked = .none →
    v.skipAt ≠ some s.now →
    firstFailing v (visitResult v (s.liveEntry (idKey u)) (s.interpEntry (idKey u))) (s.interpEntry (idKey u)) = 0 →
    s.lvl.queue.length < 8 → s.lvl.senders = [] →
    ∃ t, exec (.calibrationStep u .checks d) s = .next t ∧ t.visitOf (idKey u) = some { v with checked := some 0, stepAt := some s.now } ∧
      t.lvl.queue = s.lvl.queue ++ [⟨d, [], false⟩] ∧ t.regs = s.regs) ∧
  (∀ (s : State) (u : SeatId) (v : Visit) (st : Nat) (r : StepResult) (d : List DeltaEntry), s.running = true → s.safe = false →
    s.visitOf (idKey u) = some v → v.start = some st → st ≤ s.now → s.now ≤ st + 46 → v.skipAt ≠ some s.now →
    r = .discarded ∨ needsSample r = true ∧ (s.chan (seatChanKey (idKey u))).clean = false →
    ∃ t, exec (.calibrationStep u r d) s = .next t ∧ t.visitOf (idKey u) = some { v with skipAt := some s.now } ∧ t.lvl = s.lvl ∧
      t.seats = s.seats ∧ t.regs = s.regs) ∧
  (∀ (s : State) (u : SeatId) (v : Visit) (st : Nat), s.running = true → s.safe = false → s.rd Reg.DTM.STAT_STATE ≠ 2 →
    s.visitOf (idKey u) = some v → v.start = some st → s.now = st + 47 → v.checked = some 0 → v.pass = false →
    ∃ t, exec (.visitEnd u) s = .next t ∧ t.visitOf (idKey u) = .none ∧ (t.seat (idKey u)).next = some .hotSpare ∧ t.clk.cycle = 960 ∧
      (t.seat (idKey u)).target = (visitResult v (s.liveEntry (idKey u)) (s.interpEntry (idKey u))).hbias ∧
      (t.seat (idKey u)).member = (visitResult v (s.liveEntry (idKey u)) (s.interpEntry (idKey u))).member ∧
      (t.liveCal (idKey u)).dHbias = (visitResult v (s.liveEntry (idKey u)) (s.interpEntry (idKey u))).hbias - (s.interpEntry (idKey u)).hbias ∧
      t.rd Reg.CAL.VISIT_CNT = (s.bump Reg.CAL.VISIT_CNT).rd Reg.CAL.VISIT_CNT ∧ sameFields [Reg.CAL.VISIT_CNT] s t ∧
      (∀ k, k ≠ idKey u → t.seat k = s.seat k)) ∧
  (∀ (s : State) (u : SeatId) (v : Visit) (st n : Nat), s.running = true → s.safe = false → s.visitOf (idKey u) = some v →
    v.start = some st → s.now = st + 47 → v.checked = some n → n ≠ 0 → v.pass = false → ∃ t, exec (.visitEnd u) s = .next t ∧
      t.visitOf (idKey u) = .none ∧ (t.seat (idKey u)).next = some .search ∧ t.shows Err.CAL.IMPLAUSIBLE = true ∧
      t.rd Reg.CAL.FAIL_CNT = (s.bump Reg.CAL.FAIL_CNT).rd Reg.CAL.FAIL_CNT ∧ t.cal.live = s.cal.live ∧ t.cal.sets = s.cal.sets) ∧
  (∀ (s : State) (u : SeatId) (v : Visit) (st : Nat), s.visitOf (idKey u) = some v → v.start = some st → s.now ≠ st + 47 →
    exec (.visitEnd u) s = .next s) ∧
  (∀ (s : State) (via : Path) (ps : BitVec 16), s.deaf via = false → s.locked via 0x006 = false → ∃ t, exec (.passReq via ps) s = .next t ∧
    (∀ p < 16, bitAt (t.rd Reg.CAL.PASS_QUEUED) p = (bitAt (s.rd Reg.CAL.PASS_QUEUED) p || (ps.getLsbD p && !s.passing p))) ∧
    sameFields [Reg.CAL.PASS_QUEUED] s t ∧ t = { s with regs := t.regs }) ∧
  (∀ (s : State) (p : Fin 16), s.running = true → 7 ≤ s.stepNo → s.passing p.val = false →
    s.rd Reg.CAL.DT_TRIG * 8 < (s.portTemp p.val - s.refTemp p.val).natAbs → ∃ t, exec (.passTrigger p) s = .next t ∧
      bitAt (t.rd Reg.CAL.PASS_QUEUED) p.val = true ∧ sameFields [Reg.CAL.PASS_QUEUED] s t ∧ t = { s with regs := t.regs }) ∧
  (∀ (s : State) (p : Fin 16), s.running = true → s.safe = false →
    s.nextPass = some p.val → s.portVisits p.val = [] →
    countBits 16 (s.rd Reg.CAL.PASS_ACTIVE) < s.rd Reg.CAL.PASS_MAX → ∃ t, exec (.passStart p) s = .next t ∧
      bitAt (t.rd Reg.CAL.PASS_QUEUED) p.val = false ∧ bitAt (t.rd Reg.CAL.PASS_ACTIVE) p.val = true ∧
      sameFields [Reg.CAL.PASS_QUEUED, Reg.CAL.PASS_ACTIVE] s t ∧ t = { s with regs := t.regs, cal := t.cal })

/-- R230, R235, R238, R240 to R242, R245: Tolfa's record writes, word by word into the slot not in use; your commands, one at a time, refused with a result;
what a read shows, and what a page's read-back finds. -/
def Obligations.StoreReadsAndWrites : Prop :=
  (∀ (s : State) (r : Nat), s.running = true → s.safe = false → s.nvs.own = .none → s.nvs.cmd = .none → s.recordsDue.head? = some r →
    ∃ t, exec (.nvsRecordWriteStart r) s = .next t ∧ t.rd Reg.NVS.STAT_OWN_WRITE = 1 ∧
      (∃ w, t.nvs.own = some w ∧ w.record = r ∧ w.slotB = (s.recordHeld r && !s.flag (Reg.NVS.REC_IN_USE r)) ∧
        w.seq = (if s.recordHeld r = true then Tab.read 0 s.nvs.seq r + 1 else 1) ∧ w.page = 0 ∧ w.word = 0) ∧
      Tab.read .none t.nvs.lastWrite r = some s.now ∧ t.nvs.words = s.nvs.words ∧ sameFields [Reg.NVS.STAT_OWN_WRITE] s t) ∧
  (∀ (s : State) (w : OwnWrite) (bad : Option (Fin 32)), s.running = true → s.nvs.slot < 4 → s.nvs.own = some w → s.nvs.cmd = .none →
    s.ownMayGo w = true → w.word < 31 →
    let x := (s.atCycle (1040 + 56 * s.nvs.slot)).filled w
    ∃ t, exec (.nvsWordWrite bad) s = .next t ∧
      t.nvsWord (w.pageNo * 32 + w.word) = (x.pages.getD w.page []).getD w.word 0 ∧
      (∀ a, a ≠ w.pageNo * 32 + w.word → t.nvsWord a = s.nvsWord a) ∧ t.nvs.own = some { x with word := w.word + 1 } ∧
      t.clk.cycle = 1040 + 56 * s.nvs.slot ∧ t.nvs.slot = s.nvs.slot + 1 ∧ t.regs = s.regs) ∧
  (∀ (s : State) (c : NvsCmd) (bad : Option (Fin 32)), s.running = true → s.nvs.slot < 4 → s.nvs.own = .none → s.nvs.cmd = some c →
    c.write = true → c.word = 31 → ∃ t, exec (.nvsWordWrite bad) s = .next t ∧
      t.nvsWord (c.page * 32 + 31) = c.words.getD 31 0 ∧ (∀ a, a ≠ c.page * 32 + 31 → t.nvsWord a = s.nvsWord a) ∧
      t.nvs.cmd = .none ∧ t.rd Reg.NVS.STAT_BUSY = 0 ∧ t.rd Reg.NVS.STAT_RESULT = (if bad.isSome then 2 else 0) ∧
      t.rd Reg.NVS.WRITE_CNT = (s.bump Reg.NVS.WRITE_CNT).rd Reg.NVS.WRITE_CNT ∧
      (∀ b, bad = some b → t.nvsEcc (c.page * 32 + b.val) = .uncorrectable) ∧
      sameFields [Reg.NVS.STAT_BUSY, Reg.NVS.STAT_RESULT, Reg.NVS.WRITE_CNT] s t) ∧
  (∀ (s : State) (bad : Option (Fin 32)), 4 ≤ s.nvs.slot → exec (.nvsWordWrite bad) s = .next s) ∧
  (∀ (s : State) (w : OwnWrite) (c : NvsCmd), s.running = true → s.nvs.own = some w → s.nvs.cmd = some c → s.ownMayGo w = true →
    s.nvs.midPage = false → s.nvs.deferred = false → ∃ t, exec .nvsWordDefer s = .next t ∧
      t.rd Reg.STK.OVR1_NVS = (s.bump Reg.STK.OVR1_NVS).rd Reg.STK.OVR1_NVS ∧ t.nvs = { s.nvs with deferred := true } ∧
      sameFields [Reg.STK.OVR1_NVS] s t) ∧
  (∀ s : State, s.nvs.deferred = true → exec .nvsWordDefer s = .next s) ∧
  (∀ (s : State) (via : Path) (pg : Nat), s.deaf via = false → s.locked via 0x005 = false → s.flag Reg.NVS.STAT_BUSY = false →
    ∃ t, exec (.nvsCmdRead via pg) s = .next t ∧ t.rd Reg.NVS.STAT_BUSY = 1 ∧ t.nvs = { s.nvs with cmd := some ⟨false, pg % 2 ^ 14, [], 0, false⟩ } ∧
      sameFields [Reg.NVS.STAT_BUSY] s t ∧ t = { s with regs := t.regs, nvs := t.nvs }) ∧
  (∀ (s : State) (via : Path) (pg : Nat), s.deaf via = false → s.locked via 0x005 = false → s.flag Reg.NVS.STAT_BUSY = false → pg < 2 ^ 14 →
    0x3000 ≤ pg → s.safe = false → ∃ t, exec (.nvsCmdWrite via pg) s = .next t ∧ t.rd Reg.NVS.STAT_BUSY = 1 ∧
      t.nvs = { s.nvs with cmd := some ⟨true, pg, s.bufPage, 0, false⟩ } ∧ sameFields [Reg.NVS.STAT_BUSY] s t) ∧
  (∀ (s : State) (via : Path) (pg : Nat), s.deaf via = false → s.locked via 0x005 = false → s.flag Reg.NVS.STAT_BUSY = false → pg < 2 ^ 14 →
    pg < 0x3000 ∨ s.safe = true → ∃ t, exec (.nvsCmdWrite via pg) s = .next t ∧
      t.rd Reg.NVS.STAT_RESULT = (if pg < 0x3000 then 1 else 3) ∧ t.nvs = s.nvs ∧ sameFields [Reg.NVS.STAT_RESULT] s t) ∧
  (∀ (c : Instr) (s : State) (via : Path) (pg : Nat), c = .nvsCmdRead via pg ∨ c = .nvsCmdWrite via pg → s.deaf via = false →
    s.locked via 0x005 = false → s.flag Reg.NVS.STAT_BUSY = true → ∃ t, exec c s = .next t ∧ t.rd Reg.NVS.STAT_CMD_LOST = 1 ∧
      t.nvs = s.nvs ∧ sameFields [Reg.NVS.STAT_CMD_LOST] s t ∧ t = { s with regs := t.regs }) ∧
  (∀ (s : State) (c : NvsCmd) (ce ue : BitVec 32), s.nvs.cmd = some c → c.write = false → s.nvs.midPage = false → c.page < 2 ^ 14 →
    ∃ t, exec (.nvsReadComplete ce ue) s = .next t ∧ t.rd Reg.NVS.STAT_BUSY = 0 ∧ t.rd Reg.NVS.STAT_RESULT = 0 ∧
      t.rd Reg.NVS.WIN_PAGE = c.page ∧ t.nvs = { s.nvs with cmd := .none } ∧
      (∀ i < 32, ue.getLsbD i = false → s.nvsEcc (c.page * 32 + i) ≠ .uncorrectable → 0x100 ≤ c.page →
        t.rdPair (Reg.NVS.WIN (2 * i)) (Reg.NVS.WIN (2 * i + 1)) = (s.nvsWord (c.page * 32 + i)).toNat) ∧
      (ce &&& ~~~ue ≠ 0 → (∀ i < 32, s.nvsEcc (c.page * 32 + i) = .clean) → t.shows Err.NVS.ECC_CE = true))

/-! ## Culverts -/

/-- R56 to R63, R70 to R74, R86: a flit's 128 bytes, read back, give its header; in a control cycle a running culvert sends so many flits as its rate gives, first
those that wait for the lanes, then IDLE flits. A flit with a good CRC gives its ACK, whatever it carries; one whose SEQ is not the next expected, or whose CRC is bad, does
nothing more. A fill's data enters the cache, a write reported ends its request, a failed read fails it; a reserved type takes the culvert OFFLINE. -/
def Obligations.FlitsAreTaken : Prop :=
  (∀ (s : State) (c : Fin 8) (h : FlitHdr), h.crcOk = true → s.culvRuns c.val = true → (s.culv c.val).unsent = [] →
    0 < seqDist h.ack (s.culv c.val).txAcked → seqDist h.ack (s.culv c.val).txAcked ≤ (s.culv c.val).replay.length →
    ∃ t, exec (.idleFlit c h) s = .next t ∧ (t.culv c.val).replay = (s.culv c.val).replay.drop (seqDist h.ack (s.culv c.val).txAcked) ∧
      (t.culv c.val).txAcked = h.ack ∧ (t.culv c.val).expiries = 0 ∧ (t.culv c.val).timer = s.absCycle ∧
      (t.culv c.val).rxNext = (s.culv c.val).rxNext ∧ (∀ k, k ≠ c.val → t.culv k = s.culv k) ∧ t = { s with culvs := t.culvs }) ∧
  (∀ (s : State) (c : Fin 8) (h : FlitHdr), h.crcOk = false → s.culvRuns c.val = true → ∃ t, exec (.idleFlit c h) s = .next t ∧
    t.shows (Err.CLV.CRC_BAD c.val) = true ∧ t.rd (Reg.CLV.CRC_CNT c.val) = (s.bump (Reg.CLV.CRC_CNT c.val)).rd (Reg.CLV.CRC_CNT c.val) ∧
    (t.culv c.val).rxNext = (s.culv c.val).rxNext ∧ (t.culv c.val).replay = (s.culv c.val).replay ∧
    sameFields (Reg.CLV.CRC_CNT c.val :: eventFields (Err.CLV.CRC_BAD c.val)) s t) ∧
  (∀ (s : State) (c : Fin 8) (h : FlitHdr) (bs : List Byte) (n r : Nat) (w : Bool) (ls : List Nat),
    h.crcOk = false ∨ s.culvRuns c.val = false ∨ h.seq ≠ (s.culv c.val).rxNext →
    exec (.rdata c h bs) s = exec (.idleFlit c h) s ∧ exec (.wdone c h n) s = exec (.idleFlit c h) s ∧
    exec (.rerr c h w r n) s = exec (.idleFlit c h) s ∧ exec (.inval c h ls) s = exec (.idleFlit c h) s) ∧
  (∀ (s : State) (c : Fin 8) (h : FlitHdr) (bs : List Byte) (r : HubReq), h.crcOk = true → s.culvRuns c.val = true →
    h.ack = (s.culv c.val).txAcked → h.seq = (s.culv c.val).rxNext → h.poison = false → (s.culv c.val).oldest false = some r →
    r.purpose = .fill → r.data = [] → r.poison = false → r.stale = false → r.len = bs.length → bs ≠ [] → bs.length ≤ 120 →
    let u := s.setCulv c.val { (s.culv c.val).popReq false with rxNext := (s.culv c.val).rxNext + 1 }
    exec (.rdata c h bs) s = .next ((u.cacheInsert (r.addr / 64) (wordsOf 8 bs)).flushWaiting).settle) ∧
  (∀ (s : State) (c : Fin 8) (h : FlitHdr) (r : HubReq) (q key i0 i1 : Nat), h.crcOk = true → s.culvRuns c.val = true →
    h.ack = (s.culv c.val).txAcked → h.seq = (s.culv c.val).rxNext → (s.culv c.val).oldest true = some r →
    r.purpose = .completion q key i0 i1 →
    let u := s.setCulv c.val { (s.culv c.val).popReq true with rxNext := (s.culv c.val).rxNext + 1 }
    exec (.wdone c h 1) s = .next (u.completionDone q key).settle) ∧
  (∀ (s : State) (c : Fin 8) (h : FlitHdr) (r : HubReq) (reason : Nat), h.crcOk = true → s.culvRuns c.val = true →
    h.ack = (s.culv c.val).txAcked → h.seq = (s.culv c.val).rxNext → (s.culv c.val).oldest false = some r →
    r.purpose = .fill → r.stale = false →
    let u := s.setCulv c.val { (s.culv c.val).popReq false with rxNext := (s.culv c.val).rxNext + 1 }
    exec (.rerr c h false reason 1) s =
      .next ((u.hubFails r (if reason = 1 then 0x11 else if reason = 2 then stDenied else stPeer)).flushWaiting).settle) ∧
  (∀ (s : State) (c : Fin 8) (h : FlitHdr) (ls : List Nat), h.crcOk = true → s.culvRuns c.val = true → h.ack = (s.culv c.val).txAcked →
    h.seq = (s.culv c.val).rxNext → s.flag (Reg.CLV.STAT_INVAL_ON c.val) = true →
    let u := s.setCulv c.val { s.culv c.val with rxNext := (s.culv c.val).rxNext + 1 }
    exec (.inval c h ls) s = .next ((u.dropLines fun l => ls.contains l).staleFills fun l => ls.contains l).settle) ∧
  (∀ (s : State) (c : Fin 8) (h : FlitHdr) (ty : BitVec 4), h.crcOk = true → s.culvRuns c.val = true → 8 ≤ ty.toNat ∨ ty = 1 ∨ ty = 2 →
    ∃ t, exec (.reservedFlitType c h ty) s = .next t ∧ t.culvState c.val = 7 ∧ t.rd (Reg.CLV.STAT_REASON c.val) = 12 ∧
      t.shows (Err.CLV.PROTOCOL c.val) = true ∧ (t.culv c.val).rxNext = (s.culv c.val).rxNext ∧ (∀ k, k ≠ c.val → t.culv k = s.culv k) ∧
      sameFields ([Reg.CLV.STAT_STATE c.val, Reg.CLV.STAT_REASON c.val] ++ eventFields (Err.CLV.PROTOCOL c.val)) s t) ∧
  (∀ f : LineFlit, f.bytes.length = 128 ∧ flitHdrOf f.bytes = { crcOk := true, seq := f.seq, ack := f.ack, poison := f.poison }) ∧
  (∀ (s : State) (c : Fin 8), s.culvRuns c.val = true →
    let x := s.culv c.val
    let y := s.lanesCycle.culv c.val
    5 * y.sent.length + y.fifths = x.fifths + fifthsOf (s.rd (Reg.CLV.STAT_RATE c.val)) ∧ y.fifths < 5 ∧
      y.line = x.line.drop y.sent.length ∧ y.replay = x.replay ∧
      (∀ i < y.sent.length, y.sent[i]? = some (match x.line[i]? with
        | some f => f.onLine (x.rxNext - 1)
        | .none => ⟨0, x.txNext, x.rxNext - 1, false, false, List.replicate 120 0⟩)))

/-- R64, R65, R79, R80, R82, R84: an expiry of the replay timer sends the unacknowledged flits again, the eighth only counts, and takes the culvert OFFLINE; at cycle 0
entries of lost culverts pass to ACTIVE ones, and an entry with nothing outstanding returns to its own culvert. -/
def Obligations.ReplayAndRemap : Prop :=
  (∀ (s : State) (c : Fin 8), s.culvRuns c.val = true → (s.culv c.val).replay ≠ [] →
    (s.culv c.val).timer + s.rd (Reg.CLV.TIMEOUT c.val) ≤ s.absCycle → (s.culv c.val).expiries < 7 →
    ∃ t, exec (.culvertReplayTimeout c false) s = .next t ∧ (t.culv c.val).expiries = (s.culv c.val).expiries + 1 ∧
      (t.culv c.val).timer = s.absCycle ∧ (∀ f ∈ (t.culv c.val).replay, f.replay = true) ∧
      (t.culv c.val).line = (t.culv c.val).replay ∧
      (t.culv c.val).replay.length = (s.culv c.val).replay.length ∧ t.shows (Err.CLV.REPLAY c.val) = true ∧
      t.rd (Reg.CLV.REPLAY_CNT c.val) = (s.bump (Reg.CLV.REPLAY_CNT c.val)).rd (Reg.CLV.REPLAY_CNT c.val) ∧
      sameFields (Reg.CLV.REPLAY_CNT c.val :: eventFields (Err.CLV.REPLAY c.val)) s t ∧ (∀ k, k ≠ c.val → t.culv k = s.culv k)) ∧
  (∀ (s : State) (c : Fin 8), s.culvRuns c.val = true → (s.culv c.val).replay ≠ [] →
    (s.culv c.val).timer + s.rd (Reg.CLV.TIMEOUT c.val) ≤ s.absCycle → (s.culv c.val).expiries = 7 →
    ∃ t u, exec (.culvertReplayTimeout c false) s = .next t ∧ (t.culv c.val).expiries = 8 ∧ t.regs = s.regs ∧
      exec (.culvertNoProgress c) t = .next u ∧ u.culvState c.val = 7 ∧ u.rd (Reg.CLV.STAT_REASON c.val) = 11 ∧
      u.shows (Err.CLV.NO_PROGRESS c.val) = true) ∧
  (∀ (s : State) (c : Fin 8) (b : Bool), s.absCycle < (s.culv c.val).timer + s.rd (Reg.CLV.TIMEOUT c.val) →
    exec (.culvertReplayTimeout c b) s = .next s) ∧
  (∀ (s : State) (c : Fin 8), (s.culv c.val).expiries ≠ 8 → exec (.culvertNoProgress c) s = .next s) ∧
  (∀ s : State, s.running = true → s.clk.cycle = 0 → s.remapOn = true →
    exec .steerTableLive s = .next (s.reassign.reissueLost.flushWaiting).settle ∧
    (∀ e < 64, s.culvLost (s.steer e) = false → s.reassign.steer e = s.steer e) ∧
    (∀ e < 64, s.culvLost (s.steer e) = true → s.anyActive = true → s.culvState (s.reassign.steer e) = 5)) ∧
  (∀ s : State, s.clk.cycle ≠ 0 → exec .steerTableLive s = .next s) ∧
  (∀ (s : State) (e : Fin 64), s.running = true → s.clk.cycle = 0 → s.returning e.val = true → s.entryBusy e.val = false →
    exec (.steerEntryReturn e) s = .next (((s.setSteer e.val (e.val % 8)).markFailing e.val).flushWaiting).settle ∧
    (s.setSteer e.val (e.val % 8)).steer e.val = e.val % 8 ∧
    (∀ k < 64, k ≠ e.val → (s.setSteer e.val (e.val % 8)).steer k = s.steer k)) ∧
  (∀ (s : State) (e : Fin 64), s.returning e.val = false ∨ s.entryBusy e.val = true → exec (.steerEntryReturn e) s = .next s)

/-- R89 to R95, R61: the training of a culvert, state by state, with the reasons for which it fails. -/
def Obligations.CulvertsTrain : Prop :=
  (∀ (s : State) (c : Fin 8), s.culvState c.val = 1 → ∃ t, exec (.returnClockLock c) s = .next t ∧ t.culvState c.val = 2 ∧
    (t.culv c.val).clockOk = true ∧ (t.culv c.val).packet = identPacket ownCap s.fuses.setCode (s.rd Reg.GLB.STRAPS_POSITION) ∧
    (∀ k, k ≠ c.val → t.culv k = s.culv k) ∧ sameFields [Reg.CLV.STAT_STATE c.val] s t) ∧
  (∀ (s : State) (c : Fin 8), s.culvRuns c.val = true → ∃ t, exec (.returnClockLoss c) s = .next t ∧ t.culvState c.val = 7 ∧
    t.rd (Reg.CLV.STAT_REASON c.val) = 13 ∧ t.shows (Err.CLV.CLK_LOSS c.val) = true) ∧
  (∀ (s : State) (c : Fin 8) (cap : Word) (set : BitVec 24) (role pos : Byte), s.culvState c.val = 2 →
    s.identReason c.val cap.toNat set.toNat = .none → ∃ t, exec (.ident c cap set role pos) s = .next t ∧ t.culvState c.val = 3 ∧
      t.rd (Reg.CLV.PEER_CAP c.val) = cap.toNat ∧ t.rd (Reg.CLV.PEER_SET_SET c.val) = set.toNat ∧
      t.rd (Reg.CLV.PEER_SET_ROLE c.val) = role.toNat ∧ (t.culv c.val).remapCap = some (cap.getLsbD 4) ∧
      (t.culv c.val).invalCap = cap.getLsbD 5 ∧ t.recs = s.recs) ∧
  (∀ (s : State) (c : Fin 8) (cap : Word) (set : BitVec 24) (role pos : Byte), s.culvState c.val = 2 → cap.toNat / 2 ^ 12 % 16 ≠ 1 →
    ∃ t, exec (.ident c cap set role pos) s = .next t ∧ t.culvState c.val = 7 ∧ t.rd (Reg.CLV.STAT_REASON c.val) = 8 ∧
      t.shows (Err.CLV.TRAIN_FAIL c.val) = true ∧
      t.rd (Reg.CLV.TRAIN_CNT_FAIL c.val) = (s.bump (Reg.CLV.TRAIN_CNT_FAIL c.val)).rd (Reg.CLV.TRAIN_CNT_FAIL c.val)) ∧
  (∀ (s : State) (c : Fin 8) (cap : Word) (set : BitVec 24) (role pos : Byte), s.culvState c.val ≠ 2 →
    ∃ t, exec (.ident c cap set role pos) s = .next t ∧ t.rd (Reg.CLV.PEER_CAP c.val) = cap.toNat ∧
      sameFields [Reg.CLV.PEER_CAP c.val, Reg.CLV.PEER_SET_SET c.val, Reg.CLV.PEER_SET_ROLE c.val] s t ∧ t = { s with regs := t.regs }) ∧
  (∀ (s : State) (c : Fin 8) (n : Nat), s.culvState c.val = 3 → ∃ t, exec (.deskewResult c (-1) (-1) n) s = .next t ∧
    t.culvState c.val = 4 ∧ (t.culv c.val).goodRx = 0 ∧ (t.culv c.val).packet = deskewPacket (-1) (s.rd (Reg.CLV.STAT_RATE c.val)) ∧
    sameFields [Reg.CLV.STAT_STATE c.val] s t) ∧
  (∀ (s : State) (c : Fin 8) (own hub : DWord) (n : Nat), s.culvState c.val = 3 → own ≠ -1 ∨ hub ≠ -1 →
    ∃ t, exec (.deskewResult c own hub n) s = .next t ∧ t.culvState c.val = 7 ∧ t.rd (Reg.CLV.STAT_REASON c.val) = 9 ∧
      t.shows (Err.CLV.TRAIN_FAIL c.val) = true) ∧
  (∀ (s : State) (c : Fin 8) (h : FlitHdr), s.culvState c.val = 4 → ∃ t, exec (.trainFlit c h) s = .next t ∧
    (t.culv c.val).goodRx = (if h.crcOk then min ((s.culv c.val).goodRx + 1) 4096 else 0) ∧
    (h.crcOk = false → t.shows (Err.CLV.CRC_BAD c.val) = true) ∧ (h.crcOk = true → t = { s with culvs := t.culvs })) ∧
  (∀ (s : State) (c : Fin 8), s.culvState c.val = 4 → (s.culv c.val).goodRx = 4096 → (s.culv c.val).reqs = [] →
    ∃ u, exec (.culvertVerifyDone c) s = .next (u.flushWaiting).settle ∧ u.culvState c.val = 5 ∧ (u.culv c.val).txNext = 0 ∧
      (u.culv c.val).txAcked = 0xFFF ∧ (u.culv c.val).rxNext = 0 ∧ (u.culv c.val).replay = [] ∧ (u.culv c.val).expiries = 0 ∧
      sameFields [Reg.CLV.STAT_STATE c.val, Reg.CLV.TRAIN_CNT_DONE c.val] s u ∧ u = { s with regs := u.regs, culvs := u.culvs }) ∧
  (∀ (s : State) (c : Fin 8), (s.culv c.val).goodRx ≠ 4096 → exec (.culvertVerifyDone c) s = .next s) ∧
  (∀ (s : State) (c : Fin 8), s.culvState c.val = 6 → (s.culv c.val).reqs = [] → (s.culv c.val).replay = [] → (s.culv c.val).unsent = [] →
    ∃ t, exec (.culvertQuiesceDone c) s = .next t ∧
      (s.flag (Reg.CLV.CTRL_ENABLE c.val) = false → t.culvState c.val = 0) ∧
      (∀ r, s.flag (Reg.CLV.CTRL_ENABLE c.val) = true →
        commonRate (s.rd (Reg.CLV.PEER_CAP c.val)) (s.rd (Reg.CLV.CTRL_MAX_RATE c.val)) = some r →
        t.culvState c.val = 3 ∧ t.rd (Reg.CLV.STAT_RATE c.val) = r)) ∧
  (∀ (s : State) (c : Fin 8) (st n r : Nat), s.culvState c.val = st → (st, n, r) ∈ [(1, 64, 1), (2, 32, 2), (3, 64, 9), (4, 8, 10), (6, 64, 11)] →
    (s.culv c.val).since + n ≤ s.now → ∃ t, exec (.culvertTrainingTimeout c) s = .next t ∧ t.culvState c.val = 7 ∧
      t.rd (Reg.CLV.STAT_REASON c.val) = r ∧ (r ≠ 11 → t.shows (Err.CLV.TRAIN_FAIL c.val) = true) ∧
      (r = 11 → t.shows (Err.CLV.NO_PROGRESS c.val) = true)) ∧
  (∀ (s : State) (c : Fin 8), s.now < (s.culv c.val).since + 8 → exec (.culvertTrainingTimeout c) s = .next s)

/-- R89, R96: what writes of a culvert's CTRL start and stop, and how a loopback ends. -/
def Obligations.CulvertsAreCommanded : Prop :=
  (∀ (s : State) (via : Path) (c : Fin 8) (d : Word), s.deaf via = false → s.locked via (0x020 + c.val) = false → s.culvState c.val = 0 →
    s.flag (Reg.CLV.CTRL_ENABLE c.val) = false → d.getLsbD 8 = true → 3 ≤ s.stepNo → ∃ t, exec (.culvertEnable via c d) s = .next t ∧
      t.culvState c.val = 1 ∧ t.rd (Reg.CLV.CTRL_ENABLE c.val) = 1 ∧ (t.culv c.val).since = s.now ∧ (t.culv c.val).clockOk = false ∧
      (∀ k, k ≠ c.val → t.culv k = s.culv k) ∧ t = { s with regs := t.regs, culvs := t.culvs }) ∧
  (∀ (s : State) (via : Path) (c : Fin 8) (d : Word), s.deaf via = false → s.locked via (0x020 + c.val) = false → d.getLsbD 8 = false →
    ∃ t, exec (.culvertDisable via c d) s = .next t ∧ t.rd (Reg.CLV.CTRL_ENABLE c.val) = 0 ∧
      (s.culvState c.val = 5 → t.culvState c.val = 6) ∧ (s.culvState c.val = 6 → t.culvState c.val = 6) ∧
      (1 ≤ s.culvState c.val → s.culvState c.val ≤ 4 ∨ s.culvState c.val = 7 → t.culvState c.val = 0) ∧
      t = { s with regs := t.regs, culvs := t.culvs }) ∧
  (∀ (s : State) (via : Path) (c : Fin 8) (d : Word), s.deaf via = false → s.locked via (0x020 + c.val) = false →
    d.getLsbD 8 = true → d.getLsbD 9 = true → ∃ t, exec (.culvertRetrain via c d) s = .next t ∧ t.rd (Reg.CLV.CTRL_ENABLE c.val) = 1 ∧
      (s.culvState c.val = 5 → t.culvState c.val = 6) ∧ (s.culvState c.val = 7 → t.culvState c.val = 1) ∧
      (1 ≤ s.culvState c.val → s.culvState c.val ≤ 4 → t.culvState c.val = s.culvState c.val ∧ t.culvs = s.culvs) ∧
      t = { s with regs := t.regs, culvs := t.culvs }) ∧
  (∀ (s : State) (via : Path) (c : Fin 8) (d : Word), s.deaf via = false → s.locked via (0x020 + c.val) = false → s.culvState c.val = 0 →
    s.flag (Reg.CLV.CTRL_LOOP c.val) = false → d.getLsbD 8 = false → d.getLsbD 12 = true → ∃ t, exec (.culvertLoopStart via c d) s = .next t ∧
      t.culvState c.val = 8 ∧ t.rd (Reg.CLV.CTRL_LOOP c.val) = 1 ∧ (t.culv c.val).since = s.now ∧ t = { s with regs := t.regs, culvs := t.culvs }) ∧
  (∀ (s : State) (c : Fin 8) (f : DWord) (sb : Bool), s.culvState c.val = 8 →
    (s.culv c.val).since + s.rd (Reg.CLV.LOOP_STROKES c.val) ≤ s.now → ∃ t, exec (.loopbackEnd c f sb) s = .next t ∧ t.culvState c.val = 0 ∧
      t.rd (Reg.CLV.CTRL_LOOP c.val) = 0 ∧ t.rd (Reg.CLV.LOOP_STAT_DONE c.val) = 1 ∧ t.flag (Reg.CLV.LOOP_STAT_SB_FAIL c.val) = sb ∧
      t.flag (Reg.CLV.LOOP_STAT_PASS c.val) = (decide (f = 0) && !sb) ∧
      t.rdPair (Reg.CLV.LOOP_FAIL_LO c.val) (Reg.CLV.LOOP_FAIL_HI c.val) = f.toNat ∧
      t.rd (Reg.CLV.CTRL_ENABLE c.val) = s.rd (Reg.CLV.CTRL_ENABLE c.val) ∧ t.recs = s.recs) ∧
  (∀ (s : State) (c : Fin 8) (f : DWord) (sb : Bool), s.culvState c.val ≠ 8 → exec (.loopbackEnd c f sb) s = .next s)

/-- R487: CULVERT_LOOP is granted only in Open mode, with the PLL locked and no culvert ACTIVE; then every culvert that is OFF runs loopback with ENABLE = 0. Refused,
it changes nothing but what LOOP_DR captures. -/
def Obligations.ScannedLoopback : Prop :=
  (∀ s : State, s.flag Reg.GLB.STRAPS_MODE = false → s.flag Reg.CKM.STAT_PLL_LOCK = true → (∀ c < 8, s.culvState c = 0 ∧
      s.flag (Reg.CLV.CTRL_LOOP c) = false ∧ ∀ r ∈ fieldsAt (0x020 + c) 0x004, s.rd (fieldOf (0x020 + c) 0x004 r) ≤ r.max) →
    ∃ t, exec .culvertLoop s = .next t ∧ t.tap.ir = 0x10 ∧ t.tap.refused = false ∧
      (∀ c < 8, t.culvState c = 8 ∧ t.rd (Reg.CLV.CTRL_ENABLE c) = 0 ∧ t.rd (Reg.CLV.CTRL_LOOP c) = 1) ∧
      t = { s with regs := t.regs, culvs := t.culvs, tap := t.tap }) ∧
  (∀ s : State, s.flag Reg.GLB.STRAPS_MODE = true ∨ s.flag Reg.CKM.STAT_PLL_LOCK = false ∨ (∃ c < 8, s.culvState c = 5) →
    ∃ t, exec .culvertLoop s = .next t ∧ t.tap.ir = 0x10 ∧ t.tap.refused = true ∧ t.tap.boundary = s.tap.boundary ∧ t = { s with tap := t.tap })

/-! ## Links -/

/-- R282, R286, R288, R289, R303: a DATA shell in sequence gives its ACK and its messages; a bad one, or one out of sequence, is counted and discarded; a NULL shell,
a CTRL shell of which one lane's block passes, and a TRAIN shell on a running link give their ACK; the 32nd accepted shell, and 120 control cycles, are acknowledgement points; TRAIN shells end ALIGN and count in VERIFY. -/
def Obligations.ShellsAreReceived : Prop :=
  (∀ (s : State) (p : Fin 16) (h : ShellHdr) (body : List Byte), s.running = true → s.linkUp p.val = true → h.fan = false → shellGood h = true →
    h.reservedSet = false → h.width.toNat + 1 = widthOf (s.laneSt p.val).rxMap → h.seq = (s.link p.val).rxNext → h.ack = (s.link p.val).txAcked →
    (s.link p.val).ackPending < 31 → bitAt (s.rd (Reg.LNK.STAT_PAUSE p.val)) 2 = false →
    let r := parseStream (body.length / 8 + 4) 0 ((s.link p.val).partialBytes ++ body)
    let heads := (r.heads.filter ((s.link p.val).partialBytes.length ≤ ·)).map (· - (s.link p.val).partialBytes.length)
    r.bad = false → heads.length = h.msgCount → heads.headD 0xFFF = h.first →
    ∃ u : State, exec (.dataShell p h body) s = .next u.settle ∧ (u.link p.val).rxNext = (s.link p.val).rxNext + 1 ∧
      (u.link p.val).rxMsgs = (s.link p.val).rxMsgs ++ r.msgs.filter (·.kind != 0) ∧ (u.link p.val).partialBytes = r.rest ∧
      (u.link p.val).ackPending = (s.link p.val).ackPending + 1 ∧ (u.link p.val).ackSent = (s.link p.val).ackSent ∧
      (u.link p.val).replay = (s.link p.val).replay ∧ (u.link p.val).down = (s.link p.val).down ∧ (∀ k, k ≠ p.val → u.link k = s.link k) ∧
      u = { s with regs := u.regs, links := u.links }) ∧
  (∀ (s : State) (p : Fin 16) (h : ShellHdr) (body : List Byte), s.running = true → s.linkUp p.val = true → h.fan = false → shellGood h = true →
    h.reservedSet = false → h.seq = (s.link p.val).rxNext → h.ack = (s.link p.val).txAcked → (s.link p.val).ackPending = 31 →
    s.litSlot p.val = .none → bitAt (s.rd (Reg.LNK.STAT_PAUSE p.val)) 2 = false →
    ∃ u : State, exec (.dataShell p h body) s = .next u.settle ∧ (u.link p.val).rxNext = h.seq + 1 ∧ (u.link p.val).ackSent = h.seq ∧
      (u.link p.val).ackPending = 0) ∧
  (∀ (s : State) (p : Fin 16) (h : ShellHdr) (body : List Byte), s.running = true → s.linkUp p.val = true → h.fan = false →
    h.reservedSet = false → h.width.toNat + 1 = widthOf (s.laneSt p.val).rxMap → shellGood h = false ∨ h.seq ≠ (s.link p.val).rxNext →
    ∃ u : State, exec (.dataShell p h body) s = .next u.settle ∧ u.shows (Err.LNK.SHELL_BAD p.val) = true ∧
      u.rd (Reg.LNK.SHELL_BAD_CNT p.val) = (s.bump (Reg.LNK.SHELL_BAD_CNT p.val)).rd (Reg.LNK.SHELL_BAD_CNT p.val) ∧
      (u.link p.val).rxNext = (s.link p.val).rxNext ∧ (u.link p.val).rxMsgs = (s.link p.val).rxMsgs ∧
      (u.link p.val).partialBytes = (s.link p.val).partialBytes ∧ (u.link p.val).down = (s.link p.val).down ∧
      (shellGood h = false → (u.link p.val).replay = (s.link p.val).replay)) ∧
  (∀ (s : State) (p : Fin 16) (h : ShellHdr) (body : List Byte) (dark : Bool), s.linkUp p.val = false →
    exec (.dataShell p h body) s = .next s ∧ exec (.nullShell p h dark) s = .next s) ∧
  (∀ (s : State) (p : Fin 16) (h : ShellHdr), exec (.nullShell p h true) s = .next s) ∧
  (∀ (s : State) (p : Fin 16) (h : ShellHdr), s.running = true → s.linkUp p.val = true → h.fan = false →
    (h.kind = 0 ∧ shellGood h = true ∧ h.width.toNat + 1 = widthOf (s.laneSt p.val).rxMap) ∨ (h.kind = 2 ∧ blockGood h = true) →
    h.reservedSet = false → h.msgCount = 0 → seqBehind h.ack (s.link p.val).txAcked ≤ (s.link p.val).replay.length →
    ∃ u : State, exec (.nullShell p h false) s = .next u.settle ∧ (u.link p.val).txAcked = h.ack ∧
      (u.link p.val).replay = (s.link p.val).replay.drop (seqBehind h.ack (s.link p.val).txAcked) ∧
      (u.link p.val).backHdr = setAt (s.link p.val).backHdr h.crTc.toNat h.crHdr.toNat ∧
      (u.link p.val).backData = setAt (s.link p.val).backData h.crTc.toNat h.crData.toNat ∧
      (u.link p.val).rxNext = (s.link p.val).rxNext ∧ (u.link p.val).down = (s.link p.val).down ∧ (∀ k, k ≠ p.val → u.link k = s.link k) ∧
      u = { s with regs := u.regs, links := u.links }) ∧
  (∀ (s : State) (p : Fin 16), s.running = true → s.litSlot p.val = .none → 0 < (s.link p.val).ackPending →
    (s.link p.val).ackFirst + 120 ≤ s.absCycle → (s.link (fanRx p.val)).ackPending = 0 → ∃ t : State, exec (.ackPoint p) s = .next t ∧
      (t.link p.val).ackSent = (s.link p.val).rxNext - 1 ∧ (t.link p.val).ackPending = 0 ∧ (∀ k, k ≠ p.val → t.link k = s.link k) ∧
      t = { s with links := t.links }) ∧
  (∀ (s : State) (p : Fin 16), (s.link p.val).ackPending = 0 → (s.link (fanRx p.val)).ackPending = 0 → exec (.ackPoint p) s = .next s) ∧
  (∀ (s : State) (p : Fin 16) (h : ShellHdr), s.running = true → s.linkState p.val = 2 → h.crcOk = true →
    s.rd (Reg.LNK.LINK_CFG p.val) ≤ (h.lanes.filter (·.isSome)).length → ∃ t : State, exec (.trainShell p h) s = .next t ∧ t.linkState p.val = 3 ∧
      (t.link p.val).since = s.now ∧ (t.link p.val).paramsSent = true ∧ (t.link p.val).ops.length = (s.link p.val).ops.length + 7 ∧
      (∀ k, k ≠ p.val → t.link k = s.link k) ∧ t = { s with regs := t.regs, links := t.links }) ∧
  (∀ (s : State) (p : Fin 16) (h : ShellHdr), s.linkState p.val = 2 → h.crcOk = false → exec (.trainShell p h) s = .next s) ∧
  (∀ (s : State) (p : Fin 16) (h : ShellHdr), s.running = true → s.linkState p.val = 5 → ∃ t : State, exec (.trainShell p h) s = .next t ∧
    (t.link p.val).trainRx = (if shellGood h then (s.link p.val).trainRx + 1 else 0) ∧ t.linkState p.val = 5) ∧
  (∀ (s : State) (p : Fin 16) (h : ShellHdr), s.running = true → s.linkState p.val = 6 → h.kind = 3 → blockGood h = true → h.fan = false →
    h.reservedSet = false → h.msgCount = 0 → (s.link p.val).trainRx < 15 →
    seqBehind h.ack (s.link p.val).txAcked ≤ (s.link p.val).replay.length → ∃ u : State, exec (.trainShell p h) s = .next u.settle ∧
      (u.link p.val).txAcked = h.ack ∧ (u.link p.val).trainRx = (s.link p.val).trainRx + 1 ∧ (u.link p.val).down = (s.link p.val).down ∧
      (u.link p.val).backHdr = setAt (s.link p.val).backHdr h.crTc.toNat h.crHdr.toNat)

/-- R277, R280, R284, R287, R290, R291, R301, R346: what a port sends at a shell boundary: nothing in a pause; PAUSE while it announces one; a CTRL shell with
RX_SEATS first where words wait; an unacknowledged shell again where a replay is under way; else the next DATA shell, kept for replay, or a NULL shell. An operation whose last copy lies 8 shells back goes out again. A header's 128 bits and
the stripes of a shell, read back, are that header and that shell. -/
def Obligations.ShellsAreSent : Prop :=
  (∀ (s : State) (p : Fin 16), s.running = false ∨ s.safe = true → exec (.shellBoundary p) s = .next s ∧ exec (.opRepeat p) s = .next s) ∧
  (∀ (s : State) (p : Fin 16), s.running = true → s.safe = false → s.linkState p.val = 6 → (s.link p.val).pauseLeft = 0 →
    s.ownPaused p.val = true ∨ s.synLocked (s.bankOf p.val) = false → exec (.shellBoundary p) s =
      .next ((s.swapsEnd p.val).setLink p.val { s.link p.val with
        sent := .none, slots := (s.link p.val).slots + 1
        onLines := ⟨(s.link p.val).slots, s.flag (Reg.LNK.STAT_FEC p.val), []⟩ }).settle) ∧
  (∀ (s : State) (p : Fin 16), s.running = true → s.safe = false → s.linkState p.val = 6 → s.slotOfFibre p.val = .none →
    (s.link p.val).pauseLeft = 2 → (s.link p.val).words = [] → (s.link p.val).ops = [] → ∃ u : State, exec (.shellBoundary p) s = .next u.settle ∧
      (u.link p.val).pauseLeft = 1 ∧ (∃ h, h.kind = 2 ∧ h.seq = (s.link p.val).txNext ∧ (u.link p.val).sent =
        some (h, .words [ctrlWord 0x14 0 (s.rxSpares p.val), ctrlWord 0x20 0 (s.link p.val).pauseWhy]))) ∧
  (∀ (s : State) (p : Fin 16), s.running = true → s.safe = false → s.linkState p.val = 6 → s.slotOfFibre p.val = .none →
    (s.link p.val).pauseLeft = 0 → s.ownPaused p.val = false → s.synLocked (s.bankOf p.val) = true → (s.link p.val).words ≠ [] →
    (s.link p.val).ops = [] → ∃ u : State, exec (.shellBoundary p) s = .next u.settle ∧ (u.link p.val).words = (s.link p.val).words.drop 21 ∧
      (u.link p.val).txNext = (s.link p.val).txNext ∧ (u.link p.val).shells = (s.link p.val).shells + 1 ∧
      (u.link p.val).slots = (s.link p.val).slots + 1 ∧
      (∃ h, h.kind = 2 ∧ h.seq = (s.link p.val).txNext ∧ (u.link p.val).sent =
        some (h, .words (ctrlWord 0x14 0 (s.rxSpares p.val) :: (s.link p.val).words.take 21))) ∧
      (∀ k, k ≠ p.val → u.link k = s.link k) ∧ u = { s.swapsEnd p.val with links := u.links }) ∧
  (∀ (s : State) (p : Fin 16) (x : TxShell), s.running = true → s.safe = false → s.linkState p.val = 6 → s.slotOfFibre p.val = .none →
    (s.link p.val).pauseLeft = 0 → s.ownPaused p.val = false → s.synLocked (s.bankOf p.val) = true → (s.link p.val).words = [] →
    (s.link p.val).ops = [] → s.newsDue p.val = false → 0 < (s.link p.val).resend → (s.link p.val).resend ≤ (s.link p.val).replay.length →
    (s.link p.val).replay[(s.link p.val).replay.length - (s.link p.val).resend]? = some x →
    x.width = (s.swapsEnd p.val).sendWidth p.val → ∃ u : State, exec (.shellBoundary p) s = .next u.settle ∧
      (u.link p.val).resend = (s.link p.val).resend - 1 ∧ (u.link p.val).replay = (s.link p.val).replay ∧
      (u.link p.val).txNext = (s.link p.val).txNext ∧
      (∃ h, h.kind = 1 ∧ h.seq = x.seq ∧ h.replay = x.replay ∧ h.msgCount = x.heads.length ∧ (u.link p.val).sent = some (h, .data x.body)) ∧
      (∀ k, k ≠ p.val → u.link k = s.link k)) ∧
  (∀ (s : State) (p : Fin 16), s.running = true → s.safe = false → s.linkState p.val = 6 → s.slotOfFibre p.val = .none →
    (s.link p.val).pauseLeft = 0 → s.ownPaused p.val = false → s.synLocked (s.bankOf p.val) = true → (s.link p.val).words = [] →
    (s.link p.val).ops = [] → s.newsDue p.val = false → (s.link p.val).resend = 0 → s.fansFrom p.val = [] →
    let x := (s.swapsEnd p.val).setLink p.val { s.link p.val with resend := 0 }
    let w := x.sendWidth p.val
    let v := x.fillStream p.val (bodyBytes w) 1024
    (s.hasWork p.val = false → ∃ u : State, exec (.shellBoundary p) s = .next u.settle ∧ (u.link p.val).txNext = (s.link p.val).txNext ∧
      (u.link p.val).replay = (s.link p.val).replay ∧
      ∃ h, h.kind = 0 ∧ h.seq = (s.link p.val).txNext ∧ (u.link p.val).sent = some (h, .null (s.darkSlot p.val))) ∧
    (s.hasWork p.val = true → w ≠ 0 →
      s.rd (Reg.LNK.RPL_QUOTA p.val) ≤ (s.link p.val).replay.length ∨ s.grantable .rpl 1 = 0 →
      ∃ u : State, exec (.shellBoundary p) s = .next u.settle ∧ (u.link p.val).txNext = (s.link p.val).txNext ∧
        (u.link p.val).stream = (s.link p.val).stream ∧ (u.link p.val).queues = (s.link p.val).queues ∧
        u.shows (Err.LNK.RPL_STALL p.val) = true ∧ ∃ h d, h.kind = 0 ∧ (u.link p.val).sent = some (h, .null d)) ∧
    (s.hasWork p.val = true → w ≠ 0 → (s.link p.val).replay.length < s.rd (Reg.LNK.RPL_QUOTA p.val) → s.grantable .rpl 1 = 1 →
      (v.link p.val).stream ≠ [] → ∃ u : State, exec (.shellBoundary p) s = .next u.settle ∧
        (u.link p.val).txNext = (v.link p.val).txNext + 1 ∧ ∃ c h, (u.link p.val).replay = (v.link p.val).replay ++ [c] ∧
          c.seq = (v.link p.val).txNext ∧ c.width = w ∧ c.replay = false ∧ h.kind = 1 ∧ h.seq = c.seq ∧
          (u.link p.val).sent = some (h, .data c.body))) ∧
  (∀ (s : State) (p : Fin 16), s.running = true → s.safe = false → s.linkState p.val = 5 → s.synLocked (s.bankOf p.val) = true →
    ∃ u : State, exec (.shellBoundary p) s = .next u.settle ∧ (u.link p.val).trainTx = (s.link p.val).trainTx + 1 ∧
      ∃ h w, h.kind = 3 ∧ (u.link p.val).sent = some (h, .words w)) ∧
  (∀ (s : State) (p : Fin 16), s.running = true → s.safe = false →
    (∃ o ∈ (s.link p.val).ops, o.sent = true ∧ o.tag ≠ noTag ∧ 7 ≤ o.shells) → exec (.opRepeat p) s = exec (.shellBoundary p) s) ∧
  (∀ (s : State) (p : Fin 16), (∀ o ∈ (s.link p.val).ops, o.sent = true → o.shells < 7) → exec (.opRepeat p) s = .next s) ∧
  (∀ (s : State) (p : Fin 16) (o : CtrlOp), s.running = true → s.safe = false → s.linkState p.val = 6 → s.slotOfFibre p.val = .none →
    (s.link p.val).pauseLeft = 0 → s.ownPaused p.val = false → s.synLocked (s.bankOf p.val) = true → (s.link p.val).words = [] →
    (s.link p.val).ops = [o] → o.sent = true → o.tag < 16 → 7 ≤ o.shells → ∃ u : State, exec (.opRepeat p) s = .next u.settle ∧
      (u.link p.val).ops = [{ o with shells := 0 }] ∧ u.shows (Err.LNK.CTRL_RETRY p.val) = true ∧
      (u.link p.val).txNext = (s.link p.val).txNext ∧ (u.link p.val).replay = (s.link p.val).replay ∧
      sameFields (eventFields (Err.LNK.CTRL_RETRY p.val)) s u ∧ (∀ k, k ≠ p.val → u.link k = s.link k) ∧
      ∃ h, h.kind = 2 ∧ h.seq = (s.link p.val).txNext ∧
        (u.link p.val).sent = some (h, .words [ctrlWord 0x14 0 (s.rxSpares p.val), ctrlWord o.op o.tag o.arg.toNat])) ∧
  (∀ (h : TxHdr) (lanes : List (Option Nat)) (ok : Bool), h.crHdr < 2 ^ 16 → h.crData < 2 ^ 24 → h.crTc < 4 → h.msgCount < 2 ^ 9 →
    h.first < 2 ^ 12 → h.width < 16 → h.kind < 4 → readHdr h.value lanes ok =
      { lanes := lanes, crcOk := ok, reservedSet := false, ack := h.ack, seq := h.seq, crHdr := BitVec.ofNat 16 h.crHdr,
        crData := BitVec.ofNat 24 h.crData, crTc := BitVec.ofNat 2 h.crTc, msgCount := h.msgCount, first := h.first, fan := h.fan,
        kind := BitVec.ofNat 2 h.kind, width := BitVec.ofNat 4 h.width, replay := h.replay }) ∧
  (∀ (w : Nat) (bs : List Byte), 0 < w → bs.length = 200 * w → unstripe ((List.range w).map fun i => stripe w i bs) = bs)

/-- R279, R281, R291, R293, R303, R306, R307: each condition that takes a link down is noted with its reason of Table 9.10, once, and the link goes down at a later cycle 0,
when its traffic and its pages go and LINK_DOWN is raised; at every expiry of the replay timer the unacknowledged shells are sent again. -/
def Obligations.LinksGoDown : Prop :=
  (∀ (s : State) (p : Fin 16), s.running = true → s.fansFrom p.val = [] → s.replayDue p.val = true →
    ∃ t : State, exec (.shellReplayTimeout p) s = .next t ∧ (t.link p.val).expiries = (s.link p.val).expiries + 1 ∧
      (t.link p.val).timer = s.absCycle ∧ (t.link p.val).resend = (s.link p.val).replay.length ∧
      (t.link p.val).replay = (s.link p.val).replay.map (fun x => { x with replay := true }) ∧ t.shows (Err.LNK.REPLAY p.val) = true ∧
      t.rd (Reg.LNK.REPLAY_CNT p.val) = (s.bump (Reg.LNK.REPLAY_CNT p.val)).rd (Reg.LNK.REPLAY_CNT p.val) ∧
      sameFields (Reg.LNK.REPLAY_CNT p.val :: eventFields (Err.LNK.REPLAY p.val)) s t ∧ (∀ k, k ≠ p.val → t.link k = s.link k)) ∧
  (∀ (s : State) (p : Fin 16), s.running = true → s.linkUp p.val = true → (s.link p.val).down = .none → 8 ≤ (s.link p.val).expiries →
    exec (.linkNoProgress p) s = .next (s.downFor p.val 1 (s.link p.val).oldest)) ∧
  (∀ (s : State) (p : Fin 16), s.fansFrom p.val = [] → s.replayDue p.val = false → exec (.shellReplayTimeout p) s = .next s) ∧
  (∀ (s : State) (p : Fin 16), (s.link p.val).expiries < 8 → exec (.linkNoProgress p) s = .next s) ∧
  (∀ (s : State) (p : Fin 16), s.running = true → s.linkUp p.val = true → (s.link p.val).down = .none → 16 ≤ (s.link p.val).losRun →
    exec (.linkLos p) s = .next (s.downFor p.val 2 (s.link p.val).oldest)) ∧
  (∀ (s : State) (p : Fin 16), (s.link p.val).losRun < 16 → exec (.linkLos p) s = .next s) ∧
  (∀ (s : State) (p : Fin 16) (tag : BitVec 4) (arg : BitVec 48), s.running = true → s.linkState p.val = 6 → (s.link p.val).down = .none →
    exec (.reset p tag arg) s = .next (s.downFor p.val 3 (s.link p.val).oldest)) ∧
  (∀ (s : State) (p : Fin 16) (op : Byte), s.running = true → s.linkUp p.val = true → (s.link p.val).down = .none →
    0x3A ≤ op.toNat ∨ op.toNat ∈ [4, 15, 0x16, 0x17, 0x19, 0x1F, 0x22, 0x27, 0x2B, 0x2F, 0x32, 0x37] →
    exec (.reservedControlOp p op) s = .next (s.downFor p.val 5 (s.link p.val).rxNext.toNat)) ∧
  (∀ (s : State) (p : Fin 16), s.running = true → s.linkUp p.val = true → (s.link p.val).down = .none → (s.link p.val).frozenAt = .none →
    (∃ o ∈ (s.link p.val).ops, o.sent = true ∧ o.first + 16 * 1280 ≤ s.absCycle) →
    exec (.ctrlTimeout p) s = .next (s.downFor p.val 6 (s.link p.val).oldest)) ∧
  (∀ (s : State) (p : Fin 16), (s.link p.val).frozenAt ≠ .none ∨ (∀ o ∈ (s.link p.val).ops, o.sent = true → s.absCycle < o.first + 16 * 1280) →
    exec (.ctrlTimeout p) s = .next s) ∧
  (∀ (s : State) (via : Path) (p : Fin 16) (d : Word), s.deaf via = false → s.locked via (0x040 + p.val) = false → d.getLsbD 8 = true →
    s.linkUp p.val = true → (s.link p.val).down = .none → ∃ t : State, exec (.linkDisable via p d) s = .next t ∧
      t.rd (Reg.LNK.CTRL_DISABLE p.val) = 1 ∧ t.linkState p.val = s.linkState p.val ∧
      t = { s.downFor p.val 7 (s.link p.val).oldest with regs := t.regs }) ∧
  (∀ (s : State) (p : Fin 16), s.running = true → s.linkState p.val = 8 → (s.link p.val).down = .none → (s.link p.val).since + 2048 ≤ s.now →
    exec (.drainTimeout p) s = .next (s.downFor p.val 14 (s.link p.val).oldest)) ∧
  (∀ (s : State) (p : Fin 16), s.now < (s.link p.val).since + 2048 → exec (.drainTimeout p) s = .next s) ∧
  (∀ (s : State) (p : Fin 16) (f : LinkFault), s.running = true → s.linkUp p.val = true → (s.link p.val).down = some f → 16 ≤ (s.link p.val).losRun →
    (f.at_ = s.now → 2 < f.reason → exec (.linkLos p) s = .next (s.downFor p.val 2 (s.link p.val).oldest)) ∧
    (f.at_ ≠ s.now ∨ f.reason ≤ 2 → exec (.linkLos p) s = .next s)) ∧
  (∀ (s : State) (p : Fin 16) (f : LinkFault), s.running = true → s.linkUp p.val = true → (s.link p.val).down = some f → f.reason < 15 →
    s.clk.cycle = 0 → f.at_ < s.now → s.slotOfFibre p.val = .none → s.returnsFan p.val = false → s.cox.jobs = [] → s.cox.bw = [] → s.runs.rounds = [] →
    (s.laneSt p.val).rxWait = [] → ∃ u : State, exec (.linkDown p) s = .next u.settle ∧
      u.linkState p.val = (if s.flag (Reg.LNK.CTRL_DISABLE p.val) then 0 else 7) ∧ u.rd (Reg.LNK.STAT_REASON p.val) = f.reason ∧
      u.shows (Err.LNK.LINK_DOWN p.val) = true ∧
      u.rd (Reg.LNK.LINK_CNT_DOWN p.val) = (s.bump (Reg.LNK.LINK_CNT_DOWN p.val)).rd (Reg.LNK.LINK_CNT_DOWN p.val) ∧
      u.rd (Reg.LNK.STAT_PAUSE p.val) = 0 ∧ (u.link p.val).replay = [] ∧ (u.link p.val).stream = [] ∧
      (u.link p.val).queues = [[], [], [], []] ∧ (u.link p.val).rxMsgs = [] ∧ (u.link p.val).ops = [] ∧ (u.link p.val).down = .none ∧
      (u.link p.val).rxReserved = 0 ∧ (∀ k, k ≠ p.val → u.link k = s.link k)) ∧
  (∀ (s : State) (p : Fin 16), (s.link p.val).down = .none ∨ s.clk.cycle ≠ 0 → exec (.linkDown p) s = .next s)

/-- R280, R296 to R300: an operation of the peer acts once and is answered at every copy: a dropped lane has no seat, an added or swapped one is on the line named, if
that line is free, else REFUSED; requests wait for the next Finish; a lane that does not exist is malformed; an answer ends the operation it names, a moved lane's old line stops
at the shell boundary after it, and a refused LANE_ADD is tried again. -/
def Obligations.LanesMoveInBand : Prop :=
  (∀ (s : State) (p : Fin 16) (tag : BitVec 4) (arg : BitVec 48), s.running = true → s.linkUp p.val = true → bits arg.toNat 4 0 < 16 →
    (s.laneSt p.val).rxWait = [] → s.freshOp p.val 0x10 tag.toNat = true → ∃ t : State, exec (.laneDrop p tag arg) s = .next t ∧
      (t.laneSt p.val).rxMap = setAt (s.laneSt p.val).rxMap (bits arg.toNat 4 0) noSeat ∧ (t.laneSt p.val).txMap = (s.laneSt p.val).txMap ∧
      (t.link p.val).words = (s.link p.val).words ++ [s.answerWord p.val 0x10 tag.toNat false] ∧
      t.freshOp p.val 0x10 tag.toNat = false ∧ (∀ k, k ≠ p.val → t.link k = s.link k ∧ t.laneSt k = s.laneSt k) ∧
      t = { s with lanes := t.lanes, links := t.links }) ∧
  (∀ (s : State) (p : Fin 16) (tag : BitVec 4) (arg : BitVec 48) (r : Bool), s.running = true → s.linkUp p.val = true →
    bits arg.toNat 4 0 < 16 → (s.link p.val).answered = [(0x10, tag.toNat, r)] → ∃ t : State, exec (.laneDrop p tag arg) s = .next t ∧
      t = s.setLink p.val { s.link p.val with words := (s.link p.val).words ++ [s.answerWord p.val 0x10 tag.toNat r] }) ∧
  (∀ (s : State) (p : Fin 16) (tag : BitVec 4) (arg : BitVec 48), s.running = true → s.linkUp p.val = true → bits arg.toNat 4 0 < 16 →
    (s.laneSt p.val).rxWait = [] → s.freshOp p.val 0x11 tag.toNat = true → s.freshOp p.val 0x12 tag.toNat = true →
    s.rxFree p.val (bits arg.toNat 12 8) = true → ∃ t u : State, exec (.laneAdd p tag arg) s = .next t ∧ exec (.laneSwap p tag arg) s = .next u ∧
      t.laneSt p.val = { s.laneSt p.val with rxMap := setAt (s.laneSt p.val).rxMap (bits arg.toNat 4 0) (bits arg.toNat 12 8) } ∧
      u.laneSt p.val = t.laneSt p.val ∧ (t.link p.val).words = (s.link p.val).words ++ [s.answerWord p.val 0x11 tag.toNat false] ∧
      (u.link p.val).words = (s.link p.val).words ++ [s.answerWord p.val 0x12 tag.toNat false] ∧
      t = { s with lanes := t.lanes, links := t.links } ∧ u = { s with lanes := u.lanes, links := u.links }) ∧
  (∀ (s : State) (p : Fin 16) (tag : BitVec 4) (arg : BitVec 48), s.running = true → s.linkUp p.val = true → bits arg.toNat 4 0 < 16 →
    s.freshOp p.val 0x11 tag.toNat = true → s.freshOp p.val 0x12 tag.toNat = true → s.rxFree p.val (bits arg.toNat 12 8) = false →
    ∃ t u : State, exec (.laneAdd p tag arg) s = .next t ∧ exec (.laneSwap p tag arg) s = .next u ∧
      (t.link p.val).words = (s.link p.val).words ++ [s.answerWord p.val 0x11 tag.toNat true] ∧
      (u.link p.val).words = (s.link p.val).words ++ [s.answerWord p.val 0x12 tag.toNat true] ∧
      t = { s with links := t.links } ∧ u = { s with links := u.links }) ∧
  (∀ (s : State) (p : Fin 16) (tag : BitVec 4) (arg : BitVec 48), s.running = true → s.linkUp p.val = true → 16 ≤ bits arg.toNat 4 0 →
    (s.link p.val).down = .none → ∀ c ∈ [Instr.laneDrop p tag arg, .laneAdd p tag arg, .laneSwap p tag arg, .dropReq p tag arg,
      .swapReq p tag arg], exec c s = .next (s.downFor p.val 5 (s.link p.val).rxNext.toNat)) ∧
  (∀ (s : State) (p : Fin 16) (tag : BitVec 4) (arg : BitVec 48), s.running = true → s.linkUp p.val = true → bits arg.toNat 4 0 < 16 →
    s.litSlot p.val = .none → (s.laneSt p.val).due = [] → s.freshOp p.val 0x13 tag.toNat = true → s.freshOp p.val 0x15 tag.toNat = true →
    ∃ t u : State, exec (.dropReq p tag arg) s = .next t ∧ exec (.swapReq p tag arg) s = .next u ∧
      t.laneSt p.val = { s.laneSt p.val with due := [⟨bits arg.toNat 4 0, .drop, noCause .peer⟩] } ∧
      u.laneSt p.val = { s.laneSt p.val with due := [⟨bits arg.toNat 4 0, .move, noCause .peer⟩] } ∧
      (t.link p.val).words = (s.link p.val).words ++ [s.answerWord p.val 0x13 tag.toNat false] ∧
      (u.link p.val).words = (s.link p.val).words ++ [s.answerWord p.val 0x15 tag.toNat false] ∧
      t = { s with lanes := t.lanes, links := t.links } ∧ u = { s with lanes := u.lanes, links := u.links }) ∧
  (∀ (s : State) (p : Fin 16) (tag : BitVec 4) (arg : BitVec 48), s.linkUp p.val = false →
    ∀ c ∈ [Instr.laneDrop p tag arg, .laneAdd p tag arg, .laneSwap p tag arg, .dropReq p tag arg, .swapReq p tag arg],
      exec c s = .next s) ∧
  (∀ (s : State) (p : Fin 16) (tag : BitVec 4) (arg : BitVec 48), s.takesWords p.val = true → ∃ t : State, exec (.rxSeats p tag arg) s = .next t ∧
    t.laneSt p.val = { s.laneSt p.val with peerSpare := BitVec.ofNat 18 arg.toNat } ∧ (∀ k, k ≠ p.val → t.laneSt k = s.laneSt k) ∧
    t = { s with lanes := t.lanes }) ∧
  (∀ (s : State) (p : Fin 16) (tag : BitVec 4) (arg : BitVec 48) (o : CtrlOp), s.takesWords p.val = true → s.litSlot p.val = .none →
    (s.link p.val).ops = [o] → o.sent = true → o.op = 0x12 → bits arg.toNat 7 0 = 0x12 → bits arg.toNat 11 8 = o.tag →
    bitAt arg.toNat 40 = false → o.cause.why = .restore → (s.laneSt p.val).swaps = [⟨bits o.arg.toNat 4 0, bits o.arg.toNat 12 8, .none⟩] →
    ∃ u : State, exec (.response p tag arg) s = .next u.settle ∧ (u.link p.val).ops = [] ∧
      (u.laneSt p.val).txMap = (s.laneSt p.val).txMap ∧ ((u.swapsEnd p.val).laneSt p.val).txMap =
        setAt (s.laneSt p.val).txMap (bits o.arg.toNat 4 0) (bits o.arg.toNat 12 8) ∧ ((u.swapsEnd p.val).laneSt p.val).swaps = [] ∧
      u.recs = s.recs) ∧
  (∀ (s : State) (p : Fin 16) (tag : BitVec 4) (arg : BitVec 48) (o : CtrlOp), s.takesWords p.val = true → s.litSlot p.val = .none →
    (s.link p.val).ops = [o] → o.sent = true → o.op = 0x12 → bits arg.toNat 7 0 = 0x12 → bits arg.toNat 11 8 = o.tag →
    bitAt arg.toNat 40 = true → o.cause.why = .peer → (s.laneSt p.val).swaps = [⟨bits o.arg.toNat 4 0, bits o.arg.toNat 12 8, .none⟩] →
    ∃ u : State, exec (.response p tag arg) s = .next u.settle ∧ (u.laneSt p.val).swaps = [] ∧
      (u.laneSt p.val).txMap = setAt (s.laneSt p.val).txMap (bits o.arg.toNat 4 0) noSeat ∧
      (∃ x, (u.link p.val).ops = [x] ∧ x.op = 0x10 ∧ x.sent = false ∧ bits x.arg.toNat 4 0 = bits o.arg.toNat 4 0)) ∧
  (∀ (s : State) (p : Fin 16) (tag : BitVec 4) (arg : BitVec 48) (o : CtrlOp), s.takesWords p.val = true → s.litSlot p.val = .none →
    (s.link p.val).ops = [o] → o.sent = true → o.op = 0x11 → bits arg.toNat 7 0 = 0x11 → bits arg.toNat 11 8 = o.tag →
    bitAt arg.toNat 40 = true → ∃ u : State, exec (.response p tag arg) s = .next u.settle ∧ (u.link p.val).ops = [] ∧
      (u.laneSt p.val).txMap = (s.laneSt p.val).txMap ∧ (u.laneSt p.val).missing = (s.laneSt p.val).missing.map fun (m : Missing) =>
        if m.lane = bits o.arg.toNat 4 0 then { m with adding := false, chosen := some (bits o.arg.toNat 12 8), retry := true } else m) ∧
  (∀ (s : State) (p : Fin 16) (tag : BitVec 4) (arg : BitVec 48), s.takesWords p.val = true → s.litSlot p.val = .none →
    (s.link p.val).ops = [] → exec (.response p tag arg) s = .next s.settle)

/-- R301 to R306, R390: pauses and drains of a link by its peer, and the training states with the conditions, words and time limits on which each ends. -/
def Obligations.LinksTrainAndDrain : Prop :=
  (∀ (s : State) (p : Fin 16) (tag : BitVec 4) (arg : BitVec 48), s.running = true → s.linkUp p.val = true →
    (s.link p.val).peerPausedAt = .none → (s.link p.val).frozenAt = .none → ∃ t : State, exec (.pause p tag arg) s = .next t ∧
      bitAt (t.rd (Reg.LNK.STAT_PAUSE p.val)) 2 = true ∧ t.link p.val = { s.link p.val with peerPausedAt := some s.now, frozenAt := some s.absCycle } ∧
      (∀ k, k ≠ p.val → t.link k = s.link k) ∧ sameFields [Reg.LNK.STAT_PAUSE p.val] s t ∧ t = { s with regs := t.regs, links := t.links }) ∧
  (∀ (s : State) (p : Fin 16) (tag : BitVec 4) (arg : BitVec 48), s.running = true → s.linkUp p.val = true → ∃ t : State,
    exec (.resume p tag arg) s = .next t ∧ bitAt (t.rd (Reg.LNK.STAT_PAUSE p.val)) 2 = false ∧ (t.link p.val).peerPausedAt = .none ∧
      (s.rd (Reg.LNK.STAT_PAUSE p.val) = 4 → (t.link p.val).frozenAt = .none) ∧
      (∀ a : Nat, s.rd (Reg.LNK.STAT_PAUSE p.val) = 4 → (s.link p.val).frozenAt = some a →
        (t.link p.val).timer = (s.link p.val).timer + (s.absCycle - max a (s.link p.val).timer)) ∧ sameFields [Reg.LNK.STAT_PAUSE p.val] s t) ∧
  (∀ (s : State) (p : Fin 16) (a : Nat), s.running = true → (s.link p.val).peerPausedAt = some a → a + 64 ≤ s.now →
    ∃ t : State, exec (.pauseLong p) s = .next t ∧ t.shows (Err.LNK.PAUSE_LONG p.val) = true ∧ (t.link p.val).peerPausedAt = .none ∧
      bitAt (t.rd (Reg.LNK.STAT_PAUSE p.val)) 2 = false) ∧
  (∀ (s : State) (p : Fin 16) (a : Nat), (s.link p.val).peerPausedAt = some a → s.now < a + 64 → exec (.pauseLong p) s = .next s) ∧
  (∀ (s : State) (p : Fin 16) (tag : BitVec 4) (arg : BitVec 48), s.running = true → s.linkState p.val = 6 →
    s.freshOp p.val 0x28 tag.toNat = true → ∃ t : State, exec (.drainReq p tag arg) s = .next t ∧ t.linkState p.val = 8 ∧
      (t.link p.val).since = s.now ∧ (t.link p.val).words = (s.link p.val).words ++ [s.answerWord p.val 0x28 tag.toNat false] ∧
      sameFields [Reg.LNK.STAT_STATE p.val] s t ∧ t = { s with regs := t.regs, links := t.links }) ∧
  (∀ (s : State) (p : Fin 16) (tag : BitVec 4) (arg : BitVec 48), s.running = true → s.linkState p.val = 8 →
    ((s.link p.val).drainedTx = false → exec (.drained p tag arg) s = .next (s.setLink p.val { s.link p.val with drainedRx := true })) ∧
    ((s.link p.val).drainedTx = true → (s.laneSt p.val).rxWait = [] → ∃ t : State, exec (.drained p tag arg) s = .next t ∧
      t.linkState p.val = 1 ∧ (t.link p.val).resetLeft = 4 ∧ (t.link p.val).ops = [])) ∧
  (∀ (s : State) (p : Fin 16), s.running = true → s.linkState p.val = 8 → (s.link p.val).replay = [] →
    (s.link p.val).stream = [] ∨ (s.link p.val).padded = true → (s.link p.val).drainedTx = false → (s.link p.val).drainedRx = false → exec (.drainedSend p) s = .next (s.setLink p.val
      { s.link p.val with drainedTx := true, words := (s.link p.val).words ++ [ctrlWord 0x29 0 0] })) ∧
  (∀ (s : State) (p : Fin 16), (s.link p.val).replay ≠ [] ∨ ((s.link p.val).stream ≠ [] ∧ (s.link p.val).padded = false) →
    exec (.drainedSend p) s = .next s) ∧
  (∀ (s : State) (p : Fin 16) (tag : BitVec 4) (arg : BitVec 48), s.running = true →
    (s.linkState p.val ∈ [2, 3, 4, 5] → ∃ t : State, exec (.reset p tag arg) s = .next t ∧ t.linkState p.val = 1 ∧ (t.link p.val).since = s.now) ∧
    (s.linkState p.val ∈ [0, 1, 7, 8] → exec (.reset p tag arg) s = .next s)) ∧
  (∀ (s : State) (via : Path) (p : Fin 16) (d : Word), s.deaf via = false → s.locked via (0x040 + p.val) = false → d.getLsbD 8 = false →
    d.getLsbD 10 = false → d.getLsbD 9 = true → s.linkState p.val = 0 ∨ s.linkState p.val = 7 →
    ∃ t : State, exec (.linkRetrain via p d) s = .next t ∧ t.rd (Reg.LNK.CTRL_DISABLE p.val) = 0 ∧
      (s.slotOfFibre p.val = .none → t.linkState p.val = 1 ∧ (t.link p.val).since = s.now ∧ (t.link p.val).ops = []) ∧
      (s.slotOfFibre p.val ≠ .none → t.linkState p.val = s.linkState p.val ∧ t.rd (Reg.LNK.CTRL_RETRAIN p.val) = 1 ∧ t.links = s.links)) ∧
  (∀ (s : State) (via : Path) (p : Fin 16) (d : Word), s.deaf via = false → s.locked via (0x040 + p.val) = false → d.getLsbD 8 = false →
    d.getLsbD 10 = true → s.linkState p.val = 6 → ∃ t : State, exec (.linkReset via p d) s = .next t ∧ t.linkState p.val = 8 ∧
      (t.link p.val).since = s.now ∧ (∃ o, (t.link p.val).ops = (s.link p.val).ops ++ [o] ∧ o.op = 0x28 ∧ o.sent = false) ∧
      t = { s with regs := t.regs, links := t.links }) ∧
  (∀ (s : State) (via : Path) (p : Fin 16) (d : Word), s.deaf via = false → s.locked via (0x040 + p.val) = false → d.getLsbD 8 = true →
    s.linkUp p.val = false → ∃ t : State, exec (.linkDisable via p d) s = .next t ∧ t.rd (Reg.LNK.CTRL_DISABLE p.val) = 1 ∧
      t.linkState p.val = 0 ∧ (s.linkState p.val ≠ 0 → (t.link p.val).ops = [] ∧ (t.link p.val).rxReserved = 0) ∧
      t = { s with regs := t.regs, links := t.links, synths := t.synths }) ∧
  (∀ (s : State) (p : Fin 16), s.running = true → s.safe = false → s.linkState p.val = 7 → s.rd (Reg.LNK.CTRL_AUTO_RETRAIN p.val) = 1 →
    s.rd (Reg.LNK.CTRL_DISABLE p.val) = 0 → s.slotOfFibre p.val = .none →
    ((s.link p.val).since + 64 ≤ s.now → ∃ t : State, exec (.autoRetrain p) s = .next t ∧ t.linkState p.val = 1 ∧ (t.link p.val).since = s.now) ∧
    (s.now < (s.link p.val).since + 64 → exec (.autoRetrain p) s = .next s)) ∧
  (∀ (s : State) (p : Fin 16), s.running = true → s.safe = false → s.linkState p.val = 1 → s.synLocked (s.bankOf p.val) = true →
    s.awaitsRestore p.val = false → s.awaitsPass p.val = false →
    (s.rd (Reg.LNK.LINK_CFG p.val) ≤ s.seatsReady p.val → ∃ t : State, exec (.linkWaitDone p) s = .next t ∧ t.linkState p.val = 2 ∧
      (t.link p.val).since = s.now ∧ (t.link p.val).ops = [] ∧ (t.link p.val).paramsSent = false ∧ sameFields [Reg.LNK.STAT_STATE p.val] s t ∧
      t = { s with regs := t.regs, links := t.links }) ∧
    (s.seatsReady p.val < s.rd (Reg.LNK.LINK_CFG p.val) → exec (.linkWaitDone p) s = .next s)) ∧
  (∀ (s : State) (p : Fin 16) (tag : BitVec 4) (arg : BitVec 48), s.running = true → s.linkState p.val = 3 → bits arg.toNat 1 0 ≠ 3 →
    1 ≤ bits arg.toNat 7 3 → bits arg.toNat 7 3 ≤ 16 → s.freshOp p.val 1 tag.toNat = true → (s.link p.val).paramsSent = false →
    ∃ t : State, exec (.param0 p tag arg) s = .next t ∧ t.rd (Reg.LNK.PEER_ID p.val) = bits arg.toNat 47 16 ∧
      t.rd (Reg.LNK.PEER_INFO_VALID p.val) = 1 ∧ t.rd (Reg.LNK.PEER_INFO_PORT p.val) = bits arg.toNat 11 8 ∧
      t.rd (Reg.LNK.PEER_INFO_POSITION p.val) = bits arg.toNat 13 12 ∧ (t.link p.val).peerRate = bits arg.toNat 1 0 ∧
      (t.link p.val).peerMin = bits arg.toNat 7 3 ∧ t.linkState p.val = 3 ∧
      (t.link p.val).words = (s.link p.val).words ++ [s.answerWord p.val 1 tag.toNat false] ∧ t = { s with regs := t.regs, links := t.links }) ∧
  (∀ (s : State) (p : Fin 16) (tag : BitVec 4) (arg : BitVec 48), s.running = true → s.linkState p.val = 3 → s.freshOp p.val 2 tag.toNat = true →
    (s.link p.val).paramsSent = false → bits arg.toNat 47 41 = 0 → (∀ j < 8, bits arg.toNat (5 * j + 4) (5 * j) < 18) →
    ∃ t : State, exec (.paramMap p tag arg) s = .next t ∧ t.linkState p.val = 3 ∧
      (∀ i < 16, (t.link p.val).peerMap.getD i noSeat = if i / 8 = bits arg.toNat 40 40 then bits arg.toNat (5 * (i % 8) + 4) (5 * (i % 8))
        else (s.link p.val).peerMap.getD i noSeat) ∧
      (t.link p.val).words = (s.link p.val).words ++ [s.answerWord p.val 2 tag.toNat false] ∧ t = { s with links := t.links }) ∧
  (∀ (s : State) (p : Fin 16) (tag : BitVec 4) (arg : BitVec 48) (c : Fin 4), s.running = true → s.linkState p.val = 3 →
    s.freshOp p.val 3 tag.toNat = true → (s.link p.val).paramsSent = false → bits arg.toNat 47 42 = 0 → bits arg.toNat 41 40 = c.val →
    1 ≤ bits arg.toNat 39 24 → bits arg.toNat 39 24 ≤ 256 → 1 ≤ bits arg.toNat 23 0 → bits arg.toNat 23 0 ≤ 256 →
    ∃ t : State, exec (.paramCred p tag arg) s = .next t ∧ t.linkState p.val = 3 ∧
      t.rd (Reg.LNK.CRED_PEER p.val c.val) = bits arg.toNat 39 24 * 2 ^ 20 + bits arg.toNat 23 0 ∧
      sameFields [Reg.LNK.CRED_PEER p.val c.val] s t ∧ t = { s with regs := t.regs, links := t.links }) ∧
  (∀ (s : State) (p : Fin 16) (tag : BitVec 4) (arg : BitVec 48), s.running = true → s.linkState p.val = 3 →
    (bits arg.toNat 1 0 = 3 → ∃ t : State, exec (.param0 p tag arg) s = .next t ∧ t.linkState p.val = 7 ∧
      t.rd (Reg.LNK.STAT_REASON p.val) = 11 ∧ t.shows (Err.LNK.TRAIN_FAIL p.val) = true) ∧
    (bits arg.toNat 4 0 = 18 → ∃ t : State, exec (.paramMap p tag arg) s = .next t ∧ t.linkState p.val = 7 ∧
      t.rd (Reg.LNK.STAT_REASON p.val) = 11) ∧
    (bits arg.toNat 23 0 = 0 → ∃ t : State, exec (.paramCred p tag arg) s = .next t ∧ t.linkState p.val = 7 ∧
      t.rd (Reg.LNK.STAT_REASON p.val) = 11)) ∧
  (∀ (s : State) (p : Fin 16) (tag : BitVec 4) (arg : BitVec 48), s.running = true → s.linkState p.val = 3 → bits arg.toNat 1 0 ≠ 3 →
    1 ≤ bits arg.toNat 7 3 → bits arg.toNat 7 3 ≤ 16 → s.freshOp p.val 1 tag.toNat = true → (s.link p.val).paramsSent = true →
    (s.link p.val).ops = [] → (s.link p.val).peerParams = 126 → mapClashes (s.link p.val).peerMap = false →
    s.rd (Reg.OPT.STAT_RATE (s.bankOf p.val)) ≠ max ((s.link p.val).ownRate) (bits arg.toNat 1 0) →
    (s.link p.val).ownRate < 3 → s.rd (Reg.OPT.STAT_SYN (s.bankOf p.val)) ≠ 3 → ∃ t : State, exec (.param0 p tag arg) s = .next t ∧ t.linkState p.val = 4 ∧
      t.rd (Reg.LNK.STAT_RATE p.val) = max ((s.link p.val).ownRate) (bits arg.toNat 1 0) ∧
      t.rd (Reg.OPT.STAT_SYN (s.bankOf p.val)) = 1 ∧
      t.rd (Reg.OPT.STAT_RATE (s.bankOf p.val)) = max ((s.link p.val).ownRate) (bits arg.toNat 1 0)) ∧
  (∀ (s : State) (p : Fin 16), s.running = true → s.linkState p.val = 5 → 256 ≤ (s.link p.val).trainRx → 256 ≤ (s.link p.val).trainTx →
    ∃ u : State, exec (.linkVerifyDone p) s = .next u.settle ∧ u.linkState p.val = 6 ∧ (u.link p.val).txNext = 0 ∧
      (u.link p.val).txAcked = 0xFFFFFF ∧ (u.link p.val).rxNext = 0 ∧ (u.link p.val).usedHdr = [0, 0, 0, 0] ∧
      (u.link p.val).backData = [0, 0, 0, 0] ∧
      u.rd (Reg.LNK.LINK_CNT_UP p.val) = (s.bump (Reg.LNK.LINK_CNT_UP p.val)).rd (Reg.LNK.LINK_CNT_UP p.val) ∧
      sameFields [Reg.LNK.STAT_STATE p.val, Reg.LNK.LINK_CNT_UP p.val] s u) ∧
  (∀ (s : State) (p : Fin 16), (s.link p.val).trainRx < 256 ∨ (s.link p.val).trainTx < 256 → exec (.linkVerifyDone p) s = .next s) ∧
  (∀ (s : State) (p : Fin 16) (st n r : Nat), s.running = true → s.linkState p.val = st →
    (st, n, r) ∈ [(1, 4096, 9), (2, 256, 10), (3, 64, 11), (5, 16, 13)] → (s.link p.val).since + n ≤ s.now →
    ∃ u : State, exec (.linkTrainingTimeout p) s = .next u.settle ∧ u.linkState p.val = 7 ∧ u.rd (Reg.LNK.STAT_REASON p.val) = r ∧
      u.shows (Err.LNK.TRAIN_FAIL p.val) = true) ∧
  (∀ (s : State) (p : Fin 16), s.now < (s.link p.val).since + 16 → exec (.linkTrainingTimeout p) s = .next s)

/-! ## Fans and the Flume -/

/-- R310 to R312, R380 to R384, R388, R390: a fan received is entered, acknowledged and left in band; a slot's request is checked in the order of Table 11.3; its members are
asked once all is acknowledged, or the entry fails; an exit drains the fan, and members that do not follow lose their links. -/
def Obligations.FansEnterAndLeave : Prop :=
  (∀ (s : State) (p : Fin 16) (tag : BitVec 4) (arg : BitVec 48), s.running = true → s.linkUp p.val = true →
    s.freshOp p.val 0x30 tag.toNat = true → s.rd (Reg.LNK.STAT_RATE p.val) = bits arg.toNat 11 10 → s.flag (Reg.LNK.STAT_FEC p.val) = true →
    s.returnsFan p.val = false → (s.allocate .rxs (s.rxPages p.val)).1 = true → ∃ t : State, exec (.fanEnter p tag arg) s = .next t ∧
      t.rd (Reg.LNK.STAT_FAN_ROLE p.val) = 3 ∧ t.rd (Reg.LNK.FAN_STAT_GROUP p.val) = bits arg.toNat 7 0 ∧
      t.rd (Reg.LNK.FAN_STAT_MEMBERS p.val) = bits arg.toNat 31 16 ∧ (t.link (fanRx p.val)).rxNext = 0 ∧
      (t.link (fanRx p.val)).rxReserved = s.rxPages p.val ∧
      (t.link p.val).words = (s.link p.val).words ++ [ctrlWord 0x18 0 (0x30 + tag.toNat * 2 ^ 8)]) ∧
  (∀ (s : State) (p : Fin 16) (tag : BitVec 4) (arg : BitVec 48), s.running = true → s.linkUp p.val = true →
    s.freshOp p.val 0x30 tag.toNat = true →
    s.rd (Reg.LNK.STAT_RATE p.val) ≠ bits arg.toNat 11 10 ∨ s.flag (Reg.LNK.STAT_FEC p.val) = false ∨ s.returnsFan p.val = true →
    ∃ t : State, exec (.fanEnter p tag arg) s = .next t ∧
      (t.link p.val).words = (s.link p.val).words ++ [s.answerWord p.val 0x30 tag.toNat true] ∧ t = { s with links := t.links }) ∧
  (∀ (s : State) (p : Fin 16) (tag : BitVec 4) (arg : BitVec 48), s.running = true → s.linkUp p.val = true →
    s.freshOp p.val 0x31 tag.toNat = true → s.returnsFan p.val = true → ∃ t : State, exec (.fanExit p tag arg) s = .next t ∧
      t.rd (Reg.LNK.STAT_FAN_ROLE p.val) = 0 ∧ t.rd (Reg.LNK.FAN_STAT_GROUP p.val) = 0 ∧ (t.link (fanRx p.val)).rxReserved = 0 ∧
      sameFields [Reg.LNK.STAT_FAN_ROLE p.val, Reg.LNK.FAN_STAT_GROUP p.val, Reg.LNK.FAN_STAT_MEMBERS p.val,
        Reg.RSV.USED (poolNo .rxs)] s t) ∧
  (∀ (s : State) (p : Fin 16) (tag : BitVec 4) (arg : BitVec 48), s.namesPort p.val (bits arg.toNat 3 0) = false →
    exec (.fanAck p tag arg) s = .next s ∧ exec (.fanCred p tag arg) s = .next s) ∧
  (∀ (s : State) (p : Fin 16) (tag : BitVec 4) (arg : BitVec 48), s.running = true → s.linkUp p.val = true →
    s.namesPort p.val (bits arg.toNat 3 0) = true →
    exec (.fanCred p tag arg) s = .next (s.setLink p.val { s.link p.val with
      backHdr := setAt (s.link p.val).backHdr (bits arg.toNat 5 4) (bits arg.toNat 21 6),
      backData := setAt (s.link p.val).backData (bits arg.toNat 5 4) (bits arg.toNat 45 22) }) ∧
    (seqBehind (BitVec.ofNat 24 (bits arg.toNat 27 4)) (s.link p.val).txAcked ≤ (s.link p.val).replay.length →
      ∃ u : State, exec (.fanAck p tag arg) s = .next u.settle ∧ (u.link p.val).txAcked = BitVec.ofNat 24 (bits arg.toNat 27 4) ∧
        (u.link p.val).replay =
          (s.link p.val).replay.drop (seqBehind (BitVec.ofNat 24 (bits arg.toNat 27 4)) (s.link p.val).txAcked))) ∧
  (∀ (s : State) (k : Fin 8) (p : Fin 16), s.running = true → (s.fanMembers k.val).contains p.val = true → s.fanState k.val ≠ 0 →
    s.linkUp p.val = true →
    ((s.link p.val).down = .none → 8 ≤ Tab.read 0 (s.fan k.val).expiries p.val →
      exec (.fanMemberLost k p) s = .next (s.downFor p.val 1 (s.link (fanTx k.val)).oldest)) ∧
    ((s.link p.val).down = .none → Tab.read 0 (s.fan k.val).expiries p.val < 8 → exec (.fanMemberLost k p) s = .next s) ∧
    (∀ f, (s.link p.val).down = some f → f.at_ < s.now → s.clk.cycle = 0 →
      exec (.fanMemberLost k p) s = .next (s.takeDown p.val f).settle) ∧
    (∀ f, (s.link p.val).down = some f → s.clk.cycle ≠ 0 → exec (.fanMemberLost k p) s = .next s)) ∧
  (∀ (s : State) (via : Path) (k : Fin 8), s.deaf via = false → s.locked via 0x008 = false → ∃ t u : State,
    exec (.fanEnterWrite via k) s = .next t ∧ exec (.fanExitWrite via k) s = .next u ∧
    (s.fanState k.val = 0 → (t.fan k.val).request = true ∧ t.fanState k.val = 0 ∧ u = s) ∧ (s.fanState k.val ≠ 0 → t = s) ∧
    (s.fanState k.val = 4 → u.fanState k.val = 5 ∧ (u.fan k.val).since = s.now) ∧
    (s.fanState k.val ∈ [1, 2, 3] → (u.fan k.val).exitAsked = true ∧ u.fanState k.val = s.fanState k.val) ∧
    (s.fanState k.val ∈ [5, 6] → u = s) ∧ t = { s with flm := t.flm } ∧ u = { s with regs := u.regs, flm := u.flm }) ∧
  (∀ s : State, s.clk.cycle ≠ 0 → exec .fanEntryCheck s = .next s) ∧
  (∀ (s : State) (k : Fin 8), s.running = true → (∀ j < 8, j ≠ k.val → (s.fan j).request = false) → (s.fan k.val).request = true →
    s.clk.cycle = 0 → (s.fan k.val).since < s.now → s.fanState k.val = 0 → ∃ t : State, exec .fanEntryCheck s = .next t ∧
      let members := setBits 16 (s.rd (Reg.FLM.FAN_CFG_MASK k.val))
      let busy := members.any fun p => (s.slotOfFibre p).isSome
      (t.fan k.val).request = false ∧ t.fanState k.val = (if !s.badFanCfg k.val && s.flag Reg.FLM.STAT_FAN_AVAIL && !busy &&
        members.all (fun p => !s.badMember k.val p) then 1 else 0) ∧
      (s.badFanCfg k.val = true → t.rd (Reg.FLM.FAN_STAT_RESULT k.val) = 2) ∧
      (s.badFanCfg k.val = false → s.flag Reg.FLM.STAT_FAN_AVAIL = false → t.rd (Reg.FLM.FAN_STAT_RESULT k.val) = 3) ∧
      (s.badFanCfg k.val = false → s.flag Reg.FLM.STAT_FAN_AVAIL = true → busy = true → t.rd (Reg.FLM.FAN_STAT_RESULT k.val) = 4) ∧
      (s.badFanCfg k.val = false → s.flag Reg.FLM.STAT_FAN_AVAIL = true → busy = false →
        members.all (fun p => !s.badMember k.val p) = false → t.rd (Reg.FLM.FAN_STAT_RESULT k.val) = 5) ∧
      sameFields [Reg.FLM.FAN_STAT_STATE k.val, Reg.FLM.FAN_STAT_RESULT k.val, Reg.FLM.FAN_STAT_MEMBERS k.val, Reg.FLM.FAN_REFUSE k.val] s t ∧
      t = { s with regs := t.regs, flm := t.flm }) ∧
  (∀ (s : State) (k : Fin 8), s.running = true → s.fanState k.val = 1 → (s.fan k.val).refused = [] → 960 ≤ s.clk.cycle →
    (∀ m ∈ s.fanMembers k.val, s.linkUp m = true ∧ (s.link m).replay = [] ∧ (s.link m).stream = []) → ∃ u : State,
      exec (.fanQuiesceDone k) s = .next u.settle ∧ u.fanState k.val = 2 ∧
      (∀ m ∈ s.fanMembers k.val, ∃ o, (u.link m).ops = (s.link m).ops ++ [o] ∧ o.op = 0x30 ∧ o.arg = BitVec.ofNat 48 (s.fanArg k.val)) ∧
      sameFields [Reg.FLM.FAN_STAT_STATE k.val] s u) ∧
  (∀ (s : State) (k : Fin 8), (∃ m ∈ s.fanMembers k.val, (s.link m).replay ≠ []) ∨ s.clk.cycle < 960 →
    exec (.fanQuiesceDone k) s = .next s) ∧
  (∀ (s : State) (k : Fin 8), s.running = true → s.fanState k.val = 1 → s.cox.jobs = [] → s.cox.bw = [] →
    (∀ p < 16, s.rd (Reg.LNK.CTRL_RETRAIN p) = 0) →
    ((s.fan k.val).since + 64 ≤ s.now → ∃ u : State, exec (.fanQuiesceTimeout k) s = .next u.settle ∧ u.fanState k.val = 0 ∧
      u.rd (Reg.FLM.FAN_STAT_RESULT k.val) = 6 ∧ u.rd (Reg.FLM.FAN_STAT_MEMBERS k.val) = 0) ∧
    (s.now < (s.fan k.val).since + 64 → exec (.fanQuiesceTimeout k) s = .next s)) ∧
  (∀ (s : State) (k : Fin 8), s.running = true → s.fanState k.val = 5 → s.fanMembers k.val ≠ [] →
    ((s.link (fanTx k.val)).replay = [] → (s.link (fanTx k.val)).stream = [] → ∃ u : State, exec (.fanDrainDone k) s = .next u.settle ∧
      u.fanState k.val = 6 ∧ (u.fan k.val).endResult = 1 ∧ (u.fan k.val).accepted = s.fanMembers k.val ∧
      (∃ o, (u.link (s.rd (Reg.FLM.FAN_CFG_SOURCE k.val))).ops = (s.link (s.rd (Reg.FLM.FAN_CFG_SOURCE k.val))).ops ++ [o] ∧ o.op = 0x31)) ∧
    ((s.link (fanTx k.val)).replay ≠ [] → exec (.fanDrainDone k) s = .next s)) ∧
  (∀ (s : State) (k : Fin 8) (p : Fin 16), s.running = true → s.fanState k.val = 5 → (s.fanMembers k.val).contains p.val = true →
    s.linkUp p.val = true → (s.link p.val).down = .none → (s.fan k.val).since + 2048 ≤ s.now →
    (Tab.read 0xFFFFFF (s.fan k.val).acks p.val ≠ (s.link (fanTx k.val)).txNext - 1 →
      exec (.fanDrainTimeout k p) s = .next (s.downFor p.val 1 (s.link (fanTx k.val)).oldest)) ∧
    (Tab.read 0xFFFFFF (s.fan k.val).acks p.val = (s.link (fanTx k.val)).txNext - 1 → exec (.fanDrainTimeout k p) s = .next s))

/-- R374 to R378, R391, R393: a base map is refused with its result, or waits its turn; at its stroke it is live; after 32 strokes the change completes, is rolled back,
or, if the rollback fails too, is kept with CONFIG_FAIL. A loop over its threshold is counted, the fifth time asks for an early run; an MZI without readings is held. -/
def Obligations.TheFlumeChanges : Prop :=
  (∀ (s : State) (via : Path) (d : Word), s.deaf via = false → s.locked via 0x008 = false → d.getLsbD 8 = true → d.getLsbD 4 = false →
    ∃ t : State, exec (.flumeApply via d) s = .next t ∧ t.flm.map = s.flm.map ∧
      (s.xbar.dedup.length ≠ 16 → t.rd Reg.FLM.CHG_RESULT = 2 ∧ t.flm = s.flm) ∧
      (s.xbar.dedup.length = 16 → s.xbar ≠ straight → s.flag Reg.FLM.STAT_CROSS_AVAIL = false → t.rd Reg.FLM.CHG_RESULT = 3 ∧ t.flm = s.flm) ∧
      (s.xbar.dedup.length = 16 → s.xbar = straight ∨ s.flag Reg.FLM.STAT_CROSS_AVAIL = true → s.fanMoved s.xbar = true →
        t.rd Reg.FLM.CHG_RESULT = 4 ∧ t.flm = s.flm) ∧
      (s.xbar.dedup.length = 16 → s.xbar = straight ∨ s.flag Reg.FLM.STAT_CROSS_AVAIL = true → s.fanMoved s.xbar = false →
        t.rd Reg.FLM.CHG_RESULT = s.rd Reg.FLM.CHG_RESULT ∧ ∃ c, t.flm.changes = s.flm.changes ++ [c] ∧ c.kind = .base ∧ c.target = s.xbar ∧
          c.start = .none ∧ c.rollback = false)) ∧
  (∀ (s : State) (c : Change) (rest : List Change) (a : Nat), s.running = true → s.safe = false → s.flm.changes = c :: rest → c.start = some a →
    a ≤ s.now → s.clk.cycle = 0 → s.changing = false → ∃ t : State, exec .flumeChangeStart s = .next t ∧ t.rd Reg.FLM.STAT_STATE = 3 ∧
      t.rd Reg.FLM.CHG_PORTS = maskOf c.ports % 2 ^ 16 ∧ t.flm.map = c.target ∧ t.flm.changes = s.flm.changes ∧
      (∀ z < 120, t.mziHeld z = (s.mziHeld z && !Config.mziChanged c.pick z)) ∧ t = { s with regs := t.regs, flm := t.flm }) ∧
  (∀ s : State, s.flm.changes = [] ∨ s.changing = true ∨ s.clk.cycle ≠ 0 → exec .flumeChangeStart s = .next s) ∧
  (∀ (s : State) (c : Change) (rest : List Change) (a : Nat) (ok : Bool), s.running = true → s.safe = false → s.flm.changes = c :: rest →
    c.start = some a → c.kind = .base → s.changing = true → s.clk.cycle = 0 →
    (s.now < a + 32 → exec (.flumeChangeEnd ok) s = .next s) ∧
    (a + 32 ≤ s.now → c.rollback = false → ∃ u : State, exec (.flumeChangeEnd true) s = .next u.settle ∧ u.rd Reg.FLM.STAT_STATE = 2 ∧
      u.rd Reg.FLM.CHG_RESULT = 1 ∧ u.rd Reg.FLM.CHG_CNT_CHANGES = (s.bump Reg.FLM.CHG_CNT_CHANGES).rd Reg.FLM.CHG_CNT_CHANGES ∧
      u.flm.map = s.flm.map ∧ u.flm.changes = rest ∧ u.recs = s.recs ∧
      (∀ p < 16, p ∈ c.ports → bitAt (u.rd (Reg.LNK.STAT_PAUSE p)) 1 = false)) ∧
    (a + 32 ≤ s.now → c.rollback = false → ∃ t : State, exec (.flumeChangeEnd false) s = .next t ∧ t.rd Reg.FLM.STAT_STATE = 4 ∧
      t.flm.map = c.prev ∧ t.flm.changes = { c with start := some s.now, rollback := true } :: rest ∧ t.shows Err.FLM.ROLLBACK = true ∧
      t.rd Reg.FLM.CHG_CNT_ROLLBACKS = (s.bump Reg.FLM.CHG_CNT_ROLLBACKS).rd Reg.FLM.CHG_CNT_ROLLBACKS) ∧
    (a + 32 ≤ s.now → c.rollback = true → ∃ u : State, exec (.flumeChangeEnd ok) s = .next u.settle ∧ u.rd Reg.FLM.STAT_STATE = 2 ∧
      u.rd Reg.FLM.CHG_RESULT = 8 ∧ u.flm.map = s.flm.map ∧ u.flm.changes = rest ∧ (ok = false → u.shows Err.FLM.CONFIG_FAIL = true) ∧
      (ok = true → u.recs = s.recs))) ∧
  (∀ (s : State) (z : Nat) (err : Int), s.running = true → s.safe = false → z < 120 → s.mziHeld z = false → s.ditherPaused z = false →
    s.mziClean z = true → ∃ t : State, exec (.mziDither z err) s = .next t ∧ t.clk.cycle = 319 ∧ (Tab.read MziLoop.reset t.flm.loops z).run =
        (if s.rd Reg.FLM.DRIFT_THRESH < err.natAbs then runUp (Tab.read MziLoop.reset s.flm.loops z).run else 0) ∧
      (∀ y, y ≠ z → Tab.read MziLoop.reset t.flm.loops y = Tab.read MziLoop.reset s.flm.loops y) ∧ t.regs = s.regs) ∧
  (∀ (s : State) (z : Nat) (err : Int), s.mziHeld z = true ∨ s.ditherPaused z = true ∨ s.mziClean z = false ∨ 120 ≤ z →
    exec (.mziDither z err) s = .next s) ∧
  (∀ (s : State) (z : Nat), s.running = true → (Tab.read MziLoop.reset s.flm.loops z).run = 4 → ∃ t : State, exec (.flumeDrift z) s = .next t ∧
    t.flm.runAsked = true ∧ t.shows Err.FLM.DRIFT = true ∧ (Tab.read MziLoop.reset t.flm.loops z).run = 5 ∧
    (Tab.read MziLoop.reset t.flm.loops z).corr = (Tab.read MziLoop.reset s.flm.loops z).corr ∧ sameFields (eventFields Err.FLM.DRIFT) s t) ∧
  (∀ (s : State) (z : Nat), (Tab.read MziLoop.reset s.flm.loops z).run ≠ 4 → exec (.flumeDrift z) s = .next s) ∧
  (∀ (s : State) (ch : Nat), s.running = true → ch < 240 → bitAt (s.rd (Reg.FLM.ISOLATE (ch / 32))) (ch % 32) = false →
    (64 ≤ (s.chan (flumeChanKey ch)).run → ∃ t : State, exec (.mziHeld ch) s = .next t ∧ t.mziHeld (ch / 2) = true ∧
      bitAt (t.rd (Reg.FLM.ISOLATE (ch / 32))) (ch % 32) = true ∧ t.shows Err.FLM.MZI_HELD = true ∧ t.clk.cycle = 159 ∧
      sameFields ([Reg.FLM.HELD (ch / 2 / 32), Reg.FLM.ISOLATE (ch / 32)] ++ eventFields Err.FLM.MZI_HELD) s t) ∧
    ((s.chan (flumeChanKey ch)).run < 64 → exec (.mziHeld ch) s = .next s))

/-! ## Cox and the training runs -/

/-- R317, R318, R321, R325, R326, R351, R355, R357: what a doorbell, the enabling and disabling of queues, the invalidation of cached lines, and writes of a pool's limits
do. -/
def Obligations.QueueRegisterWrites : Prop :=
  (∀ (s : State) (via : Path) (k : Fin 64) (d : Word), s.deaf via = false → s.locked via 0x00A = false → ∃ t : State,
    exec (.iqDoorbell via k d) s = .next t ∧
    (d.toNat % 2 ^ 16 < 2 ^ s.rd (Reg.COX.IQ_CFG_SIZE_LOG2 k.val) → t.rd (Reg.COX.IQ_TAIL k.val) = d.toNat % 2 ^ 16 ∧ t.recs = s.recs ∧
      sameFields [Reg.COX.IQ_TAIL k.val] s t) ∧
    (2 ^ s.rd (Reg.COX.IQ_CFG_SIZE_LOG2 k.val) ≤ d.toNat % 2 ^ 16 → t.shows Err.COX.DOORBELL = true ∧
      sameFields (eventFields Err.COX.DOORBELL) s t) ∧ t.cox = s.cox) ∧
  (∀ (s : State) (via : Path) (k : Fin 64) (d : Word), s.deaf via = false → s.locked via 0x00A = false →
    s.flag (Reg.COX.IQ_CFG_ENABLE k.val) = false → d.getLsbD 0 = true → ∃ t : State, exec (.iqEnable via k d) s = .next t ∧
      t.rd (Reg.COX.IQ_CFG_ENABLE k.val) = 1 ∧ t.rd (Reg.COX.IQ_HEAD k.val) = 0 ∧ t.rd (Reg.COX.IQ_TAIL k.val) = 0 ∧
      t.rd (Reg.COX.IQ_STAT_STOPPED k.val) = 0 ∧ t = { s with regs := t.regs }) ∧
  (∀ (s : State) (via : Path) (k : Fin 64) (d : Word), s.deaf via = false → s.locked via 0x00A = false →
    s.flag (Reg.COX.IQ_CFG_ENABLE k.val) = true → d.getLsbD 0 = false → ∃ t : State, exec (.iqDisable via k d) s = .next t ∧
      t.rd (Reg.COX.IQ_CFG_ENABLE k.val) = 0 ∧ t.rd (Reg.COX.IQ_STAT_STOPPED k.val) = s.rd (Reg.COX.IQ_STAT_STOPPED k.val) ∧
      t.rd (Reg.COX.IQ_HEAD k.val) = s.rd (Reg.COX.IQ_HEAD k.val) ∧
      (Tab.read .none s.cox.slots k.val = .none → t.cox = s.cox) ∧
      (∀ c : Cmd, s.cox.cmds = [c] → Tab.read .none s.cox.slots k.val = some c.id → t.cox.cmds = [] ∧ Tab.read .none t.cox.slots k.val = .none) ∧
      t.recs = s.recs) ∧
  (∀ (s : State) (via : Path) (k : Fin 64) (d : Word), s.deaf via = false → s.locked via 0x00A = false →
    s.flag (Reg.COX.OQ_CFG_ENABLE k.val) = false → d.getLsbD 0 = true → ∃ t : State, exec (.oqEnable via k d) s = .next t ∧
      t.rd (Reg.COX.OQ_CFG_ENABLE k.val) = 1 ∧ t.rd (Reg.COX.OQ_CFG_PHASE k.val) = 1 ∧ t.rd (Reg.COX.OQ_PTR_TAIL k.val) = 0 ∧
      t.rd (Reg.COX.OQ_PTR_HEAD k.val) = 0 ∧ t.oq k.val = ⟨0, (s.oq k.val).period + 1, 0, true, []⟩ ∧
      (∀ j, j ≠ k.val → t.oq j = s.oq j) ∧ t = { s with regs := t.regs, cox := t.cox }) ∧
  (∀ (s : State) (via : Path) (k : Fin 64) (d : Word), s.deaf via = false → s.locked via 0x00A = false → d.getLsbD 0 = false →
    ∃ t : State, exec (.oqDisable via k d) s = .next t ∧ t.rd (Reg.COX.OQ_CFG_ENABLE k.val) = 0 ∧ t = { s with regs := t.regs }) ∧
  (∀ (s : State) (via : Path) (d : Word), s.deaf via = false → s.locked via 0x00A = false → s.rd Reg.COX.CC_STAT = 0 →
    (d.getLsbD 31 = false → ∃ t : State, exec (.ccInvalidateLines via d) s = .next t ∧ t.rd Reg.COX.CC_STAT = 1 ∧ t.cox.cache = s.cox.cache ∧
      t.cox.invalidating = some (some (s.rd Reg.COX.CC_INVAL_HI * 2 ^ 26 + s.rd Reg.COX.CC_INVAL_LO, d.toNat % 2 ^ 16))) ∧
    (d.getLsbD 31 = true → ∃ t : State, exec (.ccInvalidateAll via d) s = .next t ∧ t.rd Reg.COX.CC_STAT = 1 ∧
      t.cox.invalidating = some .none)) ∧
  (∀ (s : State) (via : Path) (d : Word), s.deaf via = false → s.locked via 0x00A = false → s.rd Reg.COX.CC_STAT = 1 →
    exec (.ccInvalidateLines via d) s = .next s ∧ exec (.ccInvalidateAll via d) s = .next s) ∧
  (∀ (s : State) (a n : Nat), s.cox.invalidating = some (some (a, n)) → ∃ t : State, exec .ccInvalidateDone s = .next t ∧
    t.rd Reg.COX.CC_STAT = 0 ∧ t.cox.invalidating = .none ∧
    (∀ l ws, (l, ws) ∈ t.cox.cache ↔ (l, ws) ∈ s.cox.cache ∧ ¬ (a ≤ l ∧ l < a + n)) ∧ sameFields [Reg.COX.CC_STAT] s t) ∧
  (∀ s : State, s.cox.invalidating = some .none → ∃ t : State, exec .ccInvalidateDone s = .next t ∧ t.cox.cache = [] ∧
    t.rd Reg.COX.CC_STAT = 0) ∧
  (∀ (s : State) (via : Path) (pool : Pool) (d : Word), s.deaf via = false → s.locked via 0x009 = false →
    bits d.toNat 28 16 < bits d.toNat 12 0 → bits d.toNat 28 16 ≤ 4096 → bits d.toNat 12 0 ≤ 4096 →
    exec (.poolLimitWrite via pool d) s = .next s) ∧
  (∀ (s : State) (via : Path) (d : Word), s.deaf via = false → s.locked via 0x009 = false → s.safe = true → bits d.toNat 28 16 = 2048 →
    bits d.toNat 12 0 = 0 → s.rd (Reg.RSV.POOL_FLOOR 0) + s.rd (Reg.RSV.POOL_FLOOR 1) + s.rd (Reg.RSV.POOL_FLOOR 3) ≤ 4096 →
    ∃ t : State, exec (.poolLimitWrite via .sts d) s = .next t ∧ t.rd (Reg.RSV.POOL_CEIL 2) = 2048 ∧ t.rd (Reg.RSV.POOL_FLOOR 2) = 0 ∧
      t = { s with regs := t.regs })

/-- R363: a write to VALk_HI sets buoy k to the pair of that write and the path's held lower half (R105); a write to ADD_HI adds the pair to buoy ADD_SEL. -/
def Obligations.BuoyRegisterWrites : Prop :=
  (∀ (s : State) (via : Path) (k : Fin 64) (hi : Word), s.deaf via = false → s.locked via 0x00B = false → ∃ t : State,
    exec (.buoySetWrite via k hi) s = .next t ∧
    (∀ lo, (s.path via).held = some (0x00B * 0x1000 + 0x100 + 8 * k.val, lo) →
      t.buoyVal k.val = BitVec.ofNat 64 (hi.toNat * 2 ^ 32 + lo.toNat) ∧ (t.path via).held = .none) ∧
    ((s.path via).held = .none → t.buoyVal k.val = BitVec.ofNat 64 (hi.toNat * 2 ^ 32)) ∧ (∀ j, j ≠ k.val → t.buoyVal j = s.buoyVal j) ∧
    t.regs = s.regs) ∧
  (∀ (s : State) (via : Path) (hi : Word) (lo : Word), s.deaf via = false → s.locked via 0x00B = false →
    (s.path via).held = some (0x00B * 0x1000 + 0x048, lo) → ∃ t : State, exec (.buoyAddWrite via hi) s = .next t ∧
      t.buoyVal (s.rd Reg.BUO.ADD_SEL) = s.buoyVal (s.rd Reg.BUO.ADD_SEL) + BitVec.ofNat 64 (hi.toNat * 2 ^ 32 + lo.toNat) ∧
      (∀ j, j ≠ s.rd Reg.BUO.ADD_SEL → t.buoyVal j = s.buoyVal j) ∧ (t.path via).held = .none)

/-- R318, R320, R324, R327 to R332, R337, R340, R362, R368, R400, R404, R405, R412, R415, R424: a command whose turn it is leaves its queue, and begins what its opcode
says, waits on its buoy, or completes with the status of the first check it fails. -/
def Obligations.CommandsAreTakenIn : Prop :=
  (∀ (s : State) (k : Fin 64), s.held = true ∨ s.anyActive = false ∨ s.cox.takenAt = some s.time →
    (∀ r ∈ intakeRows k, exec r.1 s = .next s) ∧
    exec (.reservedOpcode (.iq k)) s = .next s ∧ exec .rgtIssue s = .next s) ∧
  (∀ (s t : State) (k : Fin 64) (ws : List DWord), s.gives k ws t → (∀ r ∈ intakeRows k, cOp ws ≠ r.2 → exec r.1 s = .next s) ∧
    (cOp ws < 10 → exec (.reservedOpcode (.iq k)) s = .next s)) ∧
  (∀ (s t : State) (k : Fin 64) (ws : List DWord), s.gives k ws t → t.flag (Reg.COX.OQ_CFG_ENABLE (cOq ws)) = false → t.runs.run = .none →
    ∀ r ∈ intakeRows k, cOp ws = r.2 → ∃ u : State, exec r.1 s = .next u.settle ∧ State.tookFrom k t u ∧ u.cox.cmds = t.cox.cmds ∧
      u.shows Err.COX.OQ_DISABLED = true) ∧
  (∀ (s t : State) (k : Fin 64) (ws : List DWord) (st d : Nat), s.gives k ws t → t.flag (Reg.COX.OQ_CFG_ENABLE (cOq ws)) = true →
    t.verdict ws = .fail st d → 0 < st → t.safe = false → t.cox.cmds = [] →
    (∀ r ∈ intakeRows k, cOp ws = r.2 → ∃ u : State, exec r.1 s = .next u.settle ∧ State.tookFrom k t u ∧ State.completes (cOq ws) t u ∧
      u.rd Reg.COX.FAIL_CNT = (t.bump Reg.COX.FAIL_CNT).rd Reg.COX.FAIL_CNT) ∧
    (opcodes.contains (cOp ws) = false → ∃ u : State, exec (.reservedOpcode (.iq k)) s = .next u.settle ∧ State.tookFrom k t u ∧
      State.completes (cOq ws) t u ∧ u.rd Reg.COX.FAIL_CNT = (t.bump Reg.COX.FAIL_CNT).rd Reg.COX.FAIL_CNT)) ∧
  (∀ (s t : State) (k : Fin 64) (ws : List DWord), s.gives k ws t → t.flag (Reg.COX.OQ_CFG_ENABLE (cOq ws)) = true → t.safe = true →
    t.cox.cmds = [] → ∀ r ∈ intakeRows k, cOp ws = r.2 → ∃ u : State, exec r.1 s = .next u.settle ∧ State.tookFrom k t u ∧
      State.completes (cOq ws) t u) ∧
  (∀ (s t : State) (k : Fin 64) (ws : List DWord) (mask : Nat) (e : List DWord), s.gives k ws t → t.safe = false →
    t.flag (Reg.COX.OQ_CFG_ENABLE (cOq ws)) = true → t.verdict ws = .take mask e → t.cox.cmds = [] →
    (cWait ws = true → ∀ r ∈ intakeRows k, cOp ws = r.2 → cOp ws ≠ 5 → ∃ u : State, exec r.1 s = .next u.settle ∧ State.tookFrom k t u ∧
      (∃ c, u.cox.cmds = [c] ∧ c.phase = .waitBuoy ∧ c.words = ws ∧ Tab.read .none u.cox.slots k.val = some c.id) ∧ u.buoys = t.buoys) ∧
    (cWait ws = false → cOp ws = 9 → ∃ u : State, exec (.fence (.iq k)) s = .next u.settle ∧ State.tookFrom k t u ∧
      (∃ c, u.cox.cmds = [c] ∧ c.phase = .fence ∧ Tab.read .none u.cox.slots k.val = some c.id)) ∧
    (cWait ws = false → cOp ws = 0 → ∃ u : State, exec (.nop (.iq k)) s = .next u.settle ∧ State.tookFrom k t u ∧ u.cox.cmds = [] ∧
      (bitAt (wordAt ws 0) 14 = true → (u.oq (cOq ws)).flight = (t.oq (cOq ws)).flight) ∧
      (bitAt (wordAt ws 0) 14 = false → State.completes (cOq ws) t u)) ∧
    (cWait ws = false → cOp ws = 8 → cRemote ws = false → ∃ u : State, exec (.buoy (.iq k)) s = .next u.settle ∧ State.tookFrom k t u ∧
      u.cox.cmds = [] ∧ u.buoyVal (bits (wordAt ws 3) 5 0) = (if bits (wordAt ws 3) 8 8 = 0 then BitVec.ofNat 64 (wordAt ws 4)
        else t.buoyVal (bits (wordAt ws 3) 5 0) + BitVec.ofNat 64 (wordAt ws 4)) ∧
      (∀ j, j ≠ bits (wordAt ws 3) 5 0 → u.buoyVal j = t.buoyVal j)) ∧
    (cWait ws = false → cOp ws = 0x11 → t.runs.run = .none → ∃ u : State, exec (.rgtStop (.iq k)) s = .next u.settle ∧ State.tookFrom k t u ∧
      u.cox.cmds = [] ∧ u.runs = t.runs)) ∧
  (∀ (s t : State) (k : Fin 64) (ws : List DWord) (mask n : Nat) (e : List DWord), s.gives k ws t → t.safe = false →
    t.flag (Reg.COX.OQ_CFG_ENABLE (cOq ws)) = true → t.verdict ws = .take mask e → t.cox.cmds = [] → t.cox.jobs = [] → cWait ws = false →
    cOp ws = 1 ∨ cOp ws = 2 ∨ cOp ws = 8 ∧ cRemote ws = true →
    (t.choose (cPsel ws) (cGroup ws) mask = .send n → ∃ u : State, (cOp ws = 1 → exec (.send (.iq k) .none) s = .next u.settle) ∧
      (cOp ws = 2 → exec (.fetch (.iq k)) s = .next u.settle) ∧ (cOp ws = 8 → exec (.buoy (.iq k)) s = .next u.settle) ∧
      State.tookFrom k t u ∧ (∃ c j, u.cox.cmds = [c] ∧ c.phase = .running ∧ c.port = some n ∧ c.opened = 1 ∧ u.cox.jobs = [j] ∧ j.cmd = c.id ∧
        j.port = n ∧ j.tc = cTc ws ∧ j.queued = true ∧
        (cOp ws = 1 → j.kind = .send ∧ j.addr = wordAt ws 3 ∧ j.remote = bits (wordAt ws 4) 27 12 ∧ j.len = cLen ws) ∧
        (cOp ws = 2 → j.kind = .fetch ∧ j.remote = wordAt ws 3 ∧ j.addr = wordAt ws 4 ∧ j.len = cLen ws) ∧
        (cOp ws = 8 → j.kind = .buoyOp)) ∧ u.buoys = t.buoys) ∧
    (t.choose (cPsel ws) (cGroup ws) mask = .hold n → t.cox.bw = [] → cOp ws = 1 → ∃ u : State,
      exec (.send (.iq k) .none) s = .next u.settle ∧ State.tookFrom k t u ∧ u.cox.jobs = [] ∧
      ∃ c, u.cox.cmds = [c] ∧ c.phase = .held n (t.now + cHold ws) ∧ u.cox.bw = [c.id]) ∧
    (t.choose (cPsel ws) (cGroup ws) mask = .fail n → cOp ws = 1 → ∃ u : State, exec (.send (.iq k) .none) s = .next u.settle ∧
      State.tookFrom k t u ∧ State.completes (cOq ws) t u)) ∧
  (∀ (s t : State) (k : Fin 64) (ws : List DWord) (mask : Nat) (e : List DWord), s.gives k ws t → t.safe = false →
    t.flag (Reg.COX.OQ_CFG_ENABLE (cOq ws)) = true → t.verdict ws = .take mask e → t.cox.cmds = [] → t.cox.jobs = [] → cWait ws = false →
    (cOp ws = 3 ∨ cOp ws = 4 → e = [] → ∃ u v : State, (cOp ws = 3 → exec (.scatter (.iq k)) s = .next u.settle) ∧
      (cOp ws = 4 → exec (.gather (.iq k)) s = .next u.settle) ∧ State.tookFrom k t v ∧
      ∃ c, v.cox.cmds = [c] ∧ c.phase = .running ∧ c.item = 0 ∧ u = v.hubRead (wordAt ws 3) 32 (fun _ => .list c.id)) ∧
    (cOp ws = 5 → t.runs.rounds = [] → ∃ u : State, exec (.reduce (.iq k)) s = .next u.settle ∧ State.tookFrom k t u ∧
      ∃ c x, u.cox.cmds = [c] ∧ u.runs.rounds = [x] ∧ x.round = bits (wordAt ws 5) 15 0 ∧ x.taken = 1 ∧ x.cmds = [c.id] ∧ x.hasTree = true ∧
        (cWait ws = false → c.phase = .running)) ∧
    (cOp ws = 6 → (t.extent (bits (wordAt ws 5) 11 0)).state = 0 → 0 < cLen ws → ∃ u : State, exec (.stash (.iq k)) s = .next u.settle ∧
      State.tookFrom k t u ∧ (u.extent (bits (wordAt ws 5) 11 0)).state = 1 ∧
      (u.extent (bits (wordAt ws 5) 11 0)).codec = bits (wordAt ws 5) 15 12 ∧ (u.extent (bits (wordAt ws 5) 11 0)).len = cLen ws) ∧
    (cOp ws = 7 → bitAt (wordAt ws 5) 22 = false → (t.extent (bits (wordAt ws 5) 11 0)).state = 0 → ∃ u : State,
      exec (.unstash (.iq k)) s = .next u.settle ∧ State.tookFrom k t u ∧ State.completes (cOq ws) t u ∧ u.shows Err.STH.CORRUPT = true ∧
      u.rd Reg.STH.CORRUPT_CNT = (t.bump Reg.STH.CORRUPT_CNT).rd Reg.STH.CORRUPT_CNT) ∧
    (cOp ws = 0x10 → t.runs.run = .none → ∃ u : State, exec (.rgtStart (.iq k)) s = .next u.settle ∧ State.tookFrom k t u ∧
      u.rd Reg.RGT.STAT_STATE = 1 ∧ u.rd Reg.RGT.STAT_ISSUED = 0 ∧ u.rd Reg.RGT.DONE = 0 ∧
      ∃ r, u.runs.run = some r ∧ r.prog = e ∧ r.next = 0 ∧ r.opened = 0 ∧ r.failed = .none ∧ r.stop = .none) ∧
    (cOp ws = 0x18 → t.runs.swap = .none → ∃ u : State, exec (.swap (.iq k)) s = .next u.settle ∧ State.tookFrom k t u ∧
      ∃ w, u.runs.swap = some w ∧ w.failed = bits (wordAt ws 3) 11 0 ∧ w.spare = bits (wordAt ws 3) 27 16 ∧ w.reported = 0 ∧
        w.entryF = (swapWords (e.take 4) (e.drop 4)).1 ∧ w.entryS = (swapWords (e.take 4) (e.drop 4)).2)) ∧
  (∀ (s t : State) (k : Fin 64) (ws : List DWord), s.gives k ws t → cOp ws = 1 → ∃ u : State,
    exec (.send (.iq k) .cacheUe) s = .next u.settle ∧ u.shows Err.COX.CC_UE = true ∧
      u.rd (Reg.COX.IQ_HEAD k.val) = s.rd (Reg.COX.IQ_HEAD k.val) ∧ u.cox.cmds = s.cox.cmds) ∧
  (∀ (s t : State) (ws : List DWord) (r : Run) (mask : Nat) (e : List DWord), s.held = false → s.anyActive = true →
    s.cox.cmds.length < 4096 → s.cox.takenAt ≠ some s.time → s.regattaNext = some ws → s.runs.run = some r → s.touch (s.neededLines ws) = (true, .none, t) →
    t.neededLines ws = s.neededLines ws → t.turn = some 64 → t.safe = false → t.flag (Reg.COX.OQ_CFG_ENABLE (cOq ws)) = true →
    t.verdict ws = .take mask e → cWait ws = true → cOp ws = 1 → (∀ x ∈ t.cox.cmds, x.id ≠ t.cox.nextId) →
    ∃ u : State, exec .rgtIssue s = .next u.settle ∧
      (∃ c, u.cox.cmds = t.cox.cmds ++ [c] ∧ c.src = .regatta ∧ c.words = ws ∧ c.issue = r.next ∧
        Tab.read .none u.cox.slots 64 = some c.id) ∧ u.rd Reg.RGT.STAT_ISSUED = (r.next + 1) % 2 ^ 14 ∧
      u.runs.run = some { r with next := r.next + 1, opened := r.opened + 1 })

/-- R332, R347, R348, R358, R359, R365: what ends a wait: a buoy, the completion of earlier commands, a port that takes commands again, a limit, or a page. -/
def Obligations.WaitsEnd : Prop :=
  (∀ (s : State) (k : Fin 64) (c : Cmd), s.cox.cmds = [c] → Tab.read .none s.cox.slots k.val = some c.id →
    (c.phase = .fence → ∃ u : State, exec (.fenceComplete k) s = .next u.settle ∧ u = s.complete c.id stDone 0 ∧ u.cox.cmds = []) ∧
    (c.phase ≠ .fence → exec (.fenceComplete k) s = .next s) ∧
    (c.phase = .waitBuoy → c.met = true → cOp c.words = 9 → exec (.waitRelease (.iq k)) s = .next (s.setCmd { c with phase := .fence })) ∧
    (c.phase = .waitBuoy → c.met = true → cOp c.words = 0 → ∃ u : State, exec (.waitRelease (.iq k)) s = .next u.settle ∧ u.cox.cmds = []) ∧
    (c.met = false ∨ c.phase ≠ .waitBuoy → exec (.waitRelease (.iq k)) s = .next s)) ∧
  (∀ (s : State) (k : Fin 64) (a c : Cmd), s.cox.cmds = [a, c] → a.src = c.src → a.id < c.id → Tab.read .none s.cox.slots k.val = some c.id →
    exec (.fenceComplete k) s = .next s) ∧
  (∀ (s : State) (c : Cmd) (n d : Nat), s.running = true → s.clk.cycle = 0 → s.cox.cmds = [c] → s.cox.bw = [c.id] → s.cox.jobs = [] →
    c.phase = .held n d → cOp c.words = 1 → cPsel c.words < 16 →
    (s.streamReady n = true → ∃ u : State, exec .backwaterRelease s = .next u.settle ∧ exec .heldExpired s = .next u.settle ∧ u.cox.bw = [] ∧
      ∃ x j, u.cox.cmds = [x] ∧ x.id = c.id ∧ x.phase = .running ∧ x.port = some n ∧ u.cox.jobs = [j] ∧ j.kind = .send ∧ j.port = n) ∧
    (s.streamReady n = false → exec .backwaterRelease s = .next s.settle ∧ (s.now < d → exec .heldExpired s = .next s.settle) ∧
      (d ≤ s.now → ∃ u : State, exec .heldExpired s = .next u.settle ∧ u.cox.bw = [] ∧ u.cox.cmds = [] ∧
        u.rd Reg.COX.EXPIRED_CNT = (s.bump Reg.COX.EXPIRED_CNT).rd Reg.COX.EXPIRED_CNT ∧
        u.rd Reg.COX.FAIL_CNT = (s.bump Reg.COX.FAIL_CNT).rd Reg.COX.FAIL_CNT))) ∧
  (∀ s : State, s.clk.cycle ≠ 0 → exec .backwaterRelease s = .next s ∧ exec .heldExpired s = .next s) ∧
  (∀ (s : State) (j : Job) (c : Cmd) (id a : Nat), s.cox.jobs = [j] → s.cox.cmds = [c] → j.cmd = c.id → j.kind = .stash id → j.waitSince = some a →
    c.phase = .running →
    (s.now < a + s.rd Reg.RSV.WAIT_MAX → exec (.poolExhausted j.id) s = .next s) ∧
    (a + s.rd Reg.RSV.WAIT_MAX ≤ s.now → ∃ u : State, exec (.poolExhausted j.id) s = .next u.settle ∧ u.shows Err.RSV.WAIT_EXPIRED = true ∧
      u.extent id = Extent.reset ∧ u.cox.jobs = [] ∧ u.cox.cmds = [])) ∧
  (∀ (s : State) (n : Nat), s.job n = .none → exec (.poolExhausted n) s = .next s) ∧
  (∀ (s : State) (f : MemFault), s.safe = true → exec (.pageOut f) s = .next s) ∧
  (∀ (s : State) (x : Extent) (id k : Nat) (bs : List Byte), s.safe = false → s.flag Reg.RSV.STAT_PAGING = true → s.runs.pressing = true →
    s.runs.extents = [(id, x)] → x.state = 2 → x.retire = false → x.pages = [(k, bs)] → x.clean = [k] → x.writing = [] →
    ∃ u : State, exec (.pageOut .none) s = .next u.settle ∧ (u.extent id).state = 4 ∧ (u.extent id).pages = [] ∧
      u.rd Reg.RSV.PAGEOUT_CNT = (s.bump Reg.RSV.PAGEOUT_CNT).rd Reg.RSV.PAGEOUT_CNT ∧ u.rd Reg.RSV.STAT_PAGING = 0)

/-- R76, R338 to R342, R364, R416 to R419, R423: a received message is dealt with once its sender's entry is at hand: landed in the sender's window, answered, matched with what
it answers, applied to a buoy or to a round; one from a stale or unknown node is discarded, counted and reported. -/
def Obligations.MessagesAreTaken : Prop :=
  (∀ (s : State) (p : Fin 16), (s.link p.val).rxMsgs = [] → (s.link (fanRx p.val)).rxMsgs = [] →
    ∀ f, ∀ c ∈ [Instr.sendData ⟨p, f⟩, .fetchReq p, .fetchData ⟨p, f⟩, .xferDone p, .buoyOp p, .tallyImg p, .tallyRes p], exec c s = .next s) ∧
  (∀ (s t : State) (p : Fin 16) (m : Msg), (s.link p.val).rxMsgs = [m] → s.checkSender m = (.missing, t) → m.tc < 4 →
    (m.kind = 1 → exec (.sendData ⟨p, .none⟩) s = .next t.settle) ∧ (m.kind = 0x11 → exec (.tallyRes p) s = .next t.settle)) ∧
  (∀ (s t : State) (p : Fin 16) (m : Msg) (e : NodeEntry) (ws : List DWord), (s.link p.val).rxMsgs = [m] → m.tc < 4 → m.kind = 3 →
    s.lookNode m.src.toNat = (.entry e ws, t) → e.state = 1 → e.epoch ≠ m.epoch.toNat → ∃ u : State, exec (.fetchData ⟨p, .none⟩) s = .next u.settle ∧
      (u.link p.val).rxMsgs = [] ∧ u.shows Err.BTH.STALE = true ∧ u.rd Reg.BTH.STALE_CNT = (t.bump Reg.BTH.STALE_CNT).rd Reg.BTH.STALE_CNT ∧
      u.cox.jobs = t.cox.jobs) ∧
  (∀ (s t : State) (p : Fin 16) (m : Msg) (e : NodeEntry), (s.link p.val).rxMsgs = [m] → m.tc < 4 → s.checkSender m = (.ok e, t) →
    (t.link p.val).rxMsgs = [m] →
    (m.kind = 1 → (t.link p.val).landing = Link.reset.landing → (t.link p.val).rxXfers = [] → e.wr = true → m.poison = false → m.data ≠ [] →
      m.data.length ≤ 2048 → 4096 * m.tag.toNat + m.data.length ≤ 4096 * e.pages → ∃ v : State, exec (.sendData ⟨p, .none⟩) s = .next
        (v.hubWrite (e.base + 4096 * m.tag.toNat) m.data false (.land p.val (t.link p.val).nextXfer ((t.link p.val).nextXfer + 1))).settle ∧
        (v.link p.val).rxMsgs = [] ∧ v.regs = t.regs ∧ v.culvs = t.culvs) ∧
    (m.kind = 1 → (t.link p.val).landing = Link.reset.landing → (t.link p.val).rxXfers = [] → (t.link p.val).queues.length = 4 →
      e.wr = false → m.last = true →
      ∃ u : State, exec (.sendData ⟨p, .none⟩) s = .next u.settle ∧ (u.link p.val).rxMsgs = [] ∧ u.culvs = t.culvs ∧
        ∃ d, (u.link p.val).queues.getD 0 [] = (t.link p.val).queues.getD 0 [] ++ [t.mkMsg 4 0 0 true false
          (byteOf stDenied :: byteOf 0 :: byteOf m.tc :: byteOf 0 :: toBytes 4 d)]) ∧
    (m.kind = 2 → (t.link p.val).queues.length = 4 → e.rd = false → ∃ u : State, exec (.fetchReq p) s = .next u.settle ∧ (u.link p.val).rxMsgs = [] ∧
      u.cox.jobs = t.cox.jobs ∧ (u.link p.val).queues.getD 0 [] = (t.link p.val).queues.getD 0 [] ++ [t.mkMsg 4 0 0 true false
        (byteOf stDenied :: byteOf 1 :: byteOf ((m.data.getD 16 0).toNat % 4) :: byteOf (m.tag.toNat % 256) :: toBytes 4 1)]) ∧
    (m.kind = 2 → t.cox.jobs = [] → e.rd = true → 0 < ofBytes ((m.data.drop 8).take 8) →
      ofBytes (m.data.take 8) + ofBytes ((m.data.drop 8).take 8) ≤ 4096 * e.pages → ∃ u : State, exec (.fetchReq p) s = .next u.settle ∧
        (u.link p.val).rxMsgs = [] ∧ ∃ j, u.cox.jobs = [j] ∧ j.kind = .answer (m.tag.toNat % 256) ∧ j.port = p.val ∧
          j.addr = e.base + ofBytes (m.data.take 8) ∧ j.len = ofBytes ((m.data.drop 8).take 8)) ∧
    (m.kind = 3 → ∀ j : Job, t.cox.jobs = [j] → j.kind = .fetch → j.port = p.val → j.fetchId = some (m.tag.toNat % 256) → m.data ≠ [] →
      m.data.length ≤ 2048 → m.poison = false → ∃ v : State, exec (.fetchData ⟨p, .none⟩) s = .next (v.hubWrite (j.addr + j.pos) m.data false
        (.jobWrite j.id (some (p.val, (t.link p.val).nextXfer)))).settle ∧ (v.link p.val).rxMsgs = [] ∧
        ∃ x, v.cox.jobs = [x] ∧ x.pos = j.pos + m.data.length ∧ x.lastIn = m.last) ∧
    (m.kind = 3 → t.cox.jobs = [] → ∃ u : State, exec (.fetchData ⟨p, .none⟩) s = .next u.settle ∧ (u.link p.val).rxMsgs = [] ∧ u.cox = t.cox) ∧
    (m.kind = 4 → ∀ (j : Job) (c : Cmd), t.cox.jobs = [j] → t.cox.cmds = [c] → j.cmd = c.id → j.kind = .send → j.writes = 1 → j.status = .none →
      c.phase = .running → c.begun = true → c.opened = 1 → c.failed = .none → (m.data.getD 0 0).toNat = 0 → (m.data.getD 1 0).toNat = 0 →
      (t.link p.val).unanswered = [(0, (m.data.getD 2 0).toNat, j.id)] → ∃ u : State, exec (.xferDone p) s = .next u.settle ∧
        (u.link p.val).rxMsgs = [] ∧ (u.link p.val).unanswered = [] ∧ u.cox.jobs = [] ∧ u.cox.cmds = []) ∧
    (m.kind = 4 → ∀ (j : Job) (c : Cmd), t.cox.jobs = [j] → t.cox.cmds = [c] → j.cmd = c.id → j.kind = .fetch → j.port = p.val →
      j.fetchId = some (m.data.getD 3 0).toNat → (m.data.getD 1 0).toNat = 1 → j.writes ≠ 0 → ∃ u : State,
        exec (.xferDone p) s = .next u.settle ∧ (u.link p.val).rxMsgs = [] ∧ u.cox.cmds = [c] ∧
          ∃ x, u.cox.jobs = [x] ∧ x.id = j.id ∧ x.lastIn = true ∧ x.writes = j.writes) ∧
    (m.kind = 5 → m.tc = 0 → e.wr = true → ∃ u : State, exec (.buoyOp p) s = .next u.settle ∧ (u.link p.val).rxMsgs = [] ∧
      u.buoyVal ((m.data.getD 0 0).toNat % 64) = (if (m.data.getD 1 0).toNat = 0 then BitVec.ofNat 64 (ofBytes ((m.data.drop 8).take 8))
        else t.buoyVal ((m.data.getD 0 0).toNat % 64) + BitVec.ofNat 64 (ofBytes ((m.data.drop 8).take 8))) ∧
      (∀ k, k ≠ (m.data.getD 0 0).toNat % 64 → u.buoyVal k = t.buoyVal k)) ∧
    (m.kind = 5 → m.tc = 0 → e.wr = false → ∃ u : State, exec (.buoyOp p) s = .next u.settle ∧ u.buoys = t.buoys ∧
      u.rd Reg.BUO.DENIED_CNT = (t.bump Reg.BUO.DENIED_CNT).rd Reg.BUO.DENIED_CNT) ∧
    (m.kind = 0x10 → m.poison = false → t.runs.failedRounds = [] → t.runs.rounds = [] → (t.allocate .tly 1).1 = true →
      ∃ u : State, exec (.tallyImg p) s = .next u.settle ∧ (u.link p.val).rxMsgs = [] ∧ ∃ x, u.runs.rounds = [x] ∧ x.round = m.tag.toNat ∧
        x.isOpen = true ∧ x.hasTree = false ∧ x.early.map (·.1) = [m.src.toNat]) ∧
    (m.kind = 0x10 → m.poison = true → ∃ u : State, exec (.tallyImg p) s = .next u.settle ∧ (u.link p.val).rxMsgs = [] ∧
      u.shows Err.TLY.STRAY = true ∧ u.runs = t.runs) ∧
    (m.kind = 0x11 → t.runs.rounds = [] → ∃ u : State, exec (.tallyRes p) s = .next u.settle ∧ (u.link p.val).rxMsgs = [] ∧
      u.buoys = t.buoys ∧ u.runs = t.runs) ∧
    (m.kind = 0x11 → ∀ x : Round, t.runs.rounds = [x] → x.round = m.tag.toNat → x.children = [] → x.cmds = [] → x.br < 63 → ∃ u : State,
      exec (.tallyRes p) s = .next u.settle ∧ (u.link p.val).rxMsgs = [] ∧ u.runs.rounds = [] ∧
      u.buoyVal x.br = BitVec.ofNat 64 (ofBytes (m.data.take 8)) ∧ u.buoyVal (x.br + 1) = BitVec.ofNat 64 (ofBytes ((m.data.drop 8).take 4)) ∧
      u.rd Reg.TLY.ROUND_CNT_DONE = (t.bump Reg.TLY.ROUND_CNT_DONE).rd Reg.TLY.ROUND_CNT_DONE))

/-- R405, R410, R412, R413, R417, R418, R420, R424: how stashes, restores, rounds and a swap of nodes end, and what retires extents and aborts rounds. -/
def Obligations.RunsEnd : Prop :=
  (∀ (s : State) (n : Nat) (l : List (Nat × Nat)), s.job n = .none →
    exec (.stashEncodeEnd ⟨n, l⟩) s = .next s ∧ exec (.unstashVerify ⟨n, l⟩) s = .next s) ∧
  (∀ (s : State) (j : Job) (c : Cmd) (id : Nat) (x : Extent) (l : List (Nat × Nat)), s.cox.jobs = [j] → s.cox.cmds = [c] → j.cmd = c.id →
    j.kind = .stash id → j.encoded = true → c.phase = .running → s.runs.extents = [(id, x)] → x.state = 1 → x.persist = false → x.retire = false → ∃ u : State,
      exec (.stashEncodeEnd ⟨j.id, l⟩) s = .next u.settle ∧ u.cox.jobs = [] ∧ u.cox.cmds = [] ∧ (u.extent id).state = 2 ∧
      (u.extent id).age = s.runs.nextAge ∧ (u.extent id).clean = [] ∧ (u.extent id).len = x.len ∧
      (((u.extent id).pages.find? (·.1 == 0)).map fun p => p.2.take 64) = some ((s.extHeader id).toBytes.take 64)) ∧
  (∀ (s : State) (j : Job) (l : List (Nat × Nat)), s.cox.jobs = [j] → j.encoded = false → exec (.stashEncodeEnd ⟨j.id, l⟩) s = .next s) ∧
  (∀ (s : State) (j : Job) (c : Cmd), s.cox.jobs = [j] → s.cox.cmds = [c] → j.cmd = c.id → j.kind = .unstash → j.lastIn = true → j.full = true →
    c.phase = .running → readHeader (j.data.take 64) = .none → s.runs.extents = [] → ∃ u : State,
      exec (.unstashVerify ⟨j.id, []⟩) s = .next u.settle ∧ u.cox.jobs = [] ∧ u.cox.cmds = [] ∧ u.shows Err.STH.CORRUPT = true ∧
      u.rd Reg.STH.CORRUPT_CNT = (s.bump Reg.STH.CORRUPT_CNT).rd Reg.STH.CORRUPT_CNT) ∧
  (∀ (s : State) (j : Job) (c : Cmd) (h : ExtHeader), s.cox.jobs = [j] → s.cox.cmds = [c] → j.cmd = c.id → j.kind = .unstash → j.lastIn = true →
    j.full = true → j.status = .none → bitAt (c.w 5) 22 = true → readHeader (j.data.take 64) = some h → h.len ≤ cLen c.words →
    ((j.data.drop 64).take h.clen).length = h.clen → (crc32 ((j.data.drop 64).take h.clen)).toNat = h.crc →
    let bs := decodeStream h.dtype (h.len / 4096 + 1) h.len ((j.data.drop 64).take h.clen)
    bs ≠ [] → ∃ v : State, exec (.unstashVerify ⟨j.id, []⟩) s = .next (v.hubWrite (c.w 4) bs false (.jobWrite j.id .none)).settle ∧
      v.recs = s.recs ∧ ∃ y, v.cox.jobs = [y] ∧ y.id = j.id ∧ y.pos = h.len ∧ y.writes = writeCount (c.w 4) bs.length) ∧
  (∀ (s : State) (via : Path) (id : Nat), s.deaf via = false → s.locked via 0x00D = false → id < 4096 → s.cox.jobs = [] →
    (s.extent id).state ≠ 0 → (s.extent id).writing = [] → ∃ u : State, exec (.extentRetire via id) s = .next u.settle ∧ u.extent id = Extent.reset ∧
      (∀ k, k ≠ id → u.extent k = s.extent k) ∧
      (u.rd (Reg.RSV.USED (poolNo .sts)) = (s.poolUsed .sts - (s.extent id).pages.length) % 2 ^ 17)) ∧
  (∀ (s : State) (via : Path) (id : Nat), s.deaf via = false → s.locked via 0x00D = false → id < 4096 → s.cox.jobs = [] →
    (s.extent id).state = 2 → (s.extent id).writing ≠ [] → ∃ u : State, exec (.extentRetire via id) s = .next u.settle ∧
      u.extent id = { s.extent id with retire := true }) ∧
  (∀ (s : State) (via : Path), s.deaf via = false → s.locked via 0x00D = false → s.cox.jobs = [] →
    (∀ kv ∈ s.runs.extents, kv.2.writing = [] ∧ kv.2.state ≠ 0) → (s.runs.extents.map (·.1)).Nodup → ∃ u : State,
      exec (.extentRetireAll via) s = .next u.settle ∧ ∀ id, u.extent id = Extent.reset) ∧
  (∀ (s : State) (r : Nat), s.round r = .none ∨ s.safe = true → exec (.tallyImgSend r) s = .next s) ∧
  (∀ (s : State) (x : Round), s.runs.rounds = [x] → x.due = true → s.safe = false → x.root = true → x.children = [] → x.cmds = [] → x.br < 63 →
    ∃ u : State, exec (.tallyImgSend x.round) s = .next u.settle ∧ u.runs.rounds = [] ∧
      u.buoyVal x.br = BitVec.ofNat 64 x.acc.norm.1 ∧ u.buoyVal (x.br + 1) = BitVec.ofNat 64 x.acc.norm.2 ∧
      u.rd Reg.TLY.LAST_ROUND = x.round % 2 ^ 16 ∧
      u.rd Reg.TLY.ROUND_CNT_DONE = (s.bump Reg.TLY.ROUND_CNT_DONE).rd Reg.TLY.ROUND_CNT_DONE) ∧
  (∀ (s : State) (x : Round), s.runs.rounds = [x] → x.due = false → exec (.tallyImgSend x.round) s = .next s) ∧
  (∀ (s : State) (via : Path) (x : Round), s.deaf via = false → s.locked via 0x00E = false → s.runs.rounds = [x] → x.round < 2 ^ 16 →
    x.cmds = [] → ∃ u : State, exec (.tallyAbort via x.round) s = .next u.settle ∧ u.runs.rounds = [] ∧
      u.shows Err.TLY.ROUND_FAIL = true ∧ x.round ∈ u.runs.failedRounds ∧
      u.rd Reg.TLY.ROUND_CNT_FAILED = (s.bump Reg.TLY.ROUND_CNT_FAILED).rd Reg.TLY.ROUND_CNT_FAILED ∧ u.buoys = s.buoys) ∧
  (∀ s : State, s.runs.swap = .none → exec .swapLive s = .next s) ∧
  (∀ (s : State) (w : SwapRun) (a : Nat) (c : Cmd), s.running = true → s.clk.cycle = 0 → s.runs.swap = some w → w.ready = some a → a < s.now →
    s.cox.cmds = [c] → c.id = w.cmd → c.phase = .running → needsDest c.words = false → s.runs.rounds = [] → ∃ u : State,
      exec .swapLive s = .next u.settle ∧ u.runs.swap = .none ∧ u.cox.cmds = [] ∧ u.rd Reg.BTH.LAST_SWAP_FAILED = w.failed % 2 ^ 12 ∧
      u.rd Reg.BTH.LAST_SWAP_SPARE = w.spare % 2 ^ 12 ∧ u.rd Reg.BTH.LAST_SWAP_EPOCH = w.epoch % 2 ^ 8 ∧
      u.rd Reg.BTH.SWAP_CNT = (s.bump Reg.BTH.SWAP_CNT).rd Reg.BTH.SWAP_CNT) ∧
  (∀ (s : State) (w : SwapRun) (a : Nat), s.runs.swap = some w → w.ready = some a → s.now ≤ a ∨ s.clk.cycle ≠ 0 → exec .swapLive s = .next s)
end

