-- ==== Sys2Proof/Laws/Tab.lean ====
section
/-! SUPPORT. The laws of the sparse table: a read after a write, and that a write keeps the canonical form. -/

namespace Sys2Proof

theorem Tab.read_erase_same {α : Type} (d : α) (t : Tab α) (k : Nat) : Tab.read d (t.erase k) k = d := by
  induction t with
  | nil => rfl
  | cons e rest ih =>
    obtain ⟨j, v⟩ := e
    by_cases h : j = k
    · simpa [Tab.erase, h] using ih
    · have h' : ¬ k = j := fun x => h x.symm
      simpa [Tab.erase, h, h', Tab.read] using ih

theorem Tab.read_erase_ne {α : Type} (d : α) (t : Tab α) {k k' : Nat} (h : k ≠ k') : Tab.read d (t.erase k) k' = Tab.read d t k' := by
  induction t with
  | nil => rfl
  | cons e rest ih =>
    obtain ⟨j, v⟩ := e
    by_cases hj : j = k
    · have h' : ¬ k' = k := fun x => h x.symm
      simpa [Tab.erase, hj, Tab.read, h'] using ih
    · simp only [Tab.erase, List.filter_cons, bne_iff_ne, ne_eq, hj, not_false_eq_true, if_true, Tab.read] at *
      rw [ih]

theorem Tab.read_insert_same {α : Type} (d : α) (t : Tab α) (k : Nat) (v : α) (h : ∀ e ∈ t, e.1 ≠ k) :
    Tab.read d (t.insert k v) k = v := by
  induction t with
  | nil => simp [Tab.insert, Tab.read]
  | cons e rest ih =>
    obtain ⟨j, w⟩ := e
    by_cases hk : k < j
    · simp [Tab.insert, hk, Tab.read]
    · have hj : ¬ k = j := fun x => h (j, w) (by simp) x.symm
      simp only [Tab.insert, hk, if_false, Tab.read, hj]
      exact ih fun e he => h e (by simp [he])

theorem Tab.read_insert_ne {α : Type} (d : α) (t : Tab α) {k k' : Nat} (v : α) (h : k ≠ k') :
    Tab.read d (t.insert k v) k' = Tab.read d t k' := by
  have h' : ¬ k' = k := fun x => h x.symm
  induction t with
  | nil => simp [Tab.insert, Tab.read, h']
  | cons e rest ih =>
    obtain ⟨j, w⟩ := e
    by_cases hk : k < j
    · simp [Tab.insert, hk, Tab.read, h']
    · simp only [Tab.insert, hk, if_false, Tab.read, ih]

theorem Tab.erase_keys {α : Type} (t : Tab α) (k : Nat) : ∀ e ∈ t.erase k, e.1 ≠ k := by
  intro e he
  have := (List.mem_filter.mp he).2
  simpa using this

/-- A read of the key written gives the value written. -/
@[simp] theorem Tab.read_write_same {α : Type} [DecidableEq α] (d : α) (t : Tab α) (k : Nat) (v : α) :
    Tab.read d (Tab.write d t k v) k = v := by
  unfold Tab.write
  split
  · rename_i h; rw [h]; exact Tab.read_erase_same d t k
  · exact Tab.read_insert_same d _ k v (Tab.erase_keys t k)

/-- A write leaves every other key alone. -/
theorem Tab.read_write_ne {α : Type} [DecidableEq α] (d d' : α) (t : Tab α) {k k' : Nat} (v : α) (h : k ≠ k') :
    Tab.read d' (Tab.write d t k v) k' = Tab.read d' t k' := by
  unfold Tab.write
  split
  · exact Tab.read_erase_ne d' t h
  · rw [Tab.read_insert_ne d' _ v h, Tab.read_erase_ne d' t h]

/-- A read after a write, of any key. -/
theorem Tab.read_write {α : Type} [DecidableEq α] (d : α) (t : Tab α) (k k' : Nat) (v : α) :
    Tab.read d (Tab.write d t k v) k' = if k = k' then v else Tab.read d t k' := by
  split
  · rename_i h; subst h; exact Tab.read_write_same d t k v
  · rename_i h; exact Tab.read_write_ne d d t v h

@[simp] theorem Tab.read_nil {α : Type} (d : α) (k : Nat) : Tab.read d [] k = d := rfl

/-! ## The canonical form -/

/-- The lower bound of the keys, where there is one, lies below `k`. -/
def Tab.below (b : Option Nat) (k : Nat) : Bool :=
  match b with
  | none => true
  | some x => decide (x < k)

theorem Tab.canonFrom_cons {α : Type} [DecidableEq α] (d : α) (j : Nat) (v : α) (rest : Tab α) (b : Option Nat) :
    Tab.canonFrom d ((j, v) :: rest) b = true ↔ Tab.below b j = true ∧ v ≠ d ∧ Tab.canonFrom d rest (some j) = true := by
  simp only [Tab.canonFrom, Bool.and_eq_true, Bool.not_eq_true', decide_eq_false_iff_not, Tab.below]
  tauto

theorem Tab.canonFrom_mono {α : Type} [DecidableEq α] (d : α) (t : Tab α) (a b : Option Nat)
    (h : ∀ k, Tab.below a k = true → Tab.below b k = true) (ht : Tab.canonFrom d t a = true) : Tab.canonFrom d t b = true := by
  cases t with
  | nil => rfl
  | cons e rest =>
    obtain ⟨j, v⟩ := e
    rw [Tab.canonFrom_cons] at *
    exact ⟨h j ht.1, ht.2⟩

theorem Tab.erase_canon {α : Type} [DecidableEq α] (d : α) (t : Tab α) (k : Nat) (b : Option Nat)
    (h : Tab.canonFrom d t b = true) : Tab.canonFrom d (t.erase k) b = true := by
  induction t generalizing b with
  | nil => rfl
  | cons e rest ih =>
    obtain ⟨j, v⟩ := e
    rw [Tab.canonFrom_cons] at h
    by_cases hj : j = k
    · have := ih (some j) h.2.2
      simp only [Tab.erase, List.filter_cons, hj, bne_self_eq_false] at *
      refine Tab.canonFrom_mono d _ _ _ ?_ this
      intro x hx
      have h1 := h.1
      cases b with
      | none => rfl
      | some y => simp only [Tab.below, decide_eq_true_eq] at *; omega
    · have := ih (some j) h.2.2
      simp only [Tab.erase, List.filter_cons, bne_iff_ne, ne_eq, hj, not_false_eq_true, if_true] at *
      rw [Tab.canonFrom_cons]
      exact ⟨h.1, h.2.1, this⟩

theorem Tab.insert_canon {α : Type} [DecidableEq α] (d : α) (t : Tab α) (k : Nat) (v : α) (b : Option Nat) (hv : v ≠ d)
    (hk : ∀ e ∈ t, e.1 ≠ k) (hb : Tab.below b k = true) (h : Tab.canonFrom d t b = true) :
    Tab.canonFrom d (t.insert k v) b = true := by
  induction t generalizing b with
  | nil => rw [Tab.insert, Tab.canonFrom_cons]; exact ⟨hb, hv, rfl⟩
  | cons e rest ih =>
    obtain ⟨j, w⟩ := e
    rw [Tab.canonFrom_cons] at h
    by_cases hlt : k < j
    · simp only [Tab.insert, hlt, if_true]
      rw [Tab.canonFrom_cons, Tab.canonFrom_cons]
      exact ⟨hb, hv, by simp [Tab.below, hlt], h.2⟩
    · simp only [Tab.insert, hlt, if_false]
      rw [Tab.canonFrom_cons]
      have hne : j ≠ k := hk (j, w) (by simp)
      have hjk : Tab.below (some j) k = true := by simp only [Tab.below, decide_eq_true_eq]; omega
      exact ⟨h.1, h.2.1, ih (some j) (fun e he => hk e (by simp [he])) hjk h.2.2⟩

/-- A write keeps the canonical form. -/
theorem Tab.write_canon {α : Type} [DecidableEq α] (d : α) (t : Tab α) (k : Nat) (v : α) (h : Tab.canon d t = true) :
    Tab.canon d (Tab.write d t k v) = true := by
  unfold Tab.write
  split
  · exact Tab.erase_canon d t k none h
  · rename_i hv
    exact Tab.insert_canon d _ k v none hv (Tab.erase_keys t k) rfl (Tab.erase_canon d t k none h)

end Sys2Proof
end

