-- ==== Sys2Proof/Laws/State.lean ====
section
/-! SUPPORT. One lemma for each field that a named update leaves as it is, and what an entry reads as after it is set. -/

namespace Sys2Proof.Machine

/-! ## wr -/

@[simp] theorem State.wr_recs (s : State) (f : Field) (v : Nat) : (s.wr f v).recs = s.recs := rfl
@[simp] theorem State.wr_log (s : State) (f : Field) (v : Nat) : (s.wr f v).log = s.log := rfl
@[simp] theorem State.wr_ump (s : State) (f : Field) (v : Nat) : (s.wr f v).ump = s.ump := rfl
@[simp] theorem State.wr_held (s : State) (f : Field) (v : Nat) : (s.wr f v).held = s.held := rfl
@[simp] theorem State.wr_resetAt (s : State) (f : Field) (v : Nat) : (s.wr f v).resetAt = s.resetAt := rfl
@[simp] theorem State.wr_fuses (s : State) (f : Field) (v : Nat) : (s.wr f v).fuses = s.fuses := rfl
@[simp] theorem State.wr_paths (s : State) (f : Field) (v : Nat) : (s.wr f v).paths = s.paths := rfl
@[simp] theorem State.wr_mgmt (s : State) (f : Field) (v : Nat) : (s.wr f v).mgmt = s.mgmt := rfl
@[simp] theorem State.wr_port (s : State) (f : Field) (v : Nat) : (s.wr f v).port = s.port := rfl
@[simp] theorem State.wr_clk (s : State) (f : Field) (v : Nat) : (s.wr f v).clk = s.clk := rfl
@[simp] theorem State.wr_hgs (s : State) (f : Field) (v : Nat) : (s.wr f v).hgs = s.hgs := rfl
@[simp] theorem State.wr_synths (s : State) (f : Field) (v : Nat) : (s.wr f v).synths = s.synths := rfl
@[simp] theorem State.wr_chans (s : State) (f : Field) (v : Nat) : (s.wr f v).chans = s.chans := rfl
@[simp] theorem State.wr_refRuns (s : State) (f : Field) (v : Nat) : (s.wr f v).refRuns = s.refRuns := rfl
@[simp] theorem State.wr_seats (s : State) (f : Field) (v : Nat) : (s.wr f v).seats = s.seats := rfl
@[simp] theorem State.wr_lanes (s : State) (f : Field) (v : Nat) : (s.wr f v).lanes = s.lanes := rfl
@[simp] theorem State.wr_cal (s : State) (f : Field) (v : Nat) : (s.wr f v).cal = s.cal := rfl
@[simp] theorem State.wr_sensors (s : State) (f : Field) (v : Nat) : (s.wr f v).sensors = s.sensors := rfl
@[simp] theorem State.wr_datum (s : State) (f : Field) (v : Nat) : (s.wr f v).datum = s.datum := rfl
@[simp] theorem State.wr_nvs (s : State) (f : Field) (v : Nat) : (s.wr f v).nvs = s.nvs := rfl
@[simp] theorem State.wr_lvl (s : State) (f : Field) (v : Nat) : (s.wr f v).lvl = s.lvl := rfl
@[simp] theorem State.wr_flm (s : State) (f : Field) (v : Nat) : (s.wr f v).flm = s.flm := rfl
@[simp] theorem State.wr_culvs (s : State) (f : Field) (v : Nat) : (s.wr f v).culvs = s.culvs := rfl
@[simp] theorem State.wr_links (s : State) (f : Field) (v : Nat) : (s.wr f v).links = s.links := rfl
@[simp] theorem State.wr_cox (s : State) (f : Field) (v : Nat) : (s.wr f v).cox = s.cox := rfl
@[simp] theorem State.wr_buoys (s : State) (f : Field) (v : Nat) : (s.wr f v).buoys = s.buoys := rfl
@[simp] theorem State.wr_runs (s : State) (f : Field) (v : Nat) : (s.wr f v).runs = s.runs := rfl
@[simp] theorem State.wr_tap (s : State) (f : Field) (v : Nat) : (s.wr f v).tap = s.tap := rfl
@[simp] theorem State.wr_freeCount (s : State) (f : Field) (v : Nat) : (s.wr f v).freeCount = s.freeCount := rfl
@[simp] theorem State.wr_pending (s : State) (f : Field) (v : Nat) : (s.wr f v).pending = s.pending := rfl
@[simp] theorem State.wr_hg (s : State) (f : Field) (v : Nat) (j : Nat) : (s.wr f v).hg j = s.hg j := rfl
@[simp] theorem State.wr_synth (s : State) (f : Field) (v : Nat) (j : Nat) : (s.wr f v).synth j = s.synth j := rfl
@[simp] theorem State.wr_chan (s : State) (f : Field) (v : Nat) (j : Nat) : (s.wr f v).chan j = s.chan j := rfl
@[simp] theorem State.wr_refRun (s : State) (f : Field) (v : Nat) (j : Nat) : (s.wr f v).refRun j = s.refRun j := rfl
@[simp] theorem State.wr_seat (s : State) (f : Field) (v : Nat) (j : Nat) : (s.wr f v).seat j = s.seat j := rfl
@[simp] theorem State.wr_laneSt (s : State) (f : Field) (v : Nat) (j : Nat) : (s.wr f v).laneSt j = s.laneSt j := rfl
@[simp] theorem State.wr_liveCal (s : State) (f : Field) (v : Nat) (j : Nat) : (s.wr f v).liveCal j = s.liveCal j := rfl
@[simp] theorem State.wr_sensor (s : State) (f : Field) (v : Nat) (j : Nat) : (s.wr f v).sensor j = s.sensor j := rfl
@[simp] theorem State.wr_culv (s : State) (f : Field) (v : Nat) (j : Nat) : (s.wr f v).culv j = s.culv j := rfl
@[simp] theorem State.wr_link (s : State) (f : Field) (v : Nat) (j : Nat) : (s.wr f v).link j = s.link j := rfl
@[simp] theorem State.wr_oq (s : State) (f : Field) (v : Nat) (j : Nat) : (s.wr f v).oq j = s.oq j := rfl
@[simp] theorem State.wr_buoyVal (s : State) (f : Field) (v : Nat) (j : Nat) : (s.wr f v).buoyVal j = s.buoyVal j := rfl
@[simp] theorem State.wr_extent (s : State) (f : Field) (v : Nat) (j : Nat) : (s.wr f v).extent j = s.extent j := rfl
@[simp] theorem State.wr_fan (s : State) (f : Field) (v : Nat) (j : Nat) : (s.wr f v).fan j = s.fan j := rfl

/-! ## wrB -/

@[simp] theorem State.wrB_recs (s : State) (f : Field) (b : Bool) : (s.wrB f b).recs = s.recs := rfl
@[simp] theorem State.wrB_log (s : State) (f : Field) (b : Bool) : (s.wrB f b).log = s.log := rfl
@[simp] theorem State.wrB_ump (s : State) (f : Field) (b : Bool) : (s.wrB f b).ump = s.ump := rfl
@[simp] theorem State.wrB_held (s : State) (f : Field) (b : Bool) : (s.wrB f b).held = s.held := rfl
@[simp] theorem State.wrB_resetAt (s : State) (f : Field) (b : Bool) : (s.wrB f b).resetAt = s.resetAt := rfl
@[simp] theorem State.wrB_fuses (s : State) (f : Field) (b : Bool) : (s.wrB f b).fuses = s.fuses := rfl
@[simp] theorem State.wrB_paths (s : State) (f : Field) (b : Bool) : (s.wrB f b).paths = s.paths := rfl
@[simp] theorem State.wrB_mgmt (s : State) (f : Field) (b : Bool) : (s.wrB f b).mgmt = s.mgmt := rfl
@[simp] theorem State.wrB_port (s : State) (f : Field) (b : Bool) : (s.wrB f b).port = s.port := rfl
@[simp] theorem State.wrB_clk (s : State) (f : Field) (b : Bool) : (s.wrB f b).clk = s.clk := rfl
@[simp] theorem State.wrB_hgs (s : State) (f : Field) (b : Bool) : (s.wrB f b).hgs = s.hgs := rfl
@[simp] theorem State.wrB_synths (s : State) (f : Field) (b : Bool) : (s.wrB f b).synths = s.synths := rfl
@[simp] theorem State.wrB_chans (s : State) (f : Field) (b : Bool) : (s.wrB f b).chans = s.chans := rfl
@[simp] theorem State.wrB_refRuns (s : State) (f : Field) (b : Bool) : (s.wrB f b).refRuns = s.refRuns := rfl
@[simp] theorem State.wrB_seats (s : State) (f : Field) (b : Bool) : (s.wrB f b).seats = s.seats := rfl
@[simp] theorem State.wrB_lanes (s : State) (f : Field) (b : Bool) : (s.wrB f b).lanes = s.lanes := rfl
@[simp] theorem State.wrB_cal (s : State) (f : Field) (b : Bool) : (s.wrB f b).cal = s.cal := rfl
@[simp] theorem State.wrB_sensors (s : State) (f : Field) (b : Bool) : (s.wrB f b).sensors = s.sensors := rfl
@[simp] theorem State.wrB_datum (s : State) (f : Field) (b : Bool) : (s.wrB f b).datum = s.datum := rfl
@[simp] theorem State.wrB_nvs (s : State) (f : Field) (b : Bool) : (s.wrB f b).nvs = s.nvs := rfl
@[simp] theorem State.wrB_lvl (s : State) (f : Field) (b : Bool) : (s.wrB f b).lvl = s.lvl := rfl
@[simp] theorem State.wrB_flm (s : State) (f : Field) (b : Bool) : (s.wrB f b).flm = s.flm := rfl
@[simp] theorem State.wrB_culvs (s : State) (f : Field) (b : Bool) : (s.wrB f b).culvs = s.culvs := rfl
@[simp] theorem State.wrB_links (s : State) (f : Field) (b : Bool) : (s.wrB f b).links = s.links := rfl
@[simp] theorem State.wrB_cox (s : State) (f : Field) (b : Bool) : (s.wrB f b).cox = s.cox := rfl
@[simp] theorem State.wrB_buoys (s : State) (f : Field) (b : Bool) : (s.wrB f b).buoys = s.buoys := rfl
@[simp] theorem State.wrB_runs (s : State) (f : Field) (b : Bool) : (s.wrB f b).runs = s.runs := rfl
@[simp] theorem State.wrB_tap (s : State) (f : Field) (b : Bool) : (s.wrB f b).tap = s.tap := rfl
@[simp] theorem State.wrB_freeCount (s : State) (f : Field) (b : Bool) : (s.wrB f b).freeCount = s.freeCount := rfl
@[simp] theorem State.wrB_pending (s : State) (f : Field) (b : Bool) : (s.wrB f b).pending = s.pending := rfl
@[simp] theorem State.wrB_hg (s : State) (f : Field) (b : Bool) (j : Nat) : (s.wrB f b).hg j = s.hg j := rfl
@[simp] theorem State.wrB_synth (s : State) (f : Field) (b : Bool) (j : Nat) : (s.wrB f b).synth j = s.synth j := rfl
@[simp] theorem State.wrB_chan (s : State) (f : Field) (b : Bool) (j : Nat) : (s.wrB f b).chan j = s.chan j := rfl
@[simp] theorem State.wrB_refRun (s : State) (f : Field) (b : Bool) (j : Nat) : (s.wrB f b).refRun j = s.refRun j := rfl
@[simp] theorem State.wrB_seat (s : State) (f : Field) (b : Bool) (j : Nat) : (s.wrB f b).seat j = s.seat j := rfl
@[simp] theorem State.wrB_laneSt (s : State) (f : Field) (b : Bool) (j : Nat) : (s.wrB f b).laneSt j = s.laneSt j := rfl
@[simp] theorem State.wrB_liveCal (s : State) (f : Field) (b : Bool) (j : Nat) : (s.wrB f b).liveCal j = s.liveCal j := rfl
@[simp] theorem State.wrB_sensor (s : State) (f : Field) (b : Bool) (j : Nat) : (s.wrB f b).sensor j = s.sensor j := rfl
@[simp] theorem State.wrB_culv (s : State) (f : Field) (b : Bool) (j : Nat) : (s.wrB f b).culv j = s.culv j := rfl
@[simp] theorem State.wrB_link (s : State) (f : Field) (b : Bool) (j : Nat) : (s.wrB f b).link j = s.link j := rfl
@[simp] theorem State.wrB_oq (s : State) (f : Field) (b : Bool) (j : Nat) : (s.wrB f b).oq j = s.oq j := rfl
@[simp] theorem State.wrB_buoyVal (s : State) (f : Field) (b : Bool) (j : Nat) : (s.wrB f b).buoyVal j = s.buoyVal j := rfl
@[simp] theorem State.wrB_extent (s : State) (f : Field) (b : Bool) (j : Nat) : (s.wrB f b).extent j = s.extent j := rfl
@[simp] theorem State.wrB_fan (s : State) (f : Field) (b : Bool) (j : Nat) : (s.wrB f b).fan j = s.fan j := rfl

/-! ## wrI -/

@[simp] theorem State.wrI_recs (s : State) (f : Field) (v : Int) : (s.wrI f v).recs = s.recs := rfl
@[simp] theorem State.wrI_log (s : State) (f : Field) (v : Int) : (s.wrI f v).log = s.log := rfl
@[simp] theorem State.wrI_ump (s : State) (f : Field) (v : Int) : (s.wrI f v).ump = s.ump := rfl
@[simp] theorem State.wrI_held (s : State) (f : Field) (v : Int) : (s.wrI f v).held = s.held := rfl
@[simp] theorem State.wrI_resetAt (s : State) (f : Field) (v : Int) : (s.wrI f v).resetAt = s.resetAt := rfl
@[simp] theorem State.wrI_fuses (s : State) (f : Field) (v : Int) : (s.wrI f v).fuses = s.fuses := rfl
@[simp] theorem State.wrI_paths (s : State) (f : Field) (v : Int) : (s.wrI f v).paths = s.paths := rfl
@[simp] theorem State.wrI_mgmt (s : State) (f : Field) (v : Int) : (s.wrI f v).mgmt = s.mgmt := rfl
@[simp] theorem State.wrI_port (s : State) (f : Field) (v : Int) : (s.wrI f v).port = s.port := rfl
@[simp] theorem State.wrI_clk (s : State) (f : Field) (v : Int) : (s.wrI f v).clk = s.clk := rfl
@[simp] theorem State.wrI_hgs (s : State) (f : Field) (v : Int) : (s.wrI f v).hgs = s.hgs := rfl
@[simp] theorem State.wrI_synths (s : State) (f : Field) (v : Int) : (s.wrI f v).synths = s.synths := rfl
@[simp] theorem State.wrI_chans (s : State) (f : Field) (v : Int) : (s.wrI f v).chans = s.chans := rfl
@[simp] theorem State.wrI_refRuns (s : State) (f : Field) (v : Int) : (s.wrI f v).refRuns = s.refRuns := rfl
@[simp] theorem State.wrI_seats (s : State) (f : Field) (v : Int) : (s.wrI f v).seats = s.seats := rfl
@[simp] theorem State.wrI_lanes (s : State) (f : Field) (v : Int) : (s.wrI f v).lanes = s.lanes := rfl
@[simp] theorem State.wrI_cal (s : State) (f : Field) (v : Int) : (s.wrI f v).cal = s.cal := rfl
@[simp] theorem State.wrI_sensors (s : State) (f : Field) (v : Int) : (s.wrI f v).sensors = s.sensors := rfl
@[simp] theorem State.wrI_datum (s : State) (f : Field) (v : Int) : (s.wrI f v).datum = s.datum := rfl
@[simp] theorem State.wrI_nvs (s : State) (f : Field) (v : Int) : (s.wrI f v).nvs = s.nvs := rfl
@[simp] theorem State.wrI_lvl (s : State) (f : Field) (v : Int) : (s.wrI f v).lvl = s.lvl := rfl
@[simp] theorem State.wrI_flm (s : State) (f : Field) (v : Int) : (s.wrI f v).flm = s.flm := rfl
@[simp] theorem State.wrI_culvs (s : State) (f : Field) (v : Int) : (s.wrI f v).culvs = s.culvs := rfl
@[simp] theorem State.wrI_links (s : State) (f : Field) (v : Int) : (s.wrI f v).links = s.links := rfl
@[simp] theorem State.wrI_cox (s : State) (f : Field) (v : Int) : (s.wrI f v).cox = s.cox := rfl
@[simp] theorem State.wrI_buoys (s : State) (f : Field) (v : Int) : (s.wrI f v).buoys = s.buoys := rfl
@[simp] theorem State.wrI_runs (s : State) (f : Field) (v : Int) : (s.wrI f v).runs = s.runs := rfl
@[simp] theorem State.wrI_tap (s : State) (f : Field) (v : Int) : (s.wrI f v).tap = s.tap := rfl
@[simp] theorem State.wrI_freeCount (s : State) (f : Field) (v : Int) : (s.wrI f v).freeCount = s.freeCount := rfl
@[simp] theorem State.wrI_pending (s : State) (f : Field) (v : Int) : (s.wrI f v).pending = s.pending := rfl
@[simp] theorem State.wrI_hg (s : State) (f : Field) (v : Int) (j : Nat) : (s.wrI f v).hg j = s.hg j := rfl
@[simp] theorem State.wrI_synth (s : State) (f : Field) (v : Int) (j : Nat) : (s.wrI f v).synth j = s.synth j := rfl
@[simp] theorem State.wrI_chan (s : State) (f : Field) (v : Int) (j : Nat) : (s.wrI f v).chan j = s.chan j := rfl
@[simp] theorem State.wrI_refRun (s : State) (f : Field) (v : Int) (j : Nat) : (s.wrI f v).refRun j = s.refRun j := rfl
@[simp] theorem State.wrI_seat (s : State) (f : Field) (v : Int) (j : Nat) : (s.wrI f v).seat j = s.seat j := rfl
@[simp] theorem State.wrI_laneSt (s : State) (f : Field) (v : Int) (j : Nat) : (s.wrI f v).laneSt j = s.laneSt j := rfl
@[simp] theorem State.wrI_liveCal (s : State) (f : Field) (v : Int) (j : Nat) : (s.wrI f v).liveCal j = s.liveCal j := rfl
@[simp] theorem State.wrI_sensor (s : State) (f : Field) (v : Int) (j : Nat) : (s.wrI f v).sensor j = s.sensor j := rfl
@[simp] theorem State.wrI_culv (s : State) (f : Field) (v : Int) (j : Nat) : (s.wrI f v).culv j = s.culv j := rfl
@[simp] theorem State.wrI_link (s : State) (f : Field) (v : Int) (j : Nat) : (s.wrI f v).link j = s.link j := rfl
@[simp] theorem State.wrI_oq (s : State) (f : Field) (v : Int) (j : Nat) : (s.wrI f v).oq j = s.oq j := rfl
@[simp] theorem State.wrI_buoyVal (s : State) (f : Field) (v : Int) (j : Nat) : (s.wrI f v).buoyVal j = s.buoyVal j := rfl
@[simp] theorem State.wrI_extent (s : State) (f : Field) (v : Int) (j : Nat) : (s.wrI f v).extent j = s.extent j := rfl
@[simp] theorem State.wrI_fan (s : State) (f : Field) (v : Int) (j : Nat) : (s.wrI f v).fan j = s.fan j := rfl

/-! ## addTo -/

@[simp] theorem State.addTo_recs (s : State) (f : Field) (n : Nat) : (s.addTo f n).recs = s.recs := rfl
@[simp] theorem State.addTo_log (s : State) (f : Field) (n : Nat) : (s.addTo f n).log = s.log := rfl
@[simp] theorem State.addTo_ump (s : State) (f : Field) (n : Nat) : (s.addTo f n).ump = s.ump := rfl
@[simp] theorem State.addTo_held (s : State) (f : Field) (n : Nat) : (s.addTo f n).held = s.held := rfl
@[simp] theorem State.addTo_resetAt (s : State) (f : Field) (n : Nat) : (s.addTo f n).resetAt = s.resetAt := rfl
@[simp] theorem State.addTo_fuses (s : State) (f : Field) (n : Nat) : (s.addTo f n).fuses = s.fuses := rfl
@[simp] theorem State.addTo_paths (s : State) (f : Field) (n : Nat) : (s.addTo f n).paths = s.paths := rfl
@[simp] theorem State.addTo_mgmt (s : State) (f : Field) (n : Nat) : (s.addTo f n).mgmt = s.mgmt := rfl
@[simp] theorem State.addTo_port (s : State) (f : Field) (n : Nat) : (s.addTo f n).port = s.port := rfl
@[simp] theorem State.addTo_clk (s : State) (f : Field) (n : Nat) : (s.addTo f n).clk = s.clk := rfl
@[simp] theorem State.addTo_hgs (s : State) (f : Field) (n : Nat) : (s.addTo f n).hgs = s.hgs := rfl
@[simp] theorem State.addTo_synths (s : State) (f : Field) (n : Nat) : (s.addTo f n).synths = s.synths := rfl
@[simp] theorem State.addTo_chans (s : State) (f : Field) (n : Nat) : (s.addTo f n).chans = s.chans := rfl
@[simp] theorem State.addTo_refRuns (s : State) (f : Field) (n : Nat) : (s.addTo f n).refRuns = s.refRuns := rfl
@[simp] theorem State.addTo_seats (s : State) (f : Field) (n : Nat) : (s.addTo f n).seats = s.seats := rfl
@[simp] theorem State.addTo_lanes (s : State) (f : Field) (n : Nat) : (s.addTo f n).lanes = s.lanes := rfl
@[simp] theorem State.addTo_cal (s : State) (f : Field) (n : Nat) : (s.addTo f n).cal = s.cal := rfl
@[simp] theorem State.addTo_sensors (s : State) (f : Field) (n : Nat) : (s.addTo f n).sensors = s.sensors := rfl
@[simp] theorem State.addTo_datum (s : State) (f : Field) (n : Nat) : (s.addTo f n).datum = s.datum := rfl
@[simp] theorem State.addTo_nvs (s : State) (f : Field) (n : Nat) : (s.addTo f n).nvs = s.nvs := rfl
@[simp] theorem State.addTo_lvl (s : State) (f : Field) (n : Nat) : (s.addTo f n).lvl = s.lvl := rfl
@[simp] theorem State.addTo_flm (s : State) (f : Field) (n : Nat) : (s.addTo f n).flm = s.flm := rfl
@[simp] theorem State.addTo_culvs (s : State) (f : Field) (n : Nat) : (s.addTo f n).culvs = s.culvs := rfl
@[simp] theorem State.addTo_links (s : State) (f : Field) (n : Nat) : (s.addTo f n).links = s.links := rfl
@[simp] theorem State.addTo_cox (s : State) (f : Field) (n : Nat) : (s.addTo f n).cox = s.cox := rfl
@[simp] theorem State.addTo_buoys (s : State) (f : Field) (n : Nat) : (s.addTo f n).buoys = s.buoys := rfl
@[simp] theorem State.addTo_runs (s : State) (f : Field) (n : Nat) : (s.addTo f n).runs = s.runs := rfl
@[simp] theorem State.addTo_tap (s : State) (f : Field) (n : Nat) : (s.addTo f n).tap = s.tap := rfl
@[simp] theorem State.addTo_freeCount (s : State) (f : Field) (n : Nat) : (s.addTo f n).freeCount = s.freeCount := rfl
@[simp] theorem State.addTo_pending (s : State) (f : Field) (n : Nat) : (s.addTo f n).pending = s.pending := rfl
@[simp] theorem State.addTo_hg (s : State) (f : Field) (n : Nat) (j : Nat) : (s.addTo f n).hg j = s.hg j := rfl
@[simp] theorem State.addTo_synth (s : State) (f : Field) (n : Nat) (j : Nat) : (s.addTo f n).synth j = s.synth j := rfl
@[simp] theorem State.addTo_chan (s : State) (f : Field) (n : Nat) (j : Nat) : (s.addTo f n).chan j = s.chan j := rfl
@[simp] theorem State.addTo_refRun (s : State) (f : Field) (n : Nat) (j : Nat) : (s.addTo f n).refRun j = s.refRun j := rfl
@[simp] theorem State.addTo_seat (s : State) (f : Field) (n : Nat) (j : Nat) : (s.addTo f n).seat j = s.seat j := rfl
@[simp] theorem State.addTo_laneSt (s : State) (f : Field) (n : Nat) (j : Nat) : (s.addTo f n).laneSt j = s.laneSt j := rfl
@[simp] theorem State.addTo_liveCal (s : State) (f : Field) (n : Nat) (j : Nat) : (s.addTo f n).liveCal j = s.liveCal j := rfl
@[simp] theorem State.addTo_sensor (s : State) (f : Field) (n : Nat) (j : Nat) : (s.addTo f n).sensor j = s.sensor j := rfl
@[simp] theorem State.addTo_culv (s : State) (f : Field) (n : Nat) (j : Nat) : (s.addTo f n).culv j = s.culv j := rfl
@[simp] theorem State.addTo_link (s : State) (f : Field) (n : Nat) (j : Nat) : (s.addTo f n).link j = s.link j := rfl
@[simp] theorem State.addTo_oq (s : State) (f : Field) (n : Nat) (j : Nat) : (s.addTo f n).oq j = s.oq j := rfl
@[simp] theorem State.addTo_buoyVal (s : State) (f : Field) (n : Nat) (j : Nat) : (s.addTo f n).buoyVal j = s.buoyVal j := rfl
@[simp] theorem State.addTo_extent (s : State) (f : Field) (n : Nat) (j : Nat) : (s.addTo f n).extent j = s.extent j := rfl
@[simp] theorem State.addTo_fan (s : State) (f : Field) (n : Nat) (j : Nat) : (s.addTo f n).fan j = s.fan j := rfl

/-! ## bump -/

@[simp] theorem State.bump_recs (s : State) (f : Field) : (s.bump f).recs = s.recs := rfl
@[simp] theorem State.bump_log (s : State) (f : Field) : (s.bump f).log = s.log := rfl
@[simp] theorem State.bump_ump (s : State) (f : Field) : (s.bump f).ump = s.ump := rfl
@[simp] theorem State.bump_held (s : State) (f : Field) : (s.bump f).held = s.held := rfl
@[simp] theorem State.bump_resetAt (s : State) (f : Field) : (s.bump f).resetAt = s.resetAt := rfl
@[simp] theorem State.bump_fuses (s : State) (f : Field) : (s.bump f).fuses = s.fuses := rfl
@[simp] theorem State.bump_paths (s : State) (f : Field) : (s.bump f).paths = s.paths := rfl
@[simp] theorem State.bump_mgmt (s : State) (f : Field) : (s.bump f).mgmt = s.mgmt := rfl
@[simp] theorem State.bump_port (s : State) (f : Field) : (s.bump f).port = s.port := rfl
@[simp] theorem State.bump_clk (s : State) (f : Field) : (s.bump f).clk = s.clk := rfl
@[simp] theorem State.bump_hgs (s : State) (f : Field) : (s.bump f).hgs = s.hgs := rfl
@[simp] theorem State.bump_synths (s : State) (f : Field) : (s.bump f).synths = s.synths := rfl
@[simp] theorem State.bump_chans (s : State) (f : Field) : (s.bump f).chans = s.chans := rfl
@[simp] theorem State.bump_refRuns (s : State) (f : Field) : (s.bump f).refRuns = s.refRuns := rfl
@[simp] theorem State.bump_seats (s : State) (f : Field) : (s.bump f).seats = s.seats := rfl
@[simp] theorem State.bump_lanes (s : State) (f : Field) : (s.bump f).lanes = s.lanes := rfl
@[simp] theorem State.bump_cal (s : State) (f : Field) : (s.bump f).cal = s.cal := rfl
@[simp] theorem State.bump_sensors (s : State) (f : Field) : (s.bump f).sensors = s.sensors := rfl
@[simp] theorem State.bump_datum (s : State) (f : Field) : (s.bump f).datum = s.datum := rfl
@[simp] theorem State.bump_nvs (s : State) (f : Field) : (s.bump f).nvs = s.nvs := rfl
@[simp] theorem State.bump_lvl (s : State) (f : Field) : (s.bump f).lvl = s.lvl := rfl
@[simp] theorem State.bump_flm (s : State) (f : Field) : (s.bump f).flm = s.flm := rfl
@[simp] theorem State.bump_culvs (s : State) (f : Field) : (s.bump f).culvs = s.culvs := rfl
@[simp] theorem State.bump_links (s : State) (f : Field) : (s.bump f).links = s.links := rfl
@[simp] theorem State.bump_cox (s : State) (f : Field) : (s.bump f).cox = s.cox := rfl
@[simp] theorem State.bump_buoys (s : State) (f : Field) : (s.bump f).buoys = s.buoys := rfl
@[simp] theorem State.bump_runs (s : State) (f : Field) : (s.bump f).runs = s.runs := rfl
@[simp] theorem State.bump_tap (s : State) (f : Field) : (s.bump f).tap = s.tap := rfl
@[simp] theorem State.bump_freeCount (s : State) (f : Field) : (s.bump f).freeCount = s.freeCount := rfl
@[simp] theorem State.bump_pending (s : State) (f : Field) : (s.bump f).pending = s.pending := rfl
@[simp] theorem State.bump_hg (s : State) (f : Field) (j : Nat) : (s.bump f).hg j = s.hg j := rfl
@[simp] theorem State.bump_synth (s : State) (f : Field) (j : Nat) : (s.bump f).synth j = s.synth j := rfl
@[simp] theorem State.bump_chan (s : State) (f : Field) (j : Nat) : (s.bump f).chan j = s.chan j := rfl
@[simp] theorem State.bump_refRun (s : State) (f : Field) (j : Nat) : (s.bump f).refRun j = s.refRun j := rfl
@[simp] theorem State.bump_seat (s : State) (f : Field) (j : Nat) : (s.bump f).seat j = s.seat j := rfl
@[simp] theorem State.bump_laneSt (s : State) (f : Field) (j : Nat) : (s.bump f).laneSt j = s.laneSt j := rfl
@[simp] theorem State.bump_liveCal (s : State) (f : Field) (j : Nat) : (s.bump f).liveCal j = s.liveCal j := rfl
@[simp] theorem State.bump_sensor (s : State) (f : Field) (j : Nat) : (s.bump f).sensor j = s.sensor j := rfl
@[simp] theorem State.bump_culv (s : State) (f : Field) (j : Nat) : (s.bump f).culv j = s.culv j := rfl
@[simp] theorem State.bump_link (s : State) (f : Field) (j : Nat) : (s.bump f).link j = s.link j := rfl
@[simp] theorem State.bump_oq (s : State) (f : Field) (j : Nat) : (s.bump f).oq j = s.oq j := rfl
@[simp] theorem State.bump_buoyVal (s : State) (f : Field) (j : Nat) : (s.bump f).buoyVal j = s.buoyVal j := rfl
@[simp] theorem State.bump_extent (s : State) (f : Field) (j : Nat) : (s.bump f).extent j = s.extent j := rfl
@[simp] theorem State.bump_fan (s : State) (f : Field) (j : Nat) : (s.bump f).fan j = s.fan j := rfl

/-! ## wrBit -/

@[simp] theorem State.wrBit_recs (s : State) (f : Field) (i : Nat) (b : Bool) : (s.wrBit f i b).recs = s.recs := rfl
@[simp] theorem State.wrBit_log (s : State) (f : Field) (i : Nat) (b : Bool) : (s.wrBit f i b).log = s.log := rfl
@[simp] theorem State.wrBit_ump (s : State) (f : Field) (i : Nat) (b : Bool) : (s.wrBit f i b).ump = s.ump := rfl
@[simp] theorem State.wrBit_held (s : State) (f : Field) (i : Nat) (b : Bool) : (s.wrBit f i b).held = s.held := rfl
@[simp] theorem State.wrBit_resetAt (s : State) (f : Field) (i : Nat) (b : Bool) : (s.wrBit f i b).resetAt = s.resetAt := rfl
@[simp] theorem State.wrBit_fuses (s : State) (f : Field) (i : Nat) (b : Bool) : (s.wrBit f i b).fuses = s.fuses := rfl
@[simp] theorem State.wrBit_paths (s : State) (f : Field) (i : Nat) (b : Bool) : (s.wrBit f i b).paths = s.paths := rfl
@[simp] theorem State.wrBit_mgmt (s : State) (f : Field) (i : Nat) (b : Bool) : (s.wrBit f i b).mgmt = s.mgmt := rfl
@[simp] theorem State.wrBit_port (s : State) (f : Field) (i : Nat) (b : Bool) : (s.wrBit f i b).port = s.port := rfl
@[simp] theorem State.wrBit_clk (s : State) (f : Field) (i : Nat) (b : Bool) : (s.wrBit f i b).clk = s.clk := rfl
@[simp] theorem State.wrBit_hgs (s : State) (f : Field) (i : Nat) (b : Bool) : (s.wrBit f i b).hgs = s.hgs := rfl
@[simp] theorem State.wrBit_synths (s : State) (f : Field) (i : Nat) (b : Bool) : (s.wrBit f i b).synths = s.synths := rfl
@[simp] theorem State.wrBit_chans (s : State) (f : Field) (i : Nat) (b : Bool) : (s.wrBit f i b).chans = s.chans := rfl
@[simp] theorem State.wrBit_refRuns (s : State) (f : Field) (i : Nat) (b : Bool) : (s.wrBit f i b).refRuns = s.refRuns := rfl
@[simp] theorem State.wrBit_seats (s : State) (f : Field) (i : Nat) (b : Bool) : (s.wrBit f i b).seats = s.seats := rfl
@[simp] theorem State.wrBit_lanes (s : State) (f : Field) (i : Nat) (b : Bool) : (s.wrBit f i b).lanes = s.lanes := rfl
@[simp] theorem State.wrBit_cal (s : State) (f : Field) (i : Nat) (b : Bool) : (s.wrBit f i b).cal = s.cal := rfl
@[simp] theorem State.wrBit_sensors (s : State) (f : Field) (i : Nat) (b : Bool) : (s.wrBit f i b).sensors = s.sensors := rfl
@[simp] theorem State.wrBit_datum (s : State) (f : Field) (i : Nat) (b : Bool) : (s.wrBit f i b).datum = s.datum := rfl
@[simp] theorem State.wrBit_nvs (s : State) (f : Field) (i : Nat) (b : Bool) : (s.wrBit f i b).nvs = s.nvs := rfl
@[simp] theorem State.wrBit_lvl (s : State) (f : Field) (i : Nat) (b : Bool) : (s.wrBit f i b).lvl = s.lvl := rfl
@[simp] theorem State.wrBit_flm (s : State) (f : Field) (i : Nat) (b : Bool) : (s.wrBit f i b).flm = s.flm := rfl
@[simp] theorem State.wrBit_culvs (s : State) (f : Field) (i : Nat) (b : Bool) : (s.wrBit f i b).culvs = s.culvs := rfl
@[simp] theorem State.wrBit_links (s : State) (f : Field) (i : Nat) (b : Bool) : (s.wrBit f i b).links = s.links := rfl
@[simp] theorem State.wrBit_cox (s : State) (f : Field) (i : Nat) (b : Bool) : (s.wrBit f i b).cox = s.cox := rfl
@[simp] theorem State.wrBit_buoys (s : State) (f : Field) (i : Nat) (b : Bool) : (s.wrBit f i b).buoys = s.buoys := rfl
@[simp] theorem State.wrBit_runs (s : State) (f : Field) (i : Nat) (b : Bool) : (s.wrBit f i b).runs = s.runs := rfl
@[simp] theorem State.wrBit_tap (s : State) (f : Field) (i : Nat) (b : Bool) : (s.wrBit f i b).tap = s.tap := rfl
@[simp] theorem State.wrBit_freeCount (s : State) (f : Field) (i : Nat) (b : Bool) : (s.wrBit f i b).freeCount = s.freeCount := rfl
@[simp] theorem State.wrBit_pending (s : State) (f : Field) (i : Nat) (b : Bool) : (s.wrBit f i b).pending = s.pending := rfl
@[simp] theorem State.wrBit_hg (s : State) (f : Field) (i : Nat) (b : Bool) (j : Nat) : (s.wrBit f i b).hg j = s.hg j := rfl
@[simp] theorem State.wrBit_synth (s : State) (f : Field) (i : Nat) (b : Bool) (j : Nat) : (s.wrBit f i b).synth j = s.synth j := rfl
@[simp] theorem State.wrBit_chan (s : State) (f : Field) (i : Nat) (b : Bool) (j : Nat) : (s.wrBit f i b).chan j = s.chan j := rfl
@[simp] theorem State.wrBit_refRun (s : State) (f : Field) (i : Nat) (b : Bool) (j : Nat) : (s.wrBit f i b).refRun j = s.refRun j := rfl
@[simp] theorem State.wrBit_seat (s : State) (f : Field) (i : Nat) (b : Bool) (j : Nat) : (s.wrBit f i b).seat j = s.seat j := rfl
@[simp] theorem State.wrBit_laneSt (s : State) (f : Field) (i : Nat) (b : Bool) (j : Nat) : (s.wrBit f i b).laneSt j = s.laneSt j := rfl
@[simp] theorem State.wrBit_liveCal (s : State) (f : Field) (i : Nat) (b : Bool) (j : Nat) : (s.wrBit f i b).liveCal j = s.liveCal j := rfl
@[simp] theorem State.wrBit_sensor (s : State) (f : Field) (i : Nat) (b : Bool) (j : Nat) : (s.wrBit f i b).sensor j = s.sensor j := rfl
@[simp] theorem State.wrBit_culv (s : State) (f : Field) (i : Nat) (b : Bool) (j : Nat) : (s.wrBit f i b).culv j = s.culv j := rfl
@[simp] theorem State.wrBit_link (s : State) (f : Field) (i : Nat) (b : Bool) (j : Nat) : (s.wrBit f i b).link j = s.link j := rfl
@[simp] theorem State.wrBit_oq (s : State) (f : Field) (i : Nat) (b : Bool) (j : Nat) : (s.wrBit f i b).oq j = s.oq j := rfl
@[simp] theorem State.wrBit_buoyVal (s : State) (f : Field) (i : Nat) (b : Bool) (j : Nat) : (s.wrBit f i b).buoyVal j = s.buoyVal j := rfl
@[simp] theorem State.wrBit_extent (s : State) (f : Field) (i : Nat) (b : Bool) (j : Nat) : (s.wrBit f i b).extent j = s.extent j := rfl
@[simp] theorem State.wrBit_fan (s : State) (f : Field) (i : Nat) (b : Bool) (j : Nat) : (s.wrBit f i b).fan j = s.fan j := rfl

/-! ## wrPair -/

@[simp] theorem State.wrPair_recs (s : State) (f g : Field) (v : Nat) : (s.wrPair f g v).recs = s.recs := rfl
@[simp] theorem State.wrPair_log (s : State) (f g : Field) (v : Nat) : (s.wrPair f g v).log = s.log := rfl
@[simp] theorem State.wrPair_ump (s : State) (f g : Field) (v : Nat) : (s.wrPair f g v).ump = s.ump := rfl
@[simp] theorem State.wrPair_held (s : State) (f g : Field) (v : Nat) : (s.wrPair f g v).held = s.held := rfl
@[simp] theorem State.wrPair_resetAt (s : State) (f g : Field) (v : Nat) : (s.wrPair f g v).resetAt = s.resetAt := rfl
@[simp] theorem State.wrPair_fuses (s : State) (f g : Field) (v : Nat) : (s.wrPair f g v).fuses = s.fuses := rfl
@[simp] theorem State.wrPair_paths (s : State) (f g : Field) (v : Nat) : (s.wrPair f g v).paths = s.paths := rfl
@[simp] theorem State.wrPair_mgmt (s : State) (f g : Field) (v : Nat) : (s.wrPair f g v).mgmt = s.mgmt := rfl
@[simp] theorem State.wrPair_port (s : State) (f g : Field) (v : Nat) : (s.wrPair f g v).port = s.port := rfl
@[simp] theorem State.wrPair_clk (s : State) (f g : Field) (v : Nat) : (s.wrPair f g v).clk = s.clk := rfl
@[simp] theorem State.wrPair_hgs (s : State) (f g : Field) (v : Nat) : (s.wrPair f g v).hgs = s.hgs := rfl
@[simp] theorem State.wrPair_synths (s : State) (f g : Field) (v : Nat) : (s.wrPair f g v).synths = s.synths := rfl
@[simp] theorem State.wrPair_chans (s : State) (f g : Field) (v : Nat) : (s.wrPair f g v).chans = s.chans := rfl
@[simp] theorem State.wrPair_refRuns (s : State) (f g : Field) (v : Nat) : (s.wrPair f g v).refRuns = s.refRuns := rfl
@[simp] theorem State.wrPair_seats (s : State) (f g : Field) (v : Nat) : (s.wrPair f g v).seats = s.seats := rfl
@[simp] theorem State.wrPair_lanes (s : State) (f g : Field) (v : Nat) : (s.wrPair f g v).lanes = s.lanes := rfl
@[simp] theorem State.wrPair_cal (s : State) (f g : Field) (v : Nat) : (s.wrPair f g v).cal = s.cal := rfl
@[simp] theorem State.wrPair_sensors (s : State) (f g : Field) (v : Nat) : (s.wrPair f g v).sensors = s.sensors := rfl
@[simp] theorem State.wrPair_datum (s : State) (f g : Field) (v : Nat) : (s.wrPair f g v).datum = s.datum := rfl
@[simp] theorem State.wrPair_nvs (s : State) (f g : Field) (v : Nat) : (s.wrPair f g v).nvs = s.nvs := rfl
@[simp] theorem State.wrPair_lvl (s : State) (f g : Field) (v : Nat) : (s.wrPair f g v).lvl = s.lvl := rfl
@[simp] theorem State.wrPair_flm (s : State) (f g : Field) (v : Nat) : (s.wrPair f g v).flm = s.flm := rfl
@[simp] theorem State.wrPair_culvs (s : State) (f g : Field) (v : Nat) : (s.wrPair f g v).culvs = s.culvs := rfl
@[simp] theorem State.wrPair_links (s : State) (f g : Field) (v : Nat) : (s.wrPair f g v).links = s.links := rfl
@[simp] theorem State.wrPair_cox (s : State) (f g : Field) (v : Nat) : (s.wrPair f g v).cox = s.cox := rfl
@[simp] theorem State.wrPair_buoys (s : State) (f g : Field) (v : Nat) : (s.wrPair f g v).buoys = s.buoys := rfl
@[simp] theorem State.wrPair_runs (s : State) (f g : Field) (v : Nat) : (s.wrPair f g v).runs = s.runs := rfl
@[simp] theorem State.wrPair_tap (s : State) (f g : Field) (v : Nat) : (s.wrPair f g v).tap = s.tap := rfl
@[simp] theorem State.wrPair_freeCount (s : State) (f g : Field) (v : Nat) : (s.wrPair f g v).freeCount = s.freeCount := rfl
@[simp] theorem State.wrPair_pending (s : State) (f g : Field) (v : Nat) : (s.wrPair f g v).pending = s.pending := rfl
@[simp] theorem State.wrPair_hg (s : State) (f g : Field) (v : Nat) (j : Nat) : (s.wrPair f g v).hg j = s.hg j := rfl
@[simp] theorem State.wrPair_synth (s : State) (f g : Field) (v : Nat) (j : Nat) : (s.wrPair f g v).synth j = s.synth j := rfl
@[simp] theorem State.wrPair_chan (s : State) (f g : Field) (v : Nat) (j : Nat) : (s.wrPair f g v).chan j = s.chan j := rfl
@[simp] theorem State.wrPair_refRun (s : State) (f g : Field) (v : Nat) (j : Nat) : (s.wrPair f g v).refRun j = s.refRun j := rfl
@[simp] theorem State.wrPair_seat (s : State) (f g : Field) (v : Nat) (j : Nat) : (s.wrPair f g v).seat j = s.seat j := rfl
@[simp] theorem State.wrPair_laneSt (s : State) (f g : Field) (v : Nat) (j : Nat) : (s.wrPair f g v).laneSt j = s.laneSt j := rfl
@[simp] theorem State.wrPair_liveCal (s : State) (f g : Field) (v : Nat) (j : Nat) : (s.wrPair f g v).liveCal j = s.liveCal j := rfl
@[simp] theorem State.wrPair_sensor (s : State) (f g : Field) (v : Nat) (j : Nat) : (s.wrPair f g v).sensor j = s.sensor j := rfl
@[simp] theorem State.wrPair_culv (s : State) (f g : Field) (v : Nat) (j : Nat) : (s.wrPair f g v).culv j = s.culv j := rfl
@[simp] theorem State.wrPair_link (s : State) (f g : Field) (v : Nat) (j : Nat) : (s.wrPair f g v).link j = s.link j := rfl
@[simp] theorem State.wrPair_oq (s : State) (f g : Field) (v : Nat) (j : Nat) : (s.wrPair f g v).oq j = s.oq j := rfl
@[simp] theorem State.wrPair_buoyVal (s : State) (f g : Field) (v : Nat) (j : Nat) : (s.wrPair f g v).buoyVal j = s.buoyVal j := rfl
@[simp] theorem State.wrPair_extent (s : State) (f g : Field) (v : Nat) (j : Nat) : (s.wrPair f g v).extent j = s.extent j := rfl
@[simp] theorem State.wrPair_fan (s : State) (f g : Field) (v : Nat) (j : Nat) : (s.wrPair f g v).fan j = s.fan j := rfl

/-! ## setHg -/

@[simp] theorem State.setHg_regs (s : State) (x : Nat) (h : Headgate) : (s.setHg x h).regs = s.regs := rfl
@[simp] theorem State.setHg_recs (s : State) (x : Nat) (h : Headgate) : (s.setHg x h).recs = s.recs := rfl
@[simp] theorem State.setHg_log (s : State) (x : Nat) (h : Headgate) : (s.setHg x h).log = s.log := rfl
@[simp] theorem State.setHg_ump (s : State) (x : Nat) (h : Headgate) : (s.setHg x h).ump = s.ump := rfl
@[simp] theorem State.setHg_held (s : State) (x : Nat) (h : Headgate) : (s.setHg x h).held = s.held := rfl
@[simp] theorem State.setHg_resetAt (s : State) (x : Nat) (h : Headgate) : (s.setHg x h).resetAt = s.resetAt := rfl
@[simp] theorem State.setHg_fuses (s : State) (x : Nat) (h : Headgate) : (s.setHg x h).fuses = s.fuses := rfl
@[simp] theorem State.setHg_paths (s : State) (x : Nat) (h : Headgate) : (s.setHg x h).paths = s.paths := rfl
@[simp] theorem State.setHg_mgmt (s : State) (x : Nat) (h : Headgate) : (s.setHg x h).mgmt = s.mgmt := rfl
@[simp] theorem State.setHg_port (s : State) (x : Nat) (h : Headgate) : (s.setHg x h).port = s.port := rfl
@[simp] theorem State.setHg_clk (s : State) (x : Nat) (h : Headgate) : (s.setHg x h).clk = s.clk := rfl
@[simp] theorem State.setHg_synths (s : State) (x : Nat) (h : Headgate) : (s.setHg x h).synths = s.synths := rfl
@[simp] theorem State.setHg_chans (s : State) (x : Nat) (h : Headgate) : (s.setHg x h).chans = s.chans := rfl
@[simp] theorem State.setHg_refRuns (s : State) (x : Nat) (h : Headgate) : (s.setHg x h).refRuns = s.refRuns := rfl
@[simp] theorem State.setHg_seats (s : State) (x : Nat) (h : Headgate) : (s.setHg x h).seats = s.seats := rfl
@[simp] theorem State.setHg_lanes (s : State) (x : Nat) (h : Headgate) : (s.setHg x h).lanes = s.lanes := rfl
@[simp] theorem State.setHg_cal (s : State) (x : Nat) (h : Headgate) : (s.setHg x h).cal = s.cal := rfl
@[simp] theorem State.setHg_sensors (s : State) (x : Nat) (h : Headgate) : (s.setHg x h).sensors = s.sensors := rfl
@[simp] theorem State.setHg_datum (s : State) (x : Nat) (h : Headgate) : (s.setHg x h).datum = s.datum := rfl
@[simp] theorem State.setHg_nvs (s : State) (x : Nat) (h : Headgate) : (s.setHg x h).nvs = s.nvs := rfl
@[simp] theorem State.setHg_lvl (s : State) (x : Nat) (h : Headgate) : (s.setHg x h).lvl = s.lvl := rfl
@[simp] theorem State.setHg_flm (s : State) (x : Nat) (h : Headgate) : (s.setHg x h).flm = s.flm := rfl
@[simp] theorem State.setHg_culvs (s : State) (x : Nat) (h : Headgate) : (s.setHg x h).culvs = s.culvs := rfl
@[simp] theorem State.setHg_links (s : State) (x : Nat) (h : Headgate) : (s.setHg x h).links = s.links := rfl
@[simp] theorem State.setHg_cox (s : State) (x : Nat) (h : Headgate) : (s.setHg x h).cox = s.cox := rfl
@[simp] theorem State.setHg_buoys (s : State) (x : Nat) (h : Headgate) : (s.setHg x h).buoys = s.buoys := rfl
@[simp] theorem State.setHg_runs (s : State) (x : Nat) (h : Headgate) : (s.setHg x h).runs = s.runs := rfl
@[simp] theorem State.setHg_tap (s : State) (x : Nat) (h : Headgate) : (s.setHg x h).tap = s.tap := rfl
@[simp] theorem State.setHg_freeCount (s : State) (x : Nat) (h : Headgate) : (s.setHg x h).freeCount = s.freeCount := rfl
@[simp] theorem State.setHg_pending (s : State) (x : Nat) (h : Headgate) : (s.setHg x h).pending = s.pending := rfl
@[simp] theorem State.setHg_rd (s : State) (x : Nat) (h : Headgate) (g : Field) : (s.setHg x h).rd g = s.rd g := rfl
@[simp] theorem State.setHg_flag (s : State) (x : Nat) (h : Headgate) (g : Field) : (s.setHg x h).flag g = s.flag g := rfl
@[simp] theorem State.setHg_synth (s : State) (x : Nat) (h : Headgate) (j : Nat) : (s.setHg x h).synth j = s.synth j := rfl
@[simp] theorem State.setHg_chan (s : State) (x : Nat) (h : Headgate) (j : Nat) : (s.setHg x h).chan j = s.chan j := rfl
@[simp] theorem State.setHg_refRun (s : State) (x : Nat) (h : Headgate) (j : Nat) : (s.setHg x h).refRun j = s.refRun j := rfl
@[simp] theorem State.setHg_seat (s : State) (x : Nat) (h : Headgate) (j : Nat) : (s.setHg x h).seat j = s.seat j := rfl
@[simp] theorem State.setHg_laneSt (s : State) (x : Nat) (h : Headgate) (j : Nat) : (s.setHg x h).laneSt j = s.laneSt j := rfl
@[simp] theorem State.setHg_liveCal (s : State) (x : Nat) (h : Headgate) (j : Nat) : (s.setHg x h).liveCal j = s.liveCal j := rfl
@[simp] theorem State.setHg_sensor (s : State) (x : Nat) (h : Headgate) (j : Nat) : (s.setHg x h).sensor j = s.sensor j := rfl
@[simp] theorem State.setHg_culv (s : State) (x : Nat) (h : Headgate) (j : Nat) : (s.setHg x h).culv j = s.culv j := rfl
@[simp] theorem State.setHg_link (s : State) (x : Nat) (h : Headgate) (j : Nat) : (s.setHg x h).link j = s.link j := rfl
@[simp] theorem State.setHg_oq (s : State) (x : Nat) (h : Headgate) (j : Nat) : (s.setHg x h).oq j = s.oq j := rfl
@[simp] theorem State.setHg_buoyVal (s : State) (x : Nat) (h : Headgate) (j : Nat) : (s.setHg x h).buoyVal j = s.buoyVal j := rfl
@[simp] theorem State.setHg_extent (s : State) (x : Nat) (h : Headgate) (j : Nat) : (s.setHg x h).extent j = s.extent j := rfl
@[simp] theorem State.setHg_fan (s : State) (x : Nat) (h : Headgate) (j : Nat) : (s.setHg x h).fan j = s.fan j := rfl

/-! ## setSynth -/

@[simp] theorem State.setSynth_regs (s : State) (p : Nat) (y : Synth) : (s.setSynth p y).regs = s.regs := rfl
@[simp] theorem State.setSynth_recs (s : State) (p : Nat) (y : Synth) : (s.setSynth p y).recs = s.recs := rfl
@[simp] theorem State.setSynth_log (s : State) (p : Nat) (y : Synth) : (s.setSynth p y).log = s.log := rfl
@[simp] theorem State.setSynth_ump (s : State) (p : Nat) (y : Synth) : (s.setSynth p y).ump = s.ump := rfl
@[simp] theorem State.setSynth_held (s : State) (p : Nat) (y : Synth) : (s.setSynth p y).held = s.held := rfl
@[simp] theorem State.setSynth_resetAt (s : State) (p : Nat) (y : Synth) : (s.setSynth p y).resetAt = s.resetAt := rfl
@[simp] theorem State.setSynth_fuses (s : State) (p : Nat) (y : Synth) : (s.setSynth p y).fuses = s.fuses := rfl
@[simp] theorem State.setSynth_paths (s : State) (p : Nat) (y : Synth) : (s.setSynth p y).paths = s.paths := rfl
@[simp] theorem State.setSynth_mgmt (s : State) (p : Nat) (y : Synth) : (s.setSynth p y).mgmt = s.mgmt := rfl
@[simp] theorem State.setSynth_port (s : State) (p : Nat) (y : Synth) : (s.setSynth p y).port = s.port := rfl
@[simp] theorem State.setSynth_clk (s : State) (p : Nat) (y : Synth) : (s.setSynth p y).clk = s.clk := rfl
@[simp] theorem State.setSynth_hgs (s : State) (p : Nat) (y : Synth) : (s.setSynth p y).hgs = s.hgs := rfl
@[simp] theorem State.setSynth_chans (s : State) (p : Nat) (y : Synth) : (s.setSynth p y).chans = s.chans := rfl
@[simp] theorem State.setSynth_refRuns (s : State) (p : Nat) (y : Synth) : (s.setSynth p y).refRuns = s.refRuns := rfl
@[simp] theorem State.setSynth_seats (s : State) (p : Nat) (y : Synth) : (s.setSynth p y).seats = s.seats := rfl
@[simp] theorem State.setSynth_lanes (s : State) (p : Nat) (y : Synth) : (s.setSynth p y).lanes = s.lanes := rfl
@[simp] theorem State.setSynth_cal (s : State) (p : Nat) (y : Synth) : (s.setSynth p y).cal = s.cal := rfl
@[simp] theorem State.setSynth_sensors (s : State) (p : Nat) (y : Synth) : (s.setSynth p y).sensors = s.sensors := rfl
@[simp] theorem State.setSynth_datum (s : State) (p : Nat) (y : Synth) : (s.setSynth p y).datum = s.datum := rfl
@[simp] theorem State.setSynth_nvs (s : State) (p : Nat) (y : Synth) : (s.setSynth p y).nvs = s.nvs := rfl
@[simp] theorem State.setSynth_lvl (s : State) (p : Nat) (y : Synth) : (s.setSynth p y).lvl = s.lvl := rfl
@[simp] theorem State.setSynth_flm (s : State) (p : Nat) (y : Synth) : (s.setSynth p y).flm = s.flm := rfl
@[simp] theorem State.setSynth_culvs (s : State) (p : Nat) (y : Synth) : (s.setSynth p y).culvs = s.culvs := rfl
@[simp] theorem State.setSynth_links (s : State) (p : Nat) (y : Synth) : (s.setSynth p y).links = s.links := rfl
@[simp] theorem State.setSynth_cox (s : State) (p : Nat) (y : Synth) : (s.setSynth p y).cox = s.cox := rfl
@[simp] theorem State.setSynth_buoys (s : State) (p : Nat) (y : Synth) : (s.setSynth p y).buoys = s.buoys := rfl
@[simp] theorem State.setSynth_runs (s : State) (p : Nat) (y : Synth) : (s.setSynth p y).runs = s.runs := rfl
@[simp] theorem State.setSynth_tap (s : State) (p : Nat) (y : Synth) : (s.setSynth p y).tap = s.tap := rfl
@[simp] theorem State.setSynth_freeCount (s : State) (p : Nat) (y : Synth) : (s.setSynth p y).freeCount = s.freeCount := rfl
@[simp] theorem State.setSynth_pending (s : State) (p : Nat) (y : Synth) : (s.setSynth p y).pending = s.pending := rfl
@[simp] theorem State.setSynth_rd (s : State) (p : Nat) (y : Synth) (g : Field) : (s.setSynth p y).rd g = s.rd g := rfl
@[simp] theorem State.setSynth_flag (s : State) (p : Nat) (y : Synth) (g : Field) : (s.setSynth p y).flag g = s.flag g := rfl
@[simp] theorem State.setSynth_hg (s : State) (p : Nat) (y : Synth) (j : Nat) : (s.setSynth p y).hg j = s.hg j := rfl
@[simp] theorem State.setSynth_chan (s : State) (p : Nat) (y : Synth) (j : Nat) : (s.setSynth p y).chan j = s.chan j := rfl
@[simp] theorem State.setSynth_refRun (s : State) (p : Nat) (y : Synth) (j : Nat) : (s.setSynth p y).refRun j = s.refRun j := rfl
@[simp] theorem State.setSynth_seat (s : State) (p : Nat) (y : Synth) (j : Nat) : (s.setSynth p y).seat j = s.seat j := rfl
@[simp] theorem State.setSynth_laneSt (s : State) (p : Nat) (y : Synth) (j : Nat) : (s.setSynth p y).laneSt j = s.laneSt j := rfl
@[simp] theorem State.setSynth_liveCal (s : State) (p : Nat) (y : Synth) (j : Nat) : (s.setSynth p y).liveCal j = s.liveCal j := rfl
@[simp] theorem State.setSynth_sensor (s : State) (p : Nat) (y : Synth) (j : Nat) : (s.setSynth p y).sensor j = s.sensor j := rfl
@[simp] theorem State.setSynth_culv (s : State) (p : Nat) (y : Synth) (j : Nat) : (s.setSynth p y).culv j = s.culv j := rfl
@[simp] theorem State.setSynth_link (s : State) (p : Nat) (y : Synth) (j : Nat) : (s.setSynth p y).link j = s.link j := rfl
@[simp] theorem State.setSynth_oq (s : State) (p : Nat) (y : Synth) (j : Nat) : (s.setSynth p y).oq j = s.oq j := rfl
@[simp] theorem State.setSynth_buoyVal (s : State) (p : Nat) (y : Synth) (j : Nat) : (s.setSynth p y).buoyVal j = s.buoyVal j := rfl
@[simp] theorem State.setSynth_extent (s : State) (p : Nat) (y : Synth) (j : Nat) : (s.setSynth p y).extent j = s.extent j := rfl
@[simp] theorem State.setSynth_fan (s : State) (p : Nat) (y : Synth) (j : Nat) : (s.setSynth p y).fan j = s.fan j := rfl

/-! ## setChan -/

@[simp] theorem State.setChan_regs (s : State) (k : Nat) (c : Chan) : (s.setChan k c).regs = s.regs := rfl
@[simp] theorem State.setChan_recs (s : State) (k : Nat) (c : Chan) : (s.setChan k c).recs = s.recs := rfl
@[simp] theorem State.setChan_log (s : State) (k : Nat) (c : Chan) : (s.setChan k c).log = s.log := rfl
@[simp] theorem State.setChan_ump (s : State) (k : Nat) (c : Chan) : (s.setChan k c).ump = s.ump := rfl
@[simp] theorem State.setChan_held (s : State) (k : Nat) (c : Chan) : (s.setChan k c).held = s.held := rfl
@[simp] theorem State.setChan_resetAt (s : State) (k : Nat) (c : Chan) : (s.setChan k c).resetAt = s.resetAt := rfl
@[simp] theorem State.setChan_fuses (s : State) (k : Nat) (c : Chan) : (s.setChan k c).fuses = s.fuses := rfl
@[simp] theorem State.setChan_paths (s : State) (k : Nat) (c : Chan) : (s.setChan k c).paths = s.paths := rfl
@[simp] theorem State.setChan_mgmt (s : State) (k : Nat) (c : Chan) : (s.setChan k c).mgmt = s.mgmt := rfl
@[simp] theorem State.setChan_port (s : State) (k : Nat) (c : Chan) : (s.setChan k c).port = s.port := rfl
@[simp] theorem State.setChan_clk (s : State) (k : Nat) (c : Chan) : (s.setChan k c).clk = s.clk := rfl
@[simp] theorem State.setChan_hgs (s : State) (k : Nat) (c : Chan) : (s.setChan k c).hgs = s.hgs := rfl
@[simp] theorem State.setChan_synths (s : State) (k : Nat) (c : Chan) : (s.setChan k c).synths = s.synths := rfl
@[simp] theorem State.setChan_refRuns (s : State) (k : Nat) (c : Chan) : (s.setChan k c).refRuns = s.refRuns := rfl
@[simp] theorem State.setChan_seats (s : State) (k : Nat) (c : Chan) : (s.setChan k c).seats = s.seats := rfl
@[simp] theorem State.setChan_lanes (s : State) (k : Nat) (c : Chan) : (s.setChan k c).lanes = s.lanes := rfl
@[simp] theorem State.setChan_cal (s : State) (k : Nat) (c : Chan) : (s.setChan k c).cal = s.cal := rfl
@[simp] theorem State.setChan_sensors (s : State) (k : Nat) (c : Chan) : (s.setChan k c).sensors = s.sensors := rfl
@[simp] theorem State.setChan_datum (s : State) (k : Nat) (c : Chan) : (s.setChan k c).datum = s.datum := rfl
@[simp] theorem State.setChan_nvs (s : State) (k : Nat) (c : Chan) : (s.setChan k c).nvs = s.nvs := rfl
@[simp] theorem State.setChan_lvl (s : State) (k : Nat) (c : Chan) : (s.setChan k c).lvl = s.lvl := rfl
@[simp] theorem State.setChan_flm (s : State) (k : Nat) (c : Chan) : (s.setChan k c).flm = s.flm := rfl
@[simp] theorem State.setChan_culvs (s : State) (k : Nat) (c : Chan) : (s.setChan k c).culvs = s.culvs := rfl
@[simp] theorem State.setChan_links (s : State) (k : Nat) (c : Chan) : (s.setChan k c).links = s.links := rfl
@[simp] theorem State.setChan_cox (s : State) (k : Nat) (c : Chan) : (s.setChan k c).cox = s.cox := rfl
@[simp] theorem State.setChan_buoys (s : State) (k : Nat) (c : Chan) : (s.setChan k c).buoys = s.buoys := rfl
@[simp] theorem State.setChan_runs (s : State) (k : Nat) (c : Chan) : (s.setChan k c).runs = s.runs := rfl
@[simp] theorem State.setChan_tap (s : State) (k : Nat) (c : Chan) : (s.setChan k c).tap = s.tap := rfl
@[simp] theorem State.setChan_freeCount (s : State) (k : Nat) (c : Chan) : (s.setChan k c).freeCount = s.freeCount := rfl
@[simp] theorem State.setChan_pending (s : State) (k : Nat) (c : Chan) : (s.setChan k c).pending = s.pending := rfl
@[simp] theorem State.setChan_rd (s : State) (k : Nat) (c : Chan) (g : Field) : (s.setChan k c).rd g = s.rd g := rfl
@[simp] theorem State.setChan_flag (s : State) (k : Nat) (c : Chan) (g : Field) : (s.setChan k c).flag g = s.flag g := rfl
@[simp] theorem State.setChan_hg (s : State) (k : Nat) (c : Chan) (j : Nat) : (s.setChan k c).hg j = s.hg j := rfl
@[simp] theorem State.setChan_synth (s : State) (k : Nat) (c : Chan) (j : Nat) : (s.setChan k c).synth j = s.synth j := rfl
@[simp] theorem State.setChan_refRun (s : State) (k : Nat) (c : Chan) (j : Nat) : (s.setChan k c).refRun j = s.refRun j := rfl
@[simp] theorem State.setChan_seat (s : State) (k : Nat) (c : Chan) (j : Nat) : (s.setChan k c).seat j = s.seat j := rfl
@[simp] theorem State.setChan_laneSt (s : State) (k : Nat) (c : Chan) (j : Nat) : (s.setChan k c).laneSt j = s.laneSt j := rfl
@[simp] theorem State.setChan_liveCal (s : State) (k : Nat) (c : Chan) (j : Nat) : (s.setChan k c).liveCal j = s.liveCal j := rfl
@[simp] theorem State.setChan_sensor (s : State) (k : Nat) (c : Chan) (j : Nat) : (s.setChan k c).sensor j = s.sensor j := rfl
@[simp] theorem State.setChan_culv (s : State) (k : Nat) (c : Chan) (j : Nat) : (s.setChan k c).culv j = s.culv j := rfl
@[simp] theorem State.setChan_link (s : State) (k : Nat) (c : Chan) (j : Nat) : (s.setChan k c).link j = s.link j := rfl
@[simp] theorem State.setChan_oq (s : State) (k : Nat) (c : Chan) (j : Nat) : (s.setChan k c).oq j = s.oq j := rfl
@[simp] theorem State.setChan_buoyVal (s : State) (k : Nat) (c : Chan) (j : Nat) : (s.setChan k c).buoyVal j = s.buoyVal j := rfl
@[simp] theorem State.setChan_extent (s : State) (k : Nat) (c : Chan) (j : Nat) : (s.setChan k c).extent j = s.extent j := rfl
@[simp] theorem State.setChan_fan (s : State) (k : Nat) (c : Chan) (j : Nat) : (s.setChan k c).fan j = s.fan j := rfl

/-! ## setRefRun -/

@[simp] theorem State.setRefRun_regs (s : State) (k n : Nat) : (s.setRefRun k n).regs = s.regs := rfl
@[simp] theorem State.setRefRun_recs (s : State) (k n : Nat) : (s.setRefRun k n).recs = s.recs := rfl
@[simp] theorem State.setRefRun_log (s : State) (k n : Nat) : (s.setRefRun k n).log = s.log := rfl
@[simp] theorem State.setRefRun_ump (s : State) (k n : Nat) : (s.setRefRun k n).ump = s.ump := rfl
@[simp] theorem State.setRefRun_held (s : State) (k n : Nat) : (s.setRefRun k n).held = s.held := rfl
@[simp] theorem State.setRefRun_resetAt (s : State) (k n : Nat) : (s.setRefRun k n).resetAt = s.resetAt := rfl
@[simp] theorem State.setRefRun_fuses (s : State) (k n : Nat) : (s.setRefRun k n).fuses = s.fuses := rfl
@[simp] theorem State.setRefRun_paths (s : State) (k n : Nat) : (s.setRefRun k n).paths = s.paths := rfl
@[simp] theorem State.setRefRun_mgmt (s : State) (k n : Nat) : (s.setRefRun k n).mgmt = s.mgmt := rfl
@[simp] theorem State.setRefRun_port (s : State) (k n : Nat) : (s.setRefRun k n).port = s.port := rfl
@[simp] theorem State.setRefRun_clk (s : State) (k n : Nat) : (s.setRefRun k n).clk = s.clk := rfl
@[simp] theorem State.setRefRun_hgs (s : State) (k n : Nat) : (s.setRefRun k n).hgs = s.hgs := rfl
@[simp] theorem State.setRefRun_synths (s : State) (k n : Nat) : (s.setRefRun k n).synths = s.synths := rfl
@[simp] theorem State.setRefRun_chans (s : State) (k n : Nat) : (s.setRefRun k n).chans = s.chans := rfl
@[simp] theorem State.setRefRun_seats (s : State) (k n : Nat) : (s.setRefRun k n).seats = s.seats := rfl
@[simp] theorem State.setRefRun_lanes (s : State) (k n : Nat) : (s.setRefRun k n).lanes = s.lanes := rfl
@[simp] theorem State.setRefRun_cal (s : State) (k n : Nat) : (s.setRefRun k n).cal = s.cal := rfl
@[simp] theorem State.setRefRun_sensors (s : State) (k n : Nat) : (s.setRefRun k n).sensors = s.sensors := rfl
@[simp] theorem State.setRefRun_datum (s : State) (k n : Nat) : (s.setRefRun k n).datum = s.datum := rfl
@[simp] theorem State.setRefRun_nvs (s : State) (k n : Nat) : (s.setRefRun k n).nvs = s.nvs := rfl
@[simp] theorem State.setRefRun_lvl (s : State) (k n : Nat) : (s.setRefRun k n).lvl = s.lvl := rfl
@[simp] theorem State.setRefRun_flm (s : State) (k n : Nat) : (s.setRefRun k n).flm = s.flm := rfl
@[simp] theorem State.setRefRun_culvs (s : State) (k n : Nat) : (s.setRefRun k n).culvs = s.culvs := rfl
@[simp] theorem State.setRefRun_links (s : State) (k n : Nat) : (s.setRefRun k n).links = s.links := rfl
@[simp] theorem State.setRefRun_cox (s : State) (k n : Nat) : (s.setRefRun k n).cox = s.cox := rfl
@[simp] theorem State.setRefRun_buoys (s : State) (k n : Nat) : (s.setRefRun k n).buoys = s.buoys := rfl
@[simp] theorem State.setRefRun_runs (s : State) (k n : Nat) : (s.setRefRun k n).runs = s.runs := rfl
@[simp] theorem State.setRefRun_tap (s : State) (k n : Nat) : (s.setRefRun k n).tap = s.tap := rfl
@[simp] theorem State.setRefRun_freeCount (s : State) (k n : Nat) : (s.setRefRun k n).freeCount = s.freeCount := rfl
@[simp] theorem State.setRefRun_pending (s : State) (k n : Nat) : (s.setRefRun k n).pending = s.pending := rfl
@[simp] theorem State.setRefRun_rd (s : State) (k n : Nat) (g : Field) : (s.setRefRun k n).rd g = s.rd g := rfl
@[simp] theorem State.setRefRun_flag (s : State) (k n : Nat) (g : Field) : (s.setRefRun k n).flag g = s.flag g := rfl
@[simp] theorem State.setRefRun_hg (s : State) (k n : Nat) (j : Nat) : (s.setRefRun k n).hg j = s.hg j := rfl
@[simp] theorem State.setRefRun_synth (s : State) (k n : Nat) (j : Nat) : (s.setRefRun k n).synth j = s.synth j := rfl
@[simp] theorem State.setRefRun_chan (s : State) (k n : Nat) (j : Nat) : (s.setRefRun k n).chan j = s.chan j := rfl
@[simp] theorem State.setRefRun_seat (s : State) (k n : Nat) (j : Nat) : (s.setRefRun k n).seat j = s.seat j := rfl
@[simp] theorem State.setRefRun_laneSt (s : State) (k n : Nat) (j : Nat) : (s.setRefRun k n).laneSt j = s.laneSt j := rfl
@[simp] theorem State.setRefRun_liveCal (s : State) (k n : Nat) (j : Nat) : (s.setRefRun k n).liveCal j = s.liveCal j := rfl
@[simp] theorem State.setRefRun_sensor (s : State) (k n : Nat) (j : Nat) : (s.setRefRun k n).sensor j = s.sensor j := rfl
@[simp] theorem State.setRefRun_culv (s : State) (k n : Nat) (j : Nat) : (s.setRefRun k n).culv j = s.culv j := rfl
@[simp] theorem State.setRefRun_link (s : State) (k n : Nat) (j : Nat) : (s.setRefRun k n).link j = s.link j := rfl
@[simp] theorem State.setRefRun_oq (s : State) (k n : Nat) (j : Nat) : (s.setRefRun k n).oq j = s.oq j := rfl
@[simp] theorem State.setRefRun_buoyVal (s : State) (k n : Nat) (j : Nat) : (s.setRefRun k n).buoyVal j = s.buoyVal j := rfl
@[simp] theorem State.setRefRun_extent (s : State) (k n : Nat) (j : Nat) : (s.setRefRun k n).extent j = s.extent j := rfl
@[simp] theorem State.setRefRun_fan (s : State) (k n : Nat) (j : Nat) : (s.setRefRun k n).fan j = s.fan j := rfl

/-! ## setSeat -/

@[simp] theorem State.setSeat_regs (s : State) (k : Nat) (u : Seat) : (s.setSeat k u).regs = s.regs := rfl
@[simp] theorem State.setSeat_recs (s : State) (k : Nat) (u : Seat) : (s.setSeat k u).recs = s.recs := rfl
@[simp] theorem State.setSeat_log (s : State) (k : Nat) (u : Seat) : (s.setSeat k u).log = s.log := rfl
@[simp] theorem State.setSeat_ump (s : State) (k : Nat) (u : Seat) : (s.setSeat k u).ump = s.ump := rfl
@[simp] theorem State.setSeat_held (s : State) (k : Nat) (u : Seat) : (s.setSeat k u).held = s.held := rfl
@[simp] theorem State.setSeat_resetAt (s : State) (k : Nat) (u : Seat) : (s.setSeat k u).resetAt = s.resetAt := rfl
@[simp] theorem State.setSeat_fuses (s : State) (k : Nat) (u : Seat) : (s.setSeat k u).fuses = s.fuses := rfl
@[simp] theorem State.setSeat_paths (s : State) (k : Nat) (u : Seat) : (s.setSeat k u).paths = s.paths := rfl
@[simp] theorem State.setSeat_mgmt (s : State) (k : Nat) (u : Seat) : (s.setSeat k u).mgmt = s.mgmt := rfl
@[simp] theorem State.setSeat_port (s : State) (k : Nat) (u : Seat) : (s.setSeat k u).port = s.port := rfl
@[simp] theorem State.setSeat_clk (s : State) (k : Nat) (u : Seat) : (s.setSeat k u).clk = s.clk := rfl
@[simp] theorem State.setSeat_hgs (s : State) (k : Nat) (u : Seat) : (s.setSeat k u).hgs = s.hgs := rfl
@[simp] theorem State.setSeat_synths (s : State) (k : Nat) (u : Seat) : (s.setSeat k u).synths = s.synths := rfl
@[simp] theorem State.setSeat_chans (s : State) (k : Nat) (u : Seat) : (s.setSeat k u).chans = s.chans := rfl
@[simp] theorem State.setSeat_refRuns (s : State) (k : Nat) (u : Seat) : (s.setSeat k u).refRuns = s.refRuns := rfl
@[simp] theorem State.setSeat_lanes (s : State) (k : Nat) (u : Seat) : (s.setSeat k u).lanes = s.lanes := rfl
@[simp] theorem State.setSeat_cal (s : State) (k : Nat) (u : Seat) : (s.setSeat k u).cal = s.cal := rfl
@[simp] theorem State.setSeat_sensors (s : State) (k : Nat) (u : Seat) : (s.setSeat k u).sensors = s.sensors := rfl
@[simp] theorem State.setSeat_datum (s : State) (k : Nat) (u : Seat) : (s.setSeat k u).datum = s.datum := rfl
@[simp] theorem State.setSeat_nvs (s : State) (k : Nat) (u : Seat) : (s.setSeat k u).nvs = s.nvs := rfl
@[simp] theorem State.setSeat_lvl (s : State) (k : Nat) (u : Seat) : (s.setSeat k u).lvl = s.lvl := rfl
@[simp] theorem State.setSeat_flm (s : State) (k : Nat) (u : Seat) : (s.setSeat k u).flm = s.flm := rfl
@[simp] theorem State.setSeat_culvs (s : State) (k : Nat) (u : Seat) : (s.setSeat k u).culvs = s.culvs := rfl
@[simp] theorem State.setSeat_links (s : State) (k : Nat) (u : Seat) : (s.setSeat k u).links = s.links := rfl
@[simp] theorem State.setSeat_cox (s : State) (k : Nat) (u : Seat) : (s.setSeat k u).cox = s.cox := rfl
@[simp] theorem State.setSeat_buoys (s : State) (k : Nat) (u : Seat) : (s.setSeat k u).buoys = s.buoys := rfl
@[simp] theorem State.setSeat_runs (s : State) (k : Nat) (u : Seat) : (s.setSeat k u).runs = s.runs := rfl
@[simp] theorem State.setSeat_tap (s : State) (k : Nat) (u : Seat) : (s.setSeat k u).tap = s.tap := rfl
@[simp] theorem State.setSeat_freeCount (s : State) (k : Nat) (u : Seat) : (s.setSeat k u).freeCount = s.freeCount := rfl
@[simp] theorem State.setSeat_pending (s : State) (k : Nat) (u : Seat) : (s.setSeat k u).pending = s.pending := rfl
@[simp] theorem State.setSeat_rd (s : State) (k : Nat) (u : Seat) (g : Field) : (s.setSeat k u).rd g = s.rd g := rfl
@[simp] theorem State.setSeat_flag (s : State) (k : Nat) (u : Seat) (g : Field) : (s.setSeat k u).flag g = s.flag g := rfl
@[simp] theorem State.setSeat_hg (s : State) (k : Nat) (u : Seat) (j : Nat) : (s.setSeat k u).hg j = s.hg j := rfl
@[simp] theorem State.setSeat_synth (s : State) (k : Nat) (u : Seat) (j : Nat) : (s.setSeat k u).synth j = s.synth j := rfl
@[simp] theorem State.setSeat_chan (s : State) (k : Nat) (u : Seat) (j : Nat) : (s.setSeat k u).chan j = s.chan j := rfl
@[simp] theorem State.setSeat_refRun (s : State) (k : Nat) (u : Seat) (j : Nat) : (s.setSeat k u).refRun j = s.refRun j := rfl
@[simp] theorem State.setSeat_laneSt (s : State) (k : Nat) (u : Seat) (j : Nat) : (s.setSeat k u).laneSt j = s.laneSt j := rfl
@[simp] theorem State.setSeat_liveCal (s : State) (k : Nat) (u : Seat) (j : Nat) : (s.setSeat k u).liveCal j = s.liveCal j := rfl
@[simp] theorem State.setSeat_sensor (s : State) (k : Nat) (u : Seat) (j : Nat) : (s.setSeat k u).sensor j = s.sensor j := rfl
@[simp] theorem State.setSeat_culv (s : State) (k : Nat) (u : Seat) (j : Nat) : (s.setSeat k u).culv j = s.culv j := rfl
@[simp] theorem State.setSeat_link (s : State) (k : Nat) (u : Seat) (j : Nat) : (s.setSeat k u).link j = s.link j := rfl
@[simp] theorem State.setSeat_oq (s : State) (k : Nat) (u : Seat) (j : Nat) : (s.setSeat k u).oq j = s.oq j := rfl
@[simp] theorem State.setSeat_buoyVal (s : State) (k : Nat) (u : Seat) (j : Nat) : (s.setSeat k u).buoyVal j = s.buoyVal j := rfl
@[simp] theorem State.setSeat_extent (s : State) (k : Nat) (u : Seat) (j : Nat) : (s.setSeat k u).extent j = s.extent j := rfl
@[simp] theorem State.setSeat_fan (s : State) (k : Nat) (u : Seat) (j : Nat) : (s.setSeat k u).fan j = s.fan j := rfl

/-! ## setLaneSt -/

@[simp] theorem State.setLaneSt_regs (s : State) (p : Nat) (l : Lanes) : (s.setLaneSt p l).regs = s.regs := rfl
@[simp] theorem State.setLaneSt_recs (s : State) (p : Nat) (l : Lanes) : (s.setLaneSt p l).recs = s.recs := rfl
@[simp] theorem State.setLaneSt_log (s : State) (p : Nat) (l : Lanes) : (s.setLaneSt p l).log = s.log := rfl
@[simp] theorem State.setLaneSt_ump (s : State) (p : Nat) (l : Lanes) : (s.setLaneSt p l).ump = s.ump := rfl
@[simp] theorem State.setLaneSt_held (s : State) (p : Nat) (l : Lanes) : (s.setLaneSt p l).held = s.held := rfl
@[simp] theorem State.setLaneSt_resetAt (s : State) (p : Nat) (l : Lanes) : (s.setLaneSt p l).resetAt = s.resetAt := rfl
@[simp] theorem State.setLaneSt_fuses (s : State) (p : Nat) (l : Lanes) : (s.setLaneSt p l).fuses = s.fuses := rfl
@[simp] theorem State.setLaneSt_paths (s : State) (p : Nat) (l : Lanes) : (s.setLaneSt p l).paths = s.paths := rfl
@[simp] theorem State.setLaneSt_mgmt (s : State) (p : Nat) (l : Lanes) : (s.setLaneSt p l).mgmt = s.mgmt := rfl
@[simp] theorem State.setLaneSt_port (s : State) (p : Nat) (l : Lanes) : (s.setLaneSt p l).port = s.port := rfl
@[simp] theorem State.setLaneSt_clk (s : State) (p : Nat) (l : Lanes) : (s.setLaneSt p l).clk = s.clk := rfl
@[simp] theorem State.setLaneSt_hgs (s : State) (p : Nat) (l : Lanes) : (s.setLaneSt p l).hgs = s.hgs := rfl
@[simp] theorem State.setLaneSt_synths (s : State) (p : Nat) (l : Lanes) : (s.setLaneSt p l).synths = s.synths := rfl
@[simp] theorem State.setLaneSt_chans (s : State) (p : Nat) (l : Lanes) : (s.setLaneSt p l).chans = s.chans := rfl
@[simp] theorem State.setLaneSt_refRuns (s : State) (p : Nat) (l : Lanes) : (s.setLaneSt p l).refRuns = s.refRuns := rfl
@[simp] theorem State.setLaneSt_seats (s : State) (p : Nat) (l : Lanes) : (s.setLaneSt p l).seats = s.seats := rfl
@[simp] theorem State.setLaneSt_cal (s : State) (p : Nat) (l : Lanes) : (s.setLaneSt p l).cal = s.cal := rfl
@[simp] theorem State.setLaneSt_sensors (s : State) (p : Nat) (l : Lanes) : (s.setLaneSt p l).sensors = s.sensors := rfl
@[simp] theorem State.setLaneSt_datum (s : State) (p : Nat) (l : Lanes) : (s.setLaneSt p l).datum = s.datum := rfl
@[simp] theorem State.setLaneSt_nvs (s : State) (p : Nat) (l : Lanes) : (s.setLaneSt p l).nvs = s.nvs := rfl
@[simp] theorem State.setLaneSt_lvl (s : State) (p : Nat) (l : Lanes) : (s.setLaneSt p l).lvl = s.lvl := rfl
@[simp] theorem State.setLaneSt_flm (s : State) (p : Nat) (l : Lanes) : (s.setLaneSt p l).flm = s.flm := rfl
@[simp] theorem State.setLaneSt_culvs (s : State) (p : Nat) (l : Lanes) : (s.setLaneSt p l).culvs = s.culvs := rfl
@[simp] theorem State.setLaneSt_links (s : State) (p : Nat) (l : Lanes) : (s.setLaneSt p l).links = s.links := rfl
@[simp] theorem State.setLaneSt_cox (s : State) (p : Nat) (l : Lanes) : (s.setLaneSt p l).cox = s.cox := rfl
@[simp] theorem State.setLaneSt_buoys (s : State) (p : Nat) (l : Lanes) : (s.setLaneSt p l).buoys = s.buoys := rfl
@[simp] theorem State.setLaneSt_runs (s : State) (p : Nat) (l : Lanes) : (s.setLaneSt p l).runs = s.runs := rfl
@[simp] theorem State.setLaneSt_tap (s : State) (p : Nat) (l : Lanes) : (s.setLaneSt p l).tap = s.tap := rfl
@[simp] theorem State.setLaneSt_freeCount (s : State) (p : Nat) (l : Lanes) : (s.setLaneSt p l).freeCount = s.freeCount := rfl
@[simp] theorem State.setLaneSt_pending (s : State) (p : Nat) (l : Lanes) : (s.setLaneSt p l).pending = s.pending := rfl
@[simp] theorem State.setLaneSt_rd (s : State) (p : Nat) (l : Lanes) (g : Field) : (s.setLaneSt p l).rd g = s.rd g := rfl
@[simp] theorem State.setLaneSt_flag (s : State) (p : Nat) (l : Lanes) (g : Field) : (s.setLaneSt p l).flag g = s.flag g := rfl
@[simp] theorem State.setLaneSt_hg (s : State) (p : Nat) (l : Lanes) (j : Nat) : (s.setLaneSt p l).hg j = s.hg j := rfl
@[simp] theorem State.setLaneSt_synth (s : State) (p : Nat) (l : Lanes) (j : Nat) : (s.setLaneSt p l).synth j = s.synth j := rfl
@[simp] theorem State.setLaneSt_chan (s : State) (p : Nat) (l : Lanes) (j : Nat) : (s.setLaneSt p l).chan j = s.chan j := rfl
@[simp] theorem State.setLaneSt_refRun (s : State) (p : Nat) (l : Lanes) (j : Nat) : (s.setLaneSt p l).refRun j = s.refRun j := rfl
@[simp] theorem State.setLaneSt_seat (s : State) (p : Nat) (l : Lanes) (j : Nat) : (s.setLaneSt p l).seat j = s.seat j := rfl
@[simp] theorem State.setLaneSt_liveCal (s : State) (p : Nat) (l : Lanes) (j : Nat) : (s.setLaneSt p l).liveCal j = s.liveCal j := rfl
@[simp] theorem State.setLaneSt_sensor (s : State) (p : Nat) (l : Lanes) (j : Nat) : (s.setLaneSt p l).sensor j = s.sensor j := rfl
@[simp] theorem State.setLaneSt_culv (s : State) (p : Nat) (l : Lanes) (j : Nat) : (s.setLaneSt p l).culv j = s.culv j := rfl
@[simp] theorem State.setLaneSt_link (s : State) (p : Nat) (l : Lanes) (j : Nat) : (s.setLaneSt p l).link j = s.link j := rfl
@[simp] theorem State.setLaneSt_oq (s : State) (p : Nat) (l : Lanes) (j : Nat) : (s.setLaneSt p l).oq j = s.oq j := rfl
@[simp] theorem State.setLaneSt_buoyVal (s : State) (p : Nat) (l : Lanes) (j : Nat) : (s.setLaneSt p l).buoyVal j = s.buoyVal j := rfl
@[simp] theorem State.setLaneSt_extent (s : State) (p : Nat) (l : Lanes) (j : Nat) : (s.setLaneSt p l).extent j = s.extent j := rfl
@[simp] theorem State.setLaneSt_fan (s : State) (p : Nat) (l : Lanes) (j : Nat) : (s.setLaneSt p l).fan j = s.fan j := rfl

/-! ## setLiveCal -/

@[simp] theorem State.setLiveCal_regs (s : State) (k : Nat) (c : LiveCal) : (s.setLiveCal k c).regs = s.regs := rfl
@[simp] theorem State.setLiveCal_recs (s : State) (k : Nat) (c : LiveCal) : (s.setLiveCal k c).recs = s.recs := rfl
@[simp] theorem State.setLiveCal_log (s : State) (k : Nat) (c : LiveCal) : (s.setLiveCal k c).log = s.log := rfl
@[simp] theorem State.setLiveCal_ump (s : State) (k : Nat) (c : LiveCal) : (s.setLiveCal k c).ump = s.ump := rfl
@[simp] theorem State.setLiveCal_held (s : State) (k : Nat) (c : LiveCal) : (s.setLiveCal k c).held = s.held := rfl
@[simp] theorem State.setLiveCal_resetAt (s : State) (k : Nat) (c : LiveCal) : (s.setLiveCal k c).resetAt = s.resetAt := rfl
@[simp] theorem State.setLiveCal_fuses (s : State) (k : Nat) (c : LiveCal) : (s.setLiveCal k c).fuses = s.fuses := rfl
@[simp] theorem State.setLiveCal_paths (s : State) (k : Nat) (c : LiveCal) : (s.setLiveCal k c).paths = s.paths := rfl
@[simp] theorem State.setLiveCal_mgmt (s : State) (k : Nat) (c : LiveCal) : (s.setLiveCal k c).mgmt = s.mgmt := rfl
@[simp] theorem State.setLiveCal_port (s : State) (k : Nat) (c : LiveCal) : (s.setLiveCal k c).port = s.port := rfl
@[simp] theorem State.setLiveCal_clk (s : State) (k : Nat) (c : LiveCal) : (s.setLiveCal k c).clk = s.clk := rfl
@[simp] theorem State.setLiveCal_hgs (s : State) (k : Nat) (c : LiveCal) : (s.setLiveCal k c).hgs = s.hgs := rfl
@[simp] theorem State.setLiveCal_synths (s : State) (k : Nat) (c : LiveCal) : (s.setLiveCal k c).synths = s.synths := rfl
@[simp] theorem State.setLiveCal_chans (s : State) (k : Nat) (c : LiveCal) : (s.setLiveCal k c).chans = s.chans := rfl
@[simp] theorem State.setLiveCal_refRuns (s : State) (k : Nat) (c : LiveCal) : (s.setLiveCal k c).refRuns = s.refRuns := rfl
@[simp] theorem State.setLiveCal_seats (s : State) (k : Nat) (c : LiveCal) : (s.setLiveCal k c).seats = s.seats := rfl
@[simp] theorem State.setLiveCal_lanes (s : State) (k : Nat) (c : LiveCal) : (s.setLiveCal k c).lanes = s.lanes := rfl
@[simp] theorem State.setLiveCal_sensors (s : State) (k : Nat) (c : LiveCal) : (s.setLiveCal k c).sensors = s.sensors := rfl
@[simp] theorem State.setLiveCal_datum (s : State) (k : Nat) (c : LiveCal) : (s.setLiveCal k c).datum = s.datum := rfl
@[simp] theorem State.setLiveCal_nvs (s : State) (k : Nat) (c : LiveCal) : (s.setLiveCal k c).nvs = s.nvs := rfl
@[simp] theorem State.setLiveCal_lvl (s : State) (k : Nat) (c : LiveCal) : (s.setLiveCal k c).lvl = s.lvl := rfl
@[simp] theorem State.setLiveCal_flm (s : State) (k : Nat) (c : LiveCal) : (s.setLiveCal k c).flm = s.flm := rfl
@[simp] theorem State.setLiveCal_culvs (s : State) (k : Nat) (c : LiveCal) : (s.setLiveCal k c).culvs = s.culvs := rfl
@[simp] theorem State.setLiveCal_links (s : State) (k : Nat) (c : LiveCal) : (s.setLiveCal k c).links = s.links := rfl
@[simp] theorem State.setLiveCal_cox (s : State) (k : Nat) (c : LiveCal) : (s.setLiveCal k c).cox = s.cox := rfl
@[simp] theorem State.setLiveCal_buoys (s : State) (k : Nat) (c : LiveCal) : (s.setLiveCal k c).buoys = s.buoys := rfl
@[simp] theorem State.setLiveCal_runs (s : State) (k : Nat) (c : LiveCal) : (s.setLiveCal k c).runs = s.runs := rfl
@[simp] theorem State.setLiveCal_tap (s : State) (k : Nat) (c : LiveCal) : (s.setLiveCal k c).tap = s.tap := rfl
@[simp] theorem State.setLiveCal_freeCount (s : State) (k : Nat) (c : LiveCal) : (s.setLiveCal k c).freeCount = s.freeCount := rfl
@[simp] theorem State.setLiveCal_pending (s : State) (k : Nat) (c : LiveCal) : (s.setLiveCal k c).pending = s.pending := rfl
@[simp] theorem State.setLiveCal_rd (s : State) (k : Nat) (c : LiveCal) (g : Field) : (s.setLiveCal k c).rd g = s.rd g := rfl
@[simp] theorem State.setLiveCal_flag (s : State) (k : Nat) (c : LiveCal) (g : Field) : (s.setLiveCal k c).flag g = s.flag g := rfl
@[simp] theorem State.setLiveCal_hg (s : State) (k : Nat) (c : LiveCal) (j : Nat) : (s.setLiveCal k c).hg j = s.hg j := rfl
@[simp] theorem State.setLiveCal_synth (s : State) (k : Nat) (c : LiveCal) (j : Nat) : (s.setLiveCal k c).synth j = s.synth j := rfl
@[simp] theorem State.setLiveCal_chan (s : State) (k : Nat) (c : LiveCal) (j : Nat) : (s.setLiveCal k c).chan j = s.chan j := rfl
@[simp] theorem State.setLiveCal_refRun (s : State) (k : Nat) (c : LiveCal) (j : Nat) : (s.setLiveCal k c).refRun j = s.refRun j := rfl
@[simp] theorem State.setLiveCal_seat (s : State) (k : Nat) (c : LiveCal) (j : Nat) : (s.setLiveCal k c).seat j = s.seat j := rfl
@[simp] theorem State.setLiveCal_laneSt (s : State) (k : Nat) (c : LiveCal) (j : Nat) : (s.setLiveCal k c).laneSt j = s.laneSt j := rfl
@[simp] theorem State.setLiveCal_sensor (s : State) (k : Nat) (c : LiveCal) (j : Nat) : (s.setLiveCal k c).sensor j = s.sensor j := rfl
@[simp] theorem State.setLiveCal_culv (s : State) (k : Nat) (c : LiveCal) (j : Nat) : (s.setLiveCal k c).culv j = s.culv j := rfl
@[simp] theorem State.setLiveCal_link (s : State) (k : Nat) (c : LiveCal) (j : Nat) : (s.setLiveCal k c).link j = s.link j := rfl
@[simp] theorem State.setLiveCal_oq (s : State) (k : Nat) (c : LiveCal) (j : Nat) : (s.setLiveCal k c).oq j = s.oq j := rfl
@[simp] theorem State.setLiveCal_buoyVal (s : State) (k : Nat) (c : LiveCal) (j : Nat) : (s.setLiveCal k c).buoyVal j = s.buoyVal j := rfl
@[simp] theorem State.setLiveCal_extent (s : State) (k : Nat) (c : LiveCal) (j : Nat) : (s.setLiveCal k c).extent j = s.extent j := rfl
@[simp] theorem State.setLiveCal_fan (s : State) (k : Nat) (c : LiveCal) (j : Nat) : (s.setLiveCal k c).fan j = s.fan j := rfl

/-! ## setSensor -/

@[simp] theorem State.setSensor_regs (s : State) (n : Nat) (x : Sensor) : (s.setSensor n x).regs = s.regs := rfl
@[simp] theorem State.setSensor_recs (s : State) (n : Nat) (x : Sensor) : (s.setSensor n x).recs = s.recs := rfl
@[simp] theorem State.setSensor_log (s : State) (n : Nat) (x : Sensor) : (s.setSensor n x).log = s.log := rfl
@[simp] theorem State.setSensor_ump (s : State) (n : Nat) (x : Sensor) : (s.setSensor n x).ump = s.ump := rfl
@[simp] theorem State.setSensor_held (s : State) (n : Nat) (x : Sensor) : (s.setSensor n x).held = s.held := rfl
@[simp] theorem State.setSensor_resetAt (s : State) (n : Nat) (x : Sensor) : (s.setSensor n x).resetAt = s.resetAt := rfl
@[simp] theorem State.setSensor_fuses (s : State) (n : Nat) (x : Sensor) : (s.setSensor n x).fuses = s.fuses := rfl
@[simp] theorem State.setSensor_paths (s : State) (n : Nat) (x : Sensor) : (s.setSensor n x).paths = s.paths := rfl
@[simp] theorem State.setSensor_mgmt (s : State) (n : Nat) (x : Sensor) : (s.setSensor n x).mgmt = s.mgmt := rfl
@[simp] theorem State.setSensor_port (s : State) (n : Nat) (x : Sensor) : (s.setSensor n x).port = s.port := rfl
@[simp] theorem State.setSensor_clk (s : State) (n : Nat) (x : Sensor) : (s.setSensor n x).clk = s.clk := rfl
@[simp] theorem State.setSensor_hgs (s : State) (n : Nat) (x : Sensor) : (s.setSensor n x).hgs = s.hgs := rfl
@[simp] theorem State.setSensor_synths (s : State) (n : Nat) (x : Sensor) : (s.setSensor n x).synths = s.synths := rfl
@[simp] theorem State.setSensor_chans (s : State) (n : Nat) (x : Sensor) : (s.setSensor n x).chans = s.chans := rfl
@[simp] theorem State.setSensor_refRuns (s : State) (n : Nat) (x : Sensor) : (s.setSensor n x).refRuns = s.refRuns := rfl
@[simp] theorem State.setSensor_seats (s : State) (n : Nat) (x : Sensor) : (s.setSensor n x).seats = s.seats := rfl
@[simp] theorem State.setSensor_lanes (s : State) (n : Nat) (x : Sensor) : (s.setSensor n x).lanes = s.lanes := rfl
@[simp] theorem State.setSensor_cal (s : State) (n : Nat) (x : Sensor) : (s.setSensor n x).cal = s.cal := rfl
@[simp] theorem State.setSensor_datum (s : State) (n : Nat) (x : Sensor) : (s.setSensor n x).datum = s.datum := rfl
@[simp] theorem State.setSensor_nvs (s : State) (n : Nat) (x : Sensor) : (s.setSensor n x).nvs = s.nvs := rfl
@[simp] theorem State.setSensor_lvl (s : State) (n : Nat) (x : Sensor) : (s.setSensor n x).lvl = s.lvl := rfl
@[simp] theorem State.setSensor_flm (s : State) (n : Nat) (x : Sensor) : (s.setSensor n x).flm = s.flm := rfl
@[simp] theorem State.setSensor_culvs (s : State) (n : Nat) (x : Sensor) : (s.setSensor n x).culvs = s.culvs := rfl
@[simp] theorem State.setSensor_links (s : State) (n : Nat) (x : Sensor) : (s.setSensor n x).links = s.links := rfl
@[simp] theorem State.setSensor_cox (s : State) (n : Nat) (x : Sensor) : (s.setSensor n x).cox = s.cox := rfl
@[simp] theorem State.setSensor_buoys (s : State) (n : Nat) (x : Sensor) : (s.setSensor n x).buoys = s.buoys := rfl
@[simp] theorem State.setSensor_runs (s : State) (n : Nat) (x : Sensor) : (s.setSensor n x).runs = s.runs := rfl
@[simp] theorem State.setSensor_tap (s : State) (n : Nat) (x : Sensor) : (s.setSensor n x).tap = s.tap := rfl
@[simp] theorem State.setSensor_freeCount (s : State) (n : Nat) (x : Sensor) : (s.setSensor n x).freeCount = s.freeCount := rfl
@[simp] theorem State.setSensor_pending (s : State) (n : Nat) (x : Sensor) : (s.setSensor n x).pending = s.pending := rfl
@[simp] theorem State.setSensor_rd (s : State) (n : Nat) (x : Sensor) (g : Field) : (s.setSensor n x).rd g = s.rd g := rfl
@[simp] theorem State.setSensor_flag (s : State) (n : Nat) (x : Sensor) (g : Field) : (s.setSensor n x).flag g = s.flag g := rfl
@[simp] theorem State.setSensor_hg (s : State) (n : Nat) (x : Sensor) (j : Nat) : (s.setSensor n x).hg j = s.hg j := rfl
@[simp] theorem State.setSensor_synth (s : State) (n : Nat) (x : Sensor) (j : Nat) : (s.setSensor n x).synth j = s.synth j := rfl
@[simp] theorem State.setSensor_chan (s : State) (n : Nat) (x : Sensor) (j : Nat) : (s.setSensor n x).chan j = s.chan j := rfl
@[simp] theorem State.setSensor_refRun (s : State) (n : Nat) (x : Sensor) (j : Nat) : (s.setSensor n x).refRun j = s.refRun j := rfl
@[simp] theorem State.setSensor_seat (s : State) (n : Nat) (x : Sensor) (j : Nat) : (s.setSensor n x).seat j = s.seat j := rfl
@[simp] theorem State.setSensor_laneSt (s : State) (n : Nat) (x : Sensor) (j : Nat) : (s.setSensor n x).laneSt j = s.laneSt j := rfl
@[simp] theorem State.setSensor_liveCal (s : State) (n : Nat) (x : Sensor) (j : Nat) : (s.setSensor n x).liveCal j = s.liveCal j := rfl
@[simp] theorem State.setSensor_culv (s : State) (n : Nat) (x : Sensor) (j : Nat) : (s.setSensor n x).culv j = s.culv j := rfl
@[simp] theorem State.setSensor_link (s : State) (n : Nat) (x : Sensor) (j : Nat) : (s.setSensor n x).link j = s.link j := rfl
@[simp] theorem State.setSensor_oq (s : State) (n : Nat) (x : Sensor) (j : Nat) : (s.setSensor n x).oq j = s.oq j := rfl
@[simp] theorem State.setSensor_buoyVal (s : State) (n : Nat) (x : Sensor) (j : Nat) : (s.setSensor n x).buoyVal j = s.buoyVal j := rfl
@[simp] theorem State.setSensor_extent (s : State) (n : Nat) (x : Sensor) (j : Nat) : (s.setSensor n x).extent j = s.extent j := rfl
@[simp] theorem State.setSensor_fan (s : State) (n : Nat) (x : Sensor) (j : Nat) : (s.setSensor n x).fan j = s.fan j := rfl

/-! ## setCulv -/

@[simp] theorem State.setCulv_regs (s : State) (c : Nat) (x : Culv) : (s.setCulv c x).regs = s.regs := rfl
@[simp] theorem State.setCulv_recs (s : State) (c : Nat) (x : Culv) : (s.setCulv c x).recs = s.recs := rfl
@[simp] theorem State.setCulv_log (s : State) (c : Nat) (x : Culv) : (s.setCulv c x).log = s.log := rfl
@[simp] theorem State.setCulv_ump (s : State) (c : Nat) (x : Culv) : (s.setCulv c x).ump = s.ump := rfl
@[simp] theorem State.setCulv_held (s : State) (c : Nat) (x : Culv) : (s.setCulv c x).held = s.held := rfl
@[simp] theorem State.setCulv_resetAt (s : State) (c : Nat) (x : Culv) : (s.setCulv c x).resetAt = s.resetAt := rfl
@[simp] theorem State.setCulv_fuses (s : State) (c : Nat) (x : Culv) : (s.setCulv c x).fuses = s.fuses := rfl
@[simp] theorem State.setCulv_paths (s : State) (c : Nat) (x : Culv) : (s.setCulv c x).paths = s.paths := rfl
@[simp] theorem State.setCulv_mgmt (s : State) (c : Nat) (x : Culv) : (s.setCulv c x).mgmt = s.mgmt := rfl
@[simp] theorem State.setCulv_port (s : State) (c : Nat) (x : Culv) : (s.setCulv c x).port = s.port := rfl
@[simp] theorem State.setCulv_clk (s : State) (c : Nat) (x : Culv) : (s.setCulv c x).clk = s.clk := rfl
@[simp] theorem State.setCulv_hgs (s : State) (c : Nat) (x : Culv) : (s.setCulv c x).hgs = s.hgs := rfl
@[simp] theorem State.setCulv_synths (s : State) (c : Nat) (x : Culv) : (s.setCulv c x).synths = s.synths := rfl
@[simp] theorem State.setCulv_chans (s : State) (c : Nat) (x : Culv) : (s.setCulv c x).chans = s.chans := rfl
@[simp] theorem State.setCulv_refRuns (s : State) (c : Nat) (x : Culv) : (s.setCulv c x).refRuns = s.refRuns := rfl
@[simp] theorem State.setCulv_seats (s : State) (c : Nat) (x : Culv) : (s.setCulv c x).seats = s.seats := rfl
@[simp] theorem State.setCulv_lanes (s : State) (c : Nat) (x : Culv) : (s.setCulv c x).lanes = s.lanes := rfl
@[simp] theorem State.setCulv_cal (s : State) (c : Nat) (x : Culv) : (s.setCulv c x).cal = s.cal := rfl
@[simp] theorem State.setCulv_sensors (s : State) (c : Nat) (x : Culv) : (s.setCulv c x).sensors = s.sensors := rfl
@[simp] theorem State.setCulv_datum (s : State) (c : Nat) (x : Culv) : (s.setCulv c x).datum = s.datum := rfl
@[simp] theorem State.setCulv_nvs (s : State) (c : Nat) (x : Culv) : (s.setCulv c x).nvs = s.nvs := rfl
@[simp] theorem State.setCulv_lvl (s : State) (c : Nat) (x : Culv) : (s.setCulv c x).lvl = s.lvl := rfl
@[simp] theorem State.setCulv_flm (s : State) (c : Nat) (x : Culv) : (s.setCulv c x).flm = s.flm := rfl
@[simp] theorem State.setCulv_links (s : State) (c : Nat) (x : Culv) : (s.setCulv c x).links = s.links := rfl
@[simp] theorem State.setCulv_cox (s : State) (c : Nat) (x : Culv) : (s.setCulv c x).cox = s.cox := rfl
@[simp] theorem State.setCulv_buoys (s : State) (c : Nat) (x : Culv) : (s.setCulv c x).buoys = s.buoys := rfl
@[simp] theorem State.setCulv_runs (s : State) (c : Nat) (x : Culv) : (s.setCulv c x).runs = s.runs := rfl
@[simp] theorem State.setCulv_tap (s : State) (c : Nat) (x : Culv) : (s.setCulv c x).tap = s.tap := rfl
@[simp] theorem State.setCulv_freeCount (s : State) (c : Nat) (x : Culv) : (s.setCulv c x).freeCount = s.freeCount := rfl
@[simp] theorem State.setCulv_pending (s : State) (c : Nat) (x : Culv) : (s.setCulv c x).pending = s.pending := rfl
@[simp] theorem State.setCulv_rd (s : State) (c : Nat) (x : Culv) (g : Field) : (s.setCulv c x).rd g = s.rd g := rfl
@[simp] theorem State.setCulv_flag (s : State) (c : Nat) (x : Culv) (g : Field) : (s.setCulv c x).flag g = s.flag g := rfl
@[simp] theorem State.setCulv_hg (s : State) (c : Nat) (x : Culv) (j : Nat) : (s.setCulv c x).hg j = s.hg j := rfl
@[simp] theorem State.setCulv_synth (s : State) (c : Nat) (x : Culv) (j : Nat) : (s.setCulv c x).synth j = s.synth j := rfl
@[simp] theorem State.setCulv_chan (s : State) (c : Nat) (x : Culv) (j : Nat) : (s.setCulv c x).chan j = s.chan j := rfl
@[simp] theorem State.setCulv_refRun (s : State) (c : Nat) (x : Culv) (j : Nat) : (s.setCulv c x).refRun j = s.refRun j := rfl
@[simp] theorem State.setCulv_seat (s : State) (c : Nat) (x : Culv) (j : Nat) : (s.setCulv c x).seat j = s.seat j := rfl
@[simp] theorem State.setCulv_laneSt (s : State) (c : Nat) (x : Culv) (j : Nat) : (s.setCulv c x).laneSt j = s.laneSt j := rfl
@[simp] theorem State.setCulv_liveCal (s : State) (c : Nat) (x : Culv) (j : Nat) : (s.setCulv c x).liveCal j = s.liveCal j := rfl
@[simp] theorem State.setCulv_sensor (s : State) (c : Nat) (x : Culv) (j : Nat) : (s.setCulv c x).sensor j = s.sensor j := rfl
@[simp] theorem State.setCulv_link (s : State) (c : Nat) (x : Culv) (j : Nat) : (s.setCulv c x).link j = s.link j := rfl
@[simp] theorem State.setCulv_oq (s : State) (c : Nat) (x : Culv) (j : Nat) : (s.setCulv c x).oq j = s.oq j := rfl
@[simp] theorem State.setCulv_buoyVal (s : State) (c : Nat) (x : Culv) (j : Nat) : (s.setCulv c x).buoyVal j = s.buoyVal j := rfl
@[simp] theorem State.setCulv_extent (s : State) (c : Nat) (x : Culv) (j : Nat) : (s.setCulv c x).extent j = s.extent j := rfl
@[simp] theorem State.setCulv_fan (s : State) (c : Nat) (x : Culv) (j : Nat) : (s.setCulv c x).fan j = s.fan j := rfl

/-! ## setLink -/

@[simp] theorem State.setLink_regs (s : State) (n : Nat) (x : Link) : (s.setLink n x).regs = s.regs := rfl
@[simp] theorem State.setLink_recs (s : State) (n : Nat) (x : Link) : (s.setLink n x).recs = s.recs := rfl
@[simp] theorem State.setLink_log (s : State) (n : Nat) (x : Link) : (s.setLink n x).log = s.log := rfl
@[simp] theorem State.setLink_ump (s : State) (n : Nat) (x : Link) : (s.setLink n x).ump = s.ump := rfl
@[simp] theorem State.setLink_held (s : State) (n : Nat) (x : Link) : (s.setLink n x).held = s.held := rfl
@[simp] theorem State.setLink_resetAt (s : State) (n : Nat) (x : Link) : (s.setLink n x).resetAt = s.resetAt := rfl
@[simp] theorem State.setLink_fuses (s : State) (n : Nat) (x : Link) : (s.setLink n x).fuses = s.fuses := rfl
@[simp] theorem State.setLink_paths (s : State) (n : Nat) (x : Link) : (s.setLink n x).paths = s.paths := rfl
@[simp] theorem State.setLink_mgmt (s : State) (n : Nat) (x : Link) : (s.setLink n x).mgmt = s.mgmt := rfl
@[simp] theorem State.setLink_port (s : State) (n : Nat) (x : Link) : (s.setLink n x).port = s.port := rfl
@[simp] theorem State.setLink_clk (s : State) (n : Nat) (x : Link) : (s.setLink n x).clk = s.clk := rfl
@[simp] theorem State.setLink_hgs (s : State) (n : Nat) (x : Link) : (s.setLink n x).hgs = s.hgs := rfl
@[simp] theorem State.setLink_synths (s : State) (n : Nat) (x : Link) : (s.setLink n x).synths = s.synths := rfl
@[simp] theorem State.setLink_chans (s : State) (n : Nat) (x : Link) : (s.setLink n x).chans = s.chans := rfl
@[simp] theorem State.setLink_refRuns (s : State) (n : Nat) (x : Link) : (s.setLink n x).refRuns = s.refRuns := rfl
@[simp] theorem State.setLink_seats (s : State) (n : Nat) (x : Link) : (s.setLink n x).seats = s.seats := rfl
@[simp] theorem State.setLink_lanes (s : State) (n : Nat) (x : Link) : (s.setLink n x).lanes = s.lanes := rfl
@[simp] theorem State.setLink_cal (s : State) (n : Nat) (x : Link) : (s.setLink n x).cal = s.cal := rfl
@[simp] theorem State.setLink_sensors (s : State) (n : Nat) (x : Link) : (s.setLink n x).sensors = s.sensors := rfl
@[simp] theorem State.setLink_datum (s : State) (n : Nat) (x : Link) : (s.setLink n x).datum = s.datum := rfl
@[simp] theorem State.setLink_nvs (s : State) (n : Nat) (x : Link) : (s.setLink n x).nvs = s.nvs := rfl
@[simp] theorem State.setLink_lvl (s : State) (n : Nat) (x : Link) : (s.setLink n x).lvl = s.lvl := rfl
@[simp] theorem State.setLink_flm (s : State) (n : Nat) (x : Link) : (s.setLink n x).flm = s.flm := rfl
@[simp] theorem State.setLink_culvs (s : State) (n : Nat) (x : Link) : (s.setLink n x).culvs = s.culvs := rfl
@[simp] theorem State.setLink_cox (s : State) (n : Nat) (x : Link) : (s.setLink n x).cox = s.cox := rfl
@[simp] theorem State.setLink_buoys (s : State) (n : Nat) (x : Link) : (s.setLink n x).buoys = s.buoys := rfl
@[simp] theorem State.setLink_runs (s : State) (n : Nat) (x : Link) : (s.setLink n x).runs = s.runs := rfl
@[simp] theorem State.setLink_tap (s : State) (n : Nat) (x : Link) : (s.setLink n x).tap = s.tap := rfl
@[simp] theorem State.setLink_freeCount (s : State) (n : Nat) (x : Link) : (s.setLink n x).freeCount = s.freeCount := rfl
@[simp] theorem State.setLink_pending (s : State) (n : Nat) (x : Link) : (s.setLink n x).pending = s.pending := rfl
@[simp] theorem State.setLink_rd (s : State) (n : Nat) (x : Link) (g : Field) : (s.setLink n x).rd g = s.rd g := rfl
@[simp] theorem State.setLink_flag (s : State) (n : Nat) (x : Link) (g : Field) : (s.setLink n x).flag g = s.flag g := rfl
@[simp] theorem State.setLink_hg (s : State) (n : Nat) (x : Link) (j : Nat) : (s.setLink n x).hg j = s.hg j := rfl
@[simp] theorem State.setLink_synth (s : State) (n : Nat) (x : Link) (j : Nat) : (s.setLink n x).synth j = s.synth j := rfl
@[simp] theorem State.setLink_chan (s : State) (n : Nat) (x : Link) (j : Nat) : (s.setLink n x).chan j = s.chan j := rfl
@[simp] theorem State.setLink_refRun (s : State) (n : Nat) (x : Link) (j : Nat) : (s.setLink n x).refRun j = s.refRun j := rfl
@[simp] theorem State.setLink_seat (s : State) (n : Nat) (x : Link) (j : Nat) : (s.setLink n x).seat j = s.seat j := rfl
@[simp] theorem State.setLink_laneSt (s : State) (n : Nat) (x : Link) (j : Nat) : (s.setLink n x).laneSt j = s.laneSt j := rfl
@[simp] theorem State.setLink_liveCal (s : State) (n : Nat) (x : Link) (j : Nat) : (s.setLink n x).liveCal j = s.liveCal j := rfl
@[simp] theorem State.setLink_sensor (s : State) (n : Nat) (x : Link) (j : Nat) : (s.setLink n x).sensor j = s.sensor j := rfl
@[simp] theorem State.setLink_culv (s : State) (n : Nat) (x : Link) (j : Nat) : (s.setLink n x).culv j = s.culv j := rfl
@[simp] theorem State.setLink_oq (s : State) (n : Nat) (x : Link) (j : Nat) : (s.setLink n x).oq j = s.oq j := rfl
@[simp] theorem State.setLink_buoyVal (s : State) (n : Nat) (x : Link) (j : Nat) : (s.setLink n x).buoyVal j = s.buoyVal j := rfl
@[simp] theorem State.setLink_extent (s : State) (n : Nat) (x : Link) (j : Nat) : (s.setLink n x).extent j = s.extent j := rfl
@[simp] theorem State.setLink_fan (s : State) (n : Nat) (x : Link) (j : Nat) : (s.setLink n x).fan j = s.fan j := rfl

/-! ## setOq -/

@[simp] theorem State.setOq_regs (s : State) (k : Nat) (q : Oq) : (s.setOq k q).regs = s.regs := rfl
@[simp] theorem State.setOq_recs (s : State) (k : Nat) (q : Oq) : (s.setOq k q).recs = s.recs := rfl
@[simp] theorem State.setOq_log (s : State) (k : Nat) (q : Oq) : (s.setOq k q).log = s.log := rfl
@[simp] theorem State.setOq_ump (s : State) (k : Nat) (q : Oq) : (s.setOq k q).ump = s.ump := rfl
@[simp] theorem State.setOq_held (s : State) (k : Nat) (q : Oq) : (s.setOq k q).held = s.held := rfl
@[simp] theorem State.setOq_resetAt (s : State) (k : Nat) (q : Oq) : (s.setOq k q).resetAt = s.resetAt := rfl
@[simp] theorem State.setOq_fuses (s : State) (k : Nat) (q : Oq) : (s.setOq k q).fuses = s.fuses := rfl
@[simp] theorem State.setOq_paths (s : State) (k : Nat) (q : Oq) : (s.setOq k q).paths = s.paths := rfl
@[simp] theorem State.setOq_mgmt (s : State) (k : Nat) (q : Oq) : (s.setOq k q).mgmt = s.mgmt := rfl
@[simp] theorem State.setOq_port (s : State) (k : Nat) (q : Oq) : (s.setOq k q).port = s.port := rfl
@[simp] theorem State.setOq_clk (s : State) (k : Nat) (q : Oq) : (s.setOq k q).clk = s.clk := rfl
@[simp] theorem State.setOq_hgs (s : State) (k : Nat) (q : Oq) : (s.setOq k q).hgs = s.hgs := rfl
@[simp] theorem State.setOq_synths (s : State) (k : Nat) (q : Oq) : (s.setOq k q).synths = s.synths := rfl
@[simp] theorem State.setOq_chans (s : State) (k : Nat) (q : Oq) : (s.setOq k q).chans = s.chans := rfl
@[simp] theorem State.setOq_refRuns (s : State) (k : Nat) (q : Oq) : (s.setOq k q).refRuns = s.refRuns := rfl
@[simp] theorem State.setOq_seats (s : State) (k : Nat) (q : Oq) : (s.setOq k q).seats = s.seats := rfl
@[simp] theorem State.setOq_lanes (s : State) (k : Nat) (q : Oq) : (s.setOq k q).lanes = s.lanes := rfl
@[simp] theorem State.setOq_cal (s : State) (k : Nat) (q : Oq) : (s.setOq k q).cal = s.cal := rfl
@[simp] theorem State.setOq_sensors (s : State) (k : Nat) (q : Oq) : (s.setOq k q).sensors = s.sensors := rfl
@[simp] theorem State.setOq_datum (s : State) (k : Nat) (q : Oq) : (s.setOq k q).datum = s.datum := rfl
@[simp] theorem State.setOq_nvs (s : State) (k : Nat) (q : Oq) : (s.setOq k q).nvs = s.nvs := rfl
@[simp] theorem State.setOq_lvl (s : State) (k : Nat) (q : Oq) : (s.setOq k q).lvl = s.lvl := rfl
@[simp] theorem State.setOq_flm (s : State) (k : Nat) (q : Oq) : (s.setOq k q).flm = s.flm := rfl
@[simp] theorem State.setOq_culvs (s : State) (k : Nat) (q : Oq) : (s.setOq k q).culvs = s.culvs := rfl
@[simp] theorem State.setOq_links (s : State) (k : Nat) (q : Oq) : (s.setOq k q).links = s.links := rfl
@[simp] theorem State.setOq_buoys (s : State) (k : Nat) (q : Oq) : (s.setOq k q).buoys = s.buoys := rfl
@[simp] theorem State.setOq_runs (s : State) (k : Nat) (q : Oq) : (s.setOq k q).runs = s.runs := rfl
@[simp] theorem State.setOq_tap (s : State) (k : Nat) (q : Oq) : (s.setOq k q).tap = s.tap := rfl
@[simp] theorem State.setOq_freeCount (s : State) (k : Nat) (q : Oq) : (s.setOq k q).freeCount = s.freeCount := rfl
@[simp] theorem State.setOq_pending (s : State) (k : Nat) (q : Oq) : (s.setOq k q).pending = s.pending := rfl
@[simp] theorem State.setOq_rd (s : State) (k : Nat) (q : Oq) (g : Field) : (s.setOq k q).rd g = s.rd g := rfl
@[simp] theorem State.setOq_flag (s : State) (k : Nat) (q : Oq) (g : Field) : (s.setOq k q).flag g = s.flag g := rfl
@[simp] theorem State.setOq_hg (s : State) (k : Nat) (q : Oq) (j : Nat) : (s.setOq k q).hg j = s.hg j := rfl
@[simp] theorem State.setOq_synth (s : State) (k : Nat) (q : Oq) (j : Nat) : (s.setOq k q).synth j = s.synth j := rfl
@[simp] theorem State.setOq_chan (s : State) (k : Nat) (q : Oq) (j : Nat) : (s.setOq k q).chan j = s.chan j := rfl
@[simp] theorem State.setOq_refRun (s : State) (k : Nat) (q : Oq) (j : Nat) : (s.setOq k q).refRun j = s.refRun j := rfl
@[simp] theorem State.setOq_seat (s : State) (k : Nat) (q : Oq) (j : Nat) : (s.setOq k q).seat j = s.seat j := rfl
@[simp] theorem State.setOq_laneSt (s : State) (k : Nat) (q : Oq) (j : Nat) : (s.setOq k q).laneSt j = s.laneSt j := rfl
@[simp] theorem State.setOq_liveCal (s : State) (k : Nat) (q : Oq) (j : Nat) : (s.setOq k q).liveCal j = s.liveCal j := rfl
@[simp] theorem State.setOq_sensor (s : State) (k : Nat) (q : Oq) (j : Nat) : (s.setOq k q).sensor j = s.sensor j := rfl
@[simp] theorem State.setOq_culv (s : State) (k : Nat) (q : Oq) (j : Nat) : (s.setOq k q).culv j = s.culv j := rfl
@[simp] theorem State.setOq_link (s : State) (k : Nat) (q : Oq) (j : Nat) : (s.setOq k q).link j = s.link j := rfl
@[simp] theorem State.setOq_buoyVal (s : State) (k : Nat) (q : Oq) (j : Nat) : (s.setOq k q).buoyVal j = s.buoyVal j := rfl
@[simp] theorem State.setOq_extent (s : State) (k : Nat) (q : Oq) (j : Nat) : (s.setOq k q).extent j = s.extent j := rfl
@[simp] theorem State.setOq_fan (s : State) (k : Nat) (q : Oq) (j : Nat) : (s.setOq k q).fan j = s.fan j := rfl

/-! ## setBuoyVal -/

@[simp] theorem State.setBuoyVal_regs (s : State) (k : Nat) (v : DWord) : (s.setBuoyVal k v).regs = s.regs := rfl
@[simp] theorem State.setBuoyVal_recs (s : State) (k : Nat) (v : DWord) : (s.setBuoyVal k v).recs = s.recs := rfl
@[simp] theorem State.setBuoyVal_log (s : State) (k : Nat) (v : DWord) : (s.setBuoyVal k v).log = s.log := rfl
@[simp] theorem State.setBuoyVal_ump (s : State) (k : Nat) (v : DWord) : (s.setBuoyVal k v).ump = s.ump := rfl
@[simp] theorem State.setBuoyVal_held (s : State) (k : Nat) (v : DWord) : (s.setBuoyVal k v).held = s.held := rfl
@[simp] theorem State.setBuoyVal_resetAt (s : State) (k : Nat) (v : DWord) : (s.setBuoyVal k v).resetAt = s.resetAt := rfl
@[simp] theorem State.setBuoyVal_fuses (s : State) (k : Nat) (v : DWord) : (s.setBuoyVal k v).fuses = s.fuses := rfl
@[simp] theorem State.setBuoyVal_paths (s : State) (k : Nat) (v : DWord) : (s.setBuoyVal k v).paths = s.paths := rfl
@[simp] theorem State.setBuoyVal_mgmt (s : State) (k : Nat) (v : DWord) : (s.setBuoyVal k v).mgmt = s.mgmt := rfl
@[simp] theorem State.setBuoyVal_port (s : State) (k : Nat) (v : DWord) : (s.setBuoyVal k v).port = s.port := rfl
@[simp] theorem State.setBuoyVal_clk (s : State) (k : Nat) (v : DWord) : (s.setBuoyVal k v).clk = s.clk := rfl
@[simp] theorem State.setBuoyVal_hgs (s : State) (k : Nat) (v : DWord) : (s.setBuoyVal k v).hgs = s.hgs := rfl
@[simp] theorem State.setBuoyVal_synths (s : State) (k : Nat) (v : DWord) : (s.setBuoyVal k v).synths = s.synths := rfl
@[simp] theorem State.setBuoyVal_chans (s : State) (k : Nat) (v : DWord) : (s.setBuoyVal k v).chans = s.chans := rfl
@[simp] theorem State.setBuoyVal_refRuns (s : State) (k : Nat) (v : DWord) : (s.setBuoyVal k v).refRuns = s.refRuns := rfl
@[simp] theorem State.setBuoyVal_seats (s : State) (k : Nat) (v : DWord) : (s.setBuoyVal k v).seats = s.seats := rfl
@[simp] theorem State.setBuoyVal_lanes (s : State) (k : Nat) (v : DWord) : (s.setBuoyVal k v).lanes = s.lanes := rfl
@[simp] theorem State.setBuoyVal_cal (s : State) (k : Nat) (v : DWord) : (s.setBuoyVal k v).cal = s.cal := rfl
@[simp] theorem State.setBuoyVal_sensors (s : State) (k : Nat) (v : DWord) : (s.setBuoyVal k v).sensors = s.sensors := rfl
@[simp] theorem State.setBuoyVal_datum (s : State) (k : Nat) (v : DWord) : (s.setBuoyVal k v).datum = s.datum := rfl
@[simp] theorem State.setBuoyVal_nvs (s : State) (k : Nat) (v : DWord) : (s.setBuoyVal k v).nvs = s.nvs := rfl
@[simp] theorem State.setBuoyVal_lvl (s : State) (k : Nat) (v : DWord) : (s.setBuoyVal k v).lvl = s.lvl := rfl
@[simp] theorem State.setBuoyVal_flm (s : State) (k : Nat) (v : DWord) : (s.setBuoyVal k v).flm = s.flm := rfl
@[simp] theorem State.setBuoyVal_culvs (s : State) (k : Nat) (v : DWord) : (s.setBuoyVal k v).culvs = s.culvs := rfl
@[simp] theorem State.setBuoyVal_links (s : State) (k : Nat) (v : DWord) : (s.setBuoyVal k v).links = s.links := rfl
@[simp] theorem State.setBuoyVal_cox (s : State) (k : Nat) (v : DWord) : (s.setBuoyVal k v).cox = s.cox := rfl
@[simp] theorem State.setBuoyVal_runs (s : State) (k : Nat) (v : DWord) : (s.setBuoyVal k v).runs = s.runs := rfl
@[simp] theorem State.setBuoyVal_tap (s : State) (k : Nat) (v : DWord) : (s.setBuoyVal k v).tap = s.tap := rfl
@[simp] theorem State.setBuoyVal_freeCount (s : State) (k : Nat) (v : DWord) : (s.setBuoyVal k v).freeCount = s.freeCount := rfl
@[simp] theorem State.setBuoyVal_pending (s : State) (k : Nat) (v : DWord) : (s.setBuoyVal k v).pending = s.pending := rfl
@[simp] theorem State.setBuoyVal_rd (s : State) (k : Nat) (v : DWord) (g : Field) : (s.setBuoyVal k v).rd g = s.rd g := rfl
@[simp] theorem State.setBuoyVal_flag (s : State) (k : Nat) (v : DWord) (g : Field) : (s.setBuoyVal k v).flag g = s.flag g := rfl
@[simp] theorem State.setBuoyVal_hg (s : State) (k : Nat) (v : DWord) (j : Nat) : (s.setBuoyVal k v).hg j = s.hg j := rfl
@[simp] theorem State.setBuoyVal_synth (s : State) (k : Nat) (v : DWord) (j : Nat) : (s.setBuoyVal k v).synth j = s.synth j := rfl
@[simp] theorem State.setBuoyVal_chan (s : State) (k : Nat) (v : DWord) (j : Nat) : (s.setBuoyVal k v).chan j = s.chan j := rfl
@[simp] theorem State.setBuoyVal_refRun (s : State) (k : Nat) (v : DWord) (j : Nat) : (s.setBuoyVal k v).refRun j = s.refRun j := rfl
@[simp] theorem State.setBuoyVal_seat (s : State) (k : Nat) (v : DWord) (j : Nat) : (s.setBuoyVal k v).seat j = s.seat j := rfl
@[simp] theorem State.setBuoyVal_laneSt (s : State) (k : Nat) (v : DWord) (j : Nat) : (s.setBuoyVal k v).laneSt j = s.laneSt j := rfl
@[simp] theorem State.setBuoyVal_liveCal (s : State) (k : Nat) (v : DWord) (j : Nat) : (s.setBuoyVal k v).liveCal j = s.liveCal j := rfl
@[simp] theorem State.setBuoyVal_sensor (s : State) (k : Nat) (v : DWord) (j : Nat) : (s.setBuoyVal k v).sensor j = s.sensor j := rfl
@[simp] theorem State.setBuoyVal_culv (s : State) (k : Nat) (v : DWord) (j : Nat) : (s.setBuoyVal k v).culv j = s.culv j := rfl
@[simp] theorem State.setBuoyVal_link (s : State) (k : Nat) (v : DWord) (j : Nat) : (s.setBuoyVal k v).link j = s.link j := rfl
@[simp] theorem State.setBuoyVal_oq (s : State) (k : Nat) (v : DWord) (j : Nat) : (s.setBuoyVal k v).oq j = s.oq j := rfl
@[simp] theorem State.setBuoyVal_extent (s : State) (k : Nat) (v : DWord) (j : Nat) : (s.setBuoyVal k v).extent j = s.extent j := rfl
@[simp] theorem State.setBuoyVal_fan (s : State) (k : Nat) (v : DWord) (j : Nat) : (s.setBuoyVal k v).fan j = s.fan j := rfl

/-! ## setExtent -/

@[simp] theorem State.setExtent_regs (s : State) (k : Nat) (x : Extent) : (s.setExtent k x).regs = s.regs := rfl
@[simp] theorem State.setExtent_recs (s : State) (k : Nat) (x : Extent) : (s.setExtent k x).recs = s.recs := rfl
@[simp] theorem State.setExtent_log (s : State) (k : Nat) (x : Extent) : (s.setExtent k x).log = s.log := rfl
@[simp] theorem State.setExtent_ump (s : State) (k : Nat) (x : Extent) : (s.setExtent k x).ump = s.ump := rfl
@[simp] theorem State.setExtent_held (s : State) (k : Nat) (x : Extent) : (s.setExtent k x).held = s.held := rfl
@[simp] theorem State.setExtent_resetAt (s : State) (k : Nat) (x : Extent) : (s.setExtent k x).resetAt = s.resetAt := rfl
@[simp] theorem State.setExtent_fuses (s : State) (k : Nat) (x : Extent) : (s.setExtent k x).fuses = s.fuses := rfl
@[simp] theorem State.setExtent_paths (s : State) (k : Nat) (x : Extent) : (s.setExtent k x).paths = s.paths := rfl
@[simp] theorem State.setExtent_mgmt (s : State) (k : Nat) (x : Extent) : (s.setExtent k x).mgmt = s.mgmt := rfl
@[simp] theorem State.setExtent_port (s : State) (k : Nat) (x : Extent) : (s.setExtent k x).port = s.port := rfl
@[simp] theorem State.setExtent_clk (s : State) (k : Nat) (x : Extent) : (s.setExtent k x).clk = s.clk := rfl
@[simp] theorem State.setExtent_hgs (s : State) (k : Nat) (x : Extent) : (s.setExtent k x).hgs = s.hgs := rfl
@[simp] theorem State.setExtent_synths (s : State) (k : Nat) (x : Extent) : (s.setExtent k x).synths = s.synths := rfl
@[simp] theorem State.setExtent_chans (s : State) (k : Nat) (x : Extent) : (s.setExtent k x).chans = s.chans := rfl
@[simp] theorem State.setExtent_refRuns (s : State) (k : Nat) (x : Extent) : (s.setExtent k x).refRuns = s.refRuns := rfl
@[simp] theorem State.setExtent_seats (s : State) (k : Nat) (x : Extent) : (s.setExtent k x).seats = s.seats := rfl
@[simp] theorem State.setExtent_lanes (s : State) (k : Nat) (x : Extent) : (s.setExtent k x).lanes = s.lanes := rfl
@[simp] theorem State.setExtent_cal (s : State) (k : Nat) (x : Extent) : (s.setExtent k x).cal = s.cal := rfl
@[simp] theorem State.setExtent_sensors (s : State) (k : Nat) (x : Extent) : (s.setExtent k x).sensors = s.sensors := rfl
@[simp] theorem State.setExtent_datum (s : State) (k : Nat) (x : Extent) : (s.setExtent k x).datum = s.datum := rfl
@[simp] theorem State.setExtent_nvs (s : State) (k : Nat) (x : Extent) : (s.setExtent k x).nvs = s.nvs := rfl
@[simp] theorem State.setExtent_lvl (s : State) (k : Nat) (x : Extent) : (s.setExtent k x).lvl = s.lvl := rfl
@[simp] theorem State.setExtent_flm (s : State) (k : Nat) (x : Extent) : (s.setExtent k x).flm = s.flm := rfl
@[simp] theorem State.setExtent_culvs (s : State) (k : Nat) (x : Extent) : (s.setExtent k x).culvs = s.culvs := rfl
@[simp] theorem State.setExtent_links (s : State) (k : Nat) (x : Extent) : (s.setExtent k x).links = s.links := rfl
@[simp] theorem State.setExtent_cox (s : State) (k : Nat) (x : Extent) : (s.setExtent k x).cox = s.cox := rfl
@[simp] theorem State.setExtent_buoys (s : State) (k : Nat) (x : Extent) : (s.setExtent k x).buoys = s.buoys := rfl
@[simp] theorem State.setExtent_tap (s : State) (k : Nat) (x : Extent) : (s.setExtent k x).tap = s.tap := rfl
@[simp] theorem State.setExtent_freeCount (s : State) (k : Nat) (x : Extent) : (s.setExtent k x).freeCount = s.freeCount := rfl
@[simp] theorem State.setExtent_pending (s : State) (k : Nat) (x : Extent) : (s.setExtent k x).pending = s.pending := rfl
@[simp] theorem State.setExtent_rd (s : State) (k : Nat) (x : Extent) (g : Field) : (s.setExtent k x).rd g = s.rd g := rfl
@[simp] theorem State.setExtent_flag (s : State) (k : Nat) (x : Extent) (g : Field) : (s.setExtent k x).flag g = s.flag g := rfl
@[simp] theorem State.setExtent_hg (s : State) (k : Nat) (x : Extent) (j : Nat) : (s.setExtent k x).hg j = s.hg j := rfl
@[simp] theorem State.setExtent_synth (s : State) (k : Nat) (x : Extent) (j : Nat) : (s.setExtent k x).synth j = s.synth j := rfl
@[simp] theorem State.setExtent_chan (s : State) (k : Nat) (x : Extent) (j : Nat) : (s.setExtent k x).chan j = s.chan j := rfl
@[simp] theorem State.setExtent_refRun (s : State) (k : Nat) (x : Extent) (j : Nat) : (s.setExtent k x).refRun j = s.refRun j := rfl
@[simp] theorem State.setExtent_seat (s : State) (k : Nat) (x : Extent) (j : Nat) : (s.setExtent k x).seat j = s.seat j := rfl
@[simp] theorem State.setExtent_laneSt (s : State) (k : Nat) (x : Extent) (j : Nat) : (s.setExtent k x).laneSt j = s.laneSt j := rfl
@[simp] theorem State.setExtent_liveCal (s : State) (k : Nat) (x : Extent) (j : Nat) : (s.setExtent k x).liveCal j = s.liveCal j := rfl
@[simp] theorem State.setExtent_sensor (s : State) (k : Nat) (x : Extent) (j : Nat) : (s.setExtent k x).sensor j = s.sensor j := rfl
@[simp] theorem State.setExtent_culv (s : State) (k : Nat) (x : Extent) (j : Nat) : (s.setExtent k x).culv j = s.culv j := rfl
@[simp] theorem State.setExtent_link (s : State) (k : Nat) (x : Extent) (j : Nat) : (s.setExtent k x).link j = s.link j := rfl
@[simp] theorem State.setExtent_oq (s : State) (k : Nat) (x : Extent) (j : Nat) : (s.setExtent k x).oq j = s.oq j := rfl
@[simp] theorem State.setExtent_buoyVal (s : State) (k : Nat) (x : Extent) (j : Nat) : (s.setExtent k x).buoyVal j = s.buoyVal j := rfl
@[simp] theorem State.setExtent_fan (s : State) (k : Nat) (x : Extent) (j : Nat) : (s.setExtent k x).fan j = s.fan j := rfl

/-! ## setFan -/

@[simp] theorem State.setFan_regs (s : State) (k : Nat) (x : FanSlot) : (s.setFan k x).regs = s.regs := rfl
@[simp] theorem State.setFan_recs (s : State) (k : Nat) (x : FanSlot) : (s.setFan k x).recs = s.recs := rfl
@[simp] theorem State.setFan_log (s : State) (k : Nat) (x : FanSlot) : (s.setFan k x).log = s.log := rfl
@[simp] theorem State.setFan_ump (s : State) (k : Nat) (x : FanSlot) : (s.setFan k x).ump = s.ump := rfl
@[simp] theorem State.setFan_held (s : State) (k : Nat) (x : FanSlot) : (s.setFan k x).held = s.held := rfl
@[simp] theorem State.setFan_resetAt (s : State) (k : Nat) (x : FanSlot) : (s.setFan k x).resetAt = s.resetAt := rfl
@[simp] theorem State.setFan_fuses (s : State) (k : Nat) (x : FanSlot) : (s.setFan k x).fuses = s.fuses := rfl
@[simp] theorem State.setFan_paths (s : State) (k : Nat) (x : FanSlot) : (s.setFan k x).paths = s.paths := rfl
@[simp] theorem State.setFan_mgmt (s : State) (k : Nat) (x : FanSlot) : (s.setFan k x).mgmt = s.mgmt := rfl
@[simp] theorem State.setFan_port (s : State) (k : Nat) (x : FanSlot) : (s.setFan k x).port = s.port := rfl
@[simp] theorem State.setFan_clk (s : State) (k : Nat) (x : FanSlot) : (s.setFan k x).clk = s.clk := rfl
@[simp] theorem State.setFan_hgs (s : State) (k : Nat) (x : FanSlot) : (s.setFan k x).hgs = s.hgs := rfl
@[simp] theorem State.setFan_synths (s : State) (k : Nat) (x : FanSlot) : (s.setFan k x).synths = s.synths := rfl
@[simp] theorem State.setFan_chans (s : State) (k : Nat) (x : FanSlot) : (s.setFan k x).chans = s.chans := rfl
@[simp] theorem State.setFan_refRuns (s : State) (k : Nat) (x : FanSlot) : (s.setFan k x).refRuns = s.refRuns := rfl
@[simp] theorem State.setFan_seats (s : State) (k : Nat) (x : FanSlot) : (s.setFan k x).seats = s.seats := rfl
@[simp] theorem State.setFan_lanes (s : State) (k : Nat) (x : FanSlot) : (s.setFan k x).lanes = s.lanes := rfl
@[simp] theorem State.setFan_cal (s : State) (k : Nat) (x : FanSlot) : (s.setFan k x).cal = s.cal := rfl
@[simp] theorem State.setFan_sensors (s : State) (k : Nat) (x : FanSlot) : (s.setFan k x).sensors = s.sensors := rfl
@[simp] theorem State.setFan_datum (s : State) (k : Nat) (x : FanSlot) : (s.setFan k x).datum = s.datum := rfl
@[simp] theorem State.setFan_nvs (s : State) (k : Nat) (x : FanSlot) : (s.setFan k x).nvs = s.nvs := rfl
@[simp] theorem State.setFan_lvl (s : State) (k : Nat) (x : FanSlot) : (s.setFan k x).lvl = s.lvl := rfl
@[simp] theorem State.setFan_culvs (s : State) (k : Nat) (x : FanSlot) : (s.setFan k x).culvs = s.culvs := rfl
@[simp] theorem State.setFan_links (s : State) (k : Nat) (x : FanSlot) : (s.setFan k x).links = s.links := rfl
@[simp] theorem State.setFan_cox (s : State) (k : Nat) (x : FanSlot) : (s.setFan k x).cox = s.cox := rfl
@[simp] theorem State.setFan_buoys (s : State) (k : Nat) (x : FanSlot) : (s.setFan k x).buoys = s.buoys := rfl
@[simp] theorem State.setFan_runs (s : State) (k : Nat) (x : FanSlot) : (s.setFan k x).runs = s.runs := rfl
@[simp] theorem State.setFan_tap (s : State) (k : Nat) (x : FanSlot) : (s.setFan k x).tap = s.tap := rfl
@[simp] theorem State.setFan_freeCount (s : State) (k : Nat) (x : FanSlot) : (s.setFan k x).freeCount = s.freeCount := rfl
@[simp] theorem State.setFan_pending (s : State) (k : Nat) (x : FanSlot) : (s.setFan k x).pending = s.pending := rfl
@[simp] theorem State.setFan_rd (s : State) (k : Nat) (x : FanSlot) (g : Field) : (s.setFan k x).rd g = s.rd g := rfl
@[simp] theorem State.setFan_flag (s : State) (k : Nat) (x : FanSlot) (g : Field) : (s.setFan k x).flag g = s.flag g := rfl
@[simp] theorem State.setFan_hg (s : State) (k : Nat) (x : FanSlot) (j : Nat) : (s.setFan k x).hg j = s.hg j := rfl
@[simp] theorem State.setFan_synth (s : State) (k : Nat) (x : FanSlot) (j : Nat) : (s.setFan k x).synth j = s.synth j := rfl
@[simp] theorem State.setFan_chan (s : State) (k : Nat) (x : FanSlot) (j : Nat) : (s.setFan k x).chan j = s.chan j := rfl
@[simp] theorem State.setFan_refRun (s : State) (k : Nat) (x : FanSlot) (j : Nat) : (s.setFan k x).refRun j = s.refRun j := rfl
@[simp] theorem State.setFan_seat (s : State) (k : Nat) (x : FanSlot) (j : Nat) : (s.setFan k x).seat j = s.seat j := rfl
@[simp] theorem State.setFan_laneSt (s : State) (k : Nat) (x : FanSlot) (j : Nat) : (s.setFan k x).laneSt j = s.laneSt j := rfl
@[simp] theorem State.setFan_liveCal (s : State) (k : Nat) (x : FanSlot) (j : Nat) : (s.setFan k x).liveCal j = s.liveCal j := rfl
@[simp] theorem State.setFan_sensor (s : State) (k : Nat) (x : FanSlot) (j : Nat) : (s.setFan k x).sensor j = s.sensor j := rfl
@[simp] theorem State.setFan_culv (s : State) (k : Nat) (x : FanSlot) (j : Nat) : (s.setFan k x).culv j = s.culv j := rfl
@[simp] theorem State.setFan_link (s : State) (k : Nat) (x : FanSlot) (j : Nat) : (s.setFan k x).link j = s.link j := rfl
@[simp] theorem State.setFan_oq (s : State) (k : Nat) (x : FanSlot) (j : Nat) : (s.setFan k x).oq j = s.oq j := rfl
@[simp] theorem State.setFan_buoyVal (s : State) (k : Nat) (x : FanSlot) (j : Nat) : (s.setFan k x).buoyVal j = s.buoyVal j := rfl
@[simp] theorem State.setFan_extent (s : State) (k : Nat) (x : FanSlot) (j : Nat) : (s.setFan k x).extent j = s.extent j := rfl

/-! ## setPath -/

@[simp] theorem State.setPath_regs (s : State) (v : Path) (x : PathState) : (s.setPath v x).regs = s.regs := rfl
@[simp] theorem State.setPath_recs (s : State) (v : Path) (x : PathState) : (s.setPath v x).recs = s.recs := rfl
@[simp] theorem State.setPath_log (s : State) (v : Path) (x : PathState) : (s.setPath v x).log = s.log := rfl
@[simp] theorem State.setPath_ump (s : State) (v : Path) (x : PathState) : (s.setPath v x).ump = s.ump := rfl
@[simp] theorem State.setPath_held (s : State) (v : Path) (x : PathState) : (s.setPath v x).held = s.held := rfl
@[simp] theorem State.setPath_resetAt (s : State) (v : Path) (x : PathState) : (s.setPath v x).resetAt = s.resetAt := rfl
@[simp] theorem State.setPath_fuses (s : State) (v : Path) (x : PathState) : (s.setPath v x).fuses = s.fuses := rfl
@[simp] theorem State.setPath_mgmt (s : State) (v : Path) (x : PathState) : (s.setPath v x).mgmt = s.mgmt := rfl
@[simp] theorem State.setPath_port (s : State) (v : Path) (x : PathState) : (s.setPath v x).port = s.port := rfl
@[simp] theorem State.setPath_clk (s : State) (v : Path) (x : PathState) : (s.setPath v x).clk = s.clk := rfl
@[simp] theorem State.setPath_hgs (s : State) (v : Path) (x : PathState) : (s.setPath v x).hgs = s.hgs := rfl
@[simp] theorem State.setPath_synths (s : State) (v : Path) (x : PathState) : (s.setPath v x).synths = s.synths := rfl
@[simp] theorem State.setPath_chans (s : State) (v : Path) (x : PathState) : (s.setPath v x).chans = s.chans := rfl
@[simp] theorem State.setPath_refRuns (s : State) (v : Path) (x : PathState) : (s.setPath v x).refRuns = s.refRuns := rfl
@[simp] theorem State.setPath_seats (s : State) (v : Path) (x : PathState) : (s.setPath v x).seats = s.seats := rfl
@[simp] theorem State.setPath_lanes (s : State) (v : Path) (x : PathState) : (s.setPath v x).lanes = s.lanes := rfl
@[simp] theorem State.setPath_cal (s : State) (v : Path) (x : PathState) : (s.setPath v x).cal = s.cal := rfl
@[simp] theorem State.setPath_sensors (s : State) (v : Path) (x : PathState) : (s.setPath v x).sensors = s.sensors := rfl
@[simp] theorem State.setPath_datum (s : State) (v : Path) (x : PathState) : (s.setPath v x).datum = s.datum := rfl
@[simp] theorem State.setPath_nvs (s : State) (v : Path) (x : PathState) : (s.setPath v x).nvs = s.nvs := rfl
@[simp] theorem State.setPath_lvl (s : State) (v : Path) (x : PathState) : (s.setPath v x).lvl = s.lvl := rfl
@[simp] theorem State.setPath_flm (s : State) (v : Path) (x : PathState) : (s.setPath v x).flm = s.flm := rfl
@[simp] theorem State.setPath_culvs (s : State) (v : Path) (x : PathState) : (s.setPath v x).culvs = s.culvs := rfl
@[simp] theorem State.setPath_links (s : State) (v : Path) (x : PathState) : (s.setPath v x).links = s.links := rfl
@[simp] theorem State.setPath_cox (s : State) (v : Path) (x : PathState) : (s.setPath v x).cox = s.cox := rfl
@[simp] theorem State.setPath_buoys (s : State) (v : Path) (x : PathState) : (s.setPath v x).buoys = s.buoys := rfl
@[simp] theorem State.setPath_runs (s : State) (v : Path) (x : PathState) : (s.setPath v x).runs = s.runs := rfl
@[simp] theorem State.setPath_tap (s : State) (v : Path) (x : PathState) : (s.setPath v x).tap = s.tap := rfl
@[simp] theorem State.setPath_freeCount (s : State) (v : Path) (x : PathState) : (s.setPath v x).freeCount = s.freeCount := rfl
@[simp] theorem State.setPath_pending (s : State) (v : Path) (x : PathState) : (s.setPath v x).pending = s.pending := rfl
@[simp] theorem State.setPath_rd (s : State) (v : Path) (x : PathState) (g : Field) : (s.setPath v x).rd g = s.rd g := rfl
@[simp] theorem State.setPath_flag (s : State) (v : Path) (x : PathState) (g : Field) : (s.setPath v x).flag g = s.flag g := rfl
@[simp] theorem State.setPath_hg (s : State) (v : Path) (x : PathState) (j : Nat) : (s.setPath v x).hg j = s.hg j := rfl
@[simp] theorem State.setPath_synth (s : State) (v : Path) (x : PathState) (j : Nat) : (s.setPath v x).synth j = s.synth j := rfl
@[simp] theorem State.setPath_chan (s : State) (v : Path) (x : PathState) (j : Nat) : (s.setPath v x).chan j = s.chan j := rfl
@[simp] theorem State.setPath_refRun (s : State) (v : Path) (x : PathState) (j : Nat) : (s.setPath v x).refRun j = s.refRun j := rfl
@[simp] theorem State.setPath_seat (s : State) (v : Path) (x : PathState) (j : Nat) : (s.setPath v x).seat j = s.seat j := rfl
@[simp] theorem State.setPath_laneSt (s : State) (v : Path) (x : PathState) (j : Nat) : (s.setPath v x).laneSt j = s.laneSt j := rfl
@[simp] theorem State.setPath_liveCal (s : State) (v : Path) (x : PathState) (j : Nat) : (s.setPath v x).liveCal j = s.liveCal j := rfl
@[simp] theorem State.setPath_sensor (s : State) (v : Path) (x : PathState) (j : Nat) : (s.setPath v x).sensor j = s.sensor j := rfl
@[simp] theorem State.setPath_culv (s : State) (v : Path) (x : PathState) (j : Nat) : (s.setPath v x).culv j = s.culv j := rfl
@[simp] theorem State.setPath_link (s : State) (v : Path) (x : PathState) (j : Nat) : (s.setPath v x).link j = s.link j := rfl
@[simp] theorem State.setPath_oq (s : State) (v : Path) (x : PathState) (j : Nat) : (s.setPath v x).oq j = s.oq j := rfl
@[simp] theorem State.setPath_buoyVal (s : State) (v : Path) (x : PathState) (j : Nat) : (s.setPath v x).buoyVal j = s.buoyVal j := rfl
@[simp] theorem State.setPath_extent (s : State) (v : Path) (x : PathState) (j : Nat) : (s.setPath v x).extent j = s.extent j := rfl
@[simp] theorem State.setPath_fan (s : State) (v : Path) (x : PathState) (j : Nat) : (s.setPath v x).fan j = s.fan j := rfl

/-! ## atCycle -/

@[simp] theorem State.atCycle_regs (s : State) (n : Nat) : (s.atCycle n).regs = s.regs := rfl
@[simp] theorem State.atCycle_recs (s : State) (n : Nat) : (s.atCycle n).recs = s.recs := rfl
@[simp] theorem State.atCycle_ump (s : State) (n : Nat) : (s.atCycle n).ump = s.ump := rfl
@[simp] theorem State.atCycle_held (s : State) (n : Nat) : (s.atCycle n).held = s.held := rfl
@[simp] theorem State.atCycle_resetAt (s : State) (n : Nat) : (s.atCycle n).resetAt = s.resetAt := rfl
@[simp] theorem State.atCycle_fuses (s : State) (n : Nat) : (s.atCycle n).fuses = s.fuses := rfl
@[simp] theorem State.atCycle_paths (s : State) (n : Nat) : (s.atCycle n).paths = s.paths := rfl
@[simp] theorem State.atCycle_mgmt (s : State) (n : Nat) : (s.atCycle n).mgmt = s.mgmt := rfl
@[simp] theorem State.atCycle_port (s : State) (n : Nat) : (s.atCycle n).port = s.port := rfl
@[simp] theorem State.atCycle_hgs (s : State) (n : Nat) : (s.atCycle n).hgs = s.hgs := rfl
@[simp] theorem State.atCycle_synths (s : State) (n : Nat) : (s.atCycle n).synths = s.synths := rfl
@[simp] theorem State.atCycle_chans (s : State) (n : Nat) : (s.atCycle n).chans = s.chans := rfl
@[simp] theorem State.atCycle_refRuns (s : State) (n : Nat) : (s.atCycle n).refRuns = s.refRuns := rfl
@[simp] theorem State.atCycle_seats (s : State) (n : Nat) : (s.atCycle n).seats = s.seats := rfl
@[simp] theorem State.atCycle_lanes (s : State) (n : Nat) : (s.atCycle n).lanes = s.lanes := rfl
@[simp] theorem State.atCycle_cal (s : State) (n : Nat) : (s.atCycle n).cal = s.cal := rfl
@[simp] theorem State.atCycle_sensors (s : State) (n : Nat) : (s.atCycle n).sensors = s.sensors := rfl
@[simp] theorem State.atCycle_datum (s : State) (n : Nat) : (s.atCycle n).datum = s.datum := rfl
@[simp] theorem State.atCycle_nvs (s : State) (n : Nat) : (s.atCycle n).nvs = s.nvs := rfl
@[simp] theorem State.atCycle_lvl (s : State) (n : Nat) : (s.atCycle n).lvl = s.lvl := rfl
@[simp] theorem State.atCycle_flm (s : State) (n : Nat) : (s.atCycle n).flm = s.flm := rfl
@[simp] theorem State.atCycle_culvs (s : State) (n : Nat) : (s.atCycle n).culvs = s.culvs := rfl
@[simp] theorem State.atCycle_links (s : State) (n : Nat) : (s.atCycle n).links = s.links := rfl
@[simp] theorem State.atCycle_cox (s : State) (n : Nat) : (s.atCycle n).cox = s.cox := rfl
@[simp] theorem State.atCycle_buoys (s : State) (n : Nat) : (s.atCycle n).buoys = s.buoys := rfl
@[simp] theorem State.atCycle_runs (s : State) (n : Nat) : (s.atCycle n).runs = s.runs := rfl
@[simp] theorem State.atCycle_tap (s : State) (n : Nat) : (s.atCycle n).tap = s.tap := rfl
@[simp] theorem State.atCycle_freeCount (s : State) (n : Nat) : (s.atCycle n).freeCount = s.freeCount := rfl
@[simp] theorem State.atCycle_pending (s : State) (n : Nat) : (s.atCycle n).pending = s.pending := rfl
@[simp] theorem State.atCycle_rd (s : State) (n : Nat) (g : Field) : (s.atCycle n).rd g = s.rd g := rfl
@[simp] theorem State.atCycle_flag (s : State) (n : Nat) (g : Field) : (s.atCycle n).flag g = s.flag g := rfl
@[simp] theorem State.atCycle_cycle (s : State) (n : Nat) : (s.atCycle n).clk.cycle = n := rfl
@[simp] theorem State.atCycle_hg (s : State) (n j : Nat) : (s.atCycle n).hg j = s.hg j := rfl
@[simp] theorem State.atCycle_synth (s : State) (n j : Nat) : (s.atCycle n).synth j = s.synth j := rfl
@[simp] theorem State.atCycle_chan (s : State) (n j : Nat) : (s.atCycle n).chan j = s.chan j := rfl
@[simp] theorem State.atCycle_refRun (s : State) (n j : Nat) : (s.atCycle n).refRun j = s.refRun j := rfl
@[simp] theorem State.atCycle_seat (s : State) (n j : Nat) : (s.atCycle n).seat j = s.seat j := rfl
@[simp] theorem State.atCycle_laneSt (s : State) (n j : Nat) : (s.atCycle n).laneSt j = s.laneSt j := rfl
@[simp] theorem State.atCycle_liveCal (s : State) (n j : Nat) : (s.atCycle n).liveCal j = s.liveCal j := rfl
@[simp] theorem State.atCycle_sensor (s : State) (n j : Nat) : (s.atCycle n).sensor j = s.sensor j := rfl
@[simp] theorem State.atCycle_culv (s : State) (n j : Nat) : (s.atCycle n).culv j = s.culv j := rfl
@[simp] theorem State.atCycle_link (s : State) (n j : Nat) : (s.atCycle n).link j = s.link j := rfl
@[simp] theorem State.atCycle_oq (s : State) (n j : Nat) : (s.atCycle n).oq j = s.oq j := rfl
@[simp] theorem State.atCycle_buoyVal (s : State) (n j : Nat) : (s.atCycle n).buoyVal j = s.buoyVal j := rfl
@[simp] theorem State.atCycle_extent (s : State) (n j : Nat) : (s.atCycle n).extent j = s.extent j := rfl
@[simp] theorem State.atCycle_fan (s : State) (n j : Nat) : (s.atCycle n).fan j = s.fan j := rfl

/-! ## An entry set, and read -/

@[simp] theorem State.hg_setHg_same (s : State) (x : Nat) (h : Headgate) : (s.setHg x h).hg x = h := Tab.read_write_same _ _ _ _
theorem State.hg_setHg_ne (s : State) (x : Nat) (h : Headgate) (j : Nat) (hj : x ≠ j) : (s.setHg x h).hg j = s.hg j := Tab.read_write_ne _ _ _ _ hj
@[simp] theorem State.synth_setSynth_same (s : State) (p : Nat) (y : Synth) : (s.setSynth p y).synth p = y := Tab.read_write_same _ _ _ _
theorem State.synth_setSynth_ne (s : State) (p : Nat) (y : Synth) (j : Nat) (hj : p ≠ j) : (s.setSynth p y).synth j = s.synth j := Tab.read_write_ne _ _ _ _ hj
@[simp] theorem State.chan_setChan_same (s : State) (k : Nat) (c : Chan) : (s.setChan k c).chan k = c := Tab.read_write_same _ _ _ _
theorem State.chan_setChan_ne (s : State) (k : Nat) (c : Chan) (j : Nat) (hj : k ≠ j) : (s.setChan k c).chan j = s.chan j := Tab.read_write_ne _ _ _ _ hj
@[simp] theorem State.refRun_setRefRun_same (s : State) (k n : Nat) : (s.setRefRun k n).refRun k = n := Tab.read_write_same _ _ _ _
theorem State.refRun_setRefRun_ne (s : State) (k n : Nat) (j : Nat) (hj : k ≠ j) : (s.setRefRun k n).refRun j = s.refRun j := Tab.read_write_ne _ _ _ _ hj
@[simp] theorem State.seat_setSeat_same (s : State) (k : Nat) (u : Seat) : (s.setSeat k u).seat k = u := Tab.read_write_same _ _ _ _
theorem State.seat_setSeat_ne (s : State) (k : Nat) (u : Seat) (j : Nat) (hj : k ≠ j) : (s.setSeat k u).seat j = s.seat j := Tab.read_write_ne _ _ _ _ hj
@[simp] theorem State.laneSt_setLaneSt_same (s : State) (p : Nat) (l : Lanes) : (s.setLaneSt p l).laneSt p = l := Tab.read_write_same _ _ _ _
theorem State.laneSt_setLaneSt_ne (s : State) (p : Nat) (l : Lanes) (j : Nat) (hj : p ≠ j) : (s.setLaneSt p l).laneSt j = s.laneSt j := Tab.read_write_ne _ _ _ _ hj
@[simp] theorem State.liveCal_setLiveCal_same (s : State) (k : Nat) (c : LiveCal) : (s.setLiveCal k c).liveCal k = c := Tab.read_write_same _ _ _ _
theorem State.liveCal_setLiveCal_ne (s : State) (k : Nat) (c : LiveCal) (j : Nat) (hj : k ≠ j) : (s.setLiveCal k c).liveCal j = s.liveCal j := Tab.read_write_ne _ _ _ _ hj
@[simp] theorem State.sensor_setSensor_same (s : State) (n : Nat) (x : Sensor) : (s.setSensor n x).sensor n = x := Tab.read_write_same _ _ _ _
theorem State.sensor_setSensor_ne (s : State) (n : Nat) (x : Sensor) (j : Nat) (hj : n ≠ j) : (s.setSensor n x).sensor j = s.sensor j := Tab.read_write_ne _ _ _ _ hj
@[simp] theorem State.culv_setCulv_same (s : State) (c : Nat) (x : Culv) : (s.setCulv c x).culv c = x := Tab.read_write_same _ _ _ _
theorem State.culv_setCulv_ne (s : State) (c : Nat) (x : Culv) (j : Nat) (hj : c ≠ j) : (s.setCulv c x).culv j = s.culv j := Tab.read_write_ne _ _ _ _ hj
@[simp] theorem State.link_setLink_same (s : State) (n : Nat) (x : Link) : (s.setLink n x).link n = x := Tab.read_write_same _ _ _ _
theorem State.link_setLink_ne (s : State) (n : Nat) (x : Link) (j : Nat) (hj : n ≠ j) : (s.setLink n x).link j = s.link j := Tab.read_write_ne _ _ _ _ hj
@[simp] theorem State.oq_setOq_same (s : State) (k : Nat) (q : Oq) : (s.setOq k q).oq k = q := Tab.read_write_same _ _ _ _
theorem State.oq_setOq_ne (s : State) (k : Nat) (q : Oq) (j : Nat) (hj : k ≠ j) : (s.setOq k q).oq j = s.oq j := Tab.read_write_ne _ _ _ _ hj
@[simp] theorem State.buoyVal_setBuoyVal_same (s : State) (k : Nat) (v : DWord) : (s.setBuoyVal k v).buoyVal k = v := Tab.read_write_same _ _ _ _
theorem State.buoyVal_setBuoyVal_ne (s : State) (k : Nat) (v : DWord) (j : Nat) (hj : k ≠ j) : (s.setBuoyVal k v).buoyVal j = s.buoyVal j := Tab.read_write_ne _ _ _ _ hj
@[simp] theorem State.extent_setExtent_same (s : State) (k : Nat) (x : Extent) : (s.setExtent k x).extent k = x := Tab.read_write_same _ _ _ _
theorem State.extent_setExtent_ne (s : State) (k : Nat) (x : Extent) (j : Nat) (hj : k ≠ j) : (s.setExtent k x).extent j = s.extent j := Tab.read_write_ne _ _ _ _ hj
@[simp] theorem State.fan_setFan_same (s : State) (k : Nat) (x : FanSlot) : (s.setFan k x).fan k = x := Tab.read_write_same _ _ _ _
theorem State.fan_setFan_ne (s : State) (k : Nat) (x : FanSlot) (j : Nat) (hj : k ≠ j) : (s.setFan k x).fan j = s.fan j := Tab.read_write_ne _ _ _ _ hj

/-! ## Register fields -/

/-- A field written reads as the low bits of what was written. -/
@[simp] theorem State.rd_wr_same (s : State) (f : Field) (v : Nat) : (s.wr f v).rd f = v % 2 ^ f.width := Tab.read_write_same _ _ _ _

/-- A write to a field leaves every other field as it was. -/
theorem State.rd_wr_ne (s : State) {f g : Field} (v : Nat) (h : f.key ≠ g.key) : (s.wr f v).rd g = s.rd g :=
  Tab.read_write_ne _ _ _ _ h

theorem State.rd_wrB_ne (s : State) {f g : Field} (b : Bool) (h : f.key ≠ g.key) : (s.wrB f b).rd g = s.rd g := s.rd_wr_ne _ h
theorem State.rd_wrI_ne (s : State) {f g : Field} (v : Int) (h : f.key ≠ g.key) : (s.wrI f v).rd g = s.rd g := s.rd_wr_ne _ h
theorem State.rd_addTo_ne (s : State) {f g : Field} (n : Nat) (h : f.key ≠ g.key) : (s.addTo f n).rd g = s.rd g := s.rd_wr_ne _ h
theorem State.rd_bump_ne (s : State) {f g : Field} (h : f.key ≠ g.key) : (s.bump f).rd g = s.rd g := s.rd_wr_ne _ h
theorem State.rd_wrBit_ne (s : State) {f g : Field} (i : Nat) (b : Bool) (h : f.key ≠ g.key) : (s.wrBit f i b).rd g = s.rd g :=
  s.rd_wr_ne _ h

/-- A write to a pair leaves every field outside the pair as it was. -/
theorem State.rd_wrPair_ne (s : State) {f g e : Field} (v : Nat) (h1 : f.key ≠ e.key) (h2 : g.key ≠ e.key) :
    (s.wrPair f g v).rd e = s.rd e := by
  rw [State.wrPair, State.rd_wr_ne _ _ h2, State.rd_wr_ne _ _ h1]

/-- A saturating counter is one more, up to all ones. -/
@[simp] theorem State.rd_bump_same (s : State) (f : Field) : (s.bump f).rd f = min (s.rd f + 1) (2 ^ f.width - 1) := by
  rw [State.bump, State.addTo, State.rd_wr_same]
  exact Nat.mod_eq_of_lt (lt_of_le_of_lt (Nat.min_le_right _ _) (Nat.sub_lt (Nat.two_pow_pos _) one_pos))

end Sys2Proof.Machine
end

