-- ==== Sys2Proof/Laws/Events.lean ====
section
/-! SUPPORT. Everything that raising an event can change (R109 to R111, R431, R442), and what a write on a path does. -/

namespace Sys2Proof.Machine

/-! ## Events -/

/-- Every other field keeps its value. -/
theorem State.raiseAt_rd (s : State) (t : Stamp) (e : Event) (g : Field) (h : ∀ f ∈ eventFields e.code, f.key ≠ g.key) :
    (s.raiseAt t e).rd g = s.rd g := by
  have h1 := h _ (by simp [eventFields] : errField e.code.cls e.code.page ∈ eventFields e.code)
  have h2 := h _ (by simp [eventFields] : Reg.CNT_CORR e.code.page ∈ eventFields e.code)
  have h3 := h _ (by simp [eventFields] : Reg.CNT_CONT e.code.page ∈ eventFields e.code)
  have h4 := h _ (by simp [eventFields] : Reg.CNT_MERGED e.code.page ∈ eventFields e.code)
  have h5 := h _ (by simp [eventFields] : Reg.UMP.FATAL_CNT_EVENTS ∈ eventFields e.code)
  have h6 := h _ (by simp [eventFields] : Reg.LOG.DROP_CNT ∈ eventFields e.code)
  have hp : ∀ s : State, (s.pairFor e.code).rd g = s.rd g := by
    intro s
    unfold State.pairFor State.assertPair
    split
    · dsimp only
      split <;> exact s.rd_bump_ne h5
    · rfl
  have hc : ∀ s : State, (s.countEvent e.code).rd g = s.rd g := by
    intro s
    unfold State.countEvent
    cases e.code.cls <;> simp only [classCount]
    · exact s.rd_bump_ne h2
    · exact s.rd_bump_ne h3
  have hl : ∀ (s : State) (x : LogEntry), (s.logEvent x).rd g = s.rd g := by
    intro s x
    unfold State.logEvent
    dsimp only
    split
    · exact s.rd_bump_ne h6
    · rfl
  have hb : ∀ s : State, (s.setErrBit e.code).rd g = s.rd g := fun s => s.rd_wrBit_ne _ _ h1
  have hr : ∀ (s : State), (s.recordEvent e t).rd g = s.rd g := fun _ => rfl
  have hn : ∀ (s : State), (s.noteEvent e.code t true).rd g = s.rd g := fun _ => rfl
  unfold State.raiseAt
  dsimp only
  split
  · exact ((State.rd_bump_ne _ h4).trans (hb _)).trans (hp _)
  · rw [hn, hl, hr, hc, hb, hp]

theorem State.raise1_rd (s : State) (e : Event) (g : Field) (h : ∀ f ∈ eventFields e.code, f.key ≠ g.key) :
    (s.raise1 e).rd g = s.rd g := s.raiseAt_rd _ e g h

/-- A change of registers, first-error records, the logbook and the Umpire, and of nothing else. -/
def State.EventOnly (s t : State) : Prop := ∃ r c l u, t = { s with regs := r, recs := c, log := l, ump := u }

theorem State.EventOnly.trans {s t u : State} (h : s.EventOnly t) (k : t.EventOnly u) : s.EventOnly u := by
  obtain ⟨_, _, _, _, rfl⟩ := h
  obtain ⟨_, _, _, _, rfl⟩ := k
  exact ⟨_, _, _, _, rfl⟩

theorem State.wr_eventOnly (s : State) (f : Field) (v : Nat) : s.EventOnly (s.wr f v) := ⟨_, s.recs, s.log, s.ump, rfl⟩

theorem State.pairFor_eventOnly (s : State) (c : ErrCode) : s.EventOnly (s.pairFor c) := by
  unfold State.pairFor State.assertPair
  split
  · refine State.EventOnly.trans (t := s.bump Reg.UMP.FATAL_CNT_EVENTS) (s.wr_eventOnly _ _) ?_
    dsimp only
    split
    · exact ⟨_, _, _, _, rfl⟩
    · exact ⟨_, _, _, _, rfl⟩
  · exact ⟨_, _, _, _, rfl⟩

theorem State.noteEvent_eventOnly (s : State) (c : ErrCode) (t : Stamp) (new : Bool) : s.EventOnly (s.noteEvent c t new) :=
  ⟨s.regs, s.recs, _, s.ump, rfl⟩

theorem State.mergeEvent_eventOnly (s : State) (c : ErrCode) : s.EventOnly (s.mergeEvent c) :=
  (s.wr_eventOnly _ _).trans <| ((s.setErrBit c).wr_eventOnly _ _).trans
    ⟨_, s.recsAfterMerge c, s.log.merge c, _, rfl⟩

theorem State.countEvent_eventOnly (s : State) (c : ErrCode) : s.EventOnly (s.countEvent c) := by
  unfold State.countEvent
  split
  · exact s.wr_eventOnly _ _
  · exact ⟨_, _, _, _, rfl⟩

theorem State.logEvent_eventOnly (s : State) (x : LogEntry) : s.EventOnly (s.logEvent x) := by
  have h : s.EventOnly (if 64 ≤ s.log.queue.length then s.bump Reg.LOG.DROP_CNT else s) := by
    split
    · exact s.wr_eventOnly _ _
    · exact ⟨_, _, _, _, rfl⟩
  exact h.trans ⟨_, _, _, _, rfl⟩

/-- Everything that raising an event can change (R109 to R111, R431, R442). -/
theorem State.raiseAt_eventOnly (s : State) (t : Stamp) (e : Event) : s.EventOnly (s.raiseAt t e) := by
  refine (s.pairFor_eventOnly e.code).trans ?_
  unfold State.raiseAt
  dsimp only
  split
  · exact (State.mergeEvent_eventOnly _ _).trans (State.noteEvent_eventOnly _ _ _ _)
  · exact (((State.wr_eventOnly _ _ _).trans (State.countEvent_eventOnly _ _)).trans ⟨_, _, _, _, rfl⟩).trans
      ((State.logEvent_eventOnly _ _).trans (State.noteEvent_eventOnly _ _ _ _))

@[simp] theorem State.raiseAt_held (s : State) (t : Stamp) (e : Event) : (s.raiseAt t e).held = s.held := by
  obtain ⟨_, _, _, _, h⟩ := s.raiseAt_eventOnly t e; rw [h]
@[simp] theorem State.raise1_held (s : State) (e : Event) : (s.raise1 e).held = s.held := s.raiseAt_held _ e
@[simp] theorem State.raiseAt_resetAt (s : State) (t : Stamp) (e : Event) : (s.raiseAt t e).resetAt = s.resetAt := by
  obtain ⟨_, _, _, _, h⟩ := s.raiseAt_eventOnly t e; rw [h]
@[simp] theorem State.raise1_resetAt (s : State) (e : Event) : (s.raise1 e).resetAt = s.resetAt := s.raiseAt_resetAt _ e
@[simp] theorem State.raiseAt_fuses (s : State) (t : Stamp) (e : Event) : (s.raiseAt t e).fuses = s.fuses := by
  obtain ⟨_, _, _, _, h⟩ := s.raiseAt_eventOnly t e; rw [h]
@[simp] theorem State.raise1_fuses (s : State) (e : Event) : (s.raise1 e).fuses = s.fuses := s.raiseAt_fuses _ e
@[simp] theorem State.raiseAt_paths (s : State) (t : Stamp) (e : Event) : (s.raiseAt t e).paths = s.paths := by
  obtain ⟨_, _, _, _, h⟩ := s.raiseAt_eventOnly t e; rw [h]
@[simp] theorem State.raise1_paths (s : State) (e : Event) : (s.raise1 e).paths = s.paths := s.raiseAt_paths _ e
@[simp] theorem State.raiseAt_mgmt (s : State) (t : Stamp) (e : Event) : (s.raiseAt t e).mgmt = s.mgmt := by
  obtain ⟨_, _, _, _, h⟩ := s.raiseAt_eventOnly t e; rw [h]
@[simp] theorem State.raise1_mgmt (s : State) (e : Event) : (s.raise1 e).mgmt = s.mgmt := s.raiseAt_mgmt _ e
@[simp] theorem State.raiseAt_port (s : State) (t : Stamp) (e : Event) : (s.raiseAt t e).port = s.port := by
  obtain ⟨_, _, _, _, h⟩ := s.raiseAt_eventOnly t e; rw [h]
@[simp] theorem State.raise1_port (s : State) (e : Event) : (s.raise1 e).port = s.port := s.raiseAt_port _ e
@[simp] theorem State.raiseAt_clk (s : State) (t : Stamp) (e : Event) : (s.raiseAt t e).clk = s.clk := by
  obtain ⟨_, _, _, _, h⟩ := s.raiseAt_eventOnly t e; rw [h]
@[simp] theorem State.raise1_clk (s : State) (e : Event) : (s.raise1 e).clk = s.clk := s.raiseAt_clk _ e
@[simp] theorem State.raiseAt_hgs (s : State) (t : Stamp) (e : Event) : (s.raiseAt t e).hgs = s.hgs := by
  obtain ⟨_, _, _, _, h⟩ := s.raiseAt_eventOnly t e; rw [h]
@[simp] theorem State.raise1_hgs (s : State) (e : Event) : (s.raise1 e).hgs = s.hgs := s.raiseAt_hgs _ e
@[simp] theorem State.raiseAt_synths (s : State) (t : Stamp) (e : Event) : (s.raiseAt t e).synths = s.synths := by
  obtain ⟨_, _, _, _, h⟩ := s.raiseAt_eventOnly t e; rw [h]
@[simp] theorem State.raise1_synths (s : State) (e : Event) : (s.raise1 e).synths = s.synths := s.raiseAt_synths _ e
@[simp] theorem State.raiseAt_chans (s : State) (t : Stamp) (e : Event) : (s.raiseAt t e).chans = s.chans := by
  obtain ⟨_, _, _, _, h⟩ := s.raiseAt_eventOnly t e; rw [h]
@[simp] theorem State.raise1_chans (s : State) (e : Event) : (s.raise1 e).chans = s.chans := s.raiseAt_chans _ e
@[simp] theorem State.raiseAt_refRuns (s : State) (t : Stamp) (e : Event) : (s.raiseAt t e).refRuns = s.refRuns := by
  obtain ⟨_, _, _, _, h⟩ := s.raiseAt_eventOnly t e; rw [h]
@[simp] theorem State.raise1_refRuns (s : State) (e : Event) : (s.raise1 e).refRuns = s.refRuns := s.raiseAt_refRuns _ e
@[simp] theorem State.raiseAt_seats (s : State) (t : Stamp) (e : Event) : (s.raiseAt t e).seats = s.seats := by
  obtain ⟨_, _, _, _, h⟩ := s.raiseAt_eventOnly t e; rw [h]
@[simp] theorem State.raise1_seats (s : State) (e : Event) : (s.raise1 e).seats = s.seats := s.raiseAt_seats _ e
@[simp] theorem State.raiseAt_lanes (s : State) (t : Stamp) (e : Event) : (s.raiseAt t e).lanes = s.lanes := by
  obtain ⟨_, _, _, _, h⟩ := s.raiseAt_eventOnly t e; rw [h]
@[simp] theorem State.raise1_lanes (s : State) (e : Event) : (s.raise1 e).lanes = s.lanes := s.raiseAt_lanes _ e
@[simp] theorem State.raiseAt_cal (s : State) (t : Stamp) (e : Event) : (s.raiseAt t e).cal = s.cal := by
  obtain ⟨_, _, _, _, h⟩ := s.raiseAt_eventOnly t e; rw [h]
@[simp] theorem State.raise1_cal (s : State) (e : Event) : (s.raise1 e).cal = s.cal := s.raiseAt_cal _ e
@[simp] theorem State.raiseAt_sensors (s : State) (t : Stamp) (e : Event) : (s.raiseAt t e).sensors = s.sensors := by
  obtain ⟨_, _, _, _, h⟩ := s.raiseAt_eventOnly t e; rw [h]
@[simp] theorem State.raise1_sensors (s : State) (e : Event) : (s.raise1 e).sensors = s.sensors := s.raiseAt_sensors _ e
@[simp] theorem State.raiseAt_datum (s : State) (t : Stamp) (e : Event) : (s.raiseAt t e).datum = s.datum := by
  obtain ⟨_, _, _, _, h⟩ := s.raiseAt_eventOnly t e; rw [h]
@[simp] theorem State.raise1_datum (s : State) (e : Event) : (s.raise1 e).datum = s.datum := s.raiseAt_datum _ e
@[simp] theorem State.raiseAt_nvs (s : State) (t : Stamp) (e : Event) : (s.raiseAt t e).nvs = s.nvs := by
  obtain ⟨_, _, _, _, h⟩ := s.raiseAt_eventOnly t e; rw [h]
@[simp] theorem State.raise1_nvs (s : State) (e : Event) : (s.raise1 e).nvs = s.nvs := s.raiseAt_nvs _ e
@[simp] theorem State.raiseAt_lvl (s : State) (t : Stamp) (e : Event) : (s.raiseAt t e).lvl = s.lvl := by
  obtain ⟨_, _, _, _, h⟩ := s.raiseAt_eventOnly t e; rw [h]
@[simp] theorem State.raise1_lvl (s : State) (e : Event) : (s.raise1 e).lvl = s.lvl := s.raiseAt_lvl _ e
@[simp] theorem State.raiseAt_flm (s : State) (t : Stamp) (e : Event) : (s.raiseAt t e).flm = s.flm := by
  obtain ⟨_, _, _, _, h⟩ := s.raiseAt_eventOnly t e; rw [h]
@[simp] theorem State.raise1_flm (s : State) (e : Event) : (s.raise1 e).flm = s.flm := s.raiseAt_flm _ e
@[simp] theorem State.raiseAt_culvs (s : State) (t : Stamp) (e : Event) : (s.raiseAt t e).culvs = s.culvs := by
  obtain ⟨_, _, _, _, h⟩ := s.raiseAt_eventOnly t e; rw [h]
@[simp] theorem State.raise1_culvs (s : State) (e : Event) : (s.raise1 e).culvs = s.culvs := s.raiseAt_culvs _ e
@[simp] theorem State.raiseAt_links (s : State) (t : Stamp) (e : Event) : (s.raiseAt t e).links = s.links := by
  obtain ⟨_, _, _, _, h⟩ := s.raiseAt_eventOnly t e; rw [h]
@[simp] theorem State.raise1_links (s : State) (e : Event) : (s.raise1 e).links = s.links := s.raiseAt_links _ e
@[simp] theorem State.raiseAt_cox (s : State) (t : Stamp) (e : Event) : (s.raiseAt t e).cox = s.cox := by
  obtain ⟨_, _, _, _, h⟩ := s.raiseAt_eventOnly t e; rw [h]
@[simp] theorem State.raise1_cox (s : State) (e : Event) : (s.raise1 e).cox = s.cox := s.raiseAt_cox _ e
@[simp] theorem State.raiseAt_buoys (s : State) (t : Stamp) (e : Event) : (s.raiseAt t e).buoys = s.buoys := by
  obtain ⟨_, _, _, _, h⟩ := s.raiseAt_eventOnly t e; rw [h]
@[simp] theorem State.raise1_buoys (s : State) (e : Event) : (s.raise1 e).buoys = s.buoys := s.raiseAt_buoys _ e
@[simp] theorem State.raiseAt_runs (s : State) (t : Stamp) (e : Event) : (s.raiseAt t e).runs = s.runs := by
  obtain ⟨_, _, _, _, h⟩ := s.raiseAt_eventOnly t e; rw [h]
@[simp] theorem State.raise1_runs (s : State) (e : Event) : (s.raise1 e).runs = s.runs := s.raiseAt_runs _ e
@[simp] theorem State.raiseAt_tap (s : State) (t : Stamp) (e : Event) : (s.raiseAt t e).tap = s.tap := by
  obtain ⟨_, _, _, _, h⟩ := s.raiseAt_eventOnly t e; rw [h]
@[simp] theorem State.raise1_tap (s : State) (e : Event) : (s.raise1 e).tap = s.tap := s.raiseAt_tap _ e
@[simp] theorem State.raiseAt_freeCount (s : State) (t : Stamp) (e : Event) : (s.raiseAt t e).freeCount = s.freeCount := by
  obtain ⟨_, _, _, _, h⟩ := s.raiseAt_eventOnly t e; rw [h]
@[simp] theorem State.raise1_freeCount (s : State) (e : Event) : (s.raise1 e).freeCount = s.freeCount := s.raiseAt_freeCount _ e
@[simp] theorem State.raiseAt_pending (s : State) (t : Stamp) (e : Event) : (s.raiseAt t e).pending = s.pending := by
  obtain ⟨_, _, _, _, h⟩ := s.raiseAt_eventOnly t e; rw [h]
@[simp] theorem State.raise1_pending (s : State) (e : Event) : (s.raise1 e).pending = s.pending := s.raiseAt_pending _ e

/-! ## The bit of an event -/

theorem bitAt_setBit (v i : Nat) : bitAt (setBit v i) i = true := by
  unfold setBit
  split
  · assumption
  · rename_i h
    have h0 : v / 2 ^ i % 2 = 0 := by
      simp only [bitAt, beq_iff_eq] at h
      omega
    simp only [bitAt, beq_iff_eq]
    rw [Nat.add_div_right _ (Nat.two_pow_pos i)]
    omega

theorem bitAt_mod (v i n : Nat) (h : i < n) : bitAt (v % 2 ^ n) i = bitAt v i := by
  have e : 2 ^ n = 2 ^ i * 2 ^ (n - i) := by rw [← Nat.pow_add]; congr 1; omega
  have e2 : 2 ∣ 2 ^ (n - i) := dvd_pow_self 2 (by omega)
  simp only [bitAt]
  rw [e, Nat.mod_mul_right_div_self, Nat.mod_mod_of_dvd _ e2]

theorem errField_width (c : EvClass) (pg : Nat) : (errField c pg).width = 32 := by cases c <;> rfl

/-- Raising an event leaves its bit 1 (R109). -/
theorem State.raiseAt_bit (s : State) (t : Stamp) (e : Event) (h : e.code.bit < 32) :
    bitAt ((s.raiseAt t e).rd (errField e.code.cls e.code.page)) e.code.bit = true := by
  have key : ∀ u : State, bitAt ((u.setErrBit e.code).rd (errField e.code.cls e.code.page)) e.code.bit = true := by
    intro u
    unfold State.setErrBit State.wrBit
    rw [State.rd_wr_same, errField_width, bitAt_mod _ _ _ h]
    simp [bitAt_setBit]
  have ne : ∀ (f : Field) (u : State), f.key ≠ (errField e.code.cls e.code.page).key →
      (u.bump f).rd (errField e.code.cls e.code.page) = u.rd (errField e.code.cls e.code.page) :=
    fun f u hf => u.rd_bump_ne hf
  have k1 : (Reg.CNT_CORR e.code.page).key ≠ (errField e.code.cls e.code.page).key := by
    cases e.code.cls <;> simp only [errField, Field.key, Reg.CNT_CORR, Reg.ERR_CORR, Reg.ERR_CONT, Reg.ERR_FATAL] <;> omega
  have k2 : (Reg.CNT_CONT e.code.page).key ≠ (errField e.code.cls e.code.page).key := by
    cases e.code.cls <;> simp only [errField, Field.key, Reg.CNT_CONT, Reg.ERR_CORR, Reg.ERR_CONT, Reg.ERR_FATAL] <;> omega
  have k3 : (Reg.CNT_MERGED e.code.page).key ≠ (errField e.code.cls e.code.page).key := by
    cases e.code.cls <;> simp only [errField, Field.key, Reg.CNT_MERGED, Reg.ERR_CORR, Reg.ERR_CONT, Reg.ERR_FATAL] <;> omega
  have k4 : Reg.LOG.DROP_CNT.key ≠ (errField e.code.cls e.code.page).key := by
    cases e.code.cls <;> simp only [errField, Field.key, Reg.LOG.DROP_CNT, Reg.ERR_CORR, Reg.ERR_CONT, Reg.ERR_FATAL] <;> omega
  have hc : ∀ u : State, (u.countEvent e.code).rd (errField e.code.cls e.code.page) = u.rd (errField e.code.cls e.code.page) := by
    intro u
    unfold State.countEvent
    rcases hcl : e.code.cls <;> simp only [classCount]
    · rw [hcl] at k1; exact u.rd_bump_ne k1
    · rw [hcl] at k2; exact u.rd_bump_ne k2
  have hl : ∀ (u : State) (x : LogEntry),
      (u.logEvent x).rd (errField e.code.cls e.code.page) = u.rd (errField e.code.cls e.code.page) := by
    intro u x
    unfold State.logEvent
    dsimp only
    split
    · exact u.rd_bump_ne k4
    · rfl
  have hr : ∀ u : State, (u.recordEvent e t).rd (errField e.code.cls e.code.page) = u.rd (errField e.code.cls e.code.page) :=
    fun _ => rfl
  have hn : ∀ u : State, (u.noteEvent e.code t true).rd (errField e.code.cls e.code.page) = u.rd (errField e.code.cls e.code.page) :=
    fun _ => rfl
  unfold State.raiseAt
  dsimp only
  split
  · exact (congrArg (bitAt · e.code.bit) (State.rd_bump_ne _ k3)).trans (key _)
  · rw [hn, hl, hr, hc, key]

theorem State.raise1_bit (s : State) (e : Event) (h : e.code.bit < 32) :
    bitAt ((s.raise1 e).rd (errField e.code.cls e.code.page)) e.code.bit = true := s.raiseAt_bit _ e h

/-- What no event changes, a list of events does not change either. -/
theorem State.raise_same {α : Type} (f : State → α) (h : ∀ s e, f (State.raise1 s e) = f s) (s : State) (es : List Event) :
    f (s.raise es) = f s := by
  unfold State.raise
  generalize sortEvents es = l
  induction l generalizing s with
  | nil => rfl
  | cons e l ih => rw [List.foldl_cons, ih, h]

theorem mem_insertEvent {e x : Event} {l : List Event} : x ∈ insertEvent e l ↔ x = e ∨ x ∈ l := by
  induction l with
  | nil => simp [insertEvent]
  | cons a l ih =>
    simp only [insertEvent]
    split
    · simp
    · simp only [List.mem_cons, ih]
      tauto

theorem mem_sortEvents {x : Event} {es : List Event} : x ∈ sortEvents es ↔ x ∈ es := by
  unfold sortEvents
  suffices h : ∀ (es acc : List Event), x ∈ es.foldl (fun acc e => insertEvent e acc) acc ↔ x ∈ es ∨ x ∈ acc by
    simpa using h es []
  intro es
  induction es with
  | nil => simp
  | cons a l ih =>
    intro acc
    rw [List.foldl_cons, ih, mem_insertEvent, List.mem_cons]
    tauto

/-- Every field that none of the events may change keeps its value. -/
theorem State.raise_rd (s : State) (es : List Event) (g : Field) (h : ∀ e ∈ es, ∀ f ∈ eventFields e.code, f.key ≠ g.key) :
    (s.raise es).rd g = s.rd g := by
  have h2 : ∀ e ∈ sortEvents es, ∀ f ∈ eventFields e.code, f.key ≠ g.key := fun e he => h e (mem_sortEvents.mp he)
  unfold State.raise
  revert h2
  generalize sortEvents es = l
  induction l generalizing s with
  | nil => intro _; rfl
  | cons e l ih =>
    intro h2
    rw [List.foldl_cons, ih _ fun x hx => h2 x (List.mem_cons_of_mem _ hx), s.raise1_rd e g (h2 e List.mem_cons_self)]

/-! ## A write on a path (R102, R115, R117) -/

/-- A path that hears nothing changes nothing. -/
theorem State.access_deaf (s : State) (v : Path) (pg off data : Nat) (eff : Nat → State → State) (h : s.deaf v = true) :
    s.access v pg off data eff = s := by
  simp [State.access, h]

/-- A write that LOCK does not refuse has its effect. -/
theorem State.access_done (s : State) (v : Path) (pg off data : Nat) (eff : Nat → State → State) (hd : s.deaf v = false)
    (hi : implemented pg off = true) (hr : s.refuses v pg off data = false) : s.access v pg off data eff = eff data s := by
  simp [State.access, hd, hi, hr]

/-- A write to a page whose registers are not protected is not refused. -/
theorem State.refuses_unlocked (s : State) (v : Path) (pg off data : Nat) (h : s.flag (Reg.LOCK_WP pg) = false) :
    s.refuses v pg off data = false := by
  simp [State.refuses, State.locked, h]

end Sys2Proof.Machine
end

