-- ==== Sys2Proof/Laws/Still.lean ====
section
/-! SUPPORT. What no shared operation changes, but for the few that move the clock, begin a full reset, or are of the TAP: the fuses, the queue, the TAP, whether the die is held, ALIVE,
and the stroke, the strokes run and the control cycle. -/

set_option linter.all false

namespace Sys2Proof.Machine

/-- The fuses, the queue, whether the die is held, the TAP, ALIVE, and where its clock stands. -/
def State.still (s : State) : Fuses × List Instr × Bool × Tap × Bool × BitVec 48 × Nat × Nat := (s.fuses, s.pending, s.held, s.tap, s.clk.alive, s.clk.stroke, s.clk.elapsed, s.clk.cycle)

theorem upd_still (t : State) (regs : Tab Nat) (recs : Tab (Option ErrRec)) (log : LogState) (ump : UmpState) (resetAt : Option Nat) (paths : Tab PathState) (mgmt : MgmtState) (port : PortState) (clk : ClkState) (hgs : Tab Headgate) (synths : Tab Synth) (chans : Tab Chan) (refRuns : Tab Nat) (seats : Tab Seat) (lanes : Tab Lanes) (cal : CalState) (sensors : Tab Sensor) (datum : Datum) (nvs : NvsState) (lvl : LvlState) (flm : FlmState) (culvs : Tab Culv) (links : Tab Link) (cox : CoxState) (buoys : Tab DWord) (runs : RunState) (freeCount : Nat) (h1 : clk.stroke = t.clk.stroke)
    (h2 : clk.elapsed = t.clk.elapsed) (h3 : clk.cycle = t.clk.cycle) (h4 : clk.alive = t.clk.alive) :
    State.still { regs := regs, recs := recs, log := log, ump := ump, resetAt := resetAt, paths := paths, mgmt := mgmt, port := port, clk := clk, hgs := hgs, synths := synths, chans := chans, refRuns := refRuns, seats := seats, lanes := lanes, cal := cal, sensors := sensors, datum := datum, nvs := nvs, lvl := lvl, flm := flm, culvs := culvs, links := links, cox := cox, buoys := buoys, runs := runs, freeCount := freeCount, fuses := t.fuses, pending := t.pending, held := t.held, tap := t.tap } = t.still := by
  simp [State.still, h1, h2, h3, h4]

theorem foldl_still {α : Type} (f : State → α → State) (l : List α) (s : State) (h : ∀ s a, (f s a).still = s.still) :
    (l.foldl f s).still = s.still := by
  induction l generalizing s with
  | nil => rfl
  | cons a l ih => rw [List.foldl_cons, ih, h]

theorem foldl2_still {α β : Type} (f : β × State → α → β × State) (l : List α) (p : β × State)
    (h : ∀ p a, (f p a).2.still = p.2.still) : (l.foldl f p).2.still = p.2.still := by
  induction l generalizing p with
  | nil => rfl
  | cons a l ih => rw [List.foldl_cons, ih, h]

theorem foldl3_still {α β γ : Type} (f : β × γ × State → α → β × γ × State) (l : List α) (p : β × γ × State)
    (h : ∀ p a, (f p a).2.2.still = p.2.2.still) : (l.foldl f p).2.2.still = p.2.2.still := by
  induction l generalizing p with
  | nil => rfl
  | cons a l ih => rw [List.foldl_cons, ih, h]

theorem wr_clk (s : State) (f : Field) (v : Nat) : (s.wr f v).clk = s.clk := rfl

theorem wrPair_clk (s : State) (f g : Field) (v : Nat) : (s.wrPair f g v).clk = s.clk := rfl

theorem pair_still {α : Type} {p : α × State} {a : α} {t : State} {x : Fuses × List Instr × Bool × Tap × Bool × BitVec 48 × Nat × Nat} (h : p = (a, t))
    (hp : p.2.still = x) : t.still = x := by
  subst h; exact hp

theorem triple_still {α β : Type} {p : α × β × State} {a : α} {b : β} {t : State} {x : Fuses × List Instr × Bool × Tap × Bool × BitVec 48 × Nat × Nat}
    (h : p = (a, b, t)) (hp : p.2.2.still = x) : t.still = x := by
  subst h; exact hp

theorem ite_still (c : Prop) [Decidable c] (a b : State) : (if c then a else b).still = if c then a.still else b.still := by
  split <;> rfl

theorem ite_still2 {α : Type} (c : Prop) [Decidable c] (a b : α × State) :
    (if c then a else b).2.still = if c then a.2.still else b.2.still := by
  split <;> rfl

theorem State.wr_still (s : State) (f : Field) (v : Nat) : (State.wr s f v).still = s.still := by
  unfold State.wr
  repeat' first
    | with_reducible rfl
    | simp only [↓upd_still, ↓foldl_still, ↓ite_still, ↓ite_still2, ite_self]
    | (with_reducible refine (foldl_still _ _ _ (fun s a => ?_)).trans ?_)
    | (with_reducible refine pair_still ‹_ = (_, _)› ?_)
    | (with_reducible refine triple_still ‹_ = (_, _, _)› ?_)
    | split

theorem State.wrB_still (s : State) (f : Field) (b : Bool) : (State.wrB s f b).still = s.still := by
  unfold State.wrB
  repeat' first
    | with_reducible rfl
    | simp only [↓State.wr_still, ↓upd_still, ↓foldl_still, ↓ite_still, ↓ite_still2, ite_self]
    | (with_reducible refine (foldl_still _ _ _ (fun s a => ?_)).trans ?_)
    | (with_reducible refine pair_still ‹_ = (_, _)› ?_)
    | (with_reducible refine triple_still ‹_ = (_, _, _)› ?_)
    | split

theorem State.wrI_still (s : State) (f : Field) (v : Int) : (State.wrI s f v).still = s.still := by
  unfold State.wrI
  repeat' first
    | with_reducible rfl
    | simp only [↓State.wr_still, ↓upd_still, ↓foldl_still, ↓ite_still, ↓ite_still2, ite_self]
    | (with_reducible refine (foldl_still _ _ _ (fun s a => ?_)).trans ?_)
    | (with_reducible refine pair_still ‹_ = (_, _)› ?_)
    | (with_reducible refine triple_still ‹_ = (_, _, _)› ?_)
    | split

theorem State.addTo_still (s : State) (f : Field) (n : Nat) : (State.addTo s f n).still = s.still := by
  unfold State.addTo
  repeat' first
    | with_reducible rfl
    | simp only [↓State.wr_still, ↓upd_still, ↓foldl_still, ↓ite_still, ↓ite_still2, ite_self]
    | (with_reducible refine (foldl_still _ _ _ (fun s a => ?_)).trans ?_)
    | (with_reducible refine pair_still ‹_ = (_, _)› ?_)
    | (with_reducible refine triple_still ‹_ = (_, _, _)› ?_)
    | split

theorem State.bump_still (s : State) (f : Field) : (State.bump s f).still = s.still := by
  unfold State.bump
  repeat' first
    | with_reducible rfl
    | simp only [↓State.addTo_still, ↓upd_still, ↓foldl_still, ↓ite_still, ↓ite_still2, ite_self]
    | (with_reducible refine (foldl_still _ _ _ (fun s a => ?_)).trans ?_)
    | (with_reducible refine pair_still ‹_ = (_, _)› ?_)
    | (with_reducible refine triple_still ‹_ = (_, _, _)› ?_)
    | split

theorem State.wrBit_still (s : State) (f : Field) (i : Nat) (b : Bool) : (State.wrBit s f i b).still = s.still := by
  unfold State.wrBit
  repeat' first
    | with_reducible rfl
    | simp only [↓State.wr_still, ↓upd_still, ↓foldl_still, ↓ite_still, ↓ite_still2, ite_self]
    | (with_reducible refine (foldl_still _ _ _ (fun s a => ?_)).trans ?_)
    | (with_reducible refine pair_still ‹_ = (_, _)› ?_)
    | (with_reducible refine triple_still ‹_ = (_, _, _)› ?_)
    | split

theorem State.wrPair_still (s : State) (lo hi : Field) (v : Nat) : (State.wrPair s lo hi v).still = s.still := by
  unfold State.wrPair
  repeat' first
    | with_reducible rfl
    | simp only [↓State.wr_still, ↓upd_still, ↓foldl_still, ↓ite_still, ↓ite_still2, ite_self]
    | (with_reducible refine (foldl_still _ _ _ (fun s a => ?_)).trans ?_)
    | (with_reducible refine pair_still ‹_ = (_, _)› ?_)
    | (with_reducible refine triple_still ‹_ = (_, _, _)› ?_)
    | split

theorem State.toStep_still (s : State) (n : Nat) : (State.toStep s n).still = s.still := by
  unfold State.toStep
  repeat' first
    | with_reducible rfl
    | simp only [↓State.wr_still, ↓upd_still, ↓foldl_still, ↓ite_still, ↓ite_still2, ite_self]
    | (with_reducible refine (foldl_still _ _ _ (fun s a => ?_)).trans ?_)
    | (with_reducible refine pair_still ‹_ = (_, _)› ?_)
    | (with_reducible refine triple_still ‹_ = (_, _, _)› ?_)
    | split

theorem State.fresh_still (s : State) : (State.fresh s).2.still = s.still := by
  unfold State.fresh
  repeat' first
    | with_reducible rfl
    | simp only [↓upd_still, ↓foldl_still, ↓ite_still, ↓ite_still2, ite_self]
    | (with_reducible refine (foldl_still _ _ _ (fun s a => ?_)).trans ?_)
    | (with_reducible refine pair_still ‹_ = (_, _)› ?_)
    | (with_reducible refine triple_still ‹_ = (_, _, _)› ?_)
    | split

theorem State.setHg_still (s : State) (x : Nat) (h : Headgate) : (State.setHg s x h).still = s.still := by
  unfold State.setHg
  repeat' first
    | with_reducible rfl
    | simp only [↓upd_still, ↓foldl_still, ↓ite_still, ↓ite_still2, ite_self]
    | (with_reducible refine (foldl_still _ _ _ (fun s a => ?_)).trans ?_)
    | (with_reducible refine pair_still ‹_ = (_, _)› ?_)
    | (with_reducible refine triple_still ‹_ = (_, _, _)› ?_)
    | split

theorem State.setSynth_still (s : State) (p : Nat) (y : Synth) : (State.setSynth s p y).still = s.still := by
  unfold State.setSynth
  repeat' first
    | with_reducible rfl
    | simp only [↓upd_still, ↓foldl_still, ↓ite_still, ↓ite_still2, ite_self]
    | (with_reducible refine (foldl_still _ _ _ (fun s a => ?_)).trans ?_)
    | (with_reducible refine pair_still ‹_ = (_, _)› ?_)
    | (with_reducible refine triple_still ‹_ = (_, _, _)› ?_)
    | split

theorem State.setChan_still (s : State) (k : Nat) (c : Chan) : (State.setChan s k c).still = s.still := by
  unfold State.setChan
  repeat' first
    | with_reducible rfl
    | simp only [↓upd_still, ↓foldl_still, ↓ite_still, ↓ite_still2, ite_self]
    | (with_reducible refine (foldl_still _ _ _ (fun s a => ?_)).trans ?_)
    | (with_reducible refine pair_still ‹_ = (_, _)› ?_)
    | (with_reducible refine triple_still ‹_ = (_, _, _)› ?_)
    | split

theorem State.setRefRun_still (s : State) (k n : Nat) : (State.setRefRun s k n).still = s.still := by
  unfold State.setRefRun
  repeat' first
    | with_reducible rfl
    | simp only [↓upd_still, ↓foldl_still, ↓ite_still, ↓ite_still2, ite_self]
    | (with_reducible refine (foldl_still _ _ _ (fun s a => ?_)).trans ?_)
    | (with_reducible refine pair_still ‹_ = (_, _)› ?_)
    | (with_reducible refine triple_still ‹_ = (_, _, _)› ?_)
    | split

theorem State.setSeat_still (s : State) (k : Nat) (u : Seat) : (State.setSeat s k u).still = s.still := by
  unfold State.setSeat
  repeat' first
    | with_reducible rfl
    | simp only [↓upd_still, ↓foldl_still, ↓ite_still, ↓ite_still2, ite_self]
    | (with_reducible refine (foldl_still _ _ _ (fun s a => ?_)).trans ?_)
    | (with_reducible refine pair_still ‹_ = (_, _)› ?_)
    | (with_reducible refine triple_still ‹_ = (_, _, _)› ?_)
    | split

theorem State.setLaneSt_still (s : State) (p : Nat) (l : Lanes) : (State.setLaneSt s p l).still = s.still := by
  unfold State.setLaneSt
  repeat' first
    | with_reducible rfl
    | simp only [↓upd_still, ↓foldl_still, ↓ite_still, ↓ite_still2, ite_self]
    | (with_reducible refine (foldl_still _ _ _ (fun s a => ?_)).trans ?_)
    | (with_reducible refine pair_still ‹_ = (_, _)› ?_)
    | (with_reducible refine triple_still ‹_ = (_, _, _)› ?_)
    | split

theorem State.setLiveCal_still (s : State) (k : Nat) (c : LiveCal) : (State.setLiveCal s k c).still = s.still := by
  unfold State.setLiveCal
  repeat' first
    | with_reducible rfl
    | simp only [↓upd_still, ↓foldl_still, ↓ite_still, ↓ite_still2, ite_self]
    | (with_reducible refine (foldl_still _ _ _ (fun s a => ?_)).trans ?_)
    | (with_reducible refine pair_still ‹_ = (_, _)› ?_)
    | (with_reducible refine triple_still ‹_ = (_, _, _)› ?_)
    | split

theorem State.setSensor_still (s : State) (n : Nat) (x : Sensor) : (State.setSensor s n x).still = s.still := by
  unfold State.setSensor
  repeat' first
    | with_reducible rfl
    | simp only [↓upd_still, ↓foldl_still, ↓ite_still, ↓ite_still2, ite_self]
    | (with_reducible refine (foldl_still _ _ _ (fun s a => ?_)).trans ?_)
    | (with_reducible refine pair_still ‹_ = (_, _)› ?_)
    | (with_reducible refine triple_still ‹_ = (_, _, _)› ?_)
    | split

theorem State.setCulv_still (s : State) (c : Nat) (x : Culv) : (State.setCulv s c x).still = s.still := by
  unfold State.setCulv
  repeat' first
    | with_reducible rfl
    | simp only [↓upd_still, ↓foldl_still, ↓ite_still, ↓ite_still2, ite_self]
    | (with_reducible refine (foldl_still _ _ _ (fun s a => ?_)).trans ?_)
    | (with_reducible refine pair_still ‹_ = (_, _)› ?_)
    | (with_reducible refine triple_still ‹_ = (_, _, _)› ?_)
    | split

theorem State.setLink_still (s : State) (n : Nat) (x : Link) : (State.setLink s n x).still = s.still := by
  unfold State.setLink
  repeat' first
    | with_reducible rfl
    | simp only [↓upd_still, ↓foldl_still, ↓ite_still, ↓ite_still2, ite_self]
    | (with_reducible refine (foldl_still _ _ _ (fun s a => ?_)).trans ?_)
    | (with_reducible refine pair_still ‹_ = (_, _)› ?_)
    | (with_reducible refine triple_still ‹_ = (_, _, _)› ?_)
    | split

theorem State.setOq_still (s : State) (k : Nat) (q : Oq) : (State.setOq s k q).still = s.still := by
  unfold State.setOq
  repeat' first
    | with_reducible rfl
    | simp only [↓upd_still, ↓foldl_still, ↓ite_still, ↓ite_still2, ite_self]
    | (with_reducible refine (foldl_still _ _ _ (fun s a => ?_)).trans ?_)
    | (with_reducible refine pair_still ‹_ = (_, _)› ?_)
    | (with_reducible refine triple_still ‹_ = (_, _, _)› ?_)
    | split

theorem State.setBuoyVal_still (s : State) (k : Nat) (v : DWord) : (State.setBuoyVal s k v).still = s.still := by
  unfold State.setBuoyVal
  repeat' first
    | with_reducible rfl
    | simp only [↓upd_still, ↓foldl_still, ↓ite_still, ↓ite_still2, ite_self]
    | (with_reducible refine (foldl_still _ _ _ (fun s a => ?_)).trans ?_)
    | (with_reducible refine pair_still ‹_ = (_, _)› ?_)
    | (with_reducible refine triple_still ‹_ = (_, _, _)› ?_)
    | split

theorem State.setExtent_still (s : State) (k : Nat) (x : Extent) : (State.setExtent s k x).still = s.still := by
  unfold State.setExtent
  repeat' first
    | with_reducible rfl
    | simp only [↓upd_still, ↓foldl_still, ↓ite_still, ↓ite_still2, ite_self]
    | (with_reducible refine (foldl_still _ _ _ (fun s a => ?_)).trans ?_)
    | (with_reducible refine pair_still ‹_ = (_, _)› ?_)
    | (with_reducible refine triple_still ‹_ = (_, _, _)› ?_)
    | split

theorem State.setFan_still (s : State) (k : Nat) (x : FanSlot) : (State.setFan s k x).still = s.still := by
  unfold State.setFan
  repeat' first
    | with_reducible rfl
    | simp only [↓upd_still, ↓foldl_still, ↓ite_still, ↓ite_still2, ite_self]
    | (with_reducible refine (foldl_still _ _ _ (fun s a => ?_)).trans ?_)
    | (with_reducible refine pair_still ‹_ = (_, _)› ?_)
    | (with_reducible refine triple_still ‹_ = (_, _, _)› ?_)
    | split

theorem State.setPath_still (s : State) (v : Path) (x : PathState) : (State.setPath s v x).still = s.still := by
  unfold State.setPath
  repeat' first
    | with_reducible rfl
    | simp only [↓upd_still, ↓foldl_still, ↓ite_still, ↓ite_still2, ite_self]
    | (with_reducible refine (foldl_still _ _ _ (fun s a => ?_)).trans ?_)
    | (with_reducible refine pair_still ‹_ = (_, _)› ?_)
    | (with_reducible refine triple_still ‹_ = (_, _, _)› ?_)
    | split

theorem State.assertPair_still (s : State) : (State.assertPair s).still = s.still := by
  unfold State.assertPair
  repeat' first
    | with_reducible rfl
    | simp only [↓State.bump_still, ↓upd_still, ↓foldl_still, ↓ite_still, ↓ite_still2, ite_self]
    | (with_reducible refine (foldl_still _ _ _ (fun s a => ?_)).trans ?_)
    | (with_reducible refine pair_still ‹_ = (_, _)› ?_)
    | (with_reducible refine triple_still ‹_ = (_, _, _)› ?_)
    | split

theorem State.setErrBit_still (s : State) (c : ErrCode) : (State.setErrBit s c).still = s.still := by
  unfold State.setErrBit
  repeat' first
    | with_reducible rfl
    | simp only [↓State.wrBit_still, ↓upd_still, ↓foldl_still, ↓ite_still, ↓ite_still2, ite_self]
    | (with_reducible refine (foldl_still _ _ _ (fun s a => ?_)).trans ?_)
    | (with_reducible refine pair_still ‹_ = (_, _)› ?_)
    | (with_reducible refine triple_still ‹_ = (_, _, _)› ?_)
    | split

theorem State.pairFor_still (s : State) (c : ErrCode) : (State.pairFor s c).still = s.still := by
  unfold State.pairFor
  repeat' first
    | with_reducible rfl
    | simp only [↓State.assertPair_still, ↓upd_still, ↓foldl_still, ↓ite_still, ↓ite_still2, ite_self]
    | (with_reducible refine (foldl_still _ _ _ (fun s a => ?_)).trans ?_)
    | (with_reducible refine pair_still ‹_ = (_, _)› ?_)
    | (with_reducible refine triple_still ‹_ = (_, _, _)› ?_)
    | split

theorem State.mergeEvent_still (s : State) (c : ErrCode) : (State.mergeEvent s c).still = s.still := by
  unfold State.mergeEvent
  repeat' first
    | with_reducible rfl
    | simp only [↓State.bump_still, ↓State.setErrBit_still, ↓upd_still, ↓foldl_still, ↓ite_still, ↓ite_still2, ite_self]
    | (with_reducible refine (foldl_still _ _ _ (fun s a => ?_)).trans ?_)
    | (with_reducible refine pair_still ‹_ = (_, _)› ?_)
    | (with_reducible refine triple_still ‹_ = (_, _, _)› ?_)
    | split

theorem State.noteEvent_still (s : State) (c : ErrCode) (t : Stamp) (new : Bool) : (State.noteEvent s c t new).still = s.still := by
  unfold State.noteEvent
  repeat' first
    | with_reducible rfl
    | simp only [↓upd_still, ↓foldl_still, ↓ite_still, ↓ite_still2, ite_self]
    | (with_reducible refine (foldl_still _ _ _ (fun s a => ?_)).trans ?_)
    | (with_reducible refine pair_still ‹_ = (_, _)› ?_)
    | (with_reducible refine triple_still ‹_ = (_, _, _)› ?_)
    | split

theorem State.countEvent_still (s : State) (c : ErrCode) : (State.countEvent s c).still = s.still := by
  unfold State.countEvent
  repeat' first
    | with_reducible rfl
    | simp only [↓State.bump_still, ↓upd_still, ↓foldl_still, ↓ite_still, ↓ite_still2, ite_self]
    | (with_reducible refine (foldl_still _ _ _ (fun s a => ?_)).trans ?_)
    | (with_reducible refine pair_still ‹_ = (_, _)› ?_)
    | (with_reducible refine triple_still ‹_ = (_, _, _)› ?_)
    | split

theorem State.recordEvent_still (s : State) (e : Event) (t : Stamp) : (State.recordEvent s e t).still = s.still := by
  unfold State.recordEvent
  repeat' first
    | with_reducible rfl
    | simp only [↓upd_still, ↓foldl_still, ↓ite_still, ↓ite_still2, ite_self]
    | (with_reducible refine (foldl_still _ _ _ (fun s a => ?_)).trans ?_)
    | (with_reducible refine pair_still ‹_ = (_, _)› ?_)
    | (with_reducible refine triple_still ‹_ = (_, _, _)› ?_)
    | split

theorem State.logEvent_still (s : State) (x : LogEntry) : (State.logEvent s x).still = s.still := by
  unfold State.logEvent
  repeat' first
    | with_reducible rfl
    | simp only [↓State.bump_still, ↓upd_still, ↓foldl_still, ↓ite_still, ↓ite_still2, ite_self]
    | (with_reducible refine (foldl_still _ _ _ (fun s a => ?_)).trans ?_)
    | (with_reducible refine pair_still ‹_ = (_, _)› ?_)
    | (with_reducible refine triple_still ‹_ = (_, _, _)› ?_)
    | split

theorem State.raiseAt_still (s : State) (t : Stamp) (e : Event) : (State.raiseAt s t e).still = s.still := by
  unfold State.raiseAt
  repeat' first
    | with_reducible rfl
    | simp only [↓State.countEvent_still, ↓State.logEvent_still, ↓State.mergeEvent_still, ↓State.noteEvent_still, ↓State.pairFor_still, ↓State.recordEvent_still, ↓State.setErrBit_still, ↓upd_still, ↓foldl_still, ↓ite_still, ↓ite_still2, ite_self]
    | (with_reducible refine (foldl_still _ _ _ (fun s a => ?_)).trans ?_)
    | (with_reducible refine pair_still ‹_ = (_, _)› ?_)
    | (with_reducible refine triple_still ‹_ = (_, _, _)› ?_)
    | split

theorem State.raise1_still (s : State) (e : Event) : (State.raise1 s e).still = s.still := by
  unfold State.raise1
  repeat' first
    | with_reducible rfl
    | simp only [↓State.raiseAt_still, ↓upd_still, ↓foldl_still, ↓ite_still, ↓ite_still2, ite_self]
    | (with_reducible refine (foldl_still _ _ _ (fun s a => ?_)).trans ?_)
    | (with_reducible refine pair_still ‹_ = (_, _)› ?_)
    | (with_reducible refine triple_still ‹_ = (_, _, _)› ?_)
    | split

theorem State.raise_still (s : State) (es : List Event) : (State.raise s es).still = s.still := by
  unfold State.raise
  repeat' first
    | with_reducible rfl
    | simp only [↓State.raise1_still, ↓upd_still, ↓foldl_still, ↓ite_still, ↓ite_still2, ite_self]
    | (with_reducible refine (foldl_still _ _ _ (fun s a => ?_)).trans ?_)
    | (with_reducible refine pair_still ‹_ = (_, _)› ?_)
    | (with_reducible refine triple_still ‹_ = (_, _, _)› ?_)
    | split

theorem State.event_still (s : State) (e : Event) : (State.event s e).still = s.still := by
  unfold State.event
  repeat' first
    | with_reducible rfl
    | simp only [↓State.raise1_still, ↓upd_still, ↓foldl_still, ↓ite_still, ↓ite_still2, ite_self]
    | (with_reducible refine (foldl_still _ _ _ (fun s a => ?_)).trans ?_)
    | (with_reducible refine pair_still ‹_ = (_, _)› ?_)
    | (with_reducible refine triple_still ‹_ = (_, _, _)› ?_)
    | split

theorem State.emptyRecord_still (s : State) (pg : Nat) : (State.emptyRecord s pg).still = s.still := by
  unfold State.emptyRecord
  repeat' first
    | with_reducible rfl
    | simp only [↓upd_still, ↓foldl_still, ↓ite_still, ↓ite_still2, ite_self]
    | (with_reducible refine (foldl_still _ _ _ (fun s a => ?_)).trans ?_)
    | (with_reducible refine pair_still ‹_ = (_, _)› ?_)
    | (with_reducible refine triple_still ‹_ = (_, _, _)› ?_)
    | split

theorem State.clearErr_still (s : State) (cls : EvClass) (pg m : Nat) : (State.clearErr s cls pg m).still = s.still := by
  unfold State.clearErr
  repeat' first
    | with_reducible rfl
    | simp only [↓State.emptyRecord_still, ↓State.wr_still, ↓upd_still, ↓foldl_still, ↓ite_still, ↓ite_still2, ite_self]
    | (with_reducible refine (foldl_still _ _ _ (fun s a => ?_)).trans ?_)
    | (with_reducible refine pair_still ‹_ = (_, _)› ?_)
    | (with_reducible refine triple_still ‹_ = (_, _, _)› ?_)
    | split

theorem State.refuse_still (s : State) (v : Path) (pg : Nat) : (State.refuse s v pg).still = s.still := by
  unfold State.refuse
  repeat' first
    | with_reducible rfl
    | simp only [↓State.bump_still, ↓State.wr_still, ↓upd_still, ↓foldl_still, ↓ite_still, ↓ite_still2, ite_self]
    | (with_reducible refine (foldl_still _ _ _ (fun s a => ?_)).trans ?_)
    | (with_reducible refine pair_still ‹_ = (_, _)› ?_)
    | (with_reducible refine triple_still ‹_ = (_, _, _)› ?_)
    | split

theorem State.access_still (s : State) (v : Path) (pg off data : Nat) (eff : Nat → State → State) (h_eff : ∀ x0 x1, (eff x0 x1).still = x1.still) : (State.access s v pg off data eff).still = s.still := by
  unfold State.access
  repeat' first
    | with_reducible rfl
    | simp only [↓State.refuse_still, ↓upd_still, ↓foldl_still, ↓ite_still, ↓ite_still2, ite_self, ↓h_eff]
    | (with_reducible refine (foldl_still _ _ _ (fun s a => ?_)).trans ?_)
    | (with_reducible refine pair_still ‹_ = (_, _)› ?_)
    | (with_reducible refine triple_still ‹_ = (_, _, _)› ?_)
    | split

theorem State.writeField_still (s : State) (pg off data : Nat) (r : FieldRow) : (State.writeField s pg off data r).still = s.still := by
  unfold State.writeField
  repeat' first
    | with_reducible rfl
    | simp only [↓State.wr_still, ↓upd_still, ↓foldl_still, ↓ite_still, ↓ite_still2, ite_self]
    | (with_reducible refine (foldl_still _ _ _ (fun s a => ?_)).trans ?_)
    | (with_reducible refine pair_still ‹_ = (_, _)› ?_)
    | (with_reducible refine triple_still ‹_ = (_, _, _)› ?_)
    | split

theorem State.clearCounts_still (s : State) (pg : Nat) : (State.clearCounts s pg).still = s.still := by
  unfold State.clearCounts
  repeat' first
    | with_reducible rfl
    | simp only [↓State.wr_still, ↓upd_still, ↓foldl_still, ↓ite_still, ↓ite_still2, ite_self]
    | (with_reducible refine (foldl_still _ _ _ (fun s a => ?_)).trans ?_)
    | (with_reducible refine pair_still ‹_ = (_, _)› ?_)
    | (with_reducible refine triple_still ‹_ = (_, _, _)› ?_)
    | split

theorem State.writeFields_still (s : State) (pg off data : Nat) : (State.writeFields s pg off data).still = s.still := by
  unfold State.writeFields
  repeat' first
    | with_reducible rfl
    | simp only [↓State.clearCounts_still, ↓State.writeField_still, ↓upd_still, ↓foldl_still, ↓ite_still, ↓ite_still2, ite_self]
    | (with_reducible refine (foldl_still _ _ _ (fun s a => ?_)).trans ?_)
    | (with_reducible refine pair_still ‹_ = (_, _)› ?_)
    | (with_reducible refine triple_still ‹_ = (_, _, _)› ?_)
    | split

theorem State.pairLow_still (s : State) (v : Path) (loAddr : Nat) : (State.pairLow s v loAddr).2.still = s.still := by
  unfold State.pairLow
  repeat' first
    | with_reducible rfl
    | simp only [↓State.setPath_still, ↓upd_still, ↓foldl_still, ↓ite_still, ↓ite_still2, ite_self]
    | (with_reducible refine (foldl_still _ _ _ (fun s a => ?_)).trans ?_)
    | (with_reducible refine pair_still ‹_ = (_, _)› ?_)
    | (with_reducible refine triple_still ‹_ = (_, _, _)› ?_)
    | split

theorem State.holdLow_still (s : State) (v : Path) (loAddr : Nat) (data : Word) : (State.holdLow s v loAddr data).still = s.still := by
  unfold State.holdLow
  repeat' first
    | with_reducible rfl
    | simp only [↓State.setPath_still, ↓upd_still, ↓foldl_still, ↓ite_still, ↓ite_still2, ite_self]
    | (with_reducible refine (foldl_still _ _ _ (fun s a => ?_)).trans ?_)
    | (with_reducible refine pair_still ‹_ = (_, _)› ?_)
    | (with_reducible refine triple_still ‹_ = (_, _, _)› ?_)
    | split

theorem State.wrHalf_still (s : State) (f : Field) (j v : Nat) : (State.wrHalf s f j v).still = s.still := by
  unfold State.wrHalf
  repeat' first
    | with_reducible rfl
    | simp only [↓State.wr_still, ↓upd_still, ↓foldl_still, ↓ite_still, ↓ite_still2, ite_self]
    | (with_reducible refine (foldl_still _ _ _ (fun s a => ?_)).trans ?_)
    | (with_reducible refine pair_still ‹_ = (_, _)› ?_)
    | (with_reducible refine triple_still ‹_ = (_, _, _)› ?_)
    | split

theorem State.portWeights_still (s : State) (p : Nat) : (State.portWeights s p).still = s.still := by
  unfold State.portWeights
  repeat' first
    | with_reducible rfl
    | simp only [↓State.wrBit_still, ↓State.wrHalf_still, ↓upd_still, ↓foldl_still, ↓ite_still, ↓ite_still2, ite_self]
    | (with_reducible refine (foldl_still _ _ _ (fun s a => ?_)).trans ?_)
    | (with_reducible refine pair_still ‹_ = (_, _)› ?_)
    | (with_reducible refine triple_still ‹_ = (_, _, _)› ?_)
    | split

theorem State.latchOutputs_still (s : State) : (State.latchOutputs s).still = s.still := by
  unfold State.latchOutputs
  repeat' first
    | with_reducible rfl
    | simp only [↓upd_still, ↓foldl_still, ↓ite_still, ↓ite_still2, ite_self]
    | (with_reducible refine (foldl_still _ _ _ (fun s a => ?_)).trans ?_)
    | (with_reducible refine pair_still ‹_ = (_, _)› ?_)
    | (with_reducible refine triple_still ‹_ = (_, _, _)› ?_)
    | split

theorem State.loadChoices_still (s : State) (key : Nat) : (State.loadChoices s key).still = s.still := by
  unfold State.loadChoices
  repeat' first
    | with_reducible rfl
    | simp only [↓State.setLiveCal_still, ↓upd_still, ↓foldl_still, ↓ite_still, ↓ite_still2, ite_self]
    | (with_reducible refine (foldl_still _ _ _ (fun s a => ?_)).trans ?_)
    | (with_reducible refine pair_still ‹_ = (_, _)› ?_)
    | (with_reducible refine triple_still ‹_ = (_, _, _)› ?_)
    | split

theorem State.switchWeights_still (s : State) (p : Nat) : (State.switchWeights s p).still = s.still := by
  unfold State.switchWeights
  repeat' first
    | with_reducible rfl
    | simp only [↓State.portWeights_still, ↓State.setSeat_still, ↓upd_still, ↓foldl_still, ↓ite_still, ↓ite_still2, ite_self]
    | (with_reducible refine (foldl_still _ _ _ (fun s a => ?_)).trans ?_)
    | (with_reducible refine pair_still ‹_ = (_, _)› ?_)
    | (with_reducible refine triple_still ‹_ = (_, _, _)› ?_)
    | split

theorem State.returnPages_still (s : State) (k : Pool) (n : Nat) : (State.returnPages s k n).still = s.still := by
  unfold State.returnPages
  repeat' first
    | with_reducible rfl
    | simp only [↓State.wr_still, ↓upd_still, ↓foldl_still, ↓ite_still, ↓ite_still2, ite_self]
    | (with_reducible refine (foldl_still _ _ _ (fun s a => ?_)).trans ?_)
    | (with_reducible refine pair_still ‹_ = (_, _)› ?_)
    | (with_reducible refine triple_still ‹_ = (_, _, _)› ?_)
    | split

theorem State.startPaging_still (s : State) (headroom : Bool) : (State.startPaging s headroom).still = s.still := by
  unfold State.startPaging
  repeat' first
    | with_reducible rfl
    | simp only [↓State.raise1_still, ↓State.wr_still, ↓upd_still, ↓foldl_still, ↓ite_still, ↓ite_still2, ite_self]
    | (with_reducible refine (foldl_still _ _ _ (fun s a => ?_)).trans ?_)
    | (with_reducible refine pair_still ‹_ = (_, _)› ?_)
    | (with_reducible refine triple_still ‹_ = (_, _, _)› ?_)
    | split

theorem State.pageIfDue_still (s : State) : (State.pageIfDue s).still = s.still := by
  unfold State.pageIfDue
  repeat' first
    | with_reducible rfl
    | simp only [↓State.startPaging_still, ↓upd_still, ↓foldl_still, ↓ite_still, ↓ite_still2, ite_self]
    | (with_reducible refine (foldl_still _ _ _ (fun s a => ?_)).trans ?_)
    | (with_reducible refine pair_still ‹_ = (_, _)› ?_)
    | (with_reducible refine triple_still ‹_ = (_, _, _)› ?_)
    | split

theorem State.pageEnough_still (s : State) : (State.pageEnough s).still = s.still := by
  unfold State.pageEnough
  repeat' first
    | with_reducible rfl
    | simp only [↓State.wr_still, ↓upd_still, ↓foldl_still, ↓ite_still, ↓ite_still2, ite_self]
    | (with_reducible refine (foldl_still _ _ _ (fun s a => ?_)).trans ?_)
    | (with_reducible refine pair_still ‹_ = (_, _)› ?_)
    | (with_reducible refine triple_still ‹_ = (_, _, _)› ?_)
    | split

theorem State.takePages_still (s t : State) (k : Pool) (n : Nat) (h : s.takePages k n = some t) : t.still = s.still := by
  unfold State.takePages at h
  split at h
  · cases h; rfl
  · cases h

theorem State.allocate_still (s : State) (k : Pool) (n : Nat) : (State.allocate s k n).2.still = s.still := by
  unfold State.allocate
  split
  · simp only [State.pageIfDue_still]; exact State.takePages_still s _ k n ‹_›
  · simp only [ite_still, State.startPaging_still, ite_self]

theorem State.pageUe_still (s : State) (k : Pool) (page : Nat) : (State.pageUe s k page).still = s.still := by
  unfold State.pageUe
  repeat' first
    | with_reducible rfl
    | simp only [↓State.bump_still, ↓State.raise1_still, ↓State.returnPages_still, ↓upd_still, ↓foldl_still, ↓ite_still, ↓ite_still2, ite_self]
    | (with_reducible refine (foldl_still _ _ _ (fun s a => ?_)).trans ?_)
    | (with_reducible refine pair_still ‹_ = (_, _)› ?_)
    | (with_reducible refine triple_still ‹_ = (_, _, _)› ?_)
    | split

theorem State.pageCe_still (s : State) (k : Pool) (page : Nat) : (State.pageCe s k page).still = s.still := by
  unfold State.pageCe
  repeat' first
    | with_reducible rfl
    | simp only [↓State.raise1_still, ↓upd_still, ↓foldl_still, ↓ite_still, ↓ite_still2, ite_self]
    | (with_reducible refine (foldl_still _ _ _ (fun s a => ?_)).trans ?_)
    | (with_reducible refine pair_still ‹_ = (_, _)› ?_)
    | (with_reducible refine triple_still ‹_ = (_, _, _)› ?_)
    | split

theorem State.linkTo_still (s : State) (p st : Nat) : (State.linkTo s p st).still = s.still := by
  unfold State.linkTo
  repeat' first
    | with_reducible rfl
    | simp only [↓State.setLink_still, ↓State.wr_still, ↓upd_still, ↓foldl_still, ↓ite_still, ↓ite_still2, ite_self]
    | (with_reducible refine (foldl_still _ _ _ (fun s a => ?_)).trans ?_)
    | (with_reducible refine pair_still ‹_ = (_, _)› ?_)
    | (with_reducible refine triple_still ‹_ = (_, _, _)› ?_)
    | split

theorem State.linkFault_still (s : State) (p reason lane seq : Nat) : (State.linkFault s p reason lane seq).still = s.still := by
  unfold State.linkFault
  repeat' first
    | with_reducible rfl
    | simp only [↓State.setLink_still, ↓upd_still, ↓foldl_still, ↓ite_still, ↓ite_still2, ite_self]
    | (with_reducible refine (foldl_still _ _ _ (fun s a => ?_)).trans ?_)
    | (with_reducible refine pair_still ‹_ = (_, _)› ?_)
    | (with_reducible refine triple_still ‹_ = (_, _, _)› ?_)
    | split

theorem State.checkNarrow_still (s : State) (p : Nat) : (State.checkNarrow s p).still = s.still := by
  unfold State.checkNarrow
  repeat' first
    | with_reducible rfl
    | simp only [↓State.linkFault_still, ↓upd_still, ↓foldl_still, ↓ite_still, ↓ite_still2, ite_self]
    | (with_reducible refine (foldl_still _ _ _ (fun s a => ?_)).trans ?_)
    | (with_reducible refine pair_still ‹_ = (_, _)› ?_)
    | (with_reducible refine triple_still ‹_ = (_, _, _)› ?_)
    | split

theorem State.queueOp_still (s : State) (p op arg : Nat) (cause : LaneCause) : (State.queueOp s p op arg cause).still = s.still := by
  unfold State.queueOp
  repeat' first
    | with_reducible rfl
    | simp only [↓State.setLink_still, ↓upd_still, ↓foldl_still, ↓ite_still, ↓ite_still2, ite_self]
    | (with_reducible refine (foldl_still _ _ _ (fun s a => ?_)).trans ?_)
    | (with_reducible refine pair_still ‹_ = (_, _)› ?_)
    | (with_reducible refine triple_still ‹_ = (_, _, _)› ?_)
    | split

theorem State.queueWords_still (s : State) (p : Nat) (ws : List DWord) : (State.queueWords s p ws).still = s.still := by
  unfold State.queueWords
  repeat' first
    | with_reducible rfl
    | simp only [↓State.setLink_still, ↓upd_still, ↓foldl_still, ↓ite_still, ↓ite_still2, ite_self]
    | (with_reducible refine (foldl_still _ _ _ (fun s a => ?_)).trans ?_)
    | (with_reducible refine pair_still ‹_ = (_, _)› ?_)
    | (with_reducible refine triple_still ‹_ = (_, _, _)› ?_)
    | split

theorem State.respond_still (s : State) (p op tag : Nat) (refused : Bool) : (State.respond s p op tag refused).still = s.still := by
  unfold State.respond
  repeat' first
    | with_reducible rfl
    | simp only [↓State.queueWords_still, ↓upd_still, ↓foldl_still, ↓ite_still, ↓ite_still2, ite_self]
    | (with_reducible refine (foldl_still _ _ _ (fun s a => ?_)).trans ?_)
    | (with_reducible refine pair_still ‹_ = (_, _)› ?_)
    | (with_reducible refine triple_still ‹_ = (_, _, _)› ?_)
    | split

theorem State.noteSeat_still (s : State) (k : Nat) : (State.noteSeat s k).still = s.still := by
  unfold State.noteSeat
  repeat' first
    | with_reducible rfl
    | simp only [↓State.setLink_still, ↓upd_still, ↓foldl_still, ↓ite_still, ↓ite_still2, ite_self]
    | (with_reducible refine (foldl_still _ _ _ (fun s a => ?_)).trans ?_)
    | (with_reducible refine pair_still ‹_ = (_, _)› ?_)
    | (with_reducible refine triple_still ‹_ = (_, _, _)› ?_)
    | split

theorem State.shellSent_still (s : State) (n : Nat) (hdr : TxHdr) (body : TxBody) : (State.shellSent s n hdr body).still = s.still := by
  unfold State.shellSent
  repeat' first
    | with_reducible rfl
    | simp only [↓State.setLink_still, ↓upd_still, ↓foldl_still, ↓ite_still, ↓ite_still2, ite_self]
    | (with_reducible refine (foldl_still _ _ _ (fun s a => ?_)).trans ?_)
    | (with_reducible refine pair_still ‹_ = (_, _)› ?_)
    | (with_reducible refine triple_still ‹_ = (_, _, _)› ?_)
    | split

theorem State.sendWords_still (s : State) (n kind : Nat) : (State.sendWords s n kind).still = s.still := by
  unfold State.sendWords
  repeat' first
    | with_reducible rfl
    | simp only [↓State.raise1_still, ↓State.setLink_still, ↓State.shellSent_still, ↓upd_still, ↓foldl_still, ↓ite_still, ↓ite_still2, ite_self]
    | (with_reducible refine (foldl_still _ _ _ (fun s a => ?_)).trans ?_)
    | (with_reducible refine pair_still ‹_ = (_, _)› ?_)
    | (with_reducible refine triple_still ‹_ = (_, _, _)› ?_)
    | split

theorem State.sendCtrl_still (s : State) (n : Nat) : (State.sendCtrl s n).still = s.still := by
  unfold State.sendCtrl
  repeat' first
    | with_reducible rfl
    | simp only [↓State.sendWords_still, ↓upd_still, ↓foldl_still, ↓ite_still, ↓ite_still2, ite_self]
    | (with_reducible refine (foldl_still _ _ _ (fun s a => ?_)).trans ?_)
    | (with_reducible refine pair_still ‹_ = (_, _)› ?_)
    | (with_reducible refine triple_still ‹_ = (_, _, _)› ?_)
    | split

theorem State.pushMsg_still (s : State) (n : Nat) (m : Msg) : (State.pushMsg s n m).still = s.still := by
  unfold State.pushMsg
  repeat' first
    | with_reducible rfl
    | simp only [↓State.setLink_still, ↓upd_still, ↓foldl_still, ↓ite_still, ↓ite_still2, ite_self]
    | (with_reducible refine (foldl_still _ _ _ (fun s a => ?_)).trans ?_)
    | (with_reducible refine pair_still ‹_ = (_, _)› ?_)
    | (with_reducible refine triple_still ‹_ = (_, _, _)› ?_)
    | split

theorem State.pickClass_still (s : State) (n : Nat) : (State.pickClass s n).2.still = s.still := by
  unfold State.pickClass
  repeat' first
    | with_reducible rfl
    | simp only [↓State.setLink_still, ↓upd_still, ↓foldl_still, ↓ite_still, ↓ite_still2, ite_self]
    | (with_reducible refine (foldl_still _ _ _ (fun s a => ?_)).trans ?_)
    | (with_reducible refine pair_still ‹_ = (_, _)› ?_)
    | (with_reducible refine triple_still ‹_ = (_, _, _)› ?_)
    | split

theorem State.startMsg_still (s : State) (n c : Nat) : (State.startMsg s n c).still = s.still := by
  unfold State.startMsg
  repeat' first
    | with_reducible rfl
    | simp only [↓State.setLink_still, ↓upd_still, ↓foldl_still, ↓ite_still, ↓ite_still2, ite_self]
    | (with_reducible refine (foldl_still _ _ _ (fun s a => ?_)).trans ?_)
    | (with_reducible refine pair_still ‹_ = (_, _)› ?_)
    | (with_reducible refine triple_still ‹_ = (_, _, _)› ?_)
    | split

theorem State.fillStream_still (s : State) (n body : Nat) (a0 : Nat) : (State.fillStream s n body a0).still = s.still := by
  induction a0 generalizing s n body with
  | zero =>
    unfold State.fillStream
    repeat' first
      | with_reducible rfl
      | simp only [↓State.pickClass_still, ↓State.startMsg_still, ↓upd_still, ↓foldl_still, ↓ite_still, ↓ite_still2, ite_self]
      | (with_reducible refine (foldl_still _ _ _ (fun s a => ?_)).trans ?_)
      | (with_reducible refine pair_still ‹_ = (_, _)› ?_)
      | split
  | succ k ih =>
    unfold State.fillStream
    repeat' first
      | with_reducible rfl
      | simp only [↓State.pickClass_still, ↓State.startMsg_still, ↓upd_still, ↓foldl_still, ↓ite_still, ↓ite_still2, ite_self, ↓ih]
      | (with_reducible refine (foldl_still _ _ _ (fun s a => ?_)).trans ?_)
      | (with_reducible refine pair_still ‹_ = (_, _)› ?_)
      | split

theorem State.padStream_still (s : State) (n body : Nat) : (State.padStream s n body).still = s.still := by
  unfold State.padStream
  repeat' first
    | with_reducible rfl
    | simp only [↓State.setLink_still, ↓upd_still, ↓foldl_still, ↓ite_still, ↓ite_still2, ite_self]
    | (with_reducible refine (foldl_still _ _ _ (fun s a => ?_)).trans ?_)
    | (with_reducible refine pair_still ‹_ = (_, _)› ?_)
    | (with_reducible refine triple_still ‹_ = (_, _, _)› ?_)
    | split

theorem State.stall_still (s : State) (n : Nat) : (State.stall s n).still = s.still := by
  unfold State.stall
  repeat' first
    | with_reducible rfl
    | simp only [↓State.raise1_still, ↓State.setLink_still, ↓upd_still, ↓foldl_still, ↓ite_still, ↓ite_still2, ite_self]
    | (with_reducible refine (foldl_still _ _ _ (fun s a => ?_)).trans ?_)
    | (with_reducible refine pair_still ‹_ = (_, _)› ?_)
    | (with_reducible refine triple_still ‹_ = (_, _, _)› ?_)
    | split

theorem State.sendNull_still (s : State) (n : Nat) : (State.sendNull s n).still = s.still := by
  unfold State.sendNull
  repeat' first
    | with_reducible rfl
    | simp only [↓State.shellSent_still, ↓upd_still, ↓foldl_still, ↓ite_still, ↓ite_still2, ite_self]
    | (with_reducible refine (foldl_still _ _ _ (fun s a => ?_)).trans ?_)
    | (with_reducible refine pair_still ‹_ = (_, _)› ?_)
    | (with_reducible refine triple_still ‹_ = (_, _, _)› ?_)
    | split

theorem State.sendShell_still (s : State) (n : Nat) (x : TxShell) : (State.sendShell s n x).still = s.still := by
  unfold State.sendShell
  repeat' first
    | with_reducible rfl
    | simp only [↓State.setLaneSt_still, ↓State.shellSent_still, ↓upd_still, ↓foldl_still, ↓ite_still, ↓ite_still2, ite_self]
    | (with_reducible refine (foldl_still _ _ _ (fun s a => ?_)).trans ?_)
    | (with_reducible refine pair_still ‹_ = (_, _)› ?_)
    | (with_reducible refine triple_still ‹_ = (_, _, _)› ?_)
    | split

theorem State.cutNew_still (s : State) (n w : Nat) : (State.cutNew s n w).still = s.still := by
  unfold State.cutNew
  repeat' first
    | with_reducible rfl
    | simp only [↓State.sendShell_still, ↓State.setLink_still, ↓upd_still, ↓foldl_still, ↓ite_still, ↓ite_still2, ite_self]
    | (with_reducible refine (foldl_still _ _ _ (fun s a => ?_)).trans ?_)
    | (with_reducible refine pair_still ‹_ = (_, _)› ?_)
    | (with_reducible refine triple_still ‹_ = (_, _, _)› ?_)
    | split

theorem State.sendNew_still (s : State) (n : Nat) : (State.sendNew s n).still = s.still := by
  unfold State.sendNew
  repeat' first
    | with_reducible rfl
    | simp only [↓State.allocate_still, ↓State.cutNew_still, ↓State.fillStream_still, ↓State.padStream_still, ↓State.pickClass_still, ↓State.sendNull_still, ↓State.stall_still, ↓upd_still, ↓foldl_still, ↓ite_still, ↓ite_still2, ite_self]
    | (with_reducible refine (foldl_still _ _ _ (fun s a => ?_)).trans ?_)
    | (with_reducible refine pair_still ‹_ = (_, _)› ?_)
    | (with_reducible refine triple_still ‹_ = (_, _, _)› ?_)
    | split

theorem State.sendData_still (s : State) (n : Nat) : (State.sendData s n).still = s.still := by
  unfold State.sendData
  repeat' first
    | with_reducible rfl
    | simp only [↓State.sendNew_still, ↓State.sendNull_still, ↓State.sendShell_still, ↓State.setLink_still, ↓upd_still, ↓foldl_still, ↓ite_still, ↓ite_still2, ite_self]
    | (with_reducible refine (foldl_still _ _ _ (fun s a => ?_)).trans ?_)
    | (with_reducible refine pair_still ‹_ = (_, _)› ?_)
    | (with_reducible refine triple_still ‹_ = (_, _, _)› ?_)
    | split

theorem State.retire_still (s : State) (n : Nat) (ack : BitVec 24) : (State.retire s n ack).still = s.still := by
  unfold State.retire
  repeat' first
    | with_reducible rfl
    | simp only [↓State.returnPages_still, ↓State.setLink_still, ↓upd_still, ↓foldl_still, ↓ite_still, ↓ite_still2, ite_self]
    | (with_reducible refine (foldl_still _ _ _ (fun s a => ?_)).trans ?_)
    | (with_reducible refine pair_still ‹_ = (_, _)› ?_)
    | (with_reducible refine triple_still ‹_ = (_, _, _)› ?_)
    | split

theorem State.fanAck_still (s : State) (k m : Nat) (ack : BitVec 24) : (State.fanAck s k m ack).still = s.still := by
  unfold State.fanAck
  repeat' first
    | with_reducible rfl
    | simp only [↓State.retire_still, ↓State.setFan_still, ↓upd_still, ↓foldl_still, ↓ite_still, ↓ite_still2, ite_self]
    | (with_reducible refine (foldl_still _ _ _ (fun s a => ?_)).trans ?_)
    | (with_reducible refine pair_still ‹_ = (_, _)› ?_)
    | (with_reducible refine triple_still ‹_ = (_, _, _)› ?_)
    | split

theorem State.movePages_still (s : State) (k : Pool) (old new : Nat) : (State.movePages s k old new).still = s.still := by
  unfold State.movePages
  repeat' first
    | with_reducible rfl
    | simp only [↓State.allocate_still, ↓State.returnPages_still, ↓upd_still, ↓foldl_still, ↓ite_still, ↓ite_still2, ite_self]
    | (with_reducible refine (foldl_still _ _ _ (fun s a => ?_)).trans ?_)
    | (with_reducible refine pair_still ‹_ = (_, _)› ?_)
    | (with_reducible refine triple_still ‹_ = (_, _, _)› ?_)
    | split

theorem State.reform_still (s : State) (n : Nat) (e : BitVec 24) : (State.reform s n e).still = s.still := by
  unfold State.reform
  repeat' first
    | with_reducible rfl
    | simp only [↓State.bump_still, ↓State.fillStream_still, ↓State.movePages_still, ↓State.padStream_still, ↓State.setLink_still, ↓upd_still, ↓foldl_still, ↓ite_still, ↓ite_still2, ite_self]
    | (with_reducible refine (foldl_still _ _ _ (fun s a => ?_)).trans ?_)
    | (with_reducible refine pair_still ‹_ = (_, _)› ?_)
    | (with_reducible refine triple_still ‹_ = (_, _, _)› ?_)
    | split

theorem State.freeze_still (s : State) (p : Nat) : (State.freeze s p).still = s.still := by
  unfold State.freeze
  repeat' first
    | with_reducible rfl
    | simp only [↓State.setLink_still, ↓upd_still, ↓foldl_still, ↓ite_still, ↓ite_still2, ite_self]
    | (with_reducible refine (foldl_still _ _ _ (fun s a => ?_)).trans ?_)
    | (with_reducible refine pair_still ‹_ = (_, _)› ?_)
    | (with_reducible refine triple_still ‹_ = (_, _, _)› ?_)
    | split

theorem State.thaw_still (s : State) (p : Nat) : (State.thaw s p).still = s.still := by
  unfold State.thaw
  repeat' first
    | with_reducible rfl
    | simp only [↓State.setLink_still, ↓upd_still, ↓foldl_still, ↓ite_still, ↓ite_still2, ite_self]
    | (with_reducible refine (foldl_still _ _ _ (fun s a => ?_)).trans ?_)
    | (with_reducible refine pair_still ‹_ = (_, _)› ?_)
    | (with_reducible refine triple_still ‹_ = (_, _, _)› ?_)
    | split

theorem State.startPause_still (s : State) (p bit reason : Nat) : (State.startPause s p bit reason).still = s.still := by
  unfold State.startPause
  repeat' first
    | with_reducible rfl
    | simp only [↓State.freeze_still, ↓State.setLink_still, ↓State.wrBit_still, ↓upd_still, ↓foldl_still, ↓ite_still, ↓ite_still2, ite_self]
    | (with_reducible refine (foldl_still _ _ _ (fun s a => ?_)).trans ?_)
    | (with_reducible refine pair_still ‹_ = (_, _)› ?_)
    | (with_reducible refine triple_still ‹_ = (_, _, _)› ?_)
    | split

theorem State.endPause_still (s : State) (p bit : Nat) : (State.endPause s p bit).still = s.still := by
  unfold State.endPause
  repeat' first
    | with_reducible rfl
    | simp only [↓State.queueWords_still, ↓State.setLink_still, ↓State.thaw_still, ↓State.wrBit_still, ↓upd_still, ↓foldl_still, ↓ite_still, ↓ite_still2, ite_self]
    | (with_reducible refine (foldl_still _ _ _ (fun s a => ?_)).trans ?_)
    | (with_reducible refine pair_still ‹_ = (_, _)› ?_)
    | (with_reducible refine triple_still ‹_ = (_, _, _)› ?_)
    | split

theorem State.peerResumes_still (s : State) (p : Nat) : (State.peerResumes s p).still = s.still := by
  unfold State.peerResumes
  repeat' first
    | with_reducible rfl
    | simp only [↓State.setLink_still, ↓State.thaw_still, ↓State.wrBit_still, ↓upd_still, ↓foldl_still, ↓ite_still, ↓ite_still2, ite_self]
    | (with_reducible refine (foldl_still _ _ _ (fun s a => ?_)).trans ?_)
    | (with_reducible refine pair_still ‹_ = (_, _)› ?_)
    | (with_reducible refine triple_still ‹_ = (_, _, _)› ?_)
    | split

theorem State.setSteer_still (s : State) (e c : Nat) : (State.setSteer s e c).still = s.still := by
  unfold State.setSteer
  repeat' first
    | with_reducible rfl
    | simp only [↓State.wr_still, ↓upd_still, ↓foldl_still, ↓ite_still, ↓ite_still2, ite_self]
    | (with_reducible refine (foldl_still _ _ _ (fun s a => ?_)).trans ?_)
    | (with_reducible refine pair_still ‹_ = (_, _)› ?_)
    | (with_reducible refine triple_still ‹_ = (_, _, _)› ?_)
    | split

theorem State.sendReq_still (s : State) (c : Nat) (r : HubReq) : (State.sendReq s c r).still = s.still := by
  unfold State.sendReq
  repeat' first
    | with_reducible rfl
    | simp only [↓State.setCulv_still, ↓upd_still, ↓foldl_still, ↓ite_still, ↓ite_still2, ite_self]
    | (with_reducible refine (foldl_still _ _ _ (fun s a => ?_)).trans ?_)
    | (with_reducible refine pair_still ‹_ = (_, _)› ?_)
    | (with_reducible refine triple_still ‹_ = (_, _, _)› ?_)
    | split

theorem State.formOne_still (s : State) (c : Nat) : (State.formOne s c).still = s.still := by
  unfold State.formOne
  repeat' first
    | with_reducible rfl
    | simp only [↓State.setCulv_still, ↓upd_still, ↓foldl_still, ↓ite_still, ↓ite_still2, ite_self]
    | (with_reducible refine (foldl_still _ _ _ (fun s a => ?_)).trans ?_)
    | (with_reducible refine pair_still ‹_ = (_, _)› ?_)
    | (with_reducible refine triple_still ‹_ = (_, _, _)› ?_)
    | split

theorem State.form_still (s : State) : (State.form s).still = s.still := by
  unfold State.form
  repeat' first
    | with_reducible rfl
    | simp only [↓State.formOne_still, ↓upd_still, ↓foldl_still, ↓ite_still, ↓ite_still2, ite_self]
    | (with_reducible refine (foldl_still _ _ _ (fun s a => ?_)).trans ?_)
    | (with_reducible refine pair_still ‹_ = (_, _)› ?_)
    | (with_reducible refine triple_still ‹_ = (_, _, _)› ?_)
    | split

theorem State.unreachable_still (s : State) (c : Nat) (r : HubReq) : (State.unreachable s c r).still = s.still := by
  unfold State.unreachable
  repeat' first
    | with_reducible rfl
    | simp only [↓State.bump_still, ↓State.raise1_still, ↓upd_still, ↓foldl_still, ↓ite_still, ↓ite_still2, ite_self]
    | (with_reducible refine (foldl_still _ _ _ (fun s a => ?_)).trans ?_)
    | (with_reducible refine pair_still ‹_ = (_, _)› ?_)
    | (with_reducible refine triple_still ‹_ = (_, _, _)› ?_)
    | split

theorem State.keepWaiting_still (s : State) (r : HubReq) : (State.keepWaiting s r).still = s.still := by
  unfold State.keepWaiting
  repeat' first
    | with_reducible rfl
    | simp only [↓upd_still, ↓foldl_still, ↓ite_still, ↓ite_still2, ite_self]
    | (with_reducible refine (foldl_still _ _ _ (fun s a => ?_)).trans ?_)
    | (with_reducible refine pair_still ‹_ = (_, _)› ?_)
    | (with_reducible refine triple_still ‹_ = (_, _, _)› ?_)
    | split

theorem State.issue_still (s : State) (r : HubReq) : (State.issue s r).still = s.still := by
  unfold State.issue
  repeat' first
    | with_reducible rfl
    | simp only [↓State.keepWaiting_still, ↓State.sendReq_still, ↓State.unreachable_still, ↓upd_still, ↓foldl_still, ↓ite_still, ↓ite_still2, ite_self]
    | (with_reducible refine (foldl_still _ _ _ (fun s a => ?_)).trans ?_)
    | (with_reducible refine pair_still ‹_ = (_, _)› ?_)
    | (with_reducible refine triple_still ‹_ = (_, _, _)› ?_)
    | split

theorem State.hubRead_still (s : State) (a len : Nat) (purpose : Nat → Purpose) : (State.hubRead s a len purpose).still = s.still := by
  unfold State.hubRead
  repeat' first
    | with_reducible rfl
    | simp only [↓State.form_still, ↓State.issue_still, ↓upd_still, ↓foldl_still, ↓ite_still, ↓ite_still2, ite_self]
    | (with_reducible refine (foldl_still _ _ _ (fun s a => ?_)).trans ?_)
    | (with_reducible refine pair_still ‹_ = (_, _)› ?_)
    | (with_reducible refine triple_still ‹_ = (_, _, _)› ?_)
    | split

theorem State.hubWriteLost_still (s : State) (a : Nat) (bs : List Byte) (pages : List Nat) (purpose : Purpose) : (State.hubWriteLost s a bs pages purpose).still = s.still := by
  unfold State.hubWriteLost
  repeat' first
    | with_reducible rfl
    | simp only [↓State.form_still, ↓State.issue_still, ↓upd_still, ↓foldl_still, ↓ite_still, ↓ite_still2, ite_self]
    | (with_reducible refine (foldl_still _ _ _ (fun s a => ?_)).trans ?_)
    | (with_reducible refine pair_still ‹_ = (_, _)› ?_)
    | (with_reducible refine triple_still ‹_ = (_, _, _)› ?_)
    | split

theorem State.hubWrite_still (s : State) (a : Nat) (bs : List Byte) (poison : Bool) (purpose : Purpose) : (State.hubWrite s a bs poison purpose).still = s.still := by
  unfold State.hubWrite
  repeat' first
    | with_reducible rfl
    | simp only [↓State.form_still, ↓State.issue_still, ↓upd_still, ↓foldl_still, ↓ite_still, ↓ite_still2, ite_self]
    | (with_reducible refine (foldl_still _ _ _ (fun s a => ?_)).trans ?_)
    | (with_reducible refine pair_still ‹_ = (_, _)› ?_)
    | (with_reducible refine triple_still ‹_ = (_, _, _)› ?_)
    | split

theorem State.flushWaiting_still (s : State) : (State.flushWaiting s).still = s.still := by
  unfold State.flushWaiting
  repeat' first
    | with_reducible rfl
    | simp only [↓State.form_still, ↓State.issue_still, ↓upd_still, ↓foldl_still, ↓ite_still, ↓ite_still2, ite_self]
    | (with_reducible refine (foldl_still _ _ _ (fun s a => ?_)).trans ?_)
    | (with_reducible refine pair_still ‹_ = (_, _)› ?_)
    | (with_reducible refine triple_still ‹_ = (_, _, _)› ?_)
    | split

theorem State.takeAck_still (s : State) (c : Nat) (ack : BitVec 12) : (State.takeAck s c ack).still = s.still := by
  unfold State.takeAck
  repeat' first
    | with_reducible rfl
    | simp only [↓State.setCulv_still, ↓upd_still, ↓foldl_still, ↓ite_still, ↓ite_still2, ite_self]
    | (with_reducible refine (foldl_still _ _ _ (fun s a => ?_)).trans ?_)
    | (with_reducible refine pair_still ‹_ = (_, _)› ?_)
    | (with_reducible refine triple_still ‹_ = (_, _, _)› ?_)
    | split

theorem State.culvTo_still (s : State) (c st : Nat) : (State.culvTo s c st).still = s.still := by
  unfold State.culvTo
  repeat' first
    | with_reducible rfl
    | simp only [↓State.setCulv_still, ↓State.wr_still, ↓upd_still, ↓foldl_still, ↓ite_still, ↓ite_still2, ite_self]
    | (with_reducible refine (foldl_still _ _ _ (fun s a => ?_)).trans ?_)
    | (with_reducible refine pair_still ‹_ = (_, _)› ?_)
    | (with_reducible refine triple_still ‹_ = (_, _, _)› ?_)
    | split

theorem State.culvOffline_still (s : State) (c reason : Nat) (code : ErrCode) (extra : Nat) : (State.culvOffline s c reason code extra).still = s.still := by
  unfold State.culvOffline
  repeat' first
    | with_reducible rfl
    | simp only [↓State.culvTo_still, ↓State.raise1_still, ↓State.wr_still, ↓upd_still, ↓foldl_still, ↓ite_still, ↓ite_still2, ite_self]
    | (with_reducible refine (foldl_still _ _ _ (fun s a => ?_)).trans ?_)
    | (with_reducible refine pair_still ‹_ = (_, _)› ?_)
    | (with_reducible refine triple_still ‹_ = (_, _, _)› ?_)
    | split

theorem State.trainFail_still (s : State) (c reason extra : Nat) : (State.trainFail s c reason extra).still = s.still := by
  unfold State.trainFail
  repeat' first
    | with_reducible rfl
    | simp only [↓State.bump_still, ↓State.culvOffline_still, ↓upd_still, ↓foldl_still, ↓ite_still, ↓ite_still2, ite_self]
    | (with_reducible refine (foldl_still _ _ _ (fun s a => ?_)).trans ?_)
    | (with_reducible refine pair_still ‹_ = (_, _)› ?_)
    | (with_reducible refine triple_still ‹_ = (_, _, _)› ?_)
    | split

theorem State.culvProtocol_still (s : State) (c : Nat) : (State.culvProtocol s c).still = s.still := by
  unfold State.culvProtocol
  repeat' first
    | with_reducible rfl
    | simp only [↓State.culvOffline_still, ↓upd_still, ↓foldl_still, ↓ite_still, ↓ite_still2, ite_self]
    | (with_reducible refine (foldl_still _ _ _ (fun s a => ?_)).trans ?_)
    | (with_reducible refine pair_still ‹_ = (_, _)› ?_)
    | (with_reducible refine triple_still ‹_ = (_, _, _)› ?_)
    | split

theorem State.dropLines_still (s : State) (p : Nat → Bool) : (State.dropLines s p).still = s.still := by
  unfold State.dropLines
  repeat' first
    | with_reducible rfl
    | simp only [↓upd_still, ↓foldl_still, ↓ite_still, ↓ite_still2, ite_self]
    | (with_reducible refine (foldl_still _ _ _ (fun s a => ?_)).trans ?_)
    | (with_reducible refine pair_still ‹_ = (_, _)› ?_)
    | (with_reducible refine triple_still ‹_ = (_, _, _)› ?_)
    | split

theorem State.cacheInsert_still (s : State) (line : Nat) (ws : List DWord) : (State.cacheInsert s line ws).still = s.still := by
  unfold State.cacheInsert
  repeat' first
    | with_reducible rfl
    | simp only [↓upd_still, ↓foldl_still, ↓ite_still, ↓ite_still2, ite_self]
    | (with_reducible refine (foldl_still _ _ _ (fun s a => ?_)).trans ?_)
    | (with_reducible refine pair_still ‹_ = (_, _)› ?_)
    | (with_reducible refine triple_still ‹_ = (_, _, _)› ?_)
    | split

theorem State.look_still (s : State) (a : Nat) : (State.look s a).2.still = s.still := by
  unfold State.look
  repeat' first
    | with_reducible rfl
    | simp only [↓State.bump_still, ↓State.hubRead_still, ↓upd_still, ↓foldl_still, ↓ite_still, ↓ite_still2, ite_self]
    | (with_reducible refine (foldl_still _ _ _ (fun s a => ?_)).trans ?_)
    | (with_reducible refine pair_still ‹_ = (_, _)› ?_)
    | (with_reducible refine triple_still ‹_ = (_, _, _)› ?_)
    | split

theorem State.lookNode_still (s : State) (k : Nat) : (State.lookNode s k).2.still = s.still := by
  unfold State.lookNode
  repeat' first
    | with_reducible rfl
    | simp only [↓State.look_still, ↓upd_still, ↓foldl_still, ↓ite_still, ↓ite_still2, ite_self]
    | (with_reducible refine (foldl_still _ _ _ (fun s a => ?_)).trans ?_)
    | (with_reducible refine pair_still ‹_ = (_, _)› ?_)
    | (with_reducible refine triple_still ‹_ = (_, _, _)› ?_)
    | split

theorem State.buoySet_still (s : State) (k : Nat) (v : DWord) : (State.buoySet s k v).still = s.still := by
  unfold State.buoySet
  repeat' first
    | with_reducible rfl
    | simp only [↓State.setBuoyVal_still, ↓upd_still, ↓foldl_still, ↓ite_still, ↓ite_still2, ite_self]
    | (with_reducible refine (foldl_still _ _ _ (fun s a => ?_)).trans ?_)
    | (with_reducible refine pair_still ‹_ = (_, _)› ?_)
    | (with_reducible refine triple_still ‹_ = (_, _, _)› ?_)
    | split

theorem State.buoyOp_still (s : State) (k op : Nat) (v : DWord) : (State.buoyOp s k op v).still = s.still := by
  unfold State.buoyOp
  repeat' first
    | with_reducible rfl
    | simp only [↓State.buoySet_still, ↓upd_still, ↓foldl_still, ↓ite_still, ↓ite_still2, ite_self]
    | (with_reducible refine (foldl_still _ _ _ (fun s a => ?_)).trans ?_)
    | (with_reducible refine pair_still ‹_ = (_, _)› ?_)
    | (with_reducible refine triple_still ‹_ = (_, _, _)› ?_)
    | split

theorem State.setCmd_still (s : State) (c : Cmd) : (State.setCmd s c).still = s.still := by
  unfold State.setCmd
  repeat' first
    | with_reducible rfl
    | simp only [↓upd_still, ↓foldl_still, ↓ite_still, ↓ite_still2, ite_self]
    | (with_reducible refine (foldl_still _ _ _ (fun s a => ?_)).trans ?_)
    | (with_reducible refine pair_still ‹_ = (_, _)› ?_)
    | (with_reducible refine triple_still ‹_ = (_, _, _)› ?_)
    | split

theorem State.writeCompletion_still (s : State) (c : Cmd) (status detail : Nat) : (State.writeCompletion s c status detail).still = s.still := by
  unfold State.writeCompletion
  repeat' first
    | with_reducible rfl
    | simp only [↓State.hubWrite_still, ↓State.setOq_still, ↓upd_still, ↓foldl_still, ↓ite_still, ↓ite_still2, ite_self]
    | (with_reducible refine (foldl_still _ _ _ (fun s a => ?_)).trans ?_)
    | (with_reducible refine pair_still ‹_ = (_, _)› ?_)
    | (with_reducible refine triple_still ‹_ = (_, _, _)› ?_)
    | split

theorem State.stepTail_still (s : State) (q : Nat) (a0 : Nat) : (State.stepTail s q a0).still = s.still := by
  induction a0 generalizing s q with
  | zero =>
    unfold State.stepTail
    repeat' first
      | with_reducible rfl
      | simp only [↓State.wr_still, ↓upd_still, ↓foldl_still, ↓ite_still, ↓ite_still2, ite_self]
      | (with_reducible refine (foldl_still _ _ _ (fun s a => ?_)).trans ?_)
      | (with_reducible refine pair_still ‹_ = (_, _)› ?_)
      | split
  | succ k ih =>
    unfold State.stepTail
    repeat' first
      | with_reducible rfl
      | simp only [↓State.wr_still, ↓upd_still, ↓foldl_still, ↓ite_still, ↓ite_still2, ite_self, ↓ih]
      | (with_reducible refine (foldl_still _ _ _ (fun s a => ?_)).trans ?_)
      | (with_reducible refine pair_still ‹_ = (_, _)› ?_)
      | split

theorem State.completionDone_still (s : State) (q key : Nat) : (State.completionDone s q key).still = s.still := by
  unfold State.completionDone
  repeat' first
    | with_reducible rfl
    | simp only [↓State.setOq_still, ↓State.stepTail_still, ↓upd_still, ↓foldl_still, ↓ite_still, ↓ite_still2, ite_self]
    | (with_reducible refine (foldl_still _ _ _ (fun s a => ?_)).trans ?_)
    | (with_reducible refine pair_still ‹_ = (_, _)› ?_)
    | (with_reducible refine triple_still ‹_ = (_, _, _)› ?_)
    | split

theorem State.finish_still (s : State) (c : Cmd) (status detail : Nat) : (State.finish s c status detail).still = s.still := by
  unfold State.finish
  repeat' first
    | with_reducible rfl
    | simp only [↓State.bump_still, ↓State.buoyOp_still, ↓State.raise1_still, ↓State.setOq_still, ↓State.writeCompletion_still, ↓upd_still, ↓foldl_still, ↓ite_still, ↓ite_still2, ite_self]
    | (with_reducible refine (foldl_still _ _ _ (fun s a => ?_)).trans ?_)
    | (with_reducible refine pair_still ‹_ = (_, _)› ?_)
    | (with_reducible refine triple_still ‹_ = (_, _, _)› ?_)
    | split

theorem State.endRun_still (s : State) : (State.endRun s).still = s.still := by
  unfold State.endRun
  repeat' first
    | with_reducible rfl
    | simp only [↓State.finish_still, ↓State.wr_still, ↓upd_still, ↓foldl_still, ↓ite_still, ↓ite_still2, ite_self]
    | (with_reducible refine (foldl_still _ _ _ (fun s a => ?_)).trans ?_)
    | (with_reducible refine pair_still ‹_ = (_, _)› ?_)
    | (with_reducible refine triple_still ‹_ = (_, _, _)› ?_)
    | split

theorem State.transferEnds_still (s : State) (c : Cmd) (status detail : Nat) : (State.transferEnds s c status detail).still = s.still := by
  unfold State.transferEnds
  repeat' first
    | with_reducible rfl
    | simp only [↓State.issue_still, ↓State.wr_still, ↓upd_still, ↓foldl_still, ↓ite_still, ↓ite_still2, ite_self]
    | (with_reducible refine (foldl_still _ _ _ (fun s a => ?_)).trans ?_)
    | (with_reducible refine pair_still ‹_ = (_, _)› ?_)
    | (with_reducible refine triple_still ‹_ = (_, _, _)› ?_)
    | split

theorem State.discardWaiting_still (s : State) (slot : Nat) : (State.discardWaiting s slot).still = s.still := by
  unfold State.discardWaiting
  repeat' first
    | with_reducible rfl
    | simp only [↓State.setOq_still, ↓upd_still, ↓foldl_still, ↓ite_still, ↓ite_still2, ite_self]
    | (with_reducible refine (foldl_still _ _ _ (fun s a => ?_)).trans ?_)
    | (with_reducible refine pair_still ‹_ = (_, _)› ?_)
    | (with_reducible refine triple_still ‹_ = (_, _, _)› ?_)
    | split

theorem State.complete_still (s : State) (id status detail : Nat) : (State.complete s id status detail).still = s.still := by
  unfold State.complete
  repeat' first
    | with_reducible rfl
    | simp only [↓State.discardWaiting_still, ↓State.endRun_still, ↓State.finish_still, ↓State.transferEnds_still, ↓upd_still, ↓foldl_still, ↓ite_still, ↓ite_still2, ite_self]
    | (with_reducible refine (foldl_still _ _ _ (fun s a => ?_)).trans ?_)
    | (with_reducible refine pair_still ‹_ = (_, _)› ?_)
    | (with_reducible refine triple_still ‹_ = (_, _, _)› ?_)
    | split

theorem State.setJob_still (s : State) (j : Job) : (State.setJob s j).still = s.still := by
  unfold State.setJob
  repeat' first
    | with_reducible rfl
    | simp only [↓upd_still, ↓foldl_still, ↓ite_still, ↓ite_still2, ite_self]
    | (with_reducible refine (foldl_still _ _ _ (fun s a => ?_)).trans ?_)
    | (with_reducible refine pair_still ‹_ = (_, _)› ?_)
    | (with_reducible refine triple_still ‹_ = (_, _, _)› ?_)
    | split

theorem State.dropJob_still (s : State) (id : Nat) : (State.dropJob s id).still = s.still := by
  unfold State.dropJob
  repeat' first
    | with_reducible rfl
    | simp only [↓upd_still, ↓foldl_still, ↓ite_still, ↓ite_still2, ite_self]
    | (with_reducible refine (foldl_still _ _ _ (fun s a => ?_)).trans ?_)
    | (with_reducible refine pair_still ‹_ = (_, _)› ?_)
    | (with_reducible refine triple_still ‹_ = (_, _, _)› ?_)
    | split

theorem State.addJob_still (s : State) (j : Job) : (State.addJob s j).still = s.still := by
  unfold State.addJob
  repeat' first
    | with_reducible rfl
    | simp only [↓upd_still, ↓foldl_still, ↓ite_still, ↓ite_still2, ite_self]
    | (with_reducible refine (foldl_still _ _ _ (fun s a => ?_)).trans ?_)
    | (with_reducible refine pair_still ‹_ = (_, _)› ?_)
    | (with_reducible refine triple_still ‹_ = (_, _, _)› ?_)
    | split

theorem State.readMore_still (s : State) (j : Job) : (State.readMore s j).still = s.still := by
  unfold State.readMore
  repeat' first
    | with_reducible rfl
    | simp only [↓State.hubRead_still, ↓State.setJob_still, ↓upd_still, ↓foldl_still, ↓ite_still, ↓ite_still2, ite_self]
    | (with_reducible refine (foldl_still _ _ _ (fun s a => ?_)).trans ?_)
    | (with_reducible refine pair_still ‹_ = (_, _)› ?_)
    | (with_reducible refine triple_still ‹_ = (_, _, _)› ?_)
    | split

theorem State.awaitAnswer_still (s : State) (j : Job) (answers cls : Nat) : (State.awaitAnswer s j answers cls).still = s.still := by
  unfold State.awaitAnswer
  repeat' first
    | with_reducible rfl
    | simp only [↓State.setJob_still, ↓State.setLink_still, ↓upd_still, ↓foldl_still, ↓ite_still, ↓ite_still2, ite_self]
    | (with_reducible refine (foldl_still _ _ _ (fun s a => ?_)).trans ?_)
    | (with_reducible refine pair_still ‹_ = (_, _)› ?_)
    | (with_reducible refine triple_still ‹_ = (_, _, _)› ?_)
    | split

theorem State.tryEnd_still (s : State) (id : Nat) : (State.tryEnd s id).still = s.still := by
  unfold State.tryEnd
  repeat' first
    | with_reducible rfl
    | simp only [↓State.complete_still, ↓upd_still, ↓foldl_still, ↓ite_still, ↓ite_still2, ite_self]
    | (with_reducible refine (foldl_still _ _ _ (fun s a => ?_)).trans ?_)
    | (with_reducible refine pair_still ‹_ = (_, _)› ?_)
    | (with_reducible refine triple_still ‹_ = (_, _, _)› ?_)
    | split

theorem State.transferDone_still (s : State) (id item st det : Nat) : (State.transferDone s id item st det).still = s.still := by
  unfold State.transferDone
  repeat' first
    | with_reducible rfl
    | simp only [↓State.setCmd_still, ↓State.tryEnd_still, ↓upd_still, ↓foldl_still, ↓ite_still, ↓ite_still2, ite_self]
    | (with_reducible refine (foldl_still _ _ _ (fun s a => ?_)).trans ?_)
    | (with_reducible refine pair_still ‹_ = (_, _)› ?_)
    | (with_reducible refine triple_still ‹_ = (_, _, _)› ?_)
    | split

theorem State.leaveQueues_still (s : State) (id : Nat) : (State.leaveQueues s id).still = s.still := by
  unfold State.leaveQueues
  repeat' first
    | with_reducible rfl
    | simp only [↓upd_still, ↓foldl_still, ↓ite_still, ↓ite_still2, ite_self]
    | (with_reducible refine (foldl_still _ _ _ (fun s a => ?_)).trans ?_)
    | (with_reducible refine pair_still ‹_ = (_, _)› ?_)
    | (with_reducible refine triple_still ‹_ = (_, _, _)› ?_)
    | split

theorem State.entryFails_still (s : State) (c : Cmd) (st det : Nat) : (State.entryFails s c st det).still = s.still := by
  unfold State.entryFails
  repeat' first
    | with_reducible rfl
    | simp only [↓State.leaveQueues_still, ↓State.setCmd_still, ↓State.tryEnd_still, ↓upd_still, ↓foldl_still, ↓ite_still, ↓ite_still2, ite_self]
    | (with_reducible refine (foldl_still _ _ _ (fun s a => ?_)).trans ?_)
    | (with_reducible refine pair_still ‹_ = (_, _)› ?_)
    | (with_reducible refine triple_still ‹_ = (_, _, _)› ?_)
    | split

theorem State.readEntry_still (s : State) (c : Cmd) : (State.readEntry s c).still = s.still := by
  unfold State.readEntry
  repeat' first
    | with_reducible rfl
    | simp only [↓State.hubRead_still, ↓upd_still, ↓foldl_still, ↓ite_still, ↓ite_still2, ite_self]
    | (with_reducible refine (foldl_still _ _ _ (fun s a => ?_)).trans ?_)
    | (with_reducible refine pair_still ‹_ = (_, _)› ?_)
    | (with_reducible refine triple_still ‹_ = (_, _, _)› ?_)
    | split

theorem State.nextEntry_still (s : State) (c : Cmd) : (State.nextEntry s c).still = s.still := by
  unfold State.nextEntry
  repeat' first
    | with_reducible rfl
    | simp only [↓State.leaveQueues_still, ↓State.readEntry_still, ↓State.setCmd_still, ↓State.tryEnd_still, ↓upd_still, ↓foldl_still, ↓ite_still, ↓ite_still2, ite_self]
    | (with_reducible refine (foldl_still _ _ _ (fun s a => ?_)).trans ?_)
    | (with_reducible refine pair_still ‹_ = (_, _)› ?_)
    | (with_reducible refine triple_still ‹_ = (_, _, _)› ?_)
    | split

theorem State.built_still (s : State) (j : Job) : (State.built s j).still = s.still := by
  unfold State.built
  repeat' first
    | with_reducible rfl
    | simp only [↓State.nextEntry_still, ↓State.setJob_still, ↓upd_still, ↓foldl_still, ↓ite_still, ↓ite_still2, ite_self]
    | (with_reducible refine (foldl_still _ _ _ (fun s a => ?_)).trans ?_)
    | (with_reducible refine pair_still ‹_ = (_, _)› ?_)
    | (with_reducible refine triple_still ‹_ = (_, _, _)› ?_)
    | split

theorem State.xferDone_still (s : State) (p status answers cls fetch det : Nat) : (State.xferDone s p status answers cls fetch det).still = s.still := by
  unfold State.xferDone
  repeat' first
    | with_reducible rfl
    | simp only [↓State.pushMsg_still, ↓upd_still, ↓foldl_still, ↓ite_still, ↓ite_still2, ite_self]
    | (with_reducible refine (foldl_still _ _ _ (fun s a => ?_)).trans ?_)
    | (with_reducible refine pair_still ‹_ = (_, _)› ?_)
    | (with_reducible refine triple_still ‹_ = (_, _, _)› ?_)
    | split

theorem State.sentAll_still (s : State) (j : Job) : (State.sentAll s j).still = s.still := by
  unfold State.sentAll
  repeat' first
    | with_reducible rfl
    | simp only [↓State.awaitAnswer_still, ↓State.built_still, ↓State.pushMsg_still, ↓upd_still, ↓foldl_still, ↓ite_still, ↓ite_still2, ite_self]
    | (with_reducible refine (foldl_still _ _ _ (fun s a => ?_)).trans ?_)
    | (with_reducible refine pair_still ‹_ = (_, _)› ?_)
    | (with_reducible refine triple_still ‹_ = (_, _, _)› ?_)
    | split

theorem State.emitSend_still (s : State) (j : Job) (bs : List Byte) : (State.emitSend s j bs).still = s.still := by
  unfold State.emitSend
  repeat' first
    | with_reducible rfl
    | simp only [↓State.pushMsg_still, ↓State.sentAll_still, ↓State.setJob_still, ↓upd_still, ↓foldl_still, ↓ite_still, ↓ite_still2, ite_self]
    | (with_reducible refine (foldl_still _ _ _ (fun s a => ?_)).trans ?_)
    | (with_reducible refine pair_still ‹_ = (_, _)› ?_)
    | (with_reducible refine triple_still ‹_ = (_, _, _)› ?_)
    | split

theorem State.emitAnswer_still (s : State) (j : Job) (id : Nat) (bs : List Byte) : (State.emitAnswer s j id bs).still = s.still := by
  unfold State.emitAnswer
  repeat' first
    | with_reducible rfl
    | simp only [↓State.dropJob_still, ↓State.pushMsg_still, ↓State.setJob_still, ↓upd_still, ↓foldl_still, ↓ite_still, ↓ite_still2, ite_self]
    | (with_reducible refine (foldl_still _ _ _ (fun s a => ?_)).trans ?_)
    | (with_reducible refine pair_still ‹_ = (_, _)› ?_)
    | (with_reducible refine triple_still ‹_ = (_, _, _)› ?_)
    | split

theorem State.emitBytes_still (s : State) (id : Nat) (a0 : Nat) : (State.emitBytes s id a0).still = s.still := by
  induction a0 generalizing s id with
  | zero =>
    unfold State.emitBytes
    repeat' first
      | with_reducible rfl
      | simp only [↓State.emitSend_still, ↓upd_still, ↓foldl_still, ↓ite_still, ↓ite_still2, ite_self]
      | (with_reducible refine (foldl_still _ _ _ (fun s a => ?_)).trans ?_)
      | (with_reducible refine pair_still ‹_ = (_, _)› ?_)
      | split
  | succ k ih =>
    unfold State.emitBytes
    repeat' first
      | with_reducible rfl
      | simp only [↓State.emitSend_still, ↓upd_still, ↓foldl_still, ↓ite_still, ↓ite_still2, ite_self, ↓ih]
      | (with_reducible refine (foldl_still _ _ _ (fun s a => ?_)).trans ?_)
      | (with_reducible refine pair_still ‹_ = (_, _)› ?_)
      | split

theorem State.setFetches_still (s : State) (p : Nat) (l : List Nat) : (State.setFetches s p l).still = s.still := by
  unfold State.setFetches
  repeat' first
    | with_reducible rfl
    | simp only [↓upd_still, ↓foldl_still, ↓ite_still, ↓ite_still2, ite_self]
    | (with_reducible refine (foldl_still _ _ _ (fun s a => ?_)).trans ?_)
    | (with_reducible refine pair_still ‹_ = (_, _)› ?_)
    | (with_reducible refine triple_still ‹_ = (_, _, _)› ?_)
    | split

theorem State.emitFetch_still (s : State) (j : Job) : (State.emitFetch s j).still = s.still := by
  unfold State.emitFetch
  repeat' first
    | with_reducible rfl
    | simp only [↓State.built_still, ↓State.pushMsg_still, ↓State.setFetches_still, ↓upd_still, ↓foldl_still, ↓ite_still, ↓ite_still2, ite_self]
    | (with_reducible refine (foldl_still _ _ _ (fun s a => ?_)).trans ?_)
    | (with_reducible refine pair_still ‹_ = (_, _)› ?_)
    | (with_reducible refine triple_still ‹_ = (_, _, _)› ?_)
    | split

theorem State.endFetch_still (s : State) (j : Job) : (State.endFetch s j).still = s.still := by
  unfold State.endFetch
  repeat' first
    | with_reducible rfl
    | simp only [↓State.setFetches_still, ↓upd_still, ↓foldl_still, ↓ite_still, ↓ite_still2, ite_self]
    | (with_reducible refine (foldl_still _ _ _ (fun s a => ?_)).trans ?_)
    | (with_reducible refine pair_still ‹_ = (_, _)› ?_)
    | (with_reducible refine triple_still ‹_ = (_, _, _)› ?_)
    | split

theorem State.emitBuoy_still (s : State) (j : Job) : (State.emitBuoy s j).still = s.still := by
  unfold State.emitBuoy
  repeat' first
    | with_reducible rfl
    | simp only [↓State.awaitAnswer_still, ↓State.dropJob_still, ↓State.pushMsg_still, ↓upd_still, ↓foldl_still, ↓ite_still, ↓ite_still2, ite_self]
    | (with_reducible refine (foldl_still _ _ _ (fun s a => ?_)).trans ?_)
    | (with_reducible refine pair_still ‹_ = (_, _)› ?_)
    | (with_reducible refine triple_still ‹_ = (_, _, _)› ?_)
    | split

theorem State.pump_still (s : State) (n c : Nat) (a0 : Nat) : (State.pump s n c a0).still = s.still := by
  induction a0 generalizing s n c with
  | zero =>
    unfold State.pump
    repeat' first
      | with_reducible rfl
      | simp only [↓State.buoyOp_still, ↓State.emitBuoy_still, ↓State.emitBytes_still, ↓State.emitFetch_still, ↓State.readMore_still, ↓upd_still, ↓foldl_still, ↓ite_still, ↓ite_still2, ite_self]
      | (with_reducible refine (foldl_still _ _ _ (fun s a => ?_)).trans ?_)
      | (with_reducible refine pair_still ‹_ = (_, _)› ?_)
      | split
  | succ k ih =>
    unfold State.pump
    repeat' first
      | with_reducible rfl
      | simp only [↓State.buoyOp_still, ↓State.emitBuoy_still, ↓State.emitBytes_still, ↓State.emitFetch_still, ↓State.readMore_still, ↓upd_still, ↓foldl_still, ↓ite_still, ↓ite_still2, ite_self, ↓ih]
      | (with_reducible refine (foldl_still _ _ _ (fun s a => ?_)).trans ?_)
      | (with_reducible refine pair_still ‹_ = (_, _)› ?_)
      | split

theorem State.pumpAll_still (s : State) : (State.pumpAll s).still = s.still := by
  unfold State.pumpAll
  repeat' first
    | with_reducible rfl
    | simp only [↓State.pump_still, ↓upd_still, ↓foldl_still, ↓ite_still, ↓ite_still2, ite_self]
    | (with_reducible refine (foldl_still _ _ _ (fun s a => ?_)).trans ?_)
    | (with_reducible refine pair_still ‹_ = (_, _)› ?_)
    | (with_reducible refine triple_still ‹_ = (_, _, _)› ?_)
    | split

theorem State.sendFails_still (s : State) (j : Job) (st det : Nat) : (State.sendFails s j st det).2.still = s.still := by
  unfold State.sendFails
  repeat' first
    | with_reducible rfl
    | simp only [↓State.awaitAnswer_still, ↓State.built_still, ↓State.dropJob_still, ↓State.pushMsg_still, ↓State.setJob_still, ↓upd_still, ↓foldl_still, ↓ite_still, ↓ite_still2, ite_self]
    | (with_reducible refine (foldl_still _ _ _ (fun s a => ?_)).trans ?_)
    | (with_reducible refine pair_still ‹_ = (_, _)› ?_)
    | (with_reducible refine triple_still ‹_ = (_, _, _)› ?_)
    | split

theorem State.enterBackwater_still (s : State) (c : Cmd) (n : Nat) : (State.enterBackwater s c n).still = s.still := by
  unfold State.enterBackwater
  repeat' first
    | with_reducible rfl
    | simp only [↓State.setCmd_still, ↓upd_still, ↓foldl_still, ↓ite_still, ↓ite_still2, ite_self]
    | (with_reducible refine (foldl_still _ _ _ (fun s a => ?_)).trans ?_)
    | (with_reducible refine pair_still ‹_ = (_, _)› ?_)
    | (with_reducible refine triple_still ‹_ = (_, _, _)› ?_)
    | split

theorem State.startEntry_still (s : State) (c : Cmd) (n : Nat) : (State.startEntry s c n).still = s.still := by
  unfold State.startEntry
  repeat' first
    | with_reducible rfl
    | simp only [↓State.addJob_still, ↓State.leaveQueues_still, ↓State.setCmd_still, ↓upd_still, ↓foldl_still, ↓ite_still, ↓ite_still2, ite_self]
    | (with_reducible refine (foldl_still _ _ _ (fun s a => ?_)).trans ?_)
    | (with_reducible refine pair_still ‹_ = (_, _)› ?_)
    | (with_reducible refine triple_still ‹_ = (_, _, _)› ?_)
    | split

theorem State.entryGo_still (s : State) (c : Cmd) : (State.entryGo s c).still = s.still := by
  unfold State.entryGo
  repeat' first
    | with_reducible rfl
    | simp only [↓State.enterBackwater_still, ↓State.entryFails_still, ↓State.leaveQueues_still, ↓State.lookNode_still, ↓State.startEntry_still, ↓upd_still, ↓foldl_still, ↓ite_still, ↓ite_still2, ite_self]
    | (with_reducible refine (foldl_still _ _ _ (fun s a => ?_)).trans ?_)
    | (with_reducible refine pair_still ‹_ = (_, _)› ?_)
    | (with_reducible refine triple_still ‹_ = (_, _, _)› ?_)
    | split

theorem State.startSimple_still (s : State) (c : Cmd) (n : Nat) : (State.startSimple s c n).still = s.still := by
  unfold State.startSimple
  repeat' first
    | with_reducible rfl
    | simp only [↓State.addJob_still, ↓State.buoyOp_still, ↓State.setCmd_still, ↓upd_still, ↓foldl_still, ↓ite_still, ↓ite_still2, ite_self]
    | (with_reducible refine (foldl_still _ _ _ (fun s a => ?_)).trans ?_)
    | (with_reducible refine pair_still ‹_ = (_, _)› ?_)
    | (with_reducible refine triple_still ‹_ = (_, _, _)› ?_)
    | split

theorem State.freeExtent_still (s : State) (id : Nat) : (State.freeExtent s id).still = s.still := by
  unfold State.freeExtent
  repeat' first
    | with_reducible rfl
    | simp only [↓State.returnPages_still, ↓State.setExtent_still, ↓upd_still, ↓foldl_still, ↓ite_still, ↓ite_still2, ite_self]
    | (with_reducible refine (foldl_still _ _ _ (fun s a => ?_)).trans ?_)
    | (with_reducible refine pair_still ‹_ = (_, _)› ?_)
    | (with_reducible refine triple_still ‹_ = (_, _, _)› ?_)
    | split

theorem State.retireExtent_still (s : State) (id : Nat) : (State.retireExtent s id).still = s.still := by
  unfold State.retireExtent
  repeat' first
    | with_reducible rfl
    | simp only [↓State.freeExtent_still, ↓State.retire_still, ↓State.setExtent_still, ↓upd_still, ↓foldl_still, ↓ite_still, ↓ite_still2, ite_self]
    | (with_reducible refine (foldl_still _ _ _ (fun s a => ?_)).trans ?_)
    | (with_reducible refine pair_still ‹_ = (_, _)› ?_)
    | (with_reducible refine triple_still ‹_ = (_, _, _)› ?_)
    | split

theorem State.retireWaiting_still (s : State) : (State.retireWaiting s).still = s.still := by
  unfold State.retireWaiting
  repeat' first
    | with_reducible rfl
    | simp only [↓State.freeExtent_still, ↓State.retire_still, ↓upd_still, ↓foldl_still, ↓ite_still, ↓ite_still2, ite_self]
    | (with_reducible refine (foldl_still _ _ _ (fun s a => ?_)).trans ?_)
    | (with_reducible refine pair_still ‹_ = (_, _)› ?_)
    | (with_reducible refine triple_still ‹_ = (_, _, _)› ?_)
    | split

theorem State.stashPage_still (s : State) (j : Job) (id : Nat) : (State.stashPage s j id).2.still = s.still := by
  unfold State.stashPage
  repeat' first
    | with_reducible rfl
    | simp only [↓State.allocate_still, ↓State.setExtent_still, ↓State.setJob_still, ↓upd_still, ↓foldl_still, ↓ite_still, ↓ite_still2, ite_self]
    | (with_reducible refine (foldl_still _ _ _ (fun s a => ?_)).trans ?_)
    | (with_reducible refine pair_still ‹_ = (_, _)› ?_)
    | (with_reducible refine triple_still ‹_ = (_, _, _)› ?_)
    | split

theorem State.stashGo_still (s : State) (jid : Nat) (a0 : Nat) : (State.stashGo s jid a0).still = s.still := by
  induction a0 generalizing s jid with
  | zero =>
    unfold State.stashGo
    repeat' first
      | with_reducible rfl
      | simp only [↓State.dropJob_still, ↓State.readMore_still, ↓State.retireExtent_still, ↓State.setExtent_still, ↓State.setJob_still, ↓State.stashPage_still, ↓upd_still, ↓foldl_still, ↓ite_still, ↓ite_still2, ite_self]
      | (with_reducible refine (foldl_still _ _ _ (fun s a => ?_)).trans ?_)
      | (with_reducible refine pair_still ‹_ = (_, _)› ?_)
      | split
  | succ k ih =>
    unfold State.stashGo
    repeat' first
      | with_reducible rfl
      | simp only [↓State.dropJob_still, ↓State.readMore_still, ↓State.retireExtent_still, ↓State.setExtent_still, ↓State.setJob_still, ↓State.stashPage_still, ↓upd_still, ↓foldl_still, ↓ite_still, ↓ite_still2, ite_self, ↓ih]
      | (with_reducible refine (foldl_still _ _ _ (fun s a => ?_)).trans ?_)
      | (with_reducible refine pair_still ‹_ = (_, _)› ?_)
      | split

theorem State.stashChunk_still (s : State) (j : Job) (id : Nat) (bs : List Byte) : (State.stashChunk s j id bs).still = s.still := by
  unfold State.stashChunk
  repeat' first
    | with_reducible rfl
    | simp only [↓State.bump_still, ↓State.setExtent_still, ↓State.setJob_still, ↓State.stashGo_still, ↓upd_still, ↓foldl_still, ↓ite_still, ↓ite_still2, ite_self]
    | (with_reducible refine (foldl_still _ _ _ (fun s a => ?_)).trans ?_)
    | (with_reducible refine pair_still ‹_ = (_, _)› ?_)
    | (with_reducible refine triple_still ‹_ = (_, _, _)› ?_)
    | split

theorem State.extentDone_still (s : State) (id : Nat) (clean : Bool) : (State.extentDone s id clean).still = s.still := by
  unfold State.extentDone
  repeat' first
    | with_reducible rfl
    | simp only [↓State.retireWaiting_still, ↓State.setExtent_still, ↓upd_still, ↓foldl_still, ↓ite_still, ↓ite_still2, ite_self]
    | (with_reducible refine (foldl_still _ _ _ (fun s a => ?_)).trans ?_)
    | (with_reducible refine pair_still ‹_ = (_, _)› ?_)
    | (with_reducible refine triple_still ‹_ = (_, _, _)› ?_)
    | split

theorem State.stagedUe_still (s : State) (id : Nat) (l : Nat × Nat) : (State.stagedUe s id l).still = s.still := by
  unfold State.stagedUe
  repeat' first
    | with_reducible rfl
    | simp only [↓State.pageUe_still, ↓State.raise1_still, ↓State.setExtent_still, ↓upd_still, ↓foldl_still, ↓ite_still, ↓ite_still2, ite_self]
    | (with_reducible refine (foldl_still _ _ _ (fun s a => ?_)).trans ?_)
    | (with_reducible refine pair_still ‹_ = (_, _)› ?_)
    | (with_reducible refine triple_still ‹_ = (_, _, _)› ?_)
    | split

theorem State.persistTo_still (s : State) (j : Job) (id : Nat) (n : Option Nat) (lost : List (Nat × Nat)) : (State.persistTo s j id n lost).still = s.still := by
  unfold State.persistTo
  repeat' first
    | with_reducible rfl
    | simp only [↓State.hubWriteLost_still, ↓State.setJob_still, ↓State.stagedUe_still, ↓upd_still, ↓foldl_still, ↓ite_still, ↓ite_still2, ite_self]
    | (with_reducible refine (foldl_still _ _ _ (fun s a => ?_)).trans ?_)
    | (with_reducible refine pair_still ‹_ = (_, _)› ?_)
    | (with_reducible refine triple_still ‹_ = (_, _, _)› ?_)
    | split

theorem State.encodeEnd_still (s : State) (j : Job) (id : Nat) (c : Cmd) (forced : Option Nat) (lost : List (Nat × Nat)) : (State.encodeEnd s j id c forced lost).still = s.still := by
  unfold State.encodeEnd
  repeat' first
    | with_reducible rfl
    | simp only [↓State.complete_still, ↓State.dropJob_still, ↓State.enterBackwater_still, ↓State.extentDone_still, ↓State.persistTo_still, ↓State.setCmd_still, ↓State.setExtent_still, ↓upd_still, ↓foldl_still, ↓ite_still, ↓ite_still2, ite_self]
    | (with_reducible refine (foldl_still _ _ _ (fun s a => ?_)).trans ?_)
    | (with_reducible refine pair_still ‹_ = (_, _)› ?_)
    | (with_reducible refine triple_still ‹_ = (_, _, _)› ?_)
    | split

theorem State.persistEnd_still (s : State) (j : Job) (id st det : Nat) : (State.persistEnd s j id st det).still = s.still := by
  unfold State.persistEnd
  repeat' first
    | with_reducible rfl
    | simp only [↓State.complete_still, ↓State.dropJob_still, ↓State.extentDone_still, ↓upd_still, ↓foldl_still, ↓ite_still, ↓ite_still2, ite_self]
    | (with_reducible refine (foldl_still _ _ _ (fun s a => ?_)).trans ?_)
    | (with_reducible refine pair_still ‹_ = (_, _)› ?_)
    | (with_reducible refine triple_still ‹_ = (_, _, _)› ?_)
    | split

theorem State.pageGone_still (s : State) (id k : Nat) : (State.pageGone s id k).still = s.still := by
  unfold State.pageGone
  repeat' first
    | with_reducible rfl
    | simp only [↓State.bump_still, ↓State.pageEnough_still, ↓State.retireWaiting_still, ↓State.returnPages_still, ↓State.setExtent_still, ↓upd_still, ↓foldl_still, ↓ite_still, ↓ite_still2, ite_self]
    | (with_reducible refine (foldl_still _ _ _ (fun s a => ?_)).trans ?_)
    | (with_reducible refine pair_still ‹_ = (_, _)› ?_)
    | (with_reducible refine triple_still ‹_ = (_, _, _)› ?_)
    | split

theorem State.pageOutEnd_still (s : State) (j : Job) (st : Nat) : (State.pageOutEnd s j st).still = s.still := by
  unfold State.pageOutEnd
  repeat' first
    | with_reducible rfl
    | simp only [↓State.dropJob_still, ↓State.pageGone_still, ↓State.raise1_still, ↓State.retireWaiting_still, ↓State.setExtent_still, ↓upd_still, ↓foldl_still, ↓ite_still, ↓ite_still2, ite_self]
    | (with_reducible refine (foldl_still _ _ _ (fun s a => ?_)).trans ?_)
    | (with_reducible refine pair_still ‹_ = (_, _)› ?_)
    | (with_reducible refine triple_still ‹_ = (_, _, _)› ?_)
    | split

theorem State.pageWrite_still (s : State) (id k : Nat) (poison : Bool) : (State.pageWrite s id k poison).still = s.still := by
  unfold State.pageWrite
  repeat' first
    | with_reducible rfl
    | simp only [↓State.addJob_still, ↓State.hubWrite_still, ↓State.lookNode_still, ↓State.raise1_still, ↓State.setExtent_still, ↓upd_still, ↓foldl_still, ↓ite_still, ↓ite_still2, ite_self]
    | (with_reducible refine (foldl_still _ _ _ (fun s a => ?_)).trans ?_)
    | (with_reducible refine pair_still ‹_ = (_, _)› ?_)
    | (with_reducible refine triple_still ‹_ = (_, _, _)› ?_)
    | split

theorem State.corrupt_still (s : State) (c : Cmd) : (State.corrupt s c).still = s.still := by
  unfold State.corrupt
  repeat' first
    | with_reducible rfl
    | simp only [↓State.bump_still, ↓State.complete_still, ↓State.raise1_still, ↓upd_still, ↓foldl_still, ↓ite_still, ↓ite_still2, ite_self]
    | (with_reducible refine (foldl_still _ _ _ (fun s a => ?_)).trans ?_)
    | (with_reducible refine pair_still ‹_ = (_, _)› ?_)
    | (with_reducible refine triple_still ‹_ = (_, _, _)› ?_)
    | split

theorem State.unstashEnd_still (s : State) (j : Job) (st det : Nat) : (State.unstashEnd s j st det).still = s.still := by
  unfold State.unstashEnd
  repeat' first
    | with_reducible rfl
    | simp only [↓State.complete_still, ↓State.dropJob_still, ↓State.retireExtent_still, ↓State.retireWaiting_still, ↓upd_still, ↓foldl_still, ↓ite_still, ↓ite_still2, ite_self]
    | (with_reducible refine (foldl_still _ _ _ (fun s a => ?_)).trans ?_)
    | (with_reducible refine pair_still ‹_ = (_, _)› ?_)
    | (with_reducible refine triple_still ‹_ = (_, _, _)› ?_)
    | split

theorem State.restoreRead_still (s : State) (j : Job) (remote : Bool) (tgt off len tc n : Nat) : (State.restoreRead s j remote tgt off len tc n).still = s.still := by
  unfold State.restoreRead
  repeat' first
    | with_reducible rfl
    | simp only [↓State.addJob_still, ↓State.hubRead_still, ↓upd_still, ↓foldl_still, ↓ite_still, ↓ite_still2, ite_self]
    | (with_reducible refine (foldl_still _ _ _ (fun s a => ?_)).trans ?_)
    | (with_reducible refine pair_still ‹_ = (_, _)› ?_)
    | (with_reducible refine triple_still ‹_ = (_, _, _)› ?_)
    | split

theorem State.restoreById_still (s : State) (j : Job) (id n : Nat) : (State.restoreById s j id n).still = s.still := by
  unfold State.restoreById
  repeat' first
    | with_reducible rfl
    | simp only [↓State.restoreRead_still, ↓State.setJob_still, ↓upd_still, ↓foldl_still, ↓ite_still, ↓ite_still2, ite_self]
    | (with_reducible refine (foldl_still _ _ _ (fun s a => ?_)).trans ?_)
    | (with_reducible refine pair_still ‹_ = (_, _)› ?_)
    | (with_reducible refine triple_still ‹_ = (_, _, _)› ?_)
    | split

theorem State.unstashGo_still (s : State) (j : Job) (c : Cmd) (forced : Option Nat) : (State.unstashGo s j c forced).still = s.still := by
  unfold State.unstashGo
  repeat' first
    | with_reducible rfl
    | simp only [↓State.complete_still, ↓State.corrupt_still, ↓State.dropJob_still, ↓State.enterBackwater_still, ↓State.lookNode_still, ↓State.restoreById_still, ↓State.restoreRead_still, ↓State.setCmd_still, ↓State.setJob_still, ↓upd_still, ↓foldl_still, ↓ite_still, ↓ite_still2, ite_self]
    | (with_reducible refine (foldl_still _ _ _ (fun s a => ?_)).trans ?_)
    | (with_reducible refine pair_still ‹_ = (_, _)› ?_)
    | (with_reducible refine triple_still ‹_ = (_, _, _)› ?_)
    | split

theorem State.restoreRest_still (s : State) (j : Job) (c : Cmd) : (State.restoreRest s j c).still = s.still := by
  unfold State.restoreRest
  repeat' first
    | with_reducible rfl
    | simp only [↓State.restoreRead_still, ↓State.setJob_still, ↓upd_still, ↓foldl_still, ↓ite_still, ↓ite_still2, ite_self]
    | (with_reducible refine (foldl_still _ _ _ (fun s a => ?_)).trans ?_)
    | (with_reducible refine pair_still ‹_ = (_, _)› ?_)
    | (with_reducible refine triple_still ‹_ = (_, _, _)› ?_)
    | split

theorem State.restorePiece_still (s : State) (jid off : Nat) (bs : List Byte) : (State.restorePiece s jid off bs).still = s.still := by
  unfold State.restorePiece
  repeat' first
    | with_reducible rfl
    | simp only [↓State.restoreRest_still, ↓State.setJob_still, ↓upd_still, ↓foldl_still, ↓ite_still, ↓ite_still2, ite_self]
    | (with_reducible refine (foldl_still _ _ _ (fun s a => ?_)).trans ?_)
    | (with_reducible refine pair_still ‹_ = (_, _)› ?_)
    | (with_reducible refine triple_still ‹_ = (_, _, _)› ?_)
    | split

theorem State.restoreUe_still (s : State) (jid id : Nat) (l : Nat × Nat) : (State.restoreUe s jid id l).still = s.still := by
  unfold State.restoreUe
  repeat' first
    | with_reducible rfl
    | simp only [↓State.lookNode_still, ↓State.pageUe_still, ↓State.restoreRead_still, ↓State.setExtent_still, ↓State.setJob_still, ↓State.stagedUe_still, ↓upd_still, ↓foldl_still, ↓ite_still, ↓ite_still2, ite_self]
    | (with_reducible refine (foldl_still _ _ _ (fun s a => ?_)).trans ?_)
    | (with_reducible refine pair_still ‹_ = (_, _)› ?_)
    | (with_reducible refine triple_still ‹_ = (_, _, _)› ?_)
    | split

theorem State.unstashCheck_still (s : State) (j : Job) (c : Cmd) : (State.unstashCheck s j c).still = s.still := by
  unfold State.unstashCheck
  repeat' first
    | with_reducible rfl
    | simp only [↓State.corrupt_still, ↓State.dropJob_still, ↓State.fresh_still, ↓State.hubWrite_still, ↓State.setJob_still, ↓State.unstashEnd_still, ↓upd_still, ↓foldl_still, ↓ite_still, ↓ite_still2, ite_self]
    | (with_reducible refine (foldl_still _ _ _ (fun s a => ?_)).trans ?_)
    | (with_reducible refine pair_still ‹_ = (_, _)› ?_)
    | (with_reducible refine triple_still ‹_ = (_, _, _)› ?_)
    | split

theorem State.unstashWritten_still (s : State) (j : Job) (st det : Nat) : (State.unstashWritten s j st det).still = s.still := by
  unfold State.unstashWritten
  repeat' first
    | with_reducible rfl
    | simp only [↓State.corrupt_still, ↓State.dropJob_still, ↓State.retireWaiting_still, ↓State.unstashEnd_still, ↓upd_still, ↓foldl_still, ↓ite_still, ↓ite_still2, ite_self]
    | (with_reducible refine (foldl_still _ _ _ (fun s a => ?_)).trans ?_)
    | (with_reducible refine pair_still ‹_ = (_, _)› ?_)
    | (with_reducible refine triple_still ‹_ = (_, _, _)› ?_)
    | split

theorem State.setRound_still (s : State) (x : Round) : (State.setRound s x).still = s.still := by
  unfold State.setRound
  repeat' first
    | with_reducible rfl
    | simp only [↓upd_still, ↓foldl_still, ↓ite_still, ↓ite_still2, ite_self]
    | (with_reducible refine (foldl_still _ _ _ (fun s a => ?_)).trans ?_)
    | (with_reducible refine pair_still ‹_ = (_, _)› ?_)
    | (with_reducible refine triple_still ‹_ = (_, _, _)› ?_)
    | split

theorem State.openRound_still (s : State) (r : Nat) : (State.openRound s r).2.still = s.still := by
  unfold State.openRound
  repeat' first
    | with_reducible rfl
    | simp only [↓State.allocate_still, ↓State.setRound_still, ↓upd_still, ↓foldl_still, ↓ite_still, ↓ite_still2, ite_self]
    | (with_reducible refine (foldl_still _ _ _ (fun s a => ?_)).trans ?_)
    | (with_reducible refine pair_still ‹_ = (_, _)› ?_)
    | (with_reducible refine triple_still ‹_ = (_, _, _)› ?_)
    | split

theorem State.closeRound_still (s : State) (r : Nat) : (State.closeRound s r).still = s.still := by
  unfold State.closeRound
  repeat' first
    | with_reducible rfl
    | simp only [↓State.returnPages_still, ↓upd_still, ↓foldl_still, ↓ite_still, ↓ite_still2, ite_self]
    | (with_reducible refine (foldl_still _ _ _ (fun s a => ?_)).trans ?_)
    | (with_reducible refine pair_still ‹_ = (_, _)› ?_)
    | (with_reducible refine triple_still ‹_ = (_, _, _)› ?_)
    | split

theorem State.stray_still (s : State) (r : Nat) : (State.stray s r).still = s.still := by
  unfold State.stray
  repeat' first
    | with_reducible rfl
    | simp only [↓State.raise1_still, ↓upd_still, ↓foldl_still, ↓ite_still, ↓ite_still2, ite_self]
    | (with_reducible refine (foldl_still _ _ _ (fun s a => ?_)).trans ?_)
    | (with_reducible refine pair_still ‹_ = (_, _)› ?_)
    | (with_reducible refine triple_still ‹_ = (_, _, _)› ?_)
    | split

theorem State.addImage_still (s : State) (r node : Nat) (a : Accum) : (State.addImage s r node a).still = s.still := by
  unfold State.addImage
  repeat' first
    | with_reducible rfl
    | simp only [↓State.setRound_still, ↓State.stray_still, ↓upd_still, ↓foldl_still, ↓ite_still, ↓ite_still2, ite_self]
    | (with_reducible refine (foldl_still _ _ _ (fun s a => ?_)).trans ?_)
    | (with_reducible refine pair_still ‹_ = (_, _)› ?_)
    | (with_reducible refine triple_still ‹_ = (_, _, _)› ?_)
    | split

theorem State.setTree_still (s : State) (r : Nat) (ws : List DWord) : (State.setTree s r ws).still = s.still := by
  unfold State.setTree
  repeat' first
    | with_reducible rfl
    | simp only [↓State.addImage_still, ↓State.setRound_still, ↓upd_still, ↓foldl_still, ↓ite_still, ↓ite_still2, ite_self]
    | (with_reducible refine (foldl_still _ _ _ (fun s a => ?_)).trans ?_)
    | (with_reducible refine pair_still ‹_ = (_, _)› ?_)
    | (with_reducible refine triple_still ‹_ = (_, _, _)› ?_)
    | split

theorem State.reduceTaken_still (s : State) (c : Cmd) : (State.reduceTaken s c).still = s.still := by
  unfold State.reduceTaken
  repeat' first
    | with_reducible rfl
    | simp only [↓State.setRound_still, ↓State.setTree_still, ↓upd_still, ↓foldl_still, ↓ite_still, ↓ite_still2, ite_self]
    | (with_reducible refine (foldl_still _ _ _ (fun s a => ?_)).trans ?_)
    | (with_reducible refine pair_still ‹_ = (_, _)› ?_)
    | (with_reducible refine triple_still ‹_ = (_, _, _)› ?_)
    | split

theorem State.reduceGo_still (s : State) (j : Job) (r : Nat) : (State.reduceGo s j r).still = s.still := by
  unfold State.reduceGo
  repeat' first
    | with_reducible rfl
    | simp only [↓State.dropJob_still, ↓State.openRound_still, ↓State.readMore_still, ↓State.setJob_still, ↓State.setRound_still, ↓upd_still, ↓foldl_still, ↓ite_still, ↓ite_still2, ite_self]
    | (with_reducible refine (foldl_still _ _ _ (fun s a => ?_)).trans ?_)
    | (with_reducible refine pair_still ‹_ = (_, _)› ?_)
    | (with_reducible refine triple_still ‹_ = (_, _, _)› ?_)
    | split

theorem State.reduceChunk_still (s : State) (j : Job) (r : Nat) (bs : List Byte) : (State.reduceChunk s j r bs).still = s.still := by
  unfold State.reduceChunk
  repeat' first
    | with_reducible rfl
    | simp only [↓State.dropJob_still, ↓State.reduceGo_still, ↓State.setJob_still, ↓State.setRound_still, ↓upd_still, ↓foldl_still, ↓ite_still, ↓ite_still2, ite_self]
    | (with_reducible refine (foldl_still _ _ _ (fun s a => ?_)).trans ?_)
    | (with_reducible refine pair_still ‹_ = (_, _)› ?_)
    | (with_reducible refine triple_still ‹_ = (_, _, _)› ?_)
    | split

theorem State.cancelJobs_still (s : State) (id : Nat) : (State.cancelJobs s id).still = s.still := by
  unfold State.cancelJobs
  repeat' first
    | with_reducible rfl
    | simp only [↓State.leaveQueues_still, ↓upd_still, ↓foldl_still, ↓ite_still, ↓ite_still2, ite_self]
    | (with_reducible refine (foldl_still _ _ _ (fun s a => ?_)).trans ?_)
    | (with_reducible refine pair_still ‹_ = (_, _)› ?_)
    | (with_reducible refine triple_still ‹_ = (_, _, _)› ?_)
    | split

theorem State.failRound_still (s : State) (r cause st det : Nat) : (State.failRound s r cause st det).still = s.still := by
  unfold State.failRound
  repeat' first
    | with_reducible rfl
    | simp only [↓State.bump_still, ↓State.cancelJobs_still, ↓State.closeRound_still, ↓State.complete_still, ↓State.raise1_still, ↓upd_still, ↓foldl_still, ↓ite_still, ↓ite_still2, ite_self]
    | (with_reducible refine (foldl_still _ _ _ (fun s a => ?_)).trans ?_)
    | (with_reducible refine pair_still ‹_ = (_, _)› ?_)
    | (with_reducible refine triple_still ‹_ = (_, _, _)› ?_)
    | split

theorem State.tallyTo_still (s : State) (node kind r : Nat) (data : List Byte) : (State.tallyTo s node kind r data).2.still = s.still := by
  unfold State.tallyTo
  repeat' first
    | with_reducible rfl
    | simp only [↓State.lookNode_still, ↓State.pushMsg_still, ↓upd_still, ↓foldl_still, ↓ite_still, ↓ite_still2, ite_self]
    | (with_reducible refine (foldl_still _ _ _ (fun s a => ?_)).trans ?_)
    | (with_reducible refine pair_still ‹_ = (_, _)› ?_)
    | (with_reducible refine triple_still ‹_ = (_, _, _)› ?_)
    | split

theorem State.nodesKnown_still (s : State) (ks : List Nat) : (State.nodesKnown s ks).2.still = s.still := by
  unfold State.nodesKnown
  refine (foldl2_still _ ks (true, s) fun p k => ?_)
  split <;> (rename_i h; exact pair_still h (State.lookNode_still _ _))

theorem State.roundResult_still (s : State) (x : Round) (n64 n32 : Nat) : (State.roundResult s x n64 n32).still = s.still := by
  unfold State.roundResult
  repeat' first
    | with_reducible rfl
    | simp only [↓State.bump_still, ↓State.buoySet_still, ↓State.closeRound_still, ↓State.complete_still, ↓State.tallyTo_still, ↓State.wr_still, ↓State.wrPair_still, ↓upd_still, ↓foldl_still, ↓ite_still, ↓ite_still2, ite_self]
    | (with_reducible refine (foldl_still _ _ _ (fun s a => ?_)).trans ?_)
    | (with_reducible refine pair_still ‹_ = (_, _)› ?_)
    | (with_reducible refine triple_still ‹_ = (_, _, _)› ?_)
    | split

theorem State.startRun_still (s : State) (c : Cmd) : (State.startRun s c).still = s.still := by
  unfold State.startRun
  repeat' first
    | with_reducible rfl
    | simp only [↓State.bump_still, ↓State.complete_still, ↓State.wr_still, ↓upd_still, ↓foldl_still, ↓ite_still, ↓ite_still2, ite_self]
    | (with_reducible refine (foldl_still _ _ _ (fun s a => ?_)).trans ?_)
    | (with_reducible refine pair_still ‹_ = (_, _)› ?_)
    | (with_reducible refine triple_still ‹_ = (_, _, _)› ?_)
    | split

theorem State.stopRun_still (s : State) (c : Cmd) : (State.stopRun s c).still = s.still := by
  unfold State.stopRun
  repeat' first
    | with_reducible rfl
    | simp only [↓State.complete_still, ↓State.discardWaiting_still, ↓State.endRun_still, ↓State.wr_still, ↓upd_still, ↓foldl_still, ↓ite_still, ↓ite_still2, ite_self]
    | (with_reducible refine (foldl_still _ _ _ (fun s a => ?_)).trans ?_)
    | (with_reducible refine pair_still ‹_ = (_, _)› ?_)
    | (with_reducible refine triple_still ‹_ = (_, _, _)› ?_)
    | split

theorem State.swapGo_still (s : State) (c : Cmd) : (State.swapGo s c).still = s.still := by
  unfold State.swapGo
  repeat' first
    | with_reducible rfl
    | simp only [↓State.hubWrite_still, ↓State.setCmd_still, ↓upd_still, ↓foldl_still, ↓ite_still, ↓ite_still2, ite_self]
    | (with_reducible refine (foldl_still _ _ _ (fun s a => ?_)).trans ?_)
    | (with_reducible refine pair_still ‹_ = (_, _)› ?_)
    | (with_reducible refine triple_still ‹_ = (_, _, _)› ?_)
    | split

theorem State.swapReported_still (s : State) (err : Option (Nat × Nat)) : (State.swapReported s err).still = s.still := by
  unfold State.swapReported
  repeat' first
    | with_reducible rfl
    | simp only [↓State.complete_still, ↓State.dropLines_still, ↓State.raise1_still, ↓upd_still, ↓foldl_still, ↓ite_still, ↓ite_still2, ite_self]
    | (with_reducible refine (foldl_still _ _ _ (fun s a => ?_)).trans ?_)
    | (with_reducible refine pair_still ‹_ = (_, _)› ?_)
    | (with_reducible refine triple_still ‹_ = (_, _, _)› ?_)
    | split

theorem State.jobEnds_still (s : State) (j : Job) (st det : Nat) : (State.jobEnds s j st det).still = s.still := by
  unfold State.jobEnds
  repeat' first
    | with_reducible rfl
    | simp only [↓State.buoyOp_still, ↓State.complete_still, ↓State.dropJob_still, ↓State.endFetch_still, ↓State.freeExtent_still, ↓State.pageOutEnd_still, ↓State.persistEnd_still, ↓State.transferDone_still, ↓State.unstashEnd_still, ↓State.unstashWritten_still, ↓upd_still, ↓foldl_still, ↓ite_still, ↓ite_still2, ite_self]
    | (with_reducible refine (foldl_still _ _ _ (fun s a => ?_)).trans ?_)
    | (with_reducible refine pair_still ‹_ = (_, _)› ?_)
    | (with_reducible refine triple_still ‹_ = (_, _, _)› ?_)
    | split

theorem State.freeSpace_still (s : State) (n cls units : Nat) : (State.freeSpace s n cls units).still = s.still := by
  unfold State.freeSpace
  repeat' first
    | with_reducible rfl
    | simp only [↓State.setLink_still, ↓upd_still, ↓foldl_still, ↓ite_still, ↓ite_still2, ite_self]
    | (with_reducible refine (foldl_still _ _ _ (fun s a => ?_)).trans ?_)
    | (with_reducible refine pair_still ‹_ = (_, _)› ?_)
    | (with_reducible refine triple_still ‹_ = (_, _, _)› ?_)
    | split

theorem State.spaceDone_still (s : State) (n msg : Nat) : (State.spaceDone s n msg).still = s.still := by
  unfold State.spaceDone
  repeat' first
    | with_reducible rfl
    | simp only [↓State.freeSpace_still, ↓State.setLink_still, ↓upd_still, ↓foldl_still, ↓ite_still, ↓ite_still2, ite_self]
    | (with_reducible refine (foldl_still _ _ _ (fun s a => ?_)).trans ?_)
    | (with_reducible refine pair_still ‹_ = (_, _)› ?_)
    | (with_reducible refine triple_still ‹_ = (_, _, _)› ?_)
    | split

theorem State.answerReady_still (s : State) (n cls : Nat) (a0 : Nat) : (State.answerReady s n cls a0).still = s.still := by
  induction a0 generalizing s n cls with
  | zero =>
    unfold State.answerReady
    repeat' first
      | with_reducible rfl
      | simp only [↓State.buoyOp_still, ↓State.complete_still, ↓State.setLink_still, ↓State.xferDone_still, ↓upd_still, ↓foldl_still, ↓ite_still, ↓ite_still2, ite_self]
      | (with_reducible refine (foldl_still _ _ _ (fun s a => ?_)).trans ?_)
      | (with_reducible refine pair_still ‹_ = (_, _)› ?_)
      | split
  | succ k ih =>
    unfold State.answerReady
    repeat' first
      | with_reducible rfl
      | simp only [↓State.buoyOp_still, ↓State.complete_still, ↓State.setLink_still, ↓State.xferDone_still, ↓upd_still, ↓foldl_still, ↓ite_still, ↓ite_still2, ite_self, ↓ih]
      | (with_reducible refine (foldl_still _ _ _ (fun s a => ?_)).trans ?_)
      | (with_reducible refine pair_still ‹_ = (_, _)› ?_)
      | split

theorem State.setRxXfer_still (s : State) (n : Nat) (x : RxXfer) : (State.setRxXfer s n x).still = s.still := by
  unfold State.setRxXfer
  repeat' first
    | with_reducible rfl
    | simp only [↓State.answerReady_still, ↓State.setLink_still, ↓upd_still, ↓foldl_still, ↓ite_still, ↓ite_still2, ite_self]
    | (with_reducible refine (foldl_still _ _ _ (fun s a => ?_)).trans ?_)
    | (with_reducible refine pair_still ‹_ = (_, _)› ?_)
    | (with_reducible refine triple_still ‹_ = (_, _, _)› ?_)
    | split

theorem State.landDone_still (s : State) (n xfer : Nat) (err : Option Nat) : (State.landDone s n xfer err).still = s.still := by
  unfold State.landDone
  repeat' first
    | with_reducible rfl
    | simp only [↓State.setRxXfer_still, ↓upd_still, ↓foldl_still, ↓ite_still, ↓ite_still2, ite_self]
    | (with_reducible refine (foldl_still _ _ _ (fun s a => ?_)).trans ?_)
    | (with_reducible refine pair_still ‹_ = (_, _)› ?_)
    | (with_reducible refine triple_still ‹_ = (_, _, _)› ?_)
    | split

theorem State.jobWritten_still (s : State) (id : Nat) (err : Option Nat) : (State.jobWritten s id err).still = s.still := by
  unfold State.jobWritten
  repeat' first
    | with_reducible rfl
    | simp only [↓State.jobEnds_still, ↓State.setJob_still, ↓upd_still, ↓foldl_still, ↓ite_still, ↓ite_still2, ite_self]
    | (with_reducible refine (foldl_still _ _ _ (fun s a => ?_)).trans ?_)
    | (with_reducible refine pair_still ‹_ = (_, _)› ?_)
    | (with_reducible refine triple_still ‹_ = (_, _, _)› ?_)
    | split

theorem State.jobData_still (s : State) (j : Job) (bs : List Byte) : (State.jobData s j bs).still = s.still := by
  unfold State.jobData
  repeat' first
    | with_reducible rfl
    | simp only [↓State.buoyOp_still, ↓State.emitAnswer_still, ↓State.emitSend_still, ↓State.reduceChunk_still, ↓State.stashChunk_still, ↓upd_still, ↓foldl_still, ↓ite_still, ↓ite_still2, ite_self]
    | (with_reducible refine (foldl_still _ _ _ (fun s a => ?_)).trans ?_)
    | (with_reducible refine pair_still ‹_ = (_, _)› ?_)
    | (with_reducible refine triple_still ‹_ = (_, _, _)› ?_)
    | split

theorem State.jobPiece_still (s : State) (id off : Nat) (bs : List Byte) : (State.jobPiece s id off bs).still = s.still := by
  unfold State.jobPiece
  repeat' first
    | with_reducible rfl
    | simp only [↓State.jobData_still, ↓State.restorePiece_still, ↓State.setJob_still, ↓upd_still, ↓foldl_still, ↓ite_still, ↓ite_still2, ite_self]
    | (with_reducible refine (foldl_still _ _ _ (fun s a => ?_)).trans ?_)
    | (with_reducible refine pair_still ‹_ = (_, _)› ?_)
    | (with_reducible refine triple_still ‹_ = (_, _, _)› ?_)
    | split

theorem State.jobReadFails_still (s : State) (id st : Nat) : (State.jobReadFails s id st).still = s.still := by
  unfold State.jobReadFails
  repeat' first
    | with_reducible rfl
    | simp only [↓State.buoyOp_still, ↓State.dropJob_still, ↓State.jobEnds_still, ↓State.leaveQueues_still, ↓State.sendFails_still, ↓State.setCmd_still, ↓State.transferDone_still, ↓State.unstashEnd_still, ↓State.xferDone_still, ↓upd_still, ↓foldl_still, ↓ite_still, ↓ite_still2, ite_self]
    | (with_reducible refine (foldl_still _ _ _ (fun s a => ?_)).trans ?_)
    | (with_reducible refine pair_still ‹_ = (_, _)› ?_)
    | (with_reducible refine triple_still ‹_ = (_, _, _)› ?_)
    | split

theorem State.leaveSlot_still (s : State) (c : Cmd) : (State.leaveSlot s c).still = s.still := by
  unfold State.leaveSlot
  repeat' first
    | with_reducible rfl
    | simp only [↓upd_still, ↓foldl_still, ↓ite_still, ↓ite_still2, ite_self]
    | (with_reducible refine (foldl_still _ _ _ (fun s a => ?_)).trans ?_)
    | (with_reducible refine pair_still ‹_ = (_, _)› ?_)
    | (with_reducible refine triple_still ‹_ = (_, _, _)› ?_)
    | split

theorem State.routeCmd_still (s : State) (c : Cmd) : (State.routeCmd s c).still = s.still := by
  unfold State.routeCmd
  repeat' first
    | with_reducible rfl
    | simp only [↓State.complete_still, ↓State.enterBackwater_still, ↓State.leaveSlot_still, ↓State.startSimple_still, ↓upd_still, ↓foldl_still, ↓ite_still, ↓ite_still2, ite_self]
    | (with_reducible refine (foldl_still _ _ _ (fun s a => ?_)).trans ?_)
    | (with_reducible refine pair_still ‹_ = (_, _)› ?_)
    | (with_reducible refine triple_still ‹_ = (_, _, _)› ?_)
    | split

theorem State.go_still (s : State) (c : Cmd) : (State.go s c).still = s.still := by
  unfold State.go
  repeat' first
    | with_reducible rfl
    | simp only [↓State.addJob_still, ↓State.buoyOp_still, ↓State.complete_still, ↓State.encodeEnd_still, ↓State.entryGo_still, ↓State.leaveSlot_still, ↓State.readEntry_still, ↓State.reduceGo_still, ↓State.routeCmd_still, ↓State.setCmd_still, ↓State.startRun_still, ↓State.stashGo_still, ↓State.stopRun_still, ↓State.swapGo_still, ↓State.unstashGo_still, ↓upd_still, ↓foldl_still, ↓ite_still, ↓ite_still2, ite_self]
    | (with_reducible refine (foldl_still _ _ _ (fun s a => ?_)).trans ?_)
    | (with_reducible refine pair_still ‹_ = (_, _)› ?_)
    | (with_reducible refine triple_still ‹_ = (_, _, _)› ?_)
    | split

theorem State.stopQueue_still (s : State) (k : Nat) : (State.stopQueue s k).still = s.still := by
  unfold State.stopQueue
  repeat' first
    | with_reducible rfl
    | simp only [↓State.raise1_still, ↓State.wr_still, ↓upd_still, ↓foldl_still, ↓ite_still, ↓ite_still2, ite_self]
    | (with_reducible refine (foldl_still _ _ _ (fun s a => ?_)).trans ?_)
    | (with_reducible refine pair_still ‹_ = (_, _)› ?_)
    | (with_reducible refine triple_still ‹_ = (_, _, _)› ?_)
    | split

theorem State.hubFails_still (s : State) (r : HubReq) (code : Nat) : (State.hubFails s r code).still = s.still := by
  unfold State.hubFails
  repeat' first
    | with_reducible rfl
    | simp only [↓State.completionDone_still, ↓State.entryFails_still, ↓State.jobReadFails_still, ↓State.jobWritten_still, ↓State.landDone_still, ↓State.raise1_still, ↓State.spaceDone_still, ↓State.stopQueue_still, ↓State.swapReported_still, ↓upd_still, ↓foldl_still, ↓ite_still, ↓ite_still2, ite_self]
    | (with_reducible refine (foldl_still _ _ _ (fun s a => ?_)).trans ?_)
    | (with_reducible refine pair_still ‹_ = (_, _)› ?_)
    | (with_reducible refine triple_still ‹_ = (_, _, _)› ?_)
    | split

theorem State.hubWritten_still (s : State) (r : HubReq) : (State.hubWritten s r).still = s.still := by
  unfold State.hubWritten
  repeat' first
    | with_reducible rfl
    | simp only [↓State.completionDone_still, ↓State.jobWritten_still, ↓State.landDone_still, ↓State.spaceDone_still, ↓State.swapReported_still, ↓upd_still, ↓foldl_still, ↓ite_still, ↓ite_still2, ite_self]
    | (with_reducible refine (foldl_still _ _ _ (fun s a => ?_)).trans ?_)
    | (with_reducible refine pair_still ‹_ = (_, _)› ?_)
    | (with_reducible refine triple_still ‹_ = (_, _, _)› ?_)
    | split

theorem State.hubData_still (s : State) (r : HubReq) : (State.hubData s r).still = s.still := by
  unfold State.hubData
  repeat' first
    | with_reducible rfl
    | simp only [↓State.cacheInsert_still, ↓State.entryGo_still, ↓State.hubFails_still, ↓State.jobPiece_still, ↓State.setCmd_still, ↓upd_still, ↓foldl_still, ↓ite_still, ↓ite_still2, ite_self]
    | (with_reducible refine (foldl_still _ _ _ (fun s a => ?_)).trans ?_)
    | (with_reducible refine pair_still ‹_ = (_, _)› ?_)
    | (with_reducible refine triple_still ‹_ = (_, _, _)› ?_)
    | split

theorem State.dealFailed_still (s : State) : (State.dealFailed s).still = s.still := by
  unfold State.dealFailed
  repeat' first
    | with_reducible rfl
    | simp only [↓State.hubFails_still, ↓upd_still, ↓foldl_still, ↓ite_still, ↓ite_still2, ite_self]
    | (with_reducible refine (foldl_still _ _ _ (fun s a => ?_)).trans ?_)
    | (with_reducible refine pair_still ‹_ = (_, _)› ?_)
    | (with_reducible refine triple_still ‹_ = (_, _, _)› ?_)
    | split

theorem State.stepCmd_still (s : State) (id : Nat) : (State.stepCmd s id).still = s.still := by
  unfold State.stepCmd
  repeat' first
    | with_reducible rfl
    | simp only [↓State.entryGo_still, ↓State.swapGo_still, ↓State.unstashGo_still, ↓upd_still, ↓foldl_still, ↓ite_still, ↓ite_still2, ite_self]
    | (with_reducible refine (foldl_still _ _ _ (fun s a => ?_)).trans ?_)
    | (with_reducible refine pair_still ‹_ = (_, _)› ?_)
    | (with_reducible refine triple_still ‹_ = (_, _, _)› ?_)
    | split

theorem State.stepJob_still (s : State) (id : Nat) : (State.stepJob s id).still = s.still := by
  unfold State.stepJob
  repeat' first
    | with_reducible rfl
    | simp only [↓State.reduceGo_still, ↓State.stashGo_still, ↓upd_still, ↓foldl_still, ↓ite_still, ↓ite_still2, ite_self]
    | (with_reducible refine (foldl_still _ _ _ (fun s a => ?_)).trans ?_)
    | (with_reducible refine pair_still ‹_ = (_, _)› ?_)
    | (with_reducible refine triple_still ‹_ = (_, _, _)› ?_)
    | split

theorem State.stepWork_still (s : State) : (State.stepWork s).still = s.still := by
  unfold State.stepWork
  repeat' first
    | with_reducible rfl
    | simp only [↓State.pumpAll_still, ↓State.stepCmd_still, ↓State.stepJob_still, ↓upd_still, ↓foldl_still, ↓ite_still, ↓ite_still2, ite_self]
    | (with_reducible refine (foldl_still _ _ _ (fun s a => ?_)).trans ?_)
    | (with_reducible refine pair_still ‹_ = (_, _)› ?_)
    | (with_reducible refine triple_still ‹_ = (_, _, _)› ?_)
    | split

theorem State.settleN_still (s : State) (a0 : Nat) : (State.settleN s a0).still = s.still := by
  induction a0 generalizing s with
  | zero =>
    unfold State.settleN
    repeat' first
      | with_reducible rfl
      | simp only [↓State.dealFailed_still, ↓State.stepWork_still, ↓upd_still, ↓foldl_still, ↓ite_still, ↓ite_still2, ite_self]
      | (with_reducible refine (foldl_still _ _ _ (fun s a => ?_)).trans ?_)
      | (with_reducible refine pair_still ‹_ = (_, _)› ?_)
      | split
  | succ k ih =>
    unfold State.settleN
    repeat' first
      | with_reducible rfl
      | simp only [↓State.dealFailed_still, ↓State.stepWork_still, ↓upd_still, ↓foldl_still, ↓ite_still, ↓ite_still2, ite_self, ↓ih]
      | (with_reducible refine (foldl_still _ _ _ (fun s a => ?_)).trans ?_)
      | (with_reducible refine pair_still ‹_ = (_, _)› ?_)
      | split

theorem State.settle_still (s : State) : (State.settle s).still = s.still := by
  unfold State.settle
  repeat' first
    | with_reducible rfl
    | simp only [↓State.settleN_still, ↓upd_still, ↓foldl_still, ↓ite_still, ↓ite_still2, ite_self]
    | (with_reducible refine (foldl_still _ _ _ (fun s a => ?_)).trans ?_)
    | (with_reducible refine pair_still ‹_ = (_, _)› ?_)
    | (with_reducible refine triple_still ‹_ = (_, _, _)› ?_)
    | split

theorem State.touch_still (s : State) (as : List Nat) : (State.touch s as).2.2.still = s.still := by
  unfold State.touch
  refine (foldl3_still _ as (true, none, s) fun p k => ?_)
  split <;> (rename_i h; exact pair_still h (State.look_still _ _))

theorem State.consume_still (s : State) (q : Source) (op : Nat) : (State.consume s q op).still = s.still := by
  unfold State.consume
  repeat' first
    | with_reducible rfl
    | simp only [↓State.bump_still, ↓State.dropLines_still, ↓State.wr_still, ↓upd_still, ↓foldl_still, ↓ite_still, ↓ite_still2, ite_self]
    | (with_reducible refine (foldl_still _ _ _ (fun s a => ?_)).trans ?_)
    | (with_reducible refine pair_still ‹_ = (_, _)› ?_)
    | (with_reducible refine triple_still ‹_ = (_, _, _)› ?_)
    | split

theorem State.enlist_still (s : State) (q : Source) (ws : List DWord) (mask : Nat) (entry : List DWord) : (State.enlist s q ws mask entry).2.still = s.still := by
  unfold State.enlist
  repeat' first
    | with_reducible rfl
    | simp only [↓State.consume_still, ↓State.issue_still, ↓State.setOq_still, ↓upd_still, ↓foldl_still, ↓ite_still, ↓ite_still2, ite_self]
    | (with_reducible refine (foldl_still _ _ _ (fun s a => ?_)).trans ?_)
    | (with_reducible refine pair_still ‹_ = (_, _)› ?_)
    | (with_reducible refine triple_still ‹_ = (_, _, _)› ?_)
    | split

theorem State.toSlot_still (s : State) (c : Cmd) (phase : CmdPhase) : (State.toSlot s c phase).still = s.still := by
  unfold State.toSlot
  repeat' first
    | with_reducible rfl
    | simp only [↓upd_still, ↓foldl_still, ↓ite_still, ↓ite_still2, ite_self]
    | (with_reducible refine (foldl_still _ _ _ (fun s a => ?_)).trans ?_)
    | (with_reducible refine pair_still ‹_ = (_, _)› ?_)
    | (with_reducible refine triple_still ‹_ = (_, _, _)› ?_)
    | split

theorem State.begin_still (s : State) (c : Cmd) : (State.begin s c).still = s.still := by
  unfold State.begin
  repeat' first
    | with_reducible rfl
    | simp only [↓State.go_still, ↓State.reduceTaken_still, ↓State.toSlot_still, ↓upd_still, ↓foldl_still, ↓ite_still, ↓ite_still2, ite_self]
    | (with_reducible refine (foldl_still _ _ _ (fun s a => ?_)).trans ?_)
    | (with_reducible refine pair_still ‹_ = (_, _)› ?_)
    | (with_reducible refine triple_still ‹_ = (_, _, _)› ?_)
    | split

theorem State.memFault_still (s : State) (c : Option Nat) (f : MemFault) : (State.memFault s c f).still = s.still := by
  unfold State.memFault
  repeat' first
    | with_reducible rfl
    | simp only [↓State.pageCe_still, ↓State.pageUe_still, ↓State.raise1_still, ↓upd_still, ↓foldl_still, ↓ite_still, ↓ite_still2, ite_self]
    | (with_reducible refine (foldl_still _ _ _ (fun s a => ?_)).trans ?_)
    | (with_reducible refine pair_still ‹_ = (_, _)› ?_)
    | (with_reducible refine triple_still ‹_ = (_, _, _)› ?_)
    | split

theorem State.takeNow_still (s : State) (q : Source) (ws : List DWord) (bad : Option Nat) (f : MemFault) : (State.takeNow s q ws bad f).still = s.still := by
  unfold State.takeNow
  repeat' first
    | with_reducible rfl
    | simp only [↓State.begin_still, ↓State.complete_still, ↓State.consume_still, ↓State.endRun_still, ↓State.enlist_still, ↓State.memFault_still, ↓State.raise1_still, ↓upd_still, ↓foldl_still, ↓ite_still, ↓ite_still2, ite_self]
    | (with_reducible refine (foldl_still _ _ _ (fun s a => ?_)).trans ?_)
    | (with_reducible refine pair_still ‹_ = (_, _)› ?_)
    | (with_reducible refine triple_still ‹_ = (_, _, _)› ?_)
    | split

theorem State.takeIn_still (s : State) (q : Source) (isOp : Nat → Bool) (f : MemFault) : (State.takeIn s q isOp f).still = s.still := by
  unfold State.takeIn
  repeat' first
    | with_reducible rfl
    | simp only [↓State.dropLines_still, ↓State.look_still, ↓State.memFault_still, ↓State.settle_still, ↓State.stopQueue_still, ↓State.takeNow_still, ↓State.touch_still, ↓upd_still, ↓foldl_still, ↓ite_still, ↓ite_still2, ite_self]
    | (with_reducible refine (foldl_still _ _ _ (fun s a => ?_)).trans ?_)
    | (with_reducible refine pair_still ‹_ = (_, _)› ?_)
    | (with_reducible refine triple_still ‹_ = (_, _, _)› ?_)
    | split

theorem State.release_still (s : State) (c : Cmd) (n : Nat) : (State.release s c n).still = s.still := by
  unfold State.release
  repeat' first
    | with_reducible rfl
    | simp only [↓State.encodeEnd_still, ↓State.setCmd_still, ↓State.startEntry_still, ↓State.startSimple_still, ↓State.unstashGo_still, ↓upd_still, ↓foldl_still, ↓ite_still, ↓ite_still2, ite_self]
    | (with_reducible refine (foldl_still _ _ _ (fun s a => ?_)).trans ?_)
    | (with_reducible refine pair_still ‹_ = (_, _)› ?_)
    | (with_reducible refine triple_still ‹_ = (_, _, _)› ?_)
    | split

theorem State.releaseAll_still (s : State) : (State.releaseAll s).still = s.still := by
  unfold State.releaseAll
  repeat' first
    | with_reducible rfl
    | simp only [↓State.release_still, ↓upd_still, ↓foldl_still, ↓ite_still, ↓ite_still2, ite_self]
    | (with_reducible refine (foldl_still _ _ _ (fun s a => ?_)).trans ?_)
    | (with_reducible refine pair_still ‹_ = (_, _)› ?_)
    | (with_reducible refine triple_still ‹_ = (_, _, _)› ?_)
    | split

theorem State.expire_still (s : State) (id : Nat) : (State.expire s id).still = s.still := by
  unfold State.expire
  repeat' first
    | with_reducible rfl
    | simp only [↓State.cancelJobs_still, ↓State.complete_still, ↓State.dropJob_still, ↓State.entryFails_still, ↓State.extentDone_still, ↓upd_still, ↓foldl_still, ↓ite_still, ↓ite_still2, ite_self]
    | (with_reducible refine (foldl_still _ _ _ (fun s a => ?_)).trans ?_)
    | (with_reducible refine pair_still ‹_ = (_, _)› ?_)
    | (with_reducible refine triple_still ‹_ = (_, _, _)› ?_)
    | split

theorem State.wrIqTail_still (k data : Nat) (s : State) : (State.wrIqTail k data s).still = s.still := by
  unfold State.wrIqTail
  repeat' first
    | with_reducible rfl
    | simp only [↓State.raise1_still, ↓State.wr_still, ↓upd_still, ↓foldl_still, ↓ite_still, ↓ite_still2, ite_self]
    | (with_reducible refine (foldl_still _ _ _ (fun s a => ?_)).trans ?_)
    | (with_reducible refine pair_still ‹_ = (_, _)› ?_)
    | (with_reducible refine triple_still ‹_ = (_, _, _)› ?_)
    | split

theorem State.wrIqCfg_still (k data : Nat) (s : State) : (State.wrIqCfg k data s).still = s.still := by
  unfold State.wrIqCfg
  repeat' first
    | with_reducible rfl
    | simp only [↓State.discardWaiting_still, ↓State.wr_still, ↓State.writeFields_still, ↓upd_still, ↓foldl_still, ↓ite_still, ↓ite_still2, ite_self]
    | (with_reducible refine (foldl_still _ _ _ (fun s a => ?_)).trans ?_)
    | (with_reducible refine pair_still ‹_ = (_, _)› ?_)
    | (with_reducible refine triple_still ‹_ = (_, _, _)› ?_)
    | split

theorem State.wrOqCfg_still (k data : Nat) (s : State) : (State.wrOqCfg k data s).still = s.still := by
  unfold State.wrOqCfg
  repeat' first
    | with_reducible rfl
    | simp only [↓State.setOq_still, ↓State.wr_still, ↓State.writeFields_still, ↓upd_still, ↓foldl_still, ↓ite_still, ↓ite_still2, ite_self]
    | (with_reducible refine (foldl_still _ _ _ (fun s a => ?_)).trans ?_)
    | (with_reducible refine pair_still ‹_ = (_, _)› ?_)
    | (with_reducible refine triple_still ‹_ = (_, _, _)› ?_)
    | split

theorem State.staleFills_still (s : State) (p : Nat → Bool) : (State.staleFills s p).still = s.still := by
  unfold State.staleFills
  repeat' first
    | with_reducible rfl
    | simp only [↓upd_still, ↓foldl_still, ↓ite_still, ↓ite_still2, ite_self]
    | (with_reducible refine (foldl_still _ _ _ (fun s a => ?_)).trans ?_)
    | (with_reducible refine pair_still ‹_ = (_, _)› ?_)
    | (with_reducible refine triple_still ‹_ = (_, _, _)› ?_)
    | split

theorem State.wrCcInval_still (data : Nat) (s : State) : (State.wrCcInval data s).still = s.still := by
  unfold State.wrCcInval
  repeat' first
    | with_reducible rfl
    | simp only [↓State.wr_still, ↓upd_still, ↓foldl_still, ↓ite_still, ↓ite_still2, ite_self]
    | (with_reducible refine (foldl_still _ _ _ (fun s a => ?_)).trans ?_)
    | (with_reducible refine pair_still ‹_ = (_, _)› ?_)
    | (with_reducible refine triple_still ‹_ = (_, _, _)› ?_)
    | split

theorem State.wrPool_still (k : Pool) (data : Nat) (s : State) : (State.wrPool k data s).still = s.still := by
  unfold State.wrPool
  repeat' first
    | with_reducible rfl
    | simp only [↓State.pageIfDue_still, ↓State.writeFields_still, ↓upd_still, ↓foldl_still, ↓ite_still, ↓ite_still2, ite_self]
    | (with_reducible refine (foldl_still _ _ _ (fun s a => ?_)).trans ?_)
    | (with_reducible refine pair_still ‹_ = (_, _)› ?_)
    | (with_reducible refine triple_still ‹_ = (_, _, _)› ?_)
    | split

theorem State.pageOutNext_still (s : State) (f : MemFault) : (State.pageOutNext s f).still = s.still := by
  unfold State.pageOutNext
  repeat' first
    | with_reducible rfl
    | simp only [↓State.bump_still, ↓State.pageCe_still, ↓State.pageGone_still, ↓State.pageUe_still, ↓State.pageWrite_still, ↓State.raise1_still, ↓State.setExtent_still, ↓upd_still, ↓foldl_still, ↓ite_still, ↓ite_still2, ite_self]
    | (with_reducible refine (foldl_still _ _ _ (fun s a => ?_)).trans ?_)
    | (with_reducible refine pair_still ‹_ = (_, _)› ?_)
    | (with_reducible refine triple_still ‹_ = (_, _, _)› ?_)
    | split

theorem State.wrBuoyVal_still (v : Path) (k data : Nat) (s : State) : (State.wrBuoyVal v k data s).still = s.still := by
  unfold State.wrBuoyVal
  repeat' first
    | with_reducible rfl
    | simp only [↓State.buoySet_still, ↓State.pairLow_still, ↓upd_still, ↓foldl_still, ↓ite_still, ↓ite_still2, ite_self]
    | (with_reducible refine (foldl_still _ _ _ (fun s a => ?_)).trans ?_)
    | (with_reducible refine pair_still ‹_ = (_, _)› ?_)
    | (with_reducible refine triple_still ‹_ = (_, _, _)› ?_)
    | split

theorem State.wrBuoyAdd_still (v : Path) (data : Nat) (s : State) : (State.wrBuoyAdd v data s).still = s.still := by
  unfold State.wrBuoyAdd
  repeat' first
    | with_reducible rfl
    | simp only [↓State.buoyOp_still, ↓State.pairLow_still, ↓State.wr_still, ↓upd_still, ↓foldl_still, ↓ite_still, ↓ite_still2, ite_self]
    | (with_reducible refine (foldl_still _ _ _ (fun s a => ?_)).trans ?_)
    | (with_reducible refine pair_still ‹_ = (_, _)› ?_)
    | (with_reducible refine triple_still ‹_ = (_, _, _)› ?_)
    | split

theorem State.wrRetire_still (data : Nat) (s : State) : (State.wrRetire data s).still = s.still := by
  unfold State.wrRetire
  repeat' first
    | with_reducible rfl
    | simp only [↓State.retireExtent_still, ↓upd_still, ↓foldl_still, ↓ite_still, ↓ite_still2, ite_self]
    | (with_reducible refine (foldl_still _ _ _ (fun s a => ?_)).trans ?_)
    | (with_reducible refine pair_still ‹_ = (_, _)› ?_)
    | (with_reducible refine triple_still ‹_ = (_, _, _)› ?_)
    | split

theorem State.wrAbort_still (data : Nat) (s : State) : (State.wrAbort data s).still = s.still := by
  unfold State.wrAbort
  repeat' first
    | with_reducible rfl
    | simp only [↓State.failRound_still, ↓upd_still, ↓foldl_still, ↓ite_still, ↓ite_still2, ite_self]
    | (with_reducible refine (foldl_still _ _ _ (fun s a => ?_)).trans ?_)
    | (with_reducible refine pair_still ‹_ = (_, _)› ?_)
    | (with_reducible refine triple_still ‹_ = (_, _, _)› ?_)
    | split

theorem State.popMsg_still (s : State) (n : Nat) (m : Msg) : (State.popMsg s n m).still = s.still := by
  unfold State.popMsg
  repeat' first
    | with_reducible rfl
    | simp only [↓State.setLink_still, ↓upd_still, ↓foldl_still, ↓ite_still, ↓ite_still2, ite_self]
    | (with_reducible refine (foldl_still _ _ _ (fun s a => ?_)).trans ?_)
    | (with_reducible refine pair_still ‹_ = (_, _)› ?_)
    | (with_reducible refine triple_still ‹_ = (_, _, _)› ?_)
    | split

theorem State.consumeMsg_still (s : State) (n : Nat) (m : Msg) : (State.consumeMsg s n m).still = s.still := by
  unfold State.consumeMsg
  repeat' first
    | with_reducible rfl
    | simp only [↓State.freeSpace_still, ↓State.popMsg_still, ↓upd_still, ↓foldl_still, ↓ite_still, ↓ite_still2, ite_self]
    | (with_reducible refine (foldl_still _ _ _ (fun s a => ?_)).trans ?_)
    | (with_reducible refine pair_still ‹_ = (_, _)› ?_)
    | (with_reducible refine triple_still ‹_ = (_, _, _)› ?_)
    | split

theorem State.checkSender_still (s : State) (m : Msg) : (State.checkSender s m).2.still = s.still := by
  unfold State.checkSender
  repeat' first
    | with_reducible rfl
    | simp only [↓State.bump_still, ↓State.lookNode_still, ↓State.raise1_still, ↓upd_still, ↓foldl_still, ↓ite_still, ↓ite_still2, ite_self]
    | (with_reducible refine (foldl_still _ _ _ (fun s a => ?_)).trans ?_)
    | (with_reducible refine pair_still ‹_ = (_, _)› ?_)
    | (with_reducible refine triple_still ‹_ = (_, _, _)› ?_)
    | split

theorem State.onMsg_still (s : State) (p kind : Nat) (f : State → Nat → Msg → Sender → State) (h_f : ∀ x0 x1 x2 x3, (f x0 x1 x2 x3).still = x0.still) : (State.onMsg s p kind f).still = s.still := by
  unfold State.onMsg
  repeat' first
    | with_reducible rfl
    | simp only [↓State.checkSender_still, ↓State.settle_still, ↓upd_still, ↓foldl_still, ↓ite_still, ↓ite_still2, ite_self, ↓h_f]
    | (with_reducible refine (foldl_still _ _ _ (fun s a => ?_)).trans ?_)
    | (with_reducible refine pair_still ‹_ = (_, _)› ?_)
    | (with_reducible refine triple_still ‹_ = (_, _, _)› ?_)
    | split

theorem State.land_still (s : State) (n : Nat) (m : Msg) (r : Sender) : (State.land s n m r).still = s.still := by
  unfold State.land
  repeat' first
    | with_reducible rfl
    | simp only [↓State.answerReady_still, ↓State.complete_still, ↓State.consumeMsg_still, ↓State.fresh_still, ↓State.hubWrite_still, ↓State.popMsg_still, ↓State.setLink_still, ↓upd_still, ↓foldl_still, ↓ite_still, ↓ite_still2, ite_self]
    | (with_reducible refine (foldl_still _ _ _ (fun s a => ?_)).trans ?_)
    | (with_reducible refine pair_still ‹_ = (_, _)› ?_)
    | (with_reducible refine triple_still ‹_ = (_, _, _)› ?_)
    | split

theorem State.rxFault_still (s : State) (n : Nat) (m : Msg) (f : MemFault) : (State.rxFault s n m f).2.still = s.still := by
  unfold State.rxFault
  repeat' first
    | with_reducible rfl
    | simp only [↓State.memFault_still, ↓State.pageCe_still, ↓State.pageUe_still, ↓State.setLink_still, ↓upd_still, ↓foldl_still, ↓ite_still, ↓ite_still2, ite_self]
    | (with_reducible refine (foldl_still _ _ _ (fun s a => ?_)).trans ?_)
    | (with_reducible refine pair_still ‹_ = (_, _)› ?_)
    | (with_reducible refine triple_still ‹_ = (_, _, _)› ?_)
    | split

theorem State.answerFetch_still (s : State) (n : Nat) (m : Msg) (r : Sender) : (State.answerFetch s n m r).still = s.still := by
  unfold State.answerFetch
  repeat' first
    | with_reducible rfl
    | simp only [↓State.addJob_still, ↓State.consumeMsg_still, ↓State.pushMsg_still, ↓State.xferDone_still, ↓upd_still, ↓foldl_still, ↓ite_still, ↓ite_still2, ite_self]
    | (with_reducible refine (foldl_still _ _ _ (fun s a => ?_)).trans ?_)
    | (with_reducible refine pair_still ‹_ = (_, _)› ?_)
    | (with_reducible refine triple_still ‹_ = (_, _, _)› ?_)
    | split

theorem State.fetched_still (s : State) (n : Nat) (m : Msg) (j : Job) : (State.fetched s n m j).still = s.still := by
  unfold State.fetched
  repeat' first
    | with_reducible rfl
    | simp only [↓State.consumeMsg_still, ↓State.hubWrite_still, ↓State.jobEnds_still, ↓State.popMsg_still, ↓State.setJob_still, ↓State.setLink_still, ↓upd_still, ↓foldl_still, ↓ite_still, ↓ite_still2, ite_self]
    | (with_reducible refine (foldl_still _ _ _ (fun s a => ?_)).trans ?_)
    | (with_reducible refine pair_still ‹_ = (_, _)› ?_)
    | (with_reducible refine triple_still ‹_ = (_, _, _)› ?_)
    | split

theorem State.fetchedFor_still (s : State) (n : Nat) (m : Msg) (j : Job) (parent off : Nat) : (State.fetchedFor s n m j parent off).still = s.still := by
  unfold State.fetchedFor
  repeat' first
    | with_reducible rfl
    | simp only [↓State.consumeMsg_still, ↓State.jobEnds_still, ↓State.restorePiece_still, ↓State.setJob_still, ↓upd_still, ↓foldl_still, ↓ite_still, ↓ite_still2, ite_self]
    | (with_reducible refine (foldl_still _ _ _ (fun s a => ?_)).trans ?_)
    | (with_reducible refine pair_still ‹_ = (_, _)› ?_)
    | (with_reducible refine triple_still ‹_ = (_, _, _)› ?_)
    | split

theorem State.answered_still (s : State) (id st det : Nat) : (State.answered s id st det).still = s.still := by
  unfold State.answered
  repeat' first
    | with_reducible rfl
    | simp only [↓State.jobEnds_still, ↓State.setJob_still, ↓upd_still, ↓foldl_still, ↓ite_still, ↓ite_still2, ite_self]
    | (with_reducible refine (foldl_still _ _ _ (fun s a => ?_)).trans ?_)
    | (with_reducible refine pair_still ‹_ = (_, _)› ?_)
    | (with_reducible refine triple_still ‹_ = (_, _, _)› ?_)
    | split

theorem State.fetchFails_still (s : State) (j : Job) (st det : Nat) : (State.fetchFails s j st det).still = s.still := by
  unfold State.fetchFails
  repeat' first
    | with_reducible rfl
    | simp only [↓State.jobEnds_still, ↓State.setJob_still, ↓upd_still, ↓foldl_still, ↓ite_still, ↓ite_still2, ite_self]
    | (with_reducible refine (foldl_still _ _ _ (fun s a => ?_)).trans ?_)
    | (with_reducible refine pair_still ‹_ = (_, _)› ?_)
    | (with_reducible refine triple_still ‹_ = (_, _, _)› ?_)
    | split

theorem State.takeAnswer_still (s : State) (p : Nat) (m : Msg) : (State.takeAnswer s p m).still = s.still := by
  unfold State.takeAnswer
  repeat' first
    | with_reducible rfl
    | simp only [↓State.answered_still, ↓State.fetchFails_still, ↓State.setLink_still, ↓upd_still, ↓foldl_still, ↓ite_still, ↓ite_still2, ite_self]
    | (with_reducible refine (foldl_still _ _ _ (fun s a => ?_)).trans ?_)
    | (with_reducible refine pair_still ‹_ = (_, _)› ?_)
    | (with_reducible refine triple_still ‹_ = (_, _, _)› ?_)
    | split

theorem State.takeBuoyOp_still (s : State) (n : Nat) (m : Msg) (r : Sender) : (State.takeBuoyOp s n m r).still = s.still := by
  unfold State.takeBuoyOp
  repeat' first
    | with_reducible rfl
    | simp only [↓State.bump_still, ↓State.buoyOp_still, ↓State.consumeMsg_still, ↓State.setLink_still, ↓State.wr_still, ↓State.xferDone_still, ↓upd_still, ↓foldl_still, ↓ite_still, ↓ite_still2, ite_self]
    | (with_reducible refine (foldl_still _ _ _ (fun s a => ?_)).trans ?_)
    | (with_reducible refine pair_still ‹_ = (_, _)› ?_)
    | (with_reducible refine triple_still ‹_ = (_, _, _)› ?_)
    | split

theorem State.roundImage_still (s : State) (r node : Nat) (a : Accum) (p : Nat) : (State.roundImage s r node a p).still = s.still := by
  unfold State.roundImage
  repeat' first
    | with_reducible rfl
    | simp only [↓State.addImage_still, ↓State.setRound_still, ↓State.stray_still, ↓upd_still, ↓foldl_still, ↓ite_still, ↓ite_still2, ite_self]
    | (with_reducible refine (foldl_still _ _ _ (fun s a => ?_)).trans ?_)
    | (with_reducible refine pair_still ‹_ = (_, _)› ?_)
    | (with_reducible refine triple_still ‹_ = (_, _, _)› ?_)
    | split

theorem State.takeImage_still (s : State) (n : Nat) (m : Msg) (r : Sender) : (State.takeImage s n m r).still = s.still := by
  unfold State.takeImage
  repeat' first
    | with_reducible rfl
    | simp only [↓State.consumeMsg_still, ↓State.openRound_still, ↓State.roundImage_still, ↓State.stray_still, ↓upd_still, ↓foldl_still, ↓ite_still, ↓ite_still2, ite_self]
    | (with_reducible refine (foldl_still _ _ _ (fun s a => ?_)).trans ?_)
    | (with_reducible refine pair_still ‹_ = (_, _)› ?_)
    | (with_reducible refine triple_still ‹_ = (_, _, _)› ?_)
    | split

theorem State.takeResult_still (s : State) (n : Nat) (m : Msg) (r : Sender) : (State.takeResult s n m r).still = s.still := by
  unfold State.takeResult
  repeat' first
    | with_reducible rfl
    | simp only [↓State.consumeMsg_still, ↓State.nodesKnown_still, ↓State.roundResult_still, ↓upd_still, ↓foldl_still, ↓ite_still, ↓ite_still2, ite_self]
    | (with_reducible refine (foldl_still _ _ _ (fun s a => ?_)).trans ?_)
    | (with_reducible refine pair_still ‹_ = (_, _)› ?_)
    | (with_reducible refine triple_still ‹_ = (_, _, _)› ?_)
    | split

theorem State.pend_still (s : State) (k : Nat) (st : SeatState) : (State.pend s k st).still = s.still := by
  unfold State.pend
  repeat' first
    | with_reducible rfl
    | simp only [↓State.setSeat_still, ↓upd_still, ↓foldl_still, ↓ite_still, ↓ite_still2, ite_self]
    | (with_reducible refine (foldl_still _ _ _ (fun s a => ?_)).trans ?_)
    | (with_reducible refine pair_still ‹_ = (_, _)› ?_)
    | (with_reducible refine triple_still ‹_ = (_, _, _)› ?_)
    | split

theorem State.startMember_still (s : State) (k m : Nat) (tried : Nat) : (State.startMember s k m tried).still = s.still := by
  unfold State.startMember
  repeat' first
    | with_reducible rfl
    | simp only [↓State.setSeat_still, ↓upd_still, ↓foldl_still, ↓ite_still, ↓ite_still2, ite_self]
    | (with_reducible refine (foldl_still _ _ _ (fun s a => ?_)).trans ?_)
    | (with_reducible refine pair_still ‹_ = (_, _)› ?_)
    | (with_reducible refine triple_still ‹_ = (_, _, _)› ?_)
    | split

theorem State.applyNext_still (s : State) (k : Nat) : (State.applyNext s k).still = s.still := by
  unfold State.applyNext
  repeat' first
    | with_reducible rfl
    | simp only [↓State.fresh_still, ↓State.loadChoices_still, ↓State.noteSeat_still, ↓State.setSeat_still, ↓State.startMember_still, ↓upd_still, ↓foldl_still, ↓ite_still, ↓ite_still2, ite_self]
    | (with_reducible refine (foldl_still _ _ _ (fun s a => ?_)).trans ?_)
    | (with_reducible refine pair_still ‹_ = (_, _)› ?_)
    | (with_reducible refine triple_still ‹_ = (_, _, _)› ?_)
    | split

theorem State.followLane_still (s : State) (k : Nat) : (State.followLane s k).still = s.still := by
  unfold State.followLane
  repeat' first
    | with_reducible rfl
    | simp only [↓State.pend_still, ↓upd_still, ↓foldl_still, ↓ite_still, ↓ite_still2, ite_self]
    | (with_reducible refine (foldl_still _ _ _ (fun s a => ?_)).trans ?_)
    | (with_reducible refine pair_still ‹_ = (_, _)› ?_)
    | (with_reducible refine triple_still ‹_ = (_, _, _)› ?_)
    | split

theorem State.seatBoundary_still (s : State) : (State.seatBoundary s).still = s.still := by
  unfold State.seatBoundary
  repeat' first
    | with_reducible rfl
    | simp only [↓State.applyNext_still, ↓State.followLane_still, ↓State.setLaneSt_still, ↓upd_still, ↓foldl_still, ↓ite_still, ↓ite_still2, ite_self]
    | (with_reducible refine (foldl_still _ _ _ (fun s a => ?_)).trans ?_)
    | (with_reducible refine pair_still ‹_ = (_, _)› ?_)
    | (with_reducible refine triple_still ‹_ = (_, _, _)› ?_)
    | split

theorem State.outcome_still (s : State) (p : Nat) (c : LaneCause) (spared : Bool) : (State.outcome s p c spared).still = s.still := by
  unfold State.outcome
  repeat' first
    | with_reducible rfl
    | simp only [↓State.raiseAt_still, ↓upd_still, ↓foldl_still, ↓ite_still, ↓ite_still2, ite_self]
    | (with_reducible refine (foldl_still _ _ _ (fun s a => ?_)).trans ?_)
    | (with_reducible refine pair_still ‹_ = (_, _)› ?_)
    | (with_reducible refine triple_still ‹_ = (_, _, _)› ?_)
    | split

theorem State.assign_still (s : State) (p : Nat) (side : Side) (lane seat : Nat) : (State.assign s p side lane seat).still = s.still := by
  unfold State.assign
  repeat' first
    | with_reducible rfl
    | simp only [↓State.setLaneSt_still, ↓upd_still, ↓foldl_still, ↓ite_still, ↓ite_still2, ite_self]
    | (with_reducible refine (foldl_still _ _ _ (fun s a => ?_)).trans ?_)
    | (with_reducible refine pair_still ‹_ = (_, _)› ?_)
    | (with_reducible refine triple_still ‹_ = (_, _, _)› ?_)
    | split

theorem State.assignNext_still (s : State) (p lane seat : Nat) : (State.assignNext s p lane seat).still = s.still := by
  unfold State.assignNext
  repeat' first
    | with_reducible rfl
    | simp only [↓State.setLaneSt_still, ↓upd_still, ↓foldl_still, ↓ite_still, ↓ite_still2, ite_self]
    | (with_reducible refine (foldl_still _ _ _ (fun s a => ?_)).trans ?_)
    | (with_reducible refine pair_still ‹_ = (_, _)› ?_)
    | (with_reducible refine triple_still ‹_ = (_, _, _)› ?_)
    | split

theorem State.addMissing_still (s : State) (p : Nat) (m : Missing) : (State.addMissing s p m).still = s.still := by
  unfold State.addMissing
  repeat' first
    | with_reducible rfl
    | simp only [↓State.setLaneSt_still, ↓upd_still, ↓foldl_still, ↓ite_still, ↓ite_still2, ite_self]
    | (with_reducible refine (foldl_still _ _ _ (fun s a => ?_)).trans ?_)
    | (with_reducible refine pair_still ‹_ = (_, _)› ?_)
    | (with_reducible refine triple_still ‹_ = (_, _, _)› ?_)
    | split

theorem State.markNarrow_still (s : State) (k : Nat) : (State.markNarrow s k).still = s.still := by
  unfold State.markNarrow
  repeat' first
    | with_reducible rfl
    | simp only [↓upd_still, ↓foldl_still, ↓ite_still, ↓ite_still2, ite_self]
    | (with_reducible refine (foldl_still _ _ _ (fun s a => ?_)).trans ?_)
    | (with_reducible refine pair_still ‹_ = (_, _)› ?_)
    | (with_reducible refine triple_still ‹_ = (_, _, _)› ?_)
    | split

theorem State.keepLines_still (s : State) (p : Nat) : (State.keepLines s p).still = s.still := by
  unfold State.keepLines
  repeat' first
    | with_reducible rfl
    | simp only [↓State.setLink_still, ↓upd_still, ↓foldl_still, ↓ite_still, ↓ite_still2, ite_self]
    | (with_reducible refine (foldl_still _ _ _ (fun s a => ?_)).trans ?_)
    | (with_reducible refine pair_still ‹_ = (_, _)› ?_)
    | (with_reducible refine triple_still ‹_ = (_, _, _)› ?_)
    | split

theorem State.dropLane_still (s : State) (p lane : Nat) (c : LaneCause) (judged : Bool) : (State.dropLane s p lane c judged).still = s.still := by
  unfold State.dropLane
  repeat' first
    | with_reducible rfl
    | simp only [↓State.addMissing_still, ↓State.assign_still, ↓State.bump_still, ↓State.checkNarrow_still, ↓State.keepLines_still, ↓State.markNarrow_still, ↓State.queueOp_still, ↓State.setLaneSt_still, ↓upd_still, ↓foldl_still, ↓ite_still, ↓ite_still2, ite_self]
    | (with_reducible refine (foldl_still _ _ _ (fun s a => ?_)).trans ?_)
    | (with_reducible refine pair_still ‹_ = (_, _)› ?_)
    | (with_reducible refine triple_still ‹_ = (_, _, _)› ?_)
    | split

theorem State.swapLane_still (s : State) (p lane line : Nat) (c : LaneCause) : (State.swapLane s p lane line c).still = s.still := by
  unfold State.swapLane
  repeat' first
    | with_reducible rfl
    | simp only [↓State.bump_still, ↓State.queueOp_still, ↓State.setLaneSt_still, ↓upd_still, ↓foldl_still, ↓ite_still, ↓ite_still2, ite_self]
    | (with_reducible refine (foldl_still _ _ _ (fun s a => ?_)).trans ?_)
    | (with_reducible refine pair_still ‹_ = (_, _)› ?_)
    | (with_reducible refine triple_still ‹_ = (_, _, _)› ?_)
    | split

theorem State.swapsEnd_still (s : State) (p : Nat) : (State.swapsEnd s p).still = s.still := by
  unfold State.swapsEnd
  repeat' first
    | with_reducible rfl
    | simp only [↓State.assign_still, ↓State.setLaneSt_still, ↓upd_still, ↓foldl_still, ↓ite_still, ↓ite_still2, ite_self]
    | (with_reducible refine (foldl_still _ _ _ (fun s a => ?_)).trans ?_)
    | (with_reducible refine pair_still ‹_ = (_, _)› ?_)
    | (with_reducible refine triple_still ‹_ = (_, _, _)› ?_)
    | split

theorem State.addLane_still (s : State) (p lane line : Nat) (c : LaneCause) : (State.addLane s p lane line c).still = s.still := by
  unfold State.addLane
  repeat' first
    | with_reducible rfl
    | simp only [↓State.bump_still, ↓State.keepLines_still, ↓State.queueOp_still, ↓State.setLaneSt_still, ↓upd_still, ↓foldl_still, ↓ite_still, ↓ite_still2, ite_self]
    | (with_reducible refine (foldl_still _ _ _ (fun s a => ?_)).trans ?_)
    | (with_reducible refine pair_still ‹_ = (_, _)› ?_)
    | (with_reducible refine triple_still ‹_ = (_, _, _)› ?_)
    | split

theorem State.issueUp_still (s : State) (p : Nat) (o : LaneOp) : (State.issueUp s p o).still = s.still := by
  unfold State.issueUp
  repeat' first
    | with_reducible rfl
    | simp only [↓State.dropLane_still, ↓State.outcome_still, ↓State.queueOp_still, ↓State.swapLane_still, ↓upd_still, ↓foldl_still, ↓ite_still, ↓ite_still2, ite_self]
    | (with_reducible refine (foldl_still _ _ _ (fun s a => ?_)).trans ?_)
    | (with_reducible refine pair_still ‹_ = (_, _)› ?_)
    | (with_reducible refine triple_still ‹_ = (_, _, _)› ?_)
    | split

theorem State.issueDown_still (s : State) (p : Nat) (o : LaneOp) : (State.issueDown s p o).still = s.still := by
  unfold State.issueDown
  repeat' first
    | with_reducible rfl
    | simp only [↓State.addMissing_still, ↓State.assign_still, ↓State.assignNext_still, ↓State.markNarrow_still, ↓State.outcome_still, ↓upd_still, ↓foldl_still, ↓ite_still, ↓ite_still2, ite_self]
    | (with_reducible refine (foldl_still _ _ _ (fun s a => ?_)).trans ?_)
    | (with_reducible refine pair_still ‹_ = (_, _)› ?_)
    | (with_reducible refine triple_still ‹_ = (_, _, _)› ?_)
    | split

theorem State.issueAdd_still (s : State) (p : Nat) (m : Missing) : (State.issueAdd s p m).still = s.still := by
  unfold State.issueAdd
  repeat' first
    | with_reducible rfl
    | simp only [↓State.addLane_still, ↓State.raise1_still, ↓State.setLaneSt_still, ↓upd_still, ↓foldl_still, ↓ite_still, ↓ite_still2, ite_self]
    | (with_reducible refine (foldl_still _ _ _ (fun s a => ?_)).trans ?_)
    | (with_reducible refine pair_still ‹_ = (_, _)› ?_)
    | (with_reducible refine triple_still ‹_ = (_, _, _)› ?_)
    | split

theorem State.chooseSpare_still (s : State) (p : Nat) (m : Missing) : (State.chooseSpare s p m).still = s.still := by
  unfold State.chooseSpare
  repeat' first
    | with_reducible rfl
    | simp only [↓State.assignNext_still, ↓State.outcome_still, ↓State.setLaneSt_still, ↓upd_still, ↓foldl_still, ↓ite_still, ↓ite_still2, ite_self]
    | (with_reducible refine (foldl_still _ _ _ (fun s a => ?_)).trans ?_)
    | (with_reducible refine pair_still ‹_ = (_, _)› ?_)
    | (with_reducible refine triple_still ‹_ = (_, _, _)› ?_)
    | split

theorem State.serveLanes_still (s : State) (p : Nat) (issue : State → LaneOp → State) (due : List LaneOp) (h_issue : ∀ x0 x1, (issue x0 x1).still = x0.still) : (State.serveLanes s p issue due).still = s.still := by
  unfold State.serveLanes
  repeat' first
    | with_reducible rfl
    | simp only [↓State.chooseSpare_still, ↓State.issue_still, ↓upd_still, ↓foldl_still, ↓ite_still, ↓ite_still2, ite_self, ↓h_issue]
    | (with_reducible refine (foldl_still _ _ _ (fun s a => ?_)).trans ?_)
    | (with_reducible refine pair_still ‹_ = (_, _)› ?_)
    | (with_reducible refine triple_still ‹_ = (_, _, _)› ?_)
    | split

theorem State.pruneRestore_still (s : State) (p : Nat) : (State.pruneRestore s p).still = s.still := by
  unfold State.pruneRestore
  repeat' first
    | with_reducible rfl
    | simp only [↓State.setLaneSt_still, ↓State.wrB_still, ↓upd_still, ↓foldl_still, ↓ite_still, ↓ite_still2, ite_self]
    | (with_reducible refine (foldl_still _ _ _ (fun s a => ?_)).trans ?_)
    | (with_reducible refine pair_still ‹_ = (_, _)› ?_)
    | (with_reducible refine triple_still ‹_ = (_, _, _)› ?_)
    | split

theorem State.awaitPeer_still (s : State) (p : Nat) (w : RxWait) : (State.awaitPeer s p w).still = s.still := by
  unfold State.awaitPeer
  repeat' first
    | with_reducible rfl
    | simp only [↓State.setLaneSt_still, ↓upd_still, ↓foldl_still, ↓ite_still, ↓ite_still2, ite_self]
    | (with_reducible refine (foldl_still _ _ _ (fun s a => ?_)).trans ?_)
    | (with_reducible refine pair_still ‹_ = (_, _)› ?_)
    | (with_reducible refine triple_still ‹_ = (_, _, _)› ?_)
    | split

theorem State.laneDue_still (s : State) (p : Nat) (o : LaneOp) : (State.laneDue s p o).still = s.still := by
  unfold State.laneDue
  repeat' first
    | with_reducible rfl
    | simp only [↓State.setLaneSt_still, ↓upd_still, ↓foldl_still, ↓ite_still, ↓ite_still2, ite_self]
    | (with_reducible refine (foldl_still _ _ _ (fun s a => ?_)).trans ?_)
    | (with_reducible refine pair_still ‹_ = (_, _)› ?_)
    | (with_reducible refine triple_still ‹_ = (_, _, _)› ?_)
    | split

theorem State.laneLeaves_still (s : State) (k : Nat) (lane : Nat) (act req : LaneAct) (c : LaneCause) : (State.laneLeaves s k lane act req c).still = s.still := by
  unfold State.laneLeaves
  repeat' first
    | with_reducible rfl
    | simp only [↓State.awaitPeer_still, ↓State.laneDue_still, ↓upd_still, ↓foldl_still, ↓ite_still, ↓ite_still2, ite_self]
    | (with_reducible refine (foldl_still _ _ _ (fun s a => ?_)).trans ?_)
    | (with_reducible refine pair_still ‹_ = (_, _)› ?_)
    | (with_reducible refine triple_still ‹_ = (_, _, _)› ?_)
    | split

theorem State.seatToIdle_still (s : State) (k : Nat) : (State.seatToIdle s k).still = s.still := by
  unfold State.seatToIdle
  repeat' first
    | with_reducible rfl
    | simp only [↓State.noteSeat_still, ↓State.setSeat_still, ↓upd_still, ↓foldl_still, ↓ite_still, ↓ite_still2, ite_self]
    | (with_reducible refine (foldl_still _ _ _ (fun s a => ?_)).trans ?_)
    | (with_reducible refine pair_still ‹_ = (_, _)› ?_)
    | (with_reducible refine triple_still ‹_ = (_, _, _)› ?_)
    | split

theorem State.moveHg_still (s : State) (x : Nat) (m : HgMode) : (State.moveHg s x m).still = s.still := by
  unfold State.moveHg
  repeat' first
    | with_reducible rfl
    | simp only [↓State.setHg_still, ↓State.wrB_still, ↓upd_still, ↓foldl_still, ↓ite_still, ↓ite_still2, ite_self]
    | (with_reducible refine (foldl_still _ _ _ (fun s a => ?_)).trans ?_)
    | (with_reducible refine pair_still ‹_ = (_, _)› ?_)
    | (with_reducible refine triple_still ‹_ = (_, _, _)› ?_)
    | split

theorem State.followHgCtrl_still (s : State) (x : Nat) : (State.followHgCtrl s x).still = s.still := by
  unfold State.followHgCtrl
  repeat' first
    | with_reducible rfl
    | simp only [↓State.moveHg_still, ↓upd_still, ↓foldl_still, ↓ite_still, ↓ite_still2, ite_self]
    | (with_reducible refine (foldl_still _ _ _ (fun s a => ?_)).trans ?_)
    | (with_reducible refine pair_still ‹_ = (_, _)› ?_)
    | (with_reducible refine triple_still ‹_ = (_, _, _)› ?_)
    | split

theorem State.wrHgCtrl_still (x data : Nat) (s : State) : (State.wrHgCtrl x data s).still = s.still := by
  unfold State.wrHgCtrl
  repeat' first
    | with_reducible rfl
    | simp only [↓State.followHgCtrl_still, ↓State.writeFields_still, ↓upd_still, ↓foldl_still, ↓ite_still, ↓ite_still2, ite_self]
    | (with_reducible refine (foldl_still _ _ _ (fun s a => ?_)).trans ?_)
    | (with_reducible refine pair_still ‹_ = (_, _)› ?_)
    | (with_reducible refine triple_still ‹_ = (_, _, _)› ?_)
    | split

theorem State.lightSeats_still (s : State) (x : Nat) : (State.lightSeats s x).still = s.still := by
  unfold State.lightSeats
  repeat' first
    | with_reducible rfl
    | simp only [↓State.pend_still, ↓upd_still, ↓foldl_still, ↓ite_still, ↓ite_still2, ite_self]
    | (with_reducible refine (foldl_still _ _ _ (fun s a => ?_)).trans ?_)
    | (with_reducible refine pair_still ‹_ = (_, _)› ?_)
    | (with_reducible refine triple_still ‹_ = (_, _, _)› ?_)
    | split

theorem State.darkenSeats_still (s : State) (x : Nat) : (State.darkenSeats s x).still = s.still := by
  unfold State.darkenSeats
  repeat' first
    | with_reducible rfl
    | simp only [↓State.seatToIdle_still, ↓upd_still, ↓foldl_still, ↓ite_still, ↓ite_still2, ite_self]
    | (with_reducible refine (foldl_still _ _ _ (fun s a => ?_)).trans ?_)
    | (with_reducible refine pair_still ‹_ = (_, _)› ?_)
    | (with_reducible refine triple_still ‹_ = (_, _, _)› ?_)
    | split

theorem State.rampStep_still (s : State) (x : Nat) : (State.rampStep s x).still = s.still := by
  unfold State.rampStep
  repeat' first
    | with_reducible rfl
    | simp only [↓State.darkenSeats_still, ↓State.lightSeats_still, ↓State.moveHg_still, ↓State.wr_still, ↓upd_still, ↓foldl_still, ↓ite_still, ↓ite_still2, ite_self]
    | (with_reducible refine (foldl_still _ _ _ (fun s a => ?_)).trans ?_)
    | (with_reducible refine pair_still ‹_ = (_, _)› ?_)
    | (with_reducible refine triple_still ‹_ = (_, _, _)› ?_)
    | split

theorem State.shutAll_still (s : State) : (State.shutAll s).still = s.still := by
  unfold State.shutAll
  repeat' first
    | with_reducible rfl
    | simp only [↓State.moveHg_still, ↓State.wr_still, ↓upd_still, ↓foldl_still, ↓ite_still, ↓ite_still2, ite_self]
    | (with_reducible refine (foldl_still _ _ _ (fun s a => ?_)).trans ?_)
    | (with_reducible refine pair_still ‹_ = (_, _)› ?_)
    | (with_reducible refine triple_still ‹_ = (_, _, _)› ?_)
    | split

theorem State.openAll_still (s : State) : (State.openAll s).still = s.still := by
  unfold State.openAll
  repeat' first
    | with_reducible rfl
    | simp only [↓State.followHgCtrl_still, ↓upd_still, ↓foldl_still, ↓ite_still, ↓ite_still2, ite_self]
    | (with_reducible refine (foldl_still _ _ _ (fun s a => ?_)).trans ?_)
    | (with_reducible refine pair_still ‹_ = (_, _)› ?_)
    | (with_reducible refine triple_still ‹_ = (_, _, _)› ?_)
    | split

theorem State.wrPortCode_still (s : State) (p i : Nat) (c : Chan) (taint : Bool) : (State.wrPortCode s p i c taint).still = s.still := by
  unfold State.wrPortCode
  repeat' first
    | with_reducible rfl
    | simp only [↓State.wr_still, ↓State.wrB_still, ↓upd_still, ↓foldl_still, ↓ite_still, ↓ite_still2, ite_self]
    | (with_reducible refine (foldl_still _ _ _ (fun s a => ?_)).trans ?_)
    | (with_reducible refine pair_still ‹_ = (_, _)› ?_)
    | (with_reducible refine triple_still ‹_ = (_, _, _)› ?_)
    | split

theorem State.wrFlumeCode_still (s : State) (i : Nat) (c : Chan) (taint iso : Bool) : (State.wrFlumeCode s i c taint iso).still = s.still := by
  unfold State.wrFlumeCode
  repeat' first
    | with_reducible rfl
    | simp only [↓State.wr_still, ↓upd_still, ↓foldl_still, ↓ite_still, ↓ite_still2, ite_self]
    | (with_reducible refine (foldl_still _ _ _ (fun s a => ?_)).trans ?_)
    | (with_reducible refine pair_still ‹_ = (_, _)› ?_)
    | (with_reducible refine triple_still ‹_ = (_, _, _)› ?_)
    | split

theorem State.wrPortMasks_still (s : State) (p ovr taint : Nat) : (State.wrPortMasks s p ovr taint).still = s.still := by
  unfold State.wrPortMasks
  repeat' first
    | with_reducible rfl
    | simp only [↓State.addTo_still, ↓State.wr_still, ↓upd_still, ↓foldl_still, ↓ite_still, ↓ite_still2, ite_self]
    | (with_reducible refine (foldl_still _ _ _ (fun s a => ?_)).trans ?_)
    | (with_reducible refine pair_still ‹_ = (_, _)› ?_)
    | (with_reducible refine triple_still ‹_ = (_, _, _)› ?_)
    | split

theorem State.wrLos_still (s : State) (p : Nat) (clean : Nat → Bool) (dim : BitVec 18) : (State.wrLos s p clean dim).still = s.still := by
  unfold State.wrLos
  repeat' first
    | with_reducible rfl
    | simp only [↓State.wr_still, ↓upd_still, ↓foldl_still, ↓ite_still, ↓ite_still2, ite_self]
    | (with_reducible refine (foldl_still _ _ _ (fun s a => ?_)).trans ?_)
    | (with_reducible refine pair_still ‹_ = (_, _)› ?_)
    | (with_reducible refine triple_still ‹_ = (_, _, _)› ?_)
    | split

theorem State.sampleUnit_still (s : State) (u : MonUnit) (codes refBad : List Nat) (dim : BitVec 18) : (State.sampleUnit s u codes refBad dim).still = s.still := by
  unfold State.sampleUnit
  repeat' first
    | with_reducible rfl
    | simp only [↓State.raise_still, ↓State.setChan_still, ↓State.setRefRun_still, ↓State.wr_still, ↓State.wrFlumeCode_still, ↓State.wrLos_still, ↓State.wrPortCode_still, ↓State.wrPortMasks_still, ↓upd_still, ↓foldl_still, ↓ite_still, ↓ite_still2, ite_self]
    | (with_reducible refine (foldl_still _ _ _ (fun s a => ?_)).trans ?_)
    | (with_reducible refine pair_still ‹_ = (_, _)› ?_)
    | (with_reducible refine triple_still ‹_ = (_, _, _)› ?_)
    | split

theorem State.collectMesh_still (s : State) : (State.collectMesh s).still = s.still := by
  unfold State.collectMesh
  split
  · rfl
  · split <;> rfl

theorem State.discardSample_still (s : State) (key : Nat) : (State.discardSample s key).still = s.still := by
  unfold State.discardSample
  repeat' first
    | with_reducible rfl
    | simp only [↓State.setChan_still, ↓upd_still, ↓foldl_still, ↓ite_still, ↓ite_still2, ite_self]
    | (with_reducible refine (foldl_still _ _ _ (fun s a => ?_)).trans ?_)
    | (with_reducible refine pair_still ‹_ = (_, _)› ?_)
    | (with_reducible refine triple_still ‹_ = (_, _, _)› ?_)
    | split

theorem State.demod_still (s : State) (k : Nat) : (State.demod s k).still = s.still := by
  unfold State.demod
  repeat' first
    | with_reducible rfl
    | simp only [↓State.fresh_still, ↓State.setSeat_still, ↓upd_still, ↓foldl_still, ↓ite_still, ↓ite_still2, ite_self]
    | (with_reducible refine (foldl_still _ _ _ (fun s a => ?_)).trans ?_)
    | (with_reducible refine pair_still ‹_ = (_, _)› ?_)
    | (with_reducible refine triple_still ‹_ = (_, _, _)› ?_)
    | split

theorem State.dropVisit_still (s : State) (k : Nat) : (State.dropVisit s k).still = s.still := by
  unfold State.dropVisit
  repeat' first
    | with_reducible rfl
    | simp only [↓upd_still, ↓foldl_still, ↓ite_still, ↓ite_still2, ite_self]
    | (with_reducible refine (foldl_still _ _ _ (fun s a => ?_)).trans ?_)
    | (with_reducible refine pair_still ‹_ = (_, _)› ?_)
    | (with_reducible refine triple_still ‹_ = (_, _, _)› ?_)
    | split

theorem State.lossAfterWithdraw_still (s : State) (k lane : Nat) : (State.lossAfterWithdraw s k lane).still = s.still := by
  unfold State.lossAfterWithdraw
  repeat' first
    | with_reducible rfl
    | simp only [↓State.laneLeaves_still, ↓State.setLaneSt_still, ↓upd_still, ↓foldl_still, ↓ite_still, ↓ite_still2, ite_self]
    | (with_reducible refine (foldl_still _ _ _ (fun s a => ?_)).trans ?_)
    | (with_reducible refine pair_still ‹_ = (_, _)› ?_)
    | (with_reducible refine triple_still ‹_ = (_, _, _)› ?_)
    | split

theorem State.queueDelta_still (s : State) (d : List DeltaEntry) : (State.queueDelta s d).still = s.still := by
  unfold State.queueDelta
  repeat' first
    | with_reducible rfl
    | simp only [↓upd_still, ↓foldl_still, ↓ite_still, ↓ite_still2, ite_self]
    | (with_reducible refine (foldl_still _ _ _ (fun s a => ?_)).trans ?_)
    | (with_reducible refine pair_still ‹_ = (_, _)› ?_)
    | (with_reducible refine triple_still ‹_ = (_, _, _)› ?_)
    | split

theorem State.markUnusable_still (s : State) (k m : Nat) : (State.markUnusable s k m).still = s.still := by
  unfold State.markUnusable
  repeat' first
    | with_reducible rfl
    | simp only [↓State.setLiveCal_still, ↓upd_still, ↓foldl_still, ↓ite_still, ↓ite_still2, ite_self]
    | (with_reducible refine (foldl_still _ _ _ (fun s a => ?_)).trans ?_)
    | (with_reducible refine pair_still ‹_ = (_, _)› ?_)
    | (with_reducible refine triple_still ‹_ = (_, _, _)› ?_)
    | split

theorem State.seatFails_still (s : State) (k : Nat) : (State.seatFails s k).still = s.still := by
  unfold State.seatFails
  repeat' first
    | with_reducible rfl
    | simp only [↓State.laneLeaves_still, ↓State.pend_still, ↓State.raise1_still, ↓upd_still, ↓foldl_still, ↓ite_still, ↓ite_still2, ite_self]
    | (with_reducible refine (foldl_still _ _ _ (fun s a => ?_)).trans ?_)
    | (with_reducible refine pair_still ‹_ = (_, _)› ?_)
    | (with_reducible refine triple_still ‹_ = (_, _, _)› ?_)
    | split

theorem State.tryMember_still (s : State) (k m : Nat) (delta : List DeltaEntry) : (State.tryMember s k m delta).still = s.still := by
  unfold State.tryMember
  repeat' first
    | with_reducible rfl
    | simp only [↓State.queueDelta_still, ↓State.raise1_still, ↓State.startMember_still, ↓upd_still, ↓foldl_still, ↓ite_still, ↓ite_still2, ite_self]
    | (with_reducible refine (foldl_still _ _ _ (fun s a => ?_)).trans ?_)
    | (with_reducible refine pair_still ‹_ = (_, _)› ?_)
    | (with_reducible refine triple_still ‹_ = (_, _, _)› ?_)
    | split

theorem State.retrySeats_still (p : Nat) (side : Side) (data : Nat) (s : State) : (State.retrySeats p side data s).still = s.still := by
  unfold State.retrySeats
  repeat' first
    | with_reducible rfl
    | simp only [↓State.pend_still, ↓upd_still, ↓foldl_still, ↓ite_still, ↓ite_still2, ite_self]
    | (with_reducible refine (foldl_still _ _ _ (fun s a => ?_)).trans ?_)
    | (with_reducible refine pair_still ‹_ = (_, _)› ?_)
    | (with_reducible refine triple_still ‹_ = (_, _, _)› ?_)
    | split

theorem State.withdraw_still (s : State) (k : Nat) : (State.withdraw s k).still = s.still := by
  unfold State.withdraw
  repeat' first
    | with_reducible rfl
    | simp only [↓State.bump_still, ↓State.dropVisit_still, ↓State.laneLeaves_still, ↓State.raise1_still, ↓State.setChan_still, ↓State.setLaneSt_still, ↓State.setSeat_still, ↓upd_still, ↓foldl_still, ↓ite_still, ↓ite_still2, ite_self]
    | (with_reducible refine (foldl_still _ _ _ (fun s a => ?_)).trans ?_)
    | (with_reducible refine pair_still ‹_ = (_, _)› ?_)
    | (with_reducible refine triple_still ‹_ = (_, _, _)› ?_)
    | split

theorem State.darkStep_still (s : State) : (State.darkStep s).still = s.still := by
  unfold State.darkStep
  repeat' first
    | with_reducible rfl
    | simp only [↓State.setLaneSt_still, ↓upd_still, ↓foldl_still, ↓ite_still, ↓ite_still2, ite_self]
    | (with_reducible refine (foldl_still _ _ _ (fun s a => ?_)).trans ?_)
    | (with_reducible refine pair_still ‹_ = (_, _)› ?_)
    | (with_reducible refine triple_still ‹_ = (_, _, _)› ?_)
    | split

theorem State.darkFinish_still (s : State) : (State.darkFinish s).still = s.still := by
  unfold State.darkFinish
  repeat' first
    | with_reducible rfl
    | simp only [↓State.setLaneSt_still, ↓upd_still, ↓foldl_still, ↓ite_still, ↓ite_still2, ite_self]
    | (with_reducible refine (foldl_still _ _ _ (fun s a => ?_)).trans ?_)
    | (with_reducible refine pair_still ‹_ = (_, _)› ?_)
    | (with_reducible refine triple_still ‹_ = (_, _, _)› ?_)
    | split

theorem State.wrIdleDark_still (data : Nat) (s : State) : (State.wrIdleDark data s).still = s.still := by
  unfold State.wrIdleDark
  repeat' first
    | with_reducible rfl
    | simp only [↓State.setLaneSt_still, ↓State.writeFields_still, ↓upd_still, ↓foldl_still, ↓ite_still, ↓ite_still2, ite_self]
    | (with_reducible refine (foldl_still _ _ _ (fun s a => ?_)).trans ?_)
    | (with_reducible refine pair_still ‹_ = (_, _)› ?_)
    | (with_reducible refine triple_still ‹_ = (_, _, _)› ?_)
    | split

theorem State.wrRwlCtrl_still (p data : Nat) (s : State) : (State.wrRwlCtrl p data s).still = s.still := by
  unfold State.wrRwlCtrl
  repeat' first
    | with_reducible rfl
    | simp only [↓State.setLaneSt_still, ↓State.wrB_still, ↓State.writeFields_still, ↓upd_still, ↓foldl_still, ↓ite_still, ↓ite_still2, ite_self]
    | (with_reducible refine (foldl_still _ _ _ (fun s a => ?_)).trans ?_)
    | (with_reducible refine pair_still ‹_ = (_, _)› ?_)
    | (with_reducible refine triple_still ‹_ = (_, _, _)› ?_)
    | split

theorem State.serveRestore_still (s : State) (p : Nat) (issue : State → LaneOp → State) (h_issue : ∀ x0 x1, (issue x0 x1).still = x0.still) : (State.serveRestore s p issue).still = s.still := by
  unfold State.serveRestore
  repeat' first
    | with_reducible rfl
    | simp only [↓State.issue_still, ↓upd_still, ↓foldl_still, ↓ite_still, ↓ite_still2, ite_self, ↓h_issue]
    | (with_reducible refine (foldl_still _ _ _ (fun s a => ?_)).trans ?_)
    | (with_reducible refine pair_still ‹_ = (_, _)› ?_)
    | (with_reducible refine triple_still ‹_ = (_, _, _)› ?_)
    | split

theorem State.issueLaneOps_still (s : State) (p : Nat) : (State.issueLaneOps s p).still = s.still := by
  have hUp : ∀ s o, (State.issueUp s p o).still = s.still := fun s o => State.issueUp_still s p o
  have hDn : ∀ s o, (State.issueDown s p o).still = s.still := fun s o => State.issueDown_still s p o
  unfold State.issueLaneOps
  dsimp only
  split
  · split
    · rfl
    · split
      · rfl
      · rw [State.sendCtrl_still, State.pruneRestore_still, State.serveRestore_still _ _ _ hUp,
          State.serveLanes_still _ _ _ _ hUp, foldl_still _ _ _ fun s m => State.issueAdd_still s p m,
          State.swapsEnd_still, State.setLaneSt_still]
  · rw [State.pruneRestore_still, State.serveRestore_still _ _ _ hDn, State.serveLanes_still _ _ _ _ hDn,
      State.setLaneSt_still]

theorem State.clampTargets_still (s : State) : (State.clampTargets s).still = s.still := by
  unfold State.clampTargets
  repeat' first
    | with_reducible rfl
    | simp only [↓State.addTo_still, ↓State.raise_still, ↓State.setSeat_still, ↓upd_still, ↓foldl_still, ↓ite_still, ↓ite_still2, ite_self]
    | (with_reducible refine (foldl_still _ _ _ (fun s a => ?_)).trans ?_)
    | (with_reducible refine pair_still ‹_ = (_, _)› ?_)
    | (with_reducible refine triple_still ‹_ = (_, _, _)› ?_)
    | split

theorem State.commit_still (s : State) (x : Tab Int) : (State.commit s x).still = s.still := by
  unfold State.commit
  repeat' first
    | with_reducible rfl
    | simp only [↓State.addTo_still, ↓State.setSeat_still, ↓State.wr_still, ↓upd_still, ↓foldl_still, ↓ite_still, ↓ite_still2, ite_self]
    | (with_reducible refine (foldl_still _ _ _ (fun s a => ?_)).trans ?_)
    | (with_reducible refine pair_still ‹_ = (_, _)› ?_)
    | (with_reducible refine triple_still ‹_ = (_, _, _)› ?_)
    | split

theorem State.reportSat_still (s : State) (x : Tab Int) : (State.reportSat s x).still = s.still := by
  unfold State.reportSat
  repeat' first
    | with_reducible rfl
    | simp only [↓State.addTo_still, ↓State.raise_still, ↓upd_still, ↓foldl_still, ↓ite_still, ↓ite_still2, ite_self]
    | (with_reducible refine (foldl_still _ _ _ (fun s a => ?_)).trans ?_)
    | (with_reducible refine pair_still ‹_ = (_, _)› ?_)
    | (with_reducible refine triple_still ‹_ = (_, _, _)› ?_)
    | split

theorem State.markDirty_still (s : State) (b : Nat) : (State.markDirty s b).still = s.still := by
  unfold State.markDirty
  repeat' first
    | with_reducible rfl
    | simp only [↓State.wrBit_still, ↓upd_still, ↓foldl_still, ↓ite_still, ↓ite_still2, ite_self]
    | (with_reducible refine (foldl_still _ _ _ (fun s a => ?_)).trans ?_)
    | (with_reducible refine pair_still ‹_ = (_, _)› ?_)
    | (with_reducible refine triple_still ‹_ = (_, _, _)› ?_)
    | split

theorem State.baAbandon_still (s : State) (result : Nat) : (State.baAbandon s result).still = s.still := by
  unfold State.baAbandon
  repeat' first
    | with_reducible rfl
    | simp only [↓State.bump_still, ↓State.raise1_still, ↓State.wr_still, ↓State.wrB_still, ↓State.wrPair_still, ↓upd_still, ↓foldl_still, ↓ite_still, ↓ite_still2, ite_self]
    | (with_reducible refine (foldl_still _ _ _ (fun s a => ?_)).trans ?_)
    | (with_reducible refine pair_still ‹_ = (_, _)› ?_)
    | (with_reducible refine triple_still ‹_ = (_, _, _)› ?_)
    | split

theorem State.holdEndsBa_still (s : State) : (State.holdEndsBa s).still = s.still := by
  unfold State.holdEndsBa
  repeat' first
    | with_reducible rfl
    | simp only [↓State.baAbandon_still, ↓upd_still, ↓foldl_still, ↓ite_still, ↓ite_still2, ite_self]
    | (with_reducible refine (foldl_still _ _ _ (fun s a => ?_)).trans ?_)
    | (with_reducible refine pair_still ‹_ = (_, _)› ?_)
    | (with_reducible refine triple_still ‹_ = (_, _, _)› ?_)
    | split

theorem State.loadBase_still (s : State) : (State.loadBase s).still = s.still := by
  unfold State.loadBase
  repeat' first
    | with_reducible rfl
    | simp only [↓State.wr_still, ↓upd_still, ↓foldl_still, ↓ite_still, ↓ite_still2, ite_self]
    | (with_reducible refine (foldl_still _ _ _ (fun s a => ?_)).trans ?_)
    | (with_reducible refine pair_still ‹_ = (_, _)› ?_)
    | (with_reducible refine triple_still ‹_ = (_, _, _)› ?_)
    | split

theorem State.enterRebuild_still (s : State) : (State.enterRebuild s).still = s.still := by
  unfold State.enterRebuild
  repeat' first
    | with_reducible rfl
    | simp only [↓State.holdEndsBa_still, ↓State.loadBase_still, ↓State.raise1_still, ↓State.wr_still, ↓upd_still, ↓foldl_still, ↓ite_still, ↓ite_still2, ite_self]
    | (with_reducible refine (foldl_still _ _ _ (fun s a => ?_)).trans ?_)
    | (with_reducible refine pair_still ‹_ = (_, _)› ?_)
    | (with_reducible refine triple_still ‹_ = (_, _, _)› ?_)
    | split

theorem State.loadLeveller_still (s : State) : (State.loadLeveller s).still = s.still := by
  unfold State.loadLeveller
  repeat' first
    | with_reducible rfl
    | simp only [↓State.loadBase_still, ↓upd_still, ↓foldl_still, ↓ite_still, ↓ite_still2, ite_self]
    | (with_reducible refine (foldl_still _ _ _ (fun s a => ?_)).trans ?_)
    | (with_reducible refine pair_still ‹_ = (_, _)› ?_)
    | (with_reducible refine triple_still ‹_ = (_, _, _)› ?_)
    | split

theorem State.solveMiss_still (s : State) : (State.solveMiss s).still = s.still := by
  unfold State.solveMiss
  repeat' first
    | with_reducible rfl
    | simp only [↓State.bump_still, ↓State.clampTargets_still, ↓State.commit_still, ↓State.holdEndsBa_still, ↓State.raise1_still, ↓State.reportSat_still, ↓State.wr_still, ↓upd_still, ↓foldl_still, ↓ite_still, ↓ite_still2, ite_self]
    | (with_reducible refine (foldl_still _ _ _ (fun s a => ?_)).trans ?_)
    | (with_reducible refine pair_still ‹_ = (_, _)› ?_)
    | (with_reducible refine triple_still ‹_ = (_, _, _)› ?_)
    | split

theorem State.solveDone_still (s : State) (endCycle : Nat) : (State.solveDone s endCycle).still = s.still := by
  unfold State.solveDone
  repeat' first
    | with_reducible rfl
    | simp only [↓State.clampTargets_still, ↓State.commit_still, ↓State.fresh_still, ↓State.reportSat_still, ↓State.wr_still, ↓upd_still, ↓foldl_still, ↓ite_still, ↓ite_still2, ite_self]
    | (with_reducible refine (foldl_still _ _ _ (fun s a => ?_)).trans ?_)
    | (with_reducible refine pair_still ‹_ = (_, _)› ?_)
    | (with_reducible refine triple_still ‹_ = (_, _, _)› ?_)
    | split

theorem State.lvlFinish_still (s : State) : (State.lvlFinish s).still = s.still := by
  unfold State.lvlFinish
  repeat' first
    | with_reducible rfl
    | simp only [↓State.setSeat_still, ↓upd_still, ↓foldl_still, ↓ite_still, ↓ite_still2, ite_self]
    | (with_reducible refine (foldl_still _ _ _ (fun s a => ?_)).trans ?_)
    | (with_reducible refine pair_still ‹_ = (_, _)› ?_)
    | (with_reducible refine triple_still ‹_ = (_, _, _)› ?_)
    | split

theorem State.applyList_still (s : State) (l : DeltaList) : (State.applyList s l).still = s.still := by
  unfold State.applyList
  repeat' first
    | with_reducible rfl
    | simp only [↓State.bump_still, ↓State.markDirty_still, ↓State.raise1_still, ↓upd_still, ↓foldl_still, ↓ite_still, ↓ite_still2, ite_self]
    | (with_reducible refine (foldl_still _ _ _ (fun s a => ?_)).trans ?_)
    | (with_reducible refine pair_still ‹_ = (_, _)› ?_)
    | (with_reducible refine triple_still ‹_ = (_, _, _)› ?_)
    | split

theorem State.refactorDone_still (s : State) (b : Nat) : (State.refactorDone s b).still = s.still := by
  unfold State.refactorDone
  repeat' first
    | with_reducible rfl
    | simp only [↓State.bump_still, ↓State.wrBit_still, ↓upd_still, ↓foldl_still, ↓ite_still, ↓ite_still2, ite_self]
    | (with_reducible refine (foldl_still _ _ _ (fun s a => ?_)).trans ?_)
    | (with_reducible refine pair_still ‹_ = (_, _)› ?_)
    | (with_reducible refine triple_still ‹_ = (_, _, _)› ?_)
    | split

theorem State.lvlBoundary_still (s : State) : (State.lvlBoundary s).still = s.still := by
  unfold State.lvlBoundary
  repeat' first
    | with_reducible rfl
    | simp only [↓State.wr_still, ↓upd_still, ↓foldl_still, ↓ite_still, ↓ite_still2, ite_self]
    | (with_reducible refine (foldl_still _ _ _ (fun s a => ?_)).trans ?_)
    | (with_reducible refine pair_still ‹_ = (_, _)› ?_)
    | (with_reducible refine triple_still ‹_ = (_, _, _)› ?_)
    | split

theorem State.wrLvlCtrl_still (data : Nat) (s : State) : (State.wrLvlCtrl data s).still = s.still := by
  unfold State.wrLvlCtrl
  repeat' first
    | with_reducible rfl
    | simp only [↓State.wr_still, ↓State.writeFields_still, ↓upd_still, ↓foldl_still, ↓ite_still, ↓ite_still2, ite_self]
    | (with_reducible refine (foldl_still _ _ _ (fun s a => ?_)).trans ?_)
    | (with_reducible refine pair_still ‹_ = (_, _)› ?_)
    | (with_reducible refine triple_still ‹_ = (_, _, _)› ?_)
    | split

theorem State.baStart_still (s : State) (cold : Bool) (window : Nat) : (State.baStart s cold window).still = s.still := by
  unfold State.baStart
  repeat' first
    | with_reducible rfl
    | simp only [↓State.wr_still, ↓State.wrB_still, ↓upd_still, ↓foldl_still, ↓ite_still, ↓ite_still2, ite_self]
    | (with_reducible refine (foldl_still _ _ _ (fun s a => ?_)).trans ?_)
    | (with_reducible refine pair_still ‹_ = (_, _)› ?_)
    | (with_reducible refine triple_still ‹_ = (_, _, _)› ?_)
    | split

theorem State.baAccept_still (s : State) (r : BaRun) (est : List Int) : (State.baAccept s r est).still = s.still := by
  unfold State.baAccept
  repeat' first
    | with_reducible rfl
    | simp only [↓State.bump_still, ↓State.wr_still, ↓State.wrB_still, ↓State.wrPair_still, ↓upd_still, ↓foldl_still, ↓ite_still, ↓ite_still2, ite_self]
    | (with_reducible refine (foldl_still _ _ _ (fun s a => ?_)).trans ?_)
    | (with_reducible refine pair_still ‹_ = (_, _)› ?_)
    | (with_reducible refine triple_still ‹_ = (_, _, _)› ?_)
    | split

theorem State.readSensors_still (s : State) (temps : List Int) : (State.readSensors s temps).still = s.still := by
  unfold State.readSensors
  repeat' first
    | with_reducible rfl
    | simp only [↓State.fresh_still, ↓State.raise_still, ↓State.setSensor_still, ↓State.wrB_still, ↓State.wrI_still, ↓upd_still, ↓foldl_still, ↓ite_still, ↓ite_still2, ite_self]
    | (with_reducible refine (foldl_still _ _ _ (fun s a => ?_)).trans ?_)
    | (with_reducible refine pair_still ‹_ = (_, _)› ?_)
    | (with_reducible refine triple_still ‹_ = (_, _, _)› ?_)
    | split

theorem State.datumTo_still (s : State) (st : Nat) : (State.datumTo s st).still = s.still := by
  unfold State.datumTo
  repeat' first
    | with_reducible rfl
    | simp only [↓State.wr_still, ↓State.wrB_still, ↓upd_still, ↓foldl_still, ↓ite_still, ↓ite_still2, ite_self]
    | (with_reducible refine (foldl_still _ _ _ (fun s a => ?_)).trans ?_)
    | (with_reducible refine pair_still ‹_ = (_, _)› ?_)
    | (with_reducible refine triple_still ‹_ = (_, _, _)› ?_)
    | split

theorem State.datumReject_still (s : State) (reason : Nat) : (State.datumReject s reason).still = s.still := by
  unfold State.datumReject
  repeat' first
    | with_reducible rfl
    | simp only [↓State.datumTo_still, ↓State.raise1_still, ↓State.wr_still, ↓upd_still, ↓foldl_still, ↓ite_still, ↓ite_still2, ite_self]
    | (with_reducible refine (foldl_still _ _ _ (fun s a => ?_)).trans ?_)
    | (with_reducible refine pair_still ‹_ = (_, _)› ?_)
    | (with_reducible refine triple_still ‹_ = (_, _, _)› ?_)
    | split

theorem State.wrDtmCtrl_still (data : Nat) (s : State) : (State.wrDtmCtrl data s).still = s.still := by
  unfold State.wrDtmCtrl
  repeat' first
    | with_reducible rfl
    | simp only [↓State.datumTo_still, ↓State.writeFields_still, ↓upd_still, ↓foldl_still, ↓ite_still, ↓ite_still2, ite_self]
    | (with_reducible refine (foldl_still _ _ _ (fun s a => ?_)).trans ?_)
    | (with_reducible refine pair_still ‹_ = (_, _)› ?_)
    | (with_reducible refine triple_still ‹_ = (_, _, _)› ?_)
    | split

theorem State.setPassPair_still (s : State) (p k : Nat) : (State.setPassPair s p k).still = s.still := by
  unfold State.setPassPair
  repeat' first
    | with_reducible rfl
    | simp only [↓upd_still, ↓foldl_still, ↓ite_still, ↓ite_still2, ite_self]
    | (with_reducible refine (foldl_still _ _ _ (fun s a => ?_)).trans ?_)
    | (with_reducible refine pair_still ‹_ = (_, _)› ?_)
    | (with_reducible refine triple_still ‹_ = (_, _, _)› ?_)
    | split

theorem State.startVisit_still (s : State) (u : SeatId) (pass : Bool) : (State.startVisit s u pass).still = s.still := by
  unfold State.startVisit
  repeat' first
    | with_reducible rfl
    | simp only [↓State.laneLeaves_still, ↓State.pend_still, ↓upd_still, ↓foldl_still, ↓ite_still, ↓ite_still2, ite_self]
    | (with_reducible refine (foldl_still _ _ _ (fun s a => ?_)).trans ?_)
    | (with_reducible refine pair_still ‹_ = (_, _)› ?_)
    | (with_reducible refine triple_still ‹_ = (_, _, _)› ?_)
    | split

theorem State.setVisit_still (s : State) (k : Nat) (v : Visit) : (State.setVisit s k v).still = s.still := by
  unfold State.setVisit
  repeat' first
    | with_reducible rfl
    | simp only [↓upd_still, ↓foldl_still, ↓ite_still, ↓ite_still2, ite_self]
    | (with_reducible refine (foldl_still _ _ _ (fun s a => ?_)).trans ?_)
    | (with_reducible refine pair_still ‹_ = (_, _)› ?_)
    | (with_reducible refine triple_still ‹_ = (_, _, _)› ?_)
    | split

theorem State.skipStep_still (s : State) (k : Nat) (v : Visit) : (State.skipStep s k v).still = s.still := by
  unfold State.skipStep
  repeat' first
    | with_reducible rfl
    | simp only [↓State.setVisit_still, ↓upd_still, ↓foldl_still, ↓ite_still, ↓ite_still2, ite_self]
    | (with_reducible refine (foldl_still _ _ _ (fun s a => ?_)).trans ?_)
    | (with_reducible refine pair_still ‹_ = (_, _)› ?_)
    | (with_reducible refine triple_still ‹_ = (_, _, _)› ?_)
    | split

theorem State.visitLive_still (s : State) (k : Nat) (r interp : CalEntry) : (State.visitLive s k r interp).still = s.still := by
  unfold State.visitLive
  repeat' first
    | with_reducible rfl
    | simp only [↓State.setLiveCal_still, ↓State.setSeat_still, ↓upd_still, ↓foldl_still, ↓ite_still, ↓ite_still2, ite_self]
    | (with_reducible refine (foldl_still _ _ _ (fun s a => ?_)).trans ?_)
    | (with_reducible refine pair_still ‹_ = (_, _)› ?_)
    | (with_reducible refine triple_still ‹_ = (_, _, _)› ?_)
    | split

theorem State.renewSet_still (s : State) (k : Nat) (v : Visit) (r : CalEntry) : (State.renewSet s k v r).still = s.still := by
  unfold State.renewSet
  repeat' first
    | with_reducible rfl
    | simp only [↓State.visitLive_still, ↓upd_still, ↓foldl_still, ↓ite_still, ↓ite_still2, ite_self]
    | (with_reducible refine (foldl_still _ _ _ (fun s a => ?_)).trans ?_)
    | (with_reducible refine pair_still ‹_ = (_, _)› ?_)
    | (with_reducible refine triple_still ‹_ = (_, _, _)› ?_)
    | split

theorem State.endPass_still (s : State) (p : Nat) : (State.endPass s p).still = s.still := by
  unfold State.endPass
  repeat' first
    | with_reducible rfl
    | simp only [↓State.bump_still, ↓State.setPassPair_still, ↓State.wrBit_still, ↓State.wrHalf_still, ↓upd_still, ↓foldl_still, ↓ite_still, ↓ite_still2, ite_self]
    | (with_reducible refine (foldl_still _ _ _ (fun s a => ?_)).trans ?_)
    | (with_reducible refine pair_still ‹_ = (_, _)› ?_)
    | (with_reducible refine triple_still ‹_ = (_, _, _)› ?_)
    | split

theorem State.advancePass_still (s : State) (p from' : Nat) : (State.advancePass s p from').still = s.still := by
  unfold State.advancePass
  repeat' first
    | with_reducible rfl
    | simp only [↓State.endPass_still, ↓State.setPassPair_still, ↓upd_still, ↓foldl_still, ↓ite_still, ↓ite_still2, ite_self]
    | (with_reducible refine (foldl_still _ _ _ (fun s a => ?_)).trans ?_)
    | (with_reducible refine pair_still ‹_ = (_, _)› ?_)
    | (with_reducible refine triple_still ‹_ = (_, _, _)› ?_)
    | split

theorem State.queuePass_still (s : State) (p : Nat) : (State.queuePass s p).still = s.still := by
  unfold State.queuePass
  repeat' first
    | with_reducible rfl
    | simp only [↓State.wrBit_still, ↓upd_still, ↓foldl_still, ↓ite_still, ↓ite_still2, ite_self]
    | (with_reducible refine (foldl_still _ _ _ (fun s a => ?_)).trans ?_)
    | (with_reducible refine pair_still ‹_ = (_, _)› ?_)
    | (with_reducible refine triple_still ‹_ = (_, _, _)› ?_)
    | split

theorem State.wrPassReq_still (data : Nat) (s : State) : (State.wrPassReq data s).still = s.still := by
  unfold State.wrPassReq
  repeat' first
    | with_reducible rfl
    | simp only [↓State.queuePass_still, ↓upd_still, ↓foldl_still, ↓ite_still, ↓ite_still2, ite_self]
    | (with_reducible refine (foldl_still _ _ _ (fun s a => ?_)).trans ?_)
    | (with_reducible refine pair_still ‹_ = (_, _)› ?_)
    | (with_reducible refine triple_still ‹_ = (_, _, _)› ?_)
    | split

theorem State.passBoundary_still (s : State) : (State.passBoundary s).still = s.still := by
  unfold State.passBoundary
  repeat' first
    | with_reducible rfl
    | simp only [↓State.advancePass_still, ↓upd_still, ↓foldl_still, ↓ite_still, ↓ite_still2, ite_self]
    | (with_reducible refine (foldl_still _ _ _ (fun s a => ?_)).trans ?_)
    | (with_reducible refine pair_still ‹_ = (_, _)› ?_)
    | (with_reducible refine triple_still ‹_ = (_, _, _)› ?_)
    | split

theorem State.visitMoved_still (s : State) (k : Nat) (narrow : Bool) : (State.visitMoved s k narrow).still = s.still := by
  unfold State.visitMoved
  repeat' first
    | with_reducible rfl
    | simp only [↓State.pend_still, ↓State.setVisit_still, ↓upd_still, ↓foldl_still, ↓ite_still, ↓ite_still2, ite_self]
    | (with_reducible refine (foldl_still _ _ _ (fun s a => ?_)).trans ?_)
    | (with_reducible refine pair_still ‹_ = (_, _)› ?_)
    | (with_reducible refine triple_still ‹_ = (_, _, _)› ?_)
    | split

theorem State.beginRelock_still (s : State) (b attempt : Nat) : (State.beginRelock s b attempt).still = s.still := by
  unfold State.beginRelock
  repeat' first
    | with_reducible rfl
    | simp only [↓State.bump_still, ↓State.setSynth_still, ↓State.wr_still, ↓upd_still, ↓foldl_still, ↓ite_still, ↓ite_still2, ite_self]
    | (with_reducible refine (foldl_still _ _ _ (fun s a => ?_)).trans ?_)
    | (with_reducible refine pair_still ‹_ = (_, _)› ?_)
    | (with_reducible refine triple_still ‹_ = (_, _, _)› ?_)
    | split

theorem State.relockAfterPause_still (s : State) (p : Nat) : (State.relockAfterPause s p).still = s.still := by
  unfold State.relockAfterPause
  repeat' first
    | with_reducible rfl
    | simp only [↓State.beginRelock_still, ↓upd_still, ↓foldl_still, ↓ite_still, ↓ite_still2, ite_self]
    | (with_reducible refine (foldl_still _ _ _ (fun s a => ?_)).trans ?_)
    | (with_reducible refine pair_still ‹_ = (_, _)› ?_)
    | (with_reducible refine triple_still ‹_ = (_, _, _)› ?_)
    | split

theorem State.askRelock_still (s : State) (b : Nat) : (State.askRelock s b).still = s.still := by
  unfold State.askRelock
  repeat' first
    | with_reducible rfl
    | simp only [↓State.beginRelock_still, ↓State.relockAfterPause_still, ↓State.setSynth_still, ↓State.startPause_still, ↓upd_still, ↓foldl_still, ↓ite_still, ↓ite_still2, ite_self]
    | (with_reducible refine (foldl_still _ _ _ (fun s a => ?_)).trans ?_)
    | (with_reducible refine pair_still ‹_ = (_, _)› ?_)
    | (with_reducible refine triple_still ‹_ = (_, _, _)› ?_)
    | split

theorem State.setRate_still (s : State) (b rate : Nat) : (State.setRate s b rate).still = s.still := by
  unfold State.setRate
  repeat' first
    | with_reducible rfl
    | simp only [↓State.beginRelock_still, ↓State.wr_still, ↓upd_still, ↓foldl_still, ↓ite_still, ↓ite_still2, ite_self]
    | (with_reducible refine (foldl_still _ _ _ (fun s a => ?_)).trans ?_)
    | (with_reducible refine pair_still ‹_ = (_, _)› ?_)
    | (with_reducible refine triple_still ‹_ = (_, _, _)› ?_)
    | split

theorem State.leaveFailed_still (s : State) (b : Nat) : (State.leaveFailed s b).still = s.still := by
  unfold State.leaveFailed
  repeat' first
    | with_reducible rfl
    | simp only [↓State.beginRelock_still, ↓upd_still, ↓foldl_still, ↓ite_still, ↓ite_still2, ite_self]
    | (with_reducible refine (foldl_still _ _ _ (fun s a => ?_)).trans ?_)
    | (with_reducible refine pair_still ‹_ = (_, _)› ?_)
    | (with_reducible refine triple_still ‹_ = (_, _, _)› ?_)
    | split

theorem State.askChange_still (s : State) (kind : ChangeKind) (target ports : List Nat) : (State.askChange s kind target ports).still = s.still := by
  unfold State.askChange
  repeat' first
    | with_reducible rfl
    | simp only [↓State.fresh_still, ↓upd_still, ↓foldl_still, ↓ite_still, ↓ite_still2, ite_self]
    | (with_reducible refine (foldl_still _ _ _ (fun s a => ?_)).trans ?_)
    | (with_reducible refine pair_still ‹_ = (_, _)› ?_)
    | (with_reducible refine triple_still ‹_ = (_, _, _)› ?_)
    | split

theorem State.autoCross_still (s : State) (f : Nat) : (State.autoCross s f).still = s.still := by
  unfold State.autoCross
  repeat' first
    | with_reducible rfl
    | simp only [↓State.askChange_still, ↓State.raise1_still, ↓State.wr_still, ↓upd_still, ↓foldl_still, ↓ite_still, ↓ite_still2, ite_self]
    | (with_reducible refine (foldl_still _ _ _ (fun s a => ?_)).trans ?_)
    | (with_reducible refine pair_still ‹_ = (_, _)› ?_)
    | (with_reducible refine triple_still ‹_ = (_, _, _)› ?_)
    | split

theorem State.endJob_still (s : State) (st det : Nat) (j : Job) : (State.endJob s st det j).still = s.still := by
  unfold State.endJob
  repeat' first
    | with_reducible rfl
    | simp only [↓State.dropJob_still, ↓State.jobEnds_still, ↓upd_still, ↓foldl_still, ↓ite_still, ↓ite_still2, ite_self]
    | (with_reducible refine (foldl_still _ _ _ (fun s a => ?_)).trans ?_)
    | (with_reducible refine pair_still ‹_ = (_, _)› ?_)
    | (with_reducible refine triple_still ‹_ = (_, _, _)› ?_)
    | split

theorem State.endWork_still (s : State) (n st det : Nat) : (State.endWork s n st det).still = s.still := by
  unfold State.endWork
  repeat' first
    | with_reducible rfl
    | simp only [↓State.cancelJobs_still, ↓State.complete_still, ↓State.endJob_still, ↓upd_still, ↓foldl_still, ↓ite_still, ↓ite_still2, ite_self]
    | (with_reducible refine (foldl_still _ _ _ (fun s a => ?_)).trans ?_)
    | (with_reducible refine pair_still ‹_ = (_, _)› ?_)
    | (with_reducible refine triple_still ‹_ = (_, _, _)› ?_)
    | split

theorem State.endHeld_still (s : State) (n st det : Nat) : (State.endHeld s n st det).still = s.still := by
  unfold State.endHeld
  repeat' first
    | with_reducible rfl
    | simp only [↓State.cancelJobs_still, ↓State.complete_still, ↓State.dropJob_still, ↓State.extentDone_still, ↓upd_still, ↓foldl_still, ↓ite_still, ↓ite_still2, ite_self]
    | (with_reducible refine (foldl_still _ _ _ (fun s a => ?_)).trans ?_)
    | (with_reducible refine pair_still ‹_ = (_, _)› ?_)
    | (with_reducible refine triple_still ‹_ = (_, _, _)› ?_)
    | split

theorem State.clearStream_still (s : State) (n : Nat) : (State.clearStream s n).still = s.still := by
  unfold State.clearStream
  repeat' first
    | with_reducible rfl
    | simp only [↓State.returnPages_still, ↓State.setLink_still, ↓upd_still, ↓foldl_still, ↓ite_still, ↓ite_still2, ite_self]
    | (with_reducible refine (foldl_still _ _ _ (fun s a => ?_)).trans ?_)
    | (with_reducible refine pair_still ‹_ = (_, _)› ?_)
    | (with_reducible refine triple_still ‹_ = (_, _, _)› ?_)
    | split

theorem State.clearControl_still (s : State) (p resets : Nat) : (State.clearControl s p resets).still = s.still := by
  unfold State.clearControl
  repeat' first
    | with_reducible rfl
    | simp only [↓State.answered_still, ↓State.relockAfterPause_still, ↓State.setLink_still, ↓State.wr_still, ↓upd_still, ↓foldl_still, ↓ite_still, ↓ite_still2, ite_self]
    | (with_reducible refine (foldl_still _ _ _ (fun s a => ?_)).trans ?_)
    | (with_reducible refine pair_still ‹_ = (_, _)› ?_)
    | (with_reducible refine triple_still ‹_ = (_, _, _)› ?_)
    | split

theorem State.laneOpsLost_still (s : State) (p : Nat) : (State.laneOpsLost s p).still = s.still := by
  unfold State.laneOpsLost
  repeat' first
    | with_reducible rfl
    | simp only [↓State.assign_still, ↓State.setLaneSt_still, ↓State.swapsEnd_still, ↓State.visitMoved_still, ↓upd_still, ↓foldl_still, ↓ite_still, ↓ite_still2, ite_self]
    | (with_reducible refine (foldl_still _ _ _ (fun s a => ?_)).trans ?_)
    | (with_reducible refine pair_still ‹_ = (_, _)› ?_)
    | (with_reducible refine triple_still ‹_ = (_, _, _)› ?_)
    | split

theorem State.toWait_still (s : State) (p resets : Nat) : (State.toWait s p resets).still = s.still := by
  unfold State.toWait
  repeat' first
    | with_reducible rfl
    | simp only [↓State.clearControl_still, ↓State.laneOpsLost_still, ↓State.leaveFailed_still, ↓State.linkTo_still, ↓State.returnPages_still, ↓State.setLink_still, ↓upd_still, ↓foldl_still, ↓ite_still, ↓ite_still2, ite_self]
    | (with_reducible refine (foldl_still _ _ _ (fun s a => ?_)).trans ?_)
    | (with_reducible refine pair_still ‹_ = (_, _)› ?_)
    | (with_reducible refine triple_still ‹_ = (_, _, _)› ?_)
    | split

theorem State.linkFail_still (s : State) (p reason : Nat) : (State.linkFail s p reason).still = s.still := by
  unfold State.linkFail
  repeat' first
    | with_reducible rfl
    | simp only [↓State.autoCross_still, ↓State.clearControl_still, ↓State.linkTo_still, ↓State.raise1_still, ↓State.returnPages_still, ↓State.setLink_still, ↓State.wr_still, ↓upd_still, ↓foldl_still, ↓ite_still, ↓ite_still2, ite_self]
    | (with_reducible refine (foldl_still _ _ _ (fun s a => ?_)).trans ?_)
    | (with_reducible refine pair_still ‹_ = (_, _)› ?_)
    | (with_reducible refine triple_still ‹_ = (_, _, _)› ?_)
    | split

theorem State.leaveFanRx_still (s : State) (p : Nat) : (State.leaveFanRx s p).still = s.still := by
  unfold State.leaveFanRx
  repeat' first
    | with_reducible rfl
    | simp only [↓State.returnPages_still, ↓State.setLink_still, ↓State.wr_still, ↓upd_still, ↓foldl_still, ↓ite_still, ↓ite_still2, ite_self]
    | (with_reducible refine (foldl_still _ _ _ (fun s a => ?_)).trans ?_)
    | (with_reducible refine pair_still ‹_ = (_, _)› ?_)
    | (with_reducible refine triple_still ‹_ = (_, _, _)› ?_)
    | split

theorem State.failRounds_still (s : State) (p : Nat) : (State.failRounds s p).still = s.still := by
  unfold State.failRounds
  repeat' first
    | with_reducible rfl
    | simp only [↓State.failRound_still, ↓upd_still, ↓foldl_still, ↓ite_still, ↓ite_still2, ite_self]
    | (with_reducible refine (foldl_still _ _ _ (fun s a => ?_)).trans ?_)
    | (with_reducible refine pair_still ‹_ = (_, _)› ?_)
    | (with_reducible refine triple_still ‹_ = (_, _, _)› ?_)
    | split

theorem State.takeDownOne_still (s : State) (p : Nat) (f : LinkFault) : (State.takeDownOne s p f).still = s.still := by
  unfold State.takeDownOne
  repeat' first
    | with_reducible rfl
    | simp only [↓State.autoCross_still, ↓State.bump_still, ↓State.clearControl_still, ↓State.clearStream_still, ↓State.endHeld_still, ↓State.endWork_still, ↓State.failRounds_still, ↓State.laneOpsLost_still, ↓State.leaveFanRx_still, ↓State.linkTo_still, ↓State.raiseAt_still, ↓State.setFetches_still, ↓State.wr_still, ↓upd_still, ↓foldl_still, ↓ite_still, ↓ite_still2, ite_self]
    | (with_reducible refine (foldl_still _ _ _ (fun s a => ?_)).trans ?_)
    | (with_reducible refine pair_still ‹_ = (_, _)› ?_)
    | (with_reducible refine triple_still ‹_ = (_, _, _)› ?_)
    | split

theorem State.fanTo_still (s : State) (k st : Nat) : (State.fanTo s k st).still = s.still := by
  unfold State.fanTo
  repeat' first
    | with_reducible rfl
    | simp only [↓State.setFan_still, ↓State.wr_still, ↓upd_still, ↓foldl_still, ↓ite_still, ↓ite_still2, ite_self]
    | (with_reducible refine (foldl_still _ _ _ (fun s a => ?_)).trans ?_)
    | (with_reducible refine pair_still ‹_ = (_, _)› ?_)
    | (with_reducible refine triple_still ‹_ = (_, _, _)› ?_)
    | split

theorem State.memberWork_still (s : State) (k m : Nat) : (State.memberWork s k m).still = s.still := by
  unfold State.memberWork
  repeat' first
    | with_reducible rfl
    | simp only [↓State.answered_still, ↓State.cancelJobs_still, ↓State.complete_still, ↓State.setLink_still, ↓upd_still, ↓foldl_still, ↓ite_still, ↓ite_still2, ite_self]
    | (with_reducible refine (foldl_still _ _ _ (fun s a => ?_)).trans ?_)
    | (with_reducible refine pair_still ‹_ = (_, _)› ?_)
    | (with_reducible refine triple_still ‹_ = (_, _, _)› ?_)
    | split

theorem State.dropMember_still (s : State) (k m reason : Nat) : (State.dropMember s k m reason).still = s.still := by
  unfold State.dropMember
  repeat' first
    | with_reducible rfl
    | simp only [↓State.memberWork_still, ↓State.raise1_still, ↓State.wrBit_still, ↓upd_still, ↓foldl_still, ↓ite_still, ↓ite_still2, ite_self]
    | (with_reducible refine (foldl_still _ _ _ (fun s a => ?_)).trans ?_)
    | (with_reducible refine pair_still ‹_ = (_, _)› ?_)
    | (with_reducible refine triple_still ‹_ = (_, _, _)› ?_)
    | split

theorem State.fanIdle_still (s : State) (k result : Nat) : (State.fanIdle s k result).still = s.still := by
  unfold State.fanIdle
  repeat' first
    | with_reducible rfl
    | simp only [↓State.clearStream_still, ↓State.endHeld_still, ↓State.endWork_still, ↓State.setFan_still, ↓State.toWait_still, ↓State.wr_still, ↓upd_still, ↓foldl_still, ↓ite_still, ↓ite_still2, ite_self]
    | (with_reducible refine (foldl_still _ _ _ (fun s a => ?_)).trans ?_)
    | (with_reducible refine pair_still ‹_ = (_, _)› ?_)
    | (with_reducible refine triple_still ‹_ = (_, _, _)› ?_)
    | split

theorem State.fanExitCheck_still (s : State) (k : Nat) : (State.fanExitCheck s k).still = s.still := by
  unfold State.fanExitCheck
  repeat' first
    | with_reducible rfl
    | simp only [↓State.askChange_still, ↓State.fanIdle_still, ↓upd_still, ↓foldl_still, ↓ite_still, ↓ite_still2, ite_self]
    | (with_reducible refine (foldl_still _ _ _ (fun s a => ?_)).trans ?_)
    | (with_reducible refine pair_still ‹_ = (_, _)› ?_)
    | (with_reducible refine triple_still ‹_ = (_, _, _)› ?_)
    | split

theorem State.fanJudge_still (s : State) (k : Nat) : (State.fanJudge s k).still = s.still := by
  unfold State.fanJudge
  repeat' first
    | with_reducible rfl
    | simp only [↓State.fanIdle_still, ↓State.queueOp_still, ↓upd_still, ↓foldl_still, ↓ite_still, ↓ite_still2, ite_self]
    | (with_reducible refine (foldl_still _ _ _ (fun s a => ?_)).trans ?_)
    | (with_reducible refine pair_still ‹_ = (_, _)› ?_)
    | (with_reducible refine triple_still ‹_ = (_, _, _)› ?_)
    | split

theorem State.fanLeave_still (s : State) (k result : Nat) : (State.fanLeave s k result).still = s.still := by
  unfold State.fanLeave
  repeat' first
    | with_reducible rfl
    | simp only [↓State.fanExitCheck_still, ↓State.fanTo_still, ↓State.queueOp_still, ↓State.setFan_still, ↓upd_still, ↓foldl_still, ↓ite_still, ↓ite_still2, ite_self]
    | (with_reducible refine (foldl_still _ _ _ (fun s a => ?_)).trans ?_)
    | (with_reducible refine pair_still ‹_ = (_, _)› ?_)
    | (with_reducible refine triple_still ‹_ = (_, _, _)› ?_)
    | split

theorem State.fanPortDown_still (s : State) (k p : Nat) (f : LinkFault) : (State.fanPortDown s k p f).still = s.still := by
  unfold State.fanPortDown
  repeat' first
    | with_reducible rfl
    | simp only [↓State.clearStream_still, ↓State.dropMember_still, ↓State.endHeld_still, ↓State.endWork_still, ↓State.fanExitCheck_still, ↓State.fanJudge_still, ↓State.fanLeave_still, ↓State.raise1_still, ↓State.setFan_still, ↓State.takeDownOne_still, ↓State.wrBit_still, ↓upd_still, ↓foldl_still, ↓ite_still, ↓ite_still2, ite_self]
    | (with_reducible refine (foldl_still _ _ _ (fun s a => ?_)).trans ?_)
    | (with_reducible refine pair_still ‹_ = (_, _)› ?_)
    | (with_reducible refine triple_still ‹_ = (_, _, _)› ?_)
    | split

theorem State.takeDown_still (s : State) (p : Nat) (f : LinkFault) : (State.takeDown s p f).still = s.still := by
  unfold State.takeDown
  repeat' first
    | with_reducible rfl
    | simp only [↓State.fanPortDown_still, ↓State.takeDownOne_still, ↓upd_still, ↓foldl_still, ↓ite_still, ↓ite_still2, ite_self]
    | (with_reducible refine (foldl_still _ _ _ (fun s a => ?_)).trans ?_)
    | (with_reducible refine pair_still ‹_ = (_, _)› ?_)
    | (with_reducible refine triple_still ‹_ = (_, _, _)› ?_)
    | split

theorem State.laneFec_still (s : State) (p : Nat) (lanes : List (Option Nat)) : (State.laneFec s p lanes).still = s.still := by
  unfold State.laneFec
  repeat' first
    | with_reducible rfl
    | simp only [↓State.addTo_still, ↓State.bump_still, ↓upd_still, ↓foldl_still, ↓ite_still, ↓ite_still2, ite_self]
    | (with_reducible refine (foldl_still _ _ _ (fun s a => ?_)).trans ?_)
    | (with_reducible refine pair_still ‹_ = (_, _)› ?_)
    | (with_reducible refine triple_still ‹_ = (_, _, _)› ?_)
    | split

theorem State.takeCredit_still (s : State) (n c hdr data : Nat) : (State.takeCredit s n c hdr data).still = s.still := by
  unfold State.takeCredit
  repeat' first
    | with_reducible rfl
    | simp only [↓State.setLink_still, ↓upd_still, ↓foldl_still, ↓ite_still, ↓ite_still2, ite_self]
    | (with_reducible refine (foldl_still _ _ _ (fun s a => ?_)).trans ?_)
    | (with_reducible refine pair_still ‹_ = (_, _)› ?_)
    | (with_reducible refine triple_still ‹_ = (_, _, _)› ?_)
    | split

theorem State.takeHeader_still (s : State) (p : Nat) (h : ShellHdr) : (State.takeHeader s p h).still = s.still := by
  unfold State.takeHeader
  repeat' first
    | with_reducible rfl
    | simp only [↓State.fanAck_still, ↓State.retire_still, ↓State.setFan_still, ↓State.takeCredit_still, ↓upd_still, ↓foldl_still, ↓ite_still, ↓ite_still2, ite_self]
    | (with_reducible refine (foldl_still _ _ _ (fun s a => ?_)).trans ?_)
    | (with_reducible refine pair_still ‹_ = (_, _)› ?_)
    | (with_reducible refine triple_still ‹_ = (_, _, _)› ?_)
    | split

theorem State.fanWords_still (s : State) (p : Nat) : (State.fanWords s p).still = s.still := by
  unfold State.fanWords
  repeat' first
    | with_reducible rfl
    | simp only [↓State.queueWords_still, ↓upd_still, ↓foldl_still, ↓ite_still, ↓ite_still2, ite_self]
    | (with_reducible refine (foldl_still _ _ _ (fun s a => ?_)).trans ?_)
    | (with_reducible refine pair_still ‹_ = (_, _)› ?_)
    | (with_reducible refine triple_still ‹_ = (_, _, _)› ?_)
    | split

theorem State.ackPoint_still (s : State) (n : Nat) : (State.ackPoint s n).still = s.still := by
  unfold State.ackPoint
  repeat' first
    | with_reducible rfl
    | simp only [↓State.fanWords_still, ↓State.setLink_still, ↓upd_still, ↓foldl_still, ↓ite_still, ↓ite_still2, ite_self]
    | (with_reducible refine (foldl_still _ _ _ (fun s a => ?_)).trans ?_)
    | (with_reducible refine pair_still ‹_ = (_, _)› ?_)
    | (with_reducible refine triple_still ‹_ = (_, _, _)› ?_)
    | split

theorem State.acceptShell_still (s : State) (p n : Nat) (h : ShellHdr) (body : List Byte) : (State.acceptShell s p n h body).still = s.still := by
  unfold State.acceptShell
  repeat' first
    | with_reducible rfl
    | simp only [↓State.ackPoint_still, ↓State.linkFault_still, ↓State.peerResumes_still, ↓State.setLink_still, ↓upd_still, ↓foldl_still, ↓ite_still, ↓ite_still2, ite_self]
    | (with_reducible refine (foldl_still _ _ _ (fun s a => ?_)).trans ?_)
    | (with_reducible refine pair_still ‹_ = (_, _)› ?_)
    | (with_reducible refine triple_still ‹_ = (_, _, _)› ?_)
    | split

theorem State.shellBad_still (s : State) (p n lane : Nat) : (State.shellBad s p n lane).still = s.still := by
  unfold State.shellBad
  repeat' first
    | with_reducible rfl
    | simp only [↓State.bump_still, ↓State.raise1_still, ↓upd_still, ↓foldl_still, ↓ite_still, ↓ite_still2, ite_self]
    | (with_reducible refine (foldl_still _ _ _ (fun s a => ?_)).trans ?_)
    | (with_reducible refine pair_still ‹_ = (_, _)› ?_)
    | (with_reducible refine triple_still ‹_ = (_, _, _)› ?_)
    | split

theorem State.endTrainRun_still (s : State) (p : Nat) : (State.endTrainRun s p).still = s.still := by
  unfold State.endTrainRun
  repeat' first
    | with_reducible rfl
    | simp only [↓State.setLink_still, ↓upd_still, ↓foldl_still, ↓ite_still, ↓ite_still2, ite_self]
    | (with_reducible refine (foldl_still _ _ _ (fun s a => ?_)).trans ?_)
    | (with_reducible refine pair_still ‹_ = (_, _)› ?_)
    | (with_reducible refine triple_still ‹_ = (_, _, _)› ?_)
    | split

theorem State.takeDataShell_still (s : State) (p : Nat) (h : ShellHdr) (body : List Byte) : (State.takeDataShell s p h body).still = s.still := by
  unfold State.takeDataShell
  repeat' first
    | with_reducible rfl
    | simp only [↓State.acceptShell_still, ↓State.endTrainRun_still, ↓State.laneFec_still, ↓State.linkFault_still, ↓State.shellBad_still, ↓State.takeHeader_still, ↓upd_still, ↓foldl_still, ↓ite_still, ↓ite_still2, ite_self]
    | (with_reducible refine (foldl_still _ _ _ (fun s a => ?_)).trans ?_)
    | (with_reducible refine pair_still ‹_ = (_, _)› ?_)
    | (with_reducible refine triple_still ‹_ = (_, _, _)› ?_)
    | split

theorem State.takeBare_still (s : State) (p : Nat) (h : ShellHdr) : (State.takeBare s p h).still = s.still := by
  unfold State.takeBare
  repeat' first
    | with_reducible rfl
    | simp only [↓State.linkFault_still, ↓State.takeHeader_still, ↓upd_still, ↓foldl_still, ↓ite_still, ↓ite_still2, ite_self]
    | (with_reducible refine (foldl_still _ _ _ (fun s a => ?_)).trans ?_)
    | (with_reducible refine pair_still ‹_ = (_, _)› ?_)
    | (with_reducible refine triple_still ‹_ = (_, _, _)› ?_)
    | split

theorem State.takeNullShell_still (s : State) (p : Nat) (h : ShellHdr) : (State.takeNullShell s p h).still = s.still := by
  unfold State.takeNullShell
  repeat' first
    | with_reducible rfl
    | simp only [↓State.endTrainRun_still, ↓State.laneFec_still, ↓State.takeBare_still, ↓upd_still, ↓foldl_still, ↓ite_still, ↓ite_still2, ite_self]
    | (with_reducible refine (foldl_still _ _ _ (fun s a => ?_)).trans ?_)
    | (with_reducible refine pair_still ‹_ = (_, _)› ?_)
    | (with_reducible refine triple_still ‹_ = (_, _, _)› ?_)
    | split

theorem State.sendNothing_still (s : State) (p : Nat) : (State.sendNothing s p).still = s.still := by
  unfold State.sendNothing
  repeat' first
    | with_reducible rfl
    | simp only [↓State.setLink_still, ↓upd_still, ↓foldl_still, ↓ite_still, ↓ite_still2, ite_self]
    | (with_reducible refine (foldl_still _ _ _ (fun s a => ?_)).trans ?_)
    | (with_reducible refine pair_still ‹_ = (_, _)› ?_)
    | (with_reducible refine triple_still ‹_ = (_, _, _)› ?_)
    | split

theorem State.sendExtra_still (s : State) (p n op arg : Nat) : (State.sendExtra s p n op arg).still = s.still := by
  unfold State.sendExtra
  repeat' first
    | with_reducible rfl
    | simp only [↓State.queueWords_still, ↓State.sendCtrl_still, ↓upd_still, ↓foldl_still, ↓ite_still, ↓ite_still2, ite_self]
    | (with_reducible refine (foldl_still _ _ _ (fun s a => ?_)).trans ?_)
    | (with_reducible refine pair_still ‹_ = (_, _)› ?_)
    | (with_reducible refine triple_still ‹_ = (_, _, _)› ?_)
    | split

theorem State.sendRunning_still (s : State) (p n : Nat) : (State.sendRunning s p n).still = s.still := by
  unfold State.sendRunning
  repeat' first
    | with_reducible rfl
    | simp only [↓State.relockAfterPause_still, ↓State.sendCtrl_still, ↓State.sendData_still, ↓State.sendExtra_still, ↓State.sendNothing_still, ↓State.setLink_still, ↓upd_still, ↓foldl_still, ↓ite_still, ↓ite_still2, ite_self]
    | (with_reducible refine (foldl_still _ _ _ (fun s a => ?_)).trans ?_)
    | (with_reducible refine pair_still ‹_ = (_, _)› ?_)
    | (with_reducible refine triple_still ‹_ = (_, _, _)› ?_)
    | split

theorem State.sendNext_still (s : State) (p : Nat) : (State.sendNext s p).still = s.still := by
  unfold State.sendNext
  repeat' first
    | with_reducible rfl
    | simp only [↓State.sendExtra_still, ↓State.sendNothing_still, ↓State.sendRunning_still, ↓State.sendWords_still, ↓State.setLink_still, ↓State.swapsEnd_still, ↓upd_still, ↓foldl_still, ↓ite_still, ↓ite_still2, ite_self]
    | (with_reducible refine (foldl_still _ _ _ (fun s a => ?_)).trans ?_)
    | (with_reducible refine pair_still ‹_ = (_, _)› ?_)
    | (with_reducible refine triple_still ‹_ = (_, _, _)› ?_)
    | split

theorem State.countExpiries_still (s : State) (k : Nat) : (State.countExpiries s k).still = s.still := by
  unfold State.countExpiries
  repeat' first
    | with_reducible rfl
    | simp only [↓State.setFan_still, ↓upd_still, ↓foldl_still, ↓ite_still, ↓ite_still2, ite_self]
    | (with_reducible refine (foldl_still _ _ _ (fun s a => ?_)).trans ?_)
    | (with_reducible refine pair_still ‹_ = (_, _)› ?_)
    | (with_reducible refine triple_still ‹_ = (_, _, _)› ?_)
    | split

theorem State.replayExpires_still (s : State) (n : Nat) : (State.replayExpires s n).still = s.still := by
  unfold State.replayExpires
  repeat' first
    | with_reducible rfl
    | simp only [↓State.bump_still, ↓State.countExpiries_still, ↓State.raise1_still, ↓State.setLink_still, ↓upd_still, ↓foldl_still, ↓ite_still, ↓ite_still2, ite_self]
    | (with_reducible refine (foldl_still _ _ _ (fun s a => ?_)).trans ?_)
    | (with_reducible refine pair_still ‹_ = (_, _)› ?_)
    | (with_reducible refine triple_still ‹_ = (_, _, _)› ?_)
    | split

theorem State.onOp_still (s : State) (p op tag : Nat) (act : State → Bool × State) (h_act : ∀ x0, (act x0).2.still = x0.still) : (State.onOp s p op tag act).still = s.still := by
  unfold State.onOp
  repeat' first
    | with_reducible rfl
    | simp only [↓State.answered_still, ↓State.respond_still, ↓State.setLink_still, ↓upd_still, ↓foldl_still, ↓ite_still, ↓ite_still2, ite_self, ↓h_act]
    | (with_reducible refine (foldl_still _ _ _ (fun s a => ?_)).trans ?_)
    | (with_reducible refine pair_still ‹_ = (_, _)› ?_)
    | (with_reducible refine triple_still ‹_ = (_, _, _)› ?_)
    | split

theorem State.malformed_still (s : State) (p : Nat) : (State.malformed s p).still = s.still := by
  unfold State.malformed
  repeat' first
    | with_reducible rfl
    | simp only [↓State.linkFault_still, ↓upd_still, ↓foldl_still, ↓ite_still, ↓ite_still2, ite_self]
    | (with_reducible refine (foldl_still _ _ _ (fun s a => ?_)).trans ?_)
    | (with_reducible refine pair_still ‹_ = (_, _)› ?_)
    | (with_reducible refine triple_still ‹_ = (_, _, _)› ?_)
    | split

theorem State.sendParams_still (s : State) (p : Nat) : (State.sendParams s p).still = s.still := by
  unfold State.sendParams
  repeat' first
    | with_reducible rfl
    | simp only [↓State.queueOp_still, ↓State.setLink_still, ↓upd_still, ↓foldl_still, ↓ite_still, ↓ite_still2, ite_self]
    | (with_reducible refine (foldl_still _ _ _ (fun s a => ?_)).trans ?_)
    | (with_reducible refine pair_still ‹_ = (_, _)› ?_)
    | (with_reducible refine triple_still ‹_ = (_, _, _)› ?_)
    | split

theorem State.toVerify_still (s : State) (p : Nat) : (State.toVerify s p).still = s.still := by
  unfold State.toVerify
  repeat' first
    | with_reducible rfl
    | simp only [↓State.allocate_still, ↓State.linkFail_still, ↓State.linkTo_still, ↓State.setLaneSt_still, ↓State.setLink_still, ↓State.wrB_still, ↓upd_still, ↓foldl_still, ↓ite_still, ↓ite_still2, ite_self]
    | (with_reducible refine (foldl_still _ _ _ (fun s a => ?_)).trans ?_)
    | (with_reducible refine pair_still ‹_ = (_, _)› ?_)
    | (with_reducible refine triple_still ‹_ = (_, _, _)› ?_)
    | split

theorem State.paramCheck_still (s : State) (p : Nat) : (State.paramCheck s p).still = s.still := by
  unfold State.paramCheck
  repeat' first
    | with_reducible rfl
    | simp only [↓State.linkFail_still, ↓State.linkTo_still, ↓State.setRate_still, ↓State.toVerify_still, ↓State.wr_still, ↓upd_still, ↓foldl_still, ↓ite_still, ↓ite_still2, ite_self]
    | (with_reducible refine (foldl_still _ _ _ (fun s a => ?_)).trans ?_)
    | (with_reducible refine pair_still ‹_ = (_, _)› ?_)
    | (with_reducible refine triple_still ‹_ = (_, _, _)› ?_)
    | split

theorem State.onParam_still (s : State) (p op tag mark : Nat) (ok : Bool) (act : State → State)
    (h_act : ∀ x0, (act x0).still = x0.still) : (State.onParam s p op tag mark ok act).still = s.still := by
  unfold State.onParam
  split
  · rfl
  · split
    · split
      · simp only [State.linkFail_still]
      · rw [State.paramCheck_still]
        exact State.onOp_still _ _ _ _ _ fun t => by simp only [State.setLink_still, h_act]
    · split <;> simp only [State.respond_still]

theorem State.peerMoved_still (s : State) (p lane : Nat) (dropped : Bool) : (State.peerMoved s p lane dropped).still = s.still := by
  unfold State.peerMoved
  repeat' first
    | with_reducible rfl
    | simp only [↓State.outcome_still, ↓State.setLaneSt_still, ↓State.visitMoved_still, ↓upd_still, ↓foldl_still, ↓ite_still, ↓ite_still2, ite_self]
    | (with_reducible refine (foldl_still _ _ _ (fun s a => ?_)).trans ?_)
    | (with_reducible refine pair_still ‹_ = (_, _)› ?_)
    | (with_reducible refine triple_still ‹_ = (_, _, _)› ?_)
    | split

theorem State.onLane_still (s : State) (p : Nat) (arg : BitVec 48) (f : State → Nat → Nat → State) (h_f : ∀ x0 x1 x2, (f x0 x1 x2).still = x0.still) : (State.onLane s p arg f).still = s.still := by
  unfold State.onLane
  repeat' first
    | with_reducible rfl
    | simp only [↓State.malformed_still, ↓upd_still, ↓foldl_still, ↓ite_still, ↓ite_still2, ite_self, ↓h_f]
    | (with_reducible refine (foldl_still _ _ _ (fun s a => ?_)).trans ?_)
    | (with_reducible refine pair_still ‹_ = (_, _)› ?_)
    | (with_reducible refine triple_still ‹_ = (_, _, _)› ?_)
    | split

theorem State.peerAsks_still (s : State) (p lane : Nat) (act : LaneAct) : (State.peerAsks s p lane act).still = s.still := by
  unfold State.peerAsks
  repeat' first
    | with_reducible rfl
    | simp only [↓State.laneDue_still, ↓upd_still, ↓foldl_still, ↓ite_still, ↓ite_still2, ite_self]
    | (with_reducible refine (foldl_still _ _ _ (fun s a => ?_)).trans ?_)
    | (with_reducible refine pair_still ‹_ = (_, _)› ?_)
    | (with_reducible refine triple_still ‹_ = (_, _, _)› ?_)
    | split

theorem State.lineRefused_still (s : State) (p line : Nat) : (State.lineRefused s p line).still = s.still := by
  unfold State.lineRefused
  repeat' first
    | with_reducible rfl
    | simp only [↓State.setLaneSt_still, ↓upd_still, ↓foldl_still, ↓ite_still, ↓ite_still2, ite_self]
    | (with_reducible refine (foldl_still _ _ _ (fun s a => ?_)).trans ?_)
    | (with_reducible refine pair_still ‹_ = (_, _)› ?_)
    | (with_reducible refine triple_still ‹_ = (_, _, _)› ?_)
    | split

theorem State.addAnswered_still (s : State) (p n lane line : Nat) (c : LaneCause) (e : BitVec 24) (refused : Bool) : (State.addAnswered s p n lane line c e refused).still = s.still := by
  unfold State.addAnswered
  repeat' first
    | with_reducible rfl
    | simp only [↓State.assign_still, ↓State.lineRefused_still, ↓State.outcome_still, ↓State.reform_still, ↓State.setLaneSt_still, ↓upd_still, ↓foldl_still, ↓ite_still, ↓ite_still2, ite_self]
    | (with_reducible refine (foldl_still _ _ _ (fun s a => ?_)).trans ?_)
    | (with_reducible refine pair_still ‹_ = (_, _)› ?_)
    | (with_reducible refine triple_still ‹_ = (_, _, _)› ?_)
    | split

theorem State.swapAnswered_still (s : State) (p lane line : Nat) (c : LaneCause) (refused : Bool) : (State.swapAnswered s p lane line c refused).still = s.still := by
  unfold State.swapAnswered
  repeat' first
    | with_reducible rfl
    | simp only [↓State.dropLane_still, ↓State.lineRefused_still, ↓State.outcome_still, ↓State.setLaneSt_still, ↓upd_still, ↓foldl_still, ↓ite_still, ↓ite_still2, ite_self]
    | (with_reducible refine (foldl_still _ _ _ (fun s a => ?_)).trans ?_)
    | (with_reducible refine pair_still ‹_ = (_, _)› ?_)
    | (with_reducible refine triple_still ‹_ = (_, _, _)› ?_)
    | split

theorem State.fanAnswer_still (s : State) (p : Nat) (refused : Bool) : (State.fanAnswer s p refused).still = s.still := by
  unfold State.fanAnswer
  repeat' first
    | with_reducible rfl
    | simp only [↓State.fanJudge_still, ↓State.setFan_still, ↓State.wrBit_still, ↓upd_still, ↓foldl_still, ↓ite_still, ↓ite_still2, ite_self]
    | (with_reducible refine (foldl_still _ _ _ (fun s a => ?_)).trans ?_)
    | (with_reducible refine pair_still ‹_ = (_, _)› ?_)
    | (with_reducible refine triple_still ‹_ = (_, _, _)› ?_)
    | split

theorem State.opAnswered_still (s : State) (p n : Nat) (o : CtrlOp) (e : BitVec 24) (refused : Bool) : (State.opAnswered s p n o e refused).still = s.still := by
  unfold State.opAnswered
  repeat' first
    | with_reducible rfl
    | simp only [↓State.addAnswered_still, ↓State.fanAnswer_still, ↓State.paramCheck_still, ↓State.reform_still, ↓State.setLaneSt_still, ↓State.swapAnswered_still, ↓upd_still, ↓foldl_still, ↓ite_still, ↓ite_still2, ite_self]
    | (with_reducible refine (foldl_still _ _ _ (fun s a => ?_)).trans ?_)
    | (with_reducible refine pair_still ‹_ = (_, _)› ?_)
    | (with_reducible refine triple_still ‹_ = (_, _, _)› ?_)
    | split

theorem State.dropOp_still (s : State) (p : Nat) (o : CtrlOp) : (State.dropOp s p o).still = s.still := by
  unfold State.dropOp
  repeat' first
    | with_reducible rfl
    | simp only [↓State.setLink_still, ↓upd_still, ↓foldl_still, ↓ite_still, ↓ite_still2, ite_self]
    | (with_reducible refine (foldl_still _ _ _ (fun s a => ?_)).trans ?_)
    | (with_reducible refine pair_still ‹_ = (_, _)› ?_)
    | (with_reducible refine triple_still ‹_ = (_, _, _)› ?_)
    | split

theorem State.fanOpAnswer_still (s : State) (k m : Nat) (o : CtrlOp) (e : Nat) (refused : Bool) : (State.fanOpAnswer s k m o e refused).still = s.still := by
  unfold State.fanOpAnswer
  repeat' first
    | with_reducible rfl
    | simp only [↓State.dropOp_still, ↓State.fanExitCheck_still, ↓State.opAnswered_still, ↓State.setFan_still, ↓upd_still, ↓foldl_still, ↓ite_still, ↓ite_still2, ite_self]
    | (with_reducible refine (foldl_still _ _ _ (fun s a => ?_)).trans ?_)
    | (with_reducible refine pair_still ‹_ = (_, _)› ?_)
    | (with_reducible refine triple_still ‹_ = (_, _, _)› ?_)
    | split

theorem State.onResponse_still (s : State) (p op tag e : Nat) (refused : Bool) : (State.onResponse s p op tag e refused).still = s.still := by
  unfold State.onResponse
  repeat' first
    | with_reducible rfl
    | simp only [↓State.dropOp_still, ↓State.fanExitCheck_still, ↓State.fanOpAnswer_still, ↓State.opAnswered_still, ↓State.setFan_still, ↓upd_still, ↓foldl_still, ↓ite_still, ↓ite_still2, ite_self]
    | (with_reducible refine (foldl_still _ _ _ (fun s a => ?_)).trans ?_)
    | (with_reducible refine pair_still ‹_ = (_, _)› ?_)
    | (with_reducible refine triple_still ‹_ = (_, _, _)› ?_)
    | split

theorem State.drainEnds_still (s : State) (p : Nat) : (State.drainEnds s p).still = s.still := by
  unfold State.drainEnds
  repeat' first
    | with_reducible rfl
    | simp only [↓State.toWait_still, ↓upd_still, ↓foldl_still, ↓ite_still, ↓ite_still2, ite_self]
    | (with_reducible refine (foldl_still _ _ _ (fun s a => ?_)).trans ?_)
    | (with_reducible refine pair_still ‹_ = (_, _)› ?_)
    | (with_reducible refine triple_still ‹_ = (_, _, _)› ?_)
    | split

theorem State.enterFanRx_still (s : State) (p pages : Nat) : (State.enterFanRx s p pages).still = s.still := by
  unfold State.enterFanRx
  repeat' first
    | with_reducible rfl
    | simp only [↓State.setLink_still, ↓upd_still, ↓foldl_still, ↓ite_still, ↓ite_still2, ite_self]
    | (with_reducible refine (foldl_still _ _ _ (fun s a => ?_)).trans ?_)
    | (with_reducible refine pair_still ‹_ = (_, _)› ?_)
    | (with_reducible refine triple_still ‹_ = (_, _, _)› ?_)
    | split

theorem State.toAlign_still (s : State) (p : Nat) : (State.toAlign s p).still = s.still := by
  unfold State.toAlign
  repeat' first
    | with_reducible rfl
    | simp only [↓State.answered_still, ↓State.linkTo_still, ↓State.setLink_still, ↓upd_still, ↓foldl_still, ↓ite_still, ↓ite_still2, ite_self]
    | (with_reducible refine (foldl_still _ _ _ (fun s a => ?_)).trans ?_)
    | (with_reducible refine pair_still ‹_ = (_, _)› ?_)
    | (with_reducible refine triple_still ‹_ = (_, _, _)› ?_)
    | split

theorem State.takeTrain_still (s : State) (p : Nat) (h : ShellHdr) : (State.takeTrain s p h).still = s.still := by
  unfold State.takeTrain
  repeat' first
    | with_reducible rfl
    | simp only [↓State.laneFec_still, ↓State.linkFault_still, ↓State.linkTo_still, ↓State.paramCheck_still, ↓State.sendParams_still, ↓State.setLink_still, ↓State.takeBare_still, ↓upd_still, ↓foldl_still, ↓ite_still, ↓ite_still2, ite_self]
    | (with_reducible refine (foldl_still _ _ _ (fun s a => ?_)).trans ?_)
    | (with_reducible refine pair_still ‹_ = (_, _)› ?_)
    | (with_reducible refine triple_still ‹_ = (_, _, _)› ?_)
    | split

theorem State.toActive_still (s : State) (p : Nat) : (State.toActive s p).still = s.still := by
  unfold State.toActive
  repeat' first
    | with_reducible rfl
    | simp only [↓State.bump_still, ↓State.checkNarrow_still, ↓State.laneDue_still, ↓State.linkTo_still, ↓State.setLaneSt_still, ↓State.setLink_still, ↓upd_still, ↓foldl_still, ↓ite_still, ↓ite_still2, ite_self]
    | (with_reducible refine (foldl_still _ _ _ (fun s a => ?_)).trans ?_)
    | (with_reducible refine pair_still ‹_ = (_, _)› ?_)
    | (with_reducible refine triple_still ‹_ = (_, _, _)› ?_)
    | split

theorem State.countLos_still (s : State) (p : Nat) : (State.countLos s p).still = s.still := by
  unfold State.countLos
  repeat' first
    | with_reducible rfl
    | simp only [↓State.setLink_still, ↓upd_still, ↓foldl_still, ↓ite_still, ↓ite_still2, ite_self]
    | (with_reducible refine (foldl_still _ _ _ (fun s a => ?_)).trans ?_)
    | (with_reducible refine pair_still ‹_ = (_, _)› ?_)
    | (with_reducible refine triple_still ‹_ = (_, _, _)› ?_)
    | split

theorem State.disableLink_still (s : State) (p : Nat) : (State.disableLink s p).still = s.still := by
  unfold State.disableLink
  repeat' first
    | with_reducible rfl
    | simp only [↓State.clearControl_still, ↓State.linkFault_still, ↓State.linkTo_still, ↓State.returnPages_still, ↓State.setLink_still, ↓upd_still, ↓foldl_still, ↓ite_still, ↓ite_still2, ite_self]
    | (with_reducible refine (foldl_still _ _ _ (fun s a => ?_)).trans ?_)
    | (with_reducible refine pair_still ‹_ = (_, _)› ?_)
    | (with_reducible refine triple_still ‹_ = (_, _, _)› ?_)
    | split

theorem State.wrLnkCtrl_still (p data : Nat) (s : State) : (State.wrLnkCtrl p data s).still = s.still := by
  unfold State.wrLnkCtrl
  repeat' first
    | with_reducible rfl
    | simp only [↓State.disableLink_still, ↓State.linkTo_still, ↓State.queueOp_still, ↓State.toWait_still, ↓State.wr_still, ↓State.writeFields_still, ↓upd_still, ↓foldl_still, ↓ite_still, ↓ite_still2, ite_self]
    | (with_reducible refine (foldl_still _ _ _ (fun s a => ?_)).trans ?_)
    | (with_reducible refine pair_still ‹_ = (_, _)› ?_)
    | (with_reducible refine triple_still ‹_ = (_, _, _)› ?_)
    | split

theorem State.wrOptCtrl_still (b data : Nat) (s : State) : (State.wrOptCtrl b data s).still = s.still := by
  unfold State.wrOptCtrl
  repeat' first
    | with_reducible rfl
    | simp only [↓State.askRelock_still, ↓State.beginRelock_still, ↓State.writeFields_still, ↓upd_still, ↓foldl_still, ↓ite_still, ↓ite_still2, ite_self]
    | (with_reducible refine (foldl_still _ _ _ (fun s a => ?_)).trans ?_)
    | (with_reducible refine pair_still ‹_ = (_, _)› ?_)
    | (with_reducible refine triple_still ‹_ = (_, _, _)› ?_)
    | split

theorem State.applyMap_still (s : State) : (State.applyMap s).still = s.still := by
  unfold State.applyMap
  repeat' first
    | with_reducible rfl
    | simp only [↓State.askChange_still, ↓State.wr_still, ↓upd_still, ↓foldl_still, ↓ite_still, ↓ite_still2, ite_self]
    | (with_reducible refine (foldl_still _ _ _ (fun s a => ?_)).trans ?_)
    | (with_reducible refine pair_still ‹_ = (_, _)› ?_)
    | (with_reducible refine triple_still ‹_ = (_, _, _)› ?_)
    | split

theorem State.wrFlmCtrl_still (data : Nat) (s : State) : (State.wrFlmCtrl data s).still = s.still := by
  unfold State.wrFlmCtrl
  repeat' first
    | with_reducible rfl
    | simp only [↓State.applyMap_still, ↓State.writeFields_still, ↓upd_still, ↓foldl_still, ↓ite_still, ↓ite_still2, ite_self]
    | (with_reducible refine (foldl_still _ _ _ (fun s a => ?_)).trans ?_)
    | (with_reducible refine pair_still ‹_ = (_, _)› ?_)
    | (with_reducible refine triple_still ‹_ = (_, _, _)› ?_)
    | split

theorem State.announce_still (s : State) (c : Change) (rest : List Change) : (State.announce s c rest).still = s.still := by
  unfold State.announce
  repeat' first
    | with_reducible rfl
    | simp only [↓State.startPause_still, ↓upd_still, ↓foldl_still, ↓ite_still, ↓ite_still2, ite_self]
    | (with_reducible refine (foldl_still _ _ _ (fun s a => ?_)).trans ?_)
    | (with_reducible refine pair_still ‹_ = (_, _)› ?_)
    | (with_reducible refine triple_still ‹_ = (_, _, _)› ?_)
    | split

theorem State.enterFans_still (s : State) : (State.enterFans s).still = s.still := by
  unfold State.enterFans
  repeat' first
    | with_reducible rfl
    | simp only [↓State.askChange_still, ↓State.fanTo_still, ↓State.startPause_still, ↓upd_still, ↓foldl_still, ↓ite_still, ↓ite_still2, ite_self]
    | (with_reducible refine (foldl_still _ _ _ (fun s a => ?_)).trans ?_)
    | (with_reducible refine pair_still ‹_ = (_, _)› ?_)
    | (with_reducible refine triple_still ‹_ = (_, _, _)› ?_)
    | split

theorem State.flumeFinish_still (s : State) : (State.flumeFinish s).still = s.still := by
  unfold State.flumeFinish
  repeat' first
    | with_reducible rfl
    | simp only [↓State.announce_still, ↓State.enterFans_still, ↓upd_still, ↓foldl_still, ↓ite_still, ↓ite_still2, ite_self]
    | (with_reducible refine (foldl_still _ _ _ (fun s a => ?_)).trans ?_)
    | (with_reducible refine pair_still ‹_ = (_, _)› ?_)
    | (with_reducible refine triple_still ‹_ = (_, _, _)› ?_)
    | split

theorem State.releaseMzis_still (s : State) (p : Nat → Bool) : (State.releaseMzis s p).still = s.still := by
  unfold State.releaseMzis
  repeat' first
    | with_reducible rfl
    | simp only [↓State.wrBit_still, ↓upd_still, ↓foldl_still, ↓ite_still, ↓ite_still2, ite_self]
    | (with_reducible refine (foldl_still _ _ _ (fun s a => ?_)).trans ?_)
    | (with_reducible refine pair_still ‹_ = (_, _)› ?_)
    | (with_reducible refine triple_still ‹_ = (_, _, _)› ?_)
    | split

theorem State.startFan_still (s : State) (k : Nat) : (State.startFan s k).still = s.still := by
  unfold State.startFan
  repeat' first
    | with_reducible rfl
    | simp only [↓State.clearStream_still, ↓State.fanTo_still, ↓State.setFan_still, ↓State.setLink_still, ↓State.wr_still, ↓upd_still, ↓foldl_still, ↓ite_still, ↓ite_still2, ite_self]
    | (with_reducible refine (foldl_still _ _ _ (fun s a => ?_)).trans ?_)
    | (with_reducible refine pair_still ‹_ = (_, _)› ?_)
    | (with_reducible refine triple_still ‹_ = (_, _, _)› ?_)
    | split

theorem State.fanRolledBack_still (s : State) (k : Nat) : (State.fanRolledBack s k).still = s.still := by
  unfold State.fanRolledBack
  repeat' first
    | with_reducible rfl
    | simp only [↓State.fanExitCheck_still, ↓State.fanTo_still, ↓State.queueOp_still, ↓State.setFan_still, ↓upd_still, ↓foldl_still, ↓ite_still, ↓ite_still2, ite_self]
    | (with_reducible refine (foldl_still _ _ _ (fun s a => ?_)).trans ?_)
    | (with_reducible refine pair_still ‹_ = (_, _)› ?_)
    | (with_reducible refine triple_still ‹_ = (_, _, _)› ?_)
    | split

theorem State.changeDone_still (s : State) (c : Change) : (State.changeDone s c).still = s.still := by
  unfold State.changeDone
  repeat' first
    | with_reducible rfl
    | simp only [↓State.askChange_still, ↓State.autoCross_still, ↓State.fanIdle_still, ↓State.fanRolledBack_still, ↓State.startFan_still, ↓upd_still, ↓foldl_still, ↓ite_still, ↓ite_still2, ite_self]
    | (with_reducible refine (foldl_still _ _ _ (fun s a => ?_)).trans ?_)
    | (with_reducible refine pair_still ‹_ = (_, _)› ?_)
    | (with_reducible refine triple_still ‹_ = (_, _, _)› ?_)
    | split

theorem State.wrFanCtrl_still (k data : Nat) (s : State) : (State.wrFanCtrl k data s).still = s.still := by
  unfold State.wrFanCtrl
  repeat' first
    | with_reducible rfl
    | simp only [↓State.fanTo_still, ↓State.setFan_still, ↓upd_still, ↓foldl_still, ↓ite_still, ↓ite_still2, ite_self]
    | (with_reducible refine (foldl_still _ _ _ (fun s a => ?_)).trans ?_)
    | (with_reducible refine pair_still ‹_ = (_, _)› ?_)
    | (with_reducible refine triple_still ‹_ = (_, _, _)› ?_)
    | split

theorem State.checkFan_still (s : State) (k : Nat) : (State.checkFan s k).still = s.still := by
  unfold State.checkFan
  repeat' first
    | with_reducible rfl
    | simp only [↓State.fanTo_still, ↓State.refuse_still, ↓State.setFan_still, ↓State.wr_still, ↓upd_still, ↓foldl_still, ↓ite_still, ↓ite_still2, ite_self]
    | (with_reducible refine (foldl_still _ _ _ (fun s a => ?_)).trans ?_)
    | (with_reducible refine pair_still ‹_ = (_, _)› ?_)
    | (with_reducible refine triple_still ‹_ = (_, _, _)› ?_)
    | split

theorem State.correctedRead_still (s : State) (words : List Nat) : (State.correctedRead s words).still = s.still := by
  unfold State.correctedRead
  repeat' first
    | with_reducible rfl
    | simp only [↓State.addTo_still, ↓State.raise_still, ↓upd_still, ↓foldl_still, ↓ite_still, ↓ite_still2, ite_self]
    | (with_reducible refine (foldl_still _ _ _ (fun s a => ?_)).trans ?_)
    | (with_reducible refine pair_still ‹_ = (_, _)› ?_)
    | (with_reducible refine triple_still ‹_ = (_, _, _)› ?_)
    | split

theorem State.setRec_still (s : State) (r : Nat) (useB aOk bOk : Bool) (seq : BitVec 32) : (State.setRec s r useB aOk bOk seq).still = s.still := by
  unfold State.setRec
  repeat' first
    | with_reducible rfl
    | simp only [↓State.wr_still, ↓State.wrB_still, ↓State.wrBit_still, ↓upd_still, ↓foldl_still, ↓ite_still, ↓ite_still2, ite_self]
    | (with_reducible refine (foldl_still _ _ _ (fun s a => ?_)).trans ?_)
    | (with_reducible refine pair_still ‹_ = (_, _)› ?_)
    | (with_reducible refine triple_still ‹_ = (_, _, _)› ?_)
    | split

theorem State.judgeRecord_still (s : State) (r : Nat) : (State.judgeRecord s r).still = s.still := by
  unfold State.judgeRecord
  repeat' first
    | with_reducible rfl
    | simp only [↓State.correctedRead_still, ↓State.raise1_still, ↓State.setRec_still, ↓upd_still, ↓foldl_still, ↓ite_still, ↓ite_still2, ite_self]
    | (with_reducible refine (foldl_still _ _ _ (fun s a => ?_)).trans ?_)
    | (with_reducible refine pair_still ‹_ = (_, _)› ?_)
    | (with_reducible refine triple_still ‹_ = (_, _, _)› ?_)
    | split

theorem State.loadStore_still (s : State) : (State.loadStore s).still = s.still := by
  unfold State.loadStore
  repeat' first
    | with_reducible rfl
    | simp only [↓State.judgeRecord_still, ↓State.raise1_still, ↓upd_still, ↓foldl_still, ↓ite_still, ↓ite_still2, ite_self]
    | (with_reducible refine (foldl_still _ _ _ (fun s a => ?_)).trans ?_)
    | (with_reducible refine pair_still ‹_ = (_, _)› ?_)
    | (with_reducible refine triple_still ‹_ = (_, _, _)› ?_)
    | split

theorem State.recordBegun_still (s : State) (r : Nat) : (State.recordBegun s r).still = s.still := by
  unfold State.recordBegun
  repeat' first
    | with_reducible rfl
    | simp only [↓upd_still, ↓foldl_still, ↓ite_still, ↓ite_still2, ite_self]
    | (with_reducible refine (foldl_still _ _ _ (fun s a => ?_)).trans ?_)
    | (with_reducible refine pair_still ‹_ = (_, _)› ?_)
    | (with_reducible refine triple_still ‹_ = (_, _, _)› ?_)
    | split

theorem State.beginRecord_still (s : State) (r : Nat) : (State.beginRecord s r).still = s.still := by
  unfold State.beginRecord
  repeat' first
    | with_reducible rfl
    | simp only [↓State.recordBegun_still, ↓State.wr_still, ↓upd_still, ↓foldl_still, ↓ite_still, ↓ite_still2, ite_self]
    | (with_reducible refine (foldl_still _ _ _ (fun s a => ?_)).trans ?_)
    | (with_reducible refine pair_still ‹_ = (_, _)› ?_)
    | (with_reducible refine triple_still ‹_ = (_, _, _)› ?_)
    | split

theorem State.resumeRecord_still (s : State) (w : OwnWrite) : (State.resumeRecord s w).still = s.still := by
  unfold State.resumeRecord
  repeat' first
    | with_reducible rfl
    | simp only [↓State.recordBegun_still, ↓State.wr_still, ↓upd_still, ↓foldl_still, ↓ite_still, ↓ite_still2, ite_self]
    | (with_reducible refine (foldl_still _ _ _ (fun s a => ?_)).trans ?_)
    | (with_reducible refine pair_still ‹_ = (_, _)› ?_)
    | (with_reducible refine triple_still ‹_ = (_, _, _)› ?_)
    | split

theorem State.writeStore_still (s : State) (a : Nat) (w : DWord) : (State.writeStore s a w).still = s.still := by
  unfold State.writeStore
  repeat' first
    | with_reducible rfl
    | simp only [↓upd_still, ↓foldl_still, ↓ite_still, ↓ite_still2, ite_self]
    | (with_reducible refine (foldl_still _ _ _ (fun s a => ?_)).trans ?_)
    | (with_reducible refine pair_still ‹_ = (_, _)› ?_)
    | (with_reducible refine triple_still ‹_ = (_, _, _)› ?_)
    | split

theorem State.spoilWord_still (s : State) (a : Nat) : (State.spoilWord s a).still = s.still := by
  unfold State.spoilWord
  repeat' first
    | with_reducible rfl
    | simp only [↓upd_still, ↓foldl_still, ↓ite_still, ↓ite_still2, ite_self]
    | (with_reducible refine (foldl_still _ _ _ (fun s a => ?_)).trans ?_)
    | (with_reducible refine pair_still ‹_ = (_, _)› ?_)
    | (with_reducible refine triple_still ‹_ = (_, _, _)› ?_)
    | split

theorem State.endOwnPage_still (s : State) (w : OwnWrite) (bad : Option (Fin 32)) : (State.endOwnPage s w bad).still = s.still := by
  unfold State.endOwnPage
  repeat' first
    | with_reducible rfl
    | simp only [↓State.bump_still, ↓State.judgeRecord_still, ↓State.raise1_still, ↓State.spoilWord_still, ↓State.wr_still, ↓upd_still, ↓foldl_still, ↓ite_still, ↓ite_still2, ite_self]
    | (with_reducible refine (foldl_still _ _ _ (fun s a => ?_)).trans ?_)
    | (with_reducible refine pair_still ‹_ = (_, _)› ?_)
    | (with_reducible refine triple_still ‹_ = (_, _, _)› ?_)
    | split

theorem State.ownWord_still (s : State) (w : OwnWrite) (bad : Option (Fin 32)) : (State.ownWord s w bad).still = s.still := by
  unfold State.ownWord
  repeat' first
    | with_reducible rfl
    | simp only [↓State.endOwnPage_still, ↓State.writeStore_still, ↓upd_still, ↓foldl_still, ↓ite_still, ↓ite_still2, ite_self]
    | (with_reducible refine (foldl_still _ _ _ (fun s a => ?_)).trans ?_)
    | (with_reducible refine pair_still ‹_ = (_, _)› ?_)
    | (with_reducible refine triple_still ‹_ = (_, _, _)› ?_)
    | split

theorem State.cmdWord_still (s : State) (c : NvsCmd) (bad : Option (Fin 32)) : (State.cmdWord s c bad).still = s.still := by
  unfold State.cmdWord
  repeat' first
    | with_reducible rfl
    | simp only [↓State.bump_still, ↓State.spoilWord_still, ↓State.wr_still, ↓State.writeStore_still, ↓upd_still, ↓foldl_still, ↓ite_still, ↓ite_still2, ite_self]
    | (with_reducible refine (foldl_still _ _ _ (fun s a => ?_)).trans ?_)
    | (with_reducible refine pair_still ‹_ = (_, _)› ?_)
    | (with_reducible refine triple_still ‹_ = (_, _, _)› ?_)
    | split

theorem State.nvsResult_still (s : State) (r : Nat) : (State.nvsResult s r).still = s.still := by
  unfold State.nvsResult
  repeat' first
    | with_reducible rfl
    | simp only [↓State.wr_still, ↓upd_still, ↓foldl_still, ↓ite_still, ↓ite_still2, ite_self]
    | (with_reducible refine (foldl_still _ _ _ (fun s a => ?_)).trans ?_)
    | (with_reducible refine pair_still ‹_ = (_, _)› ?_)
    | (with_reducible refine triple_still ‹_ = (_, _, _)› ?_)
    | split

theorem State.wrNvsCmd_still (data : Nat) (s : State) : (State.wrNvsCmd data s).still = s.still := by
  unfold State.wrNvsCmd
  repeat' first
    | with_reducible rfl
    | simp only [↓State.nvsResult_still, ↓State.wr_still, ↓upd_still, ↓foldl_still, ↓ite_still, ↓ite_still2, ite_self]
    | (with_reducible refine (foldl_still _ _ _ (fun s a => ?_)).trans ?_)
    | (with_reducible refine pair_still ‹_ = (_, _)› ?_)
    | (with_reducible refine triple_still ‹_ = (_, _, _)› ?_)
    | split

theorem State.nvsSafe_still (s : State) : (State.nvsSafe s).still = s.still := by
  unfold State.nvsSafe
  repeat' first
    | with_reducible rfl
    | simp only [↓State.nvsResult_still, ↓State.wr_still, ↓upd_still, ↓foldl_still, ↓ite_still, ↓ite_still2, ite_self]
    | (with_reducible refine (foldl_still _ _ _ (fun s a => ?_)).trans ?_)
    | (with_reducible refine pair_still ‹_ = (_, _)› ?_)
    | (with_reducible refine triple_still ‹_ = (_, _, _)› ?_)
    | split

theorem State.cutStore_still (s : State) (fate : WordFate) : (State.cutStore s fate).still = s.still := by
  unfold State.cutStore
  repeat' first
    | with_reducible rfl
    | simp only [↓State.spoilWord_still, ↓State.writeStore_still, ↓upd_still, ↓foldl_still, ↓ite_still, ↓ite_still2, ite_self]
    | (with_reducible refine (foldl_still _ _ _ (fun s a => ?_)).trans ?_)
    | (with_reducible refine pair_still ‹_ = (_, _)› ?_)
    | (with_reducible refine triple_still ‹_ = (_, _, _)› ?_)
    | split

theorem State.seatsSafe_still (s : State) : (State.seatsSafe s).still = s.still := by
  unfold State.seatsSafe
  repeat' first
    | with_reducible rfl
    | simp only [↓State.seatToIdle_still, ↓State.setLaneSt_still, ↓State.setLink_still, ↓State.setPassPair_still, ↓State.wr_still, ↓State.wrBit_still, ↓upd_still, ↓foldl_still, ↓ite_still, ↓ite_still2, ite_self]
    | (with_reducible refine (foldl_still _ _ _ (fun s a => ?_)).trans ?_)
    | (with_reducible refine pair_still ‹_ = (_, _)› ?_)
    | (with_reducible refine triple_still ‹_ = (_, _, _)› ?_)
    | split

theorem State.flumeSafe_still (s : State) : (State.flumeSafe s).still = s.still := by
  unfold State.flumeSafe
  repeat' first
    | with_reducible rfl
    | simp only [↓State.askChange_still, ↓State.clearStream_still, ↓State.setFan_still, ↓State.wr_still, ↓upd_still, ↓foldl_still, ↓ite_still, ↓ite_still2, ite_self]
    | (with_reducible refine (foldl_still _ _ _ (fun s a => ?_)).trans ?_)
    | (with_reducible refine pair_still ‹_ = (_, _)› ?_)
    | (with_reducible refine triple_still ‹_ = (_, _, _)› ?_)
    | split

theorem State.coxSafe_still (s : State) : (State.coxSafe s).still = s.still := by
  unfold State.coxSafe
  repeat' first
    | with_reducible rfl
    | simp only [↓State.land_still, ↓State.returnPages_still, ↓State.setExtent_still, ↓State.wr_still, ↓upd_still, ↓foldl_still, ↓ite_still, ↓ite_still2, ite_self]
    | (with_reducible refine (foldl_still _ _ _ (fun s a => ?_)).trans ?_)
    | (with_reducible refine pair_still ‹_ = (_, _)› ?_)
    | (with_reducible refine triple_still ‹_ = (_, _, _)› ?_)
    | split

theorem State.linksSafe_still (s : State) (at_ : Stamp) : (State.linksSafe s at_).still = s.still := by
  unfold State.linksSafe
  repeat' first
    | with_reducible rfl
    | simp only [↓State.raiseAt_still, ↓State.setLink_still, ↓upd_still, ↓foldl_still, ↓ite_still, ↓ite_still2, ite_self]
    | (with_reducible refine (foldl_still _ _ _ (fun s a => ?_)).trans ?_)
    | (with_reducible refine pair_still ‹_ = (_, _)› ?_)
    | (with_reducible refine triple_still ‹_ = (_, _, _)› ?_)
    | split

theorem State.portSafe_still (s : State) (p : Nat) : (State.portSafe s p).still = s.still := by
  unfold State.portSafe
  repeat' first
    | with_reducible rfl
    | simp only [↓State.bump_still, ↓State.clearControl_still, ↓State.clearStream_still, ↓State.leaveFanRx_still, ↓State.linkTo_still, ↓State.setFetches_still, ↓State.wr_still, ↓upd_still, ↓foldl_still, ↓ite_still, ↓ite_still2, ite_self]
    | (with_reducible refine (foldl_still _ _ _ (fun s a => ?_)).trans ?_)
    | (with_reducible refine pair_still ‹_ = (_, _)› ?_)
    | (with_reducible refine triple_still ‹_ = (_, _, _)› ?_)
    | split

theorem State.safeBoundary_still (s : State) : (State.safeBoundary s).still = s.still := by
  unfold State.safeBoundary
  repeat' first
    | with_reducible rfl
    | simp only [↓State.finish_still, ↓State.portSafe_still, ↓upd_still, ↓foldl_still, ↓ite_still, ↓ite_still2, ite_self]
    | (with_reducible refine (foldl_still _ _ _ (fun s a => ?_)).trans ?_)
    | (with_reducible refine pair_still ‹_ = (_, _)› ?_)
    | (with_reducible refine triple_still ‹_ = (_, _, _)› ?_)
    | split

theorem State.wrUmpCtrl_still (data : Nat) (s : State) : (State.wrUmpCtrl data s).still = s.still := by
  unfold State.wrUmpCtrl
  repeat' first
    | with_reducible rfl
    | simp only [↓State.wr_still, ↓State.writeFields_still, ↓upd_still, ↓foldl_still, ↓ite_still, ↓ite_still2, ite_self]
    | (with_reducible refine (foldl_still _ _ _ (fun s a => ?_)).trans ?_)
    | (with_reducible refine pair_still ‹_ = (_, _)› ?_)
    | (with_reducible refine triple_still ‹_ = (_, _, _)› ?_)
    | split

theorem State.exitSafe_still (s : State) : (State.exitSafe s).still = s.still := by
  unfold State.exitSafe
  repeat' first
    | with_reducible rfl
    | simp only [↓State.openAll_still, ↓State.pageIfDue_still, ↓State.settle_still, ↓State.toStep_still, ↓State.toWait_still, ↓State.wr_still, ↓State.wrPair_still, ↓upd_still, ↓foldl_still, ↓ite_still, ↓ite_still2, ite_self]
    | (with_reducible refine (foldl_still _ _ _ (fun s a => ?_)).trans ?_)
    | (with_reducible refine pair_still ‹_ = (_, _)› ?_)
    | (with_reducible refine triple_still ‹_ = (_, _, _)› ?_)
    | split

theorem State.remapBoundary_still (s : State) : (State.remapBoundary s).still = s.still := by
  unfold State.remapBoundary
  repeat' first
    | with_reducible rfl
    | simp only [↓State.flushWaiting_still, ↓State.wrB_still, ↓upd_still, ↓foldl_still, ↓ite_still, ↓ite_still2, ite_self]
    | (with_reducible refine (foldl_still _ _ _ (fun s a => ?_)).trans ?_)
    | (with_reducible refine pair_still ‹_ = (_, _)› ?_)
    | (with_reducible refine triple_still ‹_ = (_, _, _)› ?_)
    | split

theorem State.estimateBoundary_still (s : State) : (State.estimateBoundary s).still = s.still := by
  unfold State.estimateBoundary
  repeat' first
    | with_reducible rfl
    | simp only [↓State.releaseMzis_still, ↓State.wr_still, ↓upd_still, ↓foldl_still, ↓ite_still, ↓ite_still2, ite_self]
    | (with_reducible refine (foldl_still _ _ _ (fun s a => ?_)).trans ?_)
    | (with_reducible refine pair_still ‹_ = (_, _)› ?_)
    | (with_reducible refine triple_still ‹_ = (_, _, _)› ?_)
    | split

theorem State.selfBoundary_still (s : State) : (State.selfBoundary s).still = s.still := by
  unfold State.selfBoundary
  repeat' first
    | with_reducible rfl
    | simp only [↓upd_still, ↓foldl_still, ↓ite_still, ↓ite_still2, ite_self]
    | (with_reducible refine (foldl_still _ _ _ (fun s a => ?_)).trans ?_)
    | (with_reducible refine pair_still ‹_ = (_, _)› ?_)
    | (with_reducible refine triple_still ‹_ = (_, _, _)› ?_)
    | split

theorem State.narrowBoundary_still (s : State) : (State.narrowBoundary s).still = s.still := by
  unfold State.narrowBoundary
  repeat' first
    | with_reducible rfl
    | simp only [↓State.bump_still, ↓upd_still, ↓foldl_still, ↓ite_still, ↓ite_still2, ite_self]
    | (with_reducible refine (foldl_still _ _ _ (fun s a => ?_)).trans ?_)
    | (with_reducible refine pair_still ‹_ = (_, _)› ?_)
    | (with_reducible refine triple_still ‹_ = (_, _, _)› ?_)
    | split

theorem State.stallBoundary_still (s : State) : (State.stallBoundary s).still = s.still := by
  unfold State.stallBoundary
  repeat' first
    | with_reducible rfl
    | simp only [↓State.bump_still, ↓State.setLink_still, ↓upd_still, ↓foldl_still, ↓ite_still, ↓ite_still2, ite_self]
    | (with_reducible refine (foldl_still _ _ _ (fun s a => ?_)).trans ?_)
    | (with_reducible refine pair_still ‹_ = (_, _)› ?_)
    | (with_reducible refine triple_still ‹_ = (_, _, _)› ?_)
    | split

theorem State.holdBoundary_still (s : State) : (State.holdBoundary s).still = s.still := by
  unfold State.holdBoundary
  repeat' first
    | with_reducible rfl
    | simp only [↓State.bump_still, ↓upd_still, ↓foldl_still, ↓ite_still, ↓ite_still2, ite_self]
    | (with_reducible refine (foldl_still _ _ _ (fun s a => ?_)).trans ?_)
    | (with_reducible refine pair_still ‹_ = (_, _)› ?_)
    | (with_reducible refine triple_still ‹_ = (_, _, _)› ?_)
    | split

theorem State.boundaryWork_still (s : State) : (State.boundaryWork s).still = s.still := by
  unfold State.boundaryWork
  repeat' first
    | with_reducible rfl
    | simp only [↓State.countLos_still, ↓State.estimateBoundary_still, ↓State.holdBoundary_still, ↓State.lvlBoundary_still, ↓State.narrowBoundary_still, ↓State.passBoundary_still, ↓State.remapBoundary_still, ↓State.safeBoundary_still, ↓State.seatBoundary_still, ↓State.selfBoundary_still, ↓State.settle_still, ↓State.stallBoundary_still, ↓State.switchWeights_still, ↓upd_still, ↓foldl_still, ↓ite_still, ↓ite_still2, ite_self]
    | (with_reducible refine (foldl_still _ _ _ (fun s a => ?_)).trans ?_)
    | (with_reducible refine pair_still ‹_ = (_, _)› ?_)
    | (with_reducible refine triple_still ‹_ = (_, _, _)› ?_)
    | split

theorem State.addFeedforward_still (s : State) (p : Nat) : (State.addFeedforward s p).still = s.still := by
  unfold State.addFeedforward
  repeat' first
    | with_reducible rfl
    | simp only [↓State.fresh_still, ↓State.setLaneSt_still, ↓State.setSeat_still, ↓upd_still, ↓foldl_still, ↓ite_still, ↓ite_still2, ite_self]
    | (with_reducible refine (foldl_still _ _ _ (fun s a => ?_)).trans ?_)
    | (with_reducible refine pair_still ‹_ = (_, _)› ?_)
    | (with_reducible refine triple_still ‹_ = (_, _, _)› ?_)
    | split

theorem State.acquireWord_still (s : State) (count : BitVec 48) (crc : BitVec 8) : (State.acquireWord s count crc).still = s.still := by
  unfold State.acquireWord
  repeat' first
    | with_reducible rfl
    | simp only [↓upd_still, ↓foldl_still, ↓ite_still, ↓ite_still2, ite_self]
    | (with_reducible refine (foldl_still _ _ _ (fun s a => ?_)).trans ?_)
    | (with_reducible refine pair_still ‹_ = (_, _)› ?_)
    | (with_reducible refine triple_still ‹_ = (_, _, _)› ?_)
    | split

theorem State.markerMiss_still (s : State) : (State.markerMiss s).still = s.still := by
  unfold State.markerMiss
  repeat' first
    | with_reducible rfl
    | simp only [↓State.bump_still, ↓State.raise1_still, ↓upd_still, ↓foldl_still, ↓ite_still, ↓ite_still2, ite_self]
    | (with_reducible refine (foldl_still _ _ _ (fun s a => ?_)).trans ?_)
    | (with_reducible refine pair_still ‹_ = (_, _)› ?_)
    | (with_reducible refine triple_still ‹_ = (_, _, _)› ?_)
    | split

theorem State.markerWord_still (s : State) (count : BitVec 48) : (State.markerWord s count).still = s.still := by
  unfold State.markerWord
  repeat' first
    | with_reducible rfl
    | simp only [↓State.raise1_still, ↓State.wr_still, ↓upd_still, ↓foldl_still, ↓ite_still, ↓ite_still2, ite_self]
    | (with_reducible refine (foldl_still _ _ _ (fun s a => ?_)).trans ?_)
    | (with_reducible refine pair_still ‹_ = (_, _)› ?_)
    | (with_reducible refine triple_still ‹_ = (_, _, _)› ?_)
    | split

theorem State.wrOvrClr_still (data : Nat) (s : State) : (State.wrOvrClr data s).still = s.still := by
  unfold State.wrOvrClr
  repeat' first
    | with_reducible rfl
    | simp only [↓State.wr_still, ↓upd_still, ↓foldl_still, ↓ite_still, ↓ite_still2, ite_self]
    | (with_reducible refine (foldl_still _ _ _ (fun s a => ?_)).trans ?_)
    | (with_reducible refine pair_still ‹_ = (_, _)› ?_)
    | (with_reducible refine triple_still ‹_ = (_, _, _)› ?_)
    | split

theorem State.samplePend_still (s : State) : (State.samplePend s).still = s.still := by
  unfold State.samplePend
  repeat' first
    | with_reducible rfl
    | simp only [↓State.pend_still, ↓State.wr_still, ↓State.wrB_still, ↓upd_still, ↓foldl_still, ↓ite_still, ↓ite_still2, ite_self]
    | (with_reducible refine (foldl_still _ _ _ (fun s a => ?_)).trans ?_)
    | (with_reducible refine pair_still ‹_ = (_, _)› ?_)
    | (with_reducible refine triple_still ‹_ = (_, _, _)› ?_)
    | split

theorem State.readWord_still (s : State) (v : Path) (addr : Nat) : (State.readWord s v addr).2.still = s.still := by
  unfold State.readWord
  repeat' first
    | with_reducible rfl
    | simp only [↓State.setPath_still, ↓upd_still, ↓foldl_still, ↓ite_still, ↓ite_still2, ite_self]
    | (with_reducible refine (foldl_still _ _ _ (fun s a => ?_)).trans ?_)
    | (with_reducible refine pair_still ‹_ = (_, _)› ?_)
    | (with_reducible refine triple_still ‹_ = (_, _, _)› ?_)
    | split

theorem State.crcBad_still (s : State) (c : Nat) : (State.crcBad s c).still = s.still := by
  unfold State.crcBad
  repeat' first
    | with_reducible rfl
    | simp only [↓State.bump_still, ↓State.raise1_still, ↓State.setCulv_still, ↓upd_still, ↓foldl_still, ↓ite_still, ↓ite_still2, ite_self]
    | (with_reducible refine (foldl_still _ _ _ (fun s a => ?_)).trans ?_)
    | (with_reducible refine pair_still ‹_ = (_, _)› ?_)
    | (with_reducible refine triple_still ‹_ = (_, _, _)› ?_)
    | split

theorem State.flitHeader_still (s : State) (c : Nat) (h : FlitHdr) : (State.flitHeader s c h).still = s.still := by
  unfold State.flitHeader
  repeat' first
    | with_reducible rfl
    | simp only [↓State.crcBad_still, ↓State.takeAck_still, ↓upd_still, ↓foldl_still, ↓ite_still, ↓ite_still2, ite_self]
    | (with_reducible refine (foldl_still _ _ _ (fun s a => ?_)).trans ?_)
    | (with_reducible refine pair_still ‹_ = (_, _)› ?_)
    | (with_reducible refine triple_still ‹_ = (_, _, _)› ?_)
    | split

theorem State.sequenced_still (s : State) (c : Nat) (h : FlitHdr) (payload : State → State) (h_payload : ∀ x0, (payload x0).still = x0.still) : (State.sequenced s c h payload).still = s.still := by
  unfold State.sequenced
  repeat' first
    | with_reducible rfl
    | simp only [↓State.flitHeader_still, ↓State.setCulv_still, ↓State.settle_still, ↓upd_still, ↓foldl_still, ↓ite_still, ↓ite_still2, ite_self, ↓h_payload]
    | (with_reducible refine (foldl_still _ _ _ (fun s a => ?_)).trans ?_)
    | (with_reducible refine pair_still ‹_ = (_, _)› ?_)
    | (with_reducible refine triple_still ‹_ = (_, _, _)› ?_)
    | split

theorem State.refill_still (s : State) (c : Nat) (r : HubReq) : (State.refill s c r).still = s.still := by
  unfold State.refill
  repeat' first
    | with_reducible rfl
    | simp only [↓State.form_still, ↓State.issue_still, ↓State.raise1_still, ↓upd_still, ↓foldl_still, ↓ite_still, ↓ite_still2, ite_self]
    | (with_reducible refine (foldl_still _ _ _ (fun s a => ?_)).trans ?_)
    | (with_reducible refine pair_still ‹_ = (_, _)› ?_)
    | (with_reducible refine triple_still ‹_ = (_, _, _)› ?_)
    | split

theorem State.readStream_still (s : State) (c : Nat) (poison : Bool) (a0 : Nat) (a1 : List Byte) : (State.readStream s c poison a0 a1).still = s.still := by
  induction a0 generalizing s c poison a1 with
  | zero =>
    unfold State.readStream
    repeat' first
      | with_reducible rfl
      | simp only [↓State.hubData_still, ↓State.refill_still, ↓State.setCulv_still, ↓upd_still, ↓foldl_still, ↓ite_still, ↓ite_still2, ite_self]
      | (with_reducible refine (foldl_still _ _ _ (fun s a => ?_)).trans ?_)
      | (with_reducible refine pair_still ‹_ = (_, _)› ?_)
      | split
  | succ k ih =>
    unfold State.readStream
    repeat' first
      | with_reducible rfl
      | simp only [↓State.hubData_still, ↓State.refill_still, ↓State.setCulv_still, ↓upd_still, ↓foldl_still, ↓ite_still, ↓ite_still2, ite_self, ↓ih]
      | (with_reducible refine (foldl_still _ _ _ (fun s a => ?_)).trans ?_)
      | (with_reducible refine pair_still ‹_ = (_, _)› ?_)
      | split

theorem State.writesDone_still (s : State) (c : Nat) (a0 : Nat) : (State.writesDone s c a0).still = s.still := by
  induction a0 generalizing s c with
  | zero =>
    unfold State.writesDone
    repeat' first
      | with_reducible rfl
      | simp only [↓State.hubWritten_still, ↓State.setCulv_still, ↓upd_still, ↓foldl_still, ↓ite_still, ↓ite_still2, ite_self]
      | (with_reducible refine (foldl_still _ _ _ (fun s a => ?_)).trans ?_)
      | (with_reducible refine pair_still ‹_ = (_, _)› ?_)
      | split
  | succ k ih =>
    unfold State.writesDone
    repeat' first
      | with_reducible rfl
      | simp only [↓State.hubWritten_still, ↓State.setCulv_still, ↓upd_still, ↓foldl_still, ↓ite_still, ↓ite_still2, ite_self, ↓ih]
      | (with_reducible refine (foldl_still _ _ _ (fun s a => ?_)).trans ?_)
      | (with_reducible refine pair_still ‹_ = (_, _)› ?_)
      | split

theorem State.reqsFail_still (s : State) (c : Nat) (write : Bool) (reason : Nat) (a0 : Nat) : (State.reqsFail s c write reason a0).still = s.still := by
  induction a0 generalizing s c write reason with
  | zero =>
    unfold State.reqsFail
    repeat' first
      | with_reducible rfl
      | simp only [↓State.hubFails_still, ↓State.refill_still, ↓State.setCulv_still, ↓upd_still, ↓foldl_still, ↓ite_still, ↓ite_still2, ite_self]
      | (with_reducible refine (foldl_still _ _ _ (fun s a => ?_)).trans ?_)
      | (with_reducible refine pair_still ‹_ = (_, _)› ?_)
      | split
  | succ k ih =>
    unfold State.reqsFail
    repeat' first
      | with_reducible rfl
      | simp only [↓State.hubFails_still, ↓State.refill_still, ↓State.setCulv_still, ↓upd_still, ↓foldl_still, ↓ite_still, ↓ite_still2, ite_self, ↓ih]
      | (with_reducible refine (foldl_still _ _ _ (fun s a => ?_)).trans ?_)
      | (with_reducible refine pair_still ‹_ = (_, _)› ?_)
      | split

theorem State.reassign_still (s : State) : (State.reassign s).still = s.still := by
  unfold State.reassign
  repeat' first
    | with_reducible rfl
    | simp only [↓State.setSteer_still, ↓upd_still, ↓foldl_still, ↓ite_still, ↓ite_still2, ite_self]
    | (with_reducible refine (foldl_still _ _ _ (fun s a => ?_)).trans ?_)
    | (with_reducible refine pair_still ‹_ = (_, _)› ?_)
    | (with_reducible refine triple_still ‹_ = (_, _, _)› ?_)
    | split

theorem State.recall_still (s : State) (c : Nat) : (State.recall s c).still = s.still := by
  unfold State.recall
  repeat' first
    | with_reducible rfl
    | simp only [↓State.setCulv_still, ↓upd_still, ↓foldl_still, ↓ite_still, ↓ite_still2, ite_self]
    | (with_reducible refine (foldl_still _ _ _ (fun s a => ?_)).trans ?_)
    | (with_reducible refine pair_still ‹_ = (_, _)› ?_)
    | (with_reducible refine triple_still ‹_ = (_, _, _)› ?_)
    | split

theorem State.reissueLost_still (s : State) : (State.reissueLost s).still = s.still := by
  unfold State.reissueLost
  repeat' first
    | with_reducible rfl
    | simp only [↓State.recall_still, ↓State.setCulv_still, ↓State.unreachable_still, ↓upd_still, ↓foldl_still, ↓ite_still, ↓ite_still2, ite_self]
    | (with_reducible refine (foldl_still _ _ _ (fun s a => ?_)).trans ?_)
    | (with_reducible refine pair_still ‹_ = (_, _)› ?_)
    | (with_reducible refine triple_still ‹_ = (_, _, _)› ?_)
    | split

theorem State.markFailing_still (s : State) (e : Nat) : (State.markFailing s e).still = s.still := by
  unfold State.markFailing
  repeat' first
    | with_reducible rfl
    | simp only [↓State.setCulv_still, ↓upd_still, ↓foldl_still, ↓ite_still, ↓ite_still2, ite_self]
    | (with_reducible refine (foldl_still _ _ _ (fun s a => ?_)).trans ?_)
    | (with_reducible refine pair_still ‹_ = (_, _)› ?_)
    | (with_reducible refine triple_still ‹_ = (_, _, _)› ?_)
    | split

theorem State.culvStart_still (s : State) (c : Nat) : (State.culvStart s c).still = s.still := by
  unfold State.culvStart
  repeat' first
    | with_reducible rfl
    | simp only [↓State.culvTo_still, ↓State.setCulv_still, ↓upd_still, ↓foldl_still, ↓ite_still, ↓ite_still2, ite_self]
    | (with_reducible refine (foldl_still _ _ _ (fun s a => ?_)).trans ?_)
    | (with_reducible refine pair_still ‹_ = (_, _)› ?_)
    | (with_reducible refine triple_still ‹_ = (_, _, _)› ?_)
    | split

theorem State.culvStop_still (s : State) (c : Nat) : (State.culvStop s c).still = s.still := by
  unfold State.culvStop
  repeat' first
    | with_reducible rfl
    | simp only [↓State.culvTo_still, ↓State.setCulv_still, ↓upd_still, ↓foldl_still, ↓ite_still, ↓ite_still2, ite_self]
    | (with_reducible refine (foldl_still _ _ _ (fun s a => ?_)).trans ?_)
    | (with_reducible refine pair_still ‹_ = (_, _)› ?_)
    | (with_reducible refine triple_still ‹_ = (_, _, _)› ?_)
    | split

theorem State.startLoop_still (s : State) (c : Nat) : (State.startLoop s c).still = s.still := by
  unfold State.startLoop
  repeat' first
    | with_reducible rfl
    | simp only [↓State.culvTo_still, ↓upd_still, ↓foldl_still, ↓ite_still, ↓ite_still2, ite_self]
    | (with_reducible refine (foldl_still _ _ _ (fun s a => ?_)).trans ?_)
    | (with_reducible refine pair_still ‹_ = (_, _)› ?_)
    | (with_reducible refine triple_still ‹_ = (_, _, _)› ?_)
    | split

theorem State.wrClvCtrl_still (c data : Nat) (s : State) : (State.wrClvCtrl c data s).still = s.still := by
  unfold State.wrClvCtrl
  repeat' first
    | with_reducible rfl
    | simp only [↓State.culvStart_still, ↓State.culvStop_still, ↓State.culvTo_still, ↓State.startLoop_still, ↓State.writeFields_still, ↓upd_still, ↓foldl_still, ↓ite_still, ↓ite_still2, ite_self]
    | (with_reducible refine (foldl_still _ _ _ (fun s a => ?_)).trans ?_)
    | (with_reducible refine pair_still ‹_ = (_, _)› ?_)
    | (with_reducible refine triple_still ‹_ = (_, _, _)› ?_)
    | split

theorem State.sendPacket_still (s : State) (c : Nat) (packet : List Byte) : (State.sendPacket s c packet).still = s.still := by
  unfold State.sendPacket
  repeat' first
    | with_reducible rfl
    | simp only [↓State.setCulv_still, ↓upd_still, ↓foldl_still, ↓ite_still, ↓ite_still2, ite_self]
    | (with_reducible refine (foldl_still _ _ _ (fun s a => ?_)).trans ?_)
    | (with_reducible refine pair_still ‹_ = (_, _)› ?_)
    | (with_reducible refine triple_still ‹_ = (_, _, _)› ?_)
    | split

theorem State.lanesOne_still (s : State) (c : Nat) : (State.lanesOne s c).still = s.still := by
  unfold State.lanesOne
  repeat' first
    | with_reducible rfl
    | simp only [↓State.setCulv_still, ↓upd_still, ↓foldl_still, ↓ite_still, ↓ite_still2, ite_self]
    | (with_reducible refine (foldl_still _ _ _ (fun s a => ?_)).trans ?_)
    | (with_reducible refine pair_still ‹_ = (_, _)› ?_)
    | (with_reducible refine triple_still ‹_ = (_, _, _)› ?_)
    | split

theorem State.lanesCycle_still (s : State) : (State.lanesCycle s).still = s.still := by
  unfold State.lanesCycle
  repeat' first
    | with_reducible rfl
    | simp only [↓State.lanesOne_still, ↓upd_still, ↓foldl_still, ↓ite_still, ↓ite_still2, ite_self]
    | (with_reducible refine (foldl_still _ _ _ (fun s a => ?_)).trans ?_)
    | (with_reducible refine pair_still ‹_ = (_, _)› ?_)
    | (with_reducible refine triple_still ‹_ = (_, _, _)› ?_)
    | split

theorem State.commitPair_still (v : Path) (pg first data : Nat) (s : State) : (State.commitPair v pg first data s).still = s.still := by
  unfold State.commitPair
  repeat' first
    | with_reducible rfl
    | simp only [↓State.pairLow_still, ↓State.writeFields_still, ↓upd_still, ↓foldl_still, ↓ite_still, ↓ite_still2, ite_self]
    | (with_reducible refine (foldl_still _ _ _ (fun s a => ?_)).trans ?_)
    | (with_reducible refine pair_still ‹_ = (_, _)› ?_)
    | (with_reducible refine triple_still ‹_ = (_, _, _)› ?_)
    | split

theorem State.holdPair_still (v : Path) (pg off data : Nat) (s : State) : (State.holdPair v pg off data s).still = s.still := by
  unfold State.holdPair
  repeat' first
    | with_reducible rfl
    | simp only [↓State.holdLow_still, ↓upd_still, ↓foldl_still, ↓ite_still, ↓ite_still2, ite_self]
    | (with_reducible refine (foldl_still _ _ _ (fun s a => ?_)).trans ?_)
    | (with_reducible refine pair_still ‹_ = (_, _)› ?_)
    | (with_reducible refine triple_still ‹_ = (_, _, _)› ?_)
    | split

theorem State.wrCredAdv_still (pg off data : Nat) (s : State) : (State.wrCredAdv pg off data s).still = s.still := by
  unfold State.wrCredAdv
  repeat' first
    | with_reducible rfl
    | simp only [↓State.writeFields_still, ↓upd_still, ↓foldl_still, ↓ite_still, ↓ite_still2, ite_self]
    | (with_reducible refine (foldl_still _ _ _ (fun s a => ?_)).trans ?_)
    | (with_reducible refine pair_still ‹_ = (_, _)› ?_)
    | (with_reducible refine triple_still ‹_ = (_, _, _)› ?_)
    | split

theorem State.wrSpareBank_still (data : Nat) (s : State) : (State.wrSpareBank data s).still = s.still := by
  unfold State.wrSpareBank
  repeat' first
    | with_reducible rfl
    | simp only [↓State.writeFields_still, ↓upd_still, ↓foldl_still, ↓ite_still, ↓ite_still2, ite_self]
    | (with_reducible refine (foldl_still _ _ _ (fun s a => ?_)).trans ?_)
    | (with_reducible refine pair_still ‹_ = (_, _)› ?_)
    | (with_reducible refine triple_still ‹_ = (_, _, _)› ?_)
    | split

theorem State.wrFanCfg_still (k data : Nat) (s : State) : (State.wrFanCfg k data s).still = s.still := by
  unfold State.wrFanCfg
  repeat' first
    | with_reducible rfl
    | simp only [↓State.writeFields_still, ↓upd_still, ↓foldl_still, ↓ite_still, ↓ite_still2, ite_self]
    | (with_reducible refine (foldl_still _ _ _ (fun s a => ?_)).trans ?_)
    | (with_reducible refine pair_still ‹_ = (_, _)› ?_)
    | (with_reducible refine triple_still ‹_ = (_, _, _)› ?_)
    | split

theorem State.wrReset_still (data : Nat) (s : State) : (State.wrReset data s).still = s.still := by
  unfold State.wrReset
  repeat' first
    | with_reducible rfl
    | simp only [↓upd_still, ↓foldl_still, ↓ite_still, ↓ite_still2, ite_self]
    | (with_reducible refine (foldl_still _ _ _ (fun s a => ?_)).trans ?_)
    | (with_reducible refine pair_still ‹_ = (_, _)› ?_)
    | (with_reducible refine triple_still ‹_ = (_, _, _)› ?_)
    | split

theorem State.wrLock_still (s : State) (v : Path) (pg data : Nat) : (State.wrLock s v pg data).still = s.still := by
  unfold State.wrLock
  repeat' first
    | with_reducible rfl
    | simp only [↓State.refuse_still, ↓State.wr_still, ↓upd_still, ↓foldl_still, ↓ite_still, ↓ite_still2, ite_self]
    | (with_reducible refine (foldl_still _ _ _ (fun s a => ?_)).trans ?_)
    | (with_reducible refine pair_still ‹_ = (_, _)› ?_)
    | (with_reducible refine triple_still ‹_ = (_, _, _)› ?_)
    | split

/-- What a write does to a register keeps the fuses, the queue and the cycle. -/
def EffStill (o : Option (Nat → State → State)) : Prop := ∀ f, o = some f → ∀ d s, (f d s).still = s.still

theorem effStill_none : EffStill .none := fun _ h => by cases h

theorem effStill_some {f : Nat → State → State} (h : ∀ d s, (f d s).still = s.still) : EffStill (some f) := fun g hg => by
  cases hg; exact h

theorem headerEffect_still (pg off : Nat) : EffStill (headerEffect pg off ) := by
  unfold headerEffect
  repeat' first
    | with_reducible exact effStill_none
    | with_reducible refine effStill_some fun d s => ?_
    | simp only [State.clearErr_still]
    | split

theorem coxEffect_still (v : Path) (off : Nat) : EffStill (coxEffect v  off ) := by
  unfold coxEffect
  repeat' first
    | with_reducible exact effStill_none
    | with_reducible refine effStill_some fun d s => ?_
    | simp only [State.commitPair_still, State.holdPair_still, State.wrCcInval_still, State.wrIqCfg_still, State.wrIqTail_still, State.wrOqCfg_still]
    | split

theorem buoEffect_still (v : Path) (off : Nat) : EffStill (buoEffect v  off ) := by
  unfold buoEffect
  repeat' first
    | with_reducible exact effStill_none
    | with_reducible refine effStill_some fun d s => ?_
    | simp only [State.holdPair_still, State.wrBuoyAdd_still, State.wrBuoyVal_still]
    | split

theorem flmEffect_still (off : Nat) : EffStill (flmEffect off ) := by
  unfold flmEffect
  repeat' first
    | with_reducible exact effStill_none
    | with_reducible refine effStill_some fun d s => ?_
    | simp only [State.wrFanCfg_still, State.wrFanCtrl_still, State.wrFlmCtrl_still, State.wrSpareBank_still]
    | split

theorem rsvEffect_still (off : Nat) : EffStill (rsvEffect off ) := by
  unfold rsvEffect
  repeat' first
    | with_reducible exact effStill_none
    | with_reducible refine effStill_some fun d s => ?_
    | simp only [State.pageIfDue_still, State.wrPool_still, State.writeFields_still]
    | split

theorem pairEffect_still (v : Path) (pg off : Nat) : EffStill (pairEffect v  pg off ) := by
  unfold pairEffect
  repeat' first
    | with_reducible exact effStill_none
    | with_reducible refine effStill_some fun d s => ?_
    | simp only [State.commitPair_still, State.holdPair_still]
    | split

theorem blockEffect_still (v : Path) (b : Block) (pg off : Nat) : EffStill (blockEffect v  b  pg off ) := by
  unfold blockEffect
  repeat' first
    | with_reducible exact effStill_none
    | with_reducible exact coxEffect_still _ _ 
    | with_reducible exact rsvEffect_still _ 
    | with_reducible exact flmEffect_still _ 
    | with_reducible exact buoEffect_still _ _ 
    | with_reducible exact pairEffect_still _ _ _ 
    | with_reducible refine effStill_some fun d s => ?_
    | simp only [State.retrySeats_still, State.wrAbort_still, State.wrClvCtrl_still, State.wrCredAdv_still, State.wrDtmCtrl_still, State.wrHgCtrl_still, State.wrIdleDark_still, State.wrLnkCtrl_still, State.wrLvlCtrl_still, State.wrNvsCmd_still, State.wrOptCtrl_still, State.wrOvrClr_still, State.wrPassReq_still, State.wrReset_still, State.wrRetire_still, State.wrRwlCtrl_still, State.wrUmpCtrl_still]
    | split

theorem effectOf_still (v : Path) (pg off : Nat) (d : Nat) (s : State) : (effectOf v pg off d s).still = s.still := by
  unfold effectOf
  cases blockOf pg with
  | none => rfl
  | some b =>
    cases hh : headerEffect pg off with
    | some f => exact headerEffect_still _ _ _ hh _ _
    | none =>
      cases hb : blockEffect v b pg off with
      | some f => simp only [hb]; exact blockEffect_still _ _ _ _ _ hb _ _
      | none => simp only [hb]; exact State.writeFields_still _ _ _ _

theorem State.writeReg_still (s : State) (v : Path) (pg off data : Nat) : (State.writeReg s v pg off data).still = s.still := by
  unfold State.writeReg
  split
  · rfl
  · split
    · simp only [State.wrLock_still]
    · exact State.access_still _ _ _ _ _ _ fun d s => effectOf_still v pg off d s

theorem State.writeAddr_still (s : State) (v : Path) (addr data : Nat) : (State.writeAddr s v addr data).still = s.still := by
  unfold State.writeAddr
  repeat' first
    | with_reducible rfl
    | simp only [↓State.writeReg_still, ↓upd_still, ↓foldl_still, ↓ite_still, ↓ite_still2, ite_self]
    | (with_reducible refine (foldl_still _ _ _ (fun s a => ?_)).trans ?_)
    | (with_reducible refine pair_still ‹_ = (_, _)› ?_)
    | (with_reducible refine triple_still ‹_ = (_, _, _)› ?_)
    | split

theorem State.outsideRequest_still (s : State) : (State.outsideRequest s).still = s.still := by
  unfold State.outsideRequest
  repeat' first
    | with_reducible rfl
    | simp only [↓State.bump_still, ↓State.raise1_still, ↓upd_still, ↓foldl_still, ↓ite_still, ↓ite_still2, ite_self]
    | (with_reducible refine (foldl_still _ _ _ (fun s a => ?_)).trans ?_)
    | (with_reducible refine pair_still ‹_ = (_, _)› ?_)
    | (with_reducible refine triple_still ‹_ = (_, _, _)› ?_)
    | split

theorem State.sbSend_still (s : State) (c : Nat) : (State.sbSend s c).still = s.still := by
  unfold State.sbSend
  repeat' first
    | with_reducible rfl
    | simp only [↓State.setCulv_still, ↓upd_still, ↓foldl_still, ↓ite_still, ↓ite_still2, ite_self]
    | (with_reducible refine (foldl_still _ _ _ (fun s a => ?_)).trans ?_)
    | (with_reducible refine pair_still ‹_ = (_, _)› ?_)
    | (with_reducible refine triple_still ‹_ = (_, _, _)› ?_)
    | split

theorem State.sbAnswer_still (s : State) (c : Nat) (r : SbRsp) : (State.sbAnswer s c r).still = s.still := by
  unfold State.sbAnswer
  repeat' first
    | with_reducible rfl
    | simp only [↓State.bump_still, ↓State.sbSend_still, ↓State.setCulv_still, ↓upd_still, ↓foldl_still, ↓ite_still, ↓ite_still2, ite_self]
    | (with_reducible refine (foldl_still _ _ _ (fun s a => ?_)).trans ?_)
    | (with_reducible refine pair_still ‹_ = (_, _)› ?_)
    | (with_reducible refine triple_still ‹_ = (_, _, _)› ?_)
    | split

theorem State.performSb_still (s : State) (c : Fin 8) (q : SbReq) : (State.performSb s c q).still = s.still := by
  unfold State.performSb
  repeat' first
    | with_reducible rfl
    | simp only [↓State.readWord_still, ↓State.sbAnswer_still, ↓State.writeAddr_still, ↓upd_still, ↓foldl_still, ↓ite_still, ↓ite_still2, ite_self]
    | (with_reducible refine (foldl_still _ _ _ (fun s a => ?_)).trans ?_)
    | (with_reducible refine pair_still ‹_ = (_, _)› ?_)
    | (with_reducible refine triple_still ‹_ = (_, _, _)› ?_)
    | split

theorem State.performBus_still (s : State) (w : BusWord) : (State.performBus s w).still = s.still := by
  unfold State.performBus
  repeat' first
    | with_reducible rfl
    | simp only [↓State.readWord_still, ↓State.writeAddr_still, ↓upd_still, ↓foldl_still, ↓ite_still, ↓ite_still2, ite_self]
    | (with_reducible refine (foldl_still _ _ _ (fun s a => ?_)).trans ?_)
    | (with_reducible refine pair_still ‹_ = (_, _)› ?_)
    | (with_reducible refine triple_still ‹_ = (_, _, _)› ?_)
    | split

theorem State.parityDue_still (s : State) : (State.parityDue s).still = s.still := by
  unfold State.parityDue
  repeat' first
    | with_reducible rfl
    | simp only [↓State.raise1_still, ↓upd_still, ↓foldl_still, ↓ite_still, ↓ite_still2, ite_self]
    | (with_reducible refine (foldl_still _ _ _ (fun s a => ?_)).trans ?_)
    | (with_reducible refine pair_still ‹_ = (_, _)› ?_)
    | (with_reducible refine triple_still ‹_ = (_, _, _)› ?_)
    | split

theorem State.busNext_still (s : State) : (State.busNext s).still = s.still := by
  unfold State.busNext
  repeat' first
    | with_reducible rfl
    | simp only [↓State.parityDue_still, ↓State.performBus_still, ↓upd_still, ↓foldl_still, ↓ite_still, ↓ite_still2, ite_self]
    | (with_reducible refine (foldl_still _ _ _ (fun s a => ?_)).trans ?_)
    | (with_reducible refine pair_still ‹_ = (_, _)› ?_)
    | (with_reducible refine triple_still ‹_ = (_, _, _)› ?_)
    | split

theorem State.drainBus_still (s : State) : (State.drainBus s).still = s.still := by
  unfold State.drainBus
  repeat' first
    | with_reducible rfl
    | simp only [↓State.busNext_still, ↓upd_still, ↓foldl_still, ↓ite_still, ↓ite_still2, ite_self]
    | (with_reducible refine (foldl_still _ _ _ (fun s a => ?_)).trans ?_)
    | (with_reducible refine pair_still ‹_ = (_, _)› ?_)
    | (with_reducible refine triple_still ‹_ = (_, _, _)› ?_)
    | split

theorem State.serveSb_still (s : State) (c : Fin 8) : (State.serveSb s c).still = s.still := by
  unfold State.serveSb
  repeat' first
    | with_reducible rfl
    | simp only [↓State.performSb_still, ↓State.setCulv_still, ↓upd_still, ↓foldl_still, ↓ite_still, ↓ite_still2, ite_self]
    | (with_reducible refine (foldl_still _ _ _ (fun s a => ?_)).trans ?_)
    | (with_reducible refine pair_still ‹_ = (_, _)› ?_)
    | (with_reducible refine triple_still ‹_ = (_, _, _)› ?_)
    | split

theorem State.servePort_still (s : State) : (State.servePort s).still = s.still := by
  unfold State.servePort
  repeat' first
    | with_reducible rfl
    | simp only [↓State.busNext_still, ↓State.serveSb_still, ↓upd_still, ↓foldl_still, ↓ite_still, ↓ite_still2, ite_self]
    | (with_reducible refine (foldl_still _ _ _ (fun s a => ?_)).trans ?_)
    | (with_reducible refine pair_still ‹_ = (_, _)› ?_)
    | (with_reducible refine triple_still ‹_ = (_, _, _)› ?_)
    | split

theorem State.portCycle_still (s : State) : (State.portCycle s).still = s.still := by
  unfold State.portCycle
  repeat' first
    | with_reducible rfl
    | simp only [↓State.sbSend_still, ↓State.servePort_still, ↓upd_still, ↓foldl_still, ↓ite_still, ↓ite_still2, ite_self]
    | (with_reducible refine (foldl_still _ _ _ (fun s a => ?_)).trans ?_)
    | (with_reducible refine pair_still ‹_ = (_, _)› ?_)
    | (with_reducible refine triple_still ‹_ = (_, _, _)› ?_)
    | split

theorem State.takeRequest_still (s : State) (c : Fin 8) (q : SbReq) : (State.takeRequest s c q).still = s.still := by
  unfold State.takeRequest
  repeat' first
    | with_reducible rfl
    | simp only [↓State.bump_still, ↓State.outsideRequest_still, ↓State.performSb_still, ↓State.raise1_still, ↓State.servePort_still, ↓State.setCulv_still, ↓upd_still, ↓foldl_still, ↓ite_still, ↓ite_still2, ite_self]
    | (with_reducible refine (foldl_still _ _ _ (fun s a => ?_)).trans ?_)
    | (with_reducible refine pair_still ‹_ = (_, _)› ?_)
    | (with_reducible refine triple_still ‹_ = (_, _, _)› ?_)
    | split

theorem State.closeXfer_still (s : State) (kind : Nat) : (State.closeXfer s kind).still = s.still := by
  unfold State.closeXfer
  repeat' first
    | with_reducible rfl
    | simp only [↓State.bump_still, ↓State.wr_still, ↓upd_still, ↓foldl_still, ↓ite_still, ↓ite_still2, ite_self]
    | (with_reducible refine (foldl_still _ _ _ (fun s a => ?_)).trans ?_)
    | (with_reducible refine pair_still ‹_ = (_, _)› ?_)
    | (with_reducible refine triple_still ‹_ = (_, _, _)› ?_)
    | split

theorem State.endXfer_still (s : State) (kind : Nat) : (State.endXfer s kind).still = s.still := by
  unfold State.endXfer
  repeat' first
    | with_reducible rfl
    | simp only [↓State.closeXfer_still, ↓State.drainBus_still, ↓upd_still, ↓foldl_still, ↓ite_still, ↓ite_still2, ite_self]
    | (with_reducible refine (foldl_still _ _ _ (fun s a => ?_)).trans ?_)
    | (with_reducible refine pair_still ‹_ = (_, _)› ?_)
    | (with_reducible refine triple_still ‹_ = (_, _, _)› ?_)
    | split

theorem State.busAnswer_still (s : State) (ack : Bool) (out : List Byte) : (State.busAnswer s ack out).still = s.still := by
  unfold State.busAnswer
  repeat' first
    | with_reducible rfl
    | simp only [↓upd_still, ↓foldl_still, ↓ite_still, ↓ite_still2, ite_self]
    | (with_reducible refine (foldl_still _ _ _ (fun s a => ?_)).trans ?_)
    | (with_reducible refine pair_still ‹_ = (_, _)› ?_)
    | (with_reducible refine triple_still ‹_ = (_, _, _)› ?_)
    | split

theorem State.takeWrite_still (s : State) (bytes : List Byte) (bad : Bool) : (State.takeWrite s bytes bad).still = s.still := by
  unfold State.takeWrite
  repeat' first
    | with_reducible rfl
    | simp only [↓State.parityDue_still, ↓State.servePort_still, ↓State.wr_still, ↓upd_still, ↓foldl_still, ↓ite_still, ↓ite_still2, ite_self]
    | (with_reducible refine (foldl_still _ _ _ (fun s a => ?_)).trans ?_)
    | (with_reducible refine pair_still ‹_ = (_, _)› ?_)
    | (with_reducible refine triple_still ‹_ = (_, _, _)› ?_)
    | split

theorem State.portReset_still (s : State) : (State.portReset s).still = s.still := by
  unfold State.portReset
  repeat' first
    | with_reducible rfl
    | simp only [↓State.setPath_still, ↓State.wr_still, ↓upd_still, ↓foldl_still, ↓ite_still, ↓ite_still2, ite_self]
    | (with_reducible refine (foldl_still _ _ _ (fun s a => ?_)).trans ?_)
    | (with_reducible refine pair_still ‹_ = (_, _)› ?_)
    | (with_reducible refine triple_still ‹_ = (_, _, _)› ?_)
    | split

theorem State.ccc_still (s : State) (ok : State → Bool) (act : State → State) (out : List Byte) (h_act : ∀ x0, (act x0).still = x0.still) : (State.ccc s ok act out).still = s.still := by
  unfold State.ccc
  repeat' first
    | with_reducible rfl
    | simp only [↓State.busAnswer_still, ↓State.endXfer_still, ↓upd_still, ↓foldl_still, ↓ite_still, ↓ite_still2, ite_self, ↓h_act]
    | (with_reducible refine (foldl_still _ _ _ (fun s a => ?_)).trans ?_)
    | (with_reducible refine pair_still ‹_ = (_, _)› ?_)
    | (with_reducible refine triple_still ‹_ = (_, _, _)› ?_)
    | split

theorem State.idleCcc_still (s : State) (target : Option (BitVec 7)) : (State.idleCcc s target).still = s.still := by
  unfold State.idleCcc
  split
  · exact State.ccc_still _ _ _ _ fun _ => rfl
  · simp only [↓State.busAnswer_still, ↓State.ccc_still, ↓State.endXfer_still, ↓ite_still, ite_self]

theorem State.beginCulverts_still (s : State) : (State.beginCulverts s).still = s.still := by
  unfold State.beginCulverts
  repeat' first
    | with_reducible rfl
    | simp only [↓State.culvStart_still, ↓State.loadLeveller_still, ↓upd_still, ↓foldl_still, ↓ite_still, ↓ite_still2, ite_self]
    | (with_reducible refine (foldl_still _ _ _ (fun s a => ?_)).trans ?_)
    | (with_reducible refine pair_still ‹_ = (_, _)› ?_)
    | (with_reducible refine triple_still ‹_ = (_, _, _)› ?_)
    | split

theorem State.startSynth_still (s : State) (p : Nat) : (State.startSynth s p).still = s.still := by
  unfold State.startSynth
  repeat' first
    | with_reducible rfl
    | simp only [↓State.beginRelock_still, ↓State.wr_still, ↓upd_still, ↓foldl_still, ↓ite_still, ↓ite_still2, ite_self]
    | (with_reducible refine (foldl_still _ _ _ (fun s a => ?_)).trans ?_)
    | (with_reducible refine pair_still ‹_ = (_, _)› ?_)
    | (with_reducible refine triple_still ‹_ = (_, _, _)› ?_)
    | split

theorem State.lightNow_still (s : State) (x : Nat) : (State.lightNow s x).still = s.still := by
  unfold State.lightNow
  repeat' first
    | with_reducible rfl
    | simp only [↓State.applyNext_still, ↓State.lightSeats_still, ↓upd_still, ↓foldl_still, ↓ite_still, ↓ite_still2, ite_self]
    | (with_reducible refine (foldl_still _ _ _ (fun s a => ?_)).trans ?_)
    | (with_reducible refine pair_still ‹_ = (_, _)› ?_)
    | (with_reducible refine triple_still ‹_ = (_, _, _)› ?_)
    | split

theorem State.beginRing_still (s : State) : (State.beginRing s).still = s.still := by
  unfold State.beginRing
  repeat' first
    | with_reducible rfl
    | simp only [↓State.lightNow_still, ↓State.queuePass_still, ↓State.startSynth_still, ↓upd_still, ↓foldl_still, ↓ite_still, ↓ite_still2, ite_self]
    | (with_reducible refine (foldl_still _ _ _ (fun s a => ?_)).trans ?_)
    | (with_reducible refine pair_still ‹_ = (_, _)› ?_)
    | (with_reducible refine triple_still ‹_ = (_, _, _)› ?_)
    | split

theorem State.beginCold_still (s : State) : (State.beginCold s).still = s.still := by
  unfold State.beginCold
  repeat' first
    | with_reducible rfl
    | simp only [↓State.baStart_still, ↓State.wr_still, ↓upd_still, ↓foldl_still, ↓ite_still, ↓ite_still2, ite_self]
    | (with_reducible refine (foldl_still _ _ _ (fun s a => ?_)).trans ?_)
    | (with_reducible refine pair_still ‹_ = (_, _)› ?_)
    | (with_reducible refine triple_still ‹_ = (_, _, _)› ?_)
    | split

theorem State.endCold_still (s : State) : (State.endCold s).still = s.still := by
  unfold State.endCold
  repeat' first
    | with_reducible rfl
    | simp only [↓State.baAbandon_still, ↓State.bump_still, ↓State.raise1_still, ↓State.wr_still, ↓upd_still, ↓foldl_still, ↓ite_still, ↓ite_still2, ite_self]
    | (with_reducible refine (foldl_still _ _ _ (fun s a => ?_)).trans ?_)
    | (with_reducible refine pair_still ‹_ = (_, _)› ?_)
    | (with_reducible refine triple_still ‹_ = (_, _, _)› ?_)
    | split

theorem State.beginLinks_still (s : State) : (State.beginLinks s).still = s.still := by
  unfold State.beginLinks
  repeat' first
    | with_reducible rfl
    | simp only [↓State.endCold_still, ↓State.settle_still, ↓State.toWait_still, ↓State.wr_still, ↓State.wrHalf_still, ↓upd_still, ↓foldl_still, ↓ite_still, ↓ite_still2, ite_self]
    | (with_reducible refine (foldl_still _ _ _ (fun s a => ?_)).trans ?_)
    | (with_reducible refine pair_still ‹_ = (_, _)› ?_)
    | (with_reducible refine triple_still ‹_ = (_, _, _)› ?_)
    | split

theorem State.beginStep_still (s : State) (n : Nat) : (State.beginStep s n).still = s.still := by
  unfold State.beginStep
  repeat' first
    | with_reducible rfl
    | simp only [↓State.beginCold_still, ↓State.beginCulverts_still, ↓State.beginLinks_still, ↓State.beginRing_still, ↓State.loadStore_still, ↓State.openAll_still, ↓State.toStep_still, ↓upd_still, ↓foldl_still, ↓ite_still, ↓ite_still2, ite_self]
    | (with_reducible refine (foldl_still _ _ _ (fun s a => ?_)).trans ?_)
    | (with_reducible refine pair_still ‹_ = (_, _)› ?_)
    | (with_reducible refine triple_still ‹_ = (_, _, _)› ?_)
    | split

theorem State.scanLoop_still (s : State) (c : Nat) : (State.scanLoop s c).still = s.still := by
  unfold State.scanLoop
  repeat' first
    | with_reducible rfl
    | simp only [↓State.wrClvCtrl_still, ↓upd_still, ↓foldl_still, ↓ite_still, ↓ite_still2, ite_self]
    | (with_reducible refine (foldl_still _ _ _ (fun s a => ?_)).trans ?_)
    | (with_reducible refine pair_still ‹_ = (_, _)› ?_)
    | (with_reducible refine triple_still ‹_ = (_, _, _)› ?_)
    | split

end Sys2Proof.Machine
end

