-- ==== Sys2Proof/Tests/Slice0.lean ====
section
/-! SUPPORT. Tests: ill-formed commands are refused; single steps and functions give what the spec says; and for every statement with hypotheses
a state and operands that meet them. -/

namespace Sys2Proof.Tests

open Sys2Proof.Machine

set_option maxRecDepth 8000
set_option Elab.async false

/-! ## States for the tests -/

/-- A die whose strokes have run for a while. -/
def live : State :=
  { State.reset.wr Reg.STK.STAT_RUNNING 1 with clk := { State.reset.clk with stroke := 0xFFFFFFFFFFFF, elapsed := 5000 } }

/-- A shell header with good CRC and codewords, in sequence from training. -/
def goodHdr : ShellHdr := ⟨List.replicate 16 (some 0), true, false, 0xFFFFFF, 0, 0, 0, 0, 1, 0, false, 1, 15, false⟩

/-- An event of class FATAL. -/
def ev0 : Event := ⟨⟨0x014, .fatal, 31⟩, 1, 2⟩

/-- An operation that the peer asked for. -/
def someCause : LaneCause := ⟨.peer, Stamp.none, 0, 0, false⟩

/-- An operation that was sent in stroke 0 and not answered. -/
def someOp : CtrlOp := ⟨0x12, 15, 0, 0, 8, true, someCause⟩

/-- A command of intake queue 63, taken in and running. -/
def someCmd : Cmd := ⟨7, .iq 63, 0, [0, 0, 0, 0, 0, 0, 0, 0], 0, .running, false, 0, some 15, 0, [], 1, true, .none, 0⟩

/-- A job of that command. -/
def someJob : Job := ⟨9, 7, 0, .send, 15, 1, 0x1000, 0, 64, 0, 0, [], [], .none, .none, .none, 0, false, false, .none, .none⟩

/-- A round of training with no tree. -/
def someRound : Round := ⟨0xFFFF, true, true, true, 0, [], 1, 1, 1, [], [], 0, false, false, 62, [], [], false⟩

/-- A bundle-adjustment run at its first iteration. -/
def someRun : BaRun := ⟨false, 100, 4000, 1, 4000, 8, 1536, List.replicate 480 0, false, .none, []⟩

/-- That run with so many samples discarded and so many clean ones. -/
def sampledRun (bad good : Nat) : BaRun :=
  { someRun with samples := [(3999, ((List.range bad).map fun i => (i, .none)) ++ (List.range good).map fun i => (bad + i, some 1))] }

/-- A message of a SEND of 8 bytes, in order, from node 1. -/
def someMsg : Msg := ⟨1, 1, 0, 1, 0, false, true, [1, 2, 3, 4, 5, 6, 7, 8]⟩

/-- A node-map line of two nodes: node 0 present in epoch 0 and granting all, node 1 a spare. -/
def mapLine (state0 state1 grants : Nat) : List DWord :=
  [BitVec.ofNat 64 (0x80000000 + state0), BitVec.ofNat 64 (0x10000 + grants), 16, 0, BitVec.ofNat 64 (0x80000000 + state1),
    BitVec.ofNat 64 (0x10000 + grants), 16, 0]

/-- A die whose port 15, in ACTIVE, has received a message; node 1 is in the state given, and grants what is given to any. -/
def heard (m : Msg) (st g : Nat) (un : List (Nat × Nat × Nat)) : State :=
  { ((live.wr (Reg.LNK.STAT_STATE 15) 6).wr Reg.BTH.MAP_BASE_LO 1).setLink 15 { Link.reset with rxMsgs := [m], unanswered := un } with
    cox := { live.cox with cache := [(64, mapLine st 1 g)] } }

/-- A die whose intake queue 63 offers one command, at hand with the map line of nodes 0 and 1 and whatever other lines are given. -/
def offers (ws : List DWord) (lines : List (Nat × List DWord)) : State :=
  let s := (((((((List.range 8).foldl (fun s c => s.wr (Reg.CLV.STAT_STATE c) 5) live).wr (Reg.COX.IQ_CFG_ENABLE 63) 1).wr (Reg.COX.IQ_TAIL 63) 1).wr
    (Reg.COX.OQ_CFG_ENABLE 0) 1).wr Reg.BTH.MAP_BASE_LO 1).wr (Reg.COX.OQ_CFG_SIZE_LOG2 0) 6).wr (Reg.COX.IQ_CFG_SIZE_LOG2 63) 6
  { s with cox := { s.cox with cache := (0, ws) :: (64, mapLine 1 2 3) :: lines } }

/-- The state after the lookups of queue 63's command. -/
def looked (s : State) (ws : List DWord) : State :=
  let a := (s.look (s.iqAddr 63)).2
  let b := (a.touch (a.neededLines ws)).2.2
  (b.touch ((b.neededLines ws).drop (a.neededLines ws).length)).2.2

/-- A die at step 3 whose culverts are resolved and whose actuators are set. -/
def culvertsOpen : State :=
  let s := (((live.wr Reg.GLB.STAT_STEP 3).wr Reg.LVL.STAT_THERMAL 1).wr (Reg.CLV.STAT_STATE 7) 5)
  { s with clk := { s.clk with cycle := 0 } }

/-- A visit of one seat, begun. -/
def someVisit : Visit := ⟨⟨15, .rx, 17⟩, some 4953, false, false, [], .none, .none, .none, .none, some 0, .none, .none, true, false⟩

/-- A die with that visit under way. -/
def visiting : State := { live with cal := { live.cal with visits := [someVisit] } }

/-- A die with one visit under way. -/
def visits (v : Visit) : State := { live with cal := { live.cal with visits := [v] } }

/-- A die whose culvert 7 has its sideband open. -/
def sbOpen (c : Culv) : State := { State.reset.setCulv 7 { c with identOk := true, clockOk := true } with held := false }

/-- The last row of the shadow is 0 off the diagonal, and a delta list for its diagonal waits. -/
def lastRowClear : State :=
  { live with
    lvl := { live.lvl with
      shadow := (List.range 815).map (fun j => (matKey 815 j, some 0))
      queue := [⟨[⟨815, 815, 0x4000⟩], [], false⟩]
      loaded := true } }

/-- Machine command words 0, 2, 3, 4 and 5; the rest are 0. -/
def cmdWords (w0 w2 w3 w4 w5 : Nat) : List DWord :=
  [BitVec.ofNat 64 w0, 0, BitVec.ofNat 64 w2, BitVec.ofNat 64 w3, BitVec.ofNat 64 w4, BitVec.ofNat 64 w5, 0, 0]

/-- A SEND of 64 bytes on TC 1 by port 15 to node 0. -/
def sendWords : List DWord := cmdWords 0x3D0001 0x4000000000 0x1000 0x1000 0

/-- The lines, from line 128, of a program that sends once and brings nothing back. -/
def progLines : List (Nat × List DWord) := [(128, [1, 0, 0, 0, 0, 0, 0, 0]), (129, sendWords), (130, sendWords)]

/-- A regatta about to issue its first transfer. -/
def someRegatta : Run := ⟨3, progLines.flatMap (·.2), 0, 0, 0, .none, .none⟩

/-- A die with work of every kind under way, and an event of class FATAL asserted. -/
def busyDie : State :=
  let s := (offers sendWords []).wr (Reg.LNK.STAT_STATE 15) 6
  let s := (((s.wr (Reg.LNK.STAT_STATE 14) 8).wr (Reg.LNK.STAT_STATE 13) 3).wr (Reg.OPT.STAT_SYN 15) 2).wr (Reg.HGT.HG_STAT_OPEN 3) 1
  let s := (s.setLink 15 { Link.reset with replay := [⟨0, 18, [], [], false⟩], rxMsgs := [someMsg], ops := [someOp] }).setSeat 575 { Seat.reset with state := .locked }
  { s with
    ump := { s.ump with assertedAt := some ⟨0xFFFFFFFFFFFF, 17⟩ }
    cal := { s.cal with visits := [someVisit] }
    lvl := { s.lvl with queue := [⟨[⟨0, 0, 1⟩], [], false⟩] }
    nvs := { s.nvs with own := some ⟨5, false, 1, 0, 3, false, false, [[]]⟩ }
    cox := { s.cox with cmds := [someCmd], jobs := [someJob], bw := [], oqs := [(0, { Oq.reset with reserved := 1 })] }
    runs := { s.runs with rounds := [{ someRound with cmds := [] }], run := .none, extents := [(4095, ⟨1, 0, 0, false, false, 0, 0, 0, 0, 64, 64, 0, [(0, [])], [], [], 3, false⟩)] } }

/-- A FETCH's job with one write to the hub still unanswered. -/
def fetchJob : Job := { someJob with kind := .fetch, writes := 1, fetchId := some 5 }

/-- A die that hears that FETCH's transfer is done. -/
def fetchDone : State :=
  let s := heard { someMsg with kind := 4, data := [0, 1, 1, 5, 0, 0, 0, 0] } 1 3 []
  { s with cox := { s.cox with jobs := [fetchJob], cmds := [someCmd] } }

/-- What `State.gives` asks, as equations that evaluate. -/
theorem gives_of (s : State) (k : Fin 64) (ws : List DWord) (t : State)
    (h : s.held = false ∧ s.anyActive = true ∧ s.cox.cmds.length < 4096 ∧ s.cox.takenAt ≠ some s.time ∧
      s.iqOffers k.val = true ∧ (s.look (s.iqAddr k.val)).1 = .hit ws ∧
      (s.look (s.iqAddr k.val)).2.touch ((s.look (s.iqAddr k.val)).2.neededLines ws) =
        (true, .none, ((s.look (s.iqAddr k.val)).2.touch ((s.look (s.iqAddr k.val)).2.neededLines ws)).2.2) ∧
      (((s.look (s.iqAddr k.val)).2.touch ((s.look (s.iqAddr k.val)).2.neededLines ws)).2.2.touch
        ((((s.look (s.iqAddr k.val)).2.touch ((s.look (s.iqAddr k.val)).2.neededLines ws)).2.2.neededLines ws).drop
          ((s.look (s.iqAddr k.val)).2.neededLines ws).length) = (true, .none, t)) ∧ t.turn = some k.val) : s.gives k ws t :=
  let ⟨held, active, room, turn, offer, hit, keep, rest, next⟩ := h
  ⟨held, active, room, turn, offer, ⟨_, _, Prod.ext hit rfl, keep, rest⟩, next⟩

/-- A pair with a known first component. -/
theorem pair_of {α β : Type} {x : α × β} {a : α} (h : x.1 = a) : x = (a, x.2) := by
  cases x
  cases h
  rfl

/-- The entries of that shadow's last row off the diagonal. -/
theorem lastRow_read (l : List Nat) (j : Nat) (h : j ∈ l) :
    Tab.read Option.none (l.map fun j => (matKey 815 j, some (0 : Int))) (matKey 815 j) = some 0 := by
  induction l with
  | nil => cases h
  | cons a l ih =>
    rw [List.map_cons, Tab.read]
    by_cases e : matKey 815 j = matKey 815 a
    · rw [if_pos e]
    · rw [if_neg e]
      exact ih ((List.mem_cons.1 h).resolve_left fun e' => e (by rw [e']))

/-- A list for the last diagonal entry passes Table 8.3 on a shadow whose last row is 0 off the diagonal. -/
theorem lastRow_passes (t : Tab (Option Int)) (h : ∀ j < 815, Tab.read Option.none t (matKey 815 j) = some 0) :
    failingRow (applyDelta t [⟨815, 815, 0x4000⟩]) [⟨815, 815, 0x4000⟩] = .none := by
  have z : rowSum (applyDelta t [⟨815, 815, 0x4000⟩]) 815 = 0 := by
    rw [rowSum, List.sum_eq_zero]
    intro x hx
    obtain ⟨j, hj, rfl⟩ := List.mem_map.1 hx
    obtain ⟨hr, hn⟩ := List.mem_filter.1 hj
    have hlt : j < 816 := List.mem_range.1 hr
    have hne : j ≠ 815 := by simpa using hn
    have hk : matKey 815 815 ≠ matKey 815 j := by simp only [matKey]; omega
    have r : Tab.read Option.none (applyDelta t [⟨815, 815, 0x4000⟩]) (matKey 815 j) = some 0 := by
      simp only [applyDelta, List.foldl]
      rw [Tab.read_write_ne _ _ _ _ hk, Tab.read_write_ne _ _ _ _ hk]
      exact h j (by omega)
    rw [matEntry, r]
    rfl
  have d : ∀ l : List Nat, (∀ i ∈ l, i = 815) → l.find? (fun i => decide (4 * (matEntry (applyDelta t [⟨815, 815, 0x4000⟩]) i i).natAbs <
      5 * rowSum (applyDelta t [⟨815, 815, 0x4000⟩]) i)) = Option.none := by
    intro l hl
    rw [List.find?_eq_none]
    intro i hi
    rw [hl i hi, z]
    simp
  simp only [failingRow, List.flatMap_cons, List.flatMap_nil, List.append_nil]
  rw [d _ (by simp)]
  rfl

/-! ## Ill-formed commands are refused, one term for each check -/

theorem test_wf_discarded : (Instr.baWindowEnd 3 2).wf = false := by decide
theorem test_wf_monitorCount : (Instr.monitorSample (.port 3) (List.replicate 39 0) [] 0).wf = false := by decide
theorem test_wf_monitorCode : (Instr.monitorSample (.port 3) (List.replicate 39 0 ++ [4096]) [] 0).wf = false := by decide
theorem test_wf_monitorBank : (Instr.monitorSample (.port 3) (List.replicate 40 0) [5] 0).wf = false := by decide
theorem test_wf_monitorSample : (Instr.monitorSample (.port 3) (List.replicate 40 4095) [4] 0).wf = true := by decide
theorem test_wf_overrunChannel : (Instr.sampleOverrun .flume 240).wf = false := by decide
theorem test_wf_deltaRow : (Instr.searchMemberTimeout ⟨0, .tx, 0⟩ [⟨816, 0, 0⟩]).wf = false := by decide
theorem test_wf_deltaCol : (Instr.searchMemberTimeout ⟨0, .tx, 0⟩ [⟨0, 816, 0⟩]).wf = false := by decide
theorem test_wf_deltaHigh : (Instr.calibrationStep ⟨0, .rx, 17⟩ .sweep [⟨0, 0, 32768⟩]).wf = false := by decide
theorem test_wf_deltaLow : (Instr.calibrationStep ⟨0, .rx, 17⟩ .sweep [⟨0, 0, -32769⟩]).wf = false := by decide
theorem test_wf_bank : (Instr.bankRefWithdraw 15 5).wf = false := by decide
theorem test_wf_lane : (Instr.laneAddDeadline 15 16).wf = false := by decide
theorem test_wf_solveCycle : (Instr.thermalSolve 1280 .none).wf = false := by decide
theorem test_wf_solveBlock : (Instr.thermalSolve 1279 (.storeCe 24)).wf = false := by decide
theorem test_wf_refactorBlock : (Instr.blockRefactor (.factorUe 24)).wf = false := by decide
theorem test_wf_baCount : (Instr.baIteration true []).wf = false := by decide
theorem test_wf_baSize : (Instr.baIteration true (List.replicate 480 65536)).wf = false := by decide +kernel
theorem test_wf_datumOffsets : (Instr.datumAcquireEnd 0 true 0 0 [.none]).wf = false := by decide
theorem test_wf_sensors : (Instr.thermalRead (List.replicate 19 0)).wf = false := by decide
theorem test_wf_hot : (Instr.thmHot 20).wf = false := by decide
theorem test_wf_cold : (Instr.thmCold 20).wf = false := by decide
theorem test_wf_trip : (Instr.thmTrip 20).wf = false := by decide
theorem test_wf_record : (Instr.nvsRecordWriteStart 7).wf = false := by decide
theorem test_wf_pageRead : (Instr.nvsCmdRead .mgmt 0x4000).wf = false := by decide
theorem test_wf_pageWrite : (Instr.nvsCmdWrite .mgmt 0x4000).wf = false := by decide
theorem test_wf_rdata : (Instr.rdata 0 ⟨true, 0, 0, false⟩ (List.replicate 119 0)).wf = false := by decide
theorem test_wf_wdone : (Instr.wdone 0 ⟨true, 0, 0, false⟩ 0x10000).wf = false := by decide
theorem test_wf_rerrReason : (Instr.rerr 0 ⟨true, 0, 0, false⟩ false 256 0).wf = false := by decide
theorem test_wf_rerrCount : (Instr.rerr 0 ⟨true, 0, 0, false⟩ false 255 0x10000).wf = false := by decide
theorem test_wf_inval : (Instr.inval 0 ⟨true, 0, 0, false⟩ [2 ^ 52]).wf = false := by decide
theorem test_wf_deskew : (Instr.deskewResult 0 0 0 3).wf = false := by decide
theorem test_wf_rdReq : (Instr.rdReq 0 0 0x400000).wf = false := by decide
theorem test_wf_wrReq : (Instr.wrReq 0 0 0x400000 0).wf = false := by decide
theorem test_wf_privateWrite : (Instr.privateWrite .i3c 0x2D [0] (some 1)).wf = false := by decide
theorem test_wf_sampleRead : (Instr.sampleRead .mgmt 0x400000).wf = false := by decide
theorem test_wf_pairLo : (Instr.pairLoWrite .mgmt 0x400000 0).wf = false := by decide
theorem test_wf_pairHi : (Instr.pairHiWrite .mgmt 0x400000 0).wf = false := by decide
theorem test_wf_lockPage : (Instr.lockWrite .mgmt 0x400 0).wf = false := by decide
theorem test_wf_errPage : (Instr.errW1cWrite .mgmt 0x400 .corr 0).wf = false := by decide
theorem test_wf_errClass : (Instr.errW1cWrite .mgmt 0 .fatal 0).wf = false := by decide
theorem test_wf_fatalPage : (Instr.errFatalClear .mgmt 0x400 0).wf = false := by decide
theorem test_wf_cntPage : (Instr.cntClr .mgmt 0x400 0).wf = false := by decide
theorem test_wf_registerWrite : (Instr.registerWrite .mgmt 0x400000 0).wf = false := by decide
theorem test_wf_shellLanes : (Instr.nullShell 0 { goodHdr with lanes := List.replicate 17 (some 0) } false).wf = false := by decide
theorem test_wf_trainLanes : (Instr.trainShell 0 { goodHdr with lanes := List.replicate 17 (some 0) }).wf = false := by decide
theorem test_wf_shellBody : (Instr.dataShell 0 goodHdr (List.replicate 3181 0)).wf = false := by decide +kernel
theorem test_wf_dither : (Instr.mziDither 120 0).wf = false := by decide
theorem test_wf_drift : (Instr.flumeDrift 120).wf = false := by decide
theorem test_wf_held : (Instr.mziHeld 240).wf = false := by decide
theorem test_wf_extent : (Instr.extentRetire .mgmt 0x1000).wf = false := by decide
theorem test_wf_rail : (Instr.railMismatch 0x400 0).wf = false := by decide
theorem test_wf_reraisePage : (Instr.fatalReraise 0x400 0).wf = false := by decide
theorem test_wf_reraiseBit : (Instr.fatalReraise 0 32).wf = false := by decide

/-! ## Single steps and functions, held to values the spec gives -/

/-- The state after one command, the state itself where the step stops. -/
def after (c : Instr) (s : State) : State :=
  match step { s with pending := [c] } with
  | .next t => t
  | _ => s

/-- What the management port reads at an address. -/
def peek (s : State) (addr : Nat) : Word := (s.readWord .mgmt addr).1

/-- R493: the CRC-8 of a count of 0 is 0x00. -/
theorem test_marker_crc_zero : crc8 0 = 0x00#8 := by decide +kernel

/-- R493: the CRC-8 of a count of 1 is 0x37. -/
theorem test_marker_crc_one : crc8 1 = 0x37#8 := by decide +kernel

/-- R58: the parameters are those of the common CRC-32, whose check value over "123456789" is published. -/
theorem test_flit_crc : crc32 [0x31, 0x32, 0x33, 0x34, 0x35, 0x36, 0x37, 0x38, 0x39] = 0xCBF43926#32 := by decide +kernel

/-- R123: likewise the CRC-16 with polynomial 0x1021 and initial value 0xFFFF. -/
theorem test_packet_crc : crc16 [0x31, 0x32, 0x33, 0x34, 0x35, 0x36, 0x37, 0x38, 0x39] = 0x29B1#16 := by decide +kernel

/-- R269: the encoder's words are codewords, and a word with one symbol wrong is none. -/
theorem test_fec_codeword :
    isCodeword (codeword true 3 [1, 2, 3]) = true ∧ isCodeword ((codeword true 3 [1, 2, 3]).set 0 0x3FF#10) = false := by decide +kernel

/-- R272: with FEC off a codeword of another line fails its tag. -/
theorem test_lane_tag : decodeWord false 4 (codeword false 3 [1, 2, 3]) = .none := by decide +kernel

/-- R270: with PAM4 the values 0, 1, 2 and 3 are sent as levels 0, 1, 3 and 2. -/
theorem test_pam_levels : (lineSymbols true 0xE4).take 4 = [0, 1, 3, 2] := by decide +kernel

/-- R122, Table 4.5: the frame of a sideband packet. -/
theorem test_sideband_frame :
    (sbFrame (sbPacket 0x02 0 [7])).take 2 = [0xF0, 0x0F] ∧ (sbPacket 0x02 0 [7]).length = 16 ∧ packetGood (sbPacket 0x02 0 [7]) = true := by
  decide +kernel

/-- Table 4.10: GLB's ID. -/
theorem test_glb_id : peek State.reset 0x000000 = 0x00000001#32 := by decide +kernel

/-- The ID of the management page, type 0x0010. -/
theorem test_mgt_id : peek State.reset 0x010000 = 0x00100001#32 := by decide +kernel

/-- R488: IDCODE captures the stepping's code. -/
theorem test_idcode : (after .idcode State.reset).tap.capture = 0x17A5158F := by decide +kernel

/-- R488: BYPASS captures 0. -/
theorem test_bypass : (after .bypass State.reset).tap.capture = 0 := by decide +kernel

/-- R38, R39: at a boundary the count rises by one and the cycle is 0; 2^48 − 1 is followed by 0. -/
theorem test_boundary_wraps : (after .strokeBoundary live).clk.stroke = 0 ∧ (after .strokeBoundary live).clk.cycle = 0 := by decide +kernel

/-- Table 4.2: SCRATCH keeps what is written. -/
theorem test_scratch : peek (after (.registerWrite .mgmt 0x010030 0xCAFE0123) live) 0x010030 = 0xCAFE0123#32 := by decide +kernel

/-- R107: a read-only register keeps its value. -/
theorem test_id_kept : peek (after (.registerWrite .mgmt 0x010000 0xFFFFFFFF) live) 0x010000 = 0x00100001#32 := by decide +kernel

/-- R115: SCRATCH of a locked page is written as ever. -/
theorem test_scratch_unprotected :
    peek (after (.registerWrite .mgmt 0x010030 5) (after (.lockWrite .mgmt 0x010 1) live)) 0x010030 = 5#32 := by decide +kernel

/-- R116, R117, Table 4.4: clearing WP needs the key; without it WP stays and DENIED counts one. -/
theorem test_lock_key :
    peek (after (.lockWrite .mgmt 0x010 0x5A170000) (after (.lockWrite .mgmt 0x010 1) live)) 0x010034 = 0#32 ∧
      peek (after (.lockWrite .mgmt 0x010 0) (after (.lockWrite .mgmt 0x010 1) live)) 0x010034 = 0x101#32 := by decide +kernel

/-- R111, Table 4.2: a second event of a kind is merged, and counted as merged only. -/
theorem test_merge : peek ((live.raise1 (plain Err.THM.HOT)).raise1 (plain Err.THM.HOT)) (Err.THM.HOT.page * 0x1000 + 0x01C) = 0x01010000#32 := by
  decide +kernel

/-- R362: an addition to a buoy from a register is modulo 2^64. -/
theorem test_buoy_add :
    let s := after (.pairHiWrite .mgmt 0x00B104 0xFFFFFFFF) (after (.pairLoWrite .mgmt 0x00B100 0xFFFFFFFF) live)
    s.buoyVal 0 = 0xFFFFFFFFFFFFFFFF := by decide +kernel

/-- R53: in the safe state ALIVE holds its last level, whatever bit 6 of the count does. -/
theorem test_safe_alive :
    (after .strokeBoundary { (live.enterSafe 1 live.stamp live.stamp) with clk := { live.clk with alive := true } }).clk.alive = true := by
  decide +kernel

/-- Table 8.9: the live entry at the diagonal position of actuator 227 reads 0x0000_3A00, with IN_PATTERN 0. -/
theorem test_mat_live :
    State.liveMat { live with lvl := { live.lvl with live := [(matKey 227 227, some 0x3A00)], loaded := true } } 227 227 = 0x3A00 ∧
      inPattern 227 227 = false := by
  refine ⟨by decide +kernel, ?_⟩
  rw [← Bool.not_eq_true, inPattern, List.contains_iff_mem]
  intro h
  unfold patternPairs at h
  have m := (List.mem_filter.1 (List.mem_dedup.1 (List.mem_reverse.1 (List.mem_of_mem_take h)))).2
  revert m
  decide

/-- Table 6.6: PWRUP_PEND shows the port of a transmit seat whose driver waits to start. -/
theorem test_pwrup_pend :
    peek (live.setSeat (seatKey 3 .tx 5) { live.seat (seatKey 3 .tx 5) with driverDue := true }) 0x013070 = 8#32 := by decide +kernel

/-! ## Witnesses: the hypotheses of each statement's clauses are met together -/

theorem witness_StepRunsFrontCommand :
    (∃ (c : Instr) (rest : List Instr) (s : State), s.pending = c :: rest) ∧
    (∃ (s : State), s.pending = [] ∧ s.running = false) ∧
    (∃ (s : State), s.pending = [] ∧ s.running = true ∧ s.clk.cycle < 1279) ∧
    (∃ (s : State), s.pending = [] ∧ s.running = true ∧ s.clk.cycle = 1279) ∧
    (∃ (s : State), s.pending = [] ∧ s.mgmt.todo = [] ∧ (∀ c < 8, (s.culv c).held = [] ∧ (s.culv c).answers = [] ∧ (s.culvState c < 4 ∨ 6 < s.culvState c))) :=
  ⟨⟨.idcode, [.bypass], { State.reset with pending := .idcode :: [.bypass] }, by decide +kernel⟩,
    ⟨{ State.reset with pending := [] }, by decide +kernel⟩,
    ⟨{ live with pending := [] }, by decide +kernel⟩,
    ⟨{ live with pending := [], clk := { (live).clk with cycle := 1279 } }, by decide +kernel⟩,
    ⟨{ live with pending := [] }, by decide +kernel⟩⟩

theorem witness_EveryStepKeepsItsPlace :
    (∃ (s : State) (t : State), s.cycleOk = true ∧ step s = .next t) ∧
    (∃ (s : State) (t : State), s.queueWf = true ∧ step s = .next t) :=
  ⟨⟨{ live with pending := [.idcode] }, { live with tap := { live.tap with ir := 0x02, capture := 0x17A5158F } }, by decide +kernel, rfl⟩,
    ⟨{ live with pending := [.idcode] }, { live with tap := { live.tap with ir := 0x02, capture := 0x17A5158F } }, by decide +kernel, rfl⟩⟩

theorem witness_OnlyTimeCommandsMoveTheStroke :
    ∃ (c : Instr) (s : State) (t : State), movesStroke c = false ∧ exec c s = .next t :=
  ⟨.idcode, live, { live with tap := { live.tap with ir := 0x02, capture := 0x17A5158F } }, by decide +kernel, rfl⟩

theorem witness_TapStandsApart :
    ∃ (c : Instr) (s : State) (t : State), isScan c = false ∧ (∀ f, c ≠ .powerLoss f) ∧ exec c s = .next t :=
  ⟨.sclLowTimeout, live, live, by decide +kernel, (fun f h => by cases h), rfl⟩

theorem witness_ScanInstructions :
    (∃ (s : State) (x : BusXfer) (c : Instr), (c = .clamp ∨ c = .highz ∨ c = .extest 0) ∧ s.busBlind = false ∧ s.mgmt.todo = [] ∧ s.mgmt.xfer = some x) ∧
    (∃ (s : State), s.mgmt.todo = []) :=
  ⟨⟨{ State.reset with mgmt := { State.reset.mgmt with xfer := some (⟨true, 3, 4, false⟩) } }, ⟨true, 3, 4, false⟩, .clamp, by decide +kernel⟩,
    ⟨State.reset, by decide +kernel⟩⟩

theorem witness_DynamicAddress :
    (∃ (s : State) (target : BitVec 7), s.busDeaf = false ∧ s.mgmt.todo = [] ∧ s.flag Reg.MGT.STAT_DA_VALID = false ∧ target.toNat = s.staticAddr) ∧
    (∃ (s : State) (target : BitVec 7), s.busDeaf = false ∧ s.mgmt.todo = [] ∧ (s.flag Reg.MGT.STAT_DA_VALID = true ∨ target.toNat ≠ s.staticAddr)) ∧
    (∃ (s : State), s.busDeaf = false ∧ s.mgmt.todo = [] ∧ s.flag Reg.MGT.STAT_DA_VALID = false) ∧
    (∃ (s : State) (target : BitVec 7), s.busDeaf = false ∧ s.mgmt.todo = [] ∧ s.flag Reg.MGT.STAT_DA_VALID = true ∧ target.toNat = s.rd Reg.MGT.STAT_DA) ∧
    (∃ (s : State), s.busDeaf = false ∧ s.mgmt.todo = []) :=
  ⟨⟨State.reset, 0x30, by decide +kernel⟩,
    ⟨State.reset.wr Reg.MGT.STAT_DA_VALID 1, 0x31, by decide +kernel⟩,
    ⟨State.reset, by decide +kernel⟩,
    ⟨(State.reset.wr Reg.MGT.STAT_DA_VALID 1).wr Reg.MGT.STAT_DA 0x7F, 0x7F, by decide +kernel⟩,
    ⟨State.reset, by decide +kernel⟩⟩

theorem witness_CommonCommandCodes_1 :
    (∃ (s : State) (a : BitVec 7), s.busDeaf = false ∧ s.mgmt.todo = [] ∧ s.addressed .i3c a = true) ∧
    (∃ (c : Instr) (s : State) (a : BitVec 7), (c = .getbcr a ∨ c = .getdcr a) ∧ s.busDeaf = false ∧ s.mgmt.todo = [] ∧ s.addressed .i3c a = true) ∧
    (∃ (c : Instr) (s : State) (a : BitVec 7), (c = .getpid a ∨ c = .getbcr a ∨ c = .getdcr a ∨ c = .getstatus a ∨ c = .enec (some a) ∨ c = .disec (some a)) ∧ s.busDeaf = false ∧ s.mgmt.todo = [] ∧ s.addressed .i3c a = false) ∧
    (∃ (c : Instr) (s : State) (a : BitVec 7), (c = .enec (some a) ∨ c = .disec (some a) ∨ c = .enec .none ∨ c = .disec .none) ∧ s.busDeaf = false ∧ s.mgmt.todo = [] ∧ s.addressed .i3c a = true) ∧
    (∃ (s : State) (a : BitVec 7) (n : Byte), s.busDeaf = false ∧ s.mgmt.todo = [] ∧ s.addressed .i3c a = true ∧ n.toNat ≤ 2) :=
  ⟨⟨State.reset, 0x30, by decide +kernel⟩,
    ⟨.getbcr 0x30, State.reset, 0x30, by decide +kernel⟩,
    ⟨.getpid 0x31, State.reset, 0x31, by decide +kernel⟩,
    ⟨.enec (some 0x30), State.reset, 0x30, by decide +kernel⟩,
    ⟨State.reset, 0x30, 2, by decide +kernel⟩⟩

theorem witness_CommonCommandCodes_2 :
    (∃ (s : State) (n : Byte), s.busDeaf = false ∧ s.mgmt.todo = [] ∧ 2 < n.toNat) ∧
    (∃ (s : State) (n : Byte), s.busDeaf = false ∧ s.mgmt.todo = [] ∧ n.toNat ≤ 2) ∧
    (∃ (s : State), s.mgmt.todo = []) :=
  ⟨⟨State.reset, 3, by decide +kernel⟩,
    ⟨State.reset, 2, by decide +kernel⟩,
    ⟨State.reset, by decide +kernel⟩⟩

theorem witness_TransfersEndAndReset_1 :
    (∃ (s : State), s.mgmt.todo = [] ∧ s.mgmt.xfer = .none) ∧
    (∃ (s : State), s.busDeaf = false ∧ s.mgmt.todo = [] ∧ s.mgmt.armed = false ∧ s.rd Reg.MGT.STAT_RSTACT = 0) ∧
    (∃ (s : State), s.busDeaf = false ∧ s.mgmt.todo = [] ∧ s.mgmt.armed = false ∧ s.rd Reg.MGT.STAT_RSTACT = 1) ∧
    (∃ (s : State), s.busDeaf = false ∧ s.mgmt.todo = [] ∧ s.rd Reg.MGT.STAT_RSTACT = 2 ∧ s.flag Reg.MGT.CTRL = true) ∧
    (∃ (s : State), s.busDeaf = false ∧ s.mgmt.todo = [] ∧ s.rd Reg.MGT.STAT_RSTACT = 2 ∧ s.flag Reg.MGT.CTRL = false) :=
  ⟨⟨{ State.reset with mgmt := { State.reset.mgmt with xfer := .none } }, by decide +kernel⟩,
    ⟨{ State.reset.wr Reg.MGT.STAT_RSTACT 0 with mgmt := { State.reset.mgmt with armed := false } }, by decide +kernel⟩,
    ⟨{ State.reset.wr Reg.MGT.STAT_RSTACT 1 with mgmt := { State.reset.mgmt with armed := false } }, by decide +kernel⟩,
    ⟨(State.reset.wr Reg.MGT.STAT_RSTACT 2).wr Reg.MGT.CTRL 1, by decide +kernel⟩,
    ⟨State.reset.wr Reg.MGT.STAT_RSTACT 2, by decide +kernel⟩⟩

theorem witness_TransfersEndAndReset_2 :
    (∃ (s : State), s.busDeaf = false ∧ s.mgmt.todo = [] ∧ s.flag Reg.MGT.CTRL = true) ∧
    (∃ (s : State), s.busDeaf = false ∧ s.mgmt.todo = [] ∧ s.flag Reg.MGT.CTRL = false) ∧
    (∃ (s : State) (x : BusXfer), s.mgmt.todo = [] ∧ s.mgmt.xfer = some x ∧ s.rd Reg.MGT.ABORT_CNT_ABORTS < 0xFFFF) ∧
    (∃ (s : State) (c : Instr) (r : Bool) (a d : Nat), (c = .transferEnd r ∨ c = .sclLowTimeout) ∧ s.mgmt.todo = [.write a d] ∧ s.mgmt.parityAfter = false) :=
  ⟨⟨State.reset.wr Reg.MGT.CTRL 1, by decide +kernel⟩,
    ⟨State.reset, by decide +kernel⟩,
    ⟨{ State.reset with mgmt := { State.reset.mgmt with xfer := some ⟨true, 3, 4, false⟩ } }, ⟨true, 3, 4, false⟩, by decide +kernel⟩,
    ⟨{ live with mgmt := { live.mgmt with todo := [.write 0x14040 1] } }, .sclLowTimeout, true, 0x14040, 1, by decide +kernel⟩⟩

theorem witness_PrivateTransfers_1 :
    (∃ (s : State) (f : BusForm) (a : BitVec 7), s.busDeaf = false ∧ s.mgmt.todo = [] ∧ s.addressed f a = true) ∧
    (∃ (s : State) (a : BitVec 7) (bytes : List Byte) (i : Nat), i < 3 ∧ 3 ≤ bytes.length ∧ s.busDeaf = false ∧ s.mgmt.todo = [] ∧ s.addressed .i3c a = true) ∧
    (∃ (c : Instr) (s : State) (f : BusForm) (a : BitVec 7) (bytes : List Byte) (n : Nat), (c = .privateWrite f a bytes .none ∨ c = .privateRead f a n) ∧ s.busDeaf = false ∧ s.mgmt.todo = [] ∧ s.addressed f a = false) ∧
    (∃ (c : Instr) (s : State) (f : BusForm) (a : BitVec 7) (bytes : List Byte) (n : Nat), (c = .privateWrite f a bytes .none ∨ c = .privateRead f a n) ∧ s.busDeaf = true) ∧
    (∃ (s : State) (f : BusForm) (a : BitVec 7), s.busDeaf = false ∧ s.mgmt.todo = [] ∧ s.port.usedAt ≠ some s.time ∧ s.addressed f a = true) :=
  ⟨⟨State.reset, .i3c, 0x30, by decide +kernel⟩,
    ⟨State.reset, 0x30, [1, 2, 3], 2, by decide +kernel⟩,
    ⟨.privateRead .i3c 0x31 4, State.reset, .i3c, 0x31, [], 4, by decide +kernel⟩,
    ⟨.privateRead .i3c 0x30 4, { State.reset with held := true }, .i3c, 0x30, [], 4, by decide +kernel⟩,
    ⟨State.reset, .i3c, 0x30, by decide +kernel⟩⟩

theorem witness_PrivateTransfers_2 :
    (∃ (s : State) (f : BusForm) (a : BitVec 7), s.busDeaf = false ∧ s.mgmt.todo = [] ∧ s.port.usedAt = some s.time ∧ s.addressed f a = true) ∧
    (∃ (s : State) (f : BusForm) (a : BitVec 7) (n : Nat), s.busDeaf = false ∧ s.portIdle = true ∧ s.addressed f a = true ∧ n < 4) :=
  ⟨⟨{ live with port := ⟨some live.time, 0⟩ }, .i3c, 0x30, by decide +kernel⟩,
    ⟨State.reset, .i3c, 0x30, 3, by decide +kernel⟩⟩

theorem witness_RegisterWrites_1 :
    (∃ (s : State) (c : Fin 8), s.held = false ∧ s.sidebandOpen c.val = true) ∧
    (∃ (a : Nat), implemented (pageOfAddr a) (offOfAddr a) = false) ∧
    (∃ (s : State) (via : Path) (pg : Nat), s.deaf via = false ∧ (blockOf pg).isSome = true ∧ pg < 1024) ∧
    (∃ (s : State) (via : Path), s.deaf via = true) ∧
    (∃ (s : State) (via : Path) (a : Nat), s.deaf via = false ∧ implemented (pageOfAddr a) (offOfAddr a) = true ∧ 0x040 ≤ offOfAddr a ∧ s.locked via (pageOfAddr a) = true ∧ via = .mgmt) :=
  ⟨⟨{ State.reset.setCulv 7 { Culv.reset with identOk := true, clockOk := true } with held := false }, 7, by decide +kernel⟩,
    ⟨0x3F000, by decide +kernel⟩,
    ⟨State.reset, .mgmt, 0x014, by decide +kernel⟩,
    ⟨{ State.reset with held := true }, .mgmt, by decide +kernel⟩,
    ⟨State.reset.wr (Reg.LOCK_WP 0x014) 1, .mgmt, 0x14040, by decide +kernel⟩⟩

theorem witness_RegisterWrites_2 :
    (∃ (s : State) (via : Path) (a : Nat), s.deaf via = false ∧ implemented (pageOfAddr a) (offOfAddr a) = true ∧ 0x040 ≤ offOfAddr a ∧ s.locked via (pageOfAddr a) = true ∧ via ≠ .mgmt) ∧
    (∃ (s : State) (c : Fin 8) (a : Nat), s.held = false ∧ s.sidebandOpen c.val = true ∧ s.portIdle = true ∧ s.sbIdle c.val = true ∧ implemented (pageOfAddr a) (offOfAddr a) = true ∧ 0x040 ≤ offOfAddr a ∧ s.locked (.sb c) (pageOfAddr a) = true) :=
  ⟨⟨State.reset.wr (Reg.LOCK_WP 0x014) 1, .sb 7, 0x14040, by decide +kernel⟩,
    ⟨{ (State.reset.wr (Reg.LOCK_WP 0x014) 1).setCulv 7 { Culv.reset with identOk := true, clockOk := true } with held := false }, 7, 0x14040, by decide +kernel⟩⟩

theorem witness_SidebandRequests_1 :
    (∃ (s : State) (c : Fin 8) (a : Nat), s.held = false ∧ s.sidebandOpen c.val = true ∧ s.portIdle = true ∧ s.sbIdle c.val = true ∧ (blockOf (pageOfAddr a)).isSome = true) ∧
    (∃ (s : State) (c : Fin 8) (a : Nat), s.held = false ∧ s.sidebandOpen c.val = true ∧ s.portIdle = true ∧ s.sbIdle c.val = true ∧ (blockOf (pageOfAddr a)).isNone = true) ∧
    (∃ (q : Instr) (s : State) (c : Fin 8) (tag : Byte) (a : Nat) (d : Word), (q = .rdReq c tag a ∨ q = .wrReq c tag a d) ∧ s.held = false ∧ s.sidebandOpen c.val = false) ∧
    (∃ (s : State), s.held = false) ∧
    (∃ (s : State) (c : Fin 8) (a k : Nat), s.held = false ∧ s.sidebandOpen c.val = true ∧ s.portIdle = true ∧ s.sbIdle c.val = true ∧ (blockOf (pageOfAddr a)).isSome = true ∧ k ≠ c.val) :=
  ⟨⟨{ State.reset.setCulv 7 { Culv.reset with identOk := true, clockOk := true } with held := false }, 7, 0x14000, by decide +kernel⟩,
    ⟨{ State.reset.setCulv 7 { Culv.reset with identOk := true, clockOk := true } with held := false }, 7, 0x3F000, by decide +kernel⟩,
    ⟨.rdReq 7 0xFF 0x14000, { State.reset with held := false }, 7, 0xFF, 0x14000, 0xFFFFFFFF, by decide +kernel⟩,
    ⟨{ State.reset with held := false }, by decide +kernel⟩,
    ⟨sbOpen Culv.reset, 7, 0x14000, 6, by decide +kernel⟩⟩

theorem witness_SidebandRequests_2 :
    (∃ (s : State) (c : Fin 8) (a : Nat), s.held = false ∧ s.sidebandOpen c.val = true ∧ s.portIdle = true ∧ (blockOf (pageOfAddr a)).isSome = true ∧ s.locked (.sb c) (pageOfAddr a) = false ∧ offOfAddr a ≠ 0x034) ∧
    (∃ (s : State) (c : Fin 8) (a : Nat) (d : Word), s.held = false ∧ s.sidebandOpen c.val = true ∧ s.portIdle = true ∧ (blockOf (pageOfAddr a)).isSome = true ∧ s.locked (.sb c) (pageOfAddr a) = false ∧ offOfAddr a ≠ 0x034 ∧ (s.writeAddr (.sb c) a d.toNat).sidebandOpen c.val = true ∧ (s.writeAddr (.sb c) a d.toNat).sbIdle c.val = true) ∧
    (∃ (s : State) (c : Fin 8) (a : Nat) (d : Word), s.held = false ∧ s.sidebandOpen c.val = true ∧ s.portIdle = true ∧ (blockOf (pageOfAddr a)).isSome = true ∧ s.locked (.sb c) (pageOfAddr a) = false ∧ offOfAddr a ≠ 0x034 ∧ (s.writeAddr (.sb c) a d.toNat).sidebandOpen c.val = false) ∧
    (∃ (q : Instr) (s : State) (c : Fin 8) (tag : Byte) (a : Nat) (d : Word), (q = .rdReq c tag a ∨ q = .wrReq c tag a d) ∧ s.held = false ∧ s.sidebandOpen c.val = true ∧ 16 ≤ (s.culv c.val).held.length + (s.culv c.val).answers.length) ∧
    (∃ (s : State) (c : Fin 8), s.held = false ∧ s.sidebandOpen c.val = true ∧ s.port.usedAt = some s.time ∧ (s.culv c.val).held.length + (s.culv c.val).answers.length < 16) :=
  ⟨⟨sbOpen Culv.reset, 7, 0x14FFC, by decide +kernel⟩,
    ⟨sbOpen Culv.reset, 7, 0x14030, 5, by decide +kernel⟩,
    ⟨(sbOpen Culv.reset).wr (Reg.CLV.STAT_STATE 7) 3, 7, 0x27004, 0, by decide +kernel⟩,
    ⟨.rdReq 7 0xFF 0x14000, sbOpen { Culv.reset with held := List.replicate 16 ⟨false, 1, 0x14000, 0⟩ }, 7, 0xFF, 0x14000, 0, by decide +kernel⟩,
    ⟨{ sbOpen { Culv.reset with held := List.replicate 15 ⟨false, 1, 0x14000, 0⟩ } with port := ⟨some (sbOpen Culv.reset).time, 0⟩ }, 7, by decide +kernel⟩⟩

theorem witness_SidebandRequests_3 :
    (∃ (s : State) (w : BusWord) (rest : List BusWord), s.port.usedAt ≠ some s.time ∧ s.mgmt.todo = w :: rest) ∧
    (∃ (s : State) (i : Nat), s.port.usedAt ≠ some s.time ∧ s.mgmt.todo = [] ∧ i < 8 ∧ (∀ j < i, (s.culv ((s.port.served + 1 + j) % 8)).held = []) ∧ (s.culv ((s.port.served + 1 + i) % 8)).held ≠ []) ∧
    (∃ (a : Nat), a < 2 ^ 24) ∧
    (∃ (bs : List Byte), bs.length = 16 ∧ packetGood bs = false) ∧
    (∃ (bs : List Byte), bs.length < 16) :=
  ⟨⟨{ live with mgmt := { live.mgmt with todo := [.read 0x14000 4] } }, .read 0x14000 4, [], by decide +kernel⟩,
    ⟨sbOpen { Culv.reset with held := [⟨false, 1, 0x14000, 0⟩] }, 7, by decide +kernel⟩,
    ⟨2 ^ 24 - 1, by decide +kernel⟩,
    ⟨List.replicate 16 0, by decide +kernel⟩,
    ⟨List.replicate 15 0, by decide +kernel⟩⟩

theorem witness_PairsAreReadAndWrittenWhole :
    (∃ (s : State) (via : Path), s.deaf via = false) ∧
    (∃ (s : State) (via : Path), s.deaf via = false ∧ 0x1040 ∉ (s.path via).seen) ∧
    (∃ (s : State) (via : Path), s.deaf via = false ∧ s.locked via 0x00F = false) ∧
    (∃ (s : State) (via : Path) (lo : Word), s.deaf via = false ∧ s.locked via 0x00F = false ∧ (s.path via).held = some (0xF040, lo)) ∧
    (∃ (s : State) (via : Path), s.deaf via = false ∧ s.locked via 0x00F = false ∧ (∀ d, (s.path via).held ≠ some (0xF040, d))) :=
  ⟨⟨State.reset, .mgmt, by decide +kernel⟩,
    ⟨State.reset, .mgmt, by decide +kernel⟩,
    ⟨State.reset, .mgmt, by decide +kernel⟩,
    ⟨State.reset.setPath .mgmt { State.reset.path .mgmt with held := some (0xF040, 0x1000) }, .mgmt, 0x1000, by decide +kernel⟩,
    ⟨State.reset, .mgmt, by decide +kernel, by decide +kernel, (fun d h => by cases h)⟩⟩

theorem witness_LockWrites :
    (∃ (s : State) (via : Path) (pg : Nat) (d : Word), s.deaf via = false ∧ (blockOf pg).isSome = true ∧ ((s.flag (Reg.LOCK_WP pg) = true → d.toNat % 2 = 1)) ∧ ((s.flag (Reg.LOCK_HUB_ONLY pg) = true → d.toNat / 2 % 2 = 1))) ∧
    (∃ (s : State) (via : Path) (pg : Nat) (d : Word), s.deaf via = false ∧ (blockOf pg).isSome = true ∧ d.toNat / 2 ^ 16 = 0x5A17 ∧ ((s.flag (Reg.LOCK_HUB_ONLY pg) = true → via = .mgmt))) ∧
    (∃ (s : State) (via : Path) (pg : Nat) (d : Word), s.deaf via = false ∧ (blockOf pg).isSome = true ∧ ((s.flag (Reg.LOCK_WP pg) = true ∧ d.toNat % 2 = 0 ∨ s.flag (Reg.LOCK_HUB_ONLY pg) = true ∧ d.toNat / 2 % 2 = 0)) ∧ ((d.toNat / 2 ^ 16 ≠ 0x5A17 ∨ s.flag (Reg.LOCK_HUB_ONLY pg) = true ∧ via ≠ .mgmt))) :=
  ⟨⟨State.reset.wr (Reg.LOCK_WP 0x014) 1, .mgmt, 0x014, 1, by decide +kernel⟩,
    ⟨(State.reset.wr (Reg.LOCK_WP 0x014) 1).wr (Reg.LOCK_HUB_ONLY 0x014) 1, .mgmt, 0x014, 0x5A170000, by decide +kernel⟩,
    ⟨State.reset.wr (Reg.LOCK_WP 0x014) 1, .mgmt, 0x014, 0, by decide +kernel⟩⟩

theorem witness_ErrorsAreRaisedAndCleared_1 :
    (∃ (s : State) (via : Path) (pg : Nat) (cls : EvClass), s.deaf via = false ∧ (blockOf pg).isSome = true ∧ (¬ (cls = .fatal ∧ pg = 0x003))) ∧
    (∃ (s : State) (via : Path) (pg : Nat), s.deaf via = false ∧ (blockOf pg).isSome = true ∧ pg ≠ 0x003) ∧
    (∃ (s : State) (via : Path), s.deaf via = false) ∧
    (∃ (e : Event), e.code.bit < 32) ∧
    (∃ (s : State) (e : Event), s.shows e.code = true) :=
  ⟨⟨(State.reset.wr (Reg.ERR_FATAL 0x014) 0x80000001).wr (Reg.ERR_CORR 0x014) 0xC0000000, .mgmt, 0x014, .fatal, by decide +kernel⟩,
    ⟨(State.reset.wr (Reg.ERR_FATAL 0x014) 0x80000001).wr (Reg.ERR_CORR 0x014) 0xC0000000, .mgmt, 0x014, by decide +kernel⟩,
    ⟨State.reset.wr (Reg.ERR_FATAL 0x003) 0x3, .mgmt, by decide +kernel⟩,
    ⟨ev0, by decide +kernel⟩,
    ⟨State.reset.wr (Reg.ERR_FATAL 0x014) 0x80000000, ev0, by decide +kernel⟩⟩

theorem witness_ErrorsAreRaisedAndCleared_2 :
    (∃ (s : State) (e : Event), s.merges e.code = false) ∧
    (∃ (s : State) (e : Event), s.merges e.code = false ∧ s.record e.code.page = .none) ∧
    (∃ (s : State) (e : Event) (r : ErrRec), s.merges e.code = false ∧ s.record e.code.page = some r ∧ severity r.cls < severity e.code.cls) ∧
    (∃ (s : State) (e : Event) (r : ErrRec), s.record e.code.page = some r ∧ severity e.code.cls < severity r.cls ∧ (∀ x ∈ s.log.emptied, x.1 ≠ e.code.page)) :=
  ⟨⟨State.reset, ev0, by decide +kernel⟩,
    ⟨State.reset, ev0, by decide +kernel⟩,
    ⟨{ State.reset with recs := [(0x014, some ⟨.corr, 0, 0, 0, Stamp.none⟩)] }, ev0, ⟨.corr, 0, 0, 0, Stamp.none⟩, by decide +kernel⟩,
    ⟨{ State.reset with recs := [(0x014, some ⟨.fatal, 0, 0, 0, Stamp.none⟩)] }, ⟨⟨0x014, .corr, 3⟩, 1, 2⟩, ⟨.fatal, 0, 0, 0, Stamp.none⟩, by decide +kernel⟩⟩

theorem witness_ClearAndEventInOneCycle :
    (∃ (s : State) (via : Path) (e : Event) (d : Word), s.deaf via = false ∧ (blockOf e.code.page).isSome = true ∧ e.code.bit < 32 ∧ s.shows e.code = true ∧ d.getLsbD e.code.bit = true) ∧
    (∃ (s : State) (via : Path) (e : Event) (d : Word), s.deaf via = false ∧ (blockOf e.code.page).isSome = true ∧ e.code.bit < 32 ∧ s.shows e.code = true ∧ d.getLsbD e.code.bit = true ∧ s.log.raised.contains (e.code.page, e.code.cls, e.code.bit) = false ∧ e.code.cls ≠ .fatal) ∧
    (∃ (s : State) (via : Path) (e : Event) (d : Word), s.deaf via = false ∧ (blockOf e.code.page).isSome = true ∧ e.code.bit < 32 ∧ s.shows e.code = true ∧ d.getLsbD e.code.bit = true ∧ s.log.raised.contains (e.code.page, e.code.cls, e.code.bit) = false) :=
  ⟨⟨State.reset.wr (Reg.ERR_FATAL 0x014) 0x80000000, .mgmt, ev0, 0x80000000, by decide +kernel⟩,
    ⟨State.reset.wr (Reg.ERR_CORR 0x014) 0x8, .mgmt, ⟨⟨0x014, .corr, 3⟩, 1, 2⟩, 8, by decide +kernel⟩,
    ⟨State.reset.wr (Reg.ERR_FATAL 0x014) 0x80000000, .mgmt, ev0, 0x80000000, by decide +kernel⟩⟩

theorem witness_CommonControl_1 :
    (∃ (s : State) (via : Path) (b : Block) (pg : Nat), s.deaf via = false ∧ blockOf pg = some b ∧ s.locked via pg = false) ∧
    (∃ (s : State) (via : Path) (pg : Nat) (d : Word), s.deaf via = false ∧ s.locked via pg = false ∧ d.toNat < 32 ∧ (pg = 0x003 ∨ pg = 0x007 ∨ pg = 0x008 ∨ pg = 0x014 ∨ (0x060 ≤ pg ∧ pg < 0x070) ∨ (0x080 ≤ pg ∧ pg < 0x090))) ∧
    (∃ (s : State), s.running = true) ∧
    (∃ (s : State) (via : Path) (d : Word), s.deaf via = false ∧ s.locked via 0x000 = false ∧ s.running = true ∧ s.resetAt = .none ∧ d.toNat / 2 ^ 16 = 0x7F1A ∧ d.toNat % 2 = 1) ∧
    (∃ (s : State) (via : Path) (d : Word), s.deaf via = false ∧ s.locked via 0x000 = false ∧ s.running = false ∧ s.resetAt = .none ∧ d.toNat / 2 ^ 16 = 0x7F1A ∧ d.toNat % 2 = 1) :=
  ⟨⟨State.reset, .mgmt, .thm, 0x011, by decide +kernel⟩,
    ⟨State.reset, .mgmt, 0x014, 31, by decide +kernel⟩,
    ⟨live, by decide +kernel⟩,
    ⟨{ live with resetAt := .none }, .mgmt, 0x7F1A0001, by decide +kernel⟩,
    ⟨{ State.reset with resetAt := .none }, .mgmt, 0x7F1A0001, by decide +kernel⟩⟩

theorem witness_CommonControl_2 :
    ∃ (s : State) (via : Path) (d : Word), s.deaf via = false ∧ s.locked via 0x000 = false ∧ (d.toNat / 2 ^ 16 ≠ 0x7F1A ∨ d.toNat % 2 = 0) :=
  ⟨State.reset, .mgmt, 0x7F1A0000, by decide +kernel⟩

theorem witness_FullResetAndRelease_1 :
    (∃ (s : State) (n : Nat), s.held = false ∧ s.resetAt = some n ∧ n ≤ s.time) ∧
    (∃ (s : State) (n : Nat), s.resetAt = some n ∧ s.time < n) ∧
    (∃ (s : State), s.wordAtHand = .none) ∧
    (∃ (s : State), s.resetAt = .none ∨ s.held = true) ∧
    (∃ (s : State), s.mayRelease = true) :=
  ⟨⟨{ live with resetAt := some 5 }, 5, by decide +kernel⟩,
    ⟨{ State.reset with resetAt := some 63 }, 63, by decide +kernel⟩,
    ⟨live, by decide +kernel⟩,
    ⟨{ live with resetAt := .none }, .inl (by decide +kernel)⟩,
    ⟨{ State.reset with held := true, resetAt := .none }, by decide +kernel⟩⟩

theorem witness_FullResetAndRelease_2 :
    ∃ (s : State), s.held = false ∨ ∃ n, s.resetAt = some n ∧ s.time < n :=
  ⟨{ State.reset with held := true, resetAt := some 63 }, .inr ⟨63, by decide +kernel⟩⟩

theorem witness_BringupStepsInTurn :
    (∃ (s : State), s.held = false ∧ s.running = true ∧ s.clk.cycle = 0 ∧ s.stepEnded = true) ∧
    (∃ (s : State), s.held = false ∧ s.running = true ∧ s.clk.cycle = 0 ∧ s.stepNo = 3 ∧ s.stepEnded = true) ∧
    (∃ (s : State), (s.held = true ∨ s.running = false ∨ s.clk.cycle ≠ 0 ∨ s.stepEnded = false)) :=
  ⟨⟨{ live.wr Reg.GLB.STAT_STEP 2 with held := false, clk := { (live).clk with cycle := 0 } }, by decide +kernel⟩,
    ⟨culvertsOpen, by decide +kernel⟩,
    ⟨{ State.reset with held := true, clk := { State.reset.clk with cycle := 1279 } }, by decide +kernel⟩⟩

theorem witness_SafeStateEntered :
    ∃ (s : State) (a : Stamp), s.ump.assertedAt = some a ∧ s.rd Reg.UMP.STAT_STATE = 0 :=
  ⟨busyDie, ⟨0xFFFFFFFFFFFF, 17⟩, by decide +kernel⟩

theorem witness_UmpireJudges_1 :
    (∃ (s : State), s.ump.assertedAt = .none) ∧
    (∃ (s : State) (a : Stamp), s.ump.assertedAt = some a ∧ s.rd Reg.UMP.STAT_STATE ≠ 0) ∧
    (∃ (s : State), s.held = false ∧ s.safe = true) ∧
    (∃ (s : State), s.held = false ∧ s.safe = false) ∧
    (∃ (s : State) (pg : Nat), s.held = false ∧ (blockOf pg).isSome = true ∧ s.ump.railFault.contains pg = false) :=
  ⟨⟨{ State.reset with ump := { State.reset.ump with assertedAt := .none } }, by decide +kernel⟩,
    ⟨{ State.reset.wr Reg.UMP.STAT_STATE 1 with ump := { State.reset.ump with assertedAt := some (⟨0, 0⟩) } }, ⟨0, 0⟩, by decide +kernel⟩,
    ⟨{ State.reset.wr Reg.UMP.STAT_STATE 1 with held := false }, by decide +kernel⟩,
    ⟨{ State.reset with held := false }, by decide +kernel⟩,
    ⟨{ State.reset with held := false }, 0x014, by decide +kernel⟩⟩

theorem witness_UmpireJudges_2 :
    (∃ (s : State) (pg : Nat) (n : Nat), s.held = false ∧ (blockOf pg).isSome = true ∧ s.ump.railFault.contains pg = false ∧ 2 ≤ n) ∧
    (∃ (s : State) (pg : Nat) (n : Nat), s.held = false ∧ (blockOf pg).isSome = true ∧ s.ump.railFault.contains pg = true ∧ 1 ≤ n) ∧
    (∃ (s : State) (pg : Nat), s.held = false ∧ (blockOf pg).isSome = true) ∧
    (∃ (s : State) (pg : Nat) (b : Nat) (e : Event), bitAt (s.rd (Reg.ERR_FATAL pg)) b = false ∧ s.fatalPresent pg b = some e) ∧
    (∃ (s : State) (pg : Nat) (b : Nat), (bitAt (s.rd (Reg.ERR_FATAL pg)) b = true ∨ s.fatalPresent pg b = .none)) :=
  ⟨⟨{ State.reset with held := false }, 0x014, 2, by decide +kernel⟩,
    ⟨{ State.reset with held := false, ump := { State.reset.ump with railFault := [0x014] } }, 0x014, 1, by decide +kernel⟩,
    ⟨{ State.reset with held := false }, 0x014, by decide +kernel⟩,
    ⟨State.reset.wr Reg.CKM.STAT_HOLDOVER 1, 0x002, 0, plain Err.CKM.REFCLK_LOSS, by decide +kernel⟩,
    ⟨State.reset.wr (Reg.ERR_FATAL 0x014) 0x80000000, 0x014, 31, by decide +kernel⟩⟩

theorem witness_LeavingTheSafeState :
    (∃ (s : State) (via : Path), s.deaf via = false ∧ s.locked via 0x003 = false ∧ s.rd Reg.UMP.STAT_STATE = 1 ∧ s.ump.exitReq = .none ∧ s.running = true) ∧
    (∃ (s : State) (via : Path), s.deaf via = false ∧ s.locked via 0x003 = false ∧ s.rd Reg.UMP.STAT_STATE = 2) ∧
    (∃ (s : State) (r : Nat), s.ump.exitReq = some r ∧ r ≤ s.now ∧ s.running = true ∧ s.clk.cycle = 0 ∧ s.umpSrc ≠ 0) ∧
    (∃ (s : State) (r : Nat), s.ump.exitReq = some r ∧ r ≤ s.now ∧ s.running = true ∧ s.clk.cycle = 0 ∧ s.umpSrc = 0 ∧ s.rd Reg.UMP.STAT_STATE = 1) ∧
    (∃ (s : State), (s.ump.exitReq = .none ∨ s.clk.cycle ≠ 0)) :=
  ⟨⟨{ live.wr Reg.UMP.STAT_STATE 1 with ump := { (live).ump with exitReq := .none } }, .mgmt, by decide +kernel⟩,
    ⟨State.reset.wr Reg.UMP.STAT_STATE 2, .mgmt, by decide +kernel⟩,
    ⟨{ (live.wr (Reg.ERR_FATAL 0x014) 1).wr Reg.UMP.STAT_STATE 1 with ump := { (live).ump with exitReq := some 5000 }, clk := { (live).clk with cycle := 0 } }, 5000, by decide +kernel⟩,
    ⟨{ live.wr Reg.UMP.STAT_STATE 1 with ump := { (live).ump with exitReq := some 5000 }, clk := { (live).clk with cycle := 0 } }, 5000, by decide +kernel⟩,
    ⟨{ State.reset with ump := { State.reset.ump with exitReq := some 0 }, clk := { State.reset.clk with cycle := 1 } }, by decide +kernel⟩⟩

theorem witness_StatisticsAndLogbook_1 :
    (∃ (s : State) (via : Path), s.deaf via = false ∧ s.locked via 0x003 = false) ∧
    (∃ (s : State) (via : Path), s.deaf via = false ∧ s.locked via 0x007 = false) ∧
    (∃ (s : State) (e : LogEntry) (rest : List LogEntry), s.log.queue = e :: rest ∧ s.running = true ∧ s.logSlot e < 60) ∧
    (∃ (s : State), s.log.queue = []) ∧
    (∃ (s : State), s.log.queue ≠ [] ∧ s.running = true ∧ s.log.slot ≤ 60) :=
  ⟨⟨State.reset, .mgmt, by decide +kernel⟩,
    ⟨State.reset, .mgmt, by decide +kernel⟩,
    ⟨{ live with log := { (live).log with queue := (⟨⟨5, 1⟩, 0x014, .corr, 3, 0, false, false, false, false, false, 9⟩) :: [] } }, ⟨⟨5, 1⟩, 0x014, .corr, 3, 0, false, false, false, false, false, 9⟩, [], by decide +kernel⟩,
    ⟨{ State.reset with log := { State.reset.log with queue := [] } }, by decide +kernel⟩,
    ⟨{ live with log := { (live).log with queue := [⟨⟨5, 1⟩, 0x014, .corr, 3, 0, false, false, false, false, false, 9⟩], slot := 60 } }, by decide +kernel⟩⟩

theorem witness_StatisticsAndLogbook_2 :
    ∃ (s : State), s.log.slot = 61 :=
  ⟨{ State.reset with log := { State.reset.log with slot := 61 } }, by decide +kernel⟩

theorem witness_StrokesAreCounted :
    (∃ (s : State), s.running = true ∧ s.held = false ∧ s.clk.adopt = .none) ∧
    (∃ (s : State) (n : BitVec 48), s.running = true ∧ s.held = false ∧ s.clk.adopt = some n) ∧
    (∃ (s : State), (s.running = false ∨ s.held = true)) ∧
    (∃ (s : State), s.running = true ∧ s.held = false ∧ s.safe = false ∧ s.clk.aliveFollows = true) ∧
    (∃ (s : State), s.running = true ∧ s.held = false ∧ s.safe = true) :=
  ⟨⟨{ live with held := false, clk := { (live).clk with adopt := .none } }, by decide +kernel⟩,
    ⟨{ live with held := false, clk := { (live).clk with adopt := some 0xFFFFFFFFFFFF } }, 0xFFFFFFFFFFFF, by decide +kernel⟩,
    ⟨{ live with held := true }, by decide +kernel⟩,
    ⟨{ live with held := false, clk := { (live).clk with aliveFollows := true } }, by decide +kernel⟩,
    ⟨{ live.wr Reg.UMP.STAT_STATE 1 with held := false }, by decide +kernel⟩⟩

theorem witness_ClocksAreLocked_1 :
    (∃ (s : State), s.held = false ∧ s.flag Reg.CKM.STAT_PLL_LOCK = false ∧ s.stepNo = 0 ∧ s.isT0 = true) ∧
    (∃ (s : State), s.held = false ∧ s.flag Reg.CKM.STAT_PLL_LOCK = false ∧ s.stepNo = 0 ∧ s.isT0 = false) ∧
    (∃ (s : State), s.held = false ∧ s.isT0 = false ∧ s.flag Reg.CKM.STAT_BACKUP_OSC = false ∧ s.flag Reg.CKM.STAT_PLL_LOCK = true) ∧
    (∃ (s : State), s.held = false ∧ s.isT0 = true ∧ s.running = true ∧ s.flag Reg.CKM.STAT_REF_PRESENT = true) ∧
    (∃ (s : State), s.held = false ∧ s.isT0 = true) :=
  ⟨⟨{ State.reset with held := false }, by decide +kernel⟩,
    ⟨{ State.reset.wr Reg.GLB.STRAPS_POSITION 3 with held := false }, by decide +kernel⟩,
    ⟨{ (State.reset.wr Reg.GLB.STRAPS_POSITION 3).wr Reg.CKM.STAT_PLL_LOCK 1 with held := false }, by decide +kernel⟩,
    ⟨{ live.wr Reg.CKM.STAT_REF_PRESENT 1 with held := false }, by decide +kernel⟩,
    ⟨{ State.reset with held := false }, by decide +kernel⟩⟩

theorem witness_ClocksAreLocked_2 :
    (∃ (s : State), s.flag Reg.CKM.STAT_HOLDOVER = true ∧ s.flag Reg.CKM.STAT_REF_PRESENT = true ∧ s.clk.reacquired = false) ∧
    (∃ (s : State), s.flag Reg.CKM.STAT_HOLDOVER = true ∧ s.clk.reacquired = true ∧ 17 ≤ s.clk.holdCount) ∧
    (∃ (s : State), s.flag Reg.CKM.STAT_HOLDOVER = true ∧ s.clk.holdCount < 17) :=
  ⟨⟨{ (State.reset.wr Reg.CKM.STAT_HOLDOVER 1).wr Reg.CKM.STAT_REF_PRESENT 1 with clk := { State.reset.clk with reacquired := false } }, by decide +kernel⟩,
    ⟨{ State.reset.wr Reg.CKM.STAT_HOLDOVER 1 with clk := { State.reset.clk with reacquired := true, holdCount := 17 } }, by decide +kernel⟩,
    ⟨{ State.reset.wr Reg.CKM.STAT_HOLDOVER 1 with clk := { State.reset.clk with holdCount := 16 } }, by decide +kernel⟩⟩

theorem witness_MarkersAreFollowed_1 :
    (∃ (s : State), s.heeds = true ∧ s.running = true ∧ s.rd Reg.STK.STAT_SYNC = 1) ∧
    (∃ (s : State) (n : BitVec 48), s.heeds = true ∧ s.running = true ∧ n ≠ s.clk.stroke) ∧
    (∃ (s : State) (pulse : Bool) (n : BitVec 48) (c : BitVec 8), s.heeds = true ∧ s.running = true ∧ (pulse = false ∨ crc8 n ≠ c)) ∧
    (∃ (s : State) (n : Nat), s.heeds = true ∧ s.running = true ∧ n % 1280 ≠ 0) ∧
    (∃ (s : State) (n : Nat), s.heeds = true ∧ s.running = true ∧ n % 1280 = 0) :=
  ⟨⟨((live.wr Reg.GLB.STRAPS_POSITION 3).wr Reg.CKM.STAT_PLL_LOCK 1).wr Reg.STK.STAT_SYNC 1, by decide +kernel⟩,
    ⟨(live.wr Reg.GLB.STRAPS_POSITION 3).wr Reg.CKM.STAT_PLL_LOCK 1, 1, by decide +kernel⟩,
    ⟨(live.wr Reg.GLB.STRAPS_POSITION 3).wr Reg.CKM.STAT_PLL_LOCK 1, false, 0, crc8 0, by decide +kernel⟩,
    ⟨(live.wr Reg.GLB.STRAPS_POSITION 3).wr Reg.CKM.STAT_PLL_LOCK 1, 1279, by decide +kernel⟩,
    ⟨(live.wr Reg.GLB.STRAPS_POSITION 3).wr Reg.CKM.STAT_PLL_LOCK 1, 1280, by decide +kernel⟩⟩

theorem witness_MarkersAreFollowed_2 :
    (∃ (s : State) (n : BitVec 48) (a : Nat), s.heeds = true ∧ s.running = false ∧ s.clk.word2 = some (a, n) ∧ s.safe = false) ∧
    (∃ (s : State), s.heeds = true ∧ s.running = true ∧ s.rd Reg.STK.STAT_SYNC = 1 ∧ 16 ≤ s.rd Reg.STK.MISS_CNT_CONSEC) :=
  ⟨⟨{ (State.reset.wr Reg.GLB.STRAPS_POSITION 3).wr Reg.CKM.STAT_PLL_LOCK 1 with clk := { State.reset.clk with word2 := some (0, 0xFFFFFFFFFFFF) } }, 0xFFFFFFFFFFFF, 0, by decide +kernel⟩,
    ⟨(((live.wr Reg.GLB.STRAPS_POSITION 3).wr Reg.CKM.STAT_PLL_LOCK 1).wr Reg.STK.STAT_SYNC 1).wr Reg.STK.MISS_CNT_CONSEC 16, by decide +kernel⟩⟩

theorem witness_OverrunsAreCounted_1 :
    (∃ (s : State) (ch : Nat), s.running = true ∧ ch < 40) ∧
    (∃ (s : State) (u : SeatId), s.running = true ∧ (s.seat (idKey u)).state.runs = true) ∧
    (∃ (s : State) (u : SeatId), s.running = true ∧ (s.visitOf (idKey u)).isSome = true) ∧
    (∃ (s : State) (b : Nat), s.running = true ∧ s.nextBlock = some b ∧ s.lvl.carried = false) ∧
    (∃ (s : State) (via : Path) (d : Word), s.deaf via = false ∧ s.locked via 0x001 = false ∧ d.getLsbD 0 = true ∧ d.getLsbD 1 = true ∧ d.getLsbD 2 = true ∧ d.getLsbD 7 = true) :=
  ⟨⟨live, 39, by decide +kernel⟩,
    ⟨live.setSeat 575 { Seat.reset with state := .locked }, ⟨15, .rx, 17⟩, by decide +kernel⟩,
    ⟨visiting, ⟨15, .rx, 17⟩, by decide +kernel⟩,
    ⟨live.wr Reg.LVL.REFACTOR 0x800000, 23, by decide +kernel⟩,
    ⟨State.reset, .mgmt, 0xFFFFFFFF, by decide +kernel⟩⟩

theorem witness_OverrunsAreCounted_2 :
    (∃ (s : State) (via : Path) (d : Word), s.deaf via = false ∧ s.locked via 0x001 = false ∧ d.getLsbD 0 = false ∧ d.getLsbD 1 = false ∧ d.getLsbD 2 = false ∧ d.getLsbD 7 = false) ∧
    (∃ (s : State), s.lvl.carried = true) :=
  ⟨⟨State.reset, .mgmt, 0, by decide +kernel⟩,
    ⟨{ live with lvl := { live.lvl with carried := true } }, by decide +kernel⟩⟩

theorem witness_HeadgatesRamp_1 :
    (∃ (s : State) (via : Path) (x : Fin 4) (d : Word), s.deaf via = false ∧ s.locked via 0x012 = false ∧ s.mayOpen = true ∧ s.flag (Reg.HGT.HG_STAT_OPEN x.val) = false ∧ d.getLsbD 0 = true ∧ d.toNat / 2 ^ 8 % 2 ^ 8 ≤ 240) ∧
    (∃ (s : State) (via : Path) (x : Fin 4) (d : Word), s.deaf via = false ∧ s.locked via 0x012 = false ∧ s.flag (Reg.HGT.HG_STAT_OPEN x.val) = true ∧ d.getLsbD 0 = false) ∧
    (∃ (s : State) (via : Path) (x : Fin 4) (d : Word), s.deaf via = false ∧ s.locked via 0x012 = false ∧ s.mayOpen = true ∧ s.flag (Reg.HGT.HG_STAT_OPEN x.val) = true ∧ d.getLsbD 0 = true ∧ d.toNat / 2 ^ 8 % 2 ^ 8 ≤ 240 ∧ d.toNat / 2 ^ 8 % 2 ^ 8 ≠ s.rd (Reg.HGT.HG_STAT_ATTEN x.val)) ∧
    (∃ (s : State) (x : Fin 4), s.running = true ∧ s.safe = false ∧ (s.hg x.val).mode = .opening ∧ s.flag (Reg.HGT.HG_STAT_OPEN x.val) = false) ∧
    (∃ (s : State) (x : Fin 4), s.running = true ∧ s.safe = false ∧ (s.hg x.val).mode = .opening ∧ s.flag (Reg.HGT.HG_STAT_OPEN x.val) = true ∧ s.rd (Reg.HGT.HG_STAT_ATTEN x.val) + s.rd Reg.HGT.RAMP < s.rd (Reg.HGT.HG_CTRL_ATTEN x.val) ∧ s.rd (Reg.HGT.HG_CTRL_ATTEN x.val) ≤ 240) :=
  ⟨⟨State.reset.wr Reg.GLB.STAT_STEP 4, .mgmt, 3, 0xF001, by decide +kernel⟩,
    ⟨State.reset.wr (Reg.HGT.HG_STAT_OPEN 3) 1, .mgmt, 3, 0xF000, by decide +kernel⟩,
    ⟨((State.reset.wr Reg.GLB.STAT_STEP 4).wr (Reg.HGT.HG_STAT_OPEN 3) 1).wr (Reg.HGT.HG_STAT_ATTEN 3) 239, .mgmt, 3, 0xF001, by decide +kernel⟩,
    ⟨(live.wr (Reg.HGT.HG_CTRL_ATTEN 3) 10).setHg 3 { Headgate.reset with mode := .opening }, 3, by decide +kernel⟩,
    ⟨((((live.wr (Reg.HGT.HG_STAT_OPEN 3) 1).wr (Reg.HGT.HG_STAT_ATTEN 3) 10).wr (Reg.HGT.HG_CTRL_ATTEN 3) 240).wr Reg.HGT.RAMP 8).setHg 3 { Headgate.reset with mode := .opening }, 3, by decide +kernel⟩⟩

theorem witness_HeadgatesRamp_2 :
    (∃ (s : State) (x : Fin 4), s.running = true ∧ s.safe = false ∧ (s.hg x.val).mode = .opening ∧ s.flag (Reg.HGT.HG_STAT_OPEN x.val) = true ∧ s.rd (Reg.HGT.HG_CTRL_ATTEN x.val) < s.rd (Reg.HGT.HG_STAT_ATTEN x.val) ∧ s.rd (Reg.HGT.HG_STAT_ATTEN x.val) ≤ s.rd (Reg.HGT.HG_CTRL_ATTEN x.val) + s.rd Reg.HGT.RAMP ∧ s.rd (Reg.HGT.HG_CTRL_ATTEN x.val) ≤ 240) ∧
    (∃ (s : State) (x : Fin 4), s.running = true ∧ s.safe = false ∧ (s.hg x.val).mode = .closing ∧ s.rd (Reg.HGT.HG_STAT_ATTEN x.val) = 240) ∧
    (∃ (s : State), (s.running = false ∨ s.safe = true)) :=
  ⟨⟨((((live.wr (Reg.HGT.HG_STAT_OPEN 3) 1).wr (Reg.HGT.HG_STAT_ATTEN 3) 240).wr (Reg.HGT.HG_CTRL_ATTEN 3) 232).wr Reg.HGT.RAMP 8).setHg 3 { Headgate.reset with mode := .opening }, 3, by decide +kernel⟩,
    ⟨(live.wr (Reg.HGT.HG_STAT_ATTEN 3) 240).setHg 3 { Headgate.reset with mode := .closing }, 3, by decide +kernel⟩,
    ⟨live.wr Reg.UMP.STAT_STATE 1, by decide +kernel⟩⟩

theorem witness_InputsAreWatched :
    (∃ (s : State) (pwr : Int), s.running = true ∧ -32768 ≤ pwr ∧ pwr < 32768 ∧ s.rdI Reg.HGT.IN_HIGH < pwr) ∧
    (∃ (s : State) (pwr : Int), s.running = true ∧ -32768 ≤ pwr ∧ pwr < 32768 ∧ pwr < s.rdI Reg.HGT.IN_LOW) ∧
    (∃ (s : State) (x : Fin 4), s.running = true ∧ (s.hg x.val).lowRun = 4) ∧
    (∃ (s : State) (x : Fin 4), s.running = true ∧ (s.hg x.val).leakRun = 4 ∧ (s.hg x.val).leaking = false) :=
  ⟨⟨live, 32767, by decide +kernel⟩,
    ⟨live, -32768, by decide +kernel⟩,
    ⟨live.setHg 3 { Headgate.reset with lowRun := 4 }, 3, by decide +kernel⟩,
    ⟨live.setHg 3 { Headgate.reset with leakRun := 4, leaking := false }, 3, by decide +kernel⟩⟩

theorem witness_SynthesisersRelock_1 :
    (∃ (s : State) (via : Path) (p : Fin 16), s.deaf via = false ∧ s.locked via (0x060 + p.val) = false ∧ s.rd (Reg.OPT.STAT_SYN p.val) = 3) ∧
    (∃ (s : State) (p : Fin 16), s.running = true ∧ s.rd (Reg.OPT.STAT_SYN p.val) = 2 ∧ (s.synth p.val).pending = false ∧ s.linkUp (s.fibreOf p.val) = false) ∧
    (∃ (s : State) (p : Fin 16), s.running = true ∧ s.rd (Reg.OPT.STAT_SYN p.val) = 1 ∧ s.linkState (s.fibreOf p.val) ≠ 4 ∧ bitAt (s.rd (Reg.LNK.STAT_PAUSE (s.fibreOf p.val))) 0 = false ∧ s.fibreOf p.val < 16) ∧
    (∃ (s : State) (p : Fin 16), s.running = true ∧ s.rd (Reg.OPT.STAT_SYN p.val) = 1 ∧ (s.synth p.val).attempt = 0 ∧ (s.synth p.val).began + 16 ≤ s.now) ∧
    (∃ (s : State) (p : Fin 16), s.running = true ∧ s.rd (Reg.OPT.STAT_SYN p.val) = 1 ∧ (s.synth p.val).attempt ≠ 0 ∧ (s.synth p.val).began + 16 ≤ s.now ∧ s.linkState (s.fibreOf p.val) = 0 ∧ s.fibreOf p.val < 16) :=
  ⟨⟨State.reset.wr (Reg.OPT.STAT_SYN 15) 3, .mgmt, 15, by decide +kernel⟩,
    ⟨(live.wr (Reg.OPT.STAT_SYN 15) 2).setSynth 15 { Synth.reset with pending := false }, 15, by decide +kernel⟩,
    ⟨live.wr (Reg.OPT.STAT_SYN 15) 1, 15, by decide +kernel⟩,
    ⟨(live.wr (Reg.OPT.STAT_SYN 15) 1).setSynth 15 { Synth.reset with attempt := 0 }, 15, by decide +kernel⟩,
    ⟨((live.wr (Reg.OPT.STAT_SYN 15) 1).wr (Reg.LNK.STAT_STATE 15) 0).setSynth 15 { Synth.reset with attempt := 1, began := 0 }, 15, by decide +kernel⟩⟩

theorem witness_SynthesisersRelock_2 :
    ∃ (s : State) (p : Fin 16), s.now < (s.synth p.val).began + 16 :=
  ⟨State.reset.setSynth 15 { Synth.reset with began := 0 }, 15, by decide +kernel⟩

theorem witness_MonitorsSample :
    (∃ (s : State), s.running = true) ∧
    (∃ (s : State) (r : BaRun), s.running = true ∧ s.flm.ba = some r ∧ s.rd Reg.LVL.STAT_BA_STATE = 1 ∧ s.now < r.windowEnd) :=
  ⟨⟨live, by decide +kernel⟩,
    ⟨{ live.wr Reg.LVL.STAT_BA_STATE 1 with flm := { live.flm with ba := some { someRun with windowEnd := 5001 } } }, { someRun with windowEnd := 5001 },
      by decide +kernel⟩⟩

theorem witness_RowlockLoop :
    (∃ (s : State) (u : SeatId) (c : Nat), s.running = true ∧ (s.seat (idKey u)).state = .locked ∧ s.mustCoast (idKey u) = false ∧ (s.chan (seatChanKey (idKey u))).clean = true ∧ (s.seat (idKey u)).sweeping = false ∧ s.quenchedSeat (idKey u) = false ∧ recentSample s.now (if s.clk.stroke.toNat % 2 = 0 then (s.seat (idKey u)).minus else (s.seat (idKey u)).plus) = some c) ∧
    (∃ (s : State) (u : SeatId), s.running = true ∧ (s.seat (idKey u)).state = .locked ∧ (s.mustCoast (idKey u) = true ∨ (s.chan (seatChanKey (idKey u))).clean = false)) ∧
    (∃ (s : State) (u : SeatId), ((s.seat (idKey u)).state = .idle ∨ (s.seat (idKey u)).state = .failed ∨ (s.seat (idKey u)).state = .outOfService)) ∧
    (∃ (s : State) (u : SeatId) (lane : Nat), s.running = true ∧ (s.seat (idKey u)).state = .search ∧ (s.seat (idKey u)).next = .none ∧ 4 ≤ (s.seat (idKey u)).lockRun ∧ s.laneOfSeat (idKey u) = some lane) ∧
    (∃ (s : State) (u : SeatId), s.running = true ∧ (s.seat (idKey u)).state = .search ∧ (s.seat (idKey u)).next = .none ∧ 4 ≤ (s.seat (idKey u)).lockRun ∧ s.laneOfSeat (idKey u) = .none) :=
  ⟨⟨((((live.wr (Reg.OPT.LOS 15) 0).setSeat (idKey (⟨15, .rx, 17⟩ : SeatId)) { Seat.reset with state := .locked, sweeping := false }).setChan (seatChanKey (idKey (⟨15, .rx, 17⟩ : SeatId))) { Chan.reset with clean := true }).setSeat 575 { Seat.reset with state := .locked, minus := some (4992, 512), plus := some (4992, 512) }).setChan (seatChanKey 575) { Chan.reset with clean := true, code := 300 }, ⟨15, .rx, 17⟩, 512, by decide +kernel⟩,
    ⟨live.setSeat (idKey (⟨15, .rx, 17⟩ : SeatId)) { Seat.reset with state := .locked }, ⟨15, .rx, 17⟩, by decide +kernel⟩,
    ⟨State.reset.setSeat (idKey (⟨15, .rx, 17⟩ : SeatId)) { Seat.reset with state := .idle }, ⟨15, .rx, 17⟩, by decide +kernel⟩,
    ⟨(live.setSeat (idKey (⟨15, .tx, 15⟩ : SeatId)) { Seat.reset with state := .search, next := .none, lockRun := 4 }).setSeat 555 { Seat.reset with state := .search, lockRun := 4 }, ⟨15, .tx, 15⟩, 15, by decide +kernel⟩,
    ⟨live.setSeat (idKey (⟨15, .rx, 17⟩ : SeatId)) { Seat.reset with state := .search, next := .none, lockRun := 4 }, ⟨15, .rx, 17⟩, by decide +kernel⟩⟩

theorem witness_LockIsLostAndSought_1 :
    (∃ (s : State) (u : SeatId), s.running = true ∧ (s.seat (idKey u)).state = .hotSpare ∧ (s.seat (idKey u)).next = .none ∧ 4 ≤ (s.seat (idKey u)).lolRun ∧ s.laneOfSeat (idKey u) = .none) ∧
    (∃ (s : State) (u : SeatId) (lane : Nat), s.running = true ∧ (s.seat (idKey u)).state = .locked ∧ (s.seat (idKey u)).next = .none ∧ 4 ≤ (s.seat (idKey u)).lolRun ∧ u.side = .tx ∧ s.laneOfSeat (idKey u) = some lane) ∧
    (∃ (s : State) (u : SeatId), (s.seat (idKey u)).lolRun < 4) ∧
    (∃ (s : State) (u : SeatId), s.running = true ∧ (s.seat (idKey u)).state = .search ∧ (s.seat (idKey u)).next = .none ∧ s.rd (Reg.RWL.SEARCH u.port.val) ≤ (s.seat (idKey u)).count ∧ 2 ≤ (s.seat (idKey u)).tried ∧ s.laneOfSeat (idKey u) = .none) ∧
    (∃ (s : State) (u : SeatId) (m : Nat) (d : List DeltaEntry), s.running = true ∧ (s.seat (idKey u)).state = .search ∧ (s.seat (idKey u)).next = .none ∧ s.rd (Reg.RWL.SEARCH u.port.val) ≤ (s.seat (idKey u)).count ∧ isDelta d = true ∧ (s.seat (idKey u)).tried < 2 ∧ (searchOrder (s.seat (idKey u)).firstMember (s.interpEntry (idKey u)))[(s.seat (idKey u)).tried + 1]? = some m) :=
  ⟨⟨live.setSeat (idKey (⟨15, .rx, 17⟩ : SeatId)) { Seat.reset with state := .hotSpare, next := .none, lolRun := 4 }, ⟨15, .rx, 17⟩, by decide +kernel⟩,
    ⟨live.setSeat (idKey (⟨15, .tx, 15⟩ : SeatId)) { Seat.reset with state := .locked, next := .none, lolRun := 4 }, ⟨15, .tx, 15⟩, 15, by decide +kernel⟩,
    ⟨State.reset, ⟨15, .rx, 17⟩, by decide +kernel⟩,
    ⟨(live.setSeat (idKey (⟨15, .rx, 17⟩ : SeatId)) { Seat.reset with state := .search, next := .none, tried := 2 }).setSeat (idKey (⟨15, .rx, 17⟩ : SeatId)) { Seat.reset with count := 4096, tried := 2, state := .search }, ⟨15, .rx, 17⟩, by decide +kernel⟩,
    ⟨(live.setSeat (idKey (⟨15, .rx, 17⟩ : SeatId)) { Seat.reset with state := .search, next := .none }).setSeat (idKey (⟨15, .rx, 17⟩ : SeatId)) { Seat.reset with count := 4096, tried := 1, state := .search }, ⟨15, .rx, 17⟩, 2, [⟨0, 0, 1⟩], by decide +kernel⟩⟩

theorem witness_LockIsLostAndSought_2 :
    (∃ (s : State) (via : Path) (p : Fin 16), s.deaf via = false ∧ s.locked via (0x080 + p.val) = false) ∧
    (∃ (s : State) (u : SeatId), (s.seat (idKey u)).count < s.rd (Reg.RWL.SEARCH u.port.val)) :=
  ⟨⟨State.reset, .mgmt, 15, by decide +kernel⟩,
    ⟨live.setSeat 575 { Seat.reset with count := 0 }, ⟨15, .rx, 17⟩, by decide +kernel⟩⟩

theorem witness_SeatsAreWithdrawn_1 :
    (∃ (s : State) (u : SeatId), s.running = true ∧ s.mayWithdraw (idKey u) = true ∧ 64 ≤ (s.chan (seatChanKey (idKey u))).run ∧ s.visitOf (idKey u) = .none ∧ s.laneOfSeat (idKey u) = .none) ∧
    (∃ (s : State) (u : SeatId), (s.chan (seatChanKey (idKey u))).run < 64) ∧
    (∃ (s : State) (p : Fin 16) (b : Nat), s.running = true ∧ b < 5 ∧ 64 ≤ s.refRun (p.val * 5 + b)) ∧
    (∃ (s : State) (u : SeatId), s.running = true ∧ s.seatIsolated (idKey u) = true ∧ (s.seat (idKey u)).state = .outOfService ∧ (s.seat (idKey u)).next = .none ∧ s.rd (Reg.RWL.RETRY_WD u.port.val) ≠ 0 ∧ (s.seat (idKey u)).since + s.rd (Reg.RWL.RETRY_WD u.port.val) ≤ s.now + 1) ∧
    (∃ (s : State) (u : SeatId), s.rd (Reg.RWL.RETRY_WD u.port.val) = 0) :=
  ⟨⟨(live.setChan (seatChanKey (idKey (⟨15, .rx, 17⟩ : SeatId))) { Chan.reset with run := 64 }).setSeat 575 { Seat.reset with state := .locked }, ⟨15, .rx, 17⟩, by decide +kernel⟩,
    ⟨State.reset, ⟨15, .rx, 17⟩, by decide +kernel⟩,
    ⟨live.setRefRun 79 64, 15, 4, by decide +kernel⟩,
    ⟨(live.wr (Reg.RWL.RETRY_WD 15) 5001).setSeat 575 { Seat.reset with state := .outOfService, withdrawn := true, since := 0 }, ⟨15, .rx, 17⟩, by decide +kernel⟩,
    ⟨State.reset.wr (Reg.RWL.RETRY_WD 15) 0, ⟨15, .rx, 17⟩, by decide +kernel⟩⟩

theorem witness_SeatsAreWithdrawn_2 :
    ∃ (s : State) (u : SeatId) (v : Visit) (lane : Nat), s.running = true ∧ s.mayWithdraw (idKey u) = true ∧ 64 ≤ (s.chan (seatChanKey (idKey u))).run ∧ s.visitOf (idKey u) = some v ∧ (s.seat (idKey u)).state ≠ .outOfService ∧ s.laneOfSeat (idKey u) = some lane :=
  ⟨((visits { someVisit with seat := ⟨15, .tx, 15⟩, start := .none }).setChan (seatChanKey 555) { Chan.reset with run := 64 }).setSeat 555 { Seat.reset with state := .locked }, ⟨15, .tx, 15⟩, { someVisit with seat := ⟨15, .tx, 15⟩, start := .none }, 15, by decide +kernel⟩

theorem witness_LanesAreServed_1 :
    (∃ (s : State) (p : Fin 16) (k : Nat) (rest : List Nat), s.running = true ∧ s.safe = false ∧ s.driversDue p.val = k :: rest ∧ (∀ n, (s.laneSt p.val).driverAt = some n → n + s.rd Reg.WEI.PWRUP_GAP ≤ s.now)) ∧
    (∃ (s : State) (p : Fin 16) (n : Nat), (s.laneSt p.val).driverAt = some n ∧ s.now < n + s.rd Reg.WEI.PWRUP_GAP) ∧
    (∃ (s : State), s.running = true) ∧
    (∃ (s : State) (via : Path), s.deaf via = false ∧ s.locked via 0x013 = false) ∧
    (∃ (s : State) (p : Fin 16), s.running = true ∧ s.safe = false ∧ s.linkUp p.val = false) :=
  ⟨⟨live.setSeat 557 { Seat.reset with driverDue := true, state := .search }, 15, 17, [], by decide +kernel, by decide +kernel, by decide +kernel, (fun n h => by cases h)⟩,
    ⟨State.reset.setLaneSt 15 { Lanes.reset with driverAt := some 0 }, 15, 0, by decide +kernel⟩,
    ⟨live, by decide +kernel⟩,
    ⟨State.reset, .mgmt, by decide +kernel⟩,
    ⟨live, 15, by decide +kernel⟩⟩

theorem witness_LanesAreServed_2 :
    (∃ (s : State), s.safe = true) ∧
    (∃ (s : State) (via : Path) (p : Fin 16), s.deaf via = false ∧ s.locked via (0x080 + p.val) = false) ∧
    (∃ (s : State) (p : Fin 16) (m : Missing), s.bankOf p.val = p.val ∧ (s.laneSt p.val).missing = [m] ∧ m.judged = false ∧ m.adding = false ∧ m.droppedAt + 8 < s.now ∧ m.cause.why = .lossOfLock ∧ m.cause.withdraw = false ∧ bitAt m.cause.info0 5 = false) ∧
    (∃ (s : State) (p : Fin 16) (m : Missing), (s.laneSt p.val).missing = [m] ∧ (s.laneSt p.val).rxWait = [] ∧ s.now ≤ m.droppedAt + 8) :=
  ⟨⟨State.reset.wr Reg.UMP.STAT_STATE 1, by decide +kernel⟩,
    ⟨State.reset, .mgmt, 15, by decide +kernel⟩,
    ⟨live.setLaneSt 15 { Lanes.reset with missing := [⟨15, 4991, true, .none, false, false, false, ⟨.lossOfLock, Stamp.none, 0, 0, false⟩⟩] }, 15, ⟨15, 4991, true, .none, false, false, false, ⟨.lossOfLock, Stamp.none, 0, 0, false⟩⟩, by decide +kernel⟩,
    ⟨live.setLaneSt 15 { Lanes.reset with missing := [⟨15, 4992, true, .none, false, false, false, ⟨.lossOfLock, Stamp.none, 0, 0, false⟩⟩] }, 15, ⟨15, 4992, true, .none, false, false, false, ⟨.lossOfLock, Stamp.none, 0, 0, false⟩⟩, by decide +kernel⟩⟩

theorem witness_ThermalSolves_1 :
    (∃ (s : State) (n : Nat), s.solveDue = true ∧ 320 ≤ n ∧ n ≤ 959) ∧
    (∃ (s : State), s.solveDue = true ∧ s.rd Reg.LVL.STAT_THERMAL = 1 ∧ s.rd Reg.LVL.STAT_MISS_RUN = 0) ∧
    (∃ (s : State), s.solveDue = true ∧ s.rd Reg.LVL.STAT_THERMAL = 2 ∧ 2 ≤ s.rd Reg.LVL.STAT_MISS_RUN) ∧
    (∃ (s : State), s.solveDue = true ∧ s.rd Reg.LVL.STAT_THERMAL = 2 ∧ 2 ≤ s.rd Reg.LVL.STAT_MISS_RUN ∧ s.flm.ba.isSome = true) ∧
    (∃ (s : State), s.solveDue = true ∧ s.rd Reg.LVL.STAT_THERMAL = 3) :=
  ⟨⟨live.wr Reg.LVL.STAT_THERMAL 1, 959, by decide +kernel⟩,
    ⟨live.wr Reg.LVL.STAT_THERMAL 1, by decide +kernel⟩,
    ⟨(live.wr Reg.LVL.STAT_THERMAL 2).wr Reg.LVL.STAT_MISS_RUN 2, by decide +kernel⟩,
    ⟨{ (live.wr Reg.LVL.STAT_THERMAL 2).wr Reg.LVL.STAT_MISS_RUN 2 with flm := { (live).flm with ba := some someRun } }, by decide +kernel⟩,
    ⟨live.wr Reg.LVL.STAT_THERMAL 3, by decide +kernel⟩⟩

theorem witness_ThermalSolves_2 :
    (∃ (s : State) (n : Nat), s.clk.cycle < 959 ∧ 959 < n) ∧
    (∃ (s : State) (n : Nat) (b : Nat), s.solveDue = true ∧ 320 ≤ n ∧ b < 24) ∧
    (∃ (s : State) (n : Nat), s.solveDue = true ∧ 320 ≤ n) ∧
    (∃ (s : State), s.solveDue = false) ∧
    (∃ (n : Nat), n < 320) :=
  ⟨⟨live, 960, by decide +kernel⟩,
    ⟨live.wr Reg.LVL.STAT_THERMAL 1, 320, 23, by decide +kernel⟩,
    ⟨live.wr Reg.LVL.STAT_THERMAL 1, 320, by decide +kernel⟩,
    ⟨State.reset, by decide +kernel⟩,
    ⟨319, by decide +kernel⟩⟩

theorem witness_DeltaListsAndRefactoring_1 :
    (∃ (s : State) (l : DeltaList) (row : Nat), s.running = true ∧ s.lvl.loaded = true ∧ s.lvl.resend = [] ∧ s.lvl.senders = [] ∧ s.lvl.queue = [l] ∧ failingRow (applyDelta s.lvl.shadow l.entries) l.entries = some row) ∧
    (∃ (s : State) (l : DeltaList) (i : Nat) (j : Nat) (v : Int), s.running = true ∧ s.lvl.loaded = true ∧ s.lvl.resend = [] ∧ s.lvl.senders = [] ∧ s.lvl.queue = [l] ∧ l.entries = [⟨i, j, v⟩] ∧ i ≠ j ∧ 0x1000 < v.natAbs) ∧
    (∃ (s : State) (l : DeltaList), s.running = true ∧ s.lvl.loaded = true ∧ s.lvl.resend = [] ∧ s.lvl.senders = [] ∧ s.lvl.queue = [l] ∧ failingRow (applyDelta s.lvl.shadow l.entries) l.entries = .none) ∧
    (∃ (s : State) (b : Nat), s.running = true ∧ s.lvl.loaded = true ∧ s.nextBlock = some b) ∧
    (∃ (s : State) (b : Nat) (c : Nat), s.running = true ∧ s.lvl.loaded = true ∧ s.nextBlock = some b ∧ c < 24) :=
  ⟨⟨{ live with lvl := { live.lvl with loaded := true, queue := [⟨[⟨0, 1, 0x1001⟩], [], false⟩] } }, ⟨[⟨0, 1, 0x1001⟩], [], false⟩, 0, by decide +kernel⟩,
    ⟨{ live with lvl := { live.lvl with loaded := true, queue := [⟨[⟨0, 1, 0x1001⟩], [], false⟩] } }, ⟨[⟨0, 1, 0x1001⟩], [], false⟩, 0, 1, 0x1001, by decide +kernel⟩,
    ⟨lastRowClear, ⟨[⟨815, 815, 0x4000⟩], [], false⟩, by decide +kernel, rfl, rfl, rfl, rfl, (lastRow_passes _ fun j hj => lastRow_read (List.range 815) j (List.mem_range.2 hj))⟩,
    ⟨{ live.wr Reg.LVL.REFACTOR 0x800000 with lvl := { (live).lvl with loaded := true } }, 23, by decide +kernel⟩,
    ⟨{ live.wr Reg.LVL.REFACTOR 0xC00000 with lvl := { (live).lvl with loaded := true } }, 22, 23, by decide +kernel⟩⟩

theorem witness_DeltaListsAndRefactoring_2 :
    (∃ (s : State), s.running = false ∨ s.lvl.loaded = false ∨ s.nextBlock = .none) ∧
    (∃ (s : State), s.running = true ∧ s.lvl.loaded = true ∧ s.lvl.resend = [] ∧ s.lvl.queue = []) ∧
    (∃ (s : State), s.lvl.loaded = false ∧ s.running = true) :=
  ⟨⟨State.reset, by decide +kernel⟩,
    ⟨{ live with lvl := { live.lvl with loaded := true } }, by decide +kernel⟩,
    ⟨{ live with lvl := { live.lvl with loaded := false } }, by decide +kernel⟩⟩

theorem witness_BundleAdjustment_1 :
    (∃ (s : State), s.mayOpenWindow = true) ∧
    (∃ (s : State), s.mayOpenWindow = false) ∧
    (∃ (s : State) (r : BaRun) (d n : Nat), s.flm.ba = some r ∧ s.rd Reg.LVL.STAT_BA_STATE = 1 ∧ r.windowEnd ≤ s.now ∧ 8 * (r.discarded + d) ≤ r.taken + n) ∧
    (∃ (s : State) (r : BaRun) (d n : Nat), s.flm.ba = some r ∧ s.rd Reg.LVL.STAT_BA_STATE = 1 ∧ r.windowEnd ≤ s.now ∧ r.taken + n < 8 * (r.discarded + d)) ∧
    (∃ (s : State) (r : BaRun), s.flm.ba = some r ∧ s.rd Reg.LVL.STAT_BA_STATE = 2 ∧ s.rd Reg.LVL.STAT_THERMAL = 1 ∧ s.lvl.solved = true ∧ r.iterBegan ≤ s.now ∧ s.now < r.iterBegan + r.deadline) :=
  ⟨⟨{ ((live.wr Reg.FLM.CTRL_REEST_EN 1).wr Reg.FLM.STAT_FAN_AVAIL 1).wr Reg.FLM.STAT_STATE 2 with flm := { (live).flm with runAsked := true } }, by decide +kernel⟩,
    ⟨State.reset, by decide +kernel⟩,
    ⟨{ live.wr Reg.LVL.STAT_BA_STATE 1 with flm := { (live).flm with ba := some (sampledRun 8 56) } }, sampledRun 8 56, 0, 0, by decide +kernel⟩,
    ⟨{ live.wr Reg.LVL.STAT_BA_STATE 1 with flm := { (live).flm with ba := some (sampledRun 8 55) } }, sampledRun 8 55, 0, 0, by decide +kernel⟩,
    ⟨{ (live.wr Reg.LVL.STAT_BA_STATE 2).wr Reg.LVL.STAT_THERMAL 1 with flm := { live.flm with ba := some someRun }, lvl := { live.lvl with solved := true } }, someRun, by decide +kernel⟩⟩

theorem witness_BundleAdjustment_2 :
    (∃ (s : State) (r : BaRun) (u : List Int), s.flm.ba = some r ∧ r.cold = false ∧ s.rd Reg.LVL.STAT_BA_STATE = 2 ∧ s.rd Reg.LVL.STAT_THERMAL = 1 ∧ s.lvl.solved = true ∧ r.iterBegan ≤ s.now ∧ s.now < r.iterBegan + r.deadline ∧ maxMagnitude u ≤ s.rd Reg.LVL.BA_CFG_TOL ∧ plausible (addUpdate r.estimate u) s.estimateList (r.cold && !r.hasPrevious) = true) ∧
    (∃ (s : State) (r : BaRun) (u : List Int), s.flm.ba = some r ∧ s.rd Reg.LVL.STAT_BA_STATE = 2 ∧ s.rd Reg.LVL.STAT_THERMAL = 1 ∧ s.lvl.solved = true ∧ r.iterBegan ≤ s.now ∧ s.now < r.iterBegan + r.deadline ∧ maxMagnitude u ≤ s.rd Reg.LVL.BA_CFG_TOL ∧ plausible (addUpdate r.estimate u) s.estimateList (r.cold && !r.hasPrevious) = false) ∧
    (∃ (s : State) (r : BaRun), s.flm.ba = some r ∧ s.rd Reg.LVL.STAT_BA_STATE = 2 ∧ r.iterBegan + r.deadline ≤ s.now) ∧
    (∃ (s : State) (r : BaRun), s.flm.ba = some r ∧ s.now < r.iterBegan + r.deadline) :=
  ⟨⟨{ (live.wr Reg.LVL.STAT_BA_STATE 2).wr Reg.LVL.STAT_THERMAL 1 with flm := { live.flm with ba := some someRun }, lvl := { live.lvl with solved := true } }, someRun, [0, 1], by decide +kernel⟩,
    ⟨{ ((live.wr Reg.LVL.STAT_BA_STATE 2).wr Reg.LVL.STAT_THERMAL 1).wr Reg.LVL.BA_CFG_TOL 4 with flm := { live.flm with ba := some ({ someRun with estimate := List.replicate 241 0x2666 }) }, lvl := { live.lvl with solved := true } }, { someRun with estimate := List.replicate 241 0x2666 }, List.replicate 241 1, by decide +kernel⟩,
    ⟨{ live.wr Reg.LVL.STAT_BA_STATE 2 with flm := { (live).flm with ba := some ({ someRun with deadline := 512, iterBegan := 4488 }) } }, { someRun with deadline := 512, iterBegan := 4488 }, by decide +kernel⟩,
    ⟨{ live with flm := { (live).flm with ba := some { someRun with iterBegan := 4999 } } }, { someRun with iterBegan := 4999 }, by decide +kernel⟩⟩

theorem witness_DatumStates_1 :
    (∃ (s : State) (pwr : Int), s.running = true ∧ -32768 ≤ pwr ∧ pwr < 32768 ∧ s.rd Reg.DTM.STAT_STATE = 0 ∧ s.datum.presentRun < 16) ∧
    (∃ (s : State) (pwr : Int), s.running = true ∧ -32768 ≤ pwr ∧ pwr < 32768 ∧ s.rd Reg.DTM.STAT_STATE = 2 ∧ s.datum.lowRun < 16 ∧ s.datum.badRun < 16) ∧
    (∃ (s : State), s.rd Reg.DTM.STAT_STATE = 0 ∧ 16 ≤ s.datum.presentRun) ∧
    (∃ (s : State) (pwr : Int) (ofs : List (Option Int)), s.rd Reg.DTM.STAT_STATE = 1 ∧ s.now ≤ s.datum.acquireAt + 64 ∧ -1100 ≤ pwr ∧ pwr ≤ -900 ∧ s.gridOffsets ofs = []) ∧
    (∃ (s : State), s.rd Reg.DTM.STAT_STATE = 1) :=
  ⟨⟨live, -32768, by decide +kernel⟩,
    ⟨live.wr Reg.DTM.STAT_STATE 2, -1101, by decide +kernel⟩,
    ⟨{ State.reset.wr Reg.DTM.STAT_STATE 0 with datum := { State.reset.datum with presentRun := 16 } }, by decide +kernel⟩,
    ⟨State.reset.wr Reg.DTM.STAT_STATE 1, -1100, [], by decide +kernel⟩,
    ⟨State.reset.wr Reg.DTM.STAT_STATE 1, by decide +kernel⟩⟩

theorem witness_DatumStates_2 :
    (∃ (s : State) (pwr : Int), s.rd Reg.DTM.STAT_STATE = 1 ∧ s.now ≤ s.datum.acquireAt + 64 ∧ (pwr < -1100 ∨ -900 < pwr)) ∧
    (∃ (s : State) (pwr : Int) (o : Int) (x : Nat) (ofs : List (Option Int)), s.rd Reg.DTM.STAT_STATE = 1 ∧ s.now ≤ s.datum.acquireAt + 64 ∧ -1100 ≤ pwr ∧ pwr ≤ -900 ∧ s.gridOffsets ofs = [(x, o)] ∧ 200 < o.natAbs) ∧
    (∃ (s : State), s.rd Reg.DTM.STAT_STATE = 2 ∧ 16 ≤ s.datum.lowRun) ∧
    (∃ (s : State), s.rd Reg.DTM.STAT_STATE = 2 ∧ 16 ≤ s.datum.badRun ∧ s.datum.badReason < 4) ∧
    (∃ (s : State), s.rd Reg.DTM.STAT_STATE = 3 ∧ 16 ≤ s.datum.lowRun) :=
  ⟨⟨State.reset.wr Reg.DTM.STAT_STATE 1, -1101, by decide +kernel⟩,
    ⟨(State.reset.wr Reg.DTM.STAT_STATE 1).wr (Reg.HGT.HG_STAT_OPEN 3) 1, -1000, -201, 3, [.none, .none, .none, some (-201)], by decide +kernel⟩,
    ⟨{ State.reset.wr Reg.DTM.STAT_STATE 2 with datum := { State.reset.datum with lowRun := 16 } }, by decide +kernel⟩,
    ⟨{ State.reset.wr Reg.DTM.STAT_STATE 2 with datum := { State.reset.datum with badRun := 16, badReason := 3 } }, by decide +kernel⟩,
    ⟨{ State.reset.wr Reg.DTM.STAT_STATE 3 with datum := { State.reset.datum with lowRun := 16 } }, by decide +kernel⟩⟩

theorem witness_DatumStates_3 :
    (∃ (s : State) (via : Path), s.deaf via = false ∧ s.locked via 0x014 = false ∧ s.rd Reg.DTM.STAT_STATE ≠ 0) ∧
    (∃ (s : State) (via : Path), s.deaf via = false ∧ s.locked via 0x014 = false ∧ s.rd Reg.DTM.STAT_STATE = 0) :=
  ⟨⟨State.reset.wr Reg.DTM.STAT_STATE 1, .mgmt, by decide +kernel⟩,
    ⟨State.reset, .mgmt, by decide +kernel⟩⟩

theorem witness_TemperatureIsWatched :
    (∃ (s : State), s.running = true) ∧
    (∃ (s : State) (n : Nat), s.running = true ∧ n < 20 ∧ (s.sensor n).hot = 16) ∧
    (∃ (s : State) (n : Nat), s.running = true ∧ n < 20 ∧ (s.sensor n).cold = 16) ∧
    (∃ (s : State) (n : Nat), s.running = true ∧ n < 20 ∧ (s.sensor n).trip = 4 ∧ s.rd Reg.UMP.STAT_STATE = 0 ∧ s.ump.assertedAt = .none) :=
  ⟨⟨live, by decide +kernel⟩,
    ⟨live.setSensor 19 { Sensor.reset with hot := 16 }, 19, by decide +kernel⟩,
    ⟨live.setSensor 19 { Sensor.reset with cold := 16 }, 19, by decide +kernel⟩,
    ⟨{ live.setSensor 19 { Sensor.reset with trip := 4 } with ump := { (live).ump with assertedAt := .none } }, 19, by decide +kernel⟩⟩

theorem witness_SeatsAreVisited_1 :
    (∃ (s : State) (u : SeatId) (i : Nat), s.running = true ∧ s.safe = false ∧ s.passTurn u.port.val u.side u.seat.val = false ∧ s.nextCursor u.port.val = some i ∧ cursorSeat u.port.val i = idKey u ∧ s.flag Reg.CAL.CTRL = true ∧ 7 ≤ s.stepNo ∧ s.passing u.port.val = false ∧ Tab.read 0 s.cal.nextVisit u.port.val ≤ s.now ∧ s.laneOfSeat (idKey u) = .none) ∧
    (∃ (s : State) (u : SeatId), s.running = true ∧ s.safe = false ∧ s.passTurn u.port.val u.side u.seat.val = true ∧ s.laneOfSeat (idKey u) = .none) ∧
    (∃ (s : State), s.safe = true) ∧
    (∃ (s : State) (u : SeatId) (v : Visit) (st : Nat) (r : StepResult), s.running = true ∧ s.safe = false ∧ s.visitOf (idKey u) = some v ∧ v.start = some st ∧ st ≤ s.now ∧ s.now ≤ st + 46 ∧ v.skipAt ≠ some s.now ∧ (r = .discarded ∨ needsSample r = true) ∧ (s.chan (seatChanKey (idKey u))).clean = false) ∧
    (∃ (s : State) (u : SeatId) (v : Visit) (st : Nat) (d : List DeltaEntry), s.running = true ∧ s.safe = false ∧ s.visitOf (idKey u) = some v ∧ v.start = some st ∧ s.now = st + 46 ∧ stepsDone v = true ∧ isDelta d = true ∧ v.checked = .none ∧ v.skipAt ≠ some s.now ∧ firstFailing v (visitResult v (s.liveEntry (idKey u)) (s.interpEntry (idKey u))) (s.interpEntry (idKey u)) = 0 ∧ s.lvl.queue.length < 8 ∧ s.lvl.senders = []) :=
  ⟨⟨(((live.wr (Reg.OPT.LOS 15) 0).wr Reg.GLB.STAT_STEP 7).wr Reg.CAL.CTRL 1).setSeat (idKey (⟨15, .rx, 17⟩ : SeatId)) { Seat.reset with state := .locked }, ⟨15, .rx, 17⟩, 35, by decide +kernel⟩,
    ⟨{ ((live.wr (Reg.OPT.LOS 15) 0).wr Reg.CAL.PASS_ACTIVE 0x8000).setSeat (idKey (⟨15, .rx, 17⟩ : SeatId)) { Seat.reset with state := .locked } with cal := { (live).cal with passAt := [(15, 17)] } }, ⟨15, .rx, 17⟩, by decide +kernel⟩,
    ⟨State.reset.wr Reg.UMP.STAT_STATE 1, by decide +kernel⟩,
    ⟨visits { someVisit with start := some 5000, checked := .none }, ⟨15, .rx, 17⟩, { someVisit with start := some 5000, checked := .none }, 5000, .sweep, by decide +kernel⟩,
    ⟨visits ⟨⟨15, .rx, 17⟩, some 4954, false, false, [(1, some 0x6000), (2, .none), (3, .none)], some 0, .none, some 16, some 15, .none, .none, .none, true, false⟩, ⟨15, .rx, 17⟩, ⟨⟨15, .rx, 17⟩, some 4954, false, false, [(1, some 0x6000), (2, .none), (3, .none)], some 0, .none, some 16, some 15, .none, .none, .none, true, false⟩, 4954, [⟨0, 0, 0⟩], by decide +kernel⟩⟩

theorem witness_SeatsAreVisited_2 :
    (∃ (s : State) (u : SeatId) (v : Visit) (st : Nat), s.running = true ∧ s.safe = false ∧ s.rd Reg.DTM.STAT_STATE ≠ 2 ∧ s.visitOf (idKey u) = some v ∧ v.start = some st ∧ s.now = st + 47 ∧ v.checked = some 0 ∧ v.pass = false) ∧
    (∃ (s : State) (u : SeatId) (v : Visit) (st : Nat) (n : Nat), s.running = true ∧ s.safe = false ∧ s.visitOf (idKey u) = some v ∧ v.start = some st ∧ s.now = st + 47 ∧ v.checked = some n ∧ n ≠ 0 ∧ v.pass = false) ∧
    (∃ (s : State) (u : SeatId) (v : Visit) (st : Nat), s.visitOf (idKey u) = some v ∧ v.start = some st ∧ s.now ≠ st + 47) ∧
    (∃ (s : State) (via : Path), s.deaf via = false ∧ s.locked via 0x006 = false) ∧
    (∃ (s : State) (p : Fin 16), s.running = true ∧ 7 ≤ s.stepNo ∧ s.passing p.val = false ∧ s.rd Reg.CAL.DT_TRIG * 8 < (s.portTemp p.val - s.refTemp p.val).natAbs) :=
  ⟨⟨{ live with cal := { (live).cal with visits := [someVisit] } }, ⟨15, .rx, 17⟩, someVisit, 4953, by decide +kernel⟩,
    ⟨{ live with cal := { (live).cal with visits := [{ someVisit with checked := some 7 }] } }, ⟨15, .rx, 17⟩, { someVisit with checked := some 7 }, 4953, 7, by decide +kernel⟩,
    ⟨{ live with cal := { (live).cal with visits := [{ someVisit with start := some 4954 }] } }, ⟨15, .rx, 17⟩, { someVisit with start := some 4954 }, 4954, by decide +kernel⟩,
    ⟨State.reset, .mgmt, by decide +kernel⟩,
    ⟨(live.wr Reg.GLB.STAT_STEP 7).wr (Reg.THM.PORT_T 15) 0x7FFF, 15, by decide +kernel⟩⟩

theorem witness_SeatsAreVisited_3 :
    (∃ (s : State) (p : Fin 16), s.running = true ∧ s.safe = false ∧ s.nextPass = some p.val ∧ s.portVisits p.val = [] ∧ countBits 16 (s.rd Reg.CAL.PASS_ACTIVE) < s.rd Reg.CAL.PASS_MAX) ∧
    (∃ (s : State) (u : SeatId) (v : Visit) (st : Nat), s.running = true ∧ s.safe = false ∧ s.visitOf (idKey u) = some v ∧ v.start = some st ∧ st + 36 ≤ s.now ∧ s.now ≤ st + 46 ∧ v.seat.side = .tx ∧ v.lockpt.isSome = true ∧ v.checked = .none ∧ v.skipAt ≠ some s.now ∧ (s.chan (seatChanKey (idKey u))).clean = true) :=
  ⟨⟨(((live.wr (Reg.OPT.LOS 15) 0).wr Reg.CAL.PASS_QUEUED 0x8000).wr Reg.GLB.STAT_STEP 7).setSeat (idKey (⟨15, .rx, 17⟩ : SeatId)) { Seat.reset with state := .hotSpare }, 15, by decide +kernel⟩,
    ⟨(visits { someVisit with seat := ⟨15, .tx, 15⟩, start := some 4964, checked := .none, lockpt := some 0 }).setChan (seatChanKey 555) { Chan.reset with clean := true }, ⟨15, .tx, 15⟩, { someVisit with seat := ⟨15, .tx, 15⟩, start := some 4964, checked := .none, lockpt := some 0 }, 4964, by decide +kernel⟩⟩

theorem witness_StoreReadsAndWrites_1 :
    (∃ (s : State) (r : Nat), s.running = true ∧ s.safe = false ∧ s.nvs.own = .none ∧ s.nvs.cmd = .none ∧ s.recordsDue.head? = some r) ∧
    (∃ (s : State) (c : NvsCmd), s.running = true ∧ s.nvs.slot < 4 ∧ s.nvs.own = .none ∧ s.nvs.cmd = some c ∧ c.write = true ∧ c.word = 31) ∧
    (∃ (s : State), 4 ≤ s.nvs.slot) ∧
    (∃ (s : State) (w : OwnWrite) (c : NvsCmd), s.running = true ∧ s.nvs.own = some w ∧ s.nvs.cmd = some c ∧ s.ownMayGo w = true ∧ s.nvs.midPage = false ∧ s.nvs.deferred = false) ∧
    (∃ (s : State) (via : Path), s.deaf via = false ∧ s.locked via 0x005 = false ∧ s.flag Reg.NVS.STAT_BUSY = false) :=
  ⟨⟨{ live with nvs := { (live).nvs with own := .none, flumeDue := true } }, 5, by decide +kernel⟩,
    ⟨{ live with nvs := { (live).nvs with own := .none, cmd := some ⟨true, 0x3FFF, List.replicate 32 7, 31, true⟩, slot := 3 } }, ⟨true, 0x3FFF, List.replicate 32 7, 31, true⟩, by decide +kernel⟩,
    ⟨{ State.reset with nvs := { State.reset.nvs with slot := 4 } }, by decide +kernel⟩,
    ⟨{ live with nvs := { (live).nvs with own := some ⟨5, false, 1, 0, 0, false, false, [[]]⟩, cmd := some ⟨true, 0x3FFF, List.replicate 32 7, 0, false⟩ } }, ⟨5, false, 1, 0, 0, false, false, [[]]⟩, ⟨true, 0x3FFF, List.replicate 32 7, 0, false⟩, by decide +kernel⟩,
    ⟨State.reset, .mgmt, by decide +kernel⟩⟩

theorem witness_StoreReadsAndWrites_2 :
    (∃ (s : State) (via : Path) (pg : Nat), s.deaf via = false ∧ s.locked via 0x005 = false ∧ s.flag Reg.NVS.STAT_BUSY = false ∧ pg < 2 ^ 14 ∧ 0x3000 ≤ pg ∧ s.safe = false) ∧
    (∃ (s : State) (via : Path) (pg : Nat), s.deaf via = false ∧ s.locked via 0x005 = false ∧ s.flag Reg.NVS.STAT_BUSY = false ∧ pg < 2 ^ 14 ∧ (pg < 0x3000 ∨ s.safe = true)) ∧
    (∃ (c : Instr) (s : State) (via : Path) (pg : Nat), (c = .nvsCmdRead via pg ∨ c = .nvsCmdWrite via pg) ∧ s.deaf via = false ∧ s.locked via 0x005 = false ∧ s.flag Reg.NVS.STAT_BUSY = true) ∧
    (∃ (s : State) (c : NvsCmd) (ce : BitVec 32) (ue : BitVec 32), s.nvs.cmd = some c ∧ c.write = false ∧ s.nvs.midPage = false ∧ c.page < 2 ^ 14 ∧ ce &&& ~~~ue ≠ 0 ∧ (∀ i < 32, s.nvsEcc (c.page * 32 + i) = .clean)) ∧
    (∃ (s : State) (w : OwnWrite), s.running = true ∧ s.nvs.slot < 4 ∧ s.nvs.own = some w ∧ s.nvs.cmd = .none ∧ s.ownMayGo w = true ∧ w.word < 31) :=
  ⟨⟨State.reset, .mgmt, 0x3FFF, by decide +kernel⟩,
    ⟨State.reset, .mgmt, 0x2FFF, by decide +kernel⟩,
    ⟨.nvsCmdRead .mgmt 0x3FFF, State.reset.wr Reg.NVS.STAT_BUSY 1, .mgmt, 0x3FFF, by decide +kernel⟩,
    ⟨{ State.reset with nvs := { State.reset.nvs with cmd := some (⟨false, 0x3FFF, [], 0, false⟩) } }, ⟨false, 0x3FFF, [], 0, false⟩, 1, 0x80000000, by decide +kernel⟩,
    ⟨{ live with nvs := { live.nvs with own := some ⟨5, false, 1, 0, 30, false, false, [[]]⟩, cmd := .none, slot := 3 } }, ⟨5, false, 1, 0, 30, false, false, [[]]⟩, by decide +kernel⟩⟩

theorem witness_StoreReadsAndWrites_3 :
    ∃ (s : State), s.nvs.deferred = true :=
  ⟨{ live with nvs := { live.nvs with deferred := true } }, by decide +kernel⟩

theorem witness_FlitsAreTaken_1 :
    (∃ (s : State) (c : Fin 8) (h : FlitHdr), h.crcOk = true ∧ s.culvRuns c.val = true ∧ (s.culv c.val).unsent = [] ∧ 0 < seqDist h.ack (s.culv c.val).txAcked ∧ seqDist h.ack (s.culv c.val).txAcked ≤ (s.culv c.val).replay.length) ∧
    (∃ (s : State) (c : Fin 8) (h : FlitHdr), h.crcOk = false ∧ s.culvRuns c.val = true) ∧
    (∃ (s : State) (c : Fin 8) (h : FlitHdr), (h.crcOk = false ∨ s.culvRuns c.val = false ∨ h.seq ≠ (s.culv c.val).rxNext)) ∧
    (∃ (s : State) (c : Fin 8) (h : FlitHdr) (bs : List Byte) (r : HubReq), h.crcOk = true ∧ s.culvRuns c.val = true ∧ h.ack = (s.culv c.val).txAcked ∧ h.seq = (s.culv c.val).rxNext ∧ h.poison = false ∧ (s.culv c.val).oldest false = some r ∧ r.purpose = .fill ∧ r.data = [] ∧ r.poison = false ∧ r.stale = false ∧ r.len = bs.length ∧ bs ≠ [] ∧ bs.length ≤ 120) ∧
    (∃ (s : State) (c : Fin 8) (h : FlitHdr) (r : HubReq) (q : Nat) (key : Nat) (i0 : Nat) (i1 : Nat), h.crcOk = true ∧ s.culvRuns c.val = true ∧ h.ack = (s.culv c.val).txAcked ∧ h.seq = (s.culv c.val).rxNext ∧ (s.culv c.val).oldest true = some r ∧ r.purpose = .completion q key i0 i1) :=
  ⟨⟨(State.reset.wr (Reg.CLV.STAT_STATE 7) 5).setCulv 7 { Culv.reset with unsent := [], replay := [⟨0, [], [], false, false⟩] }, 7, ⟨true, 0, 0, false⟩, by decide +kernel⟩,
    ⟨State.reset.wr (Reg.CLV.STAT_STATE 7) 5, 7, ⟨false, 0, 0, false⟩, by decide +kernel⟩,
    ⟨State.reset.wr (Reg.CLV.STAT_STATE 7) 5, 7, ⟨true, 1, 0xFFF, false⟩, by decide +kernel⟩,
    ⟨(State.reset.wr (Reg.CLV.STAT_STATE 7) 5).setCulv 7 { Culv.reset with reqs := [⟨false, 64, 8, .fill, [], false, false, (0, 0)⟩] }, 7, ⟨true, 0, 0xFFF, false⟩, [1, 2, 3, 4, 5, 6, 7, 8], ⟨false, 64, 8, .fill, [], false, false, (0, 0)⟩, by decide +kernel⟩,
    ⟨(State.reset.wr (Reg.CLV.STAT_STATE 7) 5).setCulv 7 { Culv.reset with reqs := [⟨true, 64, 16, .completion 63 0 0 0, [], false, false, (0, 0)⟩] }, 7, ⟨true, 0, 0xFFF, false⟩, ⟨true, 64, 16, .completion 63 0 0 0, [], false, false, (0, 0)⟩, 63, 0, 0, 0, by decide +kernel⟩⟩

theorem witness_FlitsAreTaken_2 :
    (∃ (s : State) (c : Fin 8), s.culvRuns c.val = true) ∧
    (∃ (s : State) (c : Fin 8) (h : FlitHdr) (r : HubReq), h.crcOk = true ∧ s.culvRuns c.val = true ∧ h.ack = (s.culv c.val).txAcked ∧ h.seq = (s.culv c.val).rxNext ∧ (s.culv c.val).oldest false = some r ∧ r.purpose = .fill ∧ r.stale = false) ∧
    (∃ (s : State) (c : Fin 8) (h : FlitHdr), h.crcOk = true ∧ s.culvRuns c.val = true ∧ h.ack = (s.culv c.val).txAcked ∧ h.seq = (s.culv c.val).rxNext ∧ s.flag (Reg.CLV.STAT_INVAL_ON c.val) = true) ∧
    (∃ (s : State) (c : Fin 8) (h : FlitHdr) (ty : BitVec 4), h.crcOk = true ∧ s.culvRuns c.val = true ∧ (8 ≤ ty.toNat ∨ ty = 1 ∨ ty = 2)) :=
  ⟨⟨(State.reset.wr (Reg.CLV.STAT_STATE 7) 5).setCulv 7 { Culv.reset with line := [⟨0xFFF, [], [1], true, false⟩], fifths := 4 }, 7, by decide +kernel⟩,
    ⟨(State.reset.wr (Reg.CLV.STAT_STATE 7) 5).setCulv 7 { Culv.reset with reqs := [⟨false, 64, 8, .fill, [], false, false, (0, 0)⟩] }, 7, ⟨true, 0, 0xFFF, false⟩, ⟨false, 64, 8, .fill, [], false, false, (0, 0)⟩, by decide +kernel⟩,
    ⟨{ (State.reset.wr (Reg.CLV.STAT_STATE 7) 5).wr (Reg.CLV.STAT_INVAL_ON 7) 1 with cox := { State.reset.cox with cache := [(1, [1]), (2, [2])] } }, 7, ⟨true, 0, 0xFFF, false⟩, by decide +kernel⟩,
    ⟨State.reset.wr (Reg.CLV.STAT_STATE 7) 5, 7, ⟨true, 0, 0xFFF, false⟩, 15, by decide +kernel⟩⟩

theorem witness_ReplayAndRemap_1 :
    (∃ (s : State) (c : Fin 8), s.culvRuns c.val = true ∧ (s.culv c.val).replay ≠ [] ∧ (s.culv c.val).timer + s.rd (Reg.CLV.TIMEOUT c.val) ≤ s.absCycle ∧ (s.culv c.val).expiries < 7) ∧
    (∃ (s : State) (c : Fin 8), s.culvRuns c.val = true ∧ (s.culv c.val).replay ≠ [] ∧ (s.culv c.val).timer + s.rd (Reg.CLV.TIMEOUT c.val) ≤ s.absCycle ∧ (s.culv c.val).expiries = 7) ∧
    (∃ (s : State) (c : Fin 8), s.absCycle < (s.culv c.val).timer + s.rd (Reg.CLV.TIMEOUT c.val)) ∧
    (∃ (s : State) (c : Fin 8), (s.culv c.val).expiries ≠ 8) ∧
    (∃ (s : State), s.running = true ∧ s.clk.cycle = 0 ∧ s.remapOn = true) :=
  ⟨⟨((live.wr (Reg.CLV.STAT_STATE 7) 5).wr (Reg.CLV.TIMEOUT 7) 4096).setCulv 7 { Culv.reset with replay := [⟨0, [], [], false, false⟩, ⟨0, [], [], false, false⟩], timer := 6400000 - 4096, expiries := 6 }, 7, by decide +kernel⟩,
    ⟨((live.wr (Reg.CLV.STAT_STATE 7) 5).wr (Reg.CLV.TIMEOUT 7) 4096).setCulv 7 { Culv.reset with expiries := 7, replay := [⟨0, [], [], false, false⟩, ⟨0, [], [], false, false⟩], timer := 6400000 - 4096 }, 7, by decide +kernel⟩,
    ⟨(live.wr (Reg.CLV.TIMEOUT 7) 1280).setCulv 7 { Culv.reset with timer := 6400000 - 1279 }, 7, by decide +kernel⟩,
    ⟨State.reset, 7, by decide +kernel⟩,
    ⟨{ ((live.wr (Reg.CLV.STAT_REMAP_ON 0) 1).wr (Reg.CLV.STAT_STATE 7) 5).wr Reg.GLB.STAT_STEP 3 with clk := { (live).clk with cycle := 0 } }, by decide +kernel⟩⟩

theorem witness_ReplayAndRemap_2 :
    (∃ (s : State), s.clk.cycle ≠ 0) ∧
    (∃ (s : State) (e : Fin 64), s.running = true ∧ s.clk.cycle = 0 ∧ s.returning e.val = true ∧ s.entryBusy e.val = false) ∧
    (∃ (s : State) (e : Fin 64), (s.returning e.val = false ∨ s.entryBusy e.val = true)) :=
  ⟨⟨{ live with clk := { (live).clk with cycle := 1 } }, by decide +kernel⟩,
    ⟨{ live.wr (Reg.CLV.STEER 0 7) 0x00000000 with clk := { (live).clk with cycle := 0 } }, 63, by decide +kernel⟩,
    ⟨State.reset, 63, by decide +kernel⟩⟩

theorem witness_CulvertsTrain_1 :
    (∃ (s : State) (c : Fin 8), s.culvState c.val = 1) ∧
    (∃ (s : State) (c : Fin 8), s.culvRuns c.val = true) ∧
    (∃ (s : State) (c : Fin 8) (cap : Word) (set : BitVec 24), s.culvState c.val = 2 ∧ s.identReason c.val cap.toNat set.toNat = .none) ∧
    (∃ (s : State) (c : Fin 8) (cap : Word), s.culvState c.val = 2 ∧ cap.toNat / 2 ^ 12 % 16 ≠ 1) ∧
    (∃ (s : State) (c : Fin 8), s.culvState c.val ≠ 2) :=
  ⟨⟨State.reset.wr (Reg.CLV.STAT_STATE 7) 1, 7, by decide +kernel⟩,
    ⟨State.reset.wr (Reg.CLV.STAT_STATE 7) 5, 7, by decide +kernel⟩,
    ⟨State.reset.wr (Reg.CLV.STAT_STATE 7) 2, 7, 0x0000104F, 0, by decide +kernel⟩,
    ⟨State.reset.wr (Reg.CLV.STAT_STATE 7) 2, 7, 0x00002FFF, by decide +kernel⟩,
    ⟨State.reset, 7, by decide +kernel⟩⟩

theorem witness_CulvertsTrain_2 :
    (∃ (s : State) (c : Fin 8), s.culvState c.val = 3) ∧
    (∃ (s : State) (c : Fin 8) (own : DWord) (hub : DWord), s.culvState c.val = 3 ∧ (own ≠ -1 ∨ hub ≠ -1)) ∧
    (∃ (s : State) (c : Fin 8) (h : FlitHdr), s.culvState c.val = 4 ∧ h.crcOk = true) ∧
    (∃ (s : State) (c : Fin 8) (h : FlitHdr), s.culvState c.val = 4 ∧ h.crcOk = false) ∧
    (∃ (s : State) (c : Fin 8), s.culvState c.val = 4 ∧ (s.culv c.val).goodRx = 4096 ∧ (s.culv c.val).reqs = []) :=
  ⟨⟨State.reset.wr (Reg.CLV.STAT_STATE 7) 3, 7, by decide +kernel⟩,
    ⟨State.reset.wr (Reg.CLV.STAT_STATE 7) 3, 7, 0, -1, by decide +kernel⟩,
    ⟨State.reset.wr (Reg.CLV.STAT_STATE 7) 4, 7, ⟨true, 0, 0xFFF, false⟩, by decide +kernel⟩,
    ⟨State.reset.wr (Reg.CLV.STAT_STATE 7) 4, 7, ⟨false, 0, 0xFFF, false⟩, by decide +kernel⟩,
    ⟨(State.reset.wr (Reg.CLV.STAT_STATE 7) 4).setCulv 7 { Culv.reset with goodRx := 4096, reqs := [] }, 7, by decide +kernel⟩⟩

theorem witness_CulvertsTrain_3 :
    (∃ (s : State) (c : Fin 8), (s.culv c.val).goodRx ≠ 4096) ∧
    (∃ (s : State) (c : Fin 8), s.culvState c.val = 6 ∧ (s.culv c.val).reqs = [] ∧ (s.culv c.val).replay = [] ∧ (s.culv c.val).unsent = []) ∧
    (∃ (s : State) (c : Fin 8) (st : Nat) (n : Nat) (r : Nat), s.culvState c.val = st ∧ (st, n, r) ∈ [(1, 64, 1), (2, 32, 2), (3, 64, 9), (4, 8, 10), (6, 64, 11)] ∧ (s.culv c.val).since + n ≤ s.now ∧ r ≠ 11) ∧
    (∃ (s : State) (c : Fin 8) (st : Nat) (n : Nat) (r : Nat), s.culvState c.val = st ∧ (st, n, r) ∈ [(1, 64, 1), (2, 32, 2), (3, 64, 9), (4, 8, 10), (6, 64, 11)] ∧ (s.culv c.val).since + n ≤ s.now ∧ r = 11) ∧
    (∃ (s : State) (c : Fin 8), s.now < (s.culv c.val).since + 8) :=
  ⟨⟨State.reset, 7, by decide +kernel⟩,
    ⟨(State.reset.wr (Reg.CLV.STAT_STATE 7) 6).setCulv 7 { Culv.reset with reqs := [], replay := [], unsent := [] }, 7, by decide +kernel⟩,
    ⟨(live.wr (Reg.CLV.STAT_STATE 7) 1).setCulv 7 { Culv.reset with since := 4936 }, 7, 1, 64, 1, by decide +kernel⟩,
    ⟨(live.wr (Reg.CLV.STAT_STATE 7) 6).setCulv 7 { Culv.reset with since := 4936 }, 7, 6, 64, 11, by decide +kernel⟩,
    ⟨live.setCulv 7 { Culv.reset with since := 4993 }, 7, by decide +kernel⟩⟩

theorem witness_CulvertsAreCommanded_1 :
    (∃ (s : State) (via : Path) (c : Fin 8) (d : Word), s.deaf via = false ∧ s.locked via (0x020 + c.val) = false ∧ s.culvState c.val = 0 ∧ s.flag (Reg.CLV.CTRL_ENABLE c.val) = false ∧ d.getLsbD 8 = true ∧ 3 ≤ s.stepNo) ∧
    (∃ (s : State) (via : Path) (c : Fin 8) (d : Word), s.deaf via = false ∧ s.locked via (0x020 + c.val) = false ∧ d.getLsbD 8 = false ∧ 1 ≤ s.culvState c.val ∧ (s.culvState c.val ≤ 4 ∨ s.culvState c.val = 7)) ∧
    (∃ (s : State) (via : Path) (c : Fin 8) (d : Word), s.deaf via = false ∧ s.locked via (0x020 + c.val) = false ∧ d.getLsbD 8 = false ∧ s.culvState c.val = 5) ∧
    (∃ (s : State) (via : Path) (c : Fin 8) (d : Word), s.deaf via = false ∧ s.locked via (0x020 + c.val) = false ∧ d.getLsbD 8 = false ∧ s.culvState c.val = 6) ∧
    (∃ (s : State) (via : Path) (c : Fin 8) (d : Word), s.deaf via = false ∧ s.locked via (0x020 + c.val) = false ∧ d.getLsbD 8 = true ∧ d.getLsbD 9 = true ∧ 1 ≤ s.culvState c.val ∧ s.culvState c.val ≤ 4) :=
  ⟨⟨((State.reset.wr (Reg.CLV.STAT_STATE 7) 0).wr Reg.GLB.STAT_STEP 3).wr (Reg.CLV.CTRL_ENABLE 7) 0, .mgmt, 7, 0x100, by decide +kernel⟩,
    ⟨State.reset.wr (Reg.CLV.STAT_STATE 7) 1, .mgmt, 7, 0, by decide +kernel⟩,
    ⟨State.reset.wr (Reg.CLV.STAT_STATE 7) 5, .mgmt, 7, 0, by decide +kernel⟩,
    ⟨State.reset.wr (Reg.CLV.STAT_STATE 7) 6, .mgmt, 7, 0, by decide +kernel⟩,
    ⟨State.reset.wr (Reg.CLV.STAT_STATE 7) 1, .mgmt, 7, 0x300, by decide +kernel⟩⟩

theorem witness_CulvertsAreCommanded_2 :
    (∃ (s : State) (via : Path) (c : Fin 8) (d : Word), s.deaf via = false ∧ s.locked via (0x020 + c.val) = false ∧ d.getLsbD 8 = true ∧ d.getLsbD 9 = true ∧ s.culvState c.val = 5) ∧
    (∃ (s : State) (via : Path) (c : Fin 8) (d : Word), s.deaf via = false ∧ s.locked via (0x020 + c.val) = false ∧ d.getLsbD 8 = true ∧ d.getLsbD 9 = true ∧ s.culvState c.val = 7) ∧
    (∃ (s : State) (via : Path) (c : Fin 8) (d : Word), s.deaf via = false ∧ s.locked via (0x020 + c.val) = false ∧ s.culvState c.val = 0 ∧ s.flag (Reg.CLV.CTRL_LOOP c.val) = false ∧ d.getLsbD 8 = false ∧ d.getLsbD 12 = true) ∧
    (∃ (s : State) (c : Fin 8), s.culvState c.val = 8 ∧ (s.culv c.val).since + s.rd (Reg.CLV.LOOP_STROKES c.val) ≤ s.now) ∧
    (∃ (s : State) (c : Fin 8), s.culvState c.val ≠ 8) :=
  ⟨⟨State.reset.wr (Reg.CLV.STAT_STATE 7) 5, .mgmt, 7, 0x300, by decide +kernel⟩,
    ⟨State.reset.wr (Reg.CLV.STAT_STATE 7) 7, .mgmt, 7, 0x300, by decide +kernel⟩,
    ⟨(State.reset.wr (Reg.CLV.STAT_STATE 7) 0).wr (Reg.CLV.CTRL_LOOP 7) 0, .mgmt, 7, 0x1000, by decide +kernel⟩,
    ⟨(live.wr (Reg.CLV.STAT_STATE 7) 8).setCulv 7 { Culv.reset with since := 0 }, 7, by decide +kernel⟩,
    ⟨State.reset, 7, by decide +kernel⟩⟩

theorem witness_ScannedLoopback :
    (∃ (s : State), s.flag Reg.GLB.STRAPS_MODE = false ∧ s.flag Reg.CKM.STAT_PLL_LOCK = true) ∧
    (∃ (s : State), (s.flag Reg.GLB.STRAPS_MODE = true ∨ s.flag Reg.CKM.STAT_PLL_LOCK = false ∨ (∃ c < 8, s.culvState c = 5))) :=
  ⟨⟨State.reset.wr Reg.CKM.STAT_PLL_LOCK 1, by decide +kernel⟩,
    ⟨State.reset.wr Reg.GLB.STRAPS_MODE 1, by decide +kernel⟩⟩

theorem witness_ShellsAreReceived_1 :
    (∃ (s : State) (p : Fin 16) (h : ShellHdr) (body : List Byte), s.running = true ∧ s.linkUp p.val = true ∧ h.fan = false ∧ shellGood h = true ∧ h.reservedSet = false ∧ h.width.toNat + 1 = widthOf (s.laneSt p.val).rxMap ∧ h.seq = (s.link p.val).rxNext ∧ h.ack = (s.link p.val).txAcked ∧ (s.link p.val).ackPending < 31 ∧ bitAt (s.rd (Reg.LNK.STAT_PAUSE p.val)) 2 = false ∧ (parseStream (body.length / 8 + 4) 0 ((s.link p.val).partialBytes ++ body)).bad = false ∧ (((parseStream (body.length / 8 + 4) 0 ((s.link p.val).partialBytes ++ body)).heads.filter ((s.link p.val).partialBytes.length ≤ ·)).map (· - (s.link p.val).partialBytes.length)).length = h.msgCount ∧ (((parseStream (body.length / 8 + 4) 0 ((s.link p.val).partialBytes ++ body)).heads.filter ((s.link p.val).partialBytes.length ≤ ·)).map (· - (s.link p.val).partialBytes.length)).headD 0xFFF = h.first) ∧
    (∃ (s : State) (p : Fin 16) (h : ShellHdr), s.running = true ∧ s.linkUp p.val = true ∧ h.fan = false ∧ shellGood h = true ∧ h.reservedSet = false ∧ h.seq = (s.link p.val).rxNext ∧ h.ack = (s.link p.val).txAcked ∧ (s.link p.val).ackPending = 31 ∧ s.litSlot p.val = .none ∧ bitAt (s.rd (Reg.LNK.STAT_PAUSE p.val)) 2 = false) ∧
    (∃ (s : State) (p : Fin 16) (h : ShellHdr), s.running = true ∧ s.linkUp p.val = true ∧ h.fan = false ∧ h.reservedSet = false ∧ h.width.toNat + 1 = widthOf (s.laneSt p.val).rxMap ∧ (shellGood h = false ∨ h.seq ≠ (s.link p.val).rxNext) ∧ shellGood h = false) ∧
    (∃ (s : State) (p : Fin 16) (h : ShellHdr), s.running = true ∧ s.linkUp p.val = true ∧ h.fan = false ∧ h.reservedSet = false ∧ h.width.toNat + 1 = widthOf (s.laneSt p.val).rxMap ∧ (shellGood h = false ∨ h.seq ≠ (s.link p.val).rxNext)) ∧
    (∃ (s : State) (p : Fin 16), s.linkUp p.val = false) :=
  ⟨⟨(live.wr (Reg.LNK.STAT_STATE 15) 8).setLink 15 { Link.reset with ackPending := 30 }, 15, goodHdr, toBytes 8 ((1 * 2 ^ 22) + 8 * 256 + 3 * 2 ^ 20) ++ [1, 2, 3, 4, 5, 6, 7, 8], by decide +kernel⟩,
    ⟨(live.wr (Reg.LNK.STAT_STATE 15) 6).setLink 15 { Link.reset with ackPending := 31 }, 15, goodHdr, by decide +kernel⟩,
    ⟨(live.wr (Reg.LNK.STAT_STATE 15) 6).setLink 15 { Link.reset with replay := [⟨0xFFFFFF, 18, [], [], false⟩] }, 15, { goodHdr with crcOk := false }, by decide +kernel⟩,
    ⟨live.wr (Reg.LNK.STAT_STATE 15) 6, 15, { goodHdr with seq := 1 }, by decide +kernel⟩,
    ⟨State.reset, 15, by decide +kernel⟩⟩

theorem witness_ShellsAreReceived_2 :
    (∃ (s : State) (p : Fin 16) (h : ShellHdr), s.running = true ∧ s.linkUp p.val = true ∧ h.fan = false ∧ ((h.kind = 0 ∧ shellGood h = true ∧ h.width.toNat + 1 = widthOf (s.laneSt p.val).rxMap) ∨ (h.kind = 2 ∧ blockGood h = true)) ∧ h.reservedSet = false ∧ h.msgCount = 0 ∧ seqBehind h.ack (s.link p.val).txAcked ≤ (s.link p.val).replay.length) ∧
    (∃ (s : State) (p : Fin 16), s.running = true ∧ s.litSlot p.val = .none ∧ 0 < (s.link p.val).ackPending ∧ (s.link p.val).ackFirst + 120 ≤ s.absCycle ∧ (s.link (fanRx p.val)).ackPending = 0) ∧
    (∃ (s : State) (p : Fin 16), (s.link p.val).ackPending = 0 ∧ (s.link (fanRx p.val)).ackPending = 0) ∧
    (∃ (s : State) (p : Fin 16) (h : ShellHdr), s.running = true ∧ s.linkState p.val = 2 ∧ h.crcOk = true ∧ s.rd (Reg.LNK.LINK_CFG p.val) ≤ (h.lanes.filter (·.isSome)).length) ∧
    (∃ (s : State) (p : Fin 16) (h : ShellHdr), s.linkState p.val = 2 ∧ h.crcOk = false) :=
  ⟨⟨(live.wr (Reg.LNK.STAT_STATE 15) 6).setLink 15 { Link.reset with replay := [⟨0, 18, [], [], false⟩] }, 15, { goodHdr with kind := 0, msgCount := 0, ack := 0, crTc := 3, crHdr := 0xFFFF, crData := 0xFFFFFF }, by decide +kernel⟩,
    ⟨(live.setLink 15 { Link.reset with ackPending := 1, ackFirst := 6399880 }).setLink (fanRx 15) { Link.reset with ackPending := 0 }, 15, by decide +kernel⟩,
    ⟨(State.reset.setLink 15 { Link.reset with ackPending := 0 }).setLink (fanRx 15) { Link.reset with ackPending := 0 }, 15, by decide +kernel⟩,
    ⟨live.wr (Reg.LNK.STAT_STATE 15) 2, 15, goodHdr, by decide +kernel⟩,
    ⟨State.reset.wr (Reg.LNK.STAT_STATE 15) 2, 15, { goodHdr with crcOk := false }, by decide +kernel⟩⟩

theorem witness_ShellsAreReceived_3 :
    (∃ (s : State) (p : Fin 16), s.running = true ∧ s.linkState p.val = 5) ∧
    (∃ (s : State) (p : Fin 16) (h : ShellHdr), s.running = true ∧ s.linkState p.val = 6 ∧ h.kind = 3 ∧ blockGood h = true ∧ h.fan = false ∧ h.reservedSet = false ∧ h.msgCount = 0 ∧ (s.link p.val).trainRx < 15 ∧ seqBehind h.ack (s.link p.val).txAcked ≤ (s.link p.val).replay.length) :=
  ⟨⟨(live.wr (Reg.LNK.STAT_STATE 15) 5).setLink 15 { Link.reset with trainRx := 255 }, 15, by decide +kernel⟩,
    ⟨live.wr (Reg.LNK.STAT_STATE 15) 6, 15, { goodHdr with kind := 3, msgCount := 0 }, by decide +kernel⟩⟩

theorem witness_ShellsAreSent_1 :
    (∃ (s : State), (s.running = false ∨ s.safe = true)) ∧
    (∃ (s : State) (p : Fin 16), s.running = true ∧ s.safe = false ∧ s.linkState p.val = 6 ∧ (s.link p.val).pauseLeft = 0 ∧ (s.ownPaused p.val = true ∨ s.synLocked (s.bankOf p.val) = false)) ∧
    (∃ (s : State) (p : Fin 16), s.running = true ∧ s.safe = false ∧ s.linkState p.val = 6 ∧ s.slotOfFibre p.val = .none ∧ (s.link p.val).pauseLeft = 2 ∧ (s.link p.val).words = [] ∧ (s.link p.val).ops = []) ∧
    (∃ (s : State) (p : Fin 16), s.running = true ∧ s.safe = false ∧ s.linkState p.val = 6 ∧ s.slotOfFibre p.val = .none ∧ (s.link p.val).pauseLeft = 0 ∧ s.ownPaused p.val = false ∧ s.synLocked (s.bankOf p.val) = true ∧ (s.link p.val).words ≠ [] ∧ (s.link p.val).ops = []) ∧
    (∃ (s : State) (p : Fin 16) (x : TxShell), s.running = true ∧ s.safe = false ∧ s.linkState p.val = 6 ∧ s.slotOfFibre p.val = .none ∧ (s.link p.val).pauseLeft = 0 ∧ s.ownPaused p.val = false ∧ s.synLocked (s.bankOf p.val) = true ∧ (s.link p.val).words = [] ∧ (s.link p.val).ops = [] ∧ s.newsDue p.val = false ∧ 0 < (s.link p.val).resend ∧ (s.link p.val).resend ≤ (s.link p.val).replay.length ∧ (s.link p.val).replay[(s.link p.val).replay.length - (s.link p.val).resend]? = some x ∧ x.width = (s.swapsEnd p.val).sendWidth p.val) :=
  ⟨⟨State.reset, by decide +kernel⟩,
    ⟨((live.wr (Reg.LNK.STAT_STATE 15) 6).wr (Reg.LNK.STAT_PAUSE 15) 1).setLink 15 { Link.reset with pauseLeft := 0 }, 15, by decide +kernel⟩,
    ⟨(live.wr (Reg.LNK.STAT_STATE 15) 6).setLink 15 { Link.reset with pauseLeft := 2, words := [], ops := [] }, 15, by decide +kernel⟩,
    ⟨((live.wr (Reg.LNK.STAT_STATE 15) 6).wr (Reg.OPT.STAT_SYN 15) 2).setLink 15 { Link.reset with pauseLeft := 0, ops := [], words := List.replicate 22 5 }, 15, by decide +kernel⟩,
    ⟨((live.wr (Reg.LNK.STAT_STATE 15) 6).wr (Reg.OPT.STAT_SYN 15) 2).setLink 15 { Link.reset with pauseLeft := 0, words := [], ops := [], resend := 1, replay := [⟨0xFFFFFF, 16, [], [], false⟩] }, 15, ⟨0xFFFFFF, 16, [], [], false⟩, by decide +kernel⟩⟩

theorem witness_ShellsAreSent_2 :
    (∃ (s : State) (p : Fin 16), s.running = true ∧ s.safe = false ∧ s.linkState p.val = 5 ∧ s.synLocked (s.bankOf p.val) = true) ∧
    (∃ (s : State) (p : Fin 16), s.running = true ∧ s.safe = false ∧ (∃ o ∈ (s.link p.val).ops, o.sent = true ∧ o.tag ≠ noTag ∧ 7 ≤ o.shells)) ∧
    (∃ (s : State) (p : Fin 16), s.running = true ∧ s.safe = false ∧ s.linkState p.val = 6 ∧ s.slotOfFibre p.val = .none ∧ (s.link p.val).pauseLeft = 0 ∧ s.ownPaused p.val = false ∧ s.synLocked (s.bankOf p.val) = true ∧ (s.link p.val).words = [] ∧ (s.link p.val).ops = [] ∧ s.newsDue p.val = false ∧ (s.link p.val).resend = 0 ∧ s.fansFrom p.val = [] ∧ s.hasWork p.val = false) ∧
    (∃ (s : State) (p : Fin 16), s.running = true ∧ s.safe = false ∧ s.linkState p.val = 6 ∧ s.slotOfFibre p.val = .none ∧ (s.link p.val).pauseLeft = 0 ∧ s.ownPaused p.val = false ∧ s.synLocked (s.bankOf p.val) = true ∧ (s.link p.val).words = [] ∧ (s.link p.val).ops = [] ∧ s.newsDue p.val = false ∧ (s.link p.val).resend = 0 ∧ s.fansFrom p.val = [] ∧ s.hasWork p.val = true ∧ ((s.swapsEnd p.val).setLink p.val { s.link p.val with resend := 0 }).sendWidth p.val ≠ 0 ∧ (s.rd (Reg.LNK.RPL_QUOTA p.val) ≤ (s.link p.val).replay.length ∨ s.grantable .rpl 1 = 0)) ∧
    (∃ (s : State) (p : Fin 16), s.running = true ∧ s.safe = false ∧ s.linkState p.val = 6 ∧ s.slotOfFibre p.val = .none ∧ (s.link p.val).pauseLeft = 0 ∧ s.ownPaused p.val = false ∧ s.synLocked (s.bankOf p.val) = true ∧ (s.link p.val).words = [] ∧ (s.link p.val).ops = [] ∧ s.newsDue p.val = false ∧ (s.link p.val).resend = 0 ∧ s.fansFrom p.val = [] ∧ s.hasWork p.val = true ∧ ((s.swapsEnd p.val).setLink p.val { s.link p.val with resend := 0 }).sendWidth p.val ≠ 0 ∧ (s.link p.val).replay.length < s.rd (Reg.LNK.RPL_QUOTA p.val) ∧ s.grantable .rpl 1 = 1 ∧ ((((s.swapsEnd p.val).setLink p.val { s.link p.val with resend := 0 }).fillStream p.val (bodyBytes (((s.swapsEnd p.val).setLink p.val { s.link p.val with resend := 0 }).sendWidth p.val)) 1024).link p.val).stream ≠ []) :=
  ⟨⟨(live.wr (Reg.LNK.STAT_STATE 15) 5).wr (Reg.OPT.STAT_SYN 15) 2, 15, by decide +kernel⟩,
    ⟨live.setLink 15 { Link.reset with ops := [someOp] }, 15, by decide +kernel⟩,
    ⟨((live.wr (Reg.LNK.STAT_STATE 15) 6).wr (Reg.OPT.STAT_SYN 15) 2), 15, by decide +kernel⟩,
    ⟨(((live.wr (Reg.LNK.STAT_STATE 15) 6).wr (Reg.OPT.STAT_SYN 15) 2).wr (Reg.LNK.RPL_QUOTA 15) 256).setLink 15 { Link.reset with stream := [1], replay := List.replicate 256 ⟨0xFFFFFF, 18, [], [], false⟩ }, 15, by decide +kernel⟩,
    ⟨((live.wr (Reg.LNK.STAT_STATE 15) 6).wr (Reg.OPT.STAT_SYN 15) 2).setLink 15 { Link.reset with stream := [1] }, 15, by decide +kernel⟩⟩

theorem witness_ShellsAreSent_3 :
    (∃ (s : State) (p : Fin 16), ∀ o ∈ (s.link p.val).ops, o.sent = true → o.shells < 7) ∧
    (∃ (s : State) (p : Fin 16) (o : CtrlOp), s.running = true ∧ s.safe = false ∧ s.linkState p.val = 6 ∧ s.slotOfFibre p.val = .none ∧ (s.link p.val).pauseLeft = 0 ∧ s.ownPaused p.val = false ∧ s.synLocked (s.bankOf p.val) = true ∧ (s.link p.val).words = [] ∧ (s.link p.val).ops = [o] ∧ o.sent = true ∧ o.tag < 16 ∧ 7 ≤ o.shells) ∧
    (∃ (h : TxHdr), h.crHdr < 2 ^ 16 ∧ h.crData < 2 ^ 24 ∧ h.crTc < 4 ∧ h.msgCount < 2 ^ 9 ∧ h.first < 2 ^ 12 ∧ h.width < 16 ∧ h.kind < 4) ∧
    (∃ (w : Nat) (bs : List Byte), 0 < w ∧ bs.length = 200 * w) :=
  ⟨⟨live.setLink 15 { Link.reset with ops := [{ someOp with shells := 6 }] }, 15, by decide +kernel⟩,
    ⟨((live.wr (Reg.LNK.STAT_STATE 15) 6).wr (Reg.OPT.STAT_SYN 15) 2).setLink 15 { Link.reset with ops := [{ someOp with shells := 7 }] }, 15, { someOp with shells := 7 }, by decide +kernel⟩,
    ⟨⟨3, 15, true, true, 0xFFFFFF, 0xFFFFFF, 3, 0xFFFF, 0xFFFFFF, 511, 4095⟩, by decide +kernel⟩,
    ⟨1, List.replicate 200 0, by decide +kernel⟩⟩

theorem witness_LinksGoDown_1 :
    (∃ (s : State) (p : Fin 16), s.running = true ∧ s.fansFrom p.val = [] ∧ s.replayDue p.val = true) ∧
    (∃ (s : State) (p : Fin 16), s.running = true ∧ s.linkUp p.val = true ∧ (s.link p.val).down = .none ∧ 8 ≤ (s.link p.val).expiries) ∧
    (∃ (s : State) (p : Fin 16), s.fansFrom p.val = [] ∧ s.replayDue p.val = false) ∧
    (∃ (s : State) (p : Fin 16), (s.link p.val).expiries < 8) ∧
    (∃ (s : State) (p : Fin 16), s.running = true ∧ s.linkUp p.val = true ∧ (s.link p.val).down = .none ∧ 16 ≤ (s.link p.val).losRun) :=
  ⟨⟨((live.wr (Reg.LNK.STAT_STATE 15) 6).wr (Reg.LNK.TIMEOUT 15) 4096).setLink 15 { Link.reset with replay := [⟨0xFFFFFF, 18, [], [], false⟩], timer := 6400000 - 4096, expiries := 6 }, 15, by decide +kernel⟩,
    ⟨(live.wr (Reg.LNK.STAT_STATE 15) 6).setLink 15 { Link.reset with expiries := 8, down := .none }, 15, by decide +kernel⟩,
    ⟨State.reset, 15, by decide +kernel⟩,
    ⟨State.reset, 15, by decide +kernel⟩,
    ⟨(live.wr (Reg.LNK.STAT_STATE 15) 6).setLink 15 { Link.reset with down := .none, losRun := 16 }, 15, by decide +kernel⟩⟩

theorem witness_LinksGoDown_2 :
    (∃ (s : State) (p : Fin 16), (s.link p.val).losRun < 16) ∧
    (∃ (s : State) (p : Fin 16), s.running = true ∧ s.linkState p.val = 6 ∧ (s.link p.val).down = .none) ∧
    (∃ (s : State) (p : Fin 16) (op : Byte), s.running = true ∧ s.linkUp p.val = true ∧ (s.link p.val).down = .none ∧ (0x3A ≤ op.toNat ∨ op.toNat ∈ [4, 15, 0x16, 0x17, 0x19, 0x1F, 0x22, 0x27, 0x2B, 0x2F, 0x32, 0x37])) ∧
    (∃ (s : State) (p : Fin 16), s.running = true ∧ s.linkUp p.val = true ∧ (s.link p.val).down = .none ∧ (s.link p.val).frozenAt = .none ∧ (∃ o ∈ (s.link p.val).ops, o.sent = true ∧ o.first + 16 * 1280 ≤ s.absCycle)) ∧
    (∃ (s : State) (via : Path) (p : Fin 16) (d : Word), s.deaf via = false ∧ s.locked via (0x040 + p.val) = false ∧ d.getLsbD 8 = true ∧ s.linkUp p.val = true ∧ (s.link p.val).down = .none) :=
  ⟨⟨State.reset, 15, by decide +kernel⟩,
    ⟨(live.wr (Reg.LNK.STAT_STATE 15) 6).setLink 15 { Link.reset with down := .none }, 15, by decide +kernel⟩,
    ⟨(live.wr (Reg.LNK.STAT_STATE 15) 6).setLink 15 { Link.reset with down := .none }, 15, 0x3A, by decide +kernel⟩,
    ⟨(live.wr (Reg.LNK.STAT_STATE 15) 6).setLink 15 { Link.reset with down := .none, frozenAt := .none, ops := [{ someOp with first := 6379520 }] }, 15, by decide +kernel⟩,
    ⟨(State.reset.wr (Reg.LNK.STAT_STATE 15) 6).setLink 15 { Link.reset with down := .none }, .mgmt, 15, 0xFFFFFFFF, by decide +kernel⟩⟩

theorem witness_LinksGoDown_3 :
    (∃ (s : State) (p : Fin 16), s.running = true ∧ s.linkState p.val = 8 ∧ (s.link p.val).down = .none ∧ (s.link p.val).since + 2048 ≤ s.now) ∧
    (∃ (s : State) (p : Fin 16), s.now < (s.link p.val).since + 2048) ∧
    (∃ (s : State) (p : Fin 16) (f : LinkFault), s.running = true ∧ s.linkUp p.val = true ∧ (s.link p.val).down = some f ∧ 16 ≤ (s.link p.val).losRun ∧ f.at_ = s.now ∧ 2 < f.reason) ∧
    (∃ (s : State) (p : Fin 16) (f : LinkFault), s.running = true ∧ s.linkUp p.val = true ∧ (s.link p.val).down = some f ∧ 16 ≤ (s.link p.val).losRun ∧ (f.at_ ≠ s.now ∨ f.reason ≤ 2)) ∧
    (∃ (s : State) (p : Fin 16) (f : LinkFault), s.running = true ∧ s.linkUp p.val = true ∧ (s.link p.val).down = some f ∧ f.reason < 15 ∧ s.clk.cycle = 0 ∧ f.at_ < s.now ∧ s.slotOfFibre p.val = .none ∧ s.returnsFan p.val = false ∧ s.cox.jobs = [] ∧ s.cox.bw = [] ∧ s.runs.rounds = [] ∧ (s.laneSt p.val).rxWait = []) :=
  ⟨⟨(live.wr (Reg.LNK.STAT_STATE 15) 8).setLink 15 { Link.reset with down := .none, since := 2952 }, 15, by decide +kernel⟩,
    ⟨live.setLink 15 { Link.reset with since := 2953 }, 15, by decide +kernel⟩,
    ⟨(live.wr (Reg.LNK.STAT_STATE 15) 6).setLink 15 { Link.reset with down := some (⟨3, 5000, Stamp.none, 0, 0⟩), losRun := 16 }, 15, ⟨3, 5000, Stamp.none, 0, 0⟩, by decide +kernel⟩,
    ⟨(live.wr (Reg.LNK.STAT_STATE 15) 6).setLink 15 { Link.reset with down := some (⟨3, 4999, Stamp.none, 0, 0⟩), losRun := 16 }, 15, ⟨3, 4999, Stamp.none, 0, 0⟩, by decide +kernel⟩,
    ⟨{ ((live.wr (Reg.LNK.STAT_STATE 15) 6).setLink 15 { Link.reset with down := some (⟨14, 4999, Stamp.none, 0, 0⟩) }).setLaneSt 15 { Lanes.reset with rxWait := [] } with cox := { (live).cox with jobs := [], bw := [] }, clk := { live.clk with cycle := 0 }, runs := { (live).runs with rounds := [] } }, 15, ⟨14, 4999, Stamp.none, 0, 0⟩, by decide +kernel⟩⟩

theorem witness_LinksGoDown_4 :
    (∃ (s : State) (p : Fin 16), (s.link p.val).frozenAt ≠ .none ∨ ∀ o ∈ (s.link p.val).ops, o.sent = true → s.absCycle < o.first + 16 * 1280) ∧
    (∃ (s : State) (p : Fin 16), (s.link p.val).down = .none ∨ s.clk.cycle ≠ 0) :=
  ⟨⟨live.setLink 15 { Link.reset with ops := [{ someOp with first := 6379521 }] }, 15, by decide +kernel⟩,
    ⟨State.reset, 15, .inl (by decide +kernel)⟩⟩

theorem witness_LanesMoveInBand_1 :
    (∃ (s : State) (p : Fin 16) (tag : BitVec 4) (arg : BitVec 48), s.running = true ∧ s.linkUp p.val = true ∧ bits arg.toNat 4 0 < 16 ∧ (s.laneSt p.val).rxWait = [] ∧ s.freshOp p.val 0x10 tag.toNat = true) ∧
    (∃ (s : State) (p : Fin 16) (tag : BitVec 4) (arg : BitVec 48) (r : Bool), s.running = true ∧ s.linkUp p.val = true ∧ bits arg.toNat 4 0 < 16 ∧ (s.link p.val).answered = [(0x10, tag.toNat, r)]) ∧
    (∃ (s : State) (p : Fin 16) (tag : BitVec 4) (arg : BitVec 48), s.running = true ∧ s.linkUp p.val = true ∧ bits arg.toNat 4 0 < 16 ∧ (s.laneSt p.val).rxWait = [] ∧ s.freshOp p.val 0x11 tag.toNat = true ∧ s.freshOp p.val 0x12 tag.toNat = true ∧ s.rxFree p.val (bits arg.toNat 12 8) = true) ∧
    (∃ (s : State) (p : Fin 16) (tag : BitVec 4) (arg : BitVec 48), s.running = true ∧ s.linkUp p.val = true ∧ bits arg.toNat 4 0 < 16 ∧ s.freshOp p.val 0x11 tag.toNat = true ∧ s.freshOp p.val 0x12 tag.toNat = true ∧ s.rxFree p.val (bits arg.toNat 12 8) = false) ∧
    (∃ (s : State) (p : Fin 16) (arg : BitVec 48), s.running = true ∧ s.linkUp p.val = true ∧ 16 ≤ bits arg.toNat 4 0 ∧ (s.link p.val).down = .none) :=
  ⟨⟨(live.wr (Reg.LNK.STAT_STATE 15) 6).setLaneSt 15 { Lanes.reset with rxWait := [] }, 15, 15, 15, by decide +kernel⟩,
    ⟨(live.wr (Reg.LNK.STAT_STATE 15) 6).setLink 15 { Link.reset with answered := [(0x10, 15, true)] }, 15, 15, 15, true, by decide +kernel⟩,
    ⟨((live.wr (Reg.LNK.STAT_STATE 15) 6).setLaneSt 15 { Lanes.reset with rxWait := [] }).setSeat (seatKey 15 .rx 17) { Seat.reset with state := .hotSpare }, 15, 15, 0x110F, by decide +kernel⟩,
    ⟨live.wr (Reg.LNK.STAT_STATE 15) 6, 15, 15, 0x110F, by decide +kernel⟩,
    ⟨(live.wr (Reg.LNK.STAT_STATE 15) 6).setLink 15 { Link.reset with down := .none }, 15, 16, by decide +kernel⟩⟩

theorem witness_LanesMoveInBand_2 :
    (∃ (s : State) (p : Fin 16) (tag : BitVec 4) (arg : BitVec 48), s.running = true ∧ s.linkUp p.val = true ∧ bits arg.toNat 4 0 < 16 ∧ s.litSlot p.val = .none ∧ (s.laneSt p.val).due = [] ∧ s.freshOp p.val 0x13 tag.toNat = true ∧ s.freshOp p.val 0x15 tag.toNat = true) ∧
    (∃ (s : State) (p : Fin 16), s.linkUp p.val = false) ∧
    (∃ (s : State) (p : Fin 16), s.takesWords p.val = true) ∧
    (∃ (s : State) (p : Fin 16) (arg : BitVec 48) (o : CtrlOp), s.takesWords p.val = true ∧ s.litSlot p.val = .none ∧ (s.link p.val).ops = [o] ∧ o.sent = true ∧ o.op = 0x12 ∧ bits arg.toNat 7 0 = 0x12 ∧ bits arg.toNat 11 8 = o.tag ∧ bitAt arg.toNat 40 = false ∧ o.cause.why = .restore ∧ (s.laneSt p.val).swaps = [⟨bits o.arg.toNat 4 0, bits o.arg.toNat 12 8, .none⟩]) ∧
    (∃ (s : State) (p : Fin 16) (arg : BitVec 48) (o : CtrlOp), s.takesWords p.val = true ∧ s.litSlot p.val = .none ∧ (s.link p.val).ops = [o] ∧ o.sent = true ∧ o.op = 0x12 ∧ bits arg.toNat 7 0 = 0x12 ∧ bits arg.toNat 11 8 = o.tag ∧ bitAt arg.toNat 40 = true ∧ o.cause.why = .peer ∧ (s.laneSt p.val).swaps = [⟨bits o.arg.toNat 4 0, bits o.arg.toNat 12 8, .none⟩]) :=
  ⟨⟨(live.wr (Reg.LNK.STAT_STATE 15) 6).setLaneSt 15 { Lanes.reset with due := [] }, 15, 15, 15, by decide +kernel⟩,
    ⟨State.reset, 15, by decide +kernel⟩,
    ⟨live.wr (Reg.LNK.STAT_STATE 15) 6, 15, by decide +kernel⟩,
    ⟨((live.wr (Reg.LNK.STAT_STATE 15) 6).setLaneSt 15 { Lanes.reset with swaps := [⟨15, 17, .none⟩] }).setLink 15 { Link.reset with ops := [({ someOp with arg := 0x110F, cause := { someCause with why := .restore } })] }, 15, 0xF12, { someOp with arg := 0x110F, cause := { someCause with why := .restore } }, by decide +kernel⟩,
    ⟨((live.wr (Reg.LNK.STAT_STATE 15) 6).setLaneSt 15 { Lanes.reset with swaps := [⟨15, 17, .none⟩] }).setLink 15 { Link.reset with ops := [({ someOp with arg := 0x110F })] }, 15, 0x10000000F12, { someOp with arg := 0x110F }, by decide +kernel⟩⟩

theorem witness_LanesMoveInBand_3 :
    (∃ (s : State) (p : Fin 16), s.takesWords p.val = true ∧ s.litSlot p.val = .none ∧ (s.link p.val).ops = []) ∧
    (∃ (s : State) (p : Fin 16) (arg : BitVec 48) (o : CtrlOp), s.takesWords p.val = true ∧ s.litSlot p.val = .none ∧ (s.link p.val).ops = [o] ∧ o.sent = true ∧ o.op = 0x11 ∧ bits arg.toNat 7 0 = 0x11 ∧ bits arg.toNat 11 8 = o.tag ∧ bitAt arg.toNat 40 = true) :=
  ⟨⟨(live.wr (Reg.LNK.STAT_STATE 15) 6).setLink 15 { Link.reset with ops := [] }, 15, by decide +kernel⟩,
    ⟨(live.wr (Reg.LNK.STAT_STATE 15) 6).setLink 15 { Link.reset with ops := [{ someOp with op := 0x11, arg := 0x110F }] }, 15, 0x10000000F11, { someOp with op := 0x11, arg := 0x110F }, by decide +kernel⟩⟩

theorem witness_LinksTrainAndDrain_1 :
    (∃ (s : State) (p : Fin 16), s.running = true ∧ s.linkUp p.val = true ∧ (s.link p.val).peerPausedAt = .none ∧ (s.link p.val).frozenAt = .none) ∧
    (∃ (s : State) (p : Fin 16) (a : Nat), s.running = true ∧ s.linkUp p.val = true ∧ s.rd (Reg.LNK.STAT_PAUSE p.val) = 4 ∧ (s.link p.val).frozenAt = some a) ∧
    (∃ (s : State) (p : Fin 16) (a : Nat), s.running = true ∧ (s.link p.val).peerPausedAt = some a ∧ a + 64 ≤ s.now) ∧
    (∃ (s : State) (p : Fin 16) (a : Nat), (s.link p.val).peerPausedAt = some a ∧ s.now < a + 64) ∧
    (∃ (s : State) (p : Fin 16) (tag : BitVec 4), s.running = true ∧ s.linkState p.val = 6 ∧ s.freshOp p.val 0x28 tag.toNat = true) :=
  ⟨⟨(live.wr (Reg.LNK.STAT_STATE 15) 6).setLink 15 { Link.reset with peerPausedAt := .none, frozenAt := .none }, 15, by decide +kernel⟩,
    ⟨((live.wr (Reg.LNK.STAT_STATE 15) 6).wr (Reg.LNK.STAT_PAUSE 15) 4).setLink 15 { Link.reset with frozenAt := some 6399000, peerPausedAt := some 4990 }, 15, 6399000, by decide +kernel⟩,
    ⟨live.setLink 15 { Link.reset with peerPausedAt := some 4936 }, 15, 4936, by decide +kernel⟩,
    ⟨live.setLink 15 { Link.reset with peerPausedAt := some 4937 }, 15, 4937, by decide +kernel⟩,
    ⟨live.wr (Reg.LNK.STAT_STATE 15) 6, 15, 15, by decide +kernel⟩⟩

theorem witness_LinksTrainAndDrain_2 :
    (∃ (s : State) (p : Fin 16), s.running = true ∧ s.linkState p.val = 8 ∧ (s.link p.val).drainedTx = false) ∧
    (∃ (s : State) (p : Fin 16), s.running = true ∧ s.linkState p.val = 8 ∧ (s.link p.val).drainedTx = true ∧ (s.laneSt p.val).rxWait = []) ∧
    (∃ (s : State) (p : Fin 16), s.running = true ∧ s.linkState p.val = 8 ∧ (s.link p.val).replay = [] ∧ ((s.link p.val).stream = [] ∨ (s.link p.val).padded = true) ∧ (s.link p.val).drainedTx = false ∧ (s.link p.val).drainedRx = false) ∧
    (∃ (s : State) (p : Fin 16), s.running = true ∧ s.linkState p.val ∈ [2, 3, 4, 5]) ∧
    (∃ (s : State) (p : Fin 16), s.running = true ∧ s.linkState p.val ∈ [0, 1, 7, 8]) :=
  ⟨⟨live.wr (Reg.LNK.STAT_STATE 15) 8, 15, by decide +kernel⟩,
    ⟨(live.wr (Reg.LNK.STAT_STATE 15) 8).setLink 15 { Link.reset with drainedTx := true }, 15, by decide +kernel⟩,
    ⟨(live.wr (Reg.LNK.STAT_STATE 15) 8).setLink 15 { Link.reset with replay := [], stream := [1], padded := true, drainedTx := false, drainedRx := false }, 15, by decide +kernel⟩,
    ⟨live.wr (Reg.LNK.STAT_STATE 15) 2, 15, by decide +kernel⟩,
    ⟨live.wr (Reg.LNK.STAT_STATE 15) 1, 15, by decide +kernel⟩⟩

theorem witness_LinksTrainAndDrain_3 :
    (∃ (s : State) (via : Path) (p : Fin 16) (d : Word), s.deaf via = false ∧ s.locked via (0x040 + p.val) = false ∧ d.getLsbD 8 = false ∧ d.getLsbD 10 = false ∧ d.getLsbD 9 = true ∧ (s.linkState p.val = 0 ∨ s.linkState p.val = 7) ∧ s.slotOfFibre p.val = .none) ∧
    (∃ (s : State) (via : Path) (p : Fin 16) (d : Word), s.deaf via = false ∧ s.locked via (0x040 + p.val) = false ∧ d.getLsbD 8 = false ∧ d.getLsbD 10 = false ∧ d.getLsbD 9 = true ∧ (s.linkState p.val = 0 ∨ s.linkState p.val = 7) ∧ s.slotOfFibre p.val ≠ .none) ∧
    (∃ (s : State) (via : Path) (p : Fin 16) (d : Word), s.deaf via = false ∧ s.locked via (0x040 + p.val) = false ∧ d.getLsbD 8 = false ∧ d.getLsbD 10 = true ∧ s.linkState p.val = 6) ∧
    (∃ (s : State) (via : Path) (p : Fin 16) (d : Word), s.deaf via = false ∧ s.locked via (0x040 + p.val) = false ∧ d.getLsbD 8 = true ∧ s.linkUp p.val = false ∧ s.linkState p.val ≠ 0) ∧
    (∃ (s : State) (p : Fin 16), s.running = true ∧ s.safe = false ∧ s.linkState p.val = 7 ∧ s.rd (Reg.LNK.CTRL_AUTO_RETRAIN p.val) = 1 ∧ s.rd (Reg.LNK.CTRL_DISABLE p.val) = 0 ∧ s.slotOfFibre p.val = .none ∧ (s.link p.val).since + 64 ≤ s.now) :=
  ⟨⟨State.reset.wr (Reg.LNK.STAT_STATE 15) 7, .mgmt, 15, 0x200, by decide +kernel⟩,
    ⟨(State.reset.wr (Reg.FLM.FAN_STAT_STATE 7) 4).wr (Reg.FLM.FAN_CFG_MASK 7) 0x8000, .mgmt, 15, 0x200, by decide +kernel⟩,
    ⟨State.reset.wr (Reg.LNK.STAT_STATE 15) 6, .mgmt, 15, 0x400, by decide +kernel⟩,
    ⟨State.reset.wr (Reg.LNK.STAT_STATE 15) 5, .mgmt, 15, 0x100, by decide +kernel⟩,
    ⟨(((live.wr (Reg.LNK.STAT_STATE 15) 7).wr (Reg.LNK.CTRL_AUTO_RETRAIN 15) 1).wr (Reg.LNK.CTRL_DISABLE 15) 0).setLink 15 { Link.reset with since := 4936 }, 15, by decide +kernel⟩⟩

theorem witness_LinksTrainAndDrain_4 :
    (∃ (s : State) (p : Fin 16), s.running = true ∧ s.safe = false ∧ s.linkState p.val = 7 ∧ s.rd (Reg.LNK.CTRL_AUTO_RETRAIN p.val) = 1 ∧ s.rd (Reg.LNK.CTRL_DISABLE p.val) = 0 ∧ s.slotOfFibre p.val = .none ∧ s.now < (s.link p.val).since + 64) ∧
    (∃ (s : State) (p : Fin 16), s.running = true ∧ s.safe = false ∧ s.linkState p.val = 1 ∧ s.synLocked (s.bankOf p.val) = true ∧ s.awaitsRestore p.val = false ∧ s.awaitsPass p.val = false ∧ s.rd (Reg.LNK.LINK_CFG p.val) ≤ s.seatsReady p.val) ∧
    (∃ (s : State) (p : Fin 16), s.running = true ∧ s.safe = false ∧ s.linkState p.val = 1 ∧ s.synLocked (s.bankOf p.val) = true ∧ s.awaitsRestore p.val = false ∧ s.awaitsPass p.val = false ∧ s.seatsReady p.val < s.rd (Reg.LNK.LINK_CFG p.val)) ∧
    (∃ (s : State) (p : Fin 16) (tag : BitVec 4) (arg : BitVec 48), s.running = true ∧ s.linkState p.val = 3 ∧ bits arg.toNat 1 0 ≠ 3 ∧ 1 ≤ bits arg.toNat 7 3 ∧ bits arg.toNat 7 3 ≤ 16 ∧ s.freshOp p.val 1 tag.toNat = true ∧ (s.link p.val).paramsSent = false) ∧
    (∃ (s : State) (p : Fin 16) (tag : BitVec 4) (arg : BitVec 48), s.running = true ∧ s.linkState p.val = 3 ∧ s.freshOp p.val 2 tag.toNat = true ∧ (s.link p.val).paramsSent = false ∧ bits arg.toNat 47 41 = 0 ∧ ((∀ j < 8, bits arg.toNat (5 * j + 4) (5 * j) < 18))) :=
  ⟨⟨(((live.wr (Reg.LNK.STAT_STATE 15) 7).wr (Reg.LNK.CTRL_AUTO_RETRAIN 15) 1).wr (Reg.LNK.CTRL_DISABLE 15) 0).setLink 15 { Link.reset with since := 4937 }, 15, by decide +kernel⟩,
    ⟨((live.wr (Reg.LNK.STAT_STATE 15) 1).wr (Reg.OPT.STAT_SYN 15) 2).wr (Reg.LNK.LINK_CFG 15) 0, 15, by decide +kernel⟩,
    ⟨(live.wr (Reg.LNK.STAT_STATE 15) 1).wr (Reg.OPT.STAT_SYN 15) 2, 15, by decide +kernel⟩,
    ⟨(live.wr (Reg.LNK.STAT_STATE 15) 3).setLink 15 { Link.reset with paramsSent := false }, 15, 15, 0x123456783F82, by decide +kernel⟩,
    ⟨(live.wr (Reg.LNK.STAT_STATE 15) 3).setLink 15 { Link.reset with paramsSent := false }, 15, 15, 0x1100000000F, by decide +kernel⟩⟩

theorem witness_LinksTrainAndDrain_5 :
    (∃ (s : State) (p : Fin 16) (tag : BitVec 4) (arg : BitVec 48) (c : Fin 4), s.running = true ∧ s.linkState p.val = 3 ∧ s.freshOp p.val 3 tag.toNat = true ∧ (s.link p.val).paramsSent = false ∧ bits arg.toNat 47 42 = 0 ∧ bits arg.toNat 41 40 = c.val ∧ 1 ≤ bits arg.toNat 39 24 ∧ bits arg.toNat 39 24 ≤ 256 ∧ 1 ≤ bits arg.toNat 23 0 ∧ bits arg.toNat 23 0 ≤ 256) ∧
    (∃ (s : State) (p : Fin 16) (arg : BitVec 48), s.running = true ∧ s.linkState p.val = 3 ∧ bits arg.toNat 1 0 = 3) ∧
    (∃ (s : State) (p : Fin 16) (arg : BitVec 48), s.running = true ∧ s.linkState p.val = 3 ∧ bits arg.toNat 4 0 = 18) ∧
    (∃ (s : State) (p : Fin 16) (tag : BitVec 4) (arg : BitVec 48), s.running = true ∧ s.linkState p.val = 3 ∧ bits arg.toNat 1 0 ≠ 3 ∧ 1 ≤ bits arg.toNat 7 3 ∧ bits arg.toNat 7 3 ≤ 16 ∧ s.freshOp p.val 1 tag.toNat = true ∧ (s.link p.val).paramsSent = true ∧ (s.link p.val).ops = [] ∧ (s.link p.val).peerParams = 126 ∧ mapClashes (s.link p.val).peerMap = false ∧ s.rd (Reg.OPT.STAT_RATE (s.bankOf p.val)) ≠ max ((s.link p.val).ownRate) (bits arg.toNat 1 0) ∧ (s.link p.val).ownRate < 3 ∧ s.rd (Reg.OPT.STAT_SYN (s.bankOf p.val)) ≠ 3) ∧
    (∃ (s : State) (p : Fin 16), s.running = true ∧ s.linkState p.val = 5 ∧ 256 ≤ (s.link p.val).trainRx ∧ 256 ≤ (s.link p.val).trainTx) :=
  ⟨⟨(live.wr (Reg.LNK.STAT_STATE 15) 3).setLink 15 { Link.reset with paramsSent := false }, 15, 15, 0x030100000100, 3, by decide +kernel⟩,
    ⟨live.wr (Reg.LNK.STAT_STATE 15) 3, 15, 3, by decide +kernel⟩,
    ⟨live.wr (Reg.LNK.STAT_STATE 15) 3, 15, 18, by decide +kernel⟩,
    ⟨(((live.wr (Reg.LNK.STAT_STATE 15) 3).wr (Reg.OPT.STAT_RATE 15) 1).wr (Reg.LNK.CTRL_MAX_RATE 15) 0).setLink 15 { Link.reset with paramsSent := true, ops := [], peerParams := 126 }, 15, 15, 0x123456783F82, by decide +kernel⟩,
    ⟨(live.wr (Reg.LNK.STAT_STATE 15) 5).setLink 15 { Link.reset with trainRx := 256, trainTx := 256 }, 15, by decide +kernel⟩⟩

theorem witness_LinksTrainAndDrain_6 :
    (∃ (s : State) (p : Fin 16), ((s.link p.val).trainRx < 256 ∨ (s.link p.val).trainTx < 256)) ∧
    (∃ (s : State) (p : Fin 16) (st : Nat) (n : Nat) (r : Nat), s.running = true ∧ s.linkState p.val = st ∧ (st, n, r) ∈ [(1, 4096, 9), (2, 256, 10), (3, 64, 11), (5, 16, 13)] ∧ (s.link p.val).since + n ≤ s.now) ∧
    (∃ (s : State) (p : Fin 16), s.now < (s.link p.val).since + 16) ∧
    (∃ (s : State) (p : Fin 16), (s.link p.val).replay ≠ [] ∨ ((s.link p.val).stream ≠ [] ∧ (s.link p.val).padded = false)) :=
  ⟨⟨State.reset.setLink 15 { Link.reset with trainRx := 255, trainTx := 256 }, 15, by decide +kernel⟩,
    ⟨(live.wr (Reg.LNK.STAT_STATE 15) 1).setLink 15 { Link.reset with since := 904 }, 15, 1, 4096, 9, by decide +kernel⟩,
    ⟨live.setLink 15 { Link.reset with since := 4985 }, 15, by decide +kernel⟩,
    ⟨State.reset.setLink 15 { Link.reset with stream := [1] }, 15, by decide +kernel⟩⟩

theorem witness_FansEnterAndLeave_1 :
    (∃ (s : State) (p : Fin 16) (tag : BitVec 4) (arg : BitVec 48), s.running = true ∧ s.linkUp p.val = true ∧ s.freshOp p.val 0x30 tag.toNat = true ∧ s.rd (Reg.LNK.STAT_RATE p.val) = bits arg.toNat 11 10 ∧ s.flag (Reg.LNK.STAT_FEC p.val) = true ∧ s.returnsFan p.val = false ∧ (s.allocate .rxs (s.rxPages p.val)).1 = true) ∧
    (∃ (s : State) (p : Fin 16) (tag : BitVec 4) (arg : BitVec 48), s.running = true ∧ s.linkUp p.val = true ∧ s.freshOp p.val 0x30 tag.toNat = true ∧ (s.rd (Reg.LNK.STAT_RATE p.val) ≠ bits arg.toNat 11 10 ∨ s.flag (Reg.LNK.STAT_FEC p.val) = false ∨ s.returnsFan p.val = true)) ∧
    (∃ (s : State) (p : Fin 16) (tag : BitVec 4), s.running = true ∧ s.linkUp p.val = true ∧ s.freshOp p.val 0x31 tag.toNat = true ∧ s.returnsFan p.val = true) ∧
    (∃ (s : State) (p : Fin 16) (arg : BitVec 48), s.namesPort p.val (bits arg.toNat 3 0) = false) ∧
    (∃ (s : State) (p : Fin 16) (arg : BitVec 48), s.running = true ∧ s.linkUp p.val = true ∧ s.namesPort p.val (bits arg.toNat 3 0) = true ∧ seqBehind (BitVec.ofNat 24 (bits arg.toNat 27 4)) (s.link p.val).txAcked ≤ (s.link p.val).replay.length) :=
  ⟨⟨((live.wr (Reg.LNK.STAT_STATE 15) 6).wr (Reg.LNK.STAT_FEC 15) 1).wr (Reg.LNK.STAT_RATE 15) 0, 15, 15, 0x800000FF, by decide +kernel⟩,
    ⟨(live.wr (Reg.LNK.STAT_STATE 15) 6).wr (Reg.LNK.STAT_RATE 15) 2, 15, 15, 0xC00, by decide +kernel⟩,
    ⟨(live.wr (Reg.LNK.STAT_STATE 15) 6).wr (Reg.LNK.STAT_FAN_ROLE 15) 3, 15, 15, by decide +kernel⟩,
    ⟨State.reset, 15, 15, by decide +kernel⟩,
    ⟨(((live.wr (Reg.LNK.STAT_STATE 15) 6).wr (Reg.LNK.STAT_FAN_ROLE 15) 3).wr (Reg.LNK.PEER_INFO_PORT 15) 15).setLink 15 { Link.reset with replay := [⟨15, 18, [], [], false⟩] }, 15, 15, by decide +kernel⟩⟩

theorem witness_FansEnterAndLeave_2 :
    (∃ (s : State) (k : Fin 8) (p : Fin 16), s.running = true ∧ (s.fanMembers k.val).contains p.val = true ∧ s.fanState k.val ≠ 0 ∧ s.linkUp p.val = true ∧ (s.link p.val).down = .none ∧ 8 ≤ Tab.read 0 (s.fan k.val).expiries p.val) ∧
    (∃ (s : State) (k : Fin 8) (p : Fin 16), s.running = true ∧ (s.fanMembers k.val).contains p.val = true ∧ s.fanState k.val ≠ 0 ∧ s.linkUp p.val = true ∧ (s.link p.val).down = .none ∧ Tab.read 0 (s.fan k.val).expiries p.val < 8) ∧
    (∃ (s : State) (via : Path) (k : Fin 8), s.deaf via = false ∧ s.locked via 0x008 = false ∧ s.fanState k.val = 0) ∧
    (∃ (s : State) (via : Path) (k : Fin 8), s.deaf via = false ∧ s.locked via 0x008 = false ∧ s.fanState k.val ≠ 0 ∧ s.fanState k.val = 4) ∧
    (∃ (s : State) (via : Path) (k : Fin 8), s.deaf via = false ∧ s.locked via 0x008 = false ∧ s.fanState k.val ≠ 0 ∧ s.fanState k.val ∈ [1, 2, 3]) :=
  ⟨⟨(((live.wr (Reg.FLM.FAN_STAT_MEMBERS 7) 0x8000).wr (Reg.FLM.FAN_STAT_STATE 7) 5).wr (Reg.LNK.STAT_STATE 15) 6).setFan 7 { FanSlot.reset with expiries := [(15, 8)] }, 7, 15, by decide +kernel⟩,
    ⟨(((live.wr (Reg.FLM.FAN_STAT_MEMBERS 7) 0x8000).wr (Reg.FLM.FAN_STAT_STATE 7) 5).wr (Reg.LNK.STAT_STATE 15) 6).setFan 7 { FanSlot.reset with expiries := [(15, 7)] }, 7, 15, by decide +kernel⟩,
    ⟨State.reset.wr (Reg.FLM.FAN_STAT_STATE 7) 0, .mgmt, 7, by decide +kernel⟩,
    ⟨State.reset.wr (Reg.FLM.FAN_STAT_STATE 7) 4, .mgmt, 7, by decide +kernel⟩,
    ⟨State.reset.wr (Reg.FLM.FAN_STAT_STATE 7) 3, .mgmt, 7, by decide +kernel⟩⟩

theorem witness_FansEnterAndLeave_3 :
    (∃ (s : State) (via : Path) (k : Fin 8), s.deaf via = false ∧ s.locked via 0x008 = false ∧ s.fanState k.val ≠ 0 ∧ s.fanState k.val ∈ [5, 6]) ∧
    (∃ (s : State) (k : Fin 8), s.running = true ∧ (∀ j < 8, j ≠ k.val → (s.fan j).request = false) ∧ (s.fan k.val).request = true ∧ s.clk.cycle = 0 ∧ (s.fan k.val).since < s.now ∧ s.fanState k.val = 0) ∧
    (∃ (s : State) (k : Fin 8), s.running = true ∧ ((∀ j < 8, j ≠ k.val → (s.fan j).request = false)) ∧ (s.fan k.val).request = true ∧ s.clk.cycle = 0 ∧ (s.fan k.val).since < s.now ∧ s.fanState k.val = 0 ∧ s.badFanCfg k.val = true) ∧
    (∃ (s : State) (k : Fin 8), s.running = true ∧ ((∀ j < 8, j ≠ k.val → (s.fan j).request = false)) ∧ (s.fan k.val).request = true ∧ s.clk.cycle = 0 ∧ (s.fan k.val).since < s.now ∧ s.fanState k.val = 0 ∧ s.badFanCfg k.val = false ∧ s.flag Reg.FLM.STAT_FAN_AVAIL = false) ∧
    (∃ (s : State) (k : Fin 8), s.running = true ∧ ((∀ j < 8, j ≠ k.val → (s.fan j).request = false)) ∧ (s.fan k.val).request = true ∧ s.clk.cycle = 0 ∧ (s.fan k.val).since < s.now ∧ s.fanState k.val = 0 ∧ s.badFanCfg k.val = false ∧ s.flag Reg.FLM.STAT_FAN_AVAIL = true ∧ ((setBits 16 (s.rd (Reg.FLM.FAN_CFG_MASK k.val))).any fun p => (s.slotOfFibre p).isSome) = true) :=
  ⟨⟨State.reset.wr (Reg.FLM.FAN_STAT_STATE 7) 6, .mgmt, 7, by decide +kernel⟩,
    ⟨(((((((((((((live.wr (Reg.FLM.FAN_CFG_MASK 7) 0xC000).wr (Reg.FLM.FAN_CFG_SOURCE 7) 15).wr (Reg.FLM.FAN_CFG_DEGREE 7) 1).wr (Reg.FLM.FAN_CFG_ID 7) 255).wr (Reg.FLM.FAN_CFG_RATE 7) 2).wr (Reg.FLM.FAN_STAT_STATE 7) 0).wr Reg.FLM.STAT_FAN_AVAIL 1).wr (Reg.LNK.STAT_STATE 15) 6).wr (Reg.LNK.STAT_STATE 14) 6).wr (Reg.LNK.STAT_RATE 15) 2).wr (Reg.LNK.STAT_RATE 14) 2).wr (Reg.LNK.STAT_FEC 15) 1).wr (Reg.LNK.STAT_FEC 14) 1).setFan 7 { FanSlot.reset with request := true, since := 4999 }, 7, by decide +kernel⟩,
    ⟨live.setFan 7 { FanSlot.reset with request := true, since := 4999 }, 7, by decide +kernel⟩,
    ⟨((((((live.wr (Reg.FLM.FAN_CFG_MASK 7) 0xC000).wr (Reg.FLM.FAN_CFG_SOURCE 7) 15).wr (Reg.FLM.FAN_CFG_DEGREE 7) 1).wr (Reg.FLM.FAN_CFG_ID 7) 255).wr (Reg.FLM.FAN_CFG_RATE 7) 2).wr (Reg.FLM.FAN_STAT_STATE 7) 0).setFan 7 { FanSlot.reset with request := true, since := 4999 }, 7, by decide +kernel⟩,
    ⟨(((((((((live.wr (Reg.FLM.FAN_CFG_MASK 7) 0xC000).wr (Reg.FLM.FAN_CFG_SOURCE 7) 15).wr (Reg.FLM.FAN_CFG_DEGREE 7) 1).wr (Reg.FLM.FAN_CFG_ID 7) 255).wr (Reg.FLM.FAN_CFG_RATE 7) 2).wr (Reg.FLM.FAN_STAT_STATE 7) 0).wr Reg.FLM.STAT_FAN_AVAIL 1).wr (Reg.FLM.FAN_STAT_STATE 0) 4).wr (Reg.FLM.FAN_CFG_MASK 0) 0x4001).setFan 7 { FanSlot.reset with request := true, since := 4999 }, 7, by decide +kernel⟩⟩

theorem witness_FansEnterAndLeave_4 :
    (∃ (s : State) (k : Fin 8), s.running = true ∧ ((∀ j < 8, j ≠ k.val → (s.fan j).request = false)) ∧ (s.fan k.val).request = true ∧ s.clk.cycle = 0 ∧ (s.fan k.val).since < s.now ∧ s.fanState k.val = 0 ∧ s.badFanCfg k.val = false ∧ s.flag Reg.FLM.STAT_FAN_AVAIL = true ∧ ((setBits 16 (s.rd (Reg.FLM.FAN_CFG_MASK k.val))).any fun p => (s.slotOfFibre p).isSome) = false ∧ (setBits 16 (s.rd (Reg.FLM.FAN_CFG_MASK k.val))).all (fun p => !s.badMember k.val p) = false) ∧
    (∃ (s : State) (k : Fin 8), s.running = true ∧ s.fanState k.val = 1 ∧ (s.fan k.val).refused = [] ∧ 960 ≤ s.clk.cycle ∧ (∀ m ∈ s.fanMembers k.val, s.linkUp m = true ∧ (s.link m).replay = [] ∧ (s.link m).stream = [])) ∧
    (∃ (s : State) (k : Fin 8), s.running = true ∧ s.fanState k.val = 1 ∧ s.cox.jobs = [] ∧ s.cox.bw = [] ∧ ((∀ p < 16, s.rd (Reg.LNK.CTRL_RETRAIN p) = 0)) ∧ (s.fan k.val).since + 64 ≤ s.now) ∧
    (∃ (s : State) (k : Fin 8), s.running = true ∧ s.fanState k.val = 1 ∧ s.cox.jobs = [] ∧ s.cox.bw = [] ∧ ((∀ p < 16, s.rd (Reg.LNK.CTRL_RETRAIN p) = 0)) ∧ s.now < (s.fan k.val).since + 64) ∧
    (∃ (s : State) (k : Fin 8), s.running = true ∧ s.fanState k.val = 5 ∧ s.fanMembers k.val ≠ [] ∧ (s.link (fanTx k.val)).replay = [] ∧ (s.link (fanTx k.val)).stream = []) :=
  ⟨⟨(((((((live.wr (Reg.FLM.FAN_CFG_MASK 7) 0xC000).wr (Reg.FLM.FAN_CFG_SOURCE 7) 15).wr (Reg.FLM.FAN_CFG_DEGREE 7) 1).wr (Reg.FLM.FAN_CFG_ID 7) 255).wr (Reg.FLM.FAN_CFG_RATE 7) 2).wr (Reg.FLM.FAN_STAT_STATE 7) 0).wr Reg.FLM.STAT_FAN_AVAIL 1).setFan 7 { FanSlot.reset with request := true, since := 4999 }, 7, by decide +kernel⟩,
    ⟨{ (((((((((((((live.wr (Reg.FLM.FAN_CFG_MASK 7) 0xC000).wr (Reg.FLM.FAN_CFG_SOURCE 7) 15).wr (Reg.FLM.FAN_CFG_DEGREE 7) 1).wr (Reg.FLM.FAN_CFG_ID 7) 255).wr (Reg.FLM.FAN_CFG_RATE 7) 2).wr (Reg.LNK.STAT_STATE 15) 6).wr (Reg.LNK.STAT_STATE 14) 6).wr (Reg.LNK.STAT_RATE 15) 2).wr (Reg.LNK.STAT_RATE 14) 2).wr (Reg.LNK.STAT_FEC 15) 1).wr (Reg.LNK.STAT_FEC 14) 1).wr (Reg.FLM.FAN_STAT_MEMBERS 7) 0xC000).wr (Reg.FLM.FAN_STAT_STATE 7) 1).setFan 7 { FanSlot.reset with refused := [] } with clk := { live.clk with cycle := 960 } }, 7, by decide +kernel⟩,
    ⟨{ ((live.wr (Reg.FLM.FAN_STAT_STATE 7) 1).wr (Reg.FLM.FAN_STAT_MEMBERS 7) 0x8000).setFan 7 { FanSlot.reset with since := 4936 } with cox := { (live).cox with jobs := [], bw := [] } }, 7, by decide +kernel⟩,
    ⟨{ ((live.wr (Reg.FLM.FAN_STAT_STATE 7) 1).wr (Reg.FLM.FAN_STAT_MEMBERS 7) 0x8000).setFan 7 { FanSlot.reset with since := 4937 } with cox := { (live).cox with jobs := [], bw := [] } }, 7, by decide +kernel⟩,
    ⟨((((((live.wr (Reg.FLM.FAN_STAT_STATE 7) 5).wr (Reg.FLM.FAN_CFG_MASK 7) 0xC000).wr (Reg.FLM.FAN_CFG_SOURCE 7) 15).wr (Reg.FLM.FAN_CFG_DEGREE 7) 1).wr (Reg.FLM.FAN_CFG_ID 7) 255).wr (Reg.FLM.FAN_CFG_RATE 7) 2).wr (Reg.FLM.FAN_STAT_MEMBERS 7) 0xC000, 7, by decide +kernel⟩⟩

theorem witness_FansEnterAndLeave_5 :
    (∃ (s : State) (k : Fin 8), s.running = true ∧ s.fanState k.val = 5 ∧ s.fanMembers k.val ≠ [] ∧ (s.link (fanTx k.val)).replay ≠ []) ∧
    (∃ (s : State) (k : Fin 8) (p : Fin 16), s.running = true ∧ s.fanState k.val = 5 ∧ (s.fanMembers k.val).contains p.val = true ∧ s.linkUp p.val = true ∧ (s.link p.val).down = .none ∧ (s.fan k.val).since + 2048 ≤ s.now ∧ Tab.read 0xFFFFFF (s.fan k.val).acks p.val = (s.link (fanTx k.val)).txNext - 1) ∧
    (∃ (s : State) (k : Fin 8) (p : Fin 16), s.running = true ∧ s.fanState k.val = 5 ∧ (s.fanMembers k.val).contains p.val = true ∧ s.linkUp p.val = true ∧ (s.link p.val).down = .none ∧ (s.fan k.val).since + 2048 ≤ s.now ∧ Tab.read 0xFFFFFF (s.fan k.val).acks p.val ≠ (s.link (fanTx k.val)).txNext - 1) ∧
    (∃ (s : State) (k : Fin 8) (p : Fin 16) (f : LinkFault), s.running = true ∧ (s.fanMembers k.val).contains p.val = true ∧ s.fanState k.val ≠ 0 ∧ s.linkUp p.val = true ∧ (s.link p.val).down = some f ∧ f.at_ < s.now ∧ s.clk.cycle = 0) ∧
    (∃ (s : State) (k : Fin 8) (p : Fin 16) (f : LinkFault), s.running = true ∧ (s.fanMembers k.val).contains p.val = true ∧ s.fanState k.val ≠ 0 ∧ s.linkUp p.val = true ∧ (s.link p.val).down = some f ∧ s.clk.cycle ≠ 0) :=
  ⟨⟨(((((((live.wr (Reg.FLM.FAN_STAT_STATE 7) 5).wr (Reg.FLM.FAN_CFG_MASK 7) 0xC000).wr (Reg.FLM.FAN_CFG_SOURCE 7) 15).wr (Reg.FLM.FAN_CFG_DEGREE 7) 1).wr (Reg.FLM.FAN_CFG_ID 7) 255).wr (Reg.FLM.FAN_CFG_RATE 7) 2).wr (Reg.FLM.FAN_STAT_MEMBERS 7) 0xC000).setLink (fanTx 7) { Link.reset with replay := [⟨15, 18, [], [], false⟩] }, 7, by decide +kernel⟩,
    ⟨((((live.wr (Reg.FLM.FAN_STAT_STATE 7) 5).wr (Reg.FLM.FAN_STAT_MEMBERS 7) 0x8000).wr (Reg.LNK.STAT_STATE 15) 6).setLink 15 { Link.reset with down := .none }).setFan 7 { FanSlot.reset with since := 2952 }, 7, 15, by decide +kernel⟩,
    ⟨(((((live.wr (Reg.FLM.FAN_STAT_STATE 7) 5).wr (Reg.FLM.FAN_STAT_MEMBERS 7) 0x8000).wr (Reg.LNK.STAT_STATE 15) 6).setLink 15 { Link.reset with down := .none }).setFan 7 { FanSlot.reset with since := 2952 }).setLink (fanTx 7) { Link.reset with txNext := 1 }, 7, 15, by decide +kernel⟩,
    ⟨{ (((live.wr (Reg.FLM.FAN_STAT_MEMBERS 7) 0x8000).wr (Reg.FLM.FAN_STAT_STATE 7) 5).wr (Reg.LNK.STAT_STATE 15) 6).setLink 15 { Link.reset with down := some ⟨1, 4999, Stamp.none, 0, 0⟩ } with clk := { live.clk with cycle := 0 } }, 7, 15, ⟨1, 4999, Stamp.none, 0, 0⟩, by decide +kernel⟩,
    ⟨{ (((live.wr (Reg.FLM.FAN_STAT_MEMBERS 7) 0x8000).wr (Reg.FLM.FAN_STAT_STATE 7) 5).wr (Reg.LNK.STAT_STATE 15) 6).setLink 15 { Link.reset with down := some ⟨1, 4999, Stamp.none, 0, 0⟩ } with clk := { live.clk with cycle := 1 } }, 7, 15, ⟨1, 4999, Stamp.none, 0, 0⟩, by decide +kernel⟩⟩

theorem witness_FansEnterAndLeave_6 :
    (∃ (s : State), s.clk.cycle ≠ 0) ∧
    (∃ (s : State) (k : Fin 8), (∃ m ∈ s.fanMembers k.val, (s.link m).replay ≠ []) ∨ s.clk.cycle < 960) :=
  ⟨⟨{ live with clk := { live.clk with cycle := 1279 } }, by decide +kernel⟩,
    ⟨{ live with clk := { live.clk with cycle := 959 } }, 7, .inr (by decide +kernel)⟩⟩

theorem witness_TheFlumeChanges_1 :
    (∃ (s : State) (via : Path) (d : Word), s.deaf via = false ∧ s.locked via 0x008 = false ∧ d.getLsbD 8 = true ∧ d.getLsbD 4 = false ∧ s.xbar.dedup.length = 16 ∧ (s.xbar = straight ∨ s.flag Reg.FLM.STAT_CROSS_AVAIL = true) ∧ s.fanMoved s.xbar = false) ∧
    (∃ (s : State) (via : Path) (d : Word), s.deaf via = false ∧ s.locked via 0x008 = false ∧ d.getLsbD 8 = true ∧ d.getLsbD 4 = false ∧ s.xbar.dedup.length ≠ 16) ∧
    (∃ (s : State) (via : Path) (d : Word), s.deaf via = false ∧ s.locked via 0x008 = false ∧ d.getLsbD 8 = true ∧ d.getLsbD 4 = false ∧ s.xbar.dedup.length = 16 ∧ s.xbar ≠ straight ∧ s.flag Reg.FLM.STAT_CROSS_AVAIL = false) ∧
    (∃ (s : State) (via : Path) (d : Word), s.deaf via = false ∧ s.locked via 0x008 = false ∧ d.getLsbD 8 = true ∧ d.getLsbD 4 = false ∧ s.xbar.dedup.length = 16 ∧ (s.xbar = straight ∨ s.flag Reg.FLM.STAT_CROSS_AVAIL = true) ∧ s.fanMoved s.xbar = true) ∧
    (∃ (s : State) (c : Change) (rest : List Change) (a : Nat), s.running = true ∧ s.safe = false ∧ s.flm.changes = c :: rest ∧ c.start = some a ∧ a ≤ s.now ∧ s.clk.cycle = 0 ∧ s.changing = false) :=
  ⟨⟨State.reset, .mgmt, 0x100, by decide +kernel⟩,
    ⟨State.reset.wr (Reg.FLM.XBAR 0) 0, .mgmt, 0x100, by decide +kernel⟩,
    ⟨State.reset.wr (Reg.FLM.XBAR 0) 0x76543201, .mgmt, 0x100, by decide +kernel⟩,
    ⟨(((State.reset.wr (Reg.FLM.XBAR 0) 0x76543201).wr Reg.FLM.STAT_CROSS_AVAIL 1).wr (Reg.FLM.FAN_STAT_STATE 0) 4).wr (Reg.FLM.FAN_CFG_MASK 0) 1, .mgmt, 0x100, by decide +kernel⟩,
    ⟨{ live.wr Reg.FLM.STAT_STATE 2 with flm := { (live).flm with changes := (⟨.base, straight.reverse, some 5000, straight, [0, 15], false, 0⟩) :: [] } }, ⟨.base, straight.reverse, some 5000, straight, [0, 15], false, 0⟩, [], 5000, by decide +kernel⟩⟩

theorem witness_TheFlumeChanges_2 :
    (∃ (s : State) (c : Change) (rest : List Change) (a : Nat), s.running = true ∧ s.safe = false ∧ s.flm.changes = c :: rest ∧ c.start = some a ∧ c.kind = .base ∧ s.changing = true ∧ s.clk.cycle = 0 ∧ s.now < a + 32) ∧
    (∃ (s : State) (c : Change) (rest : List Change) (a : Nat), s.running = true ∧ s.safe = false ∧ s.flm.changes = c :: rest ∧ c.start = some a ∧ c.kind = .base ∧ s.changing = true ∧ s.clk.cycle = 0 ∧ a + 32 ≤ s.now ∧ c.rollback = false) ∧
    (∃ (s : State) (c : Change) (rest : List Change) (a : Nat) (ok : Bool), s.running = true ∧ s.safe = false ∧ s.flm.changes = c :: rest ∧ c.start = some a ∧ c.kind = .base ∧ s.changing = true ∧ s.clk.cycle = 0 ∧ a + 32 ≤ s.now ∧ c.rollback = true ∧ ok = false) ∧
    (∃ (s : State) (c : Change) (rest : List Change) (a : Nat) (ok : Bool), s.running = true ∧ s.safe = false ∧ s.flm.changes = c :: rest ∧ c.start = some a ∧ c.kind = .base ∧ s.changing = true ∧ s.clk.cycle = 0 ∧ a + 32 ≤ s.now ∧ c.rollback = true ∧ ok = true) ∧
    (∃ (s : State) (z : Nat), s.running = true ∧ s.safe = false ∧ z < 120 ∧ s.mziHeld z = false ∧ s.ditherPaused z = false ∧ s.mziClean z = true) :=
  ⟨⟨{ live.wr Reg.FLM.STAT_STATE 3 with flm := { (live).flm with changes := (⟨.base, straight.reverse, some 4969, straight, [0, 15], false, 0⟩) :: [] } }, ⟨.base, straight.reverse, some 4969, straight, [0, 15], false, 0⟩, [], 4969, by decide +kernel⟩,
    ⟨{ live.wr Reg.FLM.STAT_STATE 3 with flm := { (live).flm with changes := (⟨.base, straight.reverse, some 4968, straight, [0, 15], false, 0⟩) :: [] } }, ⟨.base, straight.reverse, some 4968, straight, [0, 15], false, 0⟩, [], 4968, by decide +kernel⟩,
    ⟨{ live.wr Reg.FLM.STAT_STATE 4 with flm := { (live).flm with changes := (⟨.base, straight.reverse, some 4968, straight, [0, 15], true, 0⟩) :: [] } }, ⟨.base, straight.reverse, some 4968, straight, [0, 15], true, 0⟩, [], 4968, false, by decide +kernel⟩,
    ⟨{ live.wr Reg.FLM.STAT_STATE 4 with flm := { (live).flm with changes := (⟨.base, straight.reverse, some 4968, straight, [0, 15], true, 0⟩) :: [] } }, ⟨.base, straight.reverse, some 4968, straight, [0, 15], true, 0⟩, [], 4968, true, by decide +kernel⟩,
    ⟨(live.setChan (flumeChanKey 238) { Chan.reset with clean := true }).setChan (flumeChanKey 239) { Chan.reset with clean := true }, 119, by decide +kernel⟩⟩

theorem witness_TheFlumeChanges_3 :
    (∃ (s : State) (z : Nat), s.running = true ∧ (Tab.read MziLoop.reset s.flm.loops z).run = 4) ∧
    (∃ (s : State) (z : Nat), (Tab.read MziLoop.reset s.flm.loops z).run ≠ 4) ∧
    (∃ (s : State) (ch : Nat), s.running = true ∧ ch < 240 ∧ bitAt (s.rd (Reg.FLM.ISOLATE (ch / 32))) (ch % 32) = false ∧ 64 ≤ (s.chan (flumeChanKey ch)).run) ∧
    (∃ (s : State) (ch : Nat), s.running = true ∧ ch < 240 ∧ bitAt (s.rd (Reg.FLM.ISOLATE (ch / 32))) (ch % 32) = false ∧ (s.chan (flumeChanKey ch)).run < 64) ∧
    (∃ (s : State), s.flm.changes = [] ∨ s.changing = true ∨ s.clk.cycle ≠ 0) :=
  ⟨⟨{ live with flm := { (live).flm with loops := [(119, ⟨4, 0⟩)] } }, 119, by decide +kernel⟩,
    ⟨{ State.reset with flm := { State.reset.flm with loops := [(119, ⟨3, 0⟩)] } }, 119, by decide +kernel⟩,
    ⟨live.setChan (flumeChanKey 239) { Chan.reset with run := 64 }, 239, by decide +kernel⟩,
    ⟨live.setChan (flumeChanKey 239) { Chan.reset with run := 63 }, 239, by decide +kernel⟩,
    ⟨State.reset, by decide +kernel⟩⟩

theorem witness_TheFlumeChanges_4 :
    ∃ (s : State) (z : Nat), s.mziHeld z = true ∨ s.ditherPaused z = true ∨ s.mziClean z = false ∨ 120 ≤ z :=
  ⟨State.reset, 120, by decide +kernel⟩

theorem witness_QueueRegisterWrites_1 :
    (∃ (s : State) (via : Path) (k : Fin 64) (d : Word), s.deaf via = false ∧ s.locked via 0x00A = false ∧ 2 ^ s.rd (Reg.COX.IQ_CFG_SIZE_LOG2 k.val) ≤ d.toNat % 2 ^ 16) ∧
    (∃ (s : State) (via : Path) (k : Fin 64) (d : Word), s.deaf via = false ∧ s.locked via 0x00A = false ∧ d.toNat % 2 ^ 16 < 2 ^ s.rd (Reg.COX.IQ_CFG_SIZE_LOG2 k.val)) ∧
    (∃ (s : State) (via : Path) (k : Fin 64) (d : Word), s.deaf via = false ∧ s.locked via 0x00A = false ∧ s.flag (Reg.COX.IQ_CFG_ENABLE k.val) = false ∧ d.getLsbD 0 = true) ∧
    (∃ (s : State) (via : Path) (k : Fin 64) (d : Word), s.deaf via = false ∧ s.locked via 0x00A = false ∧ s.flag (Reg.COX.IQ_CFG_ENABLE k.val) = true ∧ d.getLsbD 0 = false ∧ Tab.read .none s.cox.slots k.val = .none) ∧
    (∃ (s : State) (via : Path) (k : Fin 64) (d : Word) (c : Cmd), s.deaf via = false ∧ s.locked via 0x00A = false ∧ s.flag (Reg.COX.IQ_CFG_ENABLE k.val) = true ∧ d.getLsbD 0 = false ∧ s.cox.cmds = [c] ∧ Tab.read .none s.cox.slots k.val = some c.id) :=
  ⟨⟨State.reset, .mgmt, 63, 0xFFFF, by decide +kernel⟩,
    ⟨State.reset.wr (Reg.COX.IQ_CFG_SIZE_LOG2 63) 6, .mgmt, 63, 63, by decide +kernel⟩,
    ⟨State.reset.wr (Reg.COX.IQ_HEAD 63) 5, .mgmt, 63, 1, by decide +kernel⟩,
    ⟨State.reset.wr (Reg.COX.IQ_CFG_ENABLE 63) 1, .mgmt, 63, 0, by decide +kernel⟩,
    ⟨{ State.reset.wr (Reg.COX.IQ_CFG_ENABLE 63) 1 with cox := { State.reset.cox with cmds := [{ someCmd with phase := .fence }], slots := [(63, some 7)] } }, .mgmt, 63, 0, { someCmd with phase := .fence }, by decide +kernel⟩⟩

theorem witness_QueueRegisterWrites_2 :
    (∃ (s : State) (via : Path) (k : Fin 64) (d : Word), s.deaf via = false ∧ s.locked via 0x00A = false ∧ s.flag (Reg.COX.OQ_CFG_ENABLE k.val) = false ∧ d.getLsbD 0 = true) ∧
    (∃ (s : State) (via : Path) (d : Word), s.deaf via = false ∧ s.locked via 0x00A = false ∧ d.getLsbD 0 = false) ∧
    (∃ (s : State) (via : Path) (d : Word), s.deaf via = false ∧ s.locked via 0x00A = false ∧ s.rd Reg.COX.CC_STAT = 0 ∧ d.getLsbD 31 = true) ∧
    (∃ (s : State) (via : Path) (d : Word), s.deaf via = false ∧ s.locked via 0x00A = false ∧ s.rd Reg.COX.CC_STAT = 0 ∧ d.getLsbD 31 = false) ∧
    (∃ (s : State) (via : Path), s.deaf via = false ∧ s.locked via 0x00A = false ∧ s.rd Reg.COX.CC_STAT = 1) :=
  ⟨⟨State.reset, .mgmt, 63, 1, by decide +kernel⟩,
    ⟨State.reset.wr (Reg.COX.OQ_CFG_ENABLE 63) 1, .mgmt, 0, by decide +kernel⟩,
    ⟨State.reset, .mgmt, 0x80000000, by decide +kernel⟩,
    ⟨State.reset, .mgmt, 3, by decide +kernel⟩,
    ⟨State.reset.wr Reg.COX.CC_STAT 1, .mgmt, by decide +kernel⟩⟩

theorem witness_QueueRegisterWrites_3 :
    (∃ (s : State) (a : Nat) (n : Nat), s.cox.invalidating = some (some (a, n))) ∧
    (∃ (s : State), s.cox.invalidating = some .none) ∧
    (∃ (s : State) (via : Path) (d : Word), s.deaf via = false ∧ s.locked via 0x009 = false ∧ bits d.toNat 28 16 < bits d.toNat 12 0 ∧ bits d.toNat 28 16 ≤ 4096 ∧ bits d.toNat 12 0 ≤ 4096) ∧
    (∃ (s : State) (via : Path) (d : Word), s.deaf via = false ∧ s.locked via 0x009 = false ∧ s.safe = true ∧ bits d.toNat 28 16 = 2048 ∧ bits d.toNat 12 0 = 0 ∧ s.rd (Reg.RSV.POOL_FLOOR 0) + s.rd (Reg.RSV.POOL_FLOOR 1) + s.rd (Reg.RSV.POOL_FLOOR 3) ≤ 4096) :=
  ⟨⟨{ State.reset.wr Reg.COX.CC_STAT 1 with cox := { State.reset.cox with invalidating := some (some (2, 1)), cache := [(2, [2]), (3, [3]), (1, [1])] } }, 2, 1, by decide +kernel⟩,
    ⟨{ State.reset with cox := { State.reset.cox with invalidating := some .none, cache := [(2, [2])] } }, by decide +kernel⟩,
    ⟨State.reset, .mgmt, 0x0FFF1000, by decide +kernel⟩,
    ⟨State.reset.wr Reg.UMP.STAT_STATE 1, .mgmt, 0x08000000, by decide +kernel⟩⟩

theorem witness_BuoyRegisterWrites :
    (∃ (s : State) (via : Path), s.deaf via = false ∧ s.locked via 0x00B = false) ∧
    (∃ (s : State) (via : Path), s.deaf via = false ∧ s.locked via 0x00B = false ∧ (s.path via).held = .none) ∧
    (∃ (s : State) (via : Path) (lo : Word), s.deaf via = false ∧ s.locked via 0x00B = false ∧ (s.path via).held = some (0x00B * 0x1000 + 0x048, lo)) :=
  ⟨⟨State.reset.setPath .mgmt { State.reset.path .mgmt with held := some (0x00B * 0x1000 + 0x100 + 8 * 63, 5) }, .mgmt, by decide +kernel⟩,
    ⟨State.reset, .mgmt, by decide +kernel⟩,
    ⟨((State.reset.wr Reg.BUO.ADD_SEL 63).setBuoyVal 63 1).setPath .mgmt { State.reset.path .mgmt with held := some (0x00B * 0x1000 + 0x048, 0xFFFFFFFF) }, .mgmt, 0xFFFFFFFF, by decide +kernel⟩⟩

theorem witness_CommandsAreTakenIn_1 :
    (∃ (s : State) (t : State) (k : Fin 64) (ws : List DWord), s.gives k ws t) ∧
    (∃ (s : State) (t : State) (k : Fin 64) (ws : List DWord), s.gives k ws t ∧ t.flag (Reg.COX.OQ_CFG_ENABLE (cOq ws)) = false ∧ t.runs.run = .none) ∧
    (∃ (s : State) (t : State) (k : Fin 64) (ws : List DWord) (st : Nat) (d : Nat), s.gives k ws t ∧ t.flag (Reg.COX.OQ_CFG_ENABLE (cOq ws)) = true ∧ t.verdict ws = .fail st d ∧ 0 < st ∧ t.safe = false ∧ t.cox.cmds = []) ∧
    (∃ (s : State) (t : State) (k : Fin 64) (ws : List DWord), s.gives k ws t ∧ t.flag (Reg.COX.OQ_CFG_ENABLE (cOq ws)) = true ∧ t.safe = true ∧ t.cox.cmds = []) ∧
    (∃ (s : State) (t : State) (k : Fin 64) (ws : List DWord) (mask : Nat) (e : List DWord), s.gives k ws t ∧ t.safe = false ∧ t.flag (Reg.COX.OQ_CFG_ENABLE (cOq ws)) = true ∧ t.verdict ws = .take mask e ∧ t.cox.cmds = [] ∧ cWait ws = true) :=
  ⟨⟨(offers (cmdWords 0 0 0 0 0) []), looked ((offers (cmdWords 0 0 0 0 0) [])) (cmdWords 0 0 0 0 0), 63, (cmdWords 0 0 0 0 0), gives_of _ _ _ _ (by decide +kernel)⟩,
    ⟨(offers (cmdWords 0 0 0 0 0) []).wr (Reg.COX.OQ_CFG_ENABLE 0) 0, looked ((offers (cmdWords 0 0 0 0 0) []).wr (Reg.COX.OQ_CFG_ENABLE 0) 0) (cmdWords 0 0 0 0 0), 63, (cmdWords 0 0 0 0 0), gives_of _ _ _ _ (by decide +kernel), by decide +kernel⟩,
    ⟨(offers (cmdWords 0x3D0001 0 0x1000 0x1000 0) []), looked ((offers (cmdWords 0x3D0001 0 0x1000 0x1000 0) [])) (cmdWords 0x3D0001 0 0x1000 0x1000 0), 63, (cmdWords 0x3D0001 0 0x1000 0x1000 0), 0x10, 3, gives_of _ _ _ _ (by decide +kernel), by decide +kernel⟩,
    ⟨(offers (cmdWords 0 0 0 0 0) []).wr Reg.UMP.STAT_STATE 1, looked ((offers (cmdWords 0 0 0 0 0) []).wr Reg.UMP.STAT_STATE 1) (cmdWords 0 0 0 0 0), 63, (cmdWords 0 0 0 0 0), gives_of _ _ _ _ (by decide +kernel), by decide +kernel⟩,
    ⟨(offers (cmdWords 0x800000 0 0 0 0) []), looked ((offers (cmdWords 0x800000 0 0 0 0) [])) (cmdWords 0x800000 0 0 0 0), 63, (cmdWords 0x800000 0 0 0 0), 0, [], gives_of _ _ _ _ (by decide +kernel), by decide +kernel⟩⟩

theorem witness_CommandsAreTakenIn_2 :
    (∃ (s : State) (t : State) (k : Fin 64) (ws : List DWord) (mask : Nat) (e : List DWord), s.gives k ws t ∧ t.safe = false ∧ t.flag (Reg.COX.OQ_CFG_ENABLE (cOq ws)) = true ∧ t.verdict ws = .take mask e ∧ t.cox.cmds = [] ∧ cWait ws = false ∧ cOp ws = 9) ∧
    (∃ (s : State) (t : State) (k : Fin 64) (ws : List DWord) (mask : Nat) (e : List DWord), s.gives k ws t ∧ t.safe = false ∧ t.flag (Reg.COX.OQ_CFG_ENABLE (cOq ws)) = true ∧ t.verdict ws = .take mask e ∧ t.cox.cmds = [] ∧ cWait ws = false ∧ cOp ws = 0 ∧ bitAt (wordAt ws 0) 14 = false) ∧
    (∃ (s : State) (t : State) (k : Fin 64) (ws : List DWord) (mask : Nat) (e : List DWord), s.gives k ws t ∧ t.safe = false ∧ t.flag (Reg.COX.OQ_CFG_ENABLE (cOq ws)) = true ∧ t.verdict ws = .take mask e ∧ t.cox.cmds = [] ∧ cWait ws = false ∧ cOp ws = 0 ∧ bitAt (wordAt ws 0) 14 = true) ∧
    (∃ (s : State) (t : State) (k : Fin 64) (ws : List DWord) (mask : Nat) (e : List DWord), s.gives k ws t ∧ t.safe = false ∧ t.flag (Reg.COX.OQ_CFG_ENABLE (cOq ws)) = true ∧ t.verdict ws = .take mask e ∧ t.cox.cmds = [] ∧ cWait ws = false ∧ cOp ws = 8 ∧ cRemote ws = false) ∧
    (∃ (s : State) (t : State) (k : Fin 64) (ws : List DWord) (mask : Nat) (e : List DWord), s.gives k ws t ∧ t.safe = false ∧ t.flag (Reg.COX.OQ_CFG_ENABLE (cOq ws)) = true ∧ t.verdict ws = .take mask e ∧ t.cox.cmds = [] ∧ cWait ws = false ∧ cOp ws = 0x11 ∧ t.runs.run = .none) :=
  ⟨⟨(offers (cmdWords 9 0 0 0 0) []), looked ((offers (cmdWords 9 0 0 0 0) [])) (cmdWords 9 0 0 0 0), 63, (cmdWords 9 0 0 0 0), 0, [], gives_of _ _ _ _ (by decide +kernel), by decide +kernel⟩,
    ⟨(offers (cmdWords 0 0 0 0 0) []), looked ((offers (cmdWords 0 0 0 0 0) [])) (cmdWords 0 0 0 0 0), 63, (cmdWords 0 0 0 0 0), 0, [], gives_of _ _ _ _ (by decide +kernel), by decide +kernel⟩,
    ⟨(offers (cmdWords 0x4000 0 0 0 0) []), looked ((offers (cmdWords 0x4000 0 0 0 0) [])) (cmdWords 0x4000 0 0 0 0), 63, (cmdWords 0x4000 0 0 0 0), 0, [], gives_of _ _ _ _ (by decide +kernel), by decide +kernel⟩,
    ⟨(offers (cmdWords 8 0 0x13F 5 0) []), looked ((offers (cmdWords 8 0 0x13F 5 0) [])) (cmdWords 8 0 0x13F 5 0), 63, (cmdWords 8 0 0x13F 5 0), 0, [], gives_of _ _ _ _ (by decide +kernel), by decide +kernel⟩,
    ⟨(offers (cmdWords 0x11 0 0 0 0) []), looked ((offers (cmdWords 0x11 0 0 0 0) [])) (cmdWords 0x11 0 0 0 0), 63, (cmdWords 0x11 0 0 0 0), 0, [], gives_of _ _ _ _ (by decide +kernel), by decide +kernel⟩⟩

theorem witness_CommandsAreTakenIn_3 :
    (∃ (s : State) (t : State) (k : Fin 64) (ws : List DWord) (mask : Nat) (n : Nat) (e : List DWord), s.gives k ws t ∧ t.safe = false ∧ t.flag (Reg.COX.OQ_CFG_ENABLE (cOq ws)) = true ∧ t.verdict ws = .take mask e ∧ t.cox.cmds = [] ∧ t.cox.jobs = [] ∧ cWait ws = false ∧ (cOp ws = 1 ∨ cOp ws = 2 ∨ cOp ws = 8 ∧ cRemote ws = true) ∧ t.choose (cPsel ws) (cGroup ws) mask = .send n ∧ cOp ws = 1) ∧
    (∃ (s : State) (t : State) (k : Fin 64) (ws : List DWord) (mask : Nat) (n : Nat) (e : List DWord), s.gives k ws t ∧ t.safe = false ∧ t.flag (Reg.COX.OQ_CFG_ENABLE (cOq ws)) = true ∧ t.verdict ws = .take mask e ∧ t.cox.cmds = [] ∧ t.cox.jobs = [] ∧ cWait ws = false ∧ (cOp ws = 1 ∨ cOp ws = 2 ∨ cOp ws = 8 ∧ cRemote ws = true) ∧ t.choose (cPsel ws) (cGroup ws) mask = .send n ∧ cOp ws = 2) ∧
    (∃ (s : State) (t : State) (k : Fin 64) (ws : List DWord) (mask : Nat) (n : Nat) (e : List DWord), s.gives k ws t ∧ t.safe = false ∧ t.flag (Reg.COX.OQ_CFG_ENABLE (cOq ws)) = true ∧ t.verdict ws = .take mask e ∧ t.cox.cmds = [] ∧ t.cox.jobs = [] ∧ cWait ws = false ∧ (cOp ws = 1 ∨ cOp ws = 2 ∨ cOp ws = 8 ∧ cRemote ws = true) ∧ t.choose (cPsel ws) (cGroup ws) mask = .send n ∧ cOp ws = 8) ∧
    (∃ (s : State) (t : State) (k : Fin 64) (ws : List DWord) (mask : Nat) (n : Nat) (e : List DWord), s.gives k ws t ∧ t.safe = false ∧ t.flag (Reg.COX.OQ_CFG_ENABLE (cOq ws)) = true ∧ t.verdict ws = .take mask e ∧ t.cox.cmds = [] ∧ t.cox.jobs = [] ∧ cWait ws = false ∧ (cOp ws = 1 ∨ cOp ws = 2 ∨ cOp ws = 8 ∧ cRemote ws = true) ∧ t.choose (cPsel ws) (cGroup ws) mask = .hold n ∧ t.cox.bw = [] ∧ cOp ws = 1) ∧
    (∃ (s : State) (t : State) (k : Fin 64) (ws : List DWord) (mask : Nat) (n : Nat) (e : List DWord), s.gives k ws t ∧ t.safe = false ∧ t.flag (Reg.COX.OQ_CFG_ENABLE (cOq ws)) = true ∧ t.verdict ws = .take mask e ∧ t.cox.cmds = [] ∧ t.cox.jobs = [] ∧ cWait ws = false ∧ (cOp ws = 1 ∨ cOp ws = 2 ∨ cOp ws = 8 ∧ cRemote ws = true) ∧ t.choose (cPsel ws) (cGroup ws) mask = .fail n ∧ cOp ws = 1) :=
  ⟨⟨((offers sendWords []).wr (Reg.LNK.STAT_STATE 15) 6), looked (((offers sendWords []).wr (Reg.LNK.STAT_STATE 15) 6)) sendWords, 63, sendWords, 0x8000, 15, [], gives_of _ _ _ _ (by decide +kernel), by decide +kernel⟩,
    ⟨((offers (cmdWords 0x3D0002 0x4000000000 0x1000 0x1000 0) []).wr (Reg.LNK.STAT_STATE 15) 6), looked (((offers (cmdWords 0x3D0002 0x4000000000 0x1000 0x1000 0) []).wr (Reg.LNK.STAT_STATE 15) 6)) (cmdWords 0x3D0002 0x4000000000 0x1000 0x1000 0), 63, (cmdWords 0x3D0002 0x4000000000 0x1000 0x1000 0), 0x8000, 15, [], gives_of _ _ _ _ (by decide +kernel), by decide +kernel⟩,
    ⟨((offers (cmdWords 0x3C0008 0 0x23F 5 0) []).wr (Reg.LNK.STAT_STATE 15) 6), looked (((offers (cmdWords 0x3C0008 0 0x23F 5 0) []).wr (Reg.LNK.STAT_STATE 15) 6)) (cmdWords 0x3C0008 0 0x23F 5 0), 63, (cmdWords 0x3C0008 0 0x23F 5 0), 0x8000, 15, [], gives_of _ _ _ _ (by decide +kernel), by decide +kernel⟩,
    ⟨((offers sendWords []).wr (Reg.LNK.STAT_STATE 15) 5), looked (((offers sendWords []).wr (Reg.LNK.STAT_STATE 15) 5)) sendWords, 63, sendWords, 0x8000, 15, [], gives_of _ _ _ _ (by decide +kernel), by decide +kernel⟩,
    ⟨((offers sendWords []).wr (Reg.LNK.STAT_STATE 15) 0), looked (((offers sendWords []).wr (Reg.LNK.STAT_STATE 15) 0)) sendWords, 63, sendWords, 0x8000, 15, [], gives_of _ _ _ _ (by decide +kernel), by decide +kernel⟩⟩

theorem witness_CommandsAreTakenIn_4 :
    (∃ (s : State) (t : State) (k : Fin 64) (ws : List DWord) (mask : Nat) (e : List DWord), s.gives k ws t ∧ t.safe = false ∧ t.flag (Reg.COX.OQ_CFG_ENABLE (cOq ws)) = true ∧ t.verdict ws = .take mask e ∧ t.cox.cmds = [] ∧ t.cox.jobs = [] ∧ cWait ws = false ∧ (cOp ws = 3 ∨ cOp ws = 4) ∧ e = [] ∧ cOp ws = 3) ∧
    (∃ (s : State) (t : State) (k : Fin 64) (ws : List DWord) (mask : Nat) (e : List DWord), s.gives k ws t ∧ t.safe = false ∧ t.flag (Reg.COX.OQ_CFG_ENABLE (cOq ws)) = true ∧ t.verdict ws = .take mask e ∧ t.cox.cmds = [] ∧ t.cox.jobs = [] ∧ cWait ws = false ∧ (cOp ws = 3 ∨ cOp ws = 4) ∧ e = [] ∧ cOp ws = 4) ∧
    (∃ (s : State) (t : State) (k : Fin 64) (ws : List DWord) (mask : Nat) (e : List DWord), s.gives k ws t ∧ t.safe = false ∧ t.flag (Reg.COX.OQ_CFG_ENABLE (cOq ws)) = true ∧ t.verdict ws = .take mask e ∧ t.cox.cmds = [] ∧ t.cox.jobs = [] ∧ cWait ws = false ∧ cOp ws = 5 ∧ t.runs.rounds = []) ∧
    (∃ (s : State) (t : State) (k : Fin 64) (ws : List DWord) (mask : Nat) (e : List DWord), s.gives k ws t ∧ t.safe = false ∧ t.flag (Reg.COX.OQ_CFG_ENABLE (cOq ws)) = true ∧ t.verdict ws = .take mask e ∧ t.cox.cmds = [] ∧ t.cox.jobs = [] ∧ cWait ws = false ∧ cOp ws = 6 ∧ (t.extent (bits (wordAt ws 5) 11 0)).state = 0 ∧ 0 < cLen ws) ∧
    (∃ (s : State) (t : State) (k : Fin 64) (ws : List DWord) (mask : Nat) (e : List DWord), s.gives k ws t ∧ t.safe = false ∧ t.flag (Reg.COX.OQ_CFG_ENABLE (cOq ws)) = true ∧ t.verdict ws = .take mask e ∧ t.cox.cmds = [] ∧ t.cox.jobs = [] ∧ cWait ws = false ∧ cOp ws = 7 ∧ bitAt (wordAt ws 5) 22 = false ∧ (t.extent (bits (wordAt ws 5) 11 0)).state = 0) :=
  ⟨⟨(offers (cmdWords 3 0x100000000000 0x1000 0 0) []), looked ((offers (cmdWords 3 0x100000000000 0x1000 0 0) [])) (cmdWords 3 0x100000000000 0x1000 0 0), 63, (cmdWords 3 0x100000000000 0x1000 0 0), 0, [], gives_of _ _ _ _ (by decide +kernel), by decide +kernel⟩,
    ⟨(offers (cmdWords 0x10004 0x100000000000 0x1000 0 0) []), looked ((offers (cmdWords 0x10004 0x100000000000 0x1000 0 0) [])) (cmdWords 0x10004 0x100000000000 0x1000 0 0), 63, (cmdWords 0x10004 0x100000000000 0x1000 0 0), 0, [], gives_of _ _ _ _ (by decide +kernel), by decide +kernel⟩,
    ⟨(offers (cmdWords 0x430005 0x4000000000 0x1000 0x2000 0x1FFFF) [(128, [0x01001000, 0, 0, 0, 0, 0, 0, 0])]), looked ((offers (cmdWords 0x430005 0x4000000000 0x1000 0x2000 0x1FFFF) [(128, [0x01001000, 0, 0, 0, 0, 0, 0, 0])])) (cmdWords 0x430005 0x4000000000 0x1000 0x2000 0x1FFFF), 63, (cmdWords 0x430005 0x4000000000 0x1000 0x2000 0x1FFFF), 0, [0x01001000, 0, 0, 0, 0, 0, 0, 0], gives_of _ _ _ _ (by decide +kernel), by decide +kernel⟩,
    ⟨(offers (cmdWords 6 0x4000000000 0x1000 0x1000 0xFFF) []), looked ((offers (cmdWords 6 0x4000000000 0x1000 0x1000 0xFFF) [])) (cmdWords 6 0x4000000000 0x1000 0x1000 0xFFF), 63, (cmdWords 6 0x4000000000 0x1000 0x1000 0xFFF), 0, [], gives_of _ _ _ _ (by decide +kernel), by decide +kernel⟩,
    ⟨(offers (cmdWords 7 0x4000000000 0x1000 0x1000 0xFFF) []), looked ((offers (cmdWords 7 0x4000000000 0x1000 0x1000 0xFFF) [])) (cmdWords 7 0x4000000000 0x1000 0x1000 0xFFF), 63, (cmdWords 7 0x4000000000 0x1000 0x1000 0xFFF), 0, [], gives_of _ _ _ _ (by decide +kernel), by decide +kernel⟩⟩

theorem witness_CommandsAreTakenIn_5 :
    (∃ (s : State) (t : State) (k : Fin 64) (ws : List DWord) (mask : Nat) (e : List DWord), s.gives k ws t ∧ t.safe = false ∧ t.flag (Reg.COX.OQ_CFG_ENABLE (cOq ws)) = true ∧ t.verdict ws = .take mask e ∧ t.cox.cmds = [] ∧ t.cox.jobs = [] ∧ cWait ws = false ∧ cOp ws = 0x10 ∧ t.runs.run = .none) ∧
    (∃ (s : State) (t : State) (k : Fin 64) (ws : List DWord) (mask : Nat) (e : List DWord), s.gives k ws t ∧ t.safe = false ∧ t.flag (Reg.COX.OQ_CFG_ENABLE (cOq ws)) = true ∧ t.verdict ws = .take mask e ∧ t.cox.cmds = [] ∧ t.cox.jobs = [] ∧ cWait ws = false ∧ cOp ws = 0x18 ∧ t.runs.swap = .none) ∧
    (∃ (s : State) (t : State) (k : Fin 64) (ws : List DWord), s.gives k ws t ∧ cOp ws = 1) ∧
    (∃ (s : State) (t : State) (ws : List DWord) (r : Run) (mask : Nat) (e : List DWord), s.held = false ∧ s.anyActive = true ∧ s.cox.cmds.length < 4096 ∧ s.cox.takenAt ≠ some s.time ∧ s.regattaNext = some ws ∧ s.runs.run = some r ∧ s.touch (s.neededLines ws) = (true, .none, t) ∧ t.neededLines ws = s.neededLines ws ∧ t.turn = some 64 ∧ t.safe = false ∧ t.flag (Reg.COX.OQ_CFG_ENABLE (cOq ws)) = true ∧ t.verdict ws = .take mask e ∧ cWait ws = true ∧ cOp ws = 1 ∧ (∀ x ∈ t.cox.cmds, x.id ≠ t.cox.nextId)) ∧
    (∃ (s : State), s.held = true ∨ s.anyActive = false ∨ s.cox.takenAt = some s.time) :=
  ⟨⟨(offers (cmdWords 0x10 0 0x2000 0 0) progLines), looked ((offers (cmdWords 0x10 0 0x2000 0 0) progLines)) (cmdWords 0x10 0 0x2000 0 0), 63, (cmdWords 0x10 0 0x2000 0 0), 0, (progLines.flatMap (·.2)), gives_of _ _ _ _ (by decide +kernel), by decide +kernel⟩,
    ⟨(offers (cmdWords 0x18 0 0x10000 0 0) []), looked ((offers (cmdWords 0x18 0 0x10000 0 0) [])) (cmdWords 0x18 0 0x10000 0 0), 63, (cmdWords 0x18 0 0x10000 0 0), 0, (mapLine 1 2 3), gives_of _ _ _ _ (by decide +kernel), by decide +kernel⟩,
    ⟨(offers sendWords []), looked ((offers sendWords [])) sendWords, 63, sendWords, gives_of _ _ _ _ (by decide +kernel), by decide +kernel⟩,
    ⟨({ (offers sendWords progLines) with runs := { live.runs with run := some someRegatta }, cox := { (offers sendWords progLines).cox with slots := [(63, some 3)] } } : State), (({ (offers sendWords progLines) with runs := { live.runs with run := some someRegatta }, cox := { (offers sendWords progLines).cox with slots := [(63, some 3)] } } : State).touch (({ (offers sendWords progLines) with runs := { live.runs with run := some someRegatta }, cox := { (offers sendWords progLines).cox with slots := [(63, some 3)] } } : State).neededLines (transferWords (progLines.flatMap (·.2)) 0))).2.2, transferWords (progLines.flatMap (·.2)) 0, someRegatta, 0x8000, [], by decide +kernel⟩,
    ⟨{ live with cox := { live.cox with takenAt := some live.time } }, by decide +kernel⟩⟩

theorem witness_WaitsEnd_1 :
    (∃ (s : State) (k : Fin 64) (c : Cmd), s.cox.cmds = [c] ∧ Tab.read .none s.cox.slots k.val = some c.id ∧ c.phase = .fence ∧ (c.met = false ∨ c.phase ≠ .waitBuoy)) ∧
    (∃ (s : State) (k : Fin 64) (c : Cmd), s.cox.cmds = [c] ∧ Tab.read .none s.cox.slots k.val = some c.id ∧ c.phase ≠ .fence ∧ c.phase = .waitBuoy ∧ c.met = true ∧ cOp c.words = 9) ∧
    (∃ (s : State) (k : Fin 64) (c : Cmd), s.cox.cmds = [c] ∧ Tab.read .none s.cox.slots k.val = some c.id ∧ c.phase ≠ .fence ∧ c.phase = .waitBuoy ∧ c.met = true ∧ cOp c.words = 0) ∧
    (∃ (s : State) (k : Fin 64) (a : Cmd) (c : Cmd), s.cox.cmds = [a, c] ∧ a.src = c.src ∧ a.id < c.id ∧ Tab.read .none s.cox.slots k.val = some c.id) ∧
    (∃ (s : State) (c : Cmd) (n : Nat) (d : Nat), s.running = true ∧ s.clk.cycle = 0 ∧ s.cox.cmds = [c] ∧ s.cox.bw = [c.id] ∧ s.cox.jobs = [] ∧ c.phase = .held n d ∧ cOp c.words = 1 ∧ cPsel c.words < 16 ∧ s.streamReady n = true) :=
  ⟨⟨{ State.reset with cox := { State.reset.cox with cmds := [{ someCmd with phase := .fence }], slots := [(63, some 7)] } }, 63, { someCmd with phase := .fence }, by decide +kernel⟩,
    ⟨{ State.reset with cox := { State.reset.cox with cmds := [{ someCmd with phase := .waitBuoy, met := true, words := cmdWords 9 0 0 0 0 }], slots := [(63, some 7)] } }, 63, { someCmd with phase := .waitBuoy, met := true, words := cmdWords 9 0 0 0 0 }, by decide +kernel⟩,
    ⟨{ State.reset with cox := { State.reset.cox with cmds := [{ someCmd with phase := .waitBuoy, met := true }], slots := [(63, some 7)] } }, 63, { someCmd with phase := .waitBuoy, met := true }, by decide +kernel⟩,
    ⟨{ State.reset with cox := { State.reset.cox with cmds := [{ someCmd with id := 6 }, someCmd], slots := [(63, some 7)] } }, 63, { someCmd with id := 6 }, someCmd, by decide +kernel⟩,
    ⟨{ live.wr (Reg.LNK.STAT_STATE 15) 6 with clk := { (live).clk with cycle := 0 }, cox := { (live).cox with cmds := [({ someCmd with phase := .held 15 5000, words := sendWords, port := .none, opened := 0, begun := false })], bw := [({ someCmd with phase := .held 15 5000, words := sendWords, port := .none, opened := 0, begun := false }).id], jobs := [] } }, { someCmd with phase := .held 15 5000, words := sendWords, port := .none, opened := 0, begun := false }, 15, 5000, by decide +kernel⟩⟩

theorem witness_WaitsEnd_2 :
    (∃ (s : State) (c : Cmd) (n : Nat) (d : Nat), s.running = true ∧ s.clk.cycle = 0 ∧ s.cox.cmds = [c] ∧ s.cox.bw = [c.id] ∧ s.cox.jobs = [] ∧ c.phase = .held n d ∧ cOp c.words = 1 ∧ cPsel c.words < 16 ∧ s.streamReady n = false ∧ d ≤ s.now) ∧
    (∃ (s : State) (c : Cmd) (n : Nat) (d : Nat), s.running = true ∧ s.clk.cycle = 0 ∧ s.cox.cmds = [c] ∧ s.cox.bw = [c.id] ∧ s.cox.jobs = [] ∧ c.phase = .held n d ∧ cOp c.words = 1 ∧ cPsel c.words < 16 ∧ s.streamReady n = false ∧ s.now < d) ∧
    (∃ (s : State), s.clk.cycle ≠ 0) ∧
    (∃ (s : State) (j : Job) (c : Cmd) (id : Nat) (a : Nat), s.cox.jobs = [j] ∧ s.cox.cmds = [c] ∧ j.cmd = c.id ∧ j.kind = .stash id ∧ j.waitSince = some a ∧ c.phase = .running ∧ a + s.rd Reg.RSV.WAIT_MAX ≤ s.now) ∧
    (∃ (s : State) (j : Job) (c : Cmd) (id : Nat) (a : Nat), s.cox.jobs = [j] ∧ s.cox.cmds = [c] ∧ j.cmd = c.id ∧ j.kind = .stash id ∧ j.waitSince = some a ∧ c.phase = .running ∧ s.now < a + s.rd Reg.RSV.WAIT_MAX) :=
  ⟨⟨{ live with clk := { (live).clk with cycle := 0 }, cox := { (live).cox with cmds := [({ someCmd with phase := .held 15 5000, words := sendWords, port := .none, opened := 0, begun := false })], bw := [({ someCmd with phase := .held 15 5000, words := sendWords, port := .none, opened := 0, begun := false }).id], jobs := [] } }, { someCmd with phase := .held 15 5000, words := sendWords, port := .none, opened := 0, begun := false }, 15, 5000, by decide +kernel⟩,
    ⟨{ live with clk := { (live).clk with cycle := 0 }, cox := { (live).cox with cmds := [({ someCmd with phase := .held 15 5001, words := sendWords, port := .none, opened := 0, begun := false })], bw := [({ someCmd with phase := .held 15 5001, words := sendWords, port := .none, opened := 0, begun := false }).id], jobs := [] } }, { someCmd with phase := .held 15 5001, words := sendWords, port := .none, opened := 0, begun := false }, 15, 5001, by decide +kernel⟩,
    ⟨{ live with clk := { (live).clk with cycle := 1 } }, by decide +kernel⟩,
    ⟨{ live.wr Reg.RSV.WAIT_MAX 1000 with cox := { (live).cox with jobs := [({ someJob with kind := .stash 4095, waitSince := some 4000 })], cmds := [someCmd] } }, { someJob with kind := .stash 4095, waitSince := some 4000 }, someCmd, 4095, 4000, by decide +kernel⟩,
    ⟨{ live.wr Reg.RSV.WAIT_MAX 1000 with cox := { (live).cox with jobs := [({ someJob with kind := .stash 4095, waitSince := some 4999 })], cmds := [someCmd] } }, { someJob with kind := .stash 4095, waitSince := some 4999 }, someCmd, 4095, 4999, by decide +kernel⟩⟩

theorem witness_WaitsEnd_3 :
    (∃ (s : State) (n : Nat), s.job n = .none) ∧
    (∃ (s : State), s.safe = true) ∧
    (∃ (s : State) (x : Extent) (id : Nat) (k : Nat) (bs : List Byte), s.safe = false ∧ s.flag Reg.RSV.STAT_PAGING = true ∧ s.runs.pressing = true ∧ s.runs.extents = [(id, x)] ∧ x.state = 2 ∧ x.retire = false ∧ x.pages = [(k, bs)] ∧ x.clean = [k] ∧ x.writing = []) :=
  ⟨⟨State.reset, 9, by decide +kernel⟩,
    ⟨State.reset.wr Reg.UMP.STAT_STATE 1, by decide +kernel⟩,
    ⟨{ (live.wr (Reg.RSV.USED 2) 1).wr Reg.RSV.STAT_PAGING 1 with runs := { (live).runs with pressing := true, extents := [(4095, ⟨2, 0, 0, false, false, 0, 0, 0, 0, 64, 64, 0, [(0, [1, 2])], [0], [], 3, false⟩)] } }, ⟨2, 0, 0, false, false, 0, 0, 0, 0, 64, 64, 0, [(0, [1, 2])], [0], [], 3, false⟩, 4095, 0, [1, 2], by decide +kernel⟩⟩

theorem witness_MessagesAreTaken_1 :
    (∃ (s : State) (p : Fin 16), (s.link p.val).rxMsgs = [] ∧ (s.link (fanRx p.val)).rxMsgs = []) ∧
    (∃ (s : State) (t : State) (p : Fin 16) (m : Msg), (s.link p.val).rxMsgs = [m] ∧ s.checkSender m = (.missing, t) ∧ m.tc < 4 ∧ m.kind = 1) ∧
    (∃ (s : State) (t : State) (p : Fin 16) (m : Msg), (s.link p.val).rxMsgs = [m] ∧ s.checkSender m = (.missing, t) ∧ m.tc < 4 ∧ m.kind = 0x11) ∧
    (∃ (s : State) (t : State) (p : Fin 16) (m : Msg) (e : NodeEntry) (ws : List DWord), (s.link p.val).rxMsgs = [m] ∧ m.tc < 4 ∧ m.kind = 3 ∧ s.lookNode m.src.toNat = (.entry e ws, t) ∧ e.state = 1 ∧ e.epoch ≠ m.epoch.toNat) ∧
    (∃ (s : State) (t : State) (p : Fin 16) (m : Msg) (e : NodeEntry), (s.link p.val).rxMsgs = [m] ∧ m.tc < 4 ∧ s.checkSender m = (.ok e, t) ∧ (t.link p.val).rxMsgs = [m] ∧ m.kind = 1 ∧ (t.link p.val).landing = Link.reset.landing ∧ (t.link p.val).rxXfers = [] ∧ e.wr = true ∧ m.poison = false ∧ m.data ≠ [] ∧ m.data.length ≤ 2048 ∧ 4096 * m.tag.toNat + m.data.length ≤ 4096 * e.pages) :=
  ⟨⟨(State.reset.setLink 15 { Link.reset with rxMsgs := [] }).setLink (fanRx 15) { Link.reset with rxMsgs := [] }, 15, by decide +kernel⟩,
    ⟨live.setLink 15 { Link.reset with rxMsgs := [someMsg] }, ((live.setLink 15 { Link.reset with rxMsgs := [someMsg] }).checkSender (someMsg)).2, 15, someMsg, by decide +kernel, pair_of (by decide +kernel), by decide +kernel⟩,
    ⟨live.setLink 15 { Link.reset with rxMsgs := [{ someMsg with kind := 0x11 }] }, ((live.setLink 15 { Link.reset with rxMsgs := [{ someMsg with kind := 0x11 }] }).checkSender ({ someMsg with kind := 0x11 })).2, 15, { someMsg with kind := 0x11 }, by decide +kernel, pair_of (by decide +kernel), by decide +kernel⟩,
    ⟨(heard { someMsg with kind := 3, epoch := 1 } 1 3 []), ((heard { someMsg with kind := 3, epoch := 1 } 1 3 []).lookNode 1).2, 15, { someMsg with kind := 3, epoch := 1 }, nodeEntry ((mapLine 1 1 3).drop 4), (mapLine 1 1 3).drop 4, by decide +kernel, by decide +kernel, by decide +kernel, pair_of (by decide +kernel), by decide +kernel⟩,
    ⟨(heard someMsg 1 3 []), ((heard someMsg 1 3 []).checkSender (someMsg)).2, 15, someMsg, nodeEntry ((mapLine 1 1 3).drop 4), by decide +kernel, by decide +kernel, pair_of (by decide +kernel), by decide +kernel⟩⟩

theorem witness_MessagesAreTaken_2 :
    (∃ (s : State) (t : State) (p : Fin 16) (m : Msg) (e : NodeEntry), (s.link p.val).rxMsgs = [m] ∧ m.tc < 4 ∧ s.checkSender m = (.ok e, t) ∧ (t.link p.val).rxMsgs = [m] ∧ m.kind = 1 ∧ (t.link p.val).landing = Link.reset.landing ∧ (t.link p.val).rxXfers = [] ∧ (t.link p.val).queues.length = 4 ∧ e.wr = false ∧ m.last = true) ∧
    (∃ (s : State) (t : State) (p : Fin 16) (m : Msg) (e : NodeEntry), (s.link p.val).rxMsgs = [m] ∧ m.tc < 4 ∧ s.checkSender m = (.ok e, t) ∧ (t.link p.val).rxMsgs = [m] ∧ m.kind = 2 ∧ (t.link p.val).queues.length = 4 ∧ e.rd = false) ∧
    (∃ (s : State) (t : State) (p : Fin 16) (m : Msg) (e : NodeEntry), (s.link p.val).rxMsgs = [m] ∧ m.tc < 4 ∧ s.checkSender m = (.ok e, t) ∧ (t.link p.val).rxMsgs = [m] ∧ m.kind = 2 ∧ t.cox.jobs = [] ∧ e.rd = true ∧ 0 < ofBytes ((m.data.drop 8).take 8) ∧ ofBytes (m.data.take 8) + ofBytes ((m.data.drop 8).take 8) ≤ 4096 * e.pages) ∧
    (∃ (s : State) (t : State) (p : Fin 16) (m : Msg) (e : NodeEntry) (j : Job), (s.link p.val).rxMsgs = [m] ∧ m.tc < 4 ∧ s.checkSender m = (.ok e, t) ∧ (t.link p.val).rxMsgs = [m] ∧ m.kind = 3 ∧ t.cox.jobs = [j] ∧ j.kind = .fetch ∧ j.port = p.val ∧ j.fetchId = some (m.tag.toNat % 256) ∧ m.data ≠ [] ∧ m.data.length ≤ 2048 ∧ m.poison = false) ∧
    (∃ (s : State) (t : State) (p : Fin 16) (m : Msg) (e : NodeEntry), (s.link p.val).rxMsgs = [m] ∧ m.tc < 4 ∧ s.checkSender m = (.ok e, t) ∧ (t.link p.val).rxMsgs = [m] ∧ m.kind = 3 ∧ t.cox.jobs = []) :=
  ⟨⟨(heard someMsg 1 0 []), ((heard someMsg 1 0 []).checkSender (someMsg)).2, 15, someMsg, nodeEntry ((mapLine 1 1 0).drop 4), by decide +kernel, by decide +kernel, pair_of (by decide +kernel), by decide +kernel⟩,
    ⟨(heard { someMsg with kind := 2, tag := 255 } 1 0 []), ((heard { someMsg with kind := 2, tag := 255 } 1 0 []).checkSender ({ someMsg with kind := 2, tag := 255 })).2, 15, { someMsg with kind := 2, tag := 255 }, nodeEntry ((mapLine 1 1 0).drop 4), by decide +kernel, by decide +kernel, pair_of (by decide +kernel), by decide +kernel⟩,
    ⟨(heard { someMsg with kind := 2, data := toBytes 8 0 ++ toBytes 8 0x10000 } 1 3 []), ((heard { someMsg with kind := 2, data := toBytes 8 0 ++ toBytes 8 0x10000 } 1 3 []).checkSender ({ someMsg with kind := 2, data := toBytes 8 0 ++ toBytes 8 0x10000 })).2, 15, { someMsg with kind := 2, data := toBytes 8 0 ++ toBytes 8 0x10000 }, nodeEntry ((mapLine 1 1 3).drop 4), by decide +kernel, by decide +kernel, pair_of (by decide +kernel), by decide +kernel⟩,
    ⟨{ (heard { someMsg with kind := 3 } 1 3 []) with cox := { (heard { someMsg with kind := 3 } 1 3 []).cox with jobs := [{ someJob with kind := .fetch, fetchId := some 0, cmd := 7 }], cmds := [someCmd] } }, ({ (heard { someMsg with kind := 3 } 1 3 []) with cox := { (heard { someMsg with kind := 3 } 1 3 []).cox with jobs := [{ someJob with kind := .fetch, fetchId := some 0, cmd := 7 }], cmds := [someCmd] } }.checkSender ({ someMsg with kind := 3 })).2, 15, { someMsg with kind := 3 }, nodeEntry ((mapLine 1 1 3).drop 4), { someJob with kind := .fetch, fetchId := some 0, cmd := 7 }, by decide +kernel, by decide +kernel, pair_of (by decide +kernel), by decide +kernel⟩,
    ⟨(heard { someMsg with kind := 3 } 1 3 []), ((heard { someMsg with kind := 3 } 1 3 []).checkSender ({ someMsg with kind := 3 })).2, 15, { someMsg with kind := 3 }, nodeEntry ((mapLine 1 1 3).drop 4), by decide +kernel, by decide +kernel, pair_of (by decide +kernel), by decide +kernel⟩⟩

theorem witness_MessagesAreTaken_3 :
    (∃ (s : State) (t : State) (p : Fin 16) (m : Msg) (e : NodeEntry) (j : Job) (c : Cmd), (s.link p.val).rxMsgs = [m] ∧ m.tc < 4 ∧ s.checkSender m = (.ok e, t) ∧ (t.link p.val).rxMsgs = [m] ∧ m.kind = 4 ∧ t.cox.jobs = [j] ∧ t.cox.cmds = [c] ∧ j.cmd = c.id ∧ j.kind = .send ∧ j.writes = 1 ∧ j.status = .none ∧ c.phase = .running ∧ c.begun = true ∧ c.opened = 1 ∧ c.failed = .none ∧ (m.data.getD 0 0).toNat = 0 ∧ (m.data.getD 1 0).toNat = 0 ∧ (t.link p.val).unanswered = [(0, (m.data.getD 2 0).toNat, j.id)]) ∧
    (∃ (s : State) (t : State) (p : Fin 16) (m : Msg) (e : NodeEntry), (s.link p.val).rxMsgs = [m] ∧ m.tc < 4 ∧ s.checkSender m = (.ok e, t) ∧ (t.link p.val).rxMsgs = [m] ∧ m.kind = 5 ∧ m.tc = 0 ∧ e.wr = true) ∧
    (∃ (s : State) (t : State) (p : Fin 16) (m : Msg) (e : NodeEntry), (s.link p.val).rxMsgs = [m] ∧ m.tc < 4 ∧ s.checkSender m = (.ok e, t) ∧ (t.link p.val).rxMsgs = [m] ∧ m.kind = 5 ∧ m.tc = 0 ∧ e.wr = false) ∧
    (∃ (s : State) (t : State) (p : Fin 16) (m : Msg) (e : NodeEntry), (s.link p.val).rxMsgs = [m] ∧ m.tc < 4 ∧ s.checkSender m = (.ok e, t) ∧ (t.link p.val).rxMsgs = [m] ∧ m.kind = 0x10 ∧ m.poison = false ∧ t.runs.failedRounds = [] ∧ t.runs.rounds = [] ∧ (t.allocate .tly 1).1 = true) ∧
    (∃ (s : State) (t : State) (p : Fin 16) (m : Msg) (e : NodeEntry), (s.link p.val).rxMsgs = [m] ∧ m.tc < 4 ∧ s.checkSender m = (.ok e, t) ∧ (t.link p.val).rxMsgs = [m] ∧ m.kind = 0x10 ∧ m.poison = true) :=
  ⟨⟨{ (heard { someMsg with kind := 4, data := [0, 0, 1, 0, 0, 0, 0, 0] } 1 3 [(0, 1, 9)]) with cox := { (heard { someMsg with kind := 4, data := [0, 0, 1, 0, 0, 0, 0, 0] } 1 3 [(0, 1, 9)]).cox with jobs := [{ someJob with writes := 1 }], cmds := [someCmd] } }, ({ (heard { someMsg with kind := 4, data := [0, 0, 1, 0, 0, 0, 0, 0] } 1 3 [(0, 1, 9)]) with cox := { (heard { someMsg with kind := 4, data := [0, 0, 1, 0, 0, 0, 0, 0] } 1 3 [(0, 1, 9)]).cox with jobs := [{ someJob with writes := 1 }], cmds := [someCmd] } }.checkSender ({ someMsg with kind := 4, data := [0, 0, 1, 0, 0, 0, 0, 0] })).2, 15, { someMsg with kind := 4, data := [0, 0, 1, 0, 0, 0, 0, 0] }, nodeEntry ((mapLine 1 1 3).drop 4), { someJob with writes := 1 }, someCmd, by decide +kernel, by decide +kernel, pair_of (by decide +kernel), by decide +kernel⟩,
    ⟨(heard { someMsg with kind := 5, tc := 0, data := [63, 1, 0, 0, 0, 0, 0, 0, 5, 0, 0, 0, 0, 0, 0, 0] } 1 3 []), ((heard { someMsg with kind := 5, tc := 0, data := [63, 1, 0, 0, 0, 0, 0, 0, 5, 0, 0, 0, 0, 0, 0, 0] } 1 3 []).checkSender ({ someMsg with kind := 5, tc := 0, data := [63, 1, 0, 0, 0, 0, 0, 0, 5, 0, 0, 0, 0, 0, 0, 0] })).2, 15, { someMsg with kind := 5, tc := 0, data := [63, 1, 0, 0, 0, 0, 0, 0, 5, 0, 0, 0, 0, 0, 0, 0] }, nodeEntry ((mapLine 1 1 3).drop 4), by decide +kernel, by decide +kernel, pair_of (by decide +kernel), by decide +kernel⟩,
    ⟨(heard { someMsg with kind := 5, tc := 0, data := [63, 0, 0, 0, 0, 0, 0, 0, 5, 0, 0, 0, 0, 0, 0, 0] } 1 0 []), ((heard { someMsg with kind := 5, tc := 0, data := [63, 0, 0, 0, 0, 0, 0, 0, 5, 0, 0, 0, 0, 0, 0, 0] } 1 0 []).checkSender ({ someMsg with kind := 5, tc := 0, data := [63, 0, 0, 0, 0, 0, 0, 0, 5, 0, 0, 0, 0, 0, 0, 0] })).2, 15, { someMsg with kind := 5, tc := 0, data := [63, 0, 0, 0, 0, 0, 0, 0, 5, 0, 0, 0, 0, 0, 0, 0] }, nodeEntry ((mapLine 1 1 0).drop 4), by decide +kernel, by decide +kernel, pair_of (by decide +kernel), by decide +kernel⟩,
    ⟨((heard { someMsg with kind := 0x10, tc := 3, data := List.replicate 64 0 } 1 3 []).wr (Reg.RSV.POOL_CEIL 3) 4096), (((heard { someMsg with kind := 0x10, tc := 3, data := List.replicate 64 0 } 1 3 []).wr (Reg.RSV.POOL_CEIL 3) 4096).checkSender ({ someMsg with kind := 0x10, tc := 3, data := List.replicate 64 0 })).2, 15, { someMsg with kind := 0x10, tc := 3, data := List.replicate 64 0 }, nodeEntry ((mapLine 1 1 3).drop 4), by decide +kernel, by decide +kernel, pair_of (by decide +kernel), by decide +kernel⟩,
    ⟨(heard { someMsg with kind := 0x10, tc := 3, poison := true, data := List.replicate 64 0 } 1 3 []), ((heard { someMsg with kind := 0x10, tc := 3, poison := true, data := List.replicate 64 0 } 1 3 []).checkSender ({ someMsg with kind := 0x10, tc := 3, poison := true, data := List.replicate 64 0 })).2, 15, { someMsg with kind := 0x10, tc := 3, poison := true, data := List.replicate 64 0 }, nodeEntry ((mapLine 1 1 3).drop 4), by decide +kernel, by decide +kernel, pair_of (by decide +kernel), by decide +kernel⟩⟩

theorem witness_MessagesAreTaken_4 :
    (∃ (s : State) (t : State) (p : Fin 16) (m : Msg) (e : NodeEntry), (s.link p.val).rxMsgs = [m] ∧ m.tc < 4 ∧ s.checkSender m = (.ok e, t) ∧ (t.link p.val).rxMsgs = [m] ∧ m.kind = 0x11 ∧ t.runs.rounds = []) ∧
    (∃ (s : State) (t : State) (p : Fin 16) (m : Msg) (e : NodeEntry) (x : Round), (s.link p.val).rxMsgs = [m] ∧ m.tc < 4 ∧ s.checkSender m = (.ok e, t) ∧ (t.link p.val).rxMsgs = [m] ∧ m.kind = 0x11 ∧ t.runs.rounds = [x] ∧ x.round = m.tag.toNat ∧ x.children = [] ∧ x.cmds = [] ∧ x.br < 63) ∧
    (∃ (s : State) (t : State) (p : Fin 16) (m : Msg) (e : NodeEntry) (j : Job) (c : Cmd), (s.link p.val).rxMsgs = [m] ∧ m.tc < 4 ∧ s.checkSender m = (.ok e, t) ∧ (t.link p.val).rxMsgs = [m] ∧ m.kind = 4 ∧ t.cox.jobs = [j] ∧ t.cox.cmds = [c] ∧ j.cmd = c.id ∧ j.kind = .fetch ∧ j.port = p.val ∧ j.fetchId = some (m.data.getD 3 0).toNat ∧ (m.data.getD 1 0).toNat = 1 ∧ j.writes ≠ 0) :=
  ⟨⟨(heard { someMsg with kind := 0x11, tc := 3, data := List.replicate 16 1 } 1 3 []), ((heard { someMsg with kind := 0x11, tc := 3, data := List.replicate 16 1 } 1 3 []).checkSender ({ someMsg with kind := 0x11, tc := 3, data := List.replicate 16 1 })).2, 15, { someMsg with kind := 0x11, tc := 3, data := List.replicate 16 1 }, nodeEntry ((mapLine 1 1 3).drop 4), by decide +kernel, by decide +kernel, pair_of (by decide +kernel), by decide +kernel⟩,
    ⟨{ (heard { someMsg with kind := 0x11, tc := 3, tag := 0xFFFF, data := List.replicate 16 1 } 1 3 []) with runs := { (heard { someMsg with kind := 0x11, tc := 3, tag := 0xFFFF, data := List.replicate 16 1 } 1 3 []).runs with rounds := [someRound] } }, ({ (heard { someMsg with kind := 0x11, tc := 3, tag := 0xFFFF, data := List.replicate 16 1 } 1 3 []) with runs := { (heard { someMsg with kind := 0x11, tc := 3, tag := 0xFFFF, data := List.replicate 16 1 } 1 3 []).runs with rounds := [someRound] } }.checkSender ({ someMsg with kind := 0x11, tc := 3, tag := 0xFFFF, data := List.replicate 16 1 })).2, 15, { someMsg with kind := 0x11, tc := 3, tag := 0xFFFF, data := List.replicate 16 1 }, nodeEntry ((mapLine 1 1 3).drop 4), someRound, by decide +kernel, by decide +kernel, pair_of (by decide +kernel), by decide +kernel⟩,
    ⟨fetchDone, (fetchDone.checkSender { someMsg with kind := 4, data := [0, 1, 1, 5, 0, 0, 0, 0] }).2, 15, { someMsg with kind := 4, data := [0, 1, 1, 5, 0, 0, 0, 0] }, nodeEntry ((mapLine 1 1 3).drop 4), fetchJob, someCmd, by decide +kernel, by decide +kernel, pair_of (by decide +kernel), by decide +kernel⟩⟩

theorem witness_RunsEnd_1 :
    (∃ (s : State) (n : Nat), s.job n = .none) ∧
    (∃ (s : State) (j : Job) (c : Cmd) (id : Nat) (x : Extent), s.cox.jobs = [j] ∧ s.cox.cmds = [c] ∧ j.cmd = c.id ∧ j.kind = .stash id ∧ j.encoded = true ∧ c.phase = .running ∧ s.runs.extents = [(id, x)] ∧ x.state = 1 ∧ x.persist = false ∧ x.retire = false) ∧
    (∃ (s : State) (j : Job), s.cox.jobs = [j] ∧ j.encoded = false) ∧
    (∃ (s : State) (j : Job) (c : Cmd), s.cox.jobs = [j] ∧ s.cox.cmds = [c] ∧ j.cmd = c.id ∧ j.kind = .unstash ∧ j.lastIn = true ∧ j.full = true ∧ c.phase = .running ∧ readHeader (j.data.take 64) = .none ∧ s.runs.extents = []) ∧
    (∃ (s : State) (j : Job) (c : Cmd) (h : ExtHeader), s.cox.jobs = [j] ∧ s.cox.cmds = [c] ∧ j.cmd = c.id ∧ j.kind = .unstash ∧ j.lastIn = true ∧ j.full = true ∧ j.status = .none ∧ bitAt (c.w 5) 22 = true ∧ readHeader (j.data.take 64) = some h ∧ h.len ≤ cLen c.words ∧ ((j.data.drop 64).take h.clen).length = h.clen ∧ (crc32 ((j.data.drop 64).take h.clen)).toNat = h.crc ∧ (decodeStream h.dtype (h.len / 4096 + 1) h.len ((j.data.drop 64).take h.clen)) ≠ []) :=
  ⟨⟨State.reset, 9, by decide +kernel⟩,
    ⟨{ live with cox := { (live).cox with jobs := [({ someJob with kind := .stash 4095, lastIn := true, pos := 64, len := 64 })], cmds := [someCmd] }, runs := { (live).runs with extents := [(4095, ⟨1, 0, 0, false, false, 0, 0, 0, 0, 64, 64, 0, [(0, List.replicate 64 0)], [], [], 3, false⟩)] } }, { someJob with kind := .stash 4095, lastIn := true, pos := 64, len := 64 }, someCmd, 4095, ⟨1, 0, 0, false, false, 0, 0, 0, 0, 64, 64, 0, [(0, List.replicate 64 0)], [], [], 3, false⟩, by decide +kernel⟩,
    ⟨{ live with cox := { (live).cox with jobs := [({ someJob with lastIn := true, pos := 63 })] } }, { someJob with lastIn := true, pos := 63 }, by decide +kernel⟩,
    ⟨{ live with cox := { (live).cox with jobs := [({ someJob with kind := .unstash, lastIn := true, chunk := 64, got := [(0, List.replicate 64 0)] })], cmds := [someCmd] }, runs := { (live).runs with extents := [] } }, { someJob with kind := .unstash, lastIn := true, chunk := 64, got := [(0, List.replicate 64 0)] }, someCmd, by decide +kernel⟩,
    ⟨{ live with cox := { (live).cox with jobs := [({ someJob with kind := .unstash, lastIn := true, chunk := 136, got := [(0, (⟨1, 0, 64, 72, (crc32 (toBytes 8 (64 + 0 * 2 ^ 26) ++ List.replicate 64 7)).toNat, 0, 0, 0, 0⟩ : ExtHeader).toBytes ++ (toBytes 8 (64 + 0 * 2 ^ 26) ++ List.replicate 64 7))] })], cmds := [({ someCmd with words := cmdWords 7 0x4000000000 0x1000 0x1000 0x400000 })] } }, { someJob with kind := .unstash, lastIn := true, chunk := 136, got := [(0, (⟨1, 0, 64, 72, (crc32 (toBytes 8 (64 + 0 * 2 ^ 26) ++ List.replicate 64 7)).toNat, 0, 0, 0, 0⟩ : ExtHeader).toBytes ++ (toBytes 8 (64 + 0 * 2 ^ 26) ++ List.replicate 64 7))] }, { someCmd with words := cmdWords 7 0x4000000000 0x1000 0x1000 0x400000 }, (⟨1, 0, 64, 72, (crc32 (toBytes 8 (64 + 0 * 2 ^ 26) ++ List.replicate 64 7)).toNat, 0, 0, 0, 0⟩ : ExtHeader), by decide +kernel⟩⟩

theorem witness_RunsEnd_2 :
    (∃ (s : State) (via : Path) (id : Nat), s.deaf via = false ∧ s.locked via 0x00D = false ∧ id < 4096 ∧ s.cox.jobs = [] ∧ (s.extent id).state ≠ 0 ∧ (s.extent id).writing = []) ∧
    (∃ (s : State) (via : Path) (id : Nat), s.deaf via = false ∧ s.locked via 0x00D = false ∧ id < 4096 ∧ s.cox.jobs = [] ∧ (s.extent id).state = 2 ∧ (s.extent id).writing ≠ []) ∧
    (∃ (s : State) (via : Path), s.deaf via = false ∧ s.locked via 0x00D = false ∧ s.cox.jobs = [] ∧ (∀ kv ∈ s.runs.extents, kv.2.writing = [] ∧ kv.2.state ≠ 0) ∧ (s.runs.extents.map (·.1)).Nodup) ∧
    (∃ (s : State) (r : Nat), (s.round r = .none ∨ s.safe = true)) ∧
    (∃ (s : State) (x : Round), s.runs.rounds = [x] ∧ x.due = true ∧ s.safe = false ∧ x.root = true ∧ x.children = [] ∧ x.cmds = [] ∧ x.br < 63) :=
  ⟨⟨{ (State.reset.wr (Reg.RSV.USED 2) 1).setExtent 4095 { Extent.reset with writing := [] } with cox := { State.reset.cox with jobs := [] }, runs := { State.reset.runs with extents := [(4095, ⟨2, 0, 0, false, false, 0, 0, 0, 0, 64, 64, 0, [(0, [1, 2])], [0], [], 3, false⟩)] } }, .mgmt, 4095, by decide +kernel⟩,
    ⟨{ State.reset.setExtent 4095 { Extent.reset with state := 2 } with cox := { State.reset.cox with jobs := [] }, runs := { State.reset.runs with extents := [(4095, ⟨2, 0, 0, false, false, 0, 0, 0, 0, 64, 64, 0, [(0, [1, 2])], [], [0], 3, false⟩)] } }, .mgmt, 4095, by decide +kernel⟩,
    ⟨{ State.reset.wr (Reg.RSV.USED 2) 2 with cox := { State.reset.cox with jobs := [] }, runs := { State.reset.runs with extents := [(4094, ⟨2, 0, 0, false, false, 0, 0, 0, 0, 64, 64, 0, [(0, [1, 2])], [0], [], 3, false⟩), (4095, ⟨2, 0, 0, false, false, 0, 0, 0, 0, 64, 64, 0, [(0, [1, 2])], [0], [], 3, false⟩)] } }, .mgmt, by decide +kernel⟩,
    ⟨State.reset, 0xFFFF, by decide +kernel⟩,
    ⟨{ live with runs := { (live).runs with rounds := [someRound] } }, someRound, by decide +kernel⟩⟩

theorem witness_RunsEnd_3 :
    (∃ (s : State) (x : Round), s.runs.rounds = [x] ∧ x.due = false) ∧
    (∃ (s : State) (via : Path) (x : Round), s.deaf via = false ∧ s.locked via 0x00E = false ∧ s.runs.rounds = [x] ∧ x.round < 2 ^ 16 ∧ x.cmds = []) ∧
    (∃ (s : State), s.runs.swap = .none) ∧
    (∃ (s : State) (w : SwapRun) (a : Nat) (c : Cmd), s.running = true ∧ s.clk.cycle = 0 ∧ s.runs.swap = some w ∧ w.ready = some a ∧ a < s.now ∧ s.cox.cmds = [c] ∧ c.id = w.cmd ∧ c.phase = .running ∧ needsDest c.words = false ∧ s.runs.rounds = []) ∧
    (∃ (s : State) (w : SwapRun) (a : Nat), s.runs.swap = some w ∧ w.ready = some a ∧ (s.now ≤ a ∨ s.clk.cycle ≠ 0)) :=
  ⟨⟨{ State.reset with runs := { State.reset.runs with rounds := [({ someRound with sent := true })] } }, { someRound with sent := true }, by decide +kernel⟩,
    ⟨{ State.reset with runs := { State.reset.runs with rounds := [someRound] } }, .mgmt, someRound, by decide +kernel⟩,
    ⟨{ State.reset with runs := { State.reset.runs with swap := .none } }, by decide +kernel⟩,
    ⟨{ live with clk := { (live).clk with cycle := 0 }, runs := { (live).runs with swap := some (⟨7, 0, 1, 255, [], [], 2, .none, some 4999⟩), rounds := [] }, cox := { (live).cox with cmds := [({ someCmd with words := cmdWords 0x18 0 0x10000 0 0 })] } }, ⟨7, 0, 1, 255, [], [], 2, .none, some 4999⟩, 4999, { someCmd with words := cmdWords 0x18 0 0x10000 0 0 }, by decide +kernel⟩,
    ⟨{ live with runs := { (live).runs with swap := some (⟨7, 0, 1, 255, [], [], 2, .none, some 5000⟩) } }, ⟨7, 0, 1, 255, [], [], 2, .none, some 5000⟩, 5000, by decide +kernel⟩⟩

/-! ## Witnesses of premises inside a clause -/

theorem witness_transferNotCut : ∃ (s : State) (x : BusXfer), s.mgmt.xfer = some x ∧ s.rd Reg.MGT.ABORT_CNT_ABORTS < 0xFFFF ∧ x.cut = false :=
  ⟨{ live with mgmt := { live.mgmt with xfer := some ⟨false, 0, 0, false⟩ } }, ⟨false, 0, 0, false⟩, by decide +kernel⟩

theorem witness_plainControl : ∃ (s : State) (via : Path) (b : Block) (pg : Nat),
    s.deaf via = false ∧ blockOf pg = some b ∧ s.locked via pg = false ∧ ∀ v, blockEffect v b pg 0x004 = .none :=
  ⟨live, .mgmt, .thm, 0x011, by decide +kernel, by decide +kernel, by decide +kernel, fun v => rfl⟩

theorem witness_culvertDisabledInQuiesce : ∃ (s : State) (c : Fin 8), s.culvState c.val = 6 ∧ (s.culv c.val).reqs = [] ∧
    (s.culv c.val).replay = [] ∧ (s.culv c.val).unsent = [] ∧ s.flag (Reg.CLV.CTRL_ENABLE c.val) = false :=
  ⟨(live.wr (Reg.CLV.STAT_STATE 7) 6).wr (Reg.CLV.CTRL_ENABLE 7) 0, 7, by decide +kernel⟩

theorem witness_culvertsAtReset : ∃ s : State, s.flag Reg.GLB.STRAPS_MODE = false ∧ s.flag Reg.CKM.STAT_PLL_LOCK = true ∧
    ∀ c < 8, s.culvState c = 0 ∧ s.flag (Reg.CLV.CTRL_LOOP c) = false ∧
      ∀ r ∈ fieldsAt (0x020 + c) 0x004, s.rd (fieldOf (0x020 + c) 0x004 r) ≤ r.max :=
  ⟨State.reset.wr Reg.CKM.STAT_PLL_LOCK 1, by decide +kernel⟩

theorem witness_noCredits : ∃ (s : State) (p : Fin 16) (arg : BitVec 48), s.running = true ∧ s.linkState p.val = 3 ∧ bits arg.toNat 23 0 = 0 :=
  ⟨live.wr (Reg.LNK.STAT_STATE 15) 3, 15, 0, by decide +kernel⟩

theorem witness_otherOpcode : ∃ (s t : State) (k : Fin 64) (ws : List DWord), s.gives k ws t ∧ cOp ws < 10 ∧ cOp ws ≠ 1 :=
  ⟨offers (cmdWords 0 0 0 0 0) [], looked (offers (cmdWords 0 0 0 0 0) []) (cmdWords 0 0 0 0 0), 63, cmdWords 0 0 0 0 0,
    gives_of _ _ _ _ (by decide +kernel), by decide +kernel⟩

theorem witness_reservedOpcode : ∃ (s t : State) (k : Fin 64) (ws : List DWord), s.gives k ws t ∧
    t.flag (Reg.COX.OQ_CFG_ENABLE (cOq ws)) = true ∧ t.verdict ws = .fail 0x10 1 ∧ t.safe = false ∧ t.cox.cmds = [] ∧
      opcodes.contains (cOp ws) = false :=
  ⟨offers (cmdWords 0x7F 0 0 0 0) [], looked (offers (cmdWords 0x7F 0 0 0 0) []) (cmdWords 0x7F 0 0 0 0), 63, cmdWords 0x7F 0 0 0 0,
    gives_of _ _ _ _ (by decide +kernel), by decide +kernel⟩

end Sys2Proof.Tests
end

section
/-! SUPPORT. Control space (spec section 04): the key of a field, the bits of a mask, a write to LOCK, a clear of ERR bits, and a merged
event; with them R116 and R112. -/

namespace Sys2Proof.Machine

/-! ## Keys of fields -/

/-- Fields at different offsets of their pages are stored under different keys. -/
theorem Field.key_ne_of_off {f g : Field} (h : f.off ≠ g.off) (hf : f.off < 0x1000 ∧ f.lo < 32) (hg : g.off < 0x1000 ∧ g.lo < 32) :
    f.key ≠ g.key := by
  unfold Field.key
  omega

/-- Fields at different low bits are stored under different keys. -/
theorem Field.key_ne_of_lo {f g : Field} (h : f.lo ≠ g.lo) (hf : f.lo < 32) (hg : g.lo < 32) : f.key ≠ g.key := by
  unfold Field.key
  omega

/-! ## Bits of numbers -/

theorem bitAt_setBit_ne {v i j : Nat} (h : i ≠ j) : bitAt (setBit v i) j = bitAt v j := by
  unfold setBit
  split
  · rfl
  · rename_i hbit
    have heven : v / 2 ^ i % 2 = 0 := by
      simp only [bitAt, beq_iff_eq] at hbit
      omega
    suffices hdiv : (v + 2 ^ i) / 2 ^ j % 2 = v / 2 ^ j % 2 by simp only [bitAt, hdiv]
    rcases Nat.lt_or_gt_of_ne h with hij | hji
    · obtain ⟨k, rfl⟩ := Nat.exists_eq_add_of_lt hij
      have hsplit : ∀ n, n / 2 ^ (i + k + 1) = n / 2 ^ i / 2 / 2 ^ k := fun n => by
        rw [Nat.div_div_eq_div_mul, Nat.div_div_eq_div_mul]
        congr 1
        ring
      rw [hsplit, hsplit, Nat.add_div_right _ (Nat.two_pow_pos i)]
      congr 2
      omega
    · obtain ⟨k, rfl⟩ := Nat.exists_eq_add_of_lt hji
      have hpow : 2 ^ (j + k + 1) = 2 ^ j * (2 * 2 ^ k) := by ring
      rw [hpow, Nat.add_mul_div_left _ _ (Nat.two_pow_pos j), Nat.add_mul_mod_self_left]

theorem bitAt_foldl_setBit (l : List Nat) (v j : Nat) : bitAt (l.foldl setBit v) j = (bitAt v j || decide (j ∈ l)) := by
  induction l generalizing v with
  | nil => simp
  | cons i l ih =>
    rw [List.foldl_cons, ih]
    by_cases h : i = j
    · subst h; simp [bitAt_setBit]
    · simp [bitAt_setBit_ne h, Ne.symm h]

theorem bitAt_zero (j : Nat) : bitAt 0 j = false := by simp [bitAt]

theorem bitAt_maskOf (l : List Nat) (j : Nat) : bitAt (maskOf l) j = decide (j ∈ l) := by
  rw [maskOf, bitAt_foldl_setBit, bitAt_zero, Bool.false_or]

theorem bitAt_eq_testBit (v i : Nat) : bitAt v i = v.testBit i := by
  rw [bitAt, Nat.testBit_eq_decide_div_mod_eq, beq_eq_decide]

theorem bitAt_toNat (d : Word) (i : Nat) : bitAt d.toNat i = d.getLsbD i := bitAt_eq_testBit _ _

theorem bitAt_clearMask (v m : Nat) {i : Nat} (h : i < 32) : bitAt (clearMask v m) i = (bitAt v i && !bitAt m i) := by
  rw [clearMask, bitAt_toNat, BitVec.getLsbD_and, BitVec.getLsbD_not]
  simp only [BitVec.getLsbD_ofNat, h, bitAt_eq_testBit, decide_true, Bool.true_and]

theorem mem_setBits {n v i : Nat} : i ∈ setBits n v ↔ i < n ∧ bitAt v i = true := by
  simp [setBits]

/-! ## A write to LOCK (R116, R117) -/

theorem bits_low (v i : Nat) : bits v i i = v / 2 ^ i % 2 := by simp [bits]

/-- A write to LOCK is not one to a protected register, and goes to R116's judgement. -/
theorem exec_lockWrite {s : State} {via : Path} {pg : Nat} (d : Word) (hd : s.deaf via = false) (hpg : (blockOf pg).isSome = true) :
    exec (.lockWrite via pg d) s = .next (s.wrLock via pg d.toNat) := by
  have hnone : (blockOf pg).isNone = false := by simpa [← Option.not_isSome] using hpg
  show Host.Outcome.next (s.writeReg via pg 0x034 d.toNat) = _
  simp [State.writeReg, hd, hnone]

theorem isSideband_eq_false {v : Path} : isSideband v = false ↔ v = .mgmt := by
  cases v <;> simp [isSideband]

/-- R116: a write that turns neither bit from 1 to 0 takes effect; any other needs the key, and the management port while HUB_ONLY = 1. -/
theorem State.mayLock_iff (s : State) (v : Path) (pg : Nat) (d : Word) :
    s.mayLock v pg d.toNat = true ↔
      ((s.flag (Reg.LOCK_WP pg) = true → d.toNat % 2 = 1) ∧ (s.flag (Reg.LOCK_HUB_ONLY pg) = true → d.toNat / 2 % 2 = 1)) ∨
        (d.toNat / 2 ^ 16 = 0x5A17 ∧ (s.flag (Reg.LOCK_HUB_ONLY pg) = true → v = .mgmt)) := by
  have hkey : bits d.toNat 31 16 = d.toNat / 2 ^ 16 := by
    have := d.isLt
    unfold bits
    omega
  simp only [State.mayLock, hkey, ← isSideband_eq_false (v := v)]
  cases s.flag (Reg.LOCK_WP pg) <;> cases s.flag (Reg.LOCK_HUB_ONLY pg) <;> simp [bitAt]

/-- A write to LOCK that takes effect sets WP and HUB_ONLY from its bits 0 and 1, and nothing else. -/
theorem State.wrLock_taken {s : State} {v : Path} {pg data : Nat} (h : s.mayLock v pg data = true) :
    (s.wrLock v pg data).rd (Reg.LOCK_WP pg) = data % 2 ∧ (s.wrLock v pg data).rd (Reg.LOCK_HUB_ONLY pg) = data / 2 % 2 ∧
      sameFields [Reg.LOCK_WP pg, Reg.LOCK_HUB_ONLY pg] s (s.wrLock v pg data) ∧
      s.wrLock v pg data = { s with regs := (s.wrLock v pg data).regs } := by
  have hne : (Reg.LOCK_HUB_ONLY pg).key ≠ (Reg.LOCK_WP pg).key :=
    Field.key_ne_of_lo (by simp [Reg.LOCK_WP, Reg.LOCK_HUB_ONLY]) (by simp [Reg.LOCK_HUB_ONLY]) (by simp [Reg.LOCK_WP])
  have hwr : s.wrLock v pg data = (s.wr (Reg.LOCK_WP pg) (data % 2)).wr (Reg.LOCK_HUB_ONLY pg) (data / 2 % 2) := by
    simp [State.wrLock, h, bits_low]
  rw [hwr]
  refine ⟨?_, ?_, fun g hg => ?_, rfl⟩
  · rw [State.rd_wr_ne _ _ hne, State.rd_wr_same]
    exact Nat.mod_mod _ _
  · rw [State.rd_wr_same]
    exact Nat.mod_mod _ _
  · rw [State.rd_wr_ne _ _ (hg _ (by simp)), State.rd_wr_ne _ _ (hg _ (by simp))]

/-- R117: a refused write counts in the page's DENIED, shows in MGT.STAT when it came from the management port, and changes nothing else. -/
theorem State.refuse_frame (s : State) (v : Path) (pg : Nat) :
    (s.refuse v pg).rd (Reg.LOCK_DENIED pg) = min (s.rd (Reg.LOCK_DENIED pg) + 1) 255 ∧
      sameFields [Reg.LOCK_DENIED pg, Reg.MGT.STAT_DENIED] s (s.refuse v pg) ∧
      s.refuse v pg = { s with regs := (s.refuse v pg).regs } := by
  cases v with
  | mgmt =>
    have hne : Reg.MGT.STAT_DENIED.key ≠ (Reg.LOCK_DENIED pg).key :=
      Field.key_ne_of_off (by simp [Reg.LOCK_DENIED, Reg.MGT.STAT_DENIED]) (by decide) (by simp [Reg.LOCK_DENIED])
    refine ⟨?_, fun g hg => ?_, rfl⟩
    · exact (State.rd_wr_ne _ _ hne).trans (s.rd_bump_same _)
    · exact (State.rd_wr_ne _ _ (hg _ (by simp))).trans (s.rd_bump_ne (hg _ (by simp)))
  | sb c => exact ⟨s.rd_bump_same _, fun g hg => s.rd_bump_ne (hg _ (by simp)), rfl⟩

theorem State.refuse_rd_lock (s : State) (v : Path) (pg : Nat) {f : Field} (hoff : f.off = 0x034) (hlo : f.lo < 8) :
    (s.refuse v pg).rd f = s.rd f := by
  obtain ⟨-, hsame, -⟩ := s.refuse_frame v pg
  refine hsame f fun g hg => ?_
  simp only [List.mem_cons, List.not_mem_nil, or_false] at hg
  rcases hg with rfl | rfl
  · exact Field.key_ne_of_lo (by simp [Reg.LOCK_DENIED]; omega) (by simp [Reg.LOCK_DENIED]) (by omega)
  · exact Field.key_ne_of_off (by simp [Reg.MGT.STAT_DENIED, hoff]) (by decide) (by omega)

/-- Settles O14: R116's judgement `State.mayLock_iff`, with what a write that takes effect and a refused one each change. -/
theorem lockWrites : Obligations.LockWrites := by
  have taken : ∀ (s : State) (via : Path) (pg : Nat) (d : Word), s.deaf via = false → (blockOf pg).isSome = true →
      s.mayLock via pg d.toNat = true →
      ∃ t, exec (.lockWrite via pg d) s = .next t ∧ t.rd (Reg.LOCK_WP pg) = d.toNat % 2 ∧ t.rd (Reg.LOCK_HUB_ONLY pg) = d.toNat / 2 % 2 ∧
        sameFields [Reg.LOCK_WP pg, Reg.LOCK_HUB_ONLY pg] s t ∧ t = { s with regs := t.regs } :=
    fun s via pg d hd hpg hmay => ⟨_, exec_lockWrite d hd hpg, State.wrLock_taken hmay⟩
  refine ⟨fun s via pg d hd hpg hwp hhub => ?_, fun s via pg d hd hpg hkey hhub => ?_, fun s via pg d hd hpg hclears hwrong => ?_⟩
  · exact taken s via pg d hd hpg ((s.mayLock_iff via pg d).2 (.inl ⟨hwp, hhub⟩))
  · exact taken s via pg d hd hpg ((s.mayLock_iff via pg d).2 (.inr ⟨hkey, hhub⟩))
  · have hmay : s.mayLock via pg d.toNat = false := by
      rw [Bool.eq_false_iff, ne_eq, s.mayLock_iff]
      rintro (⟨hwp, hhub⟩ | ⟨hkey, hhub⟩)
      · rcases hclears with ⟨hset, hzero⟩ | ⟨hset, hzero⟩
        · have := hwp hset
          omega
        · have := hhub hset
          omega
      · rcases hwrong with hbad | ⟨hset, hvia⟩
        · exact hbad hkey
        · exact hvia (hhub hset)
    have hrefuse : s.wrLock via pg d.toNat = s.refuse via pg := by simp [State.wrLock, hmay]
    obtain ⟨hden, hsame, hregs⟩ := s.refuse_frame via pg
    refine ⟨s.refuse via pg, by rw [exec_lockWrite d hd hpg, hrefuse], ?_, ?_, hden, hsame, hregs⟩
    · exact s.refuse_rd_lock via pg rfl (by simp [Reg.LOCK_WP])
    · exact s.refuse_rd_lock via pg rfl (by simp [Reg.LOCK_HUB_ONLY])

/-! ## A merged event (R111, R112) -/

/-- The ERR registers lie apart from every field at another offset. -/
theorem key_ne_errField {g : Field} (cls : EvClass) (pg : Nat) (h : g.off < 0x010 ∨ 0x01C ≤ g.off) (hoff : g.off < 0x1000) (hlo : g.lo < 32) :
    (errField cls pg).key ≠ g.key := by
  have hkey : (errField cls pg).lo = 0 ∧ 0x010 ≤ (errField cls pg).off ∧ (errField cls pg).off < 0x01C := by
    cases cls <;> simp [errField, Reg.ERR_CORR, Reg.ERR_CONT, Reg.ERR_FATAL]
  exact Field.key_ne_of_off (by omega) (by omega) ⟨hoff, hlo⟩

theorem State.pairFor_rd (s : State) (c : ErrCode) {g : Field} (h : Reg.UMP.FATAL_CNT_EVENTS.key ≠ g.key) : (s.pairFor c).rd g = s.rd g := by
  unfold State.pairFor State.assertPair
  dsimp only
  split
  · split <;> exact s.rd_bump_ne h
  · rfl

/-- The assertion of a fatal pair touches neither the first-error records nor the logbook. -/
theorem State.pairFor_recs_log (s : State) (c : ErrCode) : (s.pairFor c).recs = s.recs ∧ (s.pairFor c).log = s.log := by
  unfold State.pairFor State.assertPair
  dsimp only
  split
  · split <;> exact ⟨rfl, rfl⟩
  · exact ⟨rfl, rfl⟩

theorem State.pairFor_errField (s : State) (c : ErrCode) (cls : EvClass) (pg : Nat) :
    (s.pairFor c).rd (errField cls pg) = s.rd (errField cls pg) :=
  s.pairFor_rd c (key_ne_errField cls pg (by decide) (by decide) (by decide)).symm

theorem State.merges_of_shows {s : State} {c : ErrCode} (h : s.shows c = true) : s.merges c = true := by
  simp only [State.shows] at h
  simp [State.merges, h]

theorem State.pairFor_merges (s : State) (c : ErrCode) : (s.pairFor c).merges c = s.merges c := by
  simp only [State.merges, State.pairFor_errField, s.pairFor_recs_log c]

theorem State.pairFor_recsAfterMerge (s : State) (c : ErrCode) : (s.pairFor c).recsAfterMerge c = s.recsAfterMerge c := by
  simp only [State.recsAfterMerge, State.pairFor_errField, s.pairFor_recs_log c]

theorem State.raise1_merged {s : State} {e : Event} (h : s.merges e.code = true) :
    s.raise1 e = ((s.pairFor e.code).mergeEvent e.code).noteEvent e.code s.stamp false := by
  rw [State.raise1, State.raiseAt]
  simp [s.pairFor_merges, h]

/-- R111: a merged event counts in CNT_MERGED. -/
theorem State.raise1_merged_count {s : State} {e : Event} (h : s.merges e.code = true) :
    (s.raise1 e).rd (Reg.CNT_MERGED e.code.page) = min (s.rd (Reg.CNT_MERGED e.code.page) + 1) 255 := by
  have herr : (errField e.code.cls e.code.page).key ≠ (Reg.CNT_MERGED e.code.page).key :=
    key_ne_errField _ _ (by simp [Reg.CNT_MERGED]) (by simp [Reg.CNT_MERGED]) (by simp [Reg.CNT_MERGED])
  have hump : Reg.UMP.FATAL_CNT_EVENTS.key ≠ (Reg.CNT_MERGED e.code.page).key :=
    Field.key_ne_of_off (by simp [Reg.CNT_MERGED, Reg.UMP.FATAL_CNT_EVENTS]) (by decide) (by simp [Reg.CNT_MERGED])
  rw [State.raise1_merged h]
  refine (State.rd_bump_same _ _).trans ?_
  rw [State.setErrBit, State.rd_wrBit_ne _ _ _ herr, s.pairFor_rd _ hump]
  rfl

/-- R111: a merged event changes its ERR register, CNT_MERGED and the Umpire's count of fatal events, and no other field. -/
theorem State.raise1_merged_rd_ne {s : State} {e : Event} (h : s.merges e.code = true) {g : Field}
    (herr : (errField e.code.cls e.code.page).key ≠ g.key) (hcnt : (Reg.CNT_MERGED e.code.page).key ≠ g.key)
    (hump : Reg.UMP.FATAL_CNT_EVENTS.key ≠ g.key) : (s.raise1 e).rd g = s.rd g := by
  rw [State.raise1_merged h]
  refine (State.rd_bump_ne _ hcnt).trans ?_
  rw [State.setErrBit, State.rd_wrBit_ne _ _ _ herr, s.pairFor_rd _ hump]

/-- R111: a merged event counts in no class. -/
theorem State.raise1_merged_class {s : State} {e : Event} (h : s.merges e.code = true) :
    (s.raise1 e).rd (Reg.CNT_CORR e.code.page) = s.rd (Reg.CNT_CORR e.code.page) ∧
      (s.raise1 e).rd (Reg.CNT_CONT e.code.page) = s.rd (Reg.CNT_CONT e.code.page) := by
  have apart : ∀ g : Field, g.off = 0x01C → g.lo < 24 → (s.raise1 e).rd g = s.rd g := fun g hoff hlo =>
    State.raise1_merged_rd_ne h (key_ne_errField _ _ (by omega) (by omega) (by omega))
      (Field.key_ne_of_lo (by simp [Reg.CNT_MERGED]; omega) (by simp [Reg.CNT_MERGED]) (by omega))
      (Field.key_ne_of_off (by simp [Reg.UMP.FATAL_CNT_EVENTS, hoff]) (by decide) (by omega))
  exact ⟨apart _ rfl (by simp [Reg.CNT_CORR]), apart _ rfl (by simp [Reg.CNT_CONT])⟩

theorem State.raise1_merged_recs {s : State} {e : Event} (h : s.merges e.code = true) : (s.raise1 e).recs = s.recsAfterMerge e.code := by
  rw [State.raise1_merged h]
  exact s.pairFor_recsAfterMerge _

/-- A record that no write emptied in this cycle is left alone by a merged event. -/
theorem State.recsAfterMerge_of_not_emptied {s : State} {c : ErrCode} (h : ∀ x ∈ s.log.emptied, x.1 ≠ c.page) :
    s.recsAfterMerge c = s.recs := by
  have hnone : s.log.emptied.find? (·.1 == c.page) = .none := by simpa [List.find?_eq_none] using h
  simp [State.recsAfterMerge, hnone]

/-- An empty record that a write emptied in this cycle is given back by an event whose bit the write cleared. -/
theorem State.recsAfterMerge_of_emptied {s : State} {c : ErrCode} {r : ErrRec} (hbit : s.shows c = false)
    (hfind : s.log.emptied.find? (·.1 == c.page) = some (c.page, r)) (hrec : s.record c.page = .none) :
    s.recsAfterMerge c = Tab.write .none s.recs c.page (some r) := by
  simp only [State.shows] at hbit
  simp only [State.record] at hrec
  simp [State.recsAfterMerge, hbit, hfind, hrec]

theorem State.recsAfterMerge_of_shows {s : State} {c : ErrCode} (h : s.shows c = true) : s.recsAfterMerge c = s.recs := if_pos h

/-- The stamp of the cycle at hand outlives an event. -/
theorem State.raise1_stamp (s : State) (e : Event) : (s.raise1 e).stamp = s.stamp := by
  have hrun : (s.raise1 e).rd Reg.STK.STAT_RUNNING = s.rd Reg.STK.STAT_RUNNING := by
    refine s.raise1_rd e _ fun f hf => ?_
    have herr := key_ne_errField (g := Reg.STK.STAT_RUNNING) e.code.cls e.code.page (by decide) (by decide) (by decide)
    simp only [eventFields, List.mem_cons, List.not_mem_nil, or_false] at hf
    rcases hf with rfl | rfl | rfl | rfl | rfl | rfl
    · exact herr
    all_goals
      refine Field.key_ne_of_off ?_ ?_ ?_ <;>
        simp [Reg.STK.STAT_RUNNING, Reg.CNT_CORR, Reg.CNT_CONT, Reg.CNT_MERGED, Reg.UMP.FATAL_CNT_EVENTS, Reg.LOG.DROP_CNT]
  unfold State.stamp State.running State.flag
  rw [hrun, State.raise1_clk]

/-- R112: a merged event is kept in mind for the cycle at hand. -/
theorem State.raise1_merged_raised {s : State} {e : Event} (h : s.merges e.code = true) :
    (e.code.page, e.code.cls, e.code.bit) ∈ (s.raise1 e).log.raised := by
  have hstamp : ((s.pairFor e.code).mergeEvent e.code).stamp = s.stamp := by
    have := s.raise1_stamp e
    rwa [State.raise1_merged h] at this
  rw [State.raise1_merged h]
  simp [State.noteEvent, hstamp]

theorem State.raise1_deaf (s : State) (e : Event) (v : Path) : (s.raise1 e).deaf v = s.deaf v := by
  cases v <;> simp [State.deaf, State.busDeaf, State.busBlind]

/-! ## Ones written to an ERR register (R110, R112, R113) -/

/-- The bits that ones written to an ERR register clear. -/
def State.goneBits (s : State) (cls : EvClass) (pg m : Nat) : List Nat :=
  ((setBits 32 (if cls = .fatal ∧ pg = 3 then clearBit m 1 else m)).filter (bitAt (s.rd (errField cls pg)))).filter
    fun b => !s.log.raised.contains (pg, cls, b)

/-- The state with those bits cleared and noted for the cycle at hand, its records not yet looked at. -/
def State.clearBits (s : State) (cls : EvClass) (pg m : Nat) : State :=
  { s.wr (errField cls pg) (clearMask (s.rd (errField cls pg)) (maskOf (s.goneBits cls pg m))) with
    log := { s.log with cleared := (s.goneBits cls pg m).map (fun b => (pg, cls, b)) ++ s.log.cleared } }

theorem State.clearErr_eq (s : State) (cls : EvClass) (pg m : Nat) : s.clearErr cls pg m = (s.clearBits cls pg m).emptyRecord pg := rfl

/-- A bit that an event of the same cycle set is not cleared (R112). -/
theorem State.not_mem_goneBits_of_raised {s : State} {cls : EvClass} {pg b : Nat} (m : Nat) (h : (pg, cls, b) ∈ s.log.raised) :
    b ∉ s.goneBits cls pg m := by
  simp [State.goneBits, h]

/-- Outside the fatal class, a bit that is 1, that a one is written to, and that no event of the same cycle set, is cleared. -/
theorem State.mem_goneBits {s : State} {cls : EvClass} {pg m b : Nat} (hcls : cls ≠ .fatal) (hb : b < 32) (hm : bitAt m b = true)
    (hset : bitAt (s.rd (errField cls pg)) b = true) (hraised : (pg, cls, b) ∉ s.log.raised) : b ∈ s.goneBits cls pg m := by
  simp [State.goneBits, mem_setBits, hcls, hb, hm, hset, hraised]

theorem State.clearBits_bit (s : State) (cls : EvClass) (pg m : Nat) {b : Nat} (hb : b < 32) :
    bitAt ((s.clearBits cls pg m).rd (errField cls pg)) b = (bitAt (s.rd (errField cls pg)) b && !decide (b ∈ s.goneBits cls pg m)) := by
  have hrd : (s.clearBits cls pg m).rd (errField cls pg) =
      clearMask (s.rd (errField cls pg)) (maskOf (s.goneBits cls pg m)) % 2 ^ (errField cls pg).width := s.rd_wr_same _ _
  rw [hrd, errField_width, bitAt_mod _ _ _ hb, bitAt_clearMask _ _ hb, bitAt_maskOf]

/-- R110: either the page's record stays, or it held something, all three ERR registers read 0, and it is empty, noted for the cycle. -/
theorem State.emptyRecord_cases (s : State) (pg : Nat) :
    s.emptyRecord pg = s ∨ (∀ cls, s.rd (errField cls pg) = 0) ∧ ∃ r, s.record pg = some r ∧
      s.emptyRecord pg = { s with recs := Tab.write .none s.recs pg .none, log := { s.log with emptied := (pg, r) :: s.log.emptied } } := by
  unfold State.emptyRecord
  split
  · rename_i hzero
    obtain ⟨hcorr, hcont, hfatal⟩ := hzero
    split
    · exact .inl rfl
    · rename_i r hr
      exact .inr ⟨fun | .corr => hcorr | .cont => hcont | .fatal => hfatal, r, hr, rfl⟩
  · exact .inl rfl

/-- The registers are those with the bits cleared, whatever becomes of the record. -/
theorem State.clearErr_rd (s : State) (cls : EvClass) (pg m : Nat) (g : Field) : (s.clearErr cls pg m).rd g = (s.clearBits cls pg m).rd g := by
  rw [State.clearErr_eq]
  rcases (s.clearBits cls pg m).emptyRecord_cases pg with h | ⟨-, r, -, h⟩
  · rw [h]
  · rw [h]; rfl

theorem State.clearErr_rd_ne (s : State) (cls : EvClass) (pg m : Nat) {g : Field} (h : (errField cls pg).key ≠ g.key) :
    (s.clearErr cls pg m).rd g = s.rd g :=
  (s.clearErr_rd cls pg m g).trans (s.rd_wr_ne _ h)

/-- A clear leaves the counters of ERR_CNT as they are. -/
theorem State.clearErr_counts (s : State) (cls : EvClass) (pg m : Nat) :
    (s.clearErr cls pg m).rd (Reg.CNT_MERGED pg) = s.rd (Reg.CNT_MERGED pg) ∧
      (s.clearErr cls pg m).rd (Reg.CNT_CORR pg) = s.rd (Reg.CNT_CORR pg) ∧
      (s.clearErr cls pg m).rd (Reg.CNT_CONT pg) = s.rd (Reg.CNT_CONT pg) := by
  have apart : ∀ g : Field, g.off = 0x01C → g.lo < 32 → (s.clearErr cls pg m).rd g = s.rd g := fun g hoff hlo =>
    s.clearErr_rd_ne cls pg m (key_ne_errField _ _ (by omega) (by omega) hlo)
  exact ⟨apart _ rfl (by simp [Reg.CNT_MERGED]), apart _ rfl (by simp [Reg.CNT_CORR]), apart _ rfl (by simp [Reg.CNT_CONT])⟩

theorem State.clearErr_cleared (s : State) (cls : EvClass) (pg m : Nat) :
    (s.clearErr cls pg m).log.cleared = (s.goneBits cls pg m).map (fun b => (pg, cls, b)) ++ s.log.cleared := by
  rw [State.clearErr_eq]
  rcases (s.clearBits cls pg m).emptyRecord_cases pg with h | ⟨-, r, -, h⟩ <;> (rw [h]; rfl)

theorem State.shows_clearErr (s : State) (c : ErrCode) (m : Nat) (hb : c.bit < 32) :
    (s.clearErr c.cls c.page m).shows c = (s.shows c && !decide (c.bit ∈ s.goneBits c.cls c.page m)) := by
  rw [State.shows, State.clearErr_rd, s.clearBits_bit _ _ _ hb, State.shows]

/-- An event whose bit a clear of the same cycle found 1 is merged, whether or not the clear took the bit (R112). -/
theorem State.merges_clearErr {s : State} {c : ErrCode} (m : Nat) (hb : c.bit < 32) (h : s.shows c = true) :
    (s.clearErr c.cls c.page m).merges c = true := by
  by_cases hgone : c.bit ∈ s.goneBits c.cls c.page m
  · simp [State.merges, State.clearErr_cleared, hgone]
  · refine State.merges_of_shows ?_
    simp [s.shows_clearErr c m hb, h, hgone]

/-- A clear after which a bit of the page still reads 1 leaves the page's record. -/
theorem State.clearErr_recs_of_shows {s : State} {c : ErrCode} {m : Nat} (h : (s.clearErr c.cls c.page m).shows c = true) :
    (s.clearErr c.cls c.page m).recs = s.recs := by
  rw [State.shows, State.clearErr_rd] at h
  rw [State.clearErr_eq]
  rcases (s.clearBits c.cls c.page m).emptyRecord_cases c.page with hsame | ⟨hzero, -⟩
  · rw [hsame]; rfl
  · rw [hzero, bitAt_zero] at h
    exact absurd h Bool.false_ne_true

/-- R110, R112: an event merged with a clear of the same cycle finds the page's record as it was before the clear. -/
theorem State.record_clearErr_raise1 {s : State} {e : Event} (m : Nat) (hb : e.code.bit < 32) (h : s.shows e.code = true)
    (hemptied : ∀ x ∈ s.log.emptied, x.1 ≠ e.code.page) :
    ((s.clearErr e.code.cls e.code.page m).raise1 e).record e.code.page = s.record e.code.page := by
  rw [State.record, State.raise1_merged_recs (State.merges_clearErr m hb h), State.clearErr_eq]
  rcases (s.clearBits e.code.cls e.code.page m).emptyRecord_cases e.code.page with hsame | ⟨hzero, r, hr, hempty⟩
  · rw [hsame, State.recsAfterMerge_of_not_emptied (s := s.clearBits _ _ _) hemptied]
    rfl
  · rw [hempty, State.recsAfterMerge_of_emptied (r := r) ?_ ?_ ?_, Tab.read_write_same]
    · exact hr.symm
    · exact (congrArg (bitAt · e.code.bit) (hzero _)).trans (bitAt_zero _)
    · simp
    · simp [State.record]

/-- A write to an ERR register clears its bits, under no LOCK (R115). -/
theorem exec_errW1cWrite {s : State} {via : Path} {pg : Nat} (cls : EvClass) (d : Word) (hd : s.deaf via = false)
    (hpg : (blockOf pg).isSome = true) : exec (.errW1cWrite via pg cls d) s = .next (s.clearErr cls pg d.toNat) := by
  obtain ⟨b, hb⟩ := Option.isSome_iff_exists.1 hpg
  have himpl : implemented pg (errOffset cls) = true := by cases cls <;> simp [implemented, hb, errOffset]
  have hrefuses : s.refuses via pg (errOffset cls) d.toNat = false := by cases cls <;> simp [State.refuses, errOffset]
  have heff : effectOf via pg (errOffset cls) = fun d s => s.clearErr cls pg d := by
    cases cls <;> simp [effectOf, hb, headerEffect, errOffset]
  have hlock : errOffset cls ≠ 0x034 := by cases cls <;> decide
  show Host.Outcome.next (s.writeReg via pg (errOffset cls) d.toNat) = _
  rw [State.writeReg, State.access_done s via pg _ _ _ hd himpl hrefuses, heff]
  simp [hd, hb, hlock]

/-- Settles O16: a clear notes the bits it takes, so that the event after it is merged; an event is noted, so that the clear after it leaves
its bit. -/
theorem clearAndEventInOneCycle : Obligations.ClearAndEventInOneCycle := by
  refine ⟨fun s via e d hd hpg hb hshows hone hraised => ?_, fun s via e d hd hpg hb hshows hone => ?_⟩
  · have hmerges := State.merges_clearErr (s := s) d.toNat hb hshows
    obtain ⟨hmerged, hcorr, hcont⟩ := s.clearErr_counts e.code.cls e.code.page d.toNat
    obtain ⟨hcorr', hcont'⟩ := State.raise1_merged_class hmerges
    refine ⟨_, exec_errW1cWrite e.code.cls d hd hpg, fun hcls => ?_, State.raise1_bit _ e hb, ?_, hcorr'.trans hcorr, hcont'.trans hcont,
      State.record_clearErr_raise1 d.toNat hb hshows⟩
    · have hgone : e.code.bit ∈ s.goneBits e.code.cls e.code.page d.toNat :=
        State.mem_goneBits hcls hb ((bitAt_toNat d _).trans hone) hshows (by simpa using hraised)
      simp [s.shows_clearErr e.code _ hb, hgone]
    · rw [State.raise1_merged_count hmerges, hmerged]
  · have hmerges := State.merges_of_shows hshows
    obtain ⟨hmerged, hcorr, hcont⟩ := (s.raise1 e).clearErr_counts e.code.cls e.code.page d.toNat
    obtain ⟨hcorr', hcont'⟩ := State.raise1_merged_class hmerges
    have hkept : ((s.raise1 e).clearErr e.code.cls e.code.page d.toNat).shows e.code = true := by
      have hset : (s.raise1 e).shows e.code = true := s.raise1_bit e hb
      have hstays := State.not_mem_goneBits_of_raised d.toNat (State.raise1_merged_raised hmerges)
      simp [(s.raise1 e).shows_clearErr e.code _ hb, hset, hstays]
    refine ⟨_, exec_errW1cWrite e.code.cls d ((s.raise1_deaf e via).trans hd) hpg, hkept, ?_, hcorr.trans hcorr', hcont.trans hcont', ?_⟩
    · rw [hmerged, State.raise1_merged_count hmerges]
    · rw [State.record, State.clearErr_recs_of_shows hkept, State.raise1_merged_recs hmerges, State.recsAfterMerge_of_shows hshows]
      rfl

end Sys2Proof.Machine
end

section
/-! SUPPORT. Temperature (spec section 07, R211 to R213): two's-complement fields read back, loops that visit each entry once, what an event leaves
of the sensors and the Umpire, and the reading of the 20 sensors; with them the watch over temperature. -/

namespace Sys2Proof.Machine

/-! ## Two's-complement fields -/

theorem bitsOfInt_lt (w : Nat) (v : Int) : bitsOfInt w v < 2 ^ w := by
  have hpos : (0 : Int) < 2 ^ w := by positivity
  have hlt : ((bitsOfInt w v : Nat) : Int) < ((2 ^ w : Nat) : Int) := by
    rw [bitsOfInt, Int.toNat_of_nonneg (Int.emod_nonneg _ hpos.ne')]
    push_cast
    exact Int.emod_lt_of_pos _ hpos
  exact_mod_cast hlt

@[simp] theorem State.rd_wrI_same (s : State) (f : Field) (v : Int) : (s.wrI f v).rd f = bitsOfInt f.width v :=
  (s.rd_wr_same f _).trans (Nat.mod_eq_of_lt (bitsOfInt_lt _ _))

/-- A 16-bit integer reads back from its bits. -/
theorem signedOf_bitsOfInt_16 {v : Int} (hlo : -32768 ≤ v) (hhi : v < 32768) : signedOf 16 (bitsOfInt 16 v) = v := by
  unfold signedOf bitsOfInt
  omega

/-! ## A loop that visits each entry once -/

/-- A loop leaves what none of its rounds changes. -/
theorem foldl_untouched {σ α β : Type} (f : σ → α → σ) (get : σ → β) {l : List α} (h : ∀ s, ∀ a ∈ l, get (f s a) = get s) (s : σ) :
    get (l.foldl f s) = get s := by
  induction l generalizing s with
  | nil => rfl
  | cons a l ih => rw [List.foldl_cons, ih fun s b hb => h s b (List.mem_cons_of_mem _ hb), h s a List.mem_cons_self]

/-- What only the round of one entry changes, a loop through distinct entries changes as that round does. -/
theorem foldl_touched_once {σ α β : Type} (f : σ → α → σ) (get : σ → β) (g : β → β) {l : List α} (hl : l.Nodup) {a : α} (ha : a ∈ l)
    (hsame : ∀ s, get (f s a) = g (get s)) (hother : ∀ s, ∀ b ∈ l, b ≠ a → get (f s b) = get s) (s : σ) :
    get (l.foldl f s) = g (get s) := by
  obtain ⟨before, after, rfl⟩ := List.append_of_mem ha
  obtain ⟨-, hnodup, hdisjoint⟩ := List.nodup_append'.1 hl
  have hbefore : ∀ s, ∀ b ∈ before, get (f s b) = get s := fun s b hb =>
    hother s b (by simp [hb]) fun hba => hdisjoint hb (by simp [hba])
  have hafter : ∀ s, ∀ b ∈ after, get (f s b) = get s := fun s b hb =>
    hother s b (by simp [hb]) fun hba => (List.nodup_cons.1 hnodup).1 (hba ▸ hb)
  rw [List.foldl_append, List.foldl_cons, foldl_untouched f get hafter, hsame, foldl_untouched f get hbefore]

/-! ## Events -/

theorem State.raise1_shows (s : State) (e : Event) (hb : e.code.bit < 32) : (s.raise1 e).shows e.code = true := s.raise1_bit e hb

theorem State.raise1_sameFields (s : State) (e : Event) : sameFields (eventFields e.code) s (s.raise1 e) := fun g hg => s.raise1_rd e g hg

theorem State.raise1_sensor (s : State) (e : Event) (n : Nat) : (s.raise1 e).sensor n = s.sensor n :=
  congrArg (Tab.read Sensor.reset · n) (s.raise1_sensors e)

/-- Some event of the list is raised last. -/
theorem State.raise_eq_raise1 (s : State) {es : List Event} (h : es ≠ []) : ∃ e ∈ es, ∃ u : State, s.raise es = u.raise1 e := by
  have hne : sortEvents es ≠ [] := by
    obtain ⟨e, he⟩ := List.exists_mem_of_ne_nil es h
    exact List.ne_nil_of_mem (mem_sortEvents.2 he)
  refine ⟨_, mem_sortEvents.1 (List.getLast_mem hne), (sortEvents es).dropLast.foldl State.raise1 s, ?_⟩
  conv_lhs => rw [State.raise, ← List.dropLast_append_getLast hne, List.foldl_concat]

/-- Of the Umpire's own state an event touches only what the assertion of its pair does. -/
theorem State.raise1_ump (s : State) (e : Event) : (s.raise1 e).ump = (s.pairFor e.code).ump := by
  have hcount : ∀ u : State, (u.countEvent e.code).ump = u.ump := fun u => by
    unfold State.countEvent
    split <;> rfl
  have hlog : ∀ u : State, (u.logEvent (entryOf e s.stamp)).ump = u.ump := fun u => by
    unfold State.logEvent
    dsimp only
    split <;> rfl
  rw [State.raise1, State.raiseAt]
  split
  · rfl
  · exact (hlog _).trans (hcount _)

/-- R431: a fatal event asserts its pair, in RUN and where none is asserted. -/
theorem State.raise1_assertedAt {s : State} {e : Event} (hfatal : e.code.cls = .fatal) (hstate : s.rd Reg.UMP.STAT_STATE = 0)
    (hnone : s.ump.assertedAt = .none) : (s.raise1 e).ump.assertedAt.isSome = true := by
  have hcnt : (s.bump Reg.UMP.FATAL_CNT_EVENTS).rd Reg.UMP.STAT_STATE = 0 := (s.rd_bump_ne (by decide)).trans hstate
  simp [State.raise1_ump, State.pairFor, hfatal, State.assertPair, hcnt, hnone]

/-! ## The sensors read (R211, R212) -/

theorem sensorValid_eq_false {t : Int} : sensorValid t = false ↔ t < -2560 ∨ 9600 < t := by
  simp only [sensorValid, Bool.and_eq_false_iff, decide_eq_false_iff_not, not_le]

/-- One sensor read. -/
def State.takeReading (ts : List Int) (s : State) (n : Nat) : State :=
  ((s.setSensor n (sensorAfter (s.sensor n) (ts.getD n 0))).wrI (Reg.THM.SENS_TEMP n) (ts.getD n 0)).wrB (Reg.THM.SENS_FAULT n)
    (!sensorValid (ts.getD n 0))

/-- The 20 sensors read. -/
def State.takeReadings (s : State) (ts : List Int) : State := (List.range 20).foldl (State.takeReading ts) s

/-- The die-wide run of strokes below 110 °C after the readings. -/
def State.dieAfter (s : State) (ts : List Int) : Sensor :=
  let cool := ((List.range 20).filter fun n => sensorValid (ts.getD n 0)).all fun n => decide (ts.getD n 0 < 7040)
  let run := if cool then min ((s.sensor dieSensor).cool + 1) 16 else 0
  { s.sensor dieSensor with cool := run, trip := if 16 ≤ run then 0 else (s.sensor dieSensor).trip }

/-- The temperature of one port set. -/
def State.fillPort (valid : Nat → Bool) (s : State) (p : Nat) : State := s.wrI (Reg.THM.PORT_T p) (s.portMean valid p)

/-- The port temperatures after the readings. -/
def State.fillPorts (s : State) (valid : Nat → Bool) : State := (List.range 16).foldl (State.fillPort valid) s

/-- The events of the faulted sensors. -/
def faultEvents (ts : List Int) : List Event :=
  ((List.range 20).filter fun n => !sensorValid (ts.getD n 0)).map fun n => detail Err.THM.SENSOR (thmInfo n (ts.getD n 0))

/-- The 20 sensors read, and the die-wide run with them. -/
def State.sensorsRead (s : State) (ts : List Int) : State := (s.takeReadings ts).setSensor dieSensor ((s.takeReadings ts).dieAfter ts)

/-- The state in which the faulted sensors' events are raised. -/
def State.readingsTaken (s : State) (ts : List Int) : State :=
  ((s.sensorsRead ts).fillPorts fun n => sensorValid (ts.getD n 0)).fresh.2

theorem State.readSensors_eq (s : State) (ts : List Int) : s.readSensors ts = (s.readingsTaken ts).raise (faultEvents ts) := rfl

theorem exec_thermalRead {s : State} (ts : List Int) (hrun : s.running = true) :
    exec (.thermalRead ts) s = .next ((s.atCycle 159).readSensors ts) := by
  show execThermalRead ts s = _
  rw [execThermalRead, if_pos hrun]

theorem State.takeReading_sensor_same (ts : List Int) (s : State) (n : Nat) :
    (State.takeReading ts s n).sensor n = sensorAfter (s.sensor n) (ts.getD n 0) := by simp [State.takeReading]

theorem State.takeReading_sensor_ne (ts : List Int) (s : State) {m n : Nat} (h : m ≠ n) : (State.takeReading ts s m).sensor n = s.sensor n := by
  rw [State.takeReading, State.wrB_sensor, State.wrI_sensor, State.sensor_setSensor_ne _ _ _ _ h]

theorem State.takeReading_rd_ne (ts : List Int) (s : State) {n : Nat} {g : Field} (htemp : (Reg.THM.SENS_TEMP n).key ≠ g.key)
    (hfault : (Reg.THM.SENS_FAULT n).key ≠ g.key) : (State.takeReading ts s n).rd g = s.rd g := by
  rw [State.takeReading, State.rd_wrB_ne _ _ hfault, State.rd_wrI_ne _ _ htemp, State.setSensor_rd]

theorem State.takeReading_temp (ts : List Int) (s : State) (n : Nat) :
    (State.takeReading ts s n).rd (Reg.THM.SENS_TEMP n) = bitsOfInt 16 (ts.getD n 0) := by
  have hne : (Reg.THM.SENS_FAULT n).key ≠ (Reg.THM.SENS_TEMP n).key :=
    Field.key_ne_of_lo (by decide : 31 ≠ 0) (by decide : 31 < 32) (by decide : 0 < 32)
  exact (State.rd_wrB_ne _ _ hne).trans (State.rd_wrI_same _ _ _)

theorem State.takeReading_fault (ts : List Int) (s : State) (n : Nat) :
    (State.takeReading ts s n).rd (Reg.THM.SENS_FAULT n) = ofBool (!sensorValid (ts.getD n 0)) % 2 :=
  State.rd_wr_same _ _ _

/-- Each sensor's word is written by its own reading and by no other. -/
theorem State.takeReadings_rd {ts : List Int} {n v : Nat} {g : Field} (hn : n < 20) (hoff : g.off = 0x040 + 0x4 * n) (hlo : g.lo < 32)
    (hv : ∀ s, (State.takeReading ts s n).rd g = v) (s : State) : (s.takeReadings ts).rd g = v := by
  refine foldl_touched_once (State.takeReading ts) (State.rd · g) (fun _ => v) List.nodup_range (List.mem_range.2 hn) hv (fun s m hm hmn => ?_) s
  have hm20 := List.mem_range.1 hm
  exact s.takeReading_rd_ne ts
    (Field.key_ne_of_off (by simp [Reg.THM.SENS_TEMP]; omega) (by simp [Reg.THM.SENS_TEMP]; omega) (by omega))
    (Field.key_ne_of_off (by simp [Reg.THM.SENS_FAULT]; omega) (by simp [Reg.THM.SENS_FAULT]; omega) (by omega))

theorem State.takeReadings_sensor (s : State) (ts : List Int) {n : Nat} (hn : n < 20) :
    (s.takeReadings ts).sensor n = sensorAfter (s.sensor n) (ts.getD n 0) :=
  foldl_touched_once (State.takeReading ts) (State.sensor · n) (sensorAfter · (ts.getD n 0)) List.nodup_range (List.mem_range.2 hn)
    (fun s => s.takeReading_sensor_same ts n) (fun s _ _ hm => s.takeReading_sensor_ne ts hm) s

theorem State.fillPorts_sensor (s : State) (valid : Nat → Bool) (n : Nat) : (s.fillPorts valid).sensor n = s.sensor n :=
  foldl_untouched (State.fillPort valid) (State.sensor · n) (fun _ _ _ => rfl) s

theorem State.fillPorts_seats (s : State) (valid : Nat → Bool) : (s.fillPorts valid).seats = s.seats :=
  foldl_untouched (State.fillPort valid) State.seats (fun _ _ _ => rfl) s

theorem State.fillPorts_clk (s : State) (valid : Nat → Bool) : (s.fillPorts valid).clk = s.clk :=
  foldl_untouched (State.fillPort valid) State.clk (fun _ _ _ => rfl) s

theorem State.fillPort_rd_ne (valid : Nat → Bool) (s : State) {p : Nat} {g : Field} (hp : p < 16) (hoff : 0x0A0 + 0x4 * p ≠ g.off)
    (hg : g.off < 0x1000 ∧ g.lo < 32) : (State.fillPort valid s p).rd g = s.rd g :=
  s.rd_wrI_ne _ (Field.key_ne_of_off hoff (by simp [Reg.THM.PORT_T]; omega) hg)

/-- R212: each port's temperature is made from the sensors as they stand, which no port's changes. -/
theorem State.fillPorts_port (s : State) (valid : Nat → Bool) {p : Nat} (hp : p < 16) :
    (s.fillPorts valid).rd (Reg.THM.PORT_T p) = bitsOfInt 16 (s.portMean valid p) := by
  have hpair := foldl_touched_once (State.fillPort valid) (fun s => (s.portMean valid p, s.rd (Reg.THM.PORT_T p)))
    (fun x => (x.1, bitsOfInt 16 x.1)) List.nodup_range (List.mem_range.2 hp)
    (fun s => Prod.ext rfl (s.rd_wrI_same _ _))
    (fun s q hq hqp => Prod.ext rfl
      (s.fillPort_rd_ne valid (List.mem_range.1 hq) (by simp [Reg.THM.PORT_T, hqp]) (by simp [Reg.THM.PORT_T]; omega))) s
  exact congrArg Prod.snd hpair

theorem State.fillPorts_rd_ne (s : State) (valid : Nat → Bool) {g : Field} (hoff : g.off < 0x0A0) (hlo : g.lo < 32) :
    (s.fillPorts valid).rd g = s.rd g :=
  foldl_untouched (State.fillPort valid) (State.rd · g)
    (fun s _ hp => s.fillPort_rd_ne valid (List.mem_range.1 hp) (by omega) (by omega)) s

theorem dieSensor_ne {n : Nat} (hn : n < 20) : dieSensor ≠ n := hn.ne'

theorem State.sensorsRead_sensor (s : State) (ts : List Int) {n : Nat} (hn : n < 20) :
    (s.sensorsRead ts).sensor n = sensorAfter (s.sensor n) (ts.getD n 0) := by
  rw [State.sensorsRead, State.sensor_setSensor_ne _ _ _ n (dieSensor_ne hn), s.takeReadings_sensor ts hn]

@[simp] theorem State.fresh_rd (s : State) (g : Field) : s.fresh.2.rd g = s.rd g := rfl
@[simp] theorem State.fresh_sensor (s : State) (n : Nat) : s.fresh.2.sensor n = s.sensor n := rfl
@[simp] theorem State.fresh_seats (s : State) : s.fresh.2.seats = s.seats := rfl
@[simp] theorem State.fresh_clk (s : State) : s.fresh.2.clk = s.clk := rfl

theorem State.readingsTaken_sensor (s : State) (ts : List Int) {n : Nat} (hn : n < 20) :
    (s.readingsTaken ts).sensor n = sensorAfter (s.sensor n) (ts.getD n 0) := by
  rw [State.readingsTaken, State.fresh_sensor, State.fillPorts_sensor, s.sensorsRead_sensor ts hn]

theorem State.readingsTaken_seats (s : State) (ts : List Int) : (s.readingsTaken ts).seats = s.seats := by
  rw [State.readingsTaken, State.fresh_seats, State.fillPorts_seats, State.sensorsRead, State.setSensor_seats]
  exact foldl_untouched (State.takeReading ts) State.seats (fun _ _ _ => rfl) s

theorem State.readingsTaken_clk (s : State) (ts : List Int) : (s.readingsTaken ts).clk = s.clk := by
  rw [State.readingsTaken, State.fresh_clk, State.fillPorts_clk, State.sensorsRead, State.setSensor_clk]
  exact foldl_untouched (State.takeReading ts) State.clk (fun _ _ _ => rfl) s

theorem State.readingsTaken_rd (s : State) (ts : List Int) {g : Field} (hoff : g.off < 0x0A0) (hlo : g.lo < 32) :
    (s.readingsTaken ts).rd g = (s.takeReadings ts).rd g := by
  rw [State.readingsTaken, State.fresh_rd, State.fillPorts_rd_ne _ _ hoff hlo, State.sensorsRead, State.setSensor_rd]

/-- A port whose own sensor is valid shows that sensor's mean; of fewer than 16 readings, the mean of those there are (log entry 25). -/
theorem State.readingsTaken_port (s : State) (ts : List Int) {p : Nat} (hp : p < 16) (hvalid : sensorValid (ts.getD p 0) = true) :
    (s.readingsTaken ts).rd (Reg.THM.PORT_T p) = bitsOfInt 16 (meanOf ((ts.getD p 0 :: (s.sensor p).hist).take 16)) := by
  rw [State.readingsTaken, State.fresh_rd, State.fillPorts_port _ _ hp, State.portMean, if_pos hvalid, s.sensorsRead_sensor ts (by omega)]
  rfl

/-! ## The faulted sensors' events -/

theorem code_of_mem_faultEvents {ts : List Int} {e : Event} (he : e ∈ faultEvents ts) : e.code = Err.THM.SENSOR := by
  obtain ⟨n, -, rfl⟩ := List.mem_map.1 he
  rfl

/-- The events change no field of the sensors' words or the ports' temperatures. -/
theorem State.raise_faultEvents_rd (s : State) (ts : List Int) {g : Field} (hpage : g.page = 0x011)
    (hg : 0x020 ≤ g.off ∧ g.off < 0x1000 ∧ g.lo < 32) : (s.raise (faultEvents ts)).rd g = s.rd g := by
  refine s.raise_rd _ g fun e he f hf => ?_
  rw [code_of_mem_faultEvents he] at hf
  have hnear : f.key / 32 < 0x11020 := by
    revert f
    decide
  unfold Field.key at hnear ⊢
  omega

theorem State.raise_sensor (s : State) (es : List Event) (n : Nat) : (s.raise es).sensor n = s.sensor n :=
  State.raise_same (State.sensor · n) (fun s e => s.raise1_sensor e n) s es

/-- R212: a sensor outside −40 to 150 °C raises SENSOR. -/
theorem State.raise_faultEvents_shows (s : State) {ts : List Int} {n : Nat} (hn : n < 20) (hbad : sensorValid (ts.getD n 0) = false) :
    (s.raise (faultEvents ts)).shows Err.THM.SENSOR = true := by
  have hne : faultEvents ts ≠ [] := by
    simp only [faultEvents, ne_eq, List.map_eq_nil_iff, List.filter_eq_nil_iff, not_forall]
    exact ⟨n, List.mem_range.2 hn, by simp only [hbad, Bool.not_false, not_true_eq_false, not_false_eq_true]⟩
  obtain ⟨e, he, u, hu⟩ := s.raise_eq_raise1 hne
  have hcode := code_of_mem_faultEvents he
  have hshows := u.raise1_shows e (by rw [hcode]; decide)
  rwa [hu, ← hcode]

/-! ## The reading as a whole -/

theorem State.readSensors_seats (s : State) (ts : List Int) : (s.readSensors ts).seats = s.seats :=
  (State.raise_same State.seats State.raise1_seats _ _).trans (s.readingsTaken_seats ts)

theorem State.readSensors_clk (s : State) (ts : List Int) : (s.readSensors ts).clk = s.clk :=
  (State.raise_same State.clk State.raise1_clk _ _).trans (s.readingsTaken_clk ts)

theorem State.readSensors_sensor (s : State) (ts : List Int) {n : Nat} (hn : n < 20) :
    (s.readSensors ts).sensor n = sensorAfter (s.sensor n) (ts.getD n 0) :=
  (State.raise_sensor _ _ n).trans (s.readingsTaken_sensor ts hn)

/-- Neither the ports' temperatures nor the events change what a sensor's own reading wrote. -/
theorem State.readSensors_rd {ts : List Int} {n v : Nat} {g : Field} (hn : n < 20) (hpage : g.page = 0x011) (hoff : g.off = 0x040 + 0x4 * n)
    (hlo : g.lo < 32) (hv : ∀ s, (State.takeReading ts s n).rd g = v) (s : State) : (s.readSensors ts).rd g = v := by
  rw [State.readSensors_eq, State.raise_faultEvents_rd _ ts hpage (by omega), s.readingsTaken_rd ts (by omega) hlo]
  exact State.takeReadings_rd hn hoff hlo hv s

theorem State.readSensors_temp (s : State) (ts : List Int) {n : Nat} (hn : n < 20) (hlo : -32768 ≤ ts.getD n 0) (hhi : ts.getD n 0 < 32768) :
    (s.readSensors ts).rdI (Reg.THM.SENS_TEMP n) = ts.getD n 0 := by
  rw [State.rdI, State.readSensors_rd hn rfl rfl (by decide : 0 < 32) fun s => s.takeReading_temp ts n]
  exact signedOf_bitsOfInt_16 hlo hhi

theorem State.readSensors_fault (s : State) (ts : List Int) {n : Nat} (hn : n < 20) :
    (s.readSensors ts).flag (Reg.THM.SENS_FAULT n) = !sensorValid (ts.getD n 0) := by
  rw [State.flag, State.readSensors_rd hn rfl rfl (by decide : 31 < 32) fun s => s.takeReading_fault ts n]
  cases sensorValid (ts.getD n 0) <;> rfl

theorem State.readSensors_port (s : State) (ts : List Int) {p : Nat} (hp : p < 16) (hvalid : sensorValid (ts.getD p 0) = true) :
    (s.readSensors ts).rd (Reg.THM.PORT_T p) = bitsOfInt 16 (meanOf ((ts.getD p 0 :: (s.sensor p).hist).take 16)) := by
  rw [State.readSensors_eq, State.raise_faultEvents_rd _ ts rfl (by simp [Reg.THM.PORT_T]; omega), s.readingsTaken_port ts hp hvalid]

theorem State.readSensors_shows (s : State) {ts : List Int} {n : Nat} (hn : n < 20) (hout : ts.getD n 0 < -2560 ∨ 9600 < ts.getD n 0) :
    (s.readSensors ts).shows Err.THM.SENSOR = true :=
  State.raise_faultEvents_shows _ hn (sensorValid_eq_false.2 hout)

/-! ## The sensors' runs (R213) -/

/-- Below its end a run goes on while its condition holds, and else begins again. -/
theorem runTo_of_lt {n run : Nat} (h : run < n) (holds : Bool) : runTo n run holds = if holds then run + 1 else 0 := by
  simp [runTo, h]

theorem sensorAfter_trip {x : Sensor} {t : Int} (hrun : x.trip < 4) (ht : t ≤ 9600) :
    (sensorAfter x t).trip = if 7360 ≤ t then x.trip + 1 else 0 := by
  have hlow : 7360 ≤ t → -2560 ≤ t := by omega
  by_cases h : 7360 ≤ t <;> simp [sensorAfter, runTo_of_lt hrun, sensorValid, ht, h, hlow]

/-- A sensor set and its event raised, in cycle 159. -/
def State.detect (s : State) (n : Nat) (x : Sensor) (c : ErrCode) (info : Nat) : State := ((s.atCycle 159).setSensor n x).raise1 (detail c info)

theorem State.detect_sensor_same (s : State) (n : Nat) (x : Sensor) (c : ErrCode) (info : Nat) : (s.detect n x c info).sensor n = x :=
  (State.raise1_sensor _ _ n).trans (State.sensor_setSensor_same _ n x)

/-- A detection shows its event, and touches no other sensor and no field but the event's. -/
theorem State.detect_spec (s : State) (n : Nat) (x : Sensor) {c : ErrCode} (hb : c.bit < 32) (info : Nat) :
    (s.detect n x c info).shows c = true ∧ (s.detect n x c info).clk.cycle = 159 ∧
      (∀ m, m ≠ n → (s.detect n x c info).sensor m = s.sensor m) ∧ sameFields (eventFields c) s (s.detect n x c info) :=
  ⟨State.raise1_shows _ (detail c info) hb, by simp [State.detect],
    fun m hm => (State.raise1_sensor _ _ m).trans (State.sensor_setSensor_ne _ n x m hm.symm),
    State.raise1_sameFields ((s.atCycle 159).setSensor n x) (detail c info)⟩

theorem exec_thmHot {s : State} {n : Nat} (hrun : s.running = true) (hn : n < 20) (hhot : (s.sensor n).hot = 16) :
    exec (.thmHot n) s =
      .next (s.detect n { s.sensor n with hot := 17 } Err.THM.HOT (thmInfo n ((s.sensor n).hist.headD 0))) := by
  show execThmHot n s = _
  simp [execThmHot, hrun, hn, hhot, State.detect]

theorem exec_thmHot_of_ne {s : State} {n : Nat} (h : (s.sensor n).hot ≠ 16) : exec (.thmHot n) s = .next s := by
  show execThmHot n s = _
  simp [execThmHot, h]

theorem exec_thmCold {s : State} {n : Nat} (hrun : s.running = true) (hn : n < 20) (hcold : (s.sensor n).cold = 16) :
    exec (.thmCold n) s =
      .next (s.detect n { s.sensor n with cold := 17 } Err.THM.COLD (thmInfo n ((s.sensor n).hist.headD 0))) := by
  show execThmCold n s = _
  simp [execThmCold, hrun, hn, hcold, State.detect]

theorem exec_thmCold_of_ne {s : State} {n : Nat} (h : (s.sensor n).cold ≠ 16) : exec (.thmCold n) s = .next s := by
  show execThmCold n s = _
  simp [execThmCold, h]

/-- The state in which TRIP is raised: the sensor's run detected, and the die's condition present (Table 13.2). -/
def State.tripped (s : State) (n : Nat) : State :=
  let s := (s.atCycle 159).setSensor n { s.sensor n with trip := 5 }
  s.setSensor dieSensor { s.sensor dieSensor with trip := 1, cool := 0 }

theorem State.tripped_sensor (s : State) {n : Nat} (hn : n < 20) : (s.tripped n).sensor n = { s.sensor n with trip := 5 } := by
  rw [State.tripped, State.sensor_setSensor_ne _ _ _ n (dieSensor_ne hn), State.sensor_setSensor_same]

theorem exec_thmTrip {s : State} {n : Nat} (hrun : s.running = true) (hn : n < 20) (htrip : (s.sensor n).trip = 4) :
    exec (.thmTrip n) s = .next ((s.tripped n).raise1 (detail Err.THM.TRIP (thmInfo n ((s.sensor n).hist.headD 0)))) := by
  show execThmTrip n s = _
  simp [execThmTrip, hrun, hn, htrip, State.tripped]

theorem exec_thmTrip_of_ne {s : State} {n : Nat} (h : (s.sensor n).trip ≠ 4) : exec (.thmTrip n) s = .next s := by
  show execThmTrip n s = _
  simp [execThmTrip, h]

/-- Settles O40: each of the 20 readings touches its own sensor once; an event moves its sensor's run past the length that detects it. -/
theorem temperatureIsWatched : Obligations.TemperatureIsWatched := by
  refine ⟨fun s ts hrun => ?_, fun s n hrun hn hhot => ?_, fun s n hrun hn hcold => ?_, fun s n hrun hn htrip humpire hnone => ?_⟩
  · have hsensor : ∀ n < 20, ((s.atCycle 159).readSensors ts).sensor n = sensorAfter (s.sensor n) (ts.getD n 0) :=
      fun n hn => State.readSensors_sensor _ ts hn
    refine ⟨_, exec_thermalRead ts hrun, congrArg ClkState.cycle (State.readSensors_clk _ ts), State.readSensors_seats _ ts,
      fun n hn => State.readSensors_temp _ ts hn, fun n hn => State.readSensors_fault _ ts hn,
      fun n hn hout => State.readSensors_shows _ hn hout, fun n hn => ?_, fun n hn htrip hmax => ?_,
      fun p hp hlo hhi => State.readSensors_port _ ts hp (by simp only [sensorValid, hlo, hhi, decide_true, Bool.and_self])⟩
    · rw [hsensor n hn]
      rfl
    · rw [hsensor n hn, sensorAfter_trip htrip hmax]
  · obtain ⟨hshows, hcycle, hothers, hfields⟩ := s.detect_spec n { s.sensor n with hot := 17 } (c := Err.THM.HOT) (by decide)
      (thmInfo n ((s.sensor n).hist.headD 0))
    exact ⟨_, exec_thmHot hrun hn hhot, hshows, hcycle, exec_thmHot_of_ne (by simp [State.detect_sensor_same]), hothers, hfields⟩
  · obtain ⟨hshows, hcycle, hothers, hfields⟩ := s.detect_spec n { s.sensor n with cold := 17 } (c := Err.THM.COLD) (by decide)
      (thmInfo n ((s.sensor n).hist.headD 0))
    exact ⟨_, exec_thmCold hrun hn hcold, hshows, hcycle, exec_thmCold_of_ne (by simp [State.detect_sensor_same]), hothers, hfields⟩
  · refine ⟨_, exec_thmTrip hrun hn htrip, State.raise1_shows _ _ (by decide : 0 < 32), State.raise1_assertedAt rfl humpire hnone,
      exec_thmTrip_of_ne ?_, State.raise1_sameFields (s.tripped n) (detail Err.THM.TRIP _)⟩
    simp [State.raise1_sensor, s.tripped_sensor hn]

end Sys2Proof.Machine
end

section
/-! SUPPORT. Buoys (spec section 10, R363): the held half of a pair as a write to its upper half finds it (R105), what a write that LOCK does not
refuse does, and a buoy set; with them the writes of the buoy registers. -/

namespace Sys2Proof.Machine

/-! ## Pairs (R105) -/

@[simp] theorem State.path_setPath_same (s : State) (v : Path) (x : PathState) : (s.setPath v x).path v = x := Tab.read_write_same _ _ _ _

/-- The lower half held for a pair goes with the write to its upper half. -/
theorem State.pairLow_of_held {s : State} {v : Path} {a : Nat} {lo : Word} (h : (s.path v).held = some (a, lo)) :
    s.pairLow v a = (lo.toNat, s.setPath v { s.path v with held := .none }) := by
  simp [State.pairLow, h]

/-- A write to the upper half that finds nothing held takes 0 for the lower. -/
theorem State.pairLow_of_none {s : State} {v : Path} (a : Nat) (h : (s.path v).held = .none) : s.pairLow v a = (0, s) := by
  simp [State.pairLow, h]

/-- Taking a lower half touches the path alone. -/
theorem State.pairLow_cases (s : State) (v : Path) (a : Nat) :
    (s.pairLow v a).2 = s ∨ (s.pairLow v a).2 = s.setPath v { s.path v with held := .none } := by
  cases h : (s.path v).held with
  | none => exact .inl (by rw [State.pairLow_of_none a h])
  | some p =>
    by_cases ha : p.1 = a
    · exact .inr (by simp [State.pairLow, h, ha])
    · exact .inl (by simp [State.pairLow, h, ha])

theorem State.pairLow_regs (s : State) (v : Path) (a : Nat) : (s.pairLow v a).2.regs = s.regs := by
  rcases s.pairLow_cases v a with h | h <;> simp [h]

theorem State.pairLow_buoyVal (s : State) (v : Path) (a j : Nat) : (s.pairLow v a).2.buoyVal j = s.buoyVal j := by
  rcases s.pairLow_cases v a with h | h <;> simp [h]

/-! ## A write that LOCK does not refuse (R115) -/

theorem State.refuses_of_not_locked {s : State} {v : Path} {pg : Nat} (off data : Nat) (h : s.locked v pg = false) :
    s.refuses v pg off data = false := by
  simp [State.refuses, h]

theorem State.access_of_not_locked {s : State} {v : Path} {pg off : Nat} (data : Nat) (eff : Nat → State → State) (hd : s.deaf v = false)
    (hi : implemented pg off = true) (hl : s.locked v pg = false) : s.access v pg off data eff = eff data s :=
  s.access_done v pg off data eff hd hi (State.refuses_of_not_locked off data hl)

/-! ## A buoy set (R365) -/

@[simp] theorem State.buoySet_buoyVal_same (s : State) (k : Nat) (v : DWord) : (s.buoySet k v).buoyVal k = v := s.buoyVal_setBuoyVal_same k v

theorem State.buoySet_buoyVal_ne (s : State) {k j : Nat} (v : DWord) (h : j ≠ k) : (s.buoySet k v).buoyVal j = s.buoyVal j :=
  s.buoyVal_setBuoyVal_ne k v j h.symm

@[simp] theorem State.buoySet_path (s : State) (k : Nat) (v : DWord) (via : Path) : (s.buoySet k v).path via = s.path via := rfl
@[simp] theorem State.buoySet_regs (s : State) (k : Nat) (v : DWord) : (s.buoySet k v).regs = s.regs := rfl

/-- An ADD leaves the sum in its buoy (R362). -/
theorem State.buoyOp_add (s : State) (k : Nat) (v : DWord) : s.buoyOp k 1 v = s.buoySet k (s.buoyVal k + v) := rfl

/-! ## The buoy registers (R363) -/

theorem implemented_buoyValHi : ∀ k : Fin 64, implemented 0x00B (0x104 + 8 * k.val) = true := by decide

theorem implemented_buoyAddHi : implemented 0x00B 0x04C = true := by decide

theorem exec_buoySetWrite {s : State} {via : Path} (k : Fin 64) (hi : Word) (hd : s.deaf via = false) (hl : s.locked via 0x00B = false) :
    exec (.buoySetWrite via k hi) s = .next (s.wrBuoyVal via k.val hi.toNat) :=
  congrArg Host.Outcome.next (State.access_of_not_locked hi.toNat (State.wrBuoyVal via k.val) hd (implemented_buoyValHi k) hl)

theorem exec_buoyAddWrite {s : State} {via : Path} (hi : Word) (hd : s.deaf via = false) (hl : s.locked via 0x00B = false) :
    exec (.buoyAddWrite via hi) s = .next (s.wrBuoyAdd via hi.toNat) :=
  congrArg Host.Outcome.next (State.access_of_not_locked hi.toNat (State.wrBuoyAdd via) hd implemented_buoyAddHi hl)

/-- The pair of a write to VALk_HI and the lower half held for VALk_LO is buoy k's value, and the half is held no more. -/
theorem State.wrBuoyVal_of_held {s : State} {via : Path} {k : Nat} {lo : Word} (data : Nat)
    (h : (s.path via).held = some (0x00B * 0x1000 + 0x100 + 8 * k, lo)) :
    s.wrBuoyVal via k data =
      (s.setPath via { s.path via with held := .none }).buoySet k (BitVec.ofNat 64 (data * 2 ^ 32 + lo.toNat)) := by
  rw [State.wrBuoyVal, State.pairLow_of_held h]

theorem State.wrBuoyVal_of_none {s : State} {via : Path} (k data : Nat) (h : (s.path via).held = .none) :
    s.wrBuoyVal via k data = s.buoySet k (BitVec.ofNat 64 (data * 2 ^ 32)) := by
  rw [State.wrBuoyVal, State.pairLow_of_none _ h, Nat.add_zero]

/-- Whatever is held, a write to VALk_HI touches no other buoy. -/
theorem State.wrBuoyVal_buoyVal_ne (s : State) (via : Path) {k j : Nat} (data : Nat) (h : j ≠ k) :
    (s.wrBuoyVal via k data).buoyVal j = s.buoyVal j :=
  (State.buoySet_buoyVal_ne _ _ h).trans (s.pairLow_buoyVal via (0x00B * 0x1000 + 0x100 + 8 * k) j)

theorem State.wrBuoyVal_regs (s : State) (via : Path) (k data : Nat) : (s.wrBuoyVal via k data).regs = s.regs :=
  (State.buoySet_regs _ _ _).trans (s.pairLow_regs via (0x00B * 0x1000 + 0x100 + 8 * k))

/-- The state a write to ADD_HI adds in: the lower half held for ADD_LO taken from its path, and both halves in their registers. -/
def State.addPairTaken (s : State) (via : Path) (lo : Word) (data : Nat) : State :=
  ((s.setPath via { s.path via with held := .none }).wr Reg.BUO.ADD_LO lo.toNat).wr Reg.BUO.ADD_HI data

theorem State.addPairTaken_buoyVal (s : State) (via : Path) (lo : Word) (data j : Nat) :
    (s.addPairTaken via lo data).buoyVal j = s.buoyVal j := rfl

theorem State.addPairTaken_held (s : State) (via : Path) (lo : Word) (data : Nat) : ((s.addPairTaken via lo data).path via).held = .none :=
  congrArg PathState.held (s.path_setPath_same via { s.path via with held := .none })

/-- The pair's registers stand apart from ADD_SEL, so the buoy added to is the one selected before the write. -/
theorem State.addPairTaken_sel (s : State) (via : Path) (lo : Word) (data : Nat) :
    (s.addPairTaken via lo data).rd Reg.BUO.ADD_SEL = s.rd Reg.BUO.ADD_SEL := by
  rw [State.addPairTaken, State.rd_wr_ne _ _ (by decide), State.rd_wr_ne _ _ (by decide), State.setPath_rd]

theorem State.wrBuoyAdd_of_held {s : State} {via : Path} {lo : Word} (data : Nat) (h : (s.path via).held = some (0x00B * 0x1000 + 0x048, lo)) :
    s.wrBuoyAdd via data = (s.addPairTaken via lo data).buoySet (s.rd Reg.BUO.ADD_SEL)
      (s.buoyVal (s.rd Reg.BUO.ADD_SEL) + BitVec.ofNat 64 (data * 2 ^ 32 + lo.toNat)) := by
  rw [State.wrBuoyAdd, State.pairLow_of_held h]
  show (s.addPairTaken via lo data).buoyOp ((s.addPairTaken via lo data).rd Reg.BUO.ADD_SEL) 1 _ = _
  rw [State.addPairTaken_sel, State.buoyOp_add, State.addPairTaken_buoyVal]

/-- Settles O56: the pair a write commits is the held lower half of its own register, else 0, under the data; it reaches one buoy, and ADD_SEL
names that buoy as it stood before the write. -/
theorem buoyRegisterWrites : Obligations.BuoyRegisterWrites := by
  refine ⟨fun s via k hi hd hl => ?_, fun s via hi lo hd hl hheld => ?_⟩
  · refine ⟨_, exec_buoySetWrite k hi hd hl, fun lo hheld => ?_, fun hnone => ?_, fun j hj => s.wrBuoyVal_buoyVal_ne via _ hj,
      s.wrBuoyVal_regs via _ _⟩
    · rw [State.wrBuoyVal_of_held _ hheld]
      exact ⟨State.buoySet_buoyVal_same _ _ _, congrArg PathState.held (s.path_setPath_same via _)⟩
    · rw [State.wrBuoyVal_of_none _ _ hnone, State.buoySet_buoyVal_same]
  · refine ⟨_, exec_buoyAddWrite hi hd hl, ?_⟩
    rw [State.wrBuoyAdd_of_held _ hheld]
    exact ⟨State.buoySet_buoyVal_same _ _ _, fun j hj => State.buoySet_buoyVal_ne _ _ hj, s.addPairTaken_held via lo hi.toNat⟩

end Sys2Proof.Machine
end

section
/-! SUPPORT. The commands and the stroke (spec section 02): what a command within a stroke leaves alone, command by command, and what those of the
TAP and those that begin a stroke or begin or end a full reset leave; with them the queue and the cycle, the stroke and the TAP. -/

namespace Sys2Proof.Machine

/-! ## Within a stroke -/

/-- Where a command within a stroke leaves the die: the fuses, the queue, the TAP, ALIVE and the stroke as they were, in a control cycle of the
same stroke. -/
def Within (s t : State) : Prop := ∃ n, t.still = (s.atCycle n).still ∧ (s.clk.cycle < 1280 → n < 1280)

theorem Within.of_still {s t : State} (h : t.still = s.still) : Within s t := ⟨s.clk.cycle, h, id⟩

theorem Within.refl (s : State) : Within s s := .of_still rfl

theorem Within.at {s t : State} {n : Nat} (hn : n < 1280) (h : t.still = (s.atCycle n).still) : Within s t := ⟨n, h, fun _ => hn⟩

theorem Within.ite {s a b : State} {c : Prop} [Decidable c] (ha : Within s a) (hb : Within s b) : Within s (if c then a else b) := by
  split <;> assumption

theorem atCycle_still_congr {s t : State} (h : t.still = s.still) (n : Nat) : (t.atCycle n).still = (s.atCycle n).still := by
  simp only [State.still, Prod.mk.injEq] at h ⊢
  simp [State.atCycle, h]

theorem Within.trans {s t u : State} (h : Within s t) (h' : Within t u) : Within s u := by
  obtain ⟨n, ht, hn⟩ := h
  obtain ⟨m, hu, hm⟩ := h'
  have hcycle : t.clk.cycle = n := congrArg (·.2.2.2.2.2.2.2) ht
  exact ⟨m, hu.trans (atCycle_still_congr ht m), fun h => hm (hcycle ▸ hn h)⟩

theorem within_atCycle (s : State) {n : Nat} (hn : n < 1280) : Within s (s.atCycle n) := .at hn rfl

theorem within_atCycle_max (s : State) {n : Nat} (hn : n < 1280) : Within s (s.atCycle (max n s.clk.cycle)) := ⟨_, rfl, fun h => max_lt hn h⟩

theorem Within.still {s t u : State} (h : Within s t) (hu : u.still = t.still) : Within s u := h.trans (.of_still hu)

/-- A register write whose effect stays within the stroke does so whatever LOCK makes of it. -/
theorem access_within {s : State} {v : Path} {pg off data : Nat} {eff : Nat → State → State} (h : ∀ d s, (eff d s).still = s.still) :
    Within s (s.access v pg off data eff) := .of_still (State.access_still s v pg off data eff h)

/-! ## Commands, one by one -/

theorem State.bankWithdraw_still (l : List Nat) (s : State) :
    (l.foldl (fun s k => if s.mayWithdraw k && decide (64 ≤ (s.chan (seatChanKey k)).refRun) then s.withdraw k else s) s).still = s.still :=
  foldl_still _ l s fun s k => by simp only [ite_still, State.withdraw_still, ite_self]

theorem execLossOfLock_within (u : SeatId) (s : State) : ∃ t, execLossOfLock u s = .next t ∧ Within s t := by
  refine ⟨_, rfl, .ite ?_ (.refl s)⟩
  dsimp only
  refine .ite (.at (n := 319) (by decide) ?_) (.ite (.at (n := 319) (by decide) ?_) (.refl s))
  · split <;> simp only [State.bump_still, State.dropVisit_still, State.raise1_still, State.pend_still, State.laneLeaves_still]
  · split <;> simp only [State.bump_still, State.setSeat_still, State.raise1_still, State.lossAfterWithdraw_still]

theorem execBankRefWithdraw_within (p : Fin 16) (bank : Nat) (s : State) : ∃ t, execBankRefWithdraw p bank s = .next t ∧ Within s t :=
  ⟨_, rfl, .ite (.at (n := 159) (by decide) (State.bankWithdraw_still _ _)) (.refl s)⟩

theorem execDriverStart_within (p : Fin 16) (s : State) : ∃ t, execDriverStart p s = .next t ∧ Within s t := by
  refine ⟨_, rfl, ?_⟩
  dsimp only
  split
  · exact .refl s
  · exact .ite (.at (n := 960) (by decide) (by simp only [State.setSeat_still, State.setLaneSt_still])) (.refl s)

theorem execLaneOperationsIssue_within (p : Fin 16) (s : State) : ∃ t, execLaneOperationsIssue p s = .next t ∧ Within s t :=
  ⟨_, rfl, .ite ((within_atCycle_max s (by decide)).still (State.issueLaneOps_still _ _)) (.refl s)⟩

theorem solveMiss_within (s : State) : Within s (s.atCycle 960).solveMiss := .at (by decide) (State.solveMiss_still _)

theorem solveEnds_within (s : State) (n : Nat) : Within s (if n ≤ 959 then s.solveDone n else (s.atCycle 960).solveMiss) :=
  .ite (.of_still (State.solveDone_still s n)) (solveMiss_within s)

theorem execThermalSolve_within (n : Nat) (fault : SolveFault) (s : State) : ∃ t, execThermalSolve n fault s = .next t ∧ Within s t := by
  refine ⟨_, rfl, .ite ?_ (.refl s)⟩
  refine (within_atCycle s (by omega : min n 959 < 1280)).trans ?_
  dsimp only
  split
  · exact solveEnds_within _ n
  · exact (Within.of_still (State.raise1_still _ _)).trans (solveEnds_within _ n)
  · exact (Within.of_still (by simp only [State.raise1_still, State.markDirty_still])).trans (solveMiss_within _)
  · exact .of_still (by simp only [upd_still, State.enterRebuild_still])

theorem execDeltaListApply_within (s : State) : ∃ t, execDeltaListApply s = .next t ∧ Within s t := by
  refine ⟨_, rfl, .ite (.at (n := 1040) (by decide) ?_) (.refl s)⟩
  dsimp only
  split
  · exact (foldl_still _ _ _ State.applyList_still).trans (by simp only [upd_still])
  · rfl

theorem execBlockRefactor_within (fault : SolveFault) (s : State) : ∃ t, execBlockRefactor fault s = .next t ∧ Within s t := by
  refine ⟨_, rfl, ?_⟩
  split
  · refine (within_atCycle_max s (n := 1040) (by decide)).still ?_
    split <;> simp only [State.refactorDone_still, State.raise1_still, State.markDirty_still, State.enterRebuild_still]
  · exact .refl s

theorem execBaIteration_within (ok : Bool) (update : List Int) (s : State) : ∃ t, execBaIteration ok update s = .next t ∧ Within s t := by
  refine ⟨_, rfl, ?_⟩
  split
  · exact .refl s
  · refine .ite (.at (n := 959) (by decide) ?_) (.refl s)
    simp only [State.baAbandon_still, State.baAccept_still, State.wr_still, upd_still, ite_still, ite_self]

theorem execCalibrationStep_within (u : SeatId) (r : StepResult) (delta : List DeltaEntry) (s : State) :
    ∃ t, execCalibrationStep u r delta s = .next t ∧ Within s t := by
  refine ⟨_, rfl, ?_⟩
  dsimp only
  split
  · exact .refl s
  · split
    · exact .refl s
    · refine .ite (.at (n := 959) (by decide) ?_) (.refl s)
      simp only [State.skipStep_still, State.setVisit_still, State.queueDelta_still, ite_still, ite_self]

theorem execVisitEnd_within (u : SeatId) (s : State) : ∃ t, execVisitEnd u s = .next t ∧ Within s t := by
  refine ⟨_, rfl, ?_⟩
  dsimp only
  split
  · exact .refl s
  · split
    · exact .refl s
    · refine .ite (.at (n := 960) (by decide) ?_) (.refl s)
      simp only [ite_still, State.advancePass_still, ite_self]
      split <;> simp only [State.dropVisit_still, State.visitLive_still, State.renewSet_still, State.latchOutputs_still, State.bump_still,
        State.pend_still, State.raise1_still]

/-- The slots of the store's words lie in the Recovery (R33). -/
theorem nvsSlot_within {s t : State} {n : Nat} (hn : n < 4) (h : t.still = (s.atCycle (1040 + 56 * n)).still) : Within s t :=
  .at (by omega) h

theorem execNvsWordWrite_within (bad : Option (Fin 32)) (s : State) : ∃ t, execNvsWordWrite bad s = .next t ∧ Within s t := by
  refine ⟨_, rfl, ?_⟩
  split
  · rename_i h
    have hslot : s.nvs.slot < 4 := by simpa using (Bool.and_eq_true_iff.1 h).2
    have hown : ∀ w, Within s (State.ownWord { s.atCycle (1040 + 56 * s.nvs.slot) with nvs := { s.nvs with slot := s.nvs.slot + 1 } } w bad) :=
      fun w => nvsSlot_within hslot (by simp only [State.ownWord_still, upd_still])
    have hcmd : ∀ c, Within s (State.cmdWord { s.atCycle (1040 + 56 * s.nvs.slot) with nvs := { s.nvs with slot := s.nvs.slot + 1 } } c bad) :=
      fun c => nvsSlot_within hslot (by simp only [State.cmdWord_still, upd_still])
    dsimp only
    split
    · exact .ite (hown _) (.refl s)
    · exact .ite (hown _) (.ite (hcmd _) (.refl s))
    · exact .ite (hcmd _) (.refl s)
    · exact .refl s
  · exact .refl s

theorem State.enterSafe_within (s : State) (st : Nat) (cause at_ : Stamp) : Within s (s.enterSafe st cause at_) := by
  have hclock : Within s (if at_.cycle = 0x7FF ∨ at_.stroke ≠ s.clk.stroke then s else s.atCycle (max s.clk.cycle (min at_.cycle 1279))) :=
    .ite (.refl s) ⟨_, rfl, fun h => max_lt h (by omega)⟩
  refine hclock.still ?_
  rw [State.enterSafe, State.linksSafe_still, State.retireWaiting_still, State.coxSafe_still, State.flumeSafe_still]
  simp only [ite_still, State.baAbandon_still, ite_self, State.nvsSafe_still, State.seatsSafe_still, State.shutAll_still, upd_still,
    State.bump_still, State.wrPair_still, State.wr_still]

theorem execSafeStateEntry_within (s : State) : ∃ t, execSafeStateEntry s = .next t ∧ Within s t := by
  refine ⟨_, rfl, ?_⟩
  split
  · exact .refl s
  · exact .ite (State.enterSafe_within _ _ _ _) (.refl s)

theorem execSelfParity_within (s : State) : ∃ t, execSelfParity s = .next t ∧ Within s t := by
  refine ⟨_, rfl, .ite (.refl s) ?_⟩
  refine (Within.of_still (State.raise1_still s _)).trans (.ite (.of_still (State.wr_still _ _ _)) (State.enterSafe_within _ _ _ _))

theorem execLogbookWrite_within (s : State) : ∃ t, execLogbookWrite s = .next t ∧ Within s t := by
  refine ⟨_, rfl, ?_⟩
  split
  · exact .refl s
  · dsimp only
    split
    · rename_i e _ _ h
      have hslot : s.logSlot e < 60 := by simpa using (Bool.and_eq_true_iff.1 h).2
      exact .at (n := 1040 + 4 * s.logSlot e) (by omega) (by simp only [upd_still, State.bump_still])
    · exact .refl s

theorem execActuatorSetLive_within (s : State) : ∃ t, execActuatorSetLive s = .next t ∧ Within s t := by
  refine ⟨_, rfl, .ite (.at (n := 960) (by decide) ?_) (.refl s)⟩
  rw [State.flumeFinish_still, foldl_still _ _ _ State.addFeedforward_still]
  simp only [State.darkFinish_still, State.latchOutputs_still, State.lvlFinish_still]

theorem execMarkerDecision_within (pulse : Bool) (count : BitVec 48) (crc : BitVec 8) (s : State) :
    ∃ t, execMarkerDecision pulse count crc s = .next t ∧ Within s t := by
  refine ⟨_, rfl, .ite (.refl s) (.ite (.of_still (State.acquireWord_still _ _ _)) (.at (n := 464) (by decide) ?_))⟩
  simp only [ite_still, State.markerWord_still, State.markerMiss_still, ite_self]
theorem execRdata_within (c : Fin 8) (h : FlitHdr) (bytes : List Byte) (s : State) : ∃ t, execRdata c h bytes s = .next t ∧ Within s t :=
  ⟨_, rfl, .of_still <| State.sequenced_still _ _ _ _ fun t => by simp only [State.flushWaiting_still, State.readStream_still]⟩

theorem execWdone_within (c : Fin 8) (h : FlitHdr) (count : Nat) (s : State) : ∃ t, execWdone c h count s = .next t ∧ Within s t :=
  ⟨_, rfl, .of_still <| State.sequenced_still _ _ _ _ fun _ => State.writesDone_still ..⟩

theorem execRerr_within (c : Fin 8) (h : FlitHdr) (w : Bool) (reason count : Nat) (s : State) :
    ∃ t, execRerr c h w reason count s = .next t ∧ Within s t :=
  ⟨_, rfl, .of_still <| State.sequenced_still _ _ _ _ fun t => by simp only [State.flushWaiting_still, State.reqsFail_still]⟩

theorem execInval_within (c : Fin 8) (h : FlitHdr) (lines : List Nat) (s : State) : ∃ t, execInval c h lines s = .next t ∧ Within s t :=
  ⟨_, rfl, .of_still <| State.sequenced_still _ _ _ _ fun t => by
    simp only [ite_still, State.staleFills_still, State.dropLines_still, State.culvProtocol_still, ite_self]⟩

theorem execSendData_within (rx : RxRead) (s : State) : ∃ t, execSendData rx s = .next t ∧ Within s t :=
  ⟨_, rfl, .of_still <| State.onMsg_still _ _ _ _ fun t n m r => by simp only [State.land_still, State.rxFault_still]⟩

theorem execFetchReq_within (p : Fin 16) (s : State) : ∃ t, execFetchReq p s = .next t ∧ Within s t :=
  ⟨_, rfl, .of_still <| State.onMsg_still _ _ _ _ fun _ _ _ _ => State.answerFetch_still ..⟩

theorem execFetchData_within (rx : RxRead) (s : State) : ∃ t, execFetchData rx s = .next t ∧ Within s t := by
  refine ⟨_, rfl, .of_still <| State.onMsg_still _ _ _ _ fun t n m r => ?_⟩
  dsimp only
  split
  · split <;> simp only [State.fetchedFor_still, State.fetched_still, State.rxFault_still]
  · simp only [State.consumeMsg_still, State.rxFault_still]

theorem execXferDone_within (p : Fin 16) (s : State) : ∃ t, execXferDone p s = .next t ∧ Within s t := by
  refine ⟨_, rfl, .of_still <| State.onMsg_still _ _ _ _ fun t n m r => ?_⟩
  cases r <;> simp only [State.takeAnswer_still, State.consumeMsg_still]

theorem execBuoyOp_within (p : Fin 16) (s : State) : ∃ t, execBuoyOp p s = .next t ∧ Within s t :=
  ⟨_, rfl, .of_still <| State.onMsg_still _ _ _ _ fun _ _ _ _ => State.takeBuoyOp_still ..⟩

theorem execTallyImg_within (p : Fin 16) (s : State) : ∃ t, execTallyImg p s = .next t ∧ Within s t :=
  ⟨_, rfl, .of_still <| State.onMsg_still _ _ _ _ fun _ _ _ _ => State.takeImage_still ..⟩

theorem execTallyRes_within (p : Fin 16) (s : State) : ∃ t, execTallyRes p s = .next t ∧ Within s t :=
  ⟨_, rfl, .of_still <| State.onMsg_still _ _ _ _ fun _ _ _ _ => State.takeResult_still ..⟩

theorem execParam0_within (p : Fin 16) (tag : BitVec 4) (arg : BitVec 48) (s : State) : ∃ t, execParam0 p tag arg s = .next t ∧ Within s t :=
  ⟨_, rfl, .of_still <| State.onParam_still _ _ _ _ _ _ _ fun t => by simp only [State.wr_still, State.setLink_still]⟩

theorem execParamMap_within (p : Fin 16) (tag : BitVec 4) (arg : BitVec 48) (s : State) :
    ∃ t, execParamMap p tag arg s = .next t ∧ Within s t :=
  ⟨_, rfl, .of_still <| State.onParam_still _ _ _ _ _ _ _ fun _ => State.setLink_still ..⟩

theorem execParamCred_within (p : Fin 16) (tag : BitVec 4) (arg : BitVec 48) (s : State) :
    ∃ t, execParamCred p tag arg s = .next t ∧ Within s t :=
  ⟨_, rfl, .of_still <| State.onParam_still _ _ _ _ _ _ _ fun _ => State.wr_still ..⟩

theorem execLaneDrop_within (p : Fin 16) (tag : BitVec 4) (arg : BitVec 48) (s : State) : ∃ t, execLaneDrop p tag arg s = .next t ∧ Within s t :=
  ⟨_, rfl, .of_still <| State.onLane_still _ _ _ _ fun _ _ _ => State.onOp_still _ _ _ _ _ fun t => by
    simp only [State.checkNarrow_still, State.assign_still, State.peerMoved_still]⟩

theorem execLaneAdd_within (p : Fin 16) (tag : BitVec 4) (arg : BitVec 48) (s : State) : ∃ t, execLaneAdd p tag arg s = .next t ∧ Within s t :=
  ⟨_, rfl, .of_still <| State.onLane_still _ _ _ _ fun _ _ _ => State.onOp_still _ _ _ _ _ fun t => by
    simp only [ite_still2, State.assign_still, State.peerMoved_still, ite_self]⟩

theorem execLaneSwap_within (p : Fin 16) (tag : BitVec 4) (arg : BitVec 48) (s : State) : ∃ t, execLaneSwap p tag arg s = .next t ∧ Within s t :=
  ⟨_, rfl, .of_still <| State.onLane_still _ _ _ _ fun _ _ _ => State.onOp_still _ _ _ _ _ fun t => by
    simp only [ite_still2, State.assign_still, State.peerMoved_still, ite_self]⟩

theorem peerAsks_within (p : Fin 16) (op tag : Nat) (act : LaneAct) (arg : BitVec 48) (s : State) :
    Within s (s.onLane p.val arg fun s lane _ => s.onOp p.val op tag fun t => (false, t.peerAsks p.val lane act)) :=
  .of_still <| State.onLane_still _ _ _ _ fun _ _ _ => State.onOp_still _ _ _ _ _ fun _ => State.peerAsks_still ..

theorem execDrainReq_within (p : Fin 16) (tag : BitVec 4) (arg : BitVec 48) (s : State) : ∃ t, execDrainReq p tag arg s = .next t ∧ Within s t :=
  ⟨_, rfl, .ite (.of_still <| State.onOp_still _ _ _ _ _ fun t => by simp only [ite_still, State.linkTo_still, ite_self]) (.refl s)⟩

theorem execFanEnter_within (p : Fin 16) (tag : BitVec 4) (arg : BitVec 48) (s : State) : ∃ t, execFanEnter p tag arg s = .next t ∧ Within s t := by
  refine ⟨_, rfl, .ite (.of_still <| State.onOp_still _ _ _ _ _ fun t => ?_) (.refl s)⟩
  split
  · rfl
  · split
    · exact pair_still ‹_ = (_, _)› (State.allocate_still ..)
    · simp only [State.wr_still, State.enterFanRx_still]
      exact pair_still ‹_ = (_, _)› (State.allocate_still ..)

theorem execFanExit_within (p : Fin 16) (tag : BitVec 4) (arg : BitVec 48) (s : State) : ∃ t, execFanExit p tag arg s = .next t ∧ Within s t :=
  ⟨_, rfl, .ite (.of_still <| State.onOp_still _ _ _ _ _ fun t => by simp only [ite_still, State.leaveFanRx_still, ite_self]) (.refl s)⟩

theorem execRefclkLoss_within (s : State) : ∃ t, execRefclkLoss s = .next t ∧ Within s t :=
  ⟨_, rfl, .ite (.refl s) (.ite (.of_still (State.wr_still ..)) (.of_still (State.raise1_still ..)))⟩

theorem execRstact_within (target : Option (BitVec 7)) (action : Byte) (s : State) : ∃ t, execRstact target action s = .next t ∧ Within s t := by
  refine ⟨_, rfl, .of_still ?_⟩
  cases target with
  | some a => exact State.ccc_still _ _ _ _ fun _ => State.wr_still ..
  | none => simp only [ite_still, State.busAnswer_still, State.wr_still, State.endXfer_still, ite_self]

theorem execSearchMemberTimeout_within (u : SeatId) (delta : List DeltaEntry) (s : State) :
    ∃ t, execSearchMemberTimeout u delta s = .next t ∧ Within s t := by
  refine ⟨_, rfl, .ite (.of_still ?_) (.refl s)⟩
  dsimp only
  split <;> simp only [State.seatFails_still, State.tryMember_still, State.markUnusable_still]

theorem execLaneAddDeadline_within (p : Fin 16) (lane : Nat) (s : State) : ∃ t, execLaneAddDeadline p lane s = .next t ∧ Within s t := by
  refine ⟨_, rfl, .of_still ?_⟩
  dsimp only
  split
  · simp only [State.outcome_still, State.setLaneSt_still]
  · split
    · simp only [State.outcome_still, State.setLaneSt_still]
    · rfl

theorem execDatumAcquireEnd_within (pwr : Int) (locked : Bool) (scale ringCode : BitVec 16) (ofs : List (Option Int)) (s : State) :
    ∃ t, execDatumAcquireEnd pwr locked scale ringCode ofs s = .next t ∧ Within s t := by
  have hlines : ((s.gridOffsets ofs).foldl (fun s x => s.wrI (Reg.DTM.LINE_OFS x.1) x.2) s).still = s.still :=
    foldl_still _ _ s fun _ _ => State.wrI_still ..
  refine ⟨_, rfl, .ite (.of_still ?_) (.refl s)⟩
  simp only [ite_still, State.datumReject_still, State.raise1_still, upd_still, State.wrPair_still, State.datumTo_still, hlines, ite_self]

theorem execVisitStart_within (u : SeatId) (s : State) : ∃ t, execVisitStart u s = .next t ∧ Within s t := by
  refine ⟨_, rfl, .of_still ?_⟩
  simp only [ite_still, State.startVisit_still]
  split
  · split
    · rfl
    · split
      · rfl
      · simp only [ite_still, upd_still, State.startVisit_still, ite_self]
  · rfl

theorem execHeldExpired_within (s : State) : ∃ t, execHeldExpired s = .next t ∧ Within s t := by
  refine ⟨_, rfl, .ite (.of_still ?_) (.refl s)⟩
  rw [State.settle_still, foldl_still _ _ _ State.expire_still, State.releaseAll_still]

theorem execPoolExhausted_within (job : Nat) (s : State) : ∃ t, execPoolExhausted job s = .next t ∧ Within s t := by
  refine ⟨_, rfl, .of_still ?_⟩
  split
  · rfl
  · split
    · rfl
    · dsimp only
      split
      · rfl
      · split
        · simp only [State.settle_still, State.complete_still, State.dropJob_still, State.freeExtent_still, State.raise1_still]
        · simp only [State.settle_still, State.complete_still, State.dropJob_still]
          split <;> simp only [State.raise1_still, ite_still, State.closeRound_still, State.setRound_still, ite_self]
        · rfl

theorem execUnstashVerify_within (read : JobRead) (s : State) : ∃ t, execUnstashVerify read s = .next t ∧ Within s t := by
  refine ⟨_, rfl, .of_still ?_⟩
  split
  · rfl
  · rename_i j _
    have hlost : (match j.page with
        | .none => s
        | some pg => read.lost.foldl (fun s l => s.restoreUe read.job pg.1 l) s).still = s.still := by
      split
      · rfl
      · exact foldl_still _ _ _ fun _ _ => State.restoreUe_still ..
    split
    · rfl
    · dsimp only
      split
      · rw [State.settle_still]
        split
        · exact hlost
        · split
          · exact (State.unstashCheck_still ..).trans hlost
          · exact hlost
      · rfl

theorem execTallyImgSend_within (round : Nat) (s : State) : ∃ t, execTallyImgSend round s = .next t ∧ Within s t := by
  refine ⟨_, rfl, .of_still ?_⟩
  split
  · rfl
  · rename_i x _
    have hnodes : ∀ ns b t, s.nodesKnown ns = (b, t) → t.still = s.still := fun ns b t h => pair_still h (State.nodesKnown_still ..)
    split
    · rfl
    · split
      · split
        · exact (State.settle_still _).trans (hnodes _ _ _ ‹_›)
        · simp only [State.settle_still, State.roundResult_still]
          exact hnodes _ _ _ ‹_›
      · split
        · exact (State.settle_still _).trans (hnodes _ _ _ ‹_›)
        · split
          · simp only [State.settle_still, State.setRound_still]
            exact pair_still ‹_ = (_, _)› ((State.tallyTo_still ..).trans (hnodes _ _ _ ‹_›))
          · rw [State.settle_still]
            exact pair_still ‹_ = (_, _)› ((State.tallyTo_still ..).trans (hnodes _ _ _ ‹_›))

theorem execSwapLive_within (s : State) : ∃ t, execSwapLive s = .next t ∧ Within s t := by
  refine ⟨_, rfl, .of_still ?_⟩
  split
  · rfl
  · split
    · rfl
    · dsimp only
      split
      · rw [State.settle_still, State.complete_still, State.bump_still, State.wr_still, State.wr_still, State.wr_still,
          foldl_still _ _ _ fun _ _ => State.failRound_still .., foldl_still]
        · rfl
        · intro s a
          rw [State.complete_still, State.cancelJobs_still]
      · rfl

theorem execIdent_within (c : Fin 8) (cap : Word) (set : BitVec 24) (role pos : Byte) (s : State) :
    ∃ t, execIdent c cap set role pos s = .next t ∧ Within s t := by
  refine ⟨_, rfl, .of_still ?_⟩
  simp only [ite_still, State.wr_still]
  split
  · rfl
  · split
    · simp only [State.trainFail_still, State.wr_still]
    · simp only [State.culvTo_still, State.wr_still, State.wrB_still, State.setCulv_still]

theorem execDeskewResult_within (c : Fin 8) (own hub : DWord) (rate : Nat) (s : State) :
    ∃ t, execDeskewResult c own hub rate s = .next t ∧ Within s t := by
  refine ⟨_, rfl, .ite (.refl s) (.of_still ?_)⟩
  dsimp only
  split <;> simp only [State.culvTo_still, State.trainFail_still, State.sendPacket_still]

theorem execAckPoint_within (p : Fin 16) (s : State) : ∃ t, execAckPoint p s = .next t ∧ Within s t :=
  ⟨_, rfl, .of_still <| foldl_still _ _ _ fun s n => by simp only [ite_still, State.ackPoint_still, ite_self]⟩

theorem execShellReplayTimeout_within (p : Fin 16) (s : State) : ∃ t, execShellReplayTimeout p s = .next t ∧ Within s t :=
  ⟨_, rfl, .ite (.of_still <| foldl_still _ _ _ fun s n => by simp only [ite_still, State.replayExpires_still, ite_self]) (.refl s)⟩

theorem execFlumeChangeEnd_within (tapsOk : Bool) (s : State) : ∃ t, execFlumeChangeEnd tapsOk s = .next t ∧ Within s t := by
  refine ⟨_, rfl, .of_still ?_⟩
  split
  · rfl
  · split
    · rfl
    · simp only [ite_still, upd_still, State.wr_still, State.bump_still, State.raise1_still, State.settle_still, State.changeDone_still]
      rw [foldl_still _ _ _ fun _ _ => State.endPause_still ..]
      simp only [ite_still, upd_still, State.wr_still, State.bump_still, State.raise1_still, ite_self]

theorem execFanEntryCheck_within (s : State) : ∃ t, execFanEntryCheck s = .next t ∧ Within s t :=
  ⟨_, rfl, .ite (.of_still <| foldl_still _ _ _ State.checkFan_still) (.refl s)⟩

theorem execFanQuiesceDone_within (k : Fin 8) (s : State) : ∃ t, execFanQuiesceDone k s = .next t ∧ Within s t := by
  refine ⟨_, rfl, .ite (.of_still ?_) (.refl s)⟩
  rw [State.settle_still, State.fanJudge_still, foldl_still, State.fanTo_still]
  intro s m
  simp only [ite_still, State.queueOp_still, ite_self]

theorem execNvsReadComplete_within (ce ue : BitVec 32) (s : State) : ∃ t, execNvsReadComplete ce ue s = .next t ∧ Within s t := by
  refine ⟨_, rfl, .of_still ?_⟩
  split
  · rfl
  · dsimp only
    split
    · rfl
    · simp only [State.correctedRead_still, upd_still, State.wr_still]
      rw [foldl_still _ _ _ fun _ _ => State.wrPair_still ..]
      exact State.fresh_still s


/-- Every command but those that begin a stroke or begin or end a full reset, and those of the TAP, leaves the die within its stroke. -/
theorem exec_within {c : Instr} (hstroke : movesStroke c = false) (hscan : isScan c = false) (s : State) :
    ∃ t, exec c s = .next t ∧ Within s t := by
  cases c with
  | strokeBoundary => exact Bool.noConfusion hstroke
  | actuatorSetLive => exact execActuatorSetLive_within s
  | monitorSample m codes refBad dim => exact ⟨_, rfl, .ite (.at (n := 159) (by decide) (by split <;> simp only [State.sampleUnit_still,
    State.collectMesh_still])) (.refl s)⟩
  | sampleOverrun m ch => exact ⟨_, rfl, .ite (.at (n := 159) (by decide) (by split <;> simp only [State.bump_still, State.discardSample_still,
    State.wr_still, State.wrBit_still, State.collectMesh_still, ite_still, ite_self])) (.refl s)⟩
  | demodOverrun u => exact ⟨_, rfl, .ite (.at (n := 319) (by decide) (by simp only [State.bump_still, State.discardSample_still, State.demod_still,
    ite_still, ite_self])) (.refl s)⟩
  | calstepOverrun u =>
    refine ⟨_, rfl, ?_⟩
    split
    · exact .at (n := 959) (by decide) (by simp only [State.bump_still, State.skipStep_still])
    · exact .refl s
  | rowlockDemod u => exact ⟨_, rfl, .ite (.at (n := 319) (by decide) (by simp only [State.demod_still])) (.refl s)⟩
  | seatLock u => exact ⟨_, rfl, .ite (.at (n := 319) (by decide) (by simp only [State.setSeat_still])) (.refl s)⟩
  | lossOfLock u => exact execLossOfLock_within u s
  | searchMemberTimeout u delta => exact execSearchMemberTimeout_within u delta s
  | seatWithdraw u => exact ⟨_, rfl, .ite (.at (n := 159) (by decide) (by simp only [State.withdraw_still])) (.refl s)⟩
  | bankRefWithdraw p bank => exact execBankRefWithdraw_within p bank s
  | withdrawnSeatRetry u => exact ⟨_, rfl, .of_still (by simp only [State.pend_still, ite_still, ite_self])⟩
  | laneOperationsIssue p => exact execLaneOperationsIssue_within p s
  | laneAddDeadline p lane => exact execLaneAddDeadline_within p lane s
  | driverStart p => exact execDriverStart_within p s
  | darkIdleStep => exact ⟨_, rfl, .ite (.at (n := 960) (by decide) (by simp only [State.darkStep_still])) (.refl s)⟩
  | idleDarkWrite via data => exact ⟨_, rfl, access_within fun _ _ => State.wrIdleDark_still ..⟩
  | restore via p => exact ⟨_, rfl, access_within fun _ _ => State.wrRwlCtrl_still ..⟩
  | seatRetry via p side seats => exact ⟨_, rfl, access_within fun _ _ => State.retrySeats_still ..⟩
  | thermalSolve endCycle fault => exact execThermalSolve_within endCycle fault s
  | solveMiss => exact ⟨_, rfl, .ite (.at (n := 960) (by decide) (by simp only [State.solveMiss_still])) (.refl s)⟩
  | deltaListApply => exact execDeltaListApply_within s
  | blockRefactor fault => exact execBlockRefactor_within fault s
  | refactorCarry =>
    refine ⟨_, rfl, ?_⟩
    split
    · exact .at (n := 1279) (by decide) (by simp only [State.bump_still, upd_still])
    · exact .refl s
  | baWindowEnd discarded total => exact ⟨_, rfl, .of_still (by split <;> simp only [State.baAbandon_still, State.wr_still, upd_still, ite_still,
    ite_self])⟩
  | baIteration pivotOk update => exact execBaIteration_within pivotOk update s
  | baDeadline => exact ⟨_, rfl, .of_still (by split <;> simp only [State.bump_still, State.baAbandon_still, ite_still, ite_self])⟩
  | markerStartPulse _ => exact Bool.noConfusion hstroke
  | markerDecision pulse count crc => exact execMarkerDecision_within pulse count crc s
  | freewheel => exact ⟨_, rfl, .ite (.at (n := 464) (by decide) (by simp only [State.wr_still, State.raise1_still])) (.refl s)⟩
  | fwdClkLoss => exact ⟨_, rfl, .of_still (by simp only [State.wr_still, State.raise1_still, ite_still, ite_self])⟩
  | refclkLoss => exact execRefclkLoss_within s
  | refclkReturn => exact ⟨_, rfl, .of_still (by simp only [State.wr_still, ite_still, ite_self])⟩
  | refclkReacquired => exact ⟨_, rfl, .of_still (by simp only [upd_still, ite_still, ite_self])⟩
  | holdoverExit => exact ⟨_, rfl, .of_still (by simp only [State.wr_still, upd_still, ite_still, ite_self])⟩
  | pllLock _ => exact Bool.noConfusion hstroke
  | ovrClr via data => exact ⟨_, rfl, access_within fun _ _ => State.wrOvrClr_still ..⟩
  | headgateEnable via x data => exact ⟨_, rfl, access_within fun _ _ => State.wrHgCtrl_still ..⟩
  | headgateDisable via x data => exact ⟨_, rfl, access_within fun _ _ => State.wrHgCtrl_still ..⟩
  | headgateAttenWrite via x data => exact ⟨_, rfl, access_within fun _ _ => State.wrHgCtrl_still ..⟩
  | headgateRampStep x => exact ⟨_, rfl, .ite (.at (n := 960) (by decide) (by simp only [State.rampStep_still])) (.refl s)⟩
  | inputPowerCheck x pwr leak => exact ⟨_, rfl, .ite (.at (n := 159) (by decide) (by simp only [State.wrI_still, State.setHg_still,
    State.raise_still])) (.refl s)⟩
  | inputLost x => exact ⟨_, rfl, .ite (.at (n := 159) (by decide) (by simp only [State.setHg_still, State.raise1_still])) (.refl s)⟩
  | shutFail x => exact ⟨_, rfl, .ite (.at (n := 159) (by decide) (by simp only [State.setHg_still, State.raise1_still])) (.refl s)⟩
  | synRecal via p => exact ⟨_, rfl, access_within fun _ _ => State.wrOptCtrl_still ..⟩
  | synTuningOutOfRange p => exact ⟨_, rfl, .of_still (by simp only [State.askRelock_still, ite_still, ite_self])⟩
  | synLock p => exact ⟨_, rfl, .of_still (by simp only [State.wr_still, State.endPause_still, State.toAlign_still, State.paramCheck_still,
    ite_still, ite_self])⟩
  | synRelockTimeout p => exact ⟨_, rfl, .of_still (by simp only [State.bump_still, State.raise1_still, State.beginRelock_still, State.wr_still,
    State.linkFault_still, State.linkFail_still, State.settle_still, ite_still, ite_self])⟩
  | datumMeasure pwr locked scale => exact ⟨_, rfl, .ite (.at (n := 159) (by decide) (by simp only [State.wrI_still, upd_still])) (.refl s)⟩
  | datumDetected => exact ⟨_, rfl, .of_still (by simp only [State.datumTo_still, ite_still, ite_self])⟩
  | datumAcquireEnd pwr locked scale ringCode ofs => exact execDatumAcquireEnd_within pwr locked scale ringCode ofs s
  | datumLost => exact ⟨_, rfl, .of_still (by simp only [State.datumTo_still, State.raise1_still, ite_still, ite_self])⟩
  | datumRejected => exact ⟨_, rfl, .of_still (by simp only [State.datumReject_still, ite_still, ite_self])⟩
  | datumAbsent => exact ⟨_, rfl, .of_still (by simp only [State.datumTo_still, ite_still, ite_self])⟩
  | reacquire via => exact ⟨_, rfl, access_within fun _ _ => State.wrDtmCtrl_still ..⟩
  | thermalRead temps => exact ⟨_, rfl, .ite (.at (n := 159) (by decide) (by simp only [State.readSensors_still])) (.refl s)⟩
  | thmHot n => exact ⟨_, rfl, .ite (.at (n := 159) (by decide) (by simp only [State.setSensor_still, State.raise1_still])) (.refl s)⟩
  | thmCold n => exact ⟨_, rfl, .ite (.at (n := 159) (by decide) (by simp only [State.setSensor_still, State.raise1_still])) (.refl s)⟩
  | thmTrip n => exact ⟨_, rfl, .ite (.at (n := 159) (by decide) (by simp only [State.setSensor_still, State.raise1_still])) (.refl s)⟩
  | visitStart u => exact execVisitStart_within u s
  | visitEnd u => exact execVisitEnd_within u s
  | passReq via ports => exact ⟨_, rfl, access_within fun _ _ => State.wrPassReq_still ..⟩
  | passTrigger p => exact ⟨_, rfl, .of_still (by simp only [State.queuePass_still, ite_still, ite_self])⟩
  | passStart p => exact ⟨_, rfl, .of_still (by simp only [State.wrBit_still, State.advancePass_still, ite_still, ite_self])⟩
  | nvsRecordWriteStart rec => exact ⟨_, rfl, .of_still (by (repeat' split) <;> simp only [State.resumeRecord_still, State.beginRecord_still])⟩
  | nvsWordWrite bad => exact execNvsWordWrite_within bad s
  | nvsWordDefer => exact ⟨_, rfl, .ite (.at (n := 1040) (by decide) (by simp only [State.bump_still, upd_still])) (.refl s)⟩
  | nvsCmdRead via page => exact ⟨_, rfl, access_within fun _ _ => State.wrNvsCmd_still ..⟩
  | nvsCmdWrite via page => exact ⟨_, rfl, access_within fun _ _ => State.wrNvsCmd_still ..⟩
  | nvsReadComplete ce ue => exact execNvsReadComplete_within ce ue s
  | powerLoss _ => exact Bool.noConfusion hstroke
  | idleFlit c h => exact ⟨_, rfl, .of_still (by simp only [State.flitHeader_still])⟩
  | trainFlit c h => exact ⟨_, rfl, .of_still (by simp only [State.crcBad_still, State.setCulv_still, ite_still, ite_self])⟩
  | rdata c h bytes => exact execRdata_within c h bytes s
  | wdone c h count => exact execWdone_within c h count s
  | rerr c h isWrite reason count => exact execRerr_within c h isWrite reason count s
  | inval c h lines => exact execInval_within c h lines s
  | culvertReplayTimeout c bufUe => exact ⟨_, rfl, .of_still (by simp only [State.culvOffline_still, State.setCulv_still, State.raise1_still,
    State.bump_still, ite_still, ite_self])⟩
  | culvertNoProgress c => exact ⟨_, rfl, .of_still (by simp only [State.culvOffline_still, ite_still, ite_self])⟩
  | steerTableLive => exact ⟨_, rfl, .of_still (by simp only [State.reassign_still, State.reissueLost_still, State.flushWaiting_still,
    State.settle_still, ite_still, ite_self])⟩
  | steerEntryReturn e => exact ⟨_, rfl, .of_still (by simp only [State.setSteer_still, State.markFailing_still, State.flushWaiting_still,
    State.settle_still, ite_still, ite_self])⟩
  | culvertEnable via c data => exact ⟨_, rfl, access_within fun _ _ => State.wrClvCtrl_still ..⟩
  | culvertDisable via c data => exact ⟨_, rfl, access_within fun _ _ => State.wrClvCtrl_still ..⟩
  | culvertRetrain via c data => exact ⟨_, rfl, access_within fun _ _ => State.wrClvCtrl_still ..⟩
  | culvertLoopStart via c data => exact ⟨_, rfl, access_within fun _ _ => State.wrClvCtrl_still ..⟩
  | loopbackEnd c fails sbFail => exact ⟨_, rfl, .of_still (by simp only [State.wrPair_still, State.wr_still, State.wrB_still, State.culvTo_still,
    ite_still, ite_self])⟩
  | returnClockLock c => exact ⟨_, rfl, .of_still (by simp only [State.setCulv_still, State.culvTo_still, State.sendPacket_still, ite_still,
    ite_self])⟩
  | returnClockLoss c => exact ⟨_, rfl, .of_still (by simp only [State.setCulv_still, State.culvOffline_still, ite_still, ite_self])⟩
  | ident c cap set role pos => exact execIdent_within c cap set role pos s
  | deskewResult c own hub rate => exact execDeskewResult_within c own hub rate s
  | culvertVerifyDone c => exact ⟨_, rfl, .of_still (by simp only [State.culvTo_still, State.setCulv_still, State.recall_still, State.bump_still,
    State.flushWaiting_still, State.settle_still, ite_still, ite_self])⟩
  | culvertQuiesceDone c => exact ⟨_, rfl, .of_still (by (repeat' split) <;> simp only [State.trainFail_still, State.wr_still, State.culvTo_still,
    State.culvStop_still, ite_still, ite_self])⟩
  | culvertTrainingTimeout c => exact ⟨_, rfl, .of_still (by split <;> simp only [State.culvOffline_still, State.trainFail_still, ite_still,
    ite_self])⟩
  | rdReq c tag addr => exact ⟨_, rfl, .of_still (by simp only [State.takeRequest_still])⟩
  | wrReq c tag addr data => exact ⟨_, rfl, .of_still (by simp only [State.takeRequest_still])⟩
  | privateWrite form target bytes parityBad => exact ⟨_, rfl, .of_still (by simp only [State.busAnswer_still, State.endXfer_still,
    State.takeWrite_still, ite_still, ite_self])⟩
  | privateRead form target count => exact ⟨_, rfl, .of_still (by simp only [State.busAnswer_still, State.endXfer_still, State.servePort_still,
    upd_still, ite_still, ite_self])⟩
  | setdasa target da => exact ⟨_, rfl, .of_still <| State.ccc_still _ _ _ _ fun x => by simp only [State.wr_still]⟩
  | entdaa da => exact ⟨_, rfl, .of_still <| State.ccc_still _ _ _ _ fun x => by simp only [State.wr_still]⟩
  | setnewda target da => exact ⟨_, rfl, .of_still <| State.ccc_still _ _ _ _ fun x => State.wr_still ..⟩
  | rstdaa => exact ⟨_, rfl, .of_still (by simp only [State.busAnswer_still, State.endXfer_still, State.wr_still, ite_still, ite_self])⟩
  | getpid target => exact ⟨_, rfl, .of_still <| State.ccc_still _ _ _ _ fun _ => rfl⟩
  | getbcr target => exact ⟨_, rfl, .of_still <| State.ccc_still _ _ _ _ fun _ => rfl⟩
  | getdcr target => exact ⟨_, rfl, .of_still <| State.ccc_still _ _ _ _ fun _ => rfl⟩
  | getstatus target => exact ⟨_, rfl, .of_still <| State.ccc_still _ _ _ _ fun _ => rfl⟩
  | rstact target action => exact execRstact_within target action s
  | enec target => exact ⟨_, rfl, .of_still (by simp only [State.idleCcc_still])⟩
  | disec target => exact ⟨_, rfl, .of_still (by simp only [State.idleCcc_still])⟩
  | unsupportedCcc target => exact ⟨_, rfl, .of_still (by split <;> simp only [State.endXfer_still, State.busAnswer_still])⟩
  | transferEnd repeated => exact ⟨_, rfl, .of_still (by simp only [State.endXfer_still])⟩
  | targetReset => exact Bool.noConfusion hstroke
  | sclLowTimeout => exact ⟨_, rfl, .of_still (by simp only [State.endXfer_still])⟩
  | sampleRead via addr => exact ⟨_, rfl, .of_still (by simp only [State.readWord_still, State.setPath_still, ite_still, ite_self])⟩
  | pairLoWrite via addr data => exact ⟨_, rfl, .of_still (by simp only [State.writeAddr_still])⟩
  | pairHiWrite via addr data => exact ⟨_, rfl, .of_still (by simp only [State.writeAddr_still])⟩
  | lockWrite via page data => exact ⟨_, rfl, .of_still (by simp only [State.writeReg_still])⟩
  | errW1cWrite via page cls data => exact ⟨_, rfl, .of_still (by simp only [State.writeReg_still])⟩
  | errFatalClear via page data => exact ⟨_, rfl, .of_still (by simp only [State.writeReg_still])⟩
  | cntClr via page data => exact ⟨_, rfl, .of_still (by simp only [State.writeReg_still])⟩
  | registerWrite via addr data => exact ⟨_, rfl, .of_still (by simp only [State.writeAddr_still])⟩
  | pendSample => exact ⟨_, rfl, .ite (.at (n := 1041) (by decide) (by simp only [State.samplePend_still])) (.refl s)⟩
  | glbReset via data => exact ⟨_, rfl, .of_still (by simp only [State.writeReg_still])⟩
  | fullReset _ => exact Bool.noConfusion hstroke
  | resetRelease _ _ _ => exact Bool.noConfusion hstroke
  | bringupStepBegin => exact ⟨_, rfl, .of_still (by simp only [State.beginStep_still, ite_still, ite_self])⟩
  | dataShell p h body => exact ⟨_, rfl, .of_still (by simp only [State.takeDataShell_still, State.settle_still, ite_still, ite_self])⟩
  | nullShell p h dark => exact ⟨_, rfl, .of_still (by simp only [State.takeNullShell_still, State.settle_still, ite_still, ite_self])⟩
  | trainShell p h => exact ⟨_, rfl, .of_still (by simp only [State.takeTrain_still, State.settle_still, ite_still, ite_self])⟩
  | shellBoundary p => exact ⟨_, rfl, .of_still (by simp only [State.sendNext_still, State.settle_still, ite_still, ite_self])⟩
  | ackPoint p => exact execAckPoint_within p s
  | shellReplayTimeout p => exact execShellReplayTimeout_within p s
  | linkNoProgress p => exact ⟨_, rfl, .of_still (by simp only [State.linkFault_still, ite_still, ite_self])⟩
  | opRepeat p => exact ⟨_, rfl, .of_still (by simp only [State.sendNext_still, State.settle_still, ite_still, ite_self])⟩
  | ctrlTimeout p => exact ⟨_, rfl, .of_still (by simp only [State.linkFault_still, ite_still, ite_self])⟩
  | param0 p tag arg => exact execParam0_within p tag arg s
  | paramMap p tag arg => exact execParamMap_within p tag arg s
  | paramCred p tag arg => exact execParamCred_within p tag arg s
  | laneDrop p tag arg => exact execLaneDrop_within p tag arg s
  | laneAdd p tag arg => exact execLaneAdd_within p tag arg s
  | laneSwap p tag arg => exact execLaneSwap_within p tag arg s
  | dropReq p tag arg => exact ⟨_, rfl, peerAsks_within p _ _ _ _ s⟩
  | swapReq p tag arg => exact ⟨_, rfl, peerAsks_within p _ _ _ _ s⟩
  | rxSeats p tag arg => exact ⟨_, rfl, .of_still (by simp only [State.setLaneSt_still, ite_still, ite_self])⟩
  | response p tag arg => exact ⟨_, rfl, .of_still (by simp only [State.onResponse_still, State.settle_still, ite_still, ite_self])⟩
  | pause p tag arg => exact ⟨_, rfl, .of_still (by simp only [State.setLink_still, State.wrBit_still, State.freeze_still, ite_still, ite_self])⟩
  | resume p tag arg => exact ⟨_, rfl, .of_still (by simp only [State.peerResumes_still, ite_still, ite_self])⟩
  | pauseLong p => exact ⟨_, rfl, .of_still (by split <;> simp only [State.peerResumes_still, State.raise1_still, ite_still, ite_self])⟩
  | drainReq p tag arg => exact execDrainReq_within p tag arg s
  | drained p tag arg => exact ⟨_, rfl, .of_still (by simp only [State.setLink_still, State.drainEnds_still, ite_still, ite_self])⟩
  | drainedSend p => exact ⟨_, rfl, .of_still (by simp only [State.queueWords_still, State.setLink_still, State.drainEnds_still, ite_still,
    ite_self])⟩
  | reset p tag arg => exact ⟨_, rfl, .of_still (by (repeat' split) <;> simp only [State.toWait_still, State.linkFault_still])⟩
  | fanEnter p tag arg => exact execFanEnter_within p tag arg s
  | fanExit p tag arg => exact execFanExit_within p tag arg s
  | fanAck p tag arg => exact ⟨_, rfl, .of_still (by simp only [State.retire_still, State.settle_still, ite_still, ite_self])⟩
  | fanCred p tag arg => exact ⟨_, rfl, .of_still (by simp only [State.takeCredit_still, ite_still, ite_self])⟩
  | linkWaitDone p => exact ⟨_, rfl, .of_still (by simp only [State.toAlign_still, ite_still, ite_self])⟩
  | linkVerifyDone p => exact ⟨_, rfl, .of_still (by simp only [State.toActive_still, State.settle_still, ite_still, ite_self])⟩
  | linkTrainingTimeout p => exact ⟨_, rfl, .of_still (by split <;> simp only [State.linkFail_still, State.settle_still, ite_still, ite_self])⟩
  | drainTimeout p => exact ⟨_, rfl, .of_still (by simp only [State.linkFault_still, ite_still, ite_self])⟩
  | linkLos p => exact ⟨_, rfl, .of_still (by simp only [State.linkFault_still, ite_still, ite_self])⟩
  | linkDown p => exact ⟨_, rfl, .of_still (by split <;> simp only [State.takeDown_still, State.settle_still, ite_still, ite_self])⟩
  | linkRetrain via p data => exact ⟨_, rfl, access_within fun _ _ => State.wrLnkCtrl_still ..⟩
  | linkReset via p data => exact ⟨_, rfl, access_within fun _ _ => State.wrLnkCtrl_still ..⟩
  | linkDisable via p data => exact ⟨_, rfl, access_within fun _ _ => State.wrLnkCtrl_still ..⟩
  | autoRetrain p => exact ⟨_, rfl, .of_still (by simp only [State.toWait_still, ite_still, ite_self])⟩
  | fanMemberLost k p => exact ⟨_, rfl, .of_still (by (repeat' split) <;> simp only [State.takeDown_still, State.settle_still,
    State.linkFault_still])⟩
  | iqDoorbell via k data => exact ⟨_, rfl, access_within fun _ _ => State.wrIqTail_still ..⟩
  | iqEnable via k data => exact ⟨_, rfl, access_within fun _ _ => State.wrIqCfg_still ..⟩
  | iqDisable via k data => exact ⟨_, rfl, access_within fun _ _ => State.wrIqCfg_still ..⟩
  | oqEnable via k data => exact ⟨_, rfl, access_within fun _ _ => State.wrOqCfg_still ..⟩
  | oqDisable via k data => exact ⟨_, rfl, access_within fun _ _ => State.wrOqCfg_still ..⟩
  | nop q => exact ⟨_, rfl, .of_still (by simp only [State.takeIn_still])⟩
  | send q fault => exact ⟨_, rfl, .of_still (by simp only [State.takeIn_still])⟩
  | fetch q => exact ⟨_, rfl, .of_still (by simp only [State.takeIn_still])⟩
  | scatter q => exact ⟨_, rfl, .of_still (by simp only [State.takeIn_still])⟩
  | gather q => exact ⟨_, rfl, .of_still (by simp only [State.takeIn_still])⟩
  | buoy q => exact ⟨_, rfl, .of_still (by simp only [State.takeIn_still])⟩
  | fence q => exact ⟨_, rfl, .of_still (by simp only [State.takeIn_still])⟩
  | fenceComplete k => exact ⟨_, rfl, .of_still (by split <;> simp only [State.complete_still, State.settle_still, ite_still, ite_self])⟩
  | waitRelease q => exact ⟨_, rfl, .of_still (by split <;> simp only [State.setCmd_still, State.go_still, State.settle_still, ite_still, ite_self])⟩
  | backwaterRelease => exact ⟨_, rfl, .of_still (by simp only [State.releaseAll_still, State.settle_still, ite_still, ite_self])⟩
  | heldExpired => exact execHeldExpired_within s
  | sendData rx => exact execSendData_within rx s
  | fetchReq p => exact execFetchReq_within p s
  | fetchData rx => exact execFetchData_within rx s
  | xferDone p => exact execXferDone_within p s
  | buoyOp p => exact execBuoyOp_within p s
  | ccInvalidateLines via data => exact ⟨_, rfl, access_within fun _ _ => State.wrCcInval_still ..⟩
  | ccInvalidateAll via data => exact ⟨_, rfl, access_within fun _ _ => State.wrCcInval_still ..⟩
  | ccInvalidateDone => exact ⟨_, rfl, .of_still (by split <;> simp only [State.dropLines_still, State.staleFills_still, State.wr_still, upd_still])⟩
  | poolLimitWrite via pool data => exact ⟨_, rfl, access_within fun _ _ => State.wrPool_still ..⟩
  | pageOut fault => exact ⟨_, rfl, .of_still (by simp only [State.pageIfDue_still, State.pageOutNext_still, State.pageEnough_still,
    State.settle_still, ite_still, ite_self])⟩
  | poolExhausted job => exact execPoolExhausted_within job s
  | buoySetWrite via k hi => exact ⟨_, rfl, access_within fun _ _ => State.wrBuoyVal_still ..⟩
  | buoyAddWrite via hi => exact ⟨_, rfl, access_within fun _ _ => State.wrBuoyAdd_still ..⟩
  | flumeApply via data => exact ⟨_, rfl, access_within fun _ _ => State.wrFlmCtrl_still ..⟩
  | flumeChangeStart => exact ⟨_, rfl, .of_still (by (repeat' split) <;> simp only [State.wr_still, State.releaseMzis_still, upd_still])⟩
  | flumeChangeEnd tapsOk => exact execFlumeChangeEnd_within tapsOk s
  | mziDither z err => exact ⟨_, rfl, .ite (.at (n := 319) (by decide) (by simp only [State.fresh_still, upd_still])) (.refl s)⟩
  | flumeDrift z => exact ⟨_, rfl, .of_still (by simp only [State.raise1_still, upd_still, ite_still, ite_self])⟩
  | mziHeld ch => exact ⟨_, rfl, .ite (.at (n := 159) (by decide) (by simp only [State.wrBit_still, State.raise1_still])) (.refl s)⟩
  | reestWindowOpen => exact ⟨_, rfl, .of_still (by simp only [State.baStart_still, upd_still, ite_still, ite_self])⟩
  | fanEnterWrite via k => exact ⟨_, rfl, access_within fun _ _ => State.wrFanCtrl_still ..⟩
  | fanEntryCheck => exact execFanEntryCheck_within s
  | fanQuiesceDone k => exact execFanQuiesceDone_within k s
  | fanQuiesceTimeout k => exact ⟨_, rfl, .of_still (by simp only [State.fanIdle_still, State.settle_still, ite_still, ite_self])⟩
  | fanExitWrite via k => exact ⟨_, rfl, access_within fun _ _ => State.wrFanCtrl_still ..⟩
  | fanDrainDone k => exact ⟨_, rfl, .of_still (by simp only [State.fanLeave_still, State.settle_still, ite_still, ite_self])⟩
  | fanDrainTimeout k p => exact ⟨_, rfl, .of_still (by simp only [State.linkFault_still, ite_still, ite_self])⟩
  | reduce q => exact ⟨_, rfl, .of_still (by simp only [State.takeIn_still])⟩
  | stash q => exact ⟨_, rfl, .of_still (by simp only [State.takeIn_still])⟩
  | stashEncodeEnd read => exact ⟨_, rfl, .of_still (by (repeat' split) <;> simp only [State.encodeEnd_still, State.settle_still])⟩
  | unstash q => exact ⟨_, rfl, .of_still (by simp only [State.takeIn_still])⟩
  | unstashVerify read => exact execUnstashVerify_within read s
  | extentRetire via id => exact ⟨_, rfl, (access_within fun _ _ => State.wrRetire_still ..).still (State.settle_still _)⟩
  | extentRetireAll via => exact ⟨_, rfl, (access_within fun _ _ => State.wrRetire_still ..).still (State.settle_still _)⟩
  | tallyImg p => exact execTallyImg_within p s
  | tallyImgSend round => exact execTallyImgSend_within round s
  | tallyRes p => exact execTallyRes_within p s
  | tallyAbort via round => exact ⟨_, rfl, (access_within fun _ _ => State.wrAbort_still ..).still (State.settle_still _)⟩
  | rgtStart q => exact ⟨_, rfl, .of_still (by simp only [State.takeIn_still])⟩
  | rgtIssue => exact ⟨_, rfl, .of_still (by simp only [State.takeIn_still])⟩
  | rgtStop q => exact ⟨_, rfl, .of_still (by simp only [State.takeIn_still])⟩
  | swap q => exact ⟨_, rfl, .of_still (by simp only [State.takeIn_still])⟩
  | swapLive => exact execSwapLive_within s
  | safeStateEntry => exact execSafeStateEntry_within s
  | railMismatch page cycles => exact ⟨_, rfl, .of_still (by (repeat' split) <;> simp only [State.bump_still, State.raise1_still, upd_still,
    ite_still, ite_self])⟩
  | selfParity => exact execSelfParity_within s
  | fatalReraise page bit => exact ⟨_, rfl, .of_still (by (repeat' split) <;> simp only [State.raise1_still])⟩
  | umpExit via => exact ⟨_, rfl, access_within fun _ _ => State.wrUmpCtrl_still ..⟩
  | safeStateExit => exact ⟨_, rfl, .of_still (by split <;> simp only [State.exitSafe_still, State.wr_still, upd_still, ite_still, ite_self])⟩
  | firstClr via => exact ⟨_, rfl, access_within fun _ _ => State.wrUmpCtrl_still ..⟩
  | statClr via => exact ⟨_, rfl, access_within fun _ _ => State.wrUmpCtrl_still ..⟩
  | lvlStatClr via => exact ⟨_, rfl, access_within fun _ _ => State.wrLvlCtrl_still ..⟩
  | logbookWrite => exact execLogbookWrite_within s
  | logCarry => exact ⟨_, rfl, .ite (.at (n := 1279) (by decide) (by simp only [State.bump_still, upd_still])) (.refl s)⟩
  | tapReset => exact Bool.noConfusion hscan
  | extest _ => exact Bool.noConfusion hscan
  | samplePreload _ _ => exact Bool.noConfusion hscan
  | idcode => exact Bool.noConfusion hscan
  | clamp => exact Bool.noConfusion hscan
  | highz => exact Bool.noConfusion hscan
  | culvertLoop => exact Bool.noConfusion hscan
  | scanStat => exact Bool.noConfusion hscan
  | bypass => exact Bool.noConfusion hscan
  | reservedOpcode q => exact ⟨_, rfl, .of_still (by simp only [State.takeIn_still])⟩
  | discardedSidebandPacket c why => exact ⟨_, rfl, .of_still (by simp only [State.raise1_still, State.bump_still, ite_still, ite_self])⟩
  | reservedFlitType c h type => exact ⟨_, rfl, .of_still (by simp only [State.crcBad_still, State.culvProtocol_still, ite_still, ite_self])⟩
  | reservedControlOp p op => exact ⟨_, rfl, .of_still (by simp only [State.malformed_still, ite_still, ite_self])⟩
  | calibrationStep u r delta => exact execCalibrationStep_within u r delta s

/-! ## The commands of the TAP, and those that begin a stroke or begin or end a full reset -/

/-- What a command within a stroke leaves alone, field by field. -/
theorem Within.fields {s t : State} (h : Within s t) :
    t.fuses = s.fuses ∧ t.pending = s.pending ∧ t.held = s.held ∧ t.tap = s.tap ∧ t.clk.stroke = s.clk.stroke ∧
      t.clk.elapsed = s.clk.elapsed ∧ (s.clk.cycle < 1280 → t.clk.cycle < 1280) := by
  obtain ⟨n, ht, hn⟩ := h
  simp only [State.still, State.atCycle, Prod.mk.injEq] at ht
  obtain ⟨hfuses, hpending, hheld, htap, -, hstroke, helapsed, hcycle⟩ := ht
  exact ⟨hfuses, hpending, hheld, htap, hstroke, helapsed, fun h => hcycle ▸ hn h⟩

theorem withTap_still {s t : State} (h : t.still = s.still) (tap : Tap) : ({ t with tap := tap } : State).still = ({ s with tap := tap } : State).still := by
  simp only [State.still, Prod.mk.injEq] at h ⊢
  simp [h]

theorem tapTakesPins_within (s : State) (ir : BitVec 6) (capture : Word) : Within s { s.tapTakesPins ir capture with tap := s.tap } := by
  refine .of_still (withTap_still (t := if s.busBlind then s else s.endXfer 1) ?_ s.tap)
  simp only [ite_still, State.endXfer_still, ite_self]

/-- A command of the TAP leaves the die within its stroke, but for the TAP. -/
theorem exec_scan_within {c : Instr} (hscan : isScan c = true) (s : State) : ∃ t, exec c s = .next t ∧ Within s { t with tap := s.tap } := by
  cases c with
  | tapReset => exact ⟨_, rfl, .refl s⟩
  | extest cells => exact ⟨_, rfl, tapTakesPins_within s 0x00 s.tap.capture⟩
  | samplePreload captured loaded => exact ⟨_, rfl, .refl s⟩
  | idcode => exact ⟨_, rfl, .refl s⟩
  | clamp => exact ⟨_, rfl, tapTakesPins_within s _ _⟩
  | highz => exact ⟨_, rfl, tapTakesPins_within s _ _⟩
  | culvertLoop =>
    refine ⟨_, rfl, .of_still (withTap_still (t := if s.loopGranted then (List.range 8).foldl State.scanLoop s else s) ?_ s.tap)⟩
    rw [ite_still, foldl_still _ _ _ State.scanLoop_still, ite_self]
  | scanStat => exact ⟨_, rfl, .refl s⟩
  | bypass => exact ⟨_, rfl, .refl s⟩
  | _ => exact Bool.noConfusion hscan

/-- What every command leaves alone: the fuses, the queue, and that the control cycle lies in a stroke. -/
def Apart (s t : State) : Prop := t.fuses = s.fuses ∧ t.pending = s.pending ∧ (s.clk.cycle < 1280 → t.clk.cycle < 1280)

theorem Within.apart {s t : State} (h : Within s t) : Apart s t ∧ t.tap = s.tap := by
  obtain ⟨hfuses, hpending, -, htap, -, -, hcycle⟩ := h.fields
  exact ⟨⟨hfuses, hpending, hcycle⟩, htap⟩

theorem Apart.trans {s t u : State} (h : Apart s t) (h' : Apart t u) : Apart s u :=
  ⟨h'.1.trans h.1, h'.2.1.trans h.2.1, fun hs => h'.2.2 (h.2.2 hs)⟩

/-- Cycle 0 is a cycle of a stroke. -/
theorem Apart.begins {s t : State} (hfuses : t.fuses = s.fuses) (hpending : t.pending = s.pending) (hcycle : t.clk.cycle = 0) : Apart s t :=
  ⟨hfuses, hpending, fun _ => hcycle ▸ (by decide : 0 < 1280)⟩

theorem reborn_apart (s : State) (fate : WordFate) (tap : Tap) : Apart s (s.reborn fate tap) := .begins rfl rfl rfl

theorem chipReset_apart (s : State) : Apart s s.chipReset ∧ s.chipReset.tap = s.tap := ⟨reborn_apart s.fresh.2 _ _, rfl⟩

theorem softReset_apart (s : State) : Apart s s.softReset ∧ s.softReset.tap = s.tap := chipReset_apart s

/-- Two changes one after the other, neither of which touches the queue, the fuses or the TAP. -/
theorem apart_trans {s t u : State} (h : Apart s t ∧ t.tap = s.tap) (h' : Apart t u ∧ u.tap = t.tap) : Apart s u ∧ u.tap = s.tap :=
  ⟨h.1.trans h'.1, h'.2.trans h.2⟩

theorem targetAction_apart (s : State) (a : Nat) : Apart s (s.targetAction a) ∧ (s.targetAction a).tap = s.tap := by
  have hport : Within s s.portReset := .of_still (State.portReset_still s)
  unfold State.targetAction
  split
  · exact (Within.refl s).apart
  · split
    · exact softReset_apart s
    · exact (hport.still (State.wr_still _ _ _)).apart
  · exact hport.apart

theorem nextStroke_apart (s : State) : Apart s s.nextStroke ∧ s.nextStroke.tap = s.tap := ⟨.begins rfl rfl rfl, rfl⟩

theorem execMarkerStartPulse_apart (time : Nat) (s : State) :
    ∃ t, execMarkerStartPulse time s = .next t ∧ Apart s t ∧ t.tap = s.tap := by
  refine ⟨_, rfl, ?_⟩
  split
  · exact (Within.refl s).apart
  · split
    · exact (Within.ite (.refl s) (.at (Nat.mod_lt time (by decide)) (State.raise1_still _ _))).apart
    · split
      · split
        · exact ⟨.begins rfl rfl rfl, rfl⟩
        · exact (Within.of_still rfl).apart
      · exact (Within.of_still rfl).apart

/-- A command that begins a stroke, or begins or ends a full reset, touches neither the queue nor the fuses, and the TAP only where power is
lost. -/
theorem exec_moves_apart {c : Instr} (hmoves : movesStroke c = true) (hpower : ∀ f, c ≠ .powerLoss f) (s : State) :
    ∃ t, exec c s = .next t ∧ Apart s t ∧ t.tap = s.tap := by
  cases c with
  | strokeBoundary =>
    refine ⟨_, rfl, ?_⟩
    split
    · exact apart_trans (nextStroke_apart s) (Within.of_still (State.boundaryWork_still _)).apart
    · exact (Within.refl s).apart
  | markerStartPulse time => exact execMarkerStartPulse_apart time s
  | pllLock n =>
    refine ⟨_, rfl, ?_⟩
    split
    · exact (Within.refl s).apart
    · dsimp only
      split
      · exact ⟨.begins rfl rfl rfl, rfl⟩
      · exact (Within.of_still rfl).apart
  | fullReset cause =>
    refine ⟨_, rfl, ?_⟩
    split
    · exact chipReset_apart s
    · split
      · exact softReset_apart s
      · exact (Within.refl s).apart
    · exact (Within.refl s).apart
  | resetRelease position mode i3cAddr =>
    refine ⟨_, rfl, ?_⟩
    split
    · exact (Within.refl s).apart
    · exact ⟨.begins rfl rfl rfl, rfl⟩
  | powerLoss f => exact absurd rfl (hpower f)
  | targetReset =>
    refine ⟨_, rfl, ?_⟩
    split
    · exact (Within.refl s).apart
    · refine apart_trans (Within.of_still ?_).apart (targetAction_apart _ _)
      simp only [upd_still, State.wr_still, State.bump_still, State.endXfer_still]
  | _ => exact Bool.noConfusion hmoves

/-! ## Every command -/

/-- Every command completes, and touches neither the queue of the commands behind it nor the fuses. -/
theorem exec_apart (c : Instr) (s : State) : ∃ t, exec c s = .next t ∧ Apart s t := by
  cases hmoves : movesStroke c
  · cases hscan : isScan c
    · obtain ⟨t, ht, hwithin⟩ := exec_within hmoves hscan s
      exact ⟨t, ht, hwithin.apart.1⟩
    · obtain ⟨t, ht, hwithin⟩ := exec_scan_within hscan s
      exact ⟨t, ht, hwithin.apart.1⟩
  · by_cases hpower : ∃ f, c = .powerLoss f
    · obtain ⟨f, rfl⟩ := hpower
      exact ⟨_, rfl, reborn_apart s f _⟩
    · obtain ⟨t, ht, hapart, -⟩ := exec_moves_apart hmoves (fun f hf => hpower ⟨f, hf⟩) s
      exact ⟨t, ht, hapart⟩

theorem nextCycle_within (s : State) : Within s s.nextCycle := by
  unfold State.nextCycle
  split
  · exact .at (Nat.lt_succ_of_le (Nat.min_le_right _ _)) rfl
  · exact .of_still rfl

/-- With nothing commanded the die stays within its stroke. -/
theorem passCycle_within (s : State) : Within s s.passCycle := by
  unfold State.passCycle
  split
  · exact nextCycle_within s
  · exact (nextCycle_within s).still (by rw [State.lanesCycle_still, State.portCycle_still])

/-- Settles O2: no command touches the queue, and each sets the clock to a cycle of a stroke or leaves it. -/
theorem everyStepKeepsItsPlace : Obligations.EveryStepKeepsItsPlace := by
  have hstep : ∀ s t : State, step s = .next t → t.pending = s.pending.tail ∧ (s.clk.cycle < 1280 → t.clk.cycle < 1280) := by
    intro s t hst
    rw [step] at hst
    split at hst
    · rename_i hnil
      obtain ⟨-, hpending, -, -, -, -, hcycle⟩ := (passCycle_within s).fields
      cases hst
      exact ⟨hpending.trans (by simp [hnil]), hcycle⟩
    · rename_i c rest hcons
      obtain ⟨u, hu, -, hpending, hcycle⟩ := exec_apart c { s with pending := rest }
      cases hst.symm.trans hu
      exact ⟨hpending.trans (by simp [hcons]), hcycle⟩
  refine ⟨fun s t hok hst => ?_, fun s t hwf hst => ?_⟩
  · simp only [State.cycleOk, decide_eq_true_eq] at hok ⊢
    exact (hstep s t hst).2 hok
  · have hpending := (hstep s t hst).1
    refine ⟨?_, hpending⟩
    simp only [State.queueWf, List.all_eq_true] at hwf ⊢
    exact fun c hc => hwf c (List.mem_of_mem_tail (hpending ▸ hc))

/-- Settles O3: a command that is none of these stays within its stroke, and one of the TAP does too. -/
theorem onlyTimeCommandsMoveTheStroke : Obligations.OnlyTimeCommandsMoveTheStroke := by
  intro c s t hmoves ht
  cases hscan : isScan c
  · obtain ⟨u, hu, hwithin⟩ := exec_within hmoves hscan s
    cases ht.symm.trans hu
    obtain ⟨-, -, hheld, -, hstroke, helapsed, -⟩ := hwithin.fields
    exact ⟨hstroke, helapsed, hheld⟩
  · obtain ⟨u, hu, hwithin⟩ := exec_scan_within hscan s
    cases ht.symm.trans hu
    obtain ⟨-, -, hheld, -, hstroke, helapsed, -⟩ := hwithin.fields
    exact ⟨hstroke, helapsed, hheld⟩

/-- Settles O4: within a stroke only the commands of the TAP touch it, and a full reset hands it on. -/
theorem tapStandsApart : Obligations.TapStandsApart := by
  refine ⟨fun c s t hscan hpower ht => ?_, fun s f => ⟨_, rfl, rfl⟩⟩
  cases hmoves : movesStroke c
  · obtain ⟨u, hu, hwithin⟩ := exec_within hmoves hscan s
    cases ht.symm.trans hu
    exact hwithin.apart.2
  · obtain ⟨u, hu, -, htap⟩ := exec_moves_apart hmoves hpower s
    cases ht.symm.trans hu
    exact htap

end Sys2Proof.Machine
end

section
/-! SUPPORT. What no register write changes, nor any shared operation that one uses: the management port's own state, the count of control cycles
before the first stroke and, but for a culvert's CTRL, what a culvert's sideband answers with. A reading of such components is called aside here;
one lemma for each operation, in the order of the model, says that it keeps every reading aside, and like the laws of what stays still each cites those
of the operations it calls. -/

namespace Sys2Proof.Machine

/-- What a culvert's sideband answers with: its last response, the responses that wait, and whether and when it sends. -/
def Culv.wires (x : Culv) : Option SbRsp × List SbRsp × Bool × Bool × Nat := (x.rsp, x.answers, x.identOk, x.clockOk, x.sbFree)

/-- A reading of the management port, of the culverts' sidebands and of the control cycles before the first stroke, and of nothing else. -/
structure Aside {α : Type} (get : State → α) : Prop where
  upd : ∀ {s t : State}, t.mgmt = s.mgmt → t.culvs = s.culvs → t.clk.idle = s.clk.idle → get t = get s
  culv : ∀ (s : State) (c : Nat) (x : Culv), x.wires = (s.culv c).wires → get (s.setCulv c x) = get s

section

variable {α : Type} {get : State → α}

theorem foldl_aside {β : Type} (f : State → β → State) (l : List β) (s : State) (h : ∀ s a, get (f s a) = get s) : get (l.foldl f s) = get s :=
  foldl_untouched f get (fun s a _ => h s a) s

variable (ha : Aside get)

include ha

theorem Aside.record (t : State) (regs : Tab Nat) (recs : Tab (Option ErrRec)) (log : LogState) (ump : UmpState) (held : Bool)
    (resetAt : Option Nat) (fuses : Fuses) (paths : Tab PathState) (port : PortState) (clk : ClkState) (hgs : Tab Headgate) (synths : Tab Synth)
    (chans : Tab Chan) (refRuns : Tab Nat) (seats : Tab Seat) (lanes : Tab Lanes) (cal : CalState) (sensors : Tab Sensor) (datum : Datum)
    (nvs : NvsState) (lvl : LvlState) (flm : FlmState) (links : Tab Link) (cox : CoxState) (buoys : Tab DWord) (runs : RunState) (tap : Tap)
    (freeCount : Nat) (pending : List Instr) (h : clk.idle = t.clk.idle) :
    get { regs := regs, recs := recs, log := log, ump := ump, held := held, resetAt := resetAt, fuses := fuses, paths := paths, mgmt := t.mgmt,
          port := port, clk := clk, hgs := hgs, synths := synths, chans := chans, refRuns := refRuns, seats := seats, lanes := lanes, cal := cal,
          sensors := sensors, datum := datum, nvs := nvs, lvl := lvl, flm := flm, culvs := t.culvs, links := links, cox := cox, buoys := buoys,
          runs := runs, tap := tap, freeCount := freeCount, pending := pending } = get t :=
  ha.upd rfl rfl h

theorem State.wr_aside (s : State) (f : Field) (v : Nat) : get (State.wr s f v) = get s := ha.upd rfl rfl rfl

theorem State.wrB_aside (s : State) (f : Field) (b : Bool) : get (State.wrB s f b) = get s := ha.upd rfl rfl rfl

theorem State.bump_aside (s : State) (f : Field) : get (State.bump s f) = get s := ha.upd rfl rfl rfl

theorem State.wrBit_aside (s : State) (f : Field) (i : Nat) (b : Bool) : get (State.wrBit s f i b) = get s := ha.upd rfl rfl rfl

theorem State.setHg_aside (s : State) (x : Nat) (h : Headgate) : get (State.setHg s x h) = get s := ha.upd rfl rfl rfl

theorem State.setSynth_aside (s : State) (p : Nat) (y : Synth) : get (State.setSynth s p y) = get s := ha.upd rfl rfl rfl

theorem State.setLaneSt_aside (s : State) (p : Nat) (l : Lanes) : get (State.setLaneSt s p l) = get s := ha.upd rfl rfl rfl

theorem State.setCulv_aside {s : State} {c : Nat} {x : Culv} (hx : x.wires = (s.culv c).wires) : get (State.setCulv s c x) = get s :=
  ha.culv s c x hx

theorem State.setLink_aside (s : State) (n : Nat) (x : Link) : get (State.setLink s n x) = get s := ha.upd rfl rfl rfl

theorem State.setOq_aside (s : State) (k : Nat) (q : Oq) : get (State.setOq s k q) = get s := ha.upd rfl rfl rfl

theorem State.setExtent_aside (s : State) (k : Nat) (x : Extent) : get (State.setExtent s k x) = get s := ha.upd rfl rfl rfl

theorem State.setFan_aside (s : State) (k : Nat) (x : FanSlot) : get (State.setFan s k x) = get s := ha.upd rfl rfl rfl

theorem State.setPath_aside (s : State) (v : Path) (x : PathState) : get (State.setPath s v x) = get s := ha.upd rfl rfl rfl

theorem State.assertPair_aside (s : State) : get (State.assertPair s) = get s := by
  simp only [State.assertPair, State.bump_aside ha, ha.record, apply_ite get, ite_self]

theorem State.setErrBit_aside (s : State) (c : ErrCode) : get (State.setErrBit s c) = get s := ha.upd rfl rfl rfl

theorem State.pairFor_aside (s : State) (c : ErrCode) : get (State.pairFor s c) = get s := by
  simp only [State.pairFor, State.assertPair_aside ha, apply_ite get, ite_self]

theorem State.mergeEvent_aside (s : State) (c : ErrCode) : get (State.mergeEvent s c) = get s := by
  simp only [State.mergeEvent, State.bump_aside ha, State.setErrBit_aside ha, ha.record]

theorem State.noteEvent_aside (s : State) (c : ErrCode) (t : Stamp) (new : Bool) : get (State.noteEvent s c t new) = get s := ha.upd rfl rfl rfl

theorem State.countEvent_aside (s : State) (c : ErrCode) : get (State.countEvent s c) = get s := by
  unfold State.countEvent
  (repeat' split) <;> simp only [State.bump_aside ha]

theorem State.recordEvent_aside (s : State) (e : Event) (t : Stamp) : get (State.recordEvent s e t) = get s := ha.upd rfl rfl rfl

theorem State.logEvent_aside (s : State) (x : LogEntry) : get (State.logEvent s x) = get s := by
  simp only [State.logEvent, State.bump_aside ha, ha.record, apply_ite get, ite_self]

theorem State.raiseAt_aside (s : State) (t : Stamp) (e : Event) : get (State.raiseAt s t e) = get s := by
  simp only [State.raiseAt, State.countEvent_aside ha, State.logEvent_aside ha, State.mergeEvent_aside ha, State.noteEvent_aside ha,
      State.pairFor_aside ha, State.recordEvent_aside ha, State.setErrBit_aside ha, apply_ite get, ite_self]

theorem State.raise1_aside (s : State) (e : Event) : get (State.raise1 s e) = get s := by
  simp only [State.raise1, State.raiseAt_aside ha]

theorem State.emptyRecord_aside (s : State) (pg : Nat) : get (State.emptyRecord s pg) = get s := by
  unfold State.emptyRecord
  (repeat' split) <;> simp only [ha.record]

theorem State.clearErr_aside (s : State) (cls : EvClass) (pg m : Nat) : get (State.clearErr s cls pg m) = get s := by
  simp only [State.clearErr, State.emptyRecord_aside ha, State.wr_aside ha, ha.record]

theorem State.refuse_aside (s : State) (v : Path) (pg : Nat) : get (State.refuse s v pg) = get s := by
  unfold State.refuse
  (repeat' split) <;> simp only [State.bump_aside ha, State.wr_aside ha]

theorem State.access_aside (s : State) (v : Path) (pg off data : Nat) (eff : Nat → State → State) (h_eff : ∀ x0 x1, get (eff x0 x1) = get x1) :
    get (State.access s v pg off data eff) = get s := by
  simp only [State.access, State.refuse_aside ha, h_eff, apply_ite get, ite_self]

theorem State.writeField_aside (s : State) (pg off data : Nat) (r : FieldRow) : get (State.writeField s pg off data r) = get s := by
  unfold State.writeField
  (repeat' split) <;> simp only [State.wr_aside ha, apply_ite get, ite_self]

theorem State.clearCounts_aside (s : State) (pg : Nat) : get (State.clearCounts s pg) = get s := ha.upd rfl rfl rfl

theorem State.writeFields_aside (s : State) (pg off data : Nat) : get (State.writeFields s pg off data) = get s := by
  unfold State.writeFields
  repeat' first
    | with_reducible rfl
    | simp only [↓State.clearCounts_aside ha, ↓State.writeField_aside ha, ↓apply_ite get, ite_self]
    | (with_reducible refine (foldl_aside _ _ _ (fun s a => ?_)).trans ?_)

theorem State.pairLow_aside (s : State) (v : Path) (loAddr : Nat) : get (State.pairLow s v loAddr).2 = get s := by
  unfold State.pairLow
  repeat' first
    | with_reducible rfl
    | simp only [↓State.setPath_aside ha, ↓apply_ite Prod.snd, ↓apply_ite get, ite_self]
    | (with_reducible refine (foldl_aside _ _ _ (fun s a => ?_)).trans ?_)
    | split

theorem State.returnPages_aside (s : State) (k : Pool) (n : Nat) : get (State.returnPages s k n) = get s := ha.upd rfl rfl rfl

theorem State.startPaging_aside (s : State) (headroom : Bool) : get (State.startPaging s headroom) = get s := by
  simp only [State.startPaging, State.raise1_aside ha, State.wr_aside ha, ha.record, apply_ite get, ite_self]

theorem State.pageIfDue_aside (s : State) : get (State.pageIfDue s) = get s := by
  simp only [State.pageIfDue, State.startPaging_aside ha, apply_ite get, ite_self]

theorem State.linkTo_aside (s : State) (p st : Nat) : get (State.linkTo s p st) = get s := by
  simp only [State.linkTo, State.setLink_aside ha, State.wr_aside ha]

theorem State.linkFault_aside (s : State) (p reason lane seq : Nat) : get (State.linkFault s p reason lane seq) = get s := by
  unfold State.linkFault
  repeat' first
    | with_reducible rfl
    | simp only [↓State.setLink_aside ha, ↓apply_ite get, ite_self]
    | (with_reducible refine (foldl_aside _ _ _ (fun s a => ?_)).trans ?_)
    | split

theorem State.queueOp_aside (s : State) (p op arg : Nat) (cause : LaneCause) : get (State.queueOp s p op arg cause) = get s := ha.upd rfl rfl rfl

theorem State.freeze_aside (s : State) (p : Nat) : get (State.freeze s p) = get s := by
  simp only [State.freeze, State.setLink_aside ha, apply_ite get, ite_self]

theorem State.startPause_aside (s : State) (p bit reason : Nat) : get (State.startPause s p bit reason) = get s := by
  simp only [State.startPause, State.freeze_aside ha, State.setLink_aside ha, State.wrBit_aside ha, apply_ite get, ite_self]

theorem State.sendReq_aside (s : State) (c : Nat) (r : HubReq) : get (State.sendReq s c r) = get s := State.setCulv_aside ha rfl

theorem State.formOne_aside (s : State) (c : Nat) : get (State.formOne s c) = get s := by
  simp only [State.formOne]
  split
  · rfl
  · exact State.setCulv_aside ha rfl

theorem State.form_aside (s : State) : get (State.form s) = get s := by
  unfold State.form
  repeat' first
    | with_reducible rfl
    | simp only [↓State.formOne_aside ha]
    | (with_reducible refine (foldl_aside _ _ _ (fun s a => ?_)).trans ?_)

theorem State.unreachable_aside (s : State) (c : Nat) (r : HubReq) : get (State.unreachable s c r) = get s := by
  simp only [State.unreachable, State.bump_aside ha, State.raise1_aside ha, ha.record]

theorem State.keepWaiting_aside (s : State) (r : HubReq) : get (State.keepWaiting s r) = get s := ha.upd rfl rfl rfl

theorem State.issue_aside (s : State) (r : HubReq) : get (State.issue s r) = get s := by
  unfold State.issue
  (repeat' split) <;> simp only [State.keepWaiting_aside ha, State.sendReq_aside ha, State.unreachable_aside ha]

theorem State.hubWrite_aside (s : State) (a : Nat) (bs : List Byte) (poison : Bool) (purpose : Purpose) :
    get (State.hubWrite s a bs poison purpose) = get s := by
  unfold State.hubWrite
  repeat' first
    | with_reducible rfl
    | simp only [↓State.form_aside ha, ↓State.issue_aside ha]
    | (with_reducible refine (foldl_aside _ _ _ (fun s a => ?_)).trans ?_)

theorem State.culvTo_aside (s : State) (c st : Nat) : get (State.culvTo s c st) = get s := by
  exact (State.wr_aside ha _ _ _).trans (State.setCulv_aside ha rfl)

theorem State.buoySet_aside (s : State) (k : Nat) (v : DWord) : get (State.buoySet s k v) = get s := ha.upd rfl rfl rfl

theorem State.buoyOp_aside (s : State) (k op : Nat) (v : DWord) : get (State.buoyOp s k op v) = get s := ha.upd rfl rfl rfl

theorem State.writeCompletion_aside (s : State) (c : Cmd) (status detail : Nat) : get (State.writeCompletion s c status detail) = get s := by
  simp only [State.writeCompletion, State.hubWrite_aside ha, State.setOq_aside ha]

theorem State.finish_aside (s : State) (c : Cmd) (status detail : Nat) : get (State.finish s c status detail) = get s := by
  simp only [State.finish, State.bump_aside ha, State.buoyOp_aside ha, State.raise1_aside ha, State.setOq_aside ha, State.writeCompletion_aside ha,
      ha.record, apply_ite get, ite_self]

theorem State.endRun_aside (s : State) : get (State.endRun s) = get s := by
  unfold State.endRun
  (repeat' split) <;> simp only [State.finish_aside ha, State.wr_aside ha, ha.record, apply_ite get, ite_self]

theorem State.transferEnds_aside (s : State) (c : Cmd) (status detail : Nat) : get (State.transferEnds s c status detail) = get s := by
  unfold State.transferEnds
  (repeat' split) <;> simp only [State.wr_aside ha, ha.record, apply_ite get, ite_self]

theorem State.discardWaiting_aside (s : State) (slot : Nat) : get (State.discardWaiting s slot) = get s := by
  unfold State.discardWaiting
  repeat' first
    | with_reducible rfl
    | simp only [↓State.setOq_aside ha, ↓ha.record, ↓apply_ite get, ite_self]
    | (with_reducible refine (foldl_aside _ _ _ (fun s a => ?_)).trans ?_)
    | split

theorem State.complete_aside (s : State) (id status detail : Nat) : get (State.complete s id status detail) = get s := by
  unfold State.complete
  (repeat' split) <;> simp only [State.discardWaiting_aside ha, State.endRun_aside ha, State.finish_aside ha, State.transferEnds_aside ha]

theorem State.freeExtent_aside (s : State) (id : Nat) : get (State.freeExtent s id) = get s := by
  simp only [State.freeExtent, State.returnPages_aside ha, State.setExtent_aside ha]

theorem State.retireExtent_aside (s : State) (id : Nat) : get (State.retireExtent s id) = get s := by
  simp only [State.retireExtent, State.freeExtent_aside ha, State.setExtent_aside ha, apply_ite get, ite_self]

theorem State.closeRound_aside (s : State) (r : Nat) : get (State.closeRound s r) = get s := by
  unfold State.closeRound
  (repeat' split) <;> simp only [State.returnPages_aside ha, ha.record]

theorem State.cancelJobs_aside (s : State) (id : Nat) : get (State.cancelJobs s id) = get s := ha.upd rfl rfl rfl

theorem State.failRound_aside (s : State) (r cause st det : Nat) : get (State.failRound s r cause st det) = get s := by
  unfold State.failRound
  repeat' first
    | with_reducible rfl
    | simp only [↓State.bump_aside ha, ↓State.cancelJobs_aside ha, ↓State.closeRound_aside ha, ↓State.complete_aside ha, ↓State.raise1_aside ha,
          ↓ha.record]
    | (with_reducible refine (foldl_aside _ _ _ (fun s a => ?_)).trans ?_)
    | split

theorem State.wrIqTail_aside (k data : Nat) (s : State) : get (State.wrIqTail k data s) = get s := by
  simp only [State.wrIqTail, State.raise1_aside ha, State.wr_aside ha, apply_ite get, ite_self]

theorem State.wrIqCfg_aside (k data : Nat) (s : State) : get (State.wrIqCfg k data s) = get s := by
  simp only [State.wrIqCfg, State.discardWaiting_aside ha, State.wr_aside ha, State.writeFields_aside ha, apply_ite get, ite_self]

theorem State.wrOqCfg_aside (k data : Nat) (s : State) : get (State.wrOqCfg k data s) = get s := by
  simp only [State.wrOqCfg, State.setOq_aside ha, State.wr_aside ha, State.writeFields_aside ha, apply_ite get, ite_self]

theorem State.wrCcInval_aside (data : Nat) (s : State) : get (State.wrCcInval data s) = get s := by
  simp only [State.wrCcInval, State.wr_aside ha, ha.record, apply_ite get, ite_self]

theorem State.wrPool_aside (k : Pool) (data : Nat) (s : State) : get (State.wrPool k data s) = get s := by
  simp only [State.wrPool, State.pageIfDue_aside ha, State.writeFields_aside ha, apply_ite get, ite_self]

theorem State.wrBuoyVal_aside (v : Path) (k data : Nat) (s : State) : get (State.wrBuoyVal v k data s) = get s := by
  rw [State.wrBuoyVal]
  exact (State.buoySet_aside ha ..).trans (State.pairLow_aside ha ..)

theorem State.wrBuoyAdd_aside (v : Path) (data : Nat) (s : State) : get (State.wrBuoyAdd v data s) = get s := by
  simp only [State.wrBuoyAdd, State.buoyOp_aside ha, State.pairLow_aside ha, State.wr_aside ha]

theorem State.wrRetire_aside (data : Nat) (s : State) : get (State.wrRetire data s) = get s := by
  unfold State.wrRetire
  repeat' first
    | with_reducible rfl
    | simp only [↓State.retireExtent_aside ha, ↓apply_ite get]
    | (with_reducible refine (foldl_aside _ _ _ (fun s a => ?_)).trans ?_)
    | split

theorem State.wrAbort_aside (data : Nat) (s : State) : get (State.wrAbort data s) = get s := by
  simp only [State.wrAbort, State.failRound_aside ha, apply_ite get, ite_self]

theorem State.pend_aside (s : State) (k : Nat) (st : SeatState) : get (State.pend s k st) = get s := ha.upd rfl rfl rfl

theorem State.assign_aside (s : State) (p : Nat) (side : Side) (lane seat : Nat) : get (State.assign s p side lane seat) = get s := by
  unfold State.assign
  (repeat' split) <;> simp only [State.setLaneSt_aside ha]

theorem State.swapsEnd_aside (s : State) (p : Nat) : get (State.swapsEnd s p) = get s := by
  unfold State.swapsEnd
  repeat' first
    | with_reducible rfl
    | simp only [↓State.assign_aside ha, ↓State.setLaneSt_aside ha]
    | (with_reducible refine (foldl_aside _ _ _ (fun s a => ?_)).trans ?_)

theorem State.moveHg_aside (s : State) (x : Nat) (m : HgMode) : get (State.moveHg s x m) = get s := by
  simp only [State.moveHg, State.setHg_aside ha, State.wrB_aside ha]

theorem State.followHgCtrl_aside (s : State) (x : Nat) : get (State.followHgCtrl s x) = get s := by
  simp only [State.followHgCtrl, State.moveHg_aside ha, apply_ite get, ite_self]

theorem State.wrHgCtrl_aside (x data : Nat) (s : State) : get (State.wrHgCtrl x data s) = get s := by
  simp only [State.wrHgCtrl, State.followHgCtrl_aside ha, State.writeFields_aside ha]

theorem State.retrySeats_aside (p : Nat) (side : Side) (data : Nat) (s : State) : get (State.retrySeats p side data s) = get s := by
  unfold State.retrySeats
  repeat' first
    | with_reducible rfl
    | simp only [↓State.pend_aside ha, ↓apply_ite get, ite_self]
    | (with_reducible refine (foldl_aside _ _ _ (fun s a => ?_)).trans ?_)

theorem State.wrIdleDark_aside (data : Nat) (s : State) : get (State.wrIdleDark data s) = get s := by
  unfold State.wrIdleDark
  repeat' first
    | with_reducible rfl
    | simp only [↓State.setLaneSt_aside ha, ↓State.writeFields_aside ha]
    | (with_reducible refine (foldl_aside _ _ _ (fun s a => ?_)).trans ?_)

theorem State.wrRwlCtrl_aside (p data : Nat) (s : State) : get (State.wrRwlCtrl p data s) = get s := by
  simp only [State.wrRwlCtrl, State.setLaneSt_aside ha, State.wrB_aside ha, State.writeFields_aside ha, apply_ite get, ite_self]

theorem State.wrLvlCtrl_aside (data : Nat) (s : State) : get (State.wrLvlCtrl data s) = get s := by
  unfold State.wrLvlCtrl
  repeat' first
    | with_reducible rfl
    | simp only [↓State.wr_aside ha, ↓State.writeFields_aside ha, ↓apply_ite get]
    | (with_reducible refine (foldl_aside _ _ _ (fun s a => ?_)).trans ?_)
    | split

theorem State.datumTo_aside (s : State) (st : Nat) : get (State.datumTo s st) = get s := by
  simp only [State.datumTo, State.wr_aside ha, State.wrB_aside ha, ha.record]

theorem State.wrDtmCtrl_aside (data : Nat) (s : State) : get (State.wrDtmCtrl data s) = get s := by
  simp only [State.wrDtmCtrl, State.datumTo_aside ha, State.writeFields_aside ha, apply_ite get, ite_self]

theorem State.setVisit_aside (s : State) (k : Nat) (v : Visit) : get (State.setVisit s k v) = get s := ha.upd rfl rfl rfl

theorem State.queuePass_aside (s : State) (p : Nat) : get (State.queuePass s p) = get s := by
  simp only [State.queuePass, State.wrBit_aside ha, apply_ite get, ite_self]

theorem State.wrPassReq_aside (data : Nat) (s : State) : get (State.wrPassReq data s) = get s := by
  unfold State.wrPassReq
  repeat' first
    | with_reducible rfl
    | simp only [↓State.queuePass_aside ha]
    | (with_reducible refine (foldl_aside _ _ _ (fun s a => ?_)).trans ?_)

theorem State.visitMoved_aside (s : State) (k : Nat) (narrow : Bool) : get (State.visitMoved s k narrow) = get s := by
  unfold State.visitMoved
  (repeat' split) <;> simp only [State.pend_aside ha, State.setVisit_aside ha]

theorem State.beginRelock_aside (s : State) (b attempt : Nat) : get (State.beginRelock s b attempt) = get s := by
  simp only [State.beginRelock, State.bump_aside ha, State.setSynth_aside ha, State.wr_aside ha]

theorem State.relockAfterPause_aside (s : State) (p : Nat) : get (State.relockAfterPause s p) = get s := by
  simp only [State.relockAfterPause, State.beginRelock_aside ha, apply_ite get, ite_self]

theorem State.askRelock_aside (s : State) (b : Nat) : get (State.askRelock s b) = get s := by
  simp only [State.askRelock, State.beginRelock_aside ha, State.relockAfterPause_aside ha, State.setSynth_aside ha, State.startPause_aside ha,
      apply_ite get, ite_self]

theorem State.leaveFailed_aside (s : State) (b : Nat) : get (State.leaveFailed s b) = get s := by
  simp only [State.leaveFailed, State.beginRelock_aside ha, apply_ite get, ite_self]

theorem State.askChange_aside (s : State) (kind : ChangeKind) (target ports : List Nat) :
    get (State.askChange s kind target ports) = get s := ha.upd rfl rfl rfl

theorem State.clearControl_aside (s : State) (p resets : Nat) : get (State.clearControl s p resets) = get s := by
  simp only [State.clearControl, State.relockAfterPause_aside ha, State.setLink_aside ha, State.wr_aside ha]

theorem State.laneOpsLost_aside (s : State) (p : Nat) : get (State.laneOpsLost s p) = get s := by
  unfold State.laneOpsLost
  repeat' first
    | with_reducible rfl
    | simp only [↓State.assign_aside ha, ↓State.setLaneSt_aside ha, ↓State.swapsEnd_aside ha, ↓State.visitMoved_aside ha]
    | (with_reducible refine (foldl_aside _ _ _ (fun s a => ?_)).trans ?_)

theorem State.toWait_aside (s : State) (p resets : Nat) : get (State.toWait s p resets) = get s := by
  simp only [State.toWait, State.clearControl_aside ha, State.laneOpsLost_aside ha, State.leaveFailed_aside ha, State.linkTo_aside ha,
      State.returnPages_aside ha, State.setLink_aside ha]

theorem State.fanTo_aside (s : State) (k st : Nat) : get (State.fanTo s k st) = get s := by
  simp only [State.fanTo, State.setFan_aside ha, State.wr_aside ha]

theorem State.disableLink_aside (s : State) (p : Nat) : get (State.disableLink s p) = get s := by
  simp only [State.disableLink, State.clearControl_aside ha, State.linkFault_aside ha, State.linkTo_aside ha, State.returnPages_aside ha,
      State.setLink_aside ha, apply_ite get, ite_self]

theorem State.wrLnkCtrl_aside (p data : Nat) (s : State) : get (State.wrLnkCtrl p data s) = get s := by
  simp only [State.wrLnkCtrl, State.disableLink_aside ha, State.linkTo_aside ha, State.queueOp_aside ha, State.toWait_aside ha, State.wr_aside ha,
      State.writeFields_aside ha, apply_ite get, ite_self]

theorem State.wrOptCtrl_aside (b data : Nat) (s : State) : get (State.wrOptCtrl b data s) = get s := by
  simp only [State.wrOptCtrl, State.askRelock_aside ha, State.beginRelock_aside ha, State.writeFields_aside ha, apply_ite get, ite_self]

theorem State.applyMap_aside (s : State) : get (State.applyMap s) = get s := by
  simp only [State.applyMap, State.askChange_aside ha, State.wr_aside ha, apply_ite get, ite_self]

theorem State.wrFlmCtrl_aside (data : Nat) (s : State) : get (State.wrFlmCtrl data s) = get s := by
  simp only [State.wrFlmCtrl, State.applyMap_aside ha, State.writeFields_aside ha, apply_ite get, ite_self]

theorem State.wrFanCtrl_aside (k data : Nat) (s : State) : get (State.wrFanCtrl k data s) = get s := by
  unfold State.wrFanCtrl
  repeat' first
    | with_reducible rfl
    | simp only [↓State.fanTo_aside ha, ↓State.setFan_aside ha, ↓apply_ite get, ite_self]
    | (with_reducible refine (foldl_aside _ _ _ (fun s a => ?_)).trans ?_)
    | split

theorem State.nvsResult_aside (s : State) (r : Nat) : get (State.nvsResult s r) = get s := ha.upd rfl rfl rfl

theorem State.wrNvsCmd_aside (data : Nat) (s : State) : get (State.wrNvsCmd data s) = get s := by
  simp only [State.wrNvsCmd, State.nvsResult_aside ha, State.wr_aside ha, ha.record, apply_ite get, ite_self]

theorem State.wrUmpCtrl_aside (data : Nat) (s : State) : get (State.wrUmpCtrl data s) = get s := by
  unfold State.wrUmpCtrl
  repeat' first
    | with_reducible rfl
    | simp only [↓State.wr_aside ha, ↓State.writeFields_aside ha, ↓ha.record, ↓apply_ite get, ite_self]
    | (with_reducible refine (foldl_aside _ _ _ (fun s a => ?_)).trans ?_)
    | split

theorem State.wrOvrClr_aside (data : Nat) (s : State) : get (State.wrOvrClr data s) = get s := by
  unfold State.wrOvrClr
  repeat' first
    | with_reducible rfl
    | simp only [↓State.wr_aside ha]
    | (with_reducible refine (foldl_aside _ _ _ (fun s a => ?_)).trans ?_)

theorem State.commitPair_aside (v : Path) (pg first data : Nat) (s : State) : get (State.commitPair v pg first data s) = get s := by
  simp only [State.commitPair, State.pairLow_aside ha, State.writeFields_aside ha]

theorem State.holdPair_aside (v : Path) (pg off data : Nat) (s : State) : get (State.holdPair v pg off data s) = get s := ha.upd rfl rfl rfl

theorem State.wrCredAdv_aside (pg off data : Nat) (s : State) : get (State.wrCredAdv pg off data s) = get s := by
  simp only [State.wrCredAdv, State.writeFields_aside ha, apply_ite get, ite_self]

theorem State.wrSpareBank_aside (data : Nat) (s : State) : get (State.wrSpareBank data s) = get s := by
  simp only [State.wrSpareBank, State.writeFields_aside ha, apply_ite get, ite_self]

theorem State.wrFanCfg_aside (k data : Nat) (s : State) : get (State.wrFanCfg k data s) = get s := by
  simp only [State.wrFanCfg, State.writeFields_aside ha, apply_ite get, ite_self]

theorem State.wrReset_aside (data : Nat) (s : State) : get (State.wrReset data s) = get s := by
  simp only [State.wrReset, ha.record, apply_ite get, ite_self]

theorem State.wrLock_aside (s : State) (v : Path) (pg data : Nat) : get (State.wrLock s v pg data) = get s := by
  simp only [State.wrLock, State.refuse_aside ha, State.wr_aside ha, apply_ite get, ite_self]

/-- What a write does, if anything, keeps the reading. -/
def EffAside (get : State → α) (o : Option (Nat → State → State)) : Prop := ∀ f, o = some f → ∀ d s, get (f d s) = get s

omit ha in
theorem effAside_none : EffAside get none := fun _ h => nomatch h

omit ha in
theorem effAside_some {f : Nat → State → State} (h : ∀ d s, get (f d s) = get s) : EffAside get (some f) := by
  rintro g ⟨⟩
  exact h

theorem headerEffect_aside (pg off : Nat) : EffAside get (headerEffect pg off) := by
  unfold headerEffect
  repeat' first
    | with_reducible exact effAside_none
    | with_reducible refine effAside_some fun d s => ?_
    | simp only [State.clearErr_aside ha]
    | split

theorem coxEffect_aside (v : Path) (off : Nat) : EffAside get (coxEffect v off) := by
  unfold coxEffect
  repeat' first
    | with_reducible exact effAside_none
    | with_reducible refine effAside_some fun d s => ?_
    | simp only [State.commitPair_aside ha, State.holdPair_aside ha, State.wrCcInval_aside ha, State.wrIqCfg_aside ha, State.wrIqTail_aside ha,
          State.wrOqCfg_aside ha]
    | split

theorem buoEffect_aside (v : Path) (off : Nat) : EffAside get (buoEffect v off) := by
  unfold buoEffect
  repeat' first
    | with_reducible exact effAside_none
    | with_reducible refine effAside_some fun d s => ?_
    | simp only [State.holdPair_aside ha, State.wrBuoyAdd_aside ha, State.wrBuoyVal_aside ha]
    | split

theorem flmEffect_aside (off : Nat) : EffAside get (flmEffect off) := by
  unfold flmEffect
  repeat' first
    | with_reducible exact effAside_none
    | with_reducible refine effAside_some fun d s => ?_
    | simp only [State.wrFanCfg_aside ha, State.wrFanCtrl_aside ha, State.wrFlmCtrl_aside ha, State.wrSpareBank_aside ha]
    | split

theorem rsvEffect_aside (off : Nat) : EffAside get (rsvEffect off) := by
  unfold rsvEffect
  repeat' first
    | with_reducible exact effAside_none
    | with_reducible refine effAside_some fun d s => ?_
    | simp only [State.pageIfDue_aside ha, State.wrPool_aside ha, State.writeFields_aside ha]
    | split

theorem pairEffect_aside (v : Path) (pg off : Nat) : EffAside get (pairEffect v pg off) := by
  unfold pairEffect
  repeat' first
    | with_reducible exact effAside_none
    | with_reducible refine effAside_some fun d s => ?_
    | simp only [State.commitPair_aside ha, State.holdPair_aside ha]
    | split

theorem blockEffect_aside (v : Path) (b : Block) (pg off : Nat)
    (hctrl : b = .clv → off = 0x004 → ∀ d s, get (State.wrClvCtrl (pg - 0x020) d s) = get s) : EffAside get (blockEffect v b pg off) := by
  unfold blockEffect
  repeat' first
    | with_reducible exact effAside_none
    | with_reducible exact coxEffect_aside ha _ _
    | with_reducible exact rsvEffect_aside ha _
    | with_reducible exact flmEffect_aside ha _
    | with_reducible exact buoEffect_aside ha _ _
    | with_reducible exact pairEffect_aside ha _ _ _
    | with_reducible refine effAside_some fun d s => ?_
    | exact hctrl rfl ‹_› _ _
    | simp only [State.retrySeats_aside ha, State.wrAbort_aside ha, State.wrCredAdv_aside ha, State.wrDtmCtrl_aside ha, State.wrHgCtrl_aside ha,
          State.wrIdleDark_aside ha, State.wrLnkCtrl_aside ha, State.wrLvlCtrl_aside ha, State.wrNvsCmd_aside ha, State.wrOptCtrl_aside ha,
          State.wrOvrClr_aside ha, State.wrPassReq_aside ha, State.wrReset_aside ha, State.wrRetire_aside ha, State.wrRwlCtrl_aside ha,
          State.wrUmpCtrl_aside ha]
    | split

theorem effectOf_aside (v : Path) (pg off : Nat) (hctrl : blockOf pg = some .clv → off = 0x004 → ∀ d s, get (State.wrClvCtrl (pg - 0x020) d s) = get s)
    (d : Nat) (s : State) : get (effectOf v pg off d s) = get s := by
  unfold effectOf
  cases hpg : blockOf pg with
  | none => rfl
  | some b =>
    cases hh : headerEffect pg off with
    | some f => exact headerEffect_aside ha _ _ _ hh _ _
    | none =>
      cases hb : blockEffect v b pg off with
      | some f => simp only [hb]; exact blockEffect_aside ha _ _ _ _ (fun h => hctrl (h ▸ hpg)) _ hb _ _
      | none => simp only [hb]; exact State.writeFields_aside ha _ _ _ _

theorem State.writeReg_aside (s : State) (v : Path) (pg off data : Nat)
    (hctrl : blockOf pg = some .clv → off = 0x004 → ∀ d s, get (State.wrClvCtrl (pg - 0x020) d s) = get s) :
    get (State.writeReg s v pg off data) = get s := by
  unfold State.writeReg
  split
  · rfl
  · split
    · exact State.wrLock_aside ha _ _ _ _
    · exact State.access_aside ha _ _ _ _ _ _ (effectOf_aside ha v pg off hctrl)

theorem State.writeAddr_aside (s : State) (v : Path) (addr data : Nat)
    (hctrl : blockOf (pageOfAddr addr) = some .clv → offOfAddr addr = 0x004 → ∀ d s, get (State.wrClvCtrl (pageOfAddr addr - 0x020) d s) = get s) :
    get (State.writeAddr s v addr data) = get s := State.writeReg_aside ha _ _ _ _ _ hctrl

end

/-! ## The management port and the control cycles before the first stroke -/

/-- The management port and the control cycles before the first stroke. -/
def State.calm (s : State) : MgmtState × Nat := (s.mgmt, s.clk.idle)

theorem aside_calm : Aside State.calm where
  upd hmgmt _ hidle := by rw [State.calm, State.calm, hmgmt, hidle]
  culv _ _ _ _ := rfl

theorem foldl_calm {α : Type} (f : State → α → State) (l : List α) (s : State) (h : ∀ s a, (f s a).calm = s.calm) :
    (l.foldl f s).calm = s.calm := foldl_aside f l s h

theorem State.raise1_calm (s : State) (e : Event) : (State.raise1 s e).calm = s.calm := State.raise1_aside aside_calm s e

theorem State.wrClvCtrl_calm (c data : Nat) (s : State) : (State.wrClvCtrl c data s).calm = s.calm := by
  have hfields := State.writeFields_aside aside_calm s (0x020 + c) 0x004 data
  simp only [State.wrClvCtrl]
  (repeat' split) <;> exact hfields

theorem State.writeAddr_calm (s : State) (v : Path) (addr data : Nat) : (State.writeAddr s v addr data).calm = s.calm :=
  State.writeAddr_aside aside_calm s v addr data fun _ _ => State.wrClvCtrl_calm _

theorem State.sbSend_calm (s : State) (c : Nat) : (State.sbSend s c).calm = s.calm := by
  simp only [State.sbSend]
  (repeat' split) <;> rfl

theorem State.lanesOne_calm (s : State) (c : Nat) : (State.lanesOne s c).calm = s.calm := by
  simp only [State.lanesOne]
  split <;> rfl

theorem State.lanesCycle_calm (s : State) : (State.lanesCycle s).calm = s.calm := foldl_calm _ _ s State.lanesOne_calm

end Sys2Proof.Machine
end

section
/-! SUPPORT. The management port (spec section 04, R129 to R139): a change of some fields and of the port alone, the end of a transfer with no word
waiting, and a common command code taken or refused; with them the common command codes, the ends of transfers, the Target Reset pattern, reads
and writes of control space over the bus, and the scan instructions that take the pins. -/

namespace Sys2Proof.Machine

/-! ## A change of some fields and of the management port -/

/-- Nothing but fields of a list and the management port's own state changes. -/
def MgmtOnly (fs : List Field) (s t : State) : Prop := sameFields fs s t ∧ t = { s with regs := t.regs, mgmt := t.mgmt }

theorem MgmtOnly.refl (fs : List Field) (s : State) : MgmtOnly fs s s := ⟨fun _ _ => rfl, rfl⟩

theorem MgmtOnly.trans {fs : List Field} {s t u : State} (h : MgmtOnly fs s t) (h' : MgmtOnly fs t u) : MgmtOnly fs s u := by
  obtain ⟨hst, ht⟩ := h
  obtain ⟨htu, hu⟩ := h'
  refine ⟨fun g hg => (htu g hg).trans (hst g hg), ?_⟩
  rw [hu, ht]

theorem MgmtOnly.mono {fs gs : List Field} {s t : State} (h : MgmtOnly fs s t) (hsub : ∀ f ∈ fs, f ∈ gs) : MgmtOnly gs s t :=
  ⟨fun g hg => h.1 g fun f hf => hg f (hsub f hf), h.2⟩

theorem MgmtOnly.wr {fs : List Field} {s t : State} (h : MgmtOnly fs s t) {f : Field} (hf : f ∈ fs) (v : Nat) : MgmtOnly fs s (t.wr f v) :=
  h.trans ⟨fun _ hg => t.rd_wr_ne v (hg f hf), rfl⟩

theorem MgmtOnly.bump {fs : List Field} {s t : State} (h : MgmtOnly fs s t) {f : Field} (hf : f ∈ fs) : MgmtOnly fs s (t.bump f) := h.wr hf _

theorem MgmtOnly.withMgmt {fs : List Field} {s t : State} (h : MgmtOnly fs s t) (m : MgmtState) : MgmtOnly fs s { t with mgmt := m } :=
  h.trans ⟨fun _ _ => rfl, rfl⟩

theorem MgmtOnly.busAnswer {fs : List Field} {s t : State} (h : MgmtOnly fs s t) (ack : Bool) (out : List Byte) :
    MgmtOnly fs s (t.busAnswer ack out) := h.withMgmt _

theorem MgmtOnly.rd {fs : List Field} {s t : State} (h : MgmtOnly fs s t) {g : Field} (hg : ∀ f ∈ fs, f.key ≠ g.key) : t.rd g = s.rd g := h.1 g hg

theorem MgmtOnly.flag {fs : List Field} {s t : State} (h : MgmtOnly fs s t) {g : Field} (hg : ∀ f ∈ fs, f.key ≠ g.key) : t.flag g = s.flag g :=
  congrArg (· != 0) (h.rd hg)

/-! ## The end of a transfer -/

/-- With no word waiting, a transfer ends as it stands. -/
theorem State.endXfer_of_idle {s : State} (h : s.mgmt.todo = []) (kind : Nat) : s.endXfer kind = s.closeXfer kind := by
  simp [State.endXfer, State.drainBus, h]

theorem State.closeXfer_of_none {s : State} (h : s.mgmt.xfer = .none) (kind : Nat) : s.closeXfer kind = s := by simp [State.closeXfer, h]

/-- The registers after the end of a transfer: a cut one is counted (R136). -/
def State.endCounted (s : State) (kind : Nat) (x : BusXfer) : State :=
  if x.cut then ((s.wr Reg.MGT.STAT_LAST_RESET kind).wr Reg.MGT.STAT_ABORTED 1).bump Reg.MGT.ABORT_CNT_ABORTS
  else s.wr Reg.MGT.STAT_LAST_RESET kind

theorem State.endCounted_mgmt (s : State) (kind : Nat) (x : BusXfer) : (s.endCounted kind x).mgmt = s.mgmt := by
  unfold State.endCounted
  split <;> rfl

theorem State.closeXfer_of_some {s : State} {x : BusXfer} (h : s.mgmt.xfer = some x) (kind : Nat) :
    s.closeXfer kind = { s.endCounted kind x with
      mgmt := { s.mgmt with xfer := .none, armed := if kind = 1 then false else s.mgmt.armed, sda := false } } := by
  rw [← s.endCounted_mgmt kind x]
  simp only [State.closeXfer, h]
  rfl

theorem State.endCounted_only (s : State) (kind : Nat) (x : BusXfer) : MgmtOnly endFields s (s.endCounted kind x) := by
  have hlast := (MgmtOnly.refl endFields s).wr (f := Reg.MGT.STAT_LAST_RESET) (by simp [endFields]) kind
  unfold State.endCounted
  split
  · exact (hlast.wr (by simp [endFields]) 1).bump (by simp [endFields])
  · exact hlast

/-- The end of a transfer touches three fields of the port's status and the port (R136). -/
theorem State.closeXfer_only (s : State) (kind : Nat) : MgmtOnly endFields s (s.closeXfer kind) := by
  cases h : s.mgmt.xfer with
  | none => rw [State.closeXfer_of_none h]; exact .refl _ s
  | some x => rw [State.closeXfer_of_some h]; exact (s.endCounted_only kind x).withMgmt _

theorem State.closeXfer_xfer (s : State) (kind : Nat) : (s.closeXfer kind).mgmt.xfer = .none := by
  cases h : s.mgmt.xfer with
  | none => rw [State.closeXfer_of_none h, h]
  | some x => rw [State.closeXfer_of_some h]

theorem State.closeXfer_todo (s : State) (kind : Nat) : (s.closeXfer kind).mgmt.todo = s.mgmt.todo := by
  cases h : s.mgmt.xfer with
  | none => rw [State.closeXfer_of_none h]
  | some x => rw [State.closeXfer_of_some h]

/-- The end of a transfer changes neither the answer nor the bytes driven. -/
theorem State.closeXfer_answer (s : State) (kind : Nat) :
    (s.closeXfer kind).mgmt.ack = s.mgmt.ack ∧ (s.closeXfer kind).mgmt.out = s.mgmt.out := by
  cases h : s.mgmt.xfer with
  | none => rw [State.closeXfer_of_none h]; exact ⟨rfl, rfl⟩
  | some x => rw [State.closeXfer_of_some h]; exact ⟨rfl, rfl⟩

theorem MgmtOnly.addressed {s t : State} (h : MgmtOnly endFields s t) (form : BusForm) (a : BitVec 7) : t.addressed form a = s.addressed form a := by
  have hvalid : t.flag Reg.MGT.STAT_DA_VALID = s.flag Reg.MGT.STAT_DA_VALID := h.flag (by decide)
  have hda : t.rd Reg.MGT.STAT_DA = s.rd Reg.MGT.STAT_DA := h.rd (by decide)
  have hstrap : t.rd Reg.GLB.STRAPS_I3C_ADDR = s.rd Reg.GLB.STRAPS_I3C_ADDR := h.rd (by decide)
  simp only [State.addressed, State.staticAddr, hvalid, hda, hstrap]

/-! ## Common command codes -/

section
variable {s : State} (hd : s.busDeaf = false) (ht : s.mgmt.todo = [])
include hd ht

/-- A code that Tolfa takes: it acts, acknowledges and drives its answer. -/
theorem State.ccc_taken {ok : State → Bool} {act : State → State} (out : List Byte) (hok : ok (s.closeXfer 1) = true) :
    s.ccc ok act out = { (act (s.closeXfer 1)).busAnswer true out with
      mgmt := { ((act (s.closeXfer 1)).busAnswer true out).mgmt with armed := false } } := by
  simp [State.ccc, hd, s.endXfer_of_idle ht, hok]

/-- A code that Tolfa does not take is not acknowledged. -/
theorem State.ccc_refused {ok : State → Bool} {act : State → State} (out : List Byte) (hok : ok (s.closeXfer 1) = false) :
    s.ccc ok act out = (s.closeXfer 1).busAnswer false [] := by
  simp [State.ccc, hd, s.endXfer_of_idle ht, hok]

/-- A code addressed to Tolfa that only gives an answer. -/
theorem State.ccc_answers {a : BitVec 7} (out : List Byte) (ha : s.addressed .i3c a = true) :
    ∃ t, Host.Outcome.next (s.ccc (fun s => s.addressed .i3c a) id out) = (.next t : Host.Outcome State Fault Refusal) ∧ t.mgmt.ack = true ∧
      t.mgmt.out = out ∧ sameFields endFields s t ∧ t = { s with regs := t.regs, mgmt := t.mgmt } := by
  have hend := s.closeXfer_only 1
  rw [State.ccc_taken hd ht out ((hend.addressed .i3c a).trans ha)]
  exact ⟨_, rfl, rfl, rfl, (hend.busAnswer true out).withMgmt _⟩

/-- A code not addressed to Tolfa. -/
theorem State.ccc_ignores {a : BitVec 7} {act : State → State} (out : List Byte) (ha : s.addressed .i3c a = false) :
    ∃ t, Host.Outcome.next (s.ccc (fun s => s.addressed .i3c a) act out) = (.next t : Host.Outcome State Fault Refusal) ∧ t.mgmt.ack = false ∧
      t.mgmt.out = [] ∧ sameFields endFields s t := by
  have hend := s.closeXfer_only 1
  rw [State.ccc_refused hd ht out ((hend.addressed .i3c a).trans ha)]
  exact ⟨_, rfl, rfl, rfl, (hend.busAnswer false []).1⟩

/-- RSTACT to Tolfa sets the action; with another defining byte it is not acknowledged. -/
theorem exec_rstact_direct {a : BitVec 7} {n : Byte} (ha : s.addressed .i3c a = true) (hn : n.toNat ≤ 2) :
    ∃ t, exec (.rstact (some a) n) s = .next t ∧ t.mgmt.ack = true ∧ t.rd Reg.MGT.STAT_RSTACT = n.toNat ∧
      MgmtOnly (Reg.MGT.STAT_RSTACT :: endFields) s t := by
  have hend := s.closeXfer_only 1
  have hok : ((s.closeXfer 1).addressed .i3c a && decide (n.toNat ≤ 2)) = true := by simp [hend.addressed, ha, hn]
  refine ⟨_, congrArg Host.Outcome.next (State.ccc_taken hd ht [] hok), rfl, ?_, ?_⟩
  · exact (State.rd_wr_same _ _ _).trans (Nat.mod_eq_of_lt (lt_of_le_of_lt hn (by decide)))
  · have hact := (hend.mono (gs := Reg.MGT.STAT_RSTACT :: endFields) fun f hf => List.mem_cons_of_mem _ hf).wr List.mem_cons_self n.toNat
    exact (hact.busAnswer true []).withMgmt _

theorem exec_rstact_broadcast {n : Byte} (hn : n.toNat ≤ 2) :
    ∃ t, exec (.rstact .none n) s = .next t ∧ t.rd Reg.MGT.STAT_RSTACT = n.toNat ∧ MgmtOnly (Reg.MGT.STAT_RSTACT :: endFields) s t := by
  have hend := s.closeXfer_only 1
  have hexec : exec (.rstact .none n) s = .next (((s.closeXfer 1).wr Reg.MGT.STAT_RSTACT n.toNat).busAnswer true []) := by
    show execRstact .none n s = _
    simp [execRstact, hd, s.endXfer_of_idle ht, hn]
  refine ⟨_, hexec, ?_, ?_⟩
  · exact (State.rd_wr_same _ _ _).trans (Nat.mod_eq_of_lt (lt_of_le_of_lt hn (by decide)))
  · exact ((hend.mono fun f hf => List.mem_cons_of_mem _ hf).wr List.mem_cons_self n.toNat).busAnswer true []

/-- ENEC and DISEC addressed to all are acknowledged and have no effect. -/
theorem State.idleCcc_broadcast :
    ∃ t, Host.Outcome.next (s.idleCcc .none) = (.next t : Host.Outcome State Fault Refusal) ∧ t.mgmt.ack = true ∧ t.mgmt.out = [] ∧
      sameFields endFields s t ∧ t = { s with regs := t.regs, mgmt := t.mgmt } := by
  have hidle : s.idleCcc .none = (s.closeXfer 1).busAnswer true [] := by simp [State.idleCcc, hd, s.endXfer_of_idle ht]
  rw [hidle]
  exact ⟨_, rfl, rfl, rfl, (s.closeXfer_only 1).busAnswer true []⟩

end

theorem length_toBytes (n v : Nat) : (toBytes n v).length = n := by
  induction n generalizing v with
  | zero => rfl
  | succ n ih => simp [toBytes, ih]

/-- Settles O8: a code ends the open transfer, then answers as its acceptance says. -/
theorem commonCommandCodes : Obligations.CommonCommandCodes := by
  refine ⟨fun s a hd ht ha => ?_, fun c s a hc hd ht ha => ?_, fun s a hd ht ha => State.ccc_answers hd ht [0, 0] ha, fun c s a hc hd ht ha => ?_,
    fun c s a hc hd ht ha => ?_, fun s a n hd ht ha hn => exec_rstact_direct hd ht ha hn, fun s a n hd ht hn => ?_, fun s n hd ht hn => ?_,
    fun s n hd ht hn => ?_, fun s a ht => ?_, fun s ht => ?_⟩
  · obtain ⟨t, hexec, hack, hout, honly⟩ := State.ccc_answers hd ht s.pidBytes ha
    exact ⟨t, hexec, hack, hout, by rw [hout, State.pidBytes, List.length_reverse, length_toBytes], honly⟩
  · rcases hc with rfl | rfl <;> exact State.ccc_answers hd ht [0] ha
  · rcases hc with rfl | rfl | rfl | rfl | rfl | rfl <;> exact State.ccc_ignores hd ht _ ha
  · rcases hc with rfl | rfl | rfl | rfl
    · exact State.ccc_answers hd ht [] ha
    · exact State.ccc_answers hd ht [] ha
    · exact State.idleCcc_broadcast hd ht
    · exact State.idleCcc_broadcast hd ht
  · have hok : ((s.closeXfer 1).addressed .i3c a && decide (n.toNat ≤ 2)) = false := by simp [hn]
    exact ⟨_, congrArg Host.Outcome.next (State.ccc_refused hd ht [] hok), rfl, ((s.closeXfer_only 1).busAnswer false []).1⟩
  · obtain ⟨t, hexec, hact, honly⟩ := exec_rstact_broadcast hd ht hn
    exact ⟨t, hexec, hact, honly.1⟩
  · refine ⟨s.closeXfer 1, ?_, (s.closeXfer_only 1).1⟩
    show execRstact .none n s = _
    simp [execRstact, hd, s.endXfer_of_idle ht, hn]
  · refine ⟨(s.closeXfer 1).busAnswer false [], ?_, rfl, rfl, (s.closeXfer_only 1).busAnswer false []⟩
    rw [← s.endXfer_of_idle ht]
    rfl
  · refine ⟨s.closeXfer 1, ?_, (s.closeXfer_answer 1).1, (s.closeXfer_answer 1).2, s.closeXfer_only 1⟩
    rw [← s.endXfer_of_idle ht]
    rfl

/-! ## How transfers end -/

/-- What the end of a transfer leaves: its kind, that SDA is released, and for a cut transfer the abort, counted (R136). -/
theorem State.closeXfer_spec {s : State} {x : BusXfer} (hx : s.mgmt.xfer = some x) (hmax : s.rd Reg.MGT.ABORT_CNT_ABORTS < 0xFFFF) {kind : Nat}
    (hkind : kind < 4) :
    let t := s.closeXfer kind
    t.mgmt.xfer = .none ∧ t.mgmt.sda = false ∧ t.rd Reg.MGT.STAT_LAST_RESET = kind ∧
      (x.cut = true → t.rd Reg.MGT.STAT_ABORTED = 1 ∧ t.rd Reg.MGT.ABORT_CNT_ABORTS = s.rd Reg.MGT.ABORT_CNT_ABORTS + 1) ∧
      (x.cut = false → sameFields [Reg.MGT.STAT_LAST_RESET] s t) ∧ MgmtOnly endFields s t := by
  intro t
  have honly : MgmtOnly endFields s t := s.closeXfer_only kind
  have ht : t = _ := State.closeXfer_of_some hx kind
  have hregs : ∀ g, t.rd g = (s.endCounted kind x).rd g := fun g => by rw [ht]; rfl
  have hlast : ∀ u : State, (u.wr Reg.MGT.STAT_LAST_RESET kind).rd Reg.MGT.STAT_LAST_RESET = kind := fun u =>
    (u.rd_wr_same _ _).trans (Nat.mod_eq_of_lt hkind)
  refine ⟨by rw [ht], by rw [ht], ?_, fun hcut => ?_, fun hcut g hg => ?_, honly⟩
  · rw [hregs, State.endCounted]
    split
    · rw [State.rd_bump_ne _ (by decide), State.rd_wr_ne _ _ (by decide), hlast]
    · exact hlast s
  · rw [hregs, hregs, State.endCounted, if_pos hcut]
    refine ⟨?_, ?_⟩
    · rw [State.rd_bump_ne _ (by decide), State.rd_wr_same]
      rfl
    · rw [State.rd_bump_same, State.rd_wr_ne _ _ (by decide), State.rd_wr_ne _ _ (by decide)]
      exact Nat.min_eq_left (Nat.le_of_lt_succ (Nat.succ_lt_succ hmax))
  · rw [hregs, State.endCounted, if_neg (by simp [hcut])]
    exact s.rd_wr_ne _ (hg _ List.mem_cons_self)

theorem exec_transferEnd {s : State} (r : Bool) (ht : s.mgmt.todo = []) : exec (.transferEnd r) s = .next (s.closeXfer 1) :=
  congrArg Host.Outcome.next (s.endXfer_of_idle ht 1)

theorem exec_sclLowTimeout {s : State} (ht : s.mgmt.todo = []) : exec .sclLowTimeout s = .next (s.closeXfer 3) :=
  congrArg Host.Outcome.next (s.endXfer_of_idle ht 3)

/-- A register write leaves the management port's own state. -/
theorem State.writeAddr_mgmt (s : State) (v : Path) (a d : Nat) : (s.writeAddr v a d).mgmt = s.mgmt := congrArg Prod.fst (s.writeAddr_calm v a d)

theorem State.parityDue_of_not {s : State} (h : s.mgmt.parityAfter = false) : s.parityDue = s := by simp [State.parityDue, h]

theorem State.busNext_write {s : State} {a d : Nat} {rest : List BusWord} (h : s.mgmt.todo = .write a d :: rest) :
    s.busNext = (State.writeAddr { s with mgmt := { s.mgmt with todo := rest } } .mgmt a d).parityDue := by
  rw [State.busNext, h]
  rfl

/-- R132: the one word that waits is committed before the transfer ends. -/
theorem State.endXfer_of_word {s : State} {a d : Nat} (ht : s.mgmt.todo = [.write a d]) (hp : s.mgmt.parityAfter = false) (kind : Nat) :
    s.endXfer kind = (State.writeAddr { s with mgmt := { s.mgmt with todo := [] } } .mgmt a d).endXfer kind := by
  have hmgmt := State.writeAddr_mgmt { s with mgmt := { s.mgmt with todo := [] } } .mgmt a d
  have hnext := (State.busNext_write ht).trans (State.parityDue_of_not ((congrArg MgmtState.parityAfter hmgmt).trans hp))
  have hdrain : s.drainBus = State.writeAddr { s with mgmt := { s.mgmt with todo := [] } } .mgmt a d := by
    rw [State.drainBus, ht]
    exact hnext
  rw [State.endXfer, hdrain, State.endXfer_of_idle (congrArg MgmtState.todo hmgmt)]

/-! ## The Target Reset pattern -/

/-- The state in which a Target Reset pattern's action is performed: the transfer ended and the pattern counted, with action 0x01 again. -/
def State.patternTaken (s : State) : State :=
  let t := ((s.closeXfer 2).wr Reg.MGT.STAT_LAST_RESET 2).bump Reg.MGT.ABORT_CNT_RESETS
  { t.wr Reg.MGT.STAT_RSTACT 1 with mgmt := { t.mgmt with armed := true } }

/-- The fields that a Target Reset pattern changes before its action. -/
def patternFields : List Field := Reg.MGT.STAT_RSTACT :: Reg.MGT.ABORT_CNT_RESETS :: endFields

theorem State.patternTaken_only (s : State) : MgmtOnly patternFields s s.patternTaken := by
  have hend := (s.closeXfer_only 2).mono (gs := patternFields) fun f hf => by simp [patternFields, hf]
  exact (((hend.wr (by simp [patternFields, endFields]) 2).bump (by simp [patternFields])).wr (by simp [patternFields]) 1).withMgmt _

theorem State.patternTaken_last (s : State) : s.patternTaken.rd Reg.MGT.STAT_LAST_RESET = 2 := by
  show (((s.closeXfer 2).wr Reg.MGT.STAT_LAST_RESET 2).bump Reg.MGT.ABORT_CNT_RESETS |>.wr Reg.MGT.STAT_RSTACT 1).rd Reg.MGT.STAT_LAST_RESET = 2
  rw [State.rd_wr_ne _ _ (by decide), State.rd_bump_ne _ (by decide), State.rd_wr_same]
  rfl

theorem State.patternTaken_rstact (s : State) : s.patternTaken.rd Reg.MGT.STAT_RSTACT = 1 :=
  State.rd_wr_same (((s.closeXfer 2).wr Reg.MGT.STAT_LAST_RESET 2).bump Reg.MGT.ABORT_CNT_RESETS) Reg.MGT.STAT_RSTACT 1

/-- R137, R138: the pattern applies the action at hand, or 0x02 where it is the second with no transfer completed since the first. -/
theorem exec_targetReset {s : State} (hd : s.busDeaf = false) (ht : s.mgmt.todo = []) :
    exec .targetReset s = .next (s.patternTaken.targetAction (if (s.closeXfer 2).mgmt.armed then 2 else s.rd Reg.MGT.STAT_RSTACT)) := by
  have hact : (((s.closeXfer 2).wr Reg.MGT.STAT_LAST_RESET 2).bump Reg.MGT.ABORT_CNT_RESETS).rd Reg.MGT.STAT_RSTACT = s.rd Reg.MGT.STAT_RSTACT := by
    rw [State.rd_bump_ne _ (by decide), State.rd_wr_ne _ _ (by decide), (s.closeXfer_only 2).rd (by decide)]
  show execTargetReset s = _
  simp only [execTargetReset, hd, s.endXfer_of_idle ht, hact]
  rfl

/-- An end that is no STOP or repeated START leaves the pattern armed or not (R138). -/
theorem State.closeXfer_armed (s : State) {kind : Nat} (h : kind ≠ 1) : (s.closeXfer kind).mgmt.armed = s.mgmt.armed := by
  cases hx : s.mgmt.xfer with
  | none => rw [State.closeXfer_of_none hx]
  | some x => rw [State.closeXfer_of_some hx]; exact if_neg h

/-- Action 0x02 where the hub may not reset the die: action 0x01, and the refusal is shown (Table 4.9). -/
theorem State.targetAction_denied {s : State} (h : s.flag Reg.MGT.CTRL = false) :
    s.targetAction 2 = s.portReset.wr Reg.MGT.STAT_CHIP_RESET_DENIED 1 := by simp [State.targetAction, h]

theorem State.targetAction_reset {s : State} (h : s.flag Reg.MGT.CTRL = true) : s.targetAction 2 = s.softReset := by simp [State.targetAction, h]

theorem State.portReset_pointer (s : State) : s.portReset.rd Reg.MGT.POINTER = 0 := s.rd_wr_same Reg.MGT.POINTER 0

theorem State.portReset_rd_ne (s : State) {g : Field} (h : Reg.MGT.POINTER.key ≠ g.key) : s.portReset.rd g = s.rd g := s.rd_wr_ne 0 h

theorem State.portReset_path (s : State) : s.portReset.path .mgmt = PathState.reset := State.path_setPath_same _ _ _

theorem State.portReset_frame {s t : State} (h : t = { s with regs := t.regs, mgmt := t.mgmt }) :
    t.portReset = { s with regs := t.portReset.regs, mgmt := t.portReset.mgmt, paths := t.portReset.paths } := by
  obtain ⟨r, m, rfl⟩ : ∃ r m, t = { s with regs := r, mgmt := m } := ⟨_, _, h⟩
  rfl

theorem State.patternTaken_ctrl (s : State) : s.patternTaken.flag Reg.MGT.CTRL = s.flag Reg.MGT.CTRL := s.patternTaken_only.flag (by decide)

/-- After any action but a full reset, the port hears the next pattern, finds nothing waiting, and counts it as the second. -/
def SecondPattern (s t : State) : Prop :=
  t.busDeaf = s.busDeaf ∧ t.mgmt.todo = s.mgmt.todo ∧ t.mgmt.armed = true ∧ t.flag Reg.MGT.CTRL = s.flag Reg.MGT.CTRL ∧ t.held = s.held

theorem SecondPattern.of_mgmt {s t u : State} (h : SecondPattern s t) (hm : u.mgmt = t.mgmt) (hd : u.busDeaf = t.busDeaf)
    (hc : u.rd Reg.MGT.CTRL = t.rd Reg.MGT.CTRL) (hh : u.held = t.held) : SecondPattern s u := by
  obtain ⟨hdeaf, htodo, harmed, hctrl, hheld⟩ := h
  exact ⟨hd.trans hdeaf, hm ▸ htodo, hm ▸ harmed, (congrArg (· != 0) hc).trans hctrl, hh.trans hheld⟩

theorem State.patternTaken_second (s : State) : SecondPattern s s.patternTaken := by
  have hsame := s.patternTaken_only.2
  exact ⟨by rw [hsame]; rfl, s.closeXfer_todo 2, rfl, s.patternTaken_ctrl, by rw [hsame]⟩

theorem State.portReset_second {s t : State} (h : SecondPattern s t) : SecondPattern s t.portReset :=
  h.of_mgmt rfl rfl (t.portReset_rd_ne (by decide)) rfl

/-- R138: where the hub may not reset the die, every action leaves the port for the second pattern. -/
theorem State.targetAction_second {s t : State} (h : SecondPattern s t) (hc : t.flag Reg.MGT.CTRL = false) (a : Nat) :
    SecondPattern s (t.targetAction a) := by
  unfold State.targetAction
  split
  · exact h
  · rw [if_neg (by simp [hc])]
    exact (State.portReset_second h).of_mgmt rfl rfl (State.rd_wr_ne _ _ (by decide)) rfl
  · exact State.portReset_second h

/-- R138: every action leaves the die held, or the port for the second pattern. -/
theorem State.targetAction_second_or_held {s t : State} (h : SecondPattern s t) (a : Nat) :
    SecondPattern s (t.targetAction a) ∨ (t.targetAction a).held = true := by
  cases hc : t.flag Reg.MGT.CTRL
  · exact .inl (State.targetAction_second h hc a)
  · unfold State.targetAction
    split
    · exact .inl h
    · exact .inr (by rw [if_pos hc]; rfl)
    · exact .inl (State.portReset_second h)

/-- The second pattern applies action 0x02 (R138). -/
theorem exec_targetReset_second {s t : State} (h : SecondPattern s t) (hd : s.busDeaf = false) (ht : s.mgmt.todo = []) :
    exec .targetReset t = .next (t.patternTaken.targetAction 2) := by
  obtain ⟨hdeaf, htodo, harmed, -, -⟩ := h
  rw [exec_targetReset (hdeaf.trans hd) (htodo.trans ht), t.closeXfer_armed (by decide), harmed, if_pos rfl]

/-- The first pattern's action, where it is not the second. -/
theorem exec_targetReset_first {s : State} (hd : s.busDeaf = false) (ht : s.mgmt.todo = []) (ha : s.mgmt.armed = false) :
    exec .targetReset s = .next (s.patternTaken.targetAction (s.rd Reg.MGT.STAT_RSTACT)) := by
  rw [exec_targetReset hd ht, s.closeXfer_armed (by decide), ha, if_neg (by decide)]

/-- With action 0x02 set, the pattern applies it, whether it is the second or not. -/
theorem exec_targetReset_chip {s : State} (hd : s.busDeaf = false) (ht : s.mgmt.todo = []) (hact : s.rd Reg.MGT.STAT_RSTACT = 2) :
    exec .targetReset s = .next (s.patternTaken.targetAction 2) := by
  rw [exec_targetReset hd ht, hact, ite_self]

/-- What action 0x02 leaves where the hub may not reset the die. -/
theorem State.patternTaken_denied {s : State} (h : s.flag Reg.MGT.CTRL = false) :
    let t := s.patternTaken.targetAction 2
    t.held = s.held ∧ t.rd Reg.MGT.STAT_CHIP_RESET_DENIED = 1 ∧ t.rd Reg.MGT.POINTER = 0 ∧ t.rd Reg.MGT.STAT_RSTACT = 1 := by
  intro t
  have ht : t = s.patternTaken.portReset.wr Reg.MGT.STAT_CHIP_RESET_DENIED 1 := State.targetAction_denied (s.patternTaken_ctrl.trans h)
  have hheld : s.patternTaken.held = s.held := by rw [s.patternTaken_only.2]
  rw [ht]
  refine ⟨hheld, State.rd_wr_same _ _ _, ?_, ?_⟩
  · rw [State.rd_wr_ne _ _ (by decide), State.portReset_pointer]
  · rw [State.rd_wr_ne _ _ (by decide), State.portReset_rd_ne _ (by decide), State.patternTaken_rstact]

/-- Settles O9: with no word waiting a transfer ends as it stands; a pattern is taken first, and its action then done. -/
theorem transfersEndAndReset : Obligations.TransfersEndAndReset := by
  refine ⟨fun s x r ht hx hmax => ⟨_, exec_transferEnd r ht, State.closeXfer_spec hx hmax (by decide)⟩,
    fun s x ht hx hmax => ⟨_, exec_sclLowTimeout ht, State.closeXfer_spec hx hmax (by decide)⟩, fun s r ht hx => ?_,
    fun s c r a d hc ht hp => ?_, fun s hd ht ha hact => ?_, fun s hd ht ha hact => ?_, fun s hd ht hact hc => ?_, fun s hd ht hact hc => ?_,
    fun s hd ht hc => ?_, fun s hd ht hc => ?_⟩
  · rw [exec_transferEnd r ht, exec_sclLowTimeout ht, State.closeXfer_of_none hx, State.closeXfer_of_none hx]
    exact ⟨rfl, rfl⟩
  · rcases hc with rfl | rfl <;> exact congrArg Host.Outcome.next (State.endXfer_of_word ht hp _)
  · have hexec := exec_targetReset_first hd ht ha
    rw [hact] at hexec
    have honly := s.patternTaken_only
    exact ⟨s.patternTaken, hexec, s.closeXfer_xfer 2, s.patternTaken_last, s.patternTaken_rstact, honly.rd (by decide),
      by rw [honly.2]; rfl, honly.2⟩
  · have hexec := exec_targetReset_first hd ht ha
    rw [hact] at hexec
    have honly := s.patternTaken_only
    refine ⟨s.patternTaken.portReset, hexec, s.closeXfer_xfer 2, ?_, ?_, State.portReset_pointer _, State.portReset_path _, ?_, ?_,
      State.portReset_frame honly.2⟩
    · rw [State.portReset_rd_ne _ (by decide), State.patternTaken_last]
    · rw [State.portReset_rd_ne _ (by decide), State.patternTaken_rstact]
    · rw [State.portReset_rd_ne _ (by decide), honly.rd (by decide)]
    · rw [State.portReset_rd_ne _ (by decide), honly.rd (by decide)]
  · have hexec := exec_targetReset_chip hd ht hact
    have honly := s.patternTaken_only
    rw [State.targetAction_reset (s.patternTaken_ctrl.trans hc)] at hexec
    exact ⟨s.patternTaken.softReset, hexec, rfl, rfl, by rw [honly.2]; rfl, by rw [honly.2]; rfl⟩
  · exact ⟨_, exec_targetReset_chip hd ht hact, State.patternTaken_denied hc⟩
  · refine ⟨_, exec_targetReset hd ht, fun hheld => ?_⟩
    rcases State.targetAction_second_or_held s.patternTaken_second _ with hsecond | hreset
    · refine ⟨_, exec_targetReset_second hsecond hd ht, ?_⟩
      obtain ⟨-, -, -, hctrl, -⟩ := hsecond
      rw [State.targetAction_reset ((State.patternTaken_ctrl _).trans (hctrl.trans hc))]
      rfl
    · exact absurd (hheld.symm.trans hreset) (by decide)
  · have hsecond := State.targetAction_second s.patternTaken_second (s.patternTaken_ctrl.trans hc)
      (if (s.closeXfer 2).mgmt.armed then 2 else s.rd Reg.MGT.STAT_RSTACT)
    refine ⟨_, exec_targetReset hd ht, _, exec_targetReset_second hsecond hd ht, ?_⟩
    obtain ⟨-, -, -, hctrl, hheld⟩ := hsecond
    obtain ⟨hsame, hdenied, hpointer, -⟩ := State.patternTaken_denied (hctrl.trans hc)
    exact ⟨hdenied, hpointer, hsame.trans hheld⟩

/-! ## Private transfers -/

/-- A die at reset whose management port still notes a byte of wrong parity, with no word of a transfer before it. -/
def parityNoted : State := { State.reset with mgmt := { MgmtState.reset with parityAfter := true } }

/-- Whether an ERR bit of the page of a byte of wrong parity reads 1 after a command. -/
def readsParity : Host.Outcome State Fault Refusal → Bool
  | .next u => u.rd (errField Err.MGT.PARITY.cls Err.MGT.PARITY.page) != 0
  | _ => false

/-- Refutes O10: a read over the bus does not clear the note of a byte of wrong parity (R135), so that the event of an earlier write is raised after
the read's word, and an ERR register changes. -/
theorem not_privateTransfers : ¬ Obligations.PrivateTransfers := by
  rintro ⟨-, -, -, -, hread, -⟩
  obtain ⟨t, hexec, -, -, hsame, -⟩ := hread parityNoted .i2c 0x30 1 (by decide) (by decide) (by decide) (by decide)
  have hkept : t.rd (errField Err.MGT.PARITY.cls Err.MGT.PARITY.page) = 0 := hsame _ (by decide)
  have hraised : readsParity (exec (.privateRead .i2c 0x30 1) parityNoted) = true := by decide +kernel
  rw [hexec] at hraised
  exact absurd hkept (by simpa [readsParity] using hraised)

/-! ## Scan instructions -/

/-- The transfer under way where an instruction takes the pins ends as at a STOP (R486). -/
theorem State.tapTakesPins_of_idle {s : State} (ht : s.mgmt.todo = []) (ir : BitVec 6) (capture : Word) :
    s.tapTakesPins ir capture = (if s.busBlind then s else s.closeXfer 1).tapTo ir capture := by
  rw [State.tapTakesPins, State.endXfer_of_idle ht]

theorem State.pinsTaken_only (s : State) : MgmtOnly endFields s (if s.busBlind then s else s.closeXfer 1) := by
  split
  · exact .refl _ s
  · exact s.closeXfer_only 1

/-- With EXTEST, CLAMP or HIGHZ current the management port hears nothing (R486). -/
theorem State.deaf_of_busBlind {s : State} (h : s.busBlind = true) : s.deaf .mgmt = true := by simp [State.deaf, State.busDeaf, h]

/-- With EXTEST or CLAMP current the ball of ALIVE is the boundary register's (Table 15.13). -/
theorem State.aliveBall_scanned {s : State} (h : s.busBlind = true) (hir : s.tap.ir ≠ 0x04) :
    s.aliveBall = if s.tap.boundary.getLsbD 13 then some (s.tap.boundary.getLsbD 12) else .none := by
  rw [State.aliveBall, if_neg hir, if_pos h]

/-- An instruction that takes the pins changes the port's status, the port and the TAP, and nothing else. -/
theorem State.pinsTaken_frame {s t : State} (h : MgmtOnly endFields s t) (tap : Tap) :
    sameFields [Reg.MGT.STAT_LAST_RESET, Reg.MGT.STAT_ABORTED, Reg.MGT.ABORT_CNT_ABORTS] s { t with tap := tap } ∧
      ({ t with tap := tap } : State) = { s with regs := t.regs, mgmt := t.mgmt, tap := tap } := by
  obtain ⟨hfields, hframe⟩ := h
  refine ⟨hfields, ?_⟩
  obtain ⟨r, m, rfl⟩ : ∃ r m, t = { s with regs := r, mgmt := m } := ⟨_, _, hframe⟩
  rfl

/-- A cut transfer is shown as aborted at its end; one that is not leaves the bit. -/
theorem State.closeXfer_aborted {s : State} {x : BusXfer} (hx : s.mgmt.xfer = some x) :
    (s.closeXfer 1).mgmt.xfer = .none ∧ (s.closeXfer 1).mgmt.sda = false ∧ (s.closeXfer 1).rd Reg.MGT.STAT_LAST_RESET = 1 ∧
      (s.closeXfer 1).rd Reg.MGT.STAT_ABORTED = if x.cut then 1 else s.rd Reg.MGT.STAT_ABORTED := by
  have hregs : ∀ g, (s.closeXfer 1).rd g = (s.endCounted 1 x).rd g := fun g => by rw [State.closeXfer_of_some hx]; rfl
  refine ⟨s.closeXfer_xfer 1, by rw [State.closeXfer_of_some hx], ?_, ?_⟩
  · rw [hregs, State.endCounted]
    split
    · rw [State.rd_bump_ne _ (by decide), State.rd_wr_ne _ _ (by decide), State.rd_wr_same]
      rfl
    · exact s.rd_wr_same _ _
  · rw [hregs, State.endCounted]
    split
    · rw [State.rd_bump_ne _ (by decide), State.rd_wr_same]
      rfl
    · exact s.rd_wr_ne _ (by decide)

/-- SCAN_STAT's word is put together without carries (Table 15.16). -/
theorem State.scanWord_toNat (s : State) : s.scanWord.toNat =
    0x5C * 2 ^ 24 + s.rd Reg.GLB.STAT_STEP % 16 * 2 ^ 20 + s.rd Reg.GLB.STAT_READY % 2 * 2 ^ 19 + s.rd Reg.GLB.STAT_SAFE % 2 * 2 ^ 18 +
      s.rd Reg.UMP.STAT_STATE % 4 * 2 ^ 16 + s.rd Reg.CKM.STAT_PLL_LOCK % 2 * 2 ^ 15 + s.rd Reg.CKM.STAT_REF_PRESENT % 2 * 2 ^ 14 +
      s.syncCode % 4 * 2 ^ 12 + s.rd Reg.STK.STAT_BACKUP % 2 * 2 ^ 11 + s.rd Reg.GLB.STAT_UNTRACED % 2 * 2 ^ 10 +
      s.rd Reg.GLB.STRAPS_POSITION % 4 * 2 ^ 8 + s.rd Reg.GLB.STRAPS_MODE % 2 * 2 ^ 7 + s.rd Reg.GLB.STRAPS_I3C_ADDR % 8 * 2 ^ 4 + 1 := by
  refine (BitVec.toNat_ofNat _ _).trans (Nat.mod_eq_of_lt ?_)
  show _ + s.rd Reg.GLB.STAT_STEP % 16 * 2 ^ 20 + s.rd Reg.GLB.STAT_READY % 2 * 2 ^ 19 + s.rd Reg.GLB.STAT_SAFE % 2 * 2 ^ 18 +
    s.rd Reg.UMP.STAT_STATE % 4 * 2 ^ 16 + s.rd Reg.CKM.STAT_PLL_LOCK % 2 * 2 ^ 15 + s.rd Reg.CKM.STAT_REF_PRESENT % 2 * 2 ^ 14 +
    s.syncCode % 4 * 2 ^ 12 + s.rd Reg.STK.STAT_BACKUP % 2 * 2 ^ 11 + s.rd Reg.GLB.STAT_UNTRACED % 2 * 2 ^ 10 +
    s.rd Reg.GLB.STRAPS_POSITION % 4 * 2 ^ 8 + s.rd Reg.GLB.STRAPS_MODE % 2 * 2 ^ 7 + s.rd Reg.GLB.STRAPS_I3C_ADDR % 8 * 2 ^ 4 + 1 < 2 ^ 32
  omega

/-- Each part of SCAN_STAT's word is read back from its bits (Table 15.16). -/
theorem State.scanWord_parts (s : State) :
    s.scanWord.toNat / 2 ^ 24 = 0x5C ∧ s.scanWord.toNat / 2 ^ 20 % 16 = s.rd Reg.GLB.STAT_STEP % 16 ∧
    s.scanWord.toNat / 2 ^ 19 % 2 = s.rd Reg.GLB.STAT_READY % 2 ∧ s.scanWord.toNat / 2 ^ 18 % 2 = s.rd Reg.GLB.STAT_SAFE % 2 ∧
    s.scanWord.toNat / 2 ^ 16 % 4 = s.rd Reg.UMP.STAT_STATE % 4 ∧ s.scanWord.toNat / 2 ^ 15 % 2 = s.rd Reg.CKM.STAT_PLL_LOCK % 2 ∧
    s.scanWord.toNat / 2 ^ 14 % 2 = s.rd Reg.CKM.STAT_REF_PRESENT % 2 ∧ s.scanWord.toNat / 2 ^ 11 % 2 = s.rd Reg.STK.STAT_BACKUP % 2 ∧
    s.scanWord.toNat / 2 ^ 10 % 2 = s.rd Reg.GLB.STAT_UNTRACED % 2 ∧
    s.scanWord.toNat / 2 ^ 8 % 4 = s.rd Reg.GLB.STRAPS_POSITION % 4 ∧ s.scanWord.toNat / 2 ^ 7 % 2 = s.rd Reg.GLB.STRAPS_MODE % 2 ∧
    s.scanWord.toNat / 2 ^ 4 % 8 = s.rd Reg.GLB.STRAPS_I3C_ADDR % 8 ∧ s.scanWord.toNat % 16 = 1 := by
  rw [s.scanWord_toNat]
  refine ⟨?_, ?_, ?_, ?_, ?_, ?_, ?_, ?_, ?_, ?_, ?_, ?_, ?_⟩ <;> omega

/-- Settles O6: the instructions set the TAP; three of them first end the transfer under way. -/
theorem scanInstructions : Obligations.ScanInstructions := by
  have htap : ∀ s : State, (if s.busBlind then s else s.closeXfer 1).tap = s.tap := fun s => by rw [s.pinsTaken_only.2]
  have hexec : ∀ {s : State}, s.mgmt.todo = [] → (∀ cells, exec (.extest cells) s =
        .next { (if s.busBlind then s else s.closeXfer 1) with tap := { s.tap with ir := 0x00, boundary := cells } }) ∧
      exec .clamp s = .next { (if s.busBlind then s else s.closeXfer 1) with tap := { s.tap with ir := 0x03, capture := 0 } } ∧
      exec .highz s = .next { (if s.busBlind then s else s.closeXfer 1) with tap := { s.tap with ir := 0x04, capture := 0 } } := by
    intro s ht
    refine ⟨fun cells => ?_, ?_, ?_⟩
    · show execExtest cells s = _
      rw [execExtest, State.tapTakesPins_of_idle ht, State.tapTo, htap]
    · show execClamp s = _
      rw [execClamp, State.tapTakesPins_of_idle ht, State.tapTo, htap]
    · show execHighz s = _
      rw [execHighz, State.tapTakesPins_of_idle ht, State.tapTo, htap]
  refine ⟨fun _ => rfl, fun _ => rfl, fun _ => rfl, fun s a b => ?_, fun s => ?_, fun s cells ht => ?_, fun s ht => ?_, fun s ht => ?_,
    fun s x c hc hblind ht hx => ?_⟩
  · refine ⟨_, rfl, rfl, rfl, fun i hi => ?_, rfl, rfl⟩
    exact (BitVec.getLsbD_setWidth ..).trans (by simp [show i < 32 by omega])
  · obtain ⟨h1, h2, h3, h4, h5, h6, h7, h8, h9, h10, h11, h12, h13⟩ := s.scanWord_parts
    exact ⟨_, rfl, rfl, h1, h2, h3, h4, h5, h6, h7, h8, h9, h10, h11, h12, h13, rfl⟩
  · obtain ⟨hsame, hframe⟩ := State.pinsTaken_frame s.pinsTaken_only { s.tap with ir := 0x00, boundary := cells }
    exact ⟨_, (hexec ht).1 cells, rfl, rfl, State.aliveBall_scanned rfl (by decide : (0x00 : BitVec 6) ≠ 0x04), State.deaf_of_busBlind rfl,
      hsame, hframe⟩
  · obtain ⟨hsame, hframe⟩ := State.pinsTaken_frame s.pinsTaken_only { s.tap with ir := 0x03, capture := 0 }
    exact ⟨_, (hexec ht).2.1, rfl, rfl, State.aliveBall_scanned rfl (by decide : (0x03 : BitVec 6) ≠ 0x04), State.deaf_of_busBlind rfl, hsame, hframe⟩
  · obtain ⟨hsame, hframe⟩ := State.pinsTaken_frame s.pinsTaken_only { s.tap with ir := 0x04, capture := 0 }
    exact ⟨_, (hexec ht).2.2, rfl, rfl, rfl, State.deaf_of_busBlind rfl, hsame, hframe⟩
  · have hends := State.closeXfer_aborted hx
    obtain ⟨hextest, hclamp, hhighz⟩ := hexec ht
    simp only [hblind, Bool.false_eq_true, if_false] at hextest hclamp hhighz
    rcases hc with rfl | rfl | rfl
    · exact ⟨_, hclamp, hends⟩
    · exact ⟨_, hhighz, hends⟩
    · exact ⟨_, hextest 0, hends⟩

end Sys2Proof.Machine
end

section
/-! SUPPORT. The tier 1 statements: one step of the block, and the state after reset. -/

namespace Sys2Proof.Machine

/-! ## The control cycle with nothing commanded -/

theorem State.readWord_idle (s : State) (v : Path) (a : Nat) : (s.readWord v a).2.clk.idle = s.clk.idle := by
  unfold State.readWord
  dsimp only
  split
  · rfl
  · split
    · rfl
    · split
      · rfl
      · split <;> rfl

theorem State.idle_of_calm {s t : State} (h : t.calm = s.calm) : t.clk.idle = s.clk.idle := congrArg Prod.snd h

theorem State.parityDue_idle (s : State) : s.parityDue.clk.idle = s.clk.idle := by
  unfold State.parityDue
  split
  · exact (State.idle_of_calm (State.raise1_calm s (plain Err.MGT.PARITY)) :)
  · rfl

theorem State.performBus_idle (s : State) (w : BusWord) : (s.performBus w).clk.idle = s.clk.idle := by
  cases w with
  | write a d => exact State.idle_of_calm (State.writeAddr_calm s .mgmt a d)
  | read a n =>
    simp only [State.performBus]
    split
    · rfl
    · exact State.readWord_idle s .mgmt a

theorem State.busNext_idle (s : State) : s.busNext.clk.idle = s.clk.idle := by
  unfold State.busNext
  split
  · rfl
  · exact (State.parityDue_idle _).trans (State.performBus_idle _ _)

theorem State.sbAnswer_idle (s : State) (c : Nat) (r : SbRsp) : (s.sbAnswer c r).clk.idle = s.clk.idle := by
  unfold State.sbAnswer
  dsimp only
  split
  · exact State.idle_of_calm (State.sbSend_calm _ _)
  · rfl

theorem State.performSb_idle (s : State) (c : Fin 8) (q : SbReq) : (s.performSb c q).clk.idle = s.clk.idle := by
  unfold State.performSb
  dsimp only
  split
  · exact (State.sbAnswer_idle _ _ _).trans (State.idle_of_calm (State.writeAddr_calm _ _ _ _))
  · exact (State.sbAnswer_idle _ _ _).trans (State.readWord_idle _ _ _)

theorem State.servePort_idle (s : State) : s.servePort.clk.idle = s.clk.idle := by
  unfold State.servePort
  split
  · rfl
  · split
    · exact State.busNext_idle s
    · split
      · rfl
      · unfold State.serveSb
        dsimp only
        split
        · rfl
        · exact State.performSb_idle _ _ _

theorem State.portCycle_idle (s : State) : s.portCycle.clk.idle = s.clk.idle :=
  (State.idle_of_calm (foldl_calm _ _ _ fun t c => State.sbSend_calm t c)).trans s.servePort_idle

theorem State.passCycle_idle (s : State) : s.passCycle.clk.idle = s.nextCycle.clk.idle := by
  unfold State.passCycle
  split
  · rfl
  · exact (State.idle_of_calm (State.lanesCycle_calm _)).trans (State.portCycle_idle _)

theorem State.passCycle_cycle (s : State) : s.passCycle.clk.cycle = s.nextCycle.clk.cycle := by
  unfold State.passCycle
  split
  · rfl
  · have h := (State.lanesCycle_still s.nextCycle.portCycle).trans (State.portCycle_still _)
    simp only [State.still, Prod.mk.injEq] at h
    obtain ⟨-, -, -, -, -, -, -, hcycle⟩ := h
    exact hcycle

/-- A fold that leaves its start at every element leaves it. -/
theorem foldl_leaves {σ α : Type} {f : σ → α → σ} {s : σ} : ∀ {l : List α}, (∀ a ∈ l, f s a = s) → l.foldl f s = s
  | [], _ => rfl
  | a :: l, h => by
    rw [List.foldl_cons, h a List.mem_cons_self]
    exact foldl_leaves fun b hb => h b (List.mem_cons_of_mem a hb)

/-- With nothing waiting for it the control-space port makes no access. -/
theorem State.servePort_of_none {s : State} (htodo : s.mgmt.todo = []) (hheld : ∀ c < 8, (s.culv c).held = []) : s.servePort = s := by
  have hnext : s.nextSb = none := by
    simp only [State.nextSb, List.find?_eq_none, List.mem_map]
    rintro c ⟨i, -, rfl⟩
    simpa using hheld _ (Nat.mod_lt (s.port.served + 1 + i) (by decide))
  simp [State.servePort, htodo, hnext]

/-- With no response waiting the sidebands send nothing. -/
theorem State.portCycle_of_none {s : State} (htodo : s.mgmt.todo = []) (hheld : ∀ c < 8, (s.culv c).held = [])
    (hanswers : ∀ c < 8, (s.culv c).answers = []) : s.portCycle = s := by
  unfold State.portCycle
  rw [State.servePort_of_none htodo hheld]
  refine foldl_leaves fun c hc => ?_
  simp [State.sbSend, hanswers c (List.mem_range.mp hc)]

/-- The lanes of culverts that neither run nor verify send nothing. -/
theorem State.lanesCycle_of_none {s : State} (hst : ∀ c < 8, s.culvState c < 4 ∨ 6 < s.culvState c) : s.lanesCycle = s := by
  refine foldl_leaves fun c hc => if_pos ?_
  have h := hst c (List.mem_range.mp hc)
  have h4 : s.culvState c ≠ 4 := by omega
  have h5 : s.culvState c ≠ 5 := by omega
  have h6 : s.culvState c ≠ 6 := by omega
  simp [State.culvRuns, h4, h5, h6]

theorem State.nextCycle_eq (s : State) : s.nextCycle = { s with
    clk := s.nextCycle.clk
    log := { s.log with cleared := s.nextCycle.log.cleared, raised := s.nextCycle.log.raised, emptied := s.nextCycle.log.emptied } } := by
  unfold State.nextCycle State.atCycle
  split
  · dsimp only
    split <;> rfl
  · rfl

theorem State.passCycle_of_none {s : State} (htodo : s.mgmt.todo = [])
    (hculv : ∀ c < 8, (s.culv c).held = [] ∧ (s.culv c).answers = [] ∧ (s.culvState c < 4 ∨ 6 < s.culvState c)) :
    s.passCycle = s.nextCycle := by
  unfold State.passCycle
  split
  · rfl
  · have hmgmt : s.nextCycle.mgmt = s.mgmt := by rw [s.nextCycle_eq]
    have hculvs : ∀ c, s.nextCycle.culv c = s.culv c := fun c => by rw [s.nextCycle_eq]; rfl
    have hstate : ∀ c, s.nextCycle.culvState c = s.culvState c := fun c => by rw [s.nextCycle_eq]; rfl
    rw [State.portCycle_of_none, State.lanesCycle_of_none]
    · exact fun c hc => by rw [hstate]; exact (hculv c hc).2.2
    · rw [hmgmt, htodo]
    · exact fun c hc => by rw [hculvs]; exact (hculv c hc).1
    · exact fun c hc => by rw [hculvs]; exact (hculv c hc).2.1

/-- Settles O1: a step is the front command's, and on an empty queue one control cycle of the port and the lanes. -/
theorem stepRunsFrontCommand : Obligations.StepRunsFrontCommand := by
  refine ⟨fun c rest s h => by rw [step, h], fun s h => ?_, fun s h htodo hculv => ?_, fun c s => ?_⟩
  · obtain ⟨hfuses, hpending, hheld, htap, hstroke, helapsed, -⟩ := (passCycle_within s).fields
    refine ⟨s.passCycle, by rw [step, h], fun hrun hlt => ?_, fun hrun heq => ?_, fun hrun => ?_,
      hstroke, helapsed, hpending.trans h, hfuses, hheld, htap⟩
    · rw [State.passCycle_cycle, State.nextCycle, if_pos hrun, State.atCycle_cycle]
      omega
    · rw [State.passCycle_cycle, State.nextCycle, if_pos hrun, State.atCycle_cycle]
      omega
    · rw [State.passCycle_cycle, State.passCycle_idle, State.nextCycle, hrun]
      exact ⟨rfl, rfl⟩
  · refine ⟨s.nextCycle, by rw [step, h, State.passCycle_of_none htodo hculv], s.nextCycle_eq⟩
  · obtain ⟨t, ht, hfuses, hpending, -⟩ := exec_apart c s
    exact ⟨t, ht, hpending, hfuses⟩

/-! ## Reset -/

/-- Settles O5: the tables read as their reset values before anything is written. -/
theorem resetValues : Obligations.ResetValues :=
  ⟨rfl, rfl, rfl, rfl, by decide +kernel, by decide +kernel, by decide +kernel, by decide +kernel, by decide +kernel, rfl, rfl, rfl,
    fun _ _ => ⟨rfl, rfl, rfl⟩, fun _ _ => ⟨rfl, rfl⟩, fun _ _ => rfl, fun _ _ => rfl, fun _ _ => ⟨rfl, rfl⟩⟩

end Sys2Proof.Machine
end

section
/-! SUPPORT. The error registers: what an event counts and records, and what ones written to a register clear (spec section 04, R109 to R113). -/

namespace Sys2Proof.Machine

/-! ## A bit cleared -/

theorem bitAt_clearBit_same (v i : Nat) : bitAt (clearBit v i) i = false := by
  unfold clearBit
  split
  · rename_i hbit
    simp only [bitAt, beq_iff_eq] at hbit
    have hsub : (v - 2 ^ i) / 2 ^ i = v / 2 ^ i - 1 := by
      simpa using Nat.sub_mul_div v (2 ^ i) 1
    simp only [bitAt, hsub, beq_eq_false_iff_ne]
    omega
  · exact Bool.eq_false_iff.2 ‹_›

theorem bitAt_clearBit_ne {v i j : Nat} (h : i ≠ j) : bitAt (clearBit v i) j = bitAt v j := by
  by_cases hbit : bitAt v i = true
  · have hle : 2 ^ i ≤ v := by
      by_contra hlt
      simp [bitAt, Nat.div_eq_of_lt (Nat.lt_of_not_le hlt)] at hbit
    have hset : setBit (clearBit v i) i = v := by
      rw [setBit, bitAt_clearBit_same, clearBit, if_pos hbit]
      exact Nat.sub_add_cancel hle
    rw [← bitAt_setBit_ne (v := clearBit v i) h, hset]
  · rw [clearBit, if_neg hbit]

/-! ## An event that is not merged (R110, R111) -/

theorem State.raise1_new {s : State} {e : Event} (h : s.merges e.code = false) :
    s.raise1 e = ((((((s.pairFor e.code).setErrBit e.code).countEvent e.code).recordEvent e s.stamp).logEvent (entryOf e s.stamp)).noteEvent
      e.code s.stamp true) := by
  rw [State.raise1, State.raiseAt]
  simp [s.pairFor_merges, h]

theorem State.logEvent_rd (s : State) (x : LogEntry) {g : Field} (h : Reg.LOG.DROP_CNT.key ≠ g.key) : (s.logEvent x).rd g = s.rd g := by
  unfold State.logEvent
  dsimp only
  split
  · exact s.rd_bump_ne h
  · rfl

/-- The three counters of ERR_CNT stand apart from the other fields an event changes. -/
theorem State.raise1_new_rd {s : State} {e : Event} (h : s.merges e.code = false) {g : Field} (hoff : g.off = 0x01C) (hlo : g.lo < 32) :
    (s.raise1 e).rd g = ((s.pairFor e.code).setErrBit e.code |>.countEvent e.code).rd g := by
  rw [State.raise1_new h]
  exact State.logEvent_rd _ (entryOf e s.stamp) (Field.key_ne_of_off (by simp [Reg.LOG.DROP_CNT, hoff]) (by decide) ⟨by omega, hlo⟩)

theorem State.setErrBit_pairFor_rd (s : State) (c : ErrCode) {g : Field} (hoff : g.off = 0x01C) (hlo : g.lo < 32) :
    ((s.pairFor c).setErrBit c).rd g = s.rd g := by
  rw [State.setErrBit, State.rd_wrBit_ne _ _ _ (key_ne_errField c.cls c.page (by omega) (by omega) hlo), s.pairFor_rd]
  exact Field.key_ne_of_off (by simp [Reg.UMP.FATAL_CNT_EVENTS, hoff]) (by decide) ⟨by omega, hlo⟩

theorem CNT_CORR_key_ne_CNT_CONT (pg : Nat) : (Reg.CNT_CORR pg).key ≠ (Reg.CNT_CONT pg).key :=
  Field.key_ne_of_lo (by simp [Reg.CNT_CORR, Reg.CNT_CONT]) (by simp [Reg.CNT_CORR]) (by simp [Reg.CNT_CONT])

theorem CNT_CORR_key_ne_CNT_MERGED (pg : Nat) : (Reg.CNT_CORR pg).key ≠ (Reg.CNT_MERGED pg).key :=
  Field.key_ne_of_lo (by simp [Reg.CNT_CORR, Reg.CNT_MERGED]) (by simp [Reg.CNT_CORR]) (by simp [Reg.CNT_MERGED])

theorem CNT_CONT_key_ne_CNT_MERGED (pg : Nat) : (Reg.CNT_CONT pg).key ≠ (Reg.CNT_MERGED pg).key :=
  Field.key_ne_of_lo (by simp [Reg.CNT_CONT, Reg.CNT_MERGED]) (by simp [Reg.CNT_CONT]) (by simp [Reg.CNT_MERGED])

/-- R111: an event that is not merged counts in its class, a fatal one in none. -/
theorem State.raise1_new_counts {s : State} {e : Event} (h : s.merges e.code = false) :
    (s.raise1 e).rd (Reg.CNT_MERGED e.code.page) = s.rd (Reg.CNT_MERGED e.code.page) ∧
      (s.raise1 e).rd (Reg.CNT_CORR e.code.page) =
        (if e.code.cls = .corr then min (s.rd (Reg.CNT_CORR e.code.page) + 1) 65535 else s.rd (Reg.CNT_CORR e.code.page)) ∧
      (s.raise1 e).rd (Reg.CNT_CONT e.code.page) =
        (if e.code.cls = .cont then min (s.rd (Reg.CNT_CONT e.code.page) + 1) 255 else s.rd (Reg.CNT_CONT e.code.page)) := by
  have hcorr := CNT_CORR_key_ne_CNT_CONT e.code.page
  have hmerged := CNT_CORR_key_ne_CNT_MERGED e.code.page
  have hcont := CNT_CONT_key_ne_CNT_MERGED e.code.page
  have hM := s.setErrBit_pairFor_rd e.code (g := Reg.CNT_MERGED e.code.page) rfl (by simp [Reg.CNT_MERGED])
  have hR := s.setErrBit_pairFor_rd e.code (g := Reg.CNT_CORR e.code.page) rfl (by simp [Reg.CNT_CORR])
  have hN := s.setErrBit_pairFor_rd e.code (g := Reg.CNT_CONT e.code.page) rfl (by simp [Reg.CNT_CONT])
  rw [State.raise1_new_rd h rfl (by simp [Reg.CNT_MERGED]), State.raise1_new_rd h rfl (by simp [Reg.CNT_CORR]),
    State.raise1_new_rd h rfl (by simp [Reg.CNT_CONT]), ← hM, ← hR, ← hN, State.countEvent]
  cases e.code.cls with
  | corr => exact ⟨State.rd_bump_ne _ hmerged, State.rd_bump_same _ _, State.rd_bump_ne _ hcorr⟩
  | cont => exact ⟨State.rd_bump_ne _ hcont, State.rd_bump_ne _ hcorr.symm, State.rd_bump_same _ _⟩
  | fatal => exact ⟨rfl, rfl, rfl⟩

/-- R110: an event that is not merged goes into its page's first-error record, if the record is empty or of a less severe one. -/
theorem State.raise1_new_record {s : State} {e : Event} (h : s.merges e.code = false) :
    (s.raise1 e).record e.code.page = recordAfter (s.record e.code.page) e s.stamp := by
  have hcount : ∀ t : State, (t.countEvent e.code).recs = t.recs := fun t => by
    cases hcls : e.code.cls <;> simp [State.countEvent, classCount, hcls]
  have hlog : ∀ (t : State) (x : LogEntry), (t.logEvent x).recs = t.recs := fun t x => by
    unfold State.logEvent
    dsimp only
    split <;> rfl
  have hrecs : (((s.pairFor e.code).setErrBit e.code).countEvent e.code).recs = s.recs := by
    rw [hcount, State.setErrBit]
    exact (s.pairFor_recs_log e.code).1
  rw [State.raise1_new h, State.record]
  refine (congrArg (Tab.read .none · e.code.page) (hlog _ (entryOf e s.stamp))).trans ?_
  simp only [State.recordEvent, Tab.read_write_same, hrecs, State.record]

/-- An event leaves the record of a more severe one. -/
theorem State.raise1_record_of_severer {s : State} {e : Event} {r : ErrRec} (hr : s.record e.code.page = some r)
    (hsev : severity e.code.cls < severity r.cls) (hemptied : ∀ x ∈ s.log.emptied, x.1 ≠ e.code.page) :
    (s.raise1 e).record e.code.page = some r := by
  cases hmerges : s.merges e.code with
  | true =>
    rw [State.record, State.raise1_merged_recs hmerges, State.recsAfterMerge_of_not_emptied hemptied]
    exact hr
  | false =>
    rw [State.raise1_new_record hmerges, hr]
    have hcls : r.cls ≠ e.code.cls := fun h => by rw [h] at hsev; exact Nat.lt_irrefl _ hsev
    have hless : ¬ severity r.cls < severity e.code.cls := by omega
    simp [recordAfter, hless, hcls]

/-! ## Ones written to an ERR register (R110, R112, R113) -/

/-- With all three ERR registers 0 the page's record empties. -/
theorem State.emptyRecord_of_zero {s : State} {pg : Nat} (hcorr : s.rd (Reg.ERR_CORR pg) = 0) (hcont : s.rd (Reg.ERR_CONT pg) = 0)
    (hfatal : s.rd (Reg.ERR_FATAL pg) = 0) : (s.emptyRecord pg).record pg = .none := by
  unfold State.emptyRecord
  rw [if_pos ⟨hcorr, hcont, hfatal⟩]
  split
  · assumption
  · simp [State.record]

/-- A one written clears a bit that no event of the same cycle set. -/
theorem State.clearErr_bit (s : State) (cls : EvClass) (pg : Nat) (d : Word) {b : Nat} (hb : b < 32) (hkeep : ¬ (cls = .fatal ∧ pg = 0x003 ∧ b = 1)) :
    bitAt ((s.clearErr cls pg d.toNat).rd (errField cls pg)) b =
      (bitAt (s.rd (errField cls pg)) b && (!d.getLsbD b || s.log.raised.contains (pg, cls, b))) := by
  have hmask : bitAt (if cls = EvClass.fatal ∧ pg = 3 then clearBit d.toNat 1 else d.toNat) b = d.getLsbD b := by
    rw [← bitAt_toNat]
    split
    · rename_i hump
      exact bitAt_clearBit_ne fun h1 => hkeep ⟨hump.1, hump.2, h1.symm⟩
    · rfl
  rw [State.clearErr_rd, State.clearBits_bit s cls pg d.toNat hb]
  simp only [State.goneBits, List.mem_filter, mem_setBits, hmask, hb]
  cases bitAt (s.rd (errField cls pg)) b <;> cases d.getLsbD b <;> simp

/-- R113: a write leaves UMP's SELF_PARITY. -/
theorem State.clearErr_selfParity (s : State) (m : Nat) :
    bitAt ((s.clearErr .fatal 0x003 m).rd (Reg.ERR_FATAL 0x003)) 1 = bitAt (s.rd (Reg.ERR_FATAL 0x003)) 1 := by
  have hgone : 1 ∉ s.goneBits .fatal 0x003 m := by simp [State.goneBits, mem_setBits, bitAt_clearBit_same]
  rw [State.clearErr_rd]
  exact (s.clearBits_bit .fatal 0x003 m (by decide)).trans (by simp [hgone, errField])

theorem State.clearErr_sameFields (s : State) (cls : EvClass) (pg m : Nat) : sameFields [errField cls pg] s (s.clearErr cls pg m) :=
  fun _ hg => s.clearErr_rd_ne cls pg m (hg _ (by simp))

theorem State.clearErr_frame (s : State) (cls : EvClass) (pg m : Nat) : s.clearErr cls pg m = { s with
    regs := (s.clearErr cls pg m).regs
    recs := (s.clearErr cls pg m).recs
    log := { s.log with cleared := (s.clearErr cls pg m).log.cleared, emptied := (s.clearErr cls pg m).log.emptied } } := by
  rw [State.clearErr_eq]
  rcases (s.clearBits cls pg m).emptyRecord_cases pg with h | ⟨-, r, -, h⟩ <;> (rw [h]; rfl)

/-- Settles O15: a clear takes the bits of ones no event of its cycle set; an event is merged, or counts in its class and is recorded. -/
theorem errorsAreRaisedAndCleared : Obligations.ErrorsAreRaisedAndCleared := by
  refine ⟨fun s via pg cls d hd hpg hump => ?_, fun s via pg d hd hpg hump => ?_, fun s via d hd => ?_, fun s e hb => s.raise1_shows e hb,
    fun s e hshows => ?_, fun s e hnew => State.raise1_new_counts hnew, fun s e hnew hnone => ?_, fun s e r hnew hr hsev => ?_,
    fun s e r hr hsev hemptied => State.raise1_record_of_severer hr hsev hemptied⟩
  · refine ⟨_, exec_errW1cWrite cls d hd hpg, fun b hb => s.clearErr_bit cls pg d hb fun h => hump ⟨h.1, h.2.1⟩, fun h1 h2 h3 => ?_,
      s.clearErr_sameFields cls pg _, s.clearErr_frame cls pg _⟩
    rw [State.clearErr_rd] at h1 h2 h3
    exact State.emptyRecord_of_zero h1 h2 h3
  · exact ⟨_, exec_errW1cWrite .fatal d hd hpg, fun b hb => s.clearErr_bit .fatal pg d hb fun h => hump h.2.1,
      s.clearErr_sameFields .fatal pg _, s.clearErr_frame .fatal pg _⟩
  · exact ⟨_, exec_errW1cWrite .fatal d hd rfl, fun b hb hne => s.clearErr_bit .fatal 0x003 d hb fun h => hne h.2.2,
      s.clearErr_selfParity _, s.clearErr_sameFields .fatal 0x003 _⟩
  · have hmerges := State.merges_of_shows hshows
    obtain ⟨hcorr, hcont⟩ := State.raise1_merged_class hmerges
    exact ⟨State.raise1_merged_count hmerges, hcorr, hcont,
      (State.raise1_merged_recs hmerges).trans (State.recsAfterMerge_of_shows hshows)⟩
  · rw [State.raise1_new_record hnew, hnone]
    rfl
  · rw [State.raise1_new_record hnew, hr]
    exact if_pos hsev

end Sys2Proof.Machine
end

section
/-! SUPPORT. Register writes by access type, CTRL, the samples of PEND, and pairs (spec section 04, R102 to R108, R140 to R142). -/

namespace Sys2Proof.Machine

/-! ## A write to the fields of a register (Table 0.4, R108) -/

theorem mem_findRow {rs : List RegRow} {off : Nat} {r : FieldRow} (h : r ∈ findRow rs off) : ∃ row ∈ rs, r ∈ row.fields := by
  induction rs with
  | nil => simp [findRow] at h
  | cons row rest ih =>
    rw [findRow, List.mem_append] at h
    rcases h with h | h
    · refine ⟨row, List.mem_cons_self, ?_⟩
      split_ifs at h
      · exact h
      · exact nomatch h
      · exact h
      · exact nomatch h
    · obtain ⟨row', hrow, hr⟩ := ih h
      exact ⟨row', List.mem_cons_of_mem _ hrow, hr⟩

theorem headerRows_lo : ∀ row ∈ headerRows, ∀ r ∈ row.fields, r.lo < 32 := by decide

theorem Block.rows_lo (b : Block) : ∀ row ∈ b.rows, ∀ r ∈ row.fields, r.lo < 32 := by
  cases b <;> decide

/-- The fields of the register tables start within 32 bits. -/
theorem fieldsAt_lo {pg off : Nat} {r : FieldRow} (h : r ∈ fieldsAt pg off) : r.lo < 32 := by
  unfold fieldsAt at h
  split at h
  · exact nomatch h
  · rename_i b _
    rw [List.mem_append] at h
    rcases h with h | h
    · obtain ⟨row, hrow, hr⟩ := mem_findRow h
      exact headerRows_lo row hrow r hr
    · obtain ⟨row, hrow, hr⟩ := mem_findRow h
      exact b.rows_lo row hrow r hr

theorem State.writeField_rd_ne (s : State) (pg off data : Nat) (r : FieldRow) {g : Field} (h : (fieldOf pg off r).key ≠ g.key) :
    (s.writeField pg off data r).rd g = s.rd g := by
  unfold State.writeField
  dsimp only
  split
  · split
    · exact s.rd_wr_ne _ h
    · rfl
  · exact s.rd_wr_ne _ h
  · rfl
  · rfl

theorem State.writeField_regs (s : State) (pg off data : Nat) (r : FieldRow) :
    s.writeField pg off data r = { s with regs := (s.writeField pg off data r).regs } := by
  unfold State.writeField
  dsimp only
  split
  · split <;> rfl
  · rfl
  · rfl
  · rfl

/-- A write to a register's fields changes the stored registers alone. -/
theorem State.writeFields_regs (s : State) (pg off data : Nat) :
    s.writeFields pg off data = { s with regs := (s.writeFields pg off data).regs } := by
  have hfold : ∀ (l : List FieldRow) (s : State), (l.foldl (fun s r => s.writeField pg off data r) s) =
      { s with regs := (l.foldl (fun s r => s.writeField pg off data r) s).regs } := by
    intro l
    induction l with
    | nil => exact fun s => rfl
    | cons r l ih =>
      intro s
      rw [List.foldl_cons, ih, s.writeField_regs]
  unfold State.writeFields
  dsimp only
  split
  · exact (congrArg (State.clearCounts · pg) (hfold _ s)).trans (by rw [hfold]; rfl)
  · exact hfold _ s

/-- The fields after a write to a register by its rows, but those of CNT_CLR. -/
theorem State.writeFields_rows_rd_ne (s : State) {pg off : Nat} (data : Nat) {g : Field} (hoff : off ≠ g.off) (h : off < 0x1000)
    (hg : g.off < 0x1000 ∧ g.lo < 32) : ((fieldsAt pg off).foldl (fun s r => s.writeField pg off data r) s).rd g = s.rd g :=
  foldl_untouched _ (State.rd · g) (fun t r hr => t.writeField_rd_ne pg off data r
    (Field.key_ne_of_off hoff ⟨h, fieldsAt_lo hr⟩ hg)) s

/-- A write to a register leaves the fields of other registers; a write to CTRL may clear the counts of ERR_CNT (R108). -/
theorem State.writeFields_rd_ne (s : State) {pg off : Nat} (data : Nat) {g : Field} (hoff : off ≠ g.off) (hcnt : off = 0x004 → g.off ≠ 0x01C)
    (h : off < 0x1000) (hg : g.off < 0x1000 ∧ g.lo < 32) : (s.writeFields pg off data).rd g = s.rd g := by
  unfold State.writeFields
  dsimp only
  split
  · rename_i hctrl
    have hne : ∀ f : Field, f.off = 0x01C → f.lo < 32 → f.key ≠ g.key := fun f hf hlo =>
      Field.key_ne_of_off (hf ▸ (hcnt hctrl.1).symm) ⟨by omega, hlo⟩ hg
    rw [State.clearCounts, State.rd_wr_ne _ _ (hne _ rfl (by simp [Reg.CNT_MERGED])), State.rd_wr_ne _ _ (hne _ rfl (by simp [Reg.CNT_CONT])),
      State.rd_wr_ne _ _ (hne _ rfl (by simp [Reg.CNT_CORR]))]
    exact s.writeFields_rows_rd_ne data hoff h hg
  · exact s.writeFields_rows_rd_ne data hoff h hg

/-! ## CNT_CLR (R108) -/

theorem State.clearCounts_rd (s : State) (pg : Nat) : (s.clearCounts pg).rd (Reg.CNT_CORR pg) = 0 ∧
    (s.clearCounts pg).rd (Reg.CNT_CONT pg) = 0 ∧ (s.clearCounts pg).rd (Reg.CNT_MERGED pg) = 0 := by
  refine ⟨?_, ?_, ?_⟩
  · rw [State.clearCounts, State.rd_wr_ne _ _ (CNT_CORR_key_ne_CNT_MERGED pg).symm, State.rd_wr_ne _ _ (CNT_CORR_key_ne_CNT_CONT pg).symm,
      State.rd_wr_same, Nat.zero_mod]
  · rw [State.clearCounts, State.rd_wr_ne _ _ (CNT_CONT_key_ne_CNT_MERGED pg).symm, State.rd_wr_same, Nat.zero_mod]
  · rw [State.clearCounts, State.rd_wr_same, Nat.zero_mod]

/-- A write of CTRL with CNT_CLR = 1 clears the counts of its page, and raises or clears no error. -/
theorem State.writeFields_cntClr (s : State) (pg : Nat) {data : Nat} (h : bitAt data 4 = true) :
    (s.writeFields pg 0x004 data).rd (Reg.CNT_CORR pg) = 0 ∧ (s.writeFields pg 0x004 data).rd (Reg.CNT_CONT pg) = 0 ∧
      (s.writeFields pg 0x004 data).rd (Reg.CNT_MERGED pg) = 0 ∧
      (s.writeFields pg 0x004 data).rd (Reg.ERR_CORR pg) = s.rd (Reg.ERR_CORR pg) ∧
      (s.writeFields pg 0x004 data).rd (Reg.ERR_CONT pg) = s.rd (Reg.ERR_CONT pg) := by
  have herr : ∀ g : Field, g.off = 0x010 ∨ g.off = 0x014 → g.lo < 32 → (s.writeFields pg 0x004 data).rd g = s.rd g := fun g hoff hlo =>
    s.writeFields_rd_ne data (by omega) (by omega) (by decide) ⟨by omega, hlo⟩
  have hcounts := ((fieldsAt pg 0x004).foldl (fun s r => s.writeField pg 0x004 data r) s).clearCounts_rd pg
  have hclr : s.writeFields pg 0x004 data = ((fieldsAt pg 0x004).foldl (fun s r => s.writeField pg 0x004 data r) s).clearCounts pg := by
    simp [State.writeFields, h]
  rw [← hclr] at hcounts
  obtain ⟨hcorr, hcont, hmerged⟩ := hcounts
  exact ⟨hcorr, hcont, hmerged, herr _ (.inl rfl) (by simp [Reg.ERR_CORR]), herr _ (.inr rfl) (by simp [Reg.ERR_CONT])⟩

theorem implemented_header {pg off : Nat} (hpg : (blockOf pg).isSome = true) (hoff : off < 0x038) : implemented pg off = true := by
  obtain ⟨b, hb⟩ := Option.isSome_iff_exists.1 hpg
  simp [implemented, hb, hoff]

/-- A write that no LOCK refuses, at an offset that is not LOCK's. -/
theorem State.writeReg_of_not_locked {s : State} {v : Path} {pg off : Nat} (data : Nat) (hd : s.deaf v = false) (hi : implemented pg off = true)
    (hl : s.locked v pg = false) (hoff : off ≠ 0x034) : s.writeReg v pg off data = effectOf v pg off data s := by
  have hsome : (blockOf pg).isNone = false := by
    unfold implemented at hi
    split at hi
    · exact nomatch hi
    · rename_i b hb
      simp [hb]
  rw [State.writeReg, State.access_of_not_locked data _ hd hi hl]
  simp [hd, hsome, hoff]

/-- The effect of a write to CTRL is that of its block, if it has one of its own. -/
theorem effectOf_ctrl {v : Path} {b : Block} {pg : Nat} (hb : blockOf pg = some b) :
    effectOf v pg 0x004 = (blockEffect v b pg 0x004).getD fun d s => s.writeFields pg 0x004 d := by
  unfold effectOf
  rw [hb]
  cases h : blockEffect v b pg 0x004 <;> simp [headerEffect, h]

theorem exec_cntClr {s : State} {via : Path} {b : Block} {pg : Nat} (d : Word) (hd : s.deaf via = false) (hb : blockOf pg = some b)
    (hl : s.locked via pg = false) : exec (.cntClr via pg d) s =
      .next ((blockEffect via b pg 0x004).getD (fun d s => s.writeFields pg 0x004 d) (setBit d.toNat 4) s) := by
  refine congrArg Host.Outcome.next ?_
  rw [State.writeReg_of_not_locked _ hd (implemented_header (by simp [hb]) (by decide)) hl (by decide), effectOf_ctrl hb]

theorem bitAt_of_lt {v i : Nat} (h : v < 2 ^ i) : bitAt v i = false := by
  simp [bitAt, Nat.div_eq_of_lt h]

theorem setBit_lt {d : Nat} (h : d < 32) : setBit d 4 < 32 := by
  unfold setBit
  split
  · exact h
  · rename_i hbit
    simp only [bitAt, beq_iff_eq] at hbit
    omega

/-- A block whose CTRL has actions of its own takes none of them from a write with bits 31:5 zero. -/
theorem blockEffect_ctrl_low {via : Path} {b : Block} {pg data : Nat} (hb : blockOf pg = some b) (s : State) (h : data < 32)
    (hpg : pg = 0x003 ∨ pg = 0x007 ∨ pg = 0x008 ∨ pg = 0x014 ∨ (0x060 ≤ pg ∧ pg < 0x070) ∨ (0x080 ≤ pg ∧ pg < 0x090)) :
    (blockEffect via b pg 0x004).getD (fun d s => s.writeFields pg 0x004 d) data s = s.writeFields pg 0x004 data := by
  have hbit : ∀ i, 5 ≤ i → bitAt data i = false := fun i hi =>
    bitAt_of_lt (Nat.lt_of_lt_of_le h (by simpa using Nat.pow_le_pow_right (n := 2) (by decide) hi))
  rcases hpg with rfl | rfl | rfl | rfl | ⟨hlo, hhi⟩ | ⟨hlo, hhi⟩
  · cases hb
    simp [blockEffect, State.wrUmpCtrl, hbit]
  · cases hb
    simp [blockEffect, State.wrLvlCtrl, hbit]
  · cases hb
    simp [blockEffect, flmEffect, State.wrFlmCtrl, hbit]
  · cases hb
    simp [blockEffect, State.wrDtmCtrl, hbit]
  · obtain ⟨p, rfl⟩ := Nat.exists_eq_add_of_le hlo
    have hopt : blockOf (0x060 + p) = some .opt := by
      have hp : p < 16 := by omega
      revert hp
      exact (by decide : ∀ p < 16, blockOf (0x060 + p) = some .opt) p
    rw [hopt] at hb
    cases hb
    simp [blockEffect, State.wrOptCtrl, hbit]
  · obtain ⟨p, rfl⟩ := Nat.exists_eq_add_of_le hlo
    have hrwl : blockOf (0x080 + p) = some .rwl := by
      have hp : p < 16 := by omega
      revert hp
      exact (by decide : ∀ p < 16, blockOf (0x080 + p) = some .rwl) p
    rw [hrwl] at hb
    cases hb
    simp [blockEffect, State.wrRwlCtrl, hbit]

theorem blockOf_of_ctrl {pg : Nat}
    (hpg : pg = 0x003 ∨ pg = 0x007 ∨ pg = 0x008 ∨ pg = 0x014 ∨ (0x060 ≤ pg ∧ pg < 0x070) ∨ (0x080 ≤ pg ∧ pg < 0x090)) :
    ∃ b, blockOf pg = some b := by
  have hlt : pg < 0x090 := by omega
  revert hpg
  rw [← Option.isSome_iff_exists]
  revert hlt
  exact (by decide : ∀ pg < 0x090, (pg = 0x003 ∨ pg = 0x007 ∨ pg = 0x008 ∨ pg = 0x014 ∨ (0x060 ≤ pg ∧ pg < 0x070) ∨
    (0x080 ≤ pg ∧ pg < 0x090)) → (blockOf pg).isSome = true) pg

/-! ## The sample of PEND (R141) -/

theorem State.samplePend_regs (s : State) : s.samplePend = { s with regs := s.samplePend.regs } := by
  obtain ⟨regs, h⟩ : ∃ regs, s.samplePend = { s with regs := regs } := ⟨_, rfl⟩
  rw [h]

theorem State.samplePend_clv (s : State) {c : Nat} (hc : c < 8) :
    bitAt (s.samplePend.rd Reg.GLB.PEND_CLV) c = (s.pendMasked (0x020 + c) != 0) := by
  have hrd : s.samplePend.rd Reg.GLB.PEND_CLV = s.pendBits 0x020 8 % 2 ^ 8 := by
    unfold State.samplePend
    dsimp only
    rw [State.rd_wr_ne _ _ (by decide), State.rd_wr_ne _ _ (by decide), State.rd_wr_ne _ _ (by decide), State.rd_wr_same]
    rfl
  rw [hrd, bitAt_mod _ _ _ hc, State.pendBits, bitAt_maskOf]
  cases h : s.pendMasked (0x020 + c) != 0 <;> simp [hc, h]

theorem State.atCycle_eq (s : State) (n : Nat) : s.atCycle n = { s with
    clk := { s.clk with cycle := n }
    log := { s.log with cleared := (s.atCycle n).log.cleared, raised := (s.atCycle n).log.raised, emptied := (s.atCycle n).log.emptied } } := by
  unfold State.atCycle
  dsimp only
  split <;> rfl

/-- The cycle at hand decides no page's PEND. -/
theorem State.atCycle_pendMasked (s : State) (n pg : Nat) : (s.atCycle n).pendMasked pg = s.pendMasked pg := by
  rw [State.atCycle_eq]
  rfl

/-! ## The request for a full reset (R142) -/

theorem exec_glbReset {s : State} {via : Path} (d : Word) (hd : s.deaf via = false) (hl : s.locked via 0x000 = false) :
    exec (.glbReset via d) s = .next (s.wrReset d.toNat) :=
  congrArg Host.Outcome.next (State.writeReg_of_not_locked d.toNat hd rfl hl (by decide))

theorem bits_high (d : Word) : bits d.toNat 31 16 = d.toNat / 2 ^ 16 := by
  have := d.isLt
  unfold bits
  omega

theorem State.wrReset_of_key {s : State} {d : Word} (hkey : d.toNat / 2 ^ 16 = 0x7F1A) (hgo : d.toNat % 2 = 1) (hnone : s.resetAt = .none) :
    s.wrReset d.toNat = { s with resetAt := some (if s.running then s.clk.idle + (s.now + 2) * 1280 else s.time + 2560) } := by
  have hcond : bits d.toNat 31 16 = 0x7F1A ∧ bitAt d.toNat 0 = true := ⟨(bits_high d).trans hkey, by simp [bitAt, hgo]⟩
  rw [State.wrReset, if_pos hcond, hnone]

/-- Settles O17: CNT_CLR acts through a write to CTRL, and GLB.RESET needs its key. -/
theorem commonControl : Obligations.CommonControl := by
  refine ⟨fun s via b pg d hd hb hl hnone => ?_, fun s via pg d hd hl hlow hpg => ?_, fun s hrun => ?_,
    fun s via d hd hl hrun hat hkey hgo => ?_, fun s via d hd hl hrun hat hkey hgo => ?_, fun s via d hd hl hno => ?_⟩
  · obtain ⟨hcorr, hcont, hmerged, h1, h2⟩ := s.writeFields_cntClr pg (bitAt_setBit d.toNat 4)
    exact ⟨_, by rw [exec_cntClr d hd hb hl, hnone via]; rfl, hcorr, hcont, hmerged, h1, h2, s.writeFields_regs _ _ _⟩
  · obtain ⟨b, hb⟩ := blockOf_of_ctrl hpg
    obtain ⟨hcorr, hcont, hmerged, -, -⟩ := s.writeFields_cntClr pg (bitAt_setBit d.toNat 4)
    exact ⟨_, by rw [exec_cntClr d hd hb hl, blockEffect_ctrl_low hb s (setBit_lt hlow) hpg], hcorr, hcont, hmerged, s.writeFields_regs _ _ _⟩
  · refine ⟨(s.atCycle 1041).samplePend, congrArg Host.Outcome.next (if_pos hrun), rfl, fun c hc => ?_, ?_⟩
    · rw [State.samplePend_clv _ hc, State.atCycle_pendMasked]
    · rw [State.samplePend_regs]
      exact congrArg (fun t : State => { t with regs := (s.atCycle 1041).samplePend.regs }) (s.atCycle_eq 1041)
  · rw [exec_glbReset d hd hl, State.wrReset_of_key hkey hgo hat, if_pos hrun]
  · rw [exec_glbReset d hd hl, State.wrReset_of_key hkey hgo hat, if_neg (by simp [hrun])]
  · rw [exec_glbReset d hd hl, State.wrReset, if_neg]
    rw [bits_high]
    rintro ⟨hkey, hgo⟩
    simp only [bitAt, Nat.pow_zero, Nat.div_one, beq_iff_eq] at hgo
    omega

end Sys2Proof.Machine
end

section
/-! SUPPORT. Pairs of registers on the paths of control space (spec section 04, R104, R105); full reset and release (section 14, R455 to
R458). -/

namespace Sys2Proof.Machine

/-! ## Reads (R104) -/

theorem State.path_setPath_ne (s : State) {v w : Path} (x : PathState) (h : pathNo w ≠ pathNo v) : (s.setPath v x).path w = s.path w :=
  Tab.read_write_ne _ _ _ _ h.symm

theorem exec_sampleRead {s : State} {via : Path} (a : Nat) (hd : s.deaf via = false) : exec (.sampleRead via a) s =
    .next ((s.readWord via a).2.setPath via { (s.readWord via a).2.path via with out := (s.readWord via a).1 }) :=
  congrArg Host.Outcome.next (if_neg (by simp [hd]))

/-- What a read of STK.COUNT's _LO leaves of its path: both words as they stand, and the pair seen. -/
def State.countSampled (s : State) (via : Path) : PathState :=
  { s.path via with
    latch := [s.regValue 0x001 0x040, s.regValue 0x001 0x044]
    seen := if (s.path via).seen.contains 0x1040 then (s.path via).seen else 0x1040 :: (s.path via).seen }

theorem State.readWord_countLo (s : State) (via : Path) :
    s.readWord via 0x1040 = (s.regValue 0x001 0x040, s.setPath via (s.countSampled via)) := rfl

theorem State.countSampled_seen (s : State) (via : Path) : (s.countSampled via).seen.contains 0x1040 = true := by
  simp only [State.countSampled]
  split
  · assumption
  · simp

theorem State.readWord_countHi (s : State) (via : Path) :
    s.readWord via 0x1044 = (if (s.path via).seen.contains 0x1040 then (s.path via).latch.getD 1 0 else 0, s) := by
  have h : s.readWord via 0x1044 =
      if (s.path via).seen.contains 0x1040 then ((s.path via).latch.getD 1 0, s) else (0, s) := rfl
  rw [h]
  split <;> rfl

/-! ## Writes (R105) -/

theorem fieldsAt_mapBaseLo : fieldsAt 0x00F 0x040 = [⟨31, 12, .rw, 0, 0, 1048575⟩] := by decide

theorem fieldsAt_mapBaseHi : fieldsAt 0x00F 0x044 = [⟨19, 0, .rw, 0, 0, 1048575⟩] := by decide

/-- A register of one writable field takes a value within its bounds. -/
theorem State.writeFields_rw (s : State) {pg off data : Nat} {r : FieldRow} (hrow : fieldsAt pg off = [r]) (hacc : r.acc = .rw)
    (hoff : off ≠ 0x004) (hin : r.min ≤ bits data r.hi r.lo ∧ bits data r.hi r.lo ≤ r.max) :
    s.writeFields pg off data = s.wr (fieldOf pg off r) (bits data r.hi r.lo) := by
  simp [State.writeFields, hrow, hoff, State.writeField, hacc, hin]

theorem State.writeFields_mapBaseLo (s : State) (d : Nat) : s.writeFields 0x00F 0x040 d = s.wr Reg.BTH.MAP_BASE_LO (d / 2 ^ 12 % 2 ^ 20) := by
  have hle : d / 2 ^ 12 % 2 ^ 20 ≤ 1048575 := by omega
  exact s.writeFields_rw fieldsAt_mapBaseLo rfl (by decide) ⟨Nat.zero_le _, hle⟩

theorem State.writeFields_mapBaseHi (s : State) (d : Nat) : s.writeFields 0x00F 0x044 d = s.wr Reg.BTH.MAP_BASE_HI (d % 2 ^ 20) := by
  have hbits : bits d 19 0 = d % 2 ^ 20 := by simp [bits]
  have hle : bits d 19 0 ≤ 1048575 := by omega
  rw [← hbits]
  exact s.writeFields_rw fieldsAt_mapBaseHi rfl (by decide) ⟨Nat.zero_le _, hle⟩

/-- The pair written with a lower half on the state of its path. -/
def State.mapBaseTaken (s : State) (lo hi : Nat) : State :=
  (s.wr Reg.BTH.MAP_BASE_LO (lo / 2 ^ 12 % 2 ^ 20)).wr Reg.BTH.MAP_BASE_HI (hi % 2 ^ 20)

theorem State.mapBaseTaken_spec (s : State) (lo hi : Nat) (hlo : lo < 2 ^ 32) :
    (s.mapBaseTaken lo hi).rd Reg.BTH.MAP_BASE_LO = lo / 2 ^ 12 ∧ (s.mapBaseTaken lo hi).rd Reg.BTH.MAP_BASE_HI = hi % 2 ^ 20 ∧
      sameFields [Reg.BTH.MAP_BASE_LO, Reg.BTH.MAP_BASE_HI] s (s.mapBaseTaken lo hi) := by
  refine ⟨?_, ?_, fun g hg => ?_⟩
  · rw [State.mapBaseTaken, State.rd_wr_ne _ _ (by decide), State.rd_wr_same]
    show lo / 2 ^ 12 % 2 ^ 20 % 2 ^ 20 = lo / 2 ^ 12
    omega
  · rw [State.mapBaseTaken, State.rd_wr_same]
    exact Nat.mod_mod _ _
  · rw [State.mapBaseTaken, State.rd_wr_ne _ _ (hg _ (by simp)), State.rd_wr_ne _ _ (hg _ (by simp))]

theorem State.commitPair_mapBase (s : State) (via : Path) (hi : Nat) :
    s.commitPair via 0x00F 0x040 hi = (s.pairLow via 0xF040).2.mapBaseTaken (s.pairLow via 0xF040).1 hi := by
  rw [State.commitPair, State.writeFields_mapBaseLo]
  exact State.writeFields_mapBaseHi _ _

theorem exec_mapBaseHi {s : State} {via : Path} (hi : Word) (hd : s.deaf via = false) (hl : s.locked via 0x00F = false) :
    exec (.pairHiWrite via 0xF044 hi) s = .next (s.commitPair via 0x00F 0x040 hi.toNat) :=
  congrArg Host.Outcome.next (State.writeReg_of_not_locked hi.toNat hd (by decide) hl (by decide))

theorem exec_mapBaseLo {s : State} {via : Path} (d : Word) (hd : s.deaf via = false) (hl : s.locked via 0x00F = false) :
    exec (.pairLoWrite via 0xF040 d) s = .next (s.setPath via { s.path via with held := some (0xF040, d) }) := by
  refine (congrArg Host.Outcome.next (State.writeReg_of_not_locked d.toNat hd (by decide) hl (by decide))).trans ?_
  show Host.Outcome.next (s.holdPair via 0x00F 0x040 d.toNat) = _
  rw [State.holdPair, BitVec.ofNat_toNat, BitVec.setWidth_eq]
  rfl

/-- A held write of another register is no lower half of this pair. -/
theorem State.pairLow_of_other {s : State} {via : Path} {a : Nat} (h : ∀ d, (s.path via).held ≠ some (a, d)) : s.pairLow via a = (0, s) := by
  cases hheld : (s.path via).held with
  | none => exact State.pairLow_of_none a hheld
  | some p =>
    have hne : p.1 ≠ a := fun ha => h p.2 (by rw [hheld, ← ha])
    simp [State.pairLow, hheld, hne]

/-- Settles O13: a path's latch is its own, and a held lower half goes with the write to its upper half. -/
theorem pairsAreReadAndWrittenWhole : Obligations.PairsAreReadAndWrittenWhole := by
  refine ⟨fun s via hd => ?_, fun s via hd hseen => ?_, fun s via d hd hl => ?_, fun s via lo hi hd hl hheld => ?_,
    fun s via hi hd hl hother => ?_⟩
  · refine ⟨_, exec_sampleRead 0x1040 hd, ?_, fun v hv => ?_, rfl, fun u hu hdu => ⟨_, exec_sampleRead 0x1044 hdu, ?_⟩⟩
    · simp [State.readWord_countLo]
    · simp [State.readWord_countLo, State.path_setPath_ne _ _ hv]
    · have hpath : u.path via = { s.countSampled via with out := s.regValue 0x001 0x040 } := by
        rw [State.path, hu]
        simp [State.readWord_countLo, State.setPath, State.path]
      have hout : (u.readWord via 0x1044).1 = s.regValue 0x001 0x044 := by
        rw [State.readWord_countHi, hpath]
        simp only [s.countSampled_seen, if_true]
        rfl
      rw [State.path_setPath_same, hout]
  · refine ⟨_, exec_sampleRead 0x1044 hd, ?_, ?_⟩
    · simp [State.readWord_countHi, hseen]
    · rw [State.readWord_countHi]
      rfl
  · exact ⟨_, exec_mapBaseLo d hd hl, by simp, rfl⟩
  · obtain ⟨hlo, hhi, hsame⟩ := (s.setPath via { s.path via with held := .none }).mapBaseTaken_spec lo.toNat hi.toNat lo.isLt
    refine ⟨_, exec_mapBaseHi hi hd hl, ?_⟩
    rw [State.commitPair_mapBase, State.pairLow_of_held hheld]
    exact ⟨hlo, hhi, congrArg PathState.held (s.path_setPath_same via _), hsame, rfl⟩
  · obtain ⟨hlo, hhi, hsame⟩ := s.mapBaseTaken_spec 0 hi.toNat (by decide)
    refine ⟨_, exec_mapBaseHi hi hd hl, ?_⟩
    rw [State.commitPair_mapBase, State.pairLow_of_other hother]
    exact ⟨hlo, hhi, rfl, hsame, rfl⟩

/-! ## Full reset and its release (spec section 14, R455 to R458) -/

theorem State.cutStore_of_none {s : State} (fate : WordFate) (h : s.wordAtHand = .none) : s.cutStore fate = s := by
  simp [State.cutStore, h]

/-- A full reset that starts with no word of the store being written leaves the store. -/
theorem State.chipReset_words {s : State} (h : s.wordAtHand = .none) : s.chipReset.nvs.words = s.nvs.words := by
  have hfresh : s.fresh.2.wordAtHand = .none := h
  exact congrArg (·.nvs.words) (State.cutStore_of_none (fateOf (Config.cutWord s.freeCount)) hfresh)

/-- In full reset every register reads its reset value. -/
theorem State.chipReset_rd (s : State) (f : Field) : s.chipReset.rd f = f.reset := rfl

theorem State.chipReset_time (s : State) : s.chipReset.time = 0 := by
  show 0 + (0 * 1280 + 0) = 0
  decide

/-- The state in which a full reset leaves the die at its release, before the straps are sampled. -/
def State.released (s : State) : State :=
  { State.fullReset s.fuses s.nvs.words s.nvs.ecc s.tap false s.pending with freeCount := s.freeCount }

/-- The straps sampled. -/
def State.strapped (s : State) (pos : BitVec 2) (mode : Bool) (a : BitVec 3) : State :=
  ((s.wr Reg.GLB.STRAPS_POSITION pos.toNat).wrB Reg.GLB.STRAPS_MODE mode).wr Reg.GLB.STRAPS_I3C_ADDR a.toNat

theorem exec_resetRelease {s : State} (pos : BitVec 2) (mode : Bool) (a : BitVec 3) (h : s.mayRelease = true) :
    exec (.resetRelease pos mode a) s = .next (s.released.strapped pos mode a) :=
  congrArg Host.Outcome.next (if_neg (by simp [h]))

theorem exec_resetRelease_refused {s : State} (pos : BitVec 2) (mode : Bool) (a : BitVec 3) (h : s.mayRelease = false) :
    exec (.resetRelease pos mode a) s = .next s :=
  congrArg Host.Outcome.next (if_pos (by simp [h]))

theorem State.strapped_straps (s : State) (pos : BitVec 2) (mode : Bool) (a : BitVec 3) :
    (s.strapped pos mode a).rd Reg.GLB.STRAPS_POSITION = pos.toNat ∧ (s.strapped pos mode a).flag Reg.GLB.STRAPS_MODE = mode ∧
      (s.strapped pos mode a).rd Reg.GLB.STRAPS_I3C_ADDR = a.toNat := by
  refine ⟨?_, ?_, ?_⟩
  · rw [State.strapped, State.rd_wr_ne _ _ (by decide), State.rd_wrB_ne _ _ (by decide), State.rd_wr_same]
    exact Nat.mod_eq_of_lt pos.isLt
  · rw [State.strapped, State.flag, State.rd_wr_ne _ _ (by decide), State.wrB, State.rd_wr_same]
    cases mode <;> rfl
  · rw [State.strapped, State.rd_wr_same]
    exact Nat.mod_eq_of_lt a.isLt

theorem State.strapped_rd_ne (s : State) (pos : BitVec 2) (mode : Bool) (a : BitVec 3) {g : Field}
    (h : ∀ f ∈ [Reg.GLB.STRAPS_POSITION, Reg.GLB.STRAPS_MODE, Reg.GLB.STRAPS_I3C_ADDR], f.key ≠ g.key) :
    (s.strapped pos mode a).rd g = s.rd g := by
  rw [State.strapped, State.rd_wr_ne _ _ (h _ (by simp)), State.rd_wrB_ne _ _ (h _ (by simp)), State.rd_wr_ne _ _ (h _ (by simp))]

/-- A software reset that is not due does not happen. -/
theorem exec_softReset_early {s : State} (h : ∀ n, s.resetAt = some n → s.held = true ∨ s.time < n) : exec (.fullReset .software) s = .next s := by
  refine congrArg Host.Outcome.next ?_
  cases hat : s.resetAt with
  | none => rfl
  | some n =>
    rcases h n hat with hheld | hlt
    · simp [hheld]
    · simp [hlt]

/-- Settles O18: a full reset starts from the state of a reset die with fuses, store and TAP handed on, and its release samples the straps. -/
theorem fullResetAndRelease : Obligations.FullResetAndRelease := by
  refine ⟨fun s hnone => ⟨s.chipReset, rfl, rfl, s.chipReset_rd, State.chipReset_words hnone, rfl, rfl, rfl, rfl, rfl⟩,
    fun s => ⟨s.chipReset, rfl, rfl, s.chipReset_rd, rfl⟩, fun s => ⟨s.chipReset, rfl, rfl⟩, fun s n hheld hat hdue => ?_,
    fun s n hat hlt => ?_, fun s h => ?_, fun s f => ⟨s.reborn f Tap.reset, rfl, rfl, fun _ => rfl, rfl⟩,
    fun s pos mode a hmay => ?_, fun s pos mode a h => ?_⟩
  · refine ⟨s.chipReset, rfl, s.chipReset_time, ?_⟩
    refine congrArg Host.Outcome.next ?_
    simp [hat, hheld, hdue, State.softReset, softHold]
  · exact exec_softReset_early fun m hm => .inr (by rw [hat] at hm; cases hm; exact hlt)
  · refine exec_softReset_early fun m hm => ?_
    rcases h with hnone | hheld
    · rw [hnone] at hm
      exact nomatch hm
    · exact .inl hheld
  · obtain ⟨hpos, hmode, haddr⟩ := s.released.strapped_straps pos mode a
    have hrd : ∀ g : Field, (∀ f ∈ [Reg.GLB.STRAPS_POSITION, Reg.GLB.STRAPS_MODE, Reg.GLB.STRAPS_I3C_ADDR], f.key ≠ g.key) →
        (s.released.strapped pos mode a).rd g = g.reset := fun g hg => s.released.strapped_rd_ne pos mode a hg
    exact ⟨_, exec_resetRelease pos mode a hmay, rfl, hpos, hmode, haddr, hrd _ (by decide), by rw [State.running, State.flag, hrd _ (by decide)]; rfl,
      hrd, rfl, rfl, rfl⟩
  · refine exec_resetRelease_refused pos mode a ?_
    rcases h with hheld | ⟨n, hat, hlt⟩
    · simp [State.mayRelease, hheld]
    · simp [State.mayRelease, hat, hlt]

end Sys2Proof.Machine
end

section
/-! SUPPORT. The Umpire: rails, persistent conditions, and what an entry into the safe state leaves of the Umpire's and the headgates' own registers
(spec section 13, R430 to R436). -/

namespace Sys2Proof.Machine

/-! ## Fields an event leaves -/

/-- A field outside the error registers that is neither the Umpire's nor the logbook's count of events is none an event may change. -/
theorem eventFields_key_ne {c : ErrCode} {g : Field} (hoff : g.off < 0x010 ∨ 0x020 ≤ g.off) (hg : g.off < 0x1000 ∧ g.lo < 32)
    (hump : Reg.UMP.FATAL_CNT_EVENTS.key ≠ g.key) (hlog : Reg.LOG.DROP_CNT.key ≠ g.key) : ∀ f ∈ eventFields c, f.key ≠ g.key := by
  have hcnt : ∀ f : Field, f.off = 0x01C → f.lo < 32 → f.key ≠ g.key := fun f hf hlo =>
    Field.key_ne_of_off (by omega) ⟨by omega, hlo⟩ hg
  intro f hf
  simp only [eventFields, List.mem_cons, List.not_mem_nil, or_false] at hf
  rcases hf with rfl | rfl | rfl | rfl | rfl | rfl
  · exact key_ne_errField _ _ (by omega) hg.1 hg.2
  · exact hcnt _ rfl (by simp [Reg.CNT_CORR])
  · exact hcnt _ rfl (by simp [Reg.CNT_CONT])
  · exact hcnt _ rfl (by simp [Reg.CNT_MERGED])
  · exact hump
  · exact hlog

theorem Field.key_ne_of_page {f g : Field} (h : f.page ≠ g.page) (hf : f.off < 0x1000 ∧ f.lo < 32) (hg : g.off < 0x1000 ∧ g.lo < 32) :
    f.key ≠ g.key := by
  unfold Field.key
  omega

/-! ## Fields kept from one state to another -/

/-- The fields of a kind read the same in both states. -/
def Keeps (P : Field → Prop) (s t : State) : Prop := ∀ g, P g → t.rd g = s.rd g

theorem Keeps.refl {P : Field → Prop} (s : State) : Keeps P s s := fun _ _ => rfl

theorem Keeps.of_regs {P : Field → Prop} {s t : State} (h : t.regs = s.regs) : Keeps P s t := fun g _ => by
  rw [State.rd, h]
  rfl

/-- An update of calibration alone (stated of a state as a whole, so that no long fold is evaluated). -/
theorem Keeps.withCal {P : Field → Prop} (s : State) (c : CalState) : Keeps P s { s with cal := c } := .of_regs rfl

theorem Keeps.trans {P : Field → Prop} {s t u : State} (h : Keeps P s t) (h' : Keeps P t u) : Keeps P s u :=
  fun g hg => (h' g hg).trans (h g hg)

theorem Keeps.wr {P : Field → Prop} (s : State) {f : Field} (v : Nat) (h : ∀ g, P g → f.key ≠ g.key) : Keeps P s (s.wr f v) :=
  fun g hg => s.rd_wr_ne v (h g hg)

theorem Keeps.ite {P : Field → Prop} {s a b : State} {c : Prop} [Decidable c] (ha : Keeps P s a) (hb : Keeps P s b) :
    Keeps P s (if c then a else b) := by
  split
  · exact ha
  · exact hb

theorem Keeps.foldl {P : Field → Prop} {α : Type} {f : State → α → State} {l : List α} (h : ∀ s, ∀ a ∈ l, Keeps P s (f s a)) (s : State) :
    Keeps P s (l.foldl f s) :=
  fun g hg => foldl_untouched f (State.rd · g) (fun s a ha => h s a ha g hg) s

theorem Keeps.raiseAt {P : Field → Prop} (s : State) (t : Stamp) (e : Event) (h : ∀ g, P g → ∀ f ∈ eventFields e.code, f.key ≠ g.key) :
    Keeps P s (s.raiseAt t e) :=
  fun g hg => s.raiseAt_rd t e g (h g hg)

/-! ## The entry into the safe state (R434, R436) -/

/-- The Umpire's state and whether each headgate is open. -/
def Guarded (g : Field) : Prop := g = Reg.UMP.STAT_STATE ∨ ∃ x < 4, g = Reg.HGT.HG_STAT_OPEN x

theorem Guarded.bounds {g : Field} (h : Guarded g) : (g.page = 0x003 ∨ g.page = 0x012) ∧ (g.off < 0x010 ∨ 0x020 ≤ g.off) ∧ g.off < 0x1000 ∧
    g.lo = 0 := by
  rcases h with rfl | ⟨x, hx, rfl⟩
  · exact ⟨.inl rfl, .inl (by decide), by decide, rfl⟩
  · refine ⟨.inr rfl, .inr ?_, ?_, rfl⟩ <;> (simp only [Reg.HGT.HG_STAT_OPEN]; omega)

/-- A field of another page is neither. -/
theorem Guarded.of_page {f : Field} (hpage : f.page ≠ 0x003 ∧ f.page ≠ 0x012) (hf : f.off < 0x1000 ∧ f.lo < 32) :
    ∀ g, Guarded g → f.key ≠ g.key := by
  intro g hg
  obtain ⟨hp, -, hoff, hlo⟩ := hg.bounds
  exact Field.key_ne_of_page (by omega) hf ⟨hoff, by omega⟩

theorem Guarded.of_event (c : ErrCode) : ∀ g, Guarded g → ∀ f ∈ eventFields c, f.key ≠ g.key := by
  intro g hg
  obtain ⟨-, hoff, hlt, hlo⟩ := hg.bounds
  refine eventFields_key_ne hoff ⟨hlt, by omega⟩ ?_ (Guarded.of_page (by decide) (by decide) g hg)
  rcases hg with rfl | ⟨x, hx, rfl⟩
  · decide
  · exact Field.key_ne_of_page (by simp [Reg.HGT.HG_STAT_OPEN, Reg.UMP.FATAL_CNT_EVENTS]) (by decide)
      ⟨by simp only [Reg.HGT.HG_STAT_OPEN]; omega, by simp [Reg.HGT.HG_STAT_OPEN]⟩

theorem State.seatToIdle_keeps (s : State) (k : Nat) : Keeps Guarded s (s.seatToIdle k) := by
  refine .of_regs ?_
  unfold State.seatToIdle State.noteSeat
  dsimp only
  split
  · rfl
  · split
    · rfl
    · split <;> rfl

theorem State.returnPages_keeps (s : State) (k : Pool) (n : Nat) : Keeps Guarded s (s.returnPages k n) :=
  .wr s _ (by cases k <;> exact Guarded.of_page (by decide) (by decide))

theorem State.clearStream_keeps (s : State) (n : Nat) : Keeps Guarded s (s.clearStream n) := by
  unfold State.clearStream
  dsimp only
  exact ((State.returnPages_keeps s .rpl _).trans (State.returnPages_keeps _ .rxs _)).trans (.of_regs (State.setLink_regs _ _ _))

theorem State.seatsSafe_keeps (s : State) : Keeps Guarded s s.seatsSafe := by
  unfold State.seatsSafe
  dsimp only
  refine ((Keeps.foldl (fun s k _ => s.seatToIdle_keeps k) s).trans (Keeps.foldl (fun s p hp => ?_) _)).trans (.withCal _ _)
  have hp16 := List.mem_range.mp hp
  have hres : ∀ t : State, Keeps Guarded t (t.wr (Reg.RWL.STAT_RESTORING p) 0) := fun t =>
    .wr t _ (Guarded.of_page (by simp only [Reg.RWL.STAT_RESTORING]; omega) (by simp [Reg.RWL.STAT_RESTORING]))
  have hcal : ∀ (t : State) (f : Field) (i : Nat) (b : Bool), f = Reg.CAL.PASS_ACTIVE ∨ f = Reg.CAL.PASS_QUEUED →
      Keeps Guarded t (t.wrBit f i b) := by
    rintro t f i b (rfl | rfl) <;> exact .wr t _ (Guarded.of_page (by decide) (by decide))
  refine Keeps.trans (hres _) (.ite ?_ (.refl _))
  exact ((hcal _ _ _ _ (.inl rfl)).trans (hcal _ _ _ _ (.inr rfl))).trans (.of_regs rfl)

/-- Your command of the store that has not begun is aborted. -/
def State.commandSafe (s : State) : State :=
  match s.nvs.cmd with
  | some c =>
    if c.write && !c.started then { (s.wr Reg.NVS.STAT_BUSY 0).nvsResult 3 with nvs := { s.nvs with cmd := .none } } else s
  | .none => s

/-- A record write between pages waits for the end of the safe state. -/
def State.recordSafe (s : State) : State :=
  match s.nvs.own with
  | some w =>
    if s.nvs.midPage then s
    else { s with nvs := { s.nvs with own := some { w with page := 0, word := 0, retried := false, waitSafe := true } } }.wr
      Reg.NVS.STAT_OWN_WRITE 0
  | .none => s

theorem State.commandSafe_keeps (s : State) : Keeps Guarded s s.commandSafe := by
  unfold State.commandSafe
  split
  · have hbusy : Keeps Guarded s (s.wr Reg.NVS.STAT_BUSY 0) := .wr s 0 (Guarded.of_page (by decide) (by decide))
    have hres : Keeps Guarded (s.wr Reg.NVS.STAT_BUSY 0) ((s.wr Reg.NVS.STAT_BUSY 0).nvsResult 3) :=
      .wr _ 3 (Guarded.of_page (by decide) (by decide))
    exact .ite (hbusy.trans hres) (.refl s)
  · exact .refl s

theorem State.recordSafe_keeps (s : State) : Keeps Guarded s s.recordSafe := by
  unfold State.recordSafe
  split
  · exact .ite (.refl s) ((Keeps.of_regs rfl).trans (.wr _ _ (Guarded.of_page (by decide) (by decide))))
  · exact .refl s

theorem State.nvsSafe_keeps (s : State) : Keeps Guarded s s.nvsSafe :=
  s.commandSafe_keeps.trans (State.recordSafe_keeps _)

/-! ## The end of a bundle-adjustment run (R263) -/

/-- The registers of a run that ends without an estimate. -/
def State.baLogged (s : State) (r : BaRun) (result : Nat) : State :=
  ((((((s.wr Reg.LVL.BA_LAST_RESULT result).wr Reg.LVL.BA_LAST_ITERS r.iter).wrB Reg.LVL.BA_LAST_COLD r.cold).bump
    Reg.LVL.BA_RUN_ABANDONED).wrPair Reg.LVL.BA_STAMP_LO Reg.LVL.BA_STAMP_HI
    ((((s.wr Reg.LVL.BA_LAST_RESULT result).wr Reg.LVL.BA_LAST_ITERS r.iter).wrB Reg.LVL.BA_LAST_COLD r.cold).bump
      Reg.LVL.BA_RUN_ABANDONED).stamp.word).wr Reg.LVL.STAT_BA_STATE 0).wr Reg.LVL.STAT_BA_ITER 0

/-- A run that ends without an estimate, before its event. -/
def State.baOver (s : State) (r : BaRun) (result : Nat) : State :=
  { s.baLogged r result with flm := { s.flm with ba := if r.cold then some { r with result := some result } else .none, window := .none } }

theorem State.baAbandon_of_none {s : State} (result : Nat) (h : s.flm.ba = .none) : s.baAbandon result = s := by
  simp [State.baAbandon, h]

theorem State.baAbandon_of_some {s : State} {r : BaRun} (result : Nat) (h : s.flm.ba = some r) : s.baAbandon result =
    match result with
    | 2 | 3 | 6 | 7 => (s.baOver r result).raise1 ⟨Err.LVL.BA_ABANDON, lvlInfo 31 result 0x3FF, r.iter * 2 ^ 16⟩
    | 4 | 5 => (s.baOver r result).raise1 ⟨Err.LVL.BA_REJECT, lvlInfo 31 result 0x3FF, r.iter * 2 ^ 16⟩
    | _ => s.baOver r result := by
  rw [State.baAbandon, h]
  rfl

/-- A run that ends changes its own registers of LVL. -/
theorem State.baLogged_rd_ne (s : State) (r : BaRun) (result : Nat) {g : Field}
    (h : ∀ f ∈ [Reg.LVL.BA_LAST_RESULT, Reg.LVL.BA_LAST_ITERS, Reg.LVL.BA_LAST_COLD, Reg.LVL.BA_RUN_ABANDONED, Reg.LVL.BA_STAMP_LO,
      Reg.LVL.BA_STAMP_HI, Reg.LVL.STAT_BA_STATE, Reg.LVL.STAT_BA_ITER], f.key ≠ g.key) : (s.baLogged r result).rd g = s.rd g := by
  simp only [List.forall_mem_cons] at h
  obtain ⟨h1, h2, h3, h4, h5, h6, h7, h8, -⟩ := h
  rw [State.baLogged, State.rd_wr_ne _ _ h8, State.rd_wr_ne _ _ h7, State.rd_wrPair_ne _ _ h5 h6, State.rd_bump_ne _ h4,
    State.rd_wrB_ne _ _ h3, State.rd_wr_ne _ _ h2, State.rd_wr_ne _ _ h1]

theorem State.baOver_keeps (s : State) (r : BaRun) (result : Nat) : Keeps Guarded s (s.baOver r result) := fun g hg =>
  s.baLogged_rd_ne r result fun f hf => Guarded.of_page (by revert f; decide) (by revert f; decide) g hg

theorem State.baAbandon_keeps (s : State) (result : Nat) : Keeps Guarded s (s.baAbandon result) := by
  cases h : s.flm.ba with
  | none => rw [State.baAbandon_of_none result h]; exact .refl s
  | some r =>
    rw [State.baAbandon_of_some result h]
    have hover := s.baOver_keeps r result
    split
    iterate 6 exact hover.trans (.raiseAt _ _ _ (Guarded.of_event _))
    exact hover

/-! ## The other blocks in the safe state -/

theorem State.flumeSafe_keeps (s : State) : Keeps Guarded s s.flumeSafe := by
  have hflm : ∀ (t : State) (f : Field) (v : Nat), f.page = 0x008 → f.off < 0x1000 → f.lo < 32 → Keeps Guarded t (t.wr f v) :=
    fun t f v hpage hoff hlo => .wr t v (Guarded.of_page (by omega) ⟨hoff, hlo⟩)
  have hslot : ∀ (t : State), ∀ k ∈ (List.range 8).filter fun k => s.fanState k != 0, Keeps Guarded t
      (((((t.clearStream (fanTx k)).setFan k FanSlot.reset).wr (Reg.FLM.FAN_STAT_STATE k) 0).wr (Reg.FLM.FAN_STAT_RESULT k) 11).wr
        (Reg.FLM.FAN_STAT_MEMBERS k) 0) := by
    intro t k hk
    have hk8 : k < 8 := List.mem_range.mp (List.mem_of_mem_filter hk)
    exact (((((t.clearStream_keeps _).trans (.of_regs (State.setFan_regs _ _ _))).trans
      (hflm _ _ _ rfl (by simp only [Reg.FLM.FAN_STAT_STATE]; omega) (by simp [Reg.FLM.FAN_STAT_STATE]))).trans
      (hflm _ _ _ rfl (by simp only [Reg.FLM.FAN_STAT_RESULT]; omega) (by simp [Reg.FLM.FAN_STAT_RESULT]))).trans
      (hflm _ _ _ rfl (by simp only [Reg.FLM.FAN_STAT_MEMBERS]; omega) (by simp [Reg.FLM.FAN_STAT_MEMBERS])))
  have hslots := Keeps.foldl hslot s
  unfold State.flumeSafe
  dsimp only
  revert hslots
  generalize List.foldl _ s _ = t
  exact fun hslots => .ite (hslots.trans ((hflm t Reg.FLM.STAT_STATE 2 rfl (by decide) (by decide)).trans (.of_regs rfl)))
    (hslots.trans (.of_regs rfl))

theorem State.coxSafe_keeps (s : State) : Keeps Guarded s s.coxSafe := by
  unfold State.coxSafe
  dsimp only
  refine Keeps.trans ?_ (.of_regs rfl)
  refine Keeps.trans ?_ (Keeps.foldl (fun t kv _ => .of_regs (State.setExtent_regs _ _ _)) _)
  exact ((s.returnPages_keeps .tly _).trans (.wr _ _ (Guarded.of_page (by decide) (by decide)))).trans
    (.wr _ _ (Guarded.of_page (by decide) (by decide)))

theorem State.freeExtent_keeps (s : State) (k : Nat) : Keeps Guarded s (s.freeExtent k) :=
  (s.returnPages_keeps .sts _).trans (.of_regs (State.setExtent_regs _ _ _))

theorem State.retireWaiting_keeps (s : State) : Keeps Guarded s s.retireWaiting :=
  Keeps.foldl (fun t kv _ => .ite (t.freeExtent_keeps kv.1) (.refl t)) s

theorem State.linksSafe_keeps (s : State) (t : Stamp) : Keeps Guarded s (s.linksSafe t) := by
  refine Keeps.foldl (fun u p _ => .ite (.refl u) ?_) s
  exact (Keeps.of_regs (State.setLink_regs _ _ _)).trans (.raiseAt _ _ _ (Guarded.of_event _))

/-- The state declared, before the die follows it. -/
def State.declared (s : State) (st : Nat) (at_ : Stamp) : State :=
  ((((((if at_.cycle = 0x7FF ∨ at_.stroke ≠ s.clk.stroke then s else s.atCycle (max s.clk.cycle (min at_.cycle 1279))).wr
    Reg.UMP.STAT_STATE st).wr Reg.UMP.STAT_SAFE 1).wr Reg.GLB.STAT_SAFE 1).wrPair Reg.UMP.SAFE_STAMP_LO Reg.UMP.SAFE_STAMP_HI at_.word).bump
    Reg.UMP.FATAL_CNT_ENTRIES)

/-- The declaration in the logbook, the Umpire and the clock. -/
def State.declaredIn (s : State) (cause : Stamp) : State :=
  { s with
    log := s.log.update (fun (e : LogEntry) => e.cls == EvClass.fatal && e.stamp == cause) fun e => { e with safe := true }
    ump := { s.ump with assertedAt := .none }
    clk := { s.clk with aliveFollows := false } }

/-- What the die does in the safe state, once its headgates are shut. -/
def State.dieSafe (s : State) (at_ : Stamp) : State :=
  let s := s.seatsSafe.nvsSafe
  let s := if s.baRunning then s.baAbandon 8 else s
  ((s.flumeSafe.coxSafe).retireWaiting).linksSafe at_

theorem State.enterSafe_eq (s : State) (st : Nat) (cause at_ : Stamp) :
    s.enterSafe st cause at_ = (((s.declared st at_).declaredIn cause).shutAll).dieSafe at_ := rfl

theorem State.dieSafe_keeps (s : State) (t : Stamp) : Keeps Guarded s (s.dieSafe t) := by
  have hseats := s.seatsSafe_keeps.trans (State.nvsSafe_keeps _)
  unfold State.dieSafe
  dsimp only
  revert hseats
  generalize s.seatsSafe.nvsSafe = u
  intro hseats
  have hba : Keeps Guarded s (if u.baRunning then u.baAbandon 8 else u) := hseats.trans (.ite (u.baAbandon_keeps 8) (.refl u))
  exact (((hba.trans (State.flumeSafe_keeps _)).trans (State.coxSafe_keeps _)).trans (State.retireWaiting_keeps _)).trans
    (State.linksSafe_keeps _ _)

/-- The Umpire's state after the declaration. -/
theorem State.declared_state (s : State) (st : Nat) (t : Stamp) : (s.declared st t).rd Reg.UMP.STAT_STATE = st % 2 ^ 2 := by
  rw [State.declared, State.rd_bump_ne _ (by decide), State.rd_wrPair_ne _ _ (by decide) (by decide), State.rd_wr_ne _ _ (by decide),
    State.rd_wr_ne _ _ (by decide), State.rd_wr_same]
  rfl

/-- A headgate shut: closed, at full attenuation, still. -/
def State.shutOne (s : State) (x : Nat) : State :=
  ((s.wr (Reg.HGT.HG_STAT_OPEN x) 0).wr (Reg.HGT.HG_STAT_ATTEN x) fullAtten).moveHg x .still

theorem HG_STAT_key_ne_OPEN {x y : Nat} {f : Field} (h : x ≠ y ∨ f.lo ≠ 0)
    (hf : f.page = 0x012 ∧ f.off = 0x060 + 0x4 * x ∧ f.lo < 32) : f.key ≠ (Reg.HGT.HG_STAT_OPEN y).key := by
  simp only [Field.key, Reg.HGT.HG_STAT_OPEN]
  omega

theorem State.shutOne_open_same (s : State) (x : Nat) : (s.shutOne x).rd (Reg.HGT.HG_STAT_OPEN x) = 0 := by
  rw [State.shutOne, State.moveHg,
    State.rd_wrB_ne _ _ (HG_STAT_key_ne_OPEN (.inr (by simp [Reg.HGT.HG_STAT_RAMPING])) ⟨rfl, rfl, by simp [Reg.HGT.HG_STAT_RAMPING]⟩),
    State.setHg_rd,
    State.rd_wr_ne _ _ (HG_STAT_key_ne_OPEN (.inr (by simp [Reg.HGT.HG_STAT_ATTEN])) ⟨rfl, rfl, by simp [Reg.HGT.HG_STAT_ATTEN]⟩),
    State.rd_wr_same, Nat.zero_mod]

theorem State.shutOne_rd_ne (s : State) {x : Nat} {g : Field} (h : ∀ f : Field, f.page = 0x012 → f.off = 0x060 + 0x4 * x → f.lo < 32 →
    f.key ≠ g.key) : (s.shutOne x).rd g = s.rd g := by
  rw [State.shutOne, State.moveHg, State.rd_wrB_ne _ _ (h _ rfl rfl (by simp [Reg.HGT.HG_STAT_RAMPING])), State.setHg_rd,
    State.rd_wr_ne _ _ (h _ rfl rfl (by simp [Reg.HGT.HG_STAT_ATTEN])), State.rd_wr_ne _ _ (h _ rfl rfl (by simp [Reg.HGT.HG_STAT_OPEN]))]

theorem State.shutAll_open (s : State) {x : Nat} (hx : x < 4) : s.shutAll.rd (Reg.HGT.HG_STAT_OPEN x) = 0 := by
  have htouch := foldl_touched_once State.shutOne (State.rd · (Reg.HGT.HG_STAT_OPEN x)) (fun _ => 0) (List.nodup_range (n := 4))
    (List.mem_range.mpr hx) (fun t => t.shutOne_open_same x) (fun t y hy hne => t.shutOne_rd_ne fun f hp hoff hlo =>
      HG_STAT_key_ne_OPEN (.inl hne) ⟨hp, hoff, hlo⟩) s
  exact htouch

theorem State.shutAll_state (s : State) : s.shutAll.rd Reg.UMP.STAT_STATE = s.rd Reg.UMP.STAT_STATE :=
  foldl_untouched State.shutOne (State.rd · Reg.UMP.STAT_STATE) (fun t x hx => t.shutOne_rd_ne fun f hp hoff hlo => by
    have := List.mem_range.mp hx
    exact Field.key_ne_of_page (by rw [hp]; decide) ⟨by omega, hlo⟩ (by decide)) s

/-- R436: in the safe state the Umpire shows what was declared, and every headgate is shut. -/
theorem State.enterSafe_guarded (s : State) (st : Nat) (cause at_ : Stamp) :
    (s.enterSafe st cause at_).rd Reg.UMP.STAT_STATE = st % 2 ^ 2 ∧
      ∀ x < 4, (s.enterSafe st cause at_).rd (Reg.HGT.HG_STAT_OPEN x) = 0 := by
  have hkeeps := State.dieSafe_keeps (((s.declared st at_).declaredIn cause).shutAll) at_
  rw [State.enterSafe_eq]
  refine ⟨?_, fun x hx => ?_⟩
  · rw [hkeeps _ (.inl rfl), State.shutAll_state]
    exact s.declared_state st at_
  · rw [hkeeps _ (.inr ⟨x, hx, rfl⟩), State.shutAll_open _ hx]

/-! ## The Umpire judges (R430 to R434) -/

theorem State.raise1_frame (s : State) (e : Event) : s.raise1 e =
    { s with regs := (s.raise1 e).regs, recs := (s.raise1 e).recs, log := (s.raise1 e).log, ump := (s.raise1 e).ump } := by
  obtain ⟨r, c, l, u, h⟩ := s.raiseAt_eventOnly s.stamp e
  rw [State.raise1, h]

/-- A condition that is present raises the event of its own bit. -/
theorem State.fatalPresent_code {s : State} {pg b : Nat} {e : Event} (h : s.fatalPresent pg b = some e) : e.code = ⟨pg, .fatal, b⟩ ∧ b < 32 := by
  unfold State.fatalPresent at h
  split_ifs at h with h1 h2 h3 h4 h5
  · cases h; exact ⟨by rw [h1.1, h1.2.1]; rfl, by omega⟩
  · cases h; exact ⟨by rw [h2.1, h2.2.1]; rfl, by omega⟩
  · cases h; exact ⟨by rw [h3.1], by omega⟩
  · cases h; exact ⟨by rw [h4.1, h4.2.1]; rfl, by omega⟩
  · obtain ⟨x, -, rfl⟩ := Option.map_eq_some_iff.mp h
    exact ⟨by rw [h5.1, h5.2]; rfl, by omega⟩

theorem exec_fatalReraise_of_present {s : State} {pg b : Nat} {e : Event} (hbit : bitAt (s.rd (Reg.ERR_FATAL pg)) b = false)
    (h : s.fatalPresent pg b = some e) : exec (.fatalReraise pg b) s = .next (s.raise1 e) := by
  show Host.Outcome.next _ = _
  rw [hbit, h]
  rfl

theorem exec_fatalReraise_of_not {s : State} {pg b : Nat} (h : bitAt (s.rd (Reg.ERR_FATAL pg)) b = true ∨ s.fatalPresent pg b = .none) :
    exec (.fatalReraise pg b) s = .next s := by
  refine congrArg Host.Outcome.next ?_
  rcases h with h | h <;> simp [h]

/-- The Umpire with a page's rails noted as equal. -/
def State.railNoted (s : State) (pg : Nat) : State :=
  { s with ump := { s.ump with railFault := s.ump.railFault.filter (· != pg) ++ [pg] } }

theorem exec_railMismatch {s : State} {pg n : Nat} (hheld : s.held = false) (hpg : (blockOf pg).isSome = true) : exec (.railMismatch pg n) s =
    .next (match n with
      | 0 => { s with ump := { s.ump with railFault := s.ump.railFault.filter (· != pg) } }
      | 1 => if s.ump.railFault.contains pg then s else s.bump Reg.UMP.GLITCH_CNT
      | _ => if s.ump.railFault.contains pg then s else (s.railNoted pg).raise1 (detail Err.UMP.RAIL_MISMATCH pg)) := by
  have hsome : (blockOf pg).isNone = false := by simpa [← Option.not_isSome] using hpg
  exact congrArg Host.Outcome.next (if_neg (by simp [hheld, hsome]))

theorem State.raise1_railFault (s : State) (e : Event) : (s.raise1 e).ump.railFault = s.ump.railFault := by
  rw [State.raise1_ump]
  unfold State.pairFor State.assertPair
  dsimp only
  split
  · split <;> rfl
  · rfl

/-- Settles O21: each judgement is an event, or a note of the rails; a parity error of the Umpire's own outside the safe state is an entry. -/
theorem umpireJudges : Obligations.UmpireJudges := by
  refine ⟨fun s hnone => ?_, fun s a hat hst => ?_, fun s hheld hsafe => ?_, fun s hheld hsafe => ?_, fun s pg hheld hpg hnew => ?_,
    fun s pg n hheld hpg hnew hn => ?_, fun s pg n hheld hpg hknown hn => ?_, fun s pg hheld hpg => ?_, fun s pg b e hbit he => ?_,
    fun s pg b h => exec_fatalReraise_of_not h⟩
  · exact congrArg Host.Outcome.next (by simp [hnone])
  · exact congrArg Host.Outcome.next (by simp [hat, hst])
  · have hexec : exec .selfParity s = .next ((s.raise1 (plain Err.UMP.SELF_PARITY)).wr Reg.UMP.STAT_STATE 2) :=
      congrArg Host.Outcome.next (by simp [hheld, hsafe])
    refine ⟨_, hexec, State.rd_wr_same _ _ _, ?_, fun g hg => ?_, ?_⟩
    · rw [State.shows, State.rd_wr_ne _ _ (by decide)]
      exact s.raise1_shows _ (by decide)
    · rw [State.rd_wr_ne _ _ (hg _ (by simp))]
      exact s.raise1_rd _ g fun f hf => hg f (List.mem_cons_of_mem _ hf)
    · rw [s.raise1_frame]
      rfl
  · have hexec : exec .selfParity s = .next ((s.raise1 (plain Err.UMP.SELF_PARITY)).enterSafe 2
        (s.raise1 (plain Err.UMP.SELF_PARITY)).stamp (s.raise1 (plain Err.UMP.SELF_PARITY)).stamp) :=
      congrArg Host.Outcome.next (by simp [hheld, hsafe])
    obtain ⟨hstate, hopen⟩ := State.enterSafe_guarded (s.raise1 (plain Err.UMP.SELF_PARITY)) 2
      (s.raise1 (plain Err.UMP.SELF_PARITY)).stamp (s.raise1 (plain Err.UMP.SELF_PARITY)).stamp
    exact ⟨_, hexec, hstate, hopen⟩
  · exact ⟨s.bump Reg.UMP.GLITCH_CNT, by rw [exec_railMismatch hheld hpg, hnew]; rfl, rfl, fun g hg => s.rd_bump_ne (hg _ (by simp)), rfl⟩
  · obtain ⟨m, rfl⟩ := Nat.exists_eq_add_of_le' hn
    refine ⟨(s.railNoted pg).raise1 (detail Err.UMP.RAIL_MISMATCH pg), by rw [exec_railMismatch hheld hpg, hnew]; rfl,
      State.raise1_shows _ (detail Err.UMP.RAIL_MISMATCH pg) (by decide : Err.UMP.RAIL_MISMATCH.bit < 32), ?_,
      (s.railNoted pg).raise1_sameFields (detail Err.UMP.RAIL_MISMATCH pg), ?_⟩
    · rw [State.raise1_railFault]
      simp [State.railNoted]
    · rw [State.raise1_frame]
      rfl
  · rw [exec_railMismatch hheld hpg, hknown]
    obtain ⟨m, rfl⟩ := Nat.exists_eq_add_of_le' hn
    cases m <;> rfl
  · exact ⟨_, exec_railMismatch hheld hpg, by simp, rfl⟩
  · obtain ⟨hcode, hb⟩ := State.fatalPresent_code he
    refine ⟨s.raise1 e, exec_fatalReraise_of_present hbit he, ?_, s.raise1_sameFields e, s.raise1_frame e⟩
    have hshows := s.raise1_shows e (by rw [hcode]; exact hb)
    rw [State.shows, hcode] at hshows
    exact hshows

end Sys2Proof.Machine
end

section
/-! SUPPORT. Statistics and the logbook, strokes, clocks and markers (spec sections 13 and 02). -/

namespace Sys2Proof.Machine

/-! ## Writes that empty statistics (Tables 13.6, 13.8, 8.8) -/

theorem exec_firstClr {s : State} {via : Path} (hd : s.deaf via = false) (hl : s.locked via 0x003 = false) :
    exec (.firstClr via) s = .next (s.wrUmpCtrl (s.stored 0x003 0x004 % 2 ^ 8 + 2 ^ 8)) :=
  congrArg Host.Outcome.next (State.access_of_not_locked _ State.wrUmpCtrl hd (by decide) hl)

theorem exec_statClr {s : State} {via : Path} (hd : s.deaf via = false) (hl : s.locked via 0x003 = false) :
    exec (.statClr via) s = .next (s.wrUmpCtrl (s.stored 0x003 0x004 % 2 ^ 8 + 2 ^ 9)) :=
  congrArg Host.Outcome.next (State.access_of_not_locked _ State.wrUmpCtrl hd (by decide) hl)

theorem exec_lvlStatClr {s : State} {via : Path} (hd : s.deaf via = false) (hl : s.locked via 0x007 = false) :
    exec (.lvlStatClr via) s = .next (s.wrLvlCtrl (setBit (s.stored 0x007 0x004) 8)) :=
  congrArg Host.Outcome.next (State.access_of_not_locked _ State.wrLvlCtrl hd (by decide) hl)

theorem bitAt_8_first (n : Nat) : bitAt (n % 2 ^ 8 + 2 ^ 8) 8 = true ∧ bitAt (n % 2 ^ 8 + 2 ^ 8) 9 = false ∧ bitAt (n % 2 ^ 8 + 2 ^ 8) 10 = false := by
  refine ⟨?_, ?_, ?_⟩ <;> (simp only [bitAt]; simp only [beq_iff_eq, beq_eq_false_iff_ne]; omega)

theorem bitAt_9_stat (n : Nat) : bitAt (n % 2 ^ 8 + 2 ^ 9) 8 = false ∧ bitAt (n % 2 ^ 8 + 2 ^ 9) 9 = true ∧ bitAt (n % 2 ^ 8 + 2 ^ 9) 10 = false := by
  refine ⟨?_, ?_, ?_⟩ <;> (simp only [bitAt]; simp only [beq_iff_eq, beq_eq_false_iff_ne]; omega)

theorem State.wrUmpCtrl_first (s : State) (n : Nat) : s.wrUmpCtrl (n % 2 ^ 8 + 2 ^ 8) =
    { s.writeFields 0x003 0x004 (n % 2 ^ 8 + 2 ^ 8) with log := { (s.writeFields 0x003 0x004 (n % 2 ^ 8 + 2 ^ 8)).log with first := .none } } := by
  obtain ⟨h8, h9, h10⟩ := bitAt_8_first n
  simp only [State.wrUmpCtrl, h8, h9, h10]
  rfl

/-- The Umpire's counts cleared. -/
def State.umpCountsCleared (s : State) : State :=
  ((s.wr Reg.UMP.FATAL_CNT_ENTRIES 0).wr Reg.UMP.FATAL_CNT_EVENTS 0).wr Reg.UMP.GLITCH_CNT 0

theorem State.wrUmpCtrl_stat (s : State) (n : Nat) : s.wrUmpCtrl (n % 2 ^ 8 + 2 ^ 9) =
    (s.writeFields 0x003 0x004 (n % 2 ^ 8 + 2 ^ 9)).umpCountsCleared := by
  obtain ⟨h8, h9, h10⟩ := bitAt_9_stat n
  simp only [State.wrUmpCtrl, h8, h9, h10]
  rfl

/-- The registers that STAT_CLR of the Leveller zeroes (Table 8.8). -/
def lvlStatistics : List Field :=
  [Reg.LVL.SOLVE_TIME_MAX, Reg.LVL.MISS_CNT_HOLDS, Reg.LVL.MISS_CNT_MISSES, Reg.LVL.DELTA_CNT_REJECTED, Reg.LVL.DELTA_CNT_ACCEPTED,
    Reg.LVL.BA_RUN_ABANDONED, Reg.LVL.BA_RUN_ACCEPTED, Reg.LVL.SAT_CNT, Reg.LVL.TGT_CLAMP_CNT]

/-- Registers zeroed in turn. -/
def State.zeroed (s : State) (l : List Field) : State := l.foldl (fun s f => s.wr f 0) s

theorem State.zeroed_rd_ne (s : State) {l : List Field} {g : Field} (h : ∀ f ∈ l, f.key ≠ g.key) : (s.zeroed l).rd g = s.rd g :=
  foldl_untouched _ (State.rd · g) (fun t f hf => t.rd_wr_ne 0 (h f hf)) s

/-- A register zeroed once or more reads 0. -/
theorem State.zeroed_rd (s : State) {l : List Field} {g : Field} (hg : g ∈ l) (h : ∀ f ∈ l, f ≠ g → f.key ≠ g.key) : (s.zeroed l).rd g = 0 := by
  induction l generalizing s with
  | nil => exact nomatch hg
  | cons f l ih =>
    show ((s.wr f 0).zeroed l).rd g = 0
    by_cases hmem : g ∈ l
    · exact ih _ hmem fun f' hf' => h f' (List.mem_cons_of_mem _ hf')
    · rw [State.zeroed_rd_ne _ fun f' hf' => h f' (List.mem_cons_of_mem _ hf') fun heq => hmem (heq ▸ hf')]
      rcases List.mem_cons.1 hg with rfl | hg
      · rw [State.rd_wr_same, Nat.zero_mod]
      · exact absurd hg hmem

theorem State.zeroed_regs (s : State) (l : List Field) : s.zeroed l = { s with regs := (s.zeroed l).regs } := by
  induction l generalizing s with
  | nil => rfl
  | cons f l ih =>
    show (s.wr f 0).zeroed l = _
    rw [ih]
    rfl

theorem State.wrLvlCtrl_stat (s : State) (n : Nat) :
    s.wrLvlCtrl (setBit n 8) = (s.writeFields 0x007 0x004 (setBit n 8)).zeroed lvlStatistics := by
  simp only [State.wrLvlCtrl, bitAt_setBit]
  rfl

theorem lvlStatistics_apart : ∀ g ∈ lvlStatistics, ∀ f ∈ lvlStatistics, f ≠ g → f.key ≠ g.key := by decide

/-! ## The logbook (R442, R49) -/

theorem exec_logbookWrite {s : State} {e : LogEntry} {rest : List LogEntry} (hq : s.log.queue = e :: rest) (hrun : s.running = true)
    (hslot : s.logSlot e < 60) : exec .logbookWrite s = .next { (s.atCycle (1040 + 4 * s.logSlot e)).bump Reg.LOG.TOTAL with
      log := { (s.atCycle (1040 + 4 * s.logSlot e)).log with
        queue := rest
        book := Tab.write .none (s.atCycle (1040 + 4 * s.logSlot e)).log.book (e.seq.toNat % 32) (some e)
        slot := s.logSlot e + 1 } } := by
  show Host.Outcome.next (match s.log.queue with | [] => s | e :: rest => _) = _
  rw [hq]
  exact congrArg Host.Outcome.next (if_pos (by simp [hrun, hslot]))

theorem State.atCycle_log (s : State) (n : Nat) : (s.atCycle n).log.queue = s.log.queue ∧ (s.atCycle n).log.book = s.log.book ∧
    (s.atCycle n).log.first = s.log.first := by
  rw [s.atCycle_eq n]
  exact ⟨rfl, rfl, rfl⟩

/-- Settles O23: each write empties its own statistics, and an entry of the logbook takes the slot of its number. -/
theorem statisticsAndLogbook : Obligations.StatisticsAndLogbook := by
  refine ⟨fun s via hd hl => ?_, fun s via hd hl => ?_, fun s via hd hl => ?_, fun s e rest hq hrun hslot => ?_, fun s hq => ?_,
    fun s hq hrun hslot => ?_, fun s hslot => ?_⟩
  · refine ⟨_, (exec_firstClr hd hl).trans (congrArg _ (s.wrUmpCtrl_first _)), ?_, ?_, ?_, ?_⟩
    · rw [s.writeFields_regs]
    · exact s.writeFields_rd_ne _ (by decide) (by decide) (by decide) (by decide)
    · rw [s.writeFields_regs]
    · rw [s.writeFields_regs]
  · refine ⟨_, (exec_statClr hd hl).trans (congrArg _ (s.wrUmpCtrl_stat _)), ?_, ?_, ?_, ?_, ?_, ?_⟩
    · rw [State.umpCountsCleared, State.rd_wr_ne _ _ (by decide), State.rd_wr_ne _ _ (by decide), State.rd_wr_same, Nat.zero_mod]
    · rw [State.umpCountsCleared, State.rd_wr_ne _ _ (by decide), State.rd_wr_same, Nat.zero_mod]
    · rw [State.umpCountsCleared, State.rd_wr_same, Nat.zero_mod]
    · rw [State.umpCountsCleared, State.rd_wr_ne _ _ (by decide), State.rd_wr_ne _ _ (by decide), State.rd_wr_ne _ _ (by decide)]
      exact s.writeFields_rd_ne _ (by decide) (by decide) (by decide) (by decide)
    · rw [s.writeFields_regs]
      rfl
    · rw [s.writeFields_regs]
      rfl
  · have hzero : ∀ g ∈ lvlStatistics, ∀ t : State, (t.zeroed lvlStatistics).rd g = 0 := fun g hg t => t.zeroed_rd hg (lvlStatistics_apart g hg)
    refine ⟨_, (exec_lvlStatClr hd hl).trans (congrArg _ (s.wrLvlCtrl_stat _)), hzero _ (by simp [lvlStatistics]) _,
      hzero _ (by simp [lvlStatistics]) _, hzero _ (by simp [lvlStatistics]) _, hzero _ (by simp [lvlStatistics]) _,
      hzero _ (by simp [lvlStatistics]) _, hzero _ (by simp [lvlStatistics]) _, hzero _ (by simp [lvlStatistics]) _, ?_, ?_⟩
    · rw [State.zeroed_rd_ne _ (by decide)]
      exact s.writeFields_rd_ne _ (by decide) (by decide) (by decide) (by decide)
    · rw [State.zeroed_regs, s.writeFields_regs]
  · obtain ⟨-, hbook, hfirst⟩ := s.atCycle_log (1040 + 4 * s.logSlot e)
    refine ⟨_, exec_logbookWrite hq hrun hslot, rfl, rfl, by simp, fun k hk => ?_, hfirst, rfl,
      fun g hg => State.rd_bump_ne (s.atCycle _) (hg _ (by simp)), rfl⟩
    rw [← hbook]
    simp [Tab.read_write_ne _ _ _ _ hk.symm]
  · exact ⟨congrArg Host.Outcome.next (by simp [hq]), congrArg Host.Outcome.next (by simp [hq])⟩
  · have hne : s.log.queue.isEmpty = false := by simpa using hq
    obtain ⟨hqueue, -, -⟩ := s.atCycle_log 1279
    exact ⟨_, congrArg Host.Outcome.next (if_pos (by simp [hrun, hne, hslot])), rfl, hqueue, rfl,
      fun g hg => State.rd_bump_ne (s.atCycle _) (hg _ (by simp)), rfl⟩
  · exact congrArg Host.Outcome.next (if_neg (by simp [hslot]))

/-! ## Strokes (R38, R53) -/

theorem exec_strokeBoundary {s : State} (hrun : s.running = true) (hheld : s.held = false) :
    exec .strokeBoundary s = .next s.nextStroke.boundaryWork := congrArg Host.Outcome.next (if_pos (by simp [hrun, hheld]))

/-- What a cycle 0 finds to do leaves the stroke, the queue, and the level of ALIVE. -/
theorem exec_strokeBoundary_clock {s : State} (hrun : s.running = true) (hheld : s.held = false) : ∃ t, exec .strokeBoundary s = .next t ∧
    t.clk.stroke = s.nextCount ∧ t.clk.cycle = 0 ∧ t.clk.elapsed = s.clk.elapsed + 1 ∧ t.held = s.held ∧ t.pending = s.pending ∧
    t.clk.alive = (s.aliveAt s.nextCount).1 := by
  have h := s.nextStroke.boundaryWork_still
  simp only [State.still, Prod.mk.injEq] at h
  obtain ⟨-, hpending, hheld', -, halive, hstroke, helapsed, hcycle⟩ := h
  exact ⟨_, exec_strokeBoundary hrun hheld, hstroke, hcycle, helapsed, hheld', hpending, halive⟩

/-- Settles O24: the boundary sets the count and the level, and its work leaves both. -/
theorem strokesAreCounted : Obligations.StrokesAreCounted := by
  refine ⟨fun s hrun hheld hadopt => ?_, fun s n hrun hheld hadopt => ?_, fun s h => ?_, fun s hrun hheld hsafe hfollows => ?_,
    fun s hrun hheld hsafe => ?_⟩
  · obtain ⟨t, ht, hstroke, hcycle, helapsed, hheld', hpending, -⟩ := exec_strokeBoundary_clock hrun hheld
    exact ⟨t, ht, by rw [hstroke, State.nextCount, hadopt]; rfl, hcycle, helapsed, hheld'.trans hheld, hpending⟩
  · obtain ⟨t, ht, hstroke, hcycle, helapsed, -⟩ := exec_strokeBoundary_clock hrun hheld
    exact ⟨t, ht, by rw [hstroke, State.nextCount, hadopt]; rfl, hcycle, helapsed⟩
  · refine congrArg Host.Outcome.next (if_neg ?_)
    rcases h with h | h <;> simp [h]
  · obtain ⟨t, ht, hstroke, -, -, -, -, halive⟩ := exec_strokeBoundary_clock hrun hheld
    exact ⟨t, ht, by rw [halive, hstroke]; simp [State.aliveAt, hsafe, hfollows]⟩
  · obtain ⟨t, ht, -, -, -, -, -, halive⟩ := exec_strokeBoundary_clock hrun hheld
    exact ⟨t, ht, by rw [halive]; simp [State.aliveAt, hsafe]⟩

/-! ## The control PLL and its references (R41, R47, R48, R51) -/

/-- A field of STK's or CKM's STAT register, or LOCK_TIME, is none an event changes. -/
theorem clockField_of_event (c : ErrCode) : ∀ g ∈ [Reg.CKM.STAT_BACKUP_OSC, Reg.CKM.STAT_HOLDOVER, Reg.CKM.STAT_PLL_LOCK,
    Reg.CKM.STAT_REF_PRESENT, Reg.STK.STAT_BACKUP, Reg.STK.STAT_HOLDOVER, Reg.STK.STAT_SYNC, Reg.STK.STAT_RUNNING,
    Reg.STK.MISS_CNT_CONSEC, Reg.STK.MISS_CNT_TOTAL], ∀ f ∈ eventFields c, f.key ≠ g.key := fun g hg =>
  eventFields_key_ne (by revert g; decide) (by revert g; decide) (by revert g; decide) (by revert g; decide)

/-- The registers of the first lock (R51). -/
def State.pllRegs (s : State) (n : Nat) : State :=
  (((s.wr Reg.CKM.STAT_PLL_LOCK 1).wr Reg.CKM.STAT_REF_PRESENT 1).wr Reg.CKM.LOCK_TIME (lockTime n)).wr Reg.GLB.STAT_STEP 1

/-- The die at the first lock. -/
def State.pllLocked (s : State) (n : Nat) : State := { s.pllRegs n with clk := { s.clk with lockAt := n } }

theorem State.pllLocked_rd_ne (s : State) (n : Nat) {g : Field} (h : ∀ f ∈ [Reg.CKM.STAT_PLL_LOCK, Reg.CKM.STAT_REF_PRESENT, Reg.CKM.LOCK_TIME,
    Reg.GLB.STAT_STEP], f.key ≠ g.key) : (s.pllLocked n).rd g = s.rd g := by
  simp only [List.forall_mem_cons] at h
  obtain ⟨h1, h2, h3, h4, -⟩ := h
  show (s.pllRegs n).rd g = _
  rw [State.pllRegs, State.rd_wr_ne _ _ h4, State.rd_wr_ne _ _ h3, State.rd_wr_ne _ _ h2, State.rd_wr_ne _ _ h1]

theorem State.pllLocked_rd (s : State) (n : Nat) : (s.pllLocked n).rd Reg.CKM.STAT_PLL_LOCK = 1 ∧
    (s.pllLocked n).rd Reg.CKM.LOCK_TIME = min n 65535 ∧ (s.pllLocked n).rd Reg.GLB.STAT_STEP = 1 := by
  have htime : lockTime n % 2 ^ Reg.CKM.LOCK_TIME.width = min n 65535 := by
    show min n 65535 % 65536 = _
    omega
  refine ⟨?_, ?_, ?_⟩ <;> show (s.pllRegs n).rd _ = _
  · simp (disch := decide) only [State.pllRegs, State.rd_wr_ne, State.rd_wr_same]
    rfl
  · simp (disch := decide) only [State.pllRegs, State.rd_wr_ne, State.rd_wr_same]
    exact htime
  · simp (disch := decide) only [State.pllRegs, State.rd_wr_same]
    rfl

theorem exec_pllLock {s : State} (n : Nat) (hheld : s.held = false) (hlock : s.flag Reg.CKM.STAT_PLL_LOCK = false) (hstep : s.stepNo = 0) :
    exec (.pllLock n) s = .next (if s.isT0 then ((s.pllLocked n).wr Reg.CKM.STAT_OUT_ACTIVE 0x1F).startStrokes 0 else s.pllLocked n) := by
  have ht0 : (s.pllLocked n).isT0 = s.isT0 := by rw [State.isT0, s.pllLocked_rd_ne n (by decide), State.isT0]
  rw [← ht0]
  exact congrArg Host.Outcome.next (if_neg (by simp [hheld, hlock, hstep]))

theorem State.flag_of_rd_one {s : State} {f : Field} (h : s.rd f = 1) : s.flag f = true := by
  simp [State.flag, h]

theorem State.startStrokes_rd_ne (s : State) (count : BitVec 48) {g : Field} (h : Reg.STK.STAT_RUNNING.key ≠ g.key) :
    (s.startStrokes count).rd g = s.rd g := s.rd_wr_ne 1 h

theorem State.startStrokes_running (s : State) (count : BitVec 48) : (s.startStrokes count).running = true :=
  State.flag_of_rd_one (s.rd_wr_same Reg.STK.STAT_RUNNING 1)

/-- The die that has lost the clock forwarded to it, before the event (R47). -/
def State.backedUp (s : State) : State :=
  ((((s.wr Reg.CKM.STAT_PLL_LOCK 0).wr Reg.CKM.STAT_REF_PRESENT 0).wr Reg.CKM.STAT_BACKUP_OSC 1).wr Reg.STK.STAT_BACKUP 1).wr
    Reg.STK.STAT_SYNC 2

theorem State.backedUp_rd (s : State) : s.backedUp.rd Reg.CKM.STAT_BACKUP_OSC = 1 ∧ s.backedUp.rd Reg.STK.STAT_BACKUP = 1 ∧
    s.backedUp.rd Reg.STK.STAT_SYNC = 2 ∧ s.backedUp.rd Reg.CKM.STAT_REF_PRESENT = 0 := by
  refine ⟨?_, ?_, ?_, ?_⟩ <;> (simp (disch := decide) only [State.backedUp, State.rd_wr_ne, State.rd_wr_same]; rfl)

/-- The registers of a holdover that begins (R48). -/
def State.holdoverRegs (s : State) : State :=
  (((s.wr Reg.CKM.STAT_REF_PRESENT 0).wr Reg.CKM.STAT_PLL_LOCK 0).wr Reg.CKM.STAT_HOLDOVER 1).wr Reg.STK.STAT_HOLDOVER 1

/-- The die in holdover, before the event. -/
def State.heldOver (s : State) : State := { s.holdoverRegs with clk := { s.clk with reacquired := false, holdCount := 0 } }

theorem State.heldOver_rd (s : State) : s.heldOver.rd Reg.CKM.STAT_HOLDOVER = 1 ∧ s.heldOver.rd Reg.STK.STAT_HOLDOVER = 1 ∧
    s.heldOver.rd Reg.CKM.STAT_REF_PRESENT = 0 ∧ s.heldOver.rd Reg.STK.STAT_RUNNING = s.rd Reg.STK.STAT_RUNNING := by
  refine ⟨?_, ?_, ?_, ?_⟩ <;> show s.holdoverRegs.rd _ = _ <;>
    simp (disch := decide) only [State.holdoverRegs, State.rd_wr_ne, State.rd_wr_same] <;> rfl

/-- The registers of a holdover that ends. -/
def State.holdoverEnded (s : State) : State :=
  (((s.wr Reg.CKM.STAT_HOLDOVER 0).wr Reg.STK.STAT_HOLDOVER 0).wr Reg.CKM.STAT_PLL_LOCK 1).wr Reg.CKM.LOCK_TIME
    (lockTime (s.clk.lockAt + s.absCycle / 8))

theorem exec_holdoverExit {s : State} (hhold : s.flag Reg.CKM.STAT_HOLDOVER = true) (hre : s.clk.reacquired = true) (hcount : 17 ≤ s.clk.holdCount) :
    exec .holdoverExit s = .next { s.holdoverEnded with clk := { s.clk with reacquired := false, holdCount := 0 } } :=
  congrArg Host.Outcome.next (if_pos (by simp [hhold, hre, hcount]))

/-- Settles O25: each change of a clock writes its own fields of STAT, and an event leaves them. -/
theorem clocksAreLocked : Obligations.ClocksAreLocked := by
  refine ⟨fun s n hheld hlock hstep ht0 => ?_, fun s n hheld hlock hstep ht0 => ?_, fun s hheld ht0 hosc hlock => ?_,
    fun s hheld ht0 hrun href => ?_, fun s hheld ht0 => ?_, fun s hhold href hre => ?_, fun s hhold hre hcount => ?_,
    fun s hhold hcount => ?_⟩
  · obtain ⟨hpll, htime, hstat⟩ := s.pllLocked_rd n
    have hpos : (s.pllLocked n).isT0 = true := by rw [State.isT0, s.pllLocked_rd_ne n (by decide)]; exact ht0
    have hrd : ∀ g : Field, Reg.STK.STAT_RUNNING.key ≠ g.key → Reg.CKM.STAT_OUT_ACTIVE.key ≠ g.key →
        (((s.pllLocked n).wr Reg.CKM.STAT_OUT_ACTIVE 0x1F).startStrokes 0).rd g = (s.pllLocked n).rd g := fun g h1 h2 => by
      rw [State.startStrokes_rd_ne _ _ h1, State.rd_wr_ne _ _ h2]
    have hexec : exec (.pllLock n) s = .next (((s.pllLocked n).wr Reg.CKM.STAT_OUT_ACTIVE 0x1F).startStrokes 0) := by
      rw [exec_pllLock n hheld hlock hstep, if_pos ht0]
    refine ⟨_, hexec, State.startStrokes_running _ _, rfl, rfl, ?_, ?_, ?_, ?_, ?_,
      fun g hg => ?_, rfl⟩
    · exact (hrd _ (by decide) (by decide)).trans hstat
    · exact State.flag_of_rd_one ((hrd _ (by decide) (by decide)).trans hpll)
    · exact (hrd _ (by decide) (by decide)).trans htime
    · rw [State.startStrokes_rd_ne _ _ (by decide), State.rd_wr_same]
      rfl
    · have hmark : ((s.pllLocked n).wr Reg.CKM.STAT_OUT_ACTIVE 0x1F |>.wr Reg.STK.STAT_RUNNING 1).isT0 = true := by
        rw [State.isT0, State.rd_wr_ne _ _ (by decide), State.rd_wr_ne _ _ (by decide)]
        exact hpos
      exact if_pos hmark
    · rw [hrd g (hg _ (by simp)) (hg _ (by simp))]
      exact s.pllLocked_rd_ne n fun f hf => hg f (by revert f; decide)
  · obtain ⟨hpll, htime, hstat⟩ := s.pllLocked_rd n
    have hexec : exec (.pllLock n) s = .next (s.pllLocked n) := by
      rw [exec_pllLock n hheld hlock hstep, ht0]
      rfl
    exact ⟨_, hexec,
      by rw [State.running, State.flag, s.pllLocked_rd_ne n (by decide)]; rfl, hstat, State.flag_of_rd_one hpll, htime, rfl⟩
  · obtain ⟨h1, h2, h3, h4⟩ := s.backedUp_rd
    have hrd : ∀ g ∈ _, (s.backedUp.raise1 (plain Err.CKM.FWD_CLK_LOSS)).rd g = s.backedUp.rd g := fun g hg =>
      State.raise1_rd _ _ g (clockField_of_event _ g hg)
    have hosc' := (hrd Reg.CKM.STAT_BACKUP_OSC (by decide)).trans h1
    refine ⟨s.backedUp.raise1 (plain Err.CKM.FWD_CLK_LOSS), congrArg Host.Outcome.next ?_, hosc', (hrd _ (by decide)).trans h2,
      (hrd _ (by decide)).trans h3, (hrd _ (by decide)).trans h4, State.raise1_shows _ _ (by decide), ?_⟩
    · rw [if_neg (by simp [hheld, ht0, hosc]), if_neg (by simp [hlock])]
      rfl
    · exact congrArg Host.Outcome.next (if_pos (by simp [State.flag_of_rd_one hosc']))
  · obtain ⟨h1, h2, h3, h4⟩ := s.heldOver_rd
    have hrd : ∀ g ∈ _, (s.heldOver.raise1 (plain Err.CKM.REFCLK_LOSS)).rd g = s.heldOver.rd g := fun g hg =>
      State.raise1_rd _ _ g (clockField_of_event _ g hg)
    refine ⟨s.heldOver.raise1 (plain Err.CKM.REFCLK_LOSS), congrArg Host.Outcome.next ?_, (hrd _ (by decide)).trans h1,
      (hrd _ (by decide)).trans h2, (hrd _ (by decide)).trans h3, State.raise1_shows _ _ (by decide), by rw [State.raise1_clk]; rfl, ?_⟩
    · rw [if_neg (by simp [hheld, ht0]), if_neg (by simp [hrun, href])]
      rfl
    · rw [State.running, State.flag, hrd _ (by decide), h4]
      exact hrun
  · exact ⟨_, congrArg Host.Outcome.next (if_neg (by simp [hheld, ht0])), s.rd_wr_same _ _, fun g hg => s.rd_wr_ne _ (hg _ (by simp)), rfl⟩
  · exact congrArg Host.Outcome.next (if_pos (by simp [hhold, href, hre]))
  · have hrd : ∀ g, Reg.CKM.LOCK_TIME.key ≠ g.key → s.holdoverEnded.rd g =
        (((s.wr Reg.CKM.STAT_HOLDOVER 0).wr Reg.STK.STAT_HOLDOVER 0).wr Reg.CKM.STAT_PLL_LOCK 1).rd g := fun g hg => State.rd_wr_ne _ _ hg
    refine ⟨_, exec_holdoverExit hhold hre hcount, ?_, ?_, ?_, rfl, fun g hg => ?_, rfl⟩
    · refine (hrd _ (by decide)).trans ?_
      rw [State.rd_wr_ne _ _ (by decide), State.rd_wr_ne _ _ (by decide), State.rd_wr_same]
      rfl
    · refine (hrd _ (by decide)).trans ?_
      rw [State.rd_wr_ne _ _ (by decide), State.rd_wr_same]
      rfl
    · refine (hrd _ (by decide)).trans ?_
      rw [State.rd_wr_same]
      rfl
    · refine (hrd g (hg _ (by simp))).trans ?_
      rw [State.rd_wr_ne _ _ (hg _ (by simp)), State.rd_wr_ne _ _ (hg _ (by simp)), State.rd_wr_ne _ _ (hg _ (by simp))]
  · exact congrArg Host.Outcome.next (if_neg (by simp; omega))

/-! ## A follower's marker (R42, R44, R45, R494) -/

/-- The registers of a valid marker word. -/
def State.inSync (s : State) : State := (s.wr Reg.STK.MISS_CNT_CONSEC 0).wr Reg.STK.STAT_SYNC 1

theorem State.inSync_rd (s : State) : s.inSync.rd Reg.STK.MISS_CNT_CONSEC = 0 ∧ s.inSync.rd Reg.STK.STAT_SYNC = 1 := by
  refine ⟨?_, ?_⟩ <;> (simp (disch := decide) only [State.inSync, State.rd_wr_ne, State.rd_wr_same]; rfl)

theorem State.markerWord_match {s : State} (hsync : s.rd Reg.STK.STAT_SYNC = 1) : s.markerWord s.clk.stroke = s.inSync := by
  simp [State.markerWord, hsync, State.inSync]

/-- The state in which another count is adopted at the next cycle 0, before its event. -/
def State.adopting (s : State) (n : BitVec 48) : State := { s.inSync with clk := { s.clk with adopt := some (n + 1) } }

theorem State.markerWord_other {s : State} {n : BitVec 48} (h : n ≠ s.clk.stroke) : s.markerWord n =
    (s.adopting n).raise1 ⟨Err.STK.COUNT_RESYNC, s.clk.stroke.toNat % 2 ^ 32, (n + 1).toNat % 2 ^ 32⟩ := by
  simp [State.markerWord, h, State.adopting, State.inSync]

theorem exec_markerDecision {s : State} (pulse : Bool) (n : BitVec 48) (c : BitVec 8) (hheeds : s.heeds = true) (hrun : s.running = true) :
    exec (.markerDecision pulse n c) s =
      .next (if pulse && crc8 n == c then (s.atCycle 464).markerWord n else (s.atCycle 464).markerMiss) := by
  refine congrArg Host.Outcome.next ?_
  rw [if_neg (by simp [hheeds]), if_neg (by simp [hrun])]

/-- The counts of a missed marker. -/
def State.missed (s : State) : State := (s.bump Reg.STK.MISS_CNT_TOTAL).bump Reg.STK.MISS_CNT_CONSEC

theorem State.missed_rd (s : State) : s.missed.rd Reg.STK.MISS_CNT_CONSEC = (s.bump Reg.STK.MISS_CNT_CONSEC).rd Reg.STK.MISS_CNT_CONSEC ∧
    s.missed.rd Reg.STK.MISS_CNT_TOTAL = (s.bump Reg.STK.MISS_CNT_TOTAL).rd Reg.STK.MISS_CNT_TOTAL ∧
    s.missed.rd Reg.STK.STAT_SYNC = s.rd Reg.STK.STAT_SYNC := by
  refine ⟨?_, ?_, ?_⟩ <;> simp (disch := decide) only [State.missed, State.rd_bump_ne, State.rd_bump_same]

/-- A miss counts, whether or not its event is raised. -/
theorem State.markerMiss_spec (s : State) : s.markerMiss.rd Reg.STK.MISS_CNT_CONSEC = s.missed.rd Reg.STK.MISS_CNT_CONSEC ∧
    s.markerMiss.rd Reg.STK.MISS_CNT_TOTAL = s.missed.rd Reg.STK.MISS_CNT_TOTAL ∧
    s.markerMiss.rd Reg.STK.STAT_SYNC = s.missed.rd Reg.STK.STAT_SYNC ∧ s.markerMiss.clk = s.clk := by
  have hrd : ∀ g ∈ _, (s.missed.raise1 (plain Err.STK.MARKER_MISS)).rd g = s.missed.rd g := fun g hg =>
    State.raise1_rd _ _ g (clockField_of_event _ g hg)
  have hmiss : s.markerMiss = if s.missed.rd Reg.STK.STAT_SYNC = 1 ∧ s.missed.rd Reg.STK.MISS_CNT_CONSEC < 16 then
      s.missed.raise1 (plain Err.STK.MARKER_MISS) else s.missed := rfl
  rw [hmiss]
  split
  · exact ⟨hrd _ (by decide), hrd _ (by decide), hrd _ (by decide), State.raise1_clk _ _⟩
  · exact ⟨rfl, rfl, rfl, rfl⟩

theorem State.startStrokes_clock (s : State) (count : BitVec 48) (h : s.safe = false) : (s.startStrokes count).clk.stroke = count ∧
    (s.startStrokes count).clk.cycle = 0 ∧ (s.startStrokes count).clk.alive = count.getLsbD 6 := by
  have hsafe : (s.wr Reg.STK.STAT_RUNNING 1).safe = false := by rw [State.safe, State.rd_wr_ne _ _ (by decide)]; exact h
  exact ⟨rfl, rfl, if_neg (by simp [hsafe])⟩

/-- The follower whose words and pulse have agreed, as its strokes begin. -/
def State.acquired (s : State) : State :=
  { s.wr Reg.STK.STAT_SYNC 1 with clk := { s.clk with pulseAt := .none, word1 := .none, word2 := .none } }

/-- Settles O26: a valid word ends the misses, and adopts a count that is another; anything else is a miss. -/
theorem markersAreFollowed : Obligations.MarkersAreFollowed := by
  refine ⟨fun s hheeds hrun hsync => ?_, fun s n hheeds hrun hne => ?_, fun s pulse n c hheeds hrun hbad => ?_,
    fun s n hheeds hrun hoff => ?_, fun s n hheeds hrun hzero => ?_, fun s n a hheeds hrun hword hsafe => ?_,
    fun s hheeds hrun hsync hmiss => ?_⟩
  · have hexec : exec (.markerDecision true s.clk.stroke (crc8 s.clk.stroke)) s = .next (s.atCycle 464).inSync := by
      rw [exec_markerDecision _ _ _ hheeds hrun, if_pos (by simp), ← State.markerWord_match (s := s.atCycle 464) hsync]
      rfl
    obtain ⟨hconsec, hstate⟩ := (s.atCycle 464).inSync_rd
    refine ⟨_, hexec, hconsec, hstate, rfl, rfl, rfl, fun g hg => ?_⟩
    rw [State.inSync, State.rd_wr_ne _ _ (hg _ (by simp)), State.rd_wr_ne _ _ (hg _ (by simp)), State.atCycle_rd]
  · have hexec : exec (.markerDecision true n (crc8 n)) s = .next (((s.atCycle 464).adopting n).raise1
        ⟨Err.STK.COUNT_RESYNC, s.clk.stroke.toNat % 2 ^ 32, (n + 1).toNat % 2 ^ 32⟩) := by
      rw [exec_markerDecision _ _ _ hheeds hrun, if_pos (by simp), State.markerWord_other (s := s.atCycle 464) hne]
      rfl
    obtain ⟨hconsec, hstate⟩ := (s.atCycle 464).inSync_rd
    have hrd : ∀ g ∈ _, (((s.atCycle 464).adopting n).raise1
        ⟨Err.STK.COUNT_RESYNC, s.clk.stroke.toNat % 2 ^ 32, (n + 1).toNat % 2 ^ 32⟩).rd g = (s.atCycle 464).inSync.rd g := fun g hg =>
      State.raise1_rd _ _ g (clockField_of_event _ g hg)
    refine ⟨_, hexec, by rw [State.raise1_clk]; rfl, State.raise1_shows _ ⟨Err.STK.COUNT_RESYNC, _, _⟩ (by decide : Err.STK.COUNT_RESYNC.bit < 32),
      (hrd _ (by decide)).trans hconsec, (hrd _ (by decide)).trans hstate, by rw [State.raise1_clk]; rfl⟩
  · have hexec : exec (.markerDecision pulse n c) s = .next (s.atCycle 464).markerMiss := by
      rw [exec_markerDecision _ _ _ hheeds hrun, if_neg]
      rcases hbad with rfl | hcrc
      · simp
      · simp [hcrc]
    obtain ⟨hconsec, htotal, hstate, hclk⟩ := (s.atCycle 464).markerMiss_spec
    obtain ⟨h1, h2, h3⟩ := (s.atCycle 464).missed_rd
    exact ⟨_, hexec, hconsec.trans h1, htotal.trans h2, hstate.trans h3, by rw [hclk]; rfl⟩
  · have hexec : exec (.markerStartPulse n) s = .next ((s.atCycle (n % 1280)).raise1 (plain Err.STK.MARKER_PHASE)) := by
      refine congrArg Host.Outcome.next ?_
      rw [if_neg (by simp [hheeds]), if_pos hrun, if_neg hoff]
    exact ⟨_, hexec, by rw [State.raise1_clk]; rfl, State.raise1_shows _ _ (by decide), State.raise1_sameFields (s.atCycle (n % 1280)) (plain Err.STK.MARKER_PHASE)⟩
  · refine congrArg Host.Outcome.next ?_
    rw [if_neg (by simp [hheeds]), if_pos hrun, if_pos hzero]
  · have hexec : exec (.markerStartPulse (a + 1280)) s = .next (s.acquired.startStrokes (n + 1)) := by
      refine congrArg Host.Outcome.next ?_
      rw [if_neg (by simp [hheeds]), if_neg (by simp [hrun]), hword]
      exact if_pos rfl
    have hsafe' : s.acquired.safe = false := by
      show (s.wr Reg.STK.STAT_SYNC 1).safe = false
      rw [State.safe, State.rd_wr_ne _ _ (by decide)]
      exact hsafe
    obtain ⟨hstroke, hcycle, halive⟩ := s.acquired.startStrokes_clock (n + 1) hsafe'
    refine ⟨_, hexec, State.startStrokes_running _ _, hstroke, hcycle, ?_, halive⟩
    rw [State.startStrokes_rd_ne _ _ (by decide)]
    exact s.rd_wr_same Reg.STK.STAT_SYNC 1
  · have hexec : exec .freewheel s = .next (((s.atCycle 464).wr Reg.STK.STAT_SYNC 2).raise1 (plain Err.STK.FREEWHEEL)) :=
      congrArg Host.Outcome.next (if_pos (by simp [hheeds, hrun, hsync, hmiss]))
    refine ⟨_, hexec, ?_, State.raise1_shows _ _ (by decide), by rw [State.raise1_clk]; rfl, fun g hg => ?_⟩
    · rw [State.raise1_rd _ _ _ (clockField_of_event _ _ (by decide)), State.rd_wr_same]
      rfl
    · rw [State.raise1_rd _ _ g fun f hf => hg f (List.mem_cons_of_mem _ hf), State.rd_wr_ne _ _ (hg _ (by simp)), State.atCycle_rd]

end Sys2Proof.Machine
end

section
/-! SUPPORT. Events one after the other, and the watch over each headgate's input (spec section 05, R153, R154). -/

namespace Sys2Proof.Machine

/-! ## Events one after the other -/

theorem errField_key_ne {c d : EvClass} {p q : Nat} (h : (c, p) ≠ (d, q)) : (errField c p).key ≠ (errField d q).key := by
  intro hkey
  have hpage : p = q := by
    cases c <;> cases d <;> simp only [errField, Field.key, Reg.ERR_CORR, Reg.ERR_CONT, Reg.ERR_FATAL] at hkey <;> omega
  have hcls : c = d := by
    cases c <;> cases d <;> simp [errField, Field.key, Reg.ERR_CORR, Reg.ERR_CONT, Reg.ERR_FATAL, hpage] at hkey ⊢
  exact h (by rw [hcls, hpage])

/-- Of the ERR registers an event changes its own bit alone. -/
theorem State.raise1_errField (s : State) (e : Event) (cls : EvClass) (pg : Nat) :
    (s.raise1 e).rd (errField cls pg) = ((s.pairFor e.code).setErrBit e.code).rd (errField cls pg) := by
  have hcnt : ∀ g : Field, 0x01C ≤ g.off → g.off < 0x1000 → g.lo < 32 → g.key ≠ (errField cls pg).key := fun g h1 h2 h3 =>
    (key_ne_errField cls pg (.inr h1) h2 h3).symm
  cases hm : s.merges e.code with
  | true =>
    rw [State.raise1_merged hm]
    exact State.rd_bump_ne _ (hcnt _ (by simp [Reg.CNT_MERGED]) (by simp [Reg.CNT_MERGED]) (by simp [Reg.CNT_MERGED]))
  | false =>
    rw [State.raise1_new hm]
    refine (State.logEvent_rd _ (entryOf e s.stamp) (hcnt _ (by decide) (by decide) (by decide))).trans ?_
    show (((s.pairFor e.code).setErrBit e.code).countEvent e.code).rd _ = _
    unfold State.countEvent
    cases e.code.cls
    · exact State.rd_bump_ne _ (hcnt _ (by simp [Reg.CNT_CORR]) (by simp [Reg.CNT_CORR]) (by simp [Reg.CNT_CORR]))
    · exact State.rd_bump_ne _ (hcnt _ (by simp [Reg.CNT_CONT]) (by simp [Reg.CNT_CONT]) (by simp [Reg.CNT_CONT]))
    · rfl

/-- An event clears no bit of an ERR register. -/
theorem State.raise1_shows_of_shows {s : State} (e : Event) {c : ErrCode} (hb : c.bit < 32) (h : s.shows c = true) : (s.raise1 e).shows c = true := by
  have hpair : bitAt ((s.pairFor e.code).rd (errField c.cls c.page)) c.bit = true := by rw [s.pairFor_errField]; exact h
  rw [State.shows, State.raise1_errField, State.setErrBit]
  by_cases hsame : (e.code.cls, e.code.page) = (c.cls, c.page)
  · obtain ⟨hcls, hpage⟩ := Prod.mk.inj hsame
    rw [hcls, hpage, State.wrBit, State.rd_wr_same, errField_width, bitAt_mod _ _ _ hb, if_pos rfl]
    by_cases hbit : e.code.bit = c.bit
    · rw [hbit, bitAt_setBit]
    · rw [bitAt_setBit_ne hbit, hpair]
  · rw [State.rd_wrBit_ne _ _ _ (errField_key_ne hsame), hpair]

/-- Each event of a list shows once the list is raised. -/
theorem State.raise_shows (s : State) {es : List Event} {e : Event} (he : e ∈ es) (hb : e.code.bit < 32) : (s.raise es).shows e.code = true := by
  have hkeep : ∀ (l : List Event) (u : State), u.shows e.code = true → (l.foldl State.raise1 u).shows e.code = true := by
    intro l
    induction l with
    | nil => exact fun u h => h
    | cons a l ih => exact fun u h => ih _ (State.raise1_shows_of_shows a hb h)
  obtain ⟨before, after, hsplit⟩ := List.append_of_mem (mem_sortEvents.mpr he)
  rw [State.raise, hsplit, List.foldl_append, List.foldl_cons]
  exact hkeep after _ (State.raise1_shows _ e hb)

theorem State.raise_clk (s : State) (es : List Event) : (s.raise es).clk = s.clk := State.raise_same State.clk State.raise1_clk s es

theorem State.raise_hgs (s : State) (es : List Event) : (s.raise es).hgs = s.hgs := State.raise_same State.hgs State.raise1_hgs s es

theorem State.raise_seats (s : State) (es : List Event) : (s.raise es).seats = s.seats := State.raise_same State.seats State.raise1_seats s es

/-! ## The input of a headgate (R153, R154) -/

/-- The events of an input power outside its limits. -/
def State.powerEvents (s : State) (x : Nat) (pwr : Int) : List Event :=
  (if pwr < s.rdI Reg.HGT.IN_LOW then [detail (Err.HGT.INPUT_LOW x) x] else []) ++
    if s.rdI Reg.HGT.IN_HIGH < pwr then [detail (Err.HGT.INPUT_HIGH x) x] else []

theorem IN_PWR_key_ne {x : Nat} (hx : x < 4) {g : Field} (h : g = Reg.HGT.IN_LOW ∨ g = Reg.HGT.IN_HIGH) :
    (Reg.HGT.HG_STAT_IN_PWR x).key ≠ g.key := by
  rcases h with rfl | rfl <;> simp only [Field.key, Reg.HGT.HG_STAT_IN_PWR, Reg.HGT.IN_LOW, Reg.HGT.IN_HIGH] <;> omega

/-- The runs of a headgate after its taps. -/
def State.gateAfter (s : State) (x : Nat) (pwr leak : Int) : Headgate :=
  let h := s.hg x
  let closed := !s.flag (Reg.HGT.HG_STAT_OPEN x)
  let okRun := if closed && decide (leak ≤ leakLevel) then min (h.leakOkRun + 1) 4 else if closed then 0 else h.leakOkRun
  { h with
    lowRun := if pwr < inputLostLevel then runUp h.lowRun else 0
    leakRun := if closed && decide (leakLevel < leak) then min (h.leakRun + 1) 4 else 0
    leakOkRun := okRun
    leaking := h.leaking && decide (okRun < 4) }

/-- The input's power in its register. -/
def State.powerShown (s : State) (x : Nat) (pwr : Int) : State := (s.atCycle 159).wrI (Reg.HGT.HG_STAT_IN_PWR x) pwr

theorem State.powerShown_limits (s : State) {x : Nat} (hx : x < 4) (pwr : Int) (h : Headgate) :
    ((s.powerShown x pwr).setHg x h).powerEvents x pwr = s.powerEvents x pwr := by
  have hlimit : ∀ g, g = Reg.HGT.IN_LOW ∨ g = Reg.HGT.IN_HIGH → ((s.powerShown x pwr).setHg x h).rdI g = s.rdI g := fun g hg => by
    rw [State.rdI, State.setHg_rd, State.powerShown, State.rd_wrI_ne _ _ (IN_PWR_key_ne hx hg)]
    rfl
  rw [State.powerEvents, hlimit _ (.inl rfl), hlimit _ (.inr rfl), State.powerEvents]

/-- The watch over an input's power leaves its state of the headgate and raises what it finds. -/
theorem exec_inputPowerCheck {s : State} (x : Fin 4) (pwr leak : Int) (hrun : s.running = true) : exec (.inputPowerCheck x pwr leak) s =
    .next (((s.powerShown x.val pwr).setHg x.val ((s.powerShown x.val pwr).gateAfter x.val pwr leak)).raise (s.powerEvents x.val pwr)) := by
  rw [← s.powerShown_limits x.isLt pwr ((s.powerShown x.val pwr).gateAfter x.val pwr leak)]
  exact congrArg Host.Outcome.next (if_pos hrun)

theorem exec_inputLost {s : State} (x : Fin 4) (hrun : s.running = true) (h : (s.hg x.val).lowRun = 4) : exec (.inputLost x) s =
    .next (((s.atCycle 159).setHg x.val { s.hg x.val with lowRun := 5 }).raise1 (detail (Err.HGT.INPUT_LOST x.val) x.val)) :=
  congrArg Host.Outcome.next (if_pos (by simp [hrun, h]))

theorem exec_inputLost_of_ne {s : State} (x : Fin 4) (h : (s.hg x.val).lowRun ≠ 4) : exec (.inputLost x) s = .next s :=
  congrArg Host.Outcome.next (if_neg (by simp [h]))

theorem State.raise1_hg (s : State) (e : Event) (x : Nat) : (s.raise1 e).hg x = s.hg x := congrArg (Tab.read Headgate.reset · x) (s.raise1_hgs e)

theorem State.raise_hg (s : State) (es : List Event) (x : Nat) : (s.raise es).hg x = s.hg x := congrArg (Tab.read Headgate.reset · x) (s.raise_hgs es)

/-- Settles O29: the reading goes into its register and its run, and the event of a run comes once. -/
theorem inputsAreWatched : Obligations.InputsAreWatched := by
  refine ⟨fun s x pwr leak hrun hlo hhi => ?_, fun s x hrun hlow => ?_, fun s x hrun hleak hnot => ?_⟩
  · refine ⟨_, exec_inputPowerCheck x pwr leak hrun, ?_, by rw [State.raise_clk]; rfl, ?_, fun hlt => ?_, fun hlt => ?_, fun y hy => ?_, by rw [State.raise_seats]; rfl⟩
    · have hkeep : ∀ e ∈ s.powerEvents x.val pwr, ∀ f ∈ eventFields e.code, f.key ≠ (Reg.HGT.HG_STAT_IN_PWR x.val).key := fun e _ =>
        eventFields_key_ne (by simp [Reg.HGT.HG_STAT_IN_PWR]; omega) (by simp [Reg.HGT.HG_STAT_IN_PWR]; omega)
          (Field.key_ne_of_page (by simp [Reg.HGT.HG_STAT_IN_PWR, Reg.UMP.FATAL_CNT_EVENTS]) (by decide) (by simp [Reg.HGT.HG_STAT_IN_PWR]; omega))
          (Field.key_ne_of_page (by simp [Reg.HGT.HG_STAT_IN_PWR, Reg.LOG.DROP_CNT]) (by decide) (by simp [Reg.HGT.HG_STAT_IN_PWR]; omega))
      rw [State.rdI, State.raise_rd _ _ _ hkeep, State.setHg_rd, State.powerShown, State.rd_wrI_same]
      exact signedOf_bitsOfInt_16 hlo hhi
    · rw [State.raise_hg, State.hg_setHg_same]
      rfl
    · exact State.raise_shows _ (e := detail (Err.HGT.INPUT_LOW x.val) x.val) (by simp [State.powerEvents, hlt])
        (by simp [detail, Err.HGT.INPUT_LOW]; omega)
    · exact State.raise_shows _ (e := detail (Err.HGT.INPUT_HIGH x.val) x.val) (by simp [State.powerEvents, hlt])
        (by simp [detail, Err.HGT.INPUT_HIGH]; omega)
    · rw [State.raise_hg, State.hg_setHg_ne _ _ _ _ hy.symm]
      rfl
  · have hrun5 : ((((s.atCycle 159).setHg x.val { s.hg x.val with lowRun := 5 }).raise1 (detail (Err.HGT.INPUT_LOST x.val) x.val)).hg x.val).lowRun = 5 := by
      rw [State.raise1_hg, State.hg_setHg_same]
    refine ⟨_, exec_inputLost x hrun hlow, ?_, hrun5, exec_inputLost_of_ne x (by rw [hrun5]; decide), ?_⟩
    · exact State.raise1_shows _ (detail (Err.HGT.INPUT_LOST x.val) x.val) (by simp [detail, Err.HGT.INPUT_LOST]; omega)
    · exact State.raise1_sameFields ((s.atCycle 159).setHg x.val { s.hg x.val with lowRun := 5 }) (detail (Err.HGT.INPUT_LOST x.val) x.val)
  · refine ⟨_, congrArg Host.Outcome.next (if_pos (by simp [hrun, hleak, hnot])), ?_, ?_, ?_⟩
    · exact State.raise1_shows _ (detail (Err.HGT.SHUT_FAIL x.val) x.val) (by simp [detail, Err.HGT.SHUT_FAIL]; omega)
    · rw [State.raise1_hg, State.hg_setHg_same]
    · exact State.raise1_sameFields ((s.atCycle 159).setHg x.val { s.hg x.val with leaking := true, leakOkRun := 0 })
        (detail (Err.HGT.SHUT_FAIL x.val) x.val)

end Sys2Proof.Machine
end

section
/-! SUPPORT. The monitors' samples (spec section 05, R162 to R168; R261). -/

namespace Sys2Proof.Machine

/-! ## A sample in its parts -/

/-- A channel of a unit as a sample finds it. -/
def State.sampleRow (s : State) (u : MonUnit) (codes bad : List Nat) (i : Nat) : Nat × Chan × Bool :=
  (i, sampleChan (s.monShape u) codes bad (fun j => s.chan ((s.monShape u).base + j)) i)

/-- The channels of a unit as a sample finds them. -/
def State.unitSamples (s : State) (u : MonUnit) (codes bad : List Nat) : List (Nat × Chan × Bool) :=
  (List.range (s.monShape u).count).map (s.sampleRow u codes bad)

/-- One channel's sample taken. -/
def takeChan (u : MonUnit) (m : MonShape) (s : State) (r : Nat × Chan × Bool) : State :=
  let s := s.setChan (m.base + r.1) r.2.1
  match u with
  | .port p => s.wrPortCode p.val r.1 r.2.1 r.2.2
  | .flume => s.wrFlumeCode r.1 r.2.1 r.2.2 (bitAt m.isolated r.1)

/-- The run of one bank's reference. -/
def takeBank (m : MonShape) (bad : List Nat) (s : State) (b : Nat) : State :=
  s.setRefRun (m.refBase + b) (if bad.contains b then s.refRun (m.refBase + b) + 1 else 0)

/-- Every channel and every bank of a unit. -/
def State.unitTaken (s : State) (u : MonUnit) (codes bad : List Nat) : State :=
  (List.range ((s.monShape u).count / 8)).foldl (takeBank (s.monShape u) bad) ((s.unitSamples u codes bad).foldl (takeChan u (s.monShape u)) s)

/-- A unit's masks and events. -/
def State.unitReported (s : State) (u : MonUnit) (bad : List Nat) (base ovr taint : Nat) (dim : BitVec 18) : State :=
  match u with
  | .port p =>
    ((s.wrPortMasks p.val ovr taint).wrLos p.val (fun c => ((s.wrPortMasks p.val ovr taint).chan (base + c)).clean) dim).raise
      ((setBits 40 ovr).map (fun c => detail (Err.OPT.MON_OVR p.val) c) ++
        ((List.range 5).filter bad.contains).map fun b => detail (Err.OPT.BANK_REF p.val) (8 * b))
  | .flume =>
    ((List.range 8).foldl (fun s k =>
      s.wr (Reg.FLM.MON_OVR k) ((setBits 32 (maskWord ovr k)).foldl setBit (s.rd (Reg.FLM.MON_OVR k)))) s).raise
        ((setBits 240 ovr).map fun c => detail Err.FLM.MON_OVR (c * 2 ^ 24 + 0xFF * 2 ^ 16))

theorem State.sampleUnit_eq (s : State) (u : MonUnit) (codes bad : List Nat) (dim : BitVec 18) : ∃ ovr taint,
    s.sampleUnit u codes bad dim = (s.unitTaken u codes bad).unitReported u bad (s.monShape u).base ovr taint dim :=
  ⟨_, _, rfl⟩

/-! ## What a sample leaves -/

/-- What neither a register write nor an event changes, a unit's report leaves. -/
theorem State.unitReported_same {α : Type} (get : State → α) (hwr : ∀ s f v, get (State.wr s f v) = get s)
    (hraise : ∀ s e, get (State.raise1 s e) = get s) (s : State) (u : MonUnit) (bad : List Nat) (base ovr taint : Nat) (dim : BitVec 18) :
    get (s.unitReported u bad base ovr taint dim) = get s := by
  cases u with
  | port p =>
    refine (State.raise_same get hraise _ _).trans ?_
    simp only [State.wrLos, State.wrPortMasks, State.addTo, hwr]
  | flume =>
    refine (State.raise_same get hraise _ _).trans ?_
    exact foldl_untouched _ get (fun t k _ => hwr t _ _) s

theorem takeChan_same {α : Type} (get : State → α) (hwr : ∀ s f v, get (State.wr s f v) = get s)
    (hset : ∀ s k c, get (State.setChan s k c) = get s) (u : MonUnit) (m : MonShape) (s : State) (r : Nat × Chan × Bool) :
    get (takeChan u m s r) = get s := by
  cases u <;> simp only [takeChan, State.wrPortCode, State.wrFlumeCode, State.wrB, hwr, hset]

/-- A sample leaves what no write, event, channel or bank is of. -/
theorem State.sampleUnit_same {α : Type} (get : State → α) (hwr : ∀ s f v, get (State.wr s f v) = get s)
    (hraise : ∀ s e, get (State.raise1 s e) = get s) (hset : ∀ s k c, get (State.setChan s k c) = get s)
    (href : ∀ s k n, get (State.setRefRun s k n) = get s) (s : State) (u : MonUnit) (codes bad : List Nat) (dim : BitVec 18) :
    get (s.sampleUnit u codes bad dim) = get s := by
  obtain ⟨ovr, taint, h⟩ := s.sampleUnit_eq u codes bad dim
  rw [h, State.unitReported_same get hwr hraise]
  exact (foldl_untouched _ get (fun t _ _ => href t _ _) _).trans (foldl_untouched _ get (fun t r _ => takeChan_same get hwr hset u _ t r) s)

theorem takeChan_chan_same (u : MonUnit) (m : MonShape) (s : State) (r : Nat × Chan × Bool) :
    (takeChan u m s r).chan (m.base + r.1) = r.2.1 := by
  have h : (takeChan u m s r).chan (m.base + r.1) = (s.setChan (m.base + r.1) r.2.1).chan (m.base + r.1) := by cases u <;> rfl
  rw [h, State.chan_setChan_same]

theorem takeChan_chan_ne (u : MonUnit) (m : MonShape) (s : State) (r : Nat × Chan × Bool) {k : Nat} (h : m.base + r.1 ≠ k) :
    (takeChan u m s r).chan k = s.chan k := by
  have hset : (takeChan u m s r).chan k = (s.setChan (m.base + r.1) r.2.1).chan k := by cases u <;> rfl
  rw [hset, State.chan_setChan_ne _ _ _ _ h]

/-- A unit's channel after the sample is what the sample makes of it. -/
theorem State.sampleUnit_chan (s : State) (u : MonUnit) (codes bad : List Nat) (dim : BitVec 18) {i : Nat} (hi : i < (s.monShape u).count) :
    (s.sampleUnit u codes bad dim).chan ((s.monShape u).base + i) =
      (sampleChan (s.monShape u) codes bad (fun j => s.chan ((s.monShape u).base + j)) i).1 := by
  obtain ⟨ovr, taint, h⟩ := s.sampleUnit_eq u codes bad dim
  rw [h]
  refine (State.unitReported_same (fun t => t.chan ((s.monShape u).base + i)) (fun _ _ _ => rfl)
    (fun s e => congrArg (Tab.read Chan.reset · _) (s.raise1_chans e)) _ _ _ _ _ _ _).trans ?_
  refine (foldl_untouched (takeBank (s.monShape u) bad) (fun t : State => t.chan ((s.monShape u).base + i)) (fun _ _ _ => rfl) _).trans ?_
  rw [State.unitSamples, List.foldl_map]
  exact foldl_touched_once (fun t j => takeChan u (s.monShape u) t (s.sampleRow u codes bad j)) (·.chan ((s.monShape u).base + i))
    (fun _ => _) List.nodup_range (List.mem_range.mpr hi)
    (fun t => takeChan_chan_same u _ t _) (fun t j _ hj => takeChan_chan_ne u _ t _ (show _ + j ≠ _ by omega)) s

/-- A sample leaves the channels of other units. -/
theorem State.sampleUnit_chan_ne (s : State) (u : MonUnit) (codes bad : List Nat) (dim : BitVec 18) {k : Nat}
    (hk : k < (s.monShape u).base ∨ (s.monShape u).base + (s.monShape u).count ≤ k) : (s.sampleUnit u codes bad dim).chan k = s.chan k := by
  obtain ⟨ovr, taint, h⟩ := s.sampleUnit_eq u codes bad dim
  rw [h]
  refine (State.unitReported_same (fun t => t.chan k) (fun _ _ _ => rfl)
    (fun s e => congrArg (Tab.read Chan.reset · _) (s.raise1_chans e)) _ _ _ _ _ _ _).trans ?_
  refine (foldl_untouched (takeBank (s.monShape u) bad) (fun t : State => t.chan k) (fun _ _ _ => rfl) _).trans ?_
  rw [State.unitSamples, List.foldl_map]
  refine foldl_untouched (fun t j => takeChan u (s.monShape u) t (s.sampleRow u codes bad j)) (·.chan k) (fun t j hj => ?_) s
  have hj := List.mem_range.mp hj
  exact takeChan_chan_ne u _ t _ (show _ + j ≠ _ by omega)

/-- A bank's reference run after the sample. -/
theorem State.sampleUnit_refRun (s : State) (u : MonUnit) (codes bad : List Nat) (dim : BitVec 18) {b : Nat} (hb : b < (s.monShape u).count / 8) :
    (s.sampleUnit u codes bad dim).refRun ((s.monShape u).refBase + b) =
      if bad.contains b then s.refRun ((s.monShape u).refBase + b) + 1 else 0 := by
  obtain ⟨ovr, taint, h⟩ := s.sampleUnit_eq u codes bad dim
  have hchans : ((s.unitSamples u codes bad).foldl (takeChan u (s.monShape u)) s).refRun ((s.monShape u).refBase + b) =
      s.refRun ((s.monShape u).refBase + b) :=
    foldl_untouched _ (fun t : State => t.refRun ((s.monShape u).refBase + b))
      (fun t r _ => takeChan_same (fun t : State => t.refRun ((s.monShape u).refBase + b)) (fun _ _ _ => rfl) (fun _ _ _ => rfl) u _ t r) s
  rw [h, ← hchans]
  refine (State.unitReported_same (fun t => t.refRun ((s.monShape u).refBase + b)) (fun _ _ _ => rfl)
    (fun s e => congrArg (Tab.read 0 · _) (s.raise1_refRuns e)) _ _ _ _ _ _ _).trans ?_
  exact foldl_touched_once _ (fun t : State => t.refRun ((s.monShape u).refBase + b)) (fun n => if bad.contains b then n + 1 else 0) List.nodup_range
    (List.mem_range.mpr hb) (fun t => State.refRun_setRefRun_same _ _ _)
    (fun t c _ hc => State.refRun_setRefRun_ne _ _ _ _ (by omega)) _

/-! ## A channel's sample (R163 to R165, R168) -/

theorem sampleChan_isolated {m : MonShape} {codes bad : List Nat} {old : Nat → Chan} {i : Nat} (h : bitAt m.isolated i = true) :
    (sampleChan m codes bad old i).1 = ⟨0, false, false, 0, 0⟩ := by
  simp [sampleChan, h]

theorem sampleChan_refRun {m : MonShape} {codes bad : List Nat} {old : Nat → Chan} {i : Nat} (h : bitAt m.isolated i = false) :
    (sampleChan m codes bad old i).1.refRun = if bad.contains (i / 8) then (old i).refRun + 1 else 0 := by
  simp [sampleChan, h]

theorem sampleChan_full {m : MonShape} {codes bad : List Nat} {old : Nat → Chan} {i : Nat} (h : bitAt m.isolated i = false)
    (hfull : 0xFFF ≤ codes.getD i 0) : (sampleChan m codes bad old i).1.ovr = true ∧ (sampleChan m codes bad old i).1.clean = false ∧
      (sampleChan m codes bad old i).1.code = 0xFFF ∧ (sampleChan m codes bad old i).1.run = (old i).run + 1 := by
  simp only [sampleChan, h, fullScale, hfull, decide_true]
  exact ⟨rfl, rfl, Nat.min_eq_right hfull, rfl⟩

theorem sampleChan_below {m : MonShape} {codes bad : List Nat} {old : Nat → Chan} {i : Nat} (h : bitAt m.isolated i = false)
    (hlow : codes.getD i 0 < 0xFFF) : (sampleChan m codes bad old i).1.ovr = false ∧
      (sampleChan m codes bad old i).1.code = codes.getD i 0 ∧ (sampleChan m codes bad old i).1.run = 0 ∧
      (bad.contains (i / 8) = true → (sampleChan m codes bad old i).1.clean = false) := by
  have hnot : ¬ 0xFFF ≤ codes.getD i 0 := by omega
  simp only [sampleChan, h, fullScale, hnot, decide_false]
  exact ⟨rfl, Nat.min_eq_left (by omega), rfl, fun hbad => by simp only [hbad]; rfl⟩

theorem State.monShape_isolated (s : State) (p : Fin 16) {ch : Nat} (hch : ch < 40) :
    bitAt (s.monShape (.port p)).isolated ch = s.chanIsolated p.val ch := by
  simp only [State.monShape, bitAt_maskOf, List.mem_filter, List.mem_range, hch, true_and]
  exact Bool.decide_eq_true

/-! ## A sample of the Flume in a window (R261) -/

/-- A sample of the Flume leaves the registers of the Leveller. -/
theorem State.sampleUnit_lvl (s : State) (codes bad : List Nat) (dim : BitVec 18) {g : Field} (hpage : g.page ≠ 0x008)
    (hoff : g.off < 0x010 ∨ 0x020 ≤ g.off) (hg : g.off < 0x1000 ∧ g.lo < 32) (hump : Reg.UMP.FATAL_CNT_EVENTS.key ≠ g.key)
    (hlog : Reg.LOG.DROP_CNT.key ≠ g.key) : (s.sampleUnit .flume codes bad dim).rd g = s.rd g := by
  obtain ⟨ovr, taint, h⟩ := s.sampleUnit_eq .flume codes bad dim
  have hne : ∀ f : Field, f.page = 0x008 → f.off < 0x1000 → f.lo < 32 → f.key ≠ g.key := fun f hf ho hl =>
    Field.key_ne_of_page (hf ▸ hpage.symm) ⟨ho, hl⟩ hg
  have hchan : ∀ t, ∀ r ∈ s.unitSamples .flume codes bad, State.rd (takeChan .flume (s.monShape .flume) t r) g = t.rd g := fun t r hr => by
    obtain ⟨i, hi, rfl⟩ := List.mem_map.mp hr
    have hi : i < 240 := List.mem_range.mp hi
    exact State.rd_wr_ne _ _ (hne _ rfl (show 0x400 + 0x4 * i < 0x1000 by omega) (show 0 < 32 by decide))
  rw [h]
  refine (State.raise_rd _ _ g fun e he => ?_).trans ?_
  · obtain ⟨c, -, rfl⟩ := List.mem_map.mp he
    exact eventFields_key_ne hoff hg hump hlog
  · refine (foldl_untouched _ (State.rd · g) (fun t k hk => State.rd_wr_ne _ _ (hne _ rfl ?_ (show 0 < 32 by decide))) _).trans ?_
    · have hk := List.mem_range.mp hk
      show 0x080 + 0x4 * k < 0x1000
      omega
    · exact (foldl_untouched (takeBank _ bad) (State.rd · g) (fun _ _ _ => rfl) _).trans (foldl_untouched _ (State.rd · g) hchan s)

theorem State.collectMesh_chan (s : State) (k : Nat) : s.collectMesh.chan k = s.chan k := by
  unfold State.collectMesh
  split
  · rfl
  · split <;> rfl

theorem State.collectMesh_cycle (s : State) : s.collectMesh.clk.cycle = s.clk.cycle := by
  unfold State.collectMesh
  split
  · rfl
  · split <;> rfl

theorem State.collectMesh_seats (s : State) : s.collectMesh.seats = s.seats := by
  unfold State.collectMesh
  split
  · rfl
  · split <;> rfl

theorem State.collectMesh_of_window (s : State) {r : BaRun} (h : s.flm.ba = some r) (hstate : s.rd Reg.LVL.STAT_BA_STATE = 1)
    (hwin : s.now < r.windowEnd) : s.collectMesh.flm.ba =
      some { r with samples := r.samples.filter (·.1 != s.now) ++ [(s.now, s.collectMesh.meshRow)] } := by
  have ht : s.collectMesh = { s with flm := { s.flm with
      ba := some { r with samples := r.samples.filter (·.1 != s.now) ++ [(s.now, s.meshRow)] } } } := by
    simp only [State.collectMesh, h, if_pos (And.intro hstate hwin)]
  rw [ht]
  rfl

/-- Settles O31: a unit's channels are what the sample makes of each, and nothing else of the monitors moves. -/
theorem monitorsSample : Obligations.MonitorsSample := by
  have hclk := State.sampleUnit_same State.clk (fun _ _ _ => rfl) State.raise1_clk (fun _ _ _ => rfl) (fun _ _ _ => rfl)
  have hseats := State.sampleUnit_same State.seats (fun _ _ _ => rfl) State.raise1_seats (fun _ _ _ => rfl) (fun _ _ _ => rfl)
  refine ⟨fun s p codes bad dim hrun => ?_, fun s codes bad dim hrun => ?_, fun s r codes bad dim hrun hba hstate hwin => ?_⟩
  · have hchan : ∀ ch < 40, ((s.atCycle 159).sampleUnit (.port p) codes bad dim).chan (chanKey p.val ch) =
        (sampleChan ((s.atCycle 159).monShape (.port p)) codes bad (fun j => s.chan (chanKey p.val 0 + j)) ch).1 := fun ch hch =>
      (s.atCycle 159).sampleUnit_chan (.port p) codes bad dim hch
    have hiso : ∀ ch < 40, bitAt ((s.atCycle 159).monShape (.port p)).isolated ch = s.chanIsolated p.val ch := fun ch hch =>
      (s.atCycle 159).monShape_isolated p hch
    refine ⟨_, congrArg Host.Outcome.next (if_pos hrun), ?_, ?_, fun ch hch h => ?_, fun ch hch h => ?_, fun ch hch h hfull => ?_,
      fun ch hch h hlow => ?_, fun b hb => ?_, fun k hk => ?_⟩
    · exact congrArg ClkState.cycle (hclk _ _ _ _ _)
    · exact hseats _ _ _ _ _
    · rw [hchan ch hch, sampleChan_isolated ((hiso ch hch).trans h)]
    · rw [hchan ch hch, sampleChan_refRun ((hiso ch hch).trans h)]
      rfl
    · rw [hchan ch hch]
      exact sampleChan_full ((hiso ch hch).trans h) hfull
    · rw [hchan ch hch]
      exact sampleChan_below ((hiso ch hch).trans h) hlow
    · exact (s.atCycle 159).sampleUnit_refRun (.port p) codes bad dim (show b < 40 / 8 from hb)
    · exact (s.atCycle 159).sampleUnit_chan_ne (.port p) codes bad dim hk
  · refine ⟨_, congrArg Host.Outcome.next (if_pos hrun), ?_, fun k hk => ?_, ?_⟩
    · exact (State.collectMesh_cycle _).trans (congrArg ClkState.cycle (hclk _ _ _ _ _))
    · exact (State.collectMesh_chan _ k).trans ((s.atCycle 159).sampleUnit_chan_ne .flume codes bad dim (.inl hk))
    · exact (State.collectMesh_seats _).trans (hseats _ _ _ _ _)
  · have hnow : ((s.atCycle 159).sampleUnit .flume codes bad dim).now = s.now := (congrArg ClkState.elapsed (hclk (s.atCycle 159) .flume codes bad dim)).trans rfl
    have hflm : ((s.atCycle 159).sampleUnit .flume codes bad dim).flm = s.flm :=
      State.sampleUnit_same State.flm (fun _ _ _ => rfl) State.raise1_flm (fun _ _ _ => rfl) (fun _ _ _ => rfl) _ _ _ _ _
    have hrd : ((s.atCycle 159).sampleUnit .flume codes bad dim).rd Reg.LVL.STAT_BA_STATE = 1 :=
      ((s.atCycle 159).sampleUnit_lvl codes bad dim (by decide) (by decide) (by decide) (by decide) (by decide)).trans hstate
    refine ⟨_, congrArg Host.Outcome.next (if_pos hrun), ?_⟩
    have h := State.collectMesh_of_window _ ((congrArg FlmState.ba hflm).trans hba) hrd (hnow ▸ hwin)
    rw [hnow] at h
    exact h

end Sys2Proof.Machine
end

section
/-! SUPPORT. The Rowlock (spec section 06): the loop of a seat, lock and loss of lock, SEARCH, withdrawal. -/

namespace Sys2Proof.Machine

/-! ## A seat's key -/

theorem sideNo_lt (x : Side) : sideNo x < 2 := by cases x <;> decide

theorem portOfSeat_idKey (u : SeatId) : portOfSeat (idKey u) = u.port.val := by
  have := sideNo_lt u.side
  have := u.seat.isLt
  unfold portOfSeat idKey seatKey
  omega

theorem sideOfSeat_idKey (u : SeatId) : sideOfSeat (idKey u) = u.side := by
  have := u.seat.isLt
  unfold sideOfSeat idKey seatKey
  cases u.side
  · exact if_pos (by simp only [sideNo]; omega)
  · exact if_neg (by simp only [sideNo]; omega)

/-! ## The loop (R179, R181 to R183) -/

theorem ditherSign_eq_one (n : Nat) : ditherSign n = 1 ↔ n % 2 = 0 := by
  unfold ditherSign
  split <;> simp_all

/-- Outside SEARCH no sweep begins. -/
theorem beginSweep_of_locked {u : Seat} (h : u.state = .locked) : beginSweep u = u :=
  if_neg fun hs => by simp [h] at hs

/-- A seat in LOCKED that coasts only marks that it does. -/
theorem State.demod_coast {s : State} {k : Nat} (hstate : (s.seat k).state = .locked)
    (h : s.mustCoast k = true ∨ (s.chan (seatChanKey k)).clean = false) :
    s.demod k = s.setSeat k { s.seat k with coast := true, hasError := false } := by
  unfold State.demod
  by_cases hc : s.mustCoast k = true
  · exact if_pos hc
  · have hclean := h.resolve_left hc
    simp only [hc, hclean, hstate]
    simp [beginSweep_of_locked]

/-- A seat with this stroke's sample among its last two. -/
def sampled (d : Int) (now code : Nat) (u : Seat) : Seat :=
  if d = 1 then { u with plus := some (now, code) } else { u with minus := some (now, code) }

/-- A seat in LOCKED after an error sample. -/
def lockedStep (u : Seat) (e : Int) (thresh gain : Nat) : Seat :=
  { u with
    error := e
    hasError := true
    coast := false
    lolRun := if thresh < e.natAbs then min (u.lolRun + 1) 4 else 0
    target := u.target + roundShift e gain }

theorem State.demod_locked {s : State} {k c : Nat} (hstate : (s.seat k).state = .locked) (hcoast : s.mustCoast k = false)
    (hclean : (s.chan (seatChanKey k)).clean = true) (hsweep : (s.seat k).sweeping = false) (hquench : s.quenchedSeat k = false)
    (hother : recentSample s.now (if ditherSign s.clk.stroke.toNat = 1 then (s.seat k).minus else (s.seat k).plus) = some c) :
    s.demod k = s.fresh.2.setSeat k (lockedStep (sampled (ditherSign s.clk.stroke.toNat) s.now (s.chan (seatChanKey k)).code (s.seat k))
      (errorSample s.freeCount (ditherSign s.clk.stroke.toNat) (s.chan (seatChanKey k)).code c (s.outEntry k).lockpt)
      (s.rd (Reg.RWL.LOL_THRESH (portOfSeat k))) (s.rd (Reg.RWL.LOOP_GAIN (portOfSeat k)))) := by
  unfold State.demod
  have hsearch : ((s.seat k).state = .search) = False := by simp [hstate]
  simp only [hcoast, hclean, hsearch, hother, hquench, if_false, Bool.false_eq_true, Bool.not_true]
  congr 1
  by_cases hd : ditherSign s.clk.stroke.toNat = 1
  · simp [hd, sampled, lockedStep, runsAfter, hstate, hsweep, beginSweep_of_locked]
  · simp [hd, sampled, lockedStep, runsAfter, hstate, hsweep, beginSweep_of_locked]

theorem sampled_same (d : Int) (now code : Nat) (u : Seat) : (sampled d now code u).target = u.target ∧
    (sampled d now code u).lolRun = u.lolRun ∧ (sampled d now code u).state = u.state := by
  unfold sampled
  split <;> exact ⟨rfl, rfl, rfl⟩

/-- Settles O32: a seat's loop in LOCKED is its step after an error sample, or a coast. -/
theorem rowlockLoop : Obligations.RowlockLoop := by
  refine ⟨fun s u c hrun hstate hcoast hclean hsweep hquench hother => ?_, fun s u hrun hstate hcoast => ?_, fun s u h => ?_,
    fun s u lane hrun hstate hnext hlock hlane => ?_, fun s u hrun hstate hnext hlock hlane => ?_⟩
  · simp only [← ditherSign_eq_one] at hother
    have h := State.demod_locked (s := s.atCycle 319) hstate hcoast hclean hsweep hquench hother
    rw [portOfSeat_idKey] at h
    obtain ⟨htarget, hlol, hst⟩ := sampled_same (ditherSign s.clk.stroke.toNat) s.now (s.chan (seatChanKey (idKey u))).code (s.seat (idKey u))
    refine ⟨_, congrArg Host.Outcome.next ((if_pos (by simp [hrun, hstate, SeatState.runs])).trans h), rfl, ?_, ?_, ?_, ?_, ?_,
      fun k hk => State.seat_setSeat_ne _ _ _ _ (Ne.symm hk), rfl⟩
    · rw [State.seat_setSeat_same]; rfl
    · rw [State.seat_setSeat_same]; exact congrArg (· + _) htarget
    · rw [State.seat_setSeat_same]; simp only [lockedStep]; rw [← hlol]; rfl
    · rw [State.seat_setSeat_same]; rfl
    · rw [State.seat_setSeat_same]; exact hst.trans hstate
  · have h := State.demod_coast (s := s.atCycle 319) hstate hcoast
    refine ⟨_, congrArg Host.Outcome.next ((if_pos (by simp [hrun, hstate, SeatState.runs])).trans h), ?_, ?_, ?_, rfl⟩ <;>
      rw [State.seat_setSeat_same] <;> rfl
  · refine congrArg Host.Outcome.next (if_neg ?_)
    rcases h with h | h | h <;> simp [h, SeatState.runs]
  · refine ⟨_, congrArg Host.Outcome.next (if_pos (by simp [hrun, hstate, hnext, hlock])), ?_, ?_, ?_,
      fun k hk => State.seat_setSeat_ne _ _ _ _ (Ne.symm hk), rfl⟩
    · rw [State.seat_setSeat_same]
      simp [hlane]
    · rw [State.seat_setSeat_same]
      exact hstate
    · rw [State.seat_setSeat_same]
  · refine ⟨_, congrArg Host.Outcome.next (if_pos (by simp [hrun, hstate, hnext, hlock])), ?_, rfl⟩
    rw [State.seat_setSeat_same]
    simp [hlane]

/-- The fields of an event, and a field of an outer page. -/
theorem eventFields_key_ne_of_page {c : ErrCode} {g : Field} (hoff : g.off < 0x010 ∨ 0x020 ≤ g.off) (hg : g.off < 0x1000 ∧ g.lo < 32)
    (hpage : 0x010 ≤ g.page) : ∀ f ∈ eventFields c, f.key ≠ g.key :=
  eventFields_key_ne hoff hg
    (Field.key_ne_of_page (show 0x003 ≠ g.page by omega) (by decide) hg) (Field.key_ne_of_page (show 0x004 ≠ g.page by omega) (by decide) hg)

/-! ## Loss of lock and SEARCH (R183, R190 to R192, R196, R197) -/

theorem State.bump_sameFields (s : State) (f : Field) : sameFields [f] s (s.bump f) := fun _ hg => s.rd_bump_ne (hg f List.mem_cons_self)

theorem State.raise1_seat (s : State) (e : Event) (k : Nat) : (s.raise1 e).seat k = s.seat k :=
  congrArg (Tab.read Seat.reset · k) (s.raise1_seats e)

theorem State.raise1_liveCal (s : State) (e : Event) (k : Nat) : (s.raise1 e).liveCal k = s.liveCal k :=
  congrArg (fun c : CalState => Tab.read LiveCal.reset c.live k) (s.raise1_cal e)

theorem State.laneLeaves_tx {s : State} {k lane : Nat} {act req : LaneAct} {c : LaneCause} (h : sideOfSeat k = .tx) :
    s.laneLeaves k lane act req c = s.laneDue (s.linkOfSeat k) ⟨lane, act, c⟩ := by
  simp only [State.laneLeaves, h]

/-- A loss of lock counted, the seat's visit gone. -/
def State.lockLost (s : State) (u : SeatId) : State := ((s.atCycle 319).bump (Reg.RWL.LOL_CNT u.port.val)).dropVisit (idKey u)

theorem exec_lossOfLock {s : State} {u : SeatId} (hrun : s.running = true)
    (hstate : (s.seat (idKey u)).state = .locked ∨ (s.seat (idKey u)).state = .hotSpare) (hnext : (s.seat (idKey u)).next = .none)
    (hlol : 4 ≤ (s.seat (idKey u)).lolRun) : exec (.lossOfLock u) s = .next (match s.laneOfSeat (idKey u) with
      | .none => ((s.lockLost u).raise1
          ⟨Err.RWL.SPARE_LOST u.port.val, (s.lockLost u).seatInfo (idKey u) 2, (s.lockLost u).seatInfo1 (idKey u)⟩).pend (idKey u) .lost
      | some lane => ((s.lockLost u).laneLeaves (idKey u) lane .drop .dropReq ((s.lockLost u).causeOf (idKey u) .lossOfLock 0)).pend
          (idKey u) .lost) := by
  refine congrArg Host.Outcome.next ((if_pos ?_).trans ((if_pos (by simp [hnext])).trans rfl))
  rcases hstate with h | h <;> simp [hrun, h, hlol]

/-- A SEARCH whose time on its member is up. -/
theorem exec_searchMemberTimeout {s : State} {u : SeatId} (d : List DeltaEntry) (hrun : s.running = true) (hstate : (s.seat (idKey u)).state = .search)
    (hnext : (s.seat (idKey u)).next = .none) (hcount : s.rd (Reg.RWL.SEARCH u.port.val) ≤ (s.seat (idKey u)).count) :
    exec (.searchMemberTimeout u d) s = .next (match s.nextTry (idKey u) with
      | .none => (s.markUnusable (idKey u) (s.seat (idKey u)).member).seatFails (idKey u)
      | some m => (s.markUnusable (idKey u) (s.seat (idKey u)).member).tryMember (idKey u) m d) :=
  congrArg Host.Outcome.next (if_pos (by simp [hrun, hstate, hnext, hcount]))

/-- A seat's part in a RETRY write. -/
def retried (x : Seat) : Seat := if x.state = .failed then { x with next := some .search } else x

/-- The seats of a RETRY write: those named that have failed, and nothing else, go back to SEARCH. -/
theorem State.retrySeats_keeps {α : Type} (get : State → α) (hset : ∀ s k x, get (State.setSeat s k x) = get s) (p : Nat) (side : Side)
    (data : Nat) (s : State) : get (State.retrySeats p side data s) = get s :=
  foldl_untouched _ get (fun t j _ => by dsimp only; split; exacts [hset _ _ _, rfl]) s

theorem State.retrySeats_eq (p : Nat) (side : Side) (data : Nat) (s : State) :
    State.retrySeats p side data s = { s with seats := (State.retrySeats p side data s).seats } := by
  have h := State.retrySeats_keeps (fun t => { t with seats := s.seats }) (fun _ _ _ => rfl) p side data s
  exact (congrArg (fun t : State => { t with seats := (State.retrySeats p side data s).seats }) h :)

theorem State.retrySeats_seat (p : Nat) (side : Side) (data : Nat) (s : State) {j : Nat} (hj : j < 18) :
    (State.retrySeats p side data s).seat (seatKey p side j) =
      if bitAt data j = true then retried (s.seat (seatKey p side j)) else s.seat (seatKey p side j) := by
  have hround : ∀ (t : State) (i : Nat), (if (t.seat (seatKey p side i)).state = .failed then t.pend (seatKey p side i) .search else t).seat
      (seatKey p side j) = if i = j then retried (t.seat (seatKey p side j)) else t.seat (seatKey p side j) := fun t i => by
    by_cases hi : i = j
    · subst hi
      rw [if_pos rfl, retried]
      split
      · exact State.seat_setSeat_same _ _ _
      · rfl
    · rw [if_neg hi]
      split
      · exact State.seat_setSeat_ne _ _ _ _ (by unfold seatKey; omega)
      · rfl
  by_cases hb : bitAt data j = true
  · rw [if_pos hb]
    exact foldl_touched_once _ (fun t : State => t.seat (seatKey p side j)) retried (List.nodup_range.filter _)
      (List.mem_filter.mpr ⟨List.mem_range.mpr hj, hb⟩) (fun t => (hround t j).trans (if_pos rfl))
      (fun t i _ hi => (hround t i).trans (if_neg hi)) s
  · rw [if_neg hb]
    exact foldl_untouched _ (fun t : State => t.seat (seatKey p side j))
      (fun t i hi => (hround t i).trans (if_neg fun h : i = j => hb (h ▸ (mem_setBits.mp hi).2))) s

/-- A RETRY write of a port's seats. -/
theorem exec_seatRetry {s : State} {via : Path} (p : Fin 16) (side : Side) (m : BitVec 18) (hd : s.deaf via = false)
    (hl : s.locked via (0x080 + p.val) = false) : ∃ t, exec (.seatRetry via p side m) s = .next t ∧
      (∀ j < 18, (t.seat (seatKey p.val side j)).next =
        if m.getLsbD j && (s.seat (seatKey p.val side j)).state == .failed then some .search else (s.seat (seatKey p.val side j)).next) ∧
      t = { s with seats := t.seats } := by
  refine ⟨_, congrArg Host.Outcome.next (State.access_of_not_locked m.toNat _ hd ?_ hl), fun j hj => ?_, State.retrySeats_eq _ _ _ _⟩
  · cases side
    · exact (by decide : ∀ p : Fin 16, implemented (0x080 + p.val) 0x054 = true) p
    · exact (by decide : ∀ p : Fin 16, implemented (0x080 + p.val) 0x058 = true) p
  · rw [State.retrySeats_seat _ _ _ _ hj]
    rw [bitAt_eq_testBit, BitVec.testBit_toNat, retried]
    by_cases hb : m.getLsbD j = true <;> by_cases hf : (s.seat (seatKey p.val side j)).state = .failed <;> simp [hb, hf]

/-- A delta list sent moves only the Leveller's lists. -/
theorem State.queueDelta_eq (s : State) {d : List DeltaEntry} (hd : isDelta d = true) : s.queueDelta d = { s with lvl :=
    if s.lvl.queue.length < 8 ∧ s.lvl.senders = [] then { s.lvl with queue := s.lvl.queue ++ [⟨d, [], false⟩] }
    else { s.lvl with senders := s.lvl.senders ++ [⟨d, [], false⟩] } } := by
  unfold State.queueDelta
  rw [if_neg (by simp [hd])]
  split <;> rfl

/-- A SEARCH that goes on with another member. -/
def tried (x : Seat) (m : Nat) (sweep : Bool) (hbias : Int) : Seat :=
  { x with
    nextMember := some m, tried := x.tried + 1, count := 0, swept := sweep, sweeping := sweep, sweepError := .none, lockRun := 0, lolRun := 0,
    target := if sweep then 0 else hbias }

/-- The next member of a SEARCH with its delta list on the way. -/
def State.memberSent (s : State) (k m : Nat) (d : List DeltaEntry) : State :=
  let s := s.startMember k m ((s.seat k).tried + 1)
  { s with lvl := { s.lvl with memberChanged := s.lvl.memberChanged ++ [k] } }.queueDelta d

theorem State.tryMember_eq (s : State) (k m : Nat) (d : List DeltaEntry) : ∃ i j,
    s.tryMember k m d = (s.memberSent k m d).raise1 ⟨Err.RWL.MEMBER_CHANGE (portOfSeat k), i, j⟩ := ⟨_, _, rfl⟩

theorem State.memberSent_seat (s : State) (k m : Nat) {d : List DeltaEntry} (hd : isDelta d = true) : ∃ sweep hbias,
    (s.memberSent k m d).seat k = tried (s.seat k) m sweep hbias := by
  rw [State.memberSent, State.queueDelta_eq _ hd]
  exact ⟨_, _, State.seat_setSeat_same _ _ _⟩

theorem State.memberSent_lvl (s : State) (k m : Nat) {d : List DeltaEntry} (hd : isDelta d = true) : (s.memberSent k m d).lvl =
    if s.lvl.queue.length < 8 ∧ s.lvl.senders = [] then
      { s.lvl with memberChanged := s.lvl.memberChanged ++ [k], queue := s.lvl.queue ++ [⟨d, [], false⟩] }
    else { s.lvl with memberChanged := s.lvl.memberChanged ++ [k], senders := s.lvl.senders ++ [⟨d, [], false⟩] } := by
  rw [State.memberSent, State.queueDelta_eq _ hd]
  rfl

/-- Settles O33: a loss of lock is taken by whether the seat carries a lane; a SEARCH goes on with the next member or fails. -/
theorem lockIsLostAndSought : Obligations.LockIsLostAndSought := by
  refine ⟨fun s u hrun hstate hnext hlol hlane => ?_, fun s u lane hrun hstate hnext hlol hside hlane => ?_, fun s u hlol => ?_,
    fun s u d hrun hstate hnext hcount htried hlane => ?_, fun s u m d hrun hstate hnext hcount hd htried hm => ?_, fun s u d hcount => ?_,
    fun s via p m hd hl => exec_seatRetry p .tx m hd hl, fun s via p m hd hl => exec_seatRetry p .rx m hd hl⟩
  · have ht := exec_lossOfLock hrun (.inr hstate) hnext hlol
    simp only [hlane] at ht
    refine ⟨_, ht, ?_, ?_, ?_, ?_, ?_⟩
    · rw [State.pend, State.seat_setSeat_same]
    · exact State.raise1_shows _ ⟨Err.RWL.SPARE_LOST u.port.val, _, _⟩ (show 4 < 32 by decide)
    · exact State.raise1_lanes _ _
    · exact State.raise1_rd _ _ _ (eventFields_key_ne_of_page (.inr (show 0x020 ≤ 0x060 by decide))
        (show 0x060 < 0x1000 ∧ 0 < 32 by decide) (show 0x010 ≤ 0x080 + u.port.val by omega))
    · exact congrArg ClkState.cycle (State.raise1_clk _ _)
  · have ht := exec_lossOfLock hrun (.inl hstate) hnext hlol
    simp only [hlane, State.laneLeaves_tx ((sideOfSeat_idKey u).trans hside)] at ht
    refine ⟨_, ht, ?_, rfl, ⟨_, congrArg Lanes.due (State.laneSt_setLaneSt_same _ _ _), rfl⟩, State.bump_sameFields s _⟩
    rw [State.pend, State.seat_setSeat_same]
  · refine congrArg Host.Outcome.next (if_neg ?_)
    simp only [Bool.and_eq_true, decide_eq_true_eq]
    omega
  · have ht := exec_searchMemberTimeout d hrun hstate hnext hcount
    simp only [State.nextTry, if_pos htried, State.seatFails] at ht
    have hlane' : ((s.markUnusable (idKey u) (s.seat (idKey u)).member).pend (idKey u) .failed).laneOfSeat (idKey u) = .none := hlane
    simp only [hlane', portOfSeat_idKey] at ht
    refine ⟨_, ht, ?_, ?_, ?_, ?_⟩
    · rw [State.raise1_seat, State.pend, State.seat_setSeat_same]
    · exact State.raise1_shows _ ⟨Err.RWL.FAIL_SPARED u.port.val, _, _⟩ (show 2 < 32 by decide)
    · rw [State.raise1_liveCal]
      exact congrArg LiveCal.timedOut (State.liveCal_setLiveCal_same s _ _)
    · exact State.raise1_lvl _ _
  · have ht := exec_searchMemberTimeout d hrun hstate hnext hcount
    simp only [State.nextTry, if_neg (Nat.not_le.mpr htried), hm] at ht
    obtain ⟨i, j, htry⟩ := (s.markUnusable (idKey u) (s.seat (idKey u)).member).tryMember_eq (idKey u) m d
    obtain ⟨sweep, hbias, hseat⟩ := (s.markUnusable (idKey u) (s.seat (idKey u)).member).memberSent_seat (idKey u) m hd
    have hlvl := (s.markUnusable (idKey u) (s.seat (idKey u)).member).memberSent_lvl (idKey u) m hd
    rw [htry, portOfSeat_idKey] at ht
    refine ⟨_, ht, ?_, ?_, ?_, ?_, State.raise1_shows _ ⟨Err.RWL.MEMBER_CHANGE u.port.val, i, j⟩ (show 1 < 32 by decide), ?_,
      fun hq hs => ?_, fun hq => ?_⟩
    · rw [State.raise1_seat, hseat]; rfl
    · rw [State.raise1_seat, hseat]; rfl
    · rw [State.raise1_seat, hseat]; rfl
    · rw [State.raise1_seat, hseat]; exact hstate
    · rw [State.raise1_lvl, hlvl]
      split <;> exact List.mem_append_right _ List.mem_cons_self
    · rw [State.raise1_lvl, hlvl]
      exact (if_pos (show s.lvl.queue.length < 8 ∧ s.lvl.senders = [] from ⟨hq, hs⟩)) ▸ ⟨rfl, hs⟩
    · rw [State.raise1_lvl, hlvl]
      exact (if_neg (show ¬ (s.lvl.queue.length < 8 ∧ s.lvl.senders = []) from fun h => Nat.not_lt.mpr hq h.1)) ▸ ⟨rfl, rfl⟩
  · refine congrArg Host.Outcome.next (if_neg ?_)
    simp only [Bool.and_eq_true, decide_eq_true_eq]
    omega

/-! ## Withdrawal (R163, R167, R189) -/

/-- A seat withdrawn: out of service at the next cycle 0, its channel's runs over, its visit gone. -/
def State.takenOut (s : State) (k : Nat) : State :=
  ((s.setSeat k { s.seat k with next := some .outOfService, withdrawn := true }).setChan (seatChanKey k)
    { s.chan (seatChanKey k) with run := 0, refRun := 0 }).dropVisit k

/-- The event of a withdrawal whose lane has a spare. -/
def withdrawSpared (k : Nat) : Event := ⟨Err.OPT.WITHDRAW_SPARED (portOfSeat k), withdrawChan k, 0⟩

theorem State.withdraw_spare {s : State} {k : Nat} (hvisit : s.visitOf k = .none) (hlane : s.laneOfSeat k = .none) :
    s.withdraw k = (s.takenOut k).raise1 (withdrawSpared k) := by
  simp only [State.withdraw, hvisit, hlane]
  rfl

/-- A withdrawal in its parts: the seat is taken out, and its class follows by events or by its lane. -/
theorem State.withdraw_cases (s : State) (k : Nat) :
    (∃ e, s.withdraw k = (((s.takenOut k).bump Reg.CAL.FAIL_CNT).raise1 ⟨Err.CAL.VISIT_FAIL, visitInfo k 0, 0⟩).raise1 e) ∨
    s.withdraw k = (s.takenOut k).raise1 (withdrawSpared k) ∨
    (∃ lanes, s.withdraw k = { s.takenOut k with lanes }) := by
  unfold State.withdraw
  dsimp only
  split
  · exact .inl ⟨_, rfl⟩
  · refine .inr ?_
    split
    · exact .inl rfl
    · refine .inr ?_
      split
      · exact ⟨_, rfl⟩
      · split
        · exact ⟨_, rfl⟩
        · unfold State.laneLeaves
          split
          · exact ⟨_, rfl⟩
          · dsimp only
            split <;> exact ⟨_, rfl⟩

/-- What neither a register write, an event nor a lane is of, a withdrawal changes as it takes the seat out. -/
theorem State.withdraw_same {α : Type} (get : State → α) (hbump : ∀ s, get (State.bump s Reg.CAL.FAIL_CNT) = get s)
    (hraise : ∀ s e, get (State.raise1 s e) = get s) (hlanes : ∀ (s : State) l, get { s with lanes := l } = get s) (s : State) (k : Nat) :
    get (s.withdraw k) = get (s.takenOut k) := by
  rcases s.withdraw_cases k with ⟨e, h⟩ | h | ⟨l, h⟩
  · rw [h, hraise, hraise, hbump]
  · rw [h, hraise]
  · rw [h, hlanes]

theorem State.withdraw_seat (s : State) (k j : Nat) : (s.withdraw k).seat j = (s.takenOut k).seat j :=
  State.withdraw_same (State.seat · j) (fun _ => rfl) (State.raise1_seat · · j) (fun _ _ => rfl) s k

theorem State.withdraw_chan (s : State) (k j : Nat) : (s.withdraw k).chan j = (s.takenOut k).chan j :=
  State.withdraw_same (State.chan · j) (fun _ => rfl) (fun s e => congrArg (Tab.read Chan.reset · j) (s.raise1_chans e)) (fun _ _ => rfl) s k

theorem State.withdraw_cal (s : State) (k : Nat) : (s.withdraw k).cal = (s.takenOut k).cal :=
  State.withdraw_same State.cal (fun _ => rfl) State.raise1_cal (fun _ _ => rfl) s k

theorem State.withdraw_clk (s : State) (k : Nat) : (s.withdraw k).clk = s.clk :=
  State.withdraw_same State.clk (fun _ => rfl) State.raise1_clk (fun _ _ => rfl) s k

theorem State.withdraw_safe (s : State) (k : Nat) : (s.withdraw k).safe = s.safe := by
  refine congrArg (· != 0) (State.withdraw_same (State.rd · Reg.UMP.STAT_STATE) (fun _ => State.rd_bump_ne _ (by decide)) (fun s e => ?_)
    (fun _ _ => rfl) s k)
  exact s.raise1_rd e _ (eventFields_key_ne (by decide) (by decide) (by decide) (by decide))

theorem State.visitOf_dropVisit_ne (s : State) {k j : Nat} (h : j ≠ k) : (s.dropVisit k).visitOf j = s.visitOf j := by
  simp only [State.visitOf, State.dropVisit, List.find?_filter]
  congr 1
  funext v
  by_cases hv : idKey v.seat = j <;> simp_all

theorem State.visitOf_dropVisit_same (s : State) (k : Nat) : (s.dropVisit k).visitOf k = .none := by
  simp [State.visitOf, State.dropVisit]

theorem State.takenOut_seat_same (s : State) (k : Nat) :
    (s.takenOut k).seat k = { s.seat k with next := some .outOfService, withdrawn := true } := State.seat_setSeat_same _ _ _

theorem State.takenOut_seat_ne (s : State) {k j : Nat} (h : k ≠ j) : (s.takenOut k).seat j = s.seat j := State.seat_setSeat_ne _ _ _ _ h

theorem State.takenOut_chan_same (s : State) (k : Nat) :
    (s.takenOut k).chan (seatChanKey k) = { s.chan (seatChanKey k) with run := 0, refRun := 0 } := State.chan_setChan_same _ _ _

theorem State.takenOut_chan_ne (s : State) {k j : Nat} (h : seatChanKey k ≠ j) : (s.takenOut k).chan j = s.chan j :=
  State.chan_setChan_ne _ _ _ _ h

/-- A withdrawal leaves whether another seat may be withdrawn. -/
theorem State.withdraw_mayWithdraw (s : State) {k j : Nat} (h : k ≠ j) : (s.withdraw k).mayWithdraw j = s.mayWithdraw j := by
  have hvisit : (s.withdraw k).visitOf j = s.visitOf j := by
    rw [State.visitOf, s.withdraw_cal k]
    exact (State.visitOf_dropVisit_ne _ h.symm).trans rfl
  simp only [State.mayWithdraw, s.withdraw_safe, hvisit, s.withdraw_seat, s.takenOut_seat_ne h]

/-- The seats of a bank have channels of their own. -/
theorem bankSeats_chans : ∀ (p : Fin 16) (b : Fin 5), ((bankSeats p.val b.val).map seatChanKey).Nodup := by decide +kernel

/-- A loop's round of one entry, with what holds before it and what it makes hold. -/
theorem foldl_at {σ α : Type} (f : σ → α → σ) {pre post : σ → Prop} {l : List α} (hl : l.Nodup) {a : α} (ha : a ∈ l)
    (hbefore : ∀ s, ∀ b ∈ l, b ≠ a → pre s → pre (f s b)) (hat : ∀ s, pre s → post (f s a))
    (hafter : ∀ s, ∀ b ∈ l, b ≠ a → post s → post (f s b)) {s : σ} (h : pre s) : post (l.foldl f s) := by
  obtain ⟨before, after, rfl⟩ := List.append_of_mem ha
  obtain ⟨-, hnodup, hdisjoint⟩ := List.nodup_append'.1 hl
  rw [List.foldl_append, List.foldl_cons]
  refine List.foldlRecOn after f (hat _ (List.foldlRecOn before f h fun s hs b hb => ?_)) fun s hs b hb => ?_
  · exact hbefore s b (by simp [hb]) (fun hba => hdisjoint hb (by simp [hba])) hs
  · exact hafter s b (by simp [hb]) (fun hba => (List.nodup_cons.mp hnodup).1 (hba ▸ hb)) hs

/-- One seat of a bank whose reference is bad. -/
def State.bankRound (s : State) (k : Nat) : State :=
  if s.mayWithdraw k && decide (64 ≤ (s.chan (seatChanKey k)).refRun) then s.withdraw k else s

theorem State.bankRound_pos {s : State} {k : Nat} (hmay : s.mayWithdraw k = true) (hrun : 64 ≤ (s.chan (seatChanKey k)).refRun) :
    s.bankRound k = s.withdraw k := if_pos (by simp [hmay, hrun])

theorem State.bankRound_neg {s : State} {k : Nat} (hrun : (s.chan (seatChanKey k)).refRun < 64) : s.bankRound k = s :=
  if_neg (by simp [hrun])

theorem State.bankRound_seat_ne (s : State) {k j : Nat} (h : k ≠ j) : (s.bankRound k).seat j = s.seat j := by
  unfold State.bankRound
  split
  · rw [s.withdraw_seat, s.takenOut_seat_ne h]
  · rfl

theorem State.bankRound_chan_ne (s : State) {k j : Nat} (h : seatChanKey k ≠ j) : (s.bankRound k).chan j = s.chan j := by
  unfold State.bankRound
  split
  · rw [s.withdraw_chan, s.takenOut_chan_ne h]
  · rfl

theorem State.bankRound_mayWithdraw_ne (s : State) {k j : Nat} (h : k ≠ j) : (s.bankRound k).mayWithdraw j = s.mayWithdraw j := by
  unfold State.bankRound
  split
  · exact s.withdraw_mayWithdraw h
  · rfl

theorem State.bankRound_clk (s : State) (k : Nat) : (s.bankRound k).clk = s.clk := by
  unfold State.bankRound
  split
  · exact s.withdraw_clk k
  · rfl

/-- Settles O34: a withdrawal takes its seat out, and only the seat and its channel. -/
theorem seatsAreWithdrawn : Obligations.SeatsAreWithdrawn := by
  refine ⟨fun s u hrun hmay hchan hvisit hlane => ?_, fun s u v lane hrun hmay hchan hvisit hstate hlane => ?_, fun s u hchan => ?_,
    fun s p b hrun hb href => ?_, fun s u hrun hiso hstate hnext hretry hsince => ?_, fun s u hretry => ?_⟩
  · have ht := State.withdraw_spare (s := s.atCycle 159) hvisit hlane
    rw [withdrawSpared, portOfSeat_idKey] at ht
    refine ⟨_, congrArg Host.Outcome.next ((if_pos (by simp [hrun, hmay, hchan])).trans ht), ?_, ?_, ?_, ?_, ?_, ?_, ?_⟩
    · rw [State.raise1_seat, State.takenOut_seat_same]
    · rw [State.raise1_seat, State.takenOut_seat_same]
    · rw [State.chan, State.raise1_chans]
      exact congrArg Chan.run (State.takenOut_chan_same (s.atCycle 159) _)
    · rw [State.chan, State.raise1_chans]
      exact congrArg Chan.refRun (State.takenOut_chan_same (s.atCycle 159) _)
    · exact State.raise1_shows _ ⟨Err.OPT.WITHDRAW_SPARED u.port.val, _, _⟩ (show 1 < 32 by decide)
    · exact State.raise1_lanes _ _
    · exact State.raise1_sameFields ((s.atCycle 159).takenOut (idKey u)) ⟨Err.OPT.WITHDRAW_SPARED u.port.val, _, _⟩
  · have hwaits : ∃ lanes, (s.atCycle 159).withdraw (idKey u) = { (s.atCycle 159).takenOut (idKey u) with lanes } := by
      have hv : (s.atCycle 159).visitOf (idKey u) = some v := hvisit
      have hl : (s.atCycle 159).laneOfSeat (idKey u) = some lane := hlane
      have hs : (((s.atCycle 159).seat (idKey u)).state == .outOfService) = false := by simpa using hstate
      simp only [State.withdraw, hv, hs, hl, Option.isSome_some, if_true]
      split <;> exact ⟨_, rfl⟩
    obtain ⟨lanes, ht⟩ := hwaits
    refine ⟨_, congrArg Host.Outcome.next ((if_pos (by simp [hrun, hmay, hchan])).trans ht), State.visitOf_dropVisit_same _ _, ?_, ?_, rfl, rfl⟩
    · exact congrArg Seat.next (State.takenOut_seat_same (s.atCycle 159) (idKey u))
    · exact congrArg Seat.withdrawn (State.takenOut_seat_same (s.atCycle 159) (idKey u))
  · exact congrArg Host.Outcome.next (if_neg (by simp [hchan]))
  · have hchans := bankSeats_chans p ⟨b, hb⟩
    have hnodup := hchans.of_map
    have hchan_ne : ∀ j ∈ bankSeats p.val b, ∀ k ∈ bankSeats p.val b, j ≠ k → seatChanKey j ≠ seatChanKey k := fun j hj k hk hjk h =>
      hjk (List.inj_on_of_nodup_map hchans hj hk h)
    refine ⟨(bankSeats p.val b).foldl State.bankRound (s.atCycle 159), congrArg Host.Outcome.next (if_pos (by simp [hrun, hb, href])), ?_,
      fun k hk hmay hrun => ?_, fun k hk hrun => ?_, fun k hk => ?_⟩
    · exact congrArg ClkState.cycle (foldl_untouched State.bankRound State.clk (fun t k _ => t.bankRound_clk k) _)
    · refine foldl_at State.bankRound (pre := fun t => t.mayWithdraw k = true ∧ 64 ≤ (t.chan (seatChanKey k)).refRun)
        (post := fun t => (t.seat k).withdrawn = true ∧ (t.seat k).next = some .outOfService) hnodup hk (fun t j hj hjk ht => ?_) (fun t ht => ?_)
        (fun t j _ hjk ht => ?_) ⟨hmay, hrun⟩
      · rw [t.bankRound_mayWithdraw_ne hjk, t.bankRound_chan_ne (hchan_ne j hj k hk hjk)]
        exact ht
      · rw [State.bankRound_pos ht.1 ht.2, t.withdraw_seat, t.takenOut_seat_same]
        exact ⟨rfl, rfl⟩
      · rw [t.bankRound_seat_ne hjk]
        exact ht
    · refine (List.foldlRecOn (motive := fun t : State => (t.chan (seatChanKey k)).refRun < 64 ∧ t.seat k = s.seat k) _ State.bankRound
        (b := s.atCycle 159) ⟨hrun, rfl⟩ fun t ht j hj => ?_).2
      by_cases hjk : j = k
      · rw [hjk, State.bankRound_neg ht.1]
        exact ht
      · rw [t.bankRound_chan_ne (hchan_ne j hj k hk hjk), t.bankRound_seat_ne hjk]
        exact ht
    · exact foldl_untouched State.bankRound (State.seat · k) (fun t j hj => t.bankRound_seat_ne fun h => hk (h ▸ hj)) _
  · refine ⟨_, congrArg Host.Outcome.next (if_pos (by simp [hrun, hiso, hstate, hnext, hretry, hsince])), ?_,
      fun k hk => State.seat_setSeat_ne _ _ _ _ (Ne.symm hk), rfl⟩
    rw [State.pend, State.seat_setSeat_same]
  · exact congrArg Host.Outcome.next (if_neg (by simp [hretry]))

end Sys2Proof.Machine
end

section
/-! SUPPORT. Drivers, dark idle, the Finish and lane operations (spec sections 02, 06). -/

namespace Sys2Proof.Machine

/-! ## Parts kept -/

/-- What moves no clock keeps the cycle. -/
theorem State.cycle_of_still {s t : State} (h : t.still = s.still) : t.clk.cycle = s.clk.cycle :=
  congrArg (fun x : Fuses × List Instr × Bool × Tap × Bool × BitVec 48 × Nat × Nat => x.2.2.2.2.2.2.2) h

/-- The seats and the ports' lanes. -/
def State.rowlock (s : State) : Tab Seat × Tab Lanes := (s.seats, s.lanes)

theorem State.startPause_rowlock (s : State) (p bit reason : Nat) : (s.startPause p bit reason).rowlock = s.rowlock := by
  unfold State.startPause State.freeze
  dsimp only
  split
  · rfl
  · split <;> rfl

/-- The pauses of a list of ports, those with a link that is up. -/
theorem startPauses_rowlock (why : Nat → Nat) (l : List Nat) (s : State) :
    (l.foldl (fun s m => if s.linkUp m then s.startPause m 1 (why m) else s) s).rowlock = s.rowlock := by
  refine foldl_untouched _ State.rowlock (fun t m _ => ?_) s
  split
  · exact t.startPause_rowlock _ _ _
  · rfl

theorem State.enterFans_rowlock (s : State) : s.enterFans.rowlock = s.rowlock := by
  refine foldl_untouched _ State.rowlock (fun t k _ => ?_) s
  dsimp only
  split
  · exact startPauses_rowlock (fun _ => 2) (t.fanMembers k) (t.fanTo k 3)
  · rfl

theorem State.announce_rowlock (s : State) (c : Change) (rest : List Change) : (s.announce c rest).rowlock = s.rowlock := by
  unfold State.announce
  exact (startPauses_rowlock _ _ _).trans rfl

theorem State.flumeFinish_rowlock (s : State) : s.flumeFinish.rowlock = s.rowlock := by
  unfold State.flumeFinish
  split
  · rfl
  · dsimp only
    split
    · exact s.enterFans_rowlock
    · split
      · exact (State.announce_rowlock _ _ _).trans s.enterFans_rowlock
      · exact s.enterFans_rowlock

/-! ## Dark idle (R187) -/

/-- A port's step of dark idle. -/
def State.darkRound (s : State) (p : Nat) : State :=
  if (s.laneSt p).darkNext ≤ s.now then
    s.setLaneSt p { s.laneSt p with
      dark := min ((s.laneSt p).dark + s.rd Reg.WEI.DARK_RAMP_SIXTEENTHS) 16, darkNext := s.now + s.rd Reg.WEI.DARK_RAMP_STROKES }
  else s

theorem State.darkRound_eq (s : State) (p : Nat) : ∃ lanes, s.darkRound p = { s with lanes } := by
  unfold State.darkRound
  split
  · exact ⟨_, rfl⟩
  · exact ⟨_, rfl⟩

theorem State.darkRound_ne (s : State) {p q : Nat} (h : p ≠ q) : (s.darkRound p).laneSt q = s.laneSt q := by
  unfold State.darkRound
  split
  · exact State.laneSt_setLaneSt_ne _ _ _ _ h
  · rfl

theorem State.darkRound_of_lt {s : State} {p : Nat} (h : s.now < (s.laneSt p).darkNext) : s.darkRound p = s :=
  if_neg (Nat.not_le.mpr h)

theorem State.darkRound_frame (s : State) (p : Nat) : (s.darkRound p).regs = s.regs ∧ (s.darkRound p).clk = s.clk := by
  obtain ⟨lanes, h⟩ := s.darkRound_eq p
  rw [h]
  exact ⟨rfl, rfl⟩

theorem State.darkStep_eq (s : State) : s.darkStep = (setBits 16 (s.rd Reg.WEI.IDLE_DARK)).foldl State.darkRound s := rfl

theorem nodup_setBits (n v : Nat) : (setBits n v).Nodup := List.nodup_range.filter _

theorem State.darkStep_due (s : State) {p : Nat} (hp : p < 16) (hbit : bitAt (s.rd Reg.WEI.IDLE_DARK) p = true)
    (h : (s.laneSt p).darkNext ≤ s.now) : s.darkStep.laneSt p = { s.laneSt p with
      dark := min ((s.laneSt p).dark + s.rd Reg.WEI.DARK_RAMP_SIXTEENTHS) 16, darkNext := s.now + s.rd Reg.WEI.DARK_RAMP_STROKES } := by
  rw [State.darkStep_eq]
  refine foldl_at State.darkRound (pre := fun t => t.regs = s.regs ∧ t.clk = s.clk ∧ t.laneSt p = s.laneSt p)
    (post := fun t => t.laneSt p = _) (nodup_setBits _ _) (mem_setBits.mpr ⟨hp, hbit⟩) (fun t q _ hq ht => ?_) (fun t ht => ?_)
    (fun t q _ hq ht => (t.darkRound_ne hq).trans ht) ⟨rfl, rfl, rfl⟩
  · obtain ⟨hregs, hclk, hlane⟩ := ht
    exact ⟨(t.darkRound_frame q).1.trans hregs, (t.darkRound_frame q).2.trans hclk, (t.darkRound_ne hq).trans hlane⟩
  · obtain ⟨hregs, hclk, hlane⟩ := ht
    have hnow : t.now = s.now := congrArg ClkState.elapsed hclk
    have hrd : ∀ g, t.rd g = s.rd g := fun g => by rw [State.rd, hregs]; rfl
    rw [State.darkRound, if_pos (by rw [hlane, hnow]; exact h), State.laneSt_setLaneSt_same, hlane, hnow, hrd, hrd]

theorem State.darkStep_waiting (s : State) {p : Nat} (h : s.now < (s.laneSt p).darkNext) : s.darkStep.laneSt p = s.laneSt p := by
  refine (List.foldlRecOn (motive := fun t : State => t.clk = s.clk ∧ t.laneSt p = s.laneSt p) _ State.darkRound (b := s) ⟨rfl, rfl⟩
    fun t ht q _ => ?_).2
  obtain ⟨hclk, hlane⟩ := ht
  refine ⟨(t.darkRound_frame q).2.trans hclk, ?_⟩
  by_cases hq : q = p
  · subst hq
    rw [State.darkRound_of_lt (by rw [hlane, State.now, hclk]; exact h), hlane]
  · rw [t.darkRound_ne hq, hlane]

theorem State.darkStep_other (s : State) {p : Nat} (h : bitAt (s.rd Reg.WEI.IDLE_DARK) p = false) : s.darkStep.laneSt p = s.laneSt p :=
  foldl_untouched State.darkRound (State.laneSt · p) (fun t q hq => t.darkRound_ne fun hqp => by
    rw [hqp] at hq
    simp [(mem_setBits.mp hq).2] at h) s

/-- A port's first step of a ramp that a write begins. -/
def State.rampBegun (s : State) (first p : Nat) : State :=
  s.setLaneSt p { s.laneSt p with darkNext := first + s.rd Reg.WEI.DARK_RAMP_STROKES - 1 }

theorem State.wrIdleDark_eq (s : State) (d : Nat) : State.wrIdleDark d s =
    ((setBits 16 (d % 2 ^ 16)).filter fun p => !bitAt (s.rd Reg.WEI.IDLE_DARK) p).foldl
      (fun t p => t.rampBegun (if s.clk.cycle < 960 then s.now else s.now + 1) p) (s.wr Reg.WEI.IDLE_DARK (d % 2 ^ 16)) := by
  have hbits : bits d 15 0 = d % 2 ^ 16 := by simp [bits]
  have hw : s.writeFields 0x013 0x050 d = s.wr Reg.WEI.IDLE_DARK (d % 2 ^ 16) := by
    rw [← hbits]
    exact s.writeFields_rw (r := ⟨15, 0, .rw, 0, 0, 65535⟩) (by decide) rfl (by decide) ⟨Nat.zero_le _, by dsimp only; omega⟩
  have hrd : (s.wr Reg.WEI.IDLE_DARK (d % 2 ^ 16)).rd Reg.WEI.IDLE_DARK = d % 2 ^ 16 := (State.rd_wr_same _ _ _).trans (Nat.mod_mod _ _)
  simp only [State.wrIdleDark, hw, hrd]
  rfl

theorem State.rampBegun_ne (s : State) (first : Nat) {p q : Nat} (h : p ≠ q) : (s.rampBegun first p).laneSt q = s.laneSt q :=
  State.laneSt_setLaneSt_ne _ _ _ _ h

/-- What the lanes are no part of, the ramps' beginnings leave. -/
theorem rampsBegun_same {α : Type} (get : State → α) (hlanes : ∀ (s : State) l, get { s with lanes := l } = get s) (first : Nat) (l : List Nat)
    (s : State) : get (l.foldl (fun t p => t.rampBegun first p) s) = get s := foldl_untouched _ get (fun _ _ _ => hlanes _ _) s

theorem exec_idleDarkWrite {s : State} {via : Path} (d : Word) (hd : s.deaf via = false) (hl : s.locked via 0x013 = false) :
    exec (.idleDarkWrite via d) s = .next (State.wrIdleDark d.toNat s) :=
  congrArg Host.Outcome.next (State.access_of_not_locked d.toNat State.wrIdleDark hd (by decide) hl)

theorem State.wrIdleDark_dark (s : State) (d p : Nat) : ((State.wrIdleDark d s).laneSt p).dark = (s.laneSt p).dark := by
  rw [State.wrIdleDark_eq]
  refine foldl_untouched _ (fun t : State => (t.laneSt p).dark) (fun t q _ => ?_) _
  by_cases h : q = p
  · subst h
    rw [State.rampBegun, State.laneSt_setLaneSt_same]
  · rw [t.rampBegun_ne _ h]

theorem State.wrIdleDark_begins (s : State) (d : Word) {p : Nat} (hp : p < 16) (hwas : bitAt (s.rd Reg.WEI.IDLE_DARK) p = false)
    (hbit : d.getLsbD p = true) : ((State.wrIdleDark d.toNat s).laneSt p).darkNext =
      (if s.clk.cycle < 960 then s.now else s.now + 1) + s.rd Reg.WEI.DARK_RAMP_STROKES - 1 := by
  have hmem : p ∈ (setBits 16 (d.toNat % 2 ^ 16)).filter fun p => !bitAt (s.rd Reg.WEI.IDLE_DARK) p :=
    List.mem_filter.mpr ⟨mem_setBits.mpr ⟨hp, by rw [bitAt_mod _ _ _ hp, bitAt_toNat, hbit]⟩, by simp [hwas]⟩
  rw [State.wrIdleDark_eq]
  refine foldl_at (fun t q => State.rampBegun t _ q) (pre := fun t : State => t.rd Reg.WEI.DARK_RAMP_STROKES = s.rd Reg.WEI.DARK_RAMP_STROKES)
    (post := fun t : State => (t.laneSt p).darkNext = _) ((nodup_setBits _ _).filter _) hmem (fun t q _ _ ht => ht) (fun t ht => ?_)
    (fun t q _ hq ht => ?_) (State.rd_wr_ne (f := Reg.WEI.IDLE_DARK) _ _ (by decide))
  · rw [State.rampBegun, State.laneSt_setLaneSt_same, ht]
  · rw [t.rampBegun_ne _ hq, ht]

theorem State.wrIdleDark_other (s : State) (d : Word) {p : Nat} (hp : p < 16)
    (h : bitAt (s.rd Reg.WEI.IDLE_DARK) p = true ∨ d.getLsbD p = false) : (State.wrIdleDark d.toNat s).laneSt p = s.laneSt p := by
  rw [State.wrIdleDark_eq]
  refine foldl_untouched _ (State.laneSt · p) (fun t q hq => t.rampBegun_ne _ fun hqp => ?_) _
  obtain ⟨hset, hwas⟩ := List.mem_filter.mp hq
  have hbit := (mem_setBits.mp hset).2
  rw [hqp, bitAt_mod _ _ _ hp, bitAt_toNat] at hbit
  rw [hqp] at hwas
  rcases h with h | h
  · simp [h] at hwas
  · simp [h] at hbit

/-! ## The Finish (R36, R188) -/

theorem Tab.read_of_not_mem {α : Type} (d : α) (t : Tab α) {k : Nat} (h : k ∉ t.map (·.1)) : Tab.read d t k = d := by
  induction t with
  | nil => rfl
  | cons e t ih =>
    obtain ⟨j, v⟩ := e
    rw [List.map_cons, List.mem_cons, not_or] at h
    exact (if_neg h.1).trans (ih h.2)

/-- A seat's committed values gone live. -/
def finished (x : Seat) : Seat :=
  { x with code := x.shadow.getD x.code, shadow := .none, member := x.nextMember.getD x.member, nextMember := .none }

theorem finished_finished (x : Seat) : finished (finished x) = finished x := rfl

/-- Every seat of the table goes live, and so do the others, which are as at reset. -/
theorem State.finishSeats (s : State) (k : Nat) :
    ((s.seats.map (·.1)).foldl (fun t j => t.setSeat j (finished (t.seat j))) s).seat k = finished (s.seat k) := by
  have hfold : ∀ (l : List Nat) (t : State), (l.foldl (fun t j => t.setSeat j (finished (t.seat j))) t).seat k =
      if k ∈ l then finished (t.seat k) else t.seat k := by
    intro l
    induction l with
    | nil => exact fun t => rfl
    | cons j l ih =>
      intro t
      rw [List.foldl_cons, ih]
      by_cases hj : j = k
      · subst hj
        simp [finished_finished]
      · simp [State.seat_setSeat_ne _ _ _ _ hj, Ne.symm hj]
  rw [hfold]
  split
  · rfl
  · rename_i hk
    rw [State.seat, Tab.read_of_not_mem _ _ hk]
    rfl

/-- A seat without its target, which the feedforward moves. -/
def untargeted (x : Seat) : Seat := { x with target := 0 }

theorem State.lvlFinish_seat (s : State) (k : Nat) : s.lvlFinish.seat k = finished (s.seat k) := by
  unfold State.lvlFinish
  dsimp only
  split
  · exact s.finishSeats k
  · exact s.finishSeats k

theorem State.lvlFinish_regs (s : State) : s.lvlFinish.regs = s.regs := by
  unfold State.lvlFinish
  dsimp only
  split
  · exact foldl_untouched (fun t j => t.setSeat j (finished (t.seat j))) State.regs (fun _ _ _ => rfl) s
  · exact foldl_untouched (fun t j => t.setSeat j (finished (t.seat j))) State.regs (fun _ _ _ => rfl) s

/-- A port's level back at 0. -/
def State.darkCleared (s : State) (p : Nat) : State := s.setLaneSt p { s.laneSt p with dark := 0 }

theorem State.darkFinish_eq (s : State) : s.darkFinish =
    ((List.range 16).filter fun p => !bitAt (s.rd Reg.WEI.IDLE_DARK) p).foldl State.darkCleared s := rfl

theorem State.darkFinish_same {α : Type} (get : State → α) (hset : ∀ s p l, get (State.setLaneSt s p l) = get s) (s : State) :
    get s.darkFinish = get s := by
  rw [State.darkFinish_eq]
  exact foldl_untouched State.darkCleared get (fun _ _ _ => hset _ _ _) s

theorem State.darkFinish_dark (s : State) {p : Nat} (hp : p < 16) (h : bitAt (s.rd Reg.WEI.IDLE_DARK) p = false) :
    (s.darkFinish.laneSt p).dark = 0 := by
  rw [State.darkFinish_eq]
  exact foldl_touched_once State.darkCleared (fun t : State => (t.laneSt p).dark) (fun _ => 0)
    (List.nodup_range.filter _) (List.mem_filter.mpr ⟨List.mem_range.mpr hp, by simp [h]⟩)
    (fun t => congrArg Lanes.dark (State.laneSt_setLaneSt_same _ _ _))
    (fun t q _ hq => congrArg Lanes.dark (State.laneSt_setLaneSt_ne _ _ _ _ hq)) s

/-- One seat's feedforward. -/
def State.fedForward (s : State) (k : Nat) : State :=
  s.fresh.2.setSeat k { s.fresh.2.seat k with target := (s.fresh.2.seat k).target + Config.feedforward s.freeCount }

theorem State.fedForward_seat (s : State) (j k : Nat) : untargeted ((s.fedForward j).seat k) = untargeted (s.seat k) := by
  by_cases h : j = k
  · subst h
    rw [State.fedForward, State.seat_setSeat_same]
    rfl
  · rw [State.fedForward, State.seat_setSeat_ne _ _ _ _ h]
    rfl

theorem State.addFeedforward_seat (s : State) (p k : Nat) : untargeted ((s.addFeedforward p).seat k) = untargeted (s.seat k) := by
  unfold State.addFeedforward
  dsimp only
  split
  · rfl
  · exact foldl_untouched State.fedForward (fun t => untargeted (t.seat k)) (fun t j _ => t.fedForward_seat j k) s

theorem State.addFeedforward_dark (s : State) (p q : Nat) : ((s.addFeedforward p).laneSt q).dark = (s.laneSt q).dark := by
  unfold State.addFeedforward
  dsimp only
  split
  · rfl
  · refine Eq.trans ?_ (foldl_untouched State.fedForward (fun t => (t.laneSt q).dark) (fun _ _ _ => rfl)
      s (l := ((s.laneSt p).txMap.filter (· < 18)).map (s.txSeat p)))
    by_cases h : p = q
    · subst h
      exact (congrArg Lanes.dark (State.laneSt_setLaneSt_same _ _ _)).trans rfl
    · exact congrArg Lanes.dark (State.laneSt_setLaneSt_ne _ _ _ _ h)

/-- The Finish's state. -/
def State.wentLive (s : State) : State :=
  ((List.range 16).foldl State.addFeedforward (s.atCycle 960).lvlFinish.latchOutputs.darkFinish).flumeFinish

theorem State.flumeFinish_seat (s : State) (k : Nat) : s.flumeFinish.seat k = s.seat k :=
  congrArg (fun x : Tab Seat × Tab Lanes => Tab.read Seat.reset x.1 k) s.flumeFinish_rowlock

theorem State.flumeFinish_laneSt (s : State) (p : Nat) : s.flumeFinish.laneSt p = s.laneSt p :=
  congrArg (fun x : Tab Seat × Tab Lanes => Tab.read Lanes.reset x.2 p) s.flumeFinish_rowlock

theorem feedforward_seat (l : List Nat) (k : Nat) (s : State) :
    untargeted ((l.foldl State.addFeedforward s).seat k) = untargeted (s.seat k) :=
  foldl_untouched State.addFeedforward (fun t => untargeted (t.seat k)) (fun t p _ => t.addFeedforward_seat p k) s

theorem feedforward_dark (l : List Nat) (p : Nat) (s : State) : ((l.foldl State.addFeedforward s).laneSt p).dark = (s.laneSt p).dark :=
  foldl_untouched State.addFeedforward (fun t => (t.laneSt p).dark) (fun t q _ => t.addFeedforward_dark q p) s

theorem feedforward_cycle (l : List Nat) (s : State) : (l.foldl State.addFeedforward s).clk.cycle = s.clk.cycle :=
  foldl_untouched State.addFeedforward (fun t => t.clk.cycle) (fun t p _ => State.cycle_of_still (t.addFeedforward_still p)) s

theorem State.wentLive_seat (s : State) (k : Nat) : untargeted (s.wentLive.seat k) = untargeted (finished (s.seat k)) := by
  rw [State.wentLive, State.flumeFinish_seat, feedforward_seat, State.darkFinish_same (State.seat · k) (fun _ _ _ => rfl)]
  exact congrArg untargeted ((s.atCycle 960).lvlFinish_seat k)

/-- A seat whose committed values are live. -/
theorem finished_parts {x y : Seat} (h : untargeted x = untargeted (finished y)) : x.code = y.shadow.getD y.code ∧ x.shadow = .none ∧
    x.member = y.nextMember.getD y.member ∧ x.nextMember = .none :=
  ⟨(congrArg Seat.code h :), (congrArg Seat.shadow h :), (congrArg Seat.member h :), (congrArg Seat.nextMember h :)⟩

theorem State.wentLive_dark (s : State) {p : Nat} (hp : p < 16) (h : bitAt (s.rd Reg.WEI.IDLE_DARK) p = false) :
    (s.wentLive.laneSt p).dark = 0 := by
  rw [State.wentLive, State.flumeFinish_laneSt, feedforward_dark]
  refine State.darkFinish_dark _ hp ?_
  have hregs : (s.atCycle 960).lvlFinish.latchOutputs.regs = s.regs := (s.atCycle 960).lvlFinish_regs
  rw [State.rd, hregs]
  exact h

theorem State.wentLive_cycle (s : State) : s.wentLive.clk.cycle = 960 := by
  rw [State.wentLive, State.cycle_of_still (State.flumeFinish_still _), feedforward_cycle,
    State.darkFinish_same (fun t => t.clk.cycle) (fun _ _ _ => rfl)]
  exact State.cycle_of_still (s.atCycle 960).lvlFinish_still

/-! ## Lane operations (R196, R296) -/

/-- The operations due on a port, which none of the moves below touches. -/
def State.dueOn (p : Nat) (s : State) : List LaneOp := (s.laneSt p).due

theorem State.setLaneSt_dueOn (s : State) {p : Nat} {l : Lanes} (h : l.due = (s.laneSt p).due) : (s.setLaneSt p l).dueOn p = s.dueOn p :=
  (congrArg Lanes.due (State.laneSt_setLaneSt_same _ _ _)).trans h

theorem State.outcome_lanes (s : State) (p : Nat) (c : LaneCause) (spared : Bool) : (s.outcome p c spared).lanes = s.lanes :=
  foldl_untouched _ State.lanes (fun t e _ => t.raiseAt_lanes _ e) s

theorem State.outcome_dueOn (s : State) (p q : Nat) (c : LaneCause) (spared : Bool) : (s.outcome p c spared).dueOn q = s.dueOn q := by
  rw [State.dueOn, State.laneSt, State.outcome_lanes]
  rfl

theorem State.assignNext_dueOn (s : State) (p lane seat : Nat) : (s.assignNext p lane seat).dueOn p = s.dueOn p := s.setLaneSt_dueOn rfl

theorem State.addMissing_dueOn (s : State) (p : Nat) (m : Missing) : (s.addMissing p m).dueOn p = s.dueOn p := s.setLaneSt_dueOn rfl

theorem State.assign_dueOn (s : State) (p : Nat) (side : Side) (lane seat : Nat) : (s.assign p side lane seat).dueOn p = s.dueOn p := by
  cases side <;> exact s.setLaneSt_dueOn rfl

theorem State.issueDown_dueOn (s : State) (p : Nat) (o : LaneOp) : (s.issueDown p o).dueOn p = s.dueOn p := by
  unfold State.issueDown
  dsimp only
  split
  · split
    · split
      · rw [State.outcome_dueOn, State.assignNext_dueOn]
      · rw [State.outcome_dueOn, State.addMissing_dueOn, State.assignNext_dueOn]
        split <;> rfl
    · rfl
  · split
    · split
      · rw [State.outcome_dueOn, State.assignNext_dueOn]
      · rw [State.outcome_dueOn, State.addMissing_dueOn, State.assignNext_dueOn]
        split <;> rfl
    · rfl
  · split
    · exact s.assignNext_dueOn _ _ _
    · rfl
  · split
    · rw [State.outcome_dueOn, State.assign_dueOn]
    · rfl
  · split
    · rw [State.outcome_dueOn, State.assign_dueOn]
    · rfl

theorem State.chooseSpare_dueOn (s : State) (p : Nat) (m : Missing) : (s.chooseSpare p m).dueOn p = s.dueOn p := by
  unfold State.chooseSpare
  dsimp only
  split
  · split
    · exact s.setLaneSt_dueOn rfl
    · split
      · exact (State.assignNext_dueOn _ _ _ _).trans (s.setLaneSt_dueOn rfl)
      · exact (State.outcome_dueOn _ _ _ _ _).trans ((State.assignNext_dueOn _ _ _ _).trans (s.setLaneSt_dueOn rfl))
  · rfl

theorem State.serveLanes_dueOn (s : State) (p : Nat) (due : List LaneOp) :
    (s.serveLanes p (fun s o => s.issueDown p o) due).dueOn p = s.dueOn p := by
  refine foldl_untouched _ (State.dueOn p) (fun t k _ => ?_) s
  have hissued := foldl_untouched (fun s o => State.issueDown s p o) (State.dueOn p) (l := due.filter (·.lane == k))
    (fun t o _ => t.issueDown_dueOn p o) t
  dsimp only
  split
  · split
    · exact (State.chooseSpare_dueOn _ _ _).trans hissued
    · exact hissued
  · exact hissued

theorem State.serveRestore_dueOn (s : State) (p : Nat) : (s.serveRestore p fun s o => s.issueDown p o).dueOn p = s.dueOn p := by
  unfold State.serveRestore
  split
  · rfl
  · exact s.issueDown_dueOn _ _

theorem State.pruneRestore_dueOn (s : State) (p : Nat) : (s.pruneRestore p).dueOn p = s.dueOn p := s.setLaneSt_dueOn rfl

theorem State.issueLaneOps_dueOn {s : State} {p : Nat} (h : s.linkUp p = false) : (s.issueLaneOps p).dueOn p = [] := by
  rw [State.issueLaneOps, if_neg (by simp [h]), State.pruneRestore_dueOn, State.serveRestore_dueOn, State.serveLanes_dueOn]
  exact congrArg Lanes.due (State.laneSt_setLaneSt_same _ _ _)

theorem exec_actuatorSetLive {s : State} (hrun : s.running = true) : exec .actuatorSetLive s = .next s.wentLive :=
  congrArg Host.Outcome.next (if_pos hrun)

/-! ## RESTORE and the drop's deadline (R192, R199) -/

/-- The lanes whose home seats are free. -/
def State.homeLanes (s : State) (p : Nat) : List Nat :=
  (List.range 16).filter fun k => (s.laneSt p).txMap.getD k noSeat != k && (s.seat (s.txSeat p k)).state == .hotSpare

theorem State.wrRwlCtrl_restore (s : State) (p data : Nat) (h : bitAt data 8 = true) : ∃ regs,
    State.wrRwlCtrl p data s = { s.setLaneSt p { s.laneSt p with restore := s.homeLanes p } with regs } := by
  rw [State.wrRwlCtrl, s.writeFields_regs]
  exact ⟨_, if_pos h⟩

/-- The one outcome of a lane that lost its lock and found no spare. -/
theorem State.outcome_lossOfLock (s : State) {p : Nat} {c : LaneCause} (hbank : s.bankOf p = p) (hwhy : c.why = .lossOfLock)
    (hwd : c.withdraw = false) (hbit : bitAt c.info0 5 = false) :
    s.outcome p c false = s.raiseAt c.stamp ⟨Err.RWL.LOL_NARROW p, c.info0, c.info1⟩ := by
  simp only [State.outcome, hbit, hbank, outcomeEvents, hwhy, hwd]
  rfl

/-- Settles O35: what a driver's start, dark idle, the Finish and the lane operations move, each by its own lemma. -/
theorem lanesAreServed : Obligations.LanesAreServed := by
  refine ⟨fun s p k rest hrun hsafe hdue hgap => ?_, fun s p n hat hgap => ?_, fun s hrun => ?_, fun s via d hd hl => ?_, fun s hrun => ?_,
    fun s p hrun hsafe hlink => ?_, fun s p hsafe => ?_, fun s via p hd hl => ?_, fun s p m hbank hmiss hjudged hadding hlate hwhy hwd hbit => ?_,
    fun s p m hmiss hwait hlate => ?_⟩
  · have hstart : exec (.driverStart p) s = .next ((((s.atCycle 960).setSeat (seatKey p.val .tx k)
        { s.seat (seatKey p.val .tx k) with driver := true, driverDue := false })).setLaneSt p.val
          { s.laneSt p.val with driverAt := some s.now }) := by
      have hgap' : (match (s.laneSt p.val).driverAt with
          | .none => true
          | some t => decide (t + s.rd Reg.WEI.PWRUP_GAP ≤ s.now)) = true := by
        split
        · rfl
        · rename_i n hn
          exact decide_eq_true (hgap n hn)
      refine congrArg Host.Outcome.next ?_
      simp only [hdue]
      exact if_pos (by simp only [hrun, hsafe]; exact hgap')
    refine ⟨_, hstart, ?_, ?_, ?_, fun j hj => State.seat_setSeat_ne _ _ _ _ (Ne.symm hj), rfl, rfl⟩
    · exact congrArg Seat.driver (State.seat_setSeat_same _ _ _)
    · exact congrArg Seat.driverDue (State.seat_setSeat_same _ _ _)
    · exact congrArg Lanes.driverAt (State.laneSt_setLaneSt_same _ _ _)
  · refine congrArg Host.Outcome.next ?_
    split
    · rfl
    · refine if_neg ?_
      simp only [hat, Bool.and_eq_true, decide_eq_true_eq]
      omega
  · refine ⟨(s.atCycle 960).darkStep, congrArg Host.Outcome.next (if_pos hrun), State.cycle_of_still (State.darkStep_still _),
      foldl_untouched State.darkRound State.regs (fun t p _ => (t.darkRound_frame p).1) _, fun p hp hbit hnext => ?_,
      fun p _ hnext => State.darkStep_waiting _ hnext, fun p _ hbit => State.darkStep_other _ hbit⟩
    rw [(s.atCycle 960).darkStep_due hp hbit hnext]
    exact ⟨rfl, rfl⟩
  · refine ⟨_, exec_idleDarkWrite d hd hl, ?_, ?_, fun p hp hwas hbit => s.wrIdleDark_begins d hp hwas hbit,
      fun p hp h => s.wrIdleDark_other d hp h, fun p _ => s.wrIdleDark_dark d.toNat p, ?_⟩
    · rw [State.wrIdleDark_eq]
      exact (rampsBegun_same (State.rd · Reg.WEI.IDLE_DARK) (fun _ _ => rfl) _ _ _).trans ((State.rd_wr_same _ _ _).trans (Nat.mod_mod _ _))
    · intro g hg
      rw [State.wrIdleDark_eq]
      exact (rampsBegun_same (State.rd · g) (fun _ _ => rfl) _ _ _).trans (State.rd_wr_ne _ _ (hg _ List.mem_cons_self))
    · rw [State.wrIdleDark_eq]
      have h := rampsBegun_same (fun t => { t with regs := s.regs, lanes := s.lanes }) (fun _ _ => rfl)
        (if s.clk.cycle < 960 then s.now else s.now + 1)
        ((setBits 16 (d.toNat % 2 ^ 16)).filter fun p => !bitAt (s.rd Reg.WEI.IDLE_DARK) p) (s.wr Reg.WEI.IDLE_DARK (d.toNat % 2 ^ 16))
      generalize List.foldl _ _ _ = t at h ⊢
      exact (congrArg (fun u : State => { u with regs := t.regs, lanes := t.lanes }) h :)
  · refine ⟨_, exec_actuatorSetLive hrun, s.wentLive_cycle, fun k c hc => ?_, fun k hc => ?_, fun k m hm => ?_,
      fun p hp h => s.wentLive_dark hp h⟩
    · obtain ⟨hcode, hshadow, -, -⟩ := finished_parts (s.wentLive_seat k)
      exact ⟨hcode.trans (by rw [hc]; rfl), hshadow⟩
    · obtain ⟨hcode, -, -, -⟩ := finished_parts (s.wentLive_seat k)
      exact hcode.trans (by rw [hc]; rfl)
    · obtain ⟨-, -, hmember, hnext⟩ := finished_parts (s.wentLive_seat k)
      exact ⟨hmember.trans (by rw [hm]; rfl), hnext⟩
  · exact ⟨(s.atCycle (max 960 s.clk.cycle)).issueLaneOps p.val, congrArg Host.Outcome.next (if_pos (by simp [hrun, hsafe])),
      State.issueLaneOps_dueOn hlink, State.cycle_of_still (State.issueLaneOps_still _ _)⟩
  · exact congrArg Host.Outcome.next (if_neg (by simp [hsafe]))
  · have hdata : bitAt (setBit (s.stored (0x080 + p.val) 0x004) 8) 8 = true := bitAt_setBit _ _
    obtain ⟨regs, ht⟩ := s.wrRwlCtrl_restore p.val _ hdata
    refine ⟨_, congrArg Host.Outcome.next ((State.access_of_not_locked _ (State.wrRwlCtrl p.val) hd
      ((by decide : ∀ p : Fin 16, implemented (0x080 + p.val) 0x004 = true) p) hl).trans ht), fun k hk => ?_, ?_, rfl⟩
    · have hrestore := congrArg Lanes.restore (State.laneSt_setLaneSt_same s p.val { s.laneSt p.val with restore := s.homeLanes p.val })
      refine (Iff.of_eq (congrArg (k ∈ ·) hrestore)).trans ?_
      simp [State.homeLanes, hk]
    · exact (congrArg Lanes.txMap (State.laneSt_setLaneSt_same s p.val { s.laneSt p.val with restore := s.homeLanes p.val })).trans rfl
  · have hfind : (s.laneSt p.val).missing.find? (fun x => x.lane == m.lane && !x.judged && !x.adding && decide (x.droppedAt + 8 < s.now)) = some m := by
      simp [hmiss, hjudged, hadding, hlate]
    have ht : exec (.laneAddDeadline p m.lane) s = .next ((s.setLaneSt p.val { s.laneSt p.val with missing := [{ m with judged := true }] }).raiseAt
        m.cause.stamp ⟨Err.RWL.LOL_NARROW p.val, m.cause.info0, m.cause.info1⟩) := by
      rw [← State.outcome_lossOfLock (s.setLaneSt p.val { s.laneSt p.val with missing := [{ m with judged := true }] }) hbank hwhy hwd hbit]
      refine congrArg Host.Outcome.next ?_
      simp only [hfind]
      simp [hmiss]
    refine ⟨_, ht, State.raiseAt_bit _ _ ⟨Err.RWL.LOL_NARROW p.val, _, _⟩ (show 0 < 32 by decide), ?_, fun g hg => State.raiseAt_rd _ _ _ g hg⟩
    rw [State.laneSt, State.raiseAt_lanes]
    exact congrArg Lanes.missing (State.laneSt_setLaneSt_same _ _ _)
  · refine congrArg Host.Outcome.next ?_
    have hfind : (s.laneSt p.val).missing.find? (fun x => x.lane == m.lane && !x.judged && !x.adding && decide (x.droppedAt + 8 < s.now)) = none := by
      simp [hmiss, Nat.not_lt.mpr hlate]
    simp only [hfind, hwait]
    rfl

end Sys2Proof.Machine
end

section
/-! SUPPORT. The Leveller (spec section 08): delta lists, refactoring, bundle adjustment. -/

namespace Sys2Proof.Machine

/-! ## Bits of a register -/

/-- A bit of a field after another of its bits, or itself, was written. -/
theorem State.wrBit_bit (s : State) (f : Field) (i j : Nat) (b : Bool) (hj : j < f.width) :
    bitAt ((s.wrBit f i b).rd f) j = if i = j then b else bitAt (s.rd f) j := by
  rw [State.wrBit, State.rd_wr_same, bitAt_mod _ _ _ hj]
  by_cases h : i = j
  · subst h
    cases b
    · simp [bitAt_clearBit_same]
    · simp [bitAt_setBit]
  · cases b
    · simp [h, bitAt_clearBit_ne h]
    · simp [h, bitAt_setBit_ne h]

theorem State.wrBit_sameFields (s : State) (f : Field) (i : Nat) (b : Bool) : sameFields [f] s (s.wrBit f i b) := fun _ hg =>
  State.rd_wr_ne _ _ (hg f List.mem_cons_self)

/-- Blocks marked dirty. -/
theorem markDirty_bit (l : List Nat) (s : State) {b : Nat} (hb : b < 24) :
    bitAt ((l.foldl State.markDirty s).rd Reg.LVL.REFACTOR) b = (bitAt (s.rd Reg.LVL.REFACTOR) b || l.contains b) := by
  induction l generalizing s with
  | nil => simp
  | cons c l ih =>
    rw [List.foldl_cons, ih, State.markDirty, s.wrBit_bit Reg.LVL.REFACTOR c b true hb, List.contains_cons]
    by_cases h : c = b
    · simp [h]
    · simp [h, show (b == c) = false from by simpa using Ne.symm h]

theorem markDirty_rd_ne (l : List Nat) (s : State) {g : Field} (h : Reg.LVL.REFACTOR.key ≠ g.key) :
    (l.foldl State.markDirty s).rd g = s.rd g := foldl_untouched State.markDirty (State.rd · g) (fun _ _ _ => State.rd_wr_ne _ _ h) s

theorem markDirty_frame (l : List Nat) (s : State) :
    l.foldl State.markDirty s = { s with regs := (l.foldl State.markDirty s).regs } := by
  have h := foldl_untouched State.markDirty (l := l) (fun t => { t with regs := s.regs }) (fun _ _ _ => rfl) s
  generalize l.foldl State.markDirty s = t at h ⊢
  exact (congrArg (fun u : State => { u with regs := t.regs }) h :)

/-! ## Delta lists (R258, R259) -/

/-- The Leveller's lists with the queue filled from its senders. -/
def State.listsTaken (s : State) : State :=
  { s.atCycle 1040 with lvl := { s.lvl with resend := [], queue := s.lvl.senders.take 8, senders := s.lvl.senders.drop 8 } }

theorem exec_deltaListApply {s : State} (hrun : s.running = true) (hloaded : s.lvl.loaded = true) (hresend : s.lvl.resend = []) :
    exec .deltaListApply s = .next (s.lvl.queue.foldl State.applyList s.listsTaken) := by
  refine congrArg Host.Outcome.next ((if_pos hrun).trans ((if_pos hloaded).trans ?_))
  rw [show (s.atCycle 1040).lvl.resend = [] from hresend]
  rfl

theorem State.applyList_rejected {s : State} {l : DeltaList} {row : Nat} (h : failingRow (applyDelta s.lvl.shadow l.entries) l.entries = some row) :
    ∃ i j, s.applyList l = (s.bump Reg.LVL.DELTA_CNT_REJECTED).raise1 ⟨Err.LVL.DELTA_REJECT, i, j⟩ := by
  simp only [State.applyList, h]
  exact ⟨_, _, rfl⟩

theorem State.applyList_accepted {s : State} {l : DeltaList} (h : failingRow (applyDelta s.lvl.shadow l.entries) l.entries = .none) :
    s.applyList l = { (touchedBlocks l.entries).foldl State.markDirty (s.bump Reg.LVL.DELTA_CNT_ACCEPTED) with
      lvl := { s.lvl with
        shadow := applyDelta s.lvl.shadow l.entries
        applied := addApplied s.lvl.applied l.entries
        refactoring := s.lvl.refactoring.filter fun b => !(touchedBlocks l.entries).contains b } } := by
  simp only [State.applyList, h]
  rw [markDirty_frame (touchedBlocks l.entries) (s.bump Reg.LVL.DELTA_CNT_ACCEPTED)]
  rfl

/-- A list whose one entry off the diagonal is too large fails its check. -/
theorem failingRow_of_large (t : Tab (Option Int)) {i j : Nat} {v : Int} (hij : i ≠ j) (hv : 0x1000 < v.natAbs) :
    failingRow t [⟨i, j, v⟩] = some i := by
  simp [failingRow, hij, hv]

/-- A rejected list: the counts of the Leveller, its event, and nothing of the matrix. -/
theorem exec_deltaListApply_rejected {s : State} {l : DeltaList} {row : Nat} (hrun : s.running = true) (hloaded : s.lvl.loaded = true)
    (hresend : s.lvl.resend = []) (hsenders : s.lvl.senders = []) (hqueue : s.lvl.queue = [l])
    (h : failingRow (applyDelta s.lvl.shadow l.entries) l.entries = some row) : ∃ t, exec .deltaListApply s = .next t ∧ t.lvl.queue = [] ∧
      t.lvl.shadow = s.lvl.shadow ∧ t.lvl.live = s.lvl.live ∧ t.lvl.applied = s.lvl.applied ∧ t.shows Err.LVL.DELTA_REJECT = true ∧
      t.rd Reg.LVL.DELTA_CNT_REJECTED = (s.bump Reg.LVL.DELTA_CNT_REJECTED).rd Reg.LVL.DELTA_CNT_REJECTED ∧
      t.rd Reg.LVL.REFACTOR = s.rd Reg.LVL.REFACTOR ∧ t.clk.cycle = 1040 := by
  have ht := exec_deltaListApply hrun hloaded hresend
  obtain ⟨i, j, hlist⟩ := State.applyList_rejected (s := s.listsTaken) h
  rw [hqueue, List.foldl_cons, List.foldl_nil, hlist] at ht
  have hlvl : ((s.listsTaken.bump Reg.LVL.DELTA_CNT_REJECTED).raise1 ⟨Err.LVL.DELTA_REJECT, i, j⟩).lvl = s.listsTaken.lvl := State.raise1_lvl _ _
  refine ⟨_, ht, ?_, ?_, ?_, ?_, State.raise1_shows _ ⟨Err.LVL.DELTA_REJECT, i, j⟩ (show 3 < 32 by decide), ?_, ?_, ?_⟩
  · rw [hlvl]
    simp [State.listsTaken, hsenders]
  · rw [hlvl]; rfl
  · rw [hlvl]; rfl
  · rw [hlvl]; rfl
  · exact State.raise1_rd _ _ _ (by decide : ∀ f ∈ eventFields Err.LVL.DELTA_REJECT, f.key ≠ Reg.LVL.DELTA_CNT_REJECTED.key)
  · exact (State.raise1_rd _ _ _ (by decide : ∀ f ∈ eventFields Err.LVL.DELTA_REJECT, f.key ≠ Reg.LVL.REFACTOR.key)).trans (State.rd_bump_ne _ (by decide))
  · exact congrArg ClkState.cycle (State.raise1_clk _ _)

/-! ## Refactoring (R259) -/

theorem exec_blockRefactor {s : State} {b : Nat} (f : SolveFault) (hrun : s.running = true) (hloaded : s.lvl.loaded = true)
    (hnext : s.nextBlock = some b) : exec (.blockRefactor f) s = .next (match f with
      | .none => (s.atCycle (max 1040 s.clk.cycle)).refactorDone b
      | .storeCe c => ((s.atCycle (max 1040 s.clk.cycle)).raise1 (detail Err.LVL.STORE_CE (lvlInfo c 0 0x3FF))).refactorDone b
      | .factorUe c => ((s.atCycle (max 1040 s.clk.cycle)).raise1 (detail Err.LVL.FACTOR_UE (lvlInfo c 0 0x3FF))).markDirty c
      | .matrixUe => (s.atCycle (max 1040 s.clk.cycle)).enterRebuild) := by
  refine congrArg Host.Outcome.next ?_
  simp only [hrun, hloaded, hnext]
  cases f <;> rfl

theorem State.refactorDone_sameFields (s : State) (b : Nat) : sameFields [Reg.LVL.REFACTOR, Reg.LVL.REFACTOR_CNT] s (s.refactorDone b) := fun g hg =>
  (State.rd_bump_ne _ (hg Reg.LVL.REFACTOR_CNT (by simp))).trans (State.wrBit_sameFields s Reg.LVL.REFACTOR b false g (by simpa using hg Reg.LVL.REFACTOR (by simp)))

theorem bump_rd_of_rd_eq {s t : State} {f : Field} (h : t.rd f = s.rd f) : (t.bump f).rd f = (s.bump f).rd f := by
  rw [State.rd_bump_same, State.rd_bump_same, h]

/-- Settles O37: a list is applied or rejected whole; a block's refactor ends what waits for it. -/
theorem deltaListsAndRefactoring : Obligations.DeltaListsAndRefactoring := by
  refine ⟨fun s l row hrun hloaded hresend hsenders hqueue h => exec_deltaListApply_rejected hrun hloaded hresend hsenders hqueue h,
    fun s l i j v hrun hloaded hresend hsenders hqueue hentries hij hv => ?_, fun s l hrun hloaded hresend hsenders hqueue h => ?_,
    fun s b hrun hloaded hnext => ?_, fun s b c hrun hloaded hnext hc => ?_, fun s f h => ?_, fun s hrun hloaded hresend hqueue => ?_,
    fun s hloaded hrun => ?_⟩
  · obtain ⟨t, ht, -, hshadow, -, -, hshows, -⟩ := exec_deltaListApply_rejected (row := i) hrun hloaded hresend hsenders hqueue
      (by rw [hentries]; exact failingRow_of_large _ hij hv)
    exact ⟨t, ht, hshadow, hshows⟩
  · have ht := exec_deltaListApply hrun hloaded hresend
    rw [hqueue, List.foldl_cons, List.foldl_nil, State.applyList_accepted (s := s.listsTaken) h] at ht
    refine ⟨_, ht, ?_, rfl, rfl, ?_, ?_, fun b hb => ?_, fun g hg => ?_⟩
    · simp [State.listsTaken, hsenders]
    · exact (congrArg State.recs (markDirty_frame (touchedBlocks l.entries) (s.listsTaken.bump Reg.LVL.DELTA_CNT_ACCEPTED))).trans rfl
    · exact markDirty_rd_ne _ _ (by decide)
    · refine (markDirty_bit _ _ hb).trans ?_
      rw [State.rd_bump_ne _ (by decide)]
      rfl
    · exact (markDirty_rd_ne _ _ (hg _ (by simp))).trans (State.rd_bump_ne _ (hg _ (by simp)))
  · have ht := exec_blockRefactor .none hrun hloaded hnext
    refine ⟨_, ht, fun c hc => ?_, ?_, rfl, fun l hl => ?_, rfl, rfl, State.refactorDone_sameFields _ b⟩
    · refine (congrArg (bitAt · c) (State.rd_bump_ne (f := Reg.LVL.REFACTOR_CNT) _ (by decide))).trans ?_
      refine (State.wrBit_bit _ Reg.LVL.REFACTOR b c false hc).trans ?_
      by_cases h : b = c
      · simp [h]
      · simp [h, Ne.symm h]
    · exact bump_rd_of_rd_eq (State.wrBit_sameFields _ _ _ _ _ (by decide))
    · obtain ⟨l', -, rfl⟩ := List.mem_map.mp hl
      simp
  · have ht := exec_blockRefactor (.factorUe c) hrun hloaded hnext
    refine ⟨_, ht, ?_, ?_, State.raise1_lvl _ _⟩
    · exact (State.wrBit_bit _ Reg.LVL.REFACTOR c c true hc).trans (if_pos rfl)
    · exact (congrArg (bitAt · 5) (State.wrBit_sameFields _ Reg.LVL.REFACTOR c true (errField .corr 0x007) (by decide))).trans
        (State.raise1_shows _ (detail Err.LVL.FACTOR_UE (lvlInfo c 0 0x3FF)) (show 5 < 32 by decide))
  · refine congrArg Host.Outcome.next ?_
    rcases h with h | h | h <;> simp [h]
  · have ht := exec_deltaListApply hrun hloaded hresend
    rw [hqueue, List.foldl_nil] at ht
    exact ⟨_, ht, by rw [State.listsTaken, ← hresend], rfl, rfl⟩
  · exact ⟨s.atCycle 1040, congrArg Host.Outcome.next ((if_pos hrun).trans (if_neg (by simp [hloaded]))), rfl, rfl⟩

/-! ## The end of a run (R263) -/

theorem State.baLogged_result (s : State) (r : BaRun) (result : Nat) :
    (s.baLogged r result).rd Reg.LVL.BA_LAST_RESULT = result % 2 ^ 4 := by
  simp (disch := decide) only [State.baLogged, State.rd_wr_ne, State.rd_wrPair_ne, State.rd_bump_ne, State.rd_wrB_ne, State.rd_wr_same]
  rfl

theorem State.baLogged_state (s : State) (r : BaRun) (result : Nat) : (s.baLogged r result).rd Reg.LVL.STAT_BA_STATE = 0 := by
  simp (disch := decide) only [State.baLogged, State.rd_wr_ne, State.rd_wr_same]
  rfl

theorem State.baLogged_abandoned (s : State) (r : BaRun) (result : Nat) :
    (s.baLogged r result).rd Reg.LVL.BA_RUN_ABANDONED = (s.bump Reg.LVL.BA_RUN_ABANDONED).rd Reg.LVL.BA_RUN_ABANDONED := by
  simp (disch := decide) only [State.baLogged, State.rd_wr_ne, State.rd_wrPair_ne, State.rd_bump_same, State.rd_wrB_ne]

/-- The registers of a run's end that its event leaves. -/
theorem baFields_key_ne {c : ErrCode} (hc : c = Err.LVL.BA_ABANDON ∨ c = Err.LVL.BA_REJECT) :
    ∀ g ∈ [Reg.LVL.BA_LAST_RESULT, Reg.LVL.STAT_BA_STATE, Reg.LVL.BA_RUN_ABANDONED, Reg.STK.OVR1_MESH], ∀ f ∈ eventFields c, f.key ≠ g.key := by
  rcases hc with rfl | rfl
  · decide
  · decide

/-- A run that ends without an estimate, its event raised. -/
theorem State.baOver_raised (s : State) (r : BaRun) {result : Nat} (hres : result < 2 ^ 4) {e : Event}
    (he : e.code = Err.LVL.BA_ABANDON ∨ e.code = Err.LVL.BA_REJECT) : ((s.baOver r result).raise1 e).rd Reg.LVL.BA_LAST_RESULT = result ∧
      ((s.baOver r result).raise1 e).rd Reg.LVL.STAT_BA_STATE = 0 ∧ ((s.baOver r result).raise1 e).rd Reg.LVL.BA_RUN_ABANDONED =
        (s.bump Reg.LVL.BA_RUN_ABANDONED).rd Reg.LVL.BA_RUN_ABANDONED ∧
      ((s.baOver r result).raise1 e).rd Reg.STK.OVR1_MESH = s.rd Reg.STK.OVR1_MESH ∧
      ((s.baOver r result).raise1 e).shows e.code = true ∧
      ((s.baOver r result).raise1 e).flm = { s.flm with ba := if r.cold then some { r with result := some result } else .none, window := .none } := by
  have hne := baFields_key_ne he
  refine ⟨?_, ?_, ?_, ?_, State.raise1_shows _ e (by rcases he with h | h <;> rw [h] <;> decide), State.raise1_flm _ _⟩
  · exact (State.raise1_rd _ e _ (hne _ (by simp))).trans ((s.baLogged_result r result).trans (Nat.mod_eq_of_lt hres))
  · exact (State.raise1_rd _ e _ (hne _ (by simp))).trans (s.baLogged_state r result)
  · exact (State.raise1_rd _ e _ (hne _ (by simp))).trans (s.baLogged_abandoned r result)
  · exact (State.raise1_rd _ e _ (hne _ (by simp))).trans (s.baLogged_rd_ne r result (by decide))

/-- The registers of a run that ends with an estimate. -/
def State.baTaken (s : State) (r : BaRun) : State :=
  ((((((s.wr Reg.LVL.BA_LAST_RESULT 1).wr Reg.LVL.BA_LAST_ITERS r.iter).wrB Reg.LVL.BA_LAST_COLD r.cold).bump
    Reg.LVL.BA_RUN_ACCEPTED).wrPair Reg.LVL.BA_STAMP_LO Reg.LVL.BA_STAMP_HI
    ((((s.wr Reg.LVL.BA_LAST_RESULT 1).wr Reg.LVL.BA_LAST_ITERS r.iter).wrB Reg.LVL.BA_LAST_COLD r.cold).bump
      Reg.LVL.BA_RUN_ACCEPTED).stamp.word).wr Reg.LVL.STAT_BA_STATE 0).wr Reg.LVL.STAT_BA_ITER 0

theorem State.baAccept_eq (s : State) (r : BaRun) (est : List Int) : s.baAccept r est = { s.baTaken r with
    flm := { s.flm with
      ba := if r.cold then some { r with estimate := est, result := some 1 } else .none
      nextEstimate := if r.cold then s.flm.nextEstimate else some est } } := rfl

theorem State.baTaken_result (s : State) (r : BaRun) : (s.baTaken r).rd Reg.LVL.BA_LAST_RESULT = 1 := by
  simp (disch := decide) only [State.baTaken, State.rd_wr_ne, State.rd_wrPair_ne, State.rd_bump_ne, State.rd_wrB_ne, State.rd_wr_same]
  rfl

theorem State.baTaken_state (s : State) (r : BaRun) : (s.baTaken r).rd Reg.LVL.STAT_BA_STATE = 0 := by
  simp (disch := decide) only [State.baTaken, State.rd_wr_ne, State.rd_wr_same]
  rfl

theorem State.baTaken_accepted (s : State) (r : BaRun) :
    (s.baTaken r).rd Reg.LVL.BA_RUN_ACCEPTED = (s.bump Reg.LVL.BA_RUN_ACCEPTED).rd Reg.LVL.BA_RUN_ACCEPTED := by
  simp (disch := decide) only [State.baTaken, State.rd_wr_ne, State.rd_wrPair_ne, State.rd_bump_same, State.rd_wrB_ne]

/-- A run in service that ends with an estimate. -/
theorem State.baAccept_spec (s : State) {r : BaRun} (est : List Int) (hcold : r.cold = false) :
    (s.baAccept r est).rd Reg.LVL.BA_LAST_RESULT = 1 ∧ (s.baAccept r est).rd Reg.LVL.STAT_BA_STATE = 0 ∧
      (s.baAccept r est).rd Reg.LVL.BA_RUN_ACCEPTED = (s.bump Reg.LVL.BA_RUN_ACCEPTED).rd Reg.LVL.BA_RUN_ACCEPTED ∧
      (s.baAccept r est).flm.nextEstimate = some est ∧ (s.baAccept r est).flm.estimate = s.flm.estimate ∧ (s.baAccept r est).flm.ba = .none ∧
      (s.baAccept r est).clk = s.clk ∧ (s.baAccept r est).recs = s.recs := by
  rw [State.baAccept_eq, hcold]
  exact ⟨s.baTaken_result r, s.baTaken_state r, s.baTaken_accepted r, rfl, rfl, rfl, rfl, rfl⟩

/-! ## An iteration (R262) -/

/-- Whether a run's iteration may take place now. -/
def State.iterates (s : State) (r : BaRun) : Prop :=
  s.flm.ba = some r ∧ s.rd Reg.LVL.STAT_BA_STATE = 2 ∧ s.rd Reg.LVL.STAT_THERMAL = 1 ∧ s.lvl.solved = true ∧ r.iterBegan ≤ s.now ∧
    s.now < r.iterBegan + r.deadline

theorem exec_baIteration_pivot {s : State} {r : BaRun} (u : List Int) (h : s.iterates r) :
    exec (.baIteration false u) s = .next ((s.atCycle 959).baAbandon 3) := by
  obtain ⟨hba, hcond⟩ := h
  refine congrArg Host.Outcome.next ?_
  simp only [hba]
  exact if_pos hcond

/-- An iteration within the tolerance. -/
theorem exec_baIteration_near {s : State} {r : BaRun} {u : List Int} (h : s.iterates r) (htol : maxMagnitude u ≤ s.rd Reg.LVL.BA_CFG_TOL) :
    exec (.baIteration true u) s = .next (
      if plausible (addUpdate r.estimate u) s.estimateList (r.cold && !r.hasPrevious) then
        ((s.atCycle 959).wr Reg.LVL.BA_UPDATE (min (maxMagnitude u) 0xFFFF)).baAccept r (addUpdate r.estimate u)
      else ((s.atCycle 959).wr Reg.LVL.BA_UPDATE (min (maxMagnitude u) 0xFFFF)).baAbandon 5) := by
  obtain ⟨hba, hcond⟩ := h
  have hrd : ((s.atCycle 959).wr Reg.LVL.BA_UPDATE (min (maxMagnitude u) 0xFFFF)).rd Reg.LVL.BA_CFG_TOL = s.rd Reg.LVL.BA_CFG_TOL :=
    State.rd_wr_ne _ _ (by decide)
  refine congrArg Host.Outcome.next ?_
  simp only [hba]
  refine (if_pos hcond).trans ((if_neg (by simp)).trans (if_pos ?_))
  rw [hrd]
  exact htol

/-- Settles O38: a window opens a run, its end begins the iterations, and an iteration or a deadline ends it. -/
theorem bundleAdjustment : Obligations.BundleAdjustment := by
  refine ⟨fun s h => ?_, fun s h => congrArg Host.Outcome.next (if_neg (by simp [h])), fun s r d n hba hstate hwin hcount => ?_,
    fun s r d n hba hstate hwin hcount => ?_, fun s r u hba hstate hthermal hsolved hbegan hnow => ?_,
    fun s r u hba hcold hstate hthermal hsolved hbegan hnow htol hplaus => ?_, fun s r u hba hstate hthermal hsolved hbegan hnow htol hplaus => ?_,
    fun s r hba hstate hlate => ?_, fun s r hba hnow => ?_⟩
  · refine ⟨_, congrArg Host.Outcome.next (if_pos h), rfl, rfl, rfl, ⟨_, rfl, rfl, rfl, rfl, rfl⟩, ?_, ?_, fun g hg => ?_, rfl⟩
    · show (((s.wr Reg.LVL.STAT_BA_STATE 1).wrB Reg.LVL.STAT_BA_COLD false).wr Reg.LVL.STAT_BA_ITER 0).rd _ = 1
      rw [State.rd_wr_ne _ _ (by decide), State.rd_wrB_ne _ _ (by decide), State.rd_wr_same]
      rfl
    · exact State.rd_wr_same _ Reg.LVL.STAT_BA_ITER 0
    · show (((s.wr Reg.LVL.STAT_BA_STATE 1).wrB Reg.LVL.STAT_BA_COLD false).wr Reg.LVL.STAT_BA_ITER 0).rd g = _
      rw [State.rd_wr_ne _ _ (hg _ (by simp)), State.rd_wrB_ne _ _ (hg _ (by simp)), State.rd_wr_ne _ _ (hg _ (by simp))]
  · have ht : exec (.baWindowEnd d n) s = .next { (s.wr Reg.LVL.STAT_BA_STATE 2).wr Reg.LVL.STAT_BA_ITER 1 with flm := { s.flm with
        window := .none, ba := some { r with iter := 1, iterBegan := if r.cold then r.windowEnd else s.now } } } := by
      refine congrArg Host.Outcome.next ?_
      simp only [hba]
      exact (if_pos ⟨hstate, hwin⟩).trans (if_neg (Nat.not_lt.mpr hcount))
    refine ⟨_, ht, ?_, State.rd_wr_same _ Reg.LVL.STAT_BA_ITER 1, rfl, rfl, fun g hg => ?_⟩
    · show ((s.wr Reg.LVL.STAT_BA_STATE 2).wr Reg.LVL.STAT_BA_ITER 1).rd _ = 2
      rw [State.rd_wr_ne _ _ (by decide), State.rd_wr_same]
      rfl
    · show ((s.wr Reg.LVL.STAT_BA_STATE 2).wr Reg.LVL.STAT_BA_ITER 1).rd g = _
      rw [State.rd_wr_ne _ _ (hg _ (by simp)), State.rd_wr_ne _ _ (hg _ (by simp))]
  · have ht : exec (.baWindowEnd d n) s = .next ({ s with flm := { s.flm with window := .none } }.baAbandon 6) := by
      refine congrArg Host.Outcome.next ?_
      simp only [hba]
      exact (if_pos ⟨hstate, hwin⟩).trans (if_pos hcount)
    rw [State.baAbandon_of_some (s := { s with flm := { s.flm with window := .none } }) 6 hba] at ht
    obtain ⟨hres, hst, hcnt, -, hshows, hflm⟩ := State.baOver_raised { s with flm := { s.flm with window := .none } } r
      (show 6 < 2 ^ 4 by decide) (e := ⟨Err.LVL.BA_ABANDON, lvlInfo 31 6 0x3FF, r.iter * 2 ^ 16⟩) (.inl rfl)
    exact ⟨_, ht, hst, hres, (congrArg FlmState.window hflm).trans rfl, hcnt, hshows⟩
  · have ht := exec_baIteration_pivot u (show s.iterates r from ⟨hba, hstate, hthermal, hsolved, hbegan, hnow⟩)
    rw [State.baAbandon_of_some (s := s.atCycle 959) 3 hba] at ht
    obtain ⟨hres, hst, -, -, hshows, hflm⟩ := State.baOver_raised (s.atCycle 959) r
      (show 3 < 2 ^ 4 by decide) (e := ⟨Err.LVL.BA_ABANDON, lvlInfo 31 3 0x3FF, r.iter * 2 ^ 16⟩) (.inl rfl)
    exact ⟨_, ht, hres, hst, hshows, (congrArg FlmState.estimate hflm).trans rfl, (congrArg FlmState.nextEstimate hflm).trans rfl⟩
  · have ht := exec_baIteration_near (show s.iterates r from ⟨hba, hstate, hthermal, hsolved, hbegan, hnow⟩) htol
    rw [if_pos hplaus] at ht
    obtain ⟨hres, hst, hcnt, hnext, hest, hover, hclk, hrecs⟩ :=
      ((s.atCycle 959).wr Reg.LVL.BA_UPDATE (min (maxMagnitude u) 0xFFFF)).baAccept_spec (addUpdate r.estimate u) hcold
    exact ⟨_, ht, hres, hst, hnext, hest, hover, (congrArg ClkState.cycle hclk).trans rfl,
      hcnt.trans (bump_rd_of_rd_eq (State.rd_wr_ne (f := Reg.LVL.BA_UPDATE) _ _ (by decide))), hrecs⟩
  · have ht := exec_baIteration_near (show s.iterates r from ⟨hba, hstate, hthermal, hsolved, hbegan, hnow⟩) htol
    rw [if_neg (by simp [hplaus]), State.baAbandon_of_some (s := (s.atCycle 959).wr Reg.LVL.BA_UPDATE _) 5 hba] at ht
    obtain ⟨hres, hst, -, -, hshows, hflm⟩ := State.baOver_raised ((s.atCycle 959).wr Reg.LVL.BA_UPDATE (min (maxMagnitude u) 0xFFFF)) r
      (show 5 < 2 ^ 4 by decide) (e := ⟨Err.LVL.BA_REJECT, lvlInfo 31 5 0x3FF, r.iter * 2 ^ 16⟩) (.inr rfl)
    exact ⟨_, ht, hres, hst, hshows, (congrArg FlmState.nextEstimate hflm).trans rfl⟩
  · have ht : exec .baDeadline s = .next ((s.bump Reg.STK.OVR1_MESH).baAbandon 2) := by
      refine congrArg Host.Outcome.next ?_
      simp only [hba]
      exact if_pos ⟨hstate, hlate⟩
    rw [State.baAbandon_of_some (s := s.bump Reg.STK.OVR1_MESH) 2 hba] at ht
    obtain ⟨hres, hst, -, hmesh, hshows, -⟩ := State.baOver_raised (s.bump Reg.STK.OVR1_MESH) r
      (show 2 < 2 ^ 4 by decide) (e := ⟨Err.LVL.BA_ABANDON, lvlInfo 31 2 0x3FF, r.iter * 2 ^ 16⟩) (.inl rfl)
    exact ⟨_, ht, hres, hst, hmesh, hshows⟩
  · refine congrArg Host.Outcome.next ?_
    simp only [hba]
    exact if_neg fun h => Nat.not_lt.mpr h.2 hnow

end Sys2Proof.Machine
end

section
/-! SUPPORT. The datum (spec section 07, R207 to R210). -/

namespace Sys2Proof.Machine

/-! ## The datum in a state -/

theorem State.datumTo_state (s : State) {st : Nat} (h : st < 4) : (s.datumTo st).rd Reg.DTM.STAT_STATE = st := by
  show ((s.wr Reg.DTM.STAT_STATE st).wrB Reg.GLB.STAT_UNTRACED (st != 2)).rd _ = st
  rw [State.rd_wrB_ne _ _ (by decide), State.rd_wr_same]
  exact Nat.mod_eq_of_lt h

theorem State.datumTo_untraced (s : State) (st : Nat) : (s.datumTo st).rd Reg.GLB.STAT_UNTRACED = ofBool (st != 2) := by
  show ((s.wr Reg.DTM.STAT_STATE st).wrB Reg.GLB.STAT_UNTRACED (st != 2)).rd _ = _
  rw [State.wrB, State.rd_wr_same]
  cases st != 2 <;> rfl

theorem State.datumTo_sameFields (s : State) (st : Nat) : sameFields [Reg.DTM.STAT_STATE, Reg.GLB.STAT_UNTRACED] s (s.datumTo st) := fun g hg => by
  show ((s.wr Reg.DTM.STAT_STATE st).wrB Reg.GLB.STAT_UNTRACED (st != 2)).rd g = _
  rw [State.rd_wrB_ne _ _ (hg _ (by simp)), State.rd_wr_ne _ _ (hg _ (by simp))]

theorem State.datumTo_visits (s : State) {st : Nat} (h : st ≠ 2) : ∀ v ∈ (s.datumTo st).cal.visits, v.traced = false := by
  have hv : (s.datumTo st).cal.visits = s.cal.visits.map fun v => { v with traced := false } := if_neg h
  rw [hv]
  intro v hm
  obtain ⟨w, -, rfl⟩ := List.mem_map.mp hm
  rfl

theorem State.datumTo_frame (s : State) (st : Nat) : s.datumTo st = { s with
    regs := (s.datumTo st).regs, datum := (s.datumTo st).datum, cal := { s.cal with visits := (s.datumTo st).cal.visits } } := rfl

/-- A rejected datum. -/
theorem State.datumReject_spec (s : State) {reason : Nat} (h : reason < 16) : (s.datumReject reason).rd Reg.DTM.STAT_STATE = 3 ∧
    (s.datumReject reason).rd Reg.DTM.STAT_REASON = reason ∧ (s.datumReject reason).rd Reg.GLB.STAT_UNTRACED = 1 ∧
    (s.datumReject reason).datum.scale = s.datum.scale ∧ (s.datumReject reason).shows Err.DTM.DATUM_REJECTED = true := by
  have hne : ∀ g ∈ [Reg.DTM.STAT_STATE, Reg.DTM.STAT_REASON, Reg.GLB.STAT_UNTRACED], ∀ f ∈ eventFields Err.DTM.DATUM_REJECTED, f.key ≠ g.key := by
    decide
  refine ⟨?_, ?_, ?_, ?_, State.raise1_shows _ (plain Err.DTM.DATUM_REJECTED) (by decide)⟩
  · rw [State.datumReject, State.raise1_rd _ _ _ (hne _ (by simp)), State.rd_wr_ne _ _ (by decide), s.datumTo_state (by decide)]
  · rw [State.datumReject, State.raise1_rd _ _ _ (hne _ (by simp)), State.rd_wr_same]
    exact Nat.mod_eq_of_lt h
  · rw [State.datumReject, State.raise1_rd _ _ _ (hne _ (by simp)), State.rd_wr_ne _ _ (by decide), s.datumTo_untraced]
    rfl
  · rw [State.datumReject, State.raise1_datum]
    rfl

theorem State.datumReject_shows (s : State) (reason : Nat) {c : ErrCode} (hb : c.bit < 32) (hne : Reg.DTM.STAT_STATE.key ≠ (errField c.cls c.page).key ∧
    Reg.GLB.STAT_UNTRACED.key ≠ (errField c.cls c.page).key ∧ Reg.DTM.STAT_REASON.key ≠ (errField c.cls c.page).key)
    (h : s.shows c = true) : (s.datumReject reason).shows c = true := by
  obtain ⟨hstate, huntraced, hreason⟩ := hne
  refine State.raise1_shows_of_shows _ hb ?_
  have hrd : ((s.datumTo 3).wr Reg.DTM.STAT_REASON reason).rd (errField c.cls c.page) = s.rd (errField c.cls c.page) :=
    (State.rd_wr_ne _ _ hreason).trans (s.datumTo_sameFields 3 _ (by simp [hstate, huntraced]))
  exact (congrArg (bitAt · c.bit) hrd).trans h

/-! ## The end of an acquisition (R208) -/

/-- The measured grid on the registers, and its event. -/
def State.gridTaken (s : State) (g : List (Nat × Int)) : State :=
  let s := g.foldl (fun s x => s.wrI (Reg.DTM.LINE_OFS x.1) x.2) s
  if g.any fun x => decide (150 < x.2.natAbs) then s.raise1 (plain Err.DTM.LINE_OFFSET) else s

theorem State.gridTaken_datum (s : State) (g : List (Nat × Int)) : (s.gridTaken g).datum = s.datum := by
  have h := foldl_untouched (fun s x => State.wrI s (Reg.DTM.LINE_OFS x.1) x.2) State.datum (l := g) (fun _ _ _ => rfl) s
  unfold State.gridTaken
  dsimp only
  split
  · exact (State.raise1_datum _ _).trans h
  · exact h

theorem State.gridTaken_now (s : State) (g : List (Nat × Int)) : (s.gridTaken g).now = s.now := by
  have h := foldl_untouched (fun s x => State.wrI s (Reg.DTM.LINE_OFS x.1) x.2) State.now (l := g) (fun _ _ _ => rfl) s
  unfold State.gridTaken
  dsimp only
  split
  · exact (congrArg ClkState.elapsed (State.raise1_clk _ _)).trans h
  · exact h

/-- What an acquisition's end makes of its measurements. -/
def State.datumJudged (s : State) (pwr : Int) (locked : Bool) (scale ringCode : BitVec 16) (g : List (Nat × Int)) : State :=
  if !locked || decide (s.datum.acquireAt + 64 < s.now) then s.datumReject 2
  else if !datumInRange pwr then s.datumReject 1
  else if !g.isEmpty && g.all fun x => decide (200 < x.2.natAbs) then s.datumReject 3
  else
    let s := s.datumTo 2
    let s := s.wrPair Reg.DTM.TRACE_STAMP_LO Reg.DTM.TRACE_STAMP_HI s.stamp.word
    { s with datum := { s.datum with scale := scale, ringCode := ringCode, due := true } }

theorem exec_datumAcquireEnd {s : State} (pwr : Int) (locked : Bool) (sc rc : BitVec 16) (ofs : List (Option Int))
    (h : s.rd Reg.DTM.STAT_STATE = 1) : exec (.datumAcquireEnd pwr locked sc rc ofs) s =
      .next ((s.gridTaken (s.gridOffsets ofs)).datumJudged pwr locked sc rc (s.gridOffsets ofs)) :=
  congrArg Host.Outcome.next (if_pos h)

/-- A run, counted on while its condition holds, and ended otherwise. -/
theorem runTo_ite {n run : Nat} (h : run < n) {c : Prop} [Decidable c] {b : Bool} (hb : b = decide c) :
    runTo n run b = if c then run + 1 else 0 := by
  rw [runTo_of_lt h, hb]
  by_cases hc : c <;> simp [hc]

/-- The datum after a measurement in a state of its own (R207, R209). -/
def datumMeasured (d : Datum) (st : Nat) (pwr : Int) (lk : Bool) (scale : BitVec 16) : Datum :=
  let bad := !datumInRange pwr || !lk
  let traced := st == 2
  let sc := if traced then scale else d.scale
  { d with
    presentRun := runTo 16 d.presentRun (decide (-1300 ≤ pwr) && st == 0)
    lowRun := runTo 16 d.lowRun (decide (pwr < -1300) && (st == 2 || st == 3))
    badRun := runTo 16 d.badRun (bad && traced)
    badReason := if bad then (if datumInRange pwr then 2 else 1) else d.badReason
    scale := sc
    due := d.due || (traced && (match d.written with | .none => true | some w => scaleMoved sc w)) }

theorem exec_datumMeasure {s : State} (pwr : Int) (lk : Bool) (sc : BitVec 16) (hrun : s.running = true) :
    exec (.datumMeasure pwr lk sc) s = .next { (s.atCycle 159).wrI Reg.DTM.PWR pwr with
      datum := datumMeasured s.datum (s.rd Reg.DTM.STAT_STATE) pwr lk sc } := by
  have hrd : s.rd Reg.DTM.STAT_STATE = ((s.atCycle 159).wrI Reg.DTM.PWR pwr).rd Reg.DTM.STAT_STATE := (State.rd_wrI_ne _ _ (by decide)).symm
  rw [hrd]
  exact congrArg Host.Outcome.next (if_pos hrun)

/-- REACQUIRE restarts the search outside ABSENT. -/
theorem exec_reacquire {s : State} {via : Path} (hd : s.deaf via = false) (hl : s.locked via 0x014 = false) : ∃ regs,
    exec (.reacquire via) s = .next (if s.rd Reg.DTM.STAT_STATE != 0 then { s with regs }.datumTo 1 else { s with regs }) ∧
      ({ s with regs } : State).rd Reg.DTM.STAT_STATE = s.rd Reg.DTM.STAT_STATE := by
  have hw := s.writeFields_regs 0x014 0x004 (setBit (s.stored 0x014 0x004) 8)
  have hrd : (s.writeFields 0x014 0x004 (setBit (s.stored 0x014 0x004) 8)).rd Reg.DTM.STAT_STATE = s.rd Reg.DTM.STAT_STATE :=
    s.writeFields_rd_ne _ (by decide) (by decide) (by decide) (by decide)
  refine ⟨_, congrArg Host.Outcome.next ((State.access_of_not_locked _ State.wrDtmCtrl hd (by decide) hl).trans ?_), hw ▸ hrd⟩
  rw [State.wrDtmCtrl, hrd, bitAt_setBit, Bool.true_and, ← hw]

/-- Settles O39: the datum's states, each entered as `datumTo` or `datumReject` enters it. -/
theorem datumStates : Obligations.DatumStates := by
  refine ⟨fun s pwr lk sc hrun hlo hhi => ?_, fun s hstate hpresent => ?_, fun s pwr sc rc ofs hstate hnow hpl hph hgrid => ?_,
    fun s pwr sc rc ofs hstate => ?_, fun s pwr sc rc ofs hstate hnow hpwr => ?_, fun s pwr o x sc rc ofs hstate hnow hpl hph hgrid ho => ?_,
    fun s hstate hlow => ?_, fun s hstate hbad hreason => ?_, fun s hstate hlow => ?_, fun s via hd hl hstate => ?_, fun s via hd hl hstate => ?_⟩
  · refine ⟨_, exec_datumMeasure pwr lk sc hrun, ?_, rfl, ?_, fun hst hr => ?_, fun hst hr => ?_, fun hst hr => ?_,
      fun g hg => State.rd_wrI_ne _ _ (hg _ (by simp))⟩
    · show signedOf 16 (((s.atCycle 159).wrI Reg.DTM.PWR pwr).rd Reg.DTM.PWR) = pwr
      rw [State.wrI, State.rd_wr_same, Nat.mod_eq_of_lt (bitsOfInt_lt _ _)]
      exact signedOf_bitsOfInt_16 hlo hhi
    · simp [datumMeasured]
    · exact runTo_ite hr (by simp [hst])
    · exact runTo_ite hr (by simp [hst])
    · have hbad : runTo 16 s.datum.badRun ((!datumInRange pwr || !lk) && s.rd Reg.DTM.STAT_STATE == 2) =
          if ¬ (-1100 ≤ pwr ∧ pwr ≤ -900 ∧ lk = true) then s.datum.badRun + 1 else 0 := runTo_ite hr (by
        rw [hst, datumInRange]
        by_cases h1 : -1100 ≤ pwr <;> by_cases h2 : pwr ≤ -900 <;> cases lk <;> simp [h1, h2])
      exact hbad.trans (ite_not _ _ _)
  · refine ⟨_, congrArg Host.Outcome.next (if_pos ⟨hstate, hpresent⟩), s.datumTo_state (by decide), s.datumTo_untraced 1, rfl,
      s.datumTo_sameFields 1, s.datumTo_visits (by decide), s.datumTo_frame 1⟩
  · have ht := exec_datumAcquireEnd pwr true sc rc ofs hstate
    have hjudged : (s.gridTaken []).datumJudged pwr true sc rc [] = { (s.datumTo 2).wrPair Reg.DTM.TRACE_STAMP_LO Reg.DTM.TRACE_STAMP_HI
        (s.datumTo 2).stamp.word with datum := { (s.datumTo 2).datum with scale := sc, ringCode := rc, due := true } } := by
      simp [State.gridTaken, State.datumJudged, datumInRange, hpl, hph, Nat.not_lt.mpr hnow]
    rw [hgrid, hjudged] at ht
    refine ⟨_, ht, ?_, ?_, rfl, rfl, rfl, fun g hg => ?_⟩
    · exact (State.rd_wrPair_ne (f := Reg.DTM.TRACE_STAMP_LO) (g := Reg.DTM.TRACE_STAMP_HI) _ _ (by decide) (by decide)).trans
        (s.datumTo_state (st := 2) (by decide))
    · exact (State.rd_wrPair_ne (f := Reg.DTM.TRACE_STAMP_LO) (g := Reg.DTM.TRACE_STAMP_HI) _ _ (by decide) (by decide)).trans
        (s.datumTo_untraced 2)
    · exact (State.rd_wrPair_ne (f := Reg.DTM.TRACE_STAMP_LO) (g := Reg.DTM.TRACE_STAMP_HI) _ _ (hg _ (by simp)) (hg _ (by simp))).trans
        (s.datumTo_sameFields 2 g fun f hf => hg f (List.mem_append_left [Reg.DTM.TRACE_STAMP_LO, Reg.DTM.TRACE_STAMP_HI] hf))
  · have ht := exec_datumAcquireEnd pwr false sc rc ofs hstate
    have hjudged : (s.gridTaken (s.gridOffsets ofs)).datumJudged pwr false sc rc (s.gridOffsets ofs) =
        (s.gridTaken (s.gridOffsets ofs)).datumReject 2 := if_pos rfl
    rw [hjudged] at ht
    obtain ⟨hst, hreason, huntraced, hscale, hshows⟩ := (s.gridTaken (s.gridOffsets ofs)).datumReject_spec (show 2 < 16 by decide)
    exact ⟨_, ht, hst, hreason, huntraced, hscale.trans (congrArg Datum.scale (s.gridTaken_datum _)), hshows⟩
  · have ht := exec_datumAcquireEnd pwr true sc rc ofs hstate
    have hjudged : (s.gridTaken (s.gridOffsets ofs)).datumJudged pwr true sc rc (s.gridOffsets ofs) =
        (s.gridTaken (s.gridOffsets ofs)).datumReject 1 := by
      refine (if_neg ?_).trans (if_pos ?_)
      · rw [State.gridTaken_datum, State.gridTaken_now]
        simpa using Nat.not_lt.mpr hnow
      · rcases hpwr with h | h <;> simp [datumInRange] <;> omega
    rw [hjudged] at ht
    obtain ⟨hst, hreason, -, hscale, hshows⟩ := (s.gridTaken (s.gridOffsets ofs)).datumReject_spec (show 1 < 16 by decide)
    exact ⟨_, ht, hst, hreason, hscale.trans (congrArg Datum.scale (s.gridTaken_datum _)), hshows⟩
  · have ht := exec_datumAcquireEnd pwr true sc rc ofs hstate
    have hjudged : (s.gridTaken [(x, o)]).datumJudged pwr true sc rc [(x, o)] = (s.gridTaken [(x, o)]).datumReject 3 := by
      refine (if_neg ?_).trans ((if_neg ?_).trans (if_pos ?_))
      · rw [State.gridTaken_datum, State.gridTaken_now]
        simpa using Nat.not_lt.mpr hnow
      · simp [datumInRange, hpl, hph]
      · simp [ho]
    rw [hgrid, hjudged] at ht
    obtain ⟨hst, hreason, -, -, hshows⟩ := (s.gridTaken [(x, o)]).datumReject_spec (show 3 < 16 by decide)
    have hline : (s.gridTaken [(x, o)]).shows Err.DTM.LINE_OFFSET = true := by
      have hany : [(x, o)].any (fun x => decide (150 < x.2.natAbs)) = true := by simp; omega
      rw [State.gridTaken, if_pos hany]
      exact State.raise1_shows _ (plain Err.DTM.LINE_OFFSET) (by decide)
    exact ⟨_, ht, hst, hreason, State.datumReject_shows _ 3 (by decide) (by decide) hline, hshows⟩
  · refine ⟨_, congrArg Host.Outcome.next (if_pos ⟨hstate, hlow⟩), ?_, ?_, ?_, State.raise1_shows _ (plain Err.DTM.DATUM_LOST) (by decide), fun g hg => ?_⟩
    · rw [State.raise1_rd _ _ _ (by decide), s.datumTo_state (by decide)]
    · rw [State.raise1_rd _ _ _ (by decide), s.datumTo_untraced]
      rfl
    · rw [State.raise1_datum]
      rfl
    · rw [State.raise1_rd _ _ _ fun f hf => hg f (List.mem_append_right _ hf)]
      exact s.datumTo_sameFields 0 g fun f hf => hg f (List.mem_append_left _ hf)
  · obtain ⟨hst, hres, huntraced, hscale, hshows⟩ := s.datumReject_spec (reason := s.datum.badReason) (by omega)
    exact ⟨_, congrArg Host.Outcome.next (if_pos ⟨hstate, hbad⟩), hst, hres, huntraced, hscale, hshows⟩
  · exact ⟨_, congrArg Host.Outcome.next (if_pos ⟨hstate, hlow⟩), s.datumTo_state (by decide), s.datumTo_untraced 0, s.datumTo_visits (by decide),
      s.datumTo_frame 0⟩
  · obtain ⟨regs, ht, -⟩ := exec_reacquire hd hl
    rw [if_pos (by simpa using hstate)] at ht
    exact ⟨_, ht, State.datumTo_state _ (by decide), State.datumTo_untraced _ 1, rfl, State.datumTo_visits _ (by decide), rfl⟩
  · obtain ⟨regs, ht, hrd⟩ := exec_reacquire hd hl
    rw [if_neg (by simp [hstate])] at ht
    exact ⟨_, ht, hrd.trans hstate, rfl⟩

end Sys2Proof.Machine
end

section
/-! SUPPORT. Calibration visits and passes (spec section 07, R218 to R225, R228). -/

namespace Sys2Proof.Machine

/-! ## Visits -/

theorem State.visitOf_seat {s : State} {k : Nat} {v : Visit} (h : s.visitOf k = some v) : idKey v.seat = k := by
  simpa using List.find?_some h

/-- A seat's visit after it was changed, its seat kept. -/
theorem State.setVisit_visitOf {s : State} {k : Nat} {v w : Visit} (h : s.visitOf k = some v) (hw : w.seat = v.seat) :
    (s.setVisit k w).visitOf k = some w := by
  have hv := State.visitOf_seat h
  have hkey : idKey w.seat = k := by rw [hw, hv]
  have hlist : ∀ l : List Visit, l.find? (fun x => idKey x.seat == k) = some v →
      (l.map fun x => if idKey x.seat = k then w else x).find? (fun x => idKey x.seat == k) = some w := by
    intro l
    induction l with
    | nil => simp
    | cons x l ih =>
      intro h
      by_cases hx : idKey x.seat = k
      · simp [hx, hkey]
      · rw [List.find?_cons_of_neg (by simpa using hx)] at h
        rw [List.map_cons, if_neg hx, List.find?_cons_of_neg (by simpa using hx)]
        exact ih h
  exact hlist _ h

/-- The visit of a seat that carries no lane. -/
def freshVisit (s : State) (u : SeatId) (pass : Bool) : Visit :=
  { seat := u, start := some (s.now + 1), narrow := false, pass := pass, scans := [], lockpt := .none,
    mbias := .none, icap := .none, hcell := .none, checked := .none, stepAt := .none, skipAt := .none,
    traced := s.rd Reg.DTM.STAT_STATE == 2, ended := false }

theorem State.startVisit_spare {s : State} {u : SeatId} (pass : Bool) (h : s.laneOfSeat (idKey u) = .none) : s.startVisit u pass =
    { s with cal := { s.cal with visits := s.cal.visits ++ [freshVisit s u pass] } }.pend (idKey u) .outOfService := by
  simp only [State.startVisit, h, Option.isSome_none, Bool.and_false, Bool.false_and, Bool.false_eq_true, if_false]
  rfl

/-! ## Steps (R225) -/

/-- A step of a visit in its strokes. -/
theorem exec_calibrationStep {s : State} {u : SeatId} {v : Visit} {st : Nat} (r : StepResult) (d : List DeltaEntry) (hrun : s.running = true)
    (hsafe : s.safe = false) (hvisit : s.visitOf (idKey u) = some v) (hstart : v.start = some st) (hlo : st ≤ s.now) (hhi : s.now ≤ st + 46)
    (hskip : v.skipAt ≠ some s.now) : exec (.calibrationStep u r d) s = .next (
      if r == .discarded || (needsSample r && !(s.chan (seatChanKey (idKey u))).clean) then (s.atCycle 959).skipStep (idKey u) v
      else
        let v1 := visitStep v (s.now - st) (s.seat (idKey u)).member r (s.liveEntry (idKey u)) (s.interpEntry (idKey u))
        if v.checked.isNone && v1.checked == some 0 then ((s.atCycle 959).setVisit (idKey u) { v1 with stepAt := some s.now }).queueDelta d
        else (s.atCycle 959).setVisit (idKey u) { v1 with stepAt := some s.now }) := by
  refine congrArg Host.Outcome.next ?_
  simp only [hvisit, hstart]
  exact if_pos (by simp [hrun, hsafe, hlo, hhi, hskip])

/-! ## The end of a visit (R225, R228, R229) -/

theorem exec_visitEnd {s : State} {u : SeatId} {v : Visit} {st : Nat} (hrun : s.running = true) (hsafe : s.safe = false)
    (hvisit : s.visitOf (idKey u) = some v) (hstart : v.start = some st) (hnow : s.now = st + 47) (hpass : v.pass = false) :
    exec (.visitEnd u) s = .next (match v.checked with
      | some 0 => ((((((s.atCycle 960).dropVisit (idKey u)).visitLive (idKey u)
          (visitResult v (s.liveEntry (idKey u)) (s.interpEntry (idKey u))) (s.interpEntry (idKey u))).renewSet (idKey u) v
            (visitResult v (s.liveEntry (idKey u)) (s.interpEntry (idKey u)))).latchOutputs).bump Reg.CAL.VISIT_CNT).pend (idKey u) .hotSpare
      | some n => ((((s.atCycle 960).dropVisit (idKey u)).raise1 (detail Err.CAL.IMPLAUSIBLE (visitInfo (idKey u) n))).bump Reg.CAL.FAIL_CNT).pend
          (idKey u) .search
      | .none => ((((s.atCycle 960).dropVisit (idKey u)).raise1 (detail Err.CAL.VISIT_FAIL (visitInfo (idKey u) 0))).bump Reg.CAL.FAIL_CNT).pend
          (idKey u) .search) := by
  refine congrArg Host.Outcome.next ?_
  simp only [hvisit, hstart]
  exact (if_pos (by simp [hrun, hsafe, hnow])).trans (if_neg (by simp [hpass]))

/-- Outside TRACED no set is renewed. -/
theorem State.renewSet_of_untraced {s : State} (k : Nat) (v : Visit) (r : CalEntry) (h : s.rd Reg.DTM.STAT_STATE ≠ 2) : s.renewSet k v r = s := by
  have hb : (v.traced && s.rd Reg.DTM.STAT_STATE == 2) = false := by simp [h]
  simp only [State.renewSet, hb]

theorem State.visitLive_seat (s : State) (k : Nat) (r interp : CalEntry) :
    (s.visitLive k r interp).seat k = { s.seat k with member := r.member, nextMember := .none, target := r.hbias } :=
  State.seat_setSeat_same _ _ _

/-- A visit with a plausible result, on the state without the visit. -/
theorem State.visitLive_done (s : State) (k : Nat) (r interp : CalEntry) :
    ∀ t, t = (((s.visitLive k r interp).latchOutputs).bump Reg.CAL.VISIT_CNT).pend k .hotSpare →
      t.visitOf k = s.visitOf k ∧ t.seat k = { s.seat k with member := r.member, nextMember := .none, target := r.hbias, next := some .hotSpare } ∧
      t.clk = s.clk ∧ (t.liveCal k).dHbias = r.hbias - interp.hbias ∧
      t.rd Reg.CAL.VISIT_CNT = (s.bump Reg.CAL.VISIT_CNT).rd Reg.CAL.VISIT_CNT ∧ sameFields [Reg.CAL.VISIT_CNT] s t ∧
      (∀ j, j ≠ k → t.seat j = s.seat j) := by
  rintro t rfl
  have hregs : ((s.visitLive k r interp).latchOutputs).regs = s.regs := rfl
  have hrd : ∀ g, ((s.visitLive k r interp).latchOutputs).rd g = s.rd g := fun g => by rw [State.rd, hregs]; rfl
  rw [State.pend]
  refine ⟨by rw [State.visitOf, State.visitOf]; rfl, ?_, by simp [State.latchOutputs, State.visitLive], ?_, (State.setSeat_rd _ _ _ _).trans (bump_rd_of_rd_eq (hrd _)),
    fun g hg => (State.setSeat_rd _ _ _ _).trans ((State.rd_bump_ne _ (hg _ (by simp))).trans (hrd g)), fun j hj => ?_⟩
  · refine (State.seat_setSeat_same _ _ _).trans ?_
    show { (s.visitLive k r interp).seat k with next := some SeatState.hotSpare } = _
    rw [State.visitLive_seat]
  · exact congrArg LiveCal.dHbias (State.liveCal_setLiveCal_same s _ _)
  · exact (State.seat_setSeat_ne _ _ _ _ hj.symm).trans (State.seat_setSeat_ne _ _ _ _ hj.symm)

/-- A visit that fails a check, on the state without the visit. -/
theorem State.visit_failed (s : State) (k n : Nat) :
    ∀ t, t = ((s.raise1 (detail Err.CAL.IMPLAUSIBLE (visitInfo k n))).bump Reg.CAL.FAIL_CNT).pend k .search →
      t.cal = s.cal ∧ (t.seat k).next = some .search ∧ t.shows Err.CAL.IMPLAUSIBLE = true ∧
      t.rd Reg.CAL.FAIL_CNT = (s.bump Reg.CAL.FAIL_CNT).rd Reg.CAL.FAIL_CNT := by
  rintro t rfl
  refine ⟨State.raise1_cal _ _, congrArg Seat.next (State.seat_setSeat_same _ _ _), ?_, ?_⟩
  · exact (congrArg (bitAt · 0) (State.rd_bump_ne (f := Reg.CAL.FAIL_CNT) (g := Reg.ERR_CORR 0x006) _ (by decide))).trans
      (State.raise1_shows s (detail Err.CAL.IMPLAUSIBLE (visitInfo k n)) (show 0 < 32 by decide))
  · exact bump_rd_of_rd_eq (State.raise1_rd _ _ _ (by decide : ∀ f ∈ eventFields Err.CAL.IMPLAUSIBLE, f.key ≠ Reg.CAL.FAIL_CNT.key))

/-! ## Passes (R221 to R223) -/

theorem State.queuePass_bit (s : State) (q : Nat) {p : Nat} (hp : p < 16) : bitAt ((s.queuePass q).rd Reg.CAL.PASS_QUEUED) p =
    (bitAt (s.rd Reg.CAL.PASS_QUEUED) p || (decide (q = p) && !s.passing p)) := by
  unfold State.queuePass
  by_cases h : q = p
  · subst h
    by_cases hpass : s.passing q = true
    · simp [hpass]
    · by_cases hq : bitAt (s.rd Reg.CAL.PASS_QUEUED) q = true
      · simp [hq]
      · rw [if_neg (by simp [hpass, hq]), s.wrBit_bit Reg.CAL.PASS_QUEUED q q true hp]
        simp [hpass]
  · split
    · simp [h]
    · rw [s.wrBit_bit Reg.CAL.PASS_QUEUED q p true hp]
      simp [h]

theorem State.queuePass_sameFields (s : State) (q : Nat) : sameFields [Reg.CAL.PASS_QUEUED] s (s.queuePass q) := by
  unfold State.queuePass
  split
  · exact fun _ _ => rfl
  · exact s.wrBit_sameFields _ _ _

theorem State.queuePass_frame (s : State) (q : Nat) : s.queuePass q = { s with regs := (s.queuePass q).regs } := by
  unfold State.queuePass
  split <;> rfl

theorem queuePasses_spec (l : List Nat) (s : State) : (∀ p < 16, bitAt ((l.foldl State.queuePass s).rd Reg.CAL.PASS_QUEUED) p =
    (bitAt (s.rd Reg.CAL.PASS_QUEUED) p || (decide (p ∈ l) && !s.passing p))) ∧ sameFields [Reg.CAL.PASS_QUEUED] s (l.foldl State.queuePass s) ∧
      l.foldl State.queuePass s = { s with regs := (l.foldl State.queuePass s).regs } := by
  induction l generalizing s with
  | nil => exact ⟨fun p _ => by simp, fun _ _ => rfl, rfl⟩
  | cons q l ih =>
    obtain ⟨hbit, hsame, hframe⟩ := ih (s.queuePass q)
    refine ⟨fun p hp => ?_, fun g hg => (hsame g hg).trans (s.queuePass_sameFields q g hg), ?_⟩
    · have hpassing : (s.queuePass q).passing p = s.passing p :=
        congrArg (bitAt · p) (s.queuePass_sameFields q Reg.CAL.PASS_ACTIVE (by decide))
      rw [List.foldl_cons, hbit p hp, s.queuePass_bit q hp, hpassing]
      by_cases h : p = q
      · simp only [h, List.mem_cons_self, decide_true, Bool.true_and]
        cases bitAt (s.rd Reg.CAL.PASS_QUEUED) q <;> cases s.passing q <;> simp
      · simp [h, Ne.symm h]
    · rw [List.foldl_cons]
      refine hframe.trans ?_
      rw [s.queuePass_frame q]

theorem any_congr_of_mem {α : Type} {l : List α} {f g : α → Bool} (h : ∀ a ∈ l, f a = g a) : l.any f = l.any g := by
  rw [Bool.eq_iff_iff, List.any_eq_true, List.any_eq_true]
  exact ⟨fun ⟨a, ha, hf⟩ => ⟨a, ha, h a ha ▸ hf⟩, fun ⟨a, ha, hg⟩ => ⟨a, ha, (h a ha).symm ▸ hg⟩⟩

/-- What may be visited rests on no register of calibration. -/
theorem State.visitable_of_cal {s : State} {regs : Tab Nat} (h : ∀ g : Field, g.page ≠ 0x006 → g.off < 0x1000 ∧ g.lo < 32 →
    ({ s with regs } : State).rd g = s.rd g) (k : Nat) : ({ s with regs } : State).visitable k = s.visitable k := by
  have hlent : ∀ b, ({ s with regs } : State).lentBank b = s.lentBank b := fun b => any_congr_of_mem fun j hj => by
    have hj : j < 8 := List.mem_range.mp hj
    have hstate := h (Reg.FLM.FAN_STAT_STATE j) (show 0x008 ≠ 0x006 by decide) ⟨by simp only [Reg.FLM.FAN_STAT_STATE]; omega, by simp [Reg.FLM.FAN_STAT_STATE]⟩
    have hmask := h (Reg.FLM.FAN_CFG_MASK j) (show 0x008 ≠ 0x006 by decide) ⟨by simp only [Reg.FLM.FAN_CFG_MASK]; omega, by simp [Reg.FLM.FAN_CFG_MASK]⟩
    have hsource := h (Reg.FLM.FAN_CFG_SOURCE j) (show 0x008 ≠ 0x006 by decide)
      ⟨by simp only [Reg.FLM.FAN_CFG_SOURCE]; omega, by simp [Reg.FLM.FAN_CFG_SOURCE]⟩
    have hlit : ({ s with regs } : State).fanLit j = s.fanLit j := by
      unfold State.fanLit State.fanState
      rw [hstate]
      rfl
    rw [hlit, hmask, hsource]
    rfl
  have hdark : ({ s with regs } : State).seatDark k = s.seatDark k := by
    unfold State.seatDark
    split
    · rfl
    · rw [h (Reg.OPT.LOS (portOfSeat k)) (show 0x060 + portOfSeat k ≠ 0x006 by omega) (show 0x078 < 0x1000 ∧ 0 < 32 by decide)]
  unfold State.visitable State.quenchedSeat
  rw [hdark, hlent]
  rfl

/-- A pass that starts, at the first pair that has a seat to visit. -/
theorem State.advancePass_of_visitable {s : State} {p k : Nat} (hpass : s.passing p = true) (hvisits : s.portVisits p = [])
    (hk : k < 36) (hvisit : s.visitable (36 * p + k) = true) : ∃ j, s.advancePass p 0 = s.setPassPair p j := by
  have hpair : ∃ j ∈ (List.range 18).filter (0 ≤ ·), (s.visitable (seatKey p .tx j) || s.visitable (seatKey p .rx j)) = true := by
    by_cases htx : k < 18
    · refine ⟨k, by simp [htx], ?_⟩
      rw [show seatKey p .tx k = 36 * p + k by simp only [seatKey, sideNo]; omega, hvisit]
      rfl
    · refine ⟨k - 18, by simp; omega, ?_⟩
      rw [show seatKey p .rx (k - 18) = 36 * p + k by simp only [seatKey, sideNo]; omega, hvisit, Bool.or_true]
  unfold State.advancePass
  rw [if_pos (by simp [hpass, hvisits])]
  split
  · exact ⟨_, rfl⟩
  · rename_i hnone
    obtain ⟨j, hj, hv⟩ := hpair
    exact absurd hv (List.find?_eq_none.mp hnone j hj)

/-- Settles O41: visits start, step and end, and passes with them, each as its own equation says. -/
theorem seatsAreVisited : Obligations.SeatsAreVisited := by
  refine ⟨fun s u i hrun hsafe hturn hcursor hseat hctrl hstep hpass hnext hlane => ?_, fun s u hrun hsafe hturn hlane => ?_, fun s u hsafe => ?_,
    fun s u v st b d hrun hsafe hvisit hstart hlo hhi hside hlock hchecked hskip hclean => ?_,
    fun s u v st d hrun hsafe hvisit hstart hnow hdone hd hchecked hskip hfail hq hs => ?_,
    fun s u v st r d hrun hsafe hvisit hstart hlo hhi hskip hr => ?_,
    fun s u v st hrun hsafe hdatum hvisit hstart hnow hchecked hpass => ?_, fun s u v st n hrun hsafe hvisit hstart hnow hchecked hn hpass => ?_,
    fun s u v st hvisit hstart hnow => ?_, fun s via ps hd hl => ?_, fun s p hrun hstep hpass htemp => ?_, fun s p hrun hsafe hnext hvisits hcount => ?_⟩
  · have ht : exec (.visitStart u) s = .next { s.startVisit u false with cal := { (s.startVisit u false).cal with
        cursor := Tab.write 0 (s.startVisit u false).cal.cursor u.port.val ((i + 1) % 36)
        nextVisit := Tab.write 0 (s.startVisit u false).cal.nextVisit u.port.val
          ((s.startVisit u false).now + (s.startVisit u false).rd Reg.CAL.BG_GAP) } } := by
      refine congrArg Host.Outcome.next ((if_pos (by simp [hrun, hsafe])).trans ((if_neg (by simp [hturn])).trans ?_))
      simp only [hcursor]
      exact if_pos ⟨hseat, hctrl, hstep, by simp [hpass], hnext⟩
    rw [State.startVisit_spare false hlane] at ht
    refine ⟨_, ht, ⟨freshVisit s u false, rfl, rfl, rfl, rfl⟩, ?_, fun k hk => State.seat_setSeat_ne _ _ _ _ (Ne.symm hk),
      Tab.read_write_same _ _ _ _, Tab.read_write_same _ _ _ _, rfl⟩
    exact congrArg Seat.next (State.seat_setSeat_same _ _ _)
  · have ht : exec (.visitStart u) s = .next (s.startVisit u true) :=
      congrArg Host.Outcome.next ((if_pos (by simp [hrun, hsafe])).trans (if_pos hturn))
    rw [State.startVisit_spare true hlane] at ht
    refine ⟨_, ht, ⟨freshVisit s u true, rfl, rfl, rfl, rfl⟩, ?_, rfl⟩
    exact congrArg Seat.next (State.seat_setSeat_same _ _ _)
  · exact congrArg Host.Outcome.next (if_neg (by simp [hsafe]))
  · have hstep : visitStep v (s.now - st) (s.seat (idKey u)).member (.modBias b) (s.liveEntry (idKey u)) (s.interpEntry (idKey u)) =
        { v with mbias := some b.toNat } := by
      have h36 : 36 ≤ s.now - st := by omega
      simp [visitStep, hchecked, hside, hlock, h36]
    have ht := exec_calibrationStep (.modBias b) d hrun hsafe hvisit hstart (by omega) hhi hskip
    rw [if_neg (by simp [needsSample, hclean]), hstep] at ht
    dsimp only at ht
    rw [if_neg (by simp [hchecked])] at ht
    exact ⟨_, ht, State.setVisit_visitOf (s := s.atCycle 959) hvisit rfl, rfl, rfl, rfl, rfl⟩
  · have hstep : visitStep v (s.now - st) (s.seat (idKey u)).member .checks (s.liveEntry (idKey u)) (s.interpEntry (idKey u)) =
        { v with checked := some 0 } := by
      have hn : s.now - st = 46 := by omega
      simp only [visitStep, hchecked, hn, hdone, hfail]
      rfl
    have ht := exec_calibrationStep .checks d hrun hsafe hvisit hstart (by omega) (by omega) hskip
    rw [if_neg (by simp [needsSample]), hstep] at ht
    dsimp only at ht
    rw [if_pos (by simp [hchecked]), State.queueDelta_eq _ hd] at ht
    refine ⟨_, ht, State.setVisit_visitOf (s := s.atCycle 959) hvisit rfl, ?_, rfl⟩
    exact congrArg LvlState.queue (if_pos (show s.lvl.queue.length < 8 ∧ s.lvl.senders = [] from ⟨hq, hs⟩))
  · have ht := exec_calibrationStep r d hrun hsafe hvisit hstart hlo hhi hskip
    rw [if_pos (by rcases hr with h | ⟨h1, h2⟩ <;> simp [*])] at ht
    exact ⟨_, ht, State.setVisit_visitOf (s := s.atCycle 959) hvisit rfl, rfl, rfl, rfl⟩
  · have ht := exec_visitEnd hrun hsafe hvisit hstart hnow hpass
    simp only [hchecked] at ht
    rw [State.renewSet_of_untraced (s := ((s.atCycle 960).dropVisit (idKey u)).visitLive _ _ _) _ _ _ hdatum] at ht
    obtain ⟨hover, hseat, hclk, hlive, hcnt, hsame, hseats⟩ := ((s.atCycle 960).dropVisit (idKey u)).visitLive_done (idKey u)
      (visitResult v (s.liveEntry (idKey u)) (s.interpEntry (idKey u))) (s.interpEntry (idKey u)) _ rfl
    refine ⟨_, ht, hover.trans (State.visitOf_dropVisit_same _ _), ?_, (congrArg ClkState.cycle hclk).trans rfl, ?_, ?_, hlive, hcnt, hsame, hseats⟩
    · rw [hseat]
    · rw [hseat]
    · rw [hseat]
  · obtain ⟨m, rfl⟩ := Nat.exists_eq_succ_of_ne_zero hn
    have ht := exec_visitEnd hrun hsafe hvisit hstart hnow hpass
    simp only [hchecked] at ht
    obtain ⟨hcal, hnext, hshows, hcnt⟩ := ((s.atCycle 960).dropVisit (idKey u)).visit_failed (idKey u) (m + 1) _ rfl
    refine ⟨_, ht, ?_, hnext, hshows, hcnt, (congrArg CalState.live hcal).trans rfl, (congrArg CalState.sets hcal).trans rfl⟩
    rw [State.visitOf, hcal]
    exact State.visitOf_dropVisit_same (s.atCycle 960) _
  · refine congrArg Host.Outcome.next ?_
    simp only [hvisit, hstart]
    exact if_neg (by simp [Ne.symm hnow])
  · obtain ⟨hbit, hsame, hframe⟩ := queuePasses_spec (setBits 16 ps.toNat) s
    refine ⟨_, congrArg Host.Outcome.next (State.access_of_not_locked ps.toNat State.wrPassReq hd (by decide) hl), fun p hp => ?_, hsame, hframe⟩
    refine (hbit p hp).trans ?_
    simp [mem_setBits, hp, bitAt_eq_testBit, BitVec.testBit_toNat]
  · have ht : exec (.passTrigger p) s = .next (s.queuePass p.val) := congrArg Host.Outcome.next (if_pos (by simp [hrun, hstep, htemp]))
    refine ⟨_, ht, ?_, s.queuePass_sameFields _, s.queuePass_frame _⟩
    rw [s.queuePass_bit _ p.isLt]
    simp [hpass]
  · have ht : exec (.passStart p) s = .next
        (((s.wrBit Reg.CAL.PASS_QUEUED p.val false).wrBit Reg.CAL.PASS_ACTIVE p.val true).advancePass p.val 0) :=
      congrArg Host.Outcome.next (if_pos (by simp [hrun, hsafe, hnext, hvisits, hcount]))
    have hactive : bitAt (((s.wrBit Reg.CAL.PASS_QUEUED p.val false).wrBit Reg.CAL.PASS_ACTIVE p.val true).rd Reg.CAL.PASS_ACTIVE) p.val = true :=
      (State.wrBit_bit _ Reg.CAL.PASS_ACTIVE p.val p.val true p.isLt).trans (if_pos rfl)
    have hqueued : bitAt (((s.wrBit Reg.CAL.PASS_QUEUED p.val false).wrBit Reg.CAL.PASS_ACTIVE p.val true).rd Reg.CAL.PASS_QUEUED) p.val = false :=
      (congrArg (bitAt · p.val) (State.wrBit_sameFields _ Reg.CAL.PASS_ACTIVE p.val true Reg.CAL.PASS_QUEUED (by decide))).trans
        ((State.wrBit_bit _ Reg.CAL.PASS_QUEUED p.val p.val false p.isLt).trans (if_pos rfl))
    have hsame : sameFields [Reg.CAL.PASS_QUEUED, Reg.CAL.PASS_ACTIVE] s
        ((s.wrBit Reg.CAL.PASS_QUEUED p.val false).wrBit Reg.CAL.PASS_ACTIVE p.val true) := fun g hg =>
      (State.wrBit_sameFields _ Reg.CAL.PASS_ACTIVE p.val true g (by simpa using hg _ (by simp))).trans
        (State.wrBit_sameFields s Reg.CAL.PASS_QUEUED p.val false g (by simpa using hg Reg.CAL.PASS_QUEUED (by simp)))
    have hpassable : s.passable p.val = true := by
      simpa [hvisits] using List.find?_some hnext
    obtain ⟨k, hk, hvisit⟩ := List.any_eq_true.mp (Bool.and_eq_true_iff.mp hpassable).1
    have hfound : ((s.wrBit Reg.CAL.PASS_QUEUED p.val false).wrBit Reg.CAL.PASS_ACTIVE p.val true).visitable (36 * p.val + k) = true :=
      (State.visitable_of_cal (s := s) (regs := ((s.wrBit Reg.CAL.PASS_QUEUED p.val false).wrBit Reg.CAL.PASS_ACTIVE p.val true).regs)
        (fun g hpage hg => hsame g (by
        simp only [List.forall_mem_cons, List.not_mem_nil, false_implies, implies_true, and_true]
        exact ⟨Field.key_ne_of_page (Ne.symm hpage) (by decide) hg, Field.key_ne_of_page (Ne.symm hpage) (by decide) hg⟩)) _).trans hvisit
    obtain ⟨j, hstarts⟩ := State.advancePass_of_visitable hactive hvisits (List.mem_range.mp hk) hfound
    rw [hstarts] at ht
    exact ⟨_, ht, hqueued, hactive, hsame, rfl⟩

end Sys2Proof.Machine
end

section
/-! SUPPORT. The store (spec section 07, R230 to R245). -/

namespace Sys2Proof.Machine

/-! ## Words of the store -/

theorem State.writeStore_nvsWord_same (s : State) (a : Nat) (w : DWord) : (s.writeStore a w).nvsWord a = w := Tab.read_write_same _ _ _ _

theorem State.writeStore_nvsWord_ne (s : State) {a b : Nat} (w : DWord) (h : b ≠ a) : (s.writeStore a w).nvsWord b = s.nvsWord b :=
  Tab.read_write_ne _ _ _ _ h.symm

theorem State.spoilWord_nvsEcc (s : State) (a : Nat) : (s.spoilWord a).nvsEcc a = .uncorrectable := by
  simp [State.nvsEcc, State.spoilWord]

/-! ## Tolfa's record writes (R235, R238) -/

theorem State.recordBegun_regs (s : State) (r : Nat) : (s.recordBegun r).regs = s.regs := by
  unfold State.recordBegun
  dsimp only
  split
  · rfl
  · split <;> rfl

theorem State.recordBegun_nvs (s : State) (r : Nat) : (s.recordBegun r).nvs.lastWrite = Tab.write .none s.nvs.lastWrite r (some s.now) ∧
    (s.recordBegun r).nvs.words = s.nvs.words := by
  unfold State.recordBegun
  dsimp only
  split
  · exact ⟨rfl, rfl⟩
  · split <;> exact ⟨rfl, rfl⟩

/-- The slot of a Recovery's next word. -/
def State.wordSlot (s : State) : State :=
  { s.atCycle (1040 + 56 * s.nvs.slot) with nvs := { s.nvs with slot := s.nvs.slot + 1 } }

theorem State.filled_word (s : State) (w : OwnWrite) : (s.filled w).word = w.word ∧ (s.filled w).pageNo = w.pageNo ∧ (s.filled w).page = w.page := by
  unfold State.filled
  split <;> exact ⟨rfl, rfl, rfl⟩

theorem exec_nvsWordWrite_own {s : State} {w : OwnWrite} (bad : Option (Fin 32)) (hrun : s.running = true) (hslot : s.nvs.slot < 4)
    (hown : s.nvs.own = some w) (hcmd : s.nvs.cmd = .none) (hgo : s.ownMayGo w = true) :
    exec (.nvsWordWrite bad) s = .next (s.wordSlot.ownWord w bad) := by
  refine congrArg Host.Outcome.next ((if_pos (by simp [hrun, hslot])).trans ?_)
  simp only [hown, hcmd]
  exact if_pos hgo

theorem exec_nvsWordWrite_cmd {s : State} {c : NvsCmd} (bad : Option (Fin 32)) (hrun : s.running = true) (hslot : s.nvs.slot < 4)
    (hown : s.nvs.own = .none) (hcmd : s.nvs.cmd = some c) (hwrite : c.write = true) :
    exec (.nvsWordWrite bad) s = .next (s.wordSlot.cmdWord c bad) := by
  refine congrArg Host.Outcome.next ((if_pos (by simp [hrun, hslot])).trans ?_)
  simp only [hown, hcmd]
  exact if_pos hwrite

/-- The next word of a record write within a page. -/
theorem State.ownWord_within (s : State) {w : OwnWrite} (bad : Option (Fin 32)) (h : w.word < 31) : s.ownWord w bad =
    { s.writeStore (w.pageNo * 32 + w.word) (((s.filled w).pages.getD w.page []).getD w.word 0) with
      nvs := { (s.writeStore (w.pageNo * 32 + w.word) (((s.filled w).pages.getD w.page []).getD w.word 0)).nvs with
        own := some { s.filled w with word := w.word + 1 } } } := by
  obtain ⟨hword, hpage, hno⟩ := s.filled_word w
  unfold State.ownWord OwnWrite.at
  dsimp only
  rw [hword, hpage, hno]
  exact if_neg (by omega)

/-- The read-back of your page. -/
def State.readBack (s : State) (c : NvsCmd) : Option (Fin 32) → State
  | .none => s
  | some b => s.spoilWord (c.page * 32 + b.val)

/-- The end of your page. -/
theorem State.cmdWord_last (s : State) {c : NvsCmd} (bad : Option (Fin 32)) (h : c.word = 31) : s.cmdWord c bad =
    { (((((s.writeStore (c.page * 32 + 31) (c.words.getD 31 0)).readBack c bad).bump Reg.NVS.WRITE_CNT).wr Reg.NVS.STAT_BUSY 0).wr
        Reg.NVS.STAT_RESULT (if bad.isSome then 2 else 0)) with
      nvs := { ((s.writeStore (c.page * 32 + 31) (c.words.getD 31 0)).readBack c bad).nvs with cmd := .none } } := by
  unfold State.cmdWord
  rw [h]
  cases bad <;> rfl

theorem State.readBack_nvsWord (s : State) (c : NvsCmd) (bad : Option (Fin 32)) (a : Nat) : (s.readBack c bad).nvsWord a = s.nvsWord a := by
  cases bad <;> rfl

theorem State.readBack_regs (s : State) (c : NvsCmd) (bad : Option (Fin 32)) : (s.readBack c bad).regs = s.regs := by
  cases bad <;> rfl

/-! ## Your commands (R240 to R242) -/

theorem bits_cmd_op {op pg : Nat} (hop : op < 4) : bits (op * 2 ^ 30 + pg % 2 ^ 14) 31 30 = op ∧ bits (op * 2 ^ 30 + pg % 2 ^ 14) 13 0 = pg % 2 ^ 14 := by
  unfold bits
  omega

/-- A command written. -/
def State.nvsCommanded (s : State) (op pg : Nat) : State := State.wrNvsCmd (op * 2 ^ 30 + pg % 2 ^ 14) s

theorem exec_nvsCmdRead {s : State} {via : Path} (pg : Nat) (hd : s.deaf via = false) (hl : s.locked via 0x005 = false) :
    exec (.nvsCmdRead via pg) s = .next (s.nvsCommanded 1 pg) :=
  congrArg Host.Outcome.next (State.access_of_not_locked _ State.wrNvsCmd hd (by decide) hl)

theorem exec_nvsCmdWrite {s : State} {via : Path} (pg : Nat) (hd : s.deaf via = false) (hl : s.locked via 0x005 = false) :
    exec (.nvsCmdWrite via pg) s = .next (s.nvsCommanded 2 pg) :=
  congrArg Host.Outcome.next (State.access_of_not_locked _ State.wrNvsCmd hd (by decide) hl)

theorem State.nvsCommanded_busy {s : State} {op : Nat} (pg : Nat) (hop : op = 1 ∨ op = 2) (h : s.flag Reg.NVS.STAT_BUSY = true) :
    s.nvsCommanded op pg = s.wr Reg.NVS.STAT_CMD_LOST 1 := by
  unfold State.nvsCommanded State.wrNvsCmd
  rw [(bits_cmd_op (by omega)).1, (bits_cmd_op (by omega)).2]
  rcases hop with rfl | rfl <;> simp [h]

theorem State.nvsCommanded_read {s : State} (pg : Nat) (h : s.flag Reg.NVS.STAT_BUSY = false) : s.nvsCommanded 1 pg =
    { s.wr Reg.NVS.STAT_BUSY 1 with nvs := { s.nvs with cmd := some ⟨false, pg % 2 ^ 14, [], 0, false⟩ } } := by
  unfold State.nvsCommanded State.wrNvsCmd
  rw [(bits_cmd_op (by decide)).1, (bits_cmd_op (by decide)).2]
  simp [h]

theorem State.nvsCommanded_write {s : State} {pg : Nat} (h : s.flag Reg.NVS.STAT_BUSY = false) (hpg : pg < 2 ^ 14) : s.nvsCommanded 2 pg =
    if pg < 0x3000 then s.nvsResult 1 else if s.safe then s.nvsResult 3
    else { s.wr Reg.NVS.STAT_BUSY 1 with nvs := { s.nvs with cmd := some ⟨true, pg, s.bufPage, 0, false⟩ } } := by
  unfold State.nvsCommanded State.wrNvsCmd
  rw [(bits_cmd_op (by decide)).1, (bits_cmd_op (by decide)).2, Nat.mod_eq_of_lt hpg]
  simp [h]

/-! ## A read (R240) -/

/-- Whether a word of a read page is uncorrectable, as it is read or in the store. -/
def State.readBad (s : State) (c : NvsCmd) (ue : BitVec 32) (i : Nat) : Bool :=
  ue.getLsbD i || s.nvsEcc (c.page * 32 + i) == .uncorrectable

/-- Whether a word of a read page was corrected. -/
def State.readFixed (s : State) (c : NvsCmd) (ce ue : BitVec 32) (i : Nat) : Bool :=
  !s.readBad c ue i && (ce.getLsbD i || s.nvsEcc (c.page * 32 + i) == .corrected)

/-- One word of a read page in the window. -/
def State.winWord (c : NvsCmd) (bad : Nat → Bool) (n : Nat) (s : State) (i : Nat) : State :=
  s.wrPair (Reg.NVS.WIN (2 * i)) (Reg.NVS.WIN (2 * i + 1)) (s.rawWord n (c.page * 32 + i) (bad i)).toNat

/-- A read page in the window. -/
def State.winLoaded (s : State) (c : NvsCmd) (ue : BitVec 32) (words : List Nat) : State :=
  words.foldl (State.winWord c (s.fresh.2.readBad c ue) s.fresh.1) s.fresh.2

/-- The ECC status of half of a read page's words. -/
def State.eccStatus (s : State) (c : NvsCmd) (ce ue : BitVec 32) (half : List Nat) (k : Nat) : Nat :=
  (half.map fun i =>
    (if s.readBad c ue (16 * k + i) then 2 else if s.readFixed c ce ue (16 * k + i) then 1 else 0) * 4 ^ i).sum

/-- A read that ends on a window as loaded, before its corrected words are counted. -/
def State.readClosed (s : State) (c : NvsCmd) (ecc0 ecc1 : Nat) : State :=
  { ((((s.wr Reg.NVS.WIN_ECC0 ecc0).wr Reg.NVS.WIN_ECC1 ecc1).wr Reg.NVS.WIN_PAGE c.page).wr Reg.NVS.STAT_BUSY 0).wr
      Reg.NVS.STAT_RESULT 0 with nvs := { s.nvs with cmd := .none } }

theorem State.readClosed_rd (s : State) (c : NvsCmd) (ecc0 ecc1 : Nat) (g : Field) : (s.readClosed c ecc0 ecc1).rd g =
    (((((s.wr Reg.NVS.WIN_ECC0 ecc0).wr Reg.NVS.WIN_ECC1 ecc1).wr Reg.NVS.WIN_PAGE c.page).wr Reg.NVS.STAT_BUSY 0).wr
      Reg.NVS.STAT_RESULT 0).rd g := rfl

/-- A read that ends, over the words of a page and of its halves. -/
def State.readOver (s : State) (c : NvsCmd) (ce ue : BitVec 32) (words half : List Nat) : State :=
  ((s.winLoaded c ue words).readClosed c (s.fresh.2.eccStatus c ce ue half 0) (s.fresh.2.eccStatus c ce ue half 1)).correctedRead
    ((words.filter (s.fresh.2.readFixed c ce ue)).map (c.page * 32 + ·))

/-- A read that ends. -/
def State.readDone (s : State) (c : NvsCmd) (ce ue : BitVec 32) : State := s.readOver c ce ue (List.range 32) (List.range 16)

/-- A read that ends, as the model writes it: stated for any lists of words, so that none is evaluated. -/
theorem State.readOver_eq (s : State) (c : NvsCmd) (ce ue : BitVec 32) (words half : List Nat) : s.readOver c ce ue words half =
    (let (n, s) := s.fresh
     let bad := fun i => ue.getLsbD i || s.nvsEcc (c.page * 32 + i) == .uncorrectable
     let fixed := fun i => !bad i && (ce.getLsbD i || s.nvsEcc (c.page * 32 + i) == .corrected)
     let status := fun i => if bad i then 2 else if fixed i then 1 else 0
     let eccOf := fun k => (half.map fun i => status (16 * k + i) * 4 ^ i).sum
     let s := words.foldl (fun s i =>
       s.wrPair (Reg.NVS.WIN (2 * i)) (Reg.NVS.WIN (2 * i + 1)) (s.rawWord n (c.page * 32 + i) (bad i)).toNat) s
     let s := ((s.wr Reg.NVS.WIN_ECC0 (eccOf 0)).wr Reg.NVS.WIN_ECC1 (eccOf 1)).wr Reg.NVS.WIN_PAGE c.page
     let s := { (s.wr Reg.NVS.STAT_BUSY 0).wr Reg.NVS.STAT_RESULT 0 with nvs := { s.nvs with cmd := .none } }
     s.correctedRead ((words.filter fixed).map (c.page * 32 + ·))) := rfl

theorem exec_nvsReadComplete {s : State} {c : NvsCmd} (ce ue : BitVec 32) (hcmd : s.nvs.cmd = some c) (hwrite : c.write = false)
    (hmid : s.nvs.midPage = false) : exec (.nvsReadComplete ce ue) s = .next (s.readDone c ce ue) := by
  rw [State.readDone, State.readOver_eq]
  refine congrArg Host.Outcome.next ?_
  simp only [hcmd]
  rw [if_neg (by simp [hwrite, hmid])]

theorem State.winLoaded_nvs (s : State) (c : NvsCmd) (ue : BitVec 32) : (s.winLoaded c ue (List.range 32)).nvs = s.nvs :=
  foldl_untouched (State.winWord c (s.fresh.2.readBad c ue) s.fresh.1) State.nvs (fun _ _ _ => rfl) s.fresh.2

theorem NVS_WIN_key_ne {j k : Nat} (h : j ≠ k) : (Reg.NVS.WIN j).key ≠ (Reg.NVS.WIN k).key := by
  unfold Reg.NVS.WIN Field.key
  dsimp only
  omega

theorem State.wrPair_rdPair (s : State) {f g : Field} (hfg : g.key ≠ f.key) (hf : f.width = 32) (hg : g.width = 32) {v : Nat} (hv : v < 2 ^ 64) :
    (s.wrPair f g v).rdPair f g = v := by
  rw [State.rdPair, State.wrPair, State.rd_wr_ne _ _ hfg, State.rd_wr_same, State.rd_wr_same, hf, hg]
  omega

/-- A word that is neither uncorrectable nor of the factory region is in the window as it stands in the store. -/
theorem State.winLoaded_word (s : State) (c : NvsCmd) (ue : BitVec 32) {i : Nat} (hi : i < 32) (hbad : s.readBad c ue i = false)
    (hpage : 0x100 ≤ c.page) : (s.winLoaded c ue (List.range 32)).rdPair (Reg.NVS.WIN (2 * i)) (Reg.NVS.WIN (2 * i + 1)) =
      (s.nvsWord (c.page * 32 + i)).toNat := by
  refine foldl_at (State.winWord c (s.fresh.2.readBad c ue) s.fresh.1) (pre := fun t => t.nvs = s.nvs)
    (post := fun t => t.rdPair (Reg.NVS.WIN (2 * i)) (Reg.NVS.WIN (2 * i + 1)) = (s.nvsWord (c.page * 32 + i)).toNat) List.nodup_range
    (List.mem_range.mpr hi) (fun t j _ _ ht => ht) (fun t ht => ?_) (fun t j hj hji ht => ?_) rfl
  · have hword : t.rawWord s.fresh.1 (c.page * 32 + i) (s.fresh.2.readBad c ue i) = s.nvsWord (c.page * 32 + i) := by
      rw [State.rawWord, show s.fresh.2.readBad c ue i = false from hbad, if_neg Bool.false_ne_true, if_neg (by omega), State.nvsWord, ht]
      rfl
    rw [State.winWord, hword, State.wrPair_rdPair _ (NVS_WIN_key_ne (by omega)) rfl rfl (BitVec.isLt _)]
  · rw [← ht, State.winWord, State.rdPair, State.rd_wrPair_ne _ _ (NVS_WIN_key_ne (by omega))
      (NVS_WIN_key_ne (by omega)), State.rd_wrPair_ne _ _ (NVS_WIN_key_ne (by omega))
      (NVS_WIN_key_ne (by omega))]
    rfl

/-- The counting of corrected words leaves every register but the count and the events'. -/
theorem State.correctedRead_rd (s : State) (l : List Nat) {g : Field} (hcnt : Reg.NVS.CE_CNT.key ≠ g.key)
    (hg : ∀ f ∈ eventFields Err.NVS.ECC_CE, f.key ≠ g.key) : (s.correctedRead l).rd g = s.rd g :=
  (State.raise_rd _ _ g fun e he => by obtain ⟨a, -, rfl⟩ := List.mem_map.mp he; exact hg).trans (State.rd_addTo_ne _ _ hcnt)

theorem State.correctedRead_nvs (s : State) (l : List Nat) : (s.correctedRead l).nvs = s.nvs :=
  State.raise_same State.nvs State.raise1_nvs _ _

theorem State.correctedRead_shows (s : State) {l : List Nat} {a : Nat} (h : a ∈ l) : (s.correctedRead l).shows Err.NVS.ECC_CE = true :=
  State.raise_shows _ (List.mem_map_of_mem h) (show 0 < 32 by decide)

/-- A corrected word, where a mask has one that the other does not. -/
theorem exists_bit_of_ne_zero {x : BitVec 32} (h : x ≠ 0) : ∃ i < 32, x.getLsbD i = true := by
  by_contra hno
  push Not at hno
  refine h (BitVec.eq_of_getLsbD_eq fun i hi => ?_)
  simpa using hno i hi

theorem NVS_WIN_key_ne_of_off {k : Nat} (hk : k < 64) {f : Field} (hf : f.off < 0x100 ∨ 0x200 ≤ f.off) (hlo : f.off < 0x1000 ∧ f.lo < 32) :
    f.key ≠ (Reg.NVS.WIN k).key :=
  Field.key_ne_of_off (by simp only [Reg.NVS.WIN]; omega) hlo ⟨by simp only [Reg.NVS.WIN]; omega, by simp [Reg.NVS.WIN]⟩

/-- The fields of an ECC event lie outside the window. -/
theorem eccFields_off : ∀ f ∈ eventFields Err.NVS.ECC_CE, (f.off < 0x100 ∨ 0x200 ≤ f.off) ∧ f.off < 0x1000 ∧ f.lo < 32 := by decide

/-- A read's window is as the words were loaded. -/
theorem State.readDone_win (s : State) (c : NvsCmd) (ce ue : BitVec 32) {k : Nat} (hk : k < 64) :
    (s.readDone c ce ue).rd (Reg.NVS.WIN k) = (s.winLoaded c ue (List.range 32)).rd (Reg.NVS.WIN k) := by
  have hne : ∀ f : Field, f.off < 0x100 ∨ 0x200 ≤ f.off → f.off < 0x1000 ∧ f.lo < 32 → f.key ≠ (Reg.NVS.WIN k).key := fun f hf hlo =>
    NVS_WIN_key_ne_of_off hk hf hlo
  rw [State.readDone, State.readOver, State.correctedRead_rd _ _ (hne _ (by decide) (by decide)) fun f hf => hne f (eccFields_off f hf).1 (eccFields_off f hf).2,
    State.readClosed_rd, State.rd_wr_ne _ _ (hne _ (by decide) (by decide)), State.rd_wr_ne _ _ (hne _ (by decide) (by decide)),
    State.rd_wr_ne _ _ (hne _ (by decide) (by decide)), State.rd_wr_ne _ _ (hne _ (by decide) (by decide)),
    State.rd_wr_ne _ _ (hne _ (by decide) (by decide))]

/-- A read's status. -/
theorem State.readDone_status (s : State) {c : NvsCmd} (ce ue : BitVec 32) (hpage : c.page < 2 ^ 14) :
    (s.readDone c ce ue).rd Reg.NVS.STAT_BUSY = 0 ∧ (s.readDone c ce ue).rd Reg.NVS.STAT_RESULT = 0 ∧
      (s.readDone c ce ue).rd Reg.NVS.WIN_PAGE = c.page := by
  refine ⟨?_, ?_, ?_⟩
  · rw [State.readDone, State.readOver, State.correctedRead_rd _ _ (by decide) (by decide), State.readClosed_rd, State.rd_wr_ne _ _ (by decide), State.rd_wr_same]
    rfl
  · rw [State.readDone, State.readOver, State.correctedRead_rd _ _ (by decide) (by decide), State.readClosed_rd, State.rd_wr_same]
    rfl
  · rw [State.readDone, State.readOver, State.correctedRead_rd _ _ (by decide) (by decide), State.readClosed_rd, State.rd_wr_ne _ _ (by decide),
      State.rd_wr_ne _ _ (by decide), State.rd_wr_same]
    exact Nat.mod_eq_of_lt hpage

theorem State.readDone_nvs (s : State) (c : NvsCmd) (ce ue : BitVec 32) : (s.readDone c ce ue).nvs = { s.nvs with cmd := .none } := by
  rw [State.readDone, State.readOver, State.correctedRead_nvs, ← s.winLoaded_nvs c ue]
  rfl

theorem State.beginRecord_rd (s : State) (r : Nat) (g : Field) :
    (s.beginRecord r).rd g = ((s.recordBegun r).wr Reg.NVS.STAT_OWN_WRITE 1).rd g := rfl

/-- The end of your page, in its parts. -/
theorem State.cmdWord_last_spec (s : State) {c : NvsCmd} (bad : Option (Fin 32)) (h : c.word = 31) :
    (s.cmdWord c bad).nvsWord (c.page * 32 + 31) = c.words.getD 31 0 ∧
    (∀ a, a ≠ c.page * 32 + 31 → (s.cmdWord c bad).nvsWord a = s.nvsWord a) ∧ (s.cmdWord c bad).nvs.cmd = .none ∧
    (s.cmdWord c bad).rd Reg.NVS.STAT_BUSY = 0 ∧ (s.cmdWord c bad).rd Reg.NVS.STAT_RESULT = (if bad.isSome then 2 else 0) ∧
    (s.cmdWord c bad).rd Reg.NVS.WRITE_CNT = (s.bump Reg.NVS.WRITE_CNT).rd Reg.NVS.WRITE_CNT ∧
    (∀ b, bad = some b → (s.cmdWord c bad).nvsEcc (c.page * 32 + b.val) = .uncorrectable) ∧
    sameFields [Reg.NVS.STAT_BUSY, Reg.NVS.STAT_RESULT, Reg.NVS.WRITE_CNT] s (s.cmdWord c bad) := by
  rw [s.cmdWord_last bad h]
  have hregs : ((s.writeStore (c.page * 32 + 31) (c.words.getD 31 0)).readBack c bad).regs = s.regs := State.readBack_regs _ c bad
  have hword := State.readBack_nvsWord (s.writeStore (c.page * 32 + 31) (c.words.getD 31 0)) c bad
  have hecc : ∀ b, bad = some b → ((s.writeStore (c.page * 32 + 31) (c.words.getD 31 0)).readBack c bad).nvsEcc (c.page * 32 + b.val) =
      .uncorrectable := fun b hb => by
    rw [hb]
    exact State.spoilWord_nvsEcc _ _
  have hsame := s.writeStore_nvsWord_same (c.page * 32 + 31) (c.words.getD 31 0)
  have hother : ∀ a, a ≠ c.page * 32 + 31 → (s.writeStore (c.page * 32 + 31) (c.words.getD 31 0)).nvsWord a = s.nvsWord a := fun a ha =>
    s.writeStore_nvsWord_ne _ ha
  generalize (s.writeStore (c.page * 32 + 31) (c.words.getD 31 0)) = y at hregs hword hecc hsame hother ⊢
  generalize y.readBack c bad = x at hregs hword hecc ⊢
  have hrd : ∀ g, x.rd g = s.rd g := fun g => by rw [State.rd, hregs]; rfl
  have hx : ∀ g n, ({ ((x.bump Reg.NVS.WRITE_CNT).wr Reg.NVS.STAT_BUSY 0).wr Reg.NVS.STAT_RESULT (if bad.isSome then 2 else 0) with nvs := n } :
      State).rd g = (((x.bump Reg.NVS.WRITE_CNT).wr Reg.NVS.STAT_BUSY 0).wr Reg.NVS.STAT_RESULT (if bad.isSome then 2 else 0)).rd g :=
    fun _ _ => rfl
  refine ⟨(hword _).trans hsame, fun a ha => (hword a).trans (hother a ha), rfl, ?_, ?_, ?_, hecc, fun g hg => ?_⟩
  · rw [hx, State.rd_wr_ne _ _ (by decide), State.rd_wr_same]
    rfl
  · rw [hx, State.rd_wr_same]
    cases bad <;> rfl
  · rw [hx, State.rd_wr_ne _ _ (by decide), State.rd_wr_ne _ _ (by decide)]
    exact bump_rd_of_rd_eq (hrd _)
  · rw [hx, State.rd_wr_ne _ _ (hg _ (by simp)), State.rd_wr_ne _ _ (hg _ (by simp)), State.rd_bump_ne _ (hg _ (by simp)), hrd]

/-- Settles O42: the words written, the commands and their results, and a read's window. -/
theorem storeReadsAndWrites : Obligations.StoreReadsAndWrites := by
  refine ⟨fun s r hrun hsafe hown hcmd hdue => ?_, fun s w bad hrun hslot hown hcmd hgo hword => ?_,
    fun s c bad hrun hslot hown hcmd hwrite hword => ?_, fun s bad hslot => congrArg Host.Outcome.next (if_neg (by simp [hslot])),
    fun s w c hrun hown hcmd hgo hmid hdefer => ?_, fun s hdefer => congrArg Host.Outcome.next (if_neg (by simp [hdefer])),
    fun s via pg hd hl hbusy => ?_, fun s via pg hd hl hbusy hpg huser hsafe => ?_, fun s via pg hd hl hbusy hpg hrefuse => ?_,
    fun i s via pg hi hd hl hbusy => ?_, fun s c ce ue hcmd hwrite hmid hpage => ?_⟩
  · have ht : exec (.nvsRecordWriteStart r) s = .next (s.beginRecord r) := by
      refine congrArg Host.Outcome.next ((if_pos (by simp [hrun, hsafe, hcmd])).trans ?_)
      simp only [hown]
      exact if_pos hdue
    obtain ⟨hlast, hwords⟩ := s.recordBegun_nvs r
    refine ⟨_, ht, State.rd_wr_same _ Reg.NVS.STAT_OWN_WRITE 1, ⟨_, rfl, rfl, rfl, rfl, rfl, rfl⟩, ?_, hwords, fun g hg => ?_⟩
    · exact (congrArg (Tab.read .none · r) hlast).trans (Tab.read_write_same _ _ _ _)
    · rw [State.beginRecord_rd, State.rd_wr_ne _ _ (hg _ (by simp)), State.rd, s.recordBegun_regs r]
      rfl
  · have ht := exec_nvsWordWrite_own bad hrun hslot hown hcmd hgo
    rw [s.wordSlot.ownWord_within bad hword] at ht
    exact ⟨_, ht, State.writeStore_nvsWord_same _ _ _, fun a ha => State.writeStore_nvsWord_ne s.wordSlot _ ha, rfl, rfl, rfl, rfl⟩
  · have ht := exec_nvsWordWrite_cmd bad hrun hslot hown hcmd hwrite
    obtain ⟨hlast, hother, hdone, hbusy, hres, hcnt, hecc, hsame⟩ := s.wordSlot.cmdWord_last_spec bad hword
    exact ⟨_, ht, hlast, hother, hdone, hbusy, hres, hcnt, hecc, hsame⟩
  · have ht : exec .nvsWordDefer s = .next { (s.atCycle 1040).bump Reg.STK.OVR1_NVS with nvs := { s.nvs with deferred := true } } := by
      exact congrArg Host.Outcome.next (if_pos (by simp [hown, hrun, hcmd, hgo, hmid, hdefer]))
    exact ⟨_, ht, rfl, rfl, fun g hg => State.rd_bump_ne (f := Reg.STK.OVR1_NVS) s (hg _ (List.mem_singleton.mpr rfl))⟩
  · have ht := exec_nvsCmdRead pg hd hl
    rw [State.nvsCommanded_read pg hbusy] at ht
    refine ⟨_, ht, State.rd_wr_same s Reg.NVS.STAT_BUSY 1, rfl, fun g hg => ?_, rfl⟩
    show (s.wr Reg.NVS.STAT_BUSY 1).rd g = _
    exact State.rd_wr_ne s _ (hg _ (by simp))
  · have ht := exec_nvsCmdWrite pg hd hl
    rw [State.nvsCommanded_write hbusy hpg, if_neg (by omega), if_neg (by simp [hsafe])] at ht
    refine ⟨_, ht, State.rd_wr_same s Reg.NVS.STAT_BUSY 1, rfl, fun g hg => ?_⟩
    show (s.wr Reg.NVS.STAT_BUSY 1).rd g = _
    exact State.rd_wr_ne s _ (hg _ (by simp))
  · have ht := exec_nvsCmdWrite pg hd hl
    rw [State.nvsCommanded_write hbusy hpg] at ht
    refine ⟨_, ht, ?_⟩
    by_cases hfactory : pg < 0x3000
    · rw [if_pos hfactory, if_pos hfactory]
      exact ⟨State.rd_wr_same s Reg.NVS.STAT_RESULT 1, rfl, fun g hg => State.rd_wr_ne s _ (hg _ (by simp))⟩
    · rw [if_neg hfactory, if_neg hfactory, if_pos (hrefuse.resolve_left hfactory)]
      exact ⟨State.rd_wr_same s Reg.NVS.STAT_RESULT 3, rfl, fun g hg => State.rd_wr_ne s _ (hg _ (by simp))⟩
  · have ht : exec i s = .next (s.wr Reg.NVS.STAT_CMD_LOST 1) := by
      rcases hi with rfl | rfl
      · rw [exec_nvsCmdRead pg hd hl, State.nvsCommanded_busy pg (.inl rfl) hbusy]
      · rw [exec_nvsCmdWrite pg hd hl, State.nvsCommanded_busy pg (.inr rfl) hbusy]
    exact ⟨_, ht, State.rd_wr_same s Reg.NVS.STAT_CMD_LOST 1, rfl, fun g hg => State.rd_wr_ne s _ (hg _ (by simp)), rfl⟩
  · obtain ⟨hbusy, hres, hwin⟩ := s.readDone_status ce ue hpage
    refine ⟨_, exec_nvsReadComplete ce ue hcmd hwrite hmid, hbusy, hres, hwin, s.readDone_nvs c ce ue, fun i hi hue hecc hfactory => ?_,
      fun hce hclean => ?_⟩
    · rw [State.rdPair, s.readDone_win _ _ _ (by omega), s.readDone_win _ _ _ (by omega)]
      exact s.winLoaded_word c ue hi (by simp [State.readBad, hue, hecc]) hfactory
    · obtain ⟨i, hi, hbit⟩ := exists_bit_of_ne_zero hce
      refine State.correctedRead_shows _ (List.mem_map_of_mem (List.mem_filter.mpr ⟨List.mem_range.mpr hi, ?_⟩))
      have hbits : ce.getLsbD i = true ∧ ue.getLsbD i = false := by
        simpa [hi] using hbit
      have hword : s.fresh.2.nvsEcc (c.page * 32 + i) = .clean := hclean i hi
      simp [State.readFixed, State.readBad, hbits, hword]

end Sys2Proof.Machine
end

section
/-! SUPPORT. Culverts: a CLV page's fields, a culvert's change of state and its loss (spec section 03). -/

namespace Sys2Proof.Machine

/-! ## Fields of one page, by their places -/

/-- Two fields of one page at different places are different fields. -/
theorem Field.key_ne_of_place {f g : Field} (hp : f.page = g.page) (h : (Nat.beq f.off g.off && Nat.beq f.lo g.lo) = false)
    (hlo : (Nat.blt f.lo 32 && Nat.blt g.lo 32) = true) : f.key ≠ g.key := by
  simp only [Bool.and_eq_true, Nat.blt_eq] at hlo
  have hne : f.off = g.off → f.lo ≠ g.lo := fun hoff hl => by
    rw [hoff, hl] at h
    simp at h
  unfold Field.key
  omega

/-- Whether a field stands outside the event registers of its page. -/
def Field.outside (g : Field) : Bool := (Nat.blt g.off 0x010 || Nat.ble 0x020 g.off) && Nat.blt g.off 0x1000 && Nat.blt g.lo 32

/-- An event writes no field of a unit's page outside its event registers. -/
theorem eventFields_key_ne_of_outside {c : ErrCode} {g : Field} (hg : g.outside = true) (hpage : 0x010 ≤ g.page) :
    ∀ f ∈ eventFields c, f.key ≠ g.key := by
  simp only [Field.outside, Bool.and_eq_true, Bool.or_eq_true, Nat.blt_eq, Nat.ble_eq] at hg
  exact eventFields_key_ne_of_page hg.1.1 ⟨hg.1.2, hg.2⟩ hpage

theorem errField_mem_eventFields (c : ErrCode) : errField c.cls c.page ∈ eventFields c := List.mem_cons_self

/-- An event of a culvert shows after a write to a field outside the event registers. -/
theorem State.wr_shows (s : State) {g : Field} (v : Nat) (c : ErrCode) (hg : g.outside = true) (hpage : 0x010 ≤ g.page) :
    (s.wr g v).shows c = s.shows c := by
  rw [State.shows, State.rd_wr_ne _ _ (eventFields_key_ne_of_outside hg hpage _ (errField_mem_eventFields c)).symm]
  rfl

/-! ## The culverts -/

@[simp] theorem State.setCulv_culv_same (s : State) (c : Nat) (x : Culv) : (s.setCulv c x).culv c = x := Tab.read_write_same _ _ _ _

@[simp] theorem State.raise1_culv (s : State) (e : Event) (c : Nat) : (s.raise1 e).culv c = s.culv c :=
  congrArg (Tab.read Culv.reset · c) (s.raise1_culvs e)

/-- A culvert that enters a state. -/
def Culv.enters (x : Culv) (s : State) (c st : Nat) : Culv :=
  { x with
    since := s.now, goodRx := 0
    lostAt := if st = 5 then .none
      else if ((st == 0 || st == 7) && s.culvState c != 0) && x.lostAt.isNone then some s.now else x.lostAt
    failing := if st = 5 then [] else x.failing
    prbs := if st = 4 then Config.trainSeed c else x.prbs
    line := if st = 5 ∨ st = 6 then x.line else [] }

theorem State.culvTo_eq (s : State) (c st : Nat) :
    s.culvTo c st = (s.setCulv c ((s.culv c).enters s c st)).wr (Reg.CLV.STAT_STATE c) st := rfl

theorem State.culvTo_culv_same (s : State) (c st : Nat) : (s.culvTo c st).culv c = (s.culv c).enters s c st := by
  rw [s.culvTo_eq c st, State.wr_culv, State.setCulv_culv_same]

theorem State.culvTo_culv_ne (s : State) {c k : Nat} (st : Nat) (h : k ≠ c) : (s.culvTo c st).culv k = s.culv k :=
  s.culv_setCulv_ne c _ k h.symm

theorem State.culvTo_state (s : State) (c : Nat) {st : Nat} (h : st < 16) : (s.culvTo c st).culvState c = st :=
  (State.rd_wr_same _ _ _).trans (Nat.mod_eq_of_lt h)

theorem State.culvTo_rd_ne (s : State) {c : Nat} (st : Nat) {g : Field} (h : (Reg.CLV.STAT_STATE c).key ≠ g.key) : (s.culvTo c st).rd g = s.rd g :=
  State.rd_wr_ne _ _ h

theorem clv_page (n : Nat) : 0x010 ≤ 0x020 + n := by omega

/-- An event leaves the state of every culvert. -/
@[simp] theorem State.raise1_culvState (s : State) (e : Event) (c : Nat) : (s.raise1 e).culvState c = s.culvState c :=
  s.raise1_rd e _ (eventFields_key_ne_of_outside rfl (clv_page c))

/-! ## A culvert lost -/

/-- A culvert that goes OFFLINE, with its reason and its event. -/
theorem State.culvOffline_spec (s : State) (c : Nat) {reason : Nat} {code : ErrCode} (extra : Nat) (hr : reason < 16) (hb : code.bit < 32) :
    (s.culvOffline c reason code extra).culvState c = 7 ∧ (s.culvOffline c reason code extra).rd (Reg.CLV.STAT_REASON c) = reason ∧
      (s.culvOffline c reason code extra).shows code = true := by
  refine ⟨?_, (State.rd_wr_same _ _ _).trans (Nat.mod_eq_of_lt hr), ?_⟩
  · rw [State.culvState, State.culvOffline, State.rd_wr_ne _ _ (by exact Field.key_ne_of_place rfl rfl rfl)]
    exact State.culvTo_state _ c (by decide)
  · rw [State.culvOffline, State.wr_shows _ _ _ rfl (clv_page c), State.culvTo_eq, State.wr_shows _ _ _ rfl (clv_page c)]
    exact State.raise1_shows s ⟨code, s.culvInfo c reason + extra, 0⟩ hb

theorem State.culvOffline_rd (s : State) {c : Nat} (reason : Nat) (code : ErrCode) (extra : Nat) {g : Field}
    (hst : (Reg.CLV.STAT_STATE c).key ≠ g.key) (hr : (Reg.CLV.STAT_REASON c).key ≠ g.key) (hg : ∀ f ∈ eventFields code, f.key ≠ g.key) :
    (s.culvOffline c reason code extra).rd g = s.rd g := by
  rw [State.culvOffline, State.rd_wr_ne _ _ hr, State.culvTo_rd_ne _ _ hst, State.raise1_rd _ _ _ hg]

/-- A culvert whose training fails. -/
theorem State.trainFail_spec (s : State) (c : Nat) {reason : Nat} (extra : Nat) (hr : reason < 16) :
    (s.trainFail c reason extra).culvState c = 7 ∧ (s.trainFail c reason extra).rd (Reg.CLV.STAT_REASON c) = reason ∧
      (s.trainFail c reason extra).shows (Err.CLV.TRAIN_FAIL c) = true ∧
      (s.trainFail c reason extra).rd (Reg.CLV.TRAIN_CNT_FAIL c) = (s.bump (Reg.CLV.TRAIN_CNT_FAIL c)).rd (Reg.CLV.TRAIN_CNT_FAIL c) := by
  obtain ⟨hstate, hreason, hshows⟩ := s.culvOffline_spec c extra hr (show (Err.CLV.TRAIN_FAIL c).bit < 32 by simp [Err.CLV.TRAIN_FAIL])
  refine ⟨?_, ?_, ?_, ?_⟩
  · rw [State.trainFail, State.culvState, State.rd_bump_ne _ (by exact Field.key_ne_of_place rfl rfl rfl)]
    exact hstate
  · rw [State.trainFail, State.rd_bump_ne _ (by exact Field.key_ne_of_place rfl rfl rfl), hreason]
  · rw [State.trainFail, State.bump, State.addTo, State.wr_shows _ _ _ rfl (clv_page c), hshows]
  · exact bump_rd_of_rd_eq (s.culvOffline_rd reason _ extra (by exact Field.key_ne_of_place rfl rfl rfl) (by exact Field.key_ne_of_place rfl rfl rfl)
      (eventFields_key_ne_of_outside rfl (clv_page c)))

/-! ## The steering table (R79, R82) -/

theorem bits_setNibble_same (v c : Nat) {i : Nat} (hi : i < 8) :
    bits ((v - bits v (4 * i + 2) (4 * i) * 2 ^ (4 * i) + c % 8 * 2 ^ (4 * i)) % 2 ^ 32) (4 * i + 2) (4 * i) = c % 8 := by
  unfold bits
  interval_cases i <;> omega

theorem bits_setNibble_ne (v c : Nat) {i j : Nat} (hi : i < 8) (hj : j < 8) (h : j ≠ i) :
    bits ((v - bits v (4 * i + 2) (4 * i) * 2 ^ (4 * i) + c % 8 * 2 ^ (4 * i)) % 2 ^ 32) (4 * j + 2) (4 * j) = bits v (4 * j + 2) (4 * j) := by
  unfold bits
  interval_cases i <;> interval_cases j <;> omega

theorem State.setSteer_steer_same (s : State) (e c : Nat) : (s.setSteer e c).steer e = c % 8 := by
  rw [State.steer, State.setSteer, State.rd_wr_same]
  exact bits_setNibble_same _ _ (Nat.mod_lt _ (by decide))

theorem State.setSteer_steer_ne (s : State) {e k : Nat} (c : Nat) (h : k ≠ e) : (s.setSteer e c).steer k = s.steer k := by
  rw [State.steer, State.setSteer]
  by_cases hreg : k / 8 = e / 8
  · rw [hreg, State.rd_wr_same, State.steer, hreg]
    exact bits_setNibble_ne _ _ (Nat.mod_lt _ (by decide)) (Nat.mod_lt _ (by decide)) (by omega)
  · rw [State.rd_wr_ne _ _ (by simp only [Field.key, Reg.CLV.STEER]; omega)]
    rfl

/-- The culverts that are ACTIVE. -/
def State.actives (s : State) : List Nat := (List.range 8).filter fun c => s.culvState c == 5

/-- The entries of lost culverts. -/
def State.lostEntries (s : State) : List Nat := (List.range 64).filter fun e => s.culvLost (s.steer e)

/-- An entry of a lost culvert, by its place in their list, passes to an ACTIVE one. -/
def State.steerOnto (active : List Nat) (s : State) (p : Nat × Nat) : State := s.setSteer p.2 (active.getD (p.1 % active.length) 0)

theorem State.reassign_eq (s : State) : s.reassign = if s.actives.isEmpty then s
    else ((List.range s.lostEntries.length).zip s.lostEntries).foldl (State.steerOnto s.actives) s := rfl

theorem getD_mod_mem {l : List Nat} (h : l ≠ []) (i : Nat) : l.getD (i % l.length) 0 ∈ l := by
  have hlt := Nat.mod_lt i (List.length_pos_iff.mpr h)
  rw [List.getD_eq_getElem _ _ hlt]
  exact List.getElem_mem hlt

/-- Entries that are not of a lost culvert stay. -/
theorem State.reassign_steer_of_not_lost (s : State) {e : Nat} (h : s.culvLost (s.steer e) = false) : s.reassign.steer e = s.steer e := by
  rw [State.reassign_eq]
  split
  · rfl
  · refine foldl_untouched (State.steerOnto s.actives) (State.steer · e) (fun t p hp => State.setSteer_steer_ne _ _ fun hpe => ?_) s
    have hlost : s.culvLost (s.steer p.2) = true := (List.mem_filter.mp (List.of_mem_zip hp).2).2
    rw [← hpe, h] at hlost
    cases hlost

/-- An entry of a lost culvert passes to an ACTIVE one. -/
theorem State.reassign_steer_of_lost (s : State) {e : Nat} (he : e < 64) (hlost : s.culvLost (s.steer e) = true) (hactive : s.anyActive = true) :
    s.culvState (s.reassign.steer e) = 5 := by
  obtain ⟨a, ha, hstate⟩ := List.any_eq_true.mp hactive
  have hne : s.actives ≠ [] := List.ne_nil_of_mem (List.mem_filter.mpr ⟨ha, hstate⟩)
  have hto : ∀ (t : State) (i : Nat), (t.steerOnto s.actives (i, e)).steer e ∈ s.actives := fun t i => by
    have hmem := getD_mod_mem hne i
    rw [State.steerOnto, State.setSteer_steer_same, Nat.mod_eq_of_lt (List.mem_range.mp (List.mem_filter.mp hmem).1)]
    exact hmem
  have hmem : e ∈ s.lostEntries := List.mem_filter.mpr ⟨List.mem_range.mpr he, hlost⟩
  obtain ⟨i, hi, hget⟩ := List.mem_iff_getElem.mp hmem
  have hzip : (i, e) ∈ (List.range s.lostEntries.length).zip s.lostEntries :=
    List.mem_iff_getElem.mpr ⟨i, by simpa using hi, by simp [hget]⟩
  have hnodup : ((List.range s.lostEntries.length).zip s.lostEntries).Nodup :=
    List.Nodup.of_map Prod.fst (by rw [List.map_fst_zip (by simp)]; exact List.nodup_range)
  have hsteer : s.reassign.steer e ∈ s.actives := by
    rw [State.reassign_eq, if_neg (by simpa using hne)]
    refine foldl_at (State.steerOnto s.actives) (pre := fun _ => True) (post := fun t => t.steer e ∈ s.actives) hnodup hzip
      (fun _ _ _ _ _ => trivial) (fun t _ => hto t i) (fun t p _ _ ht => ?_) trivial
    by_cases hp : p.2 = e
    · rw [show p = (p.1, e) from hp ▸ rfl]
      exact hto t p.1
    · rw [State.steerOnto, State.setSteer_steer_ne _ _ (Ne.symm hp)]
      exact ht
  exact beq_iff_eq.mp (List.mem_filter.mp hsteer).2

/-! ## Replay (R64, R65) -/

/-- A culvert whose replay timer expires. -/
def Culv.expires (x : Culv) (now : Nat) : Culv := { x with timer := now, expiries := x.expiries + 1 }

/-- A culvert whose replay timer expires for the first to the seventh time. -/
def Culv.resends (x : Culv) (now : Nat) : Culv :=
  { x with timer := now, expiries := x.expiries + 1, replay := x.replay.map fun f => { f with replay := true }
           line := x.replay.map fun f => { f with replay := true } }

theorem exec_culvertReplayTimeout {s : State} {c : Fin 8} (hrun : s.culvRuns c.val = true) (hreplay : (s.culv c.val).replay ≠ [])
    (htime : (s.culv c.val).timer + s.rd (Reg.CLV.TIMEOUT c.val) ≤ s.absCycle) (hexp : (s.culv c.val).expiries < 8) :
    exec (.culvertReplayTimeout c false) s = .next (
      if (s.culv c.val).expiries + 1 = 8 then
        s.setCulv c.val ((s.culv c.val).expires s.absCycle)
      else ((s.setCulv c.val ((s.culv c.val).resends s.absCycle)).raise1 (plain (Err.CLV.REPLAY c.val))).bump (Reg.CLV.REPLAY_CNT c.val)) :=
  congrArg Host.Outcome.next (if_pos (by simp [hrun, hreplay, htime, hexp]))

/-- Settles O44: an expiry resends, the eighth takes the culvert OFFLINE; entries pass to ACTIVE culverts one by one. -/
theorem replayAndRemap : Obligations.ReplayAndRemap := by
  refine ⟨fun s c hrun hreplay htime hexp => ?_, fun s c hrun hreplay htime hexp => ?_,
    fun s c b htime => congrArg Host.Outcome.next (if_neg (by simp [htime])), fun s c hexp => congrArg Host.Outcome.next (if_neg (by simp [hexp])),
    fun s hrun hcycle hon => ⟨?_, fun e _ h => s.reassign_steer_of_not_lost h, fun e he hlost hact => s.reassign_steer_of_lost he hlost hact⟩,
    fun s hcycle => congrArg Host.Outcome.next (if_neg (by simp [hcycle])),
    fun s e hrun hcycle hret hbusy => ⟨congrArg Host.Outcome.next (if_pos (by simp [hrun, hcycle, hret, hbusy])), ?_,
      fun k _ hk => State.setSteer_steer_ne s _ hk⟩, fun s e h => congrArg Host.Outcome.next (if_neg (by rcases h with h | h <;> simp [h]))⟩
  · have ht := exec_culvertReplayTimeout hrun hreplay htime (by omega)
    rw [if_neg (by omega)] at ht
    have hculv : ∀ k, ((((s.setCulv c.val ((s.culv c.val).resends s.absCycle)).raise1 (plain (Err.CLV.REPLAY c.val))).bump
        (Reg.CLV.REPLAY_CNT c.val)).culv k) = (s.setCulv c.val ((s.culv c.val).resends s.absCycle)).culv k := fun k => by
      rw [State.bump_culv, State.raise1_culv]
    have hown := (hculv c.val).trans (State.setCulv_culv_same _ _ _)
    refine ⟨_, ht, by rw [hown]; rfl, by rw [hown]; rfl, fun f hf => ?_, by rw [hown]; rfl, by rw [hown]; simp [Culv.resends], ?_, ?_, fun g hg => ?_,
      fun k hk => (hculv k).trans (s.culv_setCulv_ne _ _ k hk.symm)⟩
    · rw [hown] at hf
      obtain ⟨x, -, rfl⟩ := List.mem_map.mp hf
      rfl
    · rw [State.bump, State.addTo, State.wr_shows _ _ _ rfl (clv_page _)]
      exact State.raise1_shows (s.setCulv c.val ((s.culv c.val).resends s.absCycle)) (plain (Err.CLV.REPLAY c.val)) (by simp [plain, Err.CLV.REPLAY])
    · exact bump_rd_of_rd_eq (State.raise1_rd _ _ _ (eventFields_key_ne_of_outside rfl (clv_page _)))
    · rw [State.rd_bump_ne _ (hg _ List.mem_cons_self), State.raise1_rd _ _ _ fun f hf => hg f (List.mem_cons_of_mem _ hf), State.setCulv_rd]
  · have ht := exec_culvertReplayTimeout hrun hreplay htime (by omega)
    rw [if_pos (by omega)] at ht
    obtain ⟨hstate, hreason, hshows⟩ := (s.setCulv c.val ((s.culv c.val).expires s.absCycle)).culvOffline_spec c.val 0 (show 11 < 16 by decide)
      (show (Err.CLV.NO_PROGRESS c.val).bit < 32 by simp [Err.CLV.NO_PROGRESS])
    have hexpired : ((s.setCulv c.val ((s.culv c.val).expires s.absCycle)).culv c.val).expiries = 8 := by
      simp [Culv.expires, hexp]
    have hruns : (s.setCulv c.val ((s.culv c.val).expires s.absCycle)).culvRuns c.val = true := hrun
    exact ⟨_, _, ht, hexpired, rfl, congrArg Host.Outcome.next (if_pos (by rw [hruns, hexpired]; rfl)), hstate, hreason, hshows⟩
  · refine congrArg Host.Outcome.next ((if_pos (by simp [hrun, hcycle])).trans ?_)
    rw [if_pos hon]
  · rw [State.setSteer_steer_same]
    omega

end Sys2Proof.Machine
end

section
/-! SUPPORT. The training of a culvert (spec section 03, R61, R89 to R95). -/

namespace Sys2Proof.Machine

/-! ## IDENT (R91) -/

/-- What IDENT declares, in its registers. -/
def State.identNoted (s : State) (k : Nat) (cap : Word) (set : BitVec 24) (role : Byte) : State :=
  ((s.wr (Reg.CLV.PEER_CAP k) cap.toNat).wr (Reg.CLV.PEER_SET_SET k) set.toNat).wr (Reg.CLV.PEER_SET_ROLE k) role.toNat

/-- A culvert's IDENT accepted, before its rate and its next state. -/
def State.identAccepted (s : State) (k : Nat) (cap : Word) : State :=
  (s.setCulv k { s.culv k with remapCap := some (bitAt cap.toNat 4), invalCap := bitAt cap.toNat 5, identOk := true }).wrB (Reg.CLV.STAT_INVAL_ON k)
    (s.flag Reg.GLB.STRAPS_MODE || bitAt cap.toNat 5)

/-- A culvert that takes what IDENT declares. -/
def State.identTaken (s : State) (k : Nat) (cap : Word) : State :=
  ((s.identAccepted k cap).wr (Reg.CLV.STAT_RATE k)
    ((commonRate cap.toNat ((s.identAccepted k cap).rd (Reg.CLV.CTRL_MAX_RATE k))).getD 0)).culvTo k 3

theorem State.identNoted_rd_ne (s : State) (k : Nat) (cap : Word) (set : BitVec 24) (role : Byte) {g : Field}
    (hcap : (Reg.CLV.PEER_CAP k).key ≠ g.key) (hset : (Reg.CLV.PEER_SET_SET k).key ≠ g.key) (hrole : (Reg.CLV.PEER_SET_ROLE k).key ≠ g.key) :
    (s.identNoted k cap set role).rd g = s.rd g := by
  rw [State.identNoted, State.rd_wr_ne _ _ hrole, State.rd_wr_ne _ _ hset, State.rd_wr_ne _ _ hcap]

theorem State.identNoted_rd (s : State) (k : Nat) (cap : Word) (set : BitVec 24) (role : Byte) :
    (s.identNoted k cap set role).rd (Reg.CLV.PEER_CAP k) = cap.toNat ∧ (s.identNoted k cap set role).rd (Reg.CLV.PEER_SET_SET k) = set.toNat ∧
      (s.identNoted k cap set role).rd (Reg.CLV.PEER_SET_ROLE k) = role.toNat := by
  refine ⟨?_, ?_, ?_⟩
  · rw [State.identNoted, State.rd_wr_ne _ _ (by exact Field.key_ne_of_place rfl rfl rfl), State.rd_wr_ne _ _ (by exact Field.key_ne_of_place rfl rfl rfl),
      State.rd_wr_same]
    exact Nat.mod_eq_of_lt cap.isLt
  · rw [State.identNoted, State.rd_wr_ne _ _ (by exact Field.key_ne_of_place rfl rfl rfl), State.rd_wr_same]
    exact Nat.mod_eq_of_lt set.isLt
  · rw [State.identNoted, State.rd_wr_same]
    exact Nat.mod_eq_of_lt role.isLt

theorem State.identNoted_culvState (s : State) (k : Nat) (cap : Word) (set : BitVec 24) (role : Byte) :
    (s.identNoted k cap set role).culvState k = s.culvState k :=
  s.identNoted_rd_ne k cap set role (Field.key_ne_of_place rfl rfl rfl) (Field.key_ne_of_place rfl rfl rfl) (Field.key_ne_of_place rfl rfl rfl)

theorem State.identNoted_identReason (s : State) (k : Nat) (cap : Word) (set : BitVec 24) (role : Byte) (a b : Nat) :
    (s.identNoted k cap set role).identReason k a b = s.identReason k a b := by
  have hmode : ∀ {f : Field}, f.page = 0x020 + k → f.lo < 32 → f.off < 0x1000 → f.key ≠ Reg.GLB.STRAPS_MODE.key := fun hp hlo hoff =>
    Field.key_ne_of_page (by rw [hp]; exact Nat.ne_of_gt (Nat.lt_of_lt_of_le (by decide) (clv_page k))) ⟨hoff, hlo⟩ (by decide)
  have hflag : (s.identNoted k cap set role).flag Reg.GLB.STRAPS_MODE = s.flag Reg.GLB.STRAPS_MODE :=
    congrArg (· != 0) (s.identNoted_rd_ne k cap set role (hmode rfl (show 0 < 32 by decide) (show 0x044 < 0x1000 by decide))
      (hmode rfl (show 0 < 32 by decide) (show 0x048 < 0x1000 by decide)) (hmode rfl (show 24 < 32 by decide) (show 0x048 < 0x1000 by decide)))
  have hrate : (s.identNoted k cap set role).rd (Reg.CLV.CTRL_MAX_RATE k) = s.rd (Reg.CLV.CTRL_MAX_RATE k) :=
    s.identNoted_rd_ne k cap set role (Field.key_ne_of_place rfl rfl rfl) (Field.key_ne_of_place rfl rfl rfl) (Field.key_ne_of_place rfl rfl rfl)
  unfold State.identReason
  rw [hflag, hrate]
  rfl

theorem exec_ident_of_not_ident {s : State} {c : Fin 8} (cap : Word) (set : BitVec 24) (role pos : Byte) (h : s.culvState c.val ≠ 2) :
    exec (.ident c cap set role pos) s = .next (s.identNoted c.val cap set role) :=
  congrArg Host.Outcome.next (if_pos (bne_iff_ne.mpr ((s.identNoted_culvState c.val cap set role).trans_ne h)))

/-- What an IDENT accepted or refused does on the state in which it is noted. -/
def State.identJudged (s : State) (k : Nat) (cap : Word) : Option Nat → State
  | some r => s.trainFail k r 0
  | .none => s.identTaken k cap

theorem exec_ident_of_ident {s : State} {c : Fin 8} (cap : Word) (set : BitVec 24) (role pos : Byte) (h : s.culvState c.val = 2) :
    exec (.ident c cap set role pos) s =
      .next ((s.identNoted c.val cap set role).identJudged c.val cap (s.identReason c.val cap.toNat set.toNat)) := by
  rw [← s.identNoted_identReason c.val cap set role]
  have hst := (s.identNoted_culvState c.val cap set role).trans h
  refine congrArg Host.Outcome.next ((if_neg (show ¬((s.identNoted c.val cap set role).culvState c.val != 2) = true by simpa using hst)).trans ?_)
  generalize hr : (s.identNoted c.val cap set role).identReason c.val cap.toNat set.toNat = r
  have hm : ∀ (u : State), (match u.identReason c.val cap.toNat set.toNat with
      | some r => u.trainFail c.val r 0
      | .none => u.identTaken c.val cap) = u.identJudged c.val cap (u.identReason c.val cap.toNat set.toNat) := fun u => by
    cases u.identReason c.val cap.toNat set.toNat <;> rfl
  exact (hm (s.identNoted c.val cap set role)).trans (by rw [hr])

theorem State.identTaken_rd_ne (s : State) (k : Nat) (cap : Word) {g : Field} (hst : (Reg.CLV.STAT_STATE k).key ≠ g.key)
    (hrate : (Reg.CLV.STAT_RATE k).key ≠ g.key) (hon : (Reg.CLV.STAT_INVAL_ON k).key ≠ g.key) : (s.identTaken k cap).rd g = s.rd g := by
  rw [State.identTaken, State.culvTo_rd_ne _ _ hst, State.rd_wr_ne _ _ hrate, State.identAccepted, State.rd_wrB_ne _ _ hon]
  rfl

theorem State.identTaken_culv (s : State) (k : Nat) (cap : Word) : ((s.identTaken k cap).culv k).remapCap = some (bitAt cap.toNat 4) ∧
    ((s.identTaken k cap).culv k).invalCap = bitAt cap.toNat 5 := by
  rw [State.identTaken, State.culvTo_culv_same, State.wr_culv, State.identAccepted, State.wrB_culv, State.setCulv_culv_same]
  exact ⟨rfl, rfl⟩

/-! ## The sidebands, DESKEW and VERIFY (R90, R92, R93) -/

theorem State.sendPacket_culv (s : State) (c : Nat) (packet : List Byte) : (s.sendPacket c packet).culv c =
    { s.culv c with packet := packet, sbFree := max s.time (s.culv c).sbFree + packetCycles } := State.setCulv_culv_same _ _ _

theorem State.sendPacket_rd (s : State) (c : Nat) (packet : List Byte) (g : Field) : (s.sendPacket c packet).rd g = s.rd g := rfl

/-- A culvert whose return clock is locked. -/
def State.clockLocked (s : State) (c : Nat) : State := s.setCulv c { s.culv c with clockOk := true }

theorem exec_returnClockLock {s : State} {c : Fin 8} (h : s.culvState c.val = 1) : exec (.returnClockLock c) s =
    .next (((s.clockLocked c.val).culvTo c.val 2).sendPacket c.val
      (identPacket ownCap s.fuses.setCode (s.rd Reg.GLB.STRAPS_POSITION))) :=
  congrArg Host.Outcome.next ((if_neg (by omega)).trans (if_pos h))

/-- The first bit that a DESKEW pattern lacks. -/
def badLane (x : DWord) : Option Nat := (List.range 64).find? fun i => !x.getLsbD i

theorem badLane_all : badLane (-1) = .none := by decide

theorem badLane_isSome {x : DWord} (h : x ≠ -1) : ∃ a, badLane x = some a := by
  rw [← Option.isSome_iff_exists, badLane, List.find?_isSome]
  by_contra hno
  refine h (BitVec.eq_of_getLsbD_eq fun i hi => ?_)
  have hbit : x.getLsbD i = true := by
    by_contra hb
    exact hno ⟨i, List.mem_range.mpr hi, by simpa using hb⟩
  rw [hbit, show (-1 : DWord) = BitVec.allOnes 64 from rfl, BitVec.getLsbD_allOnes, decide_eq_true hi]

/-- What DESKEW's outcome does on the state in which it is sent. -/
def State.deskewJudged (s : State) (k : Nat) : Option Nat → Option Nat → State
  | .none, .none => s.culvTo k 4
  | some a, .none => s.trainFail k 9 (a * 2 ^ 8)
  | .none, some b => s.trainFail k 9 (b * 2 ^ 8 + 2 ^ 7)
  | some a, some b => s.trainFail k 9 (if a ≤ b then a * 2 ^ 8 else b * 2 ^ 8 + 2 ^ 7)

theorem exec_deskewResult {s : State} {c : Fin 8} (own hub : DWord) (n : Nat) (h : s.culvState c.val = 3) : exec (.deskewResult c own hub n) s =
    .next ((s.sendPacket c.val (deskewPacket own (s.rd (Reg.CLV.STAT_RATE c.val)))).deskewJudged c.val (badLane own) (badLane hub)) := by
  refine congrArg Host.Outcome.next ((if_neg (by simp [h])).trans ?_)
  have hm : ∀ (u : State) (a b : Option Nat), (match a, b with
      | .none, .none => u.culvTo c.val 4
      | some a, .none => u.trainFail c.val 9 (a * 2 ^ 8)
      | .none, some b => u.trainFail c.val 9 (b * 2 ^ 8 + 2 ^ 7)
      | some a, some b => u.trainFail c.val 9 (if a ≤ b then a * 2 ^ 8 else b * 2 ^ 8 + 2 ^ 7)) = u.deskewJudged c.val a b := fun u a b => by
    cases a <;> cases b <;> rfl
  exact hm _ (badLane own) (badLane hub)

/-- A DESKEW with a lane that fails takes the culvert OFFLINE. -/
theorem State.deskewJudged_bad (s : State) (k : Nat) {a b : Option Nat} (h : a ≠ .none ∨ b ≠ .none) :
    ∃ extra, s.deskewJudged k a b = s.trainFail k 9 extra := by
  match a, b with
  | .none, .none => simp at h
  | some _, .none => exact ⟨_, rfl⟩
  | .none, some _ => exact ⟨_, rfl⟩
  | some _, some _ => exact ⟨_, rfl⟩

/-- A flit with a bad CRC, where its culvert counts it. -/
def State.crcCounted (s : State) (c : Nat) : State :=
  ((s.setCulv c { s.culv c with goodRx := 0 }).raise1 (plain (Err.CLV.CRC_BAD c))).bump (Reg.CLV.CRC_CNT c)

theorem exec_trainFlit_bad {s : State} {c : Fin 8} {h : FlitHdr} (hst : s.culvState c.val = 4) (hcrc : h.crcOk = false) :
    exec (.trainFlit c h) s = .next (s.crcCounted c.val) :=
  congrArg Host.Outcome.next ((if_pos (by simp [hcrc])).trans (if_pos (by simp [hst])))

theorem exec_trainFlit_good {s : State} {c : Fin 8} {h : FlitHdr} (hst : s.culvState c.val = 4) (hcrc : h.crcOk = true) :
    exec (.trainFlit c h) s = .next (s.setCulv c.val { s.culv c.val with goodRx := min ((s.culv c.val).goodRx + 1) 4096 }) :=
  congrArg Host.Outcome.next ((if_neg (by simp [hcrc])).trans (if_pos hst))

theorem State.crcCounted_spec (s : State) (c : Nat) : ((s.crcCounted c).culv c).goodRx = 0 ∧ (s.crcCounted c).shows (Err.CLV.CRC_BAD c) = true := by
  refine ⟨?_, ?_⟩
  · rw [State.crcCounted, State.bump_culv, State.raise1_culv, State.setCulv_culv_same]
  · rw [State.crcCounted, State.bump, State.addTo, State.wr_shows _ _ _ rfl (clv_page c)]
    exact State.raise1_shows (s.setCulv c { s.culv c with goodRx := 0 }) (plain (Err.CLV.CRC_BAD c)) (by simp [plain, Err.CLV.CRC_BAD])

/-- A culvert that begins ACTIVE, before its requests go again. -/
def State.verified (s : State) (c : Nat) : State :=
  (s.culvTo c 5).setCulv c { (s.culvTo c 5).culv c with
    txNext := 0, txAcked := 0xFFF, rxNext := 0, replay := [], unsent := [], expiries := 0, timer := s.absCycle }

/-- A recall of no requests touches the culvert alone. -/
theorem State.recall_of_nil {s : State} {c : Nat} (h : (s.culv c).reqs = []) :
    s.recall c = s.setCulv c { s.culv c with reqs := [], replay := [], unsent := [], line := [] } := by
  rw [State.recall, h]
  rfl

theorem exec_culvertVerifyDone {s : State} {c : Fin 8} (hst : s.culvState c.val = 4) (hgood : (s.culv c.val).goodRx = 4096) :
    exec (.culvertVerifyDone c) s = .next ((((s.verified c.val).recall c.val).bump (Reg.CLV.TRAIN_CNT_DONE c.val)).flushWaiting).settle :=
  congrArg Host.Outcome.next (if_pos ⟨hst, hgood⟩)

theorem State.verified_reqs (s : State) (c : Nat) : ((s.verified c).culv c).reqs = (s.culv c).reqs := by
  rw [State.verified, State.setCulv_culv_same, State.culvTo_culv_same]
  rfl

theorem State.culvStop_state (s : State) (c : Nat) : (s.culvStop c).culvState c = 0 :=
  State.culvTo_state s c (st := 0) (by decide)

/-! ## QUIESCE and the limits of each state (R95) -/

theorem commonRate_lt {cap limit r : Nat} (h : commonRate cap limit = some r) : r < 4 := by
  have hmem := List.mem_of_find?_eq_some h
  revert hmem
  simp only [List.mem_cons, List.not_mem_nil, or_false]
  omega

/-- What QUIESCE's end does. -/
def State.quiesceEnds (s : State) (k : Nat) : Option Nat → State
  | .none => s.trainFail k 5 0
  | some r => (s.wr (Reg.CLV.STAT_RATE k) r).culvTo k 3

theorem exec_culvertQuiesceDone {s : State} {c : Fin 8} (hst : s.culvState c.val = 6) (hreqs : (s.culv c.val).reqs = [])
    (hreplay : (s.culv c.val).replay = []) (hunsent : (s.culv c.val).unsent = []) : exec (.culvertQuiesceDone c) s = .next (
      if s.flag (Reg.CLV.CTRL_ENABLE c.val) then
        s.quiesceEnds c.val (commonRate (s.rd (Reg.CLV.PEER_CAP c.val)) (s.rd (Reg.CLV.CTRL_MAX_RATE c.val)))
      else s.culvStop c.val) := by
  refine congrArg Host.Outcome.next ((if_pos ⟨hst, by simp [hreqs], by simp [hreplay], by simp [hunsent]⟩).trans ?_)
  have hm : ∀ o : Option Nat, (match o with
      | .none => s.trainFail c.val 5 0
      | some r => (s.wr (Reg.CLV.STAT_RATE c.val) r).culvTo c.val 3) = s.quiesceEnds c.val o := fun o => by cases o <;> rfl
  exact congrArg (ite _ · _) (hm _)

/-- The five limits. -/
def trainLimits : List (Nat × Nat × Nat) := [(1, 64, 1), (2, 32, 2), (3, 64, 9), (4, 8, 10), (6, 64, 11)]

theorem trainLimit_of_mem : ∀ x ∈ trainLimits, trainLimit x.1 = some (x.2.1, x.2.2) ∧ x.2.2 < 16 := by decide

/-- No state ends before 8 strokes. -/
theorem trainLimit_ge {st : Nat} {l : Nat × Nat} (h : trainLimit st = some l) : 8 ≤ l.1 := by
  unfold trainLimit at h
  split at h <;> cases h <;> decide

theorem execCulvertTrainingTimeout_of_limit {s : State} {c : Fin 8} {l : Nat × Nat} (hl : trainLimit (s.culvState c.val) = some l)
    (h : (s.culv c.val).since + l.1 ≤ s.now) : exec (.culvertTrainingTimeout c) s =
      .next (if l.2 = 11 then s.culvOffline c.val 11 (Err.CLV.NO_PROGRESS c.val) 0 else s.trainFail c.val l.2 0) := by
  refine congrArg Host.Outcome.next ?_
  simp only [hl]
  exact if_pos h

/-- A state ends at no limit that it has not reached. -/
theorem exec_culvertTrainingTimeout_early {s : State} {c : Fin 8} (h : s.now < (s.culv c.val).since + 8) :
    exec (.culvertTrainingTimeout c) s = .next s := by
  refine congrArg Host.Outcome.next ?_
  cases hl : trainLimit (s.culvState c.val) with
  | none => rfl
  | some l =>
    have hge := trainLimit_ge hl
    exact if_neg (by omega)

/-- Settles O45: each state's end by its own condition, and its failure by its reason. -/
theorem culvertsTrain : Obligations.CulvertsTrain := by
  refine ⟨fun s c hst => ?_, fun s c hrun => ?_, fun s c cap set role pos hst hreason => ?_, fun s c cap set role pos hst hver => ?_,
    fun s c cap set role pos hst => ?_, fun s c n hst => ?_, fun s c own hub n hst hbad => ?_, fun s c h hst => ?_, fun s c hst hgood hreqs => ?_,
    fun s c h => congrArg Host.Outcome.next (if_neg fun hc => h hc.2), fun s c hst hreqs hreplay hunsent => ?_,
    fun s c st n r hst hmem htime => ?_, fun s c h => exec_culvertTrainingTimeout_early h⟩
  · refine ⟨_, exec_returnClockLock hst, ?_, ?_, ?_, fun k hk => ?_, fun g hg => ?_⟩
    · rw [State.culvState, State.sendPacket_rd]
      exact State.culvTo_state _ _ (by decide)
    · rw [State.sendPacket_culv, State.culvTo_culv_same, State.clockLocked, State.setCulv_culv_same]
      rfl
    · rw [State.sendPacket_culv]
    · rw [State.sendPacket, State.culv_setCulv_ne _ _ _ _ hk.symm, State.culvTo_culv_ne _ _ hk, State.clockLocked, State.culv_setCulv_ne _ _ _ _ hk.symm]
    · rw [State.sendPacket_rd, State.culvTo_rd_ne _ _ (hg _ List.mem_cons_self)]
      rfl
  · obtain ⟨hstate, hreason, hshows⟩ := (s.setCulv c.val { s.culv c.val with clockOk := false, answers := [] }).culvOffline_spec c.val 0
      (show 13 < 16 by decide) (show (Err.CLV.CLK_LOSS c.val).bit < 32 by simp [Err.CLV.CLK_LOSS])
    exact ⟨_, congrArg Host.Outcome.next (if_pos hrun), hstate, hreason, hshows⟩
  · have ht := exec_ident_of_ident cap set role pos hst
    rw [hreason] at ht
    obtain ⟨hcap, hset, hrole⟩ := s.identNoted_rd c.val cap set role
    obtain ⟨hremap, hinval⟩ := (s.identNoted c.val cap set role).identTaken_culv c.val cap
    refine ⟨_, ht, State.culvTo_state _ _ (by decide), ?_, ?_, ?_, ?_, ?_, rfl⟩
    · exact (State.identTaken_rd_ne _ _ _ (by exact Field.key_ne_of_place rfl rfl rfl) (by exact Field.key_ne_of_place rfl rfl rfl)
        (by exact Field.key_ne_of_place rfl rfl rfl)).trans hcap
    · exact (State.identTaken_rd_ne _ _ _ (by exact Field.key_ne_of_place rfl rfl rfl) (by exact Field.key_ne_of_place rfl rfl rfl)
        (by exact Field.key_ne_of_place rfl rfl rfl)).trans hset
    · exact (State.identTaken_rd_ne _ _ _ (by exact Field.key_ne_of_place rfl rfl rfl) (by exact Field.key_ne_of_place rfl rfl rfl)
        (by exact Field.key_ne_of_place rfl rfl rfl)).trans hrole
    · exact hremap.trans (by rw [bitAt_toNat])
    · exact hinval.trans (by rw [bitAt_toNat])
  · have hreason : s.identReason c.val cap.toNat set.toNat = some 8 := if_pos (by simpa [bits] using hver)
    have ht := exec_ident_of_ident cap set role pos hst
    rw [hreason] at ht
    obtain ⟨hstate, hr, hshows, hcnt⟩ := (s.identNoted c.val cap set role).trainFail_spec c.val 0 (show 8 < 16 by decide)
    exact ⟨_, ht, hstate, hr, hshows, hcnt.trans (bump_rd_of_rd_eq (s.identNoted_rd_ne c.val cap set role (Field.key_ne_of_place rfl rfl rfl)
      (Field.key_ne_of_place rfl rfl rfl) (Field.key_ne_of_place rfl rfl rfl)))⟩
  · refine ⟨_, exec_ident_of_not_ident cap set role pos hst, (s.identNoted_rd c.val cap set role).1, fun g hg => ?_, rfl⟩
    exact s.identNoted_rd_ne c.val cap set role (hg _ (by simp)) (hg _ (by simp)) (hg _ (by simp))
  · have ht := exec_deskewResult (-1) (-1) n hst
    rw [badLane_all] at ht
    refine ⟨_, ht, State.culvTo_state _ _ (by decide), ?_, ?_, fun g hg => State.culvTo_rd_ne _ _ (hg _ List.mem_cons_self)⟩
    · exact congrArg Culv.goodRx (State.culvTo_culv_same _ _ _)
    · refine (congrArg Culv.packet (State.culvTo_culv_same _ _ _)).trans ?_
      rw [State.sendPacket_culv]
      rfl
  · have hbad : badLane own ≠ .none ∨ badLane hub ≠ .none := by
      rcases hbad with h | h <;> obtain ⟨a, ha⟩ := badLane_isSome h
      · exact .inl (by simp [ha])
      · exact .inr (by simp [ha])
    obtain ⟨extra, hjudged⟩ := State.deskewJudged_bad (s.sendPacket c.val (deskewPacket own (s.rd (Reg.CLV.STAT_RATE c.val)))) c.val hbad
    have ht := exec_deskewResult own hub n hst
    rw [hjudged] at ht
    obtain ⟨hstate, hr, hshows, -⟩ := (s.sendPacket c.val (deskewPacket own (s.rd (Reg.CLV.STAT_RATE c.val)))).trainFail_spec c.val extra
      (show 9 < 16 by decide)
    exact ⟨_, ht, hstate, hr, hshows⟩
  · cases hcrc : h.crcOk with
    | false =>
      obtain ⟨hgood, hshows⟩ := s.crcCounted_spec c.val
      exact ⟨_, exec_trainFlit_bad hst hcrc, hgood, fun _ => hshows, fun hc => absurd hc Bool.false_ne_true⟩
    | true => exact ⟨_, exec_trainFlit_good hst hcrc, by simp, fun hc => absurd hc.symm Bool.false_ne_true, fun _ => rfl⟩
  · have ht := exec_culvertVerifyDone hst hgood
    rw [State.recall_of_nil ((s.verified_reqs c.val).trans hreqs)] at ht
    refine ⟨_, ht, ?_, ?_⟩
    · rw [State.culvState, State.rd_bump_ne _ (by exact Field.key_ne_of_place rfl rfl rfl)]
      exact State.culvTo_state s c.val (st := 5) (by decide)
    · rw [State.bump_culv, State.setCulv_culv_same, State.verified, State.setCulv_culv_same]
      refine ⟨rfl, rfl, rfl, rfl, rfl, fun g hg => ?_, rfl⟩
      rw [State.rd_bump_ne _ (hg _ (by simp))]
      exact State.culvTo_rd_ne s 5 (hg _ (by simp))
  · refine ⟨_, exec_culvertQuiesceDone hst hreqs hreplay hunsent, fun hoff => ?_, fun r hon hr => ?_⟩
    · rw [hoff, if_neg Bool.false_ne_true]
      exact s.culvStop_state c.val
    · rw [if_pos hon, hr]
      refine ⟨State.culvTo_state _ _ (by decide), ?_⟩
      rw [State.quiesceEnds, State.culvTo_rd_ne _ _ (by exact Field.key_ne_of_place rfl rfl rfl), State.rd_wr_same]
      exact Nat.mod_eq_of_lt (commonRate_lt hr)
  · obtain ⟨hl, hr⟩ := trainLimit_of_mem _ hmem
    refine ⟨_, execCulvertTrainingTimeout_of_limit (hst ▸ hl) htime, ?_⟩
    by_cases h11 : r = 11
    · subst h11
      obtain ⟨hstate, hreason, hshows⟩ := s.culvOffline_spec c.val 0 hr (show (Err.CLV.NO_PROGRESS c.val).bit < 32 by simp [Err.CLV.NO_PROGRESS])
      exact ⟨hstate, hreason, fun h => absurd rfl h, fun _ => hshows⟩
    · obtain ⟨hstate, hreason, hshows, -⟩ := s.trainFail_spec c.val 0 hr
      rw [if_neg h11]
      exact ⟨hstate, hreason, fun _ => hshows, fun h => absurd h h11⟩

end Sys2Proof.Machine
end

section
/-! SUPPORT. What writes of a culvert's CTRL start and stop (spec section 03, R89, R96), and CULVERT_LOOP (R487). -/

namespace Sys2Proof.Machine

/-! ## Writes of a register's rows -/

/-- A write to a register leaves the fields of other pages. -/
theorem State.writeFields_rd_ne_page (s : State) {pg off : Nat} (data : Nat) {g : Field} (hpg : pg ≠ g.page) (hoff : off < 0x1000)
    (hg : g.off < 0x1000 ∧ g.lo < 32) : (s.writeFields pg off data).rd g = s.rd g := by
  have hrows : ((fieldsAt pg off).foldl (fun s r => s.writeField pg off data r) s).rd g = s.rd g :=
    foldl_untouched _ (State.rd · g) (fun t r hr => t.writeField_rd_ne pg off data r (Field.key_ne_of_page hpg ⟨hoff, fieldsAt_lo hr⟩ hg)) s
  have hne : ∀ f : Field, f.page = pg → f.off < 0x1000 ∧ f.lo < 32 → f.key ≠ g.key := fun f hf hlo => Field.key_ne_of_page (hf ▸ hpg) hlo hg
  unfold State.writeFields
  dsimp only
  split
  · rw [State.clearCounts, State.rd_wr_ne _ _ (hne (Reg.CNT_MERGED pg) rfl (by simp [Reg.CNT_MERGED])),
      State.rd_wr_ne _ _ (hne (Reg.CNT_CONT pg) rfl (by simp [Reg.CNT_CONT])), State.rd_wr_ne _ _ (hne (Reg.CNT_CORR pg) rfl (by simp [Reg.CNT_CORR]))]
    exact hrows
  · exact hrows

theorem fieldOf_key_ne {pg off : Nat} {q r : FieldRow} (h : q.lo ≠ r.lo) : (fieldOf pg off q).key ≠ (fieldOf pg off r).key := by
  unfold Field.key fieldOf
  dsimp only
  omega

/-- A write to a register writes each of its read-write rows from its own bits of the data. -/
theorem State.writeFields_row (s : State) {pg off data : Nat} {r : FieldRow} (hr : r ∈ fieldsAt pg off) (hacc : r.acc = .rw)
    (hrows : ((fieldsAt pg off).map (·.lo)).Nodup) (hin : r.min ≤ bits data r.hi r.lo ∧ bits data r.hi r.lo ≤ r.max)
    (hcnt : off ≠ 0x01C) (hoff : off < 0x1000) :
    (s.writeFields pg off data).rd (fieldOf pg off r) = bits data r.hi r.lo % 2 ^ (fieldOf pg off r).width := by
  have hfold : ((fieldsAt pg off).foldl (fun s r => s.writeField pg off data r) s).rd (fieldOf pg off r) =
      bits data r.hi r.lo % 2 ^ (fieldOf pg off r).width := by
    refine foldl_touched_once _ (State.rd · (fieldOf pg off r)) (fun _ => bits data r.hi r.lo % 2 ^ (fieldOf pg off r).width)
      (List.Nodup.of_map _ hrows) hr (fun t => ?_) (fun t q hq hqr => ?_) s
    · simp [State.writeField, hacc, hin]
    · exact t.writeField_rd_ne pg off data q (fieldOf_key_ne fun hlo => hqr (List.inj_on_of_nodup_map hrows hq hr hlo))
  have hne : ∀ f : Field, f.off = 0x01C → f.lo < 32 → f.key ≠ (fieldOf pg off r).key := fun f hf hlo =>
    Field.key_ne_of_off (by rw [hf]; exact hcnt.symm) ⟨by omega, hlo⟩ ⟨hoff, fieldsAt_lo hr⟩
  unfold State.writeFields
  dsimp only
  split
  · rw [State.clearCounts, State.rd_wr_ne _ _ (hne (Reg.CNT_MERGED pg) rfl (by simp [Reg.CNT_MERGED])),
      State.rd_wr_ne _ _ (hne (Reg.CNT_CONT pg) rfl (by simp [Reg.CNT_CONT])), State.rd_wr_ne _ _ (hne (Reg.CNT_CORR pg) rfl (by simp [Reg.CNT_CORR]))]
    exact hfold
  · exact hfold

/-! ## A culvert's CTRL -/

/-- The rows of a culvert's CTRL. -/
def clvCtrlRows : List FieldRow :=
  [⟨4, 4, .wo, 0, 0, 1⟩, ⟨1, 1, .rw, 0, 0, 1⟩, ⟨0, 0, .rw, 0, 0, 1⟩, ⟨12, 12, .rw, 0, 0, 1⟩, ⟨11, 10, .rw, 2, 0, 2⟩, ⟨9, 9, .wo, 0, 0, 1⟩,
    ⟨8, 8, .rw, 1, 0, 1⟩]

theorem fieldsAt_clvCtrl : ∀ c : Fin 8, fieldsAt (0x020 + c.val) 0x004 = clvCtrlRows := by decide

/-- A culvert's registers after a write to its CTRL. -/
def State.ctrlWritten (s : State) (c data : Nat) : State := s.writeFields (0x020 + c) 0x004 data

theorem State.ctrlWritten_frame (s : State) (c data : Nat) : s.ctrlWritten c data = { s with regs := (s.ctrlWritten c data).regs } :=
  s.writeFields_regs _ _ _

theorem State.ctrlWritten_culvs (s : State) (c data : Nat) : (s.ctrlWritten c data).culvs = s.culvs := by
  rw [s.ctrlWritten_frame c data]

theorem State.ctrlWritten_clk (s : State) (c data : Nat) : (s.ctrlWritten c data).clk = s.clk := by
  rw [s.ctrlWritten_frame c data]

/-- A row of CTRL after a write. -/
theorem State.ctrlWritten_row (s : State) {c : Nat} (hc : c < 8) (data : Nat) {r : FieldRow} (hr : r ∈ clvCtrlRows) (hacc : r.acc = .rw)
    (hmax : bits data r.hi r.lo ≤ r.max) :
    (s.ctrlWritten c data).rd (fieldOf (0x020 + c) 0x004 r) = bits data r.hi r.lo := by
  have hrows : fieldsAt (0x020 + c) 0x004 = clvCtrlRows := fieldsAt_clvCtrl ⟨c, hc⟩
  have hlimit : ∀ r ∈ clvCtrlRows, r.acc = .rw → r.min = 0 ∧ r.max < 2 ^ (r.hi - r.lo + 1) := by decide
  obtain ⟨hmin, hwidth⟩ := hlimit r hr hacc
  rw [State.ctrlWritten, State.writeFields_row _ (hrows ▸ hr) hacc (by rw [hrows]; decide) ⟨by omega, hmax⟩ (by decide) (by decide)]
  exact Nat.mod_eq_of_lt (lt_of_le_of_lt hmax hwidth)

theorem bits_one_le (d i : Nat) : bits d i i ≤ 1 := by
  rw [bits_low]
  omega

theorem State.ctrlWritten_enable (s : State) {c : Nat} (hc : c < 8) (data : Nat) :
    (s.ctrlWritten c data).rd (Reg.CLV.CTRL_ENABLE c) = bits data 8 8 :=
  s.ctrlWritten_row hc data (r := ⟨8, 8, .rw, 1, 0, 1⟩) (by decide) rfl (bits_one_le _ _)

theorem State.ctrlWritten_loop (s : State) {c : Nat} (hc : c < 8) (data : Nat) :
    (s.ctrlWritten c data).rd (Reg.CLV.CTRL_LOOP c) = bits data 12 12 :=
  s.ctrlWritten_row hc data (r := ⟨12, 12, .rw, 0, 0, 1⟩) (by decide) rfl (bits_one_le _ _)

theorem State.ctrlWritten_culvState (s : State) (c data k : Nat) : (s.ctrlWritten c data).culvState k = s.culvState k :=
  s.writeFields_rd_ne data (show 0x004 ≠ 0x008 by decide) (fun _ => show 0x008 ≠ 0x01C by decide) (by decide)
    (show 0x008 < 0x1000 ∧ 0 < 32 by decide)

theorem State.ctrlWritten_stepNo (s : State) (c data : Nat) : (s.ctrlWritten c data).stepNo = s.stepNo :=
  s.writeFields_rd_ne_page data (show 0x020 + c ≠ Reg.GLB.STAT_STEP.page from Nat.ne_of_gt (Nat.lt_of_lt_of_le (by decide) (clv_page c)))
    (by decide) (by decide)

/-- What the CTRL written does in each state of its culvert: whether ENABLE was 1, whether LOOP was, and whether ENABLE is 1 and RETRAIN written. -/
def State.ctrlActs (u : State) (c : Nat) (was loopWas is retrain : Bool) : Nat → State
  | 0 =>
    if is then (if (!was || retrain) && decide (3 ≤ u.stepNo) then u.culvStart c else u)
    else if !loopWas && u.flag (Reg.CLV.CTRL_LOOP c) then u.startLoop c
    else u
  | 5 => if retrain || !is then u.culvTo c 6 else u
  | 6 => u
  | 7 => if !is then u.culvStop c else if retrain then u.culvStart c else u
  | 8 => u
  | _ => if is then u else u.culvStop c

theorem State.wrClvCtrl_eq (s : State) {c : Nat} (hc : c < 8) (data : Nat) : s.wrClvCtrl c data =
    (s.ctrlWritten c data).ctrlActs c (s.flag (Reg.CLV.CTRL_ENABLE c)) (s.flag (Reg.CLV.CTRL_LOOP c)) (bitAt data 8)
      (bitAt data 9 && bitAt data 8) (s.culvState c) := by
  have his : (s.ctrlWritten c data).flag (Reg.CLV.CTRL_ENABLE c) = bitAt data 8 := by
    rw [State.flag, s.ctrlWritten_enable hc, bits_low, bitAt]
    rcases Nat.mod_two_eq_zero_or_one (data / 2 ^ 8) with h | h <;> simp only [h] <;> rfl
  have hm : ∀ (u : State) (was loopWas is retrain : Bool) (st : Nat), (match st with
      | 0 =>
        if is then (if (!was || retrain) && decide (3 ≤ u.stepNo) then u.culvStart c else u)
        else if !loopWas && u.flag (Reg.CLV.CTRL_LOOP c) then u.startLoop c
        else u
      | 5 => if retrain || !is then u.culvTo c 6 else u
      | 6 => u
      | 7 => if !is then u.culvStop c else if retrain then u.culvStart c else u
      | 8 => u
      | _ => if is then u else u.culvStop c) = u.ctrlActs c was loopWas is retrain st := fun u was loopWas is retrain st => by
    unfold State.ctrlActs
    split <;> rfl
  rw [← s.ctrlWritten_culvState c data c, ← his]
  exact hm _ _ _ _ _ _

/-- Whatever a CTRL write does, it changes registers and culverts alone. -/
theorem State.ctrlActs_frame (u : State) (c : Nat) (was loopWas is retrain : Bool) (st : Nat) : u.ctrlActs c was loopWas is retrain st =
    { u with regs := (u.ctrlActs c was loopWas is retrain st).regs, culvs := (u.ctrlActs c was loopWas is retrain st).culvs } := by
  unfold State.ctrlActs
  split
  · split
    · split <;> rfl
    · split <;> rfl
  · split <;> rfl
  · rfl
  · split
    · rfl
    · split <;> rfl
  · rfl
  · split <;> rfl

theorem State.wrClvCtrl_frame (s : State) {c : Nat} (hc : c < 8) (data : Nat) :
    s.wrClvCtrl c data = { s with regs := (s.wrClvCtrl c data).regs, culvs := (s.wrClvCtrl c data).culvs } := by
  rw [s.wrClvCtrl_eq hc, State.ctrlActs_frame, s.ctrlWritten_frame]

/-- A write of a culvert's CTRL, by each of its four commands. -/
theorem exec_clvCtrl {s : State} {via : Path} {c : Fin 8} (d : Word) {i : Instr} (hi : i = .culvertEnable via c d ∨ i = .culvertDisable via c d ∨
    i = .culvertRetrain via c d ∨ i = .culvertLoopStart via c d) (hd : s.deaf via = false) (hl : s.locked via (0x020 + c.val) = false) :
    exec i s = .next ((s.ctrlWritten c.val d.toNat).ctrlActs c.val (s.flag (Reg.CLV.CTRL_ENABLE c.val)) (s.flag (Reg.CLV.CTRL_LOOP c.val))
      (d.getLsbD 8) (d.getLsbD 9 && d.getLsbD 8) (s.culvState c.val)) := by
  have himpl : ∀ c : Fin 8, implemented (0x020 + c.val) 0x004 = true := by decide
  have hexec : exec i s = .next (s.wrClvCtrl c.val d.toNat) := by
    have hacc := State.access_of_not_locked (s := s) d.toNat (State.wrClvCtrl c.val) hd (himpl c) hl
    rcases hi with rfl | rfl | rfl | rfl <;> exact congrArg Host.Outcome.next hacc
  rw [hexec, s.wrClvCtrl_eq c.isLt, bitAt_toNat, bitAt_toNat]

theorem State.ctrlActs_written_frame (s : State) (c data : Nat) (was loopWas is retrain : Bool) (st : Nat) :
    (s.ctrlWritten c data).ctrlActs c was loopWas is retrain st =
      { s with regs := ((s.ctrlWritten c data).ctrlActs c was loopWas is retrain st).regs,
               culvs := ((s.ctrlWritten c data).ctrlActs c was loopWas is retrain st).culvs } := by
  rw [State.ctrlActs_frame, s.ctrlWritten_frame]

theorem State.culvStart_rd_ne (s : State) {c : Nat} {g : Field} (h : (Reg.CLV.STAT_STATE c).key ≠ g.key) : (s.culvStart c).rd g = s.rd g :=
  s.culvTo_rd_ne 1 h

theorem State.culvStop_rd_ne (s : State) {c : Nat} {g : Field} (h : (Reg.CLV.STAT_STATE c).key ≠ g.key) : (s.culvStop c).rd g = s.rd g :=
  s.culvTo_rd_ne 0 h

theorem State.culvStart_culv (s : State) (c : Nat) : ((s.culvStart c).culv c).since = s.now ∧ ((s.culvStart c).culv c).clockOk = false ∧
    ∀ k, k ≠ c → (s.culvStart c).culv k = s.culv k := by
  refine ⟨?_, ?_, fun k hk => ?_⟩
  · rw [State.culvStart, State.setCulv_culv_same, State.culvTo_culv_same]
    rfl
  · rw [State.culvStart, State.setCulv_culv_same]
  · rw [State.culvStart, State.culv_setCulv_ne _ _ _ _ hk.symm, State.culvTo_culv_ne _ _ hk]

/-- Whatever a CTRL write does, it changes no field of CTRL after its bits are written. -/
theorem State.ctrlActs_rd_ne (u : State) (c : Nat) (was loopWas is retrain : Bool) (st : Nat) {g : Field} (h : (Reg.CLV.STAT_STATE c).key ≠ g.key) :
    (u.ctrlActs c was loopWas is retrain st).rd g = u.rd g := by
  unfold State.ctrlActs
  split
  · split
    · split
      · exact u.culvStart_rd_ne h
      · rfl
    · split
      · exact u.culvTo_rd_ne 8 h
      · rfl
  · split
    · exact u.culvTo_rd_ne 6 h
    · rfl
  · rfl
  · split
    · exact u.culvStop_rd_ne h
    · split
      · exact u.culvStart_rd_ne h
      · rfl
  · rfl
  · split
    · rfl
    · exact u.culvStop_rd_ne h

theorem bits_of_getLsbD (d : Word) (i : Nat) : bits d.toNat i i = ofBool (d.getLsbD i) := by
  rw [bits_low, ← bitAt_toNat, bitAt]
  rcases Nat.mod_two_eq_zero_or_one (d.toNat / 2 ^ i) with h | h <;> simp [h, ofBool]

/-- ENABLE and LOOP after a write of CTRL. -/
theorem State.ctrlActs_enable (s : State) (c : Fin 8) (d : Word) (was loopWas is retrain : Bool) (st : Nat) :
    ((s.ctrlWritten c.val d.toNat).ctrlActs c.val was loopWas is retrain st).rd (Reg.CLV.CTRL_ENABLE c.val) = ofBool (d.getLsbD 8) := by
  rw [State.ctrlActs_rd_ne _ _ _ _ _ _ _ (by exact Field.key_ne_of_place rfl rfl rfl), s.ctrlWritten_enable c.isLt, bits_of_getLsbD]

theorem State.ctrlActs_loop (s : State) (c : Fin 8) (d : Word) (was loopWas is retrain : Bool) (st : Nat) :
    ((s.ctrlWritten c.val d.toNat).ctrlActs c.val was loopWas is retrain st).rd (Reg.CLV.CTRL_LOOP c.val) = ofBool (d.getLsbD 12) := by
  rw [State.ctrlActs_rd_ne _ _ _ _ _ _ _ (by exact Field.key_ne_of_place rfl rfl rfl), s.ctrlWritten_loop c.isLt, bits_of_getLsbD]

/-- The states of training other than QUIESCE, ACTIVE and OFFLINE: CTRL stops them with ENABLE = 0 only. -/
theorem State.ctrlActs_training (u : State) (c : Nat) (was loopWas is retrain : Bool) {st : Nat} (h1 : 1 ≤ st) (h4 : st ≤ 4) :
    u.ctrlActs c was loopWas is retrain st = if is then u else u.culvStop c := by
  interval_cases st <;> rfl

/-! ## The end of a loopback (R96) -/

/-- A loopback's outcome in its registers. -/
def State.loopNoted (s : State) (c : Nat) (fails : DWord) (sbFail : Bool) : State :=
  ((((s.wrPair (Reg.CLV.LOOP_FAIL_LO c) (Reg.CLV.LOOP_FAIL_HI c) fails.toNat).wr (Reg.CLV.LOOP_STAT_DONE c) 1).wrB (Reg.CLV.LOOP_STAT_SB_FAIL c)
    sbFail).wrB (Reg.CLV.LOOP_STAT_PASS c) (fails == 0 && !sbFail)).wr (Reg.CLV.CTRL_LOOP c) 0

theorem exec_loopbackEnd {s : State} {c : Fin 8} (f : DWord) (sb : Bool) (hst : s.culvState c.val = 8)
    (h : (s.culv c.val).since + s.rd (Reg.CLV.LOOP_STROKES c.val) ≤ s.now) :
    exec (.loopbackEnd c f sb) s = .next ((s.loopNoted c.val f sb).culvTo c.val 0) := congrArg Host.Outcome.next (if_pos ⟨hst, h⟩)

theorem State.flag_of_rd_ofBool {s : State} {f : Field} {b : Bool} (h : s.rd f = ofBool b) : s.flag f = b := by
  rw [State.flag, h]
  cases b <;> rfl

/-- The registers of a loopback's outcome, once it has ended. -/
theorem State.loopEnded_rd (s : State) (c : Nat) (f : DWord) (sb : Bool) :
    ((s.loopNoted c f sb).culvTo c 0).rd (Reg.CLV.CTRL_LOOP c) = 0 ∧ ((s.loopNoted c f sb).culvTo c 0).rd (Reg.CLV.LOOP_STAT_DONE c) = 1 ∧
      ((s.loopNoted c f sb).culvTo c 0).rd (Reg.CLV.LOOP_STAT_SB_FAIL c) = ofBool sb ∧
      ((s.loopNoted c f sb).culvTo c 0).rd (Reg.CLV.LOOP_STAT_PASS c) = ofBool (f == 0 && !sb) ∧
      ((s.loopNoted c f sb).culvTo c 0).rdPair (Reg.CLV.LOOP_FAIL_LO c) (Reg.CLV.LOOP_FAIL_HI c) = f.toNat ∧
      ((s.loopNoted c f sb).culvTo c 0).rd (Reg.CLV.CTRL_ENABLE c) = s.rd (Reg.CLV.CTRL_ENABLE c) := by
  have hb : ∀ b : Bool, ofBool b % 2 ^ 1 = ofBool b := by decide
  refine ⟨?_, ?_, ?_, ?_, ?_, ?_⟩
  · simp (disch := exact Field.key_ne_of_place rfl rfl rfl) only [State.culvTo_rd_ne, State.loopNoted, State.rd_wr_same, Nat.zero_mod]
  · simp (disch := exact Field.key_ne_of_place rfl rfl rfl) only [State.culvTo_rd_ne, State.loopNoted, State.wrB, State.rd_wr_ne, State.rd_wr_same]
    rfl
  · simp (disch := exact Field.key_ne_of_place rfl rfl rfl) only [State.culvTo_rd_ne, State.loopNoted, State.wrB, State.rd_wr_ne, State.rd_wr_same]
    exact hb sb
  · simp (disch := exact Field.key_ne_of_place rfl rfl rfl) only [State.culvTo_rd_ne, State.loopNoted, State.wrB, State.rd_wr_ne, State.rd_wr_same]
    exact hb _
  · simp (disch := exact Field.key_ne_of_place rfl rfl rfl) only [State.rdPair, State.culvTo_rd_ne, State.loopNoted, State.wrB, State.rd_wr_ne]
    exact State.wrPair_rdPair s (by exact Field.key_ne_of_place rfl rfl rfl) rfl rfl f.isLt
  · simp (disch := exact Field.key_ne_of_place rfl rfl rfl) only [State.culvTo_rd_ne, State.loopNoted, State.wrB, State.rd_wr_ne, State.rd_wrPair_ne]

/-- Settles O46: what each CTRL write does by the state its culvert is in, and the registers of a loopback that ends. -/
theorem culvertsAreCommanded : Obligations.CulvertsAreCommanded := by
  refine ⟨fun s via c d hd hl hst hoff hbit hstep => ?_, fun s via c d hd hl hbit => ?_, fun s via c d hd hl hbit hretrain => ?_,
    fun s via c d hd hl hst hloop hbit hstart => ?_, fun s c f sb hst htime => ?_,
    fun s c f sb hst => congrArg Host.Outcome.next (if_neg fun h => hst h.1)⟩
  · have ht := exec_clvCtrl d (.inl rfl) hd hl
    have hframe := s.ctrlActs_written_frame c.val d.toNat (s.flag (Reg.CLV.CTRL_ENABLE c.val)) (s.flag (Reg.CLV.CTRL_LOOP c.val)) (d.getLsbD 8)
      (d.getLsbD 9 && d.getLsbD 8) (s.culvState c.val)
    have henable := s.ctrlActs_enable c d (s.flag (Reg.CLV.CTRL_ENABLE c.val)) (s.flag (Reg.CLV.CTRL_LOOP c.val)) (d.getLsbD 8)
      (d.getLsbD 9 && d.getLsbD 8) (s.culvState c.val)
    have hacts : (s.ctrlWritten c.val d.toNat).ctrlActs c.val (s.flag (Reg.CLV.CTRL_ENABLE c.val)) (s.flag (Reg.CLV.CTRL_LOOP c.val)) (d.getLsbD 8)
        (d.getLsbD 9 && d.getLsbD 8) (s.culvState c.val) = (s.ctrlWritten c.val d.toNat).culvStart c.val := by
      rw [hst, hbit, hoff]
      exact if_pos (by rw [s.ctrlWritten_stepNo]; simp [hstep])
    obtain ⟨hsince, hclock, hother⟩ := (s.ctrlWritten c.val d.toNat).culvStart_culv c.val
    refine ⟨_, ht, ?_, by rw [henable, hbit]; rfl, ?_, ?_, fun k hk => ?_, hframe⟩
    · rw [hacts]
      exact State.culvTo_state (s.ctrlWritten c.val d.toNat) c.val (st := 1) (by decide)
    · rw [hacts, hsince, State.now, s.ctrlWritten_clk]
      rfl
    · rw [hacts, hclock]
    · rw [hacts, hother k hk]
      exact congrArg (Tab.read Culv.reset · k) (s.ctrlWritten_culvs c.val d.toNat)
  · have ht := exec_clvCtrl d (.inr (.inl rfl)) hd hl
    refine ⟨_, ht, by rw [State.ctrlActs_enable, hbit]; rfl, fun hst => ?_, fun hst => ?_, fun h1 hst => ?_, s.ctrlActs_written_frame ..⟩
    · rw [hst, hbit, Bool.and_false]
      exact State.culvTo_state (s.ctrlWritten c.val d.toNat) c.val (st := 6) (by decide)
    · rw [hst]
      exact (s.ctrlWritten_culvState _ _ _).trans hst
    · rw [hbit]
      rcases hst with h4 | h7
      · rw [State.ctrlActs_training _ _ _ _ _ _ h1 h4]
        exact State.culvStop_state _ _
      · rw [h7]
        exact State.culvStop_state _ _
  · have ht := exec_clvCtrl d (.inr (.inr (.inl rfl))) hd hl
    refine ⟨_, ht, by rw [State.ctrlActs_enable, hbit]; rfl, fun hst => ?_, fun hst => ?_, fun h1 h4 => ?_, s.ctrlActs_written_frame ..⟩
    · rw [hst, hbit, hretrain]
      exact State.culvTo_state (s.ctrlWritten c.val d.toNat) c.val (st := 6) (by decide)
    · rw [hst, hbit, hretrain]
      exact State.culvTo_state (s.ctrlWritten c.val d.toNat) c.val (st := 1) (by decide)
    · rw [State.ctrlActs_training _ _ _ _ _ _ h1 h4, hbit, if_pos rfl]
      exact ⟨s.ctrlWritten_culvState _ _ _, s.ctrlWritten_culvs _ _⟩
  · have ht := exec_clvCtrl d (.inr (.inr (.inr rfl))) hd hl
    have hwritten : (s.ctrlWritten c.val d.toNat).flag (Reg.CLV.CTRL_LOOP c.val) = true :=
      State.flag_of_rd_ofBool (by rw [s.ctrlWritten_loop c.isLt, bits_of_getLsbD, hstart])
    have hacts : (s.ctrlWritten c.val d.toNat).ctrlActs c.val (s.flag (Reg.CLV.CTRL_ENABLE c.val)) (s.flag (Reg.CLV.CTRL_LOOP c.val)) (d.getLsbD 8)
        (d.getLsbD 9 && d.getLsbD 8) (s.culvState c.val) = (s.ctrlWritten c.val d.toNat).startLoop c.val := by
      rw [hst, hbit, hloop]
      exact if_pos (by rw [hwritten]; rfl)
    refine ⟨_, ht, ?_, by rw [State.ctrlActs_loop, hstart]; rfl, ?_, s.ctrlActs_written_frame ..⟩
    · rw [hacts]
      exact State.culvTo_state _ _ (by decide)
    · rw [hacts, State.startLoop, State.culvTo_culv_same]
      exact congrArg ClkState.elapsed (s.ctrlWritten_clk _ _)
  · obtain ⟨hloop, hdone, hsb, hpass, hpair, henable⟩ := s.loopEnded_rd c.val f sb
    exact ⟨_, exec_loopbackEnd f sb hst htime, State.culvTo_state _ _ (by decide), hloop, hdone, State.flag_of_rd_ofBool hsb,
      State.flag_of_rd_ofBool hpass, hpair, henable, rfl⟩

/-! ## CULVERT_LOOP (R487) -/

/-- A culvert that CULVERT_LOOP finds OFF, with no loopback and each field of its CTRL in its range. -/
def State.loopReady (s : State) (c : Nat) : Prop :=
  s.culvState c = 0 ∧ s.flag (Reg.CLV.CTRL_LOOP c) = false ∧ ∀ r ∈ fieldsAt (0x020 + c) 0x004, s.rd (fieldOf (0x020 + c) 0x004 r) ≤ r.max

/-- A culvert's CTRL as stored, where ENABLE and LOOP are left out. -/
def State.ctrlRest (s : State) (c : Nat) : Nat :=
  s.rd (fieldOf (0x020 + c) 0x004 ⟨1, 1, .rw, 0, 0, 1⟩) * 2 + s.rd (fieldOf (0x020 + c) 0x004 ⟨0, 0, .rw, 0, 0, 1⟩) +
    s.rd (Reg.CLV.CTRL_MAX_RATE c) * 1024

theorem State.stored_clvCtrl (s : State) {c : Nat} (hc : c < 8) : s.stored (0x020 + c) 0x004 =
    s.ctrlRest c + s.rd (Reg.CLV.CTRL_LOOP c) * 4096 + s.rd (Reg.CLV.CTRL_ENABLE c) * 256 := by
  have hrows : fieldsAt (0x020 + c) 0x004 = clvCtrlRows := fieldsAt_clvCtrl ⟨c, hc⟩
  have hrate : s.rd (fieldOf (0x020 + c) 0x004 ⟨11, 10, .rw, 2, 0, 2⟩) = s.rd (Reg.CLV.CTRL_MAX_RATE c) := rfl
  have hloop : s.rd (fieldOf (0x020 + c) 0x004 ⟨12, 12, .rw, 0, 0, 1⟩) = s.rd (Reg.CLV.CTRL_LOOP c) := rfl
  have henable : s.rd (fieldOf (0x020 + c) 0x004 ⟨8, 8, .rw, 1, 0, 1⟩) = s.rd (Reg.CLV.CTRL_ENABLE c) := rfl
  simp only [State.stored, hrows, clvCtrlRows, List.foldl_cons, List.foldl_nil, reduceCtorEq, if_true, if_false, hrate, hloop, henable, State.ctrlRest]
  omega

/-- CTRL written with what it holds but ENABLE and LOOP: the fields it holds stay. -/
theorem State.ctrlWritten_rest (s : State) {c : Nat} (hc : c < 8) (h : s.loopReady c) {e l : Nat} (he : e ≤ 1) (hl : l ≤ 1) :
    (s.ctrlWritten c (s.ctrlRest c + l * 4096 + e * 256)).ctrlRest c = s.ctrlRest c ∧ bits (s.ctrlRest c + l * 4096 + e * 256) 8 8 = e ∧
      bits (s.ctrlRest c + l * 4096 + e * 256) 12 12 = l ∧ s.ctrlRest c + 1024 < 4096 := by
  obtain ⟨-, -, hmax⟩ := h
  have hrows : fieldsAt (0x020 + c) 0x004 = clvCtrlRows := fieldsAt_clvCtrl ⟨c, hc⟩
  rw [hrows] at hmax
  have ha : s.rd (fieldOf (0x020 + c) 0x004 ⟨1, 1, .rw, 0, 0, 1⟩) ≤ 1 := hmax ⟨1, 1, .rw, 0, 0, 1⟩ (by decide)
  have hb : s.rd (fieldOf (0x020 + c) 0x004 ⟨0, 0, .rw, 0, 0, 1⟩) ≤ 1 := hmax ⟨0, 0, .rw, 0, 0, 1⟩ (by decide)
  have hm : s.rd (Reg.CLV.CTRL_MAX_RATE c) ≤ 2 := hmax ⟨11, 10, .rw, 2, 0, 2⟩ (by decide)
  have hrow := fun (d : Nat) (r : FieldRow) => s.ctrlWritten_row hc d (r := r)
  have hsum : s.ctrlRest c = s.rd (fieldOf (0x020 + c) 0x004 ⟨1, 1, .rw, 0, 0, 1⟩) * 2 + s.rd (fieldOf (0x020 + c) 0x004 ⟨0, 0, .rw, 0, 0, 1⟩) +
    s.rd (Reg.CLV.CTRL_MAX_RATE c) * 1024 := rfl
  generalize s.rd (fieldOf (0x020 + c) 0x004 ⟨1, 1, .rw, 0, 0, 1⟩) = x at ha hsum
  generalize s.rd (fieldOf (0x020 + c) 0x004 ⟨0, 0, .rw, 0, 0, 1⟩) = y at hb hsum
  generalize s.rd (Reg.CLV.CTRL_MAX_RATE c) = z at hm hsum
  have hbits : bits (s.ctrlRest c + l * 4096 + e * 256) 1 1 = x ∧ bits (s.ctrlRest c + l * 4096 + e * 256) 0 0 = y ∧
      bits (s.ctrlRest c + l * 4096 + e * 256) 11 10 = z ∧ bits (s.ctrlRest c + l * 4096 + e * 256) 8 8 = e ∧
      bits (s.ctrlRest c + l * 4096 + e * 256) 12 12 = l := by
    rw [hsum]
    unfold bits
    refine ⟨?_, ?_, ?_, ?_, ?_⟩ <;> omega
  obtain ⟨hx, hy, hz, he', hl'⟩ := hbits
  have hrate : (s.ctrlWritten c (s.ctrlRest c + l * 4096 + e * 256)).rd (Reg.CLV.CTRL_MAX_RATE c) = z :=
    (hrow _ ⟨11, 10, .rw, 2, 0, 2⟩ (by decide) rfl (by simpa only [hz] using hm)).trans hz
  refine ⟨?_, he', hl', by omega⟩
  rw [State.ctrlRest, hrow _ ⟨1, 1, .rw, 0, 0, 1⟩ (by decide) rfl (bits_one_le _ _), hrow _ ⟨0, 0, .rw, 0, 0, 1⟩ (by decide) rfl (bits_one_le _ _),
    hrate, hx, hy, hsum]

theorem bitAt_of_bits {d i b : Nat} (h : bits d i i = b) : bitAt d i = (b == 1) := by
  rw [← h, bits_low]
  rfl

/-- The two writes leave the culvert in loopback, with ENABLE 0 and LOOP 1. -/
theorem State.scanLoop_spec (s : State) {c : Nat} (hc : c < 8) (h : s.loopReady c) : (s.scanLoop c).culvState c = 8 ∧
    (s.scanLoop c).rd (Reg.CLV.CTRL_ENABLE c) = 0 ∧ (s.scanLoop c).rd (Reg.CLV.CTRL_LOOP c) = 1 := by
  obtain ⟨hst, hloop, hmax⟩ := id h
  have hl : s.rd (Reg.CLV.CTRL_LOOP c) = 0 := by simpa [State.flag] using hloop
  have he : s.rd (Reg.CLV.CTRL_ENABLE c) ≤ 1 :=
    hmax ⟨8, 8, .rw, 1, 0, 1⟩ (by rw [show fieldsAt (0x020 + c) 0x004 = clvCtrlRows from fieldsAt_clvCtrl ⟨c, hc⟩]; decide)
  obtain ⟨hrest, hoff, hnoloop, hrange⟩ := s.ctrlWritten_rest hc h (e := 0) (l := 0) (by decide) (by decide)
  obtain ⟨-, hoff', honloop, -⟩ := s.ctrlWritten_rest hc h (e := 0) (l := 1) (by decide) (by decide)
  obtain ⟨-, hwas, -, -⟩ := s.ctrlWritten_rest hc h (l := 0) he (by decide)
  have hclear : clearBit (s.stored (0x020 + c) 0x004) 8 = s.ctrlRest c + 0 * 4096 + 0 * 256 := by
    rw [s.stored_clvCtrl hc, hl, clearBit, bitAt_of_bits hwas]
    interval_cases s.rd (Reg.CLV.CTRL_ENABLE c) <;> simp
  have hfirst : s.wrClvCtrl c (clearBit (s.stored (0x020 + c) 0x004) 8) = s.ctrlWritten c (s.ctrlRest c + 0 * 4096 + 0 * 256) := by
    rw [hclear, s.wrClvCtrl_eq hc, hst, bitAt_of_bits hoff]
    have hflag : (s.ctrlWritten c (s.ctrlRest c + 0 * 4096 + 0 * 256)).flag (Reg.CLV.CTRL_LOOP c) = false := by
      rw [State.flag, s.ctrlWritten_loop hc, hnoloop]
      rfl
    exact if_neg (by rw [hflag]; simp)
  have hstored : (s.ctrlWritten c (s.ctrlRest c + 0 * 4096 + 0 * 256)).stored (0x020 + c) 0x004 +
      (1 - (s.ctrlWritten c (s.ctrlRest c + 0 * 4096 + 0 * 256)).rd (Reg.CLV.CTRL_LOOP c)) * 2 ^ (Reg.CLV.CTRL_LOOP c).lo =
      s.ctrlRest c + 1 * 4096 + 0 * 256 := by
    rw [State.stored_clvCtrl _ hc, hrest, s.ctrlWritten_loop hc, s.ctrlWritten_enable hc, hoff, hnoloop]
    rfl
  have hscan : s.scanLoop c = ((s.ctrlWritten c (s.ctrlRest c + 0 * 4096 + 0 * 256)).ctrlWritten c (s.ctrlRest c + 1 * 4096 + 0 * 256)).startLoop c := by
    rw [State.scanLoop]
    rw [hfirst, hstored, State.wrClvCtrl_eq _ hc, State.ctrlWritten_culvState, hst, bitAt_of_bits hoff']
    have hflag : ((s.ctrlWritten c (s.ctrlRest c + 0 * 4096 + 0 * 256)).ctrlWritten c (s.ctrlRest c + 1 * 4096 + 0 * 256)).flag
        (Reg.CLV.CTRL_LOOP c) = true := by
      rw [State.flag, State.ctrlWritten_loop _ hc, honloop]
      rfl
    have hwasloop : (s.ctrlWritten c (s.ctrlRest c + 0 * 4096 + 0 * 256)).flag (Reg.CLV.CTRL_LOOP c) = false := by
      rw [State.flag, State.ctrlWritten_loop _ hc, hnoloop]
      rfl
    exact if_pos (by rw [hflag, hwasloop]; rfl)
  rw [hscan, State.startLoop]
  refine ⟨State.culvTo_state _ _ (by decide), ?_, ?_⟩
  · rw [State.culvTo_rd_ne _ _ (by exact Field.key_ne_of_place rfl rfl rfl), State.ctrlWritten_enable _ hc, hoff']
  · rw [State.culvTo_rd_ne _ _ (by exact Field.key_ne_of_place rfl rfl rfl), State.ctrlWritten_loop _ hc, honloop]

/-- What it does to one culvert leaves the pages of the others. -/
theorem State.wrClvCtrl_rd_ne_page (s : State) {c : Nat} (hc : c < 8) (data : Nat) {g : Field} (hpage : 0x020 + c ≠ g.page)
    (hg : g.off < 0x1000 ∧ g.lo < 32) : (s.wrClvCtrl c data).rd g = s.rd g := by
  rw [s.wrClvCtrl_eq hc, State.ctrlActs_rd_ne _ _ _ _ _ _ _ (Field.key_ne_of_page hpage (show 0x008 < 0x1000 ∧ 0 < 32 by decide) hg)]
  exact s.writeFields_rd_ne_page data hpage (by decide) hg

theorem State.scanLoop_rd_ne_page (s : State) {c : Nat} (hc : c < 8) {g : Field} (hpage : 0x020 + c ≠ g.page) (hg : g.off < 0x1000 ∧ g.lo < 32) :
    (s.scanLoop c).rd g = s.rd g :=
  (State.wrClvCtrl_rd_ne_page _ hc _ hpage hg).trans (s.wrClvCtrl_rd_ne_page hc _ hpage hg)

theorem State.scanLoop_frame (s : State) {c : Nat} (hc : c < 8) :
    s.scanLoop c = { s with regs := (s.scanLoop c).regs, culvs := (s.scanLoop c).culvs } := by
  unfold State.scanLoop
  dsimp only
  rw [State.wrClvCtrl_frame _ hc, s.wrClvCtrl_frame hc]

theorem State.scanLoops_frame (l : List Nat) : ∀ s : State, (∀ c ∈ l, c < 8) →
    l.foldl State.scanLoop s = { s with regs := (l.foldl State.scanLoop s).regs, culvs := (l.foldl State.scanLoop s).culvs } := by
  induction l with
  | nil => exact fun s _ => rfl
  | cons c l ih =>
    intro s h
    rw [List.foldl_cons, ih _ fun k hk => h k (List.mem_cons_of_mem _ hk), s.scanLoop_frame (h c List.mem_cons_self)]

/-- Every culvert that was ready is in loopback. -/
theorem State.scanLoops_spec (s : State) {c : Nat} (hc : c < 8) (h : s.loopReady c) :
    ((List.range 8).foldl State.scanLoop s).culvState c = 8 ∧ ((List.range 8).foldl State.scanLoop s).rd (Reg.CLV.CTRL_ENABLE c) = 0 ∧
      ((List.range 8).foldl State.scanLoop s).rd (Reg.CLV.CTRL_LOOP c) = 1 := by
  have hother : ∀ (t : State) (b : Nat), b ∈ List.range 8 → b ≠ c → ∀ g : Field, g.page = 0x020 + c → g.off < 0x1000 ∧ g.lo < 32 →
      (t.scanLoop b).rd g = t.rd g := fun t b hb hbc g hpage hg =>
    t.scanLoop_rd_ne_page (List.mem_range.mp hb) (by omega) hg
  refine foldl_at State.scanLoop (pre := (State.loopReady · c))
    (post := fun t => t.culvState c = 8 ∧ t.rd (Reg.CLV.CTRL_ENABLE c) = 0 ∧ t.rd (Reg.CLV.CTRL_LOOP c) = 1) List.nodup_range
    (List.mem_range.mpr hc) (fun t b hb hbc ht => ?_) (fun t ht => t.scanLoop_spec hc ht) (fun t b hb hbc ht => ?_) h
  · obtain ⟨hst, hloop, hmax⟩ := ht
    refine ⟨(hother t b hb hbc _ rfl (show 0x008 < 0x1000 ∧ 0 < 32 by decide)).trans hst, ?_, fun r hr => ?_⟩
    · rw [State.flag, hother t b hb hbc _ rfl (show 0x004 < 0x1000 ∧ 12 < 32 by decide)]
      exact hloop
    · rw [hother t b hb hbc _ rfl ⟨show 0x004 < 0x1000 by decide, fieldsAt_lo hr⟩]
      exact hmax r hr
  · obtain ⟨hst, henable, hloop⟩ := ht
    exact ⟨(hother t b hb hbc _ rfl (show 0x008 < 0x1000 ∧ 0 < 32 by decide)).trans hst,
      (hother t b hb hbc _ rfl (show 0x004 < 0x1000 ∧ 8 < 32 by decide)).trans henable,
      (hother t b hb hbc _ rfl (show 0x004 < 0x1000 ∧ 12 < 32 by decide)).trans hloop⟩

/-- CULVERT_LOOP's end: what LOOP_DR captures. -/
def State.loopCaptured (s : State) (ok : Bool) : State :=
  State.tapTo { s with tap := { s.tap with refused := !ok } } 0x10 (State.loopWord { s with tap := { s.tap with refused := !ok } })

theorem exec_culvertLoop_granted {s : State} (h : s.loopGranted = true) :
    exec .culvertLoop s = .next (((List.range 8).foldl State.scanLoop s).loopCaptured true) := by
  refine congrArg Host.Outcome.next ?_
  simp only [h, if_true]
  rfl

theorem exec_culvertLoop_refused {s : State} (h : s.loopGranted = false) : exec .culvertLoop s = .next (s.loopCaptured false) := by
  refine congrArg Host.Outcome.next ?_
  simp only [h, Bool.false_eq_true, if_false]
  rfl

/-- Settles O47: every culvert found OFF goes into loopback by two writes of its CTRL; a refusal captures only. -/
theorem scannedLoopback : Obligations.ScannedLoopback := by
  refine ⟨fun s hopen hlock hready => ?_, fun s hno => ?_⟩
  · have hgrant : s.loopGranted = true := by
      have hidle : ∀ c ∈ List.range 8, (s.culvState c != 5) = true := fun c hc => by simp [(hready c (List.mem_range.mp hc)).1]
      simp only [State.loopGranted, hopen, hlock, List.all_eq_true.mpr hidle]
      rfl
    refine ⟨_, exec_culvertLoop_granted hgrant, rfl, rfl, fun c hc => ?_, ?_⟩
    · exact State.scanLoops_spec s hc (hready c hc)
    · rw [State.loopCaptured, State.tapTo, State.scanLoops_frame _ s fun c hc => List.mem_range.mp hc]
  · have hgrant : s.loopGranted = false := by
      rcases hno with h | h | ⟨c, hc, hst⟩
      · simp [State.loopGranted, h]
      · simp [State.loopGranted, h]
      · have hany : ((List.range 8).all fun c => s.culvState c != 5) = false :=
          List.all_eq_false.mpr ⟨c, List.mem_range.mpr hc, by simp [hst]⟩
        rw [State.loopGranted, hany, Bool.and_false]
    exact ⟨_, exec_culvertLoop_refused hgrant, rfl, rfl, rfl, rfl⟩

end Sys2Proof.Machine
end

section
/-! SUPPORT. Links: a stream's link, and what a port does with a shell it receives (spec section 09, R282, R286 to R289, R303). -/

namespace Sys2Proof.Machine

/-! ## The links -/

@[simp] theorem State.setLink_link_same (s : State) (n : Nat) (x : Link) : (s.setLink n x).link n = x := Tab.read_write_same _ _ _ _

theorem State.setLink_link_ne (s : State) {n k : Nat} (x : Link) (h : k ≠ n) : (s.setLink n x).link k = s.link k := Tab.read_write_ne _ _ _ _ h.symm

@[simp] theorem State.raise1_link (s : State) (e : Event) (n : Nat) : (s.raise1 e).link n = s.link n :=
  congrArg (Tab.read Link.reset · n) (s.raise1_links e)

theorem State.link_of_links {s t : State} (h : t.links = s.links) (n : Nat) : t.link n = s.link n := congrArg (Tab.read Link.reset · n) h

theorem lnk_page (p : Nat) : 0x010 ≤ 0x040 + p := by omega

/-- Steps that change registers and links alone, one after the other. -/
theorem regsLinks_trans {s t u : State} (ht : t = { s with regs := t.regs, links := t.links }) (hu : u = { t with regs := u.regs, links := u.links }) :
    u = { s with regs := u.regs, links := u.links } := by
  rw [hu, ht]

theorem State.regsLinks_of_links {s t : State} (h : t = { s with links := t.links }) : t = { s with regs := t.regs, links := t.links } := by
  rw [h]

/-- A fold of writes to registers writes registers alone. -/
theorem foldl_regs_frame {α : Type} (f : State → α → State) (h : ∀ s a, f s a = { s with regs := (f s a).regs }) (l : List α) (s : State) :
    l.foldl f s = { s with regs := (l.foldl f s).regs } := by
  induction l generalizing s with
  | nil => rfl
  | cons a l ih => rw [List.foldl_cons, ih, h s a]

/-! ## What the lane decoders report (LANE_FEC) -/

/-- A field that is none of a port's LANE_FEC counts. -/
def Field.offFec (p : Nat) (g : Field) : Prop := (g.page ≠ 0x040 + p ∨ g.off < 0x100) ∧ g.off < 0x1000 ∧ g.lo < 32

/-- One lane's codewords counted. -/
def State.fecLane (p : Nat) (s : State) (x : Nat × Option Nat) : State :=
  match x.2 with
  | .none => s.bump (Reg.LNK.LANE_FEC_UNCORR p x.1)
  | some n => s.addTo (Reg.LNK.LANE_FEC_CORR_SYM p x.1) n

theorem State.laneFec_frame (s : State) (p : Nat) (lanes : List (Option Nat)) : s.laneFec p lanes = { s with regs := (s.laneFec p lanes).regs } := by
  refine foldl_regs_frame (State.fecLane p) (fun t x => ?_) _ s
  unfold State.fecLane
  split <;> rfl

theorem State.laneFec_rd (s : State) (p : Nat) (lanes : List (Option Nat)) {g : Field} (hg : g.offFec p) : (s.laneFec p lanes).rd g = s.rd g := by
  obtain ⟨hplace, hrange⟩ := hg
  refine foldl_untouched (State.fecLane p) (State.rd · g) (fun t x hx => ?_) s
  have hlane : x.1 < 16 := List.mem_range.mp (List.mem_filter.mp (List.of_mem_zip hx).1).1
  have hne : ∀ f : Field, f.page = 0x040 + p → f.off = 0x100 + 4 * x.1 → f.lo < 32 → f.key ≠ g.key := fun f hp ho hl => by
    unfold Field.key
    omega
  unfold State.fecLane
  split
  · exact State.rd_bump_ne _ (hne _ rfl rfl (show 16 < 32 by decide))
  · exact State.rd_addTo_ne _ _ (hne _ rfl rfl (show 0 < 32 by decide))

/-- A shell of a kind other than TRAIN heard. -/
def State.heard (s : State) (p : Nat) (lanes : List (Option Nat)) : State := (s.laneFec p lanes).endTrainRun p

theorem State.laneFec_link (s : State) (p : Nat) (lanes : List (Option Nat)) (n : Nat) : (s.laneFec p lanes).link n = s.link n :=
  State.link_of_links (by rw [s.laneFec_frame p lanes]) n

theorem State.heard_link_same (s : State) (p : Nat) (lanes : List (Option Nat)) : (s.heard p lanes).link p = { s.link p with trainRx := 0 } := by
  rw [State.heard, State.endTrainRun, State.setLink_link_same, State.laneFec_link]

theorem State.heard_link_ne (s : State) {p n : Nat} (lanes : List (Option Nat)) (h : n ≠ p) : (s.heard p lanes).link n = s.link n := by
  rw [State.heard, State.endTrainRun, State.setLink_link_ne _ _ h, State.laneFec_link]

theorem State.heard_rd (s : State) (p : Nat) (lanes : List (Option Nat)) {g : Field} (hg : g.offFec p) : (s.heard p lanes).rd g = s.rd g :=
  s.laneFec_rd p lanes hg

theorem State.heard_frame (s : State) (p : Nat) (lanes : List (Option Nat)) :
    s.heard p lanes = { s with regs := (s.heard p lanes).regs, links := (s.heard p lanes).links } := by
  rw [State.heard, State.endTrainRun, s.laneFec_frame]
  rfl

/-! ## ACK and credits (R287, R294) -/

theorem State.retire_of_none (s : State) {n : Nat} {ack : BitVec 24} (h : ack = (s.link n).txAcked) : s.retire n ack = s :=
  if_neg (by simp [h, seqBehind])

/-- An ACK of shells held takes them from the replay buffer. -/
theorem State.retire_link_same (s : State) {n : Nat} {ack : BitVec 24} (h : seqBehind ack (s.link n).txAcked ≤ (s.link n).replay.length) :
    ((s.retire n ack).link n).txAcked = ack ∧ ((s.retire n ack).link n).replay = (s.link n).replay.drop (seqBehind ack (s.link n).txAcked) := by
  by_cases hk : 0 < seqBehind ack (s.link n).txAcked
  · rw [State.retire, if_pos ⟨hk, h⟩, State.returnPages, State.wr_link, State.setLink_link_same]
    exact ⟨rfl, rfl⟩
  · have hzero : seqBehind ack (s.link n).txAcked = 0 := by omega
    have hack : ack = (s.link n).txAcked := by
      rw [← sub_eq_zero]
      exact BitVec.eq_of_toNat_eq hzero
    rw [s.retire_of_none hack, hzero]
    exact ⟨hack.symm, rfl⟩

/-- What an ACK leaves of a link. -/
def Link.unacked (l : Link) : Link := { l with replay := [], txAcked := 0, resend := 0, timer := 0, expiries := 0 }

theorem State.retire_unacked (s : State) (n k : Nat) (ack : BitVec 24) : ((s.retire n ack).link k).unacked = (s.link k).unacked := by
  unfold State.retire
  dsimp only
  split
  · rw [State.returnPages, State.wr_link]
    by_cases hk : k = n
    · rw [hk, State.setLink_link_same]
      rfl
    · rw [State.setLink_link_ne _ _ hk]
  · rfl

theorem State.retire_link_ne (s : State) {n k : Nat} (ack : BitVec 24) (h : k ≠ n) : (s.retire n ack).link k = s.link k := by
  unfold State.retire
  dsimp only
  split
  · rw [State.returnPages, State.wr_link, State.setLink_link_ne _ _ h]
  · rfl

theorem State.retire_rd (s : State) (n : Nat) (ack : BitVec 24) {g : Field} (h : (Reg.RSV.USED 0).key ≠ g.key) : (s.retire n ack).rd g = s.rd g := by
  unfold State.retire
  dsimp only
  split
  · exact State.rd_wr_ne _ _ h
  · rfl

theorem State.retire_frame (s : State) (n : Nat) (ack : BitVec 24) :
    s.retire n ack = { s with regs := (s.retire n ack).regs, links := (s.retire n ack).links } := by
  unfold State.retire
  dsimp only
  split <;> rfl

theorem State.takeHeader_of_link (s : State) (p : Nat) {h : ShellHdr} (hfan : h.fan = false) :
    s.takeHeader p h = (s.retire p h.ack).takeCredit p h.crTc.toNat h.crHdr.toNat h.crData.toNat :=
  if_neg (by simp [hfan])

/-- A link with credits returned for a class. -/
def Link.credited (l : Link) (c hdr data : Nat) : Link := { l with backHdr := setAt l.backHdr c hdr, backData := setAt l.backData c data }

theorem State.takeCredit_link_same (s : State) (n c hdr data : Nat) : (s.takeCredit n c hdr data).link n = (s.link n).credited c hdr data :=
  State.setLink_link_same _ _ _

theorem State.takeCredit_link_ne (s : State) {n k : Nat} (c hdr data : Nat) (h : k ≠ n) : (s.takeCredit n c hdr data).link k = s.link k :=
  State.setLink_link_ne _ _ h

/-! ## A link's fault (R307) -/

/-- A fault noted changes no more of a link than that. -/
theorem State.linkFault_link_same (s : State) (p reason lane seq : Nat) : ∃ d, (s.linkFault p reason lane seq).link p = { s.link p with down := d } := by
  unfold State.linkFault
  split
  · exact ⟨_, rfl⟩
  · dsimp only
    split
    · exact ⟨_, State.setLink_link_same _ _ _⟩
    · split
      · exact ⟨_, State.setLink_link_same _ _ _⟩
      · exact ⟨_, rfl⟩

theorem State.linkFault_frame (s : State) (p reason lane seq : Nat) :
    s.linkFault p reason lane seq = { s with links := (s.linkFault p reason lane seq).links } := by
  unfold State.linkFault
  split
  · rfl
  · dsimp only
    split
    · rfl
    · split <;> rfl

/-! ## Fans on a port's fibre -/

/-- Whether a port is a member of a lit fan depends on the Flume's registers, its fans and the stroke. -/
theorem State.litSlot_congr {s t : State} (p : Nat) (hst : ∀ k < 8, t.rd (Reg.FLM.FAN_STAT_STATE k) = s.rd (Reg.FLM.FAN_STAT_STATE k))
    (hmask : ∀ k < 8, t.rd (Reg.FLM.FAN_CFG_MASK k) = s.rd (Reg.FLM.FAN_CFG_MASK k)) (hflm : t.flm = s.flm) (hnow : t.now = s.now) :
    t.litSlot p = s.litSlot p := by
  have hslot : t.slotOfFibre p = s.slotOfFibre p := by
    unfold State.slotOfFibre State.fanState
    refine List.find?_congr fun k hk => ?_
    rw [hst k (List.mem_range.mp hk), hmask k (List.mem_range.mp hk)]
  unfold State.litSlot
  rw [hslot]
  cases hk : s.slotOfFibre p with
  | none => rfl
  | some k =>
    have hlt : k < 8 := List.mem_range.mp (List.mem_of_find?_eq_some hk)
    have hlit : t.fanLit k = s.fanLit k := by
      unfold State.fanLit State.fanState State.fan
      rw [hst k hlt, hflm, hnow]
    simp only [hlit]

/-! ## A shell's header (R288) -/

/-- A shell heard, with its ACK and credits taken. -/
def State.headed (s : State) (p : Nat) (h : ShellHdr) : State := (s.heard p h.lanes).takeHeader p h

section
variable (s : State) (p : Nat) {h : ShellHdr} (hfan : h.fan = false)
include hfan

theorem State.headed_eq : s.headed p h =
    ((s.heard p h.lanes).retire p h.ack).takeCredit p h.crTc.toNat h.crHdr.toNat h.crData.toNat := State.takeHeader_of_link _ p hfan

theorem State.headed_rd {g : Field} (hg : g.offFec p) (hpool : (Reg.RSV.USED 0).key ≠ g.key) : (s.headed p h).rd g = s.rd g := by
  rw [s.headed_eq p hfan, State.takeCredit, State.setLink_rd, State.retire_rd _ _ _ hpool, State.heard_rd _ _ _ hg]

theorem State.headed_link_ne {k : Nat} (hk : k ≠ p) : (s.headed p h).link k = s.link k := by
  rw [s.headed_eq p hfan, State.takeCredit_link_ne _ _ _ _ hk, State.retire_link_ne _ _ hk, State.heard_link_ne _ _ hk]

theorem State.headed_frame : s.headed p h = { s with regs := (s.headed p h).regs, links := (s.headed p h).links } := by
  rw [s.headed_eq p hfan, State.takeCredit, State.retire_frame, s.heard_frame]
  rfl

/-- What a header leaves of its link. -/
theorem State.headed_unacked : ((s.headed p h).link p).unacked =
    (({ s.link p with trainRx := 0 } : Link).credited h.crTc.toNat h.crHdr.toNat h.crData.toNat).unacked := by
  have hold := (s.heard p h.lanes).retire_unacked p p h.ack
  rw [s.heard_link_same] at hold
  rw [s.headed_eq p hfan, State.takeCredit_link_same]
  exact congrArg (Link.credited · h.crTc.toNat h.crHdr.toNat h.crData.toNat) hold

/-- A header whose ACK is not new. -/
theorem State.headed_link_of_same (hack : h.ack = (s.link p).txAcked) : (s.headed p h).link p =
    ({ s.link p with trainRx := 0 } : Link).credited h.crTc.toNat h.crHdr.toNat h.crData.toNat := by
  rw [s.headed_eq p hfan, State.takeCredit_link_same, State.retire_of_none _ (by rw [s.heard_link_same]; exact hack), s.heard_link_same]

/-- The shells that a header's ACK takes. -/
theorem State.headed_acked (hack : seqBehind h.ack (s.link p).txAcked ≤ (s.link p).replay.length) :
    ((s.headed p h).link p).txAcked = h.ack ∧ ((s.headed p h).link p).replay = (s.link p).replay.drop (seqBehind h.ack (s.link p).txAcked) := by
  rw [s.headed_eq p hfan, State.takeCredit_link_same]
  have hret := (s.heard p h.lanes).retire_link_same (n := p) (ack := h.ack) (by rw [s.heard_link_same]; exact hack)
  rw [s.heard_link_same] at hret
  exact hret

end

/-! ## DATA shells (R286, R288, R289) -/

/-- A link that takes what a DATA shell in sequence brings. -/
def Link.accepts (l : Link) (now : Nat) (r : Parsed) : Link :=
  { l with
    rxNext := l.rxNext + 1, ackPending := l.ackPending + 1, ackFirst := if l.ackPending = 0 then now else l.ackFirst,
    partialBytes := r.rest, rxMsgs := l.rxMsgs ++ r.msgs.filter (·.kind != 0) }

/-- What a DATA shell in sequence brings, parsed after what is left of the message before it. -/
def Link.parses (l : Link) (body : List Byte) : Parsed := parseStream (body.length / 8 + 4) 0 (l.partialBytes ++ body)

/-- The offsets of the headers in the shell's own body. -/
def Link.headsIn (l : Link) (body : List Byte) : List Nat :=
  ((l.parses body).heads.filter (l.partialBytes.length ≤ ·)).map (· - l.partialBytes.length)

/-- Whether a shell's body contradicts its header. -/
def Link.misparsed (l : Link) (h : ShellHdr) (body : List Byte) : Bool :=
  (l.parses body).bad || (l.headsIn body).length != h.msgCount || (l.headsIn body).headD 0xFFF != h.first

/-- A stream's acknowledgement point, where it has 32 shells. -/
def State.pointed (s : State) (n : Nat) : State := if 32 ≤ (s.link n).ackPending then s.ackPoint n else s

/-- The end of the peer's pause, at a DATA shell (R302). -/
def State.resumed (s : State) (p : Nat) : State := if bitAt (s.rd (Reg.LNK.STAT_PAUSE p)) 2 then s.peerResumes p else s

/-- A shell whose body may contradict its header. -/
def State.checked (s : State) (p n : Nat) (bad : Bool) : State := if bad then s.linkFault p 5 noLane (s.link n).rxNext.toNat else s

theorem State.acceptShell_eq (s : State) (p n : Nat) (h : ShellHdr) (body : List Byte) : s.acceptShell p n h body =
    (((s.setLink n ((s.link n).accepts s.absCycle ((s.link n).parses body))).pointed n).resumed p).checked p n ((s.link n).misparsed h body) := rfl

theorem State.resumed_of_clear {s : State} {p : Nat} (h : bitAt (s.rd (Reg.LNK.STAT_PAUSE p)) 2 = false) : s.resumed p = s := if_neg (by simp [h])

theorem exec_dataShell {s : State} {p : Fin 16} (h : ShellHdr) (body : List Byte) (hrun : s.running = true) (hup : s.linkUp p.val = true) :
    exec (.dataShell p h body) s = .next (s.takeDataShell p.val h body).settle :=
  congrArg (fun t : State => Host.Outcome.next t) (if_pos (by simp [hrun, hup]))

theorem State.malformedHdr_of_lanes {s t : State} (p : Nat) (h : ShellHdr) (ht : t.lanes = s.lanes) : t.malformedHdr p h = s.malformedHdr p h := by
  unfold State.malformedHdr State.laneSt
  rw [ht]

/-- A good DATA shell of a link's own, its header taken. -/
theorem State.takeDataShell_good (s : State) (p : Nat) {h : ShellHdr} (body : List Byte) (hfan : h.fan = false) (hgood : shellGood h = true) :
    s.takeDataShell p h body =
      let x := if s.malformedHdr p h then (s.headed p h).linkFault p 5 noLane ((s.headed p h).link p).rxNext.toNat else s.headed p h
      if h.seq = (x.link p).rxNext then x.acceptShell p p h body else x.shellBad p p noLane := by
  have hlanes : (s.headed p h).lanes = s.lanes := by rw [s.headed_frame p hfan]
  have hbad : (s.headed p h).malformedHdr p h = s.malformedHdr p h := State.malformedHdr_of_lanes p h hlanes
  unfold State.takeDataShell
  simp only [hgood, hfan, Bool.not_true, Bool.false_eq_true, if_false]
  rw [← hbad]
  rfl

theorem State.takeDataShell_bad (s : State) (p : Nat) {h : ShellHdr} (body : List Byte) (hfan : h.fan = false) (hgood : shellGood h = false) :
    s.takeDataShell p h body = (s.heard p h.lanes).shellBad p p ((s.heard p h.lanes).badLane p h) := by
  unfold State.takeDataShell
  simp only [hgood, hfan, Bool.not_false, if_true, Bool.false_eq_true, if_false]
  rfl

/-- A shell discarded shows and is counted. -/
theorem State.shellBad_spec (s : State) (p n lane : Nat) : (s.shellBad p n lane).shows (Err.LNK.SHELL_BAD p) = true ∧
    (s.shellBad p n lane).rd (Reg.LNK.SHELL_BAD_CNT p) = (s.bump (Reg.LNK.SHELL_BAD_CNT p)).rd (Reg.LNK.SHELL_BAD_CNT p) ∧
    ∀ k, (s.shellBad p n lane).link k = s.link k := by
  refine ⟨State.raise1_shows _ ⟨Err.LNK.SHELL_BAD p, _, _⟩ (show 0 < 32 by decide), ?_, fun k => ?_⟩
  · exact State.raise1_rd _ _ _ (eventFields_key_ne_of_outside rfl (lnk_page p))
  · rw [State.shellBad, State.raise1_link, State.bump_link]

/-- An acknowledgement point of a link whose fibre carries no lit fan. -/
theorem State.ackPoint_of_none {s : State} {p : Nat} (hp : p < 16) (h : s.litSlot p = .none) :
    s.ackPoint p = s.setLink p { s.link p with ackSent := (s.link p).rxNext - 1, ackPending := 0 } := by
  have hslot : (s.setLink p { s.link p with ackSent := (s.link p).rxNext - 1, ackPending := 0 }).litSlot p = .none :=
    (State.litSlot_congr (s := s) p (fun _ _ => rfl) (fun _ _ => rfl) rfl rfl).trans h
  rw [State.ackPoint]
  refine (if_pos hp).trans ?_
  unfold State.fanWords
  rw [hslot]

/-- A shell accepted whose body agrees with its header, away from an acknowledgement point. -/
theorem State.acceptShell_of_agreed {s : State} {p : Nat} {h : ShellHdr} {body : List Byte} (hpend : (s.link p).ackPending < 31)
    (hpause : bitAt (s.rd (Reg.LNK.STAT_PAUSE p)) 2 = false) (hok : (s.link p).misparsed h body = false) :
    s.acceptShell p p h body = s.setLink p ((s.link p).accepts s.absCycle ((s.link p).parses body)) := by
  have hpoint : (s.setLink p ((s.link p).accepts s.absCycle ((s.link p).parses body))).pointed p =
      s.setLink p ((s.link p).accepts s.absCycle ((s.link p).parses body)) := if_neg (by
    rw [State.setLink_link_same]
    exact Nat.not_le.mpr (Nat.succ_lt_succ hpend))
  rw [State.acceptShell_eq, hpoint, State.resumed_of_clear (by rw [State.setLink_rd]; exact hpause), hok]
  rfl

/-- The 32nd shell accepted is an acknowledgement point. -/
theorem State.acceptShell_pointed {s : State} {p : Nat} (h : ShellHdr) (body : List Byte) (hp : p < 16) (hpend : (s.link p).ackPending = 31)
    (hslot : s.litSlot p = .none) (hpause : bitAt (s.rd (Reg.LNK.STAT_PAUSE p)) 2 = false) :
    ((s.acceptShell p p h body).link p).rxNext = (s.link p).rxNext + 1 ∧ ((s.acceptShell p p h body).link p).ackSent = (s.link p).rxNext ∧
      ((s.acceptShell p p h body).link p).ackPending = 0 := by
  have hlit : (s.setLink p ((s.link p).accepts s.absCycle ((s.link p).parses body))).litSlot p = .none :=
    (State.litSlot_congr (s := s) p (fun _ _ => rfl) (fun _ _ => rfl) rfl rfl).trans hslot
  have hpoint : (s.setLink p ((s.link p).accepts s.absCycle ((s.link p).parses body))).pointed p =
      (s.setLink p ((s.link p).accepts s.absCycle ((s.link p).parses body))).ackPoint p := if_pos (by
    rw [State.setLink_link_same]
    exact Nat.le_of_eq (congrArg (· + 1) hpend).symm)
  rw [State.acceptShell_eq, hpoint, State.ackPoint_of_none hp hlit, State.setLink_link_same, State.resumed_of_clear (by
    rw [State.setLink_rd, State.setLink_rd]
    exact hpause)]
  have hsent : (s.link p).rxNext + 1 - 1 = (s.link p).rxNext := add_sub_cancel_right _ _
  unfold State.checked
  split
  · obtain ⟨d, hd⟩ := State.linkFault_link_same ((s.setLink p ((s.link p).accepts s.absCycle ((s.link p).parses body))).setLink p
      { (s.link p).accepts s.absCycle ((s.link p).parses body) with
        ackSent := ((s.link p).accepts s.absCycle ((s.link p).parses body)).rxNext - 1, ackPending := 0 }) p 5 noLane
      ((((s.setLink p ((s.link p).accepts s.absCycle ((s.link p).parses body))).setLink p
      { (s.link p).accepts s.absCycle ((s.link p).parses body) with
        ackSent := ((s.link p).accepts s.absCycle ((s.link p).parses body)).rxNext - 1, ackPending := 0 }).link p).rxNext.toNat)
    rw [hd, State.setLink_link_same]
    exact ⟨rfl, hsent, rfl⟩
  · rw [State.setLink_link_same]
    exact ⟨rfl, hsent, rfl⟩

theorem lnk_offFec (p : Nat) {g : Field} (hoff : g.off < 0x100) (hlo : g.lo < 32) : g.offFec p := ⟨.inr hoff, by omega, hlo⟩

theorem flm_offFec (p : Nat) {g : Field} (hp : g.page = 0x008) (hg : g.off < 0x1000 ∧ g.lo < 32) : g.offFec p := ⟨.inl (by omega), hg⟩

theorem flm_key_ne_pool {g : Field} (hp : g.page = 0x008) (hg : g.off < 0x1000 ∧ g.lo < 32) : (Reg.RSV.USED 0).key ≠ g.key :=
  Field.key_ne_of_page (show 0x009 ≠ g.page by omega) (by decide) hg

/-- A header leaves the fans as they are. -/
theorem State.headed_litSlot (s : State) (p : Nat) {h : ShellHdr} (hfan : h.fan = false) : (s.headed p h).litSlot p = s.litSlot p := by
  refine State.litSlot_congr p (fun k hk => ?_) (fun k hk => ?_) ?_ ?_
  · have hg : (Reg.FLM.FAN_STAT_STATE k).off < 0x1000 ∧ (Reg.FLM.FAN_STAT_STATE k).lo < 32 := ⟨show 0x108 + 0x10 * k < 0x1000 by omega, show 0 < 32 by decide⟩
    exact s.headed_rd p hfan (flm_offFec p rfl hg) (flm_key_ne_pool rfl hg)
  · have hg : (Reg.FLM.FAN_CFG_MASK k).off < 0x1000 ∧ (Reg.FLM.FAN_CFG_MASK k).lo < 32 := ⟨show 0x100 + 0x10 * k < 0x1000 by omega, show 16 < 32 by decide⟩
    exact s.headed_rd p hfan (flm_offFec p rfl hg) (flm_key_ne_pool rfl hg)
  · rw [s.headed_frame p hfan]
  · rw [s.headed_frame p hfan]
    rfl

/-- A good header, and the fault it may note. -/
def State.judged (s : State) (p : Nat) (h : ShellHdr) : State :=
  if s.malformedHdr p h then (s.headed p h).linkFault p 5 noLane ((s.headed p h).link p).rxNext.toNat else s.headed p h

theorem State.judged_link (s : State) (p : Nat) (h : ShellHdr) : ∃ d, (s.judged p h).link p = { (s.headed p h).link p with down := d } := by
  unfold State.judged
  split
  · exact State.linkFault_link_same _ _ _ _ _
  · exact ⟨_, rfl⟩

theorem State.judged_frame (s : State) (p : Nat) (h : ShellHdr) : s.judged p h = { s.headed p h with links := (s.judged p h).links } := by
  unfold State.judged
  split
  · exact State.linkFault_frame _ _ _ _ _
  · rfl

/-! ## Shells without messages, and TRAIN shells (R282, R303) -/

/-- A header without a malformed field. -/
theorem State.takeBare_of_wellFormed {s : State} {p : Nat} {h : ShellHdr} (hfan : h.fan = false) (hmal : s.malformedHdr p h = false)
    (hmsg : h.msgCount = 0) : s.takeBare p h = (s.retire p h.ack).takeCredit p h.crTc.toNat h.crHdr.toNat h.crData.toNat := by
  have hhdr := s.takeHeader_of_link p hfan
  have hlanes : (s.takeHeader p h).lanes = s.lanes := by
    rw [hhdr, State.takeCredit, State.retire_frame]
    rfl
  unfold State.takeBare
  rw [if_neg (by rw [State.malformedHdr_of_lanes p h hlanes, hmal, hmsg]; decide), hhdr]

theorem exec_nullShell {s : State} {p : Fin 16} (h : ShellHdr) (hrun : s.running = true) (hup : s.linkUp p.val = true) :
    exec (.nullShell p h false) s = .next (s.takeNullShell p.val h).settle :=
  congrArg (fun t : State => Host.Outcome.next t) (if_pos (by simp [hrun, hup]))

theorem State.takeNullShell_of_good {s : State} {p : Nat} {h : ShellHdr} (hgood : (if h.kind = 2 then blockGood h else shellGood h) = true) :
    s.takeNullShell p h = (s.heard p h.lanes).takeBare p h := if_pos hgood

theorem exec_trainShell_up {s : State} {p : Fin 16} (h : ShellHdr) (hrun : s.running = true) (hup : s.linkUp p.val = true) :
    exec (.trainShell p h) s = .next (s.takeTrain p.val h).settle :=
  congrArg (fun t : State => Host.Outcome.next t) ((if_pos hrun).trans (if_pos hup))

theorem exec_trainShell_training {s : State} {p : Fin 16} (h : ShellHdr) (hrun : s.running = true) (hup : s.linkUp p.val = false) :
    exec (.trainShell p h) s = .next (s.takeTrain p.val h) :=
  congrArg (fun t : State => Host.Outcome.next t) ((if_pos hrun).trans (if_neg (by simp [hup])))

theorem State.linkUp_of_state {s : State} {p st : Nat} (h : s.linkState p = st) : s.linkUp p = (st == 6 || st == 8) := by
  rw [State.linkUp, h]

/-! ## PARAM words (R304) -/

/-- One operation queued without a lane's cause. -/
def State.queueWord (p : Nat) (s : State) (w : Nat × Nat) : State := s.queueOp p w.1 w.2 (noCause .peer)

/-- Operations queued leave a port's link but for them. -/
theorem State.queueWords_link (p : Nat) (ws : List (Nat × Nat)) (s : State) :
    ∃ more tag, (ws.foldl (State.queueWord p) s).link p = { s.link p with ops := (s.link p).ops ++ more, nextTag := tag } ∧
      more.map (·.op) = ws.map Prod.fst := by
  induction ws generalizing s with
  | nil => exact ⟨[], (s.link p).nextTag, by simp, rfl⟩
  | cons w ws ih =>
    obtain ⟨more, tag, hlink, hops⟩ := ih (s.queueWord p w)
    have hq : (s.queueWord p w).link p = { s.link p with
        ops := (s.link p).ops ++ [⟨w.1, (s.link p).freeTag, BitVec.ofNat 48 w.2, s.absCycle, 0, false, noCause .peer⟩]
        nextTag := (s.link p).tagGiven (s.link p).freeTag } := State.setLink_link_same _ _ _
    rw [List.foldl_cons, hlink, hq]
    exact ⟨⟨w.1, (s.link p).freeTag, BitVec.ofNat 48 w.2, s.absCycle, 0, false, noCause .peer⟩ :: more, tag, by simp, by simp [hops]⟩

theorem State.queueWords_frame (p : Nat) (ws : List (Nat × Nat)) (s : State) :
    ws.foldl (State.queueWord p) s = { s with links := (ws.foldl (State.queueWord p) s).links } := by
  induction ws generalizing s with
  | nil => rfl
  | cons w ws ih =>
    rw [List.foldl_cons, ih]
    rfl

theorem State.queueWords_link_ne {p k : Nat} (ws : List (Nat × Nat)) (s : State) (h : k ≠ p) :
    (ws.foldl (State.queueWord p) s).link k = s.link k :=
  foldl_untouched (State.queueWord p) (State.link · k) (fun _ _ _ => State.setLink_link_ne _ _ h) s

/-- What a port declares of itself. -/
def State.ownParam (s : State) (p : Nat) : Nat :=
  s.rd (Reg.LNK.CTRL_MAX_RATE p) + s.rd (Reg.LNK.CTRL_FEC_OFF p) * 2 ^ 2 + s.rd (Reg.LNK.LINK_CFG p) * 2 ^ 3 + p * 2 ^ 8 +
    s.rd Reg.GLB.STRAPS_POSITION * 2 ^ 12 + s.fuses.serial.toNat % 2 ^ 32 * 2 ^ 16

/-- The words that a port's parameters go out in. -/
def State.paramWords (s : State) (p : Nat) : List (Nat × Nat) :=
  let map := (s.laneSt p).nextMap.getD (s.laneSt p).txMap
  let half := fun (h : Nat) => h * 2 ^ 40 + ((List.range 8).map fun j => map.getD (8 * h + j) noSeat * 2 ^ (5 * j)).sum
  let cred := fun (c : Nat) => c * 2 ^ 40 + s.rd (Reg.LNK.CRED_ADV_HDR p c) * 2 ^ 24 + s.rd (Reg.LNK.CRED_ADV_DATA p c)
  [(0x01, s.ownParam p), (0x02, half 0), (0x02, half 1), (0x03, cred 0), (0x03, cred 1), (0x03, cred 2), (0x03, cred 3)]

/-- A link whose parameters are on their way. -/
def Link.declares (l : Link) (own : Nat) (adv : List Nat) : Link :=
  { l with paramsSent := true, ownRate := bits own 1 0, ownFecOff := bitAt own 2, ownMin := bits own 7 3, advData := adv }

/-- The credits that a port advertises for TC1 to TC3. -/
def State.advertised (s : State) (p : Nat) : List Nat := (List.range 3).map fun c => s.rd (Reg.LNK.CRED_ADV_DATA p (c + 1))

/-- Words of parameters queued, and noted as sent. -/
def State.sendDeclared (s : State) (p own : Nat) (ws : List (Nat × Nat)) : State :=
  (ws.foldl (State.queueWord p) s).setLink p (((ws.foldl (State.queueWord p) s).link p).declares own ((ws.foldl (State.queueWord p) s).advertised p))

theorem State.sendParams_eq (s : State) (p : Nat) : s.sendParams p = s.sendDeclared p (s.ownParam p) (s.paramWords p) := by
  unfold State.sendParams State.paramWords State.ownParam
  dsimp only
  rfl

theorem State.sendDeclared_frame (s : State) (p own : Nat) (ws : List (Nat × Nat)) :
    s.sendDeclared p own ws = { s with links := (s.sendDeclared p own ws).links } := by
  rw [State.sendDeclared, State.queueWords_frame]
  rfl

theorem State.sendDeclared_rd (s : State) (p own : Nat) (ws : List (Nat × Nat)) (g : Field) : (s.sendDeclared p own ws).rd g = s.rd g := by
  rw [State.sendDeclared_frame]
  rfl

theorem State.sendParams_rd (s : State) (p : Nat) (g : Field) : (s.sendParams p).rd g = s.rd g := by
  rw [State.sendParams_eq, State.sendDeclared_rd]

theorem State.sendParams_frame (s : State) (p : Nat) : s.sendParams p = { s with links := (s.sendParams p).links } := by
  rw [State.sendParams_eq]
  exact s.sendDeclared_frame p _ _

theorem State.sendDeclared_link_ne (s : State) {p k : Nat} (own : Nat) (ws : List (Nat × Nat)) (h : k ≠ p) :
    (s.sendDeclared p own ws).link k = s.link k := by
  rw [State.sendDeclared, State.setLink_link_ne _ _ h, State.queueWords_link_ne _ _ h]

/-- The parameters sent are operations more of the port's link. -/
theorem State.sendDeclared_link (s : State) (p own : Nat) (ws : List (Nat × Nat)) : ∃ more tag adv,
    (s.sendDeclared p own ws).link p = ({ s.link p with ops := (s.link p).ops ++ more, nextTag := tag } : Link).declares own adv ∧
      more.map (·.op) = ws.map Prod.fst := by
  obtain ⟨more, tag, hlink, hops⟩ := State.queueWords_link p ws s
  exact ⟨more, tag, _, by rw [State.sendDeclared, State.setLink_link_same, hlink], hops⟩

theorem State.paramWords_ops (s : State) (p : Nat) : (s.paramWords p).map Prod.fst = [1, 2, 2, 3, 3, 3, 3] := by
  simp only [State.paramWords, List.map_cons, List.map_nil]

/-- The parameters sent are seven operations more, the first of them PARAM_OWN. -/
theorem State.sendParams_ops (s : State) (p : Nat) : ((s.sendParams p).link p).since = (s.link p).since ∧
    ((s.sendParams p).link p).paramsSent = true ∧ ((s.sendParams p).link p).ops.length = (s.link p).ops.length + 7 ∧
    ∃ o ∈ ((s.sendParams p).link p).ops, o.op = 1 := by
  have hops := s.paramWords_ops p
  rw [s.sendParams_eq p]
  generalize s.ownParam p = own
  generalize s.paramWords p = ws at hops
  obtain ⟨more, tag, adv, hlink, hmore⟩ := s.sendDeclared_link p own ws
  rw [hops] at hmore
  generalize (s.sendDeclared p own ws).link p = l at hlink
  subst hlink
  refine ⟨rfl, rfl, ?_, ?_⟩
  · have hlen : more.length = 7 := by simpa using congrArg List.length hmore
    simp [Link.declares, hlen]
  · obtain ⟨o, ho, hop⟩ := List.mem_map.mp (show 1 ∈ more.map (·.op) by rw [hmore]; decide)
    exact ⟨o, List.mem_append_right _ ho, hop⟩

/-- While PARAM words are unanswered nothing is decided. -/
theorem State.paramCheck_of_open {s : State} {p : Nat} (h : ∃ o ∈ (s.link p).ops, o.op = 1) : s.paramCheck p = s := by
  obtain ⟨o, ho, hop⟩ := h
  have hopen : ((s.link p).ops.any fun o => o.op == 1 || o.op == 2 || o.op == 3) = true := List.any_eq_true.mpr ⟨o, ho, by simp [hop]⟩
  exact if_pos (by simp [hopen])

theorem State.linkTo_link_same (s : State) (p st : Nat) : (s.linkTo p st).link p = { s.link p with since := s.now, trainRx := 0, trainTx := 0 } :=
  State.setLink_link_same _ _ _

theorem State.linkTo_link_ne (s : State) {p k : Nat} (st : Nat) (h : k ≠ p) : (s.linkTo p st).link k = s.link k := State.setLink_link_ne _ _ h

theorem State.linkTo_state (s : State) (p : Nat) {st : Nat} (h : st < 16) : (s.linkTo p st).linkState p = st :=
  (State.rd_wr_same _ _ _).trans (Nat.mod_eq_of_lt h)

theorem State.takeTrain_align {s : State} {p : Nat} {h : ShellHdr} (hst : s.linkState p = 2) : s.takeTrain p h =
    if h.crcOk && decide (s.rd (Reg.LNK.LINK_CFG p) ≤ (h.lanes.filter (·.isSome)).length) then ((s.linkTo p 3).sendParams p).paramCheck p else s := by
  unfold State.takeTrain
  simp only [hst]

theorem State.takeTrain_verify {s : State} {p : Nat} (h : ShellHdr) (hst : s.linkState p = 5) : s.takeTrain p h =
    (s.laneFec p h.lanes).setLink p { (s.laneFec p h.lanes).link p with trainRx := if shellGood h then (s.link p).trainRx + 1 else 0 } := by
  unfold State.takeTrain
  simp only [hst]

/-- A TRAIN shell on an ACTIVE link, before its header. -/
def State.trainHeard (s : State) (p : Nat) (lanes : List (Option Nat)) : State :=
  (s.laneFec p lanes).setLink p { (s.laneFec p lanes).link p with trainRx := (s.link p).trainRx + 1 }

theorem State.takeTrain_active {s : State} {p : Nat} {h : ShellHdr} (hst : s.linkState p = 6) (hgood : blockGood h = true)
    (hrun : (s.link p).trainRx < 15) : s.takeTrain p h = (s.trainHeard p h.lanes).takeBare p h := by
  unfold State.takeTrain
  simp only [hst, hgood, if_true]
  exact if_neg (by omega)

theorem State.trainHeard_link (s : State) (p : Nat) (lanes : List (Option Nat)) :
    (s.trainHeard p lanes).link p = { s.link p with trainRx := (s.link p).trainRx + 1 } := by
  rw [State.trainHeard, State.setLink_link_same, State.laneFec_link]

/-! ## Acknowledgement points (R289) -/

/-- What ACK_POINT does for one stream. -/
def State.duePoint (s : State) (n : Nat) : State :=
  if s.running && decide (0 < (s.link n).ackPending) && (decide (32 ≤ (s.link n).ackPending) || decide ((s.link n).ackFirst + 120 ≤ s.absCycle)) then
    s.ackPoint n
  else s

theorem exec_ackPoint (s : State) (p : Fin 16) : exec (.ackPoint p) s = .next ((s.duePoint p.val).duePoint (fanRx p.val)) := rfl

theorem State.duePoint_of_none {s : State} {n : Nat} (h : (s.link n).ackPending = 0) : s.duePoint n = s := if_neg (by simp [h])

theorem State.duePoint_of_due {s : State} {n : Nat} (hrun : s.running = true) (hpending : 0 < (s.link n).ackPending)
    (h : (s.link n).ackFirst + 120 ≤ s.absCycle) : s.duePoint n = s.ackPoint n := if_pos (by simp [hrun, hpending, h])

theorem lnk_key_ne_pool (p : Nat) {g : Field} (hp : g.page = 0x040 + p) (hg : g.off < 0x1000 ∧ g.lo < 32) : (Reg.RSV.USED 0).key ≠ g.key :=
  Field.key_ne_of_page (by rw [hp]; exact Nat.ne_of_lt (Nat.lt_of_lt_of_le (show 0x009 < 0x010 by decide) (lnk_page p))) (by decide) hg

/-- Settles O48: a shell in sequence joins the stream, a bad one only counts, and each kind of header gives its ACK and credits. -/
theorem shellsAreReceived : Obligations.ShellsAreReceived := by
  refine ⟨fun s p h body hrun hup hfan hgood hres hwidth hseq hack hpend hpause => ?_, fun s p h body hrun hup hfan hgood hres hseq hack hpend hslot hpause => ?_,
    fun s p h body hrun hup hfan hres hwidth hbad => ?_, fun s p h body dark hup => ⟨?_, ?_⟩, fun s p h => ?_,
    fun s p h hrun hup hfan hkind hres hmsg hack => ?_, fun s p hrun hslot hpend hdue hfan => ?_, fun s p hpend hfan => ?_,
    fun s p h hrun hst hcrc hlanes => ?_, fun s p h hst hcrc => ?_, fun s p h hrun hst => ?_,
    fun s p h hrun hst hkind hgood hfan hres hmsg htrain hack => ?_⟩
  · have hmal : s.malformedHdr p.val h = false := by simp [State.malformedHdr, hres, hwidth]
    have hlink := s.headed_link_of_same p.val hfan hack
    have hpause' : bitAt ((s.headed p.val h).rd (Reg.LNK.STAT_PAUSE p.val)) 2 = false := by
      rw [s.headed_rd p.val hfan (lnk_offFec p.val (show 0x008 < 0x100 by decide) (show 21 < 32 by decide))
        (lnk_key_ne_pool p.val rfl (show 0x008 < 0x1000 ∧ 21 < 32 by decide))]
      exact hpause
    intro r heads hbad hcount hfirst
    have hok : (s.link p.val).misparsed h body = false := by
      have hr : (s.link p.val).parses body = r := rfl
      have hh : (s.link p.val).headsIn body = heads := rfl
      rw [Link.misparsed, hr, hh, hbad, hcount, hfirst]
      simp
    have htake : s.takeDataShell p.val h body =
        (s.headed p.val h).setLink p.val (((s.headed p.val h).link p.val).accepts (s.headed p.val h).absCycle (((s.headed p.val h).link p.val).parses body)) := by
      rw [s.takeDataShell_good p.val body hfan hgood]
      simp only [hmal, Bool.false_eq_true, if_false]
      rw [if_pos (by rw [hlink]; exact hseq)]
      exact State.acceptShell_of_agreed (by rw [hlink]; exact hpend) hpause' (by rw [hlink]; exact hok)
    refine ⟨_, htake ▸ exec_dataShell h body hrun hup, ?_⟩
    rw [State.setLink_link_same, hlink]
    exact ⟨rfl, rfl, rfl, rfl, rfl, rfl, rfl, fun k hk => (State.setLink_link_ne _ _ hk).trans (s.headed_link_ne p.val hfan hk),
      regsLinks_trans (s.headed_frame p.val hfan) rfl⟩
  · have hrest := s.headed_link_of_same p.val hfan hack
    obtain ⟨d, hlink⟩ := s.judged_link p.val h
    rw [hrest] at hlink
    have hrd : ∀ g, (s.judged p.val h).rd g = (s.headed p.val h).rd g := fun g => by
      rw [s.judged_frame]
      rfl
    have hslot' : (s.judged p.val h).litSlot p.val = .none := by
      rw [← hslot, ← s.headed_litSlot p.val hfan]
      exact State.litSlot_congr _ (fun k _ => hrd _) (fun k _ => hrd _) (by rw [s.judged_frame]) (by rw [s.judged_frame]; rfl)
    have hpause' : bitAt ((s.judged p.val h).rd (Reg.LNK.STAT_PAUSE p.val)) 2 = false := by
      rw [hrd, s.headed_rd p.val hfan (lnk_offFec p.val (show 0x008 < 0x100 by decide) (show 21 < 32 by decide))
        (lnk_key_ne_pool p.val rfl (show 0x008 < 0x1000 ∧ 21 < 32 by decide))]
      exact hpause
    have hnext : ((s.judged p.val h).link p.val).rxNext = (s.link p.val).rxNext := by
      rw [hlink]
      rfl
    have htake : s.takeDataShell p.val h body = (s.judged p.val h).acceptShell p.val p.val h body :=
      (s.takeDataShell_good p.val body hfan hgood).trans (if_pos (hseq.trans hnext.symm))
    obtain ⟨hrx, hsent, hzero⟩ := State.acceptShell_pointed h body p.isLt (by rw [hlink]; exact hpend) hslot' hpause'
    refine ⟨_, htake ▸ exec_dataShell h body hrun hup, ?_, ?_, hzero⟩
    · rw [hrx, hnext, hseq]
    · rw [hsent, hnext, hseq]
  · have hmal : s.malformedHdr p.val h = false := by simp [State.malformedHdr, hres, hwidth]
    have hcount : (Reg.LNK.SHELL_BAD_CNT p.val).offFec p.val := lnk_offFec p.val (show 0x098 < 0x100 by decide) (show 0 < 32 by decide)
    cases hgood : shellGood h with
    | false =>
      obtain ⟨hshows, hcnt, hlinks⟩ := (s.heard p.val h.lanes).shellBad_spec p.val p.val ((s.heard p.val h.lanes).badLane p.val h)
      refine ⟨_, s.takeDataShell_bad p.val body hfan hgood ▸ exec_dataShell h body hrun hup, hshows,
        hcnt.trans (bump_rd_of_rd_eq (s.heard_rd p.val h.lanes hcount)), ?_⟩
      rw [hlinks, s.heard_link_same]
      exact ⟨rfl, rfl, rfl, rfl, fun _ => rfl⟩
    | true =>
      have hrest := s.headed_unacked p.val hfan
      obtain ⟨hshows, hcnt, hlinks⟩ := (s.headed p.val h).shellBad_spec p.val p.val noLane
      have hseq : h.seq ≠ ((s.headed p.val h).link p.val).rxNext := by
        have hnext : ((s.headed p.val h).link p.val).rxNext = (s.link p.val).rxNext := (congrArg Link.rxNext hrest :)
        rw [hnext]
        exact hbad.resolve_left (by simp [hgood])
      have htake : s.takeDataShell p.val h body = (s.headed p.val h).shellBad p.val p.val noLane := by
        rw [s.takeDataShell_good p.val body hfan hgood]
        simp only [hmal, Bool.false_eq_true, if_false]
        exact if_neg hseq
      refine ⟨_, htake ▸ exec_dataShell h body hrun hup, hshows, hcnt.trans (bump_rd_of_rd_eq (s.headed_rd p.val hfan hcount
        (lnk_key_ne_pool p.val rfl (show 0x098 < 0x1000 ∧ 0 < 32 by decide)))), ?_⟩
      rw [hlinks]
      exact ⟨(congrArg Link.rxNext hrest :), (congrArg Link.rxMsgs hrest :), (congrArg Link.partialBytes hrest :), (congrArg Link.down hrest :),
        fun h => nomatch h⟩
  · exact congrArg Host.Outcome.next (if_neg (by simp [hup]))
  · exact congrArg Host.Outcome.next (if_neg (by simp [hup]))
  · exact congrArg Host.Outcome.next (if_neg (by simp))
  · have hmal : (s.heard p.val h.lanes).malformedHdr p.val h = false := by
      rw [State.malformedHdr_of_lanes (s := s) p.val h (by rw [s.heard_frame p.val h.lanes]), State.malformedHdr, hres]
      rcases hkind with ⟨-, -, hw⟩ | ⟨hk, -⟩
      · simp [hw]
      · simp [hk]
    have htake : s.takeNullShell p.val h = s.headed p.val h := by
      rw [State.takeNullShell_of_good (by rcases hkind with ⟨hk, hg, -⟩ | ⟨hk, hg⟩ <;> simp [hk, hg]),
        State.takeBare_of_wellFormed hfan hmal hmsg, s.headed_eq p.val hfan]
    obtain ⟨hacked, hreplay⟩ := s.headed_acked p.val hfan hack
    have hrest := s.headed_unacked p.val hfan
    exact ⟨s.headed p.val h, htake ▸ exec_nullShell h hrun hup, hacked, hreplay, (congrArg Link.backHdr hrest :), congrArg Link.backData hrest,
      (congrArg Link.rxNext hrest :), (congrArg Link.down hrest :), fun k hk => s.headed_link_ne p.val hfan hk, s.headed_frame p.val hfan⟩
  · have hpoint := State.ackPoint_of_none p.isLt hslot
    have hnone : ((s.duePoint p.val).link (fanRx p.val)).ackPending = 0 := by
      rw [State.duePoint_of_due hrun hpend hdue, hpoint, State.setLink_link_ne _ _ (by unfold fanRx; omega)]
      exact hfan
    have ht := exec_ackPoint s p
    rw [State.duePoint_of_none hnone, State.duePoint_of_due hrun hpend hdue, hpoint] at ht
    exact ⟨_, ht, by rw [State.setLink_link_same], by rw [State.setLink_link_same], fun k hk => State.setLink_link_ne _ _ hk, rfl⟩
  · rw [exec_ackPoint, State.duePoint_of_none hpend, State.duePoint_of_none hfan]
  · have ht := exec_trainShell_training h hrun (State.linkUp_of_state hst)
    obtain ⟨hsince, hsent, hlen, hopen⟩ := (s.linkTo p.val 3).sendParams_ops p.val
    rw [State.takeTrain_align hst, if_pos (by simp [hcrc, hlanes]), State.paramCheck_of_open hopen] at ht
    refine ⟨_, ht, ?_, ?_, hsent, ?_, fun k hk => ?_, ?_⟩
    · rw [State.linkState, State.sendParams_rd]
      exact s.linkTo_state p.val (st := 3) (by decide)
    · rw [hsince, s.linkTo_link_same]
    · rw [hlen, s.linkTo_link_same]
    · rw [State.sendParams_eq, State.sendDeclared_link_ne _ _ _ hk, State.linkTo_link_ne _ _ hk]
    · exact regsLinks_trans (t := s.linkTo p.val 3) rfl (State.regsLinks_of_links (State.sendParams_frame _ _))
  · refine congrArg Host.Outcome.next ?_
    have htake : s.takeTrain p.val h = s := (State.takeTrain_align hst).trans (if_neg (by simp [hcrc]))
    rw [htake, State.linkUp_of_state hst]
    exact ite_self _
  · have ht := exec_trainShell_training h hrun (State.linkUp_of_state hst)
    rw [State.takeTrain_verify h hst] at ht
    refine ⟨_, ht, by rw [State.setLink_link_same], ?_⟩
    exact (s.laneFec_rd p.val h.lanes ⟨.inr (show 0x008 < 0x100 by decide), show 0x008 < 0x1000 ∧ 0 < 32 by decide⟩).trans hst
  · have ht := exec_trainShell_up h hrun (State.linkUp_of_state hst)
    have hlanes : (s.trainHeard p.val h.lanes).lanes = s.lanes := by
      rw [State.trainHeard, s.laneFec_frame]
      rfl
    have hmal : (s.trainHeard p.val h.lanes).malformedHdr p.val h = false := by
      rw [State.malformedHdr_of_lanes (s := s) p.val h hlanes, State.malformedHdr, hres]
      simp [hkind]
    rw [State.takeTrain_active hst hgood htrain, State.takeBare_of_wellFormed hfan hmal hmsg] at ht
    have hlink := s.trainHeard_link p.val h.lanes
    obtain ⟨hacked, -⟩ := (s.trainHeard p.val h.lanes).retire_link_same (n := p.val) (ack := h.ack) (by rw [hlink]; exact hack)
    have hrest := (s.trainHeard p.val h.lanes).retire_unacked p.val p.val h.ack
    rw [hlink] at hrest
    refine ⟨_, ht, ?_, ?_, ?_, ?_⟩
    · rw [State.takeCredit_link_same]
      exact hacked
    · rw [State.takeCredit_link_same]
      exact (congrArg Link.trainRx hrest :)
    · rw [State.takeCredit_link_same]
      exact (congrArg Link.down hrest :)
    · rw [State.takeCredit_link_same, Link.credited, show ((s.trainHeard p.val h.lanes).retire p.val h.ack |>.link p.val).backHdr = (s.link p.val).backHdr from
        (congrArg Link.backHdr hrest :)]

end Sys2Proof.Machine
end

section
/-! SUPPORT. What a port sends at a shell boundary (spec section 09, R277, R280, R284, R287, R290, R291, R301, R346). -/

namespace Sys2Proof.Machine

/-! ## A shell sent (R275, R280) -/

theorem State.streamPort_of_lt (s : State) {p : Nat} (hp : p < 16) : s.streamPort p = p := if_pos hp

/-- A link whose shell has gone out. -/
def Link.sends (l : Link) (hdr : TxHdr) (body : TxBody) (out : LineSlot) : Link :=
  { l with
    shells := l.shells + 1, sent := some (hdr, body), onLines := out, slots := l.slots + 1
    ops := l.ops.map fun (o : CtrlOp) => { o with shells := o.shells + 1 } }

/-- How a port's shell goes out. -/
def State.outSlot (s : State) (p : Nat) (hdr : TxHdr) : LineSlot :=
  ⟨(s.link p).slots, s.flag (Reg.LNK.STAT_FEC p), if hdr.kind = 3 then s.litLines p else s.outLines p⟩

theorem State.shellSent_link_same (s : State) {p : Nat} (hp : p < 16) (hdr : TxHdr) (body : TxBody) :
    (s.shellSent p hdr body).link p = (s.link p).sends hdr body (s.outSlot p hdr) := by
  unfold State.shellSent
  simp only [s.streamPort_of_lt hp, State.setLink_link_same]
  rfl

theorem State.shellSent_link_ne (s : State) {p k : Nat} (hp : p < 16) (hdr : TxHdr) (body : TxBody) (h : k ≠ p) :
    (s.shellSent p hdr body).link k = s.link k := by
  unfold State.shellSent
  simp only [s.streamPort_of_lt hp]
  rw [State.setLink_link_ne _ _ h, State.setLink_link_ne _ _ h]

theorem State.shellSent_frame (s : State) (n : Nat) (hdr : TxHdr) (body : TxBody) :
    s.shellSent n hdr body = { s with links := (s.shellSent n hdr body).links } := rfl

/-! ## A CTRL or TRAIN shell (R278, R280) -/

/-- The operations that go into a port's next CTRL shell. -/
def State.dueOps (s : State) (p : Nat) : List CtrlOp :=
  (((s.link p).ops.take 16).filter opDue).take (shellWords - 1 - ((s.link p).words.take (shellWords - 1)).length)

/-- The words of a port's next CTRL shell. -/
def State.ctrlBody (s : State) (p : Nat) : List DWord :=
  ctrlWord 0x14 0 (s.rxSpares p) :: ((s.link p).words.take (shellWords - 1) ++ (s.dueOps p).map fun o => ctrlWord o.op o.tag o.arg.toNat)

/-- An operation once a CTRL shell with these operations has gone. -/
def CtrlOp.afterShell (o : CtrlOp) (due : List CtrlOp) (now : Nat) : CtrlOp :=
  if due.any fun d => d.tag == o.tag && d.op == o.op then { o with sent := true, shells := 0, first := if o.sent then o.first else now } else o

/-- A link once the words and operations of its shell have gone. -/
def Link.worded (l : Link) (due : List CtrlOp) (now : Nat) (news : Bool) : Link :=
  { l with
    ops := l.ops.map (·.afterShell due now)
    before := if (l.ops.map (·.afterShell due now)).any fun o => widthOp o && !o.sent then l.before else .none
    words := l.words.drop (shellWords - 1)
    newsAt := if news then .none else l.newsAt }

/-- A CTRL or TRAIN shell sent, before its repeats are noted. -/
def State.wordsSent (s : State) (p kind : Nat) : State :=
  (s.shellSent p (s.shellHdr p kind (s.link p).txNext false []) (.words (s.ctrlBody p))).setLink p
    (((s.shellSent p (s.shellHdr p kind (s.link p).txNext false []) (.words (s.ctrlBody p))).link p).worded (s.dueOps p) s.absCycle (s.newsDue p))

/-- The event of a repeated operation. -/
def State.retryEvent (s t : State) (p : Nat) : Event := ⟨Err.LNK.CTRL_RETRY p, t.linkInfo p noLane 0, (s.link p).oldest⟩

theorem State.sendWords_eq (s : State) {p : Nat} (hp : p < 16) (kind : Nat) : s.sendWords p kind =
    if (s.dueOps p).any (·.sent) then (s.wordsSent p kind).raise1 (s.retryEvent (s.wordsSent p kind) p) else s.wordsSent p kind := by
  unfold State.sendWords
  simp only [s.streamPort_of_lt hp]
  unfold State.wordsSent Link.worded CtrlOp.afterShell State.retryEvent State.ctrlBody State.dueOps
  dsimp only

theorem State.wordsSent_frame (s : State) (p kind : Nat) : s.wordsSent p kind = { s with links := (s.wordsSent p kind).links } := by
  unfold State.wordsSent
  generalize s.shellHdr p kind (s.link p).txNext false [] = hdr
  generalize TxBody.words (s.ctrlBody p) = body
  generalize ((s.shellSent p hdr body).link p).worded (s.dueOps p) s.absCycle (s.newsDue p) = l
  rw [s.shellSent_frame p hdr body]
  rfl

theorem State.wordsSent_regs (s : State) (p kind : Nat) : (s.wordsSent p kind).regs = s.regs := by
  rw [s.wordsSent_frame p kind]

theorem State.rd_of_regs {s t : State} (h : t.regs = s.regs) (g : Field) : t.rd g = s.rd g := by
  rw [State.rd, h]
  rfl

theorem State.wordsSent_link_same (s : State) {p : Nat} (hp : p < 16) (kind : Nat) : (s.wordsSent p kind).link p =
    ((s.link p).sends (s.shellHdr p kind (s.link p).txNext false []) (.words (s.ctrlBody p))
      (s.outSlot p (s.shellHdr p kind (s.link p).txNext false []))).worded (s.dueOps p) s.absCycle (s.newsDue p) := by
  rw [State.wordsSent, State.setLink_link_same, s.shellSent_link_same hp]

theorem State.wordsSent_link_ne (s : State) {p k : Nat} (hp : p < 16) (kind : Nat) (h : k ≠ p) : (s.wordsSent p kind).link k = s.link k := by
  rw [State.wordsSent, State.setLink_link_ne _ _ h, s.shellSent_link_ne hp _ _ h]

/-- Repeats leave the links. -/
theorem State.sendWords_link (s : State) {p : Nat} (hp : p < 16) (kind k : Nat) : (s.sendWords p kind).link k = (s.wordsSent p kind).link k := by
  rw [s.sendWords_eq hp]
  split
  · exact State.raise1_link _ _ _
  · rfl

/-- Without operations a CTRL shell carries the port's words. -/
theorem State.dueOps_of_nil {s : State} {p : Nat} (h : (s.link p).ops = []) : s.dueOps p = [] := by
  simp [State.dueOps, h]

theorem State.sendWords_of_no_ops {s : State} {p : Nat} (hp : p < 16) (kind : Nat) (h : (s.link p).ops = []) : s.sendWords p kind = s.wordsSent p kind := by
  rw [s.sendWords_eq hp, State.dueOps_of_nil h]
  rfl

/-! ## The shell of a running link (R280, R301, R346) -/

/-- What a slot with nothing in it leaves of a link. -/
def Link.silent (l : Link) (fec : Bool) : Link := { l with sent := .none, slots := l.slots + 1, onLines := ⟨l.slots, fec, []⟩ }

theorem State.sendNothing_eq (s : State) (p : Nat) : s.sendNothing p = s.setLink p ((s.link p).silent (s.flag (Reg.LNK.STAT_FEC p))) := rfl

theorem State.sendRunning_paused {s : State} {p : Nat} (n : Nat) (hleft : (s.link p).pauseLeft = 0)
    (h : s.ownPaused p = true ∨ s.synLocked (s.bankOf p) = false) : s.sendRunning p n = s.sendNothing p :=
  (if_neg (by omega)).trans (if_pos (by rcases h with h | h <;> simp [h]))

theorem State.sendRunning_ctrl {s : State} {p : Nat} (n : Nat) (hleft : (s.link p).pauseLeft = 0) (hown : s.ownPaused p = false)
    (hlock : s.synLocked (s.bankOf p) = true) (h : (s.link p).words ≠ [] ∨ (s.link p).ops.any opDue = true) : s.sendRunning p n = s.sendCtrl n :=
  (if_neg (by omega)).trans ((if_neg (by simp [hown, hlock])).trans (if_pos (by rcases h with h | h <;> simp [h])))

theorem State.sendRunning_data {s : State} {p : Nat} (n : Nat) (hleft : (s.link p).pauseLeft = 0) (hown : s.ownPaused p = false)
    (hlock : s.synLocked (s.bankOf p) = true) (hwords : (s.link p).words = []) (hops : (s.link p).ops = []) (hnews : s.newsDue p = false) :
    s.sendRunning p n = s.sendData n :=
  (if_neg (by omega)).trans ((if_neg (by simp [hown, hlock])).trans (if_neg (by simp [hwords, hops, hnews])))

/-! ## Answered swaps end first (R298) -/

/-- The end of answered swaps changes a port's lanes alone. -/
theorem State.swapsEnd_frame (s : State) (p : Nat) : ∃ lanes, s.swapsEnd p = { s with lanes := lanes } := by
  have hfold : ∀ (l : List LaneSwap) (t : State), ∃ lanes, l.foldl (fun s w => s.assign p .tx w.lane w.line) t = { t with lanes := lanes } := by
    intro l
    induction l with
    | nil => exact fun t => ⟨t.lanes, rfl⟩
    | cons w l ih =>
      intro t
      obtain ⟨lanes, h⟩ := ih (t.assign p .tx w.lane w.line)
      exact ⟨lanes, h⟩
  exact hfold _ _

/-- The link state of a port, once answered swaps have ended. -/
theorem State.sendNext_paused {s : State} {p : Nat} (hst : s.linkState p = 6) (hleft : (s.link p).pauseLeft = 0)
    (h : s.ownPaused p = true ∨ s.synLocked (s.bankOf p) = false) : s.sendNext p = (s.swapsEnd p).sendNothing p := by
  obtain ⟨lanes, hlanes⟩ := s.swapsEnd_frame p
  unfold State.sendNext
  simp only [hlanes]
  rw [show ({ s with lanes := lanes } : State).linkState p = 6 from hst]
  cases ({ s with lanes := lanes } : State).txStream p with
  | none => rfl
  | some n => exact State.sendRunning_paused n hleft h

theorem State.sendNext_running {s : State} {p : Nat} (hst : s.linkState p = 6) (hslot : s.slotOfFibre p = .none) :
    s.sendNext p = (s.swapsEnd p).sendRunning p p := by
  obtain ⟨lanes, hlanes⟩ := s.swapsEnd_frame p
  have htx : ({ s with lanes := lanes } : State).txStream p = some p := by
    unfold State.txStream
    rw [show ({ s with lanes := lanes } : State).slotOfFibre p = .none from hslot]
  unfold State.sendNext
  simp only [hlanes]
  rw [show ({ s with lanes := lanes } : State).linkState p = 6 from hst]
  simp only [htx]

theorem exec_shellBoundary {s : State} (p : Fin 16) (hrun : s.running = true) (hsafe : s.safe = false) :
    exec (.shellBoundary p) s = .next (s.sendNext p.val).settle :=
  congrArg (fun t : State => Host.Outcome.next t) (if_pos (by simp [hrun, hsafe]))

/-- A repeat due is the port's next shell. -/
theorem exec_opRepeat_due {s : State} (p : Fin 16) (hrun : s.running = true) (hsafe : s.safe = false)
    (h : (s.link p.val).ops.any (fun o => o.sent && opDue o) = true) : exec (.opRepeat p) s = .next (s.sendNext p.val).settle :=
  congrArg (fun t : State => Host.Outcome.next t) (if_pos (by simp only [hrun, hsafe, h]; rfl))

/-! ## NULL and DATA shells (R284, R287, R290) -/

theorem State.sendNull_link_same (s : State) {p : Nat} (hp : p < 16) : (s.sendNull p).link p =
    (s.link p).sends (s.shellHdr p 0 (s.link p).txNext false []) (.null (s.darkSlot p)) (s.outSlot p (s.shellHdr p 0 (s.link p).txNext false [])) :=
  s.shellSent_link_same hp _ _

theorem State.sendShell_link (s : State) (n k : Nat) (x : TxShell) : (s.sendShell n x).link k =
    (s.shellSent n (s.shellHdr n 1 x.seq x.replay x.heads) (.data x.body)).link k := by
  unfold State.sendShell
  dsimp only
  split <;> rfl

/-- The shells of a replay under way go out from the oldest of another width's end on. -/
theorem State.sendData_replay {s : State} {p : Nat} (hp : p < 16) {x : TxShell} (hops : (s.link p).ops = []) (hpos : 0 < (s.link p).resend)
    (hle : (s.link p).resend ≤ (s.link p).replay.length)
    (hx : (s.link p).replay[(s.link p).replay.length - (s.link p).resend]? = some x) (hw : x.width = s.sendWidth p) :
    s.sendData p = (s.setLink p { s.link p with resend := (s.link p).resend - 1 }).sendShell p x := by
  have hback : (s.link p).replay.drop ((s.link p).replay.length - (s.link p).resend) =
      x :: (s.link p).replay.drop ((s.link p).replay.length - (s.link p).resend + 1) := by
    obtain ⟨hlt, hget⟩ := List.getElem?_eq_some_iff.mp hx
    rw [List.drop_eq_getElem_cons hlt, hget]
  have hrest : ((s.link p).replay.drop ((s.link p).replay.length - (s.link p).resend + 1)).length = (s.link p).resend - 1 := by
    rw [List.length_drop]
    omega
  unfold State.sendData
  simp only [s.streamPort_of_lt hp, hops, hback]
  rw [if_neg (by simp), List.dropWhile_cons_of_neg (by simp [hw])]
  simp only [hrest]

/-- With no replay under way a new shell is next. -/
theorem State.sendData_new {s : State} {p : Nat} (h : (s.link p).resend = 0) :
    s.sendData p = (s.setLink p { s.link p with resend := 0 }).sendNew p := by
  have hback : (s.link p).replay.drop ((s.link p).replay.length - (s.link p).resend) = [] := by
    rw [h, Nat.sub_zero, List.drop_length]
  unfold State.sendData
  simp only [hback]
  exact if_neg (by simp)

/-- A link apart from whose turn it is among the classes (R345). -/
def Link.unturned (l : Link) : Link := { l with quantum := [], turn := 0, visited := false }

theorem State.drr_unturned (s : State) (n fuel : Nat) (l : Link) : (s.drr n fuel l).2.unturned = l.unturned := by
  induction fuel generalizing l with
  | zero => rfl
  | succ fuel ih =>
    unfold State.drr
    dsimp only
    have hm : (if l.visited then l else
        { l with quantum := setAt l.quantum l.turn (l.quantum.getD l.turn 0 + s.quantumOf l.turn), visited := true }).unturned = l.unturned := by
      split <;> rfl
    generalize (if l.visited then l else
        { l with quantum := setAt l.quantum l.turn (l.quantum.getD l.turn 0 + s.quantumOf l.turn), visited := true }) = m at hm ⊢
    split
    · exact (ih _).trans hm
    · split
      · exact hm
      · exact (ih _).trans hm

/-- The choice of a class moves no more than whose turn it is. -/
theorem State.pickClass_spec (s : State) (n : Nat) : (∃ l, (s.pickClass n).2 = s.setLink n l ∧ l.unturned = (s.link n).unturned) ∨
    (s.pickClass n).2 = s := by
  unfold State.pickClass
  split
  · exact .inr rfl
  · split
    · exact .inr rfl
    · split
      · exact .inl ⟨_, rfl, s.drr_unturned n 96 (s.link n)⟩
      · exact .inl ⟨_, rfl, rfl⟩

theorem State.pickClass_link (s : State) (n : Nat) : ((s.pickClass n).2.link n).unturned = (s.link n).unturned := by
  rcases s.pickClass_spec n with ⟨l, h, hl⟩ | h
  · rw [h, State.setLink_link_same, hl]
  · rw [h]

theorem State.pickClass_lanes (s : State) (n : Nat) : (s.pickClass n).2.lanes = s.lanes := by
  rcases s.pickClass_spec n with ⟨l, h, -⟩ | h
  · rw [h]
    rfl
  · rw [h]

/-! ## Pages for what is sent (R290, R356) -/

theorem State.startPaging_links (s : State) (b : Bool) : (s.startPaging b).links = s.links := by
  unfold State.startPaging
  split
  · rfl
  · dsimp only
    split
    · rfl
    · exact State.raise1_links _ _

theorem State.allocate_links (s : State) (k : Pool) (n : Nat) : (s.allocate k n).2.links = s.links := by
  have hdue : ∀ t : State, t.pageIfDue.links = t.links := fun t => by
    unfold State.pageIfDue
    split
    · exact t.startPaging_links _
    · split
      · exact t.startPaging_links _
      · rfl
  unfold State.allocate
  split
  · rename_i t ht
    unfold State.takePages at ht
    split at ht
    · cases ht
      exact hdue _
    · cases ht
  · dsimp only
    split
    · exact s.startPaging_links _
    · rfl

theorem State.allocate_link (s : State) (k : Pool) (n j : Nat) : (s.allocate k n).2.link j = s.link j := State.link_of_links (s.allocate_links k n) j

/-- A stalled stream, whose stall shows. -/
theorem State.stall_spec (s : State) {p : Nat} (hp : p < 16) : (s.stall p).link p = { s.link p with stalled := true } ∧
    (s.stall p).shows (Err.LNK.RPL_STALL p) = true := by
  unfold State.stall
  simp only [s.streamPort_of_lt hp]
  refine ⟨?_, State.raise1_shows _ ⟨Err.LNK.RPL_STALL p, _, _⟩ (show 2 < 32 by decide)⟩
  rw [State.raise1_link, State.setLink_link_same]

/-- Padding puts bytes at the end of a stream. -/
def Link.unpadded (l : Link) : Link := { l with stream := [], heads := [], padded := false }

theorem State.padStream_link (s : State) (n body : Nat) : ((s.padStream n body).link n).unpadded = (s.link n).unpadded :=
  foldl_untouched _ (fun t : State => (t.link n).unpadded) (fun t m _ => by
    rw [State.setLink_link_same]
    rfl) s

theorem State.sendNew_idle {s : State} {p : Nat} (h : s.hasWork p = false) : s.sendNew p = (s.pickClass p).2.sendNull p :=
  if_pos (by simp [h])

/-- A stream that has something to send and no quota, or no page, stalls. -/
theorem State.sendNew_stalled {s : State} {p : Nat} (hp : p < 16) (hwork : s.hasWork p = true) (hw : s.sendWidth p ≠ 0)
    (h : s.rd (Reg.LNK.RPL_QUOTA p) ≤ s.rplUsed p ∨ s.grantable .rpl 1 = 0) :
    s.sendNew p = (s.stall p).sendNull p ∨ s.sendNew p = ((s.allocate .rpl 1).2.stall p).sendNull p := by
  unfold State.sendNew
  simp only [s.streamPort_of_lt hp]
  rw [if_neg (by simp [hwork, hw])]
  by_cases hquota : s.rd (Reg.LNK.RPL_QUOTA p) ≤ s.rplUsed p
  · exact .inl (if_pos hquota)
  · exact .inr ((if_neg hquota).trans (if_pos (h.resolve_left hquota)))

/-- A stream that fills some of a body sends it, padded. -/
theorem State.sendNew_cut {s : State} {p : Nat} (hp : p < 16) (hwork : s.hasWork p = true) (hw : s.sendWidth p ≠ 0)
    (hquota : s.rplUsed p < s.rd (Reg.LNK.RPL_QUOTA p)) (hgrant : s.grantable .rpl 1 = 1)
    (hstream : ((s.fillStream p (bodyBytes (s.sendWidth p)) 1024).link p).stream ≠ []) : s.sendNew p =
      (((s.fillStream p (bodyBytes (s.sendWidth p)) 1024).allocate .rpl 1).2.padStream p (bodyBytes (s.sendWidth p))).cutNew p (s.sendWidth p) := by
  unfold State.sendNew
  simp only [s.streamPort_of_lt hp]
  rw [if_neg (by simp [hwork, hw]), if_neg (by omega), if_neg (by omega), if_neg (by simpa using hstream)]

/-- A new DATA shell: numbered, kept for replay and sent. -/
theorem State.cutNew_link (s : State) {p : Nat} (hp : p < 16) (w : Nat) : ∃ c h, ((s.cutNew p w).link p).replay = (s.link p).replay ++ [c] ∧
    ((s.cutNew p w).link p).txNext = (s.link p).txNext + 1 ∧ c.seq = (s.link p).txNext ∧ c.width = w ∧ c.replay = false ∧ h.kind = 1 ∧
    h.seq = c.seq ∧ ((s.cutNew p w).link p).sent = some (h, .data c.body) := by
  unfold State.cutNew
  dsimp only
  rw [State.sendShell_link, State.shellSent_link_same _ hp, State.setLink_link_same]
  exact ⟨_, _, rfl, rfl, rfl, rfl, rfl, rfl, rfl, rfl⟩

/-! ## A header's bits and a shell's stripes (R272, R276) -/

theorem readHdr_value {h : TxHdr} (lanes : List (Option Nat)) (ok : Bool) (hhdr : h.crHdr < 2 ^ 16) (hdata : h.crData < 2 ^ 24) (htc : h.crTc < 4)
    (hcount : h.msgCount < 2 ^ 9) (hfirst : h.first < 2 ^ 12) (hwidth : h.width < 16) (hkind : h.kind < 4) : readHdr h.value lanes ok =
      { lanes := lanes, crcOk := ok, reservedSet := false, ack := h.ack, seq := h.seq, crHdr := BitVec.ofNat 16 h.crHdr,
        crData := BitVec.ofNat 24 h.crData, crTc := BitVec.ofNat 2 h.crTc, msgCount := h.msgCount, first := h.first, fan := h.fan,
        kind := BitVec.ofNat 2 h.kind, width := BitVec.ofNat 4 h.width, replay := h.replay } := by
  have hack := h.ack.isLt
  have hseq := h.seq.isLt
  have hbool : ∀ b : Bool, ofBool b = 0 ∧ b = false ∨ ofBool b = 1 ∧ b = true := by decide
  have hvalue : h.value = h.ack.toNat * 2 ^ 104 + h.seq.toNat * 2 ^ 80 + h.crHdr * 2 ^ 64 + h.crData * 2 ^ 40 + h.crTc * 2 ^ 38 +
      h.msgCount * 2 ^ 29 + h.first * 2 ^ 17 + h.width * 2 ^ 13 + h.kind * 2 ^ 11 + ofBool h.replay * 2 ^ 10 + ofBool h.fan * 2 ^ 9 := by
    unfold TxHdr.value
    rw [Nat.mod_eq_of_lt hhdr, Nat.mod_eq_of_lt hdata, Nat.mod_eq_of_lt htc, Nat.mod_eq_of_lt hcount, Nat.mod_eq_of_lt hfirst,
      Nat.mod_eq_of_lt (show h.width < 2 ^ 4 from hwidth), Nat.mod_eq_of_lt hkind]
  have hbits : bits h.value 8 0 = 0 ∧ bits h.value 127 104 = h.ack.toNat ∧ bits h.value 103 80 = h.seq.toNat ∧ bits h.value 79 64 = h.crHdr ∧
      bits h.value 63 40 = h.crData ∧ bits h.value 39 38 = h.crTc ∧ bits h.value 37 29 = h.msgCount ∧ bits h.value 28 17 = h.first ∧
      bits h.value 16 13 = h.width ∧ bits h.value 12 11 = h.kind ∧ h.value / 2 ^ 10 % 2 = ofBool h.replay ∧ h.value / 2 ^ 9 % 2 = ofBool h.fan := by
    rw [hvalue]
    rcases hbool h.replay with ⟨hr, -⟩ | ⟨hr, -⟩ <;> rcases hbool h.fan with ⟨hf, -⟩ | ⟨hf, -⟩ <;>
      (rw [hr, hf]; unfold bits; omega)
  obtain ⟨h0, h1, h2, h3, h4, h5, h6, h7, h8, h9, h10, h11⟩ := hbits
  have hflag : ∀ b : Bool, (ofBool b == 1) = b := by decide
  have hreplay : bitAt h.value 10 = h.replay := by
    rw [bitAt, h10]
    exact hflag h.replay
  have hfan : bitAt h.value 9 = h.fan := by
    rw [bitAt, h11]
    exact hflag h.fan
  simp only [readHdr, h0, h1, h2, h3, h4, h5, h6, h7, h8, h9, hreplay, hfan, BitVec.ofNat_toNat, BitVec.setWidth_eq]
  rfl

/-- The blocks of eight that make up a list. -/
theorem flatMap_blocks (bs : List Byte) (n : Nat) : (List.range n).flatMap (fun k => (bs.drop (8 * k)).take 8) = bs.take (8 * n) := by
  induction n with
  | zero => simp
  | succ n ih => rw [List.range_succ, List.flatMap_append, ih, List.flatMap_singleton, Nat.mul_succ, List.take_add]

/-- A list of blocks of eight, read back at one of them. -/
theorem block_of_flatMap (f : Nat → List Byte) {n r : Nat} (hf : ∀ k < n, (f k).length = 8) (hr : r < n) :
    (((List.range n).flatMap f).drop (8 * r)).take 8 = f r := by
  obtain ⟨m, rfl⟩ := Nat.exists_eq_add_of_lt hr
  have hlen : ((List.range r).flatMap f).length = 8 * r := by
    rw [List.length_flatMap, List.map_congr_left fun k hk => hf k (by have := List.mem_range.mp hk; omega)]
    simp [Nat.mul_comm]
  rw [show r + m + 1 = r + (m + 1) by omega, List.range_add, List.flatMap_append, List.drop_left' hlen, List.range_succ_eq_map, List.map_cons,
    List.flatMap_cons, Nat.add_zero, List.take_left' (hf r hr)]

/-- Rows of positions, one after the other. -/
theorem flatMap_rows (g : Nat → List Byte) (w m : Nat) :
    (List.range m).flatMap (fun r => (List.range w).flatMap fun i => g (r * w + i)) = (List.range (m * w)).flatMap g := by
  induction m with
  | zero => simp
  | succ m ih => rw [List.range_succ, List.flatMap_append, ih, List.flatMap_singleton, Nat.succ_mul, List.range_add, List.flatMap_append, List.flatMap_map]

theorem unstripe_stripes {w : Nat} {bs : List Byte} (hlen : bs.length = 200 * w) : unstripe ((List.range w).map fun i => stripe w i bs) = bs := by
  have hblock : ∀ i < w, ∀ r < 25, ((stripe w i bs).drop (8 * r)).take 8 = (bs.drop (8 * (r * w + i))).take 8 := fun i hi r hr => by
    refine block_of_flatMap (fun r => (bs.drop (8 * (r * w + i))).take 8) (fun k hk => ?_) hr
    have hle : k * w + w ≤ 25 * w := by
      rw [← Nat.succ_mul]
      exact Nat.mul_le_mul_right w hk
    simp only [List.length_take, List.length_drop]
    omega
  unfold unstripe
  have hrows : ∀ r ∈ List.range 25, ((List.range w).map fun i => stripe w i bs).flatMap (fun b => (b.drop (8 * r)).take 8) =
      (List.range w).flatMap fun i => (bs.drop (8 * (r * w + i))).take 8 := fun r hr => by
    rw [List.flatMap_map]
    exact List.flatMap_congr fun i hi => hblock i (List.mem_range.mp hi) r (List.mem_range.mp hr)
  rw [List.flatMap_congr hrows, flatMap_rows (fun k => (bs.drop (8 * k)).take 8), flatMap_blocks, List.take_of_length_le (by omega)]

/-! ## The shells of each occasion -/

/-- The next shell of a port whose link stays ACTIVE, once answered swaps have ended: what its state is then. -/
theorem State.swapsEnd_keeps (s : State) (p : Nat) : (∀ k, (s.swapsEnd p).link k = s.link k) ∧ (∀ g, (s.swapsEnd p).rd g = s.rd g) ∧
    (s.swapsEnd p).bankOf p = s.bankOf p ∧ (s.swapsEnd p).newsDue p = s.newsDue p ∧ (s.swapsEnd p).rxSpares p = s.rxSpares p := by
  obtain ⟨lanes, hlanes⟩ := s.swapsEnd_frame p
  rw [hlanes]
  exact ⟨fun _ => rfl, fun _ => rfl, rfl, rfl, rfl⟩

theorem State.ownPaused_congr {s t : State} (p : Nat) (h : ∀ g, t.rd g = s.rd g) : t.ownPaused p = s.ownPaused p := by
  rw [State.ownPaused, h]
  rfl

theorem State.synLocked_congr {s t : State} (b : Nat) (h : ∀ g, t.rd g = s.rd g) : t.synLocked b = s.synLocked b := by
  rw [State.synLocked, h]
  rfl

/-- A PAUSE shell, where words and operations are not due. -/
theorem State.sendRunning_pausing {s : State} {p : Nat} (n : Nat) (h : (s.link p).pauseLeft = 2) : s.sendRunning p n =
    (s.sendExtra p n 0x20 (s.link p).pauseWhy).setLink p { (s.sendExtra p n 0x20 (s.link p).pauseWhy).link p with pauseLeft := 1 } := by
  unfold State.sendRunning
  simp only [h]
  rfl

/-- The first PAUSE shell of two. -/
theorem State.sendNext_pausing {s : State} {p : Nat} (hp : p < 16) (hst : s.linkState p = 6) (hslot : s.slotOfFibre p = .none)
    (hleft : (s.link p).pauseLeft = 2) (hwords : (s.link p).words = []) (hops : (s.link p).ops = []) : ((s.sendNext p).link p).pauseLeft = 1 ∧
    ∃ h, h.kind = 2 ∧ h.seq = (s.link p).txNext ∧ ((s.sendNext p).link p).sent =
      some (h, .words [ctrlWord 0x14 0 (s.rxSpares p), ctrlWord 0x20 0 (s.link p).pauseWhy]) := by
  obtain ⟨hlink, -, -, -, hspares⟩ := s.swapsEnd_keeps p
  rw [State.sendNext_running hst hslot]
  generalize s.swapsEnd p = y at hlink hspares ⊢
  have hq : (y.queueWords p [ctrlWord 0x20 0 (s.link p).pauseWhy]).link p =
      { s.link p with words := [ctrlWord 0x20 0 (s.link p).pauseWhy] } := by
    refine (State.setLink_link_same _ _ _).trans ?_
    rw [hlink, hwords]
    rfl
  have hqspares : (y.queueWords p [ctrlWord 0x20 0 (s.link p).pauseWhy]).rxSpares p = s.rxSpares p := hspares
  rw [State.sendRunning_pausing p (by rw [hlink]; exact hleft), State.setLink_link_same, State.sendExtra, State.sendCtrl, hlink]
  generalize y.queueWords p [ctrlWord 0x20 0 (s.link p).pauseWhy] = z at hq hqspares ⊢
  have hzops : (z.link p).ops = [] := by
    rw [hq]
    exact hops
  rw [State.sendWords_of_no_ops hp 2 hzops, State.wordsSent_link_same _ hp]
  have hbody : z.ctrlBody p = [ctrlWord 0x14 0 (s.rxSpares p), ctrlWord 0x20 0 (s.link p).pauseWhy] := by
    rw [State.ctrlBody, State.dueOps_of_nil hzops, hqspares, hq]
    rfl
  rw [hbody]
  exact ⟨rfl, z.shellHdr p 2 (z.link p).txNext false [], rfl, (congrArg Link.txNext hq :), rfl⟩

/-- A TRAIN shell. -/
theorem State.sendNext_train {s : State} {p : Nat} (hp : p < 16) (hst : s.linkState p = 5) (hlock : s.synLocked (s.bankOf p) = true) :
    ((s.sendNext p).link p).trainTx = (s.link p).trainTx + 1 ∧ ∃ h w, h.kind = 3 ∧ ((s.sendNext p).link p).sent = some (h, .words w) := by
  obtain ⟨hlink, hrd, hbank, -, -⟩ := s.swapsEnd_keeps p
  have hnext : s.sendNext p = ((s.swapsEnd p).sendWords p 3).setLink p
      { ((s.swapsEnd p).sendWords p 3).link p with trainTx := (((s.swapsEnd p).sendWords p 3).link p).trainTx + 1 } := by
    unfold State.sendNext
    simp only [show (s.swapsEnd p).linkState p = 5 from (hrd _).trans hst]
    exact if_pos (by rw [hbank, State.synLocked_congr _ hrd]; exact hlock)
  rw [hnext, State.setLink_link_same, State.sendWords_link _ hp, State.wordsSent_link_same _ hp]
  exact ⟨(congrArg (fun l : Link => l.trainTx + 1) (hlink p) :), _, _, rfl, rfl⟩

/-- The shell of a port that is not pausing, where control words wait. -/
theorem State.sendNext_ctrl {s : State} {p : Nat} (hst : s.linkState p = 6) (hslot : s.slotOfFibre p = .none) (hleft : (s.link p).pauseLeft = 0)
    (hown : s.ownPaused p = false) (hlock : s.synLocked (s.bankOf p) = true) (h : (s.link p).words ≠ [] ∨ (s.link p).ops.any opDue = true) :
    s.sendNext p = (s.swapsEnd p).sendWords p 2 := by
  obtain ⟨hlink, hrd, hbank, -, -⟩ := s.swapsEnd_keeps p
  rw [State.sendNext_running hst hslot, State.sendRunning_ctrl p (by rw [hlink]; exact hleft) ((State.ownPaused_congr p hrd).trans hown)
    (by rw [hbank, State.synLocked_congr _ hrd]; exact hlock) (by rw [hlink]; exact h)]
  rfl

/-- The shell of a port that is not pausing, where no control words wait. -/
theorem State.sendNext_data {s : State} {p : Nat} (hst : s.linkState p = 6) (hslot : s.slotOfFibre p = .none) (hleft : (s.link p).pauseLeft = 0)
    (hown : s.ownPaused p = false) (hlock : s.synLocked (s.bankOf p) = true) (hwords : (s.link p).words = []) (hops : (s.link p).ops = [])
    (hnews : s.newsDue p = false) : s.sendNext p = (s.swapsEnd p).sendData p := by
  obtain ⟨hlink, hrd, hbank, hdue, -⟩ := s.swapsEnd_keeps p
  rw [State.sendNext_running hst hslot, State.sendRunning_data p (by rw [hlink]; exact hleft) ((State.ownPaused_congr p hrd).trans hown)
    (by rw [hbank, State.synLocked_congr _ hrd]; exact hlock) (by rw [hlink]; exact hwords) (by rw [hlink]; exact hops) (hdue.trans hnews)]

/-- The state in which a port whose replay is over makes its next shell. -/
def State.sendsFrom (s : State) (p : Nat) : State := (s.swapsEnd p).setLink p { s.link p with resend := 0 }

/-- In that state nothing that decides on a new shell differs. -/
theorem State.sendsFrom_keeps (s : State) {p : Nat} (hp : p < 16) : (s.sendsFrom p).link p = { s.link p with resend := 0 } ∧
    (s.sendsFrom p).hasWork p = s.hasWork p ∧ (∀ g, (s.sendsFrom p).rd g = s.rd g) ∧ (s.sendsFrom p).fansFrom p = s.fansFrom p ∧
    (s.sendsFrom p).grantable .rpl 1 = s.grantable .rpl 1 := by
  have hlink : (s.sendsFrom p).link p = { s.link p with resend := 0 } := State.setLink_link_same _ _ _
  obtain ⟨lanes, hlanes⟩ := s.swapsEnd_frame p
  rw [State.sendsFrom, hlanes] at hlink ⊢
  generalize hx : State.setLink { s with lanes := lanes } p { s.link p with resend := 0 } = x at hlink ⊢
  have hframe : x = { s with lanes := lanes, links := x.links } := by
    rw [← hx]
    rfl
  have hrd : ∀ g, x.rd g = s.rd g := fun g => by
    rw [hframe]
    rfl
  have hslot : x.slotOfFibre p = s.slotOfFibre p := by
    rw [hframe]
    rfl
  have hstart : x.mayStart p = s.mayStart p := by
    unfold State.mayStart State.linkState
    rw [if_pos hp, if_pos hp, hrd, hslot]
  have hready : ∀ c, x.readyMsg p c = s.readyMsg p c := fun c => by
    unfold State.readyMsg State.credit State.creditAt
    simp only [if_pos hp, hlink, hrd]
  refine ⟨hlink, ?_, hrd, ?_, ?_⟩
  · unfold State.hasWork State.msgReady
    simp only [hlink, hstart, hready]
  · rw [hframe]
    rfl
  · rw [hframe]
    rfl

theorem State.sendNext_new {s : State} {p : Nat} (hst : s.linkState p = 6) (hslot : s.slotOfFibre p = .none) (hleft : (s.link p).pauseLeft = 0)
    (hown : s.ownPaused p = false) (hlock : s.synLocked (s.bankOf p) = true) (hwords : (s.link p).words = []) (hops : (s.link p).ops = [])
    (hnews : s.newsDue p = false) (hresend : (s.link p).resend = 0) : s.sendNext p = (s.sendsFrom p).sendNew p := by
  obtain ⟨hlink, -, -, -, -⟩ := s.swapsEnd_keeps p
  rw [State.sendNext_data hst hslot hleft hown hlock hwords hops hnews, State.sendData_new (by rw [hlink]; exact hresend), hlink]
  rfl

/-- A NULL shell where there is nothing to send. -/
theorem State.sendNew_idle_spec {s : State} {p : Nat} (hp : p < 16) (h : s.hasWork p = false) :
    ((s.sendNew p).link p).txNext = (s.link p).txNext ∧ ((s.sendNew p).link p).replay = (s.link p).replay ∧
      ∃ h, h.kind = 0 ∧ h.seq = (s.link p).txNext ∧ ((s.sendNew p).link p).sent = some (h, .null (s.darkSlot p)) := by
  have hpick := s.pickClass_link p
  have hdark : (s.pickClass p).2.darkSlot p = s.darkSlot p := by
    unfold State.darkSlot State.laneSt
    have hshells : ((s.pickClass p).2.link p).shells = (s.link p).shells := (congrArg Link.shells hpick :)
    rw [State.streamPort_of_lt _ hp, State.streamPort_of_lt _ hp, s.pickClass_lanes p, hshells]
  rw [State.sendNew_idle h, State.sendNull_link_same _ hp, hdark]
  exact ⟨(congrArg Link.txNext hpick :), (congrArg Link.replay hpick :), _, rfl, (congrArg Link.txNext hpick :), rfl⟩

/-- Swaps that end leave a port's dark level. -/
theorem State.swapsEnd_dark (s : State) (p : Nat) : ((s.swapsEnd p).laneSt p).dark = (s.laneSt p).dark := by
  have hfold : ∀ t : State, ((((s.laneSt p).swaps.filter (·.ended == some true)).foldl (fun s w => s.assign p .tx w.lane w.line) t).laneSt p).dark =
      (t.laneSt p).dark := foldl_untouched _ (fun t : State => (t.laneSt p).dark) (fun t w _ => by
    rw [State.assign, State.laneSt_setLaneSt_same])
  exact (hfold _).trans (by rw [State.laneSt_setLaneSt_same])

theorem State.sendsFrom_darkSlot (s : State) {p : Nat} (hp : p < 16) : (s.sendsFrom p).darkSlot p = s.darkSlot p := by
  have hdark : ((s.sendsFrom p).laneSt p).dark = (s.laneSt p).dark := s.swapsEnd_dark p
  unfold State.darkSlot
  rw [State.streamPort_of_lt _ hp, State.streamPort_of_lt _ hp, hdark, (s.sendsFrom_keeps hp).1]

/-- A NULL shell of a stream that stalls. -/
theorem State.sendNew_stalled_spec {s : State} {p : Nat} (hp : p < 16) (hwork : s.hasWork p = true) (hw : s.sendWidth p ≠ 0)
    (h : s.rd (Reg.LNK.RPL_QUOTA p) ≤ s.rplUsed p ∨ s.grantable .rpl 1 = 0) : ((s.sendNew p).link p).txNext = (s.link p).txNext ∧
      ((s.sendNew p).link p).stream = (s.link p).stream ∧ ((s.sendNew p).link p).queues = (s.link p).queues ∧
      (s.sendNew p).shows (Err.LNK.RPL_STALL p) = true ∧ ∃ h d, h.kind = 0 ∧ ((s.sendNew p).link p).sent = some (h, .null d) := by
  have hspec : ∀ t : State, t.link p = s.link p → (((t.stall p).sendNull p).link p).txNext = (s.link p).txNext ∧
      (((t.stall p).sendNull p).link p).stream = (s.link p).stream ∧ (((t.stall p).sendNull p).link p).queues = (s.link p).queues ∧
      ((t.stall p).sendNull p).shows (Err.LNK.RPL_STALL p) = true ∧ ∃ h d, h.kind = 0 ∧ (((t.stall p).sendNull p).link p).sent = some (h, .null d) :=
    fun t ht => by
      obtain ⟨hlink, hshows⟩ := t.stall_spec hp
      rw [State.sendNull_link_same _ hp, hlink, ht]
      refine ⟨rfl, rfl, rfl, ?_, _, _, rfl, rfl⟩
      rw [State.sendNull, State.shellSent_frame]
      exact hshows
  rcases State.sendNew_stalled hp hwork hw h with hs | hs
  · rw [hs]
    exact hspec s rfl
  · rw [hs]
    exact hspec _ (s.allocate_link _ _ _)

/-- A DATA shell of a stream that has something to send. -/
theorem State.sendNew_cut_spec {s : State} {p : Nat} (hp : p < 16) (hwork : s.hasWork p = true) (hw : s.sendWidth p ≠ 0)
    (hquota : s.rplUsed p < s.rd (Reg.LNK.RPL_QUOTA p)) (hgrant : s.grantable .rpl 1 = 1) {v : State}
    (hv : s.fillStream p (bodyBytes (s.sendWidth p)) 1024 = v) (hstream : (v.link p).stream ≠ []) :
    ((s.sendNew p).link p).txNext = (v.link p).txNext + 1 ∧ ∃ c h, ((s.sendNew p).link p).replay = (v.link p).replay ++ [c] ∧
      c.seq = (v.link p).txNext ∧ c.width = s.sendWidth p ∧ c.replay = false ∧ h.kind = 1 ∧ h.seq = c.seq ∧
      ((s.sendNew p).link p).sent = some (h, .data c.body) := by
  subst hv
  rw [State.sendNew_cut hp hwork hw hquota hgrant hstream]
  generalize s.fillStream p (bodyBytes (s.sendWidth p)) 1024 = v
  have hpad := ((v.allocate .rpl 1).2).padStream_link p (bodyBytes (s.sendWidth p))
  rw [v.allocate_link] at hpad
  have hreplay : ((((v.allocate .rpl 1).2).padStream p (bodyBytes (s.sendWidth p))).link p).replay = (v.link p).replay := (congrArg Link.replay hpad :)
  have hnext : ((((v.allocate .rpl 1).2).padStream p (bodyBytes (s.sendWidth p))).link p).txNext = (v.link p).txNext := (congrArg Link.txNext hpad :)
  obtain ⟨c, h, hrep, htx, hseq, hrest⟩ := ((v.allocate .rpl 1).2.padStream p (bodyBytes (s.sendWidth p))).cutNew_link hp (s.sendWidth p)
  rw [hreplay] at hrep
  rw [hnext] at htx hseq
  exact ⟨htx, c, h, hrep, hseq, hrest⟩

/-- A repeat of the port's only operation. -/
theorem State.repeatOp_spec {s : State} {p : Nat} (hp : p < 16) {o : CtrlOp} (hwords : (s.link p).words = []) (hops : (s.link p).ops = [o])
    (hsent : o.sent = true) (htag : o.tag < 16) (hdue : 7 ≤ o.shells) :
    ((s.sendWords p 2).link p).ops = [{ o with shells := 0 }] ∧ (s.sendWords p 2).shows (Err.LNK.CTRL_RETRY p) = true ∧
      ((s.sendWords p 2).link p).txNext = (s.link p).txNext ∧ ((s.sendWords p 2).link p).replay = (s.link p).replay ∧
      sameFields (eventFields (Err.LNK.CTRL_RETRY p)) s (s.sendWords p 2) ∧ (∀ k, k ≠ p → (s.sendWords p 2).link k = s.link k) ∧
      ∃ h, h.kind = 2 ∧ h.seq = (s.link p).txNext ∧
        ((s.sendWords p 2).link p).sent = some (h, .words [ctrlWord 0x14 0 (s.rxSpares p), ctrlWord o.op o.tag o.arg.toNat]) := by
  have hopdue : opDue o = true := by simp [opDue, noTag, hdue, Nat.ne_of_lt htag]
  have hdueOps : s.dueOps p = [o] := by simp [State.dueOps, hops, hwords, hopdue, shellWords]
  have hbody : s.ctrlBody p = [ctrlWord 0x14 0 (s.rxSpares p), ctrlWord o.op o.tag o.arg.toNat] := by
    rw [State.ctrlBody, hdueOps, hwords]
    rfl
  have hsend : s.sendWords p 2 = (s.wordsSent p 2).raise1 (s.retryEvent (s.wordsSent p 2) p) := by
    rw [s.sendWords_eq hp, hdueOps]
    exact if_pos (by simp [hsent])
  have hafter : ({ o with shells := o.shells + 1 } : CtrlOp).afterShell [o] s.absCycle = { o with shells := 0 } := by
    have hsame : ([o].any fun d => d.tag == ({ o with shells := o.shells + 1 } : CtrlOp).tag && d.op == ({ o with shells := o.shells + 1 } : CtrlOp).op) =
        true := by simp
    rw [CtrlOp.afterShell, if_pos hsame]
    simp [hsent]
  refine ⟨?_, ?_, ?_, ?_, fun g hg => ?_, fun k hk => ?_, s.shellHdr p 2 (s.link p).txNext false [], rfl, rfl, ?_⟩
  · rw [s.sendWords_link hp, s.wordsSent_link_same hp, hdueOps]
    simp only [Link.worded, Link.sends, hops, List.map_cons, List.map_nil, hafter]
  · rw [hsend]
    exact State.raise1_shows _ (s.retryEvent (s.wordsSent p 2) p) (show 3 < 32 by decide)
  · rw [s.sendWords_link hp, s.wordsSent_link_same hp]
    rfl
  · rw [s.sendWords_link hp, s.wordsSent_link_same hp]
    rfl
  · rw [hsend, State.raise1_rd _ _ _ hg, State.rd_of_regs (s.wordsSent_regs p 2)]
  · rw [s.sendWords_link hp, s.wordsSent_link_ne hp 2 hk]
  · rw [s.sendWords_link hp, s.wordsSent_link_same hp, hbody]
    rfl

/-- Settles O49: what the next shell is on each occasion, and what it carries. -/
theorem shellsAreSent : Obligations.ShellsAreSent := by
  refine ⟨fun s p h => ?_, fun s p hrun hsafe hst hleft h => ?_, fun s p hrun hsafe hst hslot hleft hwords hops => ?_,
    fun s p hrun hsafe hst hslot hleft hown hlock hwords hops => ?_,
    fun s p x hrun hsafe hst hslot hleft hown hlock hwords hops hnews hpos hle hx hwidth => ?_,
    fun s p hrun hsafe hst hslot hleft hown hlock hwords hops hnews hresend hfans => ?_, fun s p hrun hsafe hst hlock => ?_,
    fun s p hrun hsafe h => ?_, fun s p h => ?_, fun s p o hrun hsafe hst hslot hleft hown hlock hwords hops hsent htag hdue => ?_,
    fun h lanes ok hhdr hdata htc hcount hfirst hwidth hkind => readHdr_value lanes ok hhdr hdata htc hcount hfirst hwidth hkind,
    fun w bs _ hlen => unstripe_stripes hlen⟩
  · exact ⟨congrArg Host.Outcome.next (if_neg (by rcases h with h | h <;> simp [h])),
      congrArg Host.Outcome.next (if_neg (by rcases h with h | h <;> simp [h]))⟩
  · obtain ⟨hlink, hrd, -, -, -⟩ := s.swapsEnd_keeps p.val
    have hfec : (s.swapsEnd p.val).flag (Reg.LNK.STAT_FEC p.val) = s.flag (Reg.LNK.STAT_FEC p.val) := congrArg (· != 0) (hrd _)
    rw [exec_shellBoundary p hrun hsafe, State.sendNext_paused hst hleft h, State.sendNothing_eq, hlink, hfec, Link.silent]
  · exact ⟨_, exec_shellBoundary p hrun hsafe, State.sendNext_pausing p.isLt hst hslot hleft hwords hops⟩
  · obtain ⟨hlink, -, -, -, hspares⟩ := s.swapsEnd_keeps p.val
    have hnext : s.sendNext p.val = (s.swapsEnd p.val).wordsSent p.val 2 := by
      rw [State.sendNext_ctrl hst hslot hleft hown hlock (.inl hwords), State.sendWords_of_no_ops p.isLt 2 (by rw [hlink]; exact hops)]
    refine ⟨_, hnext ▸ exec_shellBoundary p hrun hsafe, ?_⟩
    have hbody : (s.swapsEnd p.val).ctrlBody p.val = ctrlWord 0x14 0 (s.rxSpares p.val) :: (s.link p.val).words.take 21 := by
      rw [State.ctrlBody, State.dueOps_of_nil (by rw [hlink]; exact hops), hlink, hspares, List.map_nil, List.append_nil]
      rfl
    rw [State.wordsSent_link_same _ p.isLt, hbody, hlink]
    exact ⟨rfl, rfl, rfl, rfl, ⟨_, rfl, rfl, rfl⟩, fun k hk => ((s.swapsEnd p.val).wordsSent_link_ne p.isLt 2 hk).trans (hlink k),
      (s.swapsEnd p.val).wordsSent_frame p.val 2⟩
  · obtain ⟨hlink, -, -, -, -⟩ := s.swapsEnd_keeps p.val
    have hnext : s.sendNext p.val = ((s.swapsEnd p.val).setLink p.val { (s.swapsEnd p.val).link p.val with
        resend := ((s.swapsEnd p.val).link p.val).resend - 1 }).sendShell p.val x := by
      rw [State.sendNext_data hst hslot hleft hown hlock hwords hops hnews]
      exact State.sendData_replay p.isLt (by rw [hlink]; exact hops) (by rw [hlink]; exact hpos) (by rw [hlink]; exact hle) (by rw [hlink]; exact hx) hwidth
    refine ⟨_, hnext ▸ exec_shellBoundary p hrun hsafe, ?_⟩
    rw [State.sendShell_link, State.shellSent_link_same _ p.isLt, State.setLink_link_same, hlink]
    refine ⟨rfl, rfl, rfl, ⟨_, rfl, rfl, rfl, rfl, rfl⟩, fun k hk => ?_⟩
    rw [State.sendShell_link, State.shellSent_link_ne _ p.isLt _ _ hk, State.setLink_link_ne _ _ hk, hlink]
  · obtain ⟨hlink, hwork, hrd, hfrom, hgrant⟩ := s.sendsFrom_keeps p.isLt
    have hnext := State.sendNext_new hst hslot hleft hown hlock hwords hops hnews hresend
    have hexec := exec_shellBoundary p hrun hsafe
    have hdark := s.sendsFrom_darkSlot p.isLt
    have hused : (s.sendsFrom p.val).rplUsed p.val = (s.link p.val).replay.length := by
      rw [State.rplUsed, hfrom, hfans, hlink]
      rfl
    intro x w v
    have hx : x = s.sendsFrom p.val := rfl
    have hv : x.fillStream p.val (bodyBytes w) 1024 = v := rfl
    rw [← hx] at hlink hwork hrd hgrant hnext hdark hused
    have hw : x.sendWidth p.val = w := rfl
    clear_value x
    clear_value w v
    subst hw
    rw [hnext] at hexec
    refine ⟨fun hidle => ⟨_, hexec, ?_⟩, fun hbusy hne h => ⟨_, hexec, ?_⟩, fun hbusy hne hquota hpages hstream => ⟨_, hexec, ?_⟩⟩
    · have hspec := State.sendNew_idle_spec p.isLt (hwork.trans hidle)
      rw [hlink, hdark] at hspec
      exact hspec
    · have hspec := State.sendNew_stalled_spec p.isLt (hwork.trans hbusy) hne (by rw [hrd, hused, hgrant]; exact h)
      rw [hlink] at hspec
      exact hspec
    · exact State.sendNew_cut_spec p.isLt (hwork.trans hbusy) hne (by rw [hrd, hused]; exact hquota) (hgrant.trans hpages) hv hstream
  · exact ⟨_, exec_shellBoundary p hrun hsafe, State.sendNext_train p.isLt hst hlock⟩
  · obtain ⟨o, ho, hsent, htag, hdue⟩ := h
    rw [exec_opRepeat_due p hrun hsafe (List.any_eq_true.mpr ⟨o, ho, by simp [opDue, hsent, htag, hdue]⟩), exec_shellBoundary p hrun hsafe]
  · have hnone : (s.link p.val).ops.any (fun o => o.sent && opDue o) = false := List.any_eq_false.mpr fun o ho hdue => by
      simp only [opDue, Bool.and_eq_true, Bool.or_eq_true, decide_eq_true_eq, Bool.not_eq_true'] at hdue
      obtain ⟨hsent, -, hdue⟩ := hdue
      have hlt := h o ho hsent
      rcases hdue with hdue | hdue
      · rw [hsent] at hdue
        cases hdue
      · omega
    exact congrArg Host.Outcome.next (if_neg (by simp only [hnone]; simp))
  · obtain ⟨hlink, hrd, -, -, hspares⟩ := s.swapsEnd_keeps p.val
    have hopdue : opDue o = true := by simp [opDue, noTag, hdue, Nat.ne_of_lt htag]
    have hnext := State.sendNext_ctrl hst hslot hleft hown hlock (.inr (by rw [hops]; simp [hopdue]))
    have hexec := exec_opRepeat_due p hrun hsafe (by rw [hops]; simp [hopdue, hsent])
    rw [hnext] at hexec
    refine ⟨_, hexec, ?_⟩
    generalize s.swapsEnd p.val = y at hlink hrd hspares ⊢
    have hspec := State.repeatOp_spec (s := y) p.isLt (by rw [hlink]; exact hwords) (by rw [hlink]; exact hops) hsent htag hdue
    rw [hlink, hspares] at hspec
    obtain ⟨h1, h2, h3, h4, h5, h6, h7⟩ := hspec
    exact ⟨h1, h2, h3, h4, fun g hg => (h5 g hg).trans (hrd g), fun k hk => (h6 k hk).trans (hlink k), h7⟩

end Sys2Proof.Machine
end

section
/-! SUPPORT. How links go down (spec section 09, R279, R281, R291, R293, R303, R306, R307). -/

namespace Sys2Proof.Machine

/-! ## A fault noted (R307) -/

/-- The first fault of a running link is noted. -/
theorem State.linkFault_first {s : State} {p : Nat} (reason seq : Nat) (hup : s.linkUp p = true) (hdown : (s.link p).down = .none) :
    s.linkFault p reason noLane seq = s.downFor p reason seq := by
  unfold State.linkFault
  rw [if_neg (by simp [hup])]
  simp only [hdown]
  rfl

/-- A later fault of the same stroke takes the place of one with a greater reason. -/
theorem State.linkFault_again {s : State} {p : Nat} (reason seq : Nat) {f : LinkFault} (hup : s.linkUp p = true) (hdown : (s.link p).down = some f) :
    s.linkFault p reason noLane seq = if f.at_ = s.now ∧ reason < f.reason then s.downFor p reason seq else s := by
  unfold State.linkFault
  rw [if_neg (by simp [hup])]
  simp only [hdown]
  rfl

theorem State.linkUp_of_active {s : State} {p : Nat} (h : s.linkState p = 6) : s.linkUp p = true := by simp [State.linkUp_of_state h]

/-! ## Replay of a port's own link (R291) -/

theorem exec_shellReplayTimeout {s : State} {p : Fin 16} (hfans : s.fansFrom p.val = []) (hrun : s.running = true) :
    exec (.shellReplayTimeout p) s = .next (if s.replayDue p.val then s.replayExpires p.val else s) := by
  refine congrArg Host.Outcome.next ((if_pos hrun).trans ?_)
  rw [hfans]
  rfl

/-- A link all of whose shells are to be sent again. -/
def Link.expires (l : Link) (now : Nat) : Link := { l.replayAll with expiries := l.expiries + 1, timer := now }

theorem State.replayExpires_eq (s : State) {p : Nat} (hp : p < 16) : s.replayExpires p =
    ((s.setLink p ((s.link p).expires s.absCycle)).raise1 ⟨Err.LNK.REPLAY p, (s.setLink p ((s.link p).expires s.absCycle)).linkInfo p noLane 0,
      (s.link p).oldest⟩).bump (Reg.LNK.REPLAY_CNT p) := by
  unfold State.replayExpires
  simp only [s.streamPort_of_lt hp, if_neg (Nat.not_le.mpr hp)]
  rfl

/-! ## DISABLE (R303) -/

theorem fieldsAt_lnkCtrl : ∀ p : Fin 16, fieldsAt (0x040 + p.val) 0x004 = fieldsAt 0x040 0x004 := by decide

theorem State.disable_written (s : State) (p : Fin 16) (d : Word) :
    (s.writeFields (0x040 + p.val) 0x004 d.toNat).rd (Reg.LNK.CTRL_DISABLE p.val) = ofBool (d.getLsbD 8) := by
  have hrows : fieldsAt (0x040 + p.val) 0x004 = fieldsAt 0x040 0x004 := fieldsAt_lnkCtrl p
  have hle := bits_one_le d.toNat 8
  have hrow := s.writeFields_row (pg := 0x040 + p.val) (off := 0x004) (data := d.toNat) (r := ⟨8, 8, .rw, 0, 0, 1⟩) (by rw [hrows]; decide) rfl
    (by rw [hrows]; decide) ⟨Nat.zero_le _, hle⟩ (by decide) (by decide)
  refine hrow.trans ?_
  rw [bits_of_getLsbD]
  cases d.getLsbD 8 <;> rfl

theorem exec_linkDisable {s : State} {via : Path} (p : Fin 16) (d : Word) (hd : s.deaf via = false) (hl : s.locked via (0x040 + p.val) = false) :
    exec (.linkDisable via p d) s = .next (s.wrLnkCtrl p.val d.toNat) := by
  have himpl : ∀ p : Fin 16, implemented (0x040 + p.val) 0x004 = true := by decide
  exact congrArg (fun t : State => Host.Outcome.next t) (State.access_of_not_locked (s := s) d.toNat (State.wrLnkCtrl p.val) hd (himpl p) hl)

theorem State.wrLnkCtrl_disabled {s : State} {p data : Nat} (h : (s.writeFields (0x040 + p) 0x004 data).flag (Reg.LNK.CTRL_DISABLE p) = true) :
    s.wrLnkCtrl p data = (s.writeFields (0x040 + p) 0x004 data).disableLink p := if_pos h

/-! ## A link that goes down (R307) -/

/-- A field of a port's LNK page. -/
def Field.onLnk (p : Nat) (g : Field) : Prop := g.page = 0x040 + p ∧ g.off < 0x1000 ∧ g.lo < 32

theorem Field.onLnk.key_ne {p : Nat} {f g : Field} (hg : g.onLnk p) (hp : f.page ≠ 0x040 + p) (hf : f.off < 0x1000 ∧ f.lo < 32) : f.key ≠ g.key :=
  Field.key_ne_of_page (hg.1 ▸ hp) hf hg.2

/-- Lane operations that are lost with a link change its lanes alone, where no lane waits for the peer. -/
theorem State.laneOpsLost_frame {s : State} {p : Nat} (h : (s.laneSt p).rxWait = []) : ∃ lanes, s.laneOpsLost p = { s with lanes := lanes } := by
  have hwait : ((s.swapsEnd p).laneSt p).rxWait = [] := by
    have hfold : ∀ t : State, ((((s.laneSt p).swaps.filter (·.ended == some true)).foldl (fun s w => s.assign p .tx w.lane w.line) t).laneSt p).rxWait =
        (t.laneSt p).rxWait := foldl_untouched _ (fun t : State => (t.laneSt p).rxWait) (fun t w _ => by
      rw [State.assign, State.laneSt_setLaneSt_same])
    refine ((hfold _).trans ?_).trans h
    rw [State.laneSt_setLaneSt_same]
  obtain ⟨lanes, hlanes⟩ := s.swapsEnd_frame p
  unfold State.laneOpsLost
  simp only [hwait, List.filter_nil, List.foldl_nil]
  rw [hlanes]
  exact ⟨_, rfl⟩

theorem State.endWork_of_nil {s : State} (n st det : Nat) (h : s.cox.jobs = []) : s.endWork n st det = s := by
  unfold State.endWork
  simp [h]

theorem State.endHeld_of_nil {s : State} (n st det : Nat) (h : s.cox.bw = []) : s.endHeld n st det = s := by
  unfold State.endHeld
  rw [h]
  rfl

theorem State.failRounds_of_nil {s : State} (p : Nat) (h : s.runs.rounds = []) : s.failRounds p = s := by
  unfold State.failRounds
  rw [h]
  rfl

theorem State.clearStream_rd (s : State) {n p : Nat} {g : Field} (hg : g.onLnk p) : (s.clearStream n).rd g = s.rd g := by
  have hne : ∀ k < 2, (Reg.RSV.USED k).key ≠ g.key := fun k hk =>
    hg.key_ne (show 0x009 ≠ 0x040 + p by omega) ⟨show 0x050 + 0x4 * k < 0x1000 by omega, show 0 < 32 by decide⟩
  unfold State.clearStream State.returnPages
  dsimp only
  rw [State.setLink_rd, State.rd_wr_ne _ _ (show (Reg.RSV.USED (poolNo .rxs)).key ≠ g.key from hne 1 (by decide)),
    State.rd_wr_ne _ _ (show (Reg.RSV.USED (poolNo .rpl)).key ≠ g.key from hne 0 (by decide))]

theorem bankOf_lt (s : State) {p : Nat} (hp : p < 16) : s.bankOf p < 16 := by
  unfold State.bankOf
  cases h : (List.range 16).find? fun b => s.fibreOf b == p with
  | none => exact hp
  | some b => exact List.mem_range.mp (List.mem_of_find?_eq_some h)

theorem State.relockAfterPause_rd (s : State) {p : Nat} (hp : p < 16) {g : Field} (hg : g.onLnk p) : (s.relockAfterPause p).rd g = s.rd g := by
  have hbank := bankOf_lt s hp
  unfold State.relockAfterPause State.beginRelock
  dsimp only
  split
  · rw [State.rd_bump_ne _ (hg.key_ne (show 0x060 + s.bankOf p ≠ 0x040 + p by omega) (show 0x07c < 0x1000 ∧ 0 < 32 by decide)),
      State.rd_wr_ne _ _ (hg.key_ne (show 0x060 + s.bankOf p ≠ 0x040 + p by omega) (show 0x008 < 0x1000 ∧ 0 < 32 by decide))]
    rfl
  · rfl

theorem State.relockAfterPause_links (s : State) (p : Nat) : (s.relockAfterPause p).links = s.links := by
  unfold State.relockAfterPause State.beginRelock
  dsimp only
  split <;> rfl

/-- Cross spares a bank in the Flume's own registers. -/
theorem State.autoCross_rd (s : State) (f : Nat) {p : Nat} {g : Field} (hg : g.onLnk p) : (s.autoCross f).rd g = s.rd g := by
  have hevent : ∀ e ∈ eventFields Err.FLM.AUTO_CROSS, e.key ≠ g.key := fun e he => by
    have hplace : ∀ e ∈ eventFields Err.FLM.AUTO_CROSS, e.page < 0x040 ∧ e.off < 0x1000 ∧ e.lo < 32 := by decide
    obtain ⟨hpage, hrange⟩ := hplace e he
    exact hg.key_ne (by omega) hrange
  unfold State.autoCross
  dsimp only
  split
  · rw [State.raise1_rd _ _ _ hevent, State.rd_wr_ne _ _ (hg.key_ne (show 0x008 ≠ 0x040 + p by omega) (by decide))]
    rfl
  · rfl

theorem State.autoCross_links (s : State) (f : Nat) : (s.autoCross f).links = s.links := by
  unfold State.autoCross
  dsimp only
  split
  · exact State.raise1_links _ _
  · rfl

/-- A link whose traffic and control stop, to wait in its next state. -/
def State.brokenOff (s : State) (p : Nat) : State :=
  let t := s.clearStream p
  let u := t.clearControl p (if t.synLocked (t.bankOf p) && !t.lentBank (t.bankOf p) then 16 else 0)
  u.linkTo p (if u.flag (Reg.LNK.CTRL_DISABLE p) then 0 else 7)

/-- The registers that the fault of a link that goes down changes first. -/
def State.downNoted (s : State) (p : Nat) (f : LinkFault) : State :=
  ((s.raiseAt f.stamp ⟨Err.LNK.LINK_DOWN p, f.info0, f.info1⟩).wr (Reg.LNK.STAT_REASON p) f.reason).bump (Reg.LNK.LINK_CNT_DOWN p)

theorem State.clearControl_rd (s : State) {p : Nat} (resets : Nat) (hp : p < 16) {g : Field} (hg : g.onLnk p)
    (hpause : (Reg.LNK.STAT_PAUSE p).key ≠ g.key) : (s.clearControl p resets).rd g = s.rd g :=
  (State.relockAfterPause_rd _ hp hg).trans (State.rd_wr_ne _ _ hpause)

theorem State.clearControl_pause (s : State) {p : Nat} (resets : Nat) (hp : p < 16) : (s.clearControl p resets).rd (Reg.LNK.STAT_PAUSE p) = 0 :=
  (State.relockAfterPause_rd _ hp (g := Reg.LNK.STAT_PAUSE p) ⟨rfl, show 0x008 < 0x1000 by decide, show 21 < 32 by decide⟩).trans
    ((State.rd_wr_same _ _ _).trans (Nat.zero_mod _))

/-- What a link that goes down no longer holds. -/
def Link.broken (l : Link) : Prop := l.replay = [] ∧ l.stream = [] ∧ l.queues = [[], [], [], []] ∧ l.rxMsgs = [] ∧ l.ops = [] ∧ l.down = .none ∧
  l.rxReserved = 0

theorem State.brokenOff_link_same (s : State) (p : Nat) : ((s.brokenOff p).link p).broken := by
  unfold State.brokenOff State.clearControl
  dsimp only
  rw [State.linkTo_link_same, State.link_of_links (State.relockAfterPause_links _ _), State.wr_link, State.setLink_link_same, State.clearStream,
    State.setLink_link_same]
  exact ⟨rfl, rfl, rfl, rfl, rfl, rfl, rfl⟩

theorem State.brokenOff_link_ne (s : State) {p k : Nat} (h : k ≠ p) : (s.brokenOff p).link k = s.link k := by
  unfold State.brokenOff State.clearControl
  dsimp only
  rw [State.linkTo_link_ne _ _ h, State.link_of_links (State.relockAfterPause_links _ _), State.wr_link, State.setLink_link_ne _ _ h,
    State.clearStream, State.setLink_link_ne _ _ h]
  rfl

theorem State.brokenOff_rd (s : State) {p : Nat} (hp : p < 16) {g : Field} (hg : g.onLnk p)
    (hpause : (Reg.LNK.STAT_PAUSE p).key ≠ g.key) (hstate : (Reg.LNK.STAT_STATE p).key ≠ g.key) : (s.brokenOff p).rd g = s.rd g := by
  unfold State.brokenOff State.linkTo
  dsimp only
  rw [State.rd_wr_ne _ _ hstate, State.setLink_rd, State.clearControl_rd _ _ hp hg hpause, State.clearStream_rd _ hg]

theorem State.brokenOff_pause (s : State) {p : Nat} (hp : p < 16) : (s.brokenOff p).rd (Reg.LNK.STAT_PAUSE p) = 0 := by
  unfold State.brokenOff State.linkTo
  dsimp only
  rw [State.rd_wr_ne _ _ (by exact Field.key_ne_of_place rfl rfl rfl), State.setLink_rd, State.clearControl_pause _ _ hp]

theorem State.brokenOff_state (s : State) {p : Nat} (hp : p < 16) :
    (s.brokenOff p).linkState p = if s.flag (Reg.LNK.CTRL_DISABLE p) then 0 else 7 := by
  have hon : (Reg.LNK.CTRL_DISABLE p).onLnk p := ⟨rfl, show 0x004 < 0x1000 by decide, show 8 < 32 by decide⟩
  have hflag : ∀ resets, ((s.clearStream p).clearControl p resets).flag (Reg.LNK.CTRL_DISABLE p) = s.flag (Reg.LNK.CTRL_DISABLE p) := fun resets => by
    unfold State.flag
    rw [State.clearControl_rd _ _ hp hon (by exact Field.key_ne_of_place rfl rfl rfl), State.clearStream_rd _ hon]
  unfold State.brokenOff
  dsimp only
  rw [hflag]
  refine State.linkTo_state _ _ ?_
  split <;> decide

/-- A link that goes down alone: its fault is noted, then its traffic and control stop. -/
theorem State.takeDownOne_eq {s : State} {p : Nat} (f : LinkFault) (hfan : s.returnsFan p = false) (hjobs : s.cox.jobs = []) (hbw : s.cox.bw = [])
    (hrounds : s.runs.rounds = []) (hwait : (s.laneSt p).rxWait = []) :
    ∃ t : State, t.regs = (s.downNoted p f).regs ∧ t.links = s.links ∧
      (s.takeDownOne p f = t.brokenOff p ∨ s.takeDownOne p f = (t.brokenOff p).autoCross p) := by
  have hlanes : (s.downNoted p f).laneSt p = s.laneSt p := by
    unfold State.downNoted State.laneSt
    rw [State.bump_lanes, State.wr_lanes, State.raiseAt_lanes]
  obtain ⟨lanes, hlost⟩ := State.laneOpsLost_frame (s := s.downNoted p f) (p := p) (hlanes ▸ hwait)
  obtain ⟨t, ht⟩ : ∃ t, t = (s.downNoted p f).laneOpsLost p := ⟨_, rfl⟩
  have hregs : t.regs = (s.downNoted p f).regs := by rw [ht, hlost]
  have hlinks : t.links = s.links := by
    rw [ht, hlost]
    exact s.raiseAt_links _ _
  have hcox : t.cox = s.cox := by
    rw [ht, hlost]
    exact s.raiseAt_cox _ _
  have hruns : t.runs = s.runs := by
    rw [ht, hlost]
    exact s.raiseAt_runs _ _
  clear hlost
  have hrole : ((t.setFetches p []).clearStream p).returnsFan p = false := by
    have hkeep : ((t.setFetches p []).clearStream p).rd (Reg.LNK.STAT_FAN_ROLE p) = s.rd (Reg.LNK.STAT_FAN_ROLE p) := by
      rw [State.clearStream_rd _ ⟨rfl, show 0x008 < 0x1000 by decide, show 26 < 32 by decide⟩, State.rd_of_regs (s := s.downNoted p f) (t := t.setFetches p []) hregs]
      unfold State.downNoted
      rw [State.rd_bump_ne _ (by exact Field.key_ne_of_place rfl rfl rfl), State.rd_wr_ne _ _ (by exact Field.key_ne_of_place rfl rfl rfl),
        State.raiseAt_rd _ _ _ _ (eventFields_key_ne_of_outside rfl (lnk_page p))]
    unfold State.returnsFan at hfan ⊢
    rw [hkeep, hfan]
  have hidle : ((t.endWork p stLinkDown p).endHeld p stLinkDown p).failRounds p = t := by
    rw [State.endWork_of_nil _ _ _ (hcox ▸ hjobs), State.endHeld_of_nil _ _ _ (hcox ▸ hbw), State.failRounds_of_nil _ (hruns ▸ hrounds)]
  have hdown : s.takeDownOne p f = if f.reason = 8 || (f.reason == 4 && decide (widthOf (s.laneSt p).txMap < (s.link p).minLanes)) then
      ((t.setFetches p []).brokenOff p).autoCross p else (t.setFetches p []).brokenOff p := by
    unfold State.takeDownOne
    dsimp only
    rw [← State.downNoted, ← ht, hidle, hrole]
    rfl
  refine ⟨t.setFetches p [], hregs, hlinks, ?_⟩
  rw [hdown]
  split
  · exact .inr rfl
  · exact .inl rfl

/-- What a link that went down shows (R307). -/
theorem State.takeDownOne_spec {s : State} {p : Nat} {f : LinkFault} (hp : p < 16) (hreason : f.reason < 15) (hfan : s.returnsFan p = false)
    (hjobs : s.cox.jobs = []) (hbw : s.cox.bw = []) (hrounds : s.runs.rounds = []) (hwait : (s.laneSt p).rxWait = []) :
    (s.takeDownOne p f).linkState p = (if s.flag (Reg.LNK.CTRL_DISABLE p) then 0 else 7) ∧
      (s.takeDownOne p f).rd (Reg.LNK.STAT_REASON p) = f.reason ∧ (s.takeDownOne p f).shows (Err.LNK.LINK_DOWN p) = true ∧
      (s.takeDownOne p f).rd (Reg.LNK.LINK_CNT_DOWN p) = (s.bump (Reg.LNK.LINK_CNT_DOWN p)).rd (Reg.LNK.LINK_CNT_DOWN p) ∧
      (s.takeDownOne p f).rd (Reg.LNK.STAT_PAUSE p) = 0 ∧ ((s.takeDownOne p f).link p).broken ∧
      (∀ k, k ≠ p → (s.takeDownOne p f).link k = s.link k) := by
  obtain ⟨t, hregs, hlinks, hdown⟩ := State.takeDownOne_eq f hfan hjobs hbw hrounds hwait
  have hrd : ∀ g : Field, g.onLnk p → (s.takeDownOne p f).rd g = (t.brokenOff p).rd g := fun g hg => by
    obtain h | h := hdown
    · rw [h]
    · rw [h, State.autoCross_rd _ _ hg]
  have hlink : ∀ k, (s.takeDownOne p f).link k = (t.brokenOff p).link k := fun k => by
    obtain h | h := hdown
    · rw [h]
    · rw [h, State.link_of_links (State.autoCross_links _ _)]
  have hnoted : ∀ g : Field, g.onLnk p → (Reg.LNK.STAT_PAUSE p).key ≠ g.key → (Reg.LNK.STAT_STATE p).key ≠ g.key →
      (s.takeDownOne p f).rd g = (s.downNoted p f).rd g := fun g hg hpause hstate => by
    rw [hrd g hg, State.brokenOff_rd _ hp hg hpause hstate, State.rd_of_regs hregs]
  have hraised : ∀ g : Field, g.page = 0x040 + p → g.outside = true → (s.raiseAt f.stamp ⟨Err.LNK.LINK_DOWN p, f.info0, f.info1⟩).rd g = s.rd g :=
    fun g hpage hg => State.raiseAt_rd _ _ _ _ (eventFields_key_ne_of_outside hg (hpage ▸ lnk_page p))
  have hdisable : t.flag (Reg.LNK.CTRL_DISABLE p) = s.flag (Reg.LNK.CTRL_DISABLE p) := by
    unfold State.flag
    rw [State.rd_of_regs hregs]
    unfold State.downNoted
    rw [State.rd_bump_ne _ (by exact Field.key_ne_of_place rfl rfl rfl), State.rd_wr_ne _ _ (by exact Field.key_ne_of_place rfl rfl rfl), hraised _ rfl rfl]
  refine ⟨?_, ?_, ?_, ?_, ?_, ?_, fun k hk => ?_⟩
  · rw [State.linkState, hrd _ ⟨rfl, show 0x008 < 0x1000 by decide, show 0 < 32 by decide⟩, ← State.linkState, State.brokenOff_state _ hp, hdisable]
  · rw [hnoted _ ⟨rfl, show 0x008 < 0x1000 by decide, show 28 < 32 by decide⟩ (by exact Field.key_ne_of_place rfl rfl rfl)
      (by exact Field.key_ne_of_place rfl rfl rfl)]
    unfold State.downNoted
    rw [State.rd_bump_ne _ (by exact Field.key_ne_of_place rfl rfl rfl), State.rd_wr_same]
    exact Nat.mod_eq_of_lt (show f.reason < 16 by omega)
  · unfold State.shows
    rw [hnoted _ ⟨rfl, show 0x014 < 0x1000 by decide, show 0 < 32 by decide⟩ (by exact Field.key_ne_of_place rfl rfl rfl)
      (by exact Field.key_ne_of_place rfl rfl rfl)]
    unfold State.downNoted
    rw [State.rd_bump_ne _ (by exact Field.key_ne_of_place rfl rfl rfl), State.rd_wr_ne _ _ (by exact Field.key_ne_of_place rfl rfl rfl)]
    exact State.raiseAt_bit _ _ _ (show 0 < 32 by decide)
  · rw [hnoted _ ⟨rfl, show 0x0a0 < 0x1000 by decide, show 16 < 32 by decide⟩ (by exact Field.key_ne_of_place rfl rfl rfl)
      (by exact Field.key_ne_of_place rfl rfl rfl)]
    unfold State.downNoted
    rw [State.rd_bump_same, State.rd_bump_same, State.rd_wr_ne _ _ (by exact Field.key_ne_of_place rfl rfl rfl), hraised _ rfl rfl]
  · rw [hrd _ ⟨rfl, show 0x008 < 0x1000 by decide, show 21 < 32 by decide⟩, State.brokenOff_pause _ hp]
  · rw [hlink]
    exact t.brokenOff_link_same p
  · rw [hlink, t.brokenOff_link_ne hk, State.link_of_links hlinks]

theorem exec_linkDown {s : State} {p : Fin 16} {f : LinkFault} (hrun : s.running = true) (hup : s.linkUp p.val = true)
    (hdown : (s.link p.val).down = some f) (hreason : f.reason < 15) (hcyc : s.clk.cycle = 0) (hat : f.at_ < s.now) :
    exec (.linkDown p) s = .next (s.takeDown p.val f).settle := by
  refine congrArg Host.Outcome.next ?_
  simp only [hdown]
  exact if_pos (by simp [hrun, hup, hcyc, hat, Nat.ne_of_lt hreason])

theorem State.takeDown_alone {s : State} {p : Nat} (f : LinkFault) (hslot : s.slotOfFibre p = .none) : s.takeDown p f = s.takeDownOne p f := by
  unfold State.takeDown
  simp only [hslot]

/-! ## A link's faults -/

theorem exec_linkLos_fault {s : State} (p : Fin 16) (hrun : s.running = true) (hlos : 16 ≤ (s.link p.val).losRun) :
    exec (.linkLos p) s = .next (s.linkFault p.val 2 noLane (s.link p.val).oldest) :=
  congrArg (fun t : State => Host.Outcome.next t) (if_pos (by simp [hrun, hlos]))

theorem exec_reset_active {s : State} (p : Fin 16) (tag : BitVec 4) (arg : BitVec 48) (hrun : s.running = true) (hst : s.linkState p.val = 6) :
    exec (.reset p tag arg) s = .next (s.linkFault p.val 3 noLane (s.link p.val).oldest) := by
  refine congrArg Host.Outcome.next ?_
  simp only [hrun, hst]
  rfl

theorem exec_reservedControlOp {s : State} (p : Fin 16) {op : Byte} (hrun : s.running = true)
    (hop : 0x3A ≤ op.toNat ∨ op.toNat ∈ [4, 15, 0x16, 0x17, 0x19, 0x1F, 0x22, 0x27, 0x2B, 0x2F, 0x32, 0x37]) :
    exec (.reservedControlOp p op) s = .next (s.malformed p.val) := by
  refine congrArg (fun t : State => Host.Outcome.next t) (if_pos ?_)
  rw [hrun]
  generalize op.toNat = n at hop
  simp only [List.mem_cons, List.not_mem_nil, or_false] at hop
  simp only [Bool.true_and, Bool.not_eq_true', List.contains_eq_mem, decide_eq_false_iff_not, List.mem_cons, List.not_mem_nil, or_false]
  omega

theorem exec_ctrlTimeout_idle {s : State} (p : Fin 16)
    (h : (s.link p.val).frozenAt ≠ .none ∨ (∀ o ∈ (s.link p.val).ops, o.sent = true → s.absCycle < o.first + 16 * 1280)) :
    exec (.ctrlTimeout p) s = .next s := by
  refine congrArg (fun t : State => Host.Outcome.next t) (if_neg fun hdue => ?_)
  simp only [Bool.and_eq_true, List.any_eq_true, decide_eq_true_eq] at hdue
  obtain ⟨⟨-, hfrozen⟩, o, ho, hsent, hlate⟩ := hdue
  obtain h | h := h
  · exact h (Option.isNone_iff_eq_none.mp hfrozen)
  · exact absurd (h o ho hsent) (Nat.not_lt.mpr hlate)

theorem exec_linkDown_idle {s : State} (p : Fin 16) (h : (s.link p.val).down = .none ∨ s.clk.cycle ≠ 0) : exec (.linkDown p) s = .next s := by
  refine congrArg (fun t : State => Host.Outcome.next t) ?_
  cases hd : (s.link p.val).down with
  | none => rfl
  | some f => exact if_neg (by simp [(or_iff_right (by simp [hd])).mp h])

theorem exec_shellReplayTimeout_idle {s : State} {p : Fin 16} (hfans : s.fansFrom p.val = []) (hdue : s.replayDue p.val = false) :
    exec (.shellReplayTimeout p) s = .next s := by
  by_cases hrun : s.running = true
  · rw [exec_shellReplayTimeout hfans hrun, hdue]
    rfl
  · exact congrArg (fun t : State => Host.Outcome.next t) (if_neg hrun)

/-- The write of CTRL.DISABLE at a running link leaves everything but the registers, and the fault noted, as it was. -/
theorem State.disableLink_written (s : State) (p : Fin 16) (d : Word) (hup : s.linkUp p.val = true) (hdown : (s.link p.val).down = .none) :
    (s.writeFields (0x040 + p.val) 0x004 d.toNat).disableLink p.val =
      { s.downFor p.val 7 (s.link p.val).oldest with regs := (s.writeFields (0x040 + p.val) 0x004 d.toNat).regs } := by
  have hlinkState : (s.writeFields (0x040 + p.val) 0x004 d.toNat).linkState p.val = s.linkState p.val :=
    s.writeFields_rd_ne _ (show 0x004 ≠ 0x008 by decide) (fun _ => show 0x008 ≠ 0x01C by decide) (by decide)
      ⟨show 0x008 < 0x1000 by decide, show 0 < 32 by decide⟩
  have hrunning : (s.writeFields (0x040 + p.val) 0x004 d.toNat).running = s.running := by
    unfold State.running State.flag
    rw [s.writeFields_rd_ne_page _ (show 0x040 + p.val ≠ 0x001 by omega) (by decide) (by decide)]
  generalize hu : s.writeFields (0x040 + p.val) 0x004 d.toNat = u at hlinkState hrunning
  have hregs : u = { s with regs := u.regs } := hu ▸ s.writeFields_regs _ _ _
  have hlink : u.link p.val = s.link p.val := by rw [hregs]; rfl
  have hclk : u.clk = s.clk := by rw [hregs]
  have huUp : u.linkUp p.val = true := by
    unfold State.linkUp at hup ⊢
    rw [hlinkState, hup]
  have hfault : u.linkFault p.val 7 noLane (u.link p.val).oldest = u.downFor p.val 7 (s.link p.val).oldest := by
    rw [State.linkFault_first 7 _ huUp (hlink ▸ hdown), hlink]
  rw [State.disableLink, if_pos huUp, hfault]
  unfold State.downFor State.linkInfo State.stamp State.now
  rw [hlinkState, hrunning, hlink, hclk]
  rw [hregs]
  rfl

/-- Settles O50: a fault is noted at once, and the link goes down at a later cycle 0. -/
theorem linksGoDown : Obligations.LinksGoDown := by
  unfold Obligations.LinksGoDown
  refine ⟨fun s p hrun hfans hdue => ?_, fun s p hrun hup hdown h8 => ?_, fun s p hfans hdue => ?_, fun s p h8 => ?_, fun s p hrun hup hdown hlos => ?_,
    fun s p hlos => ?_, fun s p tag arg hrun hst hdown => ?_, fun s p op hrun hup hdown hop => ?_, fun s p hrun hup hdown hfrozen hop => ?_,
    fun s p h => exec_ctrlTimeout_idle p h, fun s via p d hd hl hbit hup hdown => ?_, fun s p hrun hst hdown hsince => ?_, fun s p hsince => ?_,
    fun s p f hrun hup hdown hlos => ?_, fun s p f hrun hup hdown hreason hcyc hat hslot hfan hjobs hbw hrounds hwait => ?_,
    fun s p h => exec_linkDown_idle p h⟩
  · refine ⟨s.replayExpires p.val, (exec_shellReplayTimeout hfans hrun).trans (by rw [if_pos hdue]), ?_⟩
    obtain ⟨u, hu⟩ : ∃ u, u = s.setLink p.val ((s.link p.val).expires s.absCycle) := ⟨_, rfl⟩
    have hsame : (u.link p.val) = (s.link p.val).expires s.absCycle := by rw [hu, State.setLink_link_same]
    have hne : ∀ k, k ≠ p.val → u.link k = s.link k := fun k hk => by rw [hu, State.setLink_link_ne _ _ hk]
    have hrd : ∀ g, u.rd g = s.rd g := fun g => by rw [hu, State.setLink_rd]
    have hlink : ∀ k, (s.replayExpires p.val).link k = u.link k := fun k => by
      rw [s.replayExpires_eq p.isLt, State.bump_link, State.raise1_link, ← hu]
    rw [hlink, hsame]
    refine ⟨rfl, rfl, rfl, rfl, ?_, ?_, fun g hg => ?_, fun k hk => (hlink k).trans (hne k hk)⟩
    · rw [s.replayExpires_eq p.isLt, State.bump, State.addTo, State.wr_shows _ _ _ rfl (lnk_page _)]
      exact State.raise1_shows _ _ (show 1 < 32 by decide)
    · rw [s.replayExpires_eq p.isLt, ← hu]
      exact bump_rd_of_rd_eq ((State.raise1_rd _ _ _ (eventFields_key_ne_of_outside rfl (lnk_page _))).trans (hrd _))
    · rw [s.replayExpires_eq p.isLt, ← hu, State.rd_bump_ne _ (hg _ List.mem_cons_self),
        State.raise1_rd _ _ _ fun f hf => hg f (List.mem_cons_of_mem _ hf), hrd]
  · rw [← State.linkFault_first 1 _ hup hdown]
    exact congrArg (fun t : State => Host.Outcome.next t) (if_pos (by simp [hrun, h8]))
  · exact exec_shellReplayTimeout_idle hfans hdue
  · exact congrArg (fun t : State => Host.Outcome.next t) (if_neg (by simp [Nat.not_le.mpr h8]))
  · rw [exec_linkLos_fault p hrun hlos, State.linkFault_first 2 _ hup hdown]
  · exact congrArg (fun t : State => Host.Outcome.next t) (if_neg (by simp [Nat.not_le.mpr hlos]))
  · rw [exec_reset_active p tag arg hrun hst, State.linkFault_first 3 _ (State.linkUp_of_active hst) hdown]
  · rw [exec_reservedControlOp p hrun hop, State.malformed, State.linkFault_first 5 _ hup hdown]
  · rw [← State.linkFault_first 6 _ hup hdown]
    exact congrArg (fun t : State => Host.Outcome.next t) (if_pos (by simpa [hrun, hfrozen] using hop))
  · have hset : (s.writeFields (0x040 + p.val) 0x004 d.toNat).rd (Reg.LNK.CTRL_DISABLE p.val) = 1 := by
      rw [State.disable_written, hbit]
      rfl
    have hwritten := s.disableLink_written p d hup hdown
    have hregs : (s.wrLnkCtrl p.val d.toNat).regs = (s.writeFields (0x040 + p.val) 0x004 d.toNat).regs := by
      rw [State.wrLnkCtrl_disabled (by rw [State.flag, hset]; rfl), hwritten]
    refine ⟨_, exec_linkDisable p d hd hl, (State.rd_of_regs hregs _).trans hset, (State.rd_of_regs hregs _).trans ?_, ?_⟩
    · exact s.writeFields_rd_ne _ (show 0x004 ≠ 0x008 by decide) (fun _ => show 0x008 ≠ 0x01C by decide) (by decide)
        ⟨show 0x008 < 0x1000 by decide, show 0 < 32 by decide⟩
    · rw [hregs, State.wrLnkCtrl_disabled (by rw [State.flag, hset]; rfl), hwritten]
  · rw [← State.linkFault_first 14 _ (by simp [State.linkUp, hst]) hdown]
    exact congrArg (fun t : State => Host.Outcome.next t) (if_pos (by simp [hrun, hst, hsince]))
  · exact congrArg (fun t : State => Host.Outcome.next t) (if_neg (by simp [Nat.not_le.mpr hsince]))
  · rw [exec_linkLos_fault p hrun hlos, State.linkFault_again 2 _ hup hdown]
    exact ⟨fun hat hreason => by rw [if_pos ⟨hat, hreason⟩], fun h => by rw [if_neg (by omega)]⟩
  · obtain ⟨hstate, hreasonRd, hshows, hcnt, hpause, ⟨hreplay, hstream, hqueues, hrx, hops, hnone, hres⟩, hothers⟩ :=
      State.takeDownOne_spec p.isLt hreason hfan hjobs hbw hrounds hwait
    exact ⟨s.takeDownOne p.val f, State.takeDown_alone f hslot ▸ exec_linkDown hrun hup hdown hreason hcyc hat,
      hstate, hreasonRd, hshows, hcnt, hpause, hreplay, hstream, hqueues, hrx, hops, hnone, hres, hothers⟩

end Sys2Proof.Machine
end

section
/-! SUPPORT. The lane operations of the peer, and the answers to a port's own (spec section 09, R280, R296 to R300). -/

namespace Sys2Proof.Machine

/-! ## An operation of the peer answered (R280) -/

/-- A link that notes its answer to an operation. -/
def Link.notes (l : Link) (op tag : Nat) (r : Bool) : Link :=
  { l with answered := (l.answered ++ [(op, tag, r)]).drop ((l.answered ++ [(op, tag, r)]).length - 15) }

/-- A link that has acted on an operation, and answers it with a word. -/
def Link.answers (l : Link) (op tag : Nat) (r : Bool) (w : DWord) : Link := { l.notes op tag r with words := l.words ++ [w] }

/-- The answer is noted with the newest fifteen. -/
theorem Link.answers_answered (l : Link) (op tag : Nat) (r : Bool) (w : DWord) : (op, tag, r) ∈ (l.answers op tag r w).answered := by
  unfold Link.answers Link.notes
  dsimp only
  rw [List.drop_append_of_le_length (by simp)]
  simp

/-- An operation acted on, noted and answered. -/
def State.answersOp (t : State) (p op tag : Nat) (r : Bool) : State :=
  (t.setLink p ((t.link p).notes op tag r)).respond p op tag r

theorem find?_answered_none {l : List (Nat × Nat × Bool)} {op tag : Nat} (h : (l.all fun a => !(a.1 == op && a.2.1 == tag)) = true) :
    (l.find? fun a => a.1 == op && a.2.1 == tag) = .none :=
  List.find?_eq_none.mpr fun a ha => by simpa [imp_iff_not_or] using List.all_eq_true.mp h a ha

/-- An operation not yet answered is acted on once (R280). -/
theorem State.onOp_fresh {s : State} {p op tag : Nat} (act : State → Bool × State) (h : s.freshOp p op tag = true) :
    s.onOp p op tag act = (act s).2.answersOp p op tag (act s).1 := by
  unfold State.onOp
  rw [find?_answered_none h]
  rfl

theorem State.onOp_answered {s : State} {p op tag : Nat} {r : Bool} (act : State → Bool × State) (h : (s.link p).answered = [(op, tag, r)]) :
    s.onOp p op tag act = s.respond p op tag r := by
  have hfind : ((s.link p).answered.find? fun a => a.1 == op && a.2.1 == tag) = some (op, tag, r) := by
    rw [h, List.find?_cons_of_pos (by simp)]
  unfold State.onOp
  rw [hfind]

theorem State.respond_eq (s : State) (p op tag : Nat) (r : Bool) : s.respond p op tag r =
    s.setLink p { s.link p with words := (s.link p).words ++ [s.answerWord p op tag r] } := rfl

theorem State.answersOp_link_same (t : State) (p op tag : Nat) (r : Bool) :
    (t.answersOp p op tag r).link p = (t.link p).answers op tag r (t.answerWord p op tag r) := by
  have hnext : ∀ l : Link, l.rxNext = (t.link p).rxNext → (t.setLink p l).answerWord p op tag r = t.answerWord p op tag r := fun l hl => by
    have hport : (t.setLink p l).rxStream p = t.rxStream p := rfl
    have hrx : ((t.setLink p l).link (t.rxStream p)).rxNext = (t.link (t.rxStream p)).rxNext := by
      by_cases hk : t.rxStream p = p
      · rw [hk, State.setLink_link_same, hl]
      · rw [State.setLink_link_ne _ _ hk]
    unfold State.answerWord
    rw [hport, hrx]
  unfold State.answersOp
  rw [State.respond_eq, State.setLink_link_same, State.setLink_link_same, hnext ((t.link p).notes op tag r) rfl]
  rfl

theorem State.answersOp_link_ne (t : State) {p k : Nat} (op tag : Nat) (r : Bool) (h : k ≠ p) : (t.answersOp p op tag r).link k = t.link k := by
  unfold State.answersOp
  rw [State.respond_eq, State.setLink_link_ne _ _ h, State.setLink_link_ne _ _ h]

theorem State.answersOp_frame (t : State) (p op tag : Nat) (r : Bool) : t.answersOp p op tag r = { t with links := (t.answersOp p op tag r).links } :=
  rfl

theorem State.answersOp_laneSt (t : State) (p op tag : Nat) (r : Bool) (k : Nat) : (t.answersOp p op tag r).laneSt k = t.laneSt k := rfl

theorem State.answersOp_fresh (t : State) (p op tag : Nat) (r : Bool) : (t.answersOp p op tag r).freshOp p op tag = false := by
  unfold State.freshOp
  rw [State.answersOp_link_same]
  exact List.all_eq_false.mpr ⟨_, Link.answers_answered .., by simp⟩

/-- The word with which an operation is answered depends on the register that names the port's stream, and the stream's next SEQ. -/
theorem State.answerWord_congr {s t : State} {p : Nat} (op tag : Nat) (r : Bool) (hregs : t.regs = s.regs)
    (hnext : ∀ k, (t.link k).rxNext = (s.link k).rxNext) : t.answerWord p op tag r = s.answerWord p op tag r := by
  have hport : t.rxStream p = s.rxStream p := by
    unfold State.rxStream State.returnsFan
    rw [State.rd_of_regs hregs]
  unfold State.answerWord
  rw [hport, hnext]

/-! ## Lane operations of the peer (R296 to R299) -/

theorem State.onLane_acts {s : State} {p : Nat} {arg : BitVec 48} (f : State → Nat → Nat → State) (hrun : s.running = true) (hup : s.linkUp p = true)
    (hlane : bits arg.toNat 4 0 < 16) : s.onLane p arg f = f s (bits arg.toNat 4 0) (bits arg.toNat 12 8) := by
  unfold State.onLane
  rw [if_neg (by simp [hrun, hup]), if_neg (by omega)]

theorem State.onLane_malformed {s : State} {p : Nat} {arg : BitVec 48} (f : State → Nat → Nat → State) (hrun : s.running = true)
    (hup : s.linkUp p = true) (hlane : 16 ≤ bits arg.toNat 4 0) : s.onLane p arg f = s.malformed p := by
  unfold State.onLane
  rw [if_neg (by simp [hrun, hup]), if_pos hlane]

theorem State.onLane_down {s : State} {p : Nat} (arg : BitVec 48) (f : State → Nat → Nat → State) (hup : s.linkUp p = false) :
    s.onLane p arg f = s := if_pos (by simp [hup])

theorem State.peerMoved_of_nil {s : State} {p : Nat} (lane : Nat) (dropped : Bool) (h : (s.laneSt p).rxWait = []) : s.peerMoved p lane dropped = s := by
  unfold State.peerMoved
  simp [h]

theorem State.assign_rx_same (s : State) (p lane seat : Nat) :
    (s.assign p .rx lane seat).laneSt p = { s.laneSt p with rxMap := setAt (s.laneSt p).rxMap lane seat } := State.laneSt_setLaneSt_same _ _ _

theorem State.assign_laneSt_ne (s : State) {p k : Nat} (side : Side) (lane seat : Nat) (h : k ≠ p) :
    (s.assign p side lane seat).laneSt k = s.laneSt k := by
  unfold State.assign
  cases side
  · exact State.laneSt_setLaneSt_ne _ _ _ _ h.symm
  · exact State.laneSt_setLaneSt_ne _ _ _ _ h.symm

theorem State.assign_frame (s : State) (p : Nat) (side : Side) (lane seat : Nat) :
    s.assign p side lane seat = { s with lanes := (s.assign p side lane seat).lanes } := by cases side <;> rfl

theorem State.linkFault_link_ne (s : State) {p k : Nat} (reason lane seq : Nat) (h : k ≠ p) : (s.linkFault p reason lane seq).link k = s.link k := by
  unfold State.linkFault
  split
  · rfl
  · dsimp only
    split
    · exact State.setLink_link_ne _ _ h
    · split
      · exact State.setLink_link_ne _ _ h
      · rfl

/-- A fault is noted, or nothing happens. -/
theorem State.checkNarrow_spec (s : State) (p : Nat) : s.checkNarrow p = { s with links := (s.checkNarrow p).links } ∧
    (∃ d, (s.checkNarrow p).link p = { s.link p with down := d }) ∧ ∀ k, k ≠ p → (s.checkNarrow p).link k = s.link k := by
  unfold State.checkNarrow
  dsimp only
  split
  · exact ⟨State.linkFault_frame .., State.linkFault_link_same .., fun k hk => State.linkFault_link_ne _ _ _ _ hk⟩
  · exact ⟨rfl, ⟨_, rfl⟩, fun _ _ => rfl⟩

/-- A lane drop of the peer: the lane has no seat (R296). -/
theorem exec_laneDrop_fresh {s : State} {p : Fin 16} {tag : BitVec 4} {arg : BitVec 48} (hrun : s.running = true) (hup : s.linkUp p.val = true)
    (hlane : bits arg.toNat 4 0 < 16) (hwait : (s.laneSt p.val).rxWait = []) (hfresh : s.freshOp p.val 0x10 tag.toNat = true) :
    exec (.laneDrop p tag arg) s =
      .next (((s.assign p.val .rx (bits arg.toNat 4 0) noSeat).checkNarrow p.val).answersOp p.val 0x10 tag.toNat false) := by
  refine congrArg Host.Outcome.next ((State.onLane_acts _ hrun hup hlane).trans ((State.onOp_fresh _ hfresh).trans ?_))
  rw [State.peerMoved_of_nil _ _ hwait]

/-- A lane added on a free line is on it (R297). -/
theorem exec_laneAdd_free {s : State} {p : Fin 16} {tag : BitVec 4} {arg : BitVec 48} (hrun : s.running = true) (hup : s.linkUp p.val = true)
    (hlane : bits arg.toNat 4 0 < 16) (hwait : (s.laneSt p.val).rxWait = []) (hfresh : s.freshOp p.val 0x11 tag.toNat = true)
    (hfree : s.rxFree p.val (bits arg.toNat 12 8) = true) : exec (.laneAdd p tag arg) s =
      .next ((s.assign p.val .rx (bits arg.toNat 4 0) (bits arg.toNat 12 8)).answersOp p.val 0x11 tag.toNat false) := by
  have hwait' : ((s.assign p.val .rx (bits arg.toNat 4 0) (bits arg.toNat 12 8)).laneSt p.val).rxWait = [] := by
    rw [State.assign_rx_same]
    exact hwait
  refine congrArg Host.Outcome.next ((State.onLane_acts _ hrun hup hlane).trans ((State.onOp_fresh _ hfresh).trans ?_))
  rw [if_pos hfree, State.peerMoved_of_nil _ _ hwait']

/-- A lane swapped to a free line is on it (R298). -/
theorem exec_laneSwap_free {s : State} {p : Fin 16} {tag : BitVec 4} {arg : BitVec 48} (hrun : s.running = true) (hup : s.linkUp p.val = true)
    (hlane : bits arg.toNat 4 0 < 16) (hwait : (s.laneSt p.val).rxWait = []) (hfresh : s.freshOp p.val 0x12 tag.toNat = true)
    (hfree : s.rxFree p.val (bits arg.toNat 12 8) = true) : exec (.laneSwap p tag arg) s =
      .next ((s.assign p.val .rx (bits arg.toNat 4 0) (bits arg.toNat 12 8)).answersOp p.val 0x12 tag.toNat false) := by
  refine congrArg Host.Outcome.next ((State.onLane_acts _ hrun hup hlane).trans ((State.onOp_fresh _ hfresh).trans ?_))
  rw [if_pos hfree, State.peerMoved_of_nil _ _ hwait]

theorem exec_laneAdd_taken {s : State} {p : Fin 16} {tag : BitVec 4} {arg : BitVec 48} (hrun : s.running = true) (hup : s.linkUp p.val = true)
    (hlane : bits arg.toNat 4 0 < 16) (hfresh : s.freshOp p.val 0x11 tag.toNat = true) (hfree : s.rxFree p.val (bits arg.toNat 12 8) = false) :
    exec (.laneAdd p tag arg) s = .next (s.answersOp p.val 0x11 tag.toNat true) := by
  refine congrArg Host.Outcome.next ((State.onLane_acts _ hrun hup hlane).trans ((State.onOp_fresh _ hfresh).trans ?_))
  rw [if_neg (by simp [hfree])]

theorem exec_laneSwap_taken {s : State} {p : Fin 16} {tag : BitVec 4} {arg : BitVec 48} (hrun : s.running = true) (hup : s.linkUp p.val = true)
    (hlane : bits arg.toNat 4 0 < 16) (hfresh : s.freshOp p.val 0x12 tag.toNat = true) (hfree : s.rxFree p.val (bits arg.toNat 12 8) = false) :
    exec (.laneSwap p tag arg) s = .next (s.answersOp p.val 0x12 tag.toNat true) := by
  refine congrArg Host.Outcome.next ((State.onLane_acts _ hrun hup hlane).trans ((State.onOp_fresh _ hfresh).trans ?_))
  rw [if_neg (by simp [hfree])]

/-- Each lane operation of the peer acts on a lane of a running link alone. -/
theorem exec_laneOp {p : Fin 16} {tag : BitVec 4} {arg : BitVec 48} {c : Instr}
    (hc : c ∈ [Instr.laneDrop p tag arg, .laneAdd p tag arg, .laneSwap p tag arg, .dropReq p tag arg, .swapReq p tag arg]) :
    ∃ f : State → Nat → Nat → State, ∀ s : State, exec c s = .next (s.onLane p.val arg f) := by
  simp only [List.mem_cons, List.not_mem_nil, or_false] at hc
  rcases hc with rfl | rfl | rfl | rfl | rfl <;> exact ⟨_, fun _ => rfl⟩

/-- A request of the peer waits for the next Finish (R299). -/
theorem State.peerAsks_first {s : State} {p lane : Nat} {act : LaneAct} (hlit : s.litSlot p = .none) (hdue : (s.laneSt p).due = []) :
    s.peerAsks p lane act = s.setLaneSt p { s.laneSt p with due := [⟨lane, act, noCause .peer⟩] } := by
  have hport : s.lanePort p = p := by
    unfold State.lanePort
    rw [hlit]
  unfold State.peerAsks State.laneDue
  simp only [hport, hdue]
  rfl

theorem exec_dropReq_fresh {s : State} {p : Fin 16} {tag : BitVec 4} {arg : BitVec 48} (hrun : s.running = true) (hup : s.linkUp p.val = true)
    (hlane : bits arg.toNat 4 0 < 16) (hlit : s.litSlot p.val = .none) (hdue : (s.laneSt p.val).due = [])
    (hfresh : s.freshOp p.val 0x13 tag.toNat = true) : exec (.dropReq p tag arg) s = .next ((s.setLaneSt p.val
      { s.laneSt p.val with due := [⟨bits arg.toNat 4 0, .drop, noCause .peer⟩] }).answersOp p.val 0x13 tag.toNat false) := by
  refine congrArg Host.Outcome.next ((State.onLane_acts _ hrun hup hlane).trans ((State.onOp_fresh _ hfresh).trans ?_))
  rw [State.peerAsks_first hlit hdue]

theorem exec_swapReq_fresh {s : State} {p : Fin 16} {tag : BitVec 4} {arg : BitVec 48} (hrun : s.running = true) (hup : s.linkUp p.val = true)
    (hlane : bits arg.toNat 4 0 < 16) (hlit : s.litSlot p.val = .none) (hdue : (s.laneSt p.val).due = [])
    (hfresh : s.freshOp p.val 0x15 tag.toNat = true) : exec (.swapReq p tag arg) s = .next ((s.setLaneSt p.val
      { s.laneSt p.val with due := [⟨bits arg.toNat 4 0, .move, noCause .peer⟩] }).answersOp p.val 0x15 tag.toNat false) := by
  refine congrArg Host.Outcome.next ((State.onLane_acts _ hrun hup hlane).trans ((State.onOp_fresh _ hfresh).trans ?_))
  rw [State.peerAsks_first hlit hdue]

/-! ## Answers to a port's own operations (R297, R298, R300) -/

theorem exec_response {s : State} {p : Fin 16} (tag : BitVec 4) (arg : BitVec 48) (h : s.takesWords p.val = true) : exec (.response p tag arg) s =
    .next (s.onResponse p.val (bits arg.toNat 7 0) (bits arg.toNat 11 8) (bits arg.toNat 39 16) (bitAt arg.toNat 40)).settle :=
  congrArg (fun t : State => Host.Outcome.next t) (if_pos h)

/-- A port whose one operation is answered and gone. -/
def State.opEnded (s : State) (p : Nat) : State := s.setLink p { s.link p with ops := [] }

theorem State.opEnded_ops (s : State) (p : Nat) : ((s.opEnded p).link p).ops = [] := by rw [State.opEnded, State.setLink_link_same]

/-- An answer ends the one operation that a port has under way. -/
theorem State.onResponse_own {s : State} {p op tag : Nat} {o : CtrlOp} (e : Nat) (refused : Bool) (hlit : s.litSlot p = .none)
    (hops : (s.link p).ops = [o]) (hsent : o.sent = true) (hop : o.op = op) (htag : o.tag = tag) (hexit : o.op ≠ 0x31) :
    s.onResponse p op tag e refused = (s.opEnded p).opAnswered p p o (BitVec.ofNat 24 e) refused := by
  have hfind : ((s.link p).ops.find? fun x => x.op == op && x.tag == tag && x.sent) = some o := by
    rw [hops, List.find?_cons_of_pos (by simp [hop, htag, hsent])]
  have hdrop : s.dropOp p o = s.opEnded p := by
    unfold State.dropOp
    simp only [hops]
    rw [List.filter_cons_of_neg (by simp)]
    rfl
  unfold State.onResponse
  simp only [hlit, hfind]
  rw [if_neg hexit, hdrop]

theorem State.onResponse_none {s : State} {p : Nat} (op tag e : Nat) (refused : Bool) (hlit : s.litSlot p = .none) (hops : (s.link p).ops = []) :
    s.onResponse p op tag e refused = s := by
  unfold State.onResponse
  simp only [hlit, hops]
  rfl


theorem State.opAnswered_add {s : State} {o : CtrlOp} (p n : Nat) (e : BitVec 24) (refused : Bool) (h : o.op = 0x11) :
    s.opAnswered p n o e refused = s.addAnswered p n (bits o.arg.toNat 4 0) (bits o.arg.toNat 12 8) o.cause e refused := by
  unfold State.opAnswered
  simp only [h]

theorem State.opAnswered_swap {s : State} {o : CtrlOp} (p n : Nat) (e : BitVec 24) (refused : Bool) (h : o.op = 0x12) :
    s.opAnswered p n o e refused = s.swapAnswered p (bits o.arg.toNat 4 0) (bits o.arg.toNat 12 8) o.cause refused := by
  unfold State.opAnswered
  simp only [h]

/-! ### A lane swap answered -/

/-- The one swap of a port, answered. -/
def State.swapEnded (s : State) (p lane line : Nat) (refused : Bool) : State :=
  s.setLaneSt p { s.laneSt p with swaps := [⟨lane, line, some (!refused)⟩] }

theorem State.swapAnswered_home {s : State} {p lane line : Nat} {c : LaneCause} (hc : c.why = .restore)
    (hswaps : (s.laneSt p).swaps = [⟨lane, line, .none⟩]) : s.swapAnswered p lane line c false = s.swapEnded p lane line false := by
  unfold State.swapAnswered State.swapEnded
  simp [hswaps, hc]

theorem State.swapAnswered_refused {s : State} {p lane line : Nat} {c : LaneCause} (hc : c.why = .peer)
    (hswaps : (s.laneSt p).swaps = [⟨lane, line, .none⟩]) :
    s.swapAnswered p lane line c true = ((s.swapEnded p lane line true).lineRefused p line).dropLane p lane c true := by
  unfold State.swapAnswered State.swapEnded
  simp [hswaps, hc]

/-- A swap accepted takes its lane to its line when it ends. -/
theorem State.swapsEnd_accepted {s : State} {p lane line : Nat} (hswaps : (s.laneSt p).swaps = [⟨lane, line, some true⟩]) :
    ((s.swapsEnd p).laneSt p).txMap = setAt (s.laneSt p).txMap lane line ∧ ((s.swapsEnd p).laneSt p).swaps = [] := by
  have h : s.swapsEnd p = (s.setLaneSt p { s.laneSt p with swaps := [] }).assign p .tx lane line := by
    unfold State.swapsEnd
    simp only [hswaps]
    rfl
  rw [h, State.assign, State.laneSt_setLaneSt_same, State.laneSt_setLaneSt_same]
  exact ⟨rfl, rfl⟩

theorem State.lineRefused_laneSt (s : State) (p line : Nat) : ∃ x, (s.lineRefused p line).laneSt p = { s.laneSt p with peerSpare := x } :=
  ⟨_, State.laneSt_setLaneSt_same _ _ _⟩

/-- A dropped lane has no seat and no swap, and the peer is told (R296). -/
theorem State.dropLane_spec {s : State} {p lane : Nat} {c : LaneCause} (judged : Bool) (hc : c.why ≠ .visit) (hlane : lane < 32) :
    ((s.dropLane p lane c judged).laneSt p).swaps = (s.laneSt p).swaps.filter (·.lane != lane) ∧
      ((s.dropLane p lane c judged).laneSt p).txMap = setAt (s.laneSt p).txMap lane noSeat ∧
      ∃ x, ((s.dropLane p lane c judged).link p).ops = (s.link p).ops ++ [x] ∧ x.op = 0x10 ∧ x.sent = false ∧ bits x.arg.toNat 4 0 = lane := by
  obtain ⟨t, ht⟩ : ∃ t, t = ((s.keepLines p).assign p .tx lane noSeat).bump (Reg.RWL.MOVE_CNT_DROPS p) := ⟨_, rfl⟩
  have htLane : t.laneSt p = { s.laneSt p with txMap := setAt (s.laneSt p).txMap lane noSeat } := by
    rw [ht, State.bump_laneSt, State.assign, State.laneSt_setLaneSt_same]
    rfl
  have htOps : (t.link p).ops = (s.link p).ops := by
    rw [ht, State.bump_link, State.assign, State.setLaneSt_link, State.keepLines, State.setLink_link_same]
  obtain ⟨u, hu⟩ : ∃ u, u = (t.setLaneSt p { t.laneSt p with swaps := (t.laneSt p).swaps.filter (·.lane != lane) }).addMissing p
      ⟨lane, t.now, false, .none, false, judged, false, c⟩ := ⟨_, rfl⟩
  have huLane : (u.laneSt p).swaps = (s.laneSt p).swaps.filter (·.lane != lane) ∧ (u.laneSt p).txMap = setAt (s.laneSt p).txMap lane noSeat := by
    rw [hu, State.addMissing, State.laneSt_setLaneSt_same, State.laneSt_setLaneSt_same, htLane]
    exact ⟨rfl, rfl⟩
  have huOps : (u.link p).ops = (s.link p).ops := by
    rw [hu, State.addMissing, State.setLaneSt_link, State.setLaneSt_link, htOps]
  have hdrop : s.dropLane p lane c judged = (u.queueOp p 0x10 lane c).checkNarrow p := by
    unfold State.dropLane
    dsimp only
    rw [if_neg (fun h => hc h.1), ← ht]
    exact congrArg (fun v : State => (v.queueOp p 0x10 lane c).checkNarrow p) hu.symm
  obtain ⟨hframe, ⟨d, hlink⟩, -⟩ := (u.queueOp p 0x10 lane c).checkNarrow_spec p
  have hlaneSt : (s.dropLane p lane c judged).laneSt p = u.laneSt p := by
    rw [hdrop, hframe]
    rfl
  rw [hlaneSt]
  refine ⟨huLane.1, huLane.2, ⟨0x10, (u.link p).freeTag, BitVec.ofNat 48 lane, u.absCycle, 0, false, c⟩, ?_, rfl, rfl, ?_⟩
  · rw [hdrop, hlink, State.queueOp, State.setLink_link_same]
    exact congrArg (· ++ _) huOps
  · simp only [BitVec.toNat_ofNat, bits]
    omega

/-! ### A lane add refused -/

/-- What a stream's filling leaves of a port: its lanes, and the operations of its link. -/
def State.lanesAndOps (s : State) (n : Nat) : Tab Lanes × List CtrlOp := (s.lanes, (s.link n).ops)

theorem State.setLink_lanesAndOps (s : State) {n : Nat} {l : Link} (h : l.ops = (s.link n).ops) : (s.setLink n l).lanesAndOps n = s.lanesAndOps n := by
  unfold State.lanesAndOps
  rw [State.setLink_link_same, h]
  rfl

theorem State.pickClass_lanesAndOps (s : State) (n : Nat) : (s.pickClass n).2.lanesAndOps n = s.lanesAndOps n := by
  have hops : ((s.pickClass n).2.link n).ops = (s.link n).ops := (congrArg Link.ops (s.pickClass_link n) :)
  unfold State.lanesAndOps
  rw [State.pickClass_lanes, hops]

theorem State.startMsg_lanesAndOps (s : State) (n c : Nat) : (s.startMsg n c).lanesAndOps n = s.lanesAndOps n := by
  unfold State.startMsg
  dsimp only
  split
  · rfl
  · exact State.setLink_lanesAndOps _ rfl

theorem State.fillStream_lanesAndOps (s : State) (n body fuel : Nat) : (s.fillStream n body fuel).lanesAndOps n = s.lanesAndOps n := by
  induction fuel generalizing s with
  | zero => rfl
  | succ fuel ih =>
    have hpick := s.pickClass_lanesAndOps n
    unfold State.fillStream
    split
    · rfl
    · split
      · rename_i h
        rwa [h] at hpick
      · rename_i h
        rw [ih, State.startMsg_lanesAndOps]
        rwa [h] at hpick

theorem State.padStream_lanesAndOps (s : State) (n body : Nat) : (s.padStream n body).lanesAndOps n = s.lanesAndOps n :=
  foldl_untouched _ (fun t : State => t.lanesAndOps n) (fun t m _ => by
    exact State.setLink_lanesAndOps t rfl) s

theorem State.startPaging_lanes (s : State) (b : Bool) : (s.startPaging b).lanes = s.lanes := by
  unfold State.startPaging
  split
  · rfl
  · dsimp only
    split
    · rfl
    · exact State.raise1_lanes _ _

theorem State.allocate_lanes (s : State) (k : Pool) (n : Nat) : (s.allocate k n).2.lanes = s.lanes := by
  unfold State.allocate State.takePages
  split
  · rename_i t ht
    split at ht
    · cases ht
      unfold State.pageIfDue
      split
      · exact State.startPaging_lanes _ _
      · split
        · exact State.startPaging_lanes _ _
        · rfl
    · cases ht
  · dsimp only
    split
    · exact s.startPaging_lanes _
    · rfl

theorem State.movePages_lanesAndOps (s : State) (k : Pool) (old new n : Nat) : (s.movePages k old new).lanesAndOps n = s.lanesAndOps n := by
  unfold State.movePages
  split
  · rfl
  · unfold State.lanesAndOps
    rw [State.allocate_lanes, State.allocate_link]

theorem State.bump_lanesAndOps (s : State) (f : Field) (n : Nat) : (s.bump f).lanesAndOps n = s.lanesAndOps n := rfl

theorem State.recutAt_lanesAndOps (v : State) (n k count w : Nat) (e : BitVec 24) (pad : Bool) (now old new : Nat) (f : Field) :
    (((v.setLink n { (v.link n).recut k count w e with padded := pad, timer := now }).movePages .rpl old new).bump f).lanesAndOps n =
      v.lanesAndOps n := by
  rw [State.bump_lanesAndOps, State.movePages_lanesAndOps]
  exact State.setLink_lanesAndOps v rfl

theorem State.reform_lanesAndOps (s : State) (n : Nat) (e : BitVec 24) : (s.reform n e).lanesAndOps n = s.lanesAndOps n := by
  unfold State.reform
  dsimp only
  split
  · rfl
  · refine (State.recutAt_lanesAndOps _ _ _ _ _ _ _ _ _ _ _).trans ?_
    split
    · rw [State.padStream_lanesAndOps, State.fillStream_lanesAndOps]
      exact State.setLink_lanesAndOps _ rfl
    · exact State.setLink_lanesAndOps _ rfl

/-- LANE_ADD refused: the lane is tried again on its line at the next Finish (R300). -/
theorem State.addAnswered_refused (s : State) (p lane line : Nat) (c : LaneCause) (e : BitVec 24) :
    ((s.addAnswered p p lane line c e true).link p).ops = (s.link p).ops ∧
      ((s.addAnswered p p lane line c e true).laneSt p).txMap = (s.laneSt p).txMap ∧
      ((s.addAnswered p p lane line c e true).laneSt p).missing = (s.laneSt p).missing.map fun (m : Missing) =>
        if m.lane = lane then { m with adding := false, chosen := some line, retry := true } else m := by
  obtain ⟨u, hu⟩ : ∃ u, u = (s.setLaneSt p { s.laneSt p with missing := (s.laneSt p).missing.map fun (m : Missing) =>
      if m.lane = lane then { m with adding := false, chosen := some line, retry := true } else m }).lineRefused p line := ⟨_, rfl⟩
  have hadd : s.addAnswered p p lane line c e true = u.reform p e := by
    unfold State.addAnswered
    rw [if_pos rfl, hu]
  have hkeep := u.reform_lanesAndOps p e
  obtain ⟨hlanes, hops⟩ := Prod.mk.inj hkeep
  have hlaneSt : (u.reform p e).laneSt p = u.laneSt p := by
    unfold State.laneSt
    rw [hlanes]
  rw [hadd, hops, hlaneSt, hu]
  unfold State.lineRefused
  dsimp only
  rw [State.laneSt_setLaneSt_same, State.laneSt_setLaneSt_same, State.setLaneSt_link, State.setLaneSt_link]
  exact ⟨rfl, rfl, rfl⟩


/-- Settles O51: each operation acts once and is answered, and each answer ends its operation. -/
theorem lanesMoveInBand : Obligations.LanesMoveInBand := by
  unfold Obligations.LanesMoveInBand
  refine ⟨fun s p tag arg hrun hup hlane hwait hfresh => ?_, fun s p tag arg r hrun hup hlane hans => ?_,
    fun s p tag arg hrun hup hlane hwait hadd hswap hfree => ?_, fun s p tag arg hrun hup hlane hadd hswap hfree => ?_,
    fun s p tag arg hrun hup hlane hdown c hc => ?_, fun s p tag arg hrun hup hlane hlit hdue hdrop hswap => ?_, fun s p tag arg hup c hc => ?_,
    fun s p tag arg hwords => ?_, fun s p tag arg o hwords hlit hops hsent ho hop htag hacc hcause hswaps => ?_,
    fun s p tag arg o hwords hlit hops hsent ho hop htag href hcause hswaps => ?_, fun s p tag arg o hwords hlit hops hsent ho hop htag href => ?_,
    fun s p tag arg hwords hlit hops => ?_⟩
  · obtain ⟨hframe, ⟨d, hlink⟩, hne⟩ := (s.assign p.val .rx (bits arg.toNat 4 0) noSeat).checkNarrow_spec p.val
    have hlanes : ∀ k, ((s.assign p.val .rx (bits arg.toNat 4 0) noSeat).checkNarrow p.val).laneSt k =
        (s.assign p.val .rx (bits arg.toNat 4 0) noSeat).laneSt k := fun k => by rw [hframe]; rfl
    have hword : ((s.assign p.val .rx (bits arg.toNat 4 0) noSeat).checkNarrow p.val).answerWord p.val 0x10 tag.toNat false =
        s.answerWord p.val 0x10 tag.toNat false := by
      refine State.answerWord_congr _ _ _ (by rw [hframe]; rfl) fun k => ?_
      by_cases hk : k = p.val
      · rw [hk, hlink]
        rfl
      · rw [hne k hk]
        rfl
    refine ⟨_, exec_laneDrop_fresh hrun hup hlane hwait hfresh, ?_, ?_, ?_, State.answersOp_fresh .., fun k hk => ⟨?_, ?_⟩, ?_⟩
    · rw [State.answersOp_laneSt, hlanes, State.assign_rx_same]
    · rw [State.answersOp_laneSt, hlanes, State.assign_rx_same]
    · rw [State.answersOp_link_same, hword, hlink]
      rfl
    · rw [State.answersOp_link_ne _ _ _ _ hk, hne k hk]
      rfl
    · rw [State.answersOp_laneSt, hlanes, State.assign_laneSt_ne _ _ _ _ hk]
    · rw [State.answersOp_frame, hframe]
      rfl
  · refine ⟨_, congrArg Host.Outcome.next ((State.onLane_acts _ hrun hup hlane).trans (State.onOp_answered _ hans)), rfl⟩
  · refine ⟨_, _, exec_laneAdd_free hrun hup hlane hwait hadd hfree, exec_laneSwap_free hrun hup hlane hwait hswap hfree, ?_, rfl, ?_, ?_, rfl, rfl⟩
    · rw [State.answersOp_laneSt, State.assign_rx_same]
    · rw [State.answersOp_link_same]
      rfl
    · rw [State.answersOp_link_same]
      rfl
  · refine ⟨_, _, exec_laneAdd_taken hrun hup hlane hadd hfree, exec_laneSwap_taken hrun hup hlane hswap hfree, ?_, ?_, rfl, rfl⟩
    · rw [State.answersOp_link_same]
      rfl
    · rw [State.answersOp_link_same]
      rfl
  · obtain ⟨f, hf⟩ := exec_laneOp hc
    rw [hf, State.onLane_malformed f hrun hup hlane, State.malformed, State.linkFault_first 5 _ hup hdown]
  · refine ⟨_, _, exec_dropReq_fresh hrun hup hlane hlit hdue hdrop, exec_swapReq_fresh hrun hup hlane hlit hdue hswap, ?_, ?_, ?_, ?_, rfl, rfl⟩
    · rw [State.answersOp_laneSt, State.laneSt_setLaneSt_same]
    · rw [State.answersOp_laneSt, State.laneSt_setLaneSt_same]
    · rw [State.answersOp_link_same]
      rfl
    · rw [State.answersOp_link_same]
      rfl
  · obtain ⟨f, hf⟩ := exec_laneOp hc
    rw [hf, State.onLane_down arg f hup]
  · exact ⟨s.setLaneSt p.val { s.laneSt p.val with peerSpare := BitVec.ofNat 18 arg.toNat },
      congrArg (fun t : State => Host.Outcome.next t) (if_pos hwords), State.laneSt_setLaneSt_same _ _ _,
      fun k hk => State.laneSt_setLaneSt_ne _ _ _ _ hk.symm, rfl⟩
  · have hcmd := exec_response tag arg hwords
    rw [State.onResponse_own _ _ hlit hops hsent (ho.trans hop.symm) htag.symm (by rw [ho]; decide), State.opAnswered_swap _ _ _ _ ho, hacc,
      State.swapAnswered_home (s := s.opEnded p.val) hcause hswaps] at hcmd
    obtain ⟨u, hu⟩ : ∃ u, u = (s.opEnded p.val).swapEnded p.val (bits o.arg.toNat 4 0) (bits o.arg.toNat 12 8) false :=
      ⟨_, rfl⟩
    have hlane : u.laneSt p.val = { s.laneSt p.val with swaps := [⟨bits o.arg.toNat 4 0, bits o.arg.toNat 12 8, some true⟩] } := by
      rw [hu]
      exact State.laneSt_setLaneSt_same _ _ _
    obtain ⟨hmap, hnone⟩ := State.swapsEnd_accepted (s := u) (p := p.val) (congrArg Lanes.swaps hlane)
    refine ⟨u, hu ▸ hcmd, ?_, ?_, ?_, hnone, ?_⟩
    · rw [hu, State.swapEnded, State.setLaneSt_link, State.opEnded_ops]
    · rw [hlane]
    · rw [hmap, hlane]
    · rw [hu]
      rfl
  · have hcmd := exec_response tag arg hwords
    rw [State.onResponse_own _ _ hlit hops hsent (ho.trans hop.symm) htag.symm (by rw [ho]; decide), State.opAnswered_swap _ _ _ _ ho, href,
      State.swapAnswered_refused (s := s.opEnded p.val) hcause hswaps] at hcmd
    obtain ⟨u, hu⟩ : ∃ u, u = ((s.opEnded p.val).swapEnded p.val (bits o.arg.toNat 4 0) (bits o.arg.toNat 12 8)
      true).lineRefused p.val (bits o.arg.toNat 12 8) := ⟨_, rfl⟩
    rw [← hu] at hcmd
    obtain ⟨x, hline⟩ := State.lineRefused_laneSt ((s.opEnded p.val).swapEnded p.val (bits o.arg.toNat 4 0)
      (bits o.arg.toNat 12 8) true) p.val (bits o.arg.toNat 12 8)
    rw [← hu, State.swapEnded, State.laneSt_setLaneSt_same] at hline
    have hnone : (u.link p.val).ops = [] := by
      rw [hu, State.lineRefused, State.setLaneSt_link, State.swapEnded, State.setLaneSt_link, State.opEnded_ops]
    have hlane : bits o.arg.toNat 4 0 < 32 := by
      unfold bits
      omega
    obtain ⟨hgone, hmap, y, hy, hsame⟩ := State.dropLane_spec (s := u) (p := p.val) (c := o.cause) true (by rw [hcause]; decide) hlane
    refine ⟨_, hcmd, ?_, ?_, y, ?_, hsame⟩
    · rw [hgone, hline]
      exact List.filter_cons_of_neg (by simp)
    · rw [hmap, hline]
      rfl
    · rw [hy, hnone]
      rfl
  · have hcmd := exec_response tag arg hwords
    rw [State.onResponse_own _ _ hlit hops hsent (ho.trans hop.symm) htag.symm (by rw [ho]; decide), State.opAnswered_add _ _ _ _ ho, href] at hcmd
    obtain ⟨hgone, hmap, hmissing⟩ := State.addAnswered_refused (s.opEnded p.val) p.val (bits o.arg.toNat 4 0)
      (bits o.arg.toNat 12 8) o.cause (BitVec.ofNat 24 (bits arg.toNat 39 16))
    exact ⟨_, hcmd, hgone.trans (s.opEnded_ops p.val), hmap, hmissing⟩
  · rw [exec_response tag arg hwords, State.onResponse_none _ _ _ _ hlit hops]

end Sys2Proof.Machine
end

section
/-! SUPPORT. How links pause, drain and train (spec section 09, R301 to R306, R390). -/

namespace Sys2Proof.Machine

/-! ## A table written twice -/

theorem Tab.erase_insert {α : Type} (t : Tab α) (k : Nat) (v : α) : Tab.erase (Tab.insert t k v) k = Tab.erase t k := by
  induction t with
  | nil => simp [Tab.insert, Tab.erase]
  | cons e t ih =>
    obtain ⟨j, w⟩ := e
    unfold Tab.insert
    split
    · simp [Tab.erase]
    · unfold Tab.erase at ih ⊢
      rw [List.filter_cons, List.filter_cons, ih]

theorem Tab.erase_erase {α : Type} (t : Tab α) (k : Nat) : Tab.erase (Tab.erase t k) k = Tab.erase t k := by
  unfold Tab.erase
  rw [List.filter_filter]
  simp

theorem Tab.write_write {α : Type} [DecidableEq α] (d : α) (t : Tab α) (k : Nat) (v w : α) : Tab.write d (Tab.write d t k v) k w = Tab.write d t k w := by
  have herase : Tab.erase (Tab.write d t k v) k = Tab.erase t k := by
    unfold Tab.write
    split
    · exact Tab.erase_erase t k
    · rw [Tab.erase_insert, Tab.erase_erase]
  rw [Tab.write, herase, Tab.write]

theorem State.setLink_setLink (s : State) (n : Nat) (x y : Link) : (s.setLink n x).setLink n y = s.setLink n y :=
  congrArg (fun l => { s with links := l }) (Tab.write_write _ _ _ _ _)

/-! ## Pauses of the peer (R301, R303) -/

/-- A link that thaws: its timers go on. -/
def Link.thaws (l : Link) (a now : Nat) : Link :=
  { l with
    frozenAt := .none, timer := l.timer + (now - max a l.timer)
    ops := l.ops.map fun o => { o with first := o.first + (now - max a o.first) } }

theorem State.freeze_first {s : State} {p : Nat} (h : (s.link p).frozenAt = .none) :
    s.freeze p = s.setLink p { s.link p with frozenAt := some s.absCycle } := by
  unfold State.freeze
  dsimp only
  rw [if_neg (by simp [h])]

theorem State.thaw_regs (s : State) (p : Nat) : (s.thaw p).regs = s.regs := by
  unfold State.thaw
  dsimp only
  split
  · rfl
  · split
    · rfl
    · refine (foldl_untouched _ State.regs (fun t k _ => ?_) _).trans ?_ <;> rfl

/-- Whether or not it thaws, the port of a peer that resumes is no longer paused by it. -/
theorem State.thaw_peer (s : State) {p : Nat} (hp : p < 16) : ((s.thaw p).link p).peerPausedAt = (s.link p).peerPausedAt := by
  unfold State.thaw
  dsimp only
  split
  · rfl
  · split
    · rfl
    · refine (foldl_untouched _ (fun t : State => (t.link p).peerPausedAt) (fun t k _ => ?_) _).trans ?_
      · rw [State.setLink_link_ne _ _ (show p ≠ fanTx k by unfold fanTx; omega)]
      · rw [State.setLink_link_same]

theorem State.thaw_link {s : State} {p a : Nat} (hp : p < 16) (hpaused : s.paused p = false) (hfrozen : (s.link p).frozenAt = some a) :
    (s.thaw p).link p = (s.link p).thaws a s.absCycle := by
  unfold State.thaw
  simp only [hfrozen]
  rw [if_neg (by simp [hpaused])]
  refine (foldl_untouched _ (fun t : State => t.link p) (fun t k _ => ?_) _).trans ?_
  · rw [State.setLink_link_ne _ _ (show p ≠ fanTx k by unfold fanTx; omega)]
  · rw [State.setLink_link_same]
    rfl

theorem State.thaw_of_none {s : State} {p : Nat} (hfrozen : (s.link p).frozenAt = .none) : s.thaw p = s := by
  unfold State.thaw
  simp only [hfrozen]

theorem State.peerResumes_pause (s : State) (p : Nat) : bitAt ((s.peerResumes p).rd (Reg.LNK.STAT_PAUSE p)) 2 = false := by
  unfold State.peerResumes
  rw [State.rd_of_regs (State.thaw_regs _ _), State.wrBit_bit _ _ _ _ _ (show 2 < 3 by decide)]
  rfl

theorem State.peerResumes_sameFields (s : State) (p : Nat) : sameFields [Reg.LNK.STAT_PAUSE p] s (s.peerResumes p) := fun g hg => by
  unfold State.peerResumes
  rw [State.rd_of_regs (State.thaw_regs _ _), State.wrBit_sameFields _ _ _ _ g hg, State.setLink_rd]

theorem State.peerResumes_peer (s : State) {p : Nat} (hp : p < 16) : ((s.peerResumes p).link p).peerPausedAt = .none := by
  unfold State.peerResumes
  rw [State.thaw_peer _ hp, State.wrBit_link, State.setLink_link_same]

/-- A port that the peer alone had paused goes on where it stopped. -/
theorem State.peerResumes_thaws {s : State} {p : Nat} (hp : p < 16) (hpause : s.rd (Reg.LNK.STAT_PAUSE p) = 4) :
    ((s.peerResumes p).link p).frozenAt = .none ∧ ∀ a, (s.link p).frozenAt = some a →
      ((s.peerResumes p).link p).timer = (s.link p).timer + (s.absCycle - max a (s.link p).timer) := by
  obtain ⟨u, hu⟩ : ∃ u, u = (s.setLink p { s.link p with peerPausedAt := .none }).wrBit (Reg.LNK.STAT_PAUSE p) 2 false := ⟨_, rfl⟩
  have hlink : u.link p = { s.link p with peerPausedAt := .none } := by rw [hu, State.wrBit_link, State.setLink_link_same]
  have hrd : u.rd (Reg.LNK.STAT_PAUSE p) = 0 := by
    rw [hu, State.wrBit, State.rd_wr_same, State.setLink_rd, hpause]
    rfl
  have hpaused : u.paused p = false := by
    unfold State.paused
    rw [hrd]
    rfl
  have hnow : u.absCycle = s.absCycle := by rw [hu]; rfl
  have hthaw : s.peerResumes p = u.thaw p := by rw [State.peerResumes, hu]
  rw [hthaw]
  cases ha : (s.link p).frozenAt with
  | none =>
    have hfrozen : (u.link p).frozenAt = .none := by rw [hlink]; exact ha
    rw [State.thaw_of_none hfrozen]
    exact ⟨hfrozen, fun _ h => nomatch h⟩
  | some a =>
    have hfrozen : (u.link p).frozenAt = some a := by rw [hlink]; exact ha
    rw [State.thaw_link hp hpaused hfrozen, hlink, hnow]
    exact ⟨rfl, fun b hb => by cases hb; rfl⟩

/-- A link that its peer pauses, and that stops. -/
def State.peerPauses (s : State) (p : Nat) : State :=
  (s.setLink p { s.link p with peerPausedAt := some s.now }).wrBit (Reg.LNK.STAT_PAUSE p) 2 true

theorem State.peerPauses_link (s : State) (p : Nat) : (s.peerPauses p).link p = { s.link p with peerPausedAt := some s.now } := by
  rw [State.peerPauses, State.wrBit_link, State.setLink_link_same]

theorem exec_pause_first {s : State} {p : Fin 16} (tag : BitVec 4) (arg : BitVec 48) (hrun : s.running = true) (hup : s.linkUp p.val = true)
    (hpeer : (s.link p.val).peerPausedAt = .none) (hfrozen : (s.link p.val).frozenAt = .none) : exec (.pause p tag arg) s =
      .next ((s.peerPauses p.val).setLink p.val { s.link p.val with peerPausedAt := some s.now, frozenAt := some s.absCycle }) := by
  have hfreeze : (s.peerPauses p.val).freeze p.val =
      (s.peerPauses p.val).setLink p.val { s.link p.val with peerPausedAt := some s.now, frozenAt := some s.absCycle } := by
    rw [State.freeze_first (by rw [State.peerPauses_link]; exact hfrozen), State.peerPauses_link]
    rfl
  rw [← hfreeze]
  refine congrArg Host.Outcome.next ((if_pos (by simp [hrun, hup])).trans ?_)
  dsimp only
  rw [hpeer]
  rfl

theorem exec_pauseLong_late {s : State} {p : Fin 16} {a : Nat} (hrun : s.running = true) (hpeer : (s.link p.val).peerPausedAt = some a)
    (hlong : a + 64 ≤ s.now) : exec (.pauseLong p) s =
      .next ((s.peerResumes p.val).raise1 ⟨Err.LNK.PAUSE_LONG p.val, s.linkInfo p.val noLane 0, (s.link p.val).rxNext.toNat⟩) := by
  refine congrArg Host.Outcome.next ?_
  simp only [hpeer]
  exact if_pos (by simp [hrun, hlong])

/-! ## A link that waits again (R302, R303) -/

theorem State.leaveFailed_rd (s : State) {b p : Nat} (hb : b < 16) (hp : p < 16) {g : Field} (hg : g.onLnk p) : (s.leaveFailed b).rd g = s.rd g := by
  unfold State.leaveFailed State.beginRelock
  split
  · rw [State.rd_bump_ne _ (hg.key_ne (show 0x060 + b ≠ 0x040 + p by omega) (show 0x07c < 0x1000 ∧ 0 < 32 by decide)),
      State.rd_wr_ne _ _ (hg.key_ne (show 0x060 + b ≠ 0x040 + p by omega) (show 0x008 < 0x1000 ∧ 0 < 32 by decide))]
    rfl
  · rfl

theorem State.leaveFailed_links (s : State) (b : Nat) : (s.leaveFailed b).links = s.links := by
  unfold State.leaveFailed State.beginRelock
  split <;> rfl

theorem State.visitMoved_kept (s : State) (k : Nat) (narrow : Bool) : (s.visitMoved k narrow).regs = s.regs ∧ (s.visitMoved k narrow).links = s.links := by
  unfold State.visitMoved
  split
  · exact ⟨rfl, rfl⟩
  · split <;> exact ⟨rfl, rfl⟩

/-- Lane operations lost leave the registers and the links. -/
theorem State.laneOpsLost_kept (s : State) (p : Nat) : (s.laneOpsLost p).regs = s.regs ∧ (s.laneOpsLost p).links = s.links := by
  obtain ⟨lanes, hlanes⟩ := s.swapsEnd_frame p
  unfold State.laneOpsLost
  dsimp only
  constructor
  · refine (foldl_untouched _ State.regs (fun t w _ => ?_) _).trans ?_
    · rw [(State.visitMoved_kept _ _ _).1, State.assign_frame]
    · rw [hlanes]
      rfl
  · refine (foldl_untouched _ State.links (fun t w _ => ?_) _).trans ?_
    · rw [(State.visitMoved_kept _ _ _).2, State.assign_frame]
    · rw [hlanes]
      rfl

theorem State.laneOpsLost_now (s : State) (p : Nat) : (s.laneOpsLost p).now = s.now :=
  (Prod.mk.inj (Prod.mk.inj (Prod.mk.inj (Prod.mk.inj (Prod.mk.inj (Prod.mk.inj (Prod.mk.inj (s.laneOpsLost_still p)).2).2).2).2).2).2).1


theorem State.clearControl_link_same (s : State) (p resets : Nat) : ∃ l : Link, (s.clearControl p resets).link p = l ∧ l.ops = [] ∧
    l.resetLeft = resets ∧ l.rxReserved = (s.link p).rxReserved := by
  unfold State.clearControl
  dsimp only
  rw [State.link_of_links (State.relockAfterPause_links _ _), State.wr_link, State.setLink_link_same]
  exact ⟨_, rfl, rfl, rfl, rfl⟩

theorem State.relockAfterPause_now (s : State) (p : Nat) : (s.relockAfterPause p).now = s.now := by
  unfold State.relockAfterPause State.beginRelock
  dsimp only
  split <;> rfl

theorem State.clearControl_now (s : State) (p resets : Nat) : (s.clearControl p resets).now = s.now := State.relockAfterPause_now _ _

/-- A link whose buffer is given back. -/
def State.unbuffered (s : State) (p : Nat) : State :=
  (s.returnPages .rxs (s.link p).rxReserved).setLink p { s.link p with rxReserved := 0 }

theorem State.unbuffered_rd (s : State) {p : Nat} {g : Field} (hg : g.onLnk p) : (s.unbuffered p).rd g = s.rd g := by
  have hne : (Reg.RSV.USED (poolNo .rxs)).key ≠ g.key :=
    hg.key_ne (show 0x009 ≠ 0x040 + p by omega) ⟨show 0x050 + 0x4 * (poolNo .rxs) < 0x1000 by decide, show 0 < 32 by decide⟩
  unfold State.unbuffered State.returnPages
  rw [State.setLink_rd, State.rd_wr_ne _ _ hne]

theorem State.unbuffered_reserved (s : State) (p : Nat) : ((s.unbuffered p).link p).rxReserved = 0 := by
  rw [State.unbuffered, State.setLink_link_same]

/-- A link taken out of its state, to another: its control stops, its buffer is given back. -/
def State.stopped (s : State) (p resets st : Nat) : State := ((s.unbuffered p).clearControl p resets).linkTo p st

theorem State.stopped_rd (s : State) {p : Nat} (resets st : Nat) (hp : p < 16) {g : Field} (hg : g.onLnk p)
    (hpause : (Reg.LNK.STAT_PAUSE p).key ≠ g.key) (hstate : (Reg.LNK.STAT_STATE p).key ≠ g.key) : (s.stopped p resets st).rd g = s.rd g := by
  unfold State.stopped State.linkTo
  rw [State.rd_wr_ne _ _ hstate, State.setLink_rd, State.clearControl_rd _ _ hp hg hpause, State.unbuffered_rd _ hg]

theorem State.stopped_state (s : State) (p resets : Nat) {st : Nat} (hst : st < 16) : (s.stopped p resets st).linkState p = st :=
  State.linkTo_state _ _ hst

theorem State.stopped_link (s : State) (p resets st : Nat) : ∃ l : Link, (s.stopped p resets st).link p = l ∧ l.ops = [] ∧ l.resetLeft = resets ∧
    l.since = s.now ∧ l.rxReserved = 0 := by
  obtain ⟨l, hl, hops, hresets, hres⟩ := (s.unbuffered p).clearControl_link_same p resets
  rw [State.unbuffered_reserved] at hres
  unfold State.stopped
  rw [State.linkTo_link_same, hl, State.clearControl_now]
  exact ⟨_, rfl, hops, hresets, rfl, hres⟩

theorem State.toWait_eq (s : State) (p resets : Nat) :
    s.toWait p resets = ((s.laneOpsLost p).stopped p resets 1).leaveFailed ((s.laneOpsLost p).bankOf p) := rfl

/-- A link that waits again (R302). -/
theorem State.toWait_spec (s : State) {p : Nat} (resets : Nat) (hp : p < 16) : (s.toWait p resets).linkState p = 1 ∧
    ((s.toWait p resets).link p).since = s.now ∧ ((s.toWait p resets).link p).ops = [] ∧ ((s.toWait p resets).link p).resetLeft = resets ∧
    ∀ g : Field, g.onLnk p → (Reg.LNK.STAT_PAUSE p).key ≠ g.key → (Reg.LNK.STAT_STATE p).key ≠ g.key → (s.toWait p resets).rd g = s.rd g := by
  obtain ⟨l, hl, hops, hresets, hsince, -⟩ := (s.laneOpsLost p).stopped_link p resets 1
  have hlink : (s.toWait p resets).link p = l := by
    rw [State.toWait_eq, State.link_of_links (State.leaveFailed_links _ _), hl]
  have hrd : ∀ g : Field, g.onLnk p → (s.toWait p resets).rd g = ((s.laneOpsLost p).stopped p resets 1).rd g := fun g hg => by
    rw [State.toWait_eq, State.leaveFailed_rd _ (bankOf_lt _ hp) hp hg]
  rw [hlink]
  refine ⟨?_, hsince.trans (s.laneOpsLost_now p), hops, hresets, fun g hg hpause hstate => ?_⟩
  · rw [State.linkState, hrd _ ⟨rfl, show 0x008 < 0x1000 by decide, show 0 < 32 by decide⟩]
    exact State.stopped_state _ _ _ (by decide)
  · rw [hrd g hg, State.stopped_rd _ _ _ hp hg hpause hstate, State.rd_of_regs (s.laneOpsLost_kept p).1]

/-- A link that fails to train (R306). -/
theorem State.linkFail_spec (s : State) {p reason : Nat} (hp : p < 16) (hreason : reason < 16) : (s.linkFail p reason).linkState p = 7 ∧
    (s.linkFail p reason).rd (Reg.LNK.STAT_REASON p) = reason ∧ (s.linkFail p reason).shows (Err.LNK.TRAIN_FAIL p) = true := by
  obtain ⟨u, hu⟩ : ∃ u, u = (s.wr (Reg.LNK.STAT_REASON p) reason).raise1 ⟨Err.LNK.TRAIN_FAIL p,
    s.linkInfo p noLane reason, (s.link p).oldest⟩ := ⟨_, rfl⟩
  have hfail : s.linkFail p reason = if reason = 9 then (u.stopped p 0 7).autoCross p else u.stopped p 0 7 := by
    rw [hu]
    rfl
  have hrd : ∀ g : Field, g.onLnk p → (s.linkFail p reason).rd g = (u.stopped p 0 7).rd g := fun g hg => by
    rw [hfail]
    split
    · rw [State.autoCross_rd _ _ hg]
    · rfl
  refine ⟨?_, ?_, ?_⟩
  · rw [State.linkState, hrd _ ⟨rfl, show 0x008 < 0x1000 by decide, show 0 < 32 by decide⟩]
    exact State.stopped_state _ _ _ (by decide)
  · rw [hrd _ ⟨rfl, show 0x008 < 0x1000 by decide, show 28 < 32 by decide⟩, State.stopped_rd _ _ _ hp
      ⟨rfl, show 0x008 < 0x1000 by decide, show 28 < 32 by decide⟩ (by exact Field.key_ne_of_place rfl rfl rfl)
      (by exact Field.key_ne_of_place rfl rfl rfl), hu, State.raise1_rd _ _ _ (eventFields_key_ne_of_outside rfl (lnk_page p)), State.rd_wr_same]
    exact Nat.mod_eq_of_lt hreason
  · unfold State.shows
    rw [hrd _ ⟨rfl, show 0x014 < 0x1000 by decide, show 0 < 32 by decide⟩, State.stopped_rd _ _ _ hp
      ⟨rfl, show 0x014 < 0x1000 by decide, show 0 < 32 by decide⟩ (by exact Field.key_ne_of_place rfl rfl rfl)
      (by exact Field.key_ne_of_place rfl rfl rfl), hu]
    exact State.raise1_bit _ _ (show 1 < 32 by decide)


/-! ## What the steps of a link leave -/

theorem State.linkTo_regsLinks (s : State) (p st : Nat) : s.linkTo p st = { s with regs := (s.linkTo p st).regs, links := (s.linkTo p st).links } := rfl

theorem State.setLink_frame (s : State) (n : Nat) (l : Link) : s.setLink n l = { s with links := (s.setLink n l).links } := rfl

theorem State.queueOp_frame (s : State) (p op arg : Nat) (c : LaneCause) : s.queueOp p op arg c = { s with links := (s.queueOp p op arg c).links } :=
  s.setLink_frame _ _

/-- Steps that change links alone, one after the other. -/
theorem links_trans {s t u : State} (ht : t = { s with links := t.links }) (hu : u = { t with links := u.links }) : u = { s with links := u.links } := by
  rw [hu, ht]

/-! ## Drains (R303) -/

theorem exec_drainReq_fresh {s : State} {p : Fin 16} {tag : BitVec 4} {arg : BitVec 48} (hrun : s.running = true) (hst : s.linkState p.val = 6)
    (hfresh : s.freshOp p.val 0x28 tag.toNat = true) :
    exec (.drainReq p tag arg) s = .next ((s.linkTo p.val 8).answersOp p.val 0x28 tag.toNat false) := by
  refine congrArg Host.Outcome.next ((if_pos (by simp [hrun, State.linkUp_of_active hst])).trans ((State.onOp_fresh _ hfresh).trans ?_))
  rw [hst]
  rfl

theorem State.linkUp_of_draining {s : State} {p : Nat} (h : s.linkState p = 8) : s.linkUp p = true := by simp [State.linkUp, h]

theorem State.drainEnds_waits {s : State} {p : Nat} (h : (s.link p).drainedTx = false ∨ (s.link p).drainedRx = false) : s.drainEnds p = s := by
  unfold State.drainEnds
  dsimp only
  rw [if_neg (by rcases h with h | h <;> simp [h])]

theorem State.drainEnds_done {s : State} {p : Nat} (hst : s.linkState p = 8) (htx : (s.link p).drainedTx = true) (hrx : (s.link p).drainedRx = true) :
    s.drainEnds p = s.toWait p 4 := by
  unfold State.drainEnds
  dsimp only
  rw [if_pos (by simp [hst, htx, hrx])]

/-- A port whose peer has drained. -/
def State.peerDrained (s : State) (p : Nat) : State := s.setLink p { s.link p with drainedRx := true }

theorem exec_drained_up {s : State} {p : Fin 16} (tag : BitVec 4) (arg : BitVec 48) (hrun : s.running = true) (hst : s.linkState p.val = 8) :
    exec (.drained p tag arg) s = .next ((s.peerDrained p.val).drainEnds p.val) :=
  congrArg (fun t : State => Host.Outcome.next t) (if_pos (by simp [hrun, State.linkUp_of_draining hst]))

/-- DRAINED goes out once all is acknowledged. -/
theorem exec_drainedSend_done {s : State} {p : Fin 16} (hrun : s.running = true) (hst : s.linkState p.val = 8) (hreplay : (s.link p.val).replay = [])
    (hstream : (s.link p.val).stream = [] ∨ (s.link p.val).padded = true) (htx : (s.link p.val).drainedTx = false)
    (hrx : (s.link p.val).drainedRx = false) : exec (.drainedSend p) s = .next (s.setLink p.val
      { s.link p.val with drainedTx := true, words := (s.link p.val).words ++ [ctrlWord 0x29 0 0] }) := by
  have hacked : s.allAcked p.val = true := by
    unfold State.allAcked
    rcases hstream with h | h <;> simp [hreplay, h]
  have hsent : (s.queueWords p.val [ctrlWord 0x29 0 0]).setLink p.val { (s.queueWords p.val [ctrlWord 0x29 0 0]).link p.val with drainedTx := true } =
      s.setLink p.val { s.link p.val with drainedTx := true, words := (s.link p.val).words ++ [ctrlWord 0x29 0 0] } := by
    unfold State.queueWords
    rw [State.setLink_link_same, State.setLink_setLink]
  refine congrArg Host.Outcome.next ((if_pos (by simp [hrun, hst, hacked, htx])).trans ?_)
  dsimp only
  rw [hsent, State.drainEnds_waits (.inr (by rw [State.setLink_link_same]; exact hrx))]

/-! ## Writes of a link's CTRL (R302, R303) -/

/-- The fields of a link's CTRL written. -/
def State.lnkWritten (s : State) (p : Nat) (d : Word) : State := s.writeFields (0x040 + p) 0x004 d.toNat

theorem State.lnkWritten_frame (s : State) (p : Nat) (d : Word) : s.lnkWritten p d = { s with regs := (s.lnkWritten p d).regs } :=
  s.writeFields_regs _ _ _

theorem State.lnkWritten_link (s : State) (p k : Nat) (d : Word) : (s.lnkWritten p d).link k = s.link k := by
  rw [State.lnkWritten_frame]
  rfl

theorem State.lnkWritten_now (s : State) (p : Nat) (d : Word) : (s.lnkWritten p d).now = s.now := by
  rw [State.lnkWritten_frame]
  rfl

theorem State.lnkWritten_state (s : State) (p : Nat) (d : Word) : (s.lnkWritten p d).linkState p = s.linkState p :=
  s.writeFields_rd_ne _ (show 0x004 ≠ 0x008 by decide) (fun _ => show 0x008 ≠ 0x01C by decide) (by decide)
    ⟨show 0x008 < 0x1000 by decide, show 0 < 32 by decide⟩

theorem State.slotOfFibre_congr {s t : State} (p : Nat) (hmask : ∀ k < 8, t.rd (Reg.FLM.FAN_CFG_MASK k) = s.rd (Reg.FLM.FAN_CFG_MASK k))
    (hstate : ∀ k < 8, t.fanState k = s.fanState k) : t.slotOfFibre p = s.slotOfFibre p := by
  unfold State.slotOfFibre
  refine List.find?_congr fun k hk => ?_
  rw [hmask k (List.mem_range.mp hk), hstate k (List.mem_range.mp hk)]

theorem State.lnkWritten_slot (s : State) (p : Nat) (d : Word) (q : Nat) : (s.lnkWritten p d).slotOfFibre q = s.slotOfFibre q := by
  refine State.slotOfFibre_congr q (fun k hk => ?_) fun k hk => ?_
  · exact s.writeFields_rd_ne_page _ (show 0x040 + p ≠ 0x008 by omega) (by decide) 
      ⟨show 0x100 + 0x10 * k < 0x1000 by omega, show 16 < 32 by decide⟩
  · exact s.writeFields_rd_ne_page _ (show 0x040 + p ≠ 0x008 by omega) (by decide)
      ⟨show 0x108 + 0x10 * k < 0x1000 by omega, show 0 < 32 by decide⟩

theorem exec_linkRetrain {s : State} {via : Path} (p : Fin 16) (d : Word) (hd : s.deaf via = false) (hl : s.locked via (0x040 + p.val) = false) :
    exec (.linkRetrain via p d) s = .next (s.wrLnkCtrl p.val d.toNat) := exec_linkDisable p d hd hl

theorem exec_linkReset {s : State} {via : Path} (p : Fin 16) (d : Word) (hd : s.deaf via = false) (hl : s.locked via (0x040 + p.val) = false) :
    exec (.linkReset via p d) s = .next (s.wrLnkCtrl p.val d.toNat) := exec_linkDisable p d hd hl

theorem State.lnkWritten_disable (s : State) (p : Fin 16) (d : Word) : (s.lnkWritten p.val d).flag (Reg.LNK.CTRL_DISABLE p.val) = d.getLsbD 8 := by
  rw [State.flag, State.lnkWritten, State.disable_written]
  cases d.getLsbD 8 <;> rfl

/-- RETRAIN while the link is off or failed: it waits, or its fan is asked. -/
theorem State.wrLnkCtrl_retrain {s : State} {p : Fin 16} {d : Word} (h8 : d.getLsbD 8 = false) (h10 : d.getLsbD 10 = false) (h9 : d.getLsbD 9 = true)
    (hst : s.linkState p.val = 0 ∨ s.linkState p.val = 7) : s.wrLnkCtrl p.val d.toNat =
      if (s.slotOfFibre p.val).isSome then (s.lnkWritten p.val d).wr (Reg.LNK.CTRL_RETRAIN p.val) 1 else (s.lnkWritten p.val d).toWait p.val 0 := by
  have hdis := s.lnkWritten_disable p d
  have hstate : ((s.lnkWritten p.val d).linkState p.val == 0 || (s.lnkWritten p.val d).linkState p.val == 7) = true := by
    rw [State.lnkWritten_state]
    rcases hst with h | h <;> rw [h] <;> rfl
  unfold State.wrLnkCtrl
  dsimp only
  rw [← State.lnkWritten, hdis, h8, if_neg (by decide), bitAt_toNat, h10, if_neg (by simp), bitAt_toNat, h9, hstate, if_pos (by decide),
    State.lnkWritten_slot]

/-- RESET of an ACTIVE link: it drains (R303). -/
theorem State.wrLnkCtrl_reset {s : State} {p : Fin 16} {d : Word} (h8 : d.getLsbD 8 = false) (h10 : d.getLsbD 10 = true)
    (hst : s.linkState p.val = 6) : s.wrLnkCtrl p.val d.toNat = ((s.lnkWritten p.val d).queueOp p.val 0x28 0 (noCause .peer)).linkTo p.val 8 := by
  have hdis := s.lnkWritten_disable p d
  unfold State.wrLnkCtrl
  dsimp only
  rw [← State.lnkWritten, hdis, h8, if_neg (by decide), bitAt_toNat, h10, if_pos (by rw [State.lnkWritten_state, hst]; rfl)]


/-- DISABLE of a link that is neither ACTIVE nor draining takes it out of training. -/
theorem State.wrLnkCtrl_off {s : State} {p : Fin 16} {d : Word} (h8 : d.getLsbD 8 = true) (hup : s.linkUp p.val = false) :
    s.wrLnkCtrl p.val d.toNat = if s.linkState p.val = 0 then s.lnkWritten p.val d else (s.lnkWritten p.val d).stopped p.val 0 0 := by
  have hup' : (s.lnkWritten p.val d).linkUp p.val = false := by
    unfold State.linkUp at hup ⊢
    rw [State.lnkWritten_state, hup]
  have hdis := s.lnkWritten_disable p d
  rw [State.wrLnkCtrl_disabled (hdis.trans h8), ← State.lnkWritten, State.disableLink, hup', if_neg (by decide), State.lnkWritten_state]
  rfl

theorem State.relockAfterPause_frame (s : State) (p : Nat) :
    s.relockAfterPause p = { s with regs := (s.relockAfterPause p).regs, synths := (s.relockAfterPause p).synths } := by
  unfold State.relockAfterPause State.beginRelock
  dsimp only
  split <;> rfl

theorem State.stopped_frame (s : State) (p resets st : Nat) : s.stopped p resets st =
    { s with regs := (s.stopped p resets st).regs, links := (s.stopped p resets st).links, synths := (s.stopped p resets st).synths } := by
  have hclear : ∀ t : State, t.clearControl p resets = { t with
      regs := (t.clearControl p resets).regs, links := (t.clearControl p resets).links, synths := (t.clearControl p resets).synths } := fun t => by
    unfold State.clearControl
    dsimp only
    rw [State.relockAfterPause_frame]
    rfl
  unfold State.stopped State.linkTo
  rw [hclear]
  rfl

theorem linkRetrain_waits {s : State} {via : Path} {p : Fin 16} {d : Word} (hd : s.deaf via = false) (hl : s.locked via (0x040 + p.val) = false)
    (h8 : d.getLsbD 8 = false) (h10 : d.getLsbD 10 = false) (h9 : d.getLsbD 9 = true) (hst : s.linkState p.val = 0 ∨ s.linkState p.val = 7) :
    ∃ t : State, exec (.linkRetrain via p d) s = .next t ∧ t.rd (Reg.LNK.CTRL_DISABLE p.val) = 0 ∧
      (s.slotOfFibre p.val = .none → t.linkState p.val = 1 ∧ (t.link p.val).since = s.now ∧ (t.link p.val).ops = []) ∧
      (s.slotOfFibre p.val ≠ .none → t.linkState p.val = s.linkState p.val ∧ t.rd (Reg.LNK.CTRL_RETRAIN p.val) = 1 ∧ t.links = s.links) := by
  have hcmd := exec_linkRetrain p d hd hl
  rw [State.wrLnkCtrl_retrain h8 h10 h9 hst] at hcmd
  have hdis : (s.lnkWritten p.val d).rd (Reg.LNK.CTRL_DISABLE p.val) = 0 := by
    rw [State.lnkWritten, State.disable_written, h8]
    rfl
  cases hslot : s.slotOfFibre p.val with
  | none =>
    rw [hslot, if_neg (by simp)] at hcmd
    obtain ⟨hstate, hsince, hops, -, hrd⟩ := (s.lnkWritten p.val d).toWait_spec (p := p.val) 0 p.isLt
    refine ⟨_, hcmd, ?_, fun _ => ⟨hstate, hsince.trans (s.lnkWritten_now p.val d), hops⟩, fun h => absurd rfl h⟩
    rw [hrd _ ⟨rfl, show 0x004 < 0x1000 by decide, show 8 < 32 by decide⟩ (by exact Field.key_ne_of_place rfl rfl rfl)
      (by exact Field.key_ne_of_place rfl rfl rfl), hdis]
  | some k =>
    rw [hslot, if_pos (by simp)] at hcmd
    refine ⟨_, hcmd, ?_, (fun h => nomatch h), fun _ => ⟨?_, ?_, ?_⟩⟩
    · rw [State.rd_wr_ne _ _ (by exact Field.key_ne_of_place rfl rfl rfl), hdis]
    · rw [State.linkState, State.rd_wr_ne _ _ (by exact Field.key_ne_of_place rfl rfl rfl)]
      exact s.lnkWritten_state p.val d
    · rw [State.rd_wr_same]
      rfl
    · rw [State.wr_links, State.lnkWritten_frame]

theorem State.lnkWritten_regsLinks (s : State) (p : Nat) (d : Word) :
    s.lnkWritten p d = { s with regs := (s.lnkWritten p d).regs, links := (s.lnkWritten p d).links } := by
  rw [State.lnkWritten_frame]

theorem linkReset_drains {s : State} {via : Path} {p : Fin 16} {d : Word} (hd : s.deaf via = false) (hl : s.locked via (0x040 + p.val) = false)
    (h8 : d.getLsbD 8 = false) (h10 : d.getLsbD 10 = true) (hst : s.linkState p.val = 6) :
    ∃ t : State, exec (.linkReset via p d) s = .next t ∧ t.linkState p.val = 8 ∧
      (t.link p.val).since = s.now ∧ (∃ o, (t.link p.val).ops = (s.link p.val).ops ++ [o] ∧ o.op = 0x28 ∧ o.sent = false) ∧
      t = { s with regs := t.regs, links := t.links } := by
  have hcmd := exec_linkReset p d hd hl
  rw [State.wrLnkCtrl_reset h8 h10 hst] at hcmd
  have hlink := s.lnkWritten_link p.val p.val d
  have hnow := s.lnkWritten_now p.val d
  have hframe := s.lnkWritten_regsLinks p.val d
  generalize s.lnkWritten p.val d = u at hcmd hlink hnow hframe
  refine ⟨_, hcmd, State.linkTo_state _ _ (by decide), ?_, ?_,
    regsLinks_trans hframe (regsLinks_trans (State.regsLinks_of_links (u.queueOp_frame _ _ _ _)) (State.linkTo_regsLinks _ _ _))⟩
  · rw [State.linkTo_link_same]
    exact hnow
  · rw [State.linkTo_link_same, State.queueOp, State.setLink_link_same, hlink]
    exact ⟨_, rfl, rfl, rfl⟩

theorem linkDisable_off {s : State} {via : Path} {p : Fin 16} {d : Word} (hd : s.deaf via = false) (hl : s.locked via (0x040 + p.val) = false)
    (h8 : d.getLsbD 8 = true) (hup : s.linkUp p.val = false) : ∃ t : State, exec (.linkDisable via p d) s = .next t ∧
      t.rd (Reg.LNK.CTRL_DISABLE p.val) = 1 ∧ t.linkState p.val = 0 ∧
      (s.linkState p.val ≠ 0 → (t.link p.val).ops = [] ∧ (t.link p.val).rxReserved = 0) ∧
      t = { s with regs := t.regs, links := t.links, synths := t.synths } := by
  have hcmd := exec_linkDisable p d hd hl
  rw [State.wrLnkCtrl_off h8 hup] at hcmd
  have hdis : (s.lnkWritten p.val d).rd (Reg.LNK.CTRL_DISABLE p.val) = 1 := by
    rw [State.lnkWritten, State.disable_written, h8]
    rfl
  have hframe := s.lnkWritten_frame p.val d
  have hstate := s.lnkWritten_state p.val d
  generalize s.lnkWritten p.val d = u at hcmd hdis hframe hstate
  by_cases hst : s.linkState p.val = 0
  · rw [if_pos hst] at hcmd
    refine ⟨u, hcmd, hdis, hstate.trans hst, fun h => absurd hst h, ?_⟩
    rw [hframe]
  · rw [if_neg hst] at hcmd
    obtain ⟨l, hl, hops, -, -, hres⟩ := u.stopped_link p.val 0 0
    refine ⟨u.stopped p.val 0 0, hcmd, ?_, State.stopped_state _ _ _ (by decide), fun _ => ?_, ?_⟩
    · rw [State.stopped_rd _ _ _ p.isLt ⟨rfl, show 0x004 < 0x1000 by decide, show 8 < 32 by decide⟩ (by exact Field.key_ne_of_place rfl rfl rfl)
        (by exact Field.key_ne_of_place rfl rfl rfl), hdis]
    · rw [hl]
      exact ⟨hops, hres⟩
    · have hstopped := u.stopped_frame p.val 0 0
      generalize u.stopped p.val 0 0 = v at hstopped
      rw [hstopped, hframe]

/-! ## Training done, and its time limits (R302, R306) -/

/-- A link that begins training (R302). -/
theorem State.toAlign_spec (s : State) (p : Nat) : (s.toAlign p).linkState p = 2 ∧ ((s.toAlign p).link p).since = s.now ∧
    ((s.toAlign p).link p).ops = [] ∧ ((s.toAlign p).link p).paramsSent = false ∧ sameFields [Reg.LNK.STAT_STATE p] s (s.toAlign p) ∧
    s.toAlign p = { s with regs := (s.toAlign p).regs, links := (s.toAlign p).links } := by
  unfold State.toAlign
  rw [State.linkTo_link_same, State.setLink_link_same]
  refine ⟨State.linkTo_state _ _ (by decide), rfl, rfl, rfl, fun g hg => ?_,
    regsLinks_trans (State.regsLinks_of_links (State.setLink_frame _ _ _)) (State.linkTo_regsLinks _ _ _)⟩
  rw [State.linkTo, State.rd_wr_ne _ _ (hg _ List.mem_cons_self), State.setLink_rd, State.setLink_rd]

theorem State.toActive_spec (s : State) {p : Nat} : (s.toActive p).regs = ((s.linkTo p 6).bump (Reg.LNK.LINK_CNT_UP p)).regs ∧
    ∃ l : Link, (s.toActive p).link p = l ∧ l.txNext = 0 ∧ l.txAcked = 0xFFFFFF ∧ l.rxNext = 0 ∧ l.usedHdr = [0, 0, 0, 0] ∧
      l.backData = [0, 0, 0, 0] := by
  obtain ⟨u, hu⟩ : ∃ u, u = ((s.setLink p { s.link p with
    txNext := 0, txAcked := 0xFFFFFF, rxNext := 0, ackSent := 0xFFFFFF, ackPending := 0, replay := [], resend := 0, expiries := 0,
    usedHdr := [0, 0, 0, 0], usedData := [0, 0, 0, 0], backHdr := [0, 0, 0, 0], backData := [0, 0, 0, 0], freedHdr := [0, 0, 0, 0],
    freedData := [0, 0, 0, 0], staleHdr := (s.link p).heldSpace (fun _ => 1), staleData := (s.link p).heldSpace id, partialBytes := [], shells := 0,
    losRun := 0, stalled := false, drainedTx := false, drainedRx := false, down := .none, stream := [], heads := [], padded := false }).linkTo p
      6).bump (Reg.LNK.LINK_CNT_UP p) := ⟨_, rfl⟩
  have hdue : ∀ (lanes : List Nat) (t : State), (lanes.foldl (fun s lane => s.laneDue p ⟨lane, .dropReq, noCause .peer⟩) t).regs = t.regs ∧
      (lanes.foldl (fun s lane => s.laneDue p ⟨lane, .dropReq, noCause .peer⟩) t).links = t.links := fun lanes t =>
    ⟨foldl_untouched (fun s lane => State.laneDue s p ⟨lane, .dropReq, noCause .peer⟩) State.regs (fun _ _ _ => rfl) t,
      foldl_untouched (fun s lane => State.laneDue s p ⟨lane, .dropReq, noCause .peer⟩) State.links (fun _ _ _ => rfl) t⟩
  obtain ⟨v, hv, hregs, hlinks⟩ : ∃ v : State, s.toActive p = v.checkNarrow p ∧ v.regs = u.regs ∧ v.links = u.links := by
    refine ⟨_, rfl, ?_, ?_⟩
    · exact (hdue _ _).1.trans (by rw [hu])
    · exact (hdue _ _).2.trans (by rw [hu])
  obtain ⟨hframe, ⟨d, hlink⟩, -⟩ := v.checkNarrow_spec p
  rw [hv]
  refine ⟨?_, ?_⟩
  · rw [hframe]
    exact hregs.trans (by rw [hu]; rfl)
  · rw [hlink, State.link_of_links hlinks, hu, State.bump_link, State.linkTo_link_same, State.setLink_link_same]
    exact ⟨_, rfl, rfl, rfl, rfl, rfl, rfl⟩

theorem exec_linkTrainingTimeout_late {s : State} {p : Fin 16} {st n r : Nat} (hrun : s.running = true) (hst : s.linkState p.val = st)
    (h : (st, n, r) ∈ [(1, 4096, 9), (2, 256, 10), (3, 64, 11), (5, 16, 13)]) (hlate : (s.link p.val).since + n ≤ s.now) :
    exec (.linkTrainingTimeout p) s = .next (s.linkFail p.val r).settle := by
  have hlimit : linkLimit st = some (n, r) := by
    simp only [List.mem_cons, List.not_mem_nil, or_false, Prod.mk.injEq] at h
    rcases h with ⟨rfl, rfl, rfl⟩ | ⟨rfl, rfl, rfl⟩ | ⟨rfl, rfl, rfl⟩ | ⟨rfl, rfl, rfl⟩ <;> rfl
  refine congrArg Host.Outcome.next ?_
  simp only [hst, hlimit]
  exact if_pos (by simp [hrun, hlate])

theorem linkLimit_ge {st : Nat} {t : Nat × Nat} (h : linkLimit st = some t) : 16 ≤ t.1 := by
  unfold linkLimit at h
  split at h <;> cases h <;> decide

theorem exec_linkTrainingTimeout_early {s : State} {p : Fin 16} (h : s.now < (s.link p.val).since + 16) :
    exec (.linkTrainingTimeout p) s = .next s := by
  refine congrArg (fun t : State => Host.Outcome.next t) ?_
  cases hl : linkLimit (s.linkState p.val) with
  | none => rfl
  | some t =>
    have := linkLimit_ge hl
    exact if_neg (by simp only [Bool.and_eq_true, decide_eq_true_eq]; omega)

/-! ## Parameters of the peer (R294, R305) -/

/-- A parameter word's part of the peer's parameters, noted. -/
def State.marks (s : State) (p mark : Nat) : State := s.setLink p { s.link p with peerParams := setBit (s.link p).peerParams mark }

theorem State.onParam_acts {s : State} {p op tag : Nat} (mark : Nat) (act : State → State) (hrun : s.running = true) (hst : s.linkState p = 3)
    (hfresh : s.freshOp p op tag = true) :
    s.onParam p op tag mark true act = (((act s).marks p mark).answersOp p op tag false).paramCheck p := by
  unfold State.onParam
  rw [if_neg (by simp [State.takesWords, hrun, hst]), if_pos (by simp [hst]), if_neg (by decide), State.onOp_fresh _ hfresh]
  rfl

theorem State.onParam_reserved {s : State} {p : Nat} (op tag mark : Nat) (act : State → State) (hrun : s.running = true) (hst : s.linkState p = 3) :
    s.onParam p op tag mark false act = s.linkFail p 11 := by
  unfold State.onParam
  rw [if_neg (by simp [State.takesWords, hrun, hst]), if_pos (by simp [hst]), if_pos (by decide)]

theorem State.paramCheck_unsent {s : State} {p : Nat} (h : (s.link p).paramsSent = false) : s.paramCheck p = s := by
  unfold State.paramCheck
  dsimp only
  rw [if_pos (by simp [h])]

/-- All parameters known, at another rate than the bank's: it relocks (R305). -/
theorem State.paramCheck_relocks {s : State} {p : Nat} (hp : p < 16) (hst : s.linkState p = 3) (hsent : (s.link p).paramsSent = true)
    (hops : (s.link p).ops = []) (hall : (s.link p).peerParams = 127) (hmap : mapClashes (s.link p).peerMap = false)
    (hsyn : s.rd (Reg.OPT.STAT_SYN (s.bankOf p)) ≠ 3) (hrate : s.rd (Reg.OPT.STAT_RATE (s.bankOf p)) ≠ s.agreedRate p) : s.paramCheck p =
      ((((s.wr (Reg.LNK.STAT_RATE p) (s.agreedRate p)).linkTo p 4).wr (Reg.OPT.STAT_RATE (s.bankOf p)) (s.agreedRate p)).beginRelock
        (s.bankOf p) 0) := by
  have hbank := bankOf_lt s hp
  have hkey : (Reg.LNK.STAT_RATE p).key ≠ (Reg.OPT.STAT_RATE (s.bankOf p)).key :=
    Field.key_ne_of_page (show 0x040 + p ≠ 0x060 + s.bankOf p by omega) (show 0x008 < 0x1000 ∧ 4 < 32 by decide)
      (show 0x008 < 0x1000 ∧ 8 < 32 by decide)
  have hkey' : (Reg.LNK.STAT_STATE p).key ≠ (Reg.OPT.STAT_RATE (s.bankOf p)).key :=
    Field.key_ne_of_page (show 0x040 + p ≠ 0x060 + s.bankOf p by omega) (show 0x008 < 0x1000 ∧ 0 < 32 by decide)
      (show 0x008 < 0x1000 ∧ 8 < 32 by decide)
  have hopt : (s.wr (Reg.LNK.STAT_RATE p) (s.agreedRate p)).rd (Reg.OPT.STAT_RATE (s.bankOf p)) ≠ s.agreedRate p := by
    rwa [State.rd_wr_ne _ _ hkey]
  have hopt' : ((s.wr (Reg.LNK.STAT_RATE p) (s.agreedRate p)).linkTo p 4).rd (Reg.OPT.STAT_RATE (s.bankOf p)) ≠ s.agreedRate p := by
    unfold State.linkTo
    rwa [State.rd_wr_ne _ _ hkey', State.setLink_rd]
  unfold State.paramCheck
  dsimp only
  rw [if_neg (by simp [hst, hsent, hops, hall]), if_neg (by simp [hmap]), if_neg hsyn, if_neg (fun h => hopt h.1)]
  unfold State.setRate
  rw [if_neg (fun h => hopt' h.1)]


/-! ## RESET of the peer in training (R303) -/

theorem exec_reset_training {s : State} {p : Fin 16} (tag : BitVec 4) (arg : BitVec 48) (hrun : s.running = true)
    (hst : s.linkState p.val ∈ [2, 3, 4, 5]) : exec (.reset p tag arg) s = .next (s.toWait p.val 0) := by
  simp only [List.mem_cons, List.not_mem_nil, or_false] at hst
  refine congrArg Host.Outcome.next ((if_neg (by simp [hrun])).trans ?_)
  rcases hst with h | h | h | h <;> simp only [h]

theorem exec_reset_untrained {s : State} {p : Fin 16} (tag : BitVec 4) (arg : BitVec 48) (hst : s.linkState p.val ∈ [0, 1, 7, 8]) :
    exec (.reset p tag arg) s = .next s := by
  simp only [List.mem_cons, List.not_mem_nil, or_false] at hst
  refine congrArg Host.Outcome.next (ite_eq_left_iff.mpr fun _ => ?_)
  rcases hst with h | h | h | h <;> simp only [h]

/-- What a PARAM0 word changes (R305). -/
def State.takesParam0 (s : State) (p a : Nat) : State :=
  let t := s.setLink p { s.link p with peerRate := bits a 1 0, peerFecOff := bitAt a 2, peerMin := bits a 7 3 }
  let t := (t.wr (Reg.LNK.PEER_ID p) (bits a 47 16)).wr (Reg.LNK.PEER_INFO_VALID p) 1
  (t.wr (Reg.LNK.PEER_INFO_POSITION p) (bits a 13 12)).wr (Reg.LNK.PEER_INFO_PORT p) (bits a 11 8)

/-- A PARAM0 word taken, noted and answered. -/
def State.param0Taken (s : State) (p a tag : Nat) : State := ((s.takesParam0 p a).marks p 0).answersOp p 1 tag false

theorem exec_param0 {s : State} {p : Fin 16} {tag : BitVec 4} {arg : BitVec 48} (hrun : s.running = true) (hst : s.linkState p.val = 3)
    (hrate : bits arg.toNat 1 0 ≠ 3) (hmin : 1 ≤ bits arg.toNat 7 3) (hmax : bits arg.toNat 7 3 ≤ 16)
    (hfresh : s.freshOp p.val 1 tag.toNat = true) :
    exec (.param0 p tag arg) s = .next ((s.param0Taken p.val arg.toNat tag.toNat).paramCheck p.val) := by
  refine (congrArg (fun ok => Host.Outcome.next (s.onParam p.val 0x01 tag.toNat 0 ok (fun t => t.takesParam0 p.val arg.toNat)))
    (show (bits arg.toNat 1 0 != 3 && decide (1 ≤ bits arg.toNat 7 3) && decide (bits arg.toNat 7 3 ≤ 16)) = true by simp [hrate, hmin, hmax])).trans ?_
  rw [State.onParam_acts 0 _ hrun hst hfresh]
  rfl

theorem State.answersOp_rd (t : State) (p op tag : Nat) (r : Bool) (g : Field) : (t.answersOp p op tag r).rd g = t.rd g :=
  State.rd_of_regs rfl g

theorem State.marks_rd (s : State) (p mark : Nat) (g : Field) : (s.marks p mark).rd g = s.rd g := State.rd_of_regs rfl g

theorem State.param0Taken_rd (s : State) (p a tag : Nat) (g : Field) : (s.param0Taken p a tag).rd g = (s.takesParam0 p a).rd g := by
  rw [State.param0Taken, State.answersOp_rd, State.marks_rd]

theorem State.takesParam0_rd_ne (s : State) (p a : Nat) {g : Field} (h : ∀ f ∈ [Reg.LNK.PEER_ID p, Reg.LNK.PEER_INFO_VALID p,
    Reg.LNK.PEER_INFO_POSITION p, Reg.LNK.PEER_INFO_PORT p], f.key ≠ g.key) : (s.takesParam0 p a).rd g = s.rd g := by
  simp only [List.mem_cons, List.not_mem_nil, or_false, forall_eq_or_imp, forall_eq] at h
  obtain ⟨h1, h2, h3, h4⟩ := h
  unfold State.takesParam0
  dsimp only
  rw [State.rd_wr_ne _ _ h4, State.rd_wr_ne _ _ h3, State.rd_wr_ne _ _ h2, State.rd_wr_ne _ _ h1, State.setLink_rd]

/-- The registers of a PARAM0 word taken (R305). -/
theorem State.takesParam0_peer (s : State) (p a : Nat) : (s.takesParam0 p a).rd (Reg.LNK.PEER_ID p) = bits a 47 16 ∧
    (s.takesParam0 p a).rd (Reg.LNK.PEER_INFO_VALID p) = 1 ∧ (s.takesParam0 p a).rd (Reg.LNK.PEER_INFO_PORT p) = bits a 11 8 ∧
    (s.takesParam0 p a).rd (Reg.LNK.PEER_INFO_POSITION p) = bits a 13 12 := by
  unfold State.takesParam0
  dsimp only
  refine ⟨?_, ?_, ?_, ?_⟩
  · rw [State.rd_wr_ne _ _ (by exact Field.key_ne_of_place rfl rfl rfl), State.rd_wr_ne _ _ (by exact Field.key_ne_of_place rfl rfl rfl),
      State.rd_wr_ne _ _ (by exact Field.key_ne_of_place rfl rfl rfl), State.rd_wr_same]
    exact Nat.mod_eq_of_lt (Nat.mod_lt _ (by decide))
  · rw [State.rd_wr_ne _ _ (by exact Field.key_ne_of_place rfl rfl rfl), State.rd_wr_ne _ _ (by exact Field.key_ne_of_place rfl rfl rfl),
      State.rd_wr_same]
    rfl
  · rw [State.rd_wr_same]
    exact Nat.mod_eq_of_lt (Nat.mod_lt _ (by decide))
  · rw [State.rd_wr_ne _ _ (by exact Field.key_ne_of_place rfl rfl rfl), State.rd_wr_same]
    exact Nat.mod_eq_of_lt (Nat.mod_lt _ (by decide))

theorem State.takesParam0_link_same (s : State) (p a : Nat) :
    (s.takesParam0 p a).link p = { s.link p with peerRate := bits a 1 0, peerFecOff := bitAt a 2, peerMin := bits a 7 3 } :=
  State.setLink_link_same _ _ _

theorem State.takesParam0_link_ne (s : State) {p k : Nat} (a : Nat) (h : k ≠ p) : (s.takesParam0 p a).link k = s.link k :=
  State.setLink_link_ne _ _ h

/-- The word that answers an operation depends on the port's role in a fan, and its stream's next SEQ. -/
theorem State.answerWord_of_role {s t : State} {p : Nat} (op tag : Nat) (r : Bool)
    (hrole : t.rd (Reg.LNK.STAT_FAN_ROLE p) = s.rd (Reg.LNK.STAT_FAN_ROLE p)) (hnext : ∀ k, (t.link k).rxNext = (s.link k).rxNext) :
    t.answerWord p op tag r = s.answerWord p op tag r := by
  have hport : t.rxStream p = s.rxStream p := by
    unfold State.rxStream State.returnsFan
    rw [hrole]
  unfold State.answerWord
  rw [hport, hnext]

/-- The link of a PARAM0 word taken. -/
theorem State.param0Taken_link (s : State) (p a tag : Nat) : (s.param0Taken p a tag).link p =
    { s.link p with
      peerRate := bits a 1 0, peerFecOff := bitAt a 2, peerMin := bits a 7 3, peerParams := setBit (s.link p).peerParams 0
      answered := ((s.link p).notes 1 tag false).answered, words := (s.link p).words ++ [s.answerWord p 1 tag false] } := by
  have hword : ((s.takesParam0 p a).marks p 0).answerWord p 1 tag false = s.answerWord p 1 tag false := by
    refine State.answerWord_of_role _ _ _ ?_ fun k => ?_
    · rw [State.marks_rd, State.takesParam0_rd_ne]
      simp only [List.mem_cons, List.not_mem_nil, or_false, forall_eq_or_imp, forall_eq]
      exact ⟨Field.key_ne_of_place rfl rfl rfl, Field.key_ne_of_place rfl rfl rfl, Field.key_ne_of_place rfl rfl rfl,
        Field.key_ne_of_place rfl rfl rfl⟩
    · by_cases hk : k = p
      · rw [hk, State.marks, State.setLink_link_same, State.takesParam0_link_same]
      · rw [State.marks, State.setLink_link_ne _ _ hk, State.takesParam0_link_ne _ _ hk]
  unfold State.param0Taken
  rw [State.answersOp_link_same, hword, State.marks, State.setLink_link_same, State.takesParam0_link_same]
  rfl

theorem State.param0Taken_frame (s : State) (p a tag : Nat) :
    s.param0Taken p a tag = { s with regs := (s.param0Taken p a tag).regs, links := (s.param0Taken p a tag).links } := by
  have hwr : ∀ (u : State) (f : Field) (v : Nat), u = { s with regs := u.regs, links := u.links } →
      u.wr f v = { s with regs := (u.wr f v).regs, links := (u.wr f v).links } := fun u f v hu => regsLinks_trans hu rfl
  have htakes : s.takesParam0 p a = { s with regs := (s.takesParam0 p a).regs, links := (s.takesParam0 p a).links } :=
    hwr _ _ _ (hwr _ _ _ (hwr _ _ _ (hwr _ _ _ (State.regsLinks_of_links rfl))))
  have hmarks := State.regsLinks_of_links (s := s.takesParam0 p a) (t := (s.takesParam0 p a).marks p 0) rfl
  exact regsLinks_trans (regsLinks_trans htakes hmarks) (State.regsLinks_of_links (State.answersOp_frame _ _ _ _ _))


theorem State.param0Taken_state (s : State) (p a tag : Nat) : (s.param0Taken p a tag).linkState p = s.linkState p := by
  unfold State.linkState
  rw [State.param0Taken_rd, State.takesParam0_rd_ne]
  simp only [List.mem_cons, List.not_mem_nil, or_false, forall_eq_or_imp, forall_eq]
  exact ⟨Field.key_ne_of_place rfl rfl rfl, Field.key_ne_of_place rfl rfl rfl, Field.key_ne_of_place rfl rfl rfl, Field.key_ne_of_place rfl rfl rfl⟩

/-- What a PARAM_MAP word changes (R305). -/
def State.takesMap (s : State) (p a : Nat) : State :=
  let map := (List.range 16).map fun i =>
    if i / 8 = bits a 40 40 then ((List.range 8).map fun j => bits a (5 * j + 4) (5 * j)).getD (i % 8) noSeat else (s.link p).peerMap.getD i noSeat
  s.setLink p { s.link p with peerMap := map }

/-- The conditions on a PARAM_MAP word (R305). -/
def mapOk (a : Nat) : Bool :=
  bits a 47 41 == 0 && ((List.range 8).map fun j => bits a (5 * j + 4) (5 * j)).all fun k => k == noSeat || decide (k < 18)

theorem exec_paramMap_eq (s : State) (p : Fin 16) (tag : BitVec 4) (arg : BitVec 48) : exec (.paramMap p tag arg) s =
    .next (s.onParam p.val 0x02 tag.toNat (1 + bits arg.toNat 40 40) (mapOk arg.toNat) fun t => t.takesMap p.val arg.toNat) := rfl

/-- A PARAM_MAP word taken, noted and answered. -/
def State.mapTaken (s : State) (p a tag : Nat) : State := ((s.takesMap p a).marks p (1 + bits a 40 40)).answersOp p 2 tag false

theorem State.mapTaken_link (s : State) (p a tag : Nat) : ∃ l : Link, (s.mapTaken p a tag).link p = l ∧
    l.peerMap = ((s.takesMap p a).link p).peerMap ∧ l.paramsSent = (s.link p).paramsSent ∧
    l.words = (s.link p).words ++ [s.answerWord p 2 tag false] := by
  have hword : ((s.takesMap p a).marks p (1 + bits a 40 40)).answerWord p 2 tag false = s.answerWord p 2 tag false := by
    refine State.answerWord_of_role _ _ _ rfl fun k => ?_
    by_cases hk : k = p
    · rw [hk, State.marks, State.setLink_link_same, State.takesMap, State.setLink_link_same]
    · rw [State.marks, State.setLink_link_ne _ _ hk, State.takesMap, State.setLink_link_ne _ _ hk]
  unfold State.mapTaken
  rw [State.answersOp_link_same, hword, State.marks, State.setLink_link_same, State.takesMap, State.setLink_link_same]
  exact ⟨_, rfl, rfl, rfl, rfl⟩

/-- The peer's lane map, eight lanes at a time. -/
theorem State.takesMap_getD (s : State) (p a : Nat) {i : Nat} (hi : i < 16) : ((s.takesMap p a).link p).peerMap.getD i noSeat =
    if i / 8 = bits a 40 40 then bits a (5 * (i % 8) + 4) (5 * (i % 8)) else (s.link p).peerMap.getD i noSeat := by
  have hmod : i % 8 < 8 := Nat.mod_lt _ (by decide)
  unfold State.takesMap
  rw [State.setLink_link_same]
  simp [List.getD_eq_getElem?_getD, hi, hmod]

/-- The conditions on a PARAM_CRED word (R294). -/
def credOk (a : Nat) : Bool :=
  let most := if bits a 41 40 = 0 then (256, 256) else (4095, 1048575)
  bits a 47 42 == 0 && decide (1 ≤ bits a 39 24) && decide (bits a 39 24 ≤ most.1) && decide (1 ≤ bits a 23 0) && decide (bits a 23 0 ≤ most.2)

theorem exec_paramCred_eq (s : State) (p : Fin 16) (tag : BitVec 4) (arg : BitVec 48) : exec (.paramCred p tag arg) s =
    .next (s.onParam p.val 0x03 tag.toNat (3 + bits arg.toNat 41 40) (credOk arg.toNat) fun t =>
      t.wr (Reg.LNK.CRED_PEER p.val (bits arg.toNat 41 40)) (bits arg.toNat 39 24 * 2 ^ 20 + bits arg.toNat 23 0)) := rfl

/-- A PARAM_CRED word taken, noted and answered. -/
def State.credTaken (s : State) (p c v tag : Nat) : State := ((s.wr (Reg.LNK.CRED_PEER p c) v).marks p (3 + c)).answersOp p 3 tag false

theorem State.credTaken_rd (s : State) (p c v tag : Nat) : (s.credTaken p c v tag).rd (Reg.LNK.CRED_PEER p c) = v % 2 ^ 32 := by
  rw [State.credTaken, State.answersOp_rd, State.marks_rd, State.rd_wr_same]
  rfl

theorem State.credTaken_rd_ne (s : State) (p c v tag : Nat) {g : Field} (h : (Reg.LNK.CRED_PEER p c).key ≠ g.key) :
    (s.credTaken p c v tag).rd g = s.rd g := by
  rw [State.credTaken, State.answersOp_rd, State.marks_rd, State.rd_wr_ne _ _ h]

theorem State.credTaken_sent (s : State) (p c v tag : Nat) : ((s.credTaken p c v tag).link p).paramsSent = (s.link p).paramsSent := by
  rw [State.credTaken, State.answersOp_link_same, State.marks, State.setLink_link_same]
  rfl

theorem State.credTaken_frame (s : State) (p c v tag : Nat) :
    s.credTaken p c v tag = { s with regs := (s.credTaken p c v tag).regs, links := (s.credTaken p c v tag).links } :=
  regsLinks_trans (t := s.wr (Reg.LNK.CRED_PEER p c) v) rfl
    (State.regsLinks_of_links (links_trans (State.setLink_frame _ _ _) (State.answersOp_frame _ _ _ _ _)))

theorem exec_param0_reserved {s : State} {p : Fin 16} (tag : BitVec 4) {arg : BitVec 48} (hrun : s.running = true) (hst : s.linkState p.val = 3)
    (h : bits arg.toNat 1 0 = 3) : exec (.param0 p tag arg) s = .next (s.linkFail p.val 11) := by
  refine (congrArg (fun ok => Host.Outcome.next (s.onParam p.val 0x01 tag.toNat 0 ok (fun t => t.takesParam0 p.val arg.toNat)))
    (show (bits arg.toNat 1 0 != 3 && decide (1 ≤ bits arg.toNat 7 3) && decide (bits arg.toNat 7 3 ≤ 16)) = false by simp [h])).trans ?_
  rw [State.onParam_reserved _ _ _ _ hrun hst]

/-- What a link shows that relocks its bank to another rate (R305). -/
theorem State.relocking_shows (s : State) {p b rate : Nat} (hp : p < 16) (hb : b < 16) (hrate : rate < 4) :
    ((((s.wr (Reg.LNK.STAT_RATE p) rate).linkTo p 4).wr (Reg.OPT.STAT_RATE b) rate).beginRelock b 0).linkState p = 4 ∧
      ((((s.wr (Reg.LNK.STAT_RATE p) rate).linkTo p 4).wr (Reg.OPT.STAT_RATE b) rate).beginRelock b 0).rd (Reg.LNK.STAT_RATE p) = rate ∧
      ((((s.wr (Reg.LNK.STAT_RATE p) rate).linkTo p 4).wr (Reg.OPT.STAT_RATE b) rate).beginRelock b 0).rd (Reg.OPT.STAT_SYN b) = 1 ∧
      ((((s.wr (Reg.LNK.STAT_RATE p) rate).linkTo p 4).wr (Reg.OPT.STAT_RATE b) rate).beginRelock b 0).rd (Reg.OPT.STAT_RATE b) = rate := by
  have hrelock : ∀ (t : State) (g : Field), (Reg.OPT.SYN_CNT_RELOCK b).key ≠ g.key → (Reg.OPT.STAT_SYN b).key ≠ g.key →
      (t.beginRelock b 0).rd g = t.rd g := fun t g hcnt hsyn => by
    unfold State.beginRelock
    rw [State.rd_bump_ne _ hcnt, State.rd_wr_ne _ _ hsyn]
    rfl
  have hlnk : ∀ (t : State) (g : Field), g.onLnk p → ((t.wr (Reg.OPT.STAT_RATE b) rate).beginRelock b 0).rd g = t.rd g := fun t g hg => by
    have hne : ∀ f : Field, f.page = 0x060 + b → f.off < 0x1000 ∧ f.lo < 32 → f.key ≠ g.key := fun f hpage hf => hg.key_ne (by omega) hf
    rw [hrelock _ g (hne _ rfl (show 0x07c < 0x1000 ∧ 0 < 32 by decide)) (hne _ rfl (show 0x008 < 0x1000 ∧ 0 < 32 by decide)),
      State.rd_wr_ne _ _ (hne _ rfl (show 0x008 < 0x1000 ∧ 8 < 32 by decide))]
  refine ⟨?_, ?_, ?_, ?_⟩
  · rw [State.linkState, hlnk _ _ ⟨rfl, show 0x008 < 0x1000 by decide, show 0 < 32 by decide⟩]
    exact State.linkTo_state _ _ (by decide)
  · rw [hlnk _ _ ⟨rfl, show 0x008 < 0x1000 by decide, show 4 < 32 by decide⟩, State.linkTo,
      State.rd_wr_ne _ _ (by exact Field.key_ne_of_place rfl rfl rfl), State.setLink_rd, State.rd_wr_same]
    exact Nat.mod_eq_of_lt hrate
  · unfold State.beginRelock
    rw [State.rd_bump_ne _ (by exact Field.key_ne_of_place rfl rfl rfl), State.rd_wr_same]
    rfl
  · rw [hrelock _ _ (by exact Field.key_ne_of_place rfl rfl rfl) (by exact Field.key_ne_of_place rfl rfl rfl), State.rd_wr_same]
    exact Nat.mod_eq_of_lt hrate

/-- The last PARAM0 word, which asks another rate than the bank's: the bank relocks to it (R305). -/
theorem State.param0_relocks {s : State} {p : Nat} (a tag : Nat) (hp : p < 16) (hst : s.linkState p = 3) (hsent : (s.link p).paramsSent = true)
    (hops : (s.link p).ops = []) (hall : (s.link p).peerParams = 126) (hmap : mapClashes (s.link p).peerMap = false)
    (hopt : s.rd (Reg.OPT.STAT_RATE (s.bankOf p)) ≠ max (s.link p).ownRate (bits a 1 0)) (hown : (s.link p).ownRate < 3)
    (hsyn : s.rd (Reg.OPT.STAT_SYN (s.bankOf p)) ≠ 3) : ((s.param0Taken p a tag).paramCheck p).linkState p = 4 ∧
      ((s.param0Taken p a tag).paramCheck p).rd (Reg.LNK.STAT_RATE p) = max (s.link p).ownRate (bits a 1 0) ∧
      ((s.param0Taken p a tag).paramCheck p).rd (Reg.OPT.STAT_SYN (s.bankOf p)) = 1 ∧
      ((s.param0Taken p a tag).paramCheck p).rd (Reg.OPT.STAT_RATE (s.bankOf p)) = max (s.link p).ownRate (bits a 1 0) := by
  have hbank := bankOf_lt s hp
  have hlink := s.param0Taken_link p a tag
  have hbanks : (s.param0Taken p a tag).bankOf p = s.bankOf p := by
    rw [s.param0Taken_frame p a tag]
    rfl
  have hopts : ∀ g : Field, g.page = 0x060 + s.bankOf p → g.off < 0x1000 → g.lo < 32 → (s.param0Taken p a tag).rd g = s.rd g :=
    fun g hpage hoff hlo => by
      have hne : ∀ f : Field, f.page = 0x040 + p → f.off < 0x1000 → f.lo < 32 → f.key ≠ g.key := fun f hf hoff' hlo' =>
        Field.key_ne_of_page (by omega) ⟨hoff', hlo'⟩ ⟨hoff, hlo⟩
      rw [State.param0Taken_rd, State.takesParam0_rd_ne]
      simp only [List.mem_cons, List.not_mem_nil, or_false, forall_eq_or_imp, forall_eq]
      exact ⟨hne _ rfl (show 0x090 < 0x1000 by decide) (show 0 < 32 by decide), hne _ rfl (show 0x094 < 0x1000 by decide) (show 8 < 32 by decide),
        hne _ rfl (show 0x094 < 0x1000 by decide) (show 4 < 32 by decide), hne _ rfl (show 0x094 < 0x1000 by decide) (show 0 < 32 by decide)⟩
  have hrate : (s.param0Taken p a tag).agreedRate p = max (s.link p).ownRate (bits a 1 0) := by
    unfold State.agreedRate
    rw [hlink]
  have hlt : max (s.link p).ownRate (bits a 1 0) < 4 := max_lt (by omega) (Nat.mod_lt _ (by decide))
  have hcheck := State.paramCheck_relocks (s := s.param0Taken p a tag) hp ((s.param0Taken_state p a tag).trans hst) (by rw [hlink]; exact hsent)
    (by rw [hlink]; exact hops) (by rw [hlink, hall]; rfl) (by rw [hlink]; exact hmap)
    (by rw [hbanks, hopts _ rfl (show 0x008 < 0x1000 by decide) (show 0 < 32 by decide)]; exact hsyn)
    (by rw [hbanks, hrate, hopts _ rfl (show 0x008 < 0x1000 by decide) (show 8 < 32 by decide)]; exact hopt)
  rw [hbanks, hrate] at hcheck
  rw [hcheck]
  exact State.relocking_shows _ hp hbank hlt

/-- Settles O52: each pause, drain, state of training and parameter word does what its rule says. -/
theorem linksTrainAndDrain : Obligations.LinksTrainAndDrain := by
  unfold Obligations.LinksTrainAndDrain
  refine ⟨fun s p tag arg hrun hup hpeer hfrozen => ?_, fun s p tag arg hrun hup => ?_, fun s p a hrun hpeer hlong => ?_, fun s p a hpeer hshort => ?_,
    fun s p tag arg hrun hst hfresh => ?_, fun s p tag arg hrun hst => ?_, fun s p hrun hst hreplay hstream htx hrx => ?_, fun s p h => ?_,
    fun s p tag arg hrun => ?_, fun s via p d hd hl h8 h10 h9 hst => ?_, fun s via p d hd hl h8 h10 hst => ?_, fun s via p d hd hl h8 hup => ?_,
    fun s p hrun hsafe hst hauto hdis hslot => ?_, fun s p hrun hsafe hst hsyn hrestore hpass => ?_,
    fun s p tag arg hrun hst hrate hmin hmax hfresh hsent => ?_, fun s p tag arg hrun hst hfresh hsent hhigh hseats => ?_,
    fun s p tag arg c hrun hst hfresh hsent hhigh hc hhdr hhdr' hdata hdata' => ?_, fun s p tag arg hrun hst => ?_,
    fun s p tag arg hrun hst hrate hmin hmax hfresh hsent hops hall hmap hopt hown hsyn => ?_, fun s p hrun hst hrx htx => ?_, fun s p h => ?_,
    fun s p st n r hrun hst h hlate => ?_, fun s p h => ?_⟩
  · refine ⟨_, exec_pause_first tag arg hrun hup hpeer hfrozen, ?_, State.setLink_link_same _ _ _, fun k hk => ?_, fun g hg => ?_, ?_⟩
    · rw [State.setLink_rd, State.peerPauses, State.wrBit_bit _ _ _ _ _ (show 2 < 3 by decide)]
      rfl
    · rw [State.setLink_link_ne _ _ hk, State.peerPauses, State.wrBit_link, State.setLink_link_ne _ _ hk]
    · rw [State.setLink_rd, State.peerPauses, State.wrBit_sameFields _ _ _ _ g hg, State.setLink_rd]
    · rfl
  · refine ⟨_, congrArg (fun t : State => Host.Outcome.next t) (if_pos (by simp [hrun, hup])), s.peerResumes_pause p.val,
      s.peerResumes_peer p.isLt, fun h => (State.peerResumes_thaws p.isLt h).1, fun a h => (State.peerResumes_thaws p.isLt h).2 a,
      s.peerResumes_sameFields p.val⟩
  · refine ⟨_, exec_pauseLong_late hrun hpeer hlong, State.raise1_shows _ _ (show 4 < 32 by decide), ?_, ?_⟩
    · rw [State.raise1_link, s.peerResumes_peer p.isLt]
    · rw [State.raise1_rd _ _ _ (eventFields_key_ne_of_outside rfl (lnk_page p.val)), State.peerResumes_pause]
  · refine congrArg (fun t : State => Host.Outcome.next t) ?_
    simp only [hpeer]
    exact if_neg (by simp [Nat.not_le.mpr hshort])
  · have hword : (s.linkTo p.val 8).answerWord p.val 0x28 tag.toNat false = s.answerWord p.val 0x28 tag.toNat false := by
      refine State.answerWord_of_role _ _ _ ?_ fun k => ?_
      · rw [State.linkTo, State.rd_wr_ne _ _ (by exact Field.key_ne_of_place rfl rfl rfl), State.setLink_rd]
      · by_cases hk : k = p.val
        · rw [hk, State.linkTo_link_same]
        · rw [State.linkTo_link_ne _ _ hk]
    refine ⟨_, exec_drainReq_fresh hrun hst hfresh, ?_, ?_, ?_, fun g hg => ?_, ?_⟩
    · rw [State.linkState, State.answersOp_rd]
      exact State.linkTo_state _ _ (by decide)
    · rw [State.answersOp_link_same, State.linkTo_link_same]
      rfl
    · rw [State.answersOp_link_same, State.linkTo_link_same, hword]
      rfl
    · rw [State.answersOp_rd, State.linkTo, State.rd_wr_ne _ _ (hg _ List.mem_cons_self), State.setLink_rd]
    · exact regsLinks_trans (s.linkTo_regsLinks p.val 8) (State.regsLinks_of_links (State.answersOp_frame _ _ _ _ _))
  · have hlink : (s.peerDrained p.val).link p.val = { s.link p.val with drainedRx := true } := State.setLink_link_same _ _ _
    have hst' : (s.peerDrained p.val).linkState p.val = 8 := hst
    have hcmd := exec_drained_up tag arg hrun hst
    refine ⟨fun htx => ?_, fun htx hwait => ?_⟩
    · rw [hcmd, State.drainEnds_waits (.inl (by rw [hlink]; exact htx)), State.peerDrained]
    · obtain ⟨hstate, -, hops, hresets, -⟩ := (s.peerDrained p.val).toWait_spec (p := p.val) 4 p.isLt
      rw [State.drainEnds_done hst' (by rw [hlink]; exact htx) (by rw [hlink])] at hcmd
      exact ⟨_, hcmd, hstate, hresets, hops⟩
  · exact exec_drainedSend_done hrun hst hreplay hstream htx hrx
  · refine congrArg (fun t : State => Host.Outcome.next t) (if_neg ?_)
    rcases h with h | ⟨h, hpad⟩ <;> simp [State.allAcked, *]
  · refine ⟨fun h => ?_, fun h => ?_⟩
    · obtain ⟨hstate, hsince, -, -, -⟩ := s.toWait_spec (p := p.val) 0 p.isLt
      exact ⟨_, exec_reset_training tag arg hrun h, hstate, hsince⟩
    · exact exec_reset_untrained tag arg h
  · exact linkRetrain_waits hd hl h8 h10 h9 hst
  · exact linkReset_drains hd hl h8 h10 hst
  · exact linkDisable_off hd hl h8 hup
  · have hflag : s.flag (Reg.LNK.CTRL_AUTO_RETRAIN p.val) = true ∧ s.flag (Reg.LNK.CTRL_DISABLE p.val) = false := by
      simp [State.flag, hauto, hdis]
    obtain ⟨hstate, hsince, -, -, -⟩ := s.toWait_spec (p := p.val) 0 p.isLt
    refine ⟨fun h => ⟨_, congrArg (fun t : State => Host.Outcome.next t) (if_pos (by simp [hrun, hsafe, hst, hflag, hslot, h])), hstate, hsince⟩,
      fun h => congrArg (fun t : State => Host.Outcome.next t) (if_neg (by simp [Nat.not_le.mpr h]))⟩
  · obtain ⟨hstate, hsince, hops, hsent, hsame, hframe⟩ := s.toAlign_spec p.val
    exact ⟨fun h => ⟨_, congrArg (fun t : State => Host.Outcome.next t) (if_pos (by simp [hrun, hsafe, hst, hsyn, hrestore, hpass, h])), hstate,
      hsince, hops, hsent, hsame, hframe⟩, fun h => congrArg (fun t : State => Host.Outcome.next t) (if_neg (by simp [Nat.not_le.mpr h]))⟩
  · have hlink := s.param0Taken_link p.val arg.toNat tag.toNat
    have hcmd := exec_param0 hrun hst hrate hmin hmax hfresh
    rw [State.paramCheck_unsent (by rw [hlink]; exact hsent)] at hcmd
    obtain ⟨hid, hvalid, hport, hpos⟩ := s.takesParam0_peer p.val arg.toNat
    refine ⟨_, hcmd, ?_, ?_, ?_, ?_, ?_, ?_, ?_, ?_, s.param0Taken_frame _ _ _⟩
    · rw [State.param0Taken_rd, hid]
    · rw [State.param0Taken_rd, hvalid]
    · rw [State.param0Taken_rd, hport]
    · rw [State.param0Taken_rd, hpos]
    · rw [hlink]
    · rw [hlink]
    · exact (s.param0Taken_state p.val arg.toNat tag.toNat).trans hst
    · rw [hlink]
  · have hok : mapOk arg.toNat = true := by
      simp only [mapOk, hhigh, beq_self_eq_true, Bool.true_and, List.all_map, List.all_eq_true, List.mem_range, Function.comp, Bool.or_eq_true,
        decide_eq_true_eq]
      exact fun j hj => .inr (hseats j hj)
    obtain ⟨l, hl, hmap, hsent', hwords⟩ := s.mapTaken_link p.val arg.toNat tag.toNat
    have hcmd := exec_paramMap_eq s p tag arg
    rw [hok, State.onParam_acts _ _ hrun hst hfresh, ← State.mapTaken, State.paramCheck_unsent (by rw [hl, hsent', hsent])] at hcmd
    refine ⟨_, hcmd, ?_, fun i hi => ?_, ?_, ?_⟩
    · exact (State.answersOp_rd _ _ _ _ _ _).trans ((State.marks_rd _ _ _ _).trans hst)
    · rw [hl, hmap, s.takesMap_getD p.val arg.toNat hi]
    · rw [hl, hwords]
    · exact links_trans (links_trans (State.setLink_frame _ _ _) (State.setLink_frame _ _ _)) (State.answersOp_frame _ _ _ _ _)
  · have hok : credOk arg.toNat = true := by
      unfold credOk
      dsimp only
      split
      · simp [hhigh, hhdr, hdata, hhdr', hdata']
      · simp only [hhigh, hhdr, hdata, beq_self_eq_true, decide_true, Bool.and_self, Bool.true_and, Bool.and_true, Bool.and_eq_true, decide_eq_true_eq]
        omega
    have hcmd := exec_paramCred_eq s p tag arg
    rw [hok, hc, State.onParam_acts _ _ hrun hst hfresh] at hcmd
    have hlt : bits arg.toNat 39 24 * 2 ^ 20 + bits arg.toNat 23 0 < 2 ^ 32 := by omega
    generalize bits arg.toNat 39 24 * 2 ^ 20 + bits arg.toNat 23 0 = v at hcmd hlt ⊢
    have hkey : (Reg.LNK.CRED_PEER p.val c.val).key ≠ (Reg.LNK.STAT_STATE p.val).key :=
      Field.key_ne_of_off (show 0x060 + 0x4 * c.val ≠ 0x008 by omega) ⟨show 0x060 + 0x4 * c.val < 0x1000 by omega, show 0 < 32 by decide⟩
        ⟨show 0x008 < 0x1000 by decide, show 0 < 32 by decide⟩
    rw [← State.credTaken, State.paramCheck_unsent ((s.credTaken_sent p.val c.val v tag.toNat).trans hsent)] at hcmd
    refine ⟨_, hcmd, (s.credTaken_rd_ne _ _ _ _ hkey).trans hst, (s.credTaken_rd _ _ _ _).trans (Nat.mod_eq_of_lt hlt), fun g hg => ?_,
      s.credTaken_frame _ _ _ _⟩
    exact s.credTaken_rd_ne _ _ _ _ (hg _ List.mem_cons_self)
  · obtain ⟨hstate, hreason, hshows⟩ := s.linkFail_spec (p := p.val) (reason := 11) p.isLt (by decide)
    refine ⟨fun h => ?_, fun h => ?_, fun h => ?_⟩
    · exact ⟨_, exec_param0_reserved tag hrun hst h, hstate, hreason, hshows⟩
    · have hok : mapOk arg.toNat = false := by
        unfold mapOk
        rw [Bool.and_eq_false_iff]
        refine .inr (List.all_eq_false.mpr ⟨bits arg.toNat 4 0, List.mem_map.mpr ⟨0, by simp, rfl⟩, ?_⟩)
        rw [h]
        decide
      have hcmd := exec_paramMap_eq s p tag arg
      rw [hok, State.onParam_reserved _ _ _ _ hrun hst] at hcmd
      exact ⟨_, hcmd, hstate, hreason⟩
    · have hok : credOk arg.toNat = false := by
        unfold credOk
        simp [h]
      have hcmd := exec_paramCred_eq s p tag arg
      rw [hok, State.onParam_reserved _ _ _ _ hrun hst] at hcmd
      exact ⟨_, hcmd, hstate, hreason⟩
  · exact ⟨_, exec_param0 hrun hst hrate hmin hmax hfresh, State.param0_relocks _ _ p.isLt hst hsent hops hall hmap hopt hown hsyn⟩
  · obtain ⟨hregs, l, hl, htxNext, htxAcked, hrxNext, hused, hback⟩ := s.toActive_spec (p := p.val)
    refine ⟨_, congrArg (fun t : State => Host.Outcome.next t) (if_pos (by simp [hrun, hst, hrx, htx])), ?_, ?_, ?_, ?_, ?_, ?_, ?_, fun g hg => ?_⟩
    · rw [State.linkState, State.rd_of_regs hregs, State.rd_bump_ne _ (by exact Field.key_ne_of_place rfl rfl rfl)]
      exact State.linkTo_state _ _ (by decide)
    · rw [hl, htxNext]
    · rw [hl, htxAcked]
    · rw [hl, hrxNext]
    · rw [hl, hused]
    · rw [hl, hback]
    · rw [State.rd_of_regs hregs, State.rd_bump_same, State.rd_bump_same, State.linkTo, State.rd_wr_ne _ _ (by exact Field.key_ne_of_place rfl rfl rfl),
        State.setLink_rd]
    · rw [State.rd_of_regs hregs, State.rd_bump_ne _ (hg _ (by simp)), State.linkTo, State.rd_wr_ne _ _ (hg _ (by simp)), State.setLink_rd]
  · exact congrArg (fun t : State => Host.Outcome.next t) (if_neg (by rcases h with h | h <;> simp [Nat.not_le.mpr h]))
  · obtain ⟨hstate, hreason, hshows⟩ := s.linkFail_spec (p := p.val) (reason := r) p.isLt (by
      simp only [List.mem_cons, List.not_mem_nil, or_false, Prod.mk.injEq] at h
      omega)
    exact ⟨_, exec_linkTrainingTimeout_late hrun hst h hlate, hstate, hreason, hshows⟩
  · exact exec_linkTrainingTimeout_early h

end Sys2Proof.Machine
end

section
/-! SUPPORT. Fans: their members' side, and the slots of the Flume (spec sections 09 and 11, R310 to R312, R380 to R390). -/

namespace Sys2Proof.Machine

/-! ## A fan received (R310 to R312) -/

/-- Paging starts in the pool's own registers. -/
theorem State.startPaging_rd (s : State) (b : Bool) {p : Nat} {g : Field} (hg : g.onLnk p) : (s.startPaging b).rd g = s.rd g := by
  have hevent : ∀ e ∈ eventFields Err.RSV.PAGEOUT, e.key ≠ g.key := fun e he => by
    have hplace : ∀ e ∈ eventFields Err.RSV.PAGEOUT, e.page < 0x040 ∧ e.off < 0x1000 ∧ e.lo < 32 := by decide
    obtain ⟨hpage, hrange⟩ := hplace e he
    exact hg.key_ne (by omega) hrange
  unfold State.startPaging
  split
  · rfl
  · dsimp only
    split
    · rfl
    · rw [State.raise1_rd _ _ _ hevent, State.rd_wr_ne _ _ (hg.key_ne (show 0x009 ≠ 0x040 + p by omega) (by decide))]
      rfl

/-- Pages are taken in the pool's own registers. -/
theorem State.allocate_rd (s : State) (k : Pool) (n : Nat) {p : Nat} {g : Field} (hg : g.onLnk p) : (s.allocate k n).2.rd g = s.rd g := by
  unfold State.allocate State.takePages
  split
  · rename_i t ht
    split at ht
    · cases ht
      have hused : (Reg.RSV.USED (poolNo k)).key ≠ g.key :=
        hg.key_ne (show 0x009 ≠ 0x040 + p by omega) ⟨show 0x050 + 0x4 * poolNo k < 0x1000 by cases k <;> decide, show 0 < 32 by decide⟩
      have hwr : (s.wr (Reg.RSV.USED (poolNo k)) (s.poolUsed k + n)).rd g = s.rd g := State.rd_wr_ne _ _ hused
      unfold State.pageIfDue
      split
      · exact (State.startPaging_rd _ _ hg).trans hwr
      · split
        · exact (State.startPaging_rd _ _ hg).trans hwr
        · exact hwr
    · cases ht
  · dsimp only
    split
    · exact State.startPaging_rd _ _ hg
    · rfl

/-- A port that has entered a fan, with its group and members. -/
def State.fanEntered (s : State) (p a : Nat) : State :=
  (((s.enterFanRx p (s.rxPages p)).wr (Reg.LNK.STAT_FAN_ROLE p) 3).wr (Reg.LNK.FAN_STAT_GROUP p) (bits a 7 0)).wr (Reg.LNK.FAN_STAT_MEMBERS p)
    (bits a 31 16)

theorem State.rxPages_congr {s t : State} {p : Nat} (h : ∀ g : Field, g.onLnk p → t.rd g = s.rd g) : t.rxPages p = s.rxPages p := by
  have hadv : ∀ c < 3, t.rd (Reg.LNK.CRED_ADV_DATA p (c + 1)) = s.rd (Reg.LNK.CRED_ADV_DATA p (c + 1)) := fun c hc =>
    h _ ⟨rfl, show 0x050 + 0x4 * (c + 1) < 0x1000 by omega, show 0 < 32 by decide⟩
  unfold State.rxPages
  rw [List.map_congr_left fun c hc => hadv c (List.mem_range.mp hc)]

theorem exec_fanEnter_granted {s : State} {p : Fin 16} {tag : BitVec 4} {arg : BitVec 48} (hrun : s.running = true) (hup : s.linkUp p.val = true)
    (hfresh : s.freshOp p.val 0x30 tag.toNat = true) (hrate : s.rd (Reg.LNK.STAT_RATE p.val) = bits arg.toNat 11 10)
    (hfec : s.flag (Reg.LNK.STAT_FEC p.val) = true) (hfan : s.returnsFan p.val = false) (hpages : (s.allocate .rxs (s.rxPages p.val)).1 = true) :
    exec (.fanEnter p tag arg) s =
      .next (((s.allocate .rxs (s.rxPages p.val)).2.fanEntered p.val arg.toNat).answersOp p.val 0x30 tag.toNat false) := by
  refine congrArg Host.Outcome.next ((if_pos (by simp [hrun, hup])).trans ((State.onOp_fresh _ hfresh).trans ?_))
  dsimp only
  rw [if_neg (by simp [hrate, hfec, hfan])]
  generalize s.allocate .rxs (s.rxPages p.val) = r at hpages
  obtain ⟨ok, u⟩ := r
  cases (show ok = true from hpages)
  rfl

theorem exec_fanEnter_refused {s : State} {p : Fin 16} {tag : BitVec 4} {arg : BitVec 48} (hrun : s.running = true) (hup : s.linkUp p.val = true)
    (hfresh : s.freshOp p.val 0x30 tag.toNat = true)
    (h : s.rd (Reg.LNK.STAT_RATE p.val) ≠ bits arg.toNat 11 10 ∨ s.flag (Reg.LNK.STAT_FEC p.val) = false ∨ s.returnsFan p.val = true) :
    exec (.fanEnter p tag arg) s = .next (s.answersOp p.val 0x30 tag.toNat true) := by
  refine congrArg Host.Outcome.next ((if_pos (by simp [hrun, hup])).trans ((State.onOp_fresh _ hfresh).trans ?_))
  dsimp only
  rw [if_pos h]

theorem exec_fanExit_fresh {s : State} {p : Fin 16} {tag : BitVec 4} (arg : BitVec 48) (hrun : s.running = true) (hup : s.linkUp p.val = true)
    (hfresh : s.freshOp p.val 0x31 tag.toNat = true) (hfan : s.returnsFan p.val = true) :
    exec (.fanExit p tag arg) s = .next ((s.leaveFanRx p.val).answersOp p.val 0x31 tag.toNat false) := by
  refine congrArg Host.Outcome.next ((if_pos (by simp [hrun, hup])).trans ((State.onOp_fresh _ hfresh).trans ?_))
  rw [if_pos hfan]

theorem fanRx_ne (p : Nat) : fanRx p ≠ p := by
  unfold fanRx
  omega

/-- The registers and links of a port that has entered a fan. -/
theorem State.fanEntered_spec (s : State) (p a : Nat) : (s.fanEntered p a).rd (Reg.LNK.STAT_FAN_ROLE p) = 3 ∧
    (s.fanEntered p a).rd (Reg.LNK.FAN_STAT_GROUP p) = bits a 7 0 ∧ (s.fanEntered p a).rd (Reg.LNK.FAN_STAT_MEMBERS p) = bits a 31 16 ∧
    ((s.fanEntered p a).link (fanRx p)).rxNext = 0 ∧ ((s.fanEntered p a).link (fanRx p)).rxReserved = s.rxPages p ∧
    (s.fanEntered p a).link p = s.link p := by
  have hlink : ∀ k, (s.fanEntered p a).link k = (s.enterFanRx p (s.rxPages p)).link k := fun k => by
    unfold State.fanEntered
    rw [State.wr_link, State.wr_link, State.wr_link]
  refine ⟨?_, ?_, ?_, ?_, ?_, ?_⟩
  · unfold State.fanEntered
    rw [State.rd_wr_ne _ _ (by exact Field.key_ne_of_place rfl rfl rfl), State.rd_wr_ne _ _ (by exact Field.key_ne_of_place rfl rfl rfl),
      State.rd_wr_same]
    rfl
  · unfold State.fanEntered
    rw [State.rd_wr_ne _ _ (by exact Field.key_ne_of_place rfl rfl rfl), State.rd_wr_same]
    exact Nat.mod_eq_of_lt (Nat.mod_lt _ (by decide))
  · unfold State.fanEntered
    rw [State.rd_wr_same]
    exact Nat.mod_eq_of_lt (Nat.mod_lt _ (by decide))
  · rw [hlink, State.enterFanRx, State.setLink_link_same]
    rfl
  · rw [hlink, State.enterFanRx, State.setLink_link_same]
  · rw [hlink, State.enterFanRx, State.setLink_link_ne _ _ (fanRx_ne p).symm]

theorem Link.answers_words (l : Link) (op tag : Nat) (r : Bool) (w : DWord) : (l.answers op tag r w).words = l.words ++ [w] := rfl

/-- A port that returns a fan answers with the fan's SEQ. -/
theorem State.answerWord_of_fan {s : State} {p : Nat} (op tag : Nat) (hp : p < 16) (hrole : s.rd (Reg.LNK.STAT_FAN_ROLE p) = 3)
    (hnext : (s.link (fanRx p)).rxNext = 0) : s.answerWord p op tag false = ctrlWord 0x18 0 (op + tag * 2 ^ 8) := by
  have hport : s.rxStream p = fanRx p := by
    unfold State.rxStream State.returnsFan
    rw [hrole, if_pos (by simp [hp])]
  have harg : op + tag * 2 ^ 8 + (0 : BitVec 24).toNat * 2 ^ 16 + ofBool false * 2 ^ 40 = op + tag * 2 ^ 8 := by
    rw [show (0 : BitVec 24).toNat = 0 from rfl, show ofBool false = 0 from rfl, Nat.zero_mul, Nat.zero_mul, Nat.add_zero]
  unfold State.answerWord
  rw [hport, hnext, harg]

/-- A port that leaves a fan received (R312). -/
theorem State.leaveFanRx_spec (s : State) (p : Nat) : (s.leaveFanRx p).rd (Reg.LNK.STAT_FAN_ROLE p) = 0 ∧
    (s.leaveFanRx p).rd (Reg.LNK.FAN_STAT_GROUP p) = 0 ∧ ((s.leaveFanRx p).link (fanRx p)).rxReserved = 0 ∧
    sameFields [Reg.LNK.STAT_FAN_ROLE p, Reg.LNK.FAN_STAT_GROUP p, Reg.LNK.FAN_STAT_MEMBERS p, Reg.RSV.USED (poolNo .rxs)] s (s.leaveFanRx p) := by
  unfold State.leaveFanRx
  dsimp only
  refine ⟨?_, ?_, ?_, fun g hg => ?_⟩
  · rw [State.rd_wr_ne _ _ (by exact Field.key_ne_of_place rfl rfl rfl), State.rd_wr_ne _ _ (by exact Field.key_ne_of_place rfl rfl rfl),
      State.rd_wr_same]
    rfl
  · rw [State.rd_wr_ne _ _ (by exact Field.key_ne_of_place rfl rfl rfl), State.rd_wr_same]
    rfl
  · rw [State.wr_link, State.wr_link, State.wr_link, State.setLink_link_same]
  · rw [State.rd_wr_ne _ _ (hg _ (by simp)), State.rd_wr_ne _ _ (hg _ (by simp)), State.rd_wr_ne _ _ (hg _ (by simp)), State.setLink_rd,
      State.returnPages, State.rd_wr_ne _ _ (hg _ (by simp))]

/-! ## A fan's slot asked in, and out (R380, R388) -/

theorem exec_fanEnterWrite {s : State} {via : Path} (k : Fin 8) (hd : s.deaf via = false) (hl : s.locked via 0x008 = false) :
    exec (.fanEnterWrite via k) s = .next (s.wrFanCtrl k.val 1) := by
  have himpl : ∀ k : Fin 8, implemented 0x008 (0x104 + 0x10 * k.val) = true := by decide
  exact congrArg (fun t : State => Host.Outcome.next t) (State.access_of_not_locked (s := s) 1 (State.wrFanCtrl k.val) hd (himpl k) hl)

theorem exec_fanExitWrite {s : State} {via : Path} (k : Fin 8) (hd : s.deaf via = false) (hl : s.locked via 0x008 = false) :
    exec (.fanExitWrite via k) s = .next (s.wrFanCtrl k.val 2) := by
  have himpl : ∀ k : Fin 8, implemented 0x008 (0x104 + 0x10 * k.val) = true := by decide
  exact congrArg (fun t : State => Host.Outcome.next t) (State.access_of_not_locked (s := s) 2 (State.wrFanCtrl k.val) hd (himpl k) hl)

theorem State.wrFanCtrl_enter (s : State) (k : Nat) : s.wrFanCtrl k 1 =
    if s.fanState k = 0 ∧ (s.fan k).request = false then s.setFan k { s.fan k with request := true, since := s.now } else s := by
  have hbits : bitAt 1 0 = true ∧ bitAt 1 1 = false := by decide
  unfold State.wrFanCtrl
  simp [hbits]

theorem State.wrFanCtrl_exit (s : State) (k : Nat) : s.wrFanCtrl k 2 = if s.fanState k = 4 then s.fanTo k 5
    else if s.fanState k ∈ [1, 2, 3] then s.setFan k { s.fan k with exitAsked := true } else s := by
  have hbits : bitAt 2 0 = false ∧ bitAt 2 1 = true := by decide
  unfold State.wrFanCtrl
  simp only [hbits, Bool.false_eq_true, false_and, if_false, Bool.not_true]
  generalize hst : s.fanState k = st
  split
  · rfl
  · simp
  · simp
  · simp
  · rename_i h4 h1 h2 h3
    rw [if_neg h4, if_neg (by simp only [List.mem_cons, List.not_mem_nil, or_false]; exact fun h => h.elim h1 fun h => h.elim h2 h3)]

theorem State.fanTo_fan_same (s : State) (k st : Nat) : (s.fanTo k st).fan k = { s.fan k with since := s.now } :=
  (State.wr_fan _ _ _ _).trans (State.fan_setFan_same _ _ _)

theorem State.fanTo_state (s : State) (k : Nat) {st : Nat} (h : st < 8) : (s.fanTo k st).fanState k = st :=
  (State.rd_wr_same _ _ _).trans (Nat.mod_eq_of_lt h)

/-- ENTER asks for a slot that is IDLE. -/
theorem State.wrFanCtrl_enter_spec (s : State) (k : Nat) :
    (s.fanState k = 0 → ((s.wrFanCtrl k 1).fan k).request = true ∧ (s.wrFanCtrl k 1).fanState k = 0) ∧
      (s.fanState k ≠ 0 → s.wrFanCtrl k 1 = s) ∧ s.wrFanCtrl k 1 = { s with flm := (s.wrFanCtrl k 1).flm } := by
  rw [State.wrFanCtrl_enter]
  refine ⟨fun h => ?_, fun h => if_neg fun hboth => h hboth.1, ?_⟩
  · cases hask : (s.fan k).request with
    | false =>
      rw [if_pos ⟨h, rfl⟩, State.fan_setFan_same]
      exact ⟨rfl, h⟩
    | true =>
      rw [if_neg (by simp)]
      exact ⟨hask, h⟩
  · split <;> rfl

/-- EXIT asks a slot to leave, as its state allows. -/
theorem State.wrFanCtrl_exit_spec (s : State) (k : Nat) :
    (s.fanState k = 0 → s.wrFanCtrl k 2 = s) ∧
      (s.fanState k = 4 → (s.wrFanCtrl k 2).fanState k = 5 ∧ ((s.wrFanCtrl k 2).fan k).since = s.now) ∧
      (s.fanState k ∈ [1, 2, 3] → ((s.wrFanCtrl k 2).fan k).exitAsked = true ∧ (s.wrFanCtrl k 2).fanState k = s.fanState k) ∧
      (s.fanState k ∈ [5, 6] → s.wrFanCtrl k 2 = s) ∧
      s.wrFanCtrl k 2 = { s with regs := (s.wrFanCtrl k 2).regs, flm := (s.wrFanCtrl k 2).flm } := by
  have hnone : s.fanState k ≠ 4 → s.fanState k ∉ [1, 2, 3] → s.wrFanCtrl k 2 = s := fun h4 h123 => by
    rw [State.wrFanCtrl_exit, if_neg h4, if_neg h123]
  refine ⟨fun h => hnone (by rw [h]; decide) (by rw [h]; decide), fun h => ?_, fun h => ?_, fun h => ?_, ?_⟩
  · rw [State.wrFanCtrl_exit, if_pos h, State.fanTo_fan_same]
    exact ⟨State.fanTo_state _ _ (by decide), rfl⟩
  · have h4 : s.fanState k ≠ 4 := fun h' => by simp [h'] at h
    rw [State.wrFanCtrl_exit, if_neg h4, if_pos h, State.fan_setFan_same]
    exact ⟨rfl, rfl⟩
  · simp only [List.mem_cons, List.not_mem_nil, or_false] at h
    refine hnone (by omega) ?_
    simp only [List.mem_cons, List.not_mem_nil, or_false]
    omega
  · rw [State.wrFanCtrl_exit]
    split
    · rfl
    · split <;> rfl

/-! ## A member lost (R386, R390) -/

/-- A member of a fan in use: its fault takes its link down, or the fan's timer names it. -/
def State.memberLost (s : State) (k p : Nat) : State :=
  match (s.link p).down with
  | some f => if s.clk.cycle == 0 && decide (f.at_ < s.now) && s.linkUp p then (s.takeDown p f).settle else s
  | .none => if 8 ≤ Tab.read 0 (s.fan k).expiries p then s.linkFault p 1 noLane (s.link (fanTx k)).oldest else s

theorem exec_fanMemberLost {s : State} {k : Fin 8} {p : Fin 16} (hrun : s.running = true) (hmember : (s.fanMembers k.val).contains p.val = true)
    (hst : s.fanState k.val ≠ 0) : exec (.fanMemberLost k p) s = .next (s.memberLost k.val p.val) :=
  congrArg Host.Outcome.next (if_pos (by rw [hrun, hmember, bne_iff_ne.mpr hst]; rfl))

theorem State.memberLost_up {s : State} {k p : Nat} (h : (s.link p).down = .none) : s.memberLost k p =
    if 8 ≤ Tab.read 0 (s.fan k).expiries p then s.linkFault p 1 noLane (s.link (fanTx k)).oldest else s := by
  unfold State.memberLost
  simp only [h]

theorem State.memberLost_down {s : State} {k p : Nat} {f : LinkFault} (h : (s.link p).down = some f) : s.memberLost k p =
    if s.clk.cycle == 0 && decide (f.at_ < s.now) && s.linkUp p then (s.takeDown p f).settle else s := by
  unfold State.memberLost
  simp only [h]

/-! ## The check of a slot's request (R380, Table 11.3) -/

theorem State.checkFan_of_unasked {s : State} {k : Nat} (h : (s.fan k).request = false) : s.checkFan k = s := by
  unfold State.checkFan
  dsimp only
  rw [if_pos (by simp [h])]

/-- The ports that a slot's mask names. -/
def State.fanMask (s : State) (k : Nat) : List Nat := setBits 16 (s.rd (Reg.FLM.FAN_CFG_MASK k))

/-- A slot whose request is taken up. -/
def State.fanAsked (s : State) (k : Nat) : State := s.setFan k { FanSlot.reset with since := s.now }

/-- The check in the order of Table 11.3. -/
theorem State.checkFan_asked {s : State} {k : Nat} (hask : (s.fan k).request = true) (hsince : (s.fan k).since < s.now) : s.checkFan k =
    if s.badFanCfg k then (s.fanAsked k).wr (Reg.FLM.FAN_STAT_RESULT k) 2
    else if !s.flag Reg.FLM.STAT_FAN_AVAIL then (s.fanAsked k).wr (Reg.FLM.FAN_STAT_RESULT k) 3
    else if (s.fanMask k).any fun p => (s.slotOfFibre p).isSome then (s.fanAsked k).wr (Reg.FLM.FAN_STAT_RESULT k) 4
    else if !((s.fanMask k).filter (s.badMember k)).isEmpty then
      ((s.fanAsked k).wr (Reg.FLM.FAN_REFUSE k) (maskOf ((s.fanMask k).filter (s.badMember k)))).wr (Reg.FLM.FAN_STAT_RESULT k) 5
    else (((s.fanAsked k).wr (Reg.FLM.FAN_REFUSE k) 0).wr (Reg.FLM.FAN_STAT_MEMBERS k) (maskOf (s.fanMask k))).fanTo k 1 := by
  unfold State.checkFan
  dsimp only
  rw [if_neg (by simp [hask, hsince])]
  rfl

theorem State.checkFan_fan_ne (s : State) {k j : Nat} (h : j ≠ k) : (s.checkFan k).fan j = s.fan j := by
  have hasked : (s.fanAsked k).fan j = s.fan j := State.fan_setFan_ne _ _ _ _ h.symm
  unfold State.checkFan
  dsimp only
  split
  · rfl
  · rw [← State.fanAsked]
    split
    · exact hasked
    · split
      · exact hasked
      · split
        · exact hasked
        · split
          · exact hasked
          · exact (State.fan_setFan_ne _ _ _ _ h.symm).trans hasked

/-- Where one slot asks, the check is that slot's. -/
theorem foldl_checkFan {s : State} {k : Nat} (hk : k < 8) (h : ∀ j < 8, j ≠ k → (s.fan j).request = false) :
    (List.range 8).foldl State.checkFan s = s.checkFan k := by
  refine foldl_at State.checkFan (pre := fun t => t = s) (post := fun t => t = s.checkFan k) List.nodup_range (List.mem_range.mpr hk)
    (fun t j hj hne ht => ?_) (fun t ht => by rw [ht]) (fun t j hj hne ht => ?_) rfl
  · rw [ht, State.checkFan_of_unasked (h j (List.mem_range.mp hj) hne)]
  · rw [ht, State.checkFan_of_unasked]
    rw [s.checkFan_fan_ne hne, h j (List.mem_range.mp hj) hne]

/-- The fields of a slot that the check of its request can change. -/
def slotFields (k : Nat) : List Field := [Reg.FLM.FAN_STAT_STATE k, Reg.FLM.FAN_STAT_RESULT k, Reg.FLM.FAN_STAT_MEMBERS k, Reg.FLM.FAN_REFUSE k]

/-- A slot whose request is dealt with: it is in the state named, and nothing else of the die has changed. -/
def State.slotJudged (s t : State) (k st : Nat) : Prop := (t.fan k).request = false ∧ t.fanState k = st ∧ sameFields (slotFields k) s t ∧
  t = { s with regs := t.regs, flm := t.flm }

theorem State.slotJudged.refused {s t : State} {k r : Nat} (h : s.slotJudged t k 0) (hr : r < 16) :
    s.slotJudged (t.wr (Reg.FLM.FAN_STAT_RESULT k) r) k 0 ∧ (t.wr (Reg.FLM.FAN_STAT_RESULT k) r).rd (Reg.FLM.FAN_STAT_RESULT k) = r := by
  obtain ⟨hask, hstate, hsame, hframe⟩ := h
  refine ⟨⟨hask, ?_, fun g hg => ?_, ?_⟩, ?_⟩
  · rw [State.fanState, State.rd_wr_ne _ _ (Field.key_ne_of_lo (show 8 ≠ 0 by decide) (show 8 < 32 by decide) (show 0 < 32 by decide))]
    exact hstate
  · rw [State.rd_wr_ne _ _ (hg _ (by simp [slotFields])), hsame g hg]
  · rw [hframe]
    rfl
  · rw [State.rd_wr_same]
    exact Nat.mod_eq_of_lt hr

theorem State.fanAsked_judged {s : State} {k : Nat} (hidle : s.fanState k = 0) : s.slotJudged (s.fanAsked k) k 0 :=
  ⟨by rw [State.fanAsked, State.fan_setFan_same]; rfl, hidle, fun _ _ => rfl, rfl⟩

theorem fanRefuse_key_ne_state (k : Nat) : (Reg.FLM.FAN_REFUSE k).key ≠ (Reg.FLM.FAN_STAT_STATE k).key := by
  simp only [Reg.FLM.FAN_REFUSE, Reg.FLM.FAN_STAT_STATE, Field.key]
  omega

theorem State.fanRefuse_judged {s t : State} {k : Nat} (h : s.slotJudged t k 0) (v : Nat) : s.slotJudged (t.wr (Reg.FLM.FAN_REFUSE k) v) k 0 := by
  obtain ⟨hask, hstate, hsame, hframe⟩ := h
  refine ⟨hask, ?_, fun g hg => ?_, ?_⟩
  · rw [State.fanState, State.rd_wr_ne _ _ (fanRefuse_key_ne_state k)]
    exact hstate
  · rw [State.rd_wr_ne _ _ (hg _ (by simp [slotFields])), hsame g hg]
  · rw [hframe]
    rfl

theorem State.fanEntering_judged {s t : State} {k : Nat} (h : s.slotJudged t k 0) (v : Nat) :
    s.slotJudged ((t.wr (Reg.FLM.FAN_STAT_MEMBERS k) v).fanTo k 1) k 1 := by
  obtain ⟨hask, -, hsame, hframe⟩ := h
  refine ⟨?_, State.fanTo_state _ _ (by decide), fun g hg => ?_, ?_⟩
  · rw [State.fanTo_fan_same]
    exact hask
  · rw [State.fanTo, State.rd_wr_ne _ _ (hg _ (by simp [slotFields])), State.setFan_rd, State.rd_wr_ne _ _ (hg _ (by simp [slotFields])), hsame g hg]
  · rw [hframe]
    rfl

/-- What a slot shows after the check of its request (R380, Table 11.3). -/
theorem State.checkFan_spec {s : State} {k : Nat} (hask : (s.fan k).request = true) (hsince : (s.fan k).since < s.now)
    (hidle : s.fanState k = 0) : ((s.checkFan k).fan k).request = false ∧
      (s.checkFan k).fanState k = (if !s.badFanCfg k && s.flag Reg.FLM.STAT_FAN_AVAIL && !((s.fanMask k).any fun p => (s.slotOfFibre p).isSome) &&
        (s.fanMask k).all (fun p => !s.badMember k p) then 1 else 0) ∧
      (s.badFanCfg k = true → (s.checkFan k).rd (Reg.FLM.FAN_STAT_RESULT k) = 2) ∧
      (s.badFanCfg k = false → s.flag Reg.FLM.STAT_FAN_AVAIL = false → (s.checkFan k).rd (Reg.FLM.FAN_STAT_RESULT k) = 3) ∧
      (s.badFanCfg k = false → s.flag Reg.FLM.STAT_FAN_AVAIL = true → ((s.fanMask k).any fun p => (s.slotOfFibre p).isSome) = true →
        (s.checkFan k).rd (Reg.FLM.FAN_STAT_RESULT k) = 4) ∧
      (s.badFanCfg k = false → s.flag Reg.FLM.STAT_FAN_AVAIL = true → ((s.fanMask k).any fun p => (s.slotOfFibre p).isSome) = false →
        (s.fanMask k).all (fun p => !s.badMember k p) = false → (s.checkFan k).rd (Reg.FLM.FAN_STAT_RESULT k) = 5) ∧
      sameFields (slotFields k) s (s.checkFan k) ∧ s.checkFan k = { s with regs := (s.checkFan k).regs, flm := (s.checkFan k).flm } := by
  have hbad : ((s.fanMask k).filter (s.badMember k)).isEmpty = (s.fanMask k).all fun p => !s.badMember k p := by
    rw [Bool.eq_iff_iff, List.isEmpty_iff, List.filter_eq_nil_iff, List.all_eq_true]
    exact forall₂_congr fun p _ => by simp
  have hcheck := State.checkFan_asked hask hsince
  have hasked := State.fanAsked_judged hidle
  rw [hbad] at hcheck
  generalize s.badFanCfg k = cfg at hcheck ⊢
  generalize s.flag Reg.FLM.STAT_FAN_AVAIL = avail at hcheck ⊢
  generalize ((s.fanMask k).any fun p => (s.slotOfFibre p).isSome) = busy at hcheck ⊢
  generalize ((s.fanMask k).all fun p => !s.badMember k p) = good at hcheck ⊢
  cases cfg with
  | true =>
    obtain ⟨⟨hr, hst, hsame, hframe⟩, hresult⟩ := hasked.refused (r := 2) (by decide)
    rw [hcheck.trans (if_pos rfl)]
    exact ⟨hr, hst, fun _ => hresult, nofun, nofun, nofun, hsame, hframe⟩
  | false =>
    cases avail with
    | false =>
      obtain ⟨⟨hr, hst, hsame, hframe⟩, hresult⟩ := hasked.refused (r := 3) (by decide)
      rw [hcheck.trans rfl]
      exact ⟨hr, hst, nofun, fun _ _ => hresult, nofun, nofun, hsame, hframe⟩
    | true =>
      cases busy with
      | true =>
        obtain ⟨⟨hr, hst, hsame, hframe⟩, hresult⟩ := hasked.refused (r := 4) (by decide)
        rw [hcheck.trans rfl]
        exact ⟨hr, hst, nofun, nofun, fun _ _ _ => hresult, nofun, hsame, hframe⟩
      | false =>
        cases good with
        | false =>
          obtain ⟨⟨hr, hst, hsame, hframe⟩, hresult⟩ := (State.fanRefuse_judged hasked (maskOf ((s.fanMask k).filter (s.badMember k)))).refused
            (r := 5) (by decide)
          rw [hcheck.trans rfl]
          exact ⟨hr, hst, nofun, nofun, nofun, fun _ _ _ _ => hresult, hsame, hframe⟩
        | true =>
          obtain ⟨hr, hst, hsame, hframe⟩ := State.fanEntering_judged (State.fanRefuse_judged hasked 0) (maskOf (s.fanMask k))
          rw [hcheck.trans rfl]
          exact ⟨hr, hst, nofun, nofun, nofun, nofun, hsame, hframe⟩

/-! ## A fan entered by its members (R381) -/

/-- The configuration of a slot stands apart from its state. -/
theorem State.fanTo_cfg (s : State) (k st : Nat) {g : Field} (hpage : g.page = 0x008) (hoff : g.off = 0x100 + 0x10 * k) (hlo : g.lo < 32) :
    (s.fanTo k st).rd g = s.rd g := by
  have hkey : (Reg.FLM.FAN_STAT_STATE k).key ≠ g.key := by
    simp only [Reg.FLM.FAN_STAT_STATE, Field.key, hpage, hoff]
    omega
  rw [State.fanTo, State.rd_wr_ne _ _ hkey, State.setFan_rd]

theorem State.fanTo_lnk (s : State) {k : Nat} (st : Nat) (hk : k < 8) (m : Nat) :
    (s.fanTo k st).rd (Reg.LNK.STAT_STATE m) = s.rd (Reg.LNK.STAT_STATE m) := by
  rw [State.fanTo, State.rd_wr_ne _ _ (Field.key_ne_of_page (show 0x008 ≠ 0x040 + m by omega) ⟨show 0x108 + 0x10 * k < 0x1000 by omega,
    show 0 < 32 by decide⟩ (show 0x008 < 0x1000 ∧ 0 < 32 by decide)), State.setFan_rd]

theorem State.fanTo_fanArg (s : State) (k st : Nat) : (s.fanTo k st).fanArg k = s.fanArg k := by
  have hcfg : ∀ g : Field, g.page = 0x008 → g.off = 0x100 + 0x10 * k → g.lo < 32 → (s.fanTo k st).rd g = s.rd g := fun g => s.fanTo_cfg k st
  unfold State.fanArg
  rw [hcfg _ rfl rfl (show 16 < 32 by decide), hcfg _ rfl rfl (show 12 < 32 by decide), hcfg _ rfl rfl (show 10 < 32 by decide),
    hcfg _ rfl rfl (show 8 < 32 by decide), hcfg _ rfl rfl (show 0 < 32 by decide)]

/-- A member of a fan asked to enter it. -/
def State.asksMember (k : Nat) (s : State) (m : Nat) : State := if s.linkUp m then s.queueOp m 0x30 (s.fanArg k) (noCause .peer) else s

theorem State.asksMember_frame (k : Nat) (s : State) (m : Nat) : s.asksMember k m = { s with links := (s.asksMember k m).links } := by
  unfold State.asksMember
  split
  · exact State.queueOp_frame _ _ _ _ _
  · rfl

theorem State.asksMembers_frame (k : Nat) (ms : List Nat) (s : State) :
    ms.foldl (State.asksMember k) s = { s with links := (ms.foldl (State.asksMember k) s).links } := by
  induction ms generalizing s with
  | nil => rfl
  | cons m ms ih => exact links_trans (s.asksMember_frame k m) (ih _)

theorem State.asksMembers_rd (k : Nat) (ms : List Nat) (s : State) (g : Field) : (ms.foldl (State.asksMember k) s).rd g = s.rd g :=
  State.rd_of_regs (by rw [State.asksMembers_frame]) g

theorem State.asksMember_link_ne (k : Nat) (s : State) {m j : Nat} (h : j ≠ m) : (s.asksMember k m).link j = s.link j := by
  unfold State.asksMember
  split
  · exact State.setLink_link_ne _ _ h
  · rfl

/-- Each member is asked once. -/
theorem State.asksMembers_ops {s : State} {k m : Nat} {ms : List Nat} (hnodup : ms.Nodup) (hm : m ∈ ms) (hup : s.linkUp m = true) :
    ∃ o, ((ms.foldl (State.asksMember k) s).link m).ops = (s.link m).ops ++ [o] ∧ o.op = 0x30 ∧ o.arg = BitVec.ofNat 48 (s.fanArg k) := by
  refine foldl_at (State.asksMember k) (pre := fun t => t.regs = s.regs ∧ t.link m = s.link m)
    (post := fun t => ∃ o, (t.link m).ops = (s.link m).ops ++ [o] ∧ o.op = 0x30 ∧ o.arg = BitVec.ofNat 48 (s.fanArg k)) hnodup hm
    (fun t j _ hne ⟨hregs, hlink⟩ => ⟨?_, ?_⟩) (fun t ⟨hregs, hlink⟩ => ?_) (fun t j _ hne ho => ?_) ⟨rfl, rfl⟩
  · rw [State.asksMember_frame]
    exact hregs
  · rw [State.asksMember_link_ne _ _ hne.symm, hlink]
  · have hup' : t.linkUp m = true := by
      unfold State.linkUp State.linkState at hup ⊢
      rw [State.rd_of_regs hregs, hup]
    have harg : t.fanArg k = s.fanArg k := by
      unfold State.fanArg
      simp only [State.rd_of_regs hregs]
    unfold State.asksMember
    rw [if_pos hup', State.queueOp, State.setLink_link_same, hlink]
    exact ⟨_, rfl, rfl, by rw [← harg]⟩
  · rwa [State.asksMember_link_ne _ _ hne.symm]

theorem State.fanJudge_of_unrefused {s : State} {k : Nat} (h : (s.fan k).refused = []) : s.fanJudge k = s := by
  unfold State.fanJudge
  dsimp only
  rw [if_neg (by simp [h])]

theorem exec_fanQuiesceDone_ready {s : State} {k : Fin 8} (hrun : s.running = true) (hst : s.fanState k.val = 1) (hrefused : (s.fan k.val).refused = [])
    (hcyc : 960 ≤ s.clk.cycle) (hacked : ∀ m ∈ s.fanMembers k.val, s.allAcked m = true) : exec (.fanQuiesceDone k) s =
      .next ((s.fanMembers k.val).foldl (State.asksMember k.val) (s.fanTo k.val 2)).settle := by
  have hnone : (((s.fanMembers k.val).foldl (State.asksMember k.val) (s.fanTo k.val 2)).fan k.val).refused = [] := by
    rw [State.asksMembers_frame]
    exact (congrArg FanSlot.refused (s.fanTo_fan_same k.val 2)).trans hrefused
  refine congrArg Host.Outcome.next ((if_pos ?_).trans ?_)
  · simp only [hrun, hst, Bool.and_eq_true, List.all_eq_true, decide_eq_true_eq]
    exact ⟨⟨⟨trivial, rfl⟩, hcyc⟩, hacked⟩
  · exact congrArg State.settle (State.fanJudge_of_unrefused hnone)

/-! ## A slot that is IDLE again (R382) -/

/-- A slot IDLE again, before its ports retrain. -/
def State.fanIdled (s : State) (k result : Nat) : State :=
  ((((s.clearStream (fanTx k)).setFan k FanSlot.reset).wr (Reg.FLM.FAN_STAT_STATE k) 0).wr (Reg.FLM.FAN_STAT_RESULT k) result).wr
    (Reg.FLM.FAN_STAT_MEMBERS k) 0

theorem State.fanIdled_lnk (s : State) {k p : Nat} (result : Nat) (hk : k < 8) {g : Field} (hg : g.onLnk p) : (s.fanIdled k result).rd g = s.rd g := by
  have hne : ∀ f : Field, f.page = 0x008 → f.off = 0x108 + 0x10 * k → f.lo < 32 → f.key ≠ g.key := fun f hpage hoff hlo =>
    hg.key_ne (by omega) ⟨by omega, hlo⟩
  unfold State.fanIdled
  rw [State.rd_wr_ne _ _ (hne _ rfl rfl (show 16 < 32 by decide)), State.rd_wr_ne _ _ (hne _ rfl rfl (show 8 < 32 by decide)),
    State.rd_wr_ne _ _ (hne _ rfl rfl (show 0 < 32 by decide)), State.setFan_rd, State.clearStream_rd _ hg]

theorem State.fanIdled_spec (s : State) (k : Nat) {result : Nat} (hresult : result < 16) : (s.fanIdled k result).fanState k = 0 ∧
    (s.fanIdled k result).rd (Reg.FLM.FAN_STAT_RESULT k) = result ∧ (s.fanIdled k result).rd (Reg.FLM.FAN_STAT_MEMBERS k) = 0 := by
  unfold State.fanIdled State.fanState
  refine ⟨?_, ?_, ?_⟩
  · rw [State.rd_wr_ne _ _ (Field.key_ne_of_lo (show 16 ≠ 0 by decide) (show 16 < 32 by decide) (show 0 < 32 by decide)),
      State.rd_wr_ne _ _ (Field.key_ne_of_lo (show 8 ≠ 0 by decide) (show 8 < 32 by decide) (show 0 < 32 by decide)), State.rd_wr_same]
    rfl
  · rw [State.rd_wr_ne _ _ (Field.key_ne_of_lo (show 16 ≠ 8 by decide) (show 16 < 32 by decide) (show 8 < 32 by decide)), State.rd_wr_same]
    exact Nat.mod_eq_of_lt hresult
  · rw [State.rd_wr_same]
    rfl

/-- Where no port waits to retrain and no job sends, the slot alone is IDLE. -/
theorem State.fanIdle_eq {s : State} {k : Nat} (result : Nat) (hk : k < 8) (hjobs : s.cox.jobs = []) (hbw : s.cox.bw = [])
    (hretrain : ∀ p < 16, s.rd (Reg.LNK.CTRL_RETRAIN p) = 0) : s.fanIdle k result = s.fanIdled k result := by
  unfold State.fanIdle
  dsimp only
  rw [State.endWork_of_nil _ _ _ hjobs, State.endHeld_of_nil _ _ _ hbw, ← State.fanIdled]
  refine foldl_leaves fun p hp => ?_
  have hp' : p < 16 := List.mem_range.mp (List.mem_filter.mp hp).1
  rw [if_neg]
  rw [State.flag, State.fanIdled_lnk _ _ hk ⟨rfl, show 0x004 < 0x1000 by decide, show 9 < 32 by decide⟩, hretrain p hp']
  decide

/-! ## A fan left (R388) -/

/-- A slot whose members are asked to leave. -/
def State.fanLeaving (s : State) (k result : Nat) : State :=
  (s.fanTo k 6).setFan k { (s.fanTo k 6).fan k with endResult := result, asked := true, accepted := s.fanMembers k }

theorem State.fanLeaving_fan (s : State) (k result : Nat) : (s.fanLeaving k result).fan k =
    { (s.fanTo k 6).fan k with endResult := result, asked := true, accepted := s.fanMembers k } := State.fan_setFan_same _ _ _

theorem State.fanLeave_eq {s : State} {k : Nat} (result : Nat) (h : s.fanMembers k ≠ []) : s.fanLeave k result =
    (s.fanLeaving k result).queueOp (s.rd (Reg.FLM.FAN_CFG_SOURCE k)) 0x31 ((s.fanLeaving k result).rd (Reg.FLM.FAN_CFG_ID k)) (noCause .peer) := by
  have hsrc : (s.fanLeaving k result).rd (Reg.FLM.FAN_CFG_SOURCE k) = s.rd (Reg.FLM.FAN_CFG_SOURCE k) :=
    s.fanTo_cfg k 6 rfl rfl (show 12 < 32 by decide)
  unfold State.fanLeave
  dsimp only
  rw [if_neg (by simp [h]), ← State.fanLeaving, hsrc]

/-- Settles O53: a fan's members answer in band, and each slot's step is taken on its condition. -/
theorem fansEnterAndLeave : Obligations.FansEnterAndLeave := by
  unfold Obligations.FansEnterAndLeave
  refine ⟨fun s p tag arg hrun hup hfresh hrate hfec hfan hpages => ?_, fun s p tag arg hrun hup hfresh h => ?_,
    fun s p tag arg hrun hup hfresh hfan => ?_, fun s p tag arg hport => ?_, fun s p tag arg hrun hup hport => ?_,
    fun s k p hrun hmember hst hup => ?_, fun s via k hd hl => ?_, fun s hcyc => ?_, fun s k hrun hothers hask hcyc hsince hidle => ?_,
    fun s k hrun hst hrefused hcyc hms => ?_, fun s k h => ?_, fun s k hrun hst hjobs hbw hretrain => ?_, fun s k hrun hst hms => ?_,
    fun s k p hrun hst hmember hup hdown hlate => ?_⟩
  · obtain ⟨u, hu⟩ : ∃ u, u = (s.allocate .rxs (s.rxPages p.val)).2 := ⟨_, rfl⟩
    obtain ⟨hrole, hgroup, hmembers, hnext, hreserved, hlink⟩ := u.fanEntered_spec p.val arg.toNat
    have hsame : u.link p.val = s.link p.val := by rw [hu, State.allocate_link]
    have hpagesSame : u.rxPages p.val = s.rxPages p.val := State.rxPages_congr fun g hg => by rw [hu, State.allocate_rd _ _ _ hg]
    refine ⟨_, hu ▸ exec_fanEnter_granted hrun hup hfresh hrate hfec hfan hpages, ?_, ?_, ?_, ?_, ?_, ?_⟩
    · rw [State.answersOp_rd, hrole]
    · rw [State.answersOp_rd, hgroup]
    · rw [State.answersOp_rd, hmembers]
    · rw [State.answersOp_link_ne _ _ _ _ (fanRx_ne p.val), hnext]
    · rw [State.answersOp_link_ne _ _ _ _ (fanRx_ne p.val), hreserved, hpagesSame]
    · rw [State.answersOp_link_same, State.answerWord_of_fan _ _ p.isLt hrole hnext, Link.answers_words, hlink, hsame]
  · refine ⟨_, exec_fanEnter_refused hrun hup hfresh h, ?_, State.answersOp_frame _ _ _ _ _⟩
    rw [State.answersOp_link_same]
    rfl
  · obtain ⟨hrole, hgroup, hreserved, hsame⟩ := s.leaveFanRx_spec p.val
    refine ⟨_, exec_fanExit_fresh arg hrun hup hfresh hfan, ?_, ?_, ?_, fun g hg => ?_⟩
    · rw [State.answersOp_rd, hrole]
    · rw [State.answersOp_rd, hgroup]
    · rw [State.answersOp_link_ne _ _ _ _ (fanRx_ne p.val), hreserved]
    · rw [State.answersOp_rd, hsame g hg]
  · exact ⟨congrArg (fun t : State => Host.Outcome.next t) (if_neg (by simp [hport])),
      congrArg (fun t : State => Host.Outcome.next t) (if_neg (by simp [hport]))⟩
  · refine ⟨congrArg (fun t : State => Host.Outcome.next t) (if_pos (by simp [hrun, hup, hport])), fun hack => ?_⟩
    obtain ⟨hacked, hreplay⟩ := State.retire_link_same s hack
    exact ⟨_, congrArg (fun t : State => Host.Outcome.next t) (if_pos (by simp [hrun, hup, hport])), hacked, hreplay⟩
  · have hcmd := exec_fanMemberLost hrun hmember hst
    refine ⟨fun hdown hexp => ?_, fun hdown hexp => ?_, fun f hdown hat hcyc => ?_, fun f hdown hcyc => ?_⟩
    · rw [hcmd, State.memberLost_up hdown, if_pos hexp, State.linkFault_first 1 _ hup hdown]
    · rw [hcmd, State.memberLost_up hdown, if_neg (Nat.not_le.mpr hexp)]
    · rw [hcmd, State.memberLost_down hdown, if_pos (by simp [hcyc, hat, hup])]
    · rw [hcmd, State.memberLost_down hdown, if_neg (by simp [hcyc])]
  · obtain ⟨henter, henter', hframe⟩ := s.wrFanCtrl_enter_spec k.val
    obtain ⟨hidle, hactive, hentering, hleaving, hframe'⟩ := s.wrFanCtrl_exit_spec k.val
    exact ⟨_, _, exec_fanEnterWrite k hd hl, exec_fanExitWrite k hd hl, fun h => ⟨(henter h).1, (henter h).2, hidle h⟩, henter', hactive, hentering,
      hleaving, hframe, hframe'⟩
  · exact congrArg (fun t : State => Host.Outcome.next t) (if_neg (by simp [hcyc]))
  · have hcmd : exec .fanEntryCheck s = .next (s.checkFan k.val) :=
      congrArg Host.Outcome.next ((if_pos (by simp [hrun, hcyc])).trans (foldl_checkFan k.isLt hothers))
    exact ⟨_, hcmd, State.checkFan_spec hask hsince hidle⟩
  · have hacked : ∀ m ∈ s.fanMembers k.val, s.allAcked m = true := fun m hm => by
      obtain ⟨-, hreplay, hstream⟩ := hms m hm
      simp [State.allAcked, hreplay, hstream]
    refine ⟨_, exec_fanQuiesceDone_ready hrun hst hrefused hcyc hacked, ?_, fun m hm => ?_, fun g hg => ?_⟩
    · rw [State.fanState, State.asksMembers_rd]
      exact State.fanTo_state s k.val (st := 2) (by decide)
    · have hup : (s.fanTo k.val 2).linkUp m = true := by
        obtain ⟨hlink, -, -⟩ := hms m hm
        rwa [State.linkUp, State.linkState, s.fanTo_lnk 2 k.isLt]
      obtain ⟨o, ho, hop, harg⟩ := State.asksMembers_ops (nodup_setBits _ _) hm hup
      exact ⟨o, ho, hop, harg.trans (by rw [State.fanTo_fanArg])⟩
    · rw [State.asksMembers_rd, State.fanTo, State.rd_wr_ne _ _ (hg _ List.mem_cons_self), State.setFan_rd]
  · refine congrArg (fun t : State => Host.Outcome.next t) (if_neg ?_)
    simp only [Bool.and_eq_true, List.all_eq_true, decide_eq_true_eq, not_and]
    rcases h with ⟨m, hm, hreplay⟩ | hcyc
    · exact fun _ hall => hreplay (by simpa [State.allAcked] using (Bool.and_eq_true_iff.mp (hall m hm)).1)
    · exact fun h => absurd h.2 (Nat.not_le.mpr hcyc)
  · obtain ⟨hstate, hresult, hmembers⟩ := s.fanIdled_spec k.val (result := 6) (by decide)
    refine ⟨fun h => ⟨_, ?_, hstate, hresult, hmembers⟩, fun h => congrArg (fun t : State => Host.Outcome.next t)
      (if_neg (by simp [Nat.not_le.mpr h]))⟩
    rw [← State.fanIdle_eq 6 k.isLt hjobs hbw hretrain]
    exact congrArg (fun t : State => Host.Outcome.next t) (if_pos (by simp [hrun, hst, h]))
  · refine ⟨fun hreplay hstream => ?_, fun hreplay => ?_⟩
    · have hacked : s.allAcked (fanTx k.val) = true := by simp [State.allAcked, hreplay, hstream]
      have hcmd : exec (.fanDrainDone k) s = .next (s.fanLeave k.val 1).settle :=
        congrArg (fun t : State => Host.Outcome.next t) (if_pos (by simp [hrun, hst, hacked]))
      rw [State.fanLeave_eq 1 hms] at hcmd
      refine ⟨_, hcmd, ?_, ?_, ?_, ?_⟩
      · exact State.fanTo_state s k.val (st := 6) (by decide)
      · exact congrArg FanSlot.endResult (s.fanLeaving_fan k.val 1)
      · exact congrArg FanSlot.accepted (s.fanLeaving_fan k.val 1)
      · rw [State.queueOp, State.setLink_link_same]
        exact ⟨_, rfl, rfl⟩
    · exact congrArg (fun t : State => Host.Outcome.next t) (if_neg (by simp [State.allAcked, hreplay]))
  · refine ⟨fun hbehind => ?_, fun hall => congrArg (fun t : State => Host.Outcome.next t) (if_neg ?_)⟩
    · rw [← State.linkFault_first 1 _ hup hdown]
      refine congrArg (fun t : State => Host.Outcome.next t) (if_pos ?_)
      rw [hrun, hst, hmember, bne_iff_ne.mpr hbehind, decide_eq_true hlate]
      rfl
    · rw [bne_eq_false_iff_eq.mpr hall]
      simp

end Sys2Proof.Machine
end

section
/-! SUPPORT. The Flume's changes, its dither loops and held MZIs (spec section 11, R374 to R378, R391, R393). -/

namespace Sys2Proof.Machine

/-! ## A base map asked for (R378) -/

/-- The Flume's CTRL written. -/
def State.flmWritten (s : State) (d : Word) : State := s.writeFields 0x008 0x004 d.toNat

theorem State.flmWritten_frame (s : State) (d : Word) : s.flmWritten d = { s with regs := (s.flmWritten d).regs } := s.writeFields_regs _ _ _

theorem State.flmWritten_rd (s : State) (d : Word) {g : Field} (hoff : 0x004 ≠ g.off) (hcnt : g.off ≠ 0x01C) (hg : g.off < 0x1000 ∧ g.lo < 32) :
    (s.flmWritten d).rd g = s.rd g := s.writeFields_rd_ne _ hoff (fun _ => hcnt) (by decide) hg

theorem State.flmWritten_flm (s : State) (d : Word) : (s.flmWritten d).flm = s.flm := by
  rw [State.flmWritten_frame]

theorem State.flmWritten_xbar (s : State) (d : Word) : (s.flmWritten d).xbar = s.xbar := by
  have hrd : ∀ b < 16, (s.flmWritten d).rd (Reg.FLM.XBAR (b / 8)) = s.rd (Reg.FLM.XBAR (b / 8)) := fun b hb =>
    s.flmWritten_rd d (show 0x004 ≠ 0x040 + 0x4 * (b / 8) by omega) (show 0x040 + 0x4 * (b / 8) ≠ 0x01C by omega)
      ⟨show 0x040 + 0x4 * (b / 8) < 0x1000 by omega, show 0 < 32 by decide⟩
  exact List.map_congr_left fun b hb => by rw [hrd b (List.mem_range.mp hb)]

theorem State.flmWritten_slot (s : State) (d : Word) (p : Nat) : (s.flmWritten d).slotOfFibre p = s.slotOfFibre p :=
  State.slotOfFibre_congr p
    (fun k hk => s.flmWritten_rd d (show 0x004 ≠ 0x100 + 0x10 * k by omega) (show 0x100 + 0x10 * k ≠ 0x01C by omega)
      ⟨show 0x100 + 0x10 * k < 0x1000 by omega, show 16 < 32 by decide⟩)
    (fun k hk => s.flmWritten_rd d (show 0x004 ≠ 0x108 + 0x10 * k by omega) (show 0x108 + 0x10 * k ≠ 0x01C by omega)
      ⟨show 0x108 + 0x10 * k < 0x1000 by omega, show 0 < 32 by decide⟩)

theorem State.flmWritten_fanMoved (s : State) (d : Word) (m : List Nat) : (s.flmWritten d).fanMoved m = s.fanMoved m := by
  unfold State.fanMoved
  rw [State.flmWritten_flm]
  simp only [State.flmWritten_slot]

theorem exec_flumeApply {s : State} {via : Path} {d : Word} (hd : s.deaf via = false) (hl : s.locked via 0x008 = false) (h8 : d.getLsbD 8 = true) :
    exec (.flumeApply via d) s = .next (s.flmWritten d).applyMap := by
  have hcmd : exec (.flumeApply via d) s = .next (s.wrFlmCtrl d.toNat) := congrArg (fun t : State => Host.Outcome.next t)
    (State.access_of_not_locked (s := s) d.toNat State.wrFlmCtrl hd (show implemented 0x008 0x004 = true by decide) hl)
  have hset : bitAt d.toNat 8 = true := (bitAt_toNat d 8).trans h8
  rw [hcmd]
  unfold State.wrFlmCtrl
  dsimp only
  rw [if_pos hset, State.flmWritten]

/-- What a request for a base map does, in the order of R378. -/
theorem State.applyMap_spec (s : State) : s.applyMap.flm.map = s.flm.map ∧
    (s.xbar.dedup.length ≠ 16 → s.applyMap.rd Reg.FLM.CHG_RESULT = 2 ∧ s.applyMap.flm = s.flm) ∧
    (s.xbar.dedup.length = 16 → s.xbar ≠ straight → s.flag Reg.FLM.STAT_CROSS_AVAIL = false →
      s.applyMap.rd Reg.FLM.CHG_RESULT = 3 ∧ s.applyMap.flm = s.flm) ∧
    (s.xbar.dedup.length = 16 → s.xbar = straight ∨ s.flag Reg.FLM.STAT_CROSS_AVAIL = true → s.fanMoved s.xbar = true →
      s.applyMap.rd Reg.FLM.CHG_RESULT = 4 ∧ s.applyMap.flm = s.flm) ∧
    (s.xbar.dedup.length = 16 → s.xbar = straight ∨ s.flag Reg.FLM.STAT_CROSS_AVAIL = true → s.fanMoved s.xbar = false →
      s.applyMap.rd Reg.FLM.CHG_RESULT = s.rd Reg.FLM.CHG_RESULT ∧ ∃ c, s.applyMap.flm.changes = s.flm.changes ++ [c] ∧ c.kind = .base ∧
        c.target = s.xbar ∧ c.start = .none ∧ c.rollback = false) := by
  have hresult : ∀ r < 16, (s.wr Reg.FLM.CHG_RESULT r).rd Reg.FLM.CHG_RESULT = r := fun r hr => (State.rd_wr_same _ _ _).trans (Nat.mod_eq_of_lt hr)
  have havail : s.xbar = straight ∨ s.flag Reg.FLM.STAT_CROSS_AVAIL = true → ¬(s.xbar ≠ straight ∧ s.flag Reg.FLM.STAT_CROSS_AVAIL = false) :=
    fun h hboth => by
      rcases h with h | h
      · exact hboth.1 h
      · rw [h] at hboth
        exact nomatch hboth.2
  unfold State.applyMap
  dsimp only
  refine ⟨?_, fun h => ?_, fun h hne hoff => ?_, fun h hon hfan => ?_, fun h hon hfan => ?_⟩
  · split
    · rfl
    · split
      · rfl
      · split <;> rfl
  · rw [if_pos h]
    exact ⟨hresult 2 (by decide), rfl⟩
  · rw [if_neg (not_not.mpr h), if_pos ⟨hne, hoff⟩]
    exact ⟨hresult 3 (by decide), rfl⟩
  · rw [if_neg (not_not.mpr h), if_neg (havail hon), if_pos hfan]
    exact ⟨hresult 4 (by decide), rfl⟩
  · rw [if_neg (not_not.mpr h), if_neg (havail hon), hfan, if_neg (by decide)]
    exact ⟨rfl, _, rfl, rfl, rfl, rfl, rfl⟩

/-! ## A change live (R374, R393) -/

/-- One MZI released by a test. -/
def State.releaseMzi (s : State) (z : Nat) : State :=
  let s := if bitAt (s.rd (Reg.FLM.HELD (z / 32))) (z % 32) then s.wrBit (Reg.FLM.HELD (z / 32)) (z % 32) false else s
  [2 * z, 2 * z + 1].foldl (fun s c =>
    if bitAt (s.rd (Reg.FLM.ISOLATE (c / 32))) (c % 32) then s.wrBit (Reg.FLM.ISOLATE (c / 32)) (c % 32) false else s) s

/-- A bit of a register cleared where it is set. -/
def State.clears (s : State) (f : Field) (i : Nat) : State := if bitAt (s.rd f) i then s.wrBit f i false else s

theorem State.releaseMzi_eq (s : State) (z : Nat) : s.releaseMzi z = ((s.clears (Reg.FLM.HELD (z / 32)) (z % 32)).clears
    (Reg.FLM.ISOLATE (2 * z / 32)) (2 * z % 32)).clears (Reg.FLM.ISOLATE ((2 * z + 1) / 32)) ((2 * z + 1) % 32) := rfl

/-- Steps that change registers alone, one after the other. -/
theorem regs_trans {s t u : State} (ht : t = { s with regs := t.regs }) (hu : u = { t with regs := u.regs }) : u = { s with regs := u.regs } := by
  rw [hu, ht]

theorem State.clears_frame (s : State) (f : Field) (i : Nat) : s.clears f i = { s with regs := (s.clears f i).regs } := by
  unfold State.clears
  split <;> rfl

theorem State.clears_rd (s : State) {f g : Field} (i : Nat) (h : f.key ≠ g.key) : (s.clears f i).rd g = s.rd g := by
  unfold State.clears
  split
  · exact State.rd_wr_ne _ _ h
  · rfl

theorem State.clears_bit (s : State) {f : Field} (i : Nat) {j : Nat} (hj : j < f.width) :
    bitAt ((s.clears f i).rd f) j = (bitAt (s.rd f) j && j != i) := by
  unfold State.clears
  split
  · rw [State.wrBit_bit _ _ _ _ _ hj]
    by_cases h : j = i
    · simp [h]
    · simp [h, Ne.symm h]
  · rename_i hclear
    by_cases h : j = i
    · rw [h]
      simp [hclear]
    · simp [h]

theorem State.releaseMzi_frame (s : State) (z : Nat) : s.releaseMzi z = { s with regs := (s.releaseMzi z).regs } := by
  rw [State.releaseMzi_eq]
  exact regs_trans (regs_trans (s.clears_frame _ _) (State.clears_frame _ _ _)) (State.clears_frame _ _ _)

/-- A release changes HELD and ISOLATE alone. -/
theorem State.releaseMzi_rd (s : State) (z : Nat) {g : Field} (h : ∀ k < 8, (Reg.FLM.HELD k).key ≠ g.key ∧ (Reg.FLM.ISOLATE k).key ≠ g.key)
    (hz : z < 120) : (s.releaseMzi z).rd g = s.rd g := by
  rw [State.releaseMzi_eq, State.clears_rd _ _ (h _ (by omega)).2, State.clears_rd _ _ (h _ (by omega)).2, State.clears_rd _ _ (h _ (by omega)).1]

theorem State.releaseMzi_held (s : State) {z y : Nat} (hy : y < 120) : (s.releaseMzi z).mziHeld y = (s.mziHeld y && y != z) := by
  have hkey : ∀ k < 4, ∀ i, (Reg.FLM.ISOLATE i).key ≠ (Reg.FLM.HELD k).key := fun k hk i => by
    simp only [Reg.FLM.ISOLATE, Reg.FLM.HELD, Field.key]
    omega
  unfold State.mziHeld
  rw [State.releaseMzi_eq, State.clears_rd _ _ (hkey _ (by omega) _), State.clears_rd _ _ (hkey _ (by omega) _)]
  by_cases hword : z / 32 = y / 32
  · rw [hword, State.clears_bit _ _ (show y % 32 < 32 from Nat.mod_lt _ (by decide))]
    have hbne : (y % 32 != z % 32) = (y != z) := by
      by_cases h : y = z
      · simp [h]
      · rw [bne_iff_ne.mpr h, bne_iff_ne.mpr (show y % 32 ≠ z % 32 by omega)]
    rw [hbne]
  · have hne : (Reg.FLM.HELD (z / 32)).key ≠ (Reg.FLM.HELD (y / 32)).key := by
      simp only [Reg.FLM.HELD, Field.key]
      omega
    rw [State.clears_rd _ _ hne]
    have : y ≠ z := fun h => hword (by rw [h])
    simp [this]

theorem State.releases_frame (l : List Nat) (s : State) : l.foldl State.releaseMzi s = { s with regs := (l.foldl State.releaseMzi s).regs } :=
  foldl_regs_frame _ State.releaseMzi_frame l s

theorem State.releases_rd {l : List Nat} (hl : ∀ z ∈ l, z < 120) (s : State) {g : Field}
    (h : ∀ k < 8, (Reg.FLM.HELD k).key ≠ g.key ∧ (Reg.FLM.ISOLATE k).key ≠ g.key) : (l.foldl State.releaseMzi s).rd g = s.rd g :=
  foldl_untouched State.releaseMzi (State.rd · g) (fun t z hz => t.releaseMzi_rd z h (hl z hz)) s

theorem State.releases_held (l : List Nat) (s : State) {y : Nat} (hy : y < 120) :
    (l.foldl State.releaseMzi s).mziHeld y = (s.mziHeld y && !l.contains y) := by
  induction l generalizing s with
  | nil => simp
  | cons z l ih =>
    rw [List.foldl_cons, ih, s.releaseMzi_held hy, List.contains_cons,
      Bool.not_or, Bool.and_assoc]
    rfl


/-- The change at the head of the line, live. -/
def State.changeLive (s : State) (c : Change) : State :=
  let s := (s.wr Reg.FLM.STAT_STATE 3).wr Reg.FLM.CHG_PORTS (maskOf c.ports)
  let s := { s with flm := { s.flm with map := c.target } }
  s.releaseMzis (Config.mziChanged c.pick)

theorem exec_flumeChangeStart_due {s : State} {c : Change} {rest : List Change} {a : Nat} (hrun : s.running = true) (hsafe : s.safe = false)
    (hchanges : s.flm.changes = c :: rest) (hstart : c.start = some a) (ha : a ≤ s.now) (hcyc : s.clk.cycle = 0) (hchanging : s.changing = false) :
    exec .flumeChangeStart s = .next (s.changeLive c) := by
  refine congrArg Host.Outcome.next ?_
  simp only [hchanges, hstart]
  exact if_pos (by simp [hrun, hsafe, hcyc, ha, hchanging])

theorem exec_flumeChangeStart_idle {s : State} (h : s.flm.changes = [] ∨ s.changing = true ∨ s.clk.cycle ≠ 0) : exec .flumeChangeStart s = .next s := by
  refine congrArg (fun t : State => Host.Outcome.next t) ?_
  cases hc : s.flm.changes with
  | nil => rfl
  | cons c rest =>
    cases hs : c.start with
    | none => simp only [hs]
    | some a =>
      simp only [hs]
      refine if_neg ?_
      rcases h with h | h | h
      · rw [hc] at h
        exact nomatch h
      · simp [h]
      · simp [h]

theorem State.changeLive_spec (s : State) (c : Change) : (s.changeLive c).rd Reg.FLM.STAT_STATE = 3 ∧
    (s.changeLive c).rd Reg.FLM.CHG_PORTS = maskOf c.ports % 2 ^ 16 ∧ (s.changeLive c).flm.map = c.target ∧
    (s.changeLive c).flm.changes = s.flm.changes ∧
    (∀ z < 120, (s.changeLive c).mziHeld z = (s.mziHeld z && !Config.mziChanged c.pick z)) ∧
    s.changeLive c = { s with regs := (s.changeLive c).regs, flm := (s.changeLive c).flm } := by
  obtain ⟨u, hu⟩ : ∃ u : State, u = { (s.wr Reg.FLM.STAT_STATE 3).wr Reg.FLM.CHG_PORTS (maskOf c.ports) with flm := { s.flm with map := c.target } } :=
    ⟨_, rfl⟩
  have hlive : s.changeLive c = ((List.range 120).filter (Config.mziChanged c.pick)).foldl State.releaseMzi u := by
    rw [hu]
    rfl
  have hrange : ∀ z ∈ (List.range 120).filter (Config.mziChanged c.pick), z < 120 := fun z hz => List.mem_range.mp (List.mem_filter.mp hz).1
  have hframe := State.releases_frame ((List.range 120).filter (Config.mziChanged c.pick)) u
  rw [← hlive] at hframe
  have hrd : ∀ g : Field, g.page = 0x008 → g.off < 0x070 → g.lo < 32 → (s.changeLive c).rd g = u.rd g := fun g hpage hoff hlo => by
    rw [hlive]
    refine State.releases_rd hrange u fun k hk => ⟨?_, ?_⟩
    · simp only [Reg.FLM.HELD, Field.key, hpage]
      omega
    · simp only [Reg.FLM.ISOLATE, Field.key, hpage]
      omega
  refine ⟨?_, ?_, ?_, ?_, fun z hz => ?_, ?_⟩
  · rw [hrd _ rfl (show 0x008 < 0x070 by decide) (show 0 < 32 by decide), hu]
    exact (State.rd_wr_ne _ _ (show Reg.FLM.CHG_PORTS.key ≠ Reg.FLM.STAT_STATE.key by decide)).trans (State.rd_wr_same _ _ _)
  · rw [hrd _ rfl (show 0x054 < 0x070 by decide) (show 0 < 32 by decide), hu]
    exact State.rd_wr_same _ _ _
  · rw [hframe, hu]
  · rw [hframe, hu]
  · have huHeld : u.mziHeld z = s.mziHeld z := by
      have hkey : ∀ f : Field, f.page = 0x008 → f.off < 0x070 → f.lo < 32 → f.key ≠ (Reg.FLM.HELD (z / 32)).key := fun f hpage hoff hlo => by
        simp only [Reg.FLM.HELD, Field.key, hpage]
        omega
      have hsame : u.rd (Reg.FLM.HELD (z / 32)) = s.rd (Reg.FLM.HELD (z / 32)) := by
        rw [hu]
        exact (State.rd_wr_ne _ _ (hkey _ rfl (show 0x054 < 0x070 by decide) (show 0 < 32 by decide))).trans
          (State.rd_wr_ne _ _ (hkey _ rfl (show 0x008 < 0x070 by decide) (show 0 < 32 by decide)))
      rw [State.mziHeld, hsame, State.mziHeld]
    rw [hlive, State.releases_held _ u hz, huHeld]
    congr 2
    rw [Bool.eq_iff_iff, List.contains_iff_mem, List.mem_filter, List.mem_range]
    exact and_iff_right hz
  · rw [hframe, hu]
    rfl

/-! ## A change's end (R376) -/

theorem State.thaw_kept (s : State) (p : Nat) : s.thaw p = { s with links := (s.thaw p).links } := by
  have hfold : ∀ (l : List Nat) (now a : Nat) (t : State), l.foldl (fun s k => s.setLink (fanTx k) { s.link (fanTx k) with
      timer := (s.link (fanTx k)).timer + (now - max a (s.link (fanTx k)).timer) }) t = { t with links := (l.foldl (fun s k => s.setLink (fanTx k)
        { s.link (fanTx k) with timer := (s.link (fanTx k)).timer + (now - max a (s.link (fanTx k)).timer) }) t).links } := by
    intro l now a
    induction l with
    | nil => exact fun t => rfl
    | cons k l ih => exact fun t => links_trans (State.setLink_frame t _ _) (ih _)
  unfold State.thaw
  dsimp only
  split
  · rfl
  · split
    · rfl
    · exact links_trans (State.setLink_frame s _ _) (hfold _ _ _ _)

/-- The end of a pause clears its bit, and moves the port's link on. -/
theorem State.endPause_frame (s : State) (p i : Nat) : ∃ links, s.endPause p i = { s.clears (Reg.LNK.STAT_PAUSE p) i with links := links } := by
  unfold State.endPause
  dsimp only
  cases hbit : bitAt (s.rd (Reg.LNK.STAT_PAUSE p)) i with
  | false =>
    refine ⟨s.links, ?_⟩
    rw [State.clears, hbit]
    rfl
  | true =>
    have hclears : s.clears (Reg.LNK.STAT_PAUSE p) i = s.wrBit (Reg.LNK.STAT_PAUSE p) i false := if_pos hbit
    rw [if_neg (by simp), hclears]
    split
    · exact ⟨_, rfl⟩
    · rw [State.thaw_kept]
      split <;> exact ⟨_, rfl⟩

theorem State.clears_cleared (s : State) {f : Field} {i : Nat} (hi : i < f.width) : bitAt ((s.clears f i).rd f) i = false := by
  rw [State.clears_bit _ _ hi]
  simp

/-- Pauses end one after the other. -/
theorem State.endPauses_frame (l : List Nat) (i : Nat) (s : State) : ∃ (regs : Tab Nat) (links : Tab Link),
    l.foldl (fun s p => s.endPause p i) s = { s with regs := regs, links := links } ∧
      ∀ g : Field, (∀ p ∈ l, (Reg.LNK.STAT_PAUSE p).key ≠ g.key) → (l.foldl (fun s p => s.endPause p i) s).rd g = s.rd g := by
  induction l generalizing s with
  | nil => exact ⟨_, _, rfl, fun _ _ => rfl⟩
  | cons p l ih =>
    obtain ⟨links, hone⟩ := s.endPause_frame p i
    obtain ⟨regs, links', hrest, hrd⟩ := ih (s.endPause p i)
    refine ⟨regs, links', ?_, fun g hg => ?_⟩
    · rw [List.foldl_cons, hrest, hone, State.clears_frame]
    · rw [List.foldl_cons, hrd g fun q hq => hg q (List.mem_cons_of_mem _ hq), hone]
      exact State.clears_rd _ _ (hg p List.mem_cons_self)

theorem State.endPause_stays (s : State) {p q i : Nat} (hi : i < 3) (h : q = p ∨ bitAt (s.rd (Reg.LNK.STAT_PAUSE p)) i = false) :
    bitAt ((s.endPause q i).rd (Reg.LNK.STAT_PAUSE p)) i = false := by
  obtain ⟨links, hone⟩ := s.endPause_frame q i
  rw [hone]
  show bitAt ((s.clears (Reg.LNK.STAT_PAUSE q) i).rd (Reg.LNK.STAT_PAUSE p)) i = false
  by_cases hq : q = p
  · rw [hq]
    exact State.clears_cleared _ hi
  · have hkey : (Reg.LNK.STAT_PAUSE q).key ≠ (Reg.LNK.STAT_PAUSE p).key := by
      simp only [Reg.LNK.STAT_PAUSE, Field.key]
      omega
    rw [State.clears_rd _ _ hkey]
    exact (or_iff_right hq).mp h

/-- Each port among them is no longer paused by it. -/
theorem State.endPauses_bit {l : List Nat} {p i : Nat} (hi : i < 3) (s : State)
    (h : p ∈ l ∨ bitAt (s.rd (Reg.LNK.STAT_PAUSE p)) i = false) :
    bitAt ((l.foldl (fun s p => s.endPause p i) s).rd (Reg.LNK.STAT_PAUSE p)) i = false := by
  induction l generalizing s with
  | nil => exact (or_iff_right List.not_mem_nil).mp h
  | cons q l ih =>
    rw [List.foldl_cons]
    refine ih _ ?_
    by_cases hq : q = p
    · exact .inr (s.endPause_stays hi (.inl hq))
    · rcases h with h | h
      · exact .inl ((List.mem_cons.mp h).resolve_left (Ne.symm hq))
      · exact .inr (s.endPause_stays hi (.inr h))

/-- The registers and the line at the end of a change that stays. -/
def State.changeKept (s : State) (c : Change) (rest : List Change) (ok : Bool) : State :=
  let s := if ok then s else s.raise1 ⟨Err.FLM.CONFIG_FAIL, flmInfo 0xFF 0xFF (c.kind.slot.getD 0) 8, 0⟩
  let s := ((s.wr Reg.FLM.STAT_STATE 2).wr Reg.FLM.CHG_RESULT (if c.rollback then 8 else 1)).bump Reg.FLM.CHG_CNT_CHANGES
  { s with flm := { s.flm with changes := rest } }

/-- The registers and the line at the end of a change that is rolled back. -/
def State.changeBack (s : State) (c : Change) (rest : List Change) : State :=
  let s := (s.raise1 ⟨Err.FLM.ROLLBACK, flmInfo 0xFF 0xFF (c.kind.slot.getD 0) 8, 0⟩).bump Reg.FLM.CHG_CNT_ROLLBACKS
  let s := s.wr Reg.FLM.STAT_STATE 4
  { s with flm := { s.flm with map := c.prev, changes := { c with start := some s.now, rollback := true } :: rest } }

section
variable {s : State} {c : Change} {rest : List Change} {a : Nat} (hrun : s.running = true) (hsafe : s.safe = false) (hchanges : s.flm.changes = c :: rest)
  (hstart : c.start = some a) (hchanging : s.changing = true) (hcyc : s.clk.cycle = 0)
include hchanges hstart

theorem exec_flumeChangeEnd_early (ok : Bool) (h : s.now < a + 32) : exec (.flumeChangeEnd ok) s = .next s := by
  refine congrArg (fun t : State => Host.Outcome.next t) ?_
  simp only [hchanges, hstart]
  exact if_neg (by simp [Nat.not_le.mpr h])

include hrun hsafe hchanging hcyc

theorem exec_flumeChangeEnd_kept (hbase : c.kind = .base) {ok : Bool} (h : a + 32 ≤ s.now) (hok : ok = true ∨ c.rollback = true) :
    exec (.flumeChangeEnd ok) s = .next (c.ports.foldl (fun s p => s.endPause p 1) (s.changeKept c rest ok)).settle := by
  have hdone : ∀ t : State, t.changeDone c = t := fun t => by
    unfold State.changeDone
    rw [hbase]
  refine congrArg Host.Outcome.next ?_
  simp only [hchanges, hstart]
  rw [if_pos (by simp [hrun, hsafe, hcyc, hchanging, h]), if_neg (by rcases hok with h | h <;> simp [h]), hdone]
  rfl

theorem exec_flumeChangeEnd_back (h : a + 32 ≤ s.now) (hroll : c.rollback = false) :
    exec (.flumeChangeEnd false) s = .next (s.changeBack c rest) := by
  refine congrArg Host.Outcome.next ?_
  simp only [hchanges, hstart]
  rw [if_pos (by simp [hrun, hsafe, hcyc, hchanging, h]), if_pos (by simp [hroll])]
  rfl

end

/-- What the Flume shows at the end of a change that stays (R376). -/
theorem State.changeKept_spec (s : State) (c : Change) (rest : List Change) (ok : Bool) : (s.changeKept c rest ok).rd Reg.FLM.STAT_STATE = 2 ∧
    (s.changeKept c rest ok).rd Reg.FLM.CHG_RESULT = (if c.rollback then 8 else 1) ∧
    (s.changeKept c rest ok).rd Reg.FLM.CHG_CNT_CHANGES = (s.bump Reg.FLM.CHG_CNT_CHANGES).rd Reg.FLM.CHG_CNT_CHANGES ∧
    (s.changeKept c rest ok).flm.map = s.flm.map ∧ (s.changeKept c rest ok).flm.changes = rest ∧
    (ok = true → (s.changeKept c rest ok).recs = s.recs) ∧ (ok = false → (s.changeKept c rest ok).shows Err.FLM.CONFIG_FAIL = true) := by
  obtain ⟨u, hu⟩ : ∃ u, u = if ok then s else s.raise1 ⟨Err.FLM.CONFIG_FAIL, flmInfo 0xFF 0xFF (c.kind.slot.getD 0) 8, 0⟩ := ⟨_, rfl⟩
  obtain ⟨v, hv⟩ : ∃ v, v = ((u.wr Reg.FLM.STAT_STATE 2).wr Reg.FLM.CHG_RESULT (if c.rollback then 8 else 1)).bump Reg.FLM.CHG_CNT_CHANGES := ⟨_, rfl⟩
  have hkept : s.changeKept c rest ok = { v with flm := { v.flm with changes := rest } } := by
    rw [hv, hu]
    rfl
  have hcnt : u.rd Reg.FLM.CHG_CNT_CHANGES = s.rd Reg.FLM.CHG_CNT_CHANGES := by
    rw [hu]
    split
    · rfl
    · exact State.raise1_rd _ _ _ (show ∀ f ∈ eventFields Err.FLM.CONFIG_FAIL, f.key ≠ Reg.FLM.CHG_CNT_CHANGES.key by decide)
  have hmap : u.flm = s.flm := by
    rw [hu]
    split
    · rfl
    · exact State.raise1_flm _ _
  rw [hkept]
  refine ⟨?_, ?_, ?_, ?_, rfl, fun hok => ?_, fun hok => ?_⟩
  · show v.rd Reg.FLM.STAT_STATE = 2
    rw [hv, State.rd_bump_ne _ (by decide), State.rd_wr_ne _ _ (by decide), State.rd_wr_same]
    rfl
  · show v.rd Reg.FLM.CHG_RESULT = _
    rw [hv, State.rd_bump_ne _ (by decide), State.rd_wr_same]
    split <;> rfl
  · show v.rd Reg.FLM.CHG_CNT_CHANGES = _
    rw [hv, State.rd_bump_same, State.rd_bump_same, State.rd_wr_ne _ _ (by decide), State.rd_wr_ne _ _ (by decide), hcnt]
  · show v.flm.map = _
    rw [hv, ← hmap]
    rfl
  · show v.recs = _
    rw [hv, hu, if_pos hok]
    rfl
  · show v.shows Err.FLM.CONFIG_FAIL = true
    have hraised : u.shows Err.FLM.CONFIG_FAIL = true := by
      rw [hu, if_neg (by simp [hok])]
      exact State.raise1_shows _ _ (show 0 < 32 by decide)
    have hsame : v.rd (Reg.ERR_CONT 0x008) = u.rd (Reg.ERR_CONT 0x008) := by
      rw [hv, State.rd_bump_ne _ (by decide), State.rd_wr_ne _ _ (by decide), State.rd_wr_ne _ _ (by decide)]
    exact (congrArg (bitAt · 0) hsame).trans hraised

/-- What the Flume shows at the end of a change that is rolled back (R376). -/
theorem State.changeBack_spec (s : State) (c : Change) (rest : List Change) : (s.changeBack c rest).rd Reg.FLM.STAT_STATE = 4 ∧
    (s.changeBack c rest).flm.map = c.prev ∧
    (s.changeBack c rest).flm.changes = { c with start := some s.now, rollback := true } :: rest ∧
    (s.changeBack c rest).shows Err.FLM.ROLLBACK = true ∧
    (s.changeBack c rest).rd Reg.FLM.CHG_CNT_ROLLBACKS = (s.bump Reg.FLM.CHG_CNT_ROLLBACKS).rd Reg.FLM.CHG_CNT_ROLLBACKS := by
  obtain ⟨u, hu⟩ : ∃ u, u = s.raise1 ⟨Err.FLM.ROLLBACK, flmInfo 0xFF 0xFF (c.kind.slot.getD 0) 8, 0⟩ := ⟨_, rfl⟩
  obtain ⟨v, hv⟩ : ∃ v, v = (u.bump Reg.FLM.CHG_CNT_ROLLBACKS).wr Reg.FLM.STAT_STATE 4 := ⟨_, rfl⟩
  have hnow : v.now = s.now := by
    rw [hv, hu]
    exact congrArg ClkState.elapsed (State.raise1_clk _ _)
  have hback : s.changeBack c rest =
      { v with flm := { v.flm with map := c.prev, changes := { c with start := some v.now, rollback := true } :: rest } } := by
    rw [hv, hu]
    rfl
  rw [hback]
  refine ⟨?_, rfl, ?_, ?_, ?_⟩
  · show v.rd Reg.FLM.STAT_STATE = 4
    rw [hv, State.rd_wr_same]
    rfl
  · rw [hnow]
  · have hsame : v.rd (Reg.ERR_CORR 0x008) = u.rd (Reg.ERR_CORR 0x008) := by
      rw [hv, State.rd_wr_ne _ _ (by decide), State.rd_bump_ne _ (by decide)]
    refine (congrArg (bitAt · 0) hsame).trans ?_
    rw [hu]
    exact State.raise1_shows s ⟨Err.FLM.ROLLBACK, flmInfo 0xFF 0xFF (c.kind.slot.getD 0) 8, 0⟩ (show 0 < 32 by decide)
  · show v.rd Reg.FLM.CHG_CNT_ROLLBACKS = _
    rw [hv, State.rd_wr_ne _ _ (by decide), State.rd_bump_same, State.rd_bump_same, hu,
      State.raise1_rd _ _ _ (show ∀ f ∈ eventFields Err.FLM.ROLLBACK, f.key ≠ Reg.FLM.CHG_CNT_ROLLBACKS.key by decide)]

/-- The end of its ports' pauses leaves what the Flume shows. -/
theorem State.endPauses_flm (l : List Nat) (i : Nat) (s : State) {g : Field} (hpage : g.page = 0x008) (hg : g.off < 0x1000 ∧ g.lo < 32) :
    (l.foldl (fun s p => s.endPause p i) s).rd g = s.rd g := by
  obtain ⟨-, -, -, hrd⟩ := State.endPauses_frame l i s
  exact hrd g fun p _ => Field.key_ne_of_page (show 0x040 + p ≠ g.page by omega) (show 0x008 < 0x1000 ∧ 21 < 32 by decide) hg

/-! ## Dither loops and held MZIs (R391, R393) -/

/-- A dither loop that takes a step. -/
def State.dithers (s : State) (z : Nat) (err : Int) : State :=
  let s := s.atCycle 319
  let x := Tab.read MziLoop.reset s.flm.loops z
  let isOver := decide (s.rd Reg.FLM.DRIFT_THRESH < err.natAbs)
  let f := s.fresh
  let y : MziLoop := ⟨if isOver then runUp x.run else 0, x.corr + Config.ditherStep f.1 err⟩
  { f.2 with flm := { f.2.flm with loops := Tab.write MziLoop.reset f.2.flm.loops z y } }

theorem State.dithers_spec (s : State) (z : Nat) (err : Int) : (s.dithers z err).clk.cycle = 319 ∧
    (Tab.read MziLoop.reset (s.dithers z err).flm.loops z).run =
      (if s.rd Reg.FLM.DRIFT_THRESH < err.natAbs then runUp (Tab.read MziLoop.reset s.flm.loops z).run else 0) ∧
    (∀ y, y ≠ z → Tab.read MziLoop.reset (s.dithers z err).flm.loops y = Tab.read MziLoop.reset s.flm.loops y) ∧ (s.dithers z err).regs = s.regs := by
  have hloops : (s.dithers z err).flm.loops = Tab.write MziLoop.reset s.flm.loops z ⟨if decide (s.rd Reg.FLM.DRIFT_THRESH < err.natAbs) then
      runUp (Tab.read MziLoop.reset s.flm.loops z).run else 0, (Tab.read MziLoop.reset s.flm.loops z).corr + Config.ditherStep s.freeCount err⟩ := rfl
  rw [hloops, Tab.read_write_same]
  refine ⟨rfl, ?_, fun y hy => by rw [Tab.read_write_ne _ _ _ _ hy.symm], rfl⟩
  simp only [decide_eq_true_eq]

/-- A loop over its threshold for the fifth time. -/
def State.drifts (s : State) (z : Nat) : State :=
  let x := Tab.read MziLoop.reset s.flm.loops z
  let s := { s with flm := { s.flm with loops := Tab.write MziLoop.reset s.flm.loops z { x with run := 5 }, runAsked := true } }
  s.raise1 ⟨Err.FLM.DRIFT, flmInfo 0xFF z 0 0, 0⟩

theorem State.drifts_spec (s : State) (z : Nat) : (s.drifts z).flm.runAsked = true ∧ (s.drifts z).shows Err.FLM.DRIFT = true ∧
    (Tab.read MziLoop.reset (s.drifts z).flm.loops z).run = 5 ∧
    (Tab.read MziLoop.reset (s.drifts z).flm.loops z).corr = (Tab.read MziLoop.reset s.flm.loops z).corr ∧
    sameFields (eventFields Err.FLM.DRIFT) s (s.drifts z) := by
  obtain ⟨u, hu⟩ : ∃ u : State, u = { s with flm := { s.flm with
    loops := Tab.write MziLoop.reset s.flm.loops z { Tab.read MziLoop.reset s.flm.loops z with run := 5 }, runAsked := true } } := ⟨_, rfl⟩
  have hdrifts : s.drifts z = u.raise1 ⟨Err.FLM.DRIFT, flmInfo 0xFF z 0 0, 0⟩ := by
    rw [hu]
    rfl
  have hloop : Tab.read MziLoop.reset u.flm.loops z = { Tab.read MziLoop.reset s.flm.loops z with run := 5 } := by
    have hloops : u.flm.loops = Tab.write MziLoop.reset s.flm.loops z { Tab.read MziLoop.reset s.flm.loops z with run := 5 } := by rw [hu]
    rw [hloops, Tab.read_write_same]
  rw [hdrifts, State.raise1_flm, hloop]
  refine ⟨by rw [hu], State.raise1_shows _ _ (show 3 < 32 by decide), rfl, rfl, fun g hg => ?_⟩
  rw [State.raise1_rd _ _ _ hg, hu]
  rfl

/-- An MZI without readings: it is held, and its channel isolated. -/
def State.holds (s : State) (ch : Nat) : State :=
  (((s.atCycle 159).wrBit (Reg.FLM.HELD (ch / 2 / 32)) (ch / 2 % 32) true).wrBit (Reg.FLM.ISOLATE (ch / 32)) (ch % 32) true).raise1
    ⟨Err.FLM.MZI_HELD, flmInfo ch (ch / 2) 0 0, 0⟩

theorem State.holds_spec (s : State) {ch : Nat} (hch : ch < 240) : (s.holds ch).mziHeld (ch / 2) = true ∧
    bitAt ((s.holds ch).rd (Reg.FLM.ISOLATE (ch / 32))) (ch % 32) = true ∧ (s.holds ch).shows Err.FLM.MZI_HELD = true ∧ (s.holds ch).clk.cycle = 159 ∧
    sameFields ([Reg.FLM.HELD (ch / 2 / 32), Reg.FLM.ISOLATE (ch / 32)] ++ eventFields Err.FLM.MZI_HELD) s (s.holds ch) := by
  have hmod : ∀ n : Nat, n % 32 < 32 := fun n => Nat.mod_lt _ (by decide)
  have hkey : (Reg.FLM.ISOLATE (ch / 32)).key ≠ (Reg.FLM.HELD (ch / 2 / 32)).key := by
    simp only [Reg.FLM.ISOLATE, Reg.FLM.HELD, Field.key]
    omega
  have hevent : ∀ k < 8, ∀ f ∈ eventFields Err.FLM.MZI_HELD, f.key ≠ (Reg.FLM.HELD k).key ∧ f.key ≠ (Reg.FLM.ISOLATE k).key := by decide
  unfold State.holds
  refine ⟨?_, ?_, State.raise1_shows _ _ (show 2 < 32 by decide), ?_, fun g hg => ?_⟩
  · rw [State.mziHeld, State.raise1_rd _ _ _ fun f hf => (hevent _ (by omega) f hf).1, State.wrBit_sameFields _ _ _ _ _ (by simpa using hkey),
      State.wrBit_bit _ _ _ _ _ (show ch / 2 % 32 < 32 from hmod _), if_pos rfl]
  · rw [State.raise1_rd _ _ _ fun f hf => (hevent _ (by omega) f hf).2, State.wrBit_bit _ _ _ _ _ (show ch % 32 < 32 from hmod _), if_pos rfl]
  · rw [State.raise1_clk]
    rfl
  · rw [State.raise1_rd _ _ _ fun f hf => hg f (List.mem_append_right _ hf), State.wrBit_sameFields _ _ _ _ _ (by simpa using hg _ (by simp)),
      State.wrBit_sameFields _ _ _ _ _ (by simpa using hg (Reg.FLM.HELD (ch / 2 / 32)) (by simp))]
    rfl

/-- Settles O54: a request, a change's start and end, and each step of a loop, on its condition. -/
theorem theFlumeChanges : Obligations.TheFlumeChanges := by
  unfold Obligations.TheFlumeChanges
  refine ⟨fun s via d hd hl h8 h4 => ?_, fun s c rest a hrun hsafe hchanges hstart ha hcyc hchanging => ?_, fun s h => exec_flumeChangeStart_idle h,
    fun s c rest a ok hrun hsafe hchanges hstart hbase hchanging hcyc => ⟨fun h => exec_flumeChangeEnd_early hchanges hstart ok h, fun h hroll => ?_,
      fun h hroll => ?_, fun h hroll => ?_⟩, fun s z err hrun hsafe hz hheld hpaused hclean => ?_, fun s z err h => ?_, fun s z hrun h4 => ?_,
    fun s z h4 => ?_, fun s ch hrun hch hiso => ⟨fun h => ?_, fun h => ?_⟩⟩
  · have hspec := (s.flmWritten d).applyMap_spec
    have hrd : ∀ g : Field, 0x004 ≠ g.off → g.off ≠ 0x01C → g.off < 0x1000 ∧ g.lo < 32 → (s.flmWritten d).rd g = s.rd g := fun g => s.flmWritten_rd d
    rw [State.flmWritten_xbar, State.flmWritten_fanMoved, State.flmWritten_flm, State.flag, hrd _ (by decide) (by decide) (by decide), ← State.flag,
      hrd Reg.FLM.CHG_RESULT (by decide) (by decide) (by decide)] at hspec
    exact ⟨_, exec_flumeApply hd hl h8, hspec⟩
  · exact ⟨_, exec_flumeChangeStart_due hrun hsafe hchanges hstart ha hcyc hchanging, s.changeLive_spec c⟩
  · obtain ⟨hstate, hresult, hcnt, hmap, hline, hrecs, -⟩ := s.changeKept_spec c rest true
    obtain ⟨regs, links, hframe, -⟩ := State.endPauses_frame c.ports 1 (s.changeKept c rest true)
    refine ⟨_, exec_flumeChangeEnd_kept hrun hsafe hchanges hstart hchanging hcyc hbase h (.inl rfl), ?_, ?_, ?_, ?_, ?_, ?_, fun p hp hmem => ?_⟩
    · rw [State.endPauses_flm _ _ _ rfl (by decide), hstate]
    · rw [State.endPauses_flm _ _ _ rfl (by decide), hresult, hroll]
      rfl
    · rw [State.endPauses_flm _ _ _ rfl (by decide), hcnt]
    · rw [hframe, ← hmap]
    · exact (congrArg (fun t : State => t.flm.changes) hframe).trans hline
    · rw [hframe, ← hrecs rfl]
    · exact State.endPauses_bit (by decide) _ (.inl hmem)
  · exact ⟨_, exec_flumeChangeEnd_back hrun hsafe hchanges hstart hchanging hcyc h hroll, s.changeBack_spec c rest⟩
  · obtain ⟨hstate, hresult, hcnt, hmap, hline, hrecs, hshows⟩ := s.changeKept_spec c rest ok
    obtain ⟨regs, links, hframe, -⟩ := State.endPauses_frame c.ports 1 (s.changeKept c rest ok)
    refine ⟨_, exec_flumeChangeEnd_kept hrun hsafe hchanges hstart hchanging hcyc hbase h (.inr hroll), ?_, ?_, ?_, ?_, fun hok => ?_, fun hok => ?_⟩
    · rw [State.endPauses_flm _ _ _ rfl (by decide), hstate]
    · rw [State.endPauses_flm _ _ _ rfl (by decide), hresult, hroll]
      rfl
    · rw [hframe, ← hmap]
    · exact (congrArg (fun t : State => t.flm.changes) hframe).trans hline
    · unfold State.shows
      rw [State.endPauses_flm _ _ _ rfl (by decide)]
      exact hshows hok
    · rw [hframe, ← hrecs hok]
  · exact ⟨s.dithers z err, congrArg (fun t : State => Host.Outcome.next t) (if_pos (by simp [hrun, hsafe, hz, hheld, hpaused, hclean])),
      s.dithers_spec z err⟩
  · refine congrArg (fun t : State => Host.Outcome.next t) (if_neg ?_)
    rcases h with h | h | h | h
    · simp [h]
    · simp [h]
    · simp [h]
    · simp [Nat.not_lt.mpr h]
  · exact ⟨s.drifts z, congrArg (fun t : State => Host.Outcome.next t) (if_pos (by simp [hrun, h4])), s.drifts_spec z⟩
  · exact congrArg (fun t : State => Host.Outcome.next t) (if_neg (by simp [h4]))
  · exact ⟨s.holds ch, congrArg (fun t : State => Host.Outcome.next t) (if_pos (by simp [hrun, hch, h, hiso])), s.holds_spec hch⟩
  · exact congrArg (fun t : State => Host.Outcome.next t) (if_neg (by simp [Nat.not_le.mpr h]))

end Sys2Proof.Machine
end

section
/-! SUPPORT. The registers of Cox's queues, of its context cache and of the pools. -/

namespace Sys2Proof.Machine

/-! ## The rows of these registers -/

theorem implemented_iqTail : ∀ k : Fin 64, implemented 0x00A (0x40C + 0x20 * k.val) = true := by decide

theorem implemented_iqCfg : ∀ k : Fin 64, implemented 0x00A (0x408 + 0x20 * k.val) = true := by decide

theorem implemented_oqCfg : ∀ k : Fin 64, implemented 0x00A (0xC08 + 0x10 * k.val) = true := by decide

theorem fieldsAt_iqCfg : ∀ k : Fin 64,
    fieldsAt 0x00A (0x408 + 0x20 * k.val) = [⟨12, 8, .rw, 4, 4, 16⟩, ⟨5, 4, .rw, 0, 0, 3⟩, ⟨0, 0, .rw, 0, 0, 1⟩] := by decide

theorem fieldsAt_oqCfg : ∀ k : Fin 64,
    fieldsAt 0x00A (0xC08 + 0x10 * k.val) = [⟨16, 16, .ro, 1, 0, 1⟩, ⟨12, 8, .rw, 4, 4, 16⟩, ⟨0, 0, .rw, 0, 0, 1⟩] := by decide

/-- A write to a queue's CFG leaves the fields of other registers. -/
theorem State.iqCfg_rd_ne (s : State) (k : Fin 64) (data : Nat) {g : Field} (hoff : 0x408 + 0x20 * k.val ≠ g.off)
    (hg : g.off < 0x1000 ∧ g.lo < 32) : (s.writeFields 0x00A (0x408 + 0x20 * k.val) data).rd g = s.rd g :=
  s.writeFields_rd_ne data hoff (fun h => by omega) (by omega) hg

/-- A write to a queue's CFG writes ENABLE from bit 0. -/
theorem State.iqCfg_enable (s : State) (k : Fin 64) (d : Word) :
    (s.writeFields 0x00A (0x408 + 0x20 * k.val) d.toNat).rd (Reg.COX.IQ_CFG_ENABLE k.val) = ofBool (d.getLsbD 0) := by
  have hle := bits_one_le d.toNat 0
  have hrow := State.writeFields_row s (pg := 0x00A) (off := 0x408 + 0x20 * k.val) (data := d.toNat) (r := ⟨0, 0, .rw, 0, 0, 1⟩)
    (by rw [fieldsAt_iqCfg k]; decide) rfl (by rw [fieldsAt_iqCfg k]; decide) ⟨Nat.zero_le _, hle⟩ (by omega) (by omega)
  refine hrow.trans ?_
  rw [bits_of_getLsbD]
  cases d.getLsbD 0 <;> rfl

theorem State.oqCfg_enable (s : State) (k : Fin 64) (d : Word) :
    (s.writeFields 0x00A (0xC08 + 0x10 * k.val) d.toNat).rd (Reg.COX.OQ_CFG_ENABLE k.val) = ofBool (d.getLsbD 0) := by
  have hle := bits_one_le d.toNat 0
  have hrow := State.writeFields_row s (pg := 0x00A) (off := 0xC08 + 0x10 * k.val) (data := d.toNat) (r := ⟨0, 0, .rw, 0, 0, 1⟩)
    (by rw [fieldsAt_oqCfg k]; decide) rfl (by rw [fieldsAt_oqCfg k]; decide) ⟨Nat.zero_le _, hle⟩ (by omega) (by omega)
  refine hrow.trans ?_
  rw [bits_of_getLsbD]
  cases d.getLsbD 0 <;> rfl

/-! ## Doorbells (R317, R318) -/

theorem exec_iqDoorbell {s : State} {via : Path} (k : Fin 64) (d : Word) (hd : s.deaf via = false) (hl : s.locked via 0x00A = false) :
    exec (.iqDoorbell via k d) s = .next (s.wrIqTail k.val d.toNat) :=
  congrArg Host.Outcome.next (State.access_of_not_locked _ _ hd (implemented_iqTail k) hl)

theorem State.wrIqTail_cox (s : State) (k data : Nat) : (s.wrIqTail k data).cox = s.cox := by
  unfold State.wrIqTail
  dsimp only
  split <;> simp

theorem State.wrIqTail_of_lt {s : State} {k data : Nat} (h : data % 2 ^ 16 < 2 ^ s.rd (Reg.COX.IQ_CFG_SIZE_LOG2 k)) :
    s.wrIqTail k data = s.wr (Reg.COX.IQ_TAIL k) (data % 2 ^ 16) := if_neg (Nat.not_le.2 h)

theorem State.wrIqTail_of_le {s : State} {k data : Nat} (h : 2 ^ s.rd (Reg.COX.IQ_CFG_SIZE_LOG2 k) ≤ data % 2 ^ 16) :
    s.wrIqTail k data = s.raise1 ⟨Err.COX.DOORBELL, k, 0⟩ := if_pos h

/-! ## Input queues enabled and disabled (R318, R325) -/

/-- A queue's HEAD, TAIL and STOPPED as it starts. -/
def State.iqStarts (u : State) (k : Nat) : State := ((u.wr (Reg.COX.IQ_HEAD k) 0).wr (Reg.COX.IQ_TAIL k) 0).wr (Reg.COX.IQ_STAT_STOPPED k) 0

theorem State.iqStarts_frame (u : State) (k : Nat) : u.iqStarts k = { u with regs := (u.iqStarts k).regs } := rfl

theorem State.iqStarts_spec (u : State) {k : Nat} (hk : k < 64) : (u.iqStarts k).rd (Reg.COX.IQ_HEAD k) = 0 ∧
    (u.iqStarts k).rd (Reg.COX.IQ_TAIL k) = 0 ∧ (u.iqStarts k).rd (Reg.COX.IQ_STAT_STOPPED k) = 0 ∧
    (u.iqStarts k).rd (Reg.COX.IQ_CFG_ENABLE k) = u.rd (Reg.COX.IQ_CFG_ENABLE k) := by
  have hcfg : (Reg.COX.IQ_CFG_ENABLE k).off < 0x1000 ∧ 0 < 32 := ⟨show 0x408 + 0x20 * k < 0x1000 by omega, by decide⟩
  have htail : (Reg.COX.IQ_TAIL k).off < 0x1000 ∧ 0 < 32 := ⟨show 0x40c + 0x20 * k < 0x1000 by omega, by decide⟩
  have hhead : (Reg.COX.IQ_HEAD k).off < 0x1000 ∧ 0 < 32 := ⟨show 0x410 + 0x20 * k < 0x1000 by omega, by decide⟩
  have hstat : (Reg.COX.IQ_STAT_STOPPED k).off < 0x1000 ∧ 4 < 32 := ⟨show 0x414 + 0x20 * k < 0x1000 by omega, by decide⟩
  have h1 : (Reg.COX.IQ_STAT_STOPPED k).key ≠ (Reg.COX.IQ_HEAD k).key :=
    Field.key_ne_of_off (show 0x414 + 0x20 * k ≠ 0x410 + 0x20 * k by omega) hstat hhead
  have h2 : (Reg.COX.IQ_TAIL k).key ≠ (Reg.COX.IQ_HEAD k).key :=
    Field.key_ne_of_off (show 0x40c + 0x20 * k ≠ 0x410 + 0x20 * k by omega) htail hhead
  have h3 : (Reg.COX.IQ_STAT_STOPPED k).key ≠ (Reg.COX.IQ_TAIL k).key :=
    Field.key_ne_of_off (show 0x414 + 0x20 * k ≠ 0x40c + 0x20 * k by omega) hstat htail
  have h4 : (Reg.COX.IQ_STAT_STOPPED k).key ≠ (Reg.COX.IQ_CFG_ENABLE k).key :=
    Field.key_ne_of_off (show 0x414 + 0x20 * k ≠ 0x408 + 0x20 * k by omega) hstat hcfg
  have h5 : (Reg.COX.IQ_TAIL k).key ≠ (Reg.COX.IQ_CFG_ENABLE k).key :=
    Field.key_ne_of_off (show 0x40c + 0x20 * k ≠ 0x408 + 0x20 * k by omega) htail hcfg
  have h6 : (Reg.COX.IQ_HEAD k).key ≠ (Reg.COX.IQ_CFG_ENABLE k).key :=
    Field.key_ne_of_off (show 0x410 + 0x20 * k ≠ 0x408 + 0x20 * k by omega) hhead hcfg
  unfold State.iqStarts
  refine ⟨?_, ?_, ?_, ?_⟩
  · rw [State.rd_wr_ne _ _ h1, State.rd_wr_ne _ _ h2, State.rd_wr_same, Nat.zero_mod]
  · rw [State.rd_wr_ne _ _ h3, State.rd_wr_same, Nat.zero_mod]
  · rw [State.rd_wr_same, Nat.zero_mod]
  · rw [State.rd_wr_ne _ _ h4, State.rd_wr_ne _ _ h5, State.rd_wr_ne _ _ h6]

theorem State.wrIqCfg_on {s : State} {k : Fin 64} {d : Word} (hwas : s.flag (Reg.COX.IQ_CFG_ENABLE k.val) = false) (h : d.getLsbD 0 = true) :
    s.wrIqCfg k.val d.toNat = (s.writeFields 0x00A (0x408 + 0x20 * k.val) d.toNat).iqStarts k.val := by
  have his := State.flag_of_rd_ofBool (s.iqCfg_enable k d)
  rw [h] at his
  exact if_pos (by rw [his, hwas]; rfl)

theorem State.wrIqCfg_off {s : State} {k : Fin 64} {d : Word} (hwas : s.flag (Reg.COX.IQ_CFG_ENABLE k.val) = true) (h : d.getLsbD 0 = false) :
    s.wrIqCfg k.val d.toNat = (s.writeFields 0x00A (0x408 + 0x20 * k.val) d.toNat).discardWaiting k.val := by
  have his := State.flag_of_rd_ofBool (s.iqCfg_enable k d)
  rw [h] at his
  exact (if_neg (by rw [his, hwas]; decide)).trans (if_pos (by rw [his, hwas]; rfl))

theorem exec_iqEnable {s : State} {via : Path} (k : Fin 64) (d : Word) (hd : s.deaf via = false) (hl : s.locked via 0x00A = false) :
    exec (.iqEnable via k d) s = .next (s.wrIqCfg k.val d.toNat) :=
  congrArg Host.Outcome.next (State.access_of_not_locked _ _ hd (implemented_iqCfg k) hl)

theorem exec_iqDisable {s : State} {via : Path} (k : Fin 64) (d : Word) (hd : s.deaf via = false) (hl : s.locked via 0x00A = false) :
    exec (.iqDisable via k d) s = .next (s.wrIqCfg k.val d.toNat) :=
  congrArg Host.Outcome.next (State.access_of_not_locked _ _ hd (implemented_iqCfg k) hl)

/-! ## A slot's waiting command discarded (R325) -/

theorem State.discardWaiting_of_none {s : State} {slot : Nat} (h : Tab.read .none s.cox.slots slot = .none) : s.discardWaiting slot = s := by
  unfold State.discardWaiting
  rw [h]

/-- The discard touches Cox, and, for Regatta's slot, the run. -/
theorem State.discardWaiting_frame (s : State) (slot : Nat) :
    s.discardWaiting slot = { s with cox := (s.discardWaiting slot).cox, runs := (s.discardWaiting slot).runs } := by
  unfold State.discardWaiting
  cases Tab.read .none s.cox.slots slot with
  | none => rfl
  | some id =>
    dsimp only
    cases s.cmd id with
    | none => rfl
    | some c =>
      dsimp only
      split <;> split <;> rfl

/-- The one command of Cox, in the slot discarded, goes. -/
theorem State.discardWaiting_only {s : State} {slot : Nat} {c : Cmd} (hcmds : s.cox.cmds = [c])
    (hslot : Tab.read .none s.cox.slots slot = some c.id) : (s.discardWaiting slot).cox.cmds = [] ∧
    Tab.read .none (s.discardWaiting slot).cox.slots slot = .none := by
  have hcmd : s.cmd c.id = some c := by simp [State.cmd, hcmds]
  have hgone : s.cox.cmds.filter (·.id != c.id) = [] := by simp [hcmds]
  have htaken : (s.discardWaiting slot).cox.cmds = s.cox.cmds.filter (·.id != c.id) ∧
      (s.discardWaiting slot).cox.slots = Tab.write .none s.cox.slots slot .none := by
    unfold State.discardWaiting
    rw [hslot]
    dsimp only
    rw [hcmd]
    dsimp only
    split <;> split <;> exact ⟨rfl, rfl⟩
  rw [htaken.1, htaken.2]
  exact ⟨hgone, Tab.read_write_same _ _ _ _⟩

/-! ## Output queues enabled and disabled (R321, R326) -/

/-- An output queue's new period of enablement. -/
def State.oqStarts (u : State) (k : Nat) : State :=
  (((u.setOq k ⟨0, (u.oq k).period + 1, 0, true, []⟩).wr (Reg.COX.OQ_PTR_TAIL k) 0).wr (Reg.COX.OQ_PTR_HEAD k) 0).wr (Reg.COX.OQ_CFG_PHASE k) 1

theorem State.oqStarts_frame (u : State) (k : Nat) : u.oqStarts k = { u with regs := (u.oqStarts k).regs, cox := (u.oqStarts k).cox } := rfl

theorem State.oqStarts_oq_same (u : State) (k : Nat) : (u.oqStarts k).oq k = ⟨0, (u.oq k).period + 1, 0, true, []⟩ :=
  u.oq_setOq_same k _

theorem State.oqStarts_oq_ne (u : State) {k j : Nat} (h : j ≠ k) : (u.oqStarts k).oq j = u.oq j :=
  u.oq_setOq_ne k _ j h.symm

theorem State.oqStarts_spec (u : State) {k : Nat} (hk : k < 64) : (u.oqStarts k).rd (Reg.COX.OQ_CFG_PHASE k) = 1 ∧
    (u.oqStarts k).rd (Reg.COX.OQ_PTR_TAIL k) = 0 ∧ (u.oqStarts k).rd (Reg.COX.OQ_PTR_HEAD k) = 0 ∧
    (u.oqStarts k).rd (Reg.COX.OQ_CFG_ENABLE k) = u.rd (Reg.COX.OQ_CFG_ENABLE k) := by
  have hcfg : 0xc08 + 0x10 * k < 0x1000 := by omega
  have hptr : 0xc0c + 0x10 * k < 0x1000 := by omega
  have hoff : 0xc08 + 0x10 * k ≠ 0xc0c + 0x10 * k := by omega
  have h1 : (Reg.COX.OQ_CFG_PHASE k).key ≠ (Reg.COX.OQ_PTR_TAIL k).key :=
    Field.key_ne_of_off hoff ⟨hcfg, show 16 < 32 by decide⟩ ⟨hptr, show 16 < 32 by decide⟩
  have h2 : (Reg.COX.OQ_CFG_PHASE k).key ≠ (Reg.COX.OQ_PTR_HEAD k).key :=
    Field.key_ne_of_off hoff ⟨hcfg, show 16 < 32 by decide⟩ ⟨hptr, show 0 < 32 by decide⟩
  have h3 : (Reg.COX.OQ_PTR_HEAD k).key ≠ (Reg.COX.OQ_PTR_TAIL k).key :=
    Field.key_ne_of_lo (show 0 ≠ 16 by decide) (show 0 < 32 by decide) (show 16 < 32 by decide)
  have h4 : (Reg.COX.OQ_CFG_PHASE k).key ≠ (Reg.COX.OQ_CFG_ENABLE k).key :=
    Field.key_ne_of_lo (show 16 ≠ 0 by decide) (show 16 < 32 by decide) (show 0 < 32 by decide)
  have h5 : (Reg.COX.OQ_PTR_HEAD k).key ≠ (Reg.COX.OQ_CFG_ENABLE k).key :=
    Field.key_ne_of_off hoff.symm ⟨hptr, show 0 < 32 by decide⟩ ⟨hcfg, show 0 < 32 by decide⟩
  have h6 : (Reg.COX.OQ_PTR_TAIL k).key ≠ (Reg.COX.OQ_CFG_ENABLE k).key :=
    Field.key_ne_of_off hoff.symm ⟨hptr, show 16 < 32 by decide⟩ ⟨hcfg, show 0 < 32 by decide⟩
  unfold State.oqStarts
  refine ⟨?_, ?_, ?_, ?_⟩
  · rw [State.rd_wr_same]
    rfl
  · rw [State.rd_wr_ne _ _ h1, State.rd_wr_ne _ _ h3, State.rd_wr_same, Nat.zero_mod]
  · rw [State.rd_wr_ne _ _ h2, State.rd_wr_same, Nat.zero_mod]
  · rw [State.rd_wr_ne _ _ h4, State.rd_wr_ne _ _ h5, State.rd_wr_ne _ _ h6]
    rfl

theorem State.wrOqCfg_on {s : State} {k : Fin 64} {d : Word} (hwas : s.flag (Reg.COX.OQ_CFG_ENABLE k.val) = false) (h : d.getLsbD 0 = true) :
    s.wrOqCfg k.val d.toNat = (s.writeFields 0x00A (0xC08 + 0x10 * k.val) d.toNat).oqStarts k.val := by
  have his := State.flag_of_rd_ofBool (s.oqCfg_enable k d)
  rw [h] at his
  exact if_pos (by rw [his, hwas]; rfl)

theorem State.wrOqCfg_off {s : State} {k : Fin 64} {d : Word} (h : d.getLsbD 0 = false) :
    s.wrOqCfg k.val d.toNat = s.writeFields 0x00A (0xC08 + 0x10 * k.val) d.toNat := by
  have his := State.flag_of_rd_ofBool (s.oqCfg_enable k d)
  rw [h] at his
  exact if_neg (by simp [his])

theorem exec_oqEnable {s : State} {via : Path} (k : Fin 64) (d : Word) (hd : s.deaf via = false) (hl : s.locked via 0x00A = false) :
    exec (.oqEnable via k d) s = .next (s.wrOqCfg k.val d.toNat) :=
  congrArg Host.Outcome.next (State.access_of_not_locked _ _ hd (implemented_oqCfg k) hl)

theorem exec_oqDisable {s : State} {via : Path} (k : Fin 64) (d : Word) (hd : s.deaf via = false) (hl : s.locked via 0x00A = false) :
    exec (.oqDisable via k d) s = .next (s.wrOqCfg k.val d.toNat) :=
  congrArg Host.Outcome.next (State.access_of_not_locked _ _ hd (implemented_oqCfg k) hl)

/-! ## The context cache (R351) -/

theorem exec_ccInvalidateLines {s : State} {via : Path} (d : Word) (hd : s.deaf via = false) (hl : s.locked via 0x00A = false) :
    exec (.ccInvalidateLines via d) s = .next (s.wrCcInval d.toNat) :=
  congrArg Host.Outcome.next (State.access_of_not_locked _ _ hd (by decide) hl)

theorem exec_ccInvalidateAll {s : State} {via : Path} (d : Word) (hd : s.deaf via = false) (hl : s.locked via 0x00A = false) :
    exec (.ccInvalidateAll via d) s = .next (s.wrCcInval d.toNat) :=
  congrArg Host.Outcome.next (State.access_of_not_locked _ _ hd (by decide) hl)

theorem State.wrCcInval_busy {s : State} (data : Nat) (h : s.rd Reg.COX.CC_STAT = 1) : s.wrCcInval data = s :=
  if_pos (by simp [State.flag, h])

/-- What an invalidation names: a run of lines, or, with bit 31, the whole cache. -/
theorem State.wrCcInval_idle {s : State} (data : Nat) (h : s.rd Reg.COX.CC_STAT = 0) :
    (s.wrCcInval data).rd Reg.COX.CC_STAT = 1 ∧ (s.wrCcInval data).cox.cache = s.cox.cache ∧
    (s.wrCcInval data).cox.invalidating = some (if bitAt data 31 then Option.none else
      some (s.rd Reg.COX.CC_INVAL_HI * 2 ^ 26 + s.rd Reg.COX.CC_INVAL_LO, bits data 15 0)) := by
  have hidle : s.flag Reg.COX.CC_STAT ≠ true := by simp [State.flag, h]
  unfold State.wrCcInval
  rw [if_neg hidle]
  exact ⟨State.rd_wr_same s Reg.COX.CC_STAT 1, rfl, rfl⟩

/-- Whether an invalidation names a line. -/
def invalNames (what : Option (Nat × Nat)) (line : Nat) : Bool :=
  match what with
  | .none => true
  | some w => decide (w.1 ≤ line) && decide (line < w.1 + w.2)

/-- The end of an invalidation. -/
def State.invalidated (s : State) (what : Option (Nat × Nat)) : State :=
  let t := (s.dropLines (invalNames what)).staleFills (invalNames what)
  { t.wr Reg.COX.CC_STAT 0 with cox := { t.cox with invalidating := .none } }

theorem exec_ccInvalidateDone {s : State} {what : Option (Nat × Nat)} (h : s.cox.invalidating = some what) :
    exec .ccInvalidateDone s = .next (s.invalidated what) := by
  refine congrArg Host.Outcome.next ?_
  simp only [h]
  rfl

theorem State.invalidated_cache (s : State) (what : Option (Nat × Nat)) :
    (s.invalidated what).cox.cache = s.cox.cache.filter fun e => !invalNames what e.1 := rfl

theorem State.invalidated_stat (s : State) (what : Option (Nat × Nat)) : (s.invalidated what).rd Reg.COX.CC_STAT = 0 :=
  State.rd_wr_same ((s.dropLines (invalNames what)).staleFills (invalNames what)) Reg.COX.CC_STAT 0

theorem State.invalidated_sameFields (s : State) (what : Option (Nat × Nat)) : sameFields [Reg.COX.CC_STAT] s (s.invalidated what) :=
  fun _ hg => State.rd_wr_ne ((s.dropLines (invalNames what)).staleFills (invalNames what)) 0 (hg _ List.mem_cons_self)

/-! ## A pool's limits (R355) -/

theorem implemented_pool (pool : Pool) : implemented 0x009 (0x040 + 4 * poolNo pool) = true := by cases pool <;> decide

theorem exec_poolLimitWrite {s : State} {via : Path} (pool : Pool) (d : Word) (hd : s.deaf via = false) (hl : s.locked via 0x009 = false) :
    exec (.poolLimitWrite via pool d) s = .next (s.wrPool pool d.toNat) :=
  congrArg Host.Outcome.next (State.access_of_not_locked _ _ hd (implemented_pool pool) hl)

/-- A write to a pool's limits writes both from its data. -/
theorem State.poolFields_limits (s : State) (pool : Pool) {d : Nat} (hc : bits d 28 16 ≤ 4096) (hf : bits d 12 0 ≤ 4096) :
    (s.writeFields 0x009 (0x040 + 4 * poolNo pool) d).rd (Reg.RSV.POOL_CEIL (poolNo pool)) = bits d 28 16 ∧
    (s.writeFields 0x009 (0x040 + 4 * poolNo pool) d).rd (Reg.RSV.POOL_FLOOR (poolNo pool)) = bits d 12 0 := by
  have hrows : fieldsAt 0x009 (0x040 + 4 * poolNo pool) = [⟨28, 16, .rw, (Reg.RSV.POOL_CEIL (poolNo pool)).reset, 0, 4096⟩,
      ⟨12, 0, .rw, (Reg.RSV.POOL_FLOOR (poolNo pool)).reset, 0, 4096⟩] := by cases pool <;> decide
  have hoff : 0x040 + 4 * poolNo pool < 0x100 := by cases pool <;> decide
  have hnodup : ((fieldsAt 0x009 (0x040 + 4 * poolNo pool)).map (·.lo)).Nodup := by rw [hrows]; exact (by decide : [16, 0].Nodup)
  constructor
  · refine (State.writeFields_row s (pg := 0x009) (off := 0x040 + 4 * poolNo pool) (data := d) 
      (r := ⟨28, 16, .rw, (Reg.RSV.POOL_CEIL (poolNo pool)).reset, 0, 4096⟩)
      (by simp [hrows]) rfl hnodup ⟨Nat.zero_le _, hc⟩ (by omega) (by omega)).trans ?_
    exact Nat.mod_eq_of_lt (lt_of_le_of_lt hc (show 4096 < 2 ^ 13 by decide))
  · refine (State.writeFields_row s (pg := 0x009) (off := 0x040 + 4 * poolNo pool) (data := d) 
      (r := ⟨12, 0, .rw, (Reg.RSV.POOL_FLOOR (poolNo pool)).reset, 0, 4096⟩)
      (by simp [hrows]) rfl hnodup ⟨Nat.zero_le _, hf⟩ (by omega) (by omega)).trans ?_
    exact Nat.mod_eq_of_lt (lt_of_le_of_lt hf (show 4096 < 2 ^ 13 by decide))

/-- Limits whose floor passes the ceiling are not taken. -/
theorem State.wrPool_refused (s : State) (pool : Pool) {d : Nat} (hlt : bits d 28 16 < bits d 12 0) (hc : bits d 28 16 ≤ 4096)
    (hf : bits d 12 0 ≤ 4096) : s.wrPool pool d = s := by
  obtain ⟨hceil, hfloor⟩ := s.poolFields_limits pool hc hf
  refine if_neg fun h => ?_
  have hle := h.1
  rw [hceil, hfloor] at hle
  omega

theorem State.pageIfDue_of_safe {s : State} (h : s.safe = true) : s.pageIfDue = s := by
  have hpaging : ∀ b, s.startPaging b = s := fun b => if_pos (by rw [h]; rfl)
  rw [State.pageIfDue, hpaging, hpaging]
  split <;> [skip; split] <;> rfl

/-- Limits of the stash pool within the rules are taken. -/
theorem State.wrPool_taken {s : State} {d : Nat} (hsafe : s.safe = true) (hc : bits d 28 16 = 2048) (hf : bits d 12 0 = 0)
    (hsum : s.rd (Reg.RSV.POOL_FLOOR 0) + s.rd (Reg.RSV.POOL_FLOOR 1) + s.rd (Reg.RSV.POOL_FLOOR 3) ≤ 4096) :
    s.wrPool .sts d = s.writeFields 0x009 0x048 d := by
  obtain ⟨hceil, hfloor⟩ := s.poolFields_limits .sts (d := d) (by omega) (by omega)
  have hother : ∀ i, 0x048 ≠ 0x040 + 4 * i → i < 4 →
      (s.writeFields 0x009 0x048 d).rd (Reg.RSV.POOL_FLOOR i) = s.rd (Reg.RSV.POOL_FLOOR i) := fun i h hi =>
    s.writeFields_rd_ne d h (fun h4 => absurd h4 (by decide)) (by decide) ⟨show 0x040 + 4 * i < 0x1000 by omega, show 0 < 32 by decide⟩
  have hsafe' : (s.writeFields 0x009 0x048 d).safe = true := by
    rw [State.safe, s.writeFields_rd_ne_page d (by decide) (by decide) (by decide)]
    exact hsafe
  have hfloors : ((List.range 4).map fun i => (s.writeFields 0x009 0x048 d).rd (Reg.RSV.POOL_FLOOR i)).sum ≤ 4096 := by
    have h0 := hother 0 (by decide) (by decide)
    have h1 := hother 1 (by decide) (by decide)
    have h3 := hother 3 (by decide) (by decide)
    have h2 : (s.writeFields 0x009 0x048 d).rd (Reg.RSV.POOL_FLOOR 2) = 0 := hfloor.trans hf
    simp only [List.range, List.range.loop, List.map_cons, List.map_nil, List.sum_cons, List.sum_nil, h0, h1, h2, h3]
    omega
  refine (if_pos ⟨?_, hfloors⟩).trans (State.pageIfDue_of_safe hsafe')
  refine le_of_eq_of_le (hfloor.trans hf) (Nat.zero_le _)

/-! ## The writes of queue registers -/

/-- Settles O55: each write is the rule of its register on the state of the write. -/
theorem queueRegisterWrites : Obligations.QueueRegisterWrites := by
  unfold Obligations.QueueRegisterWrites
  refine ⟨fun s via k d hd hl => ?_, fun s via k d hd hl hwas h => ?_, fun s via k d hd hl hwas h => ?_, fun s via k d hd hl hwas h => ?_,
    fun s via k d hd hl h => ?_, fun s via d hd hl hidle => ?_, fun s via d hd hl hbusy => ?_, fun s a n h => ?_, fun s h => ?_,
    fun s via pool d hd hl hlt hc hf => ?_, fun s via d hd hl hsafe hc hf hsum => ?_⟩
  · refine ⟨_, exec_iqDoorbell k d hd hl, fun hlt => ?_, fun hle => ?_, s.wrIqTail_cox _ _⟩
    · rw [State.wrIqTail_of_lt hlt]
      exact ⟨(State.rd_wr_same _ _ _).trans (Nat.mod_mod _ _), rfl, fun g hg => State.rd_wr_ne _ _ (hg _ List.mem_cons_self)⟩
    · rw [State.wrIqTail_of_le hle]
      exact ⟨State.raise1_shows _ _ (show 0 < 32 by decide), State.raise1_sameFields s ⟨Err.COX.DOORBELL, k, 0⟩⟩
  · obtain ⟨hhead, htail, hstop, hon⟩ := (s.writeFields 0x00A (0x408 + 0x20 * k.val) d.toNat).iqStarts_spec k.isLt
    rw [s.iqCfg_enable, h] at hon
    refine ⟨_, (exec_iqEnable k d hd hl).trans (congrArg Host.Outcome.next (State.wrIqCfg_on hwas h)), hon, hhead, htail, hstop, ?_⟩
    exact regs_trans (s.writeFields_regs _ _ _) (State.iqStarts_frame _ _)
  · have hrun := (exec_iqDisable k d hd hl).trans (congrArg Host.Outcome.next (State.wrIqCfg_off hwas h))
    have hregs := fun g => State.rd_of_regs (congrArg State.regs
      (State.discardWaiting_frame (s.writeFields 0x00A (0x408 + 0x20 * k.val) d.toNat) k.val)) g
    have hcox : (s.writeFields 0x00A (0x408 + 0x20 * k.val) d.toNat).cox = s.cox := by rw [s.writeFields_regs]
    refine ⟨_, hrun, (hregs _).trans ((s.iqCfg_enable k d).trans (by rw [h]; rfl)), (hregs _).trans (s.iqCfg_rd_ne k _ ?_ ?_),
      (hregs _).trans (s.iqCfg_rd_ne k _ ?_ ?_), fun hnone => ?_, fun c hcmds hslot => ?_, ?_⟩
    · exact (show 0x408 + 0x20 * k.val ≠ 0x414 + 0x20 * k.val by omega)
    · exact ⟨show 0x414 + 0x20 * k.val < 0x1000 by omega, show 4 < 32 by decide⟩
    · exact (show 0x408 + 0x20 * k.val ≠ 0x410 + 0x20 * k.val by omega)
    · exact ⟨show 0x410 + 0x20 * k.val < 0x1000 by omega, show 0 < 32 by decide⟩
    · rw [State.discardWaiting_of_none (by rw [hcox]; exact hnone)]
      exact hcox
    · exact State.discardWaiting_only (by rw [hcox]; exact hcmds) (by rw [hcox]; exact hslot)
    · rw [State.discardWaiting_frame, s.writeFields_regs]
  · obtain ⟨hphase, htail, hhead, hon⟩ := (s.writeFields 0x00A (0xC08 + 0x10 * k.val) d.toNat).oqStarts_spec k.isLt
    have hoq : ∀ j, (s.writeFields 0x00A (0xC08 + 0x10 * k.val) d.toNat).oq j = s.oq j := fun j => by
      rw [s.writeFields_regs]
      rfl
    rw [s.oqCfg_enable, h] at hon
    refine ⟨_, (exec_oqEnable k d hd hl).trans (congrArg Host.Outcome.next (State.wrOqCfg_on hwas h)), hon, hphase, htail, hhead, ?_,
      fun j hj => (State.oqStarts_oq_ne _ hj).trans (hoq j), ?_⟩
    · rw [State.oqStarts_oq_same, hoq]
    · rw [State.oqStarts_frame, s.writeFields_regs]
  · refine ⟨_, (exec_oqDisable k d hd hl).trans (congrArg Host.Outcome.next (State.wrOqCfg_off h)), ?_, s.writeFields_regs _ _ _⟩
    rw [s.oqCfg_enable, h]
    rfl
  · obtain ⟨hstat, hcache, hwhat⟩ := State.wrCcInval_idle d.toNat hidle
    rw [bitAt_toNat] at hwhat
    refine ⟨fun h => ?_, fun h => ?_⟩
    · refine ⟨_, exec_ccInvalidateLines d hd hl, hstat, hcache, hwhat.trans ?_⟩
      rw [h]
      simp [bits]
    · refine ⟨_, exec_ccInvalidateAll d hd hl, hstat, hwhat.trans ?_⟩
      rw [h]
      rfl
  · rw [exec_ccInvalidateLines d hd hl, exec_ccInvalidateAll d hd hl, State.wrCcInval_busy _ hbusy]
    exact ⟨rfl, rfl⟩
  · refine ⟨_, exec_ccInvalidateDone h, s.invalidated_stat _, rfl, fun l ws => ?_, s.invalidated_sameFields _⟩
    rw [State.invalidated_cache, List.mem_filter]
    simp only [invalNames, Bool.not_eq_true', Bool.and_eq_false_iff, decide_eq_false_iff_not]
    exact and_congr_right fun _ => not_and_or.symm
  · refine ⟨_, exec_ccInvalidateDone h, ?_, s.invalidated_stat _⟩
    rw [State.invalidated_cache]
    simp [invalNames]
  · rw [exec_poolLimitWrite pool d hd hl, State.wrPool_refused _ _ hlt hc hf]
  · obtain ⟨hceil, hfloor⟩ := s.poolFields_limits .sts (d := d.toNat) (by omega) (by omega)
    exact ⟨_, (exec_poolLimitWrite .sts d hd hl).trans (congrArg Host.Outcome.next (State.wrPool_taken hsafe hc hf hsum)), hceil.trans hc,
      hfloor.trans hf, s.writeFields_regs _ _ _⟩

end Sys2Proof.Machine
end

section
/-! SUPPORT. What requests to hub memory and the end of a command of Cox touch. -/

namespace Sys2Proof.Machine

/-! ## Requests to hub memory (R69 to R84) -/

/-- Fields apart from what requests to hub memory and the events of their failures touch. -/
def Field.offHub (g : Field) : Prop :=
  (g.off < 0x010 ∨ 0x020 ≤ g.off) ∧ (g.off < 0x1000 ∧ g.lo < 32) ∧ (g.page < 0x020 ∨ 0x028 ≤ g.page) ∧ g.page ≠ 0x003 ∧ g.page ≠ 0x004

theorem Field.offHub_event {g : Field} (h : g.offHub) (c : ErrCode) : ∀ f ∈ eventFields c, f.key ≠ g.key := by
  obtain ⟨hoff, hg, -, h3, h4⟩ := h
  exact eventFields_key_ne hoff hg (Field.key_ne_of_page (Ne.symm h3) (by decide) hg) (Field.key_ne_of_page (Ne.symm h4) (by decide) hg)

/-- A write apart from the ERR registers hides no error. -/
theorem State.wr_shows_keeps {s : State} {f : Field} (v : Nat) {c : ErrCode} (hf : (f.off < 0x010 ∨ 0x020 ≤ f.off) ∧ f.off < 0x1000 ∧ f.lo < 32)
    (h : s.shows c = true) : (s.wr f v).shows c = true := by
  obtain ⟨hoff, hlt, hlo⟩ := hf
  rw [State.shows, State.rd_wr_ne _ _ (key_ne_errField c.cls c.page (by omega) hlt hlo).symm]
  exact h

/-- A state that requests to hub memory lead to. -/
structure State.HubWork (s t : State) : Prop where
  frame : t = { s with
    regs := t.regs, recs := t.recs, log := t.log, ump := t.ump, culvs := t.culvs
    cox := { s.cox with waiting := t.cox.waiting, failed := t.cox.failed } }
  rd : ∀ g : Field, g.offHub → t.rd g = s.rd g
  shows : ∀ c : ErrCode, c.bit < 32 → s.shows c = true → t.shows c = true

theorem State.HubWork.refl (s : State) : s.HubWork s := ⟨rfl, fun _ _ => rfl, fun _ _ h => h⟩

theorem State.HubWork.trans {s t u : State} (h : s.HubWork t) (h' : t.HubWork u) : s.HubWork u :=
  ⟨by rw [h'.frame, h.frame], fun g hg => (h'.rd g hg).trans (h.rd g hg), fun c hc hs => h'.shows c hc (h.shows c hc hs)⟩

theorem State.HubWork.of_foldl {α : Type} {f : State → α → State} (h : ∀ (s : State) (a : α), s.HubWork (f s a)) (l : List α) (s : State) : s.HubWork (l.foldl f s) := by
  induction l generalizing s with
  | nil => exact .refl s
  | cons a l ih => exact (h s a).trans (ih (f s a))

theorem State.HubWork.of_culvs (s : State) (l : Tab Culv) : s.HubWork { s with culvs := l } := ⟨rfl, fun _ _ => rfl, fun _ _ h => h⟩

theorem State.HubWork.of_waiting (s : State) (l : List HubReq) : s.HubWork { s with cox := { s.cox with waiting := l } } :=
  ⟨rfl, fun _ _ => rfl, fun _ _ h => h⟩

theorem State.HubWork.of_failed (s : State) (l : List (HubReq × Nat)) : s.HubWork { s with cox := { s.cox with failed := l } } :=
  ⟨rfl, fun _ _ => rfl, fun _ _ h => h⟩

theorem State.HubWork.of_raise1 (s : State) (e : Event) : s.HubWork (s.raise1 e) :=
  ⟨by rw [s.raise1_frame e], fun g hg => s.raise1_rd e g (Field.offHub_event hg e.code), fun _ hc h => State.raise1_shows_of_shows e hc h⟩

/-- A request that fails is counted and reported on the page of a culvert. -/
theorem State.unreachable_hubWork (s : State) {c : Nat} (hc : c < 8) (r : HubReq) : s.HubWork (s.unreachable c r) := by
  have hplace : (0x064 < 0x010 ∨ 0x020 ≤ 0x064) ∧ 0x064 < 0x1000 ∧ 0 < 32 := by decide
  have hcount : s.HubWork (s.bump (Reg.CLV.UNREACH_CNT c)) := by
    refine ⟨rfl, fun g hg => s.rd_bump_ne ?_, fun _ _ h => State.wr_shows_keeps _ hplace h⟩
    obtain ⟨-, hlt, hpage, -, -⟩ := hg
    exact Field.key_ne_of_page (show 0x020 + c ≠ g.page by omega) hplace.2 hlt
  exact (hcount.trans (.of_raise1 _ _)).trans (.of_failed _ _)

theorem State.steer_lt (s : State) (e : Nat) : s.steer e < 8 := by
  unfold State.steer bits
  have hwidth : 4 * (e % 8) + 2 - 4 * (e % 8) + 1 = 3 := by omega
  rw [hwidth]
  exact Nat.mod_lt _ (by decide)

/-- A request fails on the culvert that its entry of the steering table names. -/
theorem State.route_fail {s : State} {a c : Nat} (h : s.route a = .fail c) : c < 8 := by
  have hlt := s.steer_lt (steerIndex a)
  have hnamed : ∀ k, (if s.remapOn then Route.wait else .fail k) = .fail c → k = c := fun k hk => by
    split at hk
    · exact nomatch hk
    · exact Route.fail.inj hk
  unfold State.route at h
  dsimp only at h
  split at h
  · exact nomatch h
  · split at h
    · exact Route.fail.inj h ▸ hlt
    · split at h
      · exact nomatch h
      · exact hnamed _ h ▸ hlt
      · exact hnamed _ h ▸ hlt
      · exact hnamed _ h ▸ hlt
      · exact nomatch h

theorem State.issue_hubWork (s : State) (r : HubReq) : s.HubWork (s.issue r) := by
  unfold State.issue
  cases hroute : s.route r.addr with
  | send c =>
    dsimp only
    split
    · exact .of_culvs s _
    · exact .of_waiting s _
  | wait => exact .of_waiting s _
  | fail c => exact s.unreachable_hubWork (State.route_fail hroute) r

theorem State.form_hubWork (s : State) : s.HubWork s.form := by
  refine State.HubWork.of_foldl (fun s c => ?_) _ s
  unfold State.formOne
  dsimp only
  split
  · exact .refl s
  · exact .of_culvs s _

theorem State.hubWrite_hubWork (s : State) (a : Nat) (bs : List Byte) (poison : Bool) (purpose : Purpose) :
    s.HubWork (s.hubWrite a bs poison purpose) :=
  (State.HubWork.of_foldl (fun s _ => s.issue_hubWork _) _ s).trans (State.form_hubWork _)

/-! ## Completions (R322, R323, R333) -/

/-- A state in which a command of Cox has ended, as far as other units and the registers of other pages go. -/
structure State.CoxWork (s t : State) : Prop where
  frame : t = { s with
    regs := t.regs, recs := t.recs, log := t.log, ump := t.ump, culvs := t.culvs, buoys := t.buoys, cox := t.cox
    runs := { s.runs with run := t.runs.run } }
  rd : ∀ g : Field, g.offHub → g.page ≠ 0x00A → g.page ≠ 0x00C → t.rd g = s.rd g
  shows : ∀ c : ErrCode, c.bit < 32 → s.shows c = true → t.shows c = true

theorem State.CoxWork.trans {s t u : State} (h : s.CoxWork t) (h' : t.CoxWork u) : s.CoxWork u :=
  ⟨by rw [h'.frame, h.frame], fun g h1 h2 h3 => (h'.rd g h1 h2 h3).trans (h.rd g h1 h2 h3), fun c hc hs => h'.shows c hc (h.shows c hc hs)⟩

theorem State.HubWork.coxWork {s t : State} (h : s.HubWork t) : s.CoxWork t :=
  ⟨by rw [h.frame], fun g hg _ _ => h.rd g hg, h.shows⟩

theorem State.CoxWork.refl (s : State) : s.CoxWork s := (State.HubWork.refl s).coxWork

theorem State.CoxWork.of_cox (s : State) (x : CoxState) : s.CoxWork { s with cox := x } := ⟨rfl, fun _ _ _ _ => rfl, fun _ _ h => h⟩

theorem State.CoxWork.of_run (s : State) (r : Option Run) : s.CoxWork { s with runs := { s.runs with run := r } } :=
  ⟨rfl, fun _ _ _ _ => rfl, fun _ _ h => h⟩

/-- Registers of Cox and of Regatta beyond the header. -/
theorem State.CoxWork.of_wr (s : State) {f : Field} (v : Nat) (hpage : f.page = 0x00A ∨ f.page = 0x00C)
    (hf : (f.off < 0x010 ∨ 0x020 ≤ f.off) ∧ f.off < 0x1000 ∧ f.lo < 32) : s.CoxWork (s.wr f v) := by
  refine ⟨rfl, fun g hg hA hC => s.rd_wr_ne v (Field.key_ne_of_page ?_ hf.2 hg.2.1), fun _ _ => State.wr_shows_keeps v hf⟩
  rcases hpage with h | h <;> rw [h]
  exacts [Ne.symm hA, Ne.symm hC]

theorem State.CoxWork.of_bump (s : State) {f : Field} (hpage : f.page = 0x00A ∨ f.page = 0x00C)
    (hf : (f.off < 0x010 ∨ 0x020 ≤ f.off) ∧ f.off < 0x1000 ∧ f.lo < 32) : s.CoxWork (s.bump f) := .of_wr s _ hpage hf

theorem State.CoxWork.of_ite {s a b : State} {c : Prop} [Decidable c] (ha : s.CoxWork a) (hb : s.CoxWork b) : s.CoxWork (if c then a else b) := by
  split
  exacts [ha, hb]

theorem State.CoxWork.of_buoyOp (s : State) (k op : Nat) (v : DWord) : s.CoxWork (s.buoyOp k op v) :=
  ⟨rfl, fun _ _ _ _ => rfl, fun _ _ h => h⟩

theorem State.writeCompletion_hubWork (s : State) (c : Cmd) (status detail : Nat) :
    ∃ q o, (s.setOq q o).HubWork (s.writeCompletion c status detail) := ⟨_, _, State.hubWrite_hubWork _ _ _ _ _⟩

/-! ### The steps of a command's end -/

/-- The command leaves the lists of Cox. -/
def State.unlisted (s : State) (c : Cmd) : State :=
  { s with cox := { s.cox with
    cmds := s.cox.cmds.filter (·.id != c.id)
    bw := s.cox.bw.filter (· != c.id)
    slots := s.cox.slots.filter fun kv => kv.2 != some c.id } }

/-- Its buoy addition. -/
def State.localAdd (s : State) (c : Cmd) (status : Nat) : State :=
  let w6 := c.w 6
  if status = 0 ∧ hasLocal (cOp c.words) ∧ bitAt w6 6 then s.buoyOp (bits w6 5 0) 1 (BitVec.ofNat 64 (bits w6 63 32)) else s

theorem State.localAdd_of_ne (s : State) (c : Cmd) {status : Nat} (h : status ≠ 0) : s.localAdd c status = s := if_neg fun hc => h hc.1

/-- Its counters. -/
def State.counted (s : State) (status : Nat) : State :=
  let t := if status = 0 then s else s.bump Reg.COX.FAIL_CNT
  if status = 0x20 then t.bump Reg.COX.EXPIRED_CNT else t

/-- Its reservation and its completion. -/
def State.reported (s : State) (c : Cmd) (src : Nat × Nat) (status detail : Nat) : State :=
  let q := cOq c.words
  let live := s.flag (Reg.COX.OQ_CFG_ENABLE q) && (s.oq q).period == c.period
  let t := if live then s.setOq q { s.oq q with reserved := (s.oq q).reserved - 1 } else s
  if status = 0 ∧ bitAt (c.w 0) 14 then t
  else if live then t.writeCompletion c status detail
  else t.raise1 ⟨Err.COX.OQ_DISABLED, q * 2 ^ 8 + src.1, src.2⟩

theorem State.finish_eq (s : State) (c : Cmd) (status detail : Nat) :
    s.finish c status detail = (((s.unlisted c).localAdd c status).counted status).reported c (s.cmdOrigin c) status detail := rfl

/-- Its report is hub work behind the reservation's release. -/
theorem State.reported_hubWork (s : State) (c : Cmd) (src : Nat × Nat) (status detail : Nat) :
    ∃ l, { s with cox := { s.cox with oqs := l } }.HubWork (s.reported c src status detail) := by
  unfold State.reported
  dsimp only
  split
  · split
    · exact ⟨_, .refl _⟩
    · exact ⟨_, .refl _⟩
  · cases s.flag (Reg.COX.OQ_CFG_ENABLE (cOq c.words)) && (s.oq (cOq c.words)).period == c.period with
    | false => exact ⟨_, .of_raise1 _ _⟩
    | true =>
      obtain ⟨q, o, h⟩ := State.writeCompletion_hubWork (s.setOq (cOq c.words) { s.oq (cOq c.words) with reserved := (s.oq (cOq c.words)).reserved - 1 })
        c status detail
      exact ⟨_, h⟩

theorem State.counted_frame (s : State) (status : Nat) : s.counted status = { s with regs := (s.counted status).regs } := by
  unfold State.counted
  dsimp only
  split <;> split <;> rfl

theorem State.counted_coxWork (s : State) (status : Nat) : s.CoxWork (s.counted status) := by
  have hfail : s.CoxWork (if status = 0 then s else s.bump Reg.COX.FAIL_CNT) := .of_ite (.refl s) (.of_bump s (.inl rfl) (by decide))
  exact hfail.trans (.of_ite (.of_bump _ (.inl rfl) (by decide)) (.refl _))

/-- An expired command counts in both counters. -/
theorem State.counted_expired (s : State) : (s.counted stExpired).rd Reg.COX.EXPIRED_CNT = (s.bump Reg.COX.EXPIRED_CNT).rd Reg.COX.EXPIRED_CNT ∧
    (s.counted stExpired).rd Reg.COX.FAIL_CNT = (s.bump Reg.COX.FAIL_CNT).rd Reg.COX.FAIL_CNT :=
  ⟨bump_rd_of_rd_eq (s.rd_bump_ne (by decide)), (s.bump Reg.COX.FAIL_CNT).rd_bump_ne (by decide)⟩

/-- What a command's end keeps of Cox: its jobs, and no command but those it had. -/
theorem State.finish_cox (s : State) (c : Cmd) (status detail : Nat) : (s.finish c status detail).cox.jobs = s.cox.jobs ∧
    (s.finish c status detail).cox.bw = s.cox.bw.filter (· != c.id) ∧
    (s.cox.cmds.filter (·.id != c.id) = [] → (s.finish c status detail).cox.cmds = []) := by
  obtain ⟨l, hreport⟩ := State.reported_hubWork (((s.unlisted c).localAdd c status).counted status) c (s.cmdOrigin c) status detail
  rw [s.finish_eq, hreport.frame, State.counted_frame]
  unfold State.localAdd
  dsimp only
  split
  · exact ⟨rfl, rfl, fun h => congrArg (List.map _) h⟩
  · exact ⟨rfl, rfl, fun h => h⟩

theorem State.finish_coxWork (s : State) (c : Cmd) (status detail : Nat) : s.CoxWork (s.finish c status detail) := by
  obtain ⟨l, hreport⟩ := State.reported_hubWork (((s.unlisted c).localAdd c status).counted status) c (s.cmdOrigin c) status detail
  have hlist : s.CoxWork (s.unlisted c) := .of_cox s _
  have hadd : (s.unlisted c).CoxWork ((s.unlisted c).localAdd c status) := .of_ite (.of_buoyOp _ _ _ _) (.refl _)
  rw [s.finish_eq]
  exact (((hlist.trans hadd).trans (State.counted_coxWork _ _)).trans (.of_cox _ _)).trans hreport.coxWork

/-- An expired command's end counts in both counters. -/
theorem State.finish_expired (s : State) (c : Cmd) (detail : Nat) :
    (s.finish c stExpired detail).rd Reg.COX.EXPIRED_CNT = (s.bump Reg.COX.EXPIRED_CNT).rd Reg.COX.EXPIRED_CNT ∧
    (s.finish c stExpired detail).rd Reg.COX.FAIL_CNT = (s.bump Reg.COX.FAIL_CNT).rd Reg.COX.FAIL_CNT := by
  obtain ⟨l, hreport⟩ := State.reported_hubWork (((s.unlisted c).localAdd c stExpired).counted stExpired) c (s.cmdOrigin c) stExpired detail
  have hnone := (s.unlisted c).localAdd_of_ne c (show stExpired ≠ 0 by decide)
  obtain ⟨hexp, hfail⟩ := (s.unlisted c).counted_expired
  rw [hnone] at hreport
  rw [s.finish_eq, hnone]
  exact ⟨(hreport.rd _ (by unfold Field.offHub; decide)).trans hexp, (hreport.rd _ (by unfold Field.offHub; decide)).trans hfail⟩

/-! ### The regatta's bookkeeping after it -/

/-- A state that Regatta's bookkeeping leads to. -/
structure State.RunWork (s t : State) : Prop where
  frame : t = { s with regs := t.regs, runs := { s.runs with run := t.runs.run } }
  rd : ∀ g : Field, (g.off < 0x1000 ∧ g.lo < 32) → g.page ≠ 0x00C → t.rd g = s.rd g
  shows : ∀ c : ErrCode, c.bit < 32 → s.shows c = true → t.shows c = true

theorem State.RunWork.refl (s : State) : s.RunWork s := ⟨rfl, fun _ _ _ => rfl, fun _ _ h => h⟩

theorem State.RunWork.trans {s t u : State} (h : s.RunWork t) (h' : t.RunWork u) : s.RunWork u :=
  ⟨by rw [h'.frame, h.frame], fun g h1 h2 => (h'.rd g h1 h2).trans (h.rd g h1 h2), fun c hc hs => h'.shows c hc (h.shows c hc hs)⟩

theorem State.RunWork.of_run (s : State) (r : Option Run) : s.RunWork { s with runs := { s.runs with run := r } } :=
  ⟨rfl, fun _ _ _ => rfl, fun _ _ h => h⟩

theorem State.RunWork.of_ite {s a b : State} {c : Prop} [Decidable c] (ha : s.RunWork a) (hb : s.RunWork b) : s.RunWork (if c then a else b) := by
  split
  exacts [ha, hb]

theorem State.RunWork.of_wr (s : State) {f : Field} (v : Nat) (hpage : f.page = 0x00C)
    (hf : (f.off < 0x010 ∨ 0x020 ≤ f.off) ∧ f.off < 0x1000 ∧ f.lo < 32) : s.RunWork (s.wr f v) :=
  ⟨rfl, fun _ hg hC => s.rd_wr_ne v (Field.key_ne_of_page (by rw [hpage]; exact Ne.symm hC) hf.2 hg), fun _ _ => State.wr_shows_keeps v hf⟩

theorem State.RunWork.coxWork {s t : State} (h : s.RunWork t) : s.CoxWork t :=
  ⟨by rw [h.frame], fun g hg _ hC => h.rd g hg.2.1 hC, h.shows⟩

theorem State.transferEnds_runWork (s : State) (c : Cmd) (status detail : Nat) : s.RunWork (s.transferEnds c status detail) := by
  unfold State.transferEnds
  dsimp only
  split
  · have hdone := fun r => (State.RunWork.of_run s (some r)).trans (.of_wr _ (f := Reg.RGT.DONE) r.done rfl (by decide))
    split
    · exact (hdone _).trans (.of_wr _ _ rfl (by decide))
    · exact hdone _
  · exact .refl s

/-- With no command left, a run that ends completes none. -/
theorem State.endRun_runWork {s : State} (h : s.cox.cmds = []) : s.RunWork s.endRun := by
  have hcmd : ∀ id, s.cmd id = .none := fun id => by rw [State.cmd, h, List.find?_nil]
  unfold State.endRun
  cases hrun : s.runs.run with
  | none => exact .refl s
  | some r =>
    have hstop : r.stop.bind s.cmd = .none := by cases r.stop <;> simp [hcmd]
    dsimp only
    rw [hstop, hcmd]
    exact .of_ite (.refl s) ((State.RunWork.of_wr s (f := Reg.RGT.STAT_STATE) 0 rfl (by decide)).trans (.of_run _ _))

/-- With no command left, none waits in a slot. -/
theorem State.discardWaiting_of_nil {s : State} (h : s.cox.cmds = []) (slot : Nat) : s.discardWaiting slot = s := by
  have hcmd : ∀ id, s.cmd id = .none := fun id => by rw [State.cmd, h, List.find?_nil]
  unfold State.discardWaiting
  cases Tab.read .none s.cox.slots slot with
  | none => rfl
  | some id => simp [hcmd]

/-! ### The end of Cox's only command -/

/-- A command that has not ended ends by its report and the regatta's bookkeeping. -/
theorem State.complete_only {s : State} {c : Cmd} (hcmds : s.cox.cmds = [c]) (hphase : c.phase ≠ .ended) (status detail : Nat) :
    (s.finish c status detail).RunWork (s.complete c.id status detail) := by
  have hcmd : s.cmd c.id = some c := by simp [State.cmd, hcmds]
  have hnil : (s.finish c status detail).cox.cmds = [] := (s.finish_cox c status detail).2.2 (by simp [hcmds])
  have hends := (s.finish c status detail).transferEnds_runWork c status detail
  have hnil' : ((s.finish c status detail).transferEnds c status detail).cox.cmds = [] := by rw [hends.frame]; exact hnil
  unfold State.complete
  rw [hcmd]
  dsimp only
  rw [if_neg hphase]
  cases c.src with
  | iq k => exact hends
  | regatta =>
    dsimp only
    rw [State.discardWaiting_of_nil hnil', ite_self]
    exact hends.trans (State.endRun_runWork hnil')

/-- The end of Cox's only command leaves the jobs, and other units and pages. -/
theorem State.complete_only_spec {s : State} {c : Cmd} (hcmds : s.cox.cmds = [c]) (hphase : c.phase ≠ .ended) (status detail : Nat) :
    s.CoxWork (s.complete c.id status detail) ∧ (s.complete c.id status detail).cox.cmds = [] ∧
    (s.complete c.id status detail).cox.jobs = s.cox.jobs ∧ (s.complete c.id status detail).cox.bw = s.cox.bw.filter (· != c.id) := by
  obtain ⟨hjobs, hbw, hnil⟩ := s.finish_cox c status detail
  have hrun := State.complete_only hcmds hphase status detail
  have hcox : (s.complete c.id status detail).cox = (s.finish c status detail).cox := by rw [hrun.frame]
  exact ⟨(s.finish_coxWork c status detail).trans hrun.coxWork, hcox ▸ hnil (by simp [hcmds]), hcox ▸ hjobs, hcox ▸ hbw⟩

theorem State.complete_only_expired {s : State} {c : Cmd} (hcmds : s.cox.cmds = [c]) (hphase : c.phase ≠ .ended) (detail : Nat) :
    (s.complete c.id stExpired detail).rd Reg.COX.EXPIRED_CNT = (s.bump Reg.COX.EXPIRED_CNT).rd Reg.COX.EXPIRED_CNT ∧
    (s.complete c.id stExpired detail).rd Reg.COX.FAIL_CNT = (s.bump Reg.COX.FAIL_CNT).rd Reg.COX.FAIL_CNT := by
  have hrun := State.complete_only hcmds hphase stExpired detail
  obtain ⟨hexp, hfail⟩ := s.finish_expired c detail
  exact ⟨(hrun.rd _ (by decide) (by decide)).trans hexp, (hrun.rd _ (by decide) (by decide)).trans hfail⟩

end Sys2Proof.Machine
end

section
/-! SUPPORT. What ends the waits of commands and of jobs. -/

namespace Sys2Proof.Machine

/-! ## Wait slots (R332, R365) -/

theorem State.cmd_of_only {s : State} {c : Cmd} (h : s.cox.cmds = [c]) : s.cmd c.id = some c := by simp [State.cmd, h]

theorem exec_fenceComplete_of {s : State} {k : Fin 64} {c : Cmd} (h : (Tab.read .none s.cox.slots k.val).bind s.cmd = some c) :
    exec (.fenceComplete k) s =
      .next (if c.phase = .fence ∧ !(s.cox.cmds.any fun x => x.src == c.src && decide (x.id < c.id)) then (s.complete c.id stDone 0).settle else s) := by
  refine congrArg Host.Outcome.next ?_
  simp only [h]

theorem exec_waitRelease_of {s : State} {k : Fin 64} {c : Cmd} (h : (Tab.read .none s.cox.slots k.val).bind s.cmd = some c) :
    exec (.waitRelease (.iq k)) s = .next (if c.phase = .waitBuoy ∧ c.met then
      if cOp c.words = 9 then s.setCmd { c with phase := .fence } else (s.go c).settle else s) := by
  refine congrArg Host.Outcome.next ?_
  simp only [srcNo, h]

theorem State.go_nop {s : State} {c : Cmd} (h : cOp c.words = 0) : s.go c = s.complete c.id stDone 0 := by
  unfold State.go
  simp only [h]

/-! ## The Backwater (R347, R348) -/

theorem exec_backwaterRelease {s : State} (hrun : s.running = true) (hcyc : s.clk.cycle = 0) : exec .backwaterRelease s = .next s.releaseAll.settle :=
  congrArg Host.Outcome.next (if_pos (by simp [hrun, hcyc]))

theorem exec_heldExpired {s : State} (hrun : s.running = true) (hcyc : s.clk.cycle = 0) :
    exec .heldExpired s = .next (s.releaseAll.cox.bw.foldl State.expire s.releaseAll).settle :=
  congrArg Host.Outcome.next (if_pos (by simp [hrun, hcyc]))

/-- The one held command is released where its stream takes it. -/
theorem State.releaseAll_only {s : State} {c : Cmd} {n d : Nat} (hcmds : s.cox.cmds = [c]) (hbw : s.cox.bw = [c.id]) (hph : c.phase = .held n d) :
    s.releaseAll = if s.streamReady n then s.release c n else s := by
  unfold State.releaseAll
  rw [hbw, List.foldl_cons, List.foldl_nil, State.cmd_of_only hcmds]
  simp only [hph]

theorem State.addJob_of_nil {s : State} (h : s.cox.jobs = []) (j : Job) : (s.addJob j).cox.jobs = [{ j with id := s.cox.nextId }] := by
  simp [State.addJob, h, insertAfter]

/-- A SEND released on one port begins with its job. -/
theorem State.release_send {s : State} {c : Cmd} {n : Nat} (hcmds : s.cox.cmds = [c]) (hbw : s.cox.bw = [c.id]) (hjobs : s.cox.jobs = [])
    (hop : cOp c.words = 1) (hps : cPsel c.words < 16) : (s.release c n).cox.bw = [] ∧
    ∃ x j, (s.release c n).cox.cmds = [x] ∧ x.id = c.id ∧ x.phase = .running ∧ x.port = some n ∧
      (s.release c n).cox.jobs = [j] ∧ j.kind = .send ∧ j.port = n := by
  have hlist : Cmd.isList { c with phase := .running } = false := by simp [Cmd.isList, hop]
  have hone : cPsel c.words ≠ 16 := by omega
  have hstart : ∃ u : State, u.cox.bw = [] ∧ u.cox.jobs = [] ∧ u.cox.cmds = [{ c with phase := .running }] ∧
      s.release c n = u.startSimple { c with phase := .running } n := by
    refine ⟨State.setCmd { s with cox := { s.cox with bw := s.cox.bw.filter (· != c.id) } } { c with phase := .running }, ?_, hjobs, ?_, ?_⟩
    · simp [State.setCmd, hbw]
    · simp [State.setCmd, hcmds]
    · unfold State.release
      simp only [hop, hlist, hone, if_false, Bool.false_eq_true]
  obtain ⟨u, hubw, hujobs, hucmds, hrel⟩ := hstart
  rw [hrel]
  unfold State.startSimple
  simp only [hop]
  refine ⟨hubw, { c with port := some n, opened := 1, begun := true, phase := .running }, _, ?_, rfl, rfl, rfl,
    State.addJob_of_nil hujobs _, rfl, rfl⟩
  simp [State.addJob, State.setCmd, hucmds]

/-- A held SEND at its limit. -/
theorem State.expire_send {s : State} {c : Cmd} {n d : Nat} (hcmds : s.cox.cmds = [c]) (hph : c.phase = .held n d) (hop : cOp c.words = 1)
    (hdue : d ≤ s.now) :
    s.expire c.id = (State.cancelJobs { s with cox := { s.cox with bw := s.cox.bw.filter (· != c.id) } } c.id).complete c.id stExpired
      (State.streamPort { s with cox := { s.cox with bw := s.cox.bw.filter (· != c.id) } } n) := by
  have hlist : c.isList = false := by simp [Cmd.isList, hop]
  unfold State.expire
  rw [State.cmd_of_only hcmds]
  simp only [hph, hlist, hop, if_pos hdue]
  rfl

theorem State.expire_early {s : State} {c : Cmd} {n d : Nat} (hcmds : s.cox.cmds = [c]) (hph : c.phase = .held n d) (hearly : s.now < d) :
    s.expire c.id = s := by
  unfold State.expire
  rw [State.cmd_of_only hcmds]
  simp only [hph, if_neg (Nat.not_le.2 hearly)]

/-! ## Pages (R358, R359) -/

theorem State.job_of_only {s : State} {j : Job} (h : s.cox.jobs = [j]) : s.job j.id = some j := by simp [State.job, h]

theorem exec_poolExhausted_early {s : State} {j : Job} {a : Nat} (hjobs : s.cox.jobs = [j]) (hsince : j.waitSince = some a)
    (hearly : s.now < a + s.rd Reg.RSV.WAIT_MAX) : exec (.poolExhausted j.id) s = .next s := by
  refine congrArg Host.Outcome.next ?_
  simp only [State.job_of_only hjobs, hsince]
  exact if_pos hearly

theorem exec_poolExhausted_stash {s : State} {j : Job} {id a : Nat} (hjobs : s.cox.jobs = [j]) (hkind : j.kind = .stash id)
    (hsince : j.waitSince = some a) (hdue : a + s.rd Reg.RSV.WAIT_MAX ≤ s.now) : exec (.poolExhausted j.id) s =
      .next ((((s.raise1 ⟨Err.RSV.WAIT_EXPIRED, 2 * 2 ^ 16, 0⟩).freeExtent id).dropJob j.id).complete j.cmd stPool 2).settle := by
  refine congrArg Host.Outcome.next ?_
  simp only [State.job_of_only hjobs, hsince, hkind]
  exact if_neg (Nat.not_lt.2 hdue)

theorem State.freeExtent_extent_same (s : State) (id : Nat) : (s.freeExtent id).extent id = Extent.reset :=
  (s.returnPages .sts (s.extent id).pages.length).extent_setExtent_same id Extent.reset

theorem State.pageEnough_frame (s : State) :
    s.pageEnough = { s with regs := s.pageEnough.regs, runs := { s.runs with pressing := s.pageEnough.runs.pressing } } := by
  unfold State.pageEnough
  dsimp only
  split <;> rfl

theorem State.pageEnough_rd (s : State) {g : Field} (h : Reg.RSV.STAT_PAGING.key ≠ g.key) : s.pageEnough.rd g = s.rd g := by
  unfold State.pageEnough
  dsimp only
  split
  · exact State.rd_wr_ne s 0 h
  · rfl

/-- Paging ends where no page is left. -/
theorem State.pageEnough_none {s : State} (h : s.stsResident = false) : s.pageEnough.rd Reg.RSV.STAT_PAGING = 0 := by
  unfold State.pageEnough
  dsimp only
  rw [if_pos (by rw [h]; rfl)]
  exact State.rd_wr_same s Reg.RSV.STAT_PAGING 0

/-- The last page of an extent goes: the extent is empty, and paging ends. -/
theorem State.pageGone_last {s : State} {id k : Nat} {x : Extent} {bs : List Byte} (hext : s.runs.extents = [(id, x)]) (hst : x.state = 2)
    (hret : x.retire = false) (hpages : x.pages = [(k, bs)]) :
    ∃ y : Extent, y.state = 4 ∧ y.pages = [] ∧ (s.pageGone id k).runs.extents = [(id, y)] ∧
    (s.pageGone id k).rd Reg.RSV.PAGEOUT_CNT = (s.bump Reg.RSV.PAGEOUT_CNT).rd Reg.RSV.PAGEOUT_CNT := by
  have hx : s.extent id = x := by simp [State.extent, hext, Tab.read]
  generalize hy : { x with pages := [], clean := x.clean.filter (· != k), writing := x.writing.filter (· != k), state := 4 } = y
  have hyst : y.state = 4 := by rw [← hy]
  have hypg : y.pages = [] := by rw [← hy]
  have hyret : y.retire = false := by rw [← hy]; exact hret
  have hne : y ≠ Extent.reset := fun h => by rw [h] at hyst; exact absurd hyst (by decide)
  have hleft : (s.pageGone id k) = (State.retireWaiting (State.bump (State.returnPages (s.setExtent id y) .sts 1) Reg.RSV.PAGEOUT_CNT)).pageEnough := by
    unfold State.pageGone
    simp [hx, hpages, hst, ← hy]
  have htab : Tab.write Extent.reset s.runs.extents id y = [(id, y)] := by
    rw [hext, Tab.write, if_neg hne]
    simp [Tab.erase, Tab.insert]
  generalize ht : State.bump (State.returnPages (s.setExtent id y) .sts 1) Reg.RSV.PAGEOUT_CNT = t at hleft
  have htext : t.runs.extents = [(id, y)] := by rw [← ht]; exact htab
  have hwait : t.retireWaiting = t := by
    unfold State.retireWaiting
    rw [htext]
    simp [hyret]
  have hcnt : t.rd Reg.RSV.PAGEOUT_CNT = (s.bump Reg.RSV.PAGEOUT_CNT).rd Reg.RSV.PAGEOUT_CNT := by
    rw [← ht]
    exact bump_rd_of_rd_eq (State.rd_wr_ne _ _ (by decide))
  rw [hleft, hwait]
  refine ⟨y, hyst, hypg, ?_, ?_⟩
  · rw [State.pageEnough_frame]
    exact htext
  · rw [State.pageEnough_rd _ (by decide), hcnt]

theorem State.pageIfDue_paging {s : State} (hpaging : s.flag Reg.RSV.STAT_PAGING = true) (hpress : s.runs.pressing = true) : s.pageIfDue = s := by
  have hsame : ∀ b, s.startPaging b = s := fun b => by
    have hruns : { s.runs with pressing := s.runs.pressing || b } = s.runs := by rw [hpress, Bool.true_or, ← hpress]
    unfold State.startPaging
    split
    · rfl
    · dsimp only
      rw [hruns]
      exact if_pos hpaging
  rw [State.pageIfDue, hsame, hsame]
  split <;> [skip; split] <;> rfl

theorem exec_pageOut {s : State} (hsafe : s.safe = false) (hpaging : s.flag Reg.RSV.STAT_PAGING = true) (hpress : s.runs.pressing = true) :
    exec (.pageOut .none) s = .next (s.pageOutNext .none).pageEnough.settle := by
  refine congrArg Host.Outcome.next ((if_neg (by rw [hsafe]; decide)).trans ?_)
  dsimp only
  rw [State.pageIfDue_paging hpaging hpress]
  exact if_pos hpaging

/-- The only page of the only extent, clean, is the next to go. -/
theorem State.pageOutNext_last {s : State} {id k : Nat} {x : Extent} {bs : List Byte} (hext : s.runs.extents = [(id, x)]) (hst : x.state = 2)
    (hpages : x.pages = [(k, bs)]) (hclean : x.clean = [k]) (hwr : x.writing = []) : s.pageOutNext .none = s.pageGone id k := by
  have hx : s.extent id = x := by simp [State.extent, hext, Tab.read]
  have hnext : s.nextPageOut = some (id, k) := by simp [State.nextPageOut, hext, hst, hpages, hwr]
  unfold State.pageOutNext
  rw [hnext]
  simp [hx, hclean]

/-! ## The ends of waits -/

/-- Settles O58: each wait ends by the rule of what it waited for. -/
theorem waitsEnd : Obligations.WaitsEnd := by
  unfold Obligations.WaitsEnd
  refine ⟨fun s k c hcmds hslot => ?_, fun s k a c hcmds hsrc hlt hslot => ?_, fun s c n d hrun hcyc hcmds hbw hjobs hph hop hps => ?_,
    fun s hcyc => ?_, fun s j c id a hjobs hcmds hcmd hkind hsince hph => ?_, fun s n hnone => ?_, fun s f hsafe => ?_,
    fun s x id k bs hsafe hpaging hpress hext hst hret hpages hclean hwr => ?_⟩
  · have hfound : (Tab.read .none s.cox.slots k.val).bind s.cmd = some c := by rw [hslot]; exact State.cmd_of_only hcmds
    rw [exec_fenceComplete_of hfound, exec_waitRelease_of hfound]
    refine ⟨fun hph => ?_, fun hph => ?_, fun hph hmet hop => ?_, fun hph hmet hop => ?_, fun hnot => ?_⟩
    · have hended : c.phase ≠ .ended := by rw [hph]; exact nofun
      exact ⟨_, by rw [if_pos ⟨hph, by simp [hcmds]⟩], rfl, (State.complete_only_spec hcmds hended stDone 0).2.1⟩
    · rw [if_neg fun h => hph h.1]
    · rw [if_pos ⟨hph, hmet⟩, if_pos hop]
    · have hended : c.phase ≠ .ended := by rw [hph]; exact nofun
      refine ⟨_, by rw [if_pos ⟨hph, hmet⟩, if_neg (by rw [hop]; decide)], ?_⟩
      rw [State.go_nop hop]
      exact (State.complete_only_spec hcmds hended stDone 0).2.1
    · rw [if_neg]
      rintro ⟨hph, hmet⟩
      exact hnot.elim (fun h => by rw [h] at hmet; exact nomatch hmet) fun h => h hph
  · have hfound : (Tab.read .none s.cox.slots k.val).bind s.cmd = some c := by
      rw [hslot]
      simp [State.cmd, hcmds, Nat.ne_of_lt hlt]
    rw [exec_fenceComplete_of hfound, if_neg]
    rintro ⟨-, hfirst⟩
    simp [hcmds, hsrc, hlt] at hfirst
  · have hall := State.releaseAll_only hcmds hbw hph
    rw [exec_backwaterRelease hrun hcyc, exec_heldExpired hrun hcyc]
    refine ⟨fun hready => ?_, fun hbusy => ?_⟩
    · rw [hall, if_pos hready]
      obtain ⟨hbw', hspec⟩ := State.release_send hcmds hbw hjobs hop hps
      exact ⟨_, rfl, by rw [hbw']; rfl, hbw', hspec⟩
    · rw [hall, if_neg (by rw [hbusy]; decide), hbw, List.foldl_cons, List.foldl_nil]
      refine ⟨rfl, fun hearly => by rw [State.expire_early hcmds hph hearly], fun hdue => ⟨_, rfl, ?_⟩⟩
      have hended : c.phase ≠ .ended := by rw [hph]; exact nofun
      rw [State.expire_send hcmds hph hop hdue]
      generalize State.streamPort _ _ = p
      generalize hu : State.cancelJobs { s with cox := { s.cox with bw := s.cox.bw.filter (· != c.id) } } c.id = u
      have hucmds : u.cox.cmds = [c] := by rw [← hu]; exact hcmds
      have hubw : u.cox.bw = [] := by rw [← hu]; simp [State.cancelJobs, State.leaveQueues, hbw]
      have hregs : ∀ g, u.rd g = s.rd g := State.rd_of_regs (by rw [← hu]; rfl)
      obtain ⟨-, hnil, -, hbw'⟩ := State.complete_only_spec hucmds hended stExpired p
      obtain ⟨hexp, hfail⟩ := State.complete_only_expired hucmds hended p
      exact ⟨by rw [hbw', hubw]; rfl, hnil, hexp.trans (bump_rd_of_rd_eq (hregs _)), hfail.trans (bump_rd_of_rd_eq (hregs _))⟩
  · exact ⟨congrArg Host.Outcome.next (if_neg (by simp [hcyc])), congrArg Host.Outcome.next (if_neg (by simp [hcyc]))⟩
  · refine ⟨fun hearly => exec_poolExhausted_early hjobs hsince hearly, fun hdue => ⟨_, exec_poolExhausted_stash hjobs hkind hsince hdue, ?_⟩⟩
    have hended : c.phase ≠ .ended := by rw [hph]; exact nofun
    have hshow := State.raise1_shows s ⟨Err.RSV.WAIT_EXPIRED, 2 * 2 ^ 16, 0⟩ (show 2 < 32 by decide)
    have hcox := s.raise1_cox ⟨Err.RSV.WAIT_EXPIRED, 2 * 2 ^ 16, 0⟩
    generalize s.raise1 ⟨Err.RSV.WAIT_EXPIRED, 2 * 2 ^ 16, 0⟩ = t at hshow hcox ⊢
    generalize hu : (t.freeExtent id).dropJob j.id = u
    have hushow : u.shows Err.RSV.WAIT_EXPIRED = true := by
      rw [← hu]
      exact State.wr_shows_keeps (s := t) (f := Reg.RSV.USED (poolNo .sts)) _ (by decide) hshow
    have huext : u.extent id = Extent.reset := by rw [← hu]; exact t.freeExtent_extent_same id
    have hucmds : u.cox.cmds = [c] := by rw [← hu]; exact (congrArg CoxState.cmds hcox).trans hcmds
    have hujobs : u.cox.jobs = [] := by
      rw [← hu]
      refine (congrArg (List.filter (·.id != j.id)) ((congrArg CoxState.jobs hcox).trans hjobs)).trans ?_
      simp
    rw [hcmd]
    obtain ⟨hwork, hnil, hjobs', -⟩ := State.complete_only_spec hucmds hended stPool 2
    refine ⟨hwork.shows _ (show 2 < 32 by decide) hushow, ?_, hjobs'.trans hujobs, hnil⟩
    rw [hwork.frame]
    exact huext
  · refine congrArg Host.Outcome.next ?_
    simp only [hnone]
  · exact congrArg Host.Outcome.next (if_pos hsafe)
  · obtain ⟨y, hyst, hypg, hyext, hcnt⟩ := State.pageGone_last hext hst hret hpages
    refine ⟨_, exec_pageOut hsafe hpaging hpress, ?_⟩
    rw [State.pageOutNext_last hext hst hpages hclean hwr]
    generalize s.pageGone id k = t at hyext hcnt ⊢
    have hres : t.stsResident = false := by simp [State.stsResident, hyext, hypg]
    have hy : t.pageEnough.extent id = y := by
      rw [State.pageEnough_frame]
      exact (by simp [State.extent, hyext, Tab.read] : t.extent id = y)
    exact ⟨by rw [hy]; exact hyst, by rw [hy]; exact hypg, (State.pageEnough_rd _ (by decide)).trans hcnt, State.pageEnough_none hres⟩

end Sys2Proof.Machine
end

section
/-! SUPPORT. Received messages, and what becomes of each KIND. -/

namespace Sys2Proof.Machine

/-! ## The message at the front (R336) -/

/-- The one message of a port's link is its front message. -/
theorem State.frontMsg_of_only {s : State} {p : Nat} {m : Msg} (h : (s.link p).rxMsgs = [m]) (htc : m.tc < 4) :
    s.frontMsg p m.kind = some (p, m) := by
  have hfront : ∀ c, (s.link p).frontOf c = if m.tc = c then some m else .none := fun c => by
    rw [Link.frontOf, h]
    by_cases hc : m.tc = c <;> simp [hc]
  have hcases : m.tc = 0 ∨ m.tc = 1 ∨ m.tc = 2 ∨ m.tc = 3 := by omega
  unfold State.frontMsg
  simp only [List.findSome?_cons, hfront]
  rcases hcases with hc | hc | hc | hc <;> simp [hc]

theorem State.frontMsg_of_none {s : State} {p : Nat} (h : (s.link p).rxMsgs = []) (hfan : (s.link (fanRx p)).rxMsgs = []) (kind : Nat) :
    s.frontMsg p kind = .none := by
  simp [State.frontMsg, Link.frontOf, h, hfan]

theorem State.onMsg_of_none {s : State} {p : Nat} (h : (s.link p).rxMsgs = []) (hfan : (s.link (fanRx p)).rxMsgs = []) (kind : Nat)
    (f : State → Nat → Msg → Sender → State) : s.onMsg p kind f = s := by
  unfold State.onMsg
  rw [State.frontMsg_of_none h hfan]

section
variable {s t : State} {p kind : Nat} {m : Msg} (h : (s.link p).rxMsgs = [m]) (htc : m.tc < 4) (hkind : m.kind = kind)
  (f : State → Nat → Msg → Sender → State)
include h htc hkind

theorem State.onMsg_missing (hs : s.checkSender m = (.missing, t)) : s.onMsg p kind f = t.settle := by
  subst hkind
  unfold State.onMsg
  rw [State.frontMsg_of_only h htc]
  simp only [hs]

theorem State.onMsg_ok {e : NodeEntry} (hs : s.checkSender m = (.ok e, t)) : s.onMsg p kind f = (f t p m (.ok e)).settle := by
  subst hkind
  unfold State.onMsg
  rw [State.frontMsg_of_only h htc]
  simp only [hs]

theorem State.onMsg_discard {st d : Nat} (hs : s.checkSender m = (.discard st d, t)) : s.onMsg p kind f = (f t p m (.discard st d)).settle := by
  subst hkind
  unfold State.onMsg
  rw [State.frontMsg_of_only h htc]
  simp only [hs]

end

/-! ## A message done with, and an answer sent -/

theorem removeOne_only {α : Type} [DecidableEq α] (a : α) : removeOne a [a] = [] := if_pos rfl

theorem State.popMsg_rxMsgs {s : State} {n : Nat} {m : Msg} (h : (s.link n).rxMsgs = [m]) : ((s.popMsg n m).link n).rxMsgs = [] := by
  rw [State.popMsg, State.setLink_link_same, h]
  exact removeOne_only m

theorem State.consumeMsg_cox (s : State) (n : Nat) (m : Msg) : (s.consumeMsg n m).cox = s.cox := rfl

theorem State.consumeMsg_runs (s : State) (n : Nat) (m : Msg) : (s.consumeMsg n m).runs = s.runs := rfl

theorem State.consumeMsg_culvs (s : State) (n : Nat) (m : Msg) : (s.consumeMsg n m).culvs = s.culvs := rfl

/-- A consumed message's link: one message less, its space freed. -/
theorem State.consumeMsg_link (s : State) (n : Nat) (m : Msg) :
    ((s.consumeMsg n m).link n).rxMsgs = removeOne m (s.link n).rxMsgs ∧ ((s.consumeMsg n m).link n).queues = (s.link n).queues ∧
    ((s.consumeMsg n m).link n).unanswered = (s.link n).unanswered ∧ ((s.consumeMsg n m).link n).rxXfers = (s.link n).rxXfers := by
  unfold State.consumeMsg State.freeSpace State.popMsg
  simp only [State.setLink_link_same, and_self]

theorem State.consumeMsg_rxMsgs {s : State} {n : Nat} {m : Msg} (h : (s.link n).rxMsgs = [m]) : ((s.consumeMsg n m).link n).rxMsgs = [] := by
  rw [(s.consumeMsg_link n m).1, h]
  exact removeOne_only m

theorem State.xferDone_culvs (s : State) (p st answers cls fetch det : Nat) : (s.xferDone p st answers cls fetch det).culvs = s.culvs := rfl

theorem State.mkMsg_congr {s t : State} (h : t.runs = s.runs) (kind tc tag : Nat) (last poison : Bool) (data : List Byte) :
    t.mkMsg kind tc tag last poison data = s.mkMsg kind tc tag last poison data := by
  unfold State.mkMsg
  rw [h]

/-- An answer joins TC0's queue of its port, and nothing else of the link changes. -/
theorem State.xferDone_link (s : State) (p st answers cls fetch det : Nat) :
    (s.xferDone p st answers cls fetch det).link p = { s.link p with
      queues := setAt (s.link p).queues 0 ((s.link p).queues.getD 0 [] ++ [s.mkMsg 4 0 0 true false
        (byteOf st :: byteOf answers :: byteOf cls :: byteOf fetch :: toBytes 4 det)]) } := by
  unfold State.xferDone State.pushMsg
  rw [State.setLink_link_same]
  rfl

theorem getD_setAt_zero {α : Type} {l : List (List α)} (h : l.length = 4) (a : List α) : (setAt l 0 a).getD 0 [] = a := by
  cases l with
  | nil => exact nomatch h
  | cons b l => rfl

theorem State.xferDone_rxMsgs (s : State) (p st answers cls fetch det : Nat) :
    ((s.xferDone p st answers cls fetch det).link p).rxMsgs = (s.link p).rxMsgs :=
  (congrArg Link.rxMsgs (s.xferDone_link p st answers cls fetch det) :)

theorem State.xferDone_queue {s : State} {p : Nat} (h : (s.link p).queues.length = 4) (st answers cls fetch det : Nat) :
    ((s.xferDone p st answers cls fetch det).link p).queues.getD 0 [] = (s.link p).queues.getD 0 [] ++
      [s.mkMsg 4 0 0 true false (byteOf st :: byteOf answers :: byteOf cls :: byteOf fetch :: toBytes 4 det)] :=
  (congrArg (fun l : Link => l.queues.getD 0 []) (s.xferDone_link p st answers cls fetch det)).trans (getD_setAt_zero h _)

theorem answerPort_of_port (p : Fin 16) : answerPort p.val = p.val := Nat.mod_eq_of_lt p.isLt

/-! ## Senders (R342, R423) -/

/-- A lookup in the cache leaves the links, and touches the counters of hits and misses. -/
theorem State.checkSender_stale {s t : State} {m : Msg} {e : NodeEntry} {ws : List DWord} (hlook : s.lookNode m.src.toNat = (.entry e ws, t))
    (hst : e.state = 1) (hep : e.epoch ≠ m.epoch.toNat) :
    s.checkSender m = (.discard stStale e.epoch, (t.raise1 ⟨Err.BTH.STALE, m.epoch.toNat * 2 ^ 12 + m.src.toNat, 0⟩).bump Reg.BTH.STALE_CNT) := by
  unfold State.checkSender
  simp only [hlook]
  rw [if_neg (by omega), if_pos hep]

/-- A lookup that finds a node's entry changes no link. -/
theorem State.lookNode_links {s t : State} {k : Nat} {e : NodeEntry} {ws : List DWord} (h : s.lookNode k = (.entry e ws, t)) :
    t.links = s.links := by
  unfold State.lookNode at h
  split at h
  · rename_i u hlook
    obtain ⟨-, rfl⟩ := Prod.mk.inj h
    unfold State.look at hlook
    dsimp only at hlook
    split at hlook
    · obtain ⟨-, rfl⟩ := Prod.mk.inj hlook
      rfl
    · split at hlook
      · exact nomatch (Prod.mk.inj hlook).1
      · split at hlook <;> exact nomatch (Prod.mk.inj hlook).1
  · exact nomatch (Prod.mk.inj h).1
  · exact nomatch (Prod.mk.inj h).1

/-! ## SEND_DATA (R338, R339) -/

theorem Link.cursor_of_reset {l : Link} (h : l.landing = Link.reset.landing) {c : Nat} (hc : c < 4) : l.cursor c = Landing.reset := by
  have hcases : c = 0 ∨ c = 1 ∨ c = 2 ∨ c = 3 := by omega
  rw [Link.cursor, h]
  rcases hcases with rfl | rfl | rfl | rfl <;> rfl

theorem openCursor_reset (e : NodeEntry) (m : Msg) (id : Nat) : openCursor Landing.reset (.ok e) m id =
    ⟨true, e.base + 4096 * m.tag.toNat, e.base + 4096 * e.pages, if e.wr then .none else some (stDenied, 1), id⟩ := rfl

/-- A write of some bytes takes a request at least. -/
theorem writeCount_ne_zero (a : Nat) {bs : List Byte} (h : bs ≠ []) : writeCount a bs.length ≠ 0 := by
  have hlen : bs.length ≠ 0 := fun hn => h (List.length_eq_zero_iff.mp hn)
  unfold writeCount cutAccess
  rw [if_neg hlen]
  exact Nat.succ_ne_zero _

section
variable {t : State} {p : Nat} {m : Msg} {e : NodeEntry} (hmsg : (t.link p).rxMsgs = [m]) (htc : m.tc < 4)
  (hland : (t.link p).landing = Link.reset.landing)
include hmsg htc hland

/-- The first message of a transfer that fits its window is written there. -/
theorem State.land_fits (hwr : e.wr = true) (hpoison : m.poison = false) (hdata : m.data ≠ [])
    (hfits : 4096 * m.tag.toNat + m.data.length ≤ 4096 * e.pages) : ∃ v : State, t.land p m (.ok e) =
      v.hubWrite (e.base + 4096 * m.tag.toNat) m.data false (.land p (t.link p).nextXfer ((t.link p).nextXfer + 1)) ∧
      (v.link p).rxMsgs = [] ∧ v.regs = t.regs ∧ v.culvs = t.culvs := by
  have hopen : openCursor ((t.link p).cursor m.tc) (.ok e) m (t.link p).nextXfer =
      ⟨true, e.base + 4096 * m.tag.toNat, e.base + 4096 * e.pages, .none, (t.link p).nextXfer⟩ := by
    rw [Link.cursor_of_reset hland htc, openCursor_reset, if_pos hwr]
  have hfresh : ((t.link p).cursor m.tc).isOpen = false := by rw [Link.cursor_of_reset hland htc]; rfl
  have hfail : landingFailure ⟨true, e.base + 4096 * m.tag.toNat, e.base + 4096 * e.pages, .none, (t.link p).nextXfer⟩ (.ok e) m = .none := by
    unfold landingFailure
    simp only [Option.isSome_none, Bool.false_eq_true, if_false]
    exact if_neg (by omega)
  have hcount := writeCount_ne_zero (e.base + 4096 * m.tag.toNat) hdata
  unfold State.land
  simp only [hopen, hfresh, hfail, Option.isSome_none, Bool.false_eq_true, if_false, if_neg hcount, Bool.not_false, if_true, hpoison]
  refine ⟨_, rfl, ?_, rfl, rfl⟩
  refine State.popMsg_rxMsgs ?_
  rw [State.setLink_link_same]
  exact hmsg

/-- A transfer of one message into a window that may not be written is complete, and waits for its answer. -/
theorem State.land_refused (hx : (t.link p).rxXfers = []) (hwr : e.wr = false) (hlast : m.last = true) :
    ∃ l x, t.land p m (.ok e) = ((t.setLink p l).consumeMsg p m).answerReady p m.tc 2 ∧ l.rxMsgs = [m] ∧ l.queues = (t.link p).queues ∧
      l.rxXfers = [x] ∧ x.cls = m.tc ∧ x.complete = true ∧ x.writes = 0 ∧ x.buoy = .none ∧ x.status = stDenied := by
  have hopen : openCursor ((t.link p).cursor m.tc) (.ok e) m (t.link p).nextXfer =
      ⟨true, e.base + 4096 * m.tag.toNat, e.base + 4096 * e.pages, some (stDenied, 1), (t.link p).nextXfer⟩ := by
    rw [Link.cursor_of_reset hland htc, openCursor_reset, hwr]
    rfl
  have hfresh : ((t.link p).cursor m.tc).isOpen = false := by rw [Link.cursor_of_reset hland htc]; rfl
  have hfail : landingFailure ⟨true, e.base + 4096 * m.tag.toNat, e.base + 4096 * e.pages, some (stDenied, 1), (t.link p).nextXfer⟩ (.ok e) m =
      some (stDenied, 1) := rfl
  unfold State.land
  simp only [hopen, hfresh, hfail, Option.isSome_some, if_true, Bool.not_false, hx, hlast, List.nil_append, List.length_nil]
  refine ⟨_, _, rfl, hmsg, rfl, List.map_singleton .., ?_⟩
  simp

end

/-- A link with no received transfer left. -/
def Link.withoutXfers (l : Link) : Link := { l with rxXfers := [] }

theorem State.answerReady_of_nil {s : State} {n : Nat} (h : (s.link n).rxXfers = []) (cls fuel : Nat) : s.answerReady n cls fuel = s := by
  cases fuel with
  | zero => rfl
  | succ k =>
    unfold State.answerReady
    dsimp only
    rw [h, List.find?_nil]

/-- The one transfer of a stream that is complete and written is answered. -/
theorem State.answerReady_only {s : State} {p : Fin 16} {x : RxXfer} (hx : (s.link p.val).rxXfers = [x]) (hc : x.complete = true) (hw : x.writes = 0)
    (hb : x.buoy = .none) (fuel : Nat) : s.answerReady p.val x.cls (fuel + 1) =
      (s.setLink p.val (s.link p.val).withoutXfers).xferDone p.val x.status 0 x.cls 0 x.detail := by
  have hstep : s.answerReady p.val x.cls (fuel + 1) =
      ((s.setLink p.val (s.link p.val).withoutXfers).xferDone p.val x.status 0 x.cls 0 x.detail).answerReady p.val x.cls fuel := by
    rw [State.answerReady]
    simp only [hx, hc, hw, hb, answerPort_of_port, List.find?_cons, beq_self_eq_true, List.filter_cons, bne_self_eq_false, List.filter_nil,
      Bool.not_true, Bool.false_or, Bool.false_eq_true, if_false, Link.withoutXfers]
  rw [hstep]
  refine State.answerReady_of_nil ?_ _ _
  rw [State.xferDone_link, State.setLink_link_same]
  rfl

/-- A SEND into a window that may not be written is denied. -/
theorem State.land_denied {t : State} {p : Fin 16} {m : Msg} {e : NodeEntry} (hmsg : (t.link p.val).rxMsgs = [m]) (htc : m.tc < 4)
    (hland : (t.link p.val).landing = Link.reset.landing) (hx : (t.link p.val).rxXfers = []) (hq : (t.link p.val).queues.length = 4)
    (hwr : e.wr = false) (hlast : m.last = true) :
    ((t.land p m (.ok e)).link p).rxMsgs = [] ∧ (t.land p m (.ok e)).culvs = t.culvs ∧
    ∃ d, ((t.land p m (.ok e)).link p).queues.getD 0 [] = (t.link p).queues.getD 0 [] ++ [t.mkMsg 4 0 0 true false
      (byteOf stDenied :: byteOf 0 :: byteOf m.tc :: byteOf 0 :: toBytes 4 d)] := by
  obtain ⟨l, x, hrun, hlm, hlq, hlx, hcls, hcomp, hwrites, hbuoy, hst⟩ := State.land_refused hmsg htc hland hx hwr hlast
  have hown : (t.setLink p.val l).link p.val = l := t.setLink_link_same p.val l
  obtain ⟨hm', hq', -, hx'⟩ := (t.setLink p.val l).consumeMsg_link p.val m
  rw [hown] at hm' hq' hx'
  have hready := State.answerReady_only (hx'.trans hlx) hcomp hwrites hbuoy 1
  rw [hcls, hst] at hready
  rw [hrun, hready]
  generalize hu : (t.setLink p.val l).consumeMsg p.val m = u at hm' hq' hx' ⊢
  have huruns : u.runs = t.runs := (congrArg State.runs hu).symm.trans (State.consumeMsg_runs (t.setLink p.val l) p.val m)
  have huculvs : u.culvs = t.culvs := (congrArg State.culvs hu).symm.trans (State.consumeMsg_culvs (t.setLink p.val l) p.val m)
  refine ⟨?_, ?_, x.detail, ?_⟩
  · rw [State.xferDone_rxMsgs, State.setLink_link_same]
    refine hm'.trans ?_
    rw [hlm]
    exact removeOne_only m
  · exact (State.xferDone_culvs _ _ _ _ _ _ _).trans huculvs
  · have hql : (u.link p.val).withoutXfers.queues = (t.link p.val).queues := hq'.trans hlq
    rw [State.xferDone_queue (by rw [State.setLink_link_same, hql]; exact hq), State.setLink_link_same, hql, State.mkMsg_congr ((u.setLink_runs p.val _).trans huruns)]

/-! ## FETCH_REQ and FETCH_DATA (R340) -/

/-- A FETCH_REQ for a window that may not be read is denied. -/
theorem State.answerFetch_denied (t : State) (p : Fin 16) (m : Msg) {e : NodeEntry} (hrd : e.rd = false) : t.answerFetch p.val m (.ok e) =
    (t.consumeMsg p.val m).xferDone p.val stDenied 1 ((m.data.getD 16 0).toNat % 4) (m.tag.toNat % 256) 1 := by
  unfold State.answerFetch
  simp only [hrd, answerPort_of_port, Bool.not_false, Bool.true_or, if_true]

/-- A FETCH_REQ within its window begins a job that answers it. -/
theorem State.answerFetch_job (t : State) (p : Fin 16) (m : Msg) {e : NodeEntry} (hrd : e.rd = true) (hlen : 0 < ofBytes ((m.data.drop 8).take 8))
    (hfits : ofBytes (m.data.take 8) + ofBytes ((m.data.drop 8).take 8) ≤ 4096 * e.pages) : t.answerFetch p.val m (.ok e) =
    (t.consumeMsg p.val m).addJob { blankJob with
      kind := .answer (m.tag.toNat % 256), port := p.val, tc := (m.data.getD 16 0).toNat % 4
      addr := e.base + ofBytes (m.data.take 8), len := ofBytes ((m.data.drop 8).take 8) } := by
  unfold State.answerFetch
  simp only [hrd, answerPort_of_port, Bool.not_true, Bool.false_or, decide_eq_true_eq, if_neg (Nat.not_lt.2 hfits), if_neg (Nat.ne_of_gt hlen)]

/-- The one job, where it is the fetch that an identifier stands for. -/
theorem State.fetchJob_of_only {t : State} {j : Job} (hjobs : t.cox.jobs = [j]) (hkind : j.kind = .fetch) {p id : Nat} (hport : j.port = p)
    (hid : j.fetchId = some id) : t.fetchJob p id = some j := by
  simp [State.fetchJob, hjobs, hport, hid, hkind]

theorem State.fetchJob_of_nil {t : State} (hjobs : t.cox.jobs = []) (p id : Nat) : t.fetchJob p id = .none := by
  simp [State.fetchJob, hjobs]

/-- Fetched data is written behind what came before. -/
theorem State.fetched_writes {t : State} {p : Nat} {m : Msg} {j : Job} (hmsg : (t.link p).rxMsgs = [m]) (hjobs : t.cox.jobs = [j])
    (hdata : m.data ≠ []) (hpoison : m.poison = false) : ∃ v : State, t.fetched p m j =
      v.hubWrite (j.addr + j.pos) m.data false (.jobWrite j.id (some (p, (t.link p).nextXfer))) ∧ (v.link p).rxMsgs = [] ∧
      ∃ x, v.cox.jobs = [x] ∧ x.pos = j.pos + m.data.length ∧ x.lastIn = m.last := by
  have hcount := writeCount_ne_zero (j.addr + j.pos) hdata
  unfold State.fetched
  simp only [if_neg hcount, hpoison, Bool.false_and, Bool.false_eq_true, if_false]
  refine ⟨_, rfl, State.popMsg_rxMsgs ?_, { j with
    pos := j.pos + m.data.length, writes := j.writes + writeCount (j.addr + j.pos) m.data.length, lastIn := m.last }, ?_, rfl, rfl⟩
  · rw [State.setLink_link_same]
    exact hmsg
  · refine (congrArg (List.map _) hjobs).trans ?_
    simp

/-! ## XFER_DONE (R339, R341) -/

theorem State.cmd_of_id {s : State} {c : Cmd} (h : s.cox.cmds = [c]) {id : Nat} (hid : id = c.id) : s.cmd id = some c := by
  rw [hid]
  exact State.cmd_of_only h

theorem State.setCmd_only {s : State} {c : Cmd} (h : s.cox.cmds = [c]) {x : Cmd} (hid : x.id = c.id) : (s.setCmd x).cox.cmds = [x] := by
  simp [State.setCmd, h, hid]

theorem State.setJob_only {s : State} {j : Job} (h : s.cox.jobs = [j]) {x : Job} (hid : x.id = j.id) : (s.setJob x).cox.jobs = [x] := by
  simp [State.setJob, h, hid]

/-- The last transfer of the only command ends it. -/
theorem State.transferDone_last {s : State} {c : Cmd} (hcmds : s.cox.cmds = [c]) (hrun : c.phase = .running) (hbegun : c.begun = true)
    (hopen : c.opened = 1) (hfail : c.failed = .none) (item : Nat) :
    s.CoxWork (s.transferDone c.id item 0 0) ∧ (s.transferDone c.id item 0 0).cox.cmds = [] ∧
    (s.transferDone c.id item 0 0).cox.jobs = s.cox.jobs := by
  generalize hx : { c with opened := c.opened - 1 } = x
  have hxid : x.id = c.id := by rw [← hx]
  have hxph : x.phase ≠ .ended := by rw [← hx]; exact hrun ▸ nofun
  have hset : (s.setCmd x).cox.cmds = [x] := State.setCmd_only hcmds hxid
  have hend : s.transferDone c.id item 0 0 = (s.setCmd x).complete x.id stDone 0 := by
    have hxbegun : x.begun = true ∧ x.opened = 0 := by rw [← hx]; exact ⟨hbegun, by simp [hopen]⟩
    have hxfail : x.failed = .none := by rw [← hx]; exact hfail
    unfold State.transferDone
    rw [State.cmd_of_only hcmds]
    simp only [if_true, hx]
    unfold State.tryEnd
    rw [State.cmd_of_id hset hxid.symm]
    simp only [hxfail, hxid]
    exact if_pos hxbegun
  obtain ⟨hwork, hnil, hjobs, -⟩ := State.complete_only_spec hset hxph stDone 0
  rw [hend]
  exact ⟨(State.CoxWork.of_cox s _).trans hwork, hnil, hjobs⟩

/-- The answer that the one SEND waits for ends it and its command. -/
theorem State.answered_send {s : State} {j : Job} {c : Cmd} (hjobs : s.cox.jobs = [j]) (hcmds : s.cox.cmds = [c]) (hcmd : j.cmd = c.id)
    (hkind : j.kind = .send) (hwrites : j.writes = 1) (hst : j.status = .none) (hrun : c.phase = .running) (hbegun : c.begun = true)
    (hopen : c.opened = 1) (hfail : c.failed = .none) (det : Nat) :
    (s.answered j.id 0 det).cox.jobs = [] ∧ (s.answered j.id 0 det).cox.cmds = [] ∧ (s.answered j.id 0 det).links = s.links := by
  generalize hx : { j with writes := 0 } = x
  have hxid : x.id = j.id := by rw [← hx]
  generalize hu : (s.setJob x).dropJob x.id = u
  have hujobs : u.cox.jobs = [] := by
    rw [← hu]
    refine (congrArg (List.filter (·.id != x.id)) (State.setJob_only hjobs hxid)).trans ?_
    simp
  have hucmds : u.cox.cmds = [c] := by rw [← hu]; exact hcmds
  have hulinks : u.links = s.links := by rw [← hu]; rfl
  have hend : s.answered j.id 0 det = u.transferDone c.id j.item 0 0 := by
    unfold State.answered
    rw [State.job_of_only hjobs]
    simp only [hwrites, hst, ne_eq, not_true_eq_false, false_and, if_false, if_true, Option.getD_none, State.jobEnds, hkind, hcmd, ← hu, ← hx]
  obtain ⟨hwork, hnil, hkeep⟩ := State.transferDone_last hucmds hrun hbegun hopen hfail j.item
  rw [hend]
  exact ⟨hkeep.trans hujobs, hnil, (congrArg State.links hwork.frame).trans hulinks⟩

/-- An XFER_DONE that answers a SEND. -/
theorem State.takeAnswer_send {s : State} {p : Nat} {m : Msg} {cls id : Nat} (hst : (m.data.getD 0 0).toNat = 0) (hans : (m.data.getD 1 0).toNat = 0)
    (hcls : (m.data.getD 2 0).toNat = cls) (hwait : (s.link p).unanswered = [(0, cls, id)]) :
    s.takeAnswer p m = (s.setLink p { s.link p with unanswered := [] }).answered id 0 (ofBytes ((m.data.drop 4).take 4)) := by
  unfold State.takeAnswer
  simp only [hst, hans, hcls, hwait, zero_ne_one, if_false, List.find?_cons, beq_self_eq_true, Bool.and_self, removeOne_only]

/-- A FETCH answered by a failure while writes of it are open ends after them. -/
theorem State.takeAnswer_fetch {s : State} {p : Nat} {m : Msg} {j : Job} (hjobs : s.cox.jobs = [j]) (hkind : j.kind = .fetch) (hport : j.port = p)
    (hid : j.fetchId = some (m.data.getD 3 0).toNat) (hans : (m.data.getD 1 0).toNat = 1) (hwrites : j.writes ≠ 0) :
    ∃ x, s.takeAnswer p m = s.setJob x ∧ x.id = j.id ∧ x.lastIn = true ∧ x.writes = j.writes := by
  unfold State.takeAnswer
  simp only [hans, if_true, State.fetchJob_of_only hjobs hkind hport hid]
  exact ⟨_, if_pos ⟨hkind, hwrites⟩, rfl, rfl, rfl⟩

end Sys2Proof.Machine
end

section
/-! SUPPORT. Buoy operations and the tally's messages, and what becomes of each message received. -/

namespace Sys2Proof.Machine

/-! ## BUOY_OP (R341, R364) -/

/-- The answer of a BUOY_OP on TC0. -/
def State.buoyAnswer (s : State) (p : Nat) (m : Msg) (st det : Nat) : State := if m.tc = 0 ∧ m.last then s.xferDone p st 2 0 0 det else s

theorem State.buoyAnswer_frame (s : State) (p : Nat) (m : Msg) (st det : Nat) :
    s.buoyAnswer p m st det = { s with links := (s.buoyAnswer p m st det).links } := by
  unfold State.buoyAnswer
  split <;> rfl

theorem State.buoyAnswer_rxMsgs (s : State) (p : Nat) (m : Msg) (st det : Nat) :
    ((s.buoyAnswer p m st det).link p).rxMsgs = (s.link p).rxMsgs := by
  unfold State.buoyAnswer
  split
  · exact s.xferDone_rxMsgs _ _ _ _ _ _
  · rfl

theorem State.takeBuoyOp_applied (t : State) (p : Fin 16) {m : Msg} {e : NodeEntry} (htc : m.tc = 0) (hwr : e.wr = true) :
    t.takeBuoyOp p.val m (.ok e) = ((t.consumeMsg p.val m).buoyOp ((m.data.getD 0 0).toNat % 64) (m.data.getD 1 0).toNat
      (BitVec.ofNat 64 (ofBytes ((m.data.drop 8).take 8)))).buoyAnswer p.val m stDone 0 := by
  unfold State.takeBuoyOp State.buoyAnswer
  simp only [hwr, htc, Bool.not_true, Bool.false_eq_true, if_false, if_true, answerPort_of_port]

theorem State.takeBuoyOp_denied (t : State) (p : Fin 16) {m : Msg} {e : NodeEntry} (hwr : e.wr = false) :
    t.takeBuoyOp p.val m (.ok e) = ((t.consumeMsg p.val m).bump Reg.BUO.DENIED_CNT).buoyAnswer p.val m stDenied 1 := by
  unfold State.takeBuoyOp State.buoyAnswer
  simp only [hwr, Bool.not_false, if_true, answerPort_of_port]

/-! ## TALLY_IMG (R416, R417) -/

theorem State.startPaging_frame (s : State) (b : Bool) : s.startPaging b = { s with
    regs := (s.startPaging b).regs, recs := (s.startPaging b).recs, log := (s.startPaging b).log, ump := (s.startPaging b).ump
    runs := { s.runs with pressing := (s.startPaging b).runs.pressing } } := by
  unfold State.startPaging
  split
  · rfl
  · dsimp only
    split
    · rfl
    · rw [State.raise1_runs]
      exact State.raise1_frame _ _

theorem State.pageIfDue_frame (s : State) : s.pageIfDue = { s with
    regs := s.pageIfDue.regs, recs := s.pageIfDue.recs, log := s.pageIfDue.log, ump := s.pageIfDue.ump
    runs := { s.runs with pressing := s.pageIfDue.runs.pressing } } := by
  unfold State.pageIfDue
  split
  · exact s.startPaging_frame true
  · split
    · exact s.startPaging_frame false
    · rfl

theorem State.allocate_grants (s : State) (k : Pool) (n : Nat) : (s.allocate k n).1 = decide (s.grantable k n = n) := by
  unfold State.allocate State.takePages
  by_cases h : s.grantable k n = n <;> simp [h]

/-- Whether pages are granted does not rest on the rounds. -/
theorem State.allocate_grants_runs (s : State) (r : RunState) (k : Pool) (n : Nat) :
    ({ s with runs := r }.allocate k n).1 = (s.allocate k n).1 := by
  rw [State.allocate_grants, State.allocate_grants]
  rfl

theorem State.allocate_frame (s : State) (k : Pool) (n : Nat) : ∃ b c : Bool, (s.allocate k n).2 = { s with
    regs := (s.allocate k n).2.regs, recs := (s.allocate k n).2.recs, log := (s.allocate k n).2.log, ump := (s.allocate k n).2.ump
    runs := { s.runs with pressing := b, paged := c } } := by
  unfold State.allocate State.takePages
  by_cases h : s.grantable k n = n
  · simp only [if_pos h]
    exact ⟨_, _, State.pageIfDue_frame _⟩
  · simp only [if_neg h]
    split
    · exact ⟨_, _, s.startPaging_frame true⟩
    · exact ⟨_, _, rfl⟩

/-- A new round in the table. -/
def State.withNewRound (s : State) (k : Nat) : State := { s with runs := { s.runs with rounds := s.runs.rounds ++ [newRound k] } }

/-- With no round in the table, an image of a new one takes a slot, and keeps its place among the early ones. -/
theorem State.takeImage_new {t : State} {p : Nat} {m : Msg} {e : NodeEntry} (hmsg : (t.link p).rxMsgs = [m]) (hpoison : m.poison = false)
    (hfailed : t.runs.failedRounds = []) (hrounds : t.runs.rounds = []) (hpage : (t.allocate .tly 1).1 = true) :
    ((t.takeImage p m (.ok e)).link p).rxMsgs = [] ∧ ∃ x, (t.takeImage p m (.ok e)).runs.rounds = [x] ∧ x.round = m.tag.toNat ∧
      x.isOpen = true ∧ x.hasTree = false ∧ x.early.map (·.1) = [m.src.toNat] := by
  generalize hk : m.tag.toNat = k
  generalize ht : t.withNewRound k = s
  have hsrounds : s.runs.rounds = [newRound k] := by rw [← ht]; simp [State.withNewRound, hrounds]
  have hslink : s.links = t.links := by rw [← ht]; rfl
  have hsround : s.round k = some (newRound k) := by simp [State.round, hsrounds, newRound]
  have hnone : t.round k = .none := by simp [State.round, hrounds]
  have hgrants : (s.allocate .tly 1).1 = true := by rw [← ht, State.withNewRound, State.allocate_grants_runs]; exact hpage
  obtain ⟨b, c, hframe⟩ := s.allocate_frame .tly 1
  generalize hv : (s.allocate .tly 1).2 = v at hframe
  have hvrounds : v.runs.rounds = [newRound k] := by rw [hframe]; exact hsrounds
  have hvlink : v.link p = t.link p := State.link_of_links ((congrArg State.links hframe).trans hslink) p
  have hopen : s.openRound k = (true, v.setRound { newRound k with isOpen := true }) := by
    have hcount : ¬ 64 ≤ s.openRounds := by simp [State.openRounds, hsrounds, newRound]
    have hpair : s.allocate .tly 1 = (true, v) := Prod.ext hgrants hv
    unfold State.openRound
    rw [hsround]
    simp only [hpair, newRound, Bool.false_eq_true, if_false, if_neg hcount]
  have hrun : t.takeImage p m (.ok e) =
      ((v.setRound { newRound k with isOpen := true }).consumeMsg p m).roundImage k m.src.toNat (accOf m.data) (answerPort p) := by
    have hfresh : t.runs.failedRounds.contains k = false := by rw [hfailed]; rfl
    rw [← ht] at hopen
    dsimp only [State.withNewRound] at hopen
    unfold State.takeImage
    simp only [hk, hfresh, hpoison, Bool.or_self, Bool.false_eq_true, if_false, hnone, Option.isSome_none, hopen]
  rw [hrun]
  generalize hw : (v.setRound { newRound k with isOpen := true }).consumeMsg p m = w
  have hwrounds : w.runs.rounds = [{ newRound k with isOpen := true }] := by
    have hruns : w.runs.rounds = (v.setRound { newRound k with isOpen := true }).runs.rounds := by rw [← hw, State.consumeMsg_runs]
    rw [hruns, State.setRound, hvrounds]
    simp [newRound]
  have hwmsgs : (w.link p).rxMsgs = [] := by
    rw [← hw]
    exact State.consumeMsg_rxMsgs ((congrArg Link.rxMsgs hvlink).trans hmsg)
  have hwround : w.round k = some { newRound k with isOpen := true } := by simp [State.round, hwrounds, newRound]
  generalize answerPort p = q
  unfold State.roundImage
  rw [hwround]
  simp only [newRound, Bool.false_eq_true, if_false, List.any_nil]
  refine ⟨hwmsgs, { newRound k with isOpen := true, ports := [] ++ [q], early := [] ++ [(m.src.toNat, (accOf m.data).sum, (accOf m.data).inf, (accOf m.data).nan)] },
    ?_, rfl, rfl, rfl, rfl⟩
  simp [State.setRound, hwrounds, newRound]

theorem State.takeImage_poisoned (t : State) (p : Nat) {m : Msg} (e : NodeEntry) (hpoison : m.poison = true) :
    t.takeImage p m (.ok e) = (t.consumeMsg p m).stray m.tag.toNat := by
  unfold State.takeImage
  simp only [hpoison, Bool.or_true, if_true]

/-! ## TALLY_RES (R419) -/

theorem State.takeResult_unknown {t : State} {k : Nat} (p : Nat) {m : Msg} (e : NodeEntry) (hk : m.tag.toNat = k) (hnone : t.round k = .none) :
    t.takeResult p m (.ok e) = t.consumeMsg p m := by
  unfold State.takeResult
  simp only [hk, hnone]

theorem State.round_of_only {s : State} {x : Round} (h : s.runs.rounds = [x]) : s.round x.round = some x := by simp [State.round, h]

theorem State.takeResult_leaf {t : State} (p : Nat) {m : Msg} (e : NodeEntry) {x : Round} (hrounds : t.runs.rounds = [x])
    (hk : x.round = m.tag.toNat) (hkids : x.children = []) : t.takeResult p m (.ok e) =
      (t.consumeMsg p m).roundResult x (ofBytes (m.data.take 8)) (ofBytes ((m.data.drop 8).take 4)) := by
  have hround : t.round m.tag.toNat = some x := hk ▸ State.round_of_only hrounds
  unfold State.takeResult
  simp only [hround, hkids, State.nodesKnown, List.foldl_nil]

/-- The only round leaves the table, with its page. -/
theorem State.closeRound_only {s : State} {x : Round} (h : s.runs.rounds = [x]) : (s.closeRound x.round).runs.rounds = [] ∧
    s.closeRound x.round = { s with regs := (s.closeRound x.round).regs, runs := { s.runs with rounds := [] } } ∧
    ∀ g, (Reg.RSV.USED (poolNo .tly)).key ≠ g.key → (s.closeRound x.round).rd g = s.rd g := by
  have hgone : s.runs.rounds.filter (·.round != x.round) = [] := by simp [h]
  unfold State.closeRound
  rw [State.round_of_only h]
  dsimp only
  rw [hgone]
  split
  · exact ⟨rfl, rfl, fun g hg => State.rd_wr_ne _ _ hg⟩
  · exact ⟨rfl, rfl, fun g _ => rfl⟩

theorem State.buoySet_links (s : State) (k : Nat) (v : DWord) : (s.buoySet k v).links = s.links := rfl

theorem State.buoySet_runs (s : State) (k : Nat) (v : DWord) : (s.buoySet k v).runs = s.runs := rfl

/-- A round's result where no child and no command waits for it. -/
theorem State.roundResult_alone {s : State} {x : Round} (h : s.runs.rounds = [x]) (hkids : x.children = []) (hcmds : x.cmds = []) (hbr : x.br < 63)
    (n64 n32 : Nat) : (s.roundResult x n64 n32).runs.rounds = [] ∧ (s.roundResult x n64 n32).links = s.links ∧
    (s.roundResult x n64 n32).buoyVal x.br = BitVec.ofNat 64 n64 ∧ (s.roundResult x n64 n32).buoyVal (x.br + 1) = BitVec.ofNat 64 n32 ∧
    (s.roundResult x n64 n32).rd Reg.TLY.LAST_ROUND = x.round % 2 ^ 16 ∧
    (s.roundResult x n64 n32).rd Reg.TLY.ROUND_CNT_DONE = (s.bump Reg.TLY.ROUND_CNT_DONE).rd Reg.TLY.ROUND_CNT_DONE := by
  have hnext : (x.br + 1) % 64 = x.br + 1 := Nat.mod_eq_of_lt (by omega)
  generalize hu : (s.buoySet x.br (BitVec.ofNat 64 n64)).buoySet (x.br + 1) (BitVec.ofNat 64 n32) = u
  have hurounds : u.runs.rounds = [x] := by rw [← hu, State.buoySet_runs, State.buoySet_runs]; exact h
  have hulinks : u.links = s.links := by rw [← hu, State.buoySet_links, State.buoySet_links]
  have hurd : ∀ g, u.rd g = s.rd g := State.rd_of_regs (by rw [← hu, State.buoySet_regs, State.buoySet_regs])
  have hlow : u.buoyVal x.br = BitVec.ofNat 64 n64 := by
    rw [← hu, State.buoySet_buoyVal_ne _ _ (by omega), State.buoySet_buoyVal_same]
  have hhigh : u.buoyVal (x.br + 1) = BitVec.ofNat 64 n32 := by rw [← hu, State.buoySet_buoyVal_same]
  obtain ⟨hnil, hframe, hrd⟩ := State.closeRound_only hurounds
  generalize hv : u.closeRound x.round = v at hnil hframe hrd
  have hrun : s.roundResult x n64 n32 =
      ((v.wr Reg.TLY.LAST_ROUND x.round).wrPair Reg.TLY.LAST_NORM_LO Reg.TLY.LAST_NORM_HI n64).bump Reg.TLY.ROUND_CNT_DONE := by
    unfold State.roundResult
    simp only [hnext, hu, hv, hkids, hcmds, List.foldl_nil]
  have hbuoys : ∀ k, v.buoyVal k = u.buoyVal k := fun k => by rw [hframe]; rfl
  rw [hrun]
  refine ⟨hnil, (congrArg State.links hframe).trans hulinks, (hbuoys _).trans hlow, (hbuoys _).trans hhigh, ?_, ?_⟩
  · rw [State.rd_bump_ne _ (by decide), State.rd_wrPair_ne _ _ (by decide) (by decide), State.rd_wr_same]
    rfl
  · refine bump_rd_of_rd_eq ?_
    rw [State.rd_wrPair_ne _ _ (by decide) (by decide), State.rd_wr_ne _ _ (by decide), hrd _ (by decide), hurd]

theorem State.rxMsgs_of_links {s t : State} (h : t.links = s.links) {n : Nat} {l : List Msg} (hm : (s.link n).rxMsgs = l) : (t.link n).rxMsgs = l :=
  (congrArg Link.rxMsgs (State.link_of_links h n)).trans hm

theorem State.addJob_links (s : State) (j : Job) : (s.addJob j).links = s.links := rfl

theorem State.setJob_links (s : State) (j : Job) : (s.setJob j).links = s.links := rfl

/-! ## What the messages of a port do -/

/-- The commands of received messages, as the front message of their KIND on the port. -/
theorem exec_sendData (s : State) (p : Fin 16) : exec (.sendData ⟨p, .none⟩) s = .next (s.onMsg p.val 1 fun t n m r => t.land n m r) := rfl

theorem exec_fetchReq (s : State) (p : Fin 16) : exec (.fetchReq p) s = .next (s.onMsg p.val 2 fun t n m r => t.answerFetch n m r) := rfl

theorem exec_buoyOp (s : State) (p : Fin 16) : exec (.buoyOp p) s = .next (s.onMsg p.val 5 fun t n m r => t.takeBuoyOp n m r) := rfl

theorem exec_tallyImg (s : State) (p : Fin 16) : exec (.tallyImg p) s = .next (s.onMsg p.val 0x10 fun t n m r => t.takeImage n m r) := rfl

theorem exec_tallyRes (s : State) (p : Fin 16) : exec (.tallyRes p) s = .next (s.onMsg p.val 0x11 fun t n m r => t.takeResult n m r) := rfl

theorem exec_received_none {s : State} {p : Fin 16} (h : (s.link p.val).rxMsgs = []) (hfan : (s.link (fanRx p.val)).rxMsgs = []) (f : MemFault) :
    ∀ c ∈ [Instr.sendData ⟨p, f⟩, .fetchReq p, .fetchData ⟨p, f⟩, .xferDone p, .buoyOp p, .tallyImg p, .tallyRes p], exec c s = .next s := by
  have hnone := fun kind f => State.onMsg_of_none h hfan kind f
  intro c hc
  simp only [List.mem_cons, List.not_mem_nil, or_false] at hc
  rcases hc with rfl | rfl | rfl | rfl | rfl | rfl | rfl <;> exact congrArg Host.Outcome.next (hnone _ _)

section
variable {s t : State} {p : Fin 16} {m : Msg} {e : NodeEntry} (h : (s.link p.val).rxMsgs = [m]) (htc : m.tc < 4) (hs : s.checkSender m = (.ok e, t))
include h htc hs

/-- FETCH_DATA of a FETCH that waits for it. -/
theorem exec_fetchData_fetched {j : Job} (hkind : m.kind = 3) (hj : t.fetchJob p.val (m.tag.toNat % 256) = some j) (hjk : j.kind = .fetch) :
    exec (.fetchData ⟨p, .none⟩) s = .next (t.fetched p.val m j).settle := by
  refine congrArg Host.Outcome.next ((State.onMsg_ok h htc hkind _ hs).trans (congrArg State.settle ?_))
  simp only [State.rxFault, State.memFault, hj, hjk]

/-- FETCH_DATA that nothing waits for. -/
theorem exec_fetchData_unasked (hkind : m.kind = 3) (hj : t.fetchJob p.val (m.tag.toNat % 256) = .none) :
    exec (.fetchData ⟨p, .none⟩) s = .next (t.consumeMsg p.val m).settle := by
  refine congrArg Host.Outcome.next ((State.onMsg_ok h htc hkind _ hs).trans (congrArg State.settle ?_))
  simp only [State.rxFault, State.memFault, hj]

theorem exec_xferDone_taken (hkind : m.kind = 4) : exec (.xferDone p) s = .next ((t.consumeMsg p.val m).takeAnswer p.val m).settle :=
  congrArg Host.Outcome.next (State.onMsg_ok h htc hkind _ hs)

/-- A BUOY_OP into a window that may not be written. -/
theorem exec_buoyOp_denied (hkind : m.kind = 5) (hwr : e.wr = false) : ∃ u : State, exec (.buoyOp p) s = .next u.settle ∧ u.buoys = t.buoys ∧
    u.rd Reg.BUO.DENIED_CNT = (t.bump Reg.BUO.DENIED_CNT).rd Reg.BUO.DENIED_CNT := by
  refine ⟨_, (exec_buoyOp s p).trans (congrArg Host.Outcome.next (State.onMsg_ok h htc hkind _ hs)), ?_⟩
  rw [t.takeBuoyOp_denied p hwr, State.buoyAnswer_frame]
  exact ⟨rfl, bump_rd_of_rd_eq (State.rd_of_regs rfl _)⟩

end

/-- FETCH_DATA of a sender that is discarded. -/
theorem exec_fetchData_discarded {s t : State} {p : Fin 16} {m : Msg} {st d : Nat} (h : (s.link p.val).rxMsgs = [m]) (htc : m.tc < 4)
    (hkind : m.kind = 3) (hs : s.checkSender m = (.discard st d, t)) :
    exec (.fetchData ⟨p, .none⟩) s = .next (t.consumeMsg p.val m).settle := by
  refine congrArg Host.Outcome.next ((State.onMsg_discard h htc hkind _ hs).trans (congrArg State.settle ?_))
  simp only [State.rxFault, State.memFault]

/-! ### SENDs, FETCHes and their answers, with the sender's entry at hand -/

section
variable {s t : State} {p : Fin 16} {m : Msg} {e : NodeEntry} (h : (s.link p.val).rxMsgs = [m]) (htc : m.tc < 4) (hs : s.checkSender m = (.ok e, t))
  (hmsg : (t.link p.val).rxMsgs = [m])
include h htc hs hmsg

theorem exec_fetchReq_denied (hkind : m.kind = 2) (hq : (t.link p.val).queues.length = 4) (hrd : e.rd = false) :
    ∃ u : State, exec (.fetchReq p) s = .next u.settle ∧ (u.link p.val).rxMsgs = [] ∧ u.cox.jobs = t.cox.jobs ∧
      (u.link p.val).queues.getD 0 [] = (t.link p.val).queues.getD 0 [] ++ [t.mkMsg 4 0 0 true false
        (byteOf stDenied :: byteOf 1 :: byteOf ((m.data.getD 16 0).toNat % 4) :: byteOf (m.tag.toNat % 256) :: toBytes 4 1)] := by
  have hlink := (t.consumeMsg_link p.val m).2.1
  refine ⟨_, (exec_fetchReq s p).trans (congrArg Host.Outcome.next (State.onMsg_ok h htc hkind _ hs)), ?_⟩
  rw [t.answerFetch_denied p m hrd]
  refine ⟨?_, rfl, ?_⟩
  · rw [State.xferDone_rxMsgs]
    exact State.consumeMsg_rxMsgs hmsg
  · rw [State.xferDone_queue (by rw [hlink]; exact hq), hlink, State.mkMsg_congr (t.consumeMsg_runs p.val m)]

theorem exec_fetchReq_job (hkind : m.kind = 2) (hjobs : t.cox.jobs = []) (hrd : e.rd = true) (hlen : 0 < ofBytes ((m.data.drop 8).take 8))
    (hfits : ofBytes (m.data.take 8) + ofBytes ((m.data.drop 8).take 8) ≤ 4096 * e.pages) :
    ∃ u : State, exec (.fetchReq p) s = .next u.settle ∧ (u.link p.val).rxMsgs = [] ∧ ∃ j, u.cox.jobs = [j] ∧ j.kind = .answer (m.tag.toNat % 256) ∧
      j.port = p.val ∧ j.addr = e.base + ofBytes (m.data.take 8) ∧ j.len = ofBytes ((m.data.drop 8).take 8) := by
  refine ⟨_, (exec_fetchReq s p).trans (congrArg Host.Outcome.next (State.onMsg_ok h htc hkind _ hs)), ?_⟩
  rw [t.answerFetch_job p m hrd hlen hfits]
  exact ⟨State.rxMsgs_of_links (State.addJob_links _ _) (State.consumeMsg_rxMsgs hmsg), _, State.addJob_of_nil hjobs _, rfl, rfl, rfl, rfl⟩

theorem exec_xferDone_send (hkind : m.kind = 4) {j : Job} {c : Cmd} (hjobs : t.cox.jobs = [j]) (hcmds : t.cox.cmds = [c]) (hcmd : j.cmd = c.id)
    (hjk : j.kind = .send) (hwrites : j.writes = 1) (hjst : j.status = .none) (hrun : c.phase = .running) (hbegun : c.begun = true)
    (hopen : c.opened = 1) (hfail : c.failed = .none) (hst : (m.data.getD 0 0).toNat = 0) (hans : (m.data.getD 1 0).toNat = 0)
    (hwait : (t.link p.val).unanswered = [(0, (m.data.getD 2 0).toNat, j.id)]) :
    ∃ u : State, exec (.xferDone p) s = .next u.settle ∧ (u.link p.val).rxMsgs = [] ∧ (u.link p.val).unanswered = [] ∧ u.cox.jobs = [] ∧
      u.cox.cmds = [] := by
  have hmsgs := State.consumeMsg_rxMsgs hmsg
  have hwait' := (t.consumeMsg_link p.val m).2.2.1.trans hwait
  refine ⟨_, exec_xferDone_taken h htc hs hkind, ?_⟩
  rw [State.takeAnswer_send hst hans rfl hwait']
  generalize hw : (t.consumeMsg p.val m).setLink p.val { (t.consumeMsg p.val m).link p.val with unanswered := [] } = w
  have hwcox : w.cox = t.cox := (congrArg State.cox hw).symm.trans (t.consumeMsg_cox p.val m)
  have hwlink : (w.link p.val).rxMsgs = [] ∧ (w.link p.val).unanswered = [] := by
    rw [← hw, State.setLink_link_same]
    exact ⟨hmsgs, rfl⟩
  obtain ⟨hj, hc, hl⟩ := State.answered_send (s := w) (j := j) (c := c) (by rw [hwcox]; exact hjobs) (by rw [hwcox]; exact hcmds) hcmd hjk hwrites hjst
    hrun hbegun hopen hfail (ofBytes ((m.data.drop 4).take 4))
  have hlink := State.link_of_links hl p.val
  exact ⟨(congrArg Link.rxMsgs hlink).trans hwlink.1, (congrArg Link.unanswered hlink).trans hwlink.2, hj, hc⟩

theorem exec_xferDone_fetch (hkind : m.kind = 4) {j : Job} {c : Cmd} (hjobs : t.cox.jobs = [j]) (hcmds : t.cox.cmds = [c]) (hjk : j.kind = .fetch)
    (hport : j.port = p.val) (hid : j.fetchId = some (m.data.getD 3 0).toNat) (hans : (m.data.getD 1 0).toNat = 1) (hwrites : j.writes ≠ 0) :
    ∃ u : State, exec (.xferDone p) s = .next u.settle ∧ (u.link p.val).rxMsgs = [] ∧ u.cox.cmds = [c] ∧
      ∃ x, u.cox.jobs = [x] ∧ x.id = j.id ∧ x.lastIn = true ∧ x.writes = j.writes := by
  obtain ⟨x, hrun, hxid, hxlast, hxw⟩ := State.takeAnswer_fetch (s := t.consumeMsg p.val m) (p := p.val) (m := m) hjobs hjk hport hid hans hwrites
  refine ⟨_, exec_xferDone_taken h htc hs hkind, ?_⟩
  rw [hrun]
  exact ⟨State.rxMsgs_of_links (State.setJob_links _ _) (State.consumeMsg_rxMsgs hmsg), hcmds, x, State.setJob_only hjobs hxid, hxid, hxlast, hxw⟩

/-! ### Buoy operations and the tally -/

theorem exec_buoyOp_applied (hkind : m.kind = 5) (htc0 : m.tc = 0) (hwr : e.wr = true) : ∃ u : State, exec (.buoyOp p) s = .next u.settle ∧
    (u.link p.val).rxMsgs = [] ∧
    u.buoyVal ((m.data.getD 0 0).toNat % 64) = (if (m.data.getD 1 0).toNat = 0 then BitVec.ofNat 64 (ofBytes ((m.data.drop 8).take 8))
      else t.buoyVal ((m.data.getD 0 0).toNat % 64) + BitVec.ofNat 64 (ofBytes ((m.data.drop 8).take 8))) ∧
    (∀ k, k ≠ (m.data.getD 0 0).toNat % 64 → u.buoyVal k = t.buoyVal k) := by
  refine ⟨_, (exec_buoyOp s p).trans (congrArg Host.Outcome.next (State.onMsg_ok h htc hkind _ hs)), ?_⟩
  rw [t.takeBuoyOp_applied p htc0 hwr]
  generalize (m.data.getD 0 0).toNat % 64 = b
  generalize BitVec.ofNat 64 (ofBytes ((m.data.drop 8).take 8)) = v
  have hval : ∀ k, (((t.consumeMsg p.val m).buoyOp b (m.data.getD 1 0).toNat v).buoyAnswer p.val m stDone 0).buoyVal k =
      ((t.consumeMsg p.val m).buoyOp b (m.data.getD 1 0).toNat v).buoyVal k := fun k => by
    rw [State.buoyAnswer_frame]
    rfl
  refine ⟨?_, ?_, fun k hk => ?_⟩
  · rw [State.buoyAnswer_rxMsgs]
    exact State.rxMsgs_of_links (State.buoySet_links _ _ _) (State.consumeMsg_rxMsgs hmsg)
  · rw [hval, State.buoyOp, State.buoySet_buoyVal_same]
    rfl
  · rw [hval, State.buoyOp, State.buoySet_buoyVal_ne _ _ hk]
    rfl

theorem exec_tallyImg_poisoned (hkind : m.kind = 0x10) (hpoison : m.poison = true) : ∃ u : State, exec (.tallyImg p) s = .next u.settle ∧
    (u.link p.val).rxMsgs = [] ∧ u.shows Err.TLY.STRAY = true ∧ u.runs = t.runs := by
  refine ⟨_, (exec_tallyImg s p).trans (congrArg Host.Outcome.next (State.onMsg_ok h htc hkind _ hs)), ?_⟩
  rw [t.takeImage_poisoned p.val e hpoison, State.stray]
  refine ⟨?_, State.raise1_shows _ _ (show 0 < 32 by decide), State.raise1_runs _ _⟩
  rw [State.raise1_link]
  exact State.consumeMsg_rxMsgs hmsg

theorem exec_tallyRes_leaf (hkind : m.kind = 0x11) {x : Round} (hrounds : t.runs.rounds = [x]) (hk : x.round = m.tag.toNat) (hkids : x.children = [])
    (hcmds : x.cmds = []) (hbr : x.br < 63) : ∃ u : State, exec (.tallyRes p) s = .next u.settle ∧ (u.link p.val).rxMsgs = [] ∧ u.runs.rounds = [] ∧
      u.buoyVal x.br = BitVec.ofNat 64 (ofBytes (m.data.take 8)) ∧ u.buoyVal (x.br + 1) = BitVec.ofNat 64 (ofBytes ((m.data.drop 8).take 4)) ∧
      u.rd Reg.TLY.ROUND_CNT_DONE = (t.bump Reg.TLY.ROUND_CNT_DONE).rd Reg.TLY.ROUND_CNT_DONE := by
  refine ⟨_, (exec_tallyRes s p).trans (congrArg Host.Outcome.next (State.onMsg_ok h htc hkind _ hs)), ?_⟩
  rw [t.takeResult_leaf p.val e hrounds hk hkids]
  obtain ⟨hnil, hlinks, hlow, hhigh, -, hdone⟩ := State.roundResult_alone (s := t.consumeMsg p.val m) hrounds hkids hcmds hbr
    (ofBytes (m.data.take 8)) (ofBytes ((m.data.drop 8).take 4))
  refine ⟨?_, hnil, hlow, hhigh, hdone.trans (bump_rd_of_rd_eq (State.rd_of_regs rfl _))⟩
  rw [State.link_of_links hlinks]
  exact State.consumeMsg_rxMsgs hmsg

end

/-- Settles O59: each message is the rule of its KIND on the state in which its sender's entry is at hand. -/
theorem messagesAreTaken : Obligations.MessagesAreTaken := by
  unfold Obligations.MessagesAreTaken
  refine ⟨fun s p h hfan f => exec_received_none h hfan f, fun s t p m h hs htc => ⟨fun hkind => ?_, fun hkind => ?_⟩,
    fun s t p m e ws h htc hkind hlook hst hep => ?_, fun s t p m e h htc hs hmsg => ⟨fun hkind hland hx hwr hpoison hdata _ hfits => ?_,
      fun hkind hland hx hq hwr hlast => ?_, fun hkind hq hrd => exec_fetchReq_denied h htc hs hmsg hkind hq hrd,
      fun hkind hjobs hrd hlen hfits => exec_fetchReq_job h htc hs hmsg hkind hjobs hrd hlen hfits,
      fun hkind j hjobs hjk hport hid hdata _ hpoison => ?_, fun hkind hjobs => ?_,
      fun hkind j c hjobs hcmds hcmd hjk hwrites hjst hrun hbegun hopen hfail hst hans hwait =>
        exec_xferDone_send h htc hs hmsg hkind hjobs hcmds hcmd hjk hwrites hjst hrun hbegun hopen hfail hst hans hwait,
      fun hkind j c hjobs hcmds _ hjk hport hid hans hwrites => exec_xferDone_fetch h htc hs hmsg hkind hjobs hcmds hjk hport hid hans hwrites,
      fun hkind htc0 hwr => exec_buoyOp_applied h htc hs hmsg hkind htc0 hwr, fun hkind _ hwr => exec_buoyOp_denied h htc hs hkind hwr,
      fun hkind hpoison hfailed hrounds hpage => ?_, fun hkind hpoison => exec_tallyImg_poisoned h htc hs hmsg hkind hpoison,
      fun hkind hrounds => ?_, fun hkind x hrounds hk hkids hcmds hbr => exec_tallyRes_leaf h htc hs hmsg hkind hrounds hk hkids hcmds hbr⟩⟩
  · exact (exec_sendData s p).trans (congrArg Host.Outcome.next (State.onMsg_missing h htc hkind _ hs))
  · exact (exec_tallyRes s p).trans (congrArg Host.Outcome.next (State.onMsg_missing h htc hkind _ hs))
  · have hlinks := State.lookNode_links hlook
    refine ⟨_, exec_fetchData_discarded h htc hkind (State.checkSender_stale hlook hst hep), State.consumeMsg_rxMsgs ?_, ?_, ?_, ?_⟩
    · rw [State.bump_link, State.raise1_link, State.link_of_links hlinks]
      exact h
    · exact State.wr_shows_keeps (f := Reg.BTH.STALE_CNT) _ (by decide) (State.raise1_shows _ _ (show 0 < 32 by decide))
    · refine (State.rd_of_regs rfl _).trans (bump_rd_of_rd_eq (State.raise1_rd _ _ _ ?_))
      exact eventFields_key_ne (by decide) (by decide) (by decide) (by decide)
    · exact congrArg CoxState.jobs (t.raise1_cox _)
  · obtain ⟨v, hland', hspec⟩ := State.land_fits hmsg htc hland hwr hpoison hdata hfits
    refine ⟨v, ?_, hspec⟩
    rw [exec_sendData, State.onMsg_ok h htc hkind _ hs, hland']
  · refine ⟨_, (exec_sendData s p).trans (congrArg Host.Outcome.next (State.onMsg_ok h htc hkind _ hs)), ?_⟩
    exact State.land_denied hmsg htc hland hx hq hwr hlast
  · obtain ⟨v, hrun, hspec⟩ := State.fetched_writes hmsg hjobs hdata hpoison
    refine ⟨v, ?_, hspec⟩
    rw [exec_fetchData_fetched h htc hs hkind (State.fetchJob_of_only hjobs hjk hport hid) hjk, hrun]
  · exact ⟨_, exec_fetchData_unasked h htc hs hkind (State.fetchJob_of_nil hjobs _ _), State.consumeMsg_rxMsgs hmsg, rfl⟩
  · exact ⟨_, (exec_tallyImg s p).trans (congrArg Host.Outcome.next (State.onMsg_ok h htc hkind _ hs)),
      State.takeImage_new hmsg hpoison hfailed hrounds hpage⟩
  · have hnone : t.round m.tag.toNat = .none := by simp [State.round, hrounds]
    refine ⟨_, (exec_tallyRes s p).trans (congrArg Host.Outcome.next (State.onMsg_ok h htc hkind _ hs)), ?_⟩
    rw [State.takeResult_unknown p.val e rfl hnone]
    exact ⟨State.consumeMsg_rxMsgs hmsg, rfl, rfl⟩

end Sys2Proof.Machine
end

section
/-! SUPPORT. How stashes, restores, rounds and swaps of nodes end. -/

namespace Sys2Proof.Machine

/-! ## The end of a stash's encoding (R405, R410) -/

theorem exec_stashEncodeEnd_none {s : State} {n : Nat} (l : List (Nat × Nat)) (h : s.job n = .none) : exec (.stashEncodeEnd ⟨n, l⟩) s = .next s := by
  refine congrArg Host.Outcome.next ?_
  simp only [h]

theorem exec_stashEncodeEnd_early {s : State} {j : Job} (l : List (Nat × Nat)) (hjobs : s.cox.jobs = [j]) (henc : j.encoded = false) :
    exec (.stashEncodeEnd ⟨j.id, l⟩) s = .next s := by
  refine congrArg Host.Outcome.next ?_
  simp only [State.job_of_only hjobs]
  split
  · exact if_neg (by simp [henc])
  · rfl

theorem exec_stashEncodeEnd {s : State} {j : Job} {c : Cmd} {id : Nat} (l : List (Nat × Nat)) (hjobs : s.cox.jobs = [j]) (hcmds : s.cox.cmds = [c])
    (hcmd : j.cmd = c.id) (hkind : j.kind = .stash id) (henc : j.encoded = true) (hrun : c.phase = .running) :
    exec (.stashEncodeEnd ⟨j.id, l⟩) s = .next (s.encodeEnd j id c .none l).settle := by
  refine congrArg Host.Outcome.next ?_
  simp only [State.job_of_only hjobs, hkind, State.cmd_of_id hcmds hcmd]
  exact if_pos ⟨henc, hrun⟩

theorem ExtHeader.toBytes_length (h : ExtHeader) : h.toBytes.length = 64 := by
  unfold ExtHeader.toBytes
  simp only [List.length_append, length_toBytes, List.length_replicate]

/-- An extent with its header put in front. -/
def Extent.withHeader (x : Extent) (head : List Byte) : Extent :=
  { x with pages := (0, head ++ (((x.pages.find? (·.1 == 0)).map (·.2)).getD []).drop 64) :: x.pages.filter (·.1 != 0) }

theorem State.encodeEnd_volatile {s : State} (j : Job) {id : Nat} (c : Cmd) (l : List (Nat × Nat)) (h : (s.extent id).persist = false) :
    s.encodeEnd j id c .none l = ((((s.setExtent id ((s.extent id).withHeader (s.extHeader id).toBytes)).extentDone id false).dropJob j.id).complete c.id
      stDone (s.extent id).clen) := by
  unfold State.encodeEnd
  simp only [h, Bool.not_false, if_true, Extent.withHeader]

theorem State.extent_of_only {s : State} {id : Nat} {x : Extent} (h : s.runs.extents = [(id, x)]) : s.extent id = x := by
  simp [State.extent, h, Tab.read]

/-- With no extent in the table but one that is not to be retired, none is. -/
theorem State.retireWaiting_of_only {s : State} {id : Nat} {x : Extent} (h : s.runs.extents = [(id, x)]) (hret : x.retire = false) :
    s.retireWaiting = s := by
  unfold State.retireWaiting
  rw [h]
  simp [hret]

/-- The only extent, staged, as its stash ends. -/
theorem State.extentDone_only {s : State} {id : Nat} {x : Extent} (h : s.runs.extents = [(id, x)]) (hst : x.state = 1) (hret : x.retire = false) :
    s.extentDone id false = { s with runs := { s.runs with
      extents := [(id, { x with state := 2, age := s.runs.nextAge, clean := [], writing := [] })], nextAge := s.runs.nextAge + 1 } } := by
  generalize hy : { x with state := 2, age := s.runs.nextAge, clean := [], writing := [] } = y
  have hyst : y ≠ Extent.reset := fun he => by
    have hstate : y.state = 2 := by rw [← hy]
    rw [he] at hstate
    exact absurd hstate (by decide)
  have htab : Tab.write Extent.reset s.runs.extents id y = [(id, y)] := by
    rw [h, Tab.write, if_neg hyst]
    simp [Tab.erase, Tab.insert]
  have hset : s.setExtent id y = { s with runs := { s.runs with extents := [(id, y)] } } := by rw [State.setExtent, htab]
  unfold State.extentDone
  simp only [State.extent_of_only h, hst, Nat.reduceEqDiff, if_false, Bool.false_eq_true, hy, hset]
  exact State.retireWaiting_of_only rfl (by rw [← hy]; exact hret)

/-- A stash that is not PERSIST ends RESIDENT, its header in front. -/
theorem State.encodeEnd_only {s : State} {j : Job} {c : Cmd} {id : Nat} {x : Extent} (l : List (Nat × Nat)) (hjobs : s.cox.jobs = [j])
    (hcmds : s.cox.cmds = [c]) (hrun : c.phase = .running) (hext : s.runs.extents = [(id, x)]) (hst : x.state = 1) (hper : x.persist = false)
    (hret : x.retire = false) :
    (s.encodeEnd j id c .none l).cox.jobs = [] ∧ (s.encodeEnd j id c .none l).cox.cmds = [] ∧
    (s.encodeEnd j id c .none l).extent id = { x.withHeader (s.extHeader id).toBytes with
      state := 2, age := s.runs.nextAge, clean := [], writing := [] } := by
  have hx := State.extent_of_only hext
  have hended : c.phase ≠ .ended := by rw [hrun]; exact nofun
  rw [State.encodeEnd_volatile j c l (by rw [hx]; exact hper), hx]
  generalize hz : x.withHeader (s.extHeader id).toBytes = z
  have hzst : z.state = 1 := by rw [← hz]; exact hst
  have hzret : z.retire = false := by rw [← hz]; exact hret
  have hset : s.setExtent id z = { s with runs := { s.runs with extents := [(id, z)] } } := by
    have hzne : z ≠ Extent.reset := fun he => by rw [he] at hzst; exact absurd hzst (by decide)
    rw [State.setExtent, hext, Tab.write, if_neg hzne]
    simp [Tab.erase, Tab.insert]
  rw [hset, State.extentDone_only rfl hzst hzret]
  generalize hu : State.dropJob _ j.id = u
  have hucmds : u.cox.cmds = [c] := by rw [← hu]; exact hcmds
  have hujobs : u.cox.jobs = [] := by rw [← hu]; simp [State.dropJob, hjobs]
  have huext : u.extent id = { z with state := 2, age := s.runs.nextAge, clean := [], writing := [] } := by
    rw [← hu]
    exact State.extent_of_only rfl
  obtain ⟨hwork, hnil, hkeep, -⟩ := State.complete_only_spec hucmds hended stDone x.clen
  refine ⟨hkeep.trans hujobs, hnil, ?_⟩
  rw [hwork.frame]
  exact huext

/-! ## Restores (R412) -/

theorem exec_unstashVerify_none {s : State} {n : Nat} (l : List (Nat × Nat)) (h : s.job n = .none) : exec (.unstashVerify ⟨n, l⟩) s = .next s := by
  refine congrArg Host.Outcome.next ?_
  simp only [h]

/-- A restore at hand, no page of which was lost, is checked. -/
theorem exec_unstashVerify {s : State} {j : Job} {c : Cmd} (hjobs : s.cox.jobs = [j]) (hcmds : s.cox.cmds = [c]) (hcmd : j.cmd = c.id)
    (hkind : j.kind = .unstash) (hlast : j.lastIn = true) (hfull : j.full = true) :
    exec (.unstashVerify ⟨j.id, []⟩) s = .next (s.unstashCheck j c).settle := by
  refine congrArg Host.Outcome.next ?_
  simp only [State.job_of_only hjobs, State.cmd_of_id hcmds hcmd]
  refine (if_pos ⟨hkind, hlast, hfull⟩).trans (congrArg State.settle ?_)
  cases j.page with
  | none => simp only [State.job_of_only hjobs, hfull, if_true]
  | some pg => simp only [List.foldl_nil, State.job_of_only hjobs, hfull, if_true]

/-- A stream without a header ends its restore corrupt. -/
theorem State.unstashCheck_badHeader {s : State} {j : Job} {c : Cmd} (h : readHeader (j.data.take 64) = .none) :
    s.unstashCheck j c = (s.dropJob j.id).corrupt c := by
  have hbad : ∀ x, checkStream x (cLen c.words) j.data = .badHeader := fun x => by rw [checkStream, h]
  unfold State.unstashCheck
  simp only [hbad]

/-- The original bytes of a stream that passes every check are written at LOCAL. -/
theorem State.unstashCheck_good {s : State} {j : Job} {c : Cmd} {h : ExtHeader} (hst : j.status = .none) (hby : bitAt (c.w 5) 22 = true)
    (hhead : readHeader (j.data.take 64) = some h) (hlen : h.len ≤ cLen c.words) (hall : ((j.data.drop 64).take h.clen).length = h.clen)
    (hcrc : (crc32 ((j.data.drop 64).take h.clen)).toNat = h.crc) {bs : List Byte}
    (hbs : decodeStream h.dtype (h.len / 4096 + 1) h.len ((j.data.drop 64).take h.clen) = bs) (hne : bs ≠ []) :
    s.unstashCheck j c = (s.setJob { j with writes := writeCount (c.w 4) bs.length, pos := h.len, chunk := 0, got := [] }).hubWrite (c.w 4) bs false
      (.jobWrite j.id .none) := by
  have hgood : checkStream .none (cLen c.words) j.data = .good h.len bs := by
    rw [checkStream, hhead]
    simp [hall, hcrc, hbs, Nat.not_lt.2 hlen]
  unfold State.unstashCheck
  simp only [hby, if_true, hgood, hst, List.isEmpty_eq_false_iff.2 hne, Bool.false_eq_true, if_false, Option.isSome_none]

/-- A corrupt restore's end, where its command is the only one. -/
theorem State.corrupt_only {s : State} {c : Cmd} (hcmds : s.cox.cmds = [c]) (hrun : c.phase = .running) : (s.corrupt c).cox.cmds = [] ∧
    (s.corrupt c).cox.jobs = s.cox.jobs ∧ (s.corrupt c).shows Err.STH.CORRUPT = true ∧
    (s.corrupt c).rd Reg.STH.CORRUPT_CNT = (s.bump Reg.STH.CORRUPT_CNT).rd Reg.STH.CORRUPT_CNT := by
  have hended : c.phase ≠ .ended := by rw [hrun]; exact nofun
  unfold State.corrupt
  dsimp only
  generalize (if bitAt (c.w 5) 22 then 0xFFF else bits (c.w 5) 11 0) = id
  have hshow := State.raise1_shows s ⟨Err.STH.CORRUPT, id, 0⟩ (show 1 < 32 by decide)
  have hrd := State.raise1_rd s ⟨Err.STH.CORRUPT, id, 0⟩ Reg.STH.CORRUPT_CNT (eventFields_key_ne (by decide) (by decide) (by decide) (by decide))
  have hcox := s.raise1_cox ⟨Err.STH.CORRUPT, id, 0⟩
  generalize s.raise1 ⟨Err.STH.CORRUPT, id, 0⟩ = t at hshow hrd hcox
  obtain ⟨hwork, hnil, hkeep, -⟩ := State.complete_only_spec (s := t.bump Reg.STH.CORRUPT_CNT) ((congrArg CoxState.cmds hcox).trans hcmds) hended
    stCorrupt id
  refine ⟨hnil, hkeep.trans (congrArg CoxState.jobs hcox), hwork.shows _ (show 1 < 32 by decide) ?_, ?_⟩
  · exact State.wr_shows_keeps (f := Reg.STH.CORRUPT_CNT) _ (by decide) hshow
  · exact (hwork.rd _ (by unfold Field.offHub; decide) (by decide) (by decide)).trans (bump_rd_of_rd_eq hrd)

/-! ## Extents retired (R405, R413) -/

theorem exec_extentRetire {s : State} {via : Path} {id : Nat} (hd : s.deaf via = false) (hl : s.locked via 0x00D = false) (hid : id < 4096) :
    exec (.extentRetire via id) s = .next (s.retireExtent id).settle := by
  have hdata : bitAt (id % 2 ^ 12) 12 = false ∧ bits (id % 2 ^ 12) 11 0 = id := by
    constructor
    · simp only [bitAt, beq_eq_false_iff_ne]
      omega
    · simp only [bits]
      omega
  refine congrArg Host.Outcome.next (congrArg State.settle ((State.access_of_not_locked _ _ hd (by decide) hl).trans ?_))
  unfold State.wrRetire
  rw [hdata.1, hdata.2]
  rfl

theorem exec_extentRetireAll {s : State} {via : Path} (hd : s.deaf via = false) (hl : s.locked via 0x00D = false) :
    exec (.extentRetireAll via) s = .next ((s.runs.extents.map (·.1)).foldl State.retireExtent s).settle :=
  congrArg Host.Outcome.next (congrArg State.settle (State.access_of_not_locked _ _ hd (by decide) hl))

/-- With no job, an extent whose pages are not being written may become FREE. -/
theorem State.canFree_of_idle {s : State} {id : Nat} (hjobs : s.cox.jobs = []) (hwr : (s.extent id).writing = []) : s.canFree id = true := by
  simp [State.canFree, State.stashing, State.restoring, hjobs, hwr]

theorem State.canFree_of_writing {s : State} {id : Nat} (hwr : (s.extent id).writing ≠ []) : s.canFree id = false := by
  simp [State.canFree, List.isEmpty_eq_false_iff.2 hwr]

theorem State.retireExtent_free {s : State} {id : Nat} (hst : (s.extent id).state ≠ 0) (hfree : s.canFree id = true) :
    s.retireExtent id = s.freeExtent id := (if_neg hst).trans (if_pos hfree)

theorem State.retireExtent_busy {s : State} {id : Nat} (hst : (s.extent id).state ≠ 0) (hfree : s.canFree id = false) :
    s.retireExtent id = s.setExtent id { s.extent id with retire := true } := (if_neg hst).trans (if_neg (by rw [hfree]; decide))

theorem State.freeExtent_extent_ne (s : State) {id k : Nat} (h : k ≠ id) : (s.freeExtent id).extent k = s.extent k :=
  (s.returnPages .sts (s.extent id).pages.length).extent_setExtent_ne id Extent.reset k h.symm

theorem State.freeExtent_used (s : State) (id : Nat) :
    (s.freeExtent id).rd (Reg.RSV.USED (poolNo .sts)) = (s.poolUsed .sts - (s.extent id).pages.length) % 2 ^ 17 :=
  State.rd_wr_same s (Reg.RSV.USED (poolNo .sts)) _

/-- A fold of retirements over extents at rest frees each of them. -/
theorem State.retireAll_extents {ks : List Nat} {s : State} (hjobs : s.cox.jobs = []) (hwr : ∀ k, (s.extent k).writing = [])
    (hst : ∀ k ∈ ks, (s.extent k).state ≠ 0) (hnodup : ks.Nodup) :
    ∀ k, (ks.foldl State.retireExtent s).extent k = if k ∈ ks then Extent.reset else s.extent k := by
  induction ks generalizing s with
  | nil => exact fun k => (if_neg List.not_mem_nil).symm
  | cons a l ih =>
    obtain ⟨hnotin, hrest⟩ := List.nodup_cons.mp hnodup
    have hstep : s.retireExtent a = s.freeExtent a :=
      State.retireExtent_free (hst a List.mem_cons_self) (State.canFree_of_idle hjobs (hwr a))
    have hne : ∀ {k}, k ≠ a → (s.freeExtent a).extent k = s.extent k := s.freeExtent_extent_ne
    intro k
    rw [List.foldl_cons, hstep, ih (s := s.freeExtent a) hjobs (fun i => ?_) (fun i hi => ?_) hrest]
    · by_cases hk : k = a
      · rw [hk, if_neg hnotin, if_pos List.mem_cons_self, State.freeExtent_extent_same]
      · rw [hne hk]
        simp only [List.mem_cons, hk, false_or]
    · by_cases hi : i = a
      · rw [hi, State.freeExtent_extent_same]
        rfl
      · rw [hne hi]
        exact hwr i
    · rw [hne fun he => hnotin (he ▸ hi)]
      exact hst i (List.mem_cons_of_mem a hi)

/-- A table's entries, where no key is listed twice. -/
theorem Tab.read_of_mem {α : Type} (d : α) {t : Tab α} (hnodup : (t.map (·.1)).Nodup) {kv : Nat × α} (h : kv ∈ t) : Tab.read d t kv.1 = kv.2 := by
  induction t with
  | nil => exact nomatch h
  | cons e l ih =>
    rw [List.map_cons, List.nodup_cons] at hnodup
    rcases List.mem_cons.mp h with rfl | hmem
    · simp [Tab.read]
    · have hne : kv.1 ≠ e.1 := fun he => hnodup.1 (he ▸ List.mem_map_of_mem hmem)
      exact (if_neg hne).trans (ih hnodup.2 hmem)

/-! ## Rounds (R417, R418, R420) -/

theorem exec_tallyImgSend_idle {s : State} {r : Nat} (h : s.round r = .none ∨ s.safe = true) : exec (.tallyImgSend r) s = .next s := by
  refine congrArg Host.Outcome.next ?_
  cases hr : s.round r with
  | none => rfl
  | some x =>
    have hsafe : s.safe = true := h.resolve_left (by rw [hr]; exact nofun)
    simp only
    exact if_pos (by rw [hsafe, Bool.or_true])

theorem exec_tallyImgSend_early {s : State} {x : Round} (hrounds : s.runs.rounds = [x]) (hdue : x.due = false) :
    exec (.tallyImgSend x.round) s = .next s := by
  refine congrArg Host.Outcome.next ?_
  simp only [State.round_of_only hrounds]
  exact if_pos (by rw [hdue]; rfl)

/-- The root of a tree without children has its round's result. -/
theorem exec_tallyImgSend_root {s : State} {x : Round} (hrounds : s.runs.rounds = [x]) (hdue : x.due = true) (hsafe : s.safe = false)
    (hroot : x.root = true) (hkids : x.children = []) :
    exec (.tallyImgSend x.round) s = .next (s.roundResult x x.acc.norm.1 x.acc.norm.2).settle := by
  refine congrArg Host.Outcome.next ?_
  simp only [State.round_of_only hrounds, hdue, hsafe, hroot, hkids, State.nodesKnown, List.foldl_nil, Bool.not_true, Bool.or_self,
    Bool.false_eq_true, if_false, if_true]

theorem exec_tallyAbort {s : State} {via : Path} {r : Nat} (hd : s.deaf via = false) (hl : s.locked via 0x00E = false) (hr : r < 2 ^ 16) :
    exec (.tallyAbort via r) s = .next (s.failRound r 3 stLinkDown 0xFFFF).settle := by
  have hdata : bitAt (2 ^ 16 + r % 2 ^ 16) 16 = true ∧ bits (2 ^ 16 + r % 2 ^ 16) 15 0 = r := by
    constructor
    · simp only [bitAt, beq_iff_eq]
      omega
    · simp only [bits]
      omega
  refine congrArg Host.Outcome.next (congrArg State.settle ((State.access_of_not_locked _ _ hd (by decide) hl).trans ?_))
  unfold State.wrAbort
  rw [hdata.1, hdata.2]
  rfl

/-- The only round, which no command waits for, fails. -/
theorem State.failRound_only {s : State} {x : Round} (hrounds : s.runs.rounds = [x]) (hcmds : x.cmds = []) (cause st det : Nat) :
    (s.failRound x.round cause st det).runs.rounds = [] ∧ (s.failRound x.round cause st det).shows Err.TLY.ROUND_FAIL = true ∧
    x.round ∈ (s.failRound x.round cause st det).runs.failedRounds ∧
    (s.failRound x.round cause st det).rd Reg.TLY.ROUND_CNT_FAILED = (s.bump Reg.TLY.ROUND_CNT_FAILED).rd Reg.TLY.ROUND_CNT_FAILED ∧
    (s.failRound x.round cause st det).buoys = s.buoys := by
  obtain ⟨hnil, hframe, hrd⟩ := State.closeRound_only hrounds
  unfold State.failRound
  simp only [State.round_of_only hrounds, hcmds, List.foldl_nil]
  generalize s.closeRound x.round = t at hnil hframe hrd
  generalize hev : (⟨Err.TLY.ROUND_FAIL, cause * 2 ^ 16 + x.round % 2 ^ 16, 0⟩ : Event) = e
  have hcode : e.code = Err.TLY.ROUND_FAIL := by rw [← hev]
  have hshow : (t.raise1 e).shows Err.TLY.ROUND_FAIL = true := by
    rw [← hcode]
    exact State.raise1_shows t e (by rw [hcode]; decide)
  have hcnt : (t.raise1 e).rd Reg.TLY.ROUND_CNT_FAILED = s.rd Reg.TLY.ROUND_CNT_FAILED :=
    (State.raise1_rd t e _ (eventFields_key_ne (by decide) (by decide) (by decide) (by decide))).trans (hrd _ (by decide))
  have hruns := t.raise1_runs e
  have hbuoys : (t.raise1 e).buoys = s.buoys := (t.raise1_buoys e).trans (by rw [hframe])
  generalize t.raise1 e = u at hshow hcnt hruns hbuoys
  refine ⟨(congrArg RunState.rounds hruns).trans hnil, ?_, ?_, bump_rd_of_rd_eq hcnt, hbuoys⟩
  · exact State.wr_shows_keeps (f := Reg.TLY.ROUND_CNT_FAILED) _ (by decide) hshow
  · exact List.mem_append_right _ List.mem_cons_self

/-! ## A swap of nodes goes live (R424) -/

theorem exec_swapLive_none {s : State} (h : s.runs.swap = .none) : exec .swapLive s = .next s := by
  refine congrArg Host.Outcome.next ?_
  simp only [h]

theorem exec_swapLive_early {s : State} {w : SwapRun} {a : Nat} (h : s.runs.swap = some w) (hready : w.ready = some a)
    (hearly : s.now ≤ a ∨ s.clk.cycle ≠ 0) : exec .swapLive s = .next s := by
  refine congrArg Host.Outcome.next ?_
  simp only [h, hready]
  refine if_neg ?_
  simp only [Bool.and_eq_true, beq_iff_eq, decide_eq_true_eq]
  omega

/-- A cached line with a node's entry replaced, where it is the line of that node. -/
def putLine (line k : Nat) (e : List DWord) (l : Nat × List DWord) : Nat × List DWord :=
  if l.1 = line then (l.1, l.2.take (k % 2 * 4) ++ e ++ l.2.drop (k % 2 * 4 + 4)) else l

/-- A node's entry replaced where the cache holds it. -/
def State.putEntry (s : State) (k : Nat) (e : List DWord) : State :=
  { s with cox := { s.cox with cache := s.cox.cache.map (putLine (s.nodeAddr k / 64) k e) } }

/-- The two entries of a swap live, and the swap over. -/
def State.mapLive (s : State) (w : SwapRun) : State :=
  (State.putEntry { s with runs := { s.runs with swap := .none } } w.failed w.entryF).putEntry w.spare w.entryS

/-- The registers of the last swap. -/
def State.swapShown (s : State) (w : SwapRun) : State :=
  State.bump (((s.wr Reg.BTH.LAST_SWAP_EPOCH w.epoch).wr Reg.BTH.LAST_SWAP_SPARE w.spare).wr Reg.BTH.LAST_SWAP_FAILED w.failed) Reg.BTH.SWAP_CNT

theorem State.swapShown_spec (s : State) (w : SwapRun) : (s.swapShown w).rd Reg.BTH.LAST_SWAP_FAILED = w.failed % 2 ^ 12 ∧
    (s.swapShown w).rd Reg.BTH.LAST_SWAP_SPARE = w.spare % 2 ^ 12 ∧ (s.swapShown w).rd Reg.BTH.LAST_SWAP_EPOCH = w.epoch % 2 ^ 8 ∧
    (s.swapShown w).rd Reg.BTH.SWAP_CNT = (s.bump Reg.BTH.SWAP_CNT).rd Reg.BTH.SWAP_CNT := by
  unfold State.swapShown
  refine ⟨?_, ?_, ?_, bump_rd_of_rd_eq ?_⟩
  · rw [State.rd_bump_ne _ (by decide), State.rd_wr_same]
    rfl
  · rw [State.rd_bump_ne _ (by decide), State.rd_wr_ne _ _ (by decide), State.rd_wr_same]
    rfl
  · rw [State.rd_bump_ne _ (by decide), State.rd_wr_ne _ _ (by decide), State.rd_wr_ne _ _ (by decide), State.rd_wr_same]
    rfl
  · rw [State.rd_wr_ne _ _ (by decide), State.rd_wr_ne _ _ (by decide), State.rd_wr_ne _ _ (by decide)]

/-- A swap goes live with no command before it and no round. -/
theorem exec_swapLive {s : State} {w : SwapRun} {a : Nat} {c : Cmd} (hrun : s.running = true) (hcyc : s.clk.cycle = 0)
    (h : s.runs.swap = some w) (hready : w.ready = some a) (hlate : a < s.now) (hcmds : s.cox.cmds = [c]) (hid : c.id = w.cmd)
    (hrounds : s.runs.rounds = []) :
    exec .swapLive s = .next (((s.mapLive w).swapShown w).complete w.cmd stDone w.epoch).settle := by
  have hnow : (s.running && s.clk.cycle == 0 && decide (a < s.now)) = true := by simp [hrun, hcyc, hlate]
  have hstale : (s.cox.cmds.filter fun c => decide (c.id < w.cmd) && c.names w.failed) = [] := by simp [hcmds, hid]
  have hhit : (s.runs.rounds.filter fun x => x.hasTree && ((!x.root && x.parent == w.failed) || x.children.contains w.failed)) = [] := by
    rw [hrounds]
    rfl
  refine congrArg Host.Outcome.next ?_
  simp only [h, hready]
  refine (if_pos hnow).trans ?_
  simp only [hstale, hhit, List.map_nil, List.foldl_nil]
  unfold State.swapShown State.mapLive State.putEntry putLine
  rfl

/-! ## The ends of runs -/

/-- Settles O60: each run ends by the rule of its end on the state in which it is the only one. -/
theorem runsEnd : Obligations.RunsEnd := by
  unfold Obligations.RunsEnd
  refine ⟨fun s n l h => ⟨exec_stashEncodeEnd_none l h, exec_unstashVerify_none l h⟩,
    fun s j c id x l hjobs hcmds hcmd hkind henc hrun hext hst hper hret => ?_, fun s j l hjobs henc => exec_stashEncodeEnd_early l hjobs henc,
    fun s j c hjobs hcmds hcmd hkind hlast hfull hrun hhead hext => ?_,
    fun s j c h hjobs hcmds hcmd hkind hlast hfull hst hby hhead hlen hall hcrc => ?_, fun s via id hd hl hid hjobs hst hwr => ?_,
    fun s via id hd hl hid hjobs hst hwr => ?_, fun s via hd hl hjobs hall hnodup => ?_, fun s r h => exec_tallyImgSend_idle h,
    fun s x hrounds hdue hsafe hroot hkids hcmds hbr => ?_, fun s x hrounds hdue => exec_tallyImgSend_early hrounds hdue,
    fun s via x hd hl hrounds hr hcmds => ?_, fun s h => exec_swapLive_none h,
    fun s w a c hrun hcyc h hready hlate hcmds hid hph hdest hrounds => ?_, fun s w a h hready hearly => exec_swapLive_early h hready hearly⟩
  · obtain ⟨hnojobs, hnocmds, hextent⟩ := State.encodeEnd_only l hjobs hcmds hrun hext hst hper hret
    refine ⟨_, exec_stashEncodeEnd l hjobs hcmds hcmd hkind henc hrun, hnojobs, hnocmds, ?_⟩
    rw [hextent]
    refine ⟨rfl, rfl, rfl, rfl, ?_⟩
    have hhead : 64 ≤ (s.extHeader id).toBytes.length := (s.extHeader id).toBytes_length.ge
    simp [Extent.withHeader, List.take_append_of_le_length hhead]
  · obtain ⟨hnil, hkeep, hshow, hcnt⟩ := State.corrupt_only (s := s.dropJob j.id) (c := c) hcmds hrun
    refine ⟨_, exec_unstashVerify hjobs hcmds hcmd hkind hlast hfull, ?_⟩
    rw [State.unstashCheck_badHeader hhead]
    refine ⟨hkeep.trans ?_, hnil, hshow, hcnt.trans (bump_rd_of_rd_eq (State.rd_of_regs rfl _))⟩
    simp [State.dropJob, hjobs]
  · intro bs hne
    have hrun := exec_unstashVerify hjobs hcmds hcmd hkind hlast hfull
    rw [State.unstashCheck_good hst hby hhead hlen hall hcrc (bs := bs) rfl hne] at hrun
    exact ⟨_, hrun, rfl, _, State.setJob_only hjobs rfl, rfl, rfl, rfl⟩
  · refine ⟨_, exec_extentRetire hd hl hid, ?_⟩
    rw [State.retireExtent_free hst (State.canFree_of_idle hjobs hwr)]
    exact ⟨s.freeExtent_extent_same id, fun k hk => s.freeExtent_extent_ne hk, s.freeExtent_used id⟩
  · have hst' : (s.extent id).state ≠ 0 := by rw [hst]; decide
    refine ⟨_, exec_extentRetire hd hl hid, ?_⟩
    rw [State.retireExtent_busy hst' (State.canFree_of_writing hwr)]
    exact s.extent_setExtent_same id _
  · have hread : ∀ kv ∈ s.runs.extents, s.extent kv.1 = kv.2 := fun kv hkv => Tab.read_of_mem Extent.reset hnodup hkv
    have hrest : ∀ k, k ∉ s.runs.extents.map (·.1) → s.extent k = Extent.reset := fun k hk => Tab.read_of_not_mem Extent.reset _ hk
    refine ⟨_, exec_extentRetireAll hd hl, fun id => ?_⟩
    rw [State.retireAll_extents hjobs (fun k => ?_) (fun k hk => ?_) hnodup]
    · split
      · rfl
      · rename_i hk
        exact hrest id hk
    · by_cases hk : k ∈ s.runs.extents.map (·.1)
      · obtain ⟨kv, hkv, rfl⟩ := List.mem_map.mp hk
        rw [hread kv hkv]
        exact (hall kv hkv).1
      · rw [hrest k hk]
        rfl
    · obtain ⟨kv, hkv, rfl⟩ := List.mem_map.mp hk
      rw [hread kv hkv]
      exact (hall kv hkv).2
  · obtain ⟨hnil, -, hlow, hhigh, hlast, hdone⟩ := State.roundResult_alone hrounds hkids hcmds hbr x.acc.norm.1 x.acc.norm.2
    exact ⟨_, exec_tallyImgSend_root hrounds hdue hsafe hroot hkids, hnil, hlow, hhigh, hlast, hdone⟩
  · exact ⟨_, exec_tallyAbort hd hl hr, State.failRound_only hrounds hcmds _ _ _⟩
  · have hended : c.phase ≠ .ended := by rw [hph]; exact nofun
    have hcmds' : ((s.mapLive w).swapShown w).cox.cmds = [c] := hcmds
    obtain ⟨hfailed, hspare, hepoch, hcnt⟩ := (s.mapLive w).swapShown_spec w
    obtain ⟨hwork, hnil, -, -⟩ := State.complete_only_spec hcmds' hended stDone w.epoch
    rw [hid] at hwork hnil
    have hrd := fun g hg hA hC => hwork.rd g hg hA hC
    have hoff : ∀ g ∈ [Reg.BTH.LAST_SWAP_FAILED, Reg.BTH.LAST_SWAP_SPARE, Reg.BTH.LAST_SWAP_EPOCH, Reg.BTH.SWAP_CNT],
        g.offHub ∧ g.page ≠ 0x00A ∧ g.page ≠ 0x00C := by unfold Field.offHub; decide
    have hkeep : ∀ g ∈ [Reg.BTH.LAST_SWAP_FAILED, Reg.BTH.LAST_SWAP_SPARE, Reg.BTH.LAST_SWAP_EPOCH, Reg.BTH.SWAP_CNT],
        (((s.mapLive w).swapShown w).complete w.cmd stDone w.epoch).rd g = ((s.mapLive w).swapShown w).rd g := fun g hg =>
      hwork.rd g (hoff g hg).1 (hoff g hg).2.1 (hoff g hg).2.2
    refine ⟨_, exec_swapLive hrun hcyc h hready hlate hcmds hid hrounds, ?_, hnil, (hkeep _ (by simp)).trans hfailed, (hkeep _ (by simp)).trans hspare,
      (hkeep _ (by simp)).trans hepoch, ((hkeep _ (by simp)).trans hcnt).trans (bump_rd_of_rd_eq (State.rd_of_regs rfl _))⟩
    rw [hwork.frame]
    rfl

end Sys2Proof.Machine
end

section
/-! SUPPORT. Register writes and reads: bits 1:0 of an address, unimplemented offsets, SCRATCH, LOCK's refusals, and the response that a sideband
shows (spec section 04, R102, R103, R115, R117, R125). -/

namespace Sys2Proof.Machine

/-! ## Bits 1:0 of an address (R103) -/

theorem pageOfAddr_word (a : Nat) : pageOfAddr (a / 4 * 4) = pageOfAddr a := by
  unfold pageOfAddr
  omega

theorem offOfAddr_word (a : Nat) : offOfAddr (a / 4 * 4) = offOfAddr a := by
  unfold offOfAddr
  omega

theorem State.writeAddr_word (s : State) (v : Path) (a d : Nat) : s.writeAddr v (a / 4 * 4) d = s.writeAddr v a d := by
  rw [State.writeAddr, State.writeAddr, pageOfAddr_word, offOfAddr_word]

theorem State.readWord_word (s : State) (v : Path) (a : Nat) : s.readWord v (a / 4 * 4) = s.readWord v a := by
  have hpg : a / 4 * 4 / 0x1000 % 1024 = a / 0x1000 % 1024 := pageOfAddr_word a
  have hoff : a / 4 * 4 % 0x1000 / 4 * 4 = a % 0x1000 / 4 * 4 := offOfAddr_word a
  rw [State.readWord, State.readWord, hpg, hoff]

theorem exec_sampleRead_word (s : State) (via : Path) (a : Nat) : exec (.sampleRead via a) s = exec (.sampleRead via (a / 4 * 4)) s := by
  show execSampleRead via a s = execSampleRead via (a / 4 * 4) s
  rw [execSampleRead, execSampleRead, State.readWord_word]

/-! ## Writes that change nothing (R102), and those that LOCK refuses (R115, R117) -/

theorem isSome_of_implemented {pg off : Nat} (h : implemented pg off = true) : (blockOf pg).isSome = true := by
  unfold implemented at h
  split at h
  · exact nomatch h
  · rename_i b hb
    rw [hb]
    rfl

/-- A write off LOCK's own register is an access at its offset, where its page is mapped. -/
theorem State.writeReg_of_ne {s : State} {v : Path} {pg off : Nat} (data : Nat) (hoff : off ≠ 0x034) :
    s.writeReg v pg off data = s.access v pg off data (effectOf v pg off) := by
  rw [State.writeReg, if_neg hoff]
  split
  · next h =>
    rw [State.access, if_pos]
    rcases Bool.or_eq_true_iff.1 h with hd | hnone
    · rw [hd, Bool.true_or]
    · rw [Option.isNone_iff_eq_none] at hnone
      simp [implemented, hnone]
  · rfl

theorem State.writeReg_unimplemented {s : State} {v : Path} {pg off : Nat} (data : Nat) (h : implemented pg off = false) :
    s.writeReg v pg off data = s := by
  by_cases hoff : off = 0x034
  · have hnone : (blockOf pg).isNone = true := by
      cases hb : blockOf pg with
      | none => rfl
      | some b => exact absurd ((implemented_header (pg := pg) (by rw [hb]; rfl) (by omega)).symm.trans h) (by decide)
    rw [State.writeReg, hnone, Bool.or_true, if_pos rfl]
  · rw [State.writeReg_of_ne _ hoff, State.access, h]
    simp

theorem State.writeReg_deaf {s : State} {v : Path} (pg off data : Nat) (h : s.deaf v = true) : s.writeReg v pg off data = s := by
  rw [State.writeReg, h, Bool.true_or, if_pos rfl]

theorem State.refuses_of_locked {s : State} {v : Path} {pg off : Nat} (data : Nat) (himpl : implemented pg off = true) (hoff : 0x040 ≤ off)
    (hl : s.locked v pg = true) : s.refuses v pg off data = true := by
  simp [State.refuses, himpl, hl, hoff]

/-- R115, R117: what LOCK refuses of a write from 0x040 up is all of it. -/
theorem State.writeReg_refused {s : State} {v : Path} {pg off : Nat} (data : Nat) (hd : s.deaf v = false) (himpl : implemented pg off = true)
    (hoff : 0x040 ≤ off) (hl : s.locked v pg = true) : s.writeReg v pg off data = s.refuse v pg := by
  rw [State.writeReg_of_ne _ (by omega), State.access, hd, himpl, State.refuses_of_locked data himpl hoff hl, if_neg (by decide), if_pos rfl,
    if_neg (by omega)]

/-- R117: over the management port DENIED shows a refusal. -/
theorem State.refuse_denied (s : State) (pg : Nat) : (s.refuse .mgmt pg).rd Reg.MGT.STAT_DENIED = 1 := State.rd_wr_same _ _ _

/-! ## SCRATCH (R115) -/

theorem fieldsAt_scratch : ∀ {pg : Nat}, (blockOf pg).isSome = true → fieldsAt pg 0x030 = [⟨31, 0, .rw, 0, 0, 0xFFFFFFFF⟩] := by
  intro pg h
  obtain ⟨b, hb⟩ := Option.isSome_iff_exists.1 h
  have hrows : ∀ b : Block, findRow headerRows 0x030 ++ findRow b.rows 0x030 = [⟨31, 0, .rw, 0, 0, 0xFFFFFFFF⟩] := by
    intro b
    cases b <;> decide
  rw [fieldsAt, hb]
  exact hrows b

theorem blockEffect_scratch (v : Path) (b : Block) (pg : Nat) : blockEffect v b pg 0x030 = .none := by
  cases b <;> rfl

/-- A write to SCRATCH is taken whatever LOCK says. -/
theorem State.writeReg_scratch {s : State} {v : Path} {pg : Nat} (data : Nat) (hd : s.deaf v = false) (hpg : (blockOf pg).isSome = true) :
    s.writeReg v pg 0x030 data = s.wr (Reg.SCRATCH pg) (bits data 31 0) := by
  have himpl := implemented_header (off := 0x030) hpg (by decide)
  have hfree : s.refuses v pg 0x030 data = false := by simp [State.refuses]
  have heff : effectOf v pg 0x030 data s = s.writeFields pg 0x030 data := by
    obtain ⟨b, hb⟩ := Option.isSome_iff_exists.1 hpg
    simp [effectOf, hb, headerEffect, blockEffect_scratch]
  have hbits : bits data 31 0 ≤ 0xFFFFFFFF := by
    unfold bits
    omega
  rw [State.writeReg_of_ne _ (by decide), State.access_done _ _ _ _ _ _ hd himpl hfree, heff, State.writeFields, fieldsAt_scratch hpg]
  simp [State.writeField, hbits, fieldOf, Reg.SCRATCH]

/-! ## What a write does to a culvert's sideband (R127, R128) -/

/-- What a culvert's sideband answers with. -/
def State.wiresAt (c : Nat) (s : State) : Option SbRsp × List SbRsp × Bool × Bool × Nat := (s.culv c).wires

/-- The response that a culvert's sideband sent last. -/
def State.rspAt (c : Nat) (s : State) : Option SbRsp := (s.culv c).rsp

theorem aside_wiresAt (c : Nat) : Aside (State.wiresAt c) where
  upd _ hculvs _ := by rw [State.wiresAt, State.wiresAt, State.culv, State.culv, hculvs]
  culv s k x hx := by
    rw [State.wiresAt, State.wiresAt]
    by_cases hk : k = c
    · rw [← hk, State.culv_setCulv_same, hx]
    · rw [State.culv_setCulv_ne _ _ _ _ hk]

/-- What is read from a sideband's answers alone is read aside. -/
theorem aside_rspAt (c : Nat) : Aside (State.rspAt c) where
  upd hmgmt hculvs hidle := congrArg Prod.fst ((aside_wiresAt c).upd hmgmt hculvs hidle)
  culv s k x hx := congrArg Prod.fst ((aside_wiresAt c).culv s k x hx)

/-- What starting, stopping and moving its culvert keep, a CTRL write keeps after its bits are written. -/
theorem State.ctrlActs_keeps {α : Type} {get : State → α} {c : Nat} (hto : ∀ u st, get (State.culvTo u c st) = get u)
    (hstart : ∀ u, get (State.culvStart u c) = get u) (hstop : ∀ u, get (State.culvStop u c) = get u)
    (u : State) (was loopWas is retrain : Bool) (st : Nat) : get (u.ctrlActs c was loopWas is retrain st) = get u := by
  unfold State.ctrlActs
  split
  · split
    · split
      · exact hstart u
      · rfl
    · split
      · exact hto u 8
      · rfl
  · split
    · exact hto u 6
    · rfl
  · rfl
  · split
    · exact hstop u
    · split
      · exact hstart u
      · rfl
  · rfl
  · split
    · rfl
    · exact hstop u

theorem State.wiresAt_setCulv_ne {k c : Nat} (h : k ≠ c) (s : State) (x : Culv) : State.wiresAt c (s.setCulv k x) = State.wiresAt c s :=
  congrArg Culv.wires (s.culv_setCulv_ne k x c h)

/-- A write of another culvert's CTRL leaves a sideband as it is. -/
theorem State.wrClvCtrl_wiresAt_ne {k c : Nat} (hk : k < 8) (h : k ≠ c) (data : Nat) (s : State) :
    State.wiresAt c (s.wrClvCtrl k data) = State.wiresAt c s := by
  have hto := State.culvTo_aside (aside_wiresAt c)
  rw [s.wrClvCtrl_eq hk]
  exact (State.ctrlActs_keeps (fun u st => hto u k st) (fun u => (State.wiresAt_setCulv_ne h _ _).trans (hto u k 1))
    (fun u => (State.wiresAt_setCulv_ne h _ _).trans (hto u k 0)) _ _ _ _ _ _).trans (State.writeFields_aside (aside_wiresAt c) s _ _ _)

theorem State.setCulv_rspAt (s : State) {k : Nat} {x : Culv} (h : x.rsp = (s.culv k).rsp) (c : Nat) :
    State.rspAt c (s.setCulv k x) = State.rspAt c s := by
  rw [State.rspAt, State.rspAt]
  by_cases hk : k = c
  · rw [← hk, State.culv_setCulv_same, h]
  · rw [State.culv_setCulv_ne _ _ _ _ hk]

theorem State.wrClvCtrl_rspAt {k : Nat} (hk : k < 8) (c data : Nat) (s : State) : State.rspAt c (s.wrClvCtrl k data) = State.rspAt c s := by
  have hto := State.culvTo_aside (aside_rspAt c)
  rw [s.wrClvCtrl_eq hk]
  have hstart : ∀ u : State, State.rspAt c (u.culvStart k) = State.rspAt c (u.culvTo k 1) := fun u => State.setCulv_rspAt _ (by rfl) c
  have hstop : ∀ u : State, State.rspAt c (u.culvStop k) = State.rspAt c (u.culvTo k 0) := fun u => State.setCulv_rspAt _ (by rfl) c
  exact (State.ctrlActs_keeps (fun u st => hto u k st) (fun u => (hstart u).trans (hto u k 1)) (fun u => (hstop u).trans (hto u k 0))
    _ _ _ _ _ _).trans (State.writeFields_aside (aside_rspAt c) s _ _ _)

theorem clv_lt {pg : Nat} (h : blockOf pg = some .clv) : pg - 0x020 < 8 := by
  by_contra hge
  have hout : ¬ (0x020 ≤ pg ∧ pg ≤ 0x027) := by omega
  simp only [blockOf, if_neg hout] at h
  (repeat' split at h) <;> exact nomatch h

/-- No write changes the response that a sideband sent last. -/
theorem State.writeAddr_rspAt (c : Nat) (s : State) (v : Path) (a d : Nat) : State.rspAt c (s.writeAddr v a d) = State.rspAt c s :=
  State.writeAddr_aside (aside_rspAt c) s v a d fun hclv _ d s => State.wrClvCtrl_rspAt (clv_lt hclv) c d s

/-! ## A state that holds other requests of a sideband

Which requests wait on a culvert's sideband decides nothing but their own order: a state in which others wait reads and answers alike. -/

/-- The state in which other requests of a culvert wait for the control-space port. -/
def State.holding (s : State) (c : Nat) (l : List SbReq) : State := s.setCulv c { s.culv c with held := l }

theorem State.holding_culv (s : State) (c k : Nat) (l : List SbReq) : ∃ m, (s.holding c l).culv k = { s.culv k with held := m } := by
  by_cases hk : c = k
  · exact ⟨l, by rw [State.holding, ← hk, State.culv_setCulv_same]⟩
  · exact ⟨(s.culv k).held, State.culv_setCulv_ne _ _ _ _ hk⟩

theorem State.holding_wiresAt (s : State) (c : Nat) (l : List SbReq) : State.wiresAt c (s.holding c l) = State.wiresAt c s :=
  (aside_wiresAt c).culv s c _ rfl

theorem State.holding_holding (s : State) (c : Nat) (l m : List SbReq) : (s.holding c l).holding c m = s.holding c m := by
  rw [State.holding, State.holding, State.culv_setCulv_same]
  exact congrArg (fun culvs => { s with culvs := culvs }) (Tab.write_write _ _ _ _ _)

theorem State.holding_view (s : State) (c : Nat) (l : List SbReq) (pg off : Nat) : (s.holding c l).view pg off = s.view pg off := by
  have hclv : ∀ k, (s.holding c l).viewClv k off = s.viewClv k off := by
    intro k
    obtain ⟨m, hm⟩ := s.holding_culv c k l
    rw [State.viewClv, hm]
    rfl
  unfold State.view
  cases blockOf pg with
  | none => rfl
  | some b =>
    cases b with
    | clv => rw [hclv]; rfl
    | _ => rfl

theorem State.holding_readWord (s : State) (c : Nat) (l : List SbReq) (v : Path) (a : Nat) :
    ((s.holding c l).readWord v a).1 = (s.readWord v a).1 := by
  have hvalue : ∀ pg off, (s.holding c l).regValue pg off = s.regValue pg off := fun pg off => by
    rw [State.regValue, State.holding_view]
    rfl
  have hsample : ∀ pg g, (s.holding c l).sample pg g = s.sample pg g := fun pg g => by
    simp only [State.sample, hvalue]
  have hpath : (s.holding c l).path v = s.path v := rfl
  simp only [State.readWord, hvalue, hsample, hpath]
  cases blockOf (a / 0x1000 % 1024) with
  | none => rfl
  | some b =>
    dsimp only
    cases groupOf b (a % 0x1000 / 4 * 4) with
    | none => rfl
    | some g =>
      dsimp only
      split
      · rfl
      · split <;> rfl

/-- A culvert that starts training has lost its waiting responses, and its sideband stands. -/
theorem State.culvStart_wiresAt (u : State) (c : Nat) : State.wiresAt c (u.culvStart c) =
    ((u.culv c).rsp, [], (u.culv c).identOk && u.culvState c != 0, false, (u.culv c).sbFree) := by
  rw [State.wiresAt, State.culvStart, State.setCulv_culv_same, State.culvTo_culv_same]
  rfl

theorem State.culvStop_wiresAt (u : State) (c : Nat) : State.wiresAt c (u.culvStop c) =
    ((u.culv c).rsp, [], false, false, (u.culv c).sbFree) := by
  rw [State.wiresAt, State.culvStop, State.setCulv_culv_same, State.culvTo_culv_same]
  rfl

/-- A CTRL written does alike to two states that differ in nothing it looks at. -/
theorem State.ctrlActs_wiresAt_congr {u t : State} {c : Nat} (hstep : u.stepNo = t.stepNo)
    (hloop : u.flag (Reg.CLV.CTRL_LOOP c) = t.flag (Reg.CLV.CTRL_LOOP c)) (hst : u.culvState c = t.culvState c)
    (hwires : State.wiresAt c u = State.wiresAt c t) (was loopWas is retrain : Bool) (st : Nat) :
    State.wiresAt c (u.ctrlActs c was loopWas is retrain st) = State.wiresAt c (t.ctrlActs c was loopWas is retrain st) := by
  have hfields := hwires
  simp only [State.wiresAt, Culv.wires, Prod.mk.injEq] at hfields
  obtain ⟨hrsp, -, hident, -, hfree⟩ := hfields
  have hto : ∀ n, State.wiresAt c (u.culvTo c n) = State.wiresAt c (t.culvTo c n) := fun n =>
    (State.culvTo_aside (aside_wiresAt c) u c n).trans (hwires.trans (State.culvTo_aside (aside_wiresAt c) t c n).symm)
  have hstart : State.wiresAt c (u.culvStart c) = State.wiresAt c (t.culvStart c) := by
    rw [State.culvStart_wiresAt, State.culvStart_wiresAt, hrsp, hident, hst, hfree]
  have hstop : State.wiresAt c (u.culvStop c) = State.wiresAt c (t.culvStop c) := by
    rw [State.culvStop_wiresAt, State.culvStop_wiresAt, hrsp, hfree]
  unfold State.ctrlActs State.startLoop
  rw [hstep, hloop]
  split <;> simp only [apply_ite (State.wiresAt c), hto, hstart, hstop, hwires]

theorem State.wrClvCtrl_holding_wiresAt (s : State) {c : Nat} (hc : c < 8) (l : List SbReq) (d : Nat) :
    State.wiresAt c ((s.holding c l).wrClvCtrl c d) = State.wiresAt c (s.wrClvCtrl c d) := by
  rw [State.wrClvCtrl_eq _ hc, State.wrClvCtrl_eq _ hc]
  refine State.ctrlActs_wiresAt_congr ?_ ?_ ?_ ?_ _ _ _ _ _
  · rw [State.ctrlWritten_stepNo, State.ctrlWritten_stepNo]
    rfl
  · rw [State.flag, State.flag, State.ctrlWritten_loop _ hc, State.ctrlWritten_loop _ hc]
  · rw [State.ctrlWritten_culvState, State.ctrlWritten_culvState]
    rfl
  · exact (State.writeFields_aside (aside_wiresAt c) _ _ _ _).trans
      ((s.holding_wiresAt c l).trans (State.writeFields_aside (aside_wiresAt c) _ _ _ _).symm)

theorem State.access_holding_wiresAt (s : State) (c : Nat) (l : List SbReq) (v : Path) (pg off data : Nat) {eff : Nat → State → State}
    (heff : ∀ d, State.wiresAt c (eff d (s.holding c l)) = State.wiresAt c (eff d s)) :
    State.wiresAt c ((s.holding c l).access v pg off data eff) = State.wiresAt c (s.access v pg off data eff) := by
  have hdeaf : (s.holding c l).deaf v = s.deaf v := by cases v <;> rfl
  have hrefuses : (s.holding c l).refuses v pg off data = s.refuses v pg off data := rfl
  have hstored : (s.holding c l).stored pg 0x004 = s.stored pg 0x004 := rfl
  simp only [State.access, hdeaf, hrefuses, hstored, apply_ite (State.wiresAt c), State.refuse_aside (aside_wiresAt c), heff, State.holding_wiresAt]

theorem effectOf_clvCtrl {v : Path} {pg : Nat} (hclv : blockOf pg = some .clv) : effectOf v pg 0x004 = State.wrClvCtrl (pg - 0x020) := by
  rw [effectOf_ctrl hclv]
  rfl

/-- A write does alike to a sideband, whatever requests wait on it. -/
theorem State.writeAddr_holding_wiresAt (s : State) {c : Nat} (hc : c < 8) (l : List SbReq) (v : Path) (a d : Nat) :
    State.wiresAt c ((s.holding c l).writeAddr v a d) = State.wiresAt c (s.writeAddr v a d) := by
  by_cases hctrl : blockOf (pageOfAddr a) = some .clv ∧ offOfAddr a = 0x004 ∧ pageOfAddr a - 0x020 = c
  · obtain ⟨hclv, hoff, hpg⟩ := hctrl
    rw [State.writeAddr, State.writeAddr, hoff, State.writeReg_of_ne _ (by decide), State.writeReg_of_ne _ (by decide), effectOf_clvCtrl hclv, hpg]
    exact s.access_holding_wiresAt c l v _ _ _ (s.wrClvCtrl_holding_wiresAt hc l)
  · have hkeep : ∀ t : State, State.wiresAt c (t.writeAddr v a d) = State.wiresAt c t := fun t =>
      State.writeAddr_aside (aside_wiresAt c) t v a d fun hclv hoff d u =>
        State.wrClvCtrl_wiresAt_ne (clv_lt hclv) (fun hpg => hctrl ⟨hclv, hoff, hpg⟩) d u
    rw [hkeep, hkeep, State.holding_wiresAt]

/-! ## The response that a sideband shows (R122, R127) -/

/-- The response a sideband shows once a request has been answered with `r`. -/
def Culv.answered (x : Culv) (time : Nat) (r : SbRsp) : Option SbRsp :=
  if x.identOk && x.clockOk && decide (x.sbFree ≤ time) then some (x.answers.headD r) else x.rsp

theorem Culv.answered_congr {x y : Culv} (h : x.wires = y.wires) (time : Nat) (r : SbRsp) : x.answered time r = y.answered time r := by
  simp only [Culv.wires, Prod.mk.injEq] at h
  obtain ⟨hrsp, hanswers, hident, hclock, hfree⟩ := h
  rw [Culv.answered, Culv.answered, hrsp, hanswers, hident, hclock, hfree]

/-- What a sideband shows of a response does not depend on the address in it. -/
theorem Culv.answered_map {β : Type} (f : SbRsp → β) (x : Culv) (time : Nat) {r r' : SbRsp} (h : f r = f r') :
    (x.answered time r).map f = (x.answered time r').map f := by
  unfold Culv.answered
  split
  · cases x.answers with
    | nil => exact congrArg some h
    | cons a l => rfl
  · rfl

theorem State.sbSend_rspAt_ne {k c : Nat} (h : k ≠ c) (s : State) : State.rspAt c (s.sbSend k) = State.rspAt c s := by
  simp only [State.sbSend]
  split
  · rfl
  · split
    · exact congrArg Culv.rsp (s.culv_setCulv_ne _ _ _ h)
    · rfl

theorem State.sbAnswer_rspAt_ne {k c : Nat} (h : k ≠ c) (s : State) (r : SbRsp) : State.rspAt c (s.sbAnswer k r) = State.rspAt c s := by
  simp only [State.sbAnswer]
  split
  · exact (State.sbSend_rspAt_ne h _).trans (congrArg Culv.rsp (State.culv_setCulv_ne _ _ _ _ h))
  · rfl

theorem State.sbSend_rspAt {s : State} {c : Nat} {r : SbRsp} {l : List SbRsp} (h : (s.culv c).answers = r :: l) :
    State.rspAt c (s.sbSend c) = if s.sidebandOpen c && decide ((s.culv c).sbFree ≤ s.time) then some r else (s.culv c).rsp := by
  simp only [State.sbSend, h]
  split
  · exact congrArg Culv.rsp (s.culv_setCulv_same c _)
  · rfl

theorem State.sbAnswer_rspAt (s : State) (c : Nat) (r : SbRsp) : State.rspAt c (s.sbAnswer c r) = (s.culv c).answered s.time r := by
  have hopen : (s.bump Reg.GLB.SB_REQ_CNT).sidebandOpen c = ((s.culv c).identOk && (s.culv c).clockOk) := rfl
  simp only [State.sbAnswer, hopen]
  split
  · next h =>
    generalize hu : (s.bump Reg.GLB.SB_REQ_CNT).setCulv c _ = u
    have hculv : u.culv c = { s.culv c with answers := (s.culv c).answers ++ [r] } := by
      rw [← hu, State.culv_setCulv_same]
      rfl
    have htime : u.time = s.time := by
      rw [← hu]
      rfl
    obtain ⟨l, hl⟩ : ∃ l, (s.culv c).answers ++ [r] = (s.culv c).answers.headD r :: l := by
      cases (s.culv c).answers with
      | nil => exact ⟨[], rfl⟩
      | cons a l => exact ⟨l ++ [r], rfl⟩
    rw [State.sbSend_rspAt (l := l) (by rw [hculv]; exact hl), Culv.answered, State.sidebandOpen, htime, hculv]
  · next h =>
    rw [Culv.answered, if_neg (by simp [h])]
    rfl

theorem State.readWord_paths (s : State) (v : Path) (a : Nat) : (s.readWord v a).2 = { s with paths := (s.readWord v a).2.paths } := by
  simp only [State.readWord]
  split
  · rfl
  · split
    · rfl
    · split
      · rfl
      · split <;> rfl

theorem State.readWord_culv (s : State) (v : Path) (a c : Nat) : (s.readWord v a).2.culv c = s.culv c := by
  rw [State.readWord_paths]
  rfl

theorem State.readWord_time (s : State) (v : Path) (a : Nat) : (s.readWord v a).2.time = s.time := by
  rw [State.readWord_paths]
  rfl

theorem State.writeAddr_time (s : State) (v : Path) (a d : Nat) : (s.writeAddr v a d).time = s.time := by
  have hstill := s.writeAddr_still v a d
  simp only [State.still, Prod.mk.injEq] at hstill
  obtain ⟨-, -, -, -, -, -, helapsed, hcycle⟩ := hstill
  rw [State.time, State.time, State.absCycle, State.absCycle, helapsed, hcycle, State.idle_of_calm (s.writeAddr_calm v a d)]

theorem State.performSb_read_rspAt (s : State) (c : Fin 8) {q : SbReq} (hq : q.write = false) : State.rspAt c.val (s.performSb c q) =
    (s.culv c.val).answered s.time ⟨false, q.tag, q.addr % 2 ^ 22, (s.readWord (.sb c) q.addr).1, sbStatus q.addr false⟩ := by
  simp only [State.performSb, hq, Bool.false_eq_true, if_false]
  rw [State.sbAnswer_rspAt, State.readWord_culv, State.readWord_time]

theorem State.performSb_write_rspAt (s : State) (c : Fin 8) {q : SbReq} (hq : q.write = true) : State.rspAt c.val (s.performSb c q) =
    ((s.writeAddr (.sb c) q.addr q.data.toNat).culv c.val).answered s.time
      ⟨true, q.tag, q.addr % 2 ^ 22, 0, sbStatus q.addr (s.writeRefused (.sb c) q.addr q.data.toNat)⟩ := by
  simp only [State.performSb, hq, if_true]
  rw [State.sbAnswer_rspAt, State.writeAddr_time]

/-- A request is answered alike, whatever other requests wait behind it. -/
theorem State.performSb_holding_rspAt (s : State) (c : Fin 8) (l : List SbReq) (q : SbReq) :
    State.rspAt c.val ((s.holding c.val l).performSb c q) = State.rspAt c.val (s.performSb c q) := by
  have htime : (s.holding c.val l).time = s.time := rfl
  cases hq : q.write with
  | false =>
    rw [State.performSb_read_rspAt _ _ hq, State.performSb_read_rspAt _ _ hq, State.holding_readWord, htime]
    exact Culv.answered_congr (s.holding_wiresAt c.val l) _ _
  | true =>
    have hrefused : (s.holding c.val l).writeRefused (.sb c) q.addr q.data.toNat = s.writeRefused (.sb c) q.addr q.data.toNat := rfl
    rw [State.performSb_write_rspAt _ _ hq, State.performSb_write_rspAt _ _ hq, hrefused, htime]
    exact Culv.answered_congr (s.writeAddr_holding_wiresAt c.isLt l _ _ _) _ _

theorem State.performSb_rspAt_ne {k : Fin 8} {c : Nat} (h : k.val ≠ c) (s : State) (q : SbReq) :
    State.rspAt c (s.performSb k q) = State.rspAt c s := by
  simp only [State.performSb]
  split
  · exact (State.sbAnswer_rspAt_ne h _ _).trans (s.writeAddr_rspAt c _ _ _)
  · exact (State.sbAnswer_rspAt_ne h _ _).trans (congrArg Culv.rsp (s.readWord_culv _ _ _))

/-! ## The port's turn (R119) -/

theorem State.parityDue_rspAt (c : Nat) (s : State) : State.rspAt c s.parityDue = State.rspAt c s := by
  simp only [State.parityDue]
  split
  · exact (State.raise1_aside (aside_rspAt c) s (plain Err.MGT.PARITY) :)
  · rfl

theorem State.performBus_rspAt (c : Nat) (s : State) (w : BusWord) : State.rspAt c (s.performBus w) = State.rspAt c s := by
  cases w with
  | write a d => exact s.writeAddr_rspAt c .mgmt a d
  | read a n =>
    simp only [State.performBus]
    split
    · rfl
    · exact congrArg Culv.rsp (s.readWord_culv .mgmt a c)

theorem State.busNext_rspAt (c : Nat) (s : State) : State.rspAt c s.busNext = State.rspAt c s := by
  simp only [State.busNext]
  split
  · rfl
  · exact (State.parityDue_rspAt c _).trans (State.performBus_rspAt c _ _)

theorem State.serveSb_cons {s : State} {c : Fin 8} {q : SbReq} {l : List SbReq} (h : (s.culv c.val).held = q :: l) :
    s.serveSb c = (s.holding c.val l).performSb c q := by
  simp only [State.serveSb, h]
  rfl

theorem State.serveSb_rspAt_ne {k : Fin 8} {c : Nat} (h : k.val ≠ c) (s : State) : State.rspAt c (s.serveSb k) = State.rspAt c s := by
  cases hheld : (s.culv k.val).held with
  | nil =>
    simp only [State.serveSb, hheld]
  | cons q l =>
    rw [State.serveSb_cons hheld]
    exact (State.performSb_rspAt_ne h _ q).trans (congrArg Culv.rsp (s.culv_setCulv_ne _ _ _ h))

/-- Whether it is the turn of a culvert's sideband at the control-space port. -/
def State.sbTurn (s : State) (c : Fin 8) : Prop := s.port.usedAt ≠ some s.time ∧ s.mgmt.todo = [] ∧ s.nextSb = some c

theorem State.servePort_rspAt_of_turn {s : State} {c : Fin 8} (h : s.sbTurn c) : State.rspAt c.val s.servePort = State.rspAt c.val (s.serveSb c) := by
  obtain ⟨hused, htodo, hnext⟩ := h
  simp only [State.servePort, beq_iff_eq, hused, htodo, hnext, List.isEmpty_nil, Bool.not_true, Bool.false_eq_true, if_false]
  rfl

theorem State.servePort_rspAt_of_not {s : State} {c : Fin 8} (h : ¬ s.sbTurn c) : State.rspAt c.val s.servePort = State.rspAt c.val s := by
  simp only [State.servePort]
  split
  · rfl
  · next hused =>
    split
    · exact s.busNext_rspAt c.val
    · next htodo =>
      split
      · rfl
      · next k hk =>
        refine State.serveSb_rspAt_ne (fun hkc => h ⟨by simpa using hused, by simpa using htodo, ?_⟩) s
        rw [hk, Fin.ext hkc]

theorem State.holding_rspAt (s : State) (c : Nat) (l : List SbReq) : State.rspAt c (s.holding c l) = State.rspAt c s :=
  (aside_rspAt c).culv s c _ rfl

/-- Whose turn it is depends on which sidebands hold requests, and not on the requests. -/
theorem State.holding_sbTurn {s : State} {c : Nat} {l m : List SbReq} (h : l.isEmpty = m.isEmpty) (k : Fin 8) :
    (s.holding c l).sbTurn k ↔ (s.holding c m).sbTurn k := by
  have hheld : ∀ j, ((s.holding c l).culv j).held.isEmpty = ((s.holding c m).culv j).held.isEmpty := by
    intro j
    by_cases hj : c = j
    · rw [State.holding, State.holding, ← hj, State.culv_setCulv_same, State.culv_setCulv_same]
      exact h
    · rw [State.holding, State.holding, State.culv_setCulv_ne _ _ _ _ hj, State.culv_setCulv_ne _ _ _ _ hj]
  have hnext : (s.holding c l).nextSb = (s.holding c m).nextSb := by
    simp only [State.nextSb, hheld]
    rfl
  rw [State.sbTurn, State.sbTurn, hnext]
  rfl

/-- Two requests that would be answered alike at once show alike when one of them is taken. -/
theorem State.takeRequest_rspAt_map {β : Type} (f : SbRsp → β) {q q' : SbReq} (c : Fin 8)
    (h : ∀ u : State, (State.rspAt c.val (u.performSb c q)).map f = (State.rspAt c.val (u.performSb c q')).map f) (s : State) :
    (State.rspAt c.val (s.takeRequest c q)).map f = (State.rspAt c.val (s.takeRequest c q')).map f := by
  have hturn : (State.rspAt c.val (s.holding c.val ((s.culv c.val).held ++ [q])).servePort).map f =
      (State.rspAt c.val (s.holding c.val ((s.culv c.val).held ++ [q'])).servePort).map f := by
    have hempty : ∀ p, ((s.culv c.val).held ++ [p]).isEmpty = false := fun p => by cases (s.culv c.val).held <;> rfl
    have hsame := State.holding_sbTurn (s := s) (c := c.val) (l := (s.culv c.val).held ++ [q]) (m := (s.culv c.val).held ++ [q'])
      ((hempty q).trans (hempty q').symm) c
    by_cases ht : (s.holding c.val ((s.culv c.val).held ++ [q])).sbTurn c
    · rw [State.servePort_rspAt_of_turn ht, State.servePort_rspAt_of_turn (hsame.1 ht)]
      cases hheld : (s.culv c.val).held with
      | nil =>
        rw [State.serveSb_cons (congrArg Culv.held (s.culv_setCulv_same c.val _)), State.serveSb_cons (congrArg Culv.held (s.culv_setCulv_same c.val _)),
          State.holding_holding, State.holding_holding]
        exact h _
      | cons p l =>
        rw [State.serveSb_cons (congrArg Culv.held (s.culv_setCulv_same c.val _)), State.serveSb_cons (congrArg Culv.held (s.culv_setCulv_same c.val _))]
        simp only [State.performSb_holding_rspAt]
    · rw [State.servePort_rspAt_of_not ht, State.servePort_rspAt_of_not fun h => ht (hsame.2 h), State.holding_rspAt, State.holding_rspAt]
  simp only [State.takeRequest]
  split
  · rfl
  · split
    · rfl
    · split
      · rfl
      · split
        · exact h s
        · exact hturn

/-- R103 on a sideband: a read is answered with the word that its address lies in. -/
theorem exec_rdReq_word (s : State) (c : Fin 8) (tag : Byte) (a : Nat) :
    ∃ t u, exec (.rdReq c tag a) s = .next t ∧ exec (.rdReq c tag (a / 4 * 4)) s = .next u ∧
      ((t.culv c.val).rsp.map fun r => (r.data, r.status)) = (u.culv c.val).rsp.map fun r => (r.data, r.status) := by
  refine ⟨_, _, rfl, rfl, State.takeRequest_rspAt_map (fun r => (r.data, r.status)) c (fun u => ?_) s⟩
  rw [State.performSb_read_rspAt _ _ rfl, State.performSb_read_rspAt _ _ rfl]
  refine Culv.answered_map _ _ _ ?_
  dsimp only
  rw [State.readWord_word, sbStatus, sbStatus, pageOfAddr_word]

theorem State.sbAnswer_frame (s : State) (c : Nat) (r : SbRsp) :
    s.sbAnswer c r = { s.bump Reg.GLB.SB_REQ_CNT with culvs := (s.sbAnswer c r).culvs } := by
  simp only [State.sbAnswer, State.sbSend]
  split
  · split
    · rfl
    · split <;> rfl
  · rfl

/-- R125: a request that LOCK refuses is answered LOCKED on a free sideband, and no more. -/
theorem State.takeRequest_refused {s : State} {c : Fin 8} (tag : Byte) {a : Nat} (d : Word) (hh : s.held = false)
    (hopen : s.sidebandOpen c.val = true) (hport : s.portIdle = true) (hidle : s.sbIdle c.val = true)
    (himpl : implemented (pageOfAddr a) (offOfAddr a) = true) (hoff : 0x040 ≤ offOfAddr a) (hl : s.locked (.sb c) (pageOfAddr a) = true) :
    ∃ culvs, s.takeRequest c ⟨true, tag, a, d⟩ =
        { (s.bump (Reg.LOCK_DENIED (pageOfAddr a))).bump Reg.GLB.SB_REQ_CNT with culvs := culvs, port := ⟨some s.time, c.val⟩ } ∧
      State.rspAt c.val (s.takeRequest c ⟨true, tag, a, d⟩) = some ⟨true, tag, a % 2 ^ 22, 0, 1⟩ := by
  obtain ⟨hanswers, hfree⟩ : (s.culv c.val).answers = [] ∧ (s.culv c.val).sbFree ≤ s.time := by
    simpa [State.sbIdle] using hidle
  have hheld : (s.culv c.val).held = [] := by
    have hall := (Bool.and_eq_true_iff.1 hport).2
    rw [List.all_eq_true] at hall
    exact List.isEmpty_iff.1 (hall c.val (List.mem_range.2 c.isLt))
  have htake : s.takeRequest c ⟨true, tag, a, d⟩ = { s.performSb c ⟨true, tag, a, d⟩ with port := ⟨some s.time, c.val⟩ } := by
    simp only [State.takeRequest, hh, hopen, hheld, hanswers, hport]
    rfl
  have hwrite : s.writeAddr (.sb c) a d.toNat = s.bump (Reg.LOCK_DENIED (pageOfAddr a)) :=
    State.writeReg_refused d.toNat hh himpl hoff hl
  have hrefused : s.writeRefused (.sb c) a d.toNat = true := by
    simp only [State.writeRefused, if_neg (show offOfAddr a ≠ 0x034 by omega)]
    exact State.refuses_of_locked d.toNat himpl hoff hl
  have hstatus : sbStatus a true = 1 := by
    rw [sbStatus, Option.isNone_eq_false_iff.2 (isSome_of_implemented himpl)]
    rfl
  have hperform : s.performSb c ⟨true, tag, a, d⟩ =
      (s.bump (Reg.LOCK_DENIED (pageOfAddr a))).sbAnswer c.val ⟨true, tag, a % 2 ^ 22, 0, 1⟩ := by
    simp only [State.performSb, if_true, hwrite, hrefused, hstatus]
  obtain ⟨hident, hclock⟩ := Bool.and_eq_true_iff.1 hopen
  rw [htake]
  refine ⟨((s.bump (Reg.LOCK_DENIED (pageOfAddr a))).sbAnswer c.val ⟨true, tag, a % 2 ^ 22, 0, 1⟩).culvs, ?_, ?_⟩
  · rw [hperform, State.sbAnswer_frame]
  · show State.rspAt c.val (s.performSb c ⟨true, tag, a, d⟩) = _
    rw [hperform, State.sbAnswer_rspAt]
    show (s.culv c.val).answered s.time _ = _
    rw [Culv.answered, hident, hclock, hanswers, decide_eq_true hfree]
    rfl

/-- Settles O11: each write goes by its page and its offset, and what a sideband shows does not depend on the requests that wait on it. -/
theorem registerWrites : Obligations.RegisterWrites := by
  refine ⟨fun s via a d => ?_, exec_sampleRead_word, fun s c tag a _ _ => exec_rdReq_word s c tag a, fun s via a d himpl => ?_,
    fun s via pg d hd hpg hlt => ?_, fun s via a d hd => ⟨?_, ?_⟩, fun s via a d hd himpl hoff hl => ?_,
    fun s c tag a d hh hopen hport hidle himpl hoff hl => ?_⟩
  · exact congrArg Host.Outcome.next (s.writeAddr_word via a d.toNat).symm
  · exact congrArg Host.Outcome.next (State.writeReg_unimplemented d.toNat himpl)
  · have hwrite : s.writeAddr via (pg * 0x1000 + 0x030) d.toNat = s.wr (Reg.SCRATCH pg) d.toNat := by
      have hpage : pageOfAddr (pg * 0x1000 + 0x030) = pg := by
        unfold pageOfAddr
        omega
      have hoff : offOfAddr (pg * 0x1000 + 0x030) = 0x030 := by
        unfold offOfAddr
        omega
      have hbits : bits d.toNat 31 0 = d.toNat := by
        have := d.isLt
        unfold bits
        omega
      rw [State.writeAddr, hpage, hoff, State.writeReg_scratch _ hd hpg, hbits]
    refine ⟨_, congrArg Host.Outcome.next hwrite, ?_, fun g hg => s.rd_wr_ne _ (hg _ List.mem_cons_self), rfl⟩
    exact (s.rd_wr_same _ _).trans (Nat.mod_eq_of_lt d.isLt)
  · exact congrArg Host.Outcome.next (State.writeReg_deaf _ _ _ hd)
  · exact congrArg Host.Outcome.next (if_pos hd)
  · obtain ⟨hden, hsame, hregs⟩ := s.refuse_frame via (pageOfAddr a)
    refine ⟨_, congrArg Host.Outcome.next (State.writeReg_refused d.toNat hd himpl hoff hl), hden, fun hvia => ?_, fun hvia => ?_, hsame, hregs⟩
    · rw [hvia, State.refuse_denied]
    · cases via with
      | mgmt => exact absurd rfl hvia
      | sb c => exact fun g hg => s.rd_bump_ne (hg _ List.mem_cons_self)
  · obtain ⟨culvs, htake, hrsp⟩ := State.takeRequest_refused tag d hh hopen hport hidle himpl hoff hl
    refine ⟨_, congrArg Host.Outcome.next htake, ?_, fun g hg => ?_, rfl⟩
    · rw [htake] at hrsp
      exact hrsp
    · exact (State.rd_bump_ne _ (hg _ (by simp))).trans (s.rd_bump_ne (hg _ (by simp)))

end Sys2Proof.Machine
end
